-- ==== Sys2Proof/Word.lean ====
section
/-!
DEFINITION. The word and byte types (R5).
-/
namespace Sys2Proof

/-- A register word: 32 bits, bit 0 the least significant (R5). -/
abbrev Word := BitVec 32

/-- A byte of a memory (R5). -/
abbrev Byte := BitVec 8

end Sys2Proof
end

