-- ==== Sys2Proof/Syntax.lean ====
section
/-!
DEFINITION. The commands of the engine: one constructor for each row of the opcode table, and the types of their operands.
-/
namespace Sys2Proof

/-- Who makes a register access (R6, R476): the PCIe host, a control core, or an engine of the ring. -/
inductive Master where
  | host
  | core (k : Nat)
  | ring (eid : Nat)
deriving DecidableEq, Repr

/-- RMS phase currents over one electrical period, in mA (R388). -/
structure Rms where
  u : Nat
  v : Nat
  w : Nat
deriving DecidableEq, Repr

/-- What one PWM period's sampling and estimators give the controller (R377 to R385): the sampled currents on the d and q
axes in mA, the magnitude of the voltage vector in mV, whether an edge-free or shifted window opened, whether injection
and observer agree within 15°, and the axis's link draw in W. -/
structure CurrentSample where
  idMa : Int
  iqMa : Int
  vMv : Nat
  window : Bool
  agree : Bool
  drawW : Int
deriving DecidableEq, Repr

/-- The ID handshake's measurements on one set of pin positions (R325): VPP to ground, VPP to the logic supply and TSR in
ohms, and the forward drop at HM_SDA in mV; none where the measurement is open. -/
structure Pins where
  vppGnd : Option Nat := none
  vppLogic : Option Nat := none
  tsr : Option Nat := none
  hm : Option Nat := none
deriving DecidableEq, Repr

/-- What the tests of Dawn find (R59): position inputs whose decoders differ, lane engines that fail their self-test, the
handshake of each tile on its pins and the mirrored ones (unlisted: all open), the switches of each axis whose feedback was
wrong, and the two offset measurements of phases U and V of each axis in LSB. -/
structure DawnTests where
  differ : List Nat := []
  badLanes : List Nat := []
  pins : List (Nat × Pins × Pins) := []
  gates : List (Nat × List Nat) := []
  offsets : List (Nat × (Int × Int) × (Int × Int)) := []
deriving DecidableEq, Repr

/-- A ring packet (R297): its header fields and payload bytes. -/
structure RingPkt where
  type : Nat
  vc : Nat
  src : Nat
  dst : Nat := 0
  seq : Nat := 0
  rtag : Nat := 0
  age : Nat := 0
  status : Nat := 0
  addr : Nat := 0
  len : Nat := 0
  bcast : Bool := false
  dual : Bool := false
  looped : Bool := false
  payload : List Nat := []
deriving DecidableEq, Repr

/-- What the converters measure of one quad rail in a broker step (R346, R366): the quad, its output in mV, its average and
its 1 ms power in W, and whether its current is limited. -/
structure RailMeas where
  quad : Nat
  mv : Nat
  avgW : Nat
  stepW : Nat
  limited : Bool := false
deriving DecidableEq, Repr

/-- What the power block measures for a broker step (R344, R351, R352, R356, R366): V of R344 in 0.1 V, the mains frequency
in 0.01 Hz, the link voltage in 0.1 V, the head, logic, motor and input draws in W, the store's energy in J and voltage in
10 mV, the DC input's voltage in 10 mV, and the rails. -/
structure BrokerMeas where
  vrms : Nat
  freq : Nat
  link : Nat
  headW : Nat
  logicW : Nat
  motorW : Int
  inputW : Nat
  storeJ : Nat
  storeV : Nat
  dcV : Int
  rails : List RailMeas := []
deriving DecidableEq, Repr

/-- A telemetry record (R323), and whether the tile echoes TRAIN (R326). -/
structure Telemetry where
  rseq : Nat
  vpp : Nat
  ipp : Nat
  v33 : Nat
  lastTag : Nat
  dropped : Bool := false
  openValid : Bool := false
  crcErr : Bool := false
  empty : Bool := false
  openNozzle : Nat := 0
  echo : Bool := false
deriving DecidableEq, Repr

/-- What link training and the host's configuration settle (R40, R259, R263, R293): the speed and width codes, 0 5-bit, 1
Extended or 2 10-bit tags, Phantom Functions, Enable No Snoop, Max Read Request Size in bytes and the completion timeout in
µs. -/
structure HostCfg where
  speed : Nat
  width : Nat
  tags : Nat
  phantom : Bool
  noSnoop : Bool
  mrrs : Nat
  ctoUs : Nat
deriving DecidableEq, Repr

/-- Who was reading the word with an uncorrectable error (R460): a DMA chunk of a stream at an offset of its transfer, a BAR4
or alias read, a composer, a staging queue of a stream, the check of an image, a calibration record's copy (B when true), or
another reader of NV. -/
inductive EccReader where
  | dma (stream off : Nat)
  | bar
  | composer
  | queue (stream off : Nat)
  | image
  | calCopy (b : Bool) (record : Nat)
  | other
deriving DecidableEq, Repr

/-- The commands: one constructor for each row of the opcode table, in its order. The first operand `t` of every
command is the instant at which it happens, in units of 250 ps (R20, R22); the other operands are what the row's rules
let the sender of the command fix. -/
inductive Instr where
  /-- REGISTER_WRITE (R9): A host or master write to a register or field that has no row of its own, applied under its access code. -/
  | registerWrite (t : Nat) (m : Master) (off : Nat) (data : List Nat) (x : DawnTests)
  /-- LO_READ_SNAPSHOT (R6): A read of a _LO register returns the low half and captures the high half into the reading master's snapshot. -/
  | loReadSnapshot (t : Nat) (m : Master) (off n : Nat)
  /-- HI_WRITE_PAIR (R7): A write of the _HI half of a writable 64-bit pair applies both halves together, using the master's last _LO value. -/
  | hiWritePair (t : Nat) (m : Master) (off : Nat) (v : Word)
  /-- RC_READ (R10): A read of an RC field returns its value and then clears it, keeping any amount added in the same clock. -/
  | rcRead (t : Nat) (m : Master) (off n : Nat)
  /-- MAINS_APPLIED (R55): Mains is applied to an unpowered module and the power-up sequence of precharge, PFC, logic and boot starts. -/
  | mainsApplied (t straps : Nat) (dc clockOk : Bool)
  /-- FIRMWARE_CHECK_COMPLETE (R57): The boot ROM finishes the CRC check of the firmware slots; if both slots fail, the engine raises SYS_BOOT_FAIL and enters Midnight with cause 0x10. -/
  | firmwareCheckComplete (t : Nat) (a b : Bool)
  /-- BOOT_SEQUENCE_COMPLETE (R55): Form-store training, lane-die release and decoder start end, and the engine enters Night and starts charging the store. -/
  | bootSequenceComplete (t : Nat)
  /-- SYS_CTRL_DAWN (R43): A write of SYS_CTRL.DAWN = 1 in Night with mains qualified enters Dawn. -/
  | sysCtrlDawn (t : Nat) (v : Word) (x : DawnTests)
  /-- SYS_CTRL_NIGHT (R43): A write of SYS_CTRL.NIGHT = 1 requests Night, directly from Dawn and through Dusk from Morning, Noon and Evening. -/
  | sysCtrlNight (t : Nat) (v : Word)
  /-- RUN_REQUEST (R506): A write of SYS_CTRL with RUN = 1, or a cue run pulse, requests Noon or sets RUN_PENDING. -/
  | runRequest (t : Nat) (v : Word)
  /-- STOP_REQUEST (R506): A write clearing RUN while it reads 1, or a cue stop input, requests Dusk or withdraws a pending RUN. -/
  | stopRequest (t : Nat) (v : Word)
  /-- SYS_CTRL_ABANDON (R51): A write of SYS_CTRL.ABANDON = 1 in Dusk stops the open document at the next line boundary. -/
  | sysCtrlAbandon (t : Nat) (v : Word)
  /-- DAWN_DONE (R60): The last Dawn test ends, and the engine sets DAWN_DONE and makes the SYS_DAWN tile counts valid. -/
  | dawnDone (t : Nat)
  /-- STANDALONE_TIMER_EXPIRY (R62): The 5 s stand-alone timer expires in Night and the engine enters Dawn. -/
  | standaloneTimerExpiry (t : Nat) (x : DawnTests)
  /-- RUN_PENDING_ACTED (R50): HOLDUP_READY becomes 1 in Morning with RUN_PENDING set, and the engine enters Noon. -/
  | runPendingActed (t : Nat)
  /-- DUSK_COMPLETE (R53): Once the document, the capping and the transport deceleration have ended, Dusk completes and the engine enters Morning or Night. -/
  | duskComplete (t : Nat)
  /-- LOGIC_RESERVE_REACHED (R47): In Night without any input, the store falls to its 150 J logic reserve and the logic is turned off. -/
  | logicReserveReached (t : Nat)
  /-- POWER_CYCLE (R48): Both mains and the DC input have been absent for 2 s, so the logic resets, which leaves Midnight. -/
  | powerCycle (t : Nat)
  /-- SPIT_TIMER_EXPIRY (R64): The 8 s spit timer expires and a spit burst of 192 cycles starts. -/
  | spitTimerExpiry (t : Nat)
  /-- SPIT_CYCLE (R64): The 100 µs timer of a spit burst expires, and every nozzle of row k mod 12 on every powered tile fires. -/
  | spitCycle (t : Nat)
  /-- CUE_INPUT_EDGE (R508): An accepted active or inactive edge on a cue input emits its event-fabric source and performs the line's function. -/
  | cueInputEdge (t n : Nat) (level : Bool)
  /-- PATTERN_LINE_TIMEOUT (R67): No line event arrives for 8 s while the check pattern window is open, so the pattern is abandoned with a NOTE. -/
  | patternLineTimeout (t : Nat)
  /-- ARM (R92): A write of SYS_ENABLE.ARM = 1 starts the enable check on the image named by CFG_SOURCE. -/
  | arm (t : Nat) (v : Word)
  /-- ENABLE_CHECK_COMPLETE (R93): The enable check ends; on success the image is applied, otherwise FAIL with its reason, section and item is posted. -/
  | enableCheckComplete (t : Nat)
  /-- LIVE (R97): A write of SYS_ENABLE.LIVE = 1 starts the check of a live replacement image against the armed image. -/
  | live (t : Nat) (v : Word)
  /-- LIVE_CHECK_COMPLETE (R98): The live check ends; on success the background copies are built and LIVE_PENDING is set. -/
  | liveCheckComplete (t : Nat)
  /-- STORE (R71): A write of CFG_NV_CTRL.STORE = 1 starts copying the staging image to an NV slot after the temperature, header, CRC and signature checks. -/
  | store (t : Nat) (v : Word)
  /-- STORE_COMPLETE (R71): An NV image store ends and posts PASS or FAIL. -/
  | storeComplete (t : Nat)
  /-- CFG_KEY_STORE (R75): A write of CFG_KEY_7 makes the 32-byte layout key take effect and stores it in NV flash, unless locked or outside the temperature range. -/
  | cfgKeyStore (t : Nat) (v : Word)
  /-- LAYOUT_LOCK (R76): A write of 1 to CFG_LOCK.LAYOUT_LOCK sets the lock and keeps it in NV, or is refused outside 0–95 °C. -/
  | layoutLock (t : Nat) (v : Word)
  /-- STAGING_WRITE (R95): A write to the image staging window is stored, or is discarded with SYS_NOTE while a check or store is busy. -/
  | stagingWrite (t off : Nat) (data : List Nat)
  /-- CUE_SAFE_INTERVAL_END (R100): In Morning, the 1 ms safe-level interval of a switched cue line ends and the line takes its new function. -/
  | cueSafeIntervalEnd (t n : Nat)
  /-- COUNT_STEP (R105): An accepted A/B level change on a position input is decoded in its mode into a count step, which updates count, epoch, direction, speed and line state. -/
  | countStep (t n : Nat) (a b : Bool) (ph : List Nat)
  /-- INDEX_LATCH (R113): A Z edge of the direction-selected polarity latches count and epoch into POS_n_IDX and emits the index source. -/
  | indexLatch (t n : Nat) (z : Bool)
  /-- INTERPOLATED_CROSSING (R122): Between count steps, the interpolated position reaches a line or fire-line start and emits its event at the rounded time. -/
  | interpolatedCrossing (t n : Nat)
  /-- STANDSTILL (R119): No count step for STILL_US sets STILL, zeroes the speed and discards the interval history. -/
  | standstill (t n : Nat)
  /-- POS_PRESET (R111): A write of POS_n_PRESET_HI loads count and epoch on all five dies in permitted states, otherwise a NOTE is raised. -/
  | posPreset (t n : Nat) (v : Word)
  /-- POS_CMP_WRITE (R128): A write of POS_n_CMP.TARGET arms a new compare target next cycle and sets CMP_BEHIND if it is not ahead. -/
  | posCmpWrite (t n : Nat) (v : Word)
  /-- DECODER_CROSS_CHECK (R14): At each natural gap and at least every 1 ms, the count and epoch of the five decoders are compared, and POS_MISMATCH is raised on a difference. -/
  | decoderCrossCheck (t n : Nat) (same : Bool)
  /-- EVENT_FABRIC_DELIVERY (R129): 2 ns after a source emits, its event reaches every routed destination, which acts in ascending source order. -/
  | eventFabricDelivery (t : Nat)
  /-- LINEREF (R133): A LINEREF packet arrives; a taking engine schedules its release at the compensated time and forwards it. -/
  | lineref (t port : Nat) (p : RingPkt)
  /-- LINEREF_RELEASE (R133): At arrival + DELAY_NS − age, a taken reference is released to its tiles and emits its fabric source. -/
  | linerefRelease (t ch : Nat)
  /-- LINEREF_HEARTBEAT (R136): Every 100 µs a sender sends a heartbeat carrying its LINE and STILL on its channel. -/
  | linerefHeartbeat (t n : Nat)
  /-- LINEREF_LOST (R136): No packet arrives on a taken channel for 1 ms, so LOST is set, REF_LOST is raised and line events stop. -/
  | linerefLost (t ch : Nat)
  /-- LINK_DELAY_MEASUREMENT (R132): Every 1 ms each ring link delay is measured by a time-stamp exchange. -/
  | linkDelayMeasurement (t port delay : Nat)
  /-- STROBE_LAUNCH (R149): At its target time a taken or held cycle's strobe leaves the tile connector, or is suppressed under R19 when its data is incomplete. -/
  | strobeLaunch (t n : Nat)
  /-- GAP_SWAP_TIMEOUT (R161): A window in a gap without a line event for 1 ms after a swap request swaps at that point. -/
  | gapSwapTimeout (t w : Nat)
  /-- PAUSE_END (R162): A gap pause of D µs elapses and opens are no longer held. -/
  | pauseEnd (t w : Nat)
  /-- LANE_CYCLE_START (R248): A lane starts preparing the next fire cycle once the previous pack, the line-buffer data and the output register are ready. -/
  | laneCycleStart (t e : Nat)
  /-- CYCLE_PACK_COMPLETE (R19): PACK completes a fire cycle's 86,272 bits in the tile-port output register. -/
  | cyclePackComplete (t e : Nat)
  /-- HEATER_MEASUREMENT (R194): A 1.2 µs heater-resistance measurement of one nozzle completes, and its result is judged and classed. -/
  | heaterMeasurement (t n : Nat) (r1 r2 : Option Nat)
  /-- HLTH_FORCE (R203): A write of HLTH_FORCE sets or clears FORCED for one nozzle in the background map. -/
  | hlthForce (t : Nat) (v : Word)
  /-- BYPASS_REQUEST (R214): A write of HLTH_BYPASS_REQ with GO = 1 requests bypass of a tile, or is refused when BYPASS_OK = 0. -/
  | bypassRequest (t : Nat) (v : Word)
  /-- LANE_PARITY_ERROR (R217): A parity error in a lane stage or bank read fails the lane engine and raises HLTH_LANE_FAIL. -/
  | laneParityError (t e : Nat)
  /-- LANE_ENGINE_PREPARED (R219): A moved-to engine's banks are powered and loaded within 40 µs, and the move takes effect. -/
  | laneEnginePrepared (t n : Nat)
  /-- ROLL_INTERVAL_EXPIRY (R220): INTERVAL_S after the last roll, the next rolling lane self-test begins on a die with a free spare. -/
  | rollIntervalExpiry (t d : Nat)
  /-- ROLL_SELF_TEST_COMPLETE (R220): The 40 ms self-test of a rolled-out engine ends, and the engine is returned or marked failed. -/
  | rollSelfTestComplete (t d : Nat) (pass : Bool)
  /-- DOCUMENT_RENDER_START (R239): A queued document starts rendering once enough work area is free. -/
  | documentRenderStart (t w : Nat)
  /-- DOCUMENT_RENDERED (R240): A document's rendering ends and its planned drops per quad are counted. -/
  | documentRendered (t w : Nat)
  /-- PREFILL_COMPLETE (R243): The composer finishes writing the first PREFILL lines of a document into a tile's line buffer. -/
  | prefillComplete (t n : Nat)
  /-- LINE_BUFFER_WRITE (R243): The composer streams image line j into its slot once fire line S + j − 40 has been packed. -/
  | lineBufferWrite (t n j : Nat)
  /-- HOST_FACING_RESET (R264): An FLR, hot reset, D3hot entry or link loss resets the streams, reads, MSI-X table and aperture base, and raises HOST_LINK. -/
  | hostFacingReset (t kind : Nat)
  /-- STREAM_ENABLE (R265): A write of DMA_s_CTRL.EN = 1 checks the stream configuration and allocates its staging units, or sets CFG_ERR. -/
  | streamEnable (t k : Nat) (v : Word)
  /-- STREAM_DISABLE (R265): A write of EN = 0 stops accepting descriptors and returns the stream's units once it is idle. -/
  | streamDisable (t k : Nat) (v : Word)
  /-- STREAM_RESET (R287): A write of DMA_s_CTRL.RESET with EN = 0 and IDLE = 1 zeroes head, tail and reservations, sets PHASE to 1 and clears HALTED. -/
  | streamReset (t k : Nat) (v : Word)
  /-- SQ_DOORBELL (R266): A write of DMA_s_DB_SQ.TAIL posts descriptors, or is ignored with DB_IGNORED. -/
  | sqDoorbell (t k : Nat) (v : Word)
  /-- CQ_DOORBELL (R266): A write of DMA_s_DB_CQ.HEAD frees completion-queue records. -/
  | cqDoorbell (t k : Nat) (v : Word)
  /-- DESCRIPTOR_FETCH (R267): A stream issues a read of up to 8 posted descriptors from its ring. -/
  | descriptorFetch (t k : Nat)
  /-- DESCRIPTOR_ACCEPT (R267): A fetched descriptor is accepted once its completion space is reserved, and is checked in the order of R272. -/
  | descriptorAccept (t k : Nat)
  /-- NOP (R270): Opcode 0x00 completes with no transfer. -/
  | nop (t k : Nat)
  /-- COPY (R276): Opcode 0x01 copies LENGTH bytes between spaces, ordering overlapping chunks by the sign of Δ. -/
  | copy (t k : Nat)
  /-- COPY2D (R273): Opcode 0x02 copies ROWS rows of LENGTH bytes with source and destination strides. -/
  | copy2d (t k : Nat)
  /-- FILL (R270): Opcode 0x03 fills the destination rows with the repeated 8-byte pattern in ARG. -/
  | fill (t k : Nat)
  /-- COMPARE (R270): Opcode 0x04 reads both sides and returns all ones or the offset of the first differing 64-byte block. -/
  | compare (t k : Nat)
  /-- COMPOSE (R230): Opcode 0x10 reads a composition record, validates it and queues it to its window, or refuses it with a status code. -/
  | compose (t k : Nat)
  /-- SLOT_ALLOC (R288): Opcode 0x11 allocates a form slot in a KIND 1 region and returns its handle and address. -/
  | slotAlloc (t k : Nat)
  /-- SLOT_FREE (R289): Opcode 0x12 frees a live slot owned by the stream, keeping its space while accepted records still name it. -/
  | slotFree (t k : Nat)
  /-- HOST_READ_COMPLETION (R37): A completion for an outstanding host read request arrives and its data enters the staging queue. -/
  | hostReadCompletion (t tag status : Nat) (data : List Nat)
  /-- HOST_READ_TIMEOUT (R37): A host read reaches its completion timeout and is retried after backoff, or marks the descriptor BAD after 8 retries. -/
  | hostReadTimeout (t tag : Nat)
  /-- HOST_READ_RETRY (R37): A host read retry backoff expires and the read is issued again. -/
  | hostReadRetry (t tag : Nat)
  /-- UNEXPECTED_COMPLETION (R40): A completion arriving after its timeout is discarded and counted as HOST_UNEXP_CPL. -/
  | unexpectedCompletion (t tag : Nat)
  /-- DESCRIPTOR_COMPLETE (R280): A descriptor's execution ends and its completion record is written after its writes, signalling MSI-X if required. -/
  | descriptorComplete (t k : Nat)
  /-- BARRIER_ACK (R281): The last write of a BARRIER descriptor is acknowledged, and its record and the next descriptor proceed. -/
  | barrierAck (t k : Nat)
  /-- PACING_RESUME (R277): A paused stream's fill falls to LOW and host reads resume. -/
  | pacingResume (t k : Nat)
  /-- DMA_CQ_STALL (R292): CQ_WAIT held for 10 ms raises DMA_CQ_STALL. -/
  | dmaCqStall (t k : Nat)
  /-- BAR2_ACCESS (R304): A BAR2 access reaches the own registers, becomes a REG_RD or REG_WR, or misses an empty position. -/
  | bar2Access (t a n : Nat) (data : Option (List Nat)) (x : DawnTests)
  /-- BAR4_ACCESS (R262): A BAR4 access reaches the form store at HOST_AP_BASE plus its offset. -/
  | bar4Access (t a n : Nat) (data : Option (List Nat))
  /-- ENUM (R300): A write of RING_CTRL.ENUM = 1 makes the engine position 0 and sends a JOIN token East. -/
  | enum (t : Nat) (v : Word)
  /-- JOIN (R300): A JOIN token arrives; the engine takes the next position and forwards it, or position 0 closes the ring. -/
  | join (t port : Nat) (p : RingPkt)
  /-- JOIN_TIMEOUT (R300): The token does not return within 10 ms and the ring stays a line. -/
  | joinTimeout (t : Nat)
  /-- REG_RD (R304): A remote register read request is answered with DATA, or with STATUS 2 in Midnight. -/
  | regRd (t port : Nat) (p : RingPkt)
  /-- REG_WR (R304): A remote register write request is applied and acknowledged. -/
  | regWr (t port : Nat) (p : RingPkt) (x : DawnTests)
  /-- FS_RD (R297): A remote form-store read request is answered with DATA. -/
  | fsRd (t port : Nat) (p : RingPkt)
  /-- FS_WR (R297): A remote form-store write is applied and acknowledged. -/
  | fsWr (t port : Nat) (p : RingPkt)
  /-- HOST_RD (R306): Position 0 issues a host memory read on PCIe on behalf of another engine. -/
  | hostRd (t port : Nat) (p : RingPkt)
  /-- HOST_WR (R306): Position 0 issues a host memory write or MSI-X message on PCIe on behalf of another engine. -/
  | hostWr (t port : Nat) (p : RingPkt)
  /-- DOC_REPORT (R311): Position 0 receives a member's document report and writes one joined record when all members have reported. -/
  | docReport (t port : Nat) (p : RingPkt)
  /-- DATA (R305): A DATA response completes its outstanding REQ, or is discarded as late. -/
  | data (t port : Nat) (p : RingPkt)
  /-- ACK (R281): An ACK response completes an outstanding write REQ. -/
  | ack (t port : Nat) (p : RingPkt)
  /-- FAULT (R425): A forwarded fault message arrives at position 0 and is queued with REMOTE = 1. -/
  | fault (t port : Nat) (p : RingPkt)
  /-- STOP (R426): A STOP packet of the engine's stop group raises FLT_REMOTE_STOP when STOP_TAKE = 1. -/
  | stop (t port : Nat) (p : RingPkt)
  /-- WRAP (R308): A WRAP packet reports a break position and updates RING_TOPO. -/
  | wrap (t port : Nat) (p : RingPkt)
  /-- BUDGET (R358): A BUDGET packet of the engine's group counts towards N of the group share and may raise PWR_GROUP_MISMATCH. -/
  | budget (t port : Nat) (p : RingPkt)
  /-- RING_FRAME_RETRY (R37): A ring frame failing CRC or its replay timer is resent after backoff. -/
  | ringFrameRetry (t port k : Nat)
  /-- RING_LINK_FAILURE (R307): A lane losing lock for 1 µs, or a frame exhausting its retries, declares the link failed. -/
  | ringLinkFailure (t port : Nat)
  /-- RING_LINK_TRAINED (R295): A ring link completes training and becomes healthy. -/
  | ringLinkTrained (t port : Nat) (far : Option Nat)
  /-- RING_LINK_RESTORE (R310): A failed link has stayed healthy for 100 ms and a drain marker is sent along the loopback path. -/
  | ringLinkRestore (t port : Nat)
  /-- DRAIN_MARKER_RETURN (R310): The drain marker returns, so the direct path resumes and RING_TOPO clears. -/
  | drainMarkerReturn (t port : Nat)
  /-- RING_REQ_TIMEOUT (R305): A REQ without an RSP after 48 µs fails its BAR2 read, DMA chunk or DOC_REPORT. -/
  | ringReqTimeout (t rtag : Nat)
  /-- RING_JOIN_TMO (R312): Reports are still missing TMO_MS after the first, so position 0 writes the joined record and raises RING_JOIN_TMO. -/
  | ringJoinTmo (t w : Nat)
  /-- TILE_PACKET_SEND (R320): The port starts sending a complete packet to the tile once the tile has room. -/
  | tilePacketSend (t n : Nat)
  /-- TELEMETRY_REPORT (R323): A tile telemetry report arrives with VPP, current, tags and flags, and its CRC is checked. -/
  | telemetryReport (t n : Nat) (r : Telemetry) (crcOk : Bool)
  /-- TILE_TRAIN_TIMEOUT (R326): A tile that does not train within 10 ms of its 3.3 V ramp is declared absent and unpowered. -/
  | tileTrainTimeout (t n : Nat)
  /-- TILE_LOGIC_OVERCURRENT (R326): A 3.3 V current above 0.5 A opens the switch and fails the tile. -/
  | tileLogicOvercurrent (t n : Nat)
  /-- TILE_FUSE_CLOSE (R327): Within a quad, the next enabled tile's VPP fuse closes 500 µs after the previous one. -/
  | tileFuseClose (t q : Nat)
  /-- TILE_VPP_CHECK (R327): 5 ms after its fuse closes, a tile whose VPP is not within 5 % of setpoint is failed. -/
  | tileVppCheck (t n : Nat)
  /-- TILE_VPP_DISCHARGED (R328): A tile reports VPP below 5 V, or 20 ms pass, so its 3.3 V switch is opened. -/
  | tileVppDischarged (t n : Nat)
  /-- EFUSE_TRIP (R329): A tile current above 40 A, or a 10 ms average above TRIP_A, opens the e-fuse and fails the tile with cause 0x4. -/
  | efuseTrip (t n : Nat)
  /-- TILE_LOGIC_OVERVOLTAGE (R329): A tile logic supply above 3.6 V opens both the 3.3 V switch and the VPP fuse. -/
  | tileLogicOvervoltage (t n : Nat)
  /-- TILE_LINK_LOST (R330): No valid telemetry for 100 µs fails the tile with cause 0x5. -/
  | tileLinkLost (t n : Nat)
  /-- HM_READ (R331): Command 0x10 reads head-memory bytes, checked by CRC-32C. -/
  | hmRead (t n a : Nat) (resp : Option (List Nat))
  /-- HM_WRITE (R331): Command 0x11 writes up to 64 head-memory bytes. -/
  | hmWrite (t n a : Nat) (data : List Nat) (resp : Option (List Nat))
  /-- AUTH_READ (R331): Command 0x20 reads the usage record tagged against a fresh nonce. -/
  | authRead (t n : Nat) (nonce : List Nat) (resp : Option (List Nat))
  /-- GET_NONCE (R331): Command 0x21 returns a fresh tile nonce M. -/
  | getNonce (t n : Nat) (resp : Option (List Nat))
  /-- AUTH_ADD (R336): Command 0x22 adds the pending drop count to the tile's usage COUNT, verified by tags or a follow-up AUTH_READ. -/
  | authAdd (t n : Nat) (resp : Option (List Nat))
  /-- HM_RETRY (R37): A head-memory transaction with a check error or no answer is retried after backoff, and fails after 8 retries. -/
  | hmRetry (t n : Nat)
  /-- TILE_UKEY_STORE (R335): A write of TILE_UKEY_7 stores the usage master key in NV, or is refused with a NOTE by temperature. -/
  | tileUkeyStore (t : Nat) (v : Word)
  /-- MAINS_LOST (R343): Mains is lost, so the PFC stops, the source machine enters OUT and Morning or Noon enter Evening. -/
  | mainsLost (t reason : Nat)
  /-- MAINS_PRESENT (R343): Mains comes within voltage and frequency limits and starts qualification. -/
  | mainsPresent (t : Nat)
  /-- MAINS_QUALIFIED (R343): Mains has been present for 200 ms and is qualified, which starts hand-back from QUAL. -/
  | mainsQualified (t : Nat)
  /-- LINK_OVERVOLTAGE (R341): The DC link above 450 V raises the fixed HALT PWR_LINK_OV. -/
  | linkOvervoltage (t v : Nat)
  /-- LINK_HIGH (R341): The DC link reaching 430 V limits motor braking and raises PWR_LINK_HIGH. -/
  | linkHigh (t v : Nat)
  /-- LINK_PFC_STOP (R341): The link crossing 410 V stops the PFC drawing and lets the store absorb energy. -/
  | linkPfcStop (t v : Nat)
  /-- LINK_STORE_DISCHARGE (R341): The link reaching 390 V starts store discharge within 50 µs. -/
  | linkStoreDischarge (t v : Nat)
  /-- LINK_UNDERVOLTAGE (R341): The link below 340 V for 1 ms stops the VPP converters and inverters and raises PWR_LINK_UV. -/
  | linkUndervoltage (t v : Nat)
  /-- BROKER_UPDATE (R351): Every 1 ms the broker recomputes P_avail, head, motor and logic limits, the motor allowance and the Evening reserve. -/
  | brokerUpdate (t : Nat) (m : BrokerMeas)
  /-- RAIL_LIMIT (R346): A quad rail beyond its power limits limits its current and raises PWR_RAIL_LIMIT. -/
  | railLimit (t q : Nat)
  /-- RAIL_UNDERVOLTAGE (R346): A rail below 80 % for 1 ms sets UV and raises PWR_RAIL_UV. -/
  | railUndervoltage (t q : Nat)
  /-- RAIL_SHORT (R346): A rail below 2 V for 100 µs turns off and fails its quad's tiles. -/
  | railShort (t q : Nat)
  /-- RAIL_RAMP_COMPLETE (R345): A quad rail reaches its setpoint or 0 V at the end of its 1 V/ms ramp. -/
  | railRampComplete (t q : Nat)
  /-- LOGIC_OVERDRAW (R347): A logic draw above 340 W averaged over 100 ms raises PWR_LOGIC_OVER. -/
  | logicOverdraw (t w : Nat)
  /-- STORE_OVERVOLTAGE (R348): A store above 94.0 V raises the fixed HALT PWR_STORE_OV. -/
  | storeOvervoltage (t v : Nat)
  /-- DC_INPUT_QUALIFIED (R350): The DC ride-through input has lain within 40–60 V for 100 ms and is qualified. -/
  | dcInputQualified (t : Nat)
  /-- DC_INPUT_RANGE (R350): The DC input outside 38–63 V for 1 ms stops the DC converter and raises PWR_DC_RANGE. -/
  | dcInputRange (t : Nat) (v : Int)
  /-- DC_INPUT_REVERSED (R350): A reversed DC input sets REVERSED and raises PWR_DC_REVERSED. -/
  | dcInputReversed (t : Nat) (v : Int)
  /-- BUDGET_SEND (R357): Every 10 ms an engine in a power group sends a BUDGET packet. -/
  | budgetSend (t : Nat)
  /-- DC_RAMP_COMPLETE (R359): The DC converter ramp completes, or 20 ms elapse, and the source machine goes from OUT to RIDE or QUAL. -/
  | dcRampComplete (t : Nat)
  /-- HANDBACK_COMPLETE (R359): The BACK ramps complete and the source goes to MAINS with Evening returning to FUNC, or to RIDE when mains was lost. -/
  | handbackComplete (t : Nat)
  /-- MOTOR_RUN (R371): A write of MOT_a_CMD.RUN = 1 starts the axis's start sequence. -/
  | motorRun (t a : Nat) (v : Word)
  /-- MOTOR_STOP (R371): A write of MOT_a_CMD.RUN = 0 stops the axis by controlled deceleration. -/
  | motorStop (t a : Nat) (v : Word)
  /-- SPEED_LOOP_UPDATE (R371): Every 250 µs the speed loop runs and takes up new commands. -/
  | speedLoopUpdate (t a : Nat) (rpm pin : Int)
  /-- CURRENT_CONTROL_PERIOD (R377): Each PWM period the currents are sampled and the d–q controller and modulator update. -/
  | currentControlPeriod (t a : Nat) (smp : CurrentSample)
  /-- MOT_CMD_LOST (R373): Loss of the MOT_CMD pin signal decelerates the axis and raises MOT_CMD_LOST. -/
  | motCmdLost (t : Nat)
  /-- MOT_CMD_RESTORED (R373): A MOT_CMD signal valid for 100 ms above the stop level clears LOST and restarts the axis. -/
  | motCmdRestored (t : Nat)
  /-- AT_SPEED (R375): The speed held within 1 % of the command for 10 ms emits source 0x070 + a and sets AT_SPEED. -/
  | atSpeed (t a : Nat)
  /-- CATCH_CHECK_COMPLETE (R376): The gates-off catch check over one period or 100 ms ends and finds the motor still or turning. -/
  | catchCheckComplete (t a amp : Nat) (full : Bool)
  /-- OPEN_PHASE_CHECK_COMPLETE (R376): The open-phase pulses of step 2 end, passing or marking an open phase. -/
  | openPhaseCheckComplete (t a : Nat) (open_ : Option Nat)
  /-- MODEL_IDENTIFICATION_COMPLETE (R376): The 200 ms identification of R_s, L_d and L_q ends and writes the MOT_a_MODEL_ registers. -/
  | modelIdentificationComplete (t a rs ld lq : Nat)
  /-- INITIAL_POSITION_FOUND (R376): Injection and polarity pulses locate the rotor and acceleration starts. -/
  | initialPositionFound (t a : Nat) (weak : Bool)
  /-- CATCH_LOCK (R386): The PLL locks onto a turning motor, outputs are preset and the gates enable with i_q = 0. -/
  | catchLock (t a : Nat) (rpm : Int)
  /-- CATCH_OVER_RETRY (R387): Every 100 ms an axis whose induced voltage exceeded the link tries to catch again. -/
  | catchOverRetry (t a : Nat)
  /-- ESTIMATOR_HANDOVER (R385): The estimates agree within 15° for 10 ms, so the rotor angle hands from injection to the back-EMF observer. -/
  | estimatorHandover (t a : Nat)
  /-- OPEN_PHASE (R388): A phase below one eighth of the others for 2 periods turns the gates off and raises MOT_OPEN_PHASE. -/
  | openPhase (t a : Nat) (p1 p2 : Rms)
  /-- STALL (R390): The speed below 10 % of the command at ILIM for 500 ms turns the gates off and raises MOT_STALL. -/
  | stall (t a : Nat)
  /-- OVERCURRENT_TRIP (R367): A phase peak above 24 A turns the axis's gates off within 1 µs and raises MOT_OVERCURRENT. -/
  | overcurrentTrip (t a phase : Nat)
  /-- THERMAL_SAMPLE (R400): A temperature sensor is sampled at 1 kHz or 20 kHz, and its rate and fixed-level checks run. -/
  | thermalSample (t n : Nat) (x : Int) (ro : List Int)
  /-- OSCILLATOR_RECALIBRATION (R399): At Dawn, every 10 s and at gaps, two diode readings reset a lane die's oscillator offset, or raise THM_RECAL. -/
  | oscillatorRecalibration (t d : Nat) (a b : Int)
  /-- THERMAL_PAUSE_STEP_END (R405): A thermal pause step ends, and the test is repeated, requesting a further step or Dusk after MAX_STEPS. -/
  | thermalPauseStepEnd (t w : Nat)
  /-- DUSK_FINISH_RECHECK (R406): Every 1 ms during a thermal Dusk the finish test is repeated and a failing document is stopped. -/
  | duskFinishRecheck (t : Nat)
  /-- STORE_CONVERTER_RESUME (R403): A store below 65.0 °C for 10 s resumes discharge. -/
  | storeConverterResume (t : Nat)
  /-- STORE_CHARGING_RESUME (R407): A store 2 °C inside its interlock range for 10 s resumes charging. -/
  | storeChargingResume (t : Nat)
  /-- FAULT_MESSAGE_ACCEPTED (R416): A fault message reaches the hub collector and is queued, coalesced or dropped, with its class effect and flags applied. -/
  | faultMessageAccepted (t die : Nat)
  /-- FLOOD_CLEAR (R428): The fill is at or below LO and no repeat has come for QUIET_US, so count and drop records are queued and FLOOD clears. -/
  | floodClear (t : Nat)
  /-- LOG_RECORD_WRITE (R421): The collector writes a queued record to the host log, NV log and on-die history when the host log has room. -/
  | logRecordWrite (t : Nat)
  /-- NV_LOG_WRITE (R424): Queued NV records are written to the NV log, a HALT within 2 ms, or deferred by temperature. -/
  | nvLogWrite (t : Nat)
  /-- FLT_PEND_ACK (R419): A write of 1 to a class bit of FLT_PEND acknowledges that class. -/
  | fltPendAck (t : Nat) (v : Word)
  /-- RELAY_RESET (R420): A write of 1 to FLT_PEND.RELAY closes the alarm contact again unless HALT is pending. -/
  | relayReset (t : Nat) (v : Word)
  /-- LOG_EN (R422): A write of FLT_CTRL.LOG_EN = 1 enables the host log at index 0 with PHASE 1, or is refused for a bad LOG2. -/
  | logEn (t : Nat) (v : Word)
  /-- FLT_LOG_HEAD_WRITE (R422): A write of FLT_LOG_HEAD frees host log records for further writes. -/
  | fltLogHeadWrite (t : Nat) (v : Word)
  /-- FLT_INJECT (R429): A write of FLT_INJECT_HI raises the held message as if from its source, with INJECTED = 1, or discards it. -/
  | fltInject (t : Nat) (v : Word)
  /-- RUN_NOW (R440): A write of CAL_CTRL.RUN_NOW = 1 makes every enabled calibration instance due. -/
  | runNow (t : Nat) (v : Word)
  /-- CAL_IMPORT (R449): A write of CAL_IMPORT.GO = 1 imports a KH-4806 record into a compatibility slot, or refuses it. -/
  | calImport (t : Nat) (v : Word)
  /-- CAL_INSTANCE_DUE (R440): INTERVAL_S after its last agreed result, a calibration instance becomes due. -/
  | calInstanceDue (t k : Nat)
  /-- CAL_MEASUREMENT_COMPLETE (R439): A calibration measurement pair ends, and the results are averaged and applied or discarded as disagreeing. -/
  | calMeasurementComplete (t target inst : Nat) (vals : List Int)
  /-- CAL_SLEW_IDLE_STEP (R442): Without line events for 10 ms, the remaining slew steps apply at one per ms. -/
  | calSlewIdleStep (t k : Nat)
  /-- CAL_OVERDUE (R441): An instance due for a further INTERVAL_S without an agreed result raises CAL_OVERDUE. -/
  | calOverdue (t k : Nat)
  /-- ALIAS_SET_WRITE (R459): A write to the set view ORs the value into a form-store word atomically. -/
  | aliasSetWrite (t off : Nat) (data : List Nat)
  /-- ALIAS_CLEAR_WRITE (R459): A write to the clear view clears the value's bits in a form-store word atomically. -/
  | aliasClearWrite (t off : Nat) (data : List Nat)
  /-- MEM_ECC_CORRECTED (R460): A corrected memory error delivers corrected data and counts, raising MEM_ECC_CORR at most once per second. -/
  | memEccCorrected (t mem a : Nat)
  /-- MEM_ECC_UNCORRECTABLE (R460): An uncorrectable memory error is counted and its reader is failed as its kind requires. -/
  | memEccUncorrectable (t mem a : Nat) (r : EccReader)
  /-- PMC_LOAD (R462): A write of PMC_n_HI loads the counter from the _LO and _HI pair. -/
  | pmcLoad (t n : Nat) (v : Word)
  /-- PMC_DUMP (R463): A periodic dump latches all counters and writes a dump record, or is skipped. -/
  | pmcDump (t : Nat)
  /-- DUMP_NOW (R463): A write of PMC_CTRL.DUMP_NOW = 1 adds one dump. -/
  | dumpNow (t : Nat) (v : Word)
  /-- DUMP_EN (R463): A write of DUMP_EN = 1 enables periodic dumps when the base and LOG2 are valid. -/
  | dumpEn (t : Nat) (v : Word)
  /-- TAG_LOAD (R465): A write of PMC_TAG_CTRL with DOMAIN ≠ 0 loads the tagging LFSR from the seed. -/
  | tagLoad (t : Nat) (v : Word)
  /-- TAG_RECORD_COMPLETE (R466): A tagged object completes or ends, and its tag record is completed or abandoned. -/
  | tagRecordComplete (t : Nat) (abandoned : Bool)
  /-- TAG_POP (R466): A write of PMC_TAG_STAT.POP releases tag records oldest first. -/
  | tagPop (t : Nat) (v : Word)
  /-- CALENDAR_SECOND (R468): The calendar advances one second under the Gregorian rules, holding at its end. -/
  | calendarSecond (t : Nat)
  /-- CLOCK_SET (R469): A write of CLK_TIME sets the calendar with the last CLK_DATE, or is refused with CLK_BAD_DATE. -/
  | clockSet (t : Nat) (m : Master) (v : Word)
  /-- CLK_DATE_READ (R470): A read of CLK_DATE captures CLK_TIME for the reading master. -/
  | clkDateRead (t : Nat) (m : Master)
  /-- EXTEST (R489): The boundary-scan EXTEST instruction is selected. -/
  | extest (t : Nat)
  /-- SAMPLE_PRELOAD (R489): The boundary-scan SAMPLE/PRELOAD instruction is selected. -/
  | samplePreload (t : Nat)
  /-- BYPASS (R489): The boundary-scan BYPASS instruction is selected. -/
  | bypass (t : Nat)
  /-- FW_STATUS (R489): Service instruction 0x40 returns the last service action status and the words loaded. -/
  | fwStatus (t : Nat)
  /-- FW_LOAD (R489): Service instruction 0x41 stores one word into the firmware load buffer. -/
  | fwLoad (t w : Nat)
  /-- FW_COMMIT (R489): Service instruction 0x42 writes the load buffer to a firmware slot and checks it. -/
  | fwCommit (t v : Nat)
  /-- FW_COMMIT_COMPLETE (R490): A firmware slot write and check end, and the status is posted. -/
  | fwCommitComplete (t : Nat) (good : Bool)
  /-- LOCK_CLEAR (R489): Service instruction 0x43 with the magic value erases the layout key and clears LAYOUT_LOCK. -/
  | lockClear (t v : Nat)
  /-- ARP_REQUEST (R491): An ARP request for the service address is answered. -/
  | arpRequest (t a : Nat)
  /-- ICMP_ECHO (R491): An ICMP echo request of up to 1,472 bytes is answered. -/
  | icmpEcho (t src : Nat) (data : List Nat)
  /-- REGISTER_READ_SERVICE (R492): A UDP 19272 request is answered with BAR0 dwords, without read side effects. -/
  | registerReadService (t src port : Nat) (data : List Nat)
  /-- FLUID_BRIDGE_DATAGRAM (R494): A datagram to a FLUID bridge port is queued and sent on the RS-485 bus. -/
  | fluidBridgeDatagram (t bus src port : Nat) (data : List Nat) (busy : Bool)
  /-- FLUID_BUS_IDLE (R494): After 2 idle character times or 256 bytes, received bus bytes are sent as one datagram. -/
  | fluidBusIdle (t bus : Nat) (data : List Nat)
  /-- ENCODER_SUPPLY_SHORT (R484): A shorted POSn_5V folds back and raises SYS_NOTE with the input's code. -/
  | encoderSupplyShort (t n : Nat)
  /-- CUE_VIN_LOW (R486): CUE_VIN below 15 V holds high-driving outputs at high impedance, with one note per line. -/
  | cueVinLow (t c : Nat)
  /-- CUE_PULSE_END (R508): A cue event output's PARAM µs pulse ends. -/
  | cuePulseEnd (t n : Nat)
  /-- CUE_OUTPUT_OVERLOAD (R485): A cue output above 150 mA turns off for 10 ms. -/
  | cueOutputOverload (t n : Nat)
  /-- CUE_OVERLOAD_RETRY (R485): 10 ms after an overload, the cue output retries. -/
  | cueOverloadRetry (t n : Nat)
  /-- PLL_LOSS_OF_LOCK (R23): A die's timing PLL loses lock, gating its strobes off and raising SYS_PLL_UNLOCK. -/
  | pllLossOfLock (t die : Nat)
  /-- PLL_RELOCK (R23): The timing PLL locks again, and strobes resume at the next line boundary. -/
  | pllRelock (t die : Nat)
  /-- LOCKSTEP_DISAGREEMENT (R414): The two control cores of a lockstep pair disagree, raising the fixed-HALT kind SYS_LOCKSTEP with the pair's program counter. -/
  | lockstepDisagreement (t pair pc : Nat)
  /-- GATE_DRIVER_FEEDBACK_FAULT (R395): While an axis runs, a gate driver's feedback is wrong, so MOT_GATE is raised for that switch. -/
  | gateDriverFeedbackFault (t a sw : Nat)
  /-- PERST_RELEASE (R56): The host releases PERST#, and the host port trains its link and answers configuration requests within 1.0 s of the later of this release and the end of the boot ROM step. -/
  | perstRelease (t : Nat) (c : HostCfg)
  /-- CUE_VIN_RESTORED (R486): CUE_VIN returns above 16 V for 100 ms, so the connector's outputs may drive high again and each line's low-supply note is re-armed. -/
  | cueVinRestored (t c : Nat)
deriving DecidableEq, Repr

end Sys2Proof
end

