-- ==== Sys2Proof/Decode.lean ====
section
/-!
DEFINITION. The command that a word spells by the bits of spec/opcode_table.json: no row of the table gives a command any
bits, so no word spells one.
-/
namespace Sys2Proof

/-- The command that a word of `nbits` bits spells (the table gives none its bits). -/
def decodeTableWord (_nbits _w : Nat) : Option Instr := none

end Sys2Proof
end

