-- ==== Sys2Proof/Machine/Operands.lean ====
section
/-!
DEFINITION. How numbers are read out of words, records and byte strings: bit fields, signed values, little-endian bytes
(R5, R72), rounding and clamping.
-/
namespace Sys2Proof.Machine

/-- Bits [hi:lo] of a number (R5). -/
def bits (v hi lo : Nat) : Nat := v / 2 ^ lo % 2 ^ (hi + 1 - lo)

/-- Bit `i` of a number (R5). -/
def bit (v i : Nat) : Bool := v / 2 ^ i % 2 == 1

/-- 1 or 0. -/
def b2n (b : Bool) : Nat := if b then 1 else 0

/-- The two's complement reading of the low `w` bits (R72). -/
def sx (w v : Nat) : Int := if v % 2 ^ w < 2 ^ (w - 1) then (v % 2 ^ w : Nat) else (v % 2 ^ w : Nat) - (2 ^ w : Nat)

/-- The two's complement pattern of an integer in `w` bits. -/
def wrap (w : Nat) (i : Int) : Nat := (i % ((2 ^ w : Nat) : Int)).toNat

/-- An integer held within two limits. -/
def clamp (lo hi i : Int) : Int := if i < lo then lo else if hi < i then hi else i

/-- A count held at the greatest value of a `w`-bit field. -/
def sat (w v : Nat) : Nat := if v < 2 ^ w then v else 2 ^ w - 1

/-- Quotient rounded upward. -/
def ceilDiv (a b : Nat) : Nat := (a + b - 1) / b

/-- Quotient rounded to the nearest, halves upward; for a positive divisor. -/
def roundDiv (a : Int) (b : Nat) : Int := (2 * a + b) / (2 * b)

/-- The number a little-endian byte string spells (R5, R72). -/
def le : List Nat → Nat
  | [] => 0
  | b :: r => b % 256 + 256 * le r

/-- The `n` little-endian bytes of a number (R5). -/
def toLe : Nat → Nat → List Nat
  | 0, _ => []
  | n + 1, v => v % 256 :: toLe n (v / 256)

/-- The field of `n` bytes at offset `o` of a record (R72). -/
def leAt (bs : List Nat) (o n : Nat) : Nat := le ((bs.drop o).take n)

/-- The byte at offset `o`, 0 past the end. -/
def byteAt (bs : List Nat) (o : Nat) : Nat := bs.getD o 0

/-- Whether the `n` bytes at offset `o` are all zero. -/
def zeroAt (bs : List Nat) (o n : Nat) : Bool := ((bs.drop o).take n).all (· == 0)

/-- `n` copies of a step. -/
def iter {α : Type} (f : α → α) : Nat → α → α
  | 0, a => a
  | n + 1, a => iter f n (f a)

/-- The numbers of the list put into ascending order. -/
def insertSorted (a : Nat) : List Nat → List Nat
  | [] => [a]
  | b :: r => if a ≤ b then a :: b :: r else b :: insertSorted a r

/-- Insertion sort. -/
def sortNat : List Nat → List Nat
  | [] => []
  | a :: r => insertSorted a (sortNat r)

/-- The number of one bits among the low `n` bits of a mask. -/
def popcount : Nat → Nat → Nat
  | 0, _ => 0
  | n + 1, v => v % 2 + popcount n (v / 2)

end Sys2Proof.Machine
end

