-- ==== Sys2Proof/Machine/Crypto.lean ====
section
/-!
DEFINITION. The check and tag functions the spec names: CRC-32C (R74) and HMAC-SHA-256 (R74, R335), on byte strings.
-/
namespace Sys2Proof.Machine

/-- One bit of the reflected CRC-32C division, polynomial 0x1EDC_6F41 (R74). -/
def crcBit (c : Nat) : Nat := if c % 2 = 1 then (c / 2) ^^^ 0x82F63B78 else c / 2

/-- One byte taken into the CRC register (R74). -/
def crcByte (c b : Nat) : Nat := iter crcBit 8 (c ^^^ (b % 256))

/-- CRC-32C of a byte string: initial value and final XOR 0xFFFF_FFFF (R74). -/
def crc32c (bs : List Nat) : Nat := (bs.foldl crcByte 0xFFFFFFFF) ^^^ 0xFFFFFFFF

/-- Addition of 32-bit words. -/
def add32 (a b : Nat) : Nat := (a + b) % 2 ^ 32

/-- Rotation of a 32-bit word to the right. -/
def rotr32 (a n : Nat) : Nat := (a / 2 ^ n + a * 2 ^ (32 - n)) % 2 ^ 32

/-- The round constants of SHA-256. -/
def shaK : List Nat :=
  [0x428A2F98, 0x71374491, 0xB5C0FBCF, 0xE9B5DBA5, 0x3956C25B, 0x59F111F1, 0x923F82A4, 0xAB1C5ED5,
   0xD807AA98, 0x12835B01, 0x243185BE, 0x550C7DC3, 0x72BE5D74, 0x80DEB1FE, 0x9BDC06A7, 0xC19BF174,
   0xE49B69C1, 0xEFBE4786, 0x0FC19DC6, 0x240CA1CC, 0x2DE92C6F, 0x4A7484AA, 0x5CB0A9DC, 0x76F988DA,
   0x983E5152, 0xA831C66D, 0xB00327C8, 0xBF597FC7, 0xC6E00BF3, 0xD5A79147, 0x06CA6351, 0x14292967,
   0x27B70A85, 0x2E1B2138, 0x4D2C6DFC, 0x53380D13, 0x650A7354, 0x766A0ABB, 0x81C2C92E, 0x92722C85,
   0xA2BFE8A1, 0xA81A664B, 0xC24B8B70, 0xC76C51A3, 0xD192E819, 0xD6990624, 0xF40E3585, 0x106AA070,
   0x19A4C116, 0x1E376C08, 0x2748774C, 0x34B0BCB5, 0x391C0CB3, 0x4ED8AA4A, 0x5B9CCA4F, 0x682E6FF3,
   0x748F82EE, 0x78A5636F, 0x84C87814, 0x8CC70208, 0x90BEFFFA, 0xA4506CEB, 0xBEF9A3F7, 0xC67178F2]

/-- The initial hash value of SHA-256. -/
def shaH : List Nat :=
  [0x6A09E667, 0xBB67AE85, 0x3C6EF372, 0xA54FF53A, 0x510E527F, 0x9B05688C, 0x1F83D9AB, 0x5BE0CD19]

/-- The big-endian bytes of a number. -/
def toBe : Nat → Nat → List Nat
  | 0, _ => []
  | n + 1, v => v / 256 ^ n % 256 :: toBe n v

/-- The number a big-endian byte string spells. -/
def be (bs : List Nat) : Nat := bs.foldl (fun a b => a * 256 + b % 256) 0

/-- The message padded to whole blocks of 64 bytes. -/
def shaPad (bs : List Nat) : List Nat :=
  bs ++ [0x80] ++ List.replicate ((119 - bs.length % 64) % 64) 0 ++ toBe 8 (8 * bs.length)

/-- The next word of the message schedule, from the last sixteen, newest first. -/
def shaNext (w : List Nat) : Nat :=
  let x := w.getD 14 0
  let y := w.getD 1 0
  let s0 := rotr32 x 7 ^^^ rotr32 x 18 ^^^ (x / 2 ^ 3)
  let s1 := rotr32 y 17 ^^^ rotr32 y 19 ^^^ (y / 2 ^ 10)
  add32 (add32 (w.getD 15 0) s0) (add32 (w.getD 6 0) s1)

/-- One round on the eight working variables. -/
def shaRound (v : List Nat) (k w : Nat) : List Nat :=
  match v with
  | [a, b, c, d, e, f, g, h] =>
    let s1 := rotr32 e 6 ^^^ rotr32 e 11 ^^^ rotr32 e 25
    let ch := (e &&& f) ^^^ ((e ^^^ 0xFFFFFFFF) &&& g)
    let t1 := add32 (add32 (add32 h s1) (add32 ch k)) w
    let s0 := rotr32 a 2 ^^^ rotr32 a 13 ^^^ rotr32 a 22
    let mj := (a &&& b) ^^^ (a &&& c) ^^^ (b &&& c)
    [add32 t1 (add32 s0 mj), a, b, c, add32 d t1, e, f, g]
  | v => v

/-- The rounds of one block: the schedule (newest first) and the working variables advance together. -/
def shaRounds : List Nat → List Nat → List Nat → List Nat
  | [], _, v => v
  | k :: ks, w, v => shaRounds ks ((shaNext w :: w).take 16) (shaRound v k (w.getD 15 0))

/-- One block of 64 bytes taken into the hash value. -/
def shaBlock (h : List Nat) (blk : List Nat) : List Nat :=
  let w := ((List.range 16).map fun i => be ((blk.drop (4 * i)).take 4)).reverse
  List.zipWith add32 h (shaRounds shaK w h)

/-- The blocks of a padded message, one after another. -/
def shaBlocks : Nat → List Nat → List Nat → List Nat
  | 0, h, _ => h
  | n + 1, h, bs => shaBlocks n (shaBlock h (bs.take 64)) (bs.drop 64)

/-- SHA-256 of a byte string, 32 bytes. -/
def sha256 (bs : List Nat) : List Nat :=
  let p := shaPad bs
  (shaBlocks (p.length / 64) shaH p).flatMap (toBe 4)

/-- HMAC-SHA-256 under a key of at most 64 bytes (R74, R335). -/
def hmacSha256 (key msg : List Nat) : List Nat :=
  let k := key ++ List.replicate (64 - key.length) 0
  sha256 (k.map (· ^^^ 0x5C) ++ sha256 (k.map (· ^^^ 0x36) ++ msg))

end Sys2Proof.Machine
end

