-- ==== Sys2Proof/Config.lean ====
section
/-!
DEFINITION. The values the spec leaves open: constants without a body, so that no proof can see one. Each takes what it
may depend on; a fresh value takes the state's own counter `draws` (log entry 7).
-/
namespace Sys2Proof.Config

/-- The byte that form-store offset `a` holds after power-on, before anything is written to it: the spec gives the form
store no power-on contents (log entry 6). -/
opaque formPowerOn : Nat → Byte

/-- A fresh byte the spec leaves undefined: the contents of a bank that was off (R458), the destination of a BAD
descriptor beyond its RESULT (R286); the argument is the draw. -/
opaque freeByte : Nat → Byte

/-- A fresh word the spec leaves undefined; the argument is the draw. -/
opaque freeWord : Nat → Word

/-- What a read of BAR0 offset `off` answers in Midnight outside the SYS_ and FLT_ registers, which R48 leaves open; the
second argument is the draw. -/
opaque midnightRead : Nat → Nat → Word

/-- The current in mA that the model predicts for an axis in a period without a sample (R383), on the d axis (first
argument 0) or the q axis (1), from the previous currents' register word and a draw: R383 states no formula. -/
opaque predictedCurrent : Nat → Word → Nat → Int

/-- The i_d reference in mA preset when a motor turning at a speed in rpm is caught (R386): no formula is stated. -/
opaque catchId : Int → Int

/-- The rated speed in rpm, power limit in W and acceleration in rpm/s of axis 0 under the keep-wet layout: R63 gives
none. -/
opaque keepWetRpm : Nat
opaque keepWetPwr : Nat
opaque keepWetAccel : Nat

/-- The energy table and the history model of the keep-wet layout, entry by entry in the order of R85's data; no chapter
states one. -/
opaque keepWetEnergy : Nat → Nat
opaque keepWetHistory : Nat → Nat

/-- P_rated in W at a line voltage outside 85–265 V, in 0.1 V: the table of R344 gives none. -/
opaque ratedOutside : Nat → Nat

/-- The residence time in ns that a forwarded packet adds to its age, at most 80 ns (R132, R296); the argument is the
draw. -/
opaque residence : Nat → Nat

end Sys2Proof.Config
end

