-- ==== Sys2Proof/Machine/FaultKinds.lean ====
section
/-!
DEFINITION. The kinds of fault message: source groups and codes of R412 and R413, default classes of R414 and of the
chapters that own the kinds.
-/
namespace Sys2Proof.Machine

/-- A kind of fault message (R412 to R414): source group, code, default class, and whether it is fixed at HALT. -/
structure Kind where
  group : Nat
  code : Nat
  cls : Nat
  fixed : Bool := false
deriving DecidableEq, Repr

/-- The generic NOTE of group 0x0 (R413). -/
def kSYS_NOTE : Kind := ⟨0, 0, 0, false⟩
/-- The generic NOTE of group 0x1 (R413). -/
def kPOS_NOTE : Kind := ⟨1, 0, 0, false⟩
/-- The generic NOTE of group 0x2 (R413). -/
def kFIRE_NOTE : Kind := ⟨2, 0, 0, false⟩
/-- The generic NOTE of group 0x3 (R413). -/
def kPULSE_NOTE : Kind := ⟨3, 0, 0, false⟩
/-- The generic NOTE of group 0x4 (R413). -/
def kHLTH_NOTE : Kind := ⟨4, 0, 0, false⟩
/-- The generic NOTE of group 0x5 (R413). -/
def kCMP_NOTE : Kind := ⟨5, 0, 0, false⟩
/-- The generic NOTE of group 0x6 (R413). -/
def kHOST_NOTE : Kind := ⟨6, 0, 0, false⟩
/-- The generic NOTE of group 0x7 (R413). -/
def kRING_NOTE : Kind := ⟨7, 0, 0, false⟩
/-- The generic NOTE of group 0x8 (R413). -/
def kTILE_NOTE : Kind := ⟨8, 0, 0, false⟩
/-- The generic NOTE of group 0x9 (R413). -/
def kPWR_NOTE : Kind := ⟨9, 0, 0, false⟩
/-- The generic NOTE of group 0xa (R413). -/
def kMOT_NOTE : Kind := ⟨10, 0, 0, false⟩
/-- The generic NOTE of group 0xb (R413). -/
def kTHM_NOTE : Kind := ⟨11, 0, 0, false⟩
/-- The generic NOTE of group 0xc (R413). -/
def kFLT_NOTE : Kind := ⟨12, 0, 0, false⟩
/-- The generic NOTE of group 0xd (R413). -/
def kCAL_NOTE : Kind := ⟨13, 0, 0, false⟩
/-- The generic NOTE of group 0xe (R413). -/
def kMEM_NOTE : Kind := ⟨14, 0, 0, false⟩
/-- SYS_PLL_UNLOCK (R413, R414). -/
def kSYS_PLL_UNLOCK : Kind := ⟨0, 1, 1, false⟩
/-- SYS_LOCKSTEP (R413, R414). -/
def kSYS_LOCKSTEP : Kind := ⟨0, 2, 3, true⟩
/-- SYS_FW_SLOT (R413, R414). -/
def kSYS_FW_SLOT : Kind := ⟨0, 3, 0, false⟩
/-- SYS_BOOT_FAIL (R413, R414). -/
def kSYS_BOOT_FAIL : Kind := ⟨0, 4, 3, false⟩
/-- POS_ILLEGAL (R413, R414). -/
def kPOS_ILLEGAL : Kind := ⟨1, 1, 0, false⟩
/-- POS_OVERSPEED (R413, R414). -/
def kPOS_OVERSPEED : Kind := ⟨1, 2, 1, false⟩
/-- POS_DRIFT (R413, R414). -/
def kPOS_DRIFT : Kind := ⟨1, 3, 1, false⟩
/-- POS_MISMATCH (R413, R414). -/
def kPOS_MISMATCH : Kind := ⟨1, 4, 2, false⟩
/-- REF_LATE (R413, R414). -/
def kREF_LATE : Kind := ⟨1, 5, 0, false⟩
/-- REF_LOST (R413, R414). -/
def kREF_LOST : Kind := ⟨1, 6, 2, false⟩
/-- REF_CONFLICT (R413, R414). -/
def kREF_CONFLICT : Kind := ⟨1, 7, 2, false⟩
/-- FIRE_OVERRUN (R413, R414). -/
def kFIRE_OVERRUN : Kind := ⟨2, 1, 1, false⟩
/-- FIRE_WIN_INPUT (R413, R414). -/
def kFIRE_WIN_INPUT : Kind := ⟨2, 2, 1, false⟩
/-- FIRE_REF_FRAC (R413, R414). -/
def kFIRE_REF_FRAC : Kind := ⟨2, 3, 0, false⟩
/-- FIRE_DOC_EARLY (R413, R414). -/
def kFIRE_DOC_EARLY : Kind := ⟨2, 4, 0, false⟩
/-- FIRE_CLOSE_SHORT (R413, R414). -/
def kFIRE_CLOSE_SHORT : Kind := ⟨2, 5, 0, false⟩
/-- FIRE_MASK_KIND (R413, R414). -/
def kFIRE_MASK_KIND : Kind := ⟨2, 6, 0, false⟩
/-- PULSE_BASE_SAT (R413, R414). -/
def kPULSE_BASE_SAT : Kind := ⟨3, 1, 1, false⟩
/-- PULSE_VSENSE_LOST (R413, R414). -/
def kPULSE_VSENSE_LOST : Kind := ⟨3, 2, 1, false⟩
/-- PULSE_CODE_SAT (R413, R414). -/
def kPULSE_CODE_SAT : Kind := ⟨3, 3, 0, false⟩
/-- HLTH_NOZZLE_DEAD (R413, R414). -/
def kHLTH_NOZZLE_DEAD : Kind := ⟨4, 1, 0, false⟩
/-- HLTH_SHORT (R413, R414). -/
def kHLTH_SHORT : Kind := ⟨4, 2, 1, false⟩
/-- HLTH_COL_WEAK (R413, R414). -/
def kHLTH_COL_WEAK : Kind := ⟨4, 3, 1, false⟩
/-- HLTH_COL_DEAD (R413, R414). -/
def kHLTH_COL_DEAD : Kind := ⟨4, 4, 1, false⟩
/-- HLTH_LANE_FAIL (R413, R414). -/
def kHLTH_LANE_FAIL : Kind := ⟨4, 5, 1, false⟩
/-- HLTH_NO_SPARE (R413, R414). -/
def kHLTH_NO_SPARE : Kind := ⟨4, 6, 2, false⟩
/-- HLTH_TILE_FAIL (R413, R414). -/
def kHLTH_TILE_FAIL : Kind := ⟨4, 7, 2, false⟩
/-- HLTH_TILE_BYPASS (R413, R414). -/
def kHLTH_TILE_BYPASS : Kind := ⟨4, 8, 1, false⟩
/-- CMP_REFUSED (R413, R414). -/
def kCMP_REFUSED : Kind := ⟨5, 1, 0, false⟩
/-- CMP_CLIP (R413, R414). -/
def kCMP_CLIP : Kind := ⟨5, 2, 0, false⟩
/-- CMP_SER_WRAP (R413, R414). -/
def kCMP_SER_WRAP : Kind := ⟨5, 3, 0, false⟩
/-- CMP_DATE_RANGE (R413, R414). -/
def kCMP_DATE_RANGE : Kind := ⟨5, 4, 0, false⟩
/-- CMP_EXTENT (R413, R414). -/
def kCMP_EXTENT : Kind := ⟨5, 5, 0, false⟩
/-- CMP_DISCARD (R413, R414). -/
def kCMP_DISCARD : Kind := ⟨5, 6, 0, false⟩
/-- LANE_UNDERRUN (R413, R414). -/
def kLANE_UNDERRUN : Kind := ⟨5, 7, 1, false⟩
/-- DMA_BAD (R413, R414). -/
def kDMA_BAD : Kind := ⟨6, 1, 0, false⟩
/-- DMA_REFUSED (R413, R414). -/
def kDMA_REFUSED : Kind := ⟨6, 2, 0, false⟩
/-- DMA_FETCH (R413, R414). -/
def kDMA_FETCH : Kind := ⟨6, 3, 1, false⟩
/-- DMA_CQ_STALL (R413, R414). -/
def kDMA_CQ_STALL : Kind := ⟨6, 4, 0, false⟩
/-- HOST_UNEXP_CPL (R413, R414). -/
def kHOST_UNEXP_CPL : Kind := ⟨6, 5, 0, false⟩
/-- HOST_LINK (R413, R414). -/
def kHOST_LINK : Kind := ⟨6, 6, 1, false⟩
/-- RING_WRAP (R413, R414). -/
def kRING_WRAP : Kind := ⟨7, 1, 0, false⟩
/-- RING_SPLIT (R413, R414). -/
def kRING_SPLIT : Kind := ⟨7, 2, 2, false⟩
/-- RING_JOIN_REFUSED (R413, R414). -/
def kRING_JOIN_REFUSED : Kind := ⟨7, 3, 0, false⟩
/-- RING_JOIN_TMO (R413, R414). -/
def kRING_JOIN_TMO : Kind := ⟨7, 4, 0, false⟩
/-- RING_BRIDGE_REFUSED (R413, R414). -/
def kRING_BRIDGE_REFUSED : Kind := ⟨7, 5, 0, false⟩
/-- TILE_DETECT (R413, R414). -/
def kTILE_DETECT : Kind := ⟨8, 1, 1, false⟩
/-- TILE_ABSENT (R413, R414). -/
def kTILE_ABSENT : Kind := ⟨8, 2, 0, false⟩
/-- TILE_FAIL (R413, R414). -/
def kTILE_FAIL : Kind := ⟨8, 3, 1, false⟩
/-- TILE_TSR_OPEN (R413, R414). -/
def kTILE_TSR_OPEN : Kind := ⟨8, 4, 1, false⟩
/-- TILE_ID_FALLBACK (R413, R414). -/
def kTILE_ID_FALLBACK : Kind := ⟨8, 5, 1, false⟩
/-- TILE_HM_FAIL (R413, R414). -/
def kTILE_HM_FAIL : Kind := ⟨8, 6, 1, false⟩
/-- TILE_AUTH_FAIL (R413, R414). -/
def kTILE_AUTH_FAIL : Kind := ⟨8, 7, 1, false⟩
/-- TILE_CLASS_MISMATCH (R413, R414). -/
def kTILE_CLASS_MISMATCH : Kind := ⟨8, 8, 0, false⟩
/-- TILE_HM_DEFER (R413, R414). -/
def kTILE_HM_DEFER : Kind := ⟨8, 9, 0, false⟩
/-- PWR_LINK_OV (R413, R414). -/
def kPWR_LINK_OV : Kind := ⟨9, 1, 3, true⟩
/-- PWR_STORE_OV (R413, R414). -/
def kPWR_STORE_OV : Kind := ⟨9, 2, 3, true⟩
/-- PWR_LINK_HIGH (R413, R414). -/
def kPWR_LINK_HIGH : Kind := ⟨9, 3, 0, false⟩
/-- PWR_LINK_UV (R413, R414). -/
def kPWR_LINK_UV : Kind := ⟨9, 4, 2, false⟩
/-- PWR_MAINS_LOST (R413, R414). -/
def kPWR_MAINS_LOST : Kind := ⟨9, 5, 0, false⟩
/-- PWR_RAIL_LIMIT (R413, R414). -/
def kPWR_RAIL_LIMIT : Kind := ⟨9, 6, 1, false⟩
/-- PWR_RAIL_UV (R413, R414). -/
def kPWR_RAIL_UV : Kind := ⟨9, 7, 1, false⟩
/-- PWR_RAIL_SHORT (R413, R414). -/
def kPWR_RAIL_SHORT : Kind := ⟨9, 8, 1, false⟩
/-- PWR_LOGIC_OVER (R413, R414). -/
def kPWR_LOGIC_OVER : Kind := ⟨9, 9, 2, false⟩
/-- PWR_DC_RANGE (R413, R414). -/
def kPWR_DC_RANGE : Kind := ⟨9, 10, 0, false⟩
/-- PWR_DC_REVERSED (R413, R414). -/
def kPWR_DC_REVERSED : Kind := ⟨9, 11, 0, false⟩
/-- PWR_DOC_OVER (R413, R414). -/
def kPWR_DOC_OVER : Kind := ⟨9, 12, 2, false⟩
/-- PWR_RESERVE (R413, R414). -/
def kPWR_RESERVE : Kind := ⟨9, 13, 2, false⟩
/-- PWR_HANDBACK_ABORT (R413, R414). -/
def kPWR_HANDBACK_ABORT : Kind := ⟨9, 14, 0, false⟩
/-- PWR_GROUP_MISMATCH (R413, R414). -/
def kPWR_GROUP_MISMATCH : Kind := ⟨9, 15, 0, false⟩
/-- MOT_OVERCURRENT (R413, R414). -/
def kMOT_OVERCURRENT : Kind := ⟨10, 1, 2, false⟩
/-- MOT_GATE (R413, R414). -/
def kMOT_GATE : Kind := ⟨10, 2, 2, false⟩
/-- MOT_SENSE_OFFSET (R413, R414). -/
def kMOT_SENSE_OFFSET : Kind := ⟨10, 3, 1, false⟩
/-- MOT_OPEN_PHASE (R413, R414). -/
def kMOT_OPEN_PHASE : Kind := ⟨10, 4, 2, false⟩
/-- MOT_PHASE_ORDER (R413, R414). -/
def kMOT_PHASE_ORDER : Kind := ⟨10, 5, 2, false⟩
/-- MOT_STALL (R413, R414). -/
def kMOT_STALL : Kind := ⟨10, 6, 2, false⟩
/-- MOT_HFI_WEAK (R413, R414). -/
def kMOT_HFI_WEAK : Kind := ⟨10, 7, 0, false⟩
/-- MOT_CATCH_OVER (R413, R414). -/
def kMOT_CATCH_OVER : Kind := ⟨10, 8, 1, false⟩
/-- MOT_SAMPLE_FORCED (R413, R414). -/
def kMOT_SAMPLE_FORCED : Kind := ⟨10, 9, 0, false⟩
/-- MOT_CMD_LOST (R413, R414). -/
def kMOT_CMD_LOST : Kind := ⟨10, 10, 2, false⟩
/-- THM_DIE_OT (R413, R414). -/
def kTHM_DIE_OT : Kind := ⟨11, 1, 3, true⟩
/-- THM_TILE_OT (R413, R414). -/
def kTHM_TILE_OT : Kind := ⟨11, 2, 1, false⟩
/-- THM_COOL_OT (R413, R414). -/
def kTHM_COOL_OT : Kind := ⟨11, 3, 2, false⟩
/-- THM_STORE_OT (R413, R414). -/
def kTHM_STORE_OT : Kind := ⟨11, 4, 2, false⟩
/-- THM_DUSK_LEVEL (R413, R414). -/
def kTHM_DUSK_LEVEL : Kind := ⟨11, 5, 0, false⟩
/-- THM_RATE (R413, R414). -/
def kTHM_RATE : Kind := ⟨11, 6, 1, false⟩
/-- THM_PAUSE_LIMIT (R413, R414). -/
def kTHM_PAUSE_LIMIT : Kind := ⟨11, 7, 0, false⟩
/-- THM_SENSOR (R413, R414). -/
def kTHM_SENSOR : Kind := ⟨11, 8, 2, false⟩
/-- THM_RECAL (R413, R414). -/
def kTHM_RECAL : Kind := ⟨11, 9, 0, false⟩
/-- FLT_REMOTE_STOP (R413, R414). -/
def kFLT_REMOTE_STOP : Kind := ⟨12, 1, 2, false⟩
/-- FLT_NV_DEFER (R413, R414). -/
def kFLT_NV_DEFER : Kind := ⟨12, 2, 0, false⟩
/-- CAL_DISAGREE (R413, R414). -/
def kCAL_DISAGREE : Kind := ⟨13, 1, 0, false⟩
/-- CAL_EXHAUSTED (R413, R414). -/
def kCAL_EXHAUSTED : Kind := ⟨13, 2, 1, false⟩
/-- CAL_RECORD (R413, R414). -/
def kCAL_RECORD : Kind := ⟨13, 3, 0, false⟩
/-- CAL_OVERDUE (R413, R414). -/
def kCAL_OVERDUE : Kind := ⟨13, 4, 0, false⟩
/-- MEM_ECC_CORR (R413, R414). -/
def kMEM_ECC_CORR : Kind := ⟨14, 1, 0, false⟩
/-- MEM_ECC_UNCORR (R413, R414). -/
def kMEM_ECC_UNCORR : Kind := ⟨14, 2, 2, false⟩
/-- CLK_BAD_DATE (R413, R414). -/
def kCLK_BAD_DATE : Kind := ⟨14, 3, 0, false⟩

/-- The greatest kind code of each source group, in group order (R413). -/
def kindCounts : List Nat := [4, 7, 6, 3, 8, 7, 6, 5, 9, 15, 10, 9, 2, 4, 3]

/-- The kinds fixed at HALT, by group and code (R417). -/
def fixedHalt : List (Nat × Nat) := [(9, 1), (9, 2), (11, 1), (0, 2)]

end Sys2Proof.Machine
end

