-- ==== Sys2Proof/Machine/State.lean ====
section
/-!
DEFINITION. The state of the engine as plain data: the register words, everything the chapters give the blocks beside
their registers, the queue of waiting commands, and the state before mains is applied (State.reset).
Every field's docstring names the rule that gives it.
-/
namespace Sys2Proof.Machine

/-- Whether the logic is unpowered, booting, up, or off at the logic reserve (R47, R48, R55). -/
inductive Phase where
  | unpowered
  | booting
  | up
  | logicOff
deriving DecidableEq, Repr

/-- Which check or store CFG_STATUS.BUSY stands for (R71, R92, R97). -/
inductive CheckKind where
  | arm
  | live
  | store
deriving DecidableEq, Repr

/-- An image held in an NV slot: its length and its nonzero bytes (R70, R71). -/
structure NvImage where
  len : Nat
  bytes : List Host.Cell
deriving DecidableEq, Repr

/-- A firmware slot in NV flash: the words written to it and their nonzero bytes (R489, R490). -/
structure FwSlot where
  words : Nat := 0
  bytes : List Host.Cell := []
deriving DecidableEq, Repr

/-- One record of the fault logs (R421), without its phase bit; `irq` remembers that the vector is owed (R420). -/
structure LogRec where
  msg : Nat
  time : Nat
  lastDt : Nat := 0
  count : Nat := 1
  eid : Nat := 0
  injected : Bool := false
  remote : Bool := false
  type : Nat := 0
  irq : Bool := false
deriving DecidableEq, Repr

/-- A fault message raised and not yet accepted at the hub (R411, R415): its fields, whether its class has already taken
effect while it waits for room, whether a lane die's collector has dropped it, and whether another engine forwarded it,
and which (R416, R420, R425, R427). -/
structure FaultMsg where
  die : Nat
  group : Nat
  inst : Nat
  kind : Nat
  cls : Nat
  seq : Nat
  addr : Nat
  time : Nat
  injected : Bool := false
  irq : Bool := false
  relay : Bool := false
  acted : Bool := false
  dropped : Bool := false
  remote : Bool := false
  eid : Nat := 0
deriving DecidableEq, Repr

/-- An open coalescing entry of a flood (R427): its key and what it has counted. -/
structure Coal where
  src : Nat
  kind : Nat
  eid : Nat
  count : Nat := 0
  first : Nat := 0
  msg : Nat := 0
  last : Nat := 0
  injected : Bool := false
  remote : Bool := false
  irq : Bool := false
deriving DecidableEq, Repr

/-- A record of the reaction table (R90). -/
structure Reaction where
  group : Nat
  kind : Nat
  cls : Nat
  irq : Bool
  relay : Bool
deriving DecidableEq, Repr

/-- A tile record of the layout image (R80). -/
structure TileRec where
  tile : Nat
  plane : Nat := 0
  bypassOk : Bool := false
  shuttle : Bool := false
  enable : Bool := true
  docwin : Nat := 0
  feed : Nat := 0
  split : Nat := 0
  colStart : Nat := 0
  yOffset : Int := 0
deriving DecidableEq, Repr

/-- A quad record of the layout image (R80). -/
structure QuadRec where
  vppMv : Nat := 0
  used : Bool := false
deriving DecidableEq, Repr

/-- A position input record of the layout image (R83); `tiles` is its 96-bit mask. -/
structure PosRec where
  mode : Nat := 0
  filterNs : Nat := 1
  refTake : Bool := false
  refSend : Bool := false
  dirchgIrq : Bool := false
  zEn : Bool := false
  invert : Bool := false
  ratio : Nat := 0x10000
  offset : Int := 0
  stillUs : Nat := 1000000
  tiles : Nat := 0
  refCh : Nat := 0
deriving DecidableEq, Repr

/-- A screen table (R85): its index, width, height and thresholds. -/
structure Screen where
  idx : Nat
  w : Nat
  h : Nat
  thr : List Nat
deriving DecidableEq, Repr

/-- The row-assignment policy (R85). -/
structure RowPolicy where
  rotate : Nat := 0
  maxdrop : Nat := 3
  drift : Nat := 0
deriving DecidableEq, Repr

/-- A mask set (R85): its index, kind, planes and the bytes of its planes. -/
structure MaskSet where
  idx : Nat
  kind : Nat
  planes : Nat
  bits : List Nat
deriving DecidableEq, Repr

/-- The history model (R85). -/
structure History where
  decay : Nat := 0
  heat : Nat := 0
  gain : Nat := 0
  limit : Nat := 0
deriving DecidableEq, Repr

/-- An energy table (R85). -/
structure Energy where
  plane : Nat
  base : List Nat
  vref : Nat
  vcoef : Int
  ranks : List Int
  stepPs : Nat
  prePs : Nat
  gapPs : Nat
deriving DecidableEq, Repr

/-- A feed table (R85): its index, N and its advances in 16.16 lines. -/
structure Feed where
  idx : Nat
  n : Nat
  adv : List Int
deriving DecidableEq, Repr

/-- A form-store region (R86). -/
structure Region where
  region : Nat
  kind : Nat
  baseMib : Nat
  sizeMib : Nat
deriving DecidableEq, Repr

/-- A cue line's record (R87); the defaults are those of an absent cue section (R78). -/
structure CueRec where
  func : Nat := 0
  activeLow : Bool := false
  safe : Nat := 2
  param : Nat := 0
  filterUs : Nat := 0
deriving DecidableEq, Repr

/-- A motor axis record (R88); the defaults are those of an absent motor section (R78). -/
structure AxisRec where
  role : Nat := 0
  cmdsrc : Nat := 0
  cmdmode : Nat := 0
  polePairs : Nat := 1
  ratedRpm : Nat := 1
  pwrW : Nat := 1
  pwmKhz : Nat := 16
  softDeg : Nat := 0
  accel : Nat := 0
  capPos : Int := 0
  posin : Nat := 0xFF
deriving DecidableEq, Repr

/-- The power budget record (R89). -/
structure Budget where
  headPm : Nat := 0
  motorPm : Nat := 0
  logicPm : Nat := 247
  headCapW : Nat := 0
  motorCapW : Nat := 0
  rtW : Nat := 0
  eveHeadW : Nat := 0
deriving DecidableEq, Repr

/-- The calibration policy (R91); the defaults are those of R453. -/
structure CalPolicy where
  compat : Nat := 0
  targets : Nat := 0x1F
  slewLines : Nat := 1200
  slewMs : Nat := 100
  tol : Nat := 1311
  intervalS : Nat := 3600
deriving DecidableEq, Repr

/-- A layout image in force, parsed (R78 to R91); `builtin` marks the keep-wet layout of R63. -/
structure Image where
  id : Nat := 0
  builtin : Bool := false
  tiles : List TileRec := []
  quads : List QuadRec := []
  pos : List PosRec := []
  routes : List (Nat × Nat) := []
  screens : List Screen := []
  policy : RowPolicy := {}
  masks : List MaskSet := []
  history : History := {}
  energy : List Energy := []
  feeds : List Feed := []
  regions : List Region := []
  laneBanks : List Nat := []
  spadBanks : List Nat := []
  cues : List CueRec := []
  axes : List AxisRec := []
  budget : Budget := {}
  reactions : List Reaction := []
  cal : CalPolicy := {}
deriving DecidableEq, Repr

/-- The content of an accepted live image (R78, R98). -/
structure LiveImage where
  id : Nat
  masks : List MaskSet := []
  energy : List Energy := []
  feeds : List Feed := []
  cues : Option (List CueRec) := none
deriving DecidableEq, Repr

/-- One NV copy of a calibration record (R444): its sequence number, whether its check passes, and its values. -/
structure CalCopy where
  seq : Nat
  ok : Bool := true
  vals : List Int := []
  date : Nat := 0
  time : Nat := 0
deriving DecidableEq, Repr

/-- One KH-4806 entry imported for a tile (R448, R449): its two DAC codes. -/
structure CompatEntry where
  dacA : Nat
  dacB : Nat
deriving DecidableEq, Repr

/-- A line reference waiting for its release (R133): when, and what it carries. -/
structure RefPend where
  at_ : Nat
  line : Nat
  dir : Bool
  marker : Bool := false
deriving DecidableEq, Repr

/-- An event emitted into the fabric and due at its destinations (R129). -/
structure FabEvt where
  due : Nat
  src : Nat
deriving DecidableEq, Repr

/-- A fire cycle taken whose strobe has not left (R147, R149, R153): its fire line, the strobe's target time, and the
document it belongs to. -/
structure Cycle where
  f : Nat
  target : Nat
  doc : Nat
deriving DecidableEq, Repr

/-- An item of a composition record (R229). -/
structure CmpItem where
  kind : Nat
  plane : Nat
  op : Nat
  screen : Nat
  handle : Nat
  x : Int
  y : Int
  srcX : Nat := 0
  srcY : Nat := 0
  w : Nat := 0
  h : Nat := 0
  counter : Nat := 0
  digits : Nat := 0
  lz : Bool := false
  pitch : Nat := 0
  fmt : Nat := 0
  offDays : Int := 0
deriving DecidableEq, Repr

/-- An accepted composition record (R228, R231): its place in the order of acceptance, the stream and ring index of its
descriptor, its settings, how many of its documents have opened and how many have begun to render. -/
structure CmpRec where
  seq : Nat
  stream : Nat
  index : Nat
  win : Nat
  tag : Nat
  lenValid : Bool
  test : Bool
  raw : Bool
  nomask : Bool
  maskset : Nat
  len : Nat
  extent : Nat
  repeats : Nat
  bgs : List Nat
  items : List CmpItem
  opened : Nat := 0
  started : Nat := 0
deriving DecidableEq, Repr

/-- A document being rendered or rendered (R233 to R240): its record and place within REPEAT, how far it has come (0
rendering, 1 rendered, 2 its counts delivered), whether it has opened, its nonzero dots by tile, line and column, the
calendar and serial values it read and the counters the host has written since, its work area in MiB, its planned drops by
quad, the tiles whose prefill is complete and the tiles that have taken its last line. -/
structure RDoc where
  id : Nat
  rcd : CmpRec
  rep : Nat
  stage : Nat := 0
  opened : Bool := false
  dots : List (Nat × Nat) := []
  date : List Nat := []
  serials : List (Nat × Nat) := []
  touched : List Nat := []
  wa : Nat := 0
  plan : List Nat := []
  prefilled : List Nat := []
  written : List Nat := []
deriving DecidableEq, Repr

/-- The document in progress in a window (R155 to R159): its rendered document (0 the built-in pattern), sequence number,
start line, length (0 open-ended) and last image line once fixed (−1 or less: none), its record's settings, the mask set in
force at its open, whether a close shortened it, whether a stop awaits the next line or has taken effect, and the planned
energy in pJ, in all and by quad, with the fire lines it is planned over. -/
structure Doc where
  id : Nat
  seq : Nat
  s : Nat
  len : Nat
  jEnd : Option Int := none
  test : Bool := false
  raw : Bool := false
  fixed : Bool := false
  mask : Option MaskSet := none
  extent : Nat := 0
  tag : Nat := 0
  stream : Nat := 0
  rep : Nat := 0
  short : Bool := false
  stopReq : Bool := false
  stopped : Bool := false
  noExtent : Bool := false
  energyPj : Nat := 0
  lines : Nat := 88
  quadPj : List Nat := []
deriving DecidableEq, Repr

/-- An open event waiting for its window (R158, R162). -/
structure Defer where
  since : Nat
deriving DecidableEq, Repr

/-- A fire cycle's packet (R174, R247 to R253, R318): its fire line and document, the header's values, the entries of the
nozzles that fire (nozzle index, and fire bit with width code), the drops and their codes' sum, its clamps, and whether its
data is complete. -/
structure Packet where
  f : Nat
  doc : Nat
  spit : Bool := false
  base : Nat := 0
  pre : Nat := 0
  gap : Nat := 0
  step : Nat := 0
  trims : List Int := []
  entries : List (Nat × Nat) := []
  fired : Nat := 0
  codes : Int := 0
  complete : Bool := true
deriving DecidableEq, Repr

/-- A form slot (R224, R227, R288): generation, owning stream, place in the form store, region, and whether its handle is
live; a slot freed while records still name it is kept. -/
structure Slot where
  gen : Nat
  owner : Nat
  base : Nat
  size : Nat
  region : Nat
  live : Bool := true
  kept : Bool := false
deriving DecidableEq, Repr
/-- Why a ring request was sent (R304 to R306, R311): a BAR2 read of the host's, a DMA read or write chunk, a document
report, a host read or write through position 0. -/
inductive ReqKind where
  | bar2
  | chunkRead
  | chunkWrite
  | docReport
  | hostRead
  | hostWrite
deriving DecidableEq, Repr

/-- A REQ sent and not yet answered (R305): its tag, destination, purpose, when it fails, the times a DOC_REPORT has been
sent again, and for a DMA chunk its stream, side and offset in transfer order; the packet is kept for sending again. -/
structure RingReq where
  rtag : Nat
  dst : Nat
  kind : ReqKind
  due : Nat
  tries : Nat := 0
  stream : Nat := 0
  side : Nat := 0
  off : Nat := 0
  hostTag : Nat := 0
  pkt : RingPkt
deriving DecidableEq, Repr

/-- Document reports that position 0 has collected for one document (R311, R312): the key, when the first arrived, the
stream, sequence number and flags of this engine's own document, and engine, STATUS, LAST and SKIPPED of each. -/
structure JoinDoc where
  win : Nat
  tag : Nat
  rep : Nat
  first : Nat
  stream : Nat := 4096
  seq : Nat := 0
  flags : Nat := 0
  reports : List (Nat × Nat × Nat × Nat) := []
deriving DecidableEq, Repr

/-- What an outstanding host read is for (R267, R276, R281, R306): descriptors, a chunk of a source or of COMPARE's other
side, the zero-length read of a BARRIER, another engine's HOST_RD, or nothing any more. -/
inductive ReadKind where
  | fetch
  | chunk
  | barrier
  | member
  | dropped
deriving DecidableEq, Repr

/-- A host read outstanding, or waiting for its retry (R37, R263): its tag, purpose, address and length, when it times out,
the retries made, when the next is due, and what it belongs to. -/
structure OutRead where
  tag : Nat
  kind : ReadKind
  stream : Nat := 0
  addr : Nat
  len : Nat
  due : Nat := 0
  tries : Nat := 0
  retryAt : Option Nat := none
  side : Nat := 0
  off : Nat := 0
  reqSrc : Nat := 0
  reqTag : Nat := 0
deriving DecidableEq, Repr

/-- A chunk of a transfer (R268, R273): its offset in transfer order, its source and destination addresses and its bytes. -/
structure Chunk where
  off : Nat
  src : Nat
  dst : Nat
  len : Nat
deriving DecidableEq, Repr

/-- A descriptor read and not yet accepted (R267): its ring index, its bytes, and when its doorbell came and its read was
issued (R466). -/
structure Fetched where
  index : Nat
  bytes : List Nat
  bell : Nat := 0
  readAt : Nat := 0
deriving DecidableEq, Repr

/-- The accepted descriptor a stream executes (R268, R269): its ring index and bytes, the chunks not yet begun, the chunks
whose data is awaited or whose write is not acknowledged, the data gathered (COMPARE and COMPOSE: side, offset, bytes),
its RESULT, STATUS and DETAIL, the memories and resolved addresses of its sides (0 host memory, 1 the form store, 2 the
staging window, 16 + an engine ID another engine's form store), whether all it does is done, whether its BARRIER's zero-length read
has been issued, and whether its BARRIER is acknowledged. -/
structure Exec where
  index : Nat
  bytes : List Nat
  srcMem : Nat := 0
  dstMem : Nat := 0
  srcBase : Nat := 0
  dstBase : Nat := 0
  todo : List Chunk := []
  begun : Bool := false
  flying : List Chunk := []
  acks : Nat := 0
  data : List (Nat × Nat × List Nat) := []
  result : Nat := 0
  status : Nat := 0
  detail : Nat := 0
  done : Bool := false
  asked : Bool := false
  acked : Bool := false
deriving DecidableEq, Repr
/-- A head-memory transaction under way (R331, R336, R337): the command code, the check errors met, when a retry is due,
the count being added with the nonce M the tile gave, and whether an AUTH_READ verifies an unanswered add. -/
structure HmTxn where
  op : Nat
  tries : Nat := 0
  retryAt : Option Nat := none
  started : Nat := 0
  delta : Nat := 0
  m : List Nat := []
  verify : Bool := false
deriving DecidableEq, Repr
/-- Where an axis stands in the start sequence of R376, running, stopping, or waiting (R374, R387). -/
inductive AxisSt where
  | off
  | catchCheck
  | catching
  | catchOver
  | openCheck
  | ident
  | initPos
  | syncHold
  | running
  | stopping
deriving DecidableEq, Repr
/-- A tag record (R465, R466): its type (1 nozzle-event, 2 dot, 3 descriptor), unit and identity, whether it is complete
or abandoned, and the SYS_TIME of each of its 13 points (0 not reached). -/
structure TagRec where
  typ : Nat
  unit_ : Nat
  idA : Nat
  idB : Nat
  abandoned : Bool := false
  done : Bool := false
  stamps : List Nat := []
deriving DecidableEq, Repr

/-- What the engine puts on its ports (R18 and the chapters named): the model's own record of it. -/
inductive Output where
  /-- A memory write the host port issues (R280, R282, R306). -/
  | hostWrite (addr : Nat) (data : List Nat)
  /-- A memory read request the host port issues, with its length in bytes (R263, R281). -/
  | hostRead (tag addr len : Nat)
  /-- The answer to a register, window or BAR read: its data, or an error status, 1 Unsupported Request, 2 Completer Abort (R261, R304, R305). -/
  | barData (status : Nat) (data : List Nat)
  /-- An MSI-X vector signalled (R260, R420). -/
  | msix (vec : Nat)
  /-- A packet out of a ring port (R297). -/
  | ring (port : Nat) (p : RingPkt)
  /-- A drain marker out of a ring port (R310). -/
  | drain (port : Nat)
  /-- A strobe's rising edge on a tile, with what the tile then fires (R149). -/
  | strobe (tile time : Nat) (p : Packet)
  /-- A packet sent to a tile, with the time its EOP leaves (R317, R320). -/
  | frame (tile eop : Nat) (p : Packet)
  /-- A DISCARD block naming a cycle tag (R321). -/
  | discard (tile tag : Nat)
  /-- A head-memory request on a tile's bus: the command byte and what follows (R331). -/
  | hmRequest (tile : Nat) (bytes : List Nat)
  /-- A cue output line driven to a level, or to high impedance (R87, R508). -/
  | cue (line : Nat) (level : Option Bool)
  /-- The alarm contact, closed or open (R420). -/
  | alarm (closed : Bool)
  /-- An Ethernet frame's contents from the service port (R491 to R494). -/
  | udp (addr port srcPort : Nat) (data : List Nat)
  | arp (addr : Nat)
  | icmp (addr : Nat) (data : List Nat)
  /-- Bytes sent on a fluid-sensor bus (R494). -/
  | fluid (bus : Nat) (data : List Nat)
  /-- What a service instruction shifts out (R489). -/
  | tap (v : Nat)
deriving DecidableEq, Repr

/-- What R477 and R55 fix for one module: the identity the SYS_ID and SYS_FW registers show. -/
structure Ident where
  /-- the variant: false KH-9612-L, true KH-9612-A (SYS_ID.VARIANT, 2 bits); reset DESIGN CHOICE false, log 3 (R1, R2, R477 (00,18)). -/
  variantA : Bool := false
  /-- silicon stepping, 4 bits; reset DESIGN CHOICE 1 (the first the spec names), log 3 (R477 (18)). -/
  step : Nat := 1
  /-- the Fletoiq slot running: true B; written by the boot (R55, R477 (18)). -/
  fwSlotB : Bool := false
  /-- Fletoiq major version, 7 bits; reset DESIGN CHOICE 0, log 3 (R477 (18)). -/
  fwMajor : Nat := 0
  /-- Fletoiq minor version, 8 bits; reset DESIGN CHOICE 0, log 3 (R477 (18)). -/
  fwMinor : Nat := 0
  /-- Fletoiq build number, 16 bits; reset DESIGN CHOICE 0, log 3 (R477 (18)). -/
  fwBuild : Nat := 0
  /-- the strap levels as sampled at logic reset, in the places of SYS_STRAP; reset DESIGN CHOICE 0 (no strap tied), log 3 (R61 (02)). -/
  straps : Nat := 0
deriving DecidableEq, Repr

/-- The state machine of chapter 02 beside its registers. -/
structure Sys where
  /-- whether the logic is unpowered, booting, up, or turned off at the logic reserve (R47, R48, R55 (02)). -/
  phase : Phase := .unpowered
  /-- the instant of power-on from which SYS_TIME counts, in 250 ps units (R22 (01)). -/
  powerOn : Nat := 0
  /-- Night or Midnight has been entered since the logic reset, so BAR0 answers (R56 (02)). -/
  bootDone : Bool := false
  /-- the firmware check step of the boot has ended (R55, R57 (02)). -/
  fwChecked : Bool := false
  /-- when the running 5 s stand-alone timer expires (R62 (02)). -/
  saDeadline : Option Nat := none
  /-- the first entry to Night after power-up has happened (R62 (02)). -/
  saSeenNight : Bool := false
  /-- the present Dawn was entered by the stand-alone timer (R62 (02)). -/
  saDawn : Bool := false
  /-- the tiles that failed the last Dawn or were declared absent in it (R82 (03)). -/
  dawnBad : List Nat := []
  /-- the cause of the present Dusk was SYS_CTRL.NIGHT or 0x0A, so Dusk ends in Night (R43 (02)). -/
  duskNight : Bool := false
  /-- the present Dusk was requested by thermal protection, so the finish test is repeated (R406 (14)). -/
  duskThermal : Bool := false
  /-- when the 8 s spit timer expires (R64 (02)). -/
  spitDeadline : Option Nat := none
  /-- the number k of the next cycle of the spit burst under way (R64 (02)). -/
  spitNext : Option Nat := none
  /-- when the next spit cycle of the burst is due (R64 (02)). -/
  spitDue : Nat := 0
  /-- the cycle from which a burst stopped by a start pulse is resumed after the pattern (R67 (02)). -/
  spitResume : Option Nat := none
  /-- Noon was entered for the check pattern, whose window opens at the next line event (R65 (02)). -/
  patternWait : Bool := false
  /-- the pattern's document has completed, so Dusk follows (R67 (02)). -/
  patternDone : Bool := false
  /-- while the pattern's window is open: the time of the last line event (R67 (02)). -/
  patternLast : Option Nat := none
  /-- when cue line 0 went high, while it is high (R65 (02)). -/
  cue0Rise : Option Nat := none
  /-- since when both mains and the DC input have been absent (R48 (02)). -/
  mainsGone : Option Nat := none
deriving DecidableEq, Repr

/-- What NV flash keeps through a logic reset; every value before the first write is DESIGN CHOICE empty or 0, log 4. -/
structure Nv where
  /-- the eight image slots: slot number and stored image (R70, R71 (03)). -/
  slots : List (Nat × NvImage) := []
  /-- the 32-byte layout key (R75 (03)). -/
  key : Option (List Nat) := none
  /-- CFG_LOCK.LAYOUT_LOCK (R76 (03)). -/
  layoutLock : Bool := false
  /-- the 32-byte usage master key K_m (R335 (11)). -/
  ukey : Option (List Nat) := none
  /-- copy A of each calibration record, by record number (R444 (16)). -/
  calA : List (Nat × CalCopy) := []
  /-- copy B of each calibration record, by record number (R444 (16)). -/
  calB : List (Nat × CalCopy) := []
  /-- the factory values of each calibration instance, by record number (what is not listed is 0, or 0x4000 for a share) (R443 (16)). -/
  factory : List (Nat × List Int) := []
  /-- the KH-4806 entries imported: slot × 256 + KH-9612 tile, and the two DAC codes (R448, R449 (16)). -/
  compat : List (Nat × CompatEntry) := []
  /-- the NV fault log by record index (R424 (15)). -/
  log : List (Nat × LogRec) := []
  /-- the next NV record index, 17 bits (R424, R431 (15)). -/
  logNext : Nat := 0
  /-- the NV log has wrapped (R424, R431 (15)). -/
  logWrapped : Bool := false
  /-- the most recent HALT reached NV (R424 (15)). -/
  haltSaved : Bool := false
  /-- firmware slot A (R55, R489 (02,19)). -/
  fwA : FwSlot := {}
  /-- firmware slot B (R55, R489 (02,19)). -/
  fwB : FwSlot := {}
deriving DecidableEq, Repr

/-- Layout images and the enable check, chapter 03. -/
structure Cfg where
  /-- the image in force; none without an armed image, builtin for the keep-wet layout (R93 (03)). -/
  armed : Option Image := none
  /-- the background copy of an accepted live image awaiting its swap (R98 (03)). -/
  live : Option LiveImage := none
  /-- the windows that have not yet swapped the pending live image (R161 (05)). -/
  liveWins : List Nat := []
  /-- the check or store in progress (R92, R71 (03)). -/
  busy : Option CheckKind := none
  /-- step 1 of the check under way, judged at the write (R93 (03)). -/
  busyPermit : Bool := true
  /-- CFG_SOURCE.SRC at the write that started the check (R92 (03)). -/
  busySrc : Nat := 0
  /-- CFG_NV_CTRL.SLOT at the write of STORE (R71 (03)). -/
  busySlot : Nat := 0
  /-- CFG_STATUS.LIVE_PENDING at the write that started the check (R96 (03)). -/
  busyLive : Bool := false
  /-- CFG_KEY_0 to CFG_KEY_7 as last written, 32 bits each (write only) (R75 (03)). -/
  keyBuf : List (Nat × Nat) := []
  /-- TILE_UKEY_0 to TILE_UKEY_7 as last written, 32 bits each (write only) (R335 (11)). -/
  ukeyBuf : List (Nat × Nat) := []
deriving DecidableEq, Repr

/-- A line state of R120 or a fire line state of R142. -/
structure LineState where
  /-- the line number, 32 bits (R120 (04)). -/
  line : Nat := 0
  /-- unsigned 16.16 ticks past the start of the line (R120 (04)). -/
  phase : Int := 0
  /-- signed 16.16 ticks by which interpolation has moved this line state past the count (R122 (04)). -/
  prog : Int := 0
deriving DecidableEq, Repr

/-- One position input beside its registers (the hub die's decoder). -/
structure PosIn where
  /-- filtered level of A (R102 (04)). -/
  levelA : Bool := true
  /-- filtered level of B (R102 (04)). -/
  levelB : Bool := true
  /-- filtered level of Z (R102 (04)). -/
  levelZ : Bool := true
  /-- the time t_k of the last count step (R116, R117 (04)). -/
  lastStep : Option Nat := none
  /-- a nonzero count step has happened since logic reset (so DIR has a previous step) (R112 (04)). -/
  stepped : Bool := false
  /-- count steps in the present direction since the last direction change, standstill or preset (R122 (04)). -/
  run : Nat := 0
  /-- the last four count-step intervals in one direction, newest first, in 250 ps (R116 (04)). -/
  intervals : List Nat := []
  /-- the count steps of the last 100 µs, newest first (R118 (04)). -/
  recent : List (Nat × Int) := []
  /-- the quadrature edge 0–3 of the last count step (R436 (16)). -/
  edge : Nat := 0
  /-- the line state behind POS_n_LINE and POS_n_LINE_PHASE (R120 (04)). -/
  ls : LineState := {}
  /-- the previous index latch, 48 bits (R114, R115 (04)). -/
  prevIdx : Option Nat := none
  /-- a direction change since the previous latch (R114 (04)). -/
  idxTurned : Bool := false
  /-- forward line events emitted, the counter line dumps follow (R463 (17)). -/
  fwdEvents : Nat := 0
  /-- the time of the last line event (R442 (16)). -/
  lastLineAt : Nat := 0
  /-- the interval between the last two line events, 0 none (R406 (14)). -/
  lineGap : Nat := 0
  /-- when the next heartbeat of a sending input is due (R136 (04)). -/
  hbDue : Nat := 0
deriving DecidableEq, Repr

/-- One ring line reference channel as this engine takes it. -/
structure RefCh where
  /-- the engine ID first heard since ARM (R137 (04)). -/
  heard : Option Nat := none
  /-- when the last packet arrived (R136 (04)). -/
  lastAt : Option Nat := none
  /-- references waiting for their release (R133 (04)). -/
  queue : List RefPend := []
deriving DecidableEq, Repr

/-- The position synthesizer beside its registers. -/
structure Pos where
  /-- the sixteen inputs (R102 (04)). -/
  inputs : List (Nat × PosIn) := []
  /-- the sixteen ring reference channels (R132 (04)). -/
  refs : List (Nat × RefCh) := []
  /-- events emitted and not yet delivered (R129 (04)). -/
  fabric : List FabEvt := []
deriving DecidableEq, Repr

/-- One tile's fire scheduler beside its registers. -/
structure FireT where
  /-- the fire line state behind FIRE_n_FLINE (R142 (05)). -/
  ls : LineState := {}
  /-- the held cycle and its strobe target (R153 (05)). -/
  held : Option Cycle := none
  /-- cycles taken whose strobe has not left, oldest first (R149 (05)). -/
  launch : List Cycle := []
  /-- the time of the tile's previous strobe (R153 (05)). -/
  lastStrobe : Option Nat := none
  /-- the time of the most recent forward fire line event (R181 (06)). -/
  ev1 : Option Nat := none
  /-- the time of the one before it (R181 (06)). -/
  ev2 : Option Nat := none
  /-- the internal number of the document the tile takes part in (R145 (05)). -/
  doc : Option Nat := none
  /-- the tile has passed S + J_end + 88 of its last pass (R157 (05)). -/
  finished : Bool := false
deriving DecidableEq, Repr

/-- One document window beside its registers. -/
structure Win where
  /-- the document in progress (R155 (05)). -/
  doc : Option Doc := none
  /-- a natural gap is open (R160 (05)). -/
  inGap : Bool := false
  /-- the coming gap has been announced to its consumers (R160 (05)). -/
  announced : Bool := false
  /-- the document has completed and its gap has not begun (R157, R160 (05)). -/
  ended : Bool := false
  /-- reference line events since the last strobe (R158 (05)). -/
  gapLines : Nat := 0
  /-- the timing-domain cycle in which the GAPMIN-th of them came (R158, R169 (05)). -/
  gapCycle : Option Nat := none
  /-- the reference line of the window's last strobe, once a document has printed since ARM (R158 (05)). -/
  lastLine : Option Nat := none
  /-- the open event that is deferred (R158, R162 (05)). -/
  defer : Option Defer := none
  /-- when the pause of the gap ends (R162 (05)). -/
  pauseTo : Option Nat := none
  /-- since when the pause runs (R162, R461 (05,17)). -/
  pauseFrom : Option Nat := none
  /-- an open is held for PWR_DOC_OVER, or for the check of Evening (R355, R356 (12)). -/
  holdOver : Bool := false
  /-- documents opened since the entry to Noon (R166 (05)). -/
  suDocs : Option Nat := none
  /-- documents opened since a health swap changed a class (R166 (05)). -/
  rcDocs : Option Nat := none
  /-- fire lines of the document whose cycle was discarded on some tile (R52, R154 (05)). -/
  skips : List Nat := []
  /-- when a swap was requested (R161 (05)). -/
  swapAt : Option Nat := none
  /-- consecutive thermal pause steps in this gap (R405 (14)). -/
  thmSteps : Nat := 0
  /-- when the thermal pause step under way ends (R405 (14)). -/
  thmTo : Option Nat := none
  /-- a rate action 1 is pending for the window (R405 (14)). -/
  ratePend : Bool := false
  /-- accepted composition records, oldest first (R231 (08)). -/
  queue : List CmpRec := []
deriving DecidableEq, Repr

/-- One nozzle's record in the nozzle-state bank (and the hub's copy, and the resistance table). -/
structure Noz where
  /-- trim τ_n in ps, 12 bits signed (R180 (06)). -/
  tau : Int := 0
  /-- heat state s_n, 16 bits (R180 (06)). -/
  heat : Nat := 0
  /-- foreground map entry, 4 bits (R205 (07)). -/
  fg : Nat := 0
  /-- background map entry, 4 bits (R205 (07)). -/
  bg : Nat := 0
  /-- resistance in 10 mΩ, 16 bits; 0xFFFF open, 0 not measured (R198 (07)). -/
  res : Nat := 0
  /-- consecutive scans in which the measurements disagreed (R197 (07)). -/
  dis : Nat := 0
deriving DecidableEq, Repr

/-- One tile's health, pulse and bypass state beside its registers. -/
structure TileH where
  /-- a first reading since Dawn has set the bin (R175 (06)). -/
  binKnown : Bool := false
  /-- the energy rank fixed at the end of Dawn (R176 (06)). -/
  rank : Nat := 0
  /-- the wear term in ps fixed at the end of Dawn (R176 (06)). -/
  wear : Nat := 0
  /-- consecutive valid VPP reports since the reports were lost (R179 (06)). -/
  validRun : Nat := 0
  /-- code clamps in the present document (R183 (06)). -/
  clamps : Nat := 0
  /-- PULSE_BASE_SAT already raised in this document or gap (R178 (06)). -/
  baseSatDoc : Bool := false
  /-- drops packed in the present document (R253 (08)). -/
  fired : Nat := 0
  /-- sum of their codes (R253 (08)). -/
  codes : Int := 0
  /-- a bypass of the tile is requested or follows from a failure (R214 (07)). -/
  bypassReq : Bool := false
  /-- the tile has failed and fires no further cycle (R215, R330 (07,11)). -/
  dead : Bool := false
  /-- the lane engine that serves the tile, 0–103 (R12, R219 (01,07)). -/
  engine : Option Nat := none
  /-- the engine being prepared for the tile (R219 (07)). -/
  moveTo : Option Nat := none
  /-- the move under way returns the tile to its own engine (R220 (07)). -/
  moveBack : Bool := false
  /-- the tile's engine failed and it waits for a spare (R218 (07)). -/
  waitSpare : Bool := false
  /-- the mean heater resistance R_t in mΩ in force, 0 unknown (R200, R207 (07)). -/
  rt : Nat := 0
  /-- the median of the scan completed since the last swap (R199, R207 (07)). -/
  medNext : Option Nat := none
  /-- the mean of that scan (R200, R207 (07)). -/
  rtNext : Option Nat := none
  /-- the tile's engine is to be rolled out at the next gap (R220 (07)). -/
  rollWait : Bool := false
  /-- tile-local overlap columns given to the other tile (R213 (07)). -/
  colsMoved : List Nat := []
  /-- agreed results of the scan under way that are neither open nor shorted (R199 (07)). -/
  results : List Nat := []
  /-- agreed results of good and drifting nozzles of the scan under way (R200 (07)). -/
  goods : List Nat := []
  /-- the planning energy E_t in pJ (R189 (06)). -/
  planned : Nat := 0
  /-- E_t may be used (R190 (06)). -/
  eKnown : Bool := false
  /-- nozzles measured in this gap, at most 2,048 (R196 (07)). -/
  scanned : Nat := 0
deriving DecidableEq, Repr

/-- One lane engine beside its registers. -/
structure Lane where
  /-- the document whose lines the line buffer holds (R243 (08)). -/
  bufDoc : Option Nat := none
  /-- slot number and the image line + 1 complete in it (R242 (08)). -/
  bufLines : List (Nat × Nat) := []
  /-- line buffer bytes, slot × 256 + byte (R241 (08)). -/
  buf : List Host.Cell := []
  /-- the cycle being prepared (R248 (08)). -/
  inFlight : Option Packet := none
  /-- the tile-port output register (R19 (01)). -/
  outReg : Option Packet := none
  /-- the last fire line packed in this document (R243 (08)). -/
  packed : Option Nat := none
  /-- the next fire line to prepare (R248 (08)). -/
  nextF : Option Nat := none
  /-- fire lines whose cycle's data is incomplete (R245 (08)). -/
  badF : List Nat := []
  /-- the engine is under its rolling self-test (R220 (07)). -/
  rollTest : Bool := false
deriving DecidableEq, Repr

/-- Lane spares and rolling tests beside their registers. -/
structure Health where
  /-- die and the time its next roll may begin (R220 (07)). -/
  rollDue : List (Nat × Nat) := []
  /-- die and 1 + the tile rolled out (R220 (07)). -/
  rollTile : List (Nat × Nat) := []
  /-- die and 1 + the lane tested last (R220 (07)). -/
  rollLast : List (Nat × Nat) := []
  /-- dies 0 hub, 1–4 lane whose timing PLL is out of lock (R23 (01)). -/
  dieUnlocked : List Nat := []
  /-- dies locked again and awaiting the next line boundary (R23 (01)). -/
  dieAwait : List Nat := []
  /-- dies whose strobes and inverter gates a HALT has gated off (R416 (15)). -/
  dieGated : List Nat := []
deriving DecidableEq, Repr

/-- The composer beside its registers. -/
structure Comp where
  /-- documents being rendered or rendered, oldest first (R239 (08)). -/
  docs : List RDoc := []
  /-- the model's own number for the next document (R233 (08)). -/
  nextDoc : Nat := 1
  /-- the place of the next accepted record in the order of acceptance (R231 (08)). -/
  nextRec : Nat := 0
deriving DecidableEq, Repr

/-- The PCIe endpoint beside its registers. -/
structure HostPort where
  /-- the link is trained (R259 (09)). -/
  linkUp : Bool := false
  /-- Max Read Request Size in bytes as the host set it; reset PRESUMED 512 (the PCI Express default), log 5 (R259, R263 (09)). -/
  mrrs : Nat := 512
  /-- completion timeout in µs as the host set it, 50 to 250,000; reset PRESUMED 50,000 (the PCI Express default range upper end), log 5 (R40 (01)). -/
  ctoUs : Nat := 50000
  /-- 0 5-bit, 1 Extended Tag, 2 10-bit; shown in HOST_LINK.TAGS (R263 (09)). -/
  tags : Nat := 0
  /-- Phantom Functions enabled (R263 (09)). -/
  phantom : Bool := false
  /-- Enable No Snoop set (R259 (09)). -/
  noSnoop : Bool := false
  /-- negotiated speed code 1–5 (R293 (09)). -/
  speed : Nat := 0
  /-- negotiated lanes (R293 (09)). -/
  width : Nat := 0
  /-- the MSI-X table, 2,048 entries of four words; the reset value is PCI Express's: masked, otherwise 0, log 5 (R259, R260 (09)). -/
  msixTable : List (Nat × BitVec 32) := []
  /-- vectors whose pending bit is set (R260 (09)). -/
  msixPend : List Nat := []
deriving DecidableEq, Repr

/-- One DMA stream beside its registers. -/
structure Stream where
  /-- the last accepted doorbell TAIL, 16 bits (R266 (09)). -/
  posted : Nat := 0
  /-- descriptors read and not yet accepted: ring index and the 64 bytes (R267 (09)). -/
  fetched : List Fetched := []
  /-- a descriptor read is outstanding (R267 (09)). -/
  fetching : Bool := false
  /-- doorbells whose descriptors are not yet read: how many each posted, and when (R466 (17)). -/
  bells : List (Nat × Nat) := []
  /-- when the outstanding descriptor read was issued (R466 (17)). -/
  readAt : Nat := 0
  /-- the accepted descriptor being executed (R268 (09)). -/
  exec : Option Exec := none
  /-- 4 KiB units allocated to the staging queue (R265 (09)). -/
  units : Nat := 0
  /-- records written and not yet freed by the host (R267 (09)). -/
  used : Nat := 0
  /-- since when CQ_WAIT has been set (R292 (09)). -/
  waitSince : Option Nat := none
deriving DecidableEq, Repr

/-- The DMA engine beside its registers. -/
structure Dma where
  /-- the 4,096 streams (R265 (09)). -/
  streams : List (Nat × Stream) := []
  /-- outstanding host reads (and those waiting for a retry) (R263 (09)). -/
  reads : List OutRead := []
  /-- the model's own number for the next read request (R263 (09)). -/
  nextTag : Nat := 1
  /-- the form slots by index: generation, owner, place, whether live or kept (R224, R288 (08,09)). -/
  slots : List (Nat × Slot) := []
deriving DecidableEq, Repr

/-- One ring port beside its registers. -/
structure RingPort where
  /-- since when a failed link has been healthy again (R310 (10)). -/
  healthyAt : Option Nat := none
  /-- retries of the frame under way (R37 (01)). -/
  retries : Nat := 0
  /-- a drain marker is out (R310 (10)). -/
  draining : Bool := false
  /-- the engine ID at the far end, if that engine holds a position (R302 (10)). -/
  far : Option Nat := none
deriving DecidableEq, Repr

/-- The ring block beside its registers. -/
structure Ring where
  /-- the four ports (R294 (10)). -/
  ports : List (Nat × RingPort) := []
  /-- REQs sent and not yet answered (R34, R305 (01,10)). -/
  reqs : List RingReq := []
  /-- the next request tag, 16 bits (R297 (10)). -/
  nextRtag : Nat := 0
  /-- the last SEQ sent, by VC (R298 (10)). -/
  seqOut : List (Nat × Nat) := []
  /-- 1 + the last SEQ accepted, by source engine ID × 4 + VC (R298 (10)). -/
  seqIn : List (Nat × Nat) := []
  /-- when the JOIN token sent is overdue (R300 (10)). -/
  joinDue : Option Nat := none
  /-- document reports position 0 has collected (R311, R312 (10)). -/
  reports : List JoinDoc := []
  /-- broadcast packets already forwarded over a bridge: source × 4 + VC, and SEQ (R313 (10)). -/
  bridged : List (Nat × Nat) := []
  /-- host reads that wait for position 0: requesting engine, its RTAG, address, length (R306 (10)). -/
  hostQ : List (Nat × Nat × Nat × Nat) := []
  /-- the position last granted one of the shared reads (R306 (10)). -/
  hostLast : Nat := 0
  /-- the breaks known, each by the position west of it (R308, R309 (10)). -/
  breaks : List Nat := []
deriving DecidableEq, Repr

/-- One tile port beside its registers. -/
structure TileP where
  /-- packets sent to the tile and not yet strobed or discarded, oldest first (R320 (11)). -/
  ready : List Packet := []
  /-- cycle tag and the time its EOP leaves (R321 (11)). -/
  eops : List (Nat × Nat) := []
  /-- the tag of the last strobe sent (R330 (11)). -/
  lastTag : Option Nat := none
  /-- consecutive strobes with LAST_TAG behind (R330 (11)). -/
  behind : Nat := 0
  /-- a report has been compared with the last strobe sent (R330 (11)). -/
  judged : Bool := true
  /-- the bytes of the identity and rank block read in this Dawn (R332 (11)). -/
  idBuf : List Host.Cell := []
  /-- how many of its 6,208 bytes have been read, from address 0 upward (R332 (11)). -/
  idRead : Nat := 0
  /-- the bytes of the usage block read in this Dawn, by offset from 0x2000 (R334 (11)). -/
  useBuf : List Host.Cell := []
  /-- how many of its 48 bytes have been read, from 0x2000 upward (R334 (11)). -/
  useRead : Nat := 0
  /-- consecutive reports with CRC_ERR (R330 (11)). -/
  crcRun : Nat := 0
  /-- when the last valid report arrived (R330 (11)). -/
  lastReport : Option Nat := none
  /-- valid VPP reports of the last 8 µs with their EOP times (R179 (06)). -/
  vpp : List (Nat × Nat) := []
  /-- consecutive valid reports since training began (R326 (11)). -/
  trainOk : Nat := 0
  /-- the tile has echoed TRAIN (R326 (11)). -/
  echoed : Bool := false
  /-- when the 3.3 V ramp ends (R326 (11)). -/
  rampEnd : Option Nat := none
  /-- when the VPP fuse was closed (R327 (11)). -/
  fuseAt : Option Nat := none
  /-- drops fired and not yet recorded in the tile (R337 (11)). -/
  pendUse : Nat := 0
  /-- COUNT of the usage block, 64 bits (R334 (11)). -/
  useCount : Nat := 0
  /-- SEQ of the current usage slot (R334 (11)). -/
  useSeq : Nat := 0
  /-- USERIAL, 64 bits (R334 (11)). -/
  userial : Nat := 0
  /-- ROW_DLY_r, rows 0–11 (R150, R332 (05,11)). -/
  rowDly : List Int := []
  /-- the row trims T_r in use, fixed within a document (R150 (05)). -/
  trInUse : List Int := []
  /-- whether the identity block passed, once read (R338 (11)). -/
  idOk : Option Bool := none
  /-- whether the usage block is usable and its tag matched, once read (R338 (11)). -/
  useOk : Option Bool := none
  /-- tag mismatches seen in this Dawn (R338 (11)). -/
  authTries : Nat := 0
  /-- the head-memory transaction under way (R331 (11)). -/
  hm : Option HmTxn := none
  /-- the VPP fuse was opened to remove power; when the 20 ms wait ends (R328 (11)). -/
  powerOff : Option Nat := none
  /-- only VPP is being removed: the 3.3 V switch stays closed (R345 (12)). -/
  keepLogic : Bool := false
deriving DecidableEq, Repr

/-- One quad rail beside its registers. -/
structure Rail where
  /-- the voltage in mV the rail ramps towards (R345 (12)). -/
  target : Nat := 0
  /-- a ramp is under way (R345 (12)). -/
  ramping : Bool := false
  /-- the next slot whose fuse is to close (R327 (11)). -/
  nextSlot : Option Nat := none
  /-- when it may close (R327 (11)). -/
  fuseDue : Nat := 0
deriving DecidableEq, Repr

/-- Mains, sources and the broker beside their registers. -/
structure Pwr where
  /-- since when mains has been present (R343 (12)). -/
  mainsAt : Option Nat := none
  /-- from when qualification is counted in QUAL (R359 (12)). -/
  qualFrom : Nat := 0
  /-- when OUT, or BACK, was entered (R359 (12)). -/
  outAt : Nat := 0
  /-- mains was lost during BACK (R359 (12)). -/
  backLost : Bool := false
  /-- the PFC stage draws from mains (R341 (12)). -/
  pfcOn : Bool := false
  /-- the DC converter is running (R350 (12)). -/
  dcOn : Bool := false
  /-- the store converter is stopped for overtemperature (R402 (14)). -/
  storeStop : Bool := false
  /-- a HALT has stopped the store converter (R364 (12)). -/
  storeHalt : Bool := false
  /-- 0 idle, 1 charging from the budget, 2 charging from braking energy, 3 discharging (R341, R348 (12)). -/
  storeMode : Nat := 0
  /-- link undervoltage has stopped the VPP converters and inverters (R341 (12)). -/
  convStop : Bool := false
  /-- the head energy account in µJ behind PWR_ACCT (R354 (12)). -/
  acctUj : Int := 0
  /-- the first ARM after power-up has set the account to its cap (R354 (12)). -/
  acctSet : Bool := false
  /-- the quad rails (R345 (12)). -/
  rails : List (Nat × Rail) := []
  /-- engine IDs heard on the group and when (R358 (12)). -/
  group : List (Nat × Nat) := []
  /-- when the next BUDGET packet is due (R357 (12)). -/
  budgetDue : Nat := 0
  /-- P_avail in W (R351 (12)). -/
  pAvail : Nat := 0
  /-- P_L in W (R351 (12)). -/
  pLogic : Nat := 0
  /-- E_need in µJ (R360 (12)). -/
  eNeed : Nat := 0
deriving DecidableEq, Repr

/-- One motor axis beside its registers. -/
structure Axis where
  /-- the step of the start sequence, or running, or stopping (R376 (13)). -/
  st : AxisSt := .off
  /-- the command in force asks the axis to run (R371 (13)). -/
  run : Bool := false
  /-- the speed command in force in rpm (R371, R372 (13)). -/
  target : Int := 0
  /-- torque mode in force (R371 (13)). -/
  torque : Bool := false
  /-- the torque command in force in mA (R371 (13)). -/
  iqCmd : Int := 0
  /-- when the start step under way ends at the latest (R376 (13)). -/
  stepEnd : Nat := 0
  /-- a sync event has arrived before the axis was holding (R374 (13)). -/
  syncKept : Bool := false
  /-- an identification has run since the last ARM (R376 (13)). -/
  identified : Bool := false
  /-- the i_d reference in mA (R380 (13)). -/
  idRef : Int := 0
  /-- the part of the i_d reference below 1 mA, in 1/1000 mA (R380 (13)). -/
  idFrac : Int := 0
  /-- consecutive periods predicted (R383 (13)). -/
  predicted : Nat := 0
  /-- when MOT_SAMPLE_FORCED was last raised (R383 (13)). -/
  forcedAt : Option Nat := none
  /-- since when both estimates have agreed (R385 (13)). -/
  agreeAt : Option Nat := none
  /-- since when the speed has been within 1 % (R375 (13)). -/
  speedAt : Option Nat := none
  /-- the at-speed source has been emitted for this command (R375 (13)). -/
  emitted : Bool := false
  /-- since when the axis has been slow at ILIM (R390 (13)). -/
  stallAt : Option Nat := none
  /-- count steps of POSIN still to be checked after the start (R389 (13)). -/
  ordLeft : Nat := 0
  /-- their sum (R389 (13)). -/
  ordNet : Int := 0
  /-- MOT_SENSE_OFFSET: the axis does not run until the next Dawn (R395 (13)). -/
  offsetBad : Bool := false
  /-- a fault has turned the gates off until RUN is written 1 again (R376, R388 (13)). -/
  fault : Bool := false
  /-- since when the sled has held still at CAP_POS (R393 (13)). -/
  heldAt : Option Nat := none
deriving DecidableEq, Repr

/-- The motor block beside its registers. -/
structure Mot where
  /-- the four axes (R367 (13)). -/
  axes : List (Nat × Axis) := []
  /-- the filtered pin command in 1/65,536 of RATED_RPM (R372 (13)). -/
  pinCmd : Int := 0
  /-- the filtered command is above its stop level (R372 (13)). -/
  pinOn : Bool := false
deriving DecidableEq, Repr

/-- One temperature sensor beside its registers. -/
structure Sensor where
  /-- readings of the last 255 ms in 0.1 °C, newest first (R401 (14)). -/
  hist : List (Nat × Int) := []
  /-- consecutive samples with the rate above LIMIT (R401 (14)). -/
  overRun : Nat := 0
  /-- an action has been taken and the rate has not since stayed at or below LIMIT for 1 s (R401 (14)). -/
  acted : Bool := false
  /-- since when the rate has been at or below LIMIT (R401 (14)). -/
  calmAt : Option Nat := none
  /-- since when neither condition for 20 kHz has held (R400 (14)). -/
  slowAt : Option Nat := none
  /-- the last valid reading stood at or above the Dusk level (R402 (14)). -/
  dusk : Bool := false
  /-- the last valid reading stood at or above the trip level (R402 (14)). -/
  trip : Bool := false
  /-- the last reading was invalid (R398 (14)). -/
  bad : Bool := false
deriving DecidableEq, Repr

/-- Thermal protection beside its registers. -/
structure Thm where
  /-- the 103 sensors (R397 (14)). -/
  sensors : List (Nat × Sensor) := []
  /-- the common offset of each lane die in 0.1 °C (R399 (14)). -/
  roOfs : List (Nat × Int) := []
  /-- relative offset of each oscillator from manufacture in 0.1 °C, die × 64 + k; DESIGN CHOICE 0, log 4 (R399 (14)). -/
  roRel : List (Nat × Int) := []
  /-- the last uncorrected oscillator readings in 0.1 °C, die × 64 + k (R399 (14)). -/
  roRaw : List (Nat × Int) := []
  /-- when each lane die was last recalibrated (R399 (14)). -/
  recalAt : List (Nat × Nat) := []
  /-- since when the store has read below 65.0 °C (R403 (14)). -/
  coolAt : Option Nat := none
  /-- since when the store has lain 2 °C inside its range (R407 (14)). -/
  chgAt : Option Nat := none
  /-- the sensor that requested the present Dusk (R406 (14)). -/
  duskSensor : Option Nat := none
deriving DecidableEq, Repr

/-- The fault collector beside its registers. -/
structure Flt where
  /-- messages raised and not yet accepted at the hub, oldest first (the die queues) (R415, R416 (15)). -/
  wire : List FaultMsg := []
  /-- the last SEQ of each source, by bits [63:52] (R415 (15)). -/
  seqs : List (Nat × Nat) := []
  /-- the hub queue of at most 1,024 records, oldest first (R421 (15)). -/
  queue : List LogRec := []
  /-- open coalescing entries (R427 (15)). -/
  entries : List Coal := []
  /-- sources, kinds and engine IDs queued in this flood for which the table had no entry left (R427 (15)). -/
  seen : List (Nat × Nat × Nat) := []
  /-- when FLOOD was set (R427 (15)). -/
  floodAt : Nat := 0
  /-- when the last repeat of the flood was coalesced (R427 (15)). -/
  repeatAt : Option Nat := none
  /-- NOTEs dropped in this flood (R428 (15)). -/
  fNote : Nat := 0
  /-- DEGRADEs dropped in this flood (R428 (15)). -/
  fDegr : Nat := 0
  /-- messages undeliverable to position 0 in this flood (R421, R425 (15)). -/
  fRing : Nat := 0
  /-- occurrences counted or dropped that await their record with the IRQ flag, by TYPE (R420 (15)). -/
  irqHeld : List Nat := []
  /-- the on-die history, the last 1,024 records, oldest first (R423 (15)). -/
  hist : List LogRec := []
  /-- records in the host log not yet freed by the host (R422 (15)). -/
  logIdx : Nat := 0
  /-- records waiting for the NV log, oldest first (R424 (15)). -/
  nvQ : List LogRec := []
  /-- the reaction table that the last accepted ARM installed (R415 (15)). -/
  reactions : List Reaction := []
deriving DecidableEq, Repr

/-- One calibration instance. -/
structure CalInst where
  /-- the components in force (R442 (16)). -/
  force : List Int := []
  /-- the components the slew runs to (R442 (16)). -/
  target : List Int := []
  /-- the components the slew started from (R442 (16)). -/
  start : List Int := []
  /-- the slew's length in line events or ms, 0 no slew (R442 (16)). -/
  total : Nat := 0
  /-- the part of it already run (R442 (16)). -/
  done : Nat := 0
  /-- when the slew started or last stepped without a line event (R442 (16)). -/
  slewAt : Nat := 0
  /-- RUN_NOW was written while the instance was being measured (R451 (16)). -/
  again : Bool := false
  /-- a component runs on its factory value (R443 (16)). -/
  factory : Bool := false
  /-- the first of the two measurements (R439 (16)). -/
  first : Option (List Int) := none
  /-- when the last agreed result came (R440 (16)). -/
  lastAt : Option Nat := none
  /-- the instance is due (R440 (16)). -/
  due : Bool := false
  /-- when it became due (R441 (16)). -/
  dueAt : Nat := 0
  /-- how often CAL_OVERDUE has been raised for it (R441 (16)). -/
  overdue : Nat := 0
  /-- target 3: edges counted by sampling phase (R437 (16)). -/
  bins : List Nat := [0, 0, 0, 0]
  /-- the components whose record write awaits the interlock (R446 (16)). -/
  nvWait : Option (List Int) := none
  /-- target 4: the value awaiting the next swap boundary (R442 (16)). -/
  pendT : Option (List Int) := none
  /-- measured in this Dawn (R443 (16)). -/
  fromDawn : Bool := false
deriving DecidableEq, Repr

/-- Calibration beside its registers. -/
structure Cal where
  /-- the instances by record number target × 256 + instance (R432 (16)). -/
  insts : List (Nat × CalInst) := []
  /-- the calibration policy in force (R91, R453 (03,16)). -/
  policy : CalPolicy := {}
deriving DecidableEq, Repr

/-- The memories with contents. -/
structure Mem where
  /-- the 64 GiB form store by byte offset; unlisted bytes read as Config.formPowerOn, log 6 (R454 (17)). -/
  form : List Host.Cell := []
  /-- the 4 MiB image staging area (scratchpad banks 16–31); unlisted bytes read 0 (R70) (R70 (03)). -/
  staging : List Host.Cell := []
  /-- when MEM_ECC_CORR was last raised (R460 (17)). -/
  eccAt : Option Nat := none
  /-- 64-byte blocks of the form store in which the composer's present rendering met an uncorrectable error (R460 (17)). -/
  eccBad : List Nat := []
  /-- the image under check has a word with an uncorrectable error (R460, R71 (17,03)). -/
  eccImage : Bool := false
deriving DecidableEq, Repr

/-- Performance counters, dumps and tags beside their registers. -/
structure Pmc where
  /-- when (in µs or line events) the next periodic dump is due (R463 (17)). -/
  dumpDue : Nat := 0
  /-- the dump number SEQ (R464 (17)). -/
  seq : Nat := 0
  /-- dumps skipped since the last record (R464 (17)). -/
  skips : Nat := 0
  /-- dump records not yet freed by the host (R464 (17)). -/
  dumpUsed : Nat := 0
  /-- the tagging LFSR, 32 bits (R465 (17)). -/
  lfsr : Nat := 1
  /-- the tag in flight (R465, R466 (17)). -/
  flying : Option TagRec := none
  /-- the entries of PMC_TAGWIN by number; DESIGN CHOICE all zero before a record is written, log 21 (R466 (17)). -/
  win : List (Nat × TagRec) := []
deriving DecidableEq, Repr

/-- The calendar. -/
structure Clk where
  /-- year − 2000 (R468 (17)). -/
  year : Nat := 0
  /-- month 1–12 (R468 (17)). -/
  month : Nat := 1
  /-- day 1–31 (R468 (17)). -/
  day : Nat := 1
  /-- hour 0–23 (R468 (17)). -/
  hour : Nat := 0
  /-- minute 0–59 (R468 (17)). -/
  minute : Nat := 0
  /-- second 0–59 (R468 (17)). -/
  second : Nat := 0
  /-- the calendar holds at its last second (R468 (17)). -/
  ended : Bool := false
  /-- set since its supply last failed (R471 (17)). -/
  valid : Bool := false
  /-- the last CLK_DATE written by each master since the last set, by master code (R469 (17)). -/
  dates : List (Nat × Nat) := []
deriving DecidableEq, Repr

/-- One fluid-sensor bus bridge. -/
structure Fluid where
  /-- the address and port that last sent to the bridge's port (R494 (19)). -/
  peer : Option (Nat × Nat) := none
  /-- datagrams waiting, at most 4 (R494 (19)). -/
  tx : List (List Nat) := []
  /-- the datagram being sent on the bus (R494 (19)). -/
  sending : Option (List Nat) := none
deriving DecidableEq, Repr

/-- Service connector, Ethernet, fluid buses, cue lines and supplies. -/
structure Svc where
  /-- the TAP instruction selected, 8 bits (BYPASS after test-logic reset) (R489 (19)). -/
  tapIr : Nat := 255
  /-- the 64 MiB firmware load buffer (R490 (19)). -/
  fwBuf : List Host.Cell := []
  /-- words loaded, 24 bits (R489 (19)). -/
  fwWords : Nat := 0
  /-- status of the last service action, 8 bits (R489 (19)). -/
  fwStatus : Nat := 0
  /-- the slot a FW_COMMIT under way writes (R489 (19)). -/
  fwSlot : Nat := 0
  /-- FLUID0 (R493 (19)). -/
  fluid0 : Fluid := {}
  /-- FLUID1 (R493 (19)). -/
  fluid1 : Fluid := {}
  /-- the accepted pin level of each cue line (unlisted low) (R485 (19)). -/
  cueIn : List (Nat × Bool) := []
  /-- cue lines held at their safe level: 0 until the gap ends, otherwise 1 + the instant the hold ends (R100 (03)). -/
  cueHold : List (Nat × Nat) := []
  /-- event outputs whose pulse runs, and when it ends (R508 (03)). -/
  cuePulse : List (Nat × Nat) := []
  /-- outputs off after an overload, and when they retry (R485 (19)). -/
  cueOver : List (Nat × Nat) := []
  /-- the level each cue output drives (unlisted high impedance) (R485 (19)). -/
  cueOut : List (Nat × Bool) := []
  /-- connectors (0 LO, 1 HI) whose CUE_VIN lies below 15 V (R486 (19)). -/
  vinLow : List Nat := []
  /-- output lines whose low-supply note has been raised since it was last armed (R486 (19)). -/
  vinNoted : List Nat := []
  /-- the alarm contact ALM_COM to ALM_NO is open (R420 (15)). -/
  alarmOpen : Bool := true
deriving DecidableEq, Repr

/-- The whole block. -/
structure State where
  /-- every register word that differs from its reset word, by BAR0 offset (R5, R479 (00,18)). -/
  regs : List (Nat × BitVec 32) := []
  /-- the snapshot of each _HI register, by master code × 2^24 + offset (R6 (00)). -/
  snaps : List (Nat × BitVec 32) := []
  /-- the most recent _LO value written, by master code × 2^24 + offset (R7 (00)). -/
  lows : List (Nat × BitVec 32) := []
  /-- the present instant in units of 250 ps (R20, R22 (01)). -/
  now : Nat := 0
  /-- identity and straps (R477 (18)). -/
  ident : Ident := {}
  /-- NV flash (R454 (17)). -/
  nv : Nv := {}
  /-- state machine (R42 (02)). -/
  sys : Sys := {}
  /-- layout images (R70 (03)). -/
  cfg : Cfg := {}
  /-- position synthesizer (R102 (04)). -/
  pos : Pos := {}
  /-- the 96 fire schedulers (R141 (05)). -/
  fire : List (Nat × FireT) := []
  /-- the sixteen document windows (R155 (05)). -/
  wins : List (Nat × Win) := []
  /-- nozzle records by tile × 12,288 + nozzle index (R205, R241 (07,08)). -/
  noz : List (Nat × Noz) := []
  /-- health and pulse state of the 96 tiles (R194 (07)). -/
  tileH : List (Nat × TileH) := []
  /-- the 104 lane engines (R241 (08)). -/
  lanes : List (Nat × Lane) := []
  /-- spares, rolls and die gating (R217 (07)). -/
  health : Health := {}
  /-- composer (R233 (08)). -/
  comp : Comp := {}
  /-- host port (R259 (09)). -/
  host : HostPort := {}
  /-- DMA engine (R265 (09)). -/
  dma : Dma := {}
  /-- ring block (R294 (10)). -/
  ring : Ring := {}
  /-- the 96 tile ports (R316 (11)). -/
  ports : List (Nat × TileP) := []
  /-- power (R341 (12)). -/
  pwr : Pwr := {}
  /-- motors (R367 (13)). -/
  mot : Mot := {}
  /-- thermal protection (R397 (14)). -/
  thm : Thm := {}
  /-- fault collector (R411 (15)). -/
  flt : Flt := {}
  /-- calibration (R432 (16)). -/
  cal : Cal := {}
  /-- memories (R454 (17)). -/
  mem : Mem := {}
  /-- performance counters (R461 (17)). -/
  pmc : Pmc := {}
  /-- calendar (R468 (17)). -/
  clk : Clk := {}
  /-- service functions and cue lines (R485 (19)). -/
  svc : Svc := {}
  /-- the model's own record of what the engine has put on its ports, newest first (DESIGN CHOICE, log 2) (R18 (01)). -/
  out : List Output := []
  /-- the model's own counter from which a fresh free value is drawn (DESIGN CHOICE 0, log 7) (R48, R132, R286, R383, R458 (02,04,09,13,17)). -/
  draws : Nat := 0
  /-- the queue of commands waiting, first in first out (the model's own) (-). -/
  pending : List Instr := []
deriving DecidableEq, Repr

/-- Why the machine could stop with a fault. The spec gives every command of the table an effect, so no meaning
raises one; the one constructor is the queue's own and nothing raises it (safe). -/
inductive Fault where
  /-- Raised by nothing: the spec describes every error of the engine as an effect on its state (safe). -/
  | none
deriving DecidableEq, Repr

/-- Why a command could be refused. -/
inductive Refusal where
  /-- The command has no meaning in the model yet: raised by its arm of `exec` alone (safe: the machine stops). -/
  | notModelled (mnemonic : String)
deriving DecidableEq, Repr

/-- The module before mains is applied: every register at its reset word, NV flash empty, nothing under way, no
command waiting (R48, R55; the values the spec leaves open are those of log entries 3 to 7). -/
def State.reset : State := {}

end Sys2Proof.Machine
end

