-- ==== Sys2Proof/Machine/RegMap.lean ====
section
/-!
DEFINITION. The register map: one row for every register of the index of R479 (base, count, stride, reset word and
the bits of each access code of R9), and one named field for every field of the register tables of the chapters.
A field's name is its register's name in the manual followed by the field's; an indexed register's fields take the
number. Reset fields that the tables give as Strap, Boot, Fixed, NV or Calendar stand as 0 here; reading the
register shows the state they come from (Sys2Proof.Machine.overlay).
-/
namespace Sys2Proof.Machine

/-- A register family of the index of R479: `count` words, `stride` bytes apart from BAR0 offset `base`, with the
reset word and the bits of each access code of R9 (the other bits are RO). -/
structure RegRow where
  base : Nat
  count : Nat
  stride : Nat
  reset : Nat
  rw : Nat
  wo : Nat
  w1s : Nat
  w1c : Nat
  rc : Nat
deriving DecidableEq, Repr

/-- The number which BAR0 offset `off` has in the family, if it has one. -/
def RegRow.idx? (r : RegRow) (off : Nat) : Option Nat :=
  if r.base ≤ off then
    if (off - r.base) % r.stride = 0 then
      if (off - r.base) / r.stride < r.count then some ((off - r.base) / r.stride) else none
    else none
  else none

/-- The bits of a register that some field occupies: every other bit is reserved and reads 0 (R8). -/
structure Field where
  off : Nat
  lo : Nat
  w : Nat
deriving DecidableEq, Repr

/-- The rows of the block at BAR0 offset 0x0 (R101, R473, R477, R69). -/
def sysRows : List RegRow :=
  [⟨0x10, 1, 0x4, 0x0, 0x0, 0x0, 0x0, 0x0, 0x0⟩,
   ⟨0x14, 1, 0x4, 0x0, 0x108, 0x13, 0x0, 0x0, 0x0⟩,
   ⟨0x18, 1, 0x4, 0x0, 0x0, 0x0, 0x0, 0x0, 0x0⟩,
   ⟨0x1C, 1, 0x4, 0x0, 0x0, 0x0, 0x0, 0x0, 0x0⟩,
   ⟨0x20, 1, 0x4, 0x0, 0x0, 0x3, 0x0, 0x0, 0x0⟩,
   ⟨0x28, 1, 0x4, 0x0, 0x0, 0x0, 0x0, 0x0, 0x0⟩,
   ⟨0x2C, 1, 0x4, 0x0, 0x0, 0x0, 0x0, 0x0, 0x0⟩,
   ⟨0x0, 1, 0x4, 0x96120000, 0x0, 0x0, 0x0, 0x0, 0x0⟩,
   ⟨0x4, 1, 0x4, 0x0, 0x0, 0x0, 0x0, 0x0, 0x0⟩]

/-- The rows of the block at BAR0 offset 0x10000 (R101). -/
def cfgRows : List RegRow :=
  [⟨0x10000, 1, 0x4, 0x0, 0x0, 0x0, 0x0, 0x0, 0x0⟩,
   ⟨0x10004, 1, 0x4, 0x0, 0x0, 0x0, 0x0, 0x0, 0x0⟩,
   ⟨0x10008, 1, 0x4, 0x0, 0xF, 0x0, 0x0, 0x0, 0x0⟩,
   ⟨0x1000C, 1, 0x4, 0x0, 0x0, 0x0, 0x0, 0x0, 0x0⟩,
   ⟨0x10010, 1, 0x4, 0x102, 0x0, 0x0, 0x0, 0x0, 0x0⟩,
   ⟨0x10014, 1, 0x4, 0x0, 0x0, 0x0, 0x1, 0x0, 0x0⟩,
   ⟨0x10018, 1, 0x4, 0x0, 0x7, 0x8, 0x0, 0x0, 0x0⟩,
   ⟨0x10040, 8, 0x4, 0x0, 0x0, 0xFFFFFFFF, 0x0, 0x0, 0x0⟩]

/-- The rows of the block at BAR0 offset 0x100000 (R140). -/
def posRows : List RegRow :=
  [⟨0x100000, 16, 0x100, 0x0, 0xFFFFFFFF, 0x0, 0x0, 0x0, 0x0⟩,
   ⟨0x100004, 16, 0x100, 0x0, 0xFFFFFFFF, 0x0, 0x0, 0x0, 0x0⟩,
   ⟨0x100008, 16, 0x100, 0x0, 0x7, 0x0, 0x0, 0x0, 0x0⟩,
   ⟨0x10000C, 16, 0x100, 0x80000000, 0x0, 0x0, 0x0, 0x77, 0x0⟩,
   ⟨0x100010, 16, 0x100, 0x0, 0x0, 0x0, 0x0, 0x0, 0x0⟩,
   ⟨0x100014, 16, 0x100, 0x0, 0x0, 0x0, 0x0, 0x0, 0x0⟩,
   ⟨0x100018, 16, 0x100, 0x0, 0xFFFFFFFF, 0x0, 0x0, 0x0, 0x0⟩,
   ⟨0x10001C, 16, 0x100, 0x0, 0xFFFF, 0x0, 0x0, 0x0, 0x0⟩,
   ⟨0x100020, 16, 0x100, 0x0, 0x0, 0x0, 0x0, 0x0, 0x0⟩,
   ⟨0x100024, 16, 0x100, 0x0, 0x0, 0x0, 0x0, 0x0, 0x0⟩,
   ⟨0x100028, 16, 0x100, 0x0, 0xFFFFFFFF, 0x0, 0x0, 0x0, 0x0⟩,
   ⟨0x10002C, 16, 0x100, 0x0, 0xFFFF0000, 0x0, 0x0, 0x0, 0x0⟩] ++
  [⟨0x100030, 16, 0x100, 0xFFFFFFFF, 0x0, 0x0, 0x0, 0x0, 0x0⟩,
   ⟨0x100034, 16, 0x100, 0x0, 0x0, 0x0, 0x0, 0x0, 0x0⟩,
   ⟨0x100038, 16, 0x100, 0x0, 0x0, 0x0, 0x0, 0x0, 0x0⟩,
   ⟨0x10003C, 16, 0x100, 0x0, 0x0, 0x0, 0x0, 0x0, 0x0⟩,
   ⟨0x100040, 16, 0x100, 0x0, 0x0, 0x0, 0x0, 0x0, 0xFFFFFFFF⟩,
   ⟨0x101000, 16, 0x4, 0x0, 0xFFFFFFFF, 0x0, 0x0, 0x0, 0x0⟩,
   ⟨0x101040, 1, 0x4, 0x2710, 0x7FFF, 0x0, 0x0, 0x0, 0x0⟩,
   ⟨0x101044, 1, 0x4, 0x0, 0x0, 0x0, 0x0, 0xFFFF0000, 0x0⟩,
   ⟨0x101048, 1, 0x4, 0x0, 0x0, 0x0, 0x0, 0x0, 0xFFFFFFFF⟩,
   ⟨0x10104C, 1, 0x4, 0x0, 0x7FF, 0x0, 0x0, 0xFFFF0000, 0x0⟩]

/-- The rows of the block at BAR0 offset 0x120000 (R171). -/
def fireRows : List RegRow :=
  [⟨0x120000, 1, 0x4, 0x0, 0xF, 0x0, 0x0, 0x0, 0x0⟩,
   ⟨0x120100, 16, 0x20, 0x100, 0xFFFFFF01, 0x0, 0x0, 0x0, 0x0⟩,
   ⟨0x120104, 16, 0x20, 0x0, 0xFFFFFFFF, 0x0, 0x0, 0x0, 0x0⟩,
   ⟨0x120108, 16, 0x20, 0x0, 0xFFFFFFFF, 0x0, 0x0, 0x0, 0x0⟩,
   ⟨0x12010C, 16, 0x20, 0x0, 0x0, 0x0, 0x0, 0x3, 0x0⟩,
   ⟨0x120110, 16, 0x20, 0x0, 0xFFFFFFFF, 0x0, 0x0, 0x0, 0x0⟩,
   ⟨0x120114, 16, 0x20, 0x0, 0x0, 0x0, 0x0, 0x0, 0x0⟩,
   ⟨0x120118, 16, 0x20, 0x0, 0x0, 0x0, 0x0, 0x0, 0x0⟩,
   ⟨0x12011C, 16, 0x20, 0x0, 0x0, 0x0, 0x0, 0x0, 0xFFFFFFFF⟩,
   ⟨0x121000, 96, 0x20, 0x0, 0x0, 0x0, 0x0, 0x6, 0x0⟩,
   ⟨0x121004, 96, 0x20, 0x0, 0x0, 0x0, 0x0, 0x0, 0x0⟩,
   ⟨0x121008, 96, 0x20, 0x0, 0x0, 0x0, 0x0, 0x0, 0x0⟩] ++
  [⟨0x12100C, 96, 0x20, 0x0, 0x0, 0x0, 0x0, 0x0, 0x0⟩,
   ⟨0x121010, 96, 0x20, 0x0, 0x0, 0x0, 0x0, 0x0, 0xFFFFFFFF⟩,
   ⟨0x121014, 96, 0x20, 0x0, 0x0, 0x0, 0x0, 0x0, 0xFFFFFFFF⟩]

/-- The rows of the block at BAR0 offset 0x130000 (R193). -/
def pulseRows : List RegRow :=
  [⟨0x130000, 1, 0x4, 0x4000001, 0xFFFF0001, 0x0, 0x0, 0x0, 0x0⟩,
   ⟨0x130004, 1, 0x4, 0x7D000C8, 0xFFFFFFFF, 0x0, 0x0, 0x0, 0x0⟩,
   ⟨0x130100, 24, 0x4, 0x0, 0x0, 0x0, 0x0, 0x0, 0x0⟩,
   ⟨0x131000, 96, 0x20, 0x0, 0x0, 0x0, 0x0, 0x3, 0x0⟩,
   ⟨0x131004, 96, 0x20, 0x0, 0x0, 0x0, 0x0, 0x0, 0x0⟩,
   ⟨0x131008, 96, 0x20, 0x0, 0x0, 0x0, 0x0, 0x0, 0xFFFFFFFF⟩,
   ⟨0x13100C, 96, 0x20, 0x0, 0x0, 0x0, 0x0, 0x0, 0x0⟩,
   ⟨0x131010, 96, 0x20, 0x0, 0x0, 0x0, 0x0, 0x0, 0x0⟩,
   ⟨0x131014, 96, 0x20, 0x0, 0x0, 0x0, 0x0, 0x0, 0x0⟩]

/-- The rows of the block at BAR0 offset 0x140000 (R223). -/
def hlthRows : List RegRow :=
  [⟨0x140000, 1, 0x4, 0x500A0001, 0xFFFF0003, 0x0, 0x0, 0x0, 0x0⟩,
   ⟨0x140004, 1, 0x4, 0x1900028, 0xFFFFFFFF, 0x0, 0x0, 0x0, 0x0⟩,
   ⟨0x140008, 1, 0x4, 0x0, 0x0, 0x807F3FFF, 0x0, 0x0, 0x0⟩,
   ⟨0x14000C, 1, 0x4, 0x0, 0x0, 0x8000007F, 0x0, 0x0, 0x0⟩,
   ⟨0x140010, 1, 0x4, 0xE10, 0xFFFF, 0x0, 0x0, 0x0, 0x0⟩,
   ⟨0x140014, 1, 0x4, 0x0, 0x0, 0x0, 0x0, 0x0, 0x0⟩,
   ⟨0x141000, 96, 0x20, 0x0, 0x0, 0x0, 0x0, 0x0, 0x0⟩,
   ⟨0x141004, 96, 0x20, 0x0, 0x0, 0x0, 0x0, 0x0, 0x0⟩,
   ⟨0x141008, 96, 0x20, 0x0, 0x0, 0x0, 0x0, 0x0, 0x0⟩,
   ⟨0x14100C, 96, 0x20, 0x0, 0x0, 0x0, 0x0, 0x0, 0x0⟩,
   ⟨0x141010, 96, 0x20, 0x0, 0x0, 0x0, 0x0, 0x0, 0xFFFFFFFF⟩,
   ⟨0x141014, 96, 0x20, 0x0, 0x0, 0x0, 0x0, 0x0, 0xFFFF⟩] ++
  [⟨0x141018, 96, 0x20, 0x0, 0x0, 0x0, 0x0, 0x0, 0x0⟩,
   ⟨0x14101C, 96, 0x20, 0x0, 0x0, 0x0, 0x0, 0x0, 0x0⟩]

/-- The rows of the block at BAR0 offset 0x150000 (R258). -/
def cmpRows : List RegRow :=
  [⟨0x150000, 1, 0x4, 0x1000, 0xFF00, 0x0, 0x0, 0x0, 0x0⟩,
   ⟨0x150004, 1, 0x4, 0x0, 0x0, 0x0, 0x0, 0x0, 0x0⟩,
   ⟨0x150008, 1, 0x4, 0x0, 0x0, 0x0, 0x0, 0x0, 0x0⟩,
   ⟨0x15000C, 1, 0x4, 0x0, 0x0, 0x0, 0x0, 0x0, 0x0⟩,
   ⟨0x150100, 16, 0x10, 0x0, 0x0, 0x0, 0x0, 0x0, 0x0⟩,
   ⟨0x150104, 16, 0x10, 0x0, 0x0, 0x0, 0x0, 0x0, 0x0⟩,
   ⟨0x150108, 16, 0x10, 0x0, 0x0, 0x0, 0x0, 0x0, 0x0⟩,
   ⟨0x150200, 24, 0x4, 0x0, 0x0, 0x0, 0x0, 0x0, 0x0⟩,
   ⟨0x151000, 64, 0x10, 0x0, 0xFFFFFFFF, 0x0, 0x0, 0x0, 0x0⟩,
   ⟨0x151004, 64, 0x10, 0x0, 0xFFFFFFFF, 0x0, 0x0, 0x0, 0x0⟩,
   ⟨0x151008, 64, 0x10, 0xFFFFFFFF, 0xFFFFFFFF, 0x0, 0x0, 0x0, 0x0⟩,
   ⟨0x15100C, 64, 0x10, 0x1, 0xFFFF, 0x0, 0x0, 0x80000000, 0x0⟩]

/-- The rows of the block at BAR0 offset 0x160000 (R258). -/
def laneRows : List RegRow :=
  [⟨0x160000, 104, 0x20, 0x7F0000, 0x0, 0x0, 0x0, 0x3, 0x0⟩,
   ⟨0x160004, 104, 0x20, 0x0, 0x0, 0x0, 0x0, 0x0, 0x0⟩,
   ⟨0x160008, 104, 0x20, 0x0, 0x0, 0x0, 0x0, 0x0, 0xFFFFFFFF⟩,
   ⟨0x16000C, 104, 0x20, 0xFFFF0000, 0x0, 0x0, 0x0, 0x0, 0xFFFF0000⟩]

/-- The rows of the block at BAR0 offset 0x170000 (R293). -/
def hostRows : List RegRow :=
  [⟨0x170000, 1, 0x4, 0x0, 0x3F, 0x0, 0x0, 0x0, 0x0⟩,
   ⟨0x170004, 1, 0x4, 0x0, 0x0, 0x0, 0x0, 0x0, 0x0⟩,
   ⟨0x170008, 1, 0x4, 0x200000, 0x0, 0x0, 0x0, 0x0, 0x0⟩,
   ⟨0x17000C, 1, 0x4, 0x0, 0x0, 0x0, 0x0, 0x0, 0xFFFFFFFF⟩,
   ⟨0x170100, 1, 0x4, 0x400, 0x7FF, 0x0, 0x0, 0x0, 0x0⟩,
   ⟨0x170104, 1, 0x4, 0x4000400, 0x0, 0x0, 0x0, 0x0, 0x0⟩,
   ⟨0x170108, 1, 0x4, 0x0, 0x0, 0x0, 0x0, 0x0, 0x0⟩]

/-- The rows of the block at BAR0 offset 0x180000 (R315). -/
def ringRows : List RegRow :=
  [⟨0x180000, 1, 0x4, 0x0, 0x3FF, 0x80000000, 0x0, 0x0, 0x0⟩,
   ⟨0x180004, 1, 0x4, 0x0, 0x0, 0x0, 0x0, 0x0, 0x0⟩,
   ⟨0x180008, 1, 0x4, 0x0, 0x0, 0x0, 0x0, 0x0, 0x0⟩,
   ⟨0x18000C, 1, 0x4, 0x64, 0xFFFFFFFF, 0x0, 0x0, 0x0, 0x0⟩,
   ⟨0x180010, 1, 0x4, 0x1, 0xFFFFFFFF, 0x0, 0x0, 0x0, 0x0⟩,
   ⟨0x180014, 1, 0x4, 0x1, 0xFFFFFFFF, 0x0, 0x0, 0x0, 0x0⟩,
   ⟨0x180018, 1, 0x4, 0x0, 0x0, 0x0, 0x0, 0x0, 0xFFFFFFFF⟩,
   ⟨0x180100, 4, 0x10, 0x0, 0x0, 0x0, 0x0, 0x0, 0x0⟩,
   ⟨0x180104, 4, 0x10, 0x0, 0x0, 0x0, 0x0, 0x0, 0x0⟩,
   ⟨0x180108, 4, 0x10, 0x0, 0x0, 0x0, 0x0, 0x0, 0xFFFFFFFF⟩]

/-- The rows of the block at BAR0 offset 0x190000 (R340). -/
def tileRows : List RegRow :=
  [⟨0x190000, 1, 0x4, 0x800, 0xFF00, 0x0, 0x0, 0x0, 0x0⟩,
   ⟨0x190040, 8, 0x4, 0x0, 0x0, 0xFFFFFFFF, 0x0, 0x0, 0x0⟩,
   ⟨0x191000, 96, 0x20, 0x0, 0x0, 0x0, 0x0, 0x20000, 0x0⟩,
   ⟨0x191004, 96, 0x20, 0x0, 0x0, 0x0, 0x0, 0x0, 0x0⟩,
   ⟨0x191008, 96, 0x20, 0x0, 0x0, 0x0, 0x0, 0x0, 0x0⟩,
   ⟨0x19100C, 96, 0x20, 0x0, 0x0, 0x0, 0x0, 0x0, 0x0⟩,
   ⟨0x191010, 96, 0x20, 0x0, 0x0, 0x0, 0x0, 0x0, 0x0⟩,
   ⟨0x191014, 96, 0x20, 0x0, 0x0, 0x0, 0x0, 0x0, 0xFFFFFFFF⟩,
   ⟨0x191018, 96, 0x20, 0x0, 0x0, 0x0, 0x0, 0x0, 0x0⟩,
   ⟨0x19101C, 96, 0x20, 0x0, 0x0, 0x0, 0x0, 0x0, 0x0⟩]

/-- The rows of the block at BAR0 offset 0x1A0000 (R366). -/
def pwrRows : List RegRow :=
  [⟨0x1A0000, 1, 0x4, 0x0, 0x0, 0x0, 0x0, 0x0, 0x0⟩,
   ⟨0x1A0004, 1, 0x4, 0x0, 0x0, 0x0, 0x0, 0x0, 0x0⟩,
   ⟨0x1A0008, 1, 0x4, 0x0, 0x0, 0x0, 0x0, 0x0, 0xFFFF0000⟩,
   ⟨0x1A000C, 1, 0x4, 0x0, 0x0, 0x0, 0x0, 0x0, 0x0⟩,
   ⟨0x1A0010, 1, 0x4, 0x0, 0x0, 0x0, 0x0, 0x0, 0x0⟩,
   ⟨0x1A0014, 1, 0x4, 0x0, 0x0, 0x0, 0x0, 0x0, 0x0⟩,
   ⟨0x1A0018, 1, 0x4, 0x0, 0x0, 0x0, 0x0, 0x0, 0x0⟩,
   ⟨0x1A001C, 1, 0x4, 0x3480000, 0x0, 0x0, 0x0, 0x0, 0x0⟩,
   ⟨0x1A0020, 1, 0x4, 0x0, 0x0, 0x0, 0x0, 0x0, 0x0⟩,
   ⟨0x1A0024, 1, 0x4, 0x0, 0x0, 0x0, 0x0, 0x30000000, 0x0⟩,
   ⟨0x1A0028, 1, 0x4, 0x3E81D4C0, 0xFFF1FFFF, 0x0, 0x0, 0x0, 0x0⟩,
   ⟨0x1A002C, 1, 0x4, 0x0, 0x0, 0x0, 0x0, 0x0, 0x0⟩] ++
  [⟨0x1A0030, 1, 0x4, 0x0, 0x0, 0x0, 0x0, 0x0, 0xFFFF0000⟩,
   ⟨0x1A0034, 1, 0x4, 0x10000, 0xFF00FFFF, 0x0, 0x0, 0x0, 0x0⟩,
   ⟨0x1A0038, 1, 0x4, 0x0, 0x0, 0x0, 0x0, 0x0, 0xFFFFFFFF⟩,
   ⟨0x1A0100, 24, 0x10, 0x0, 0x0, 0x0, 0x0, 0x10000000, 0x0⟩,
   ⟨0x1A0104, 24, 0x10, 0x0, 0x0, 0x0, 0x0, 0x0, 0xFFFF0000⟩,
   ⟨0x1A0108, 24, 0x10, 0x0, 0x0, 0x0, 0x0, 0x0, 0x0⟩]

/-- The rows of the block at BAR0 offset 0x1B0000 (R396). -/
def motRows : List RegRow :=
  [⟨0x1B0000, 1, 0x4, 0x0, 0x0, 0x0, 0x0, 0x0, 0x0⟩,
   ⟨0x1B0100, 4, 0x40, 0x0, 0xF0000000, 0x0, 0x0, 0x0, 0x0⟩,
   ⟨0x1B0104, 4, 0x40, 0x0, 0xFFFFFFFF, 0x0, 0x0, 0x0, 0x0⟩,
   ⟨0x1B0108, 4, 0x40, 0x0, 0xFFFF, 0x0, 0x0, 0x0, 0x0⟩,
   ⟨0x1B010C, 4, 0x40, 0x0, 0x0, 0x0, 0x0, 0x3F, 0x0⟩,
   ⟨0x1B0110, 4, 0x40, 0x0, 0x0, 0x0, 0x0, 0x0, 0x0⟩,
   ⟨0x1B0114, 4, 0x40, 0x0, 0x0, 0x0, 0x0, 0x0, 0x0⟩,
   ⟨0x1B0118, 4, 0x40, 0x1F40, 0xFFFF, 0x0, 0x0, 0x0, 0x0⟩,
   ⟨0x1B011C, 4, 0x40, 0x32000FA0, 0xFF00FFFF, 0x0, 0x0, 0x0, 0x0⟩,
   ⟨0x1B0120, 4, 0x40, 0x140003E8, 0xFF00FFFF, 0x0, 0x0, 0x0, 0x0⟩,
   ⟨0x1B0124, 4, 0x40, 0x80000000, 0x8000FFFF, 0x0, 0x0, 0x0, 0x0⟩,
   ⟨0x1B0128, 4, 0x40, 0x0, 0xFFFFFFFF, 0x0, 0x0, 0x0, 0x0⟩] ++
  [⟨0x1B012C, 4, 0x40, 0x0, 0xFFFF, 0x0, 0x0, 0x0, 0x0⟩,
   ⟨0x1B0130, 4, 0x40, 0x1403E8, 0xFFFFFFFF, 0x0, 0x0, 0x0, 0x0⟩,
   ⟨0x1B0134, 4, 0x40, 0x0, 0x0, 0x0, 0x0, 0x0, 0x0⟩,
   ⟨0x1B0138, 4, 0x40, 0x0, 0x0, 0x0, 0x0, 0x0, 0xFFFFFFFF⟩]

/-- The rows of the block at BAR0 offset 0x1C0000 (R410). -/
def thmRows : List RegRow :=
  [⟨0x1C0000, 1, 0x4, 0x7D00000, 0xFFFF0000, 0x0, 0x0, 0x0, 0x0⟩,
   ⟨0x1C0004, 1, 0x4, 0xA0010, 0xFFFF00FF, 0x0, 0x0, 0x0, 0x0⟩,
   ⟨0x1C0008, 1, 0x4, 0x0, 0x0, 0x0, 0x0, 0x0, 0x0⟩,
   ⟨0x1C000C, 1, 0x4, 0xFFFFFFFF, 0x0, 0x0, 0x0, 0x0, 0x0⟩,
   ⟨0x1C0010, 1, 0x4, 0x0, 0x0, 0x0, 0x0, 0x0, 0xFFFF⟩,
   ⟨0x1C0100, 1, 0x4, 0xFA1403, 0xFFFFFF03, 0x0, 0x0, 0x0, 0x0⟩,
   ⟨0x1C0104, 1, 0x4, 0xC86402, 0xFFFFFF03, 0x0, 0x0, 0x0, 0x0⟩,
   ⟨0x1C0108, 1, 0x4, 0xC86402, 0xFFFFFF03, 0x0, 0x0, 0x0, 0x0⟩,
   ⟨0x1C010C, 1, 0x4, 0x32FF01, 0xFFFFFF03, 0x0, 0x0, 0x0, 0x0⟩,
   ⟨0x1C0110, 1, 0x4, 0x32FF00, 0xFFFFFF03, 0x0, 0x0, 0x0, 0x0⟩,
   ⟨0x1C1000, 103, 0x8, 0x0, 0x0, 0x0, 0x0, 0x0, 0x0⟩,
   ⟨0x1C1004, 103, 0x8, 0x0, 0x0, 0x0, 0x0, 0x0, 0xFFFF0000⟩]

/-- The rows of the block at BAR0 offset 0x1D0000 (R431). -/
def fltRows : List RegRow :=
  [⟨0x1D0000, 1, 0x4, 0x54000000, 0xFFFF07FF, 0x0, 0x0, 0x0, 0x0⟩,
   ⟨0x1D0004, 1, 0x4, 0x0, 0x0, 0x0, 0x0, 0x20000007, 0x0⟩,
   ⟨0x1D0008, 1, 0x4, 0x0, 0x0, 0x0, 0x0, 0x0, 0x0⟩,
   ⟨0x1D000C, 1, 0x4, 0x0, 0x0, 0x0, 0x0, 0x0, 0x0⟩,
   ⟨0x1D0010, 1, 0x4, 0x0, 0xFFFFF000, 0x0, 0x0, 0x0, 0x0⟩,
   ⟨0x1D0014, 1, 0x4, 0x0, 0xFFFFFFFF, 0x0, 0x0, 0x0, 0x0⟩,
   ⟨0x1D0018, 1, 0x4, 0x0, 0x1F, 0x0, 0x0, 0x0, 0x0⟩,
   ⟨0x1D001C, 1, 0x4, 0x0, 0xFFFFF, 0x0, 0x0, 0x0, 0x0⟩,
   ⟨0x1D0020, 1, 0x4, 0x80000000, 0x0, 0x0, 0x0, 0x0, 0x0⟩,
   ⟨0x1D0024, 1, 0x4, 0x180100, 0x3FFFFF, 0x0, 0x0, 0x0, 0x0⟩,
   ⟨0x1D0028, 1, 0x4, 0x0, 0x0, 0x0, 0x0, 0x0, 0x0⟩,
   ⟨0x1D002C, 1, 0x4, 0x64, 0xFFFF, 0x0, 0x0, 0x0, 0x0⟩] ++
  [⟨0x1D0030, 1, 0x4, 0x0, 0x0, 0x0, 0x0, 0x0, 0xFFFFFFFF⟩,
   ⟨0x1D0034, 1, 0x4, 0x0, 0x0, 0x0, 0x0, 0x0, 0xFFFFFFFF⟩,
   ⟨0x1D0038, 1, 0x4, 0x0, 0x3F0000, 0x0, 0x0, 0x0, 0xFFFF⟩,
   ⟨0x1D003C, 1, 0x4, 0x0, 0x0, 0x0, 0x0, 0x0, 0x0⟩,
   ⟨0x1D0040, 1, 0x4, 0x0, 0xFFFFFFFF, 0x0, 0x0, 0x0, 0x0⟩,
   ⟨0x1D0044, 1, 0x4, 0x0, 0xFFFFFFFF, 0x0, 0x0, 0x0, 0x0⟩]

/-- The rows of the block at BAR0 offset 0x1E0000 (R452). -/
def calRows : List RegRow :=
  [⟨0x1E0000, 1, 0x4, 0x0, 0x1F, 0x80000000, 0x0, 0x0, 0x0⟩,
   ⟨0x1E0004, 1, 0x4, 0x0, 0x0, 0x0, 0x0, 0x40000000, 0x0⟩,
   ⟨0x1E0008, 1, 0x4, 0x0, 0x0, 0x0, 0x0, 0x0, 0x0⟩,
   ⟨0x1E000C, 1, 0x4, 0x0, 0x0, 0x0, 0x0, 0x0, 0x0⟩,
   ⟨0x1E0010, 1, 0x4, 0x0, 0x0, 0x0, 0x0, 0x0, 0x0⟩,
   ⟨0x1E0020, 1, 0x4, 0x0, 0x7F80FFFF, 0x80000000, 0x0, 0x0, 0x0⟩,
   ⟨0x1E0100, 5, 0x4, 0x0, 0x0, 0x0, 0x0, 0x0, 0xFFFF⟩,
   ⟨0x1E1000, 96, 0x8, 0x0, 0x0, 0x0, 0x0, 0x0, 0x0⟩,
   ⟨0x1E1004, 96, 0x8, 0x80800000, 0x0, 0x0, 0x0, 0x0, 0x0⟩,
   ⟨0x1E2000, 16, 0x8, 0x40004000, 0x0, 0x0, 0x0, 0x0, 0x0⟩,
   ⟨0x1E2004, 16, 0x8, 0x40004000, 0x0, 0x0, 0x0, 0x0, 0x0⟩,
   ⟨0x1E3000, 5, 0x4, 0x0, 0x0, 0x0, 0x0, 0x0, 0x0⟩] ++
  [⟨0x1E4000, 4, 0x8, 0x0, 0x0, 0x0, 0x0, 0x0, 0x0⟩,
   ⟨0x1E4004, 4, 0x8, 0x0, 0x0, 0x0, 0x0, 0x0, 0x0⟩]

/-- The rows of the block at BAR0 offset 0x1F0000 (R473). -/
def memRows : List RegRow :=
  [⟨0x1F0000, 1, 0x4, 0x0, 0x0, 0x0, 0x0, 0x0, 0xFFFFFFFF⟩,
   ⟨0x1F0004, 1, 0x4, 0x0, 0x0, 0x0, 0x0, 0x0, 0xFFFFFFFF⟩,
   ⟨0x1F0008, 1, 0x4, 0x0, 0x3FFFF, 0x0, 0x0, 0x0, 0x0⟩,
   ⟨0x1F0010, 1, 0x4, 0x0, 0x0, 0x0, 0x0, 0x0, 0x0⟩,
   ⟨0x1F0014, 1, 0x4, 0x0, 0x0, 0x0, 0x0, 0x0, 0x0⟩,
   ⟨0x1F0100, 64, 0x4, 0x0, 0x0, 0x0, 0x0, 0x0, 0xFFFFFFFF⟩,
   ⟨0x1F0400, 104, 0x4, 0x0, 0x0, 0x0, 0x0, 0x0, 0x0⟩,
   ⟨0x1F1000, 1, 0x4, 0x3E8, 0xBF1FFFFF, 0x40000000, 0x0, 0x0, 0x0⟩,
   ⟨0x1F1008, 1, 0x4, 0x0, 0xFFFFF000, 0x0, 0x0, 0x0, 0x0⟩,
   ⟨0x1F100C, 1, 0x4, 0x0, 0xFFFFFFFF, 0x0, 0x0, 0x0, 0x0⟩,
   ⟨0x1F1010, 1, 0x4, 0x0, 0x7FFF, 0x0, 0x0, 0x0, 0x0⟩,
   ⟨0x1F1014, 1, 0x4, 0x8000, 0x0, 0x0, 0x0, 0x0, 0xFFFF0000⟩] ++
  [⟨0x1F1020, 1, 0x4, 0x10000000, 0xDF000FFF, 0x0, 0x0, 0x0, 0x0⟩,
   ⟨0x1F1024, 1, 0x4, 0x1, 0xFFFFFFFF, 0x0, 0x0, 0x0, 0x0⟩,
   ⟨0x1F1028, 1, 0x4, 0x0, 0x0, 0x7F0000, 0x0, 0x0, 0x0⟩,
   ⟨0x1F1080, 8, 0x4, 0x0, 0x0, 0x0, 0x0, 0xFFFFFFFF, 0x0⟩,
   ⟨0x1F2000, 256, 0x10, 0x0, 0xFF000FFF, 0x0, 0x0, 0x0, 0x0⟩,
   ⟨0x1F2004, 256, 0x10, 0x0, 0xFFFFFFFF, 0x0, 0x0, 0x0, 0x0⟩,
   ⟨0x1F2008, 256, 0x10, 0x0, 0xFFFF, 0x0, 0x0, 0x0, 0x0⟩,
   ⟨0x1F8000, 1, 0x4, 0x101, 0x1FF0F1F, 0x0, 0x0, 0x0, 0x0⟩,
   ⟨0x1F8004, 1, 0x4, 0x0, 0x1F3F3F, 0x0, 0x0, 0x0, 0x0⟩,
   ⟨0x1F8008, 1, 0x4, 0x0, 0x0, 0x0, 0x0, 0x2, 0x0⟩,
   ⟨0x1F800C, 1, 0x4, 0x0, 0xFFFF, 0x0, 0x0, 0x0, 0x0⟩]

/-- The rows of the block at BAR0 offset 0xC00000 (R293). -/
def dmasRows : List RegRow :=
  [⟨0xC00000, 4096, 0x40, 0x0, 0xFFFFF000, 0x0, 0x0, 0x0, 0x0⟩,
   ⟨0xC00008, 4096, 0x40, 0x0, 0xFFFFF000, 0x0, 0x0, 0x0, 0x0⟩,
   ⟨0xC00004, 4096, 0x40, 0x0, 0xFFFFFFFF, 0x0, 0x0, 0x0, 0x0⟩,
   ⟨0xC0000C, 4096, 0x40, 0x0, 0xFFFFFFFF, 0x0, 0x0, 0x0, 0x0⟩,
   ⟨0xC00010, 4096, 0x40, 0x0, 0x1F001F, 0x0, 0x0, 0x0, 0x0⟩,
   ⟨0xC00014, 4096, 0x40, 0x0, 0xB00007FF, 0x40000000, 0x0, 0x0, 0x0⟩,
   ⟨0xC00018, 4096, 0x40, 0x401804, 0x7FFFFFF, 0x0, 0x0, 0x0, 0x0⟩,
   ⟨0xC0001C, 4096, 0x40, 0x80000000, 0x0, 0x0, 0x0, 0xC000000, 0x0⟩,
   ⟨0xC00020, 4096, 0x40, 0x0, 0x0, 0x0, 0x0, 0x0, 0x0⟩,
   ⟨0xC00024, 4096, 0x40, 0x80000000, 0x0, 0x0, 0x0, 0x0, 0x0⟩,
   ⟨0xC00028, 4096, 0x40, 0x0, 0x0, 0x0, 0x0, 0x0, 0x0⟩,
   ⟨0xC0002C, 4096, 0x40, 0x0, 0x0, 0x0, 0x0, 0x0, 0xFFFFFFFF⟩]

/-- The rows of the block at BAR0 offset 0xD00000 (R293). -/
def dmadbRows : List RegRow :=
  [⟨0xD00000, 4096, 0x8, 0x0, 0x0, 0xFFFF, 0x0, 0x0, 0x0⟩,
   ⟨0xD00004, 4096, 0x8, 0x0, 0x0, 0xFFFFF, 0x0, 0x0, 0x0⟩]

/-- The rows of the block that holds a BAR0 offset (R474). -/
def blockRows (off : Nat) : List RegRow :=
  if off / 0x10000 = 0x0 then sysRows
  else if off / 0x10000 = 0x1 then cfgRows
  else if off / 0x10000 = 0x10 then posRows
  else if off / 0x10000 = 0x12 then fireRows
  else if off / 0x10000 = 0x13 then pulseRows
  else if off / 0x10000 = 0x14 then hlthRows
  else if off / 0x10000 = 0x15 then cmpRows
  else if off / 0x10000 = 0x16 then laneRows
  else if off / 0x10000 = 0x17 then hostRows
  else if off / 0x10000 = 0x18 then ringRows
  else if off / 0x10000 = 0x19 then tileRows
  else if off / 0x10000 = 0x1A then pwrRows
  else if off / 0x10000 = 0x1B then motRows
  else if off / 0x10000 = 0x1C then thmRows
  else if off / 0x10000 = 0x1D then fltRows
  else if off / 0x10000 = 0x1E then calRows
  else if off / 0x10000 = 0x1F then memRows
  else if 0xC00000 ≤ off ∧ off < 0xC40000 then dmasRows
  else if off / 0x10000 = 0xD0 then dmadbRows
  else []

/-- The row of the register at a BAR0 offset; none where no register stands (R475: unassigned). -/
def regRow? (off : Nat) : Option RegRow :=
  (blockRows off).find? fun r => (r.idx? off).isSome

/-- The reset word of the register at a BAR0 offset: 0 where no register stands. -/
def regReset (off : Nat) : Word :=
  match regRow? off with
  | some r => BitVec.ofNat 32 r.reset
  | none => 0

/-- SYS_STATE.STANDALONE [31:31], RO (R69). -/
def SYS_STATE_STANDALONE : Field := ⟨0x10, 31, 1⟩
/-- SYS_STATE.DAWN_DONE [30:30], RO (R69). -/
def SYS_STATE_DAWN_DONE : Field := ⟨0x10, 30, 1⟩
/-- SYS_STATE.HOLDUP_READY [29:29], RO (R69). -/
def SYS_STATE_HOLDUP_READY : Field := ⟨0x10, 29, 1⟩
/-- SYS_STATE.RUN_PENDING [28:28], RO (R69). -/
def SYS_STATE_RUN_PENDING : Field := ⟨0x10, 28, 1⟩
/-- SYS_STATE.FUNC [23:20], RO (R69). -/
def SYS_STATE_FUNC : Field := ⟨0x10, 20, 4⟩
/-- SYS_STATE.PREV [19:16], RO (R69). -/
def SYS_STATE_PREV : Field := ⟨0x10, 16, 4⟩
/-- SYS_STATE.CAUSE [15:8], RO (R69). -/
def SYS_STATE_CAUSE : Field := ⟨0x10, 8, 8⟩
/-- SYS_STATE.STATE [3:0], RO (R69). -/
def SYS_STATE_STATE : Field := ⟨0x10, 0, 4⟩
/-- SYS_CTRL.SA_INHIBIT [8:8], RW (R69). -/
def SYS_CTRL_SA_INHIBIT : Field := ⟨0x14, 8, 1⟩
/-- SYS_CTRL.ABANDON [4:4], WO (R69). -/
def SYS_CTRL_ABANDON : Field := ⟨0x14, 4, 1⟩
/-- SYS_CTRL.RUN [3:3], RW (R69). -/
def SYS_CTRL_RUN : Field := ⟨0x14, 3, 1⟩
/-- SYS_CTRL.NIGHT [1:1], WO (R69). -/
def SYS_CTRL_NIGHT : Field := ⟨0x14, 1, 1⟩
/-- SYS_CTRL.DAWN [0:0], WO (R69). -/
def SYS_CTRL_DAWN : Field := ⟨0x14, 0, 1⟩
/-- SYS_STRAP.SA_EN [11:11], RO (R69). -/
def SYS_STRAP_SA_EN : Field := ⟨0x18, 11, 1⟩
/-- SYS_STRAP.RATIO_SEL [10:8], RO (R69). -/
def SYS_STRAP_RATIO_SEL : Field := ⟨0x18, 8, 3⟩
/-- SYS_STRAP.POS0_MODE [7:6], RO (R69). -/
def SYS_STRAP_POS0_MODE : Field := ⟨0x18, 6, 2⟩
/-- SYS_STRAP.CMD_MODE [5:4], RO (R69). -/
def SYS_STRAP_CMD_MODE : Field := ⟨0x18, 4, 2⟩
/-- SYS_STRAP.BOOT_ALT [3:3], RO (R69). -/
def SYS_STRAP_BOOT_ALT : Field := ⟨0x18, 3, 1⟩
/-- SYS_DAWN.SPARES_USED [27:24], RO (R69). -/
def SYS_DAWN_SPARES_USED : Field := ⟨0x1C, 24, 4⟩
/-- SYS_DAWN.TILES_FAILED [22:16], RO (R69). -/
def SYS_DAWN_TILES_FAILED : Field := ⟨0x1C, 16, 7⟩
/-- SYS_DAWN.TILES_ABSENT [14:8], RO (R69). -/
def SYS_DAWN_TILES_ABSENT : Field := ⟨0x1C, 8, 7⟩
/-- SYS_DAWN.TILES_UP [6:0], RO (R69). -/
def SYS_DAWN_TILES_UP : Field := ⟨0x1C, 0, 7⟩
/-- SYS_ENABLE.LIVE [1:1], WO (R101). -/
def SYS_ENABLE_LIVE : Field := ⟨0x20, 1, 1⟩
/-- SYS_ENABLE.ARM [0:0], WO (R101). -/
def SYS_ENABLE_ARM : Field := ⟨0x20, 0, 1⟩
/-- CFG_STATUS.BUSY [31:31], RO (R101). -/
def CFG_STATUS_BUSY : Field := ⟨0x10000, 31, 1⟩
/-- CFG_STATUS.PASS [30:30], RO (R101). -/
def CFG_STATUS_PASS : Field := ⟨0x10000, 30, 1⟩
/-- CFG_STATUS.FAIL [29:29], RO (R101). -/
def CFG_STATUS_FAIL : Field := ⟨0x10000, 29, 1⟩
/-- CFG_STATUS.LIVE_PENDING [28:28], RO (R101). -/
def CFG_STATUS_LIVE_PENDING : Field := ⟨0x10000, 28, 1⟩
/-- CFG_STATUS.SECTION [15:8], RO (R101). -/
def CFG_STATUS_SECTION : Field := ⟨0x10000, 8, 8⟩
/-- CFG_STATUS.REASON [7:0], RO (R101). -/
def CFG_STATUS_REASON : Field := ⟨0x10000, 0, 8⟩
/-- CFG_ITEM.ITEM [31:0], RO (R101). -/
def CFG_ITEM_ITEM : Field := ⟨0x10004, 0, 32⟩
/-- CFG_SOURCE.SRC [3:0], RW (R101). -/
def CFG_SOURCE_SRC : Field := ⟨0x10008, 0, 4⟩
/-- CFG_IMAGE_ID.IMAGE_ID [31:0], RO (R101). -/
def CFG_IMAGE_ID_IMAGE_ID : Field := ⟨0x1000C, 0, 32⟩
/-- CFG_CAPS.MAJOR [15:8], RO (R101). -/
def CFG_CAPS_MAJOR : Field := ⟨0x10010, 8, 8⟩
/-- CFG_CAPS.MINOR_MAX [7:0], RO (R101). -/
def CFG_CAPS_MINOR_MAX : Field := ⟨0x10010, 0, 8⟩
/-- CFG_LOCK.KEY_SET [1:1], RO (R101). -/
def CFG_LOCK_KEY_SET : Field := ⟨0x10014, 1, 1⟩
/-- CFG_LOCK.LAYOUT_LOCK [0:0], W1S (R101). -/
def CFG_LOCK_LAYOUT_LOCK : Field := ⟨0x10014, 0, 1⟩
/-- CFG_NV_CTRL.STORE [3:3], WO (R101). -/
def CFG_NV_CTRL_STORE : Field := ⟨0x10018, 3, 1⟩
/-- CFG_NV_CTRL.SLOT [2:0], RW (R101). -/
def CFG_NV_CTRL_SLOT : Field := ⟨0x10018, 0, 3⟩
/-- CFG_KEY_n.KEY [31:0], WO (R101). -/
def CFG_KEY_n_KEY (n : Nat) : Field := ⟨(0x10040 + n * 0x4), 0, 32⟩
/-- POS_n_CMP.TARGET [31:0], RW (R140). -/
def POS_n_CMP_TARGET (n : Nat) : Field := ⟨(0x100000 + n * 0x100), 0, 32⟩
/-- POS_n_CMP_STEP.STEP [31:0], RW (R140). -/
def POS_n_CMP_STEP_STEP (n : Nat) : Field := ⟨(0x100004 + n * 0x100), 0, 32⟩
/-- POS_n_CMP_CTRL.DIRSEL [2:1], RW (R140). -/
def POS_n_CMP_CTRL_DIRSEL (n : Nat) : Field := ⟨(0x100008 + n * 0x100), 1, 2⟩
/-- POS_n_CMP_CTRL.EN [0:0], RW (R140). -/
def POS_n_CMP_CTRL_EN (n : Nat) : Field := ⟨(0x100008 + n * 0x100), 0, 1⟩
/-- POS_n_STATUS.STILL [31:31], RO (R140). -/
def POS_n_STATUS_STILL (n : Nat) : Field := ⟨(0x10000C + n * 0x100), 31, 1⟩
/-- POS_n_STATUS.DIR [30:30], RO (R140). -/
def POS_n_STATUS_DIR (n : Nat) : Field := ⟨(0x10000C + n * 0x100), 30, 1⟩
/-- POS_n_STATUS.DRIFT_VALID [29:29], RO (R140). -/
def POS_n_STATUS_DRIFT_VALID (n : Nat) : Field := ⟨(0x10000C + n * 0x100), 29, 1⟩
/-- POS_n_STATUS.CMP_BEHIND [6:6], W1C (R140). -/
def POS_n_STATUS_CMP_BEHIND (n : Nat) : Field := ⟨(0x10000C + n * 0x100), 6, 1⟩
/-- POS_n_STATUS.DRIFT [5:5], W1C (R140). -/
def POS_n_STATUS_DRIFT (n : Nat) : Field := ⟨(0x10000C + n * 0x100), 5, 1⟩
/-- POS_n_STATUS.OVERSPEED [4:4], W1C (R140). -/
def POS_n_STATUS_OVERSPEED (n : Nat) : Field := ⟨(0x10000C + n * 0x100), 4, 1⟩
/-- POS_n_STATUS.CATCHUP [2:2], W1C (R140). -/
def POS_n_STATUS_CATCHUP (n : Nat) : Field := ⟨(0x10000C + n * 0x100), 2, 1⟩
/-- POS_n_STATUS.DIR_CHG [1:1], W1C (R140). -/
def POS_n_STATUS_DIR_CHG (n : Nat) : Field := ⟨(0x10000C + n * 0x100), 1, 1⟩
/-- POS_n_STATUS.ILLEGAL [0:0], W1C (R140). -/
def POS_n_STATUS_ILLEGAL (n : Nat) : Field := ⟨(0x10000C + n * 0x100), 0, 1⟩
/-- POS_n_COUNT_LO.COUNT [31:0], RO (R140). -/
def POS_n_COUNT_LO_COUNT (n : Nat) : Field := ⟨(0x100010 + n * 0x100), 0, 32⟩
/-- POS_n_COUNT_HI.EPOCH [15:0], RO (R140). -/
def POS_n_COUNT_HI_EPOCH (n : Nat) : Field := ⟨(0x100014 + n * 0x100), 0, 16⟩
/-- POS_n_PRESET_LO.COUNT [31:0], RW (R140). -/
def POS_n_PRESET_LO_COUNT (n : Nat) : Field := ⟨(0x100018 + n * 0x100), 0, 32⟩
/-- POS_n_PRESET_HI.EPOCH [15:0], RW (R140). -/
def POS_n_PRESET_HI_EPOCH (n : Nat) : Field := ⟨(0x10001C + n * 0x100), 0, 16⟩
/-- POS_n_IDX_LO.COUNT [31:0], RO (R140). -/
def POS_n_IDX_LO_COUNT (n : Nat) : Field := ⟨(0x100020 + n * 0x100), 0, 32⟩
/-- POS_n_IDX_HI.EPOCH [15:0], RO (R140). -/
def POS_n_IDX_HI_EPOCH (n : Nat) : Field := ⟨(0x100024 + n * 0x100), 0, 16⟩
/-- POS_n_IDX_SPAN.SPAN [31:0], RW (R140). -/
def POS_n_IDX_SPAN_SPAN (n : Nat) : Field := ⟨(0x100028 + n * 0x100), 0, 32⟩
/-- POS_n_IDX_DRIFT.LIMIT [31:16], RW (R140). -/
def POS_n_IDX_DRIFT_LIMIT (n : Nat) : Field := ⟨(0x10002C + n * 0x100), 16, 16⟩
/-- POS_n_IDX_DRIFT.DRIFT [15:0], RO (R140). -/
def POS_n_IDX_DRIFT_DRIFT (n : Nat) : Field := ⟨(0x10002C + n * 0x100), 0, 16⟩
/-- POS_n_PERIOD.PERIOD [31:0], RO (R140). -/
def POS_n_PERIOD_PERIOD (n : Nat) : Field := ⟨(0x100030 + n * 0x100), 0, 32⟩
/-- POS_n_SPEED.SPEED [31:0], RO (R140). -/
def POS_n_SPEED_SPEED (n : Nat) : Field := ⟨(0x100034 + n * 0x100), 0, 32⟩
/-- POS_n_LINE.LINE [31:0], RO (R140). -/
def POS_n_LINE_LINE (n : Nat) : Field := ⟨(0x100038 + n * 0x100), 0, 32⟩
/-- POS_n_LINE_PHASE.PHASE [31:0], RO (R140). -/
def POS_n_LINE_PHASE_PHASE (n : Nat) : Field := ⟨(0x10003C + n * 0x100), 0, 32⟩
/-- POS_n_EVTCNT.CATCHUP_CNT [31:24], RC (R140). -/
def POS_n_EVTCNT_CATCHUP_CNT (n : Nat) : Field := ⟨(0x100040 + n * 0x100), 24, 8⟩
/-- POS_n_EVTCNT.ILLEGAL_CNT [23:12], RC (R140). -/
def POS_n_EVTCNT_ILLEGAL_CNT (n : Nat) : Field := ⟨(0x100040 + n * 0x100), 12, 12⟩
/-- POS_n_EVTCNT.DIRCHG_CNT [11:0], RC (R140). -/
def POS_n_EVTCNT_DIRCHG_CNT (n : Nat) : Field := ⟨(0x100040 + n * 0x100), 0, 12⟩
/-- POS_EVCNT_c.VALUE [31:0], RW (R140). -/
def POS_EVCNT_c_VALUE (c : Nat) : Field := ⟨(0x101000 + c * 0x4), 0, 32⟩
/-- POS_REF_DELAY.DELAY_NS [14:0], RW (R140). -/
def POS_REF_DELAY_DELAY_NS : Field := ⟨0x101040, 0, 15⟩
/-- POS_REF_STATUS.CONFLICT [31:16], W1C (R140). -/
def POS_REF_STATUS_CONFLICT : Field := ⟨0x101044, 16, 16⟩
/-- POS_REF_STATUS.LOST [15:0], RO (R140). -/
def POS_REF_STATUS_LOST : Field := ⟨0x101044, 0, 16⟩
/-- POS_REF_AGE.LATE_CNT [31:16], RC (R140). -/
def POS_REF_AGE_LATE_CNT : Field := ⟨0x101048, 16, 16⟩
/-- POS_REF_AGE.AGE_MAX [15:0], RC (R140). -/
def POS_REF_AGE_AGE_MAX : Field := ⟨0x101048, 0, 16⟩
/-- POS_IRQ.PEND [31:16], W1C (R140). -/
def POS_IRQ_PEND : Field := ⟨0x10104C, 16, 16⟩
/-- POS_IRQ.VEC [10:0], RW (R140). -/
def POS_IRQ_VEC : Field := ⟨0x10104C, 0, 11⟩
/-- FIRE_CTRL.MASTER_WIN [3:0], RW (R171). -/
def FIRE_CTRL_MASTER_WIN : Field := ⟨0x120000, 0, 4⟩
/-- FIRE_WIN_w_CTRL.LEAD [31:16], RW (R171). -/
def FIRE_WIN_w_CTRL_LEAD (w : Nat) : Field := ⟨(0x120100 + w * 0x20), 16, 16⟩
/-- FIRE_WIN_w_CTRL.GAPMIN [15:8], RW (R171). -/
def FIRE_WIN_w_CTRL_GAPMIN (w : Nat) : Field := ⟨(0x120100 + w * 0x20), 8, 8⟩
/-- FIRE_WIN_w_CTRL.PAUSE_MODE [0:0], RW (R171). -/
def FIRE_WIN_w_CTRL_PAUSE_MODE (w : Nat) : Field := ⟨(0x120100 + w * 0x20), 0, 1⟩
/-- FIRE_WIN_w_LEN.LEN [31:0], RW (R171). -/
def FIRE_WIN_w_LEN_LEN (w : Nat) : Field := ⟨(0x120104 + w * 0x20), 0, 32⟩
/-- FIRE_WIN_w_MASK.SU_SET [31:28], RW (R171). -/
def FIRE_WIN_w_MASK_SU_SET (w : Nat) : Field := ⟨(0x120108 + w * 0x20), 28, 4⟩
/-- FIRE_WIN_w_MASK.SU_DOCS [27:16], RW (R171). -/
def FIRE_WIN_w_MASK_SU_DOCS (w : Nat) : Field := ⟨(0x120108 + w * 0x20), 16, 12⟩
/-- FIRE_WIN_w_MASK.RC_SET [15:12], RW (R171). -/
def FIRE_WIN_w_MASK_RC_SET (w : Nat) : Field := ⟨(0x120108 + w * 0x20), 12, 4⟩
/-- FIRE_WIN_w_MASK.RC_DOCS [11:0], RW (R171). -/
def FIRE_WIN_w_MASK_RC_DOCS (w : Nat) : Field := ⟨(0x120108 + w * 0x20), 0, 12⟩
/-- FIRE_WIN_w_STATUS.OPEN [31:31], RO (R171). -/
def FIRE_WIN_w_STATUS_OPEN (w : Nat) : Field := ⟨(0x12010C + w * 0x20), 31, 1⟩
/-- FIRE_WIN_w_STATUS.STOPPING [30:30], RO (R171). -/
def FIRE_WIN_w_STATUS_STOPPING (w : Nat) : Field := ⟨(0x12010C + w * 0x20), 30, 1⟩
/-- FIRE_WIN_w_STATUS.PAUSED [29:29], RO (R171). -/
def FIRE_WIN_w_STATUS_PAUSED (w : Nat) : Field := ⟨(0x12010C + w * 0x20), 29, 1⟩
/-- FIRE_WIN_w_STATUS.PASS [27:24], RO (R171). -/
def FIRE_WIN_w_STATUS_PASS (w : Nat) : Field := ⟨(0x12010C + w * 0x20), 24, 4⟩
/-- FIRE_WIN_w_STATUS.EARLY [1:1], W1C (R171). -/
def FIRE_WIN_w_STATUS_EARLY (w : Nat) : Field := ⟨(0x12010C + w * 0x20), 1, 1⟩
/-- FIRE_WIN_w_STATUS.SHORT [0:0], W1C (R171). -/
def FIRE_WIN_w_STATUS_SHORT (w : Nat) : Field := ⟨(0x12010C + w * 0x20), 0, 1⟩
/-- FIRE_WIN_w_SEQ.SEQ [31:0], RW (R171). -/
def FIRE_WIN_w_SEQ_SEQ (w : Nat) : Field := ⟨(0x120110 + w * 0x20), 0, 32⟩
/-- FIRE_WIN_w_START.S [31:0], RO (R171). -/
def FIRE_WIN_w_START_S (w : Nat) : Field := ⟨(0x120114 + w * 0x20), 0, 32⟩
/-- FIRE_WIN_w_LAST.J_END [31:0], RO (R171). -/
def FIRE_WIN_w_LAST_J_END (w : Nat) : Field := ⟨(0x120118 + w * 0x20), 0, 32⟩
/-- FIRE_WIN_w_EVT.EARLY_CNT [31:16], RC (R171). -/
def FIRE_WIN_w_EVT_EARLY_CNT (w : Nat) : Field := ⟨(0x12011C + w * 0x20), 16, 16⟩
/-- FIRE_WIN_w_EVT.DISCARD_CNT [15:0], RC (R171). -/
def FIRE_WIN_w_EVT_DISCARD_CNT (w : Nat) : Field := ⟨(0x12011C + w * 0x20), 0, 16⟩
/-- FIRE_n_STATUS.ACTIVE [31:31], RO (R171). -/
def FIRE_n_STATUS_ACTIVE (n : Nat) : Field := ⟨(0x121000 + n * 0x20), 31, 1⟩
/-- FIRE_n_STATUS.HELD [30:30], RO (R171). -/
def FIRE_n_STATUS_HELD (n : Nat) : Field := ⟨(0x121000 + n * 0x20), 30, 1⟩
/-- FIRE_n_STATUS.PASS [27:24], RO (R171). -/
def FIRE_n_STATUS_PASS (n : Nat) : Field := ⟨(0x121000 + n * 0x20), 24, 4⟩
/-- FIRE_n_STATUS.REVERSED [3:3], RO (R171). -/
def FIRE_n_STATUS_REVERSED (n : Nat) : Field := ⟨(0x121000 + n * 0x20), 3, 1⟩
/-- FIRE_n_STATUS.MASK_KIND [2:2], W1C (R171). -/
def FIRE_n_STATUS_MASK_KIND (n : Nat) : Field := ⟨(0x121000 + n * 0x20), 2, 1⟩
/-- FIRE_n_STATUS.SKIP [1:1], W1C (R171). -/
def FIRE_n_STATUS_SKIP (n : Nat) : Field := ⟨(0x121000 + n * 0x20), 1, 1⟩
/-- FIRE_n_FLINE.F [31:0], RO (R171). -/
def FIRE_n_FLINE_F (n : Nat) : Field := ⟨(0x121004 + n * 0x20), 0, 32⟩
/-- FIRE_n_HWM.H [31:0], RO (R171). -/
def FIRE_n_HWM_H (n : Nat) : Field := ⟨(0x121008 + n * 0x20), 0, 32⟩
/-- FIRE_n_OFFSET.O [31:0], RO (R171). -/
def FIRE_n_OFFSET_O (n : Nat) : Field := ⟨(0x12100C + n * 0x20), 0, 32⟩
/-- FIRE_n_CNT.SKIP_CNT [31:16], RC (R171). -/
def FIRE_n_CNT_SKIP_CNT (n : Nat) : Field := ⟨(0x121010 + n * 0x20), 16, 16⟩
/-- FIRE_n_CNT.HOLD_CNT [15:0], RC (R171). -/
def FIRE_n_CNT_HOLD_CNT (n : Nat) : Field := ⟨(0x121010 + n * 0x20), 0, 16⟩
/-- FIRE_n_MASKLOSS.LOST [31:0], RC (R171). -/
def FIRE_n_MASKLOSS_LOST (n : Nat) : Field := ⟨(0x121014 + n * 0x20), 0, 32⟩
/-- PULSE_CTRL.SAT_LIMIT [31:16], RW (R193). -/
def PULSE_CTRL_SAT_LIMIT : Field := ⟨0x130000, 16, 16⟩
/-- PULSE_CTRL.HIST_EN [0:0], RW (R193). -/
def PULSE_CTRL_HIST_EN : Field := ⟨0x130000, 0, 1⟩
/-- PULSE_FALLBACK.WEAR_CAP_PS [31:16], RW (R193). -/
def PULSE_FALLBACK_WEAR_CAP_PS : Field := ⟨0x130004, 16, 16⟩
/-- PULSE_FALLBACK.WEAR_PS [15:0], RW (R193). -/
def PULSE_FALLBACK_WEAR_PS : Field := ⟨0x130004, 0, 16⟩
/-- PULSE_q_EDROP.VALID [31:31], RO (R193). -/
def PULSE_q_EDROP_VALID (q : Nat) : Field := ⟨(0x130100 + q * 0x4), 31, 1⟩
/-- PULSE_q_EDROP.EDROP_PJ [23:0], RO (R193). -/
def PULSE_q_EDROP_EDROP_PJ (q : Nat) : Field := ⟨(0x130100 + q * 0x4), 0, 24⟩
/-- PULSE_n_STATUS.BIN [31:26], RO (R193). -/
def PULSE_n_STATUS_BIN (n : Nat) : Field := ⟨(0x131000 + n * 0x20), 26, 6⟩
/-- PULSE_n_STATUS.VSRC [25:25], RO (R193). -/
def PULSE_n_STATUS_VSRC (n : Nat) : Field := ⟨(0x131000 + n * 0x20), 25, 1⟩
/-- PULSE_n_STATUS.FALLBACK [24:24], RO (R193). -/
def PULSE_n_STATUS_FALLBACK (n : Nat) : Field := ⟨(0x131000 + n * 0x20), 24, 1⟩
/-- PULSE_n_STATUS.RANK [23:20], RO (R193). -/
def PULSE_n_STATUS_RANK (n : Nat) : Field := ⟨(0x131000 + n * 0x20), 20, 4⟩
/-- PULSE_n_STATUS.BASE_SAT [1:1], W1C (R193). -/
def PULSE_n_STATUS_BASE_SAT (n : Nat) : Field := ⟨(0x131000 + n * 0x20), 1, 1⟩
/-- PULSE_n_STATUS.VSENSE_LOST [0:0], W1C (R193). -/
def PULSE_n_STATUS_VSENSE_LOST (n : Nat) : Field := ⟨(0x131000 + n * 0x20), 0, 1⟩
/-- PULSE_n_BASE.VPP_MV [31:16], RO (R193). -/
def PULSE_n_BASE_VPP_MV (n : Nat) : Field := ⟨(0x131004 + n * 0x20), 16, 16⟩
/-- PULSE_n_BASE.BASE_PS [15:0], RO (R193). -/
def PULSE_n_BASE_BASE_PS (n : Nat) : Field := ⟨(0x131004 + n * 0x20), 0, 16⟩
/-- PULSE_n_SAT.SAT [31:0], RC (R193). -/
def PULSE_n_SAT_SAT (n : Nat) : Field := ⟨(0x131008 + n * 0x20), 0, 32⟩
/-- PULSE_n_FIRED.FIRED [31:0], RO (R193). -/
def PULSE_n_FIRED_FIRED (n : Nat) : Field := ⟨(0x13100C + n * 0x20), 0, 32⟩
/-- PULSE_n_CODESUM.CODESUM [31:0], RO (R193). -/
def PULSE_n_CODESUM_CODESUM (n : Nat) : Field := ⟨(0x131010 + n * 0x20), 0, 32⟩
/-- PULSE_n_RMEAN.R_MOHM [31:0], RO (R193). -/
def PULSE_n_RMEAN_R_MOHM (n : Nat) : Field := ⟨(0x131014 + n * 0x20), 0, 32⟩
/-- HLTH_CTRL.DRIFT_PM [31:24], RW (R223). -/
def HLTH_CTRL_DRIFT_PM : Field := ⟨0x140000, 24, 8⟩
/-- HLTH_CTRL.AGREE_PM [23:16], RW (R223). -/
def HLTH_CTRL_AGREE_PM : Field := ⟨0x140000, 16, 8⟩
/-- HLTH_CTRL.ROLL_EN [1:1], RW (R223). -/
def HLTH_CTRL_ROLL_EN : Field := ⟨0x140000, 1, 1⟩
/-- HLTH_CTRL.SCAN_EN [0:0], RW (R223). -/
def HLTH_CTRL_SCAN_EN : Field := ⟨0x140000, 0, 1⟩
/-- HLTH_LIMITS.OPEN_OHM [31:16], RW (R223). -/
def HLTH_LIMITS_OPEN_OHM : Field := ⟨0x140004, 16, 16⟩
/-- HLTH_LIMITS.SHORT_OHM [15:0], RW (R223). -/
def HLTH_LIMITS_SHORT_OHM : Field := ⟨0x140004, 0, 16⟩
/-- HLTH_FORCE.OP [31:31], WO (R223). -/
def HLTH_FORCE_OP : Field := ⟨0x140008, 31, 1⟩
/-- HLTH_FORCE.TILE [22:16], WO (R223). -/
def HLTH_FORCE_TILE : Field := ⟨0x140008, 16, 7⟩
/-- HLTH_FORCE.NOZZLE [13:0], WO (R223). -/
def HLTH_FORCE_NOZZLE : Field := ⟨0x140008, 0, 14⟩
/-- HLTH_BYPASS_REQ.GO [31:31], WO (R223). -/
def HLTH_BYPASS_REQ_GO : Field := ⟨0x14000C, 31, 1⟩
/-- HLTH_BYPASS_REQ.TILE [6:0], WO (R223). -/
def HLTH_BYPASS_REQ_TILE : Field := ⟨0x14000C, 0, 7⟩
/-- HLTH_ROLL.INTERVAL_S [15:0], RW (R223). -/
def HLTH_ROLL_INTERVAL_S : Field := ⟨0x140010, 0, 16⟩
/-- HLTH_SPARES.FAILED [23:16], RO (R223). -/
def HLTH_SPARES_FAILED : Field := ⟨0x140014, 16, 8⟩
/-- HLTH_SPARES.ROLLING [15:8], RO (R223). -/
def HLTH_SPARES_ROLLING : Field := ⟨0x140014, 8, 8⟩
/-- HLTH_SPARES.USED [7:0], RO (R223). -/
def HLTH_SPARES_USED : Field := ⟨0x140014, 0, 8⟩
/-- HLTH_n_STATUS.BYPASSED [31:31], RO (R223). -/
def HLTH_n_STATUS_BYPASSED (n : Nat) : Field := ⟨(0x141000 + n * 0x20), 31, 1⟩
/-- HLTH_n_STATUS.UNDER_TEST [30:30], RO (R223). -/
def HLTH_n_STATUS_UNDER_TEST (n : Nat) : Field := ⟨(0x141000 + n * 0x20), 30, 1⟩
/-- HLTH_n_STATUS.SWAP_PENDING [29:29], RO (R223). -/
def HLTH_n_STATUS_SWAP_PENDING (n : Nat) : Field := ⟨(0x141000 + n * 0x20), 29, 1⟩
/-- HLTH_n_STATUS.OVL_MOVED [28:28], RO (R223). -/
def HLTH_n_STATUS_OVL_MOVED (n : Nat) : Field := ⟨(0x141000 + n * 0x20), 28, 1⟩
/-- HLTH_n_STATUS.ENGINE [20:16], RO (R223). -/
def HLTH_n_STATUS_ENGINE (n : Nat) : Field := ⟨(0x141000 + n * 0x20), 16, 5⟩
/-- HLTH_n_SCAN.SCANS [31:16], RO (R223). -/
def HLTH_n_SCAN_SCANS (n : Nat) : Field := ⟨(0x141004 + n * 0x20), 16, 16⟩
/-- HLTH_n_SCAN.CURSOR [13:0], RO (R223). -/
def HLTH_n_SCAN_CURSOR (n : Nat) : Field := ⟨(0x141004 + n * 0x20), 0, 14⟩
/-- HLTH_n_CLASSCNT.DRIFTING [31:16], RO (R223). -/
def HLTH_n_CLASSCNT_DRIFTING (n : Nat) : Field := ⟨(0x141008 + n * 0x20), 16, 16⟩
/-- HLTH_n_CLASSCNT.DEAD [15:0], RO (R223). -/
def HLTH_n_CLASSCNT_DEAD (n : Nat) : Field := ⟨(0x141008 + n * 0x20), 0, 16⟩
/-- HLTH_n_COLS.WEAK [31:16], RO (R223). -/
def HLTH_n_COLS_WEAK (n : Nat) : Field := ⟨(0x14100C + n * 0x20), 16, 16⟩
/-- HLTH_n_COLS.DEAD [15:0], RO (R223). -/
def HLTH_n_COLS_DEAD (n : Nat) : Field := ⟨(0x14100C + n * 0x20), 0, 16⟩
/-- HLTH_n_DROPLOSS.LOST [31:0], RC (R223). -/
def HLTH_n_DROPLOSS_LOST (n : Nat) : Field := ⟨(0x141010 + n * 0x20), 0, 32⟩
/-- HLTH_n_DISAGREE.COUNT [15:0], RC (R223). -/
def HLTH_n_DISAGREE_COUNT (n : Nat) : Field := ⟨(0x141014 + n * 0x20), 0, 16⟩
/-- HLTH_n_UNPRINT.FIRST [25:16], RO (R223). -/
def HLTH_n_UNPRINT_FIRST (n : Nat) : Field := ⟨(0x141018 + n * 0x20), 16, 10⟩
/-- HLTH_n_UNPRINT.COUNT [10:0], RO (R223). -/
def HLTH_n_UNPRINT_COUNT (n : Nat) : Field := ⟨(0x141018 + n * 0x20), 0, 11⟩
/-- HLTH_n_RMED.MEDIAN [15:0], RO (R223). -/
def HLTH_n_RMED_MEDIAN (n : Nat) : Field := ⟨(0x14101C + n * 0x20), 0, 16⟩
/-- CMP_CTRL.PREFILL [15:8], RW (R258). -/
def CMP_CTRL_PREFILL : Field := ⟨0x150000, 8, 8⟩
/-- CMP_STATUS.WA_FREE [31:16], RO (R258). -/
def CMP_STATUS_WA_FREE : Field := ⟨0x150004, 16, 16⟩
/-- CMP_STATUS.RENDERING [15:8], RO (R258). -/
def CMP_STATUS_RENDERING : Field := ⟨0x150004, 8, 8⟩
/-- CMP_ERR.CODE [31:24], RO (R258). -/
def CMP_ERR_CODE : Field := ⟨0x150008, 24, 8⟩
/-- CMP_ERR.WIN [23:20], RO (R258). -/
def CMP_ERR_WIN : Field := ⟨0x150008, 20, 4⟩
/-- CMP_ERR.ITEM [9:0], RO (R258). -/
def CMP_ERR_ITEM : Field := ⟨0x150008, 0, 10⟩
/-- CMP_ERR_TAG.DOC_TAG [31:0], RO (R258). -/
def CMP_ERR_TAG_DOC_TAG : Field := ⟨0x15000C, 0, 32⟩
/-- CMP_WIN_w_Q.QUEUED [22:16], RO (R258). -/
def CMP_WIN_w_Q_QUEUED (w : Nat) : Field := ⟨(0x150100 + w * 0x10), 16, 7⟩
/-- CMP_WIN_w_Q.READY [14:8], RO (R258). -/
def CMP_WIN_w_Q_READY (w : Nat) : Field := ⟨(0x150100 + w * 0x10), 8, 7⟩
/-- CMP_WIN_w_TAG.DOC_TAG [31:0], RO (R258). -/
def CMP_WIN_w_TAG_DOC_TAG (w : Nat) : Field := ⟨(0x150104 + w * 0x10), 0, 32⟩
/-- CMP_WIN_w_REP.REMAIN [15:0], RO (R258). -/
def CMP_WIN_w_REP_REMAIN (w : Nat) : Field := ⟨(0x150108 + w * 0x10), 0, 16⟩
/-- CMP_q_PLAN.DROPS [31:0], RO (R258). -/
def CMP_q_PLAN_DROPS (q : Nat) : Field := ⟨(0x150200 + q * 0x4), 0, 32⟩
/-- CMP_SER_k_VALUE.VALUE [31:0], RW (R258). -/
def CMP_SER_k_VALUE_VALUE (k : Nat) : Field := ⟨(0x151000 + k * 0x10), 0, 32⟩
/-- CMP_SER_k_LOW.LOW [31:0], RW (R258). -/
def CMP_SER_k_LOW_LOW (k : Nat) : Field := ⟨(0x151004 + k * 0x10), 0, 32⟩
/-- CMP_SER_k_HIGH.HIGH [31:0], RW (R258). -/
def CMP_SER_k_HIGH_HIGH (k : Nat) : Field := ⟨(0x151008 + k * 0x10), 0, 32⟩
/-- CMP_SER_k_STEP.WRAPPED [31:31], W1C (R258). -/
def CMP_SER_k_STEP_WRAPPED (k : Nat) : Field := ⟨(0x15100C + k * 0x10), 31, 1⟩
/-- CMP_SER_k_STEP.STEP [15:0], RW (R258). -/
def CMP_SER_k_STEP_STEP (k : Nat) : Field := ⟨(0x15100C + k * 0x10), 0, 16⟩
/-- LANE_e_STATUS.IN_USE [31:31], RO (R258). -/
def LANE_e_STATUS_IN_USE (e : Nat) : Field := ⟨(0x160000 + e * 0x20), 31, 1⟩
/-- LANE_e_STATUS.FAILED [30:30], RO (R258). -/
def LANE_e_STATUS_FAILED (e : Nat) : Field := ⟨(0x160000 + e * 0x20), 30, 1⟩
/-- LANE_e_STATUS.TESTING [29:29], RO (R258). -/
def LANE_e_STATUS_TESTING (e : Nat) : Field := ⟨(0x160000 + e * 0x20), 29, 1⟩
/-- LANE_e_STATUS.TILE [22:16], RO (R258). -/
def LANE_e_STATUS_TILE (e : Nat) : Field := ⟨(0x160000 + e * 0x20), 16, 7⟩
/-- LANE_e_STATUS.UNDERRUN [1:1], W1C (R258). -/
def LANE_e_STATUS_UNDERRUN (e : Nat) : Field := ⟨(0x160000 + e * 0x20), 1, 1⟩
/-- LANE_e_STATUS.PARITY [0:0], W1C (R258). -/
def LANE_e_STATUS_PARITY (e : Nat) : Field := ⟨(0x160000 + e * 0x20), 0, 1⟩
/-- LANE_e_CYCLES.CYCLES [31:0], RO (R258). -/
def LANE_e_CYCLES_CYCLES (e : Nat) : Field := ⟨(0x160004 + e * 0x20), 0, 32⟩
/-- LANE_e_UNDERRUN.COUNT [31:0], RC (R258). -/
def LANE_e_UNDERRUN_COUNT (e : Nat) : Field := ⟨(0x160008 + e * 0x20), 0, 32⟩
/-- LANE_e_LOAD.LEAD_MIN [31:16], RC (R258). -/
def LANE_e_LOAD_LEAD_MIN (e : Nat) : Field := ⟨(0x16000C + e * 0x20), 16, 16⟩
/-- LANE_e_LOAD.BUSY_PM [9:0], RO (R258). -/
def LANE_e_LOAD_BUSY_PM (e : Nat) : Field := ⟨(0x16000C + e * 0x20), 0, 10⟩
/-- HOST_AP_BASE.BASE_GIB [5:0], RW (R293). -/
def HOST_AP_BASE_BASE_GIB : Field := ⟨0x170000, 0, 6⟩
/-- HOST_LINK.NOSNOOP [13:13], RO (R293). -/
def HOST_LINK_NOSNOOP : Field := ⟨0x170004, 13, 1⟩
/-- HOST_LINK.PHANTOM [12:12], RO (R293). -/
def HOST_LINK_PHANTOM : Field := ⟨0x170004, 12, 1⟩
/-- HOST_LINK.TAGS [11:10], RO (R293). -/
def HOST_LINK_TAGS : Field := ⟨0x170004, 10, 2⟩
/-- HOST_LINK.WIDTH [9:4], RO (R293). -/
def HOST_LINK_WIDTH : Field := ⟨0x170004, 4, 6⟩
/-- HOST_LINK.SPEED [3:0], RO (R293). -/
def HOST_LINK_SPEED : Field := ⟨0x170004, 0, 4⟩
/-- HOST_RD.LIMIT [26:16], RO (R293). -/
def HOST_RD_LIMIT : Field := ⟨0x170008, 16, 11⟩
/-- HOST_RD.OUT [10:0], RO (R293). -/
def HOST_RD_OUT : Field := ⟨0x170008, 0, 11⟩
/-- HOST_ERR.BAR2_MISS [31:24], RC (R293). -/
def HOST_ERR_BAR2_MISS : Field := ⟨0x17000C, 24, 8⟩
/-- HOST_ERR.UNEXP [23:12], RC (R293). -/
def HOST_ERR_UNEXP : Field := ⟨0x17000C, 12, 12⟩
/-- HOST_ERR.BADCPL [11:0], RC (R293). -/
def HOST_ERR_BADCPL : Field := ⟨0x17000C, 0, 12⟩
/-- DMA_CTRL.RD_MAX [10:0], RW (R293). -/
def DMA_CTRL_RD_MAX : Field := ⟨0x170100, 0, 11⟩
/-- DMA_POOL.FREE [26:16], RO (R293). -/
def DMA_POOL_FREE : Field := ⟨0x170104, 16, 11⟩
/-- DMA_POOL.TOTAL [10:0], RO (R293). -/
def DMA_POOL_TOTAL : Field := ⟨0x170104, 0, 11⟩
/-- DMA_SLOT.LIVE [16:0], RO (R293). -/
def DMA_SLOT_LIVE : Field := ⟨0x170108, 0, 17⟩
/-- DMA_s_SQ_LO.BASE [31:12], RW (R293). -/
def DMA_s_SQ_LO_BASE (s : Nat) : Field := ⟨(0xC00000 + s * 0x40), 12, 20⟩
/-- DMA_s_CQ_LO.BASE [31:12], RW (R293). -/
def DMA_s_CQ_LO_BASE (s : Nat) : Field := ⟨(0xC00008 + s * 0x40), 12, 20⟩
/-- DMA_s_SQ_HI.BASE_HI [31:0], RW (R293). -/
def DMA_s_SQ_HI_BASE_HI (s : Nat) : Field := ⟨(0xC00004 + s * 0x40), 0, 32⟩
/-- DMA_s_CQ_HI.BASE_HI [31:0], RW (R293). -/
def DMA_s_CQ_HI_BASE_HI (s : Nat) : Field := ⟨(0xC0000C + s * 0x40), 0, 32⟩
/-- DMA_s_SIZE.CQ_LOG2 [20:16], RW (R293). -/
def DMA_s_SIZE_CQ_LOG2 (s : Nat) : Field := ⟨(0xC00010 + s * 0x40), 16, 5⟩
/-- DMA_s_SIZE.SQ_LOG2 [4:0], RW (R293). -/
def DMA_s_SIZE_SQ_LOG2 (s : Nat) : Field := ⟨(0xC00010 + s * 0x40), 0, 5⟩
/-- DMA_s_CTRL.EN [31:31], RW (R293). -/
def DMA_s_CTRL_EN (s : Nat) : Field := ⟨(0xC00014 + s * 0x40), 31, 1⟩
/-- DMA_s_CTRL.RESET [30:30], WO (R293). -/
def DMA_s_CTRL_RESET (s : Nat) : Field := ⟨(0xC00014 + s * 0x40), 30, 1⟩
/-- DMA_s_CTRL.DOC_IRQ [29:29], RW (R293). -/
def DMA_s_CTRL_DOC_IRQ (s : Nat) : Field := ⟨(0xC00014 + s * 0x40), 29, 1⟩
/-- DMA_s_CTRL.ERR_IRQ [28:28], RW (R293). -/
def DMA_s_CTRL_ERR_IRQ (s : Nat) : Field := ⟨(0xC00014 + s * 0x40), 28, 1⟩
/-- DMA_s_CTRL.VEC [10:0], RW (R293). -/
def DMA_s_CTRL_VEC (s : Nat) : Field := ⟨(0xC00014 + s * 0x40), 0, 11⟩
/-- DMA_s_STAGE.SIZE [26:18], RW (R293). -/
def DMA_s_STAGE_SIZE (s : Nat) : Field := ⟨(0xC00018 + s * 0x40), 18, 9⟩
/-- DMA_s_STAGE.HIGH [17:9], RW (R293). -/
def DMA_s_STAGE_HIGH (s : Nat) : Field := ⟨(0xC00018 + s * 0x40), 9, 9⟩
/-- DMA_s_STAGE.LOW [8:0], RW (R293). -/
def DMA_s_STAGE_LOW (s : Nat) : Field := ⟨(0xC00018 + s * 0x40), 0, 9⟩
/-- DMA_s_STATUS.IDLE [31:31], RO (R293). -/
def DMA_s_STATUS_IDLE (s : Nat) : Field := ⟨(0xC0001C + s * 0x40), 31, 1⟩
/-- DMA_s_STATUS.HALTED [30:30], RO (R293). -/
def DMA_s_STATUS_HALTED (s : Nat) : Field := ⟨(0xC0001C + s * 0x40), 30, 1⟩
/-- DMA_s_STATUS.PAUSED [29:29], RO (R293). -/
def DMA_s_STATUS_PAUSED (s : Nat) : Field := ⟨(0xC0001C + s * 0x40), 29, 1⟩
/-- DMA_s_STATUS.CQ_WAIT [28:28], RO (R293). -/
def DMA_s_STATUS_CQ_WAIT (s : Nat) : Field := ⟨(0xC0001C + s * 0x40), 28, 1⟩
/-- DMA_s_STATUS.CFG_ERR [27:27], W1C (R293). -/
def DMA_s_STATUS_CFG_ERR (s : Nat) : Field := ⟨(0xC0001C + s * 0x40), 27, 1⟩
/-- DMA_s_STATUS.DB_IGNORED [26:26], W1C (R293). -/
def DMA_s_STATUS_DB_IGNORED (s : Nat) : Field := ⟨(0xC0001C + s * 0x40), 26, 1⟩
/-- DMA_s_STATUS.FILL [8:0], RO (R293). -/
def DMA_s_STATUS_FILL (s : Nat) : Field := ⟨(0xC0001C + s * 0x40), 0, 9⟩
/-- DMA_s_SQ_HEAD.HEAD [15:0], RO (R293). -/
def DMA_s_SQ_HEAD_HEAD (s : Nat) : Field := ⟨(0xC00020 + s * 0x40), 0, 16⟩
/-- DMA_s_CQ_TAIL.PHASE [31:31], RO (R293). -/
def DMA_s_CQ_TAIL_PHASE (s : Nat) : Field := ⟨(0xC00024 + s * 0x40), 31, 1⟩
/-- DMA_s_CQ_TAIL.TAIL [19:0], RO (R293). -/
def DMA_s_CQ_TAIL_TAIL (s : Nat) : Field := ⟨(0xC00024 + s * 0x40), 0, 20⟩
/-- DMA_s_RESV.RESV [20:0], RO (R293). -/
def DMA_s_RESV_RESV (s : Nat) : Field := ⟨(0xC00028 + s * 0x40), 0, 21⟩
/-- DMA_s_ERRCNT.BAD [31:16], RC (R293). -/
def DMA_s_ERRCNT_BAD (s : Nat) : Field := ⟨(0xC0002C + s * 0x40), 16, 16⟩
/-- DMA_s_ERRCNT.REFUSED [15:0], RC (R293). -/
def DMA_s_ERRCNT_REFUSED (s : Nat) : Field := ⟨(0xC0002C + s * 0x40), 0, 16⟩
/-- DMA_s_DB_SQ.TAIL [15:0], WO (R293). -/
def DMA_s_DB_SQ_TAIL (s : Nat) : Field := ⟨(0xD00000 + s * 0x8), 0, 16⟩
/-- DMA_s_DB_CQ.HEAD [19:0], WO (R293). -/
def DMA_s_DB_CQ_HEAD (s : Nat) : Field := ⟨(0xD00004 + s * 0x8), 0, 20⟩
/-- RING_CTRL.ENUM [31:31], WO (R315). -/
def RING_CTRL_ENUM : Field := ⟨0x180000, 31, 1⟩
/-- RING_CTRL.RING_ID [9:0], RW (R315). -/
def RING_CTRL_RING_ID : Field := ⟨0x180000, 0, 10⟩
/-- RING_STATUS.POS_VALID [31:31], RO (R315). -/
def RING_STATUS_POS_VALID : Field := ⟨0x180004, 31, 1⟩
/-- RING_STATUS.CLOSED [30:30], RO (R315). -/
def RING_STATUS_CLOSED : Field := ⟨0x180004, 30, 1⟩
/-- RING_STATUS.PASS_ONLY [29:29], RO (R315). -/
def RING_STATUS_PASS_ONLY : Field := ⟨0x180004, 29, 1⟩
/-- RING_STATUS.ENGINES [22:16], RO (R315). -/
def RING_STATUS_ENGINES : Field := ⟨0x180004, 16, 7⟩
/-- RING_STATUS.EID [15:0], RO (R315). -/
def RING_STATUS_EID : Field := ⟨0x180004, 0, 16⟩
/-- RING_TOPO.WRAPPED [31:31], RO (R315). -/
def RING_TOPO_WRAPPED : Field := ⟨0x180008, 31, 1⟩
/-- RING_TOPO.SPLIT [30:30], RO (R315). -/
def RING_TOPO_SPLIT : Field := ⟨0x180008, 30, 1⟩
/-- RING_TOPO.BREAK_E [13:8], RO (R315). -/
def RING_TOPO_BREAK_E : Field := ⟨0x180008, 8, 6⟩
/-- RING_TOPO.BREAK_W [5:0], RO (R315). -/
def RING_TOPO_BREAK_W : Field := ⟨0x180008, 0, 6⟩
/-- RING_JOIN_CFG.WINS [31:16], RW (R315). -/
def RING_JOIN_CFG_WINS : Field := ⟨0x18000C, 16, 16⟩
/-- RING_JOIN_CFG.TMO_MS [15:0], RW (R315). -/
def RING_JOIN_CFG_TMO_MS : Field := ⟨0x18000C, 0, 16⟩
/-- RING_JOIN_MEMBERS_LO.MEMBERS [31:0], RW (R315). -/
def RING_JOIN_MEMBERS_LO_MEMBERS : Field := ⟨0x180010, 0, 32⟩
/-- RING_JOIN_MEMBERS_HI.MEMBERS [31:0], RW (R315). -/
def RING_JOIN_MEMBERS_HI_MEMBERS : Field := ⟨0x180014, 0, 32⟩
/-- RING_ERR.REFUSED [31:24], RC (R315). -/
def RING_ERR_REFUSED : Field := ⟨0x180018, 24, 8⟩
/-- RING_ERR.LATE_RSP [23:16], RC (R315). -/
def RING_ERR_LATE_RSP : Field := ⟨0x180018, 16, 8⟩
/-- RING_ERR.DUP [15:0], RC (R315). -/
def RING_ERR_DUP : Field := ⟨0x180018, 0, 16⟩
/-- RING_PORT_p_STATUS.UP [31:31], RO (R315). -/
def RING_PORT_p_STATUS_UP (p : Nat) : Field := ⟨(0x180100 + p * 0x10), 31, 1⟩
/-- RING_PORT_p_STATUS.FAILED [30:30], RO (R315). -/
def RING_PORT_p_STATUS_FAILED (p : Nat) : Field := ⟨(0x180100 + p * 0x10), 30, 1⟩
/-- RING_PORT_p_STATUS.LOOP [29:29], RO (R315). -/
def RING_PORT_p_STATUS_LOOP (p : Nat) : Field := ⟨(0x180100 + p * 0x10), 29, 1⟩
/-- RING_PORT_p_STATUS.FAR_RING [25:16], RO (R315). -/
def RING_PORT_p_STATUS_FAR_RING (p : Nat) : Field := ⟨(0x180100 + p * 0x10), 16, 10⟩
/-- RING_PORT_p_STATUS.FAR_EID [15:0], RO (R315). -/
def RING_PORT_p_STATUS_FAR_EID (p : Nat) : Field := ⟨(0x180100 + p * 0x10), 0, 16⟩
/-- RING_PORT_p_DELAY.DELAY_NS [15:0], RO (R315). -/
def RING_PORT_p_DELAY_DELAY_NS (p : Nat) : Field := ⟨(0x180104 + p * 0x10), 0, 16⟩
/-- RING_PORT_p_CNT.RETRY [31:16], RC (R315). -/
def RING_PORT_p_CNT_RETRY (p : Nat) : Field := ⟨(0x180108 + p * 0x10), 16, 16⟩
/-- RING_PORT_p_CNT.CRC [15:0], RC (R315). -/
def RING_PORT_p_CNT_CRC (p : Nat) : Field := ⟨(0x180108 + p * 0x10), 0, 16⟩
/-- TILE_CTRL.UKEY_SET [16:16], RO (R340). -/
def TILE_CTRL_UKEY_SET : Field := ⟨0x190000, 16, 1⟩
/-- TILE_CTRL.TRIP_A [15:8], RW (R340). -/
def TILE_CTRL_TRIP_A : Field := ⟨0x190000, 8, 8⟩
/-- TILE_UKEY_n.KEY [31:0], WO (R340). -/
def TILE_UKEY_n_KEY (n : Nat) : Field := ⟨(0x190040 + n * 0x4), 0, 32⟩
/-- TILE_n_STATUS.VPP_ON [31:31], RO (R340). -/
def TILE_n_STATUS_VPP_ON (n : Nat) : Field := ⟨(0x191000 + n * 0x20), 31, 1⟩
/-- TILE_n_STATUS.LOGIC_ON [30:30], RO (R340). -/
def TILE_n_STATUS_LOGIC_ON (n : Nat) : Field := ⟨(0x191000 + n * 0x20), 30, 1⟩
/-- TILE_n_STATUS.TRAINED [29:29], RO (R340). -/
def TILE_n_STATUS_TRAINED (n : Nat) : Field := ⟨(0x191000 + n * 0x20), 29, 1⟩
/-- TILE_n_STATUS.FAILED [28:28], RO (R340). -/
def TILE_n_STATUS_FAILED (n : Nat) : Field := ⟨(0x191000 + n * 0x20), 28, 1⟩
/-- TILE_n_STATUS.DETECT [27:24], RO (R340). -/
def TILE_n_STATUS_DETECT (n : Nat) : Field := ⟨(0x191000 + n * 0x20), 24, 4⟩
/-- TILE_n_STATUS.CAUSE [23:20], RO (R340). -/
def TILE_n_STATUS_CAUSE (n : Nat) : Field := ⟨(0x191000 + n * 0x20), 20, 4⟩
/-- TILE_n_STATUS.FALLBACK [19:19], RO (R340). -/
def TILE_n_STATUS_FALLBACK (n : Nat) : Field := ⟨(0x191000 + n * 0x20), 19, 1⟩
/-- TILE_n_STATUS.USAGE_ON [18:18], RO (R340). -/
def TILE_n_STATUS_USAGE_ON (n : Nat) : Field := ⟨(0x191000 + n * 0x20), 18, 1⟩
/-- TILE_n_STATUS.HM_DEFER [17:17], W1C (R340). -/
def TILE_n_STATUS_HM_DEFER (n : Nat) : Field := ⟨(0x191000 + n * 0x20), 17, 1⟩
/-- TILE_n_SERIAL_LO.SERIAL [31:0], RO (R340). -/
def TILE_n_SERIAL_LO_SERIAL (n : Nat) : Field := ⟨(0x191004 + n * 0x20), 0, 32⟩
/-- TILE_n_SERIAL_HI.SERIAL [31:0], RO (R340). -/
def TILE_n_SERIAL_HI_SERIAL (n : Nat) : Field := ⟨(0x191008 + n * 0x20), 0, 32⟩
/-- TILE_n_RANK.TRIM_UNIT [23:16], RO (R340). -/
def TILE_n_RANK_TRIM_UNIT (n : Nat) : Field := ⟨(0x19100C + n * 0x20), 16, 8⟩
/-- TILE_n_RANK.CLASS [9:8], RO (R340). -/
def TILE_n_RANK_CLASS (n : Nat) : Field := ⟨(0x19100C + n * 0x20), 8, 2⟩
/-- TILE_n_RANK.VRANK [7:4], RO (R340). -/
def TILE_n_RANK_VRANK (n : Nat) : Field := ⟨(0x19100C + n * 0x20), 4, 4⟩
/-- TILE_n_RANK.ERANK [3:0], RO (R340). -/
def TILE_n_RANK_ERANK (n : Nat) : Field := ⟨(0x19100C + n * 0x20), 0, 4⟩
/-- TILE_n_TELEM.IPP_MA [31:16], RO (R340). -/
def TILE_n_TELEM_IPP_MA (n : Nat) : Field := ⟨(0x191010 + n * 0x20), 16, 16⟩
/-- TILE_n_TELEM.VPP_MV [15:0], RO (R340). -/
def TILE_n_TELEM_VPP_MV (n : Nat) : Field := ⟨(0x191010 + n * 0x20), 0, 16⟩
/-- TILE_n_LINKERR.DN_CRC [31:16], RC (R340). -/
def TILE_n_LINKERR_DN_CRC (n : Nat) : Field := ⟨(0x191014 + n * 0x20), 16, 16⟩
/-- TILE_n_LINKERR.UP_CRC [15:0], RC (R340). -/
def TILE_n_LINKERR_UP_CRC (n : Nat) : Field := ⟨(0x191014 + n * 0x20), 0, 16⟩
/-- TILE_n_USAGE_LO.COUNT [31:0], RO (R340). -/
def TILE_n_USAGE_LO_COUNT (n : Nat) : Field := ⟨(0x191018 + n * 0x20), 0, 32⟩
/-- TILE_n_USAGE_HI.COUNT [31:0], RO (R340). -/
def TILE_n_USAGE_HI_COUNT (n : Nat) : Field := ⟨(0x19101C + n * 0x20), 0, 32⟩
/-- PWR_SRC.MAINS_PRESENT [31:31], RO (R366). -/
def PWR_SRC_MAINS_PRESENT : Field := ⟨0x1A0000, 31, 1⟩
/-- PWR_SRC.MAINS_QUAL [30:30], RO (R366). -/
def PWR_SRC_MAINS_QUAL : Field := ⟨0x1A0000, 30, 1⟩
/-- PWR_SRC.DC_SUPPLYING [29:29], RO (R366). -/
def PWR_SRC_DC_SUPPLYING : Field := ⟨0x1A0000, 29, 1⟩
/-- PWR_SRC.STATE [2:0], RO (R366). -/
def PWR_SRC_STATE : Field := ⟨0x1A0000, 0, 3⟩
/-- PWR_MAINS.FREQ [31:16], RO (R366). -/
def PWR_MAINS_FREQ : Field := ⟨0x1A0004, 16, 16⟩
/-- PWR_MAINS.VRMS [15:0], RO (R366). -/
def PWR_MAINS_VRMS : Field := ⟨0x1A0004, 0, 16⟩
/-- PWR_LINK.PEAK [31:16], RC (R366). -/
def PWR_LINK_PEAK : Field := ⟨0x1A0008, 16, 16⟩
/-- PWR_LINK.VOLT [15:0], RO (R366). -/
def PWR_LINK_VOLT : Field := ⟨0x1A0008, 0, 16⟩
/-- PWR_LIMITS.P_AVAIL_W [31:16], RO (R366). -/
def PWR_LIMITS_P_AVAIL_W : Field := ⟨0x1A000C, 16, 16⟩
/-- PWR_LIMITS.P_H_W [15:0], RO (R366). -/
def PWR_LIMITS_P_H_W : Field := ⟨0x1A000C, 0, 16⟩
/-- PWR_MOTOR.ALLOW_W [31:16], RO (R366). -/
def PWR_MOTOR_ALLOW_W : Field := ⟨0x1A0010, 16, 16⟩
/-- PWR_MOTOR.P_M_W [15:0], RO (R366). -/
def PWR_MOTOR_P_M_W : Field := ⟨0x1A0010, 0, 16⟩
/-- PWR_DRAW.HEAD_W [31:16], RO (R366). -/
def PWR_DRAW_HEAD_W : Field := ⟨0x1A0014, 16, 16⟩
/-- PWR_DRAW.LOGIC_W [15:0], RO (R366). -/
def PWR_DRAW_LOGIC_W : Field := ⟨0x1A0014, 0, 16⟩
/-- PWR_DRAW_IN.MOTOR_W [31:16], RO (R366). -/
def PWR_DRAW_IN_MOTOR_W : Field := ⟨0x1A0018, 16, 16⟩
/-- PWR_DRAW_IN.INPUT_W [15:0], RO (R366). -/
def PWR_DRAW_IN_INPUT_W : Field := ⟨0x1A0018, 0, 16⟩
/-- PWR_STORE.READY [31:31], RO (R366). -/
def PWR_STORE_READY : Field := ⟨0x1A001C, 31, 1⟩
/-- PWR_STORE.CHG_INHIBIT [30:30], RO (R366). -/
def PWR_STORE_CHG_INHIBIT : Field := ⟨0x1A001C, 30, 1⟩
/-- PWR_STORE.DUSK_J [27:16], RO (R366). -/
def PWR_STORE_DUSK_J : Field := ⟨0x1A001C, 16, 12⟩
/-- PWR_STORE.E_J [11:0], RO (R366). -/
def PWR_STORE_E_J : Field := ⟨0x1A001C, 0, 12⟩
/-- PWR_STORE_V.VOLT [15:0], RO (R366). -/
def PWR_STORE_V_VOLT : Field := ⟨0x1A0020, 0, 16⟩
/-- PWR_DC.QUAL [31:31], RO (R366). -/
def PWR_DC_QUAL : Field := ⟨0x1A0024, 31, 1⟩
/-- PWR_DC.REVERSED [30:30], RO (R366). -/
def PWR_DC_REVERSED : Field := ⟨0x1A0024, 30, 1⟩
/-- PWR_DC.REV_SEEN [29:29], W1C (R366). -/
def PWR_DC_REV_SEEN : Field := ⟨0x1A0024, 29, 1⟩
/-- PWR_DC.RANGE [28:28], W1C (R366). -/
def PWR_DC_RANGE : Field := ⟨0x1A0024, 28, 1⟩
/-- PWR_DC.VOLT [15:0], RO (R366). -/
def PWR_DC_VOLT : Field := ⟨0x1A0024, 0, 16⟩
/-- PWR_PLAN.BURST_MS [31:20], RW (R366). -/
def PWR_PLAN_BURST_MS : Field := ⟨0x1A0028, 20, 12⟩
/-- PWR_PLAN.RATE [16:0], RW (R366). -/
def PWR_PLAN_RATE : Field := ⟨0x1A0028, 0, 17⟩
/-- PWR_ACCT.ACCT_MJ [31:0], RO (R366). -/
def PWR_ACCT_ACCT_MJ : Field := ⟨0x1A002C, 0, 32⟩
/-- PWR_PAUSE.COUNT [31:16], RC (R366). -/
def PWR_PAUSE_COUNT : Field := ⟨0x1A0030, 16, 16⟩
/-- PWR_PAUSE.LAST_MS [15:0], RO (R366). -/
def PWR_PAUSE_LAST_MS : Field := ⟨0x1A0030, 0, 16⟩
/-- PWR_GROUP.GROUP [31:24], RW (R366). -/
def PWR_GROUP_GROUP : Field := ⟨0x1A0034, 24, 8⟩
/-- PWR_GROUP.MEMBERS [23:16], RO (R366). -/
def PWR_GROUP_MEMBERS : Field := ⟨0x1A0034, 16, 8⟩
/-- PWR_GROUP.LIMIT [15:0], RW (R366). -/
def PWR_GROUP_LIMIT : Field := ⟨0x1A0034, 0, 16⟩
/-- PWR_EVT.ABORTS [31:16], RC (R366). -/
def PWR_EVT_ABORTS : Field := ⟨0x1A0038, 16, 16⟩
/-- PWR_EVT.RIDES [15:0], RC (R366). -/
def PWR_EVT_RIDES : Field := ⟨0x1A0038, 0, 16⟩
/-- PWR_q_RAIL.ON [31:31], RO (R366). -/
def PWR_q_RAIL_ON (q : Nat) : Field := ⟨(0x1A0100 + q * 0x10), 31, 1⟩
/-- PWR_q_RAIL.LIMIT [30:30], RO (R366). -/
def PWR_q_RAIL_LIMIT (q : Nat) : Field := ⟨(0x1A0100 + q * 0x10), 30, 1⟩
/-- PWR_q_RAIL.SHORT [29:29], RO (R366). -/
def PWR_q_RAIL_SHORT (q : Nat) : Field := ⟨(0x1A0100 + q * 0x10), 29, 1⟩
/-- PWR_q_RAIL.UV [28:28], W1C (R366). -/
def PWR_q_RAIL_UV (q : Nat) : Field := ⟨(0x1A0100 + q * 0x10), 28, 1⟩
/-- PWR_q_RAIL.VPP_MV [15:0], RO (R366). -/
def PWR_q_RAIL_VPP_MV (q : Nat) : Field := ⟨(0x1A0100 + q * 0x10), 0, 16⟩
/-- PWR_q_RAIL_P.PEAK_W [31:16], RC (R366). -/
def PWR_q_RAIL_P_PEAK_W (q : Nat) : Field := ⟨(0x1A0104 + q * 0x10), 16, 16⟩
/-- PWR_q_RAIL_P.AVG_W [15:0], RO (R366). -/
def PWR_q_RAIL_P_AVG_W (q : Nat) : Field := ⟨(0x1A0104 + q * 0x10), 0, 16⟩
/-- PWR_q_PLAN.PLAN_W [15:0], RO (R366). -/
def PWR_q_PLAN_PLAN_W (q : Nat) : Field := ⟨(0x1A0108 + q * 0x10), 0, 16⟩
/-- MOT_CMDPIN.LOST [31:31], RO (R396). -/
def MOT_CMDPIN_LOST : Field := ⟨0x1B0000, 31, 1⟩
/-- MOT_CMDPIN.MODE [17:16], RO (R396). -/
def MOT_CMDPIN_MODE : Field := ⟨0x1B0000, 16, 2⟩
/-- MOT_CMDPIN.VALUE [15:0], RO (R396). -/
def MOT_CMDPIN_VALUE : Field := ⟨0x1B0000, 0, 16⟩
/-- MOT_a_CMD.RUN [31:31], RW (R396). -/
def MOT_a_CMD_RUN (a : Nat) : Field := ⟨(0x1B0100 + a * 0x40), 31, 1⟩
/-- MOT_a_CMD.SYNC [30:30], RW (R396). -/
def MOT_a_CMD_SYNC (a : Nat) : Field := ⟨(0x1B0100 + a * 0x40), 30, 1⟩
/-- MOT_a_CMD.TORQUE [29:29], RW (R396). -/
def MOT_a_CMD_TORQUE (a : Nat) : Field := ⟨(0x1B0100 + a * 0x40), 29, 1⟩
/-- MOT_a_CMD.SWAP [28:28], RW (R396). -/
def MOT_a_CMD_SWAP (a : Nat) : Field := ⟨(0x1B0100 + a * 0x40), 28, 1⟩
/-- MOT_a_SPEED_CMD.RPM [31:0], RW (R396). -/
def MOT_a_SPEED_CMD_RPM (a : Nat) : Field := ⟨(0x1B0104 + a * 0x40), 0, 32⟩
/-- MOT_a_TORQ_CMD.IQ_MA [15:0], RW (R396). -/
def MOT_a_TORQ_CMD_IQ_MA (a : Nat) : Field := ⟨(0x1B0108 + a * 0x40), 0, 16⟩
/-- MOT_a_STATUS.RUNNING [31:31], RO (R396). -/
def MOT_a_STATUS_RUNNING (a : Nat) : Field := ⟨(0x1B010C + a * 0x40), 31, 1⟩
/-- MOT_a_STATUS.AT_SPEED [30:30], RO (R396). -/
def MOT_a_STATUS_AT_SPEED (a : Nat) : Field := ⟨(0x1B010C + a * 0x40), 30, 1⟩
/-- MOT_a_STATUS.CATCHING [29:29], RO (R396). -/
def MOT_a_STATUS_CATCHING (a : Nat) : Field := ⟨(0x1B010C + a * 0x40), 29, 1⟩
/-- MOT_a_STATUS.EST [28:27], RO (R396). -/
def MOT_a_STATUS_EST (a : Nat) : Field := ⟨(0x1B010C + a * 0x40), 27, 2⟩
/-- MOT_a_STATUS.FW [26:26], RO (R396). -/
def MOT_a_STATUS_FW (a : Nat) : Field := ⟨(0x1B010C + a * 0x40), 26, 1⟩
/-- MOT_a_STATUS.PLIM [25:25], RO (R396). -/
def MOT_a_STATUS_PLIM (a : Nat) : Field := ⟨(0x1B010C + a * 0x40), 25, 1⟩
/-- MOT_a_STATUS.LINKLIM [24:24], RO (R396). -/
def MOT_a_STATUS_LINKLIM (a : Nat) : Field := ⟨(0x1B010C + a * 0x40), 24, 1⟩
/-- MOT_a_STATUS.GATE [5:5], W1C (R396). -/
def MOT_a_STATUS_GATE (a : Nat) : Field := ⟨(0x1B010C + a * 0x40), 5, 1⟩
/-- MOT_a_STATUS.OPEN_PHASE [4:4], W1C (R396). -/
def MOT_a_STATUS_OPEN_PHASE (a : Nat) : Field := ⟨(0x1B010C + a * 0x40), 4, 1⟩
/-- MOT_a_STATUS.PHASE_ORDER [3:3], W1C (R396). -/
def MOT_a_STATUS_PHASE_ORDER (a : Nat) : Field := ⟨(0x1B010C + a * 0x40), 3, 1⟩
/-- MOT_a_STATUS.OVERCURRENT [2:2], W1C (R396). -/
def MOT_a_STATUS_OVERCURRENT (a : Nat) : Field := ⟨(0x1B010C + a * 0x40), 2, 1⟩
/-- MOT_a_STATUS.STALL [1:1], W1C (R396). -/
def MOT_a_STATUS_STALL (a : Nat) : Field := ⟨(0x1B010C + a * 0x40), 1, 1⟩
/-- MOT_a_STATUS.CATCH_OVER [0:0], W1C (R396). -/
def MOT_a_STATUS_CATCH_OVER (a : Nat) : Field := ⟨(0x1B010C + a * 0x40), 0, 1⟩
/-- MOT_a_SPEED.RPM [31:0], RO (R396). -/
def MOT_a_SPEED_RPM (a : Nat) : Field := ⟨(0x1B0110 + a * 0x40), 0, 32⟩
/-- MOT_a_IDQ.ID_MA [31:16], RO (R396). -/
def MOT_a_IDQ_ID_MA (a : Nat) : Field := ⟨(0x1B0114 + a * 0x40), 16, 16⟩
/-- MOT_a_IDQ.IQ_MA [15:0], RO (R396). -/
def MOT_a_IDQ_IQ_MA (a : Nat) : Field := ⟨(0x1B0114 + a * 0x40), 0, 16⟩
/-- MOT_a_ILIM.ILIM_MA [15:0], RW (R396). -/
def MOT_a_ILIM_ILIM_MA (a : Nat) : Field := ⟨(0x1B0118 + a * 0x40), 0, 16⟩
/-- MOT_a_FW.FW_MARGIN_PM [31:24], RW (R396). -/
def MOT_a_FW_FW_MARGIN_PM (a : Nat) : Field := ⟨(0x1B011C + a * 0x40), 24, 8⟩
/-- MOT_a_FW.FW_IDMAX_MA [15:0], RW (R396). -/
def MOT_a_FW_FW_IDMAX_MA (a : Nat) : Field := ⟨(0x1B011C + a * 0x40), 0, 16⟩
/-- MOT_a_HFI.HFI_V [31:24], RW (R396). -/
def MOT_a_HFI_HFI_V (a : Nat) : Field := ⟨(0x1B0120 + a * 0x40), 24, 8⟩
/-- MOT_a_HFI.HFI_HZ [15:0], RW (R396). -/
def MOT_a_HFI_HFI_HZ (a : Nat) : Field := ⟨(0x1B0120 + a * 0x40), 0, 16⟩
/-- MOT_a_MODEL_R.AUTO [31:31], RW (R396). -/
def MOT_a_MODEL_R_AUTO (a : Nat) : Field := ⟨(0x1B0124 + a * 0x40), 31, 1⟩
/-- MOT_a_MODEL_R.RS_MOHM [15:0], RW (R396). -/
def MOT_a_MODEL_R_RS_MOHM (a : Nat) : Field := ⟨(0x1B0124 + a * 0x40), 0, 16⟩
/-- MOT_a_MODEL_L.LQ_UH [31:16], RW (R396). -/
def MOT_a_MODEL_L_LQ_UH (a : Nat) : Field := ⟨(0x1B0128 + a * 0x40), 16, 16⟩
/-- MOT_a_MODEL_L.LD_UH [15:0], RW (R396). -/
def MOT_a_MODEL_L_LD_UH (a : Nat) : Field := ⟨(0x1B0128 + a * 0x40), 0, 16⟩
/-- MOT_a_MODEL_K.KE [15:0], RW (R396). -/
def MOT_a_MODEL_K_KE (a : Nat) : Field := ⟨(0x1B012C + a * 0x40), 0, 16⟩
/-- MOT_a_BW.SPD_BW_HZ [31:16], RW (R396). -/
def MOT_a_BW_SPD_BW_HZ (a : Nat) : Field := ⟨(0x1B0130 + a * 0x40), 16, 16⟩
/-- MOT_a_BW.CUR_BW_HZ [15:0], RW (R396). -/
def MOT_a_BW_CUR_BW_HZ (a : Nat) : Field := ⟨(0x1B0130 + a * 0x40), 0, 16⟩
/-- MOT_a_SHARE.DRAW_W [31:16], RO (R396). -/
def MOT_a_SHARE_DRAW_W (a : Nat) : Field := ⟨(0x1B0134 + a * 0x40), 16, 16⟩
/-- MOT_a_SHARE.SHARE_W [15:0], RO (R396). -/
def MOT_a_SHARE_SHARE_W (a : Nat) : Field := ⟨(0x1B0134 + a * 0x40), 0, 16⟩
/-- MOT_a_SAMPLE.FORCED [31:16], RC (R396). -/
def MOT_a_SAMPLE_FORCED (a : Nat) : Field := ⟨(0x1B0138 + a * 0x40), 16, 16⟩
/-- MOT_a_SAMPLE.PREDICTED [15:0], RC (R396). -/
def MOT_a_SAMPLE_PREDICTED (a : Nat) : Field := ⟨(0x1B0138 + a * 0x40), 0, 16⟩
/-- THM_CTRL.CAP_MS [31:16], RW (R410). -/
def THM_CTRL_CAP_MS : Field := ⟨0x1C0000, 16, 16⟩
/-- THM_PAUSE.STEP_MS [31:16], RW (R410). -/
def THM_PAUSE_STEP_MS : Field := ⟨0x1C0004, 16, 16⟩
/-- THM_PAUSE.MAX_STEPS [7:0], RW (R410). -/
def THM_PAUSE_MAX_STEPS : Field := ⟨0x1C0004, 0, 8⟩
/-- THM_STATUS.PAUSING [31:31], RO (R410). -/
def THM_STATUS_PAUSING : Field := ⟨0x1C0008, 31, 1⟩
/-- THM_STATUS.DUSK_REQ [30:30], RO (R410). -/
def THM_STATUS_DUSK_REQ : Field := ⟨0x1C0008, 30, 1⟩
/-- THM_STATUS.NV_INHIBIT [29:29], RO (R410). -/
def THM_STATUS_NV_INHIBIT : Field := ⟨0x1C0008, 29, 1⟩
/-- THM_STATUS.LAST_SRC [6:0], RO (R410). -/
def THM_STATUS_LAST_SRC : Field := ⟨0x1C0008, 0, 7⟩
/-- THM_PRED.TP_MS [31:0], RO (R410). -/
def THM_PRED_TP_MS : Field := ⟨0x1C000C, 0, 32⟩
/-- THM_RECAL.COUNT [31:16], RO (R410). -/
def THM_RECAL_COUNT : Field := ⟨0x1C0010, 16, 16⟩
/-- THM_RECAL.DISAGREE [15:0], RC (R410). -/
def THM_RECAL_DISAGREE : Field := ⟨0x1C0010, 0, 16⟩
/-- THM_RATE_c.LIMIT [31:16], RW (R410). -/
def THM_RATE_c_LIMIT (c : Nat) : Field := ⟨(0x1C0100 + c * 0x4), 16, 16⟩
/-- THM_RATE_c.WINDOW_MS [15:8], RW (R410). -/
def THM_RATE_c_WINDOW_MS (c : Nat) : Field := ⟨(0x1C0100 + c * 0x4), 8, 8⟩
/-- THM_RATE_c.ACTION [1:0], RW (R410). -/
def THM_RATE_c_ACTION (c : Nat) : Field := ⟨(0x1C0100 + c * 0x4), 0, 2⟩
/-- THM_n_TEMP.VALID [31:31], RO (R410). -/
def THM_n_TEMP_VALID (n : Nat) : Field := ⟨(0x1C1000 + n * 0x8), 31, 1⟩
/-- THM_n_TEMP.FAST [30:30], RO (R410). -/
def THM_n_TEMP_FAST (n : Nat) : Field := ⟨(0x1C1000 + n * 0x8), 30, 1⟩
/-- THM_n_TEMP.TEMP [15:0], RO (R410). -/
def THM_n_TEMP_TEMP (n : Nat) : Field := ⟨(0x1C1000 + n * 0x8), 0, 16⟩
/-- THM_n_RATE.PEAK [31:16], RC (R410). -/
def THM_n_RATE_PEAK (n : Nat) : Field := ⟨(0x1C1004 + n * 0x8), 16, 16⟩
/-- THM_n_RATE.RATE [15:0], RO (R410). -/
def THM_n_RATE_RATE (n : Nat) : Field := ⟨(0x1C1004 + n * 0x8), 0, 16⟩
/-- FLT_CTRL.LOG_EN [31:31], RW (R431). -/
def FLT_CTRL_LOG_EN : Field := ⟨0x1D0000, 31, 1⟩
/-- FLT_CTRL.FWD_EN [30:30], RW (R431). -/
def FLT_CTRL_FWD_EN : Field := ⟨0x1D0000, 30, 1⟩
/-- FLT_CTRL.FWD_CLASS [29:28], RW (R431). -/
def FLT_CTRL_FWD_CLASS : Field := ⟨0x1D0000, 28, 2⟩
/-- FLT_CTRL.NV_CLASS [27:26], RW (R431). -/
def FLT_CTRL_NV_CLASS : Field := ⟨0x1D0000, 26, 2⟩
/-- FLT_CTRL.STOP_SEND [25:25], RW (R431). -/
def FLT_CTRL_STOP_SEND : Field := ⟨0x1D0000, 25, 1⟩
/-- FLT_CTRL.STOP_TAKE [24:24], RW (R431). -/
def FLT_CTRL_STOP_TAKE : Field := ⟨0x1D0000, 24, 1⟩
/-- FLT_CTRL.STOP_GROUP [23:16], RW (R431). -/
def FLT_CTRL_STOP_GROUP : Field := ⟨0x1D0000, 16, 8⟩
/-- FLT_CTRL.VEC [10:0], RW (R431). -/
def FLT_CTRL_VEC : Field := ⟨0x1D0000, 0, 11⟩
/-- FLT_PEND.FLOOD [31:31], RO (R431). -/
def FLT_PEND_FLOOD : Field := ⟨0x1D0004, 31, 1⟩
/-- FLT_PEND.LOG_FULL [30:30], RO (R431). -/
def FLT_PEND_LOG_FULL : Field := ⟨0x1D0004, 30, 1⟩
/-- FLT_PEND.RELAY [29:29], W1C (R431). -/
def FLT_PEND_RELAY : Field := ⟨0x1D0004, 29, 1⟩
/-- FLT_PEND.HALT [3:3], RO (R431). -/
def FLT_PEND_HALT : Field := ⟨0x1D0004, 3, 1⟩
/-- FLT_PEND.STOP [2:2], W1C (R431). -/
def FLT_PEND_STOP : Field := ⟨0x1D0004, 2, 1⟩
/-- FLT_PEND.DEGRADE [1:1], W1C (R431). -/
def FLT_PEND_DEGRADE : Field := ⟨0x1D0004, 1, 1⟩
/-- FLT_PEND.NOTE [0:0], W1C (R431). -/
def FLT_PEND_NOTE : Field := ⟨0x1D0004, 0, 1⟩
/-- FLT_LAST_LO.MSG [31:0], RO (R431). -/
def FLT_LAST_LO_MSG : Field := ⟨0x1D0008, 0, 32⟩
/-- FLT_LAST_HI.MSG [31:0], RO (R431). -/
def FLT_LAST_HI_MSG : Field := ⟨0x1D000C, 0, 32⟩
/-- FLT_LOG_BASE_LO.BASE [31:12], RW (R431). -/
def FLT_LOG_BASE_LO_BASE : Field := ⟨0x1D0010, 12, 20⟩
/-- FLT_LOG_BASE_HI.BASE [31:0], RW (R431). -/
def FLT_LOG_BASE_HI_BASE : Field := ⟨0x1D0014, 0, 32⟩
/-- FLT_LOG_SIZE.LOG2 [4:0], RW (R431). -/
def FLT_LOG_SIZE_LOG2 : Field := ⟨0x1D0018, 0, 5⟩
/-- FLT_LOG_HEAD.HEAD [19:0], RW (R431). -/
def FLT_LOG_HEAD_HEAD : Field := ⟨0x1D001C, 0, 20⟩
/-- FLT_LOG_TAIL.PHASE [31:31], RO (R431). -/
def FLT_LOG_TAIL_PHASE : Field := ⟨0x1D0020, 31, 1⟩
/-- FLT_LOG_TAIL.TAIL [19:0], RO (R431). -/
def FLT_LOG_TAIL_TAIL : Field := ⟨0x1D0020, 0, 20⟩
/-- FLT_FLOOD.HI [21:11], RW (R431). -/
def FLT_FLOOD_HI : Field := ⟨0x1D0024, 11, 11⟩
/-- FLT_FLOOD.LO [10:0], RW (R431). -/
def FLT_FLOOD_LO : Field := ⟨0x1D0024, 0, 11⟩
/-- FLT_QUEUE.FILL [26:16], RO (R431). -/
def FLT_QUEUE_FILL : Field := ⟨0x1D0028, 16, 11⟩
/-- FLT_QUEUE.ENTRIES [8:0], RO (R431). -/
def FLT_QUEUE_ENTRIES : Field := ⟨0x1D0028, 0, 9⟩
/-- FLT_COAL.QUIET_US [15:0], RW (R431). -/
def FLT_COAL_QUIET_US : Field := ⟨0x1D002C, 0, 16⟩
/-- FLT_DROP.NOTE [31:16], RC (R431). -/
def FLT_DROP_NOTE : Field := ⟨0x1D0030, 16, 16⟩
/-- FLT_DROP.DEGRADE [15:0], RC (R431). -/
def FLT_DROP_DEGRADE : Field := ⟨0x1D0030, 0, 16⟩
/-- FLT_DROP_RING.COUNT [31:0], RC (R431). -/
def FLT_DROP_RING_COUNT : Field := ⟨0x1D0034, 0, 32⟩
/-- FLT_NV.HALT_SAVED [31:31], RO (R431). -/
def FLT_NV_HALT_SAVED : Field := ⟨0x1D0038, 31, 1⟩
/-- FLT_NV.DEFER [30:30], RO (R431). -/
def FLT_NV_DEFER : Field := ⟨0x1D0038, 30, 1⟩
/-- FLT_NV.PAGE [21:16], RW (R431). -/
def FLT_NV_PAGE : Field := ⟨0x1D0038, 16, 6⟩
/-- FLT_NV.LOST [15:0], RC (R431). -/
def FLT_NV_LOST : Field := ⟨0x1D0038, 0, 16⟩
/-- FLT_NV_IDX.WRAPPED [31:31], RO (R431). -/
def FLT_NV_IDX_WRAPPED : Field := ⟨0x1D003C, 31, 1⟩
/-- FLT_NV_IDX.NEXT [16:0], RO (R431). -/
def FLT_NV_IDX_NEXT : Field := ⟨0x1D003C, 0, 17⟩
/-- FLT_INJECT_LO.MSG [31:0], RW (R431). -/
def FLT_INJECT_LO_MSG : Field := ⟨0x1D0040, 0, 32⟩
/-- FLT_INJECT_HI.MSG [31:0], RW (R431). -/
def FLT_INJECT_HI_MSG : Field := ⟨0x1D0044, 0, 32⟩
/-- CAL_CTRL.RUN_NOW [31:31], WO (R452). -/
def CAL_CTRL_RUN_NOW : Field := ⟨0x1E0000, 31, 1⟩
/-- CAL_CTRL.HOLD [4:0], RW (R452). -/
def CAL_CTRL_HOLD : Field := ⟨0x1E0000, 0, 5⟩
/-- CAL_STATUS.NV_PENDING [31:31], RO (R452). -/
def CAL_STATUS_NV_PENDING : Field := ⟨0x1E0004, 31, 1⟩
/-- CAL_STATUS.IMPORT_ERR [30:30], W1C (R452). -/
def CAL_STATUS_IMPORT_ERR : Field := ⟨0x1E0004, 30, 1⟩
/-- CAL_STATUS.SLEWING [12:8], RO (R452). -/
def CAL_STATUS_SLEWING : Field := ⟨0x1E0004, 8, 5⟩
/-- CAL_STATUS.FACTORY [4:0], RO (R452). -/
def CAL_STATUS_FACTORY : Field := ⟨0x1E0004, 0, 5⟩
/-- CAL_COUNT.COUNT [31:0], RO (R452). -/
def CAL_COUNT_COUNT : Field := ⟨0x1E0008, 0, 32⟩
/-- CAL_LAST_DATE.YEAR [24:16], RO (R452). -/
def CAL_LAST_DATE_YEAR : Field := ⟨0x1E000C, 16, 9⟩
/-- CAL_LAST_DATE.MONTH [11:8], RO (R452). -/
def CAL_LAST_DATE_MONTH : Field := ⟨0x1E000C, 8, 4⟩
/-- CAL_LAST_DATE.DAY [4:0], RO (R452). -/
def CAL_LAST_DATE_DAY : Field := ⟨0x1E000C, 0, 5⟩
/-- CAL_LAST_TIME.HOUR [20:16], RO (R452). -/
def CAL_LAST_TIME_HOUR : Field := ⟨0x1E0010, 16, 5⟩
/-- CAL_LAST_TIME.MINUTE [13:8], RO (R452). -/
def CAL_LAST_TIME_MINUTE : Field := ⟨0x1E0010, 8, 6⟩
/-- CAL_LAST_TIME.SECOND [5:0], RO (R452). -/
def CAL_LAST_TIME_SECOND : Field := ⟨0x1E0010, 0, 6⟩
/-- CAL_IMPORT.GO [31:31], WO (R452). -/
def CAL_IMPORT_GO : Field := ⟨0x1E0020, 31, 1⟩
/-- CAL_IMPORT.BASE [30:24], RW (R452). -/
def CAL_IMPORT_BASE : Field := ⟨0x1E0020, 24, 7⟩
/-- CAL_IMPORT.SLOT [23:23], RW (R452). -/
def CAL_IMPORT_SLOT : Field := ⟨0x1E0020, 23, 1⟩
/-- CAL_IMPORT.OFFSET [15:0], RW (R452). -/
def CAL_IMPORT_OFFSET : Field := ⟨0x1E0020, 0, 16⟩
/-- CAL_t_STAT.RESULTS [31:16], RO (R452). -/
def CAL_t_STAT_RESULTS (t : Nat) : Field := ⟨(0x1E0100 + t * 0x4), 16, 16⟩
/-- CAL_t_STAT.DISAGREE [15:0], RC (R452). -/
def CAL_t_STAT_DISAGREE (t : Nat) : Field := ⟨(0x1E0100 + t * 0x4), 0, 16⟩
/-- CAL_PORT_n_A.OUT_CELLS [31:24], RO (R452). -/
def CAL_PORT_n_A_OUT_CELLS (n : Nat) : Field := ⟨(0x1E1000 + n * 0x8), 24, 8⟩
/-- CAL_PORT_n_A.TR_CORR [23:16], RO (R452). -/
def CAL_PORT_n_A_TR_CORR (n : Nat) : Field := ⟨(0x1E1000 + n * 0x8), 16, 8⟩
/-- CAL_PORT_n_A.SENSE_SEG [15:8], RO (R452). -/
def CAL_PORT_n_A_SENSE_SEG (n : Nat) : Field := ⟨(0x1E1000 + n * 0x8), 8, 8⟩
/-- CAL_PORT_n_A.DACS_ON [7:0], RO (R452). -/
def CAL_PORT_n_A_DACS_ON (n : Nat) : Field := ⟨(0x1E1000 + n * 0x8), 0, 8⟩
/-- CAL_PORT_n_B.STB_DAC [31:24], RO (R452). -/
def CAL_PORT_n_B_STB_DAC (n : Nat) : Field := ⟨(0x1E1004 + n * 0x8), 24, 8⟩
/-- CAL_PORT_n_B.SENSE_DAC [23:16], RO (R452). -/
def CAL_PORT_n_B_SENSE_DAC (n : Nat) : Field := ⟨(0x1E1004 + n * 0x8), 16, 8⟩
/-- CAL_PORT_n_B.SENSE_OFS [15:0], RO (R452). -/
def CAL_PORT_n_B_SENSE_OFS (n : Nat) : Field := ⟨(0x1E1004 + n * 0x8), 0, 16⟩
/-- CAL_ENC_n_A.SHARE1 [31:16], RO (R452). -/
def CAL_ENC_n_A_SHARE1 (n : Nat) : Field := ⟨(0x1E2000 + n * 0x8), 16, 16⟩
/-- CAL_ENC_n_A.SHARE0 [15:0], RO (R452). -/
def CAL_ENC_n_A_SHARE0 (n : Nat) : Field := ⟨(0x1E2000 + n * 0x8), 0, 16⟩
/-- CAL_ENC_n_B.SHARE3 [31:16], RO (R452). -/
def CAL_ENC_n_B_SHARE3 (n : Nat) : Field := ⟨(0x1E2004 + n * 0x8), 16, 16⟩
/-- CAL_ENC_n_B.SHARE2 [15:0], RO (R452). -/
def CAL_ENC_n_B_SHARE2 (n : Nat) : Field := ⟨(0x1E2004 + n * 0x8), 0, 16⟩
/-- CAL_PHASE_d.P3 [23:16], RO (R452). -/
def CAL_PHASE_d_P3 (d : Nat) : Field := ⟨(0x1E3000 + d * 0x4), 16, 8⟩
/-- CAL_PHASE_d.P2 [15:8], RO (R452). -/
def CAL_PHASE_d_P2 (d : Nat) : Field := ⟨(0x1E3000 + d * 0x4), 8, 8⟩
/-- CAL_PHASE_d.P1 [7:0], RO (R452). -/
def CAL_PHASE_d_P1 (d : Nat) : Field := ⟨(0x1E3000 + d * 0x4), 0, 8⟩
/-- CAL_MOT_a_A.OFS_V [31:16], RO (R452). -/
def CAL_MOT_a_A_OFS_V (a : Nat) : Field := ⟨(0x1E4000 + a * 0x8), 16, 16⟩
/-- CAL_MOT_a_A.OFS_U [15:0], RO (R452). -/
def CAL_MOT_a_A_OFS_U (a : Nat) : Field := ⟨(0x1E4000 + a * 0x8), 0, 16⟩
/-- CAL_MOT_a_B.GAIN_V [7:0], RO (R452). -/
def CAL_MOT_a_B_GAIN_V (a : Nat) : Field := ⟨(0x1E4004 + a * 0x8), 0, 8⟩
/-- SYS_TIME_LO.TIME [31:0], RO (R473). -/
def SYS_TIME_LO_TIME : Field := ⟨0x28, 0, 32⟩
/-- SYS_TIME_HI.TIME [31:0], RO (R473). -/
def SYS_TIME_HI_TIME : Field := ⟨0x2C, 0, 32⟩
/-- MEM_STATUS.SLEEP_ACC [31:16], RC (R473). -/
def MEM_STATUS_SLEEP_ACC : Field := ⟨0x1F0000, 16, 16⟩
/-- MEM_STATUS.ALIAS_ERR [15:0], RC (R473). -/
def MEM_STATUS_ALIAS_ERR : Field := ⟨0x1F0000, 0, 16⟩
/-- MEM_ECC.CORR [31:16], RC (R473). -/
def MEM_ECC_CORR : Field := ⟨0x1F0004, 16, 16⟩
/-- MEM_ECC.UNCORR [15:0], RC (R473). -/
def MEM_ECC_UNCORR : Field := ⟨0x1F0004, 0, 16⟩
/-- MEM_ATOM_BASE.BASE [17:0], RW (R473). -/
def MEM_ATOM_BASE_BASE : Field := ⟨0x1F0008, 0, 18⟩
/-- MEM_SPAD_LO.STATE [31:0], RO (R473). -/
def MEM_SPAD_LO_STATE : Field := ⟨0x1F0010, 0, 32⟩
/-- MEM_SPAD_HI.STATE [31:0], RO (R473). -/
def MEM_SPAD_HI_STATE : Field := ⟨0x1F0014, 0, 32⟩
/-- MEM_CONF_m_g.CYCLES [31:0], RC (R473). -/
def MEM_CONF_m_g_CYCLES (m g : Nat) : Field := ⟨(0x1F0100 + m * 0x20 + g * 4), 0, 32⟩
/-- MEM_LBANK_e.TABLE [5:4], RO (R473). -/
def MEM_LBANK_e_TABLE (e : Nat) : Field := ⟨(0x1F0400 + e * 0x4), 4, 2⟩
/-- MEM_LBANK_e.LINE [3:2], RO (R473). -/
def MEM_LBANK_e_LINE (e : Nat) : Field := ⟨(0x1F0400 + e * 0x4), 2, 2⟩
/-- MEM_LBANK_e.NSTATE [1:0], RO (R473). -/
def MEM_LBANK_e_NSTATE (e : Nat) : Field := ⟨(0x1F0400 + e * 0x4), 0, 2⟩
/-- PMC_CTRL.DUMP_EN [31:31], RW (R473). -/
def PMC_CTRL_DUMP_EN : Field := ⟨0x1F1000, 31, 1⟩
/-- PMC_CTRL.DUMP_NOW [30:30], WO (R473). -/
def PMC_CTRL_DUMP_NOW : Field := ⟨0x1F1000, 30, 1⟩
/-- PMC_CTRL.FREEZE [29:29], RW (R473). -/
def PMC_CTRL_FREEZE : Field := ⟨0x1F1000, 29, 1⟩
/-- PMC_CTRL.UNIT_LINES [28:28], RW (R473). -/
def PMC_CTRL_UNIT_LINES : Field := ⟨0x1F1000, 28, 1⟩
/-- PMC_CTRL.WIN [27:24], RW (R473). -/
def PMC_CTRL_WIN : Field := ⟨0x1F1000, 24, 4⟩
/-- PMC_CTRL.LOG2 [20:16], RW (R473). -/
def PMC_CTRL_LOG2 : Field := ⟨0x1F1000, 16, 5⟩
/-- PMC_CTRL.PERIOD [15:0], RW (R473). -/
def PMC_CTRL_PERIOD : Field := ⟨0x1F1000, 0, 16⟩
/-- PMC_DUMP_BASE_LO.BASE [31:12], RW (R473). -/
def PMC_DUMP_BASE_LO_BASE : Field := ⟨0x1F1008, 12, 20⟩
/-- PMC_DUMP_BASE_HI.BASE [31:0], RW (R473). -/
def PMC_DUMP_BASE_HI_BASE : Field := ⟨0x1F100C, 0, 32⟩
/-- PMC_DUMP_HEAD.HEAD [14:0], RW (R473). -/
def PMC_DUMP_HEAD_HEAD : Field := ⟨0x1F1010, 0, 15⟩
/-- PMC_DUMP_STAT.SKIPPED [31:16], RC (R473). -/
def PMC_DUMP_STAT_SKIPPED : Field := ⟨0x1F1014, 16, 16⟩
/-- PMC_DUMP_STAT.PHASE [15:15], RO (R473). -/
def PMC_DUMP_STAT_PHASE : Field := ⟨0x1F1014, 15, 1⟩
/-- PMC_DUMP_STAT.TAIL [14:0], RO (R473). -/
def PMC_DUMP_STAT_TAIL : Field := ⟨0x1F1014, 0, 15⟩
/-- PMC_TAG_CTRL.DOMAIN [31:30], RW (R473). -/
def PMC_TAG_CTRL_DOMAIN : Field := ⟨0x1F1020, 30, 2⟩
/-- PMC_TAG_CTRL.RATE [28:24], RW (R473). -/
def PMC_TAG_CTRL_RATE : Field := ⟨0x1F1020, 24, 5⟩
/-- PMC_TAG_CTRL.UNIT [11:0], RW (R473). -/
def PMC_TAG_CTRL_UNIT : Field := ⟨0x1F1020, 0, 12⟩
/-- PMC_TAG_SEED.SEED [31:0], RW (R473). -/
def PMC_TAG_SEED_SEED : Field := ⟨0x1F1024, 0, 32⟩
/-- PMC_TAG_STAT.FULL [31:31], RO (R473). -/
def PMC_TAG_STAT_FULL : Field := ⟨0x1F1028, 31, 1⟩
/-- PMC_TAG_STAT.POP [22:16], WO (R473). -/
def PMC_TAG_STAT_POP : Field := ⟨0x1F1028, 16, 7⟩
/-- PMC_TAG_STAT.HEAD [13:8], RO (R473). -/
def PMC_TAG_STAT_HEAD : Field := ⟨0x1F1028, 8, 6⟩
/-- PMC_TAG_STAT.COUNT [6:0], RO (R473). -/
def PMC_TAG_STAT_COUNT : Field := ⟨0x1F1028, 0, 7⟩
/-- PMC_OVF_k.WRAPPED [31:0], W1C (R473). -/
def PMC_OVF_k_WRAPPED (k : Nat) : Field := ⟨(0x1F1080 + k * 0x4), 0, 32⟩
/-- PMC_n_SEL.EVENT [31:24], RW (R473). -/
def PMC_n_SEL_EVENT (n : Nat) : Field := ⟨(0x1F2000 + n * 0x10), 24, 8⟩
/-- PMC_n_SEL.UNIT [11:0], RW (R473). -/
def PMC_n_SEL_UNIT (n : Nat) : Field := ⟨(0x1F2000 + n * 0x10), 0, 12⟩
/-- PMC_n_LO.VALUE [31:0], RW (R473). -/
def PMC_n_LO_VALUE (n : Nat) : Field := ⟨(0x1F2004 + n * 0x10), 0, 32⟩
/-- PMC_n_HI.VALUE [15:0], RW (R473). -/
def PMC_n_HI_VALUE (n : Nat) : Field := ⟨(0x1F2008 + n * 0x10), 0, 16⟩
/-- CLK_DATE.YEAR [24:16], RW (R473). -/
def CLK_DATE_YEAR : Field := ⟨0x1F8000, 16, 9⟩
/-- CLK_DATE.MONTH [11:8], RW (R473). -/
def CLK_DATE_MONTH : Field := ⟨0x1F8000, 8, 4⟩
/-- CLK_DATE.DAY [4:0], RW (R473). -/
def CLK_DATE_DAY : Field := ⟨0x1F8000, 0, 5⟩
/-- CLK_TIME.HOUR [20:16], RW (R473). -/
def CLK_TIME_HOUR : Field := ⟨0x1F8004, 16, 5⟩
/-- CLK_TIME.MINUTE [13:8], RW (R473). -/
def CLK_TIME_MINUTE : Field := ⟨0x1F8004, 8, 6⟩
/-- CLK_TIME.SECOND [5:0], RW (R473). -/
def CLK_TIME_SECOND : Field := ⟨0x1F8004, 0, 6⟩
/-- CLK_STATUS.END [2:2], RO (R473). -/
def CLK_STATUS_END : Field := ⟨0x1F8008, 2, 1⟩
/-- CLK_STATUS.BAD_DATE [1:1], W1C (R473). -/
def CLK_STATUS_BAD_DATE : Field := ⟨0x1F8008, 1, 1⟩
/-- CLK_STATUS.VALID [0:0], RO (R473). -/
def CLK_STATUS_VALID : Field := ⟨0x1F8008, 0, 1⟩
/-- CLK_TRIM.PPM [15:0], RW (R473). -/
def CLK_TRIM_PPM : Field := ⟨0x1F800C, 0, 16⟩
/-- SYS_ID.PART [31:16], RO (R477). -/
def SYS_ID_PART : Field := ⟨0x0, 16, 16⟩
/-- SYS_ID.STEP [11:8], RO (R477). -/
def SYS_ID_STEP : Field := ⟨0x0, 8, 4⟩
/-- SYS_ID.VARIANT [1:0], RO (R477). -/
def SYS_ID_VARIANT : Field := ⟨0x0, 0, 2⟩
/-- SYS_FW.SLOT [31:31], RO (R477). -/
def SYS_FW_SLOT : Field := ⟨0x4, 31, 1⟩
/-- SYS_FW.MAJOR [30:24], RO (R477). -/
def SYS_FW_MAJOR : Field := ⟨0x4, 24, 7⟩
/-- SYS_FW.MINOR [23:16], RO (R477). -/
def SYS_FW_MINOR : Field := ⟨0x4, 16, 8⟩
/-- SYS_FW.BUILD [15:0], RO (R477). -/
def SYS_FW_BUILD : Field := ⟨0x4, 0, 16⟩

/-- BAR0 offset of SYS_STATE. -/
def rSYS_STATE : Nat := 0x10
/-- BAR0 offset of SYS_CTRL. -/
def rSYS_CTRL : Nat := 0x14
/-- BAR0 offset of SYS_STRAP. -/
def rSYS_STRAP : Nat := 0x18
/-- BAR0 offset of SYS_DAWN. -/
def rSYS_DAWN : Nat := 0x1C
/-- BAR0 offset of SYS_ENABLE. -/
def rSYS_ENABLE : Nat := 0x20
/-- BAR0 offset of CFG_STATUS. -/
def rCFG_STATUS : Nat := 0x10000
/-- BAR0 offset of CFG_ITEM. -/
def rCFG_ITEM : Nat := 0x10004
/-- BAR0 offset of CFG_SOURCE. -/
def rCFG_SOURCE : Nat := 0x10008
/-- BAR0 offset of CFG_IMAGE_ID. -/
def rCFG_IMAGE_ID : Nat := 0x1000C
/-- BAR0 offset of CFG_CAPS. -/
def rCFG_CAPS : Nat := 0x10010
/-- BAR0 offset of CFG_LOCK. -/
def rCFG_LOCK : Nat := 0x10014
/-- BAR0 offset of CFG_NV_CTRL. -/
def rCFG_NV_CTRL : Nat := 0x10018
/-- BAR0 offset of CFG_KEY_n. -/
def rCFG_KEY_n (n : Nat) : Nat := 0x10040 + n * 0x4
/-- BAR0 offset of POS_n_CMP. -/
def rPOS_n_CMP (n : Nat) : Nat := 0x100000 + n * 0x100
/-- BAR0 offset of POS_n_CMP_STEP. -/
def rPOS_n_CMP_STEP (n : Nat) : Nat := 0x100004 + n * 0x100
/-- BAR0 offset of POS_n_CMP_CTRL. -/
def rPOS_n_CMP_CTRL (n : Nat) : Nat := 0x100008 + n * 0x100
/-- BAR0 offset of POS_n_STATUS. -/
def rPOS_n_STATUS (n : Nat) : Nat := 0x10000C + n * 0x100
/-- BAR0 offset of POS_n_COUNT_LO. -/
def rPOS_n_COUNT_LO (n : Nat) : Nat := 0x100010 + n * 0x100
/-- BAR0 offset of POS_n_COUNT_HI. -/
def rPOS_n_COUNT_HI (n : Nat) : Nat := 0x100014 + n * 0x100
/-- BAR0 offset of POS_n_PRESET_LO. -/
def rPOS_n_PRESET_LO (n : Nat) : Nat := 0x100018 + n * 0x100
/-- BAR0 offset of POS_n_PRESET_HI. -/
def rPOS_n_PRESET_HI (n : Nat) : Nat := 0x10001C + n * 0x100
/-- BAR0 offset of POS_n_IDX_LO. -/
def rPOS_n_IDX_LO (n : Nat) : Nat := 0x100020 + n * 0x100
/-- BAR0 offset of POS_n_IDX_HI. -/
def rPOS_n_IDX_HI (n : Nat) : Nat := 0x100024 + n * 0x100
/-- BAR0 offset of POS_n_IDX_SPAN. -/
def rPOS_n_IDX_SPAN (n : Nat) : Nat := 0x100028 + n * 0x100
/-- BAR0 offset of POS_n_IDX_DRIFT. -/
def rPOS_n_IDX_DRIFT (n : Nat) : Nat := 0x10002C + n * 0x100
/-- BAR0 offset of POS_n_PERIOD. -/
def rPOS_n_PERIOD (n : Nat) : Nat := 0x100030 + n * 0x100
/-- BAR0 offset of POS_n_SPEED. -/
def rPOS_n_SPEED (n : Nat) : Nat := 0x100034 + n * 0x100
/-- BAR0 offset of POS_n_LINE. -/
def rPOS_n_LINE (n : Nat) : Nat := 0x100038 + n * 0x100
/-- BAR0 offset of POS_n_LINE_PHASE. -/
def rPOS_n_LINE_PHASE (n : Nat) : Nat := 0x10003C + n * 0x100
/-- BAR0 offset of POS_n_EVTCNT. -/
def rPOS_n_EVTCNT (n : Nat) : Nat := 0x100040 + n * 0x100
/-- BAR0 offset of POS_EVCNT_c. -/
def rPOS_EVCNT_c (c : Nat) : Nat := 0x101000 + c * 0x4
/-- BAR0 offset of POS_REF_DELAY. -/
def rPOS_REF_DELAY : Nat := 0x101040
/-- BAR0 offset of POS_REF_STATUS. -/
def rPOS_REF_STATUS : Nat := 0x101044
/-- BAR0 offset of POS_REF_AGE. -/
def rPOS_REF_AGE : Nat := 0x101048
/-- BAR0 offset of POS_IRQ. -/
def rPOS_IRQ : Nat := 0x10104C
/-- BAR0 offset of FIRE_CTRL. -/
def rFIRE_CTRL : Nat := 0x120000
/-- BAR0 offset of FIRE_WIN_w_CTRL. -/
def rFIRE_WIN_w_CTRL (w : Nat) : Nat := 0x120100 + w * 0x20
/-- BAR0 offset of FIRE_WIN_w_LEN. -/
def rFIRE_WIN_w_LEN (w : Nat) : Nat := 0x120104 + w * 0x20
/-- BAR0 offset of FIRE_WIN_w_MASK. -/
def rFIRE_WIN_w_MASK (w : Nat) : Nat := 0x120108 + w * 0x20
/-- BAR0 offset of FIRE_WIN_w_STATUS. -/
def rFIRE_WIN_w_STATUS (w : Nat) : Nat := 0x12010C + w * 0x20
/-- BAR0 offset of FIRE_WIN_w_SEQ. -/
def rFIRE_WIN_w_SEQ (w : Nat) : Nat := 0x120110 + w * 0x20
/-- BAR0 offset of FIRE_WIN_w_START. -/
def rFIRE_WIN_w_START (w : Nat) : Nat := 0x120114 + w * 0x20
/-- BAR0 offset of FIRE_WIN_w_LAST. -/
def rFIRE_WIN_w_LAST (w : Nat) : Nat := 0x120118 + w * 0x20
/-- BAR0 offset of FIRE_WIN_w_EVT. -/
def rFIRE_WIN_w_EVT (w : Nat) : Nat := 0x12011C + w * 0x20
/-- BAR0 offset of FIRE_n_STATUS. -/
def rFIRE_n_STATUS (n : Nat) : Nat := 0x121000 + n * 0x20
/-- BAR0 offset of FIRE_n_FLINE. -/
def rFIRE_n_FLINE (n : Nat) : Nat := 0x121004 + n * 0x20
/-- BAR0 offset of FIRE_n_HWM. -/
def rFIRE_n_HWM (n : Nat) : Nat := 0x121008 + n * 0x20
/-- BAR0 offset of FIRE_n_OFFSET. -/
def rFIRE_n_OFFSET (n : Nat) : Nat := 0x12100C + n * 0x20
/-- BAR0 offset of FIRE_n_CNT. -/
def rFIRE_n_CNT (n : Nat) : Nat := 0x121010 + n * 0x20
/-- BAR0 offset of FIRE_n_MASKLOSS. -/
def rFIRE_n_MASKLOSS (n : Nat) : Nat := 0x121014 + n * 0x20
/-- BAR0 offset of PULSE_CTRL. -/
def rPULSE_CTRL : Nat := 0x130000
/-- BAR0 offset of PULSE_FALLBACK. -/
def rPULSE_FALLBACK : Nat := 0x130004
/-- BAR0 offset of PULSE_q_EDROP. -/
def rPULSE_q_EDROP (q : Nat) : Nat := 0x130100 + q * 0x4
/-- BAR0 offset of PULSE_n_STATUS. -/
def rPULSE_n_STATUS (n : Nat) : Nat := 0x131000 + n * 0x20
/-- BAR0 offset of PULSE_n_BASE. -/
def rPULSE_n_BASE (n : Nat) : Nat := 0x131004 + n * 0x20
/-- BAR0 offset of PULSE_n_SAT. -/
def rPULSE_n_SAT (n : Nat) : Nat := 0x131008 + n * 0x20
/-- BAR0 offset of PULSE_n_FIRED. -/
def rPULSE_n_FIRED (n : Nat) : Nat := 0x13100C + n * 0x20
/-- BAR0 offset of PULSE_n_CODESUM. -/
def rPULSE_n_CODESUM (n : Nat) : Nat := 0x131010 + n * 0x20
/-- BAR0 offset of PULSE_n_RMEAN. -/
def rPULSE_n_RMEAN (n : Nat) : Nat := 0x131014 + n * 0x20
/-- BAR0 offset of HLTH_CTRL. -/
def rHLTH_CTRL : Nat := 0x140000
/-- BAR0 offset of HLTH_LIMITS. -/
def rHLTH_LIMITS : Nat := 0x140004
/-- BAR0 offset of HLTH_FORCE. -/
def rHLTH_FORCE : Nat := 0x140008
/-- BAR0 offset of HLTH_BYPASS_REQ. -/
def rHLTH_BYPASS_REQ : Nat := 0x14000C
/-- BAR0 offset of HLTH_ROLL. -/
def rHLTH_ROLL : Nat := 0x140010
/-- BAR0 offset of HLTH_SPARES. -/
def rHLTH_SPARES : Nat := 0x140014
/-- BAR0 offset of HLTH_n_STATUS. -/
def rHLTH_n_STATUS (n : Nat) : Nat := 0x141000 + n * 0x20
/-- BAR0 offset of HLTH_n_SCAN. -/
def rHLTH_n_SCAN (n : Nat) : Nat := 0x141004 + n * 0x20
/-- BAR0 offset of HLTH_n_CLASSCNT. -/
def rHLTH_n_CLASSCNT (n : Nat) : Nat := 0x141008 + n * 0x20
/-- BAR0 offset of HLTH_n_COLS. -/
def rHLTH_n_COLS (n : Nat) : Nat := 0x14100C + n * 0x20
/-- BAR0 offset of HLTH_n_DROPLOSS. -/
def rHLTH_n_DROPLOSS (n : Nat) : Nat := 0x141010 + n * 0x20
/-- BAR0 offset of HLTH_n_DISAGREE. -/
def rHLTH_n_DISAGREE (n : Nat) : Nat := 0x141014 + n * 0x20
/-- BAR0 offset of HLTH_n_UNPRINT. -/
def rHLTH_n_UNPRINT (n : Nat) : Nat := 0x141018 + n * 0x20
/-- BAR0 offset of HLTH_n_RMED. -/
def rHLTH_n_RMED (n : Nat) : Nat := 0x14101C + n * 0x20
/-- BAR0 offset of CMP_CTRL. -/
def rCMP_CTRL : Nat := 0x150000
/-- BAR0 offset of CMP_STATUS. -/
def rCMP_STATUS : Nat := 0x150004
/-- BAR0 offset of CMP_ERR. -/
def rCMP_ERR : Nat := 0x150008
/-- BAR0 offset of CMP_ERR_TAG. -/
def rCMP_ERR_TAG : Nat := 0x15000C
/-- BAR0 offset of CMP_WIN_w_Q. -/
def rCMP_WIN_w_Q (w : Nat) : Nat := 0x150100 + w * 0x10
/-- BAR0 offset of CMP_WIN_w_TAG. -/
def rCMP_WIN_w_TAG (w : Nat) : Nat := 0x150104 + w * 0x10
/-- BAR0 offset of CMP_WIN_w_REP. -/
def rCMP_WIN_w_REP (w : Nat) : Nat := 0x150108 + w * 0x10
/-- BAR0 offset of CMP_q_PLAN. -/
def rCMP_q_PLAN (q : Nat) : Nat := 0x150200 + q * 0x4
/-- BAR0 offset of CMP_SER_k_VALUE. -/
def rCMP_SER_k_VALUE (k : Nat) : Nat := 0x151000 + k * 0x10
/-- BAR0 offset of CMP_SER_k_LOW. -/
def rCMP_SER_k_LOW (k : Nat) : Nat := 0x151004 + k * 0x10
/-- BAR0 offset of CMP_SER_k_HIGH. -/
def rCMP_SER_k_HIGH (k : Nat) : Nat := 0x151008 + k * 0x10
/-- BAR0 offset of CMP_SER_k_STEP. -/
def rCMP_SER_k_STEP (k : Nat) : Nat := 0x15100C + k * 0x10
/-- BAR0 offset of LANE_e_STATUS. -/
def rLANE_e_STATUS (e : Nat) : Nat := 0x160000 + e * 0x20
/-- BAR0 offset of LANE_e_CYCLES. -/
def rLANE_e_CYCLES (e : Nat) : Nat := 0x160004 + e * 0x20
/-- BAR0 offset of LANE_e_UNDERRUN. -/
def rLANE_e_UNDERRUN (e : Nat) : Nat := 0x160008 + e * 0x20
/-- BAR0 offset of LANE_e_LOAD. -/
def rLANE_e_LOAD (e : Nat) : Nat := 0x16000C + e * 0x20
/-- BAR0 offset of HOST_AP_BASE. -/
def rHOST_AP_BASE : Nat := 0x170000
/-- BAR0 offset of HOST_LINK. -/
def rHOST_LINK : Nat := 0x170004
/-- BAR0 offset of HOST_RD. -/
def rHOST_RD : Nat := 0x170008
/-- BAR0 offset of HOST_ERR. -/
def rHOST_ERR : Nat := 0x17000C
/-- BAR0 offset of DMA_CTRL. -/
def rDMA_CTRL : Nat := 0x170100
/-- BAR0 offset of DMA_POOL. -/
def rDMA_POOL : Nat := 0x170104
/-- BAR0 offset of DMA_SLOT. -/
def rDMA_SLOT : Nat := 0x170108
/-- BAR0 offset of DMA_s_SQ_LO. -/
def rDMA_s_SQ_LO (s : Nat) : Nat := 0xC00000 + s * 0x40
/-- BAR0 offset of DMA_s_CQ_LO. -/
def rDMA_s_CQ_LO (s : Nat) : Nat := 0xC00008 + s * 0x40
/-- BAR0 offset of DMA_s_SQ_HI. -/
def rDMA_s_SQ_HI (s : Nat) : Nat := 0xC00004 + s * 0x40
/-- BAR0 offset of DMA_s_CQ_HI. -/
def rDMA_s_CQ_HI (s : Nat) : Nat := 0xC0000C + s * 0x40
/-- BAR0 offset of DMA_s_SIZE. -/
def rDMA_s_SIZE (s : Nat) : Nat := 0xC00010 + s * 0x40
/-- BAR0 offset of DMA_s_CTRL. -/
def rDMA_s_CTRL (s : Nat) : Nat := 0xC00014 + s * 0x40
/-- BAR0 offset of DMA_s_STAGE. -/
def rDMA_s_STAGE (s : Nat) : Nat := 0xC00018 + s * 0x40
/-- BAR0 offset of DMA_s_STATUS. -/
def rDMA_s_STATUS (s : Nat) : Nat := 0xC0001C + s * 0x40
/-- BAR0 offset of DMA_s_SQ_HEAD. -/
def rDMA_s_SQ_HEAD (s : Nat) : Nat := 0xC00020 + s * 0x40
/-- BAR0 offset of DMA_s_CQ_TAIL. -/
def rDMA_s_CQ_TAIL (s : Nat) : Nat := 0xC00024 + s * 0x40
/-- BAR0 offset of DMA_s_RESV. -/
def rDMA_s_RESV (s : Nat) : Nat := 0xC00028 + s * 0x40
/-- BAR0 offset of DMA_s_ERRCNT. -/
def rDMA_s_ERRCNT (s : Nat) : Nat := 0xC0002C + s * 0x40
/-- BAR0 offset of DMA_s_DB_SQ. -/
def rDMA_s_DB_SQ (s : Nat) : Nat := 0xD00000 + s * 0x8
/-- BAR0 offset of DMA_s_DB_CQ. -/
def rDMA_s_DB_CQ (s : Nat) : Nat := 0xD00004 + s * 0x8
/-- BAR0 offset of RING_CTRL. -/
def rRING_CTRL : Nat := 0x180000
/-- BAR0 offset of RING_STATUS. -/
def rRING_STATUS : Nat := 0x180004
/-- BAR0 offset of RING_TOPO. -/
def rRING_TOPO : Nat := 0x180008
/-- BAR0 offset of RING_JOIN_CFG. -/
def rRING_JOIN_CFG : Nat := 0x18000C
/-- BAR0 offset of RING_JOIN_MEMBERS_LO. -/
def rRING_JOIN_MEMBERS_LO : Nat := 0x180010
/-- BAR0 offset of RING_JOIN_MEMBERS_HI. -/
def rRING_JOIN_MEMBERS_HI : Nat := 0x180014
/-- BAR0 offset of RING_ERR. -/
def rRING_ERR : Nat := 0x180018
/-- BAR0 offset of RING_PORT_p_STATUS. -/
def rRING_PORT_p_STATUS (p : Nat) : Nat := 0x180100 + p * 0x10
/-- BAR0 offset of RING_PORT_p_DELAY. -/
def rRING_PORT_p_DELAY (p : Nat) : Nat := 0x180104 + p * 0x10
/-- BAR0 offset of RING_PORT_p_CNT. -/
def rRING_PORT_p_CNT (p : Nat) : Nat := 0x180108 + p * 0x10
/-- BAR0 offset of TILE_CTRL. -/
def rTILE_CTRL : Nat := 0x190000
/-- BAR0 offset of TILE_UKEY_n. -/
def rTILE_UKEY_n (n : Nat) : Nat := 0x190040 + n * 0x4
/-- BAR0 offset of TILE_n_STATUS. -/
def rTILE_n_STATUS (n : Nat) : Nat := 0x191000 + n * 0x20
/-- BAR0 offset of TILE_n_SERIAL_LO. -/
def rTILE_n_SERIAL_LO (n : Nat) : Nat := 0x191004 + n * 0x20
/-- BAR0 offset of TILE_n_SERIAL_HI. -/
def rTILE_n_SERIAL_HI (n : Nat) : Nat := 0x191008 + n * 0x20
/-- BAR0 offset of TILE_n_RANK. -/
def rTILE_n_RANK (n : Nat) : Nat := 0x19100C + n * 0x20
/-- BAR0 offset of TILE_n_TELEM. -/
def rTILE_n_TELEM (n : Nat) : Nat := 0x191010 + n * 0x20
/-- BAR0 offset of TILE_n_LINKERR. -/
def rTILE_n_LINKERR (n : Nat) : Nat := 0x191014 + n * 0x20
/-- BAR0 offset of TILE_n_USAGE_LO. -/
def rTILE_n_USAGE_LO (n : Nat) : Nat := 0x191018 + n * 0x20
/-- BAR0 offset of TILE_n_USAGE_HI. -/
def rTILE_n_USAGE_HI (n : Nat) : Nat := 0x19101C + n * 0x20
/-- BAR0 offset of PWR_SRC. -/
def rPWR_SRC : Nat := 0x1A0000
/-- BAR0 offset of PWR_MAINS. -/
def rPWR_MAINS : Nat := 0x1A0004
/-- BAR0 offset of PWR_LINK. -/
def rPWR_LINK : Nat := 0x1A0008
/-- BAR0 offset of PWR_LIMITS. -/
def rPWR_LIMITS : Nat := 0x1A000C
/-- BAR0 offset of PWR_MOTOR. -/
def rPWR_MOTOR : Nat := 0x1A0010
/-- BAR0 offset of PWR_DRAW. -/
def rPWR_DRAW : Nat := 0x1A0014
/-- BAR0 offset of PWR_DRAW_IN. -/
def rPWR_DRAW_IN : Nat := 0x1A0018
/-- BAR0 offset of PWR_STORE. -/
def rPWR_STORE : Nat := 0x1A001C
/-- BAR0 offset of PWR_STORE_V. -/
def rPWR_STORE_V : Nat := 0x1A0020
/-- BAR0 offset of PWR_DC. -/
def rPWR_DC : Nat := 0x1A0024
/-- BAR0 offset of PWR_PLAN. -/
def rPWR_PLAN : Nat := 0x1A0028
/-- BAR0 offset of PWR_ACCT. -/
def rPWR_ACCT : Nat := 0x1A002C
/-- BAR0 offset of PWR_PAUSE. -/
def rPWR_PAUSE : Nat := 0x1A0030
/-- BAR0 offset of PWR_GROUP. -/
def rPWR_GROUP : Nat := 0x1A0034
/-- BAR0 offset of PWR_EVT. -/
def rPWR_EVT : Nat := 0x1A0038
/-- BAR0 offset of PWR_q_RAIL. -/
def rPWR_q_RAIL (q : Nat) : Nat := 0x1A0100 + q * 0x10
/-- BAR0 offset of PWR_q_RAIL_P. -/
def rPWR_q_RAIL_P (q : Nat) : Nat := 0x1A0104 + q * 0x10
/-- BAR0 offset of PWR_q_PLAN. -/
def rPWR_q_PLAN (q : Nat) : Nat := 0x1A0108 + q * 0x10
/-- BAR0 offset of MOT_CMDPIN. -/
def rMOT_CMDPIN : Nat := 0x1B0000
/-- BAR0 offset of MOT_a_CMD. -/
def rMOT_a_CMD (a : Nat) : Nat := 0x1B0100 + a * 0x40
/-- BAR0 offset of MOT_a_SPEED_CMD. -/
def rMOT_a_SPEED_CMD (a : Nat) : Nat := 0x1B0104 + a * 0x40
/-- BAR0 offset of MOT_a_TORQ_CMD. -/
def rMOT_a_TORQ_CMD (a : Nat) : Nat := 0x1B0108 + a * 0x40
/-- BAR0 offset of MOT_a_STATUS. -/
def rMOT_a_STATUS (a : Nat) : Nat := 0x1B010C + a * 0x40
/-- BAR0 offset of MOT_a_SPEED. -/
def rMOT_a_SPEED (a : Nat) : Nat := 0x1B0110 + a * 0x40
/-- BAR0 offset of MOT_a_IDQ. -/
def rMOT_a_IDQ (a : Nat) : Nat := 0x1B0114 + a * 0x40
/-- BAR0 offset of MOT_a_ILIM. -/
def rMOT_a_ILIM (a : Nat) : Nat := 0x1B0118 + a * 0x40
/-- BAR0 offset of MOT_a_FW. -/
def rMOT_a_FW (a : Nat) : Nat := 0x1B011C + a * 0x40
/-- BAR0 offset of MOT_a_HFI. -/
def rMOT_a_HFI (a : Nat) : Nat := 0x1B0120 + a * 0x40
/-- BAR0 offset of MOT_a_MODEL_R. -/
def rMOT_a_MODEL_R (a : Nat) : Nat := 0x1B0124 + a * 0x40
/-- BAR0 offset of MOT_a_MODEL_L. -/
def rMOT_a_MODEL_L (a : Nat) : Nat := 0x1B0128 + a * 0x40
/-- BAR0 offset of MOT_a_MODEL_K. -/
def rMOT_a_MODEL_K (a : Nat) : Nat := 0x1B012C + a * 0x40
/-- BAR0 offset of MOT_a_BW. -/
def rMOT_a_BW (a : Nat) : Nat := 0x1B0130 + a * 0x40
/-- BAR0 offset of MOT_a_SHARE. -/
def rMOT_a_SHARE (a : Nat) : Nat := 0x1B0134 + a * 0x40
/-- BAR0 offset of MOT_a_SAMPLE. -/
def rMOT_a_SAMPLE (a : Nat) : Nat := 0x1B0138 + a * 0x40
/-- BAR0 offset of THM_CTRL. -/
def rTHM_CTRL : Nat := 0x1C0000
/-- BAR0 offset of THM_PAUSE. -/
def rTHM_PAUSE : Nat := 0x1C0004
/-- BAR0 offset of THM_STATUS. -/
def rTHM_STATUS : Nat := 0x1C0008
/-- BAR0 offset of THM_PRED. -/
def rTHM_PRED : Nat := 0x1C000C
/-- BAR0 offset of THM_RECAL. -/
def rTHM_RECAL : Nat := 0x1C0010
/-- BAR0 offset of THM_RATE_c. -/
def rTHM_RATE_c (c : Nat) : Nat := 0x1C0100 + c * 0x4
/-- BAR0 offset of THM_n_TEMP. -/
def rTHM_n_TEMP (n : Nat) : Nat := 0x1C1000 + n * 0x8
/-- BAR0 offset of THM_n_RATE. -/
def rTHM_n_RATE (n : Nat) : Nat := 0x1C1004 + n * 0x8
/-- BAR0 offset of FLT_CTRL. -/
def rFLT_CTRL : Nat := 0x1D0000
/-- BAR0 offset of FLT_PEND. -/
def rFLT_PEND : Nat := 0x1D0004
/-- BAR0 offset of FLT_LAST_LO. -/
def rFLT_LAST_LO : Nat := 0x1D0008
/-- BAR0 offset of FLT_LAST_HI. -/
def rFLT_LAST_HI : Nat := 0x1D000C
/-- BAR0 offset of FLT_LOG_BASE_LO. -/
def rFLT_LOG_BASE_LO : Nat := 0x1D0010
/-- BAR0 offset of FLT_LOG_BASE_HI. -/
def rFLT_LOG_BASE_HI : Nat := 0x1D0014
/-- BAR0 offset of FLT_LOG_SIZE. -/
def rFLT_LOG_SIZE : Nat := 0x1D0018
/-- BAR0 offset of FLT_LOG_HEAD. -/
def rFLT_LOG_HEAD : Nat := 0x1D001C
/-- BAR0 offset of FLT_LOG_TAIL. -/
def rFLT_LOG_TAIL : Nat := 0x1D0020
/-- BAR0 offset of FLT_FLOOD. -/
def rFLT_FLOOD : Nat := 0x1D0024
/-- BAR0 offset of FLT_QUEUE. -/
def rFLT_QUEUE : Nat := 0x1D0028
/-- BAR0 offset of FLT_COAL. -/
def rFLT_COAL : Nat := 0x1D002C
/-- BAR0 offset of FLT_DROP. -/
def rFLT_DROP : Nat := 0x1D0030
/-- BAR0 offset of FLT_DROP_RING. -/
def rFLT_DROP_RING : Nat := 0x1D0034
/-- BAR0 offset of FLT_NV. -/
def rFLT_NV : Nat := 0x1D0038
/-- BAR0 offset of FLT_NV_IDX. -/
def rFLT_NV_IDX : Nat := 0x1D003C
/-- BAR0 offset of FLT_INJECT_LO. -/
def rFLT_INJECT_LO : Nat := 0x1D0040
/-- BAR0 offset of FLT_INJECT_HI. -/
def rFLT_INJECT_HI : Nat := 0x1D0044
/-- BAR0 offset of CAL_CTRL. -/
def rCAL_CTRL : Nat := 0x1E0000
/-- BAR0 offset of CAL_STATUS. -/
def rCAL_STATUS : Nat := 0x1E0004
/-- BAR0 offset of CAL_COUNT. -/
def rCAL_COUNT : Nat := 0x1E0008
/-- BAR0 offset of CAL_LAST_DATE. -/
def rCAL_LAST_DATE : Nat := 0x1E000C
/-- BAR0 offset of CAL_LAST_TIME. -/
def rCAL_LAST_TIME : Nat := 0x1E0010
/-- BAR0 offset of CAL_IMPORT. -/
def rCAL_IMPORT : Nat := 0x1E0020
/-- BAR0 offset of CAL_t_STAT. -/
def rCAL_t_STAT (t : Nat) : Nat := 0x1E0100 + t * 0x4
/-- BAR0 offset of CAL_PORT_n_A. -/
def rCAL_PORT_n_A (n : Nat) : Nat := 0x1E1000 + n * 0x8
/-- BAR0 offset of CAL_PORT_n_B. -/
def rCAL_PORT_n_B (n : Nat) : Nat := 0x1E1004 + n * 0x8
/-- BAR0 offset of CAL_ENC_n_A. -/
def rCAL_ENC_n_A (n : Nat) : Nat := 0x1E2000 + n * 0x8
/-- BAR0 offset of CAL_ENC_n_B. -/
def rCAL_ENC_n_B (n : Nat) : Nat := 0x1E2004 + n * 0x8
/-- BAR0 offset of CAL_PHASE_d. -/
def rCAL_PHASE_d (d : Nat) : Nat := 0x1E3000 + d * 0x4
/-- BAR0 offset of CAL_MOT_a_A. -/
def rCAL_MOT_a_A (a : Nat) : Nat := 0x1E4000 + a * 0x8
/-- BAR0 offset of CAL_MOT_a_B. -/
def rCAL_MOT_a_B (a : Nat) : Nat := 0x1E4004 + a * 0x8
/-- BAR0 offset of SYS_TIME_LO. -/
def rSYS_TIME_LO : Nat := 0x28
/-- BAR0 offset of SYS_TIME_HI. -/
def rSYS_TIME_HI : Nat := 0x2C
/-- BAR0 offset of MEM_STATUS. -/
def rMEM_STATUS : Nat := 0x1F0000
/-- BAR0 offset of MEM_ECC. -/
def rMEM_ECC : Nat := 0x1F0004
/-- BAR0 offset of MEM_ATOM_BASE. -/
def rMEM_ATOM_BASE : Nat := 0x1F0008
/-- BAR0 offset of MEM_SPAD_LO. -/
def rMEM_SPAD_LO : Nat := 0x1F0010
/-- BAR0 offset of MEM_SPAD_HI. -/
def rMEM_SPAD_HI : Nat := 0x1F0014
/-- BAR0 offset of MEM_CONF_m_g. -/
def rMEM_CONF_m_g (m g : Nat) : Nat := 0x1F0100 + m * 0x20 + g * 4
/-- BAR0 offset of MEM_LBANK_e. -/
def rMEM_LBANK_e (e : Nat) : Nat := 0x1F0400 + e * 0x4
/-- BAR0 offset of PMC_CTRL. -/
def rPMC_CTRL : Nat := 0x1F1000
/-- BAR0 offset of PMC_DUMP_BASE_LO. -/
def rPMC_DUMP_BASE_LO : Nat := 0x1F1008
/-- BAR0 offset of PMC_DUMP_BASE_HI. -/
def rPMC_DUMP_BASE_HI : Nat := 0x1F100C
/-- BAR0 offset of PMC_DUMP_HEAD. -/
def rPMC_DUMP_HEAD : Nat := 0x1F1010
/-- BAR0 offset of PMC_DUMP_STAT. -/
def rPMC_DUMP_STAT : Nat := 0x1F1014
/-- BAR0 offset of PMC_TAG_CTRL. -/
def rPMC_TAG_CTRL : Nat := 0x1F1020
/-- BAR0 offset of PMC_TAG_SEED. -/
def rPMC_TAG_SEED : Nat := 0x1F1024
/-- BAR0 offset of PMC_TAG_STAT. -/
def rPMC_TAG_STAT : Nat := 0x1F1028
/-- BAR0 offset of PMC_OVF_k. -/
def rPMC_OVF_k (k : Nat) : Nat := 0x1F1080 + k * 0x4
/-- BAR0 offset of PMC_n_SEL. -/
def rPMC_n_SEL (n : Nat) : Nat := 0x1F2000 + n * 0x10
/-- BAR0 offset of PMC_n_LO. -/
def rPMC_n_LO (n : Nat) : Nat := 0x1F2004 + n * 0x10
/-- BAR0 offset of PMC_n_HI. -/
def rPMC_n_HI (n : Nat) : Nat := 0x1F2008 + n * 0x10
/-- BAR0 offset of CLK_DATE. -/
def rCLK_DATE : Nat := 0x1F8000
/-- BAR0 offset of CLK_TIME. -/
def rCLK_TIME : Nat := 0x1F8004
/-- BAR0 offset of CLK_STATUS. -/
def rCLK_STATUS : Nat := 0x1F8008
/-- BAR0 offset of CLK_TRIM. -/
def rCLK_TRIM : Nat := 0x1F800C
/-- BAR0 offset of SYS_ID. -/
def rSYS_ID : Nat := 0x0
/-- BAR0 offset of SYS_FW. -/
def rSYS_FW : Nat := 0x4

end Sys2Proof.Machine
end

