-- ==== Sys2Proof/Machine/Ops.lean ====
section
/-!
DEFINITION. The named operations over the state's stores and registers: the one sparse store, register words and fields
(R5, R9), time (R22), outputs, performance counting (R461), and raising a fault message (R411, R415).
-/
namespace Sys2Proof.Machine

/-- What a step answers. -/
abbrev Result := Host.Outcome State Fault Refusal

/-! ### The sparse store: ascending keys, no entry equal to what an unlisted key reads as. -/

/-- The value at a key; `d` says what an unlisted key reads as. -/
def Sparse.get {α : Type} (d : Nat → α) : List (Nat × α) → Nat → α
  | [], k => d k
  | (j, v) :: r, k => if k < j then d k else if k = j then v else Sparse.get d r k

/-- The store with the value at one key replaced; a value equal to the unlisted one leaves no entry. -/
def Sparse.put {α : Type} [DecidableEq α] (d : Nat → α) (k : Nat) (v : α) : List (Nat × α) → List (Nat × α)
  | [] => if v = d k then [] else [(k, v)]
  | (j, w) :: r =>
    if k < j then (if v = d k then (j, w) :: r else (k, v) :: (j, w) :: r)
    else if k = j then (if v = d k then r.dropWhile (fun e => e.1 ≤ k) else (k, v) :: r)
    else (j, w) :: Sparse.put d k v r

/-- The canonical form: ascending keys, and no entry that repeats the unlisted value. -/
def Sparse.wf {α : Type} [DecidableEq α] (d : Nat → α) (m : List (Nat × α)) : Bool :=
  decide (m.Pairwise fun a b => a.1 < b.1) && m.all fun e => decide (e.2 ≠ d e.1)

/-- The value at one key changed by a function. -/
def Sparse.upd {α : Type} [DecidableEq α] (d : Nat → α) (k : Nat) (f : α → α) (m : List (Nat × α)) : List (Nat × α) :=
  Sparse.put d k (f (Sparse.get d m k)) m

/-- The value at a key of a table whose unlisted entries hold `d`. -/
def tget {α : Type} (d : α) (m : List (Nat × α)) (k : Nat) : α := Sparse.get (fun _ => d) m k

/-- One entry of such a table changed. -/
def tupd {α : Type} [DecidableEq α] (d : α) (k : Nat) (f : α → α) (m : List (Nat × α)) : List (Nat × α) :=
  Sparse.upd (fun _ => d) k f m

/-- The entry of a table that holds only what is listed. -/
def lookup? {α : Type} (m : List (Nat × α)) (k : Nat) : Option α := (m.find? (fun e => e.1 == k)).map (·.2)

/-- That table without a key. -/
def erase {α : Type} (m : List (Nat × α)) (k : Nat) : List (Nat × α) := m.filter (fun e => e.1 != k)

/-- That table with a key set, in ascending order of keys. -/
def insertKey {α : Type} (k : Nat) (v : α) : List (Nat × α) → List (Nat × α)
  | [] => [(k, v)]
  | (j, w) :: r => if k < j then (k, v) :: (j, w) :: r else if k = j then (k, v) :: r else (j, w) :: insertKey k v r

/-! ### Byte memories -/

/-- Write a byte string at an address of a byte memory. -/
def Mem.putBytes (d : Nat → Byte) : Nat → List Nat → List Host.Cell → List Host.Cell
  | _, [], m => m
  | a, b :: r, m => Mem.putBytes d (a + 1) r (Sparse.put d a (BitVec.ofNat 8 b) m)

/-- Read `n` bytes at an address of a byte memory. -/
def Mem.getBytes (d : Nat → Byte) (m : List Host.Cell) : Nat → Nat → List Nat
  | _, 0 => []
  | a, n + 1 => (Sparse.get d m a).toNat :: Mem.getBytes d m (a + 1) n

/-! ### Registers -/

/-- The word of the register at a BAR0 offset, as stored. -/
def State.reg (s : State) (off : Nat) : Word := Sparse.get regReset s.regs off

/-- The register's stored word replaced. -/
def State.setReg (s : State) (off : Nat) (w : Word) : State := { s with regs := Sparse.put regReset off w s.regs }

/-- The mask of a field in its word. -/
def Field.mask (f : Field) : Word := BitVec.ofNat 32 ((2 ^ f.w - 1) * 2 ^ f.lo)

/-- The field's value in a word. -/
def Field.get (f : Field) (x : Word) : Nat := x.toNat / 2 ^ f.lo % 2 ^ f.w

/-- A word with the field's value replaced, kept to the field's width. -/
def Field.put (f : Field) (x : Word) (v : Nat) : Word :=
  (x &&& ~~~ f.mask) ||| (BitVec.ofNat 32 (v % 2 ^ f.w * 2 ^ f.lo))

/-- The value of a field. -/
def State.f (s : State) (fd : Field) : Nat := fd.get (s.reg fd.off)

/-- The two's complement value of a field. -/
def State.fs (s : State) (fd : Field) : Int := sx fd.w (s.f fd)

/-- A one-bit field as a truth value. -/
def State.fb (s : State) (fd : Field) : Bool := s.f fd != 0

/-- A field's value replaced. -/
def State.setF (s : State) (fd : Field) (v : Nat) : State := s.setReg fd.off (fd.put (s.reg fd.off) v)

/-- A field set to a two's complement value. -/
def State.setFs (s : State) (fd : Field) (v : Int) : State := s.setF fd (wrap fd.w v)

/-- A one-bit field set from a truth value. -/
def State.setFb (s : State) (fd : Field) (b : Bool) : State := s.setF fd (b2n b)

/-- A counting field increased, held at its limit (R10). -/
def State.addF (s : State) (fd : Field) (n : Nat) : State := s.setF fd (sat fd.w (s.f fd + n))

/-- A counting field increased, wrapping in its width. -/
def State.incF (s : State) (fd : Field) (n : Nat) : State := s.setF fd (s.f fd + n)

/-- Several fields set, in order. -/
def State.setFields (s : State) : List (Field × Nat) → State
  | [] => s
  | (f, v) :: r => (s.setF f v).setFields r

/-! ### Time, outputs, free values -/

/-- Microseconds, milliseconds and seconds in units of 250 ps (R20). -/
def us (n : Nat) : Nat := n * 4000
def ms (n : Nat) : Nat := n * 4000000
def sec (n : Nat) : Nat := n * 4000000000

/-- SYS_TIME: timing-domain cycles since power-on (R22). -/
def State.sysTime (s : State) : Nat := (s.now - s.sys.powerOn) / 4

/-- Record what the engine puts on a port. -/
def State.emit (s : State) (o : Output) : State := { s with out := o :: s.out }

/-- The state after one more free value has been drawn (log entry 7). -/
def State.drawn (s : State) : State := { s with draws := s.draws + 1 }

/-- Whether counter `n` of R461 counts event `ev` of unit `u`: its SEL names the event, and the unit or all units. -/
def pmcCounts (sel ev u : Nat) : Bool :=
  sel / 2 ^ 24 == ev && (sel % 2 ^ 12 == u || sel % 2 ^ 12 == 0xFFF)

/-- The counter numbers whose selection register differs from 0 and names the event (R461). -/
def State.pmcSelected (s : State) (ev u : Nat) : List Nat :=
  s.regs.filterMap fun e =>
    if 0x1F2000 ≤ e.1 && e.1 < 0x1F3000 && e.1 % 16 == 0 && pmcCounts e.2.toNat ev u then
      some ((e.1 - 0x1F2000) / 16) else none

/-- Add to counter `n`, wrapping modulo 2^48 and setting its PMC_OVF bit when it passes its limit (R461). -/
def State.pmcAdd (k : Nat) (s : State) (n : Nat) : State :=
  let v := s.f (PMC_n_LO_VALUE n) + 2 ^ 32 * s.f (PMC_n_HI_VALUE n) + k
  let s := (s.setF (PMC_n_LO_VALUE n) v).setF (PMC_n_HI_VALUE n) (v / 2 ^ 32)
  if v < 2 ^ 48 then s
  else s.setReg (rPMC_OVF_k (n / 32)) (s.reg (rPMC_OVF_k (n / 32)) ||| BitVec.ofNat 32 (2 ^ (n % 32)))

/-- Count `k` occurrences of an event (R461); nothing while PMC_CTRL.FREEZE = 1. -/
def State.count (s : State) (ev u k : Nat) : State :=
  if k = 0 || ev = 0 || s.fb PMC_CTRL_FREEZE then s else (s.pmcSelected ev u).foldl (State.pmcAdd k) s

/-- Time moves on to `t`, never backward; event 0x01 counts the nanoseconds of SYS_TIME (R22, R461). -/
def State.at (s : State) (t : Nat) : State :=
  let s' := { s with now := max s.now t }
  s'.count 1 0 (s'.sysTime - s.sysTime)

/-! ### Fault messages -/

/-- The class, interrupt flag and relay flag of a kind (R417): those of its reaction record, or the defaults. A
record for SYS_BOOT_FAIL has no effect (R414). -/
def reaction (tbl : List Reaction) (k : Kind) : Nat × Bool × Bool :=
  if k.group = 0 && k.code = 4 then (3, true, true)
  else if k.fixed then
    match tbl.find? (fun r => r.group == k.group && r.kind == k.code) with
    | some r => (3, r.irq, true)
    | none => (3, true, true)
  else
    match tbl.find? (fun r => r.group == k.group && r.kind == k.code) with
    | some r => (r.cls, r.irq, r.relay || r.cls == 3)
    | none => (k.cls, 1 ≤ k.cls, 2 ≤ k.cls)

/-- Bits [63:52] of a message: the source (R411). -/
def srcOf (die group inst : Nat) : Nat := die % 16 * 256 + group % 16 * 16 + inst % 16

/-- The 64 bits of a message (R411). -/
def FaultMsg.word (m : FaultMsg) : Nat :=
  srcOf m.die m.group m.inst * 2 ^ 52 + m.kind % 256 * 2 ^ 44 + m.cls % 4 * 2 ^ 42 + m.seq % 1024 * 2 ^ 32 + m.addr % 2 ^ 32

/-- Whether a lane die's collector drops a NOTE or a DEGRADE for want of room in its own queue (R416, R427). -/
def dieDrops (wire : List FaultMsg) (die cls : Nat) : Bool :=
  let fill := (wire.filter fun m => m.die == die && !m.dropped && !m.remote).length
  decide (0 < die) && ((cls == 0 && decide (896 ≤ fill)) || (cls == 1 && decide (1000 ≤ fill)))

/-- A block of a die raises a message: the die stamps CLASS from the reaction table and SEQ from the source's count, and
the message waits at the die for the hub (R415, R416). A HALT gates off the die's strobes and inverter gates (R416). -/
def State.raiseAs (s : State) (die inst : Nat) (k : Kind) (addr : Nat) (injected : Bool) : State :=
  let (cls, irq, relay) := reaction s.flt.reactions k
  let src := srcOf die k.group inst
  let seq := tget 0 s.flt.seqs src
  let m : FaultMsg := { die, group := k.group, inst, kind := k.code, cls, seq, addr := addr % 2 ^ 32,
                        time := s.sysTime, injected, irq, relay, dropped := dieDrops s.flt.wire die cls }
  let s := { s with flt := { s.flt with wire := s.flt.wire ++ [m],
                                        seqs := tupd 0 src (fun q => (q + 1) % 1024) s.flt.seqs } }
  if cls = 3 && !s.health.dieGated.contains die then
    { s with health := { s.health with dieGated := die :: s.health.dieGated } } else s

/-- A block of the hub die raises a message. -/
def State.raise (s : State) (k : Kind) (addr : Nat) : State := s.raiseAs 0 0 k addr false

/-- A block of lane die `d` (0–3) raises a message: DIE is d + 1 (R411). -/
def State.raiseLane (s : State) (d : Nat) (k : Kind) (addr : Nat) : State := s.raiseAs (d + 1) 0 k addr false

/-- The lane die of a tile or tile port (R11). -/
def tileDie (n : Nat) : Nat := n / 24

/-- A source emits into the event fabric; its event is due at the destinations 2 ns later (R129). -/
def State.emitSrc (s : State) (src : Nat) : State :=
  { s with pos := { s.pos with fabric := s.pos.fabric ++ [{ due := s.now + 8, src }] } }

/-! ### Conditions many rules share -/

/-- The engine's operating state code (R42). -/
def State.st (s : State) : Nat := s.f SYS_STATE_STATE

def NIGHT : Nat := 0
def DAWN : Nat := 1
def MORNING : Nat := 2
def NOON : Nat := 3
def DUSK : Nat := 4
def EVENING : Nat := 5
def MIDNIGHT : Nat := 6

/-- The set of functions in force: the state, or FUNC in Evening (R42, R45). -/
def State.func (s : State) : Nat := if s.st = EVENING then s.f SYS_STATE_FUNC else s.st

/-- The reading of a temperature sensor in 0.1 °C, if it is valid (R397, R398). -/
def State.temp? (s : State) (n : Nat) : Option Int :=
  if s.fb (THM_n_TEMP_VALID n) then some (s.fs (THM_n_TEMP_TEMP n)) else none

/-- The interlock on writes to NV flash: 0–95 °C at the hub die, an invalid reading counting as outside (R407). -/
def State.nvOk (s : State) : Bool :=
  match s.temp? 96 with
  | some v => decide (0 ≤ v ∧ v ≤ 950)
  | none => false

/-- The interlock on head-memory writes: 5–70 °C at the tile's TSR (R407). -/
def State.hmOk (s : State) (n : Nat) : Bool :=
  match s.temp? n with
  | some v => decide (50 ≤ v ∧ v ≤ 700)
  | none => false

/-- The engine's own ID: ring ID and position (R4, R300). -/
def State.eid (s : State) : Nat := s.f RING_STATUS_EID

/-- The code by which the per-master tables name a master (R6). -/
def masterCode : Master → Nat
  | .host => 0
  | .core k => 1 + k
  | .ring e => 16 + e

end Sys2Proof.Machine
end

