-- ==== Sys2Proof/Machine/TagOps.lean ====
section
/-!
DEFINITION. Shared operations of random tagging (R465, R466): the LFSR, candidates, stamps, and the tag record window.
-/
namespace Sys2Proof.Machine

/-- One advance of the Galois LFSR of x³² + x²² + x² + x + 1, shifting toward bit 0 (R465; log entry 21). -/
def lfsrStep (x : Nat) : Nat := if x % 2 = 1 then (x / 2) ^^^ 0x80200003 else x / 2

/-- Whether a domain and unit are being tagged. -/
def State.tagging (s : State) (domain unit_ : Nat) : Bool :=
  s.f PMC_TAG_CTRL_DOMAIN == domain && s.f PMC_TAG_CTRL_UNIT == unit_

/-- One candidate (R465): the LFSR advances, and the candidate is tagged when its low RATE bits are 0, no tag is in flight
and a place is free. -/
def State.tagCandidate (s : State) (r : TagRec) : State :=
  let x := lfsrStep s.pmc.lfsr
  let s := { s with pmc := { s.pmc with lfsr := x } }
  if x % 2 ^ s.f PMC_TAG_CTRL_RATE = 0 && s.pmc.flying.isNone && s.f PMC_TAG_STAT_COUNT < 64 then
    { s with pmc := { s.pmc with flying := some r } }
  else s

/-- `n` candidates one after another, if their domain and unit are being tagged. -/
def State.tagMany (s : State) (domain unit_ n : Nat) (mk : Nat → TagRec) : State :=
  if s.tagging domain unit_ then (List.range n).foldl (fun s k => s.tagCandidate (mk k)) s else s

/-- The tag in flight reaches point `k` at a time. -/
def TagRec.stamp (r : TagRec) (k time : Nat) : TagRec :=
  { r with stamps := (List.range 13).map fun i => if i = k then time else r.stamps.getD i 0 }

/-- The tag in flight, if its object meets a test, changed. -/
def State.modTag (s : State) (p : TagRec → Bool) (g : TagRec → TagRec) : State :=
  { s with pmc := { s.pmc with flying := s.pmc.flying.map fun (r : TagRec) => if p r then g r else r } }

/-- The record of the tag in flight enters the window, complete or abandoned; points not reached read 0 (R466). -/
def State.tagRecord (s : State) (p : TagRec → Bool) (abandoned : Bool) : State :=
  match s.pmc.flying with
  | some r =>
    if p r then
      let r := { r with abandoned := abandoned, done := !abandoned,
                        stamps := (List.range 13).map fun i =>
                          let x := r.stamps.getD i 0
                          if s.sysTime < x then 0 else x }
      let n := s.f PMC_TAG_STAT_COUNT
      let s := { s with pmc := { s.pmc with flying := none, win := insertKey ((s.f PMC_TAG_STAT_HEAD + n) % 64) r s.pmc.win } }
      s.setFields [(PMC_TAG_STAT_COUNT, n + 1), (PMC_TAG_STAT_FULL, b2n (n + 1 == 64))]
    else s
  | none => s

/-- Point `k` of descriptor tags of a stream: the first time only, or each time. -/
def State.tagDesc (s : State) (stream k : Nat) (first : Bool) : State :=
  s.modTag (fun r => r.typ == 3 && r.unit_ == stream) fun r =>
    if first && r.stamps.getD k 0 != 0 then r else r.stamp k s.sysTime

/-- The nozzle-event tag of a cycle: its lane engine and fire line. -/
def cycleTag (e f : Nat) (r : TagRec) : Bool := r.typ == 1 && r.unit_ == e && r.idA == f

end Sys2Proof.Machine
end

