-- ==== Sys2Proof/Machine/CueOps.lean ====
section
/-!
DEFINITION. Shared operations on the cue lines (R87, R100, R419, R485, R486, R508): their records and what their outputs
drive.
-/
namespace Sys2Proof.Machine

/-- The record of a cue line in force; without one the line is an input (R78, R87). -/
def State.cueRec (s : State) (n : Nat) : CueRec :=
  match s.cfg.armed with
  | some im => im.cues.getD n {}
  | none => {}

/-- Input functions (R508). -/
def cueInput (func : Nat) : Bool := decide (func ≤ 4) || func == 8

/-- A line is switched over at a swap, or held in Morning's millisecond (R100). -/
def State.cueHeld (s : State) (n : Nat) : Bool := (lookup? s.svc.cueHold n).isSome

/-- Whether an unacknowledged fault of at least a class is pending (R87, R419). -/
def State.pendClass (s : State) (c : Nat) : Bool :=
  s.fb FLT_PEND_HALT || (c ≤ 2 && s.fb FLT_PEND_STOP) || (c ≤ 1 && s.fb FLT_PEND_DEGRADE) || (c = 0 && s.fb FLT_PEND_NOTE)

/-- Whether an output line's function is active; none for an input (R87). -/
def State.cueActive (s : State) (n : Nat) : Option Bool :=
  match (s.cueRec n).func with
  | 5 => some (lookup? s.svc.cuePulse n).isSome
  | 6 => some (s.pendClass (s.cueRec n).param)
  | 7 => some (s.st == MORNING || s.st == NOON)
  | _ => none

/-- The level a line should drive: that of its function, or its safe level while it is held (R87, R100). -/
def State.cueWants (s : State) (n : Nat) : Option Bool :=
  if s.cueHeld n then (match (s.cueRec n).safe with | 0 => some false | 1 => some true | _ => none)
  else (s.cueActive n).map (· != (s.cueRec n).activeLow)

/-- A line is driven: not after an overload (R485), and not high while its connector's supply is low (R486), which is noted
once for each line. -/
def State.driveCue (s : State) (n : Nat) : State :=
  let want := if (lookup? s.svc.cueOver n).isSome then none else s.cueWants n
  let low := want == some true && s.svc.vinLow.contains (n / 8)
  let lvl := if low then none else want
  let s := if low && !s.svc.vinNoted.contains n then
      ({ s with svc := { s.svc with vinNoted := n :: s.svc.vinNoted } }).raise kSYS_NOTE (0x80000120 + n) else s
  if lvl == lookup? s.svc.cueOut n then s
  else
    let s := { s with svc := { s.svc with cueOut := match lvl with
      | some b => insertKey n b s.svc.cueOut
      | none => erase s.svc.cueOut n } }
    s.emit (.cue n lvl)

/-- Every cue line drives what it should. -/
def State.showCues (s : State) : State := (List.range 16).foldl State.driveCue s

/-- An event output pulses for PARAM µs from now (R87, R508). -/
def State.cuePulse (s : State) (n : Nat) : State :=
  if (s.cueRec n).func = 5 && !s.cueHeld n then
    ({ s with svc := { s.svc with cuePulse := insertKey n (s.now + us (s.cueRec n).param) s.svc.cuePulse } }).driveCue n
  else s

/-- The cue lines whose record changes are held at their new safe level until an instant, or until the gap ends when that
is 0; an overload's retry is cancelled (R100, R485). -/
def State.holdCues (s : State) (old new : List CueRec) (until_ : Nat) : State :=
  (List.range 16).foldl (fun s n =>
    let a := old.getD n {}
    let b := new.getD n {}
    if a.func = b.func && a.safe = b.safe && a.activeLow = b.activeLow then s
    else { s with svc := { s.svc with cueHold := insertKey n until_ s.svc.cueHold, cuePulse := erase s.svc.cuePulse n,
                                      cueOver := erase s.svc.cueOver n } }) s

/-- Cue lines held for the gap are handed to their new function at its end (R100). -/
def State.handCues (s : State) : State :=
  ({ s with svc := { s.svc with cueHold := s.svc.cueHold.filter fun e => e.2 != 0 } }).showCues

end Sys2Proof.Machine
end

