-- ==== Sys2Proof/Machine/TileOps.lean ====
section
/-!
DEFINITION. Shared operations of chapter 11: the tile ports, their power, their failures, head-memory transactions and
the choice of calibration path.
-/
namespace Sys2Proof.Machine

/-- One tile port's state. -/
def State.port (s : State) (n : Nat) : TileP := tget {} s.ports n

/-- One tile port's state changed. -/
def State.modPort (s : State) (n : Nat) (g : TileP → TileP) : State := { s with ports := tupd {} n g s.ports }

/-- One tile's health and pulse state. -/
def State.th (s : State) (n : Nat) : TileH := tget {} s.tileH n

/-- One tile's health and pulse state changed. -/
def State.modTh (s : State) (n : Nat) (g : TileH → TileH) : State := { s with tileH := tupd {} n g s.tileH }

/-- The nozzle record of nozzle `i` of tile `n` (R180, R205). -/
def State.nozzle (s : State) (n i : Nat) : Noz := tget {} s.noz (n * 12288 + i)

/-- A nozzle record changed. -/
def State.modNoz (s : State) (n i : Nat) (g : Noz → Noz) : State := { s with noz := tupd {} (n * 12288 + i) g s.noz }
/-- Every nozzle's record changed by a function that leaves the reset record as it is. -/
def State.mapNoz (s : State) (g : Noz → Noz) : State :=
  { s with noz := (s.noz.map fun (e : Nat × Noz) => (e.1, g e.2)).filter fun (e : Nat × Noz) => e.2 != ({} : Noz) }

/-- The armed image's record of a tile (R80). -/
def State.tileRec? (s : State) (n : Nat) : Option TileRec :=
  match s.cfg.armed with
  | some im => im.tiles.find? (fun r => r.tile == n)
  | none => none

/-- Whether the armed image enables a tile (R80). -/
def State.enabled (s : State) (n : Nat) : Bool :=
  match s.tileRec? n with
  | some r => r.enable
  | none => false

/-- Whether the armed image permits bypass of a tile (R80). -/
def State.bypassOk (s : State) (n : Nat) : Bool :=
  match s.tileRec? n with
  | some r => r.bypassOk
  | none => false

/-- The live image that a window has swapped in while another window has yet to swap it (R161). -/
def State.liveIn? (s : State) (w : Nat) : Option LiveImage :=
  match s.cfg.live with
  | some l => if s.cfg.liveWins.contains w then none else some l
  | none => none

/-- The energy table of a plane for the tiles of a window (R174, R188). -/
def State.energyOf? (s : State) (w plane : Nat) : Option Energy :=
  match (s.liveIn? w).bind fun l => l.energy.find? fun e => e.plane == plane with
  | some e => some e
  | none => s.cfg.armed.bind fun im => im.energy.find? fun e => e.plane == plane

/-- A mask set for the documents of a window (R166). -/
def State.maskOf? (s : State) (w idx : Nat) : Option MaskSet :=
  match (s.liveIn? w).bind fun l => l.masks.find? fun e => e.idx == idx with
  | some e => some e
  | none => s.cfg.armed.bind fun im => im.masks.find? fun e => e.idx == idx

/-- A feed table for the tiles of a window (R163). -/
def State.feedOf? (s : State) (w idx : Nat) : Option Feed :=
  match (s.liveIn? w).bind fun l => l.feeds.find? fun e => e.idx == idx with
  | some e => some e
  | none => s.cfg.armed.bind fun im => im.feeds.find? fun e => e.idx == idx

/-- Whether a tile passed Dawn: trained, with its logic supply on, and not failed (R326, R330). -/
def State.tileUp (s : State) (n : Nat) : Bool :=
  s.fb (TILE_n_STATUS_TRAINED n) && s.fb (TILE_n_STATUS_LOGIC_ON n) && !s.fb (TILE_n_STATUS_FAILED n)

/-! ### Usage counting and head memory -/

/-- K_t, the per-tile key (R335); none while no usage master key is stored. -/
def State.usageKey? (s : State) (n : Nat) : Option (List Nat) :=
  s.nv.ukey.map fun km => hmacSha256 km ([0x4B, 0x48, 0x54, 0x55] ++ toLe 8 (s.port n).userial)

/-- The tag of a message under K_t (R335). -/
def usageTag (kt msg : List Nat) : List Nat := (hmacSha256 kt msg).take 8

/-- What a response carries when its CRC-32C is right (R331). -/
def hmData? (resp : Option (List Nat)) (len : Nat) : Option (List Nat) :=
  match resp with
  | some bs => if bs.length = len + 4 && crc32c (bs.take len) == le (bs.drop len) then some (bs.take len) else none
  | none => none

/-- TILE_n_USAGE shows the drops recorded plus the drops pending (R340). -/
def State.showUsage (s : State) (n : Nat) : State :=
  let c := (s.port n).useCount + (s.port n).pendUse
  (s.setF (TILE_n_USAGE_LO_COUNT n) c).setF (TILE_n_USAGE_HI_COUNT n) (c / 2 ^ 32)

/-- Drops fired on a tile, pending until they are recorded in its head memory (R337). -/
def State.addUse (s : State) (n k : Nat) : State :=
  (s.modPort n fun p => { p with pendUse := p.pendUse + k }).showUsage n

/-- Send AUTH_ADD for the pending count, beginning with GET_NONCE, or defer it by temperature (R337). -/
def State.usageWrite (s : State) (n : Nat) : State :=
  let p := s.port n
  if !s.fb (TILE_n_STATUS_USAGE_ON n) || p.pendUse == 0 || p.hm.isSome then s
  else if !s.hmOk n then (s.setF (TILE_n_STATUS_HM_DEFER n) 1).raiseLane (tileDie n) kTILE_HM_DEFER n
  else (s.modPort n fun p => { p with hm := some { op := 0x22, started := s.now, delta := p.pendUse } }).emit
    (.hmRequest n [0x21])

/-- The 3.3 V switch of a tile opens: the port is untrained and holds no packet (R326, R328). -/
def State.logicOff (s : State) (n : Nat) : State :=
  ((s.setF (TILE_n_STATUS_LOGIC_ON n) 0).setF (TILE_n_STATUS_TRAINED n) 0).modPort n fun p =>
    { p with hm := none, powerOff := none, keepLogic := false, ready := [], eops := [], trainOk := 0,
             echoed := false, rampEnd := none, lastReport := none, vpp := [] }

/-- A tile's VPP fuse opens (R328, R329). -/
def State.fuseOpen (s : State) (n : Nat) : State :=
  (s.setF (TILE_n_STATUS_VPP_ON n) 0).modPort n fun p => { p with fuseAt := none }

/-- Power removal from a tile: the pending count is sent, the VPP fuse opens, and the 3.3 V switch follows once VPP has
discharged and a usage write has ended (R54, R328, R337). -/
def State.removePower (s : State) (n : Nat) : State :=
  if s.fb (TILE_n_STATUS_VPP_ON n) then
    ((s.usageWrite n).fuseOpen n).modPort n fun p => { p with powerOff := some s.now, keepLogic := false }
  else if s.fb (TILE_n_STATUS_LOGIC_ON n) then
    let s := s.usageWrite n
    if (s.port n).hm.isSome then s.modPort n fun p => { p with powerOff := some s.now, keepLogic := false }
    else s.logicOff n
  else s

/-- Removal of VPP alone from a tile that an ARM in Morning disables (R345). -/
def State.removeVpp (s : State) (n : Nat) : State :=
  if s.fb (TILE_n_STATUS_VPP_ON n) then
    ((s.usageWrite n).fuseOpen n).modPort n fun p => { p with powerOff := some s.now, keepLogic := true }
  else s

/-- The 3.3 V switch opens once the removal of power lets it: VPP below 5 V or 20 ms past, and no usage write within its
5 ms (R328, R337). With `keepLogic` only the wait ends (R345). -/
def State.tryLogicOff (s : State) (n : Nat) : State :=
  match (s.port n).powerOff with
  | none => s
  | some t0 =>
    if s.f (TILE_n_TELEM_VPP_MV n) < 5000 || t0 + ms 20 ≤ s.now then
      if (s.port n).keepLogic then s.modPort n fun p => { p with powerOff := none, keepLogic := false }
      else
        match (s.port n).hm with
        | some x => if s.now < x.started + ms 5 then s else s.logicOff n
        | none => s.logicOff n
    else s

/-! ### Failures -/

/-- The window of a tile has a swap to make: with no document open it is made 1 ms later if no reference line event comes
(R161). -/
def State.askSwap (s : State) (n : Nat) : State :=
  match s.tileRec? n with
  | some r =>
    if !r.enable then s
    else { s with wins := tupd {} r.docwin (fun (x : Win) =>
      { x with swapAt := if x.doc.isNone && x.swapAt.isNone then some s.now else x.swapAt }) s.wins }
  | none => s

/-- What follows a tile's failure in operation (R214): it fires no further cycle, and is bypassed at the next gap of its
window when BYPASS_OK = 1, otherwise HLTH_TILE_FAIL is raised. -/
def State.afterFail (s : State) (n : Nat) : State :=
  let s := s.modTh n fun h => { h with dead := true }
  if s.st = MORNING || s.st = NOON || s.st = EVENING || s.st = DUSK then
    if s.bypassOk n then (s.modTh n fun h => { h with bypassReq := true }).askSwap n
    else if s.enabled n then s.raise kHLTH_TILE_FAIL n else s
  else s

/-- The port fails its tile (R330): the fuse opens, the strobes stop, CAUSE is recorded, and TILE_FAIL is raised for every
cause but 1 and 3. A tile that has failed keeps its cause. -/
def State.failTile (s : State) (n cause : Nat) : State :=
  if s.fb (TILE_n_STATUS_FAILED n) then s.fuseOpen n
  else
    let s := ((s.setF (TILE_n_STATUS_FAILED n) 1).setF (TILE_n_STATUS_CAUSE n) cause).fuseOpen n
    let s := if cause = 1 || cause = 3 then s else s.raiseLane (tileDie n) kTILE_FAIL (n + cause * 256)
    s.afterFail n

/-- A tile is declared absent: no supply until the next Dawn (R325, R326). DETECT keeps the outcome of the handshake. -/
def State.absentTile (s : State) (n : Nat) : State :=
  (s.fuseOpen n).logicOff n |>.raiseLane (tileDie n) kTILE_ABSENT n

/-! ### The choice of calibration path (R332 to R338) -/

/-- A byte of the identity block as read. -/
def idByte (p : TileP) (a : Nat) : Nat := (Sparse.get (fun _ => 0) p.idBuf a).toNat

/-- A field of `k` bytes of the identity block. -/
def idLe (p : TileP) (a k : Nat) : Nat := le ((List.range k).map fun i => idByte p (a + i))

/-- The identity block passes its check (R332). -/
def idPasses (p : TileP) : Bool :=
  idLe p 0 4 == 0x4954484B && idByte p 4 == 1 && decide (idByte p 5 ≤ 15) && decide (idByte p 6 ≤ 15) &&
  idByte p 7 == 0 && idLe p 8 8 != 0 &&
  (List.range 12).all (fun r => decide (-32 ≤ sx 8 (idByte p (0x10 + r)) ∧ sx 8 (idByte p (0x10 + r)) ≤ 32)) &&
  decide (1 ≤ idByte p 0x1C) && idLe p 0x1D 3 == 0 &&
  (List.range 12).all (fun r => decide (-2048 ≤ sx 16 (idLe p (0x20 + 2 * r) 2) ∧ sx 16 (idLe p (0x20 + 2 * r) 2) ≤ 2047)) &&
  idLe p 0x38 4 == 0 &&
  crc32c ((List.range 0x1840).map fun a => if 0x3C ≤ a && a < 0x40 then 0 else idByte p a) == idLe p 0x3C 4

/-- A usage slot's SEQ and COUNT when the slot is valid (R334); `o` is its offset from 0x2000. -/
def useSlot? (p : TileP) (o : Nat) : Option (Nat × Nat) :=
  let rd := fun a k => le ((List.range k).map fun i => (Sparse.get (fun _ => 0) p.useBuf (a + i)).toNat)
  if rd o 4 != 0xFFFFFFFF && crc32c (toLe 12 (rd o 12)) == rd (o + 12) 4 then some (rd o 4, rd (o + 4) 8) else none

/-- The current usage slot: the valid slot whose SEQ is ahead under R110; slot A on equal SEQ (log entry 18). -/
def useCurrent? (p : TileP) : Option (Nat × Nat) :=
  match useSlot? p 0x10, useSlot? p 0x20 with
  | some a, some b => if 0 < (b.1 + 2 ^ 32 - a.1) % 2 ^ 32 && (b.1 + 2 ^ 32 - a.1) % 2 ^ 32 < 2 ^ 31 then some b else some a
  | some a, none => some a
  | none, some b => some b
  | none, none => none

/-- The trim of nozzle `i` from the identity block (R333). -/
def idTrim (p : TileP) (i : Nat) : Int :=
  let b := idByte p (0x40 + i / 2)
  let nib := sx 4 (if i % 2 = 0 then b else b / 16)
  clamp (-2048) 2047 (sx 16 (idLe p (0x20 + 2 * (i / 1024)) 2) + nib * idByte p 0x1C)

/-- Load τ of every nozzle from the identity block, or zero it (R333, R338). -/
def State.loadTrims (s : State) (n : Nat) (useId : Bool) : State :=
  let p := s.port n
  (List.range 12288).foldl (fun s i => s.modNoz n i fun z => { z with tau := if useId then idTrim p i else 0 }) s

/-- The path of R338, chosen once both blocks have been judged. -/
def State.choosePath (s : State) (n : Nat) : State :=
  match (s.port n).idOk, (s.port n).useOk with
  | some true, some u =>
    let p := s.port n
    let s := s.setFields [(TILE_n_SERIAL_LO_SERIAL n, idLe p 8 4), (TILE_n_SERIAL_HI_SERIAL n, idLe p 12 4),
      (TILE_n_RANK_TRIM_UNIT n, idByte p 0x1C), (TILE_n_RANK_VRANK n, idByte p 6), (TILE_n_RANK_ERANK n, idByte p 5),
      (TILE_n_STATUS_FALLBACK n, 0), (TILE_n_STATUS_USAGE_ON n, b2n u)]
    let s := s.modPort n fun p => { p with rowDly := (List.range 12).map fun r => sx 8 (idByte p (0x10 + r)) }
    let s := s.loadTrims n true
    if u then
      if s.f (TILE_n_RANK_CLASS n) != idByte p 5 / 4 then s.raiseLane (tileDie n) kTILE_CLASS_MISMATCH n else s
    else s.raiseLane (tileDie n) kTILE_AUTH_FAIL n
  | some false, some true =>
    let p := s.port n
    let s := s.setFields [(TILE_n_SERIAL_LO_SERIAL n, p.userial), (TILE_n_SERIAL_HI_SERIAL n, p.userial / 2 ^ 32),
      (TILE_n_STATUS_FALLBACK n, 1), (TILE_n_STATUS_USAGE_ON n, 1)]
    let s := (s.modPort n fun p => { p with rowDly := List.replicate 12 0 }).loadTrims n false
    s.raiseLane (tileDie n) kTILE_ID_FALLBACK n
  | some false, some false =>
    (s.setF (TILE_n_STATUS_USAGE_ON n) 0).failTile n 3 |>.raiseLane (tileDie n) kTILE_HM_FAIL n
  | _, _ => s

/-- A head-memory check error: the transaction waits for its backoff of 10 µs doubling to 1,280 µs, and after eight
retries it fails (R37). `none` in place of a state means that it has failed. -/
def State.hmError (s : State) (n : Nat) (op : Nat) : Option State :=
  let x := ((s.port n).hm).getD { op, started := s.now }
  if x.tries < 8 then
    some (s.modPort n fun p => { p with hm := some { x with op := op, tries := x.tries + 1, retryAt := some (s.now + us (10 * 2 ^ x.tries)) } })
  else none

/-- The transaction of a tile ends. -/
def State.hmEnd (s : State) (n : Nat) : State := (s.modPort n fun p => { p with hm := none }).tryLogicOff n

/-- Whether a response may end the transaction now: none is waiting out a backoff. -/
def State.hmReady (s : State) (n : Nat) : Bool :=
  s.fb (TILE_n_STATUS_LOGIC_ON n) &&
  match (s.port n).hm with
  | some x => x.retryAt.isNone
  | none => true

end Sys2Proof.Machine
end

