-- ==== Sys2Proof/Machine/HealthOps.lean ====
section
/-!
DEFINITION. Shared operations of chapter 07: nozzle classes, the health map and its swap, overlaps, bypass, lane engines
and spares.
-/
namespace Sys2Proof.Machine

/-- A map entry's class, FORCED and LATCHED bits (R205). -/
def mapClass (e : Nat) : Nat := e % 4
def mapForced (e : Nat) : Bool := bit e 2
def mapLatched (e : Nat) : Bool := bit e 3

/-- A map entry that ASSIGN may use: neither dead nor forced (R201, R203, R208). -/
def mapUsable (e : Nat) : Bool := decide (mapClass e < 2) && !mapForced e

/-- Write a background map entry; a change of class or FORCED makes a swap pending (R205, R206). -/
def State.setBg (s : State) (n i e : Nat) : State :=
  let old := (s.nozzle n i).bg
  let s := s.modNoz n i fun z => { z with bg := e }
  if e % 8 = old % 8 then s else s.setF (HLTH_n_STATUS_SWAP_PENDING n) 1

/-- The address field of a nozzle fault: tile in [6:0], nozzle index in [20:7] (R222). -/
def nozAddr (n i : Nat) : Nat := n + i * 128

/-- One result classed into the background map (R199, R201, R204): a latched nozzle keeps its class; a newly dead one is
latched and reported. -/
def State.classify (s : State) (n i cls : Nat) : State :=
  let e := (s.nozzle n i).bg
  let keep := b2n (mapForced e) * 4
  if mapLatched e then
    if cls < 2 then s.addF (HLTH_n_DISAGREE_COUNT n) 1 else s
  else if cls = 2 then (s.setBg n i (2 + keep + 8)).raiseLane (tileDie n) kHLTH_NOZZLE_DEAD (nozAddr n i)
  else if cls = 3 then (s.setBg n i (3 + keep + 8)).raiseLane (tileDie n) kHLTH_SHORT (nozAddr n i)
  else s.setBg n i (cls + keep)

/-- A heater reported open by telemetry is classed open at once (R202). -/
def State.openReport (s : State) (n i : Nat) : State := if i < 12288 then s.classify n i 2 else s

/-- The class of a stored result against the limits and a median (R199); results are in 10 mΩ, 0xFFFF open. -/
def State.classOf (s : State) (r med : Nat) : Nat :=
  if r = 0xFFFF || s.f HLTH_LIMITS_OPEN_OHM * 100 < r then 2
  else if r < s.f HLTH_LIMITS_SHORT_OHM * 100 then 3
  else if (max 1 (s.f HLTH_CTRL_DRIFT_PM)) * med < 1000 * (if med ≤ r then r - med else med - r) then 1
  else 0

/-- The lower middle value of a list (R199; log entry 17). -/
def median (l : List Nat) : Nat := (sortNat l).getD ((l.length - 1) / 2) 0

/-- The mean of results in 10 mΩ, in mΩ, rounded down (R200; log entry 16). -/
def meanMohm (l : List Nat) : Nat := if l.isEmpty then 0 else l.sum * 10 / l.length

/-- The nozzle entries held for a tile. -/
def State.nozKeys (s : State) (n : Nat) : List Nat :=
  (s.noz.filter fun e => n * 12288 ≤ e.1 && e.1 < (n + 1) * 12288).map (·.1 - n * 12288)

/-- The usable rows of a column in the foreground map (R208, R212). -/
def State.usableRows (s : State) (n c : Nat) : List Nat :=
  (List.range 12).filter fun r => mapUsable (s.nozzle n (1024 * r + c)).fg

/-- The numbers of weak and of dead columns (R212). -/
def State.columnCounts (s : State) (n : Nat) : Nat × Nat :=
  (List.range 1024).foldl (fun (w, d) c =>
    let k := (s.usableRows n c).length
    if k = 0 then (w, d + 1) else if k ≤ 3 then (w + 1, d) else (w, d)) (0, 0)

/-- The enabled tile that continues a tile's stitched run on the right, and on the left (R81). -/
def State.rightOf? (s : State) (n : Nat) : Option Nat :=
  match s.cfg.armed, s.tileRec? n with
  | some im, some r => (im.tiles.find? fun x => x.enable && x.plane == r.plane && x.colStart == r.colStart + 992).map (·.tile)
  | _, _ => none

def State.leftOf? (s : State) (n : Nat) : Option Nat :=
  match s.cfg.armed, s.tileRec? n with
  | some im, some r => (im.tiles.find? fun x => x.enable && x.plane == r.plane && x.colStart + 992 == r.colStart).map (·.tile)
  | _, _ => none

/-- Whether a tile is bypassed (R215). -/
def State.bypassed (s : State) (n : Nat) : Bool := s.fb (HLTH_n_STATUS_BYPASSED n)

/-- The overlap column `o` (0–31) of a stitched pair belongs to the left tile: it prints the SPLIT columns at the right
of the overlap (R81). -/
def State.leftHas (s : State) (l o : Nat) : Bool :=
  match s.tileRec? l with
  | some r => decide (32 - r.split ≤ o)
  | none => false

/-- Whether a tile prints its local column `c`: outside the overlaps always; inside, by R81, moved columns (R213) and
bypassed neighbours (R216). -/
def State.prints (s : State) (n c : Nat) : Bool :=
  if c < 32 then
    match s.leftOf? n with
    | some l =>
      if s.bypassed l then true
      else if s.leftHas l c then (s.th l).colsMoved.contains (992 + c)
      else !(s.th n).colsMoved.contains c
    | none => true
  else if 992 ≤ c then
    match s.rightOf? n with
    | some r =>
      if s.bypassed r then true
      else if s.leftHas n (c - 992) then !(s.th n).colsMoved.contains c
      else (s.th r).colsMoved.contains (c - 992)
    | none => true
  else true

/-- Whether a column of a tile is normal (R212). -/
def State.colNormal (s : State) (n c : Nat) : Bool := decide (4 ≤ (s.usableRows n c).length)

/-- The overlap columns that R81 gives to tile `n`, each with the other tile and its local column there. -/
def State.ownOverlap (s : State) (n : Nat) : List (Nat × Nat × Nat) :=
  (match s.rightOf? n with
   | some r => (List.range 32).filterMap fun o => if s.leftHas n o then some (992 + o, r, o) else none
   | none => []) ++
  (match s.leftOf? n with
   | some l => (List.range 32).filterMap fun o => if s.leftHas l o then none else some (o, l, 992 + o)
   | none => [])

/-- A column of one of the tile's two overlaps has moved, away from it or to it (R213). -/
def State.overlapMoved (s : State) (n : Nat) : Bool :=
  !(s.th n).colsMoved.isEmpty ||
  (match s.leftOf? n with | some l => (s.th l).colsMoved.any fun c => decide (992 ≤ c) | none => false) ||
  (match s.rightOf? n with | some r => (s.th r).colsMoved.any fun c => decide (c < 32) | none => false)

/-- The overlap columns moved at a swap: weak or dead here and normal on the other tile; a column moved already stays
moved while it is weak or dead here (R213). -/
def State.moveColumns (s : State) (n : Nat) : State :=
  let was := (s.th n).colsMoved
  let now := (s.ownOverlap n).filterMap fun (c, o, oc) =>
    if !s.colNormal n c && (was.contains c || s.colNormal o oc) then some c else none
  let s := s.modTh n fun h => { h with colsMoved := now }
  (n :: (s.leftOf? n).toList ++ (s.rightOf? n).toList).foldl (fun s k => s.setFb (HLTH_n_STATUS_OVL_MOVED k) (s.overlapMoved k)) s

/-- The counts the foreground map shows (R212, R223). -/
def State.showHealth (s : State) (n : Nat) : State :=
  let ks := s.nozKeys n
  let dead := (ks.filter fun i => !mapUsable (s.nozzle n i).fg).length
  let drift := (ks.filter fun i => mapClass (s.nozzle n i).fg == 1).length
  let (w, d) := s.columnCounts n
  let w0 := s.f (HLTH_n_COLS_WEAK n)
  let d0 := s.f (HLTH_n_COLS_DEAD n)
  let s := s.setFields [(HLTH_n_CLASSCNT_DEAD n, dead), (HLTH_n_CLASSCNT_DRIFTING n, drift), (HLTH_n_COLS_WEAK n, w), (HLTH_n_COLS_DEAD n, d)]
  let s := if w0 < w then s.raiseLane (tileDie n) kHLTH_COL_WEAK n else s
  if d0 < d then s.raiseLane (tileDie n) kHLTH_COL_DEAD n else s

/-- Whether the pending swap of a tile changes a class or FORCED bit (R166, R207). -/
def State.swapChanges (s : State) (n : Nat) : Bool :=
  (s.nozKeys n).any fun i => (s.nozzle n i).fg % 8 != (s.nozzle n i).bg % 8

/-- The health swap of a tile (R206, R207, R212, R213): the background copy becomes the foreground, with the median and
R_t of a scan completed since the last swap. -/
def State.healthSwap (s : State) (n : Nat) : State :=
  if s.fb (HLTH_n_STATUS_SWAP_PENDING n) then
    let s := (s.nozKeys n).foldl (fun s i => s.modNoz n i fun z => { z with fg := z.bg }) s
    let s := match (s.th n).medNext with
      | some m => s.setF (HLTH_n_RMED_MEDIAN n) m
      | none => s
    let s := s.modTh n fun h => { h with rt := h.rtNext.getD h.rt, medNext := none, rtNext := none }
    ((s.setF (HLTH_n_STATUS_SWAP_PENDING n) 0).showHealth n).moveColumns n
  else s

/-- A scan completes: the cursor returns to 0, SCANS increments and a swap is pending (R195, R206). In Dawn the results
are classed now, by the scan's own median, and the new map is in force (R59, R199). -/
def State.scanComplete (s : State) (n : Nat) : State :=
  let h := s.th n
  let med := median h.results
  let s := (s.setF (HLTH_n_SCAN_CURSOR n) 0).incF (HLTH_n_SCAN_SCANS n) 1
  let s := (s.setF (HLTH_n_STATUS_SWAP_PENDING n) 1).modTh n fun h => { h with medNext := some med }
  if s.st = DAWN then
    let s := (List.range 12288).foldl (fun s i =>
      let r := (s.nozzle n i).res
      if r = 0 then s else s.classify n i (s.classOf r med)) s
    let goods := (List.range 12288).filterMap fun i =>
      if (s.nozzle n i).res != 0 && decide (mapClass (s.nozzle n i).bg < 2) then some (s.nozzle n i).res else none
    let s := s.modTh n fun h => { h with rtNext := some (meanMohm goods), results := [], goods := [] }
    s.healthSwap n
  else
    s.modTh n fun h => { h with rtNext := some (meanMohm h.goods), results := [], goods := [] }

/-- The scan moves past nozzle `i` (R195). -/
def State.scanNext (s : State) (n i : Nat) : State :=
  if i = 12287 then s.scanComplete n else s.setF (HLTH_n_SCAN_CURSOR n) (i + 1)

/-- Two readings agree within AGREE_PM ‰ of their mean (R197). -/
def State.agree (s : State) (a b : Nat) : Bool :=
  decide (2000 * (if a ≤ b then b - a else a - b) ≤ max 1 (s.f HLTH_CTRL_AGREE_PM) * (a + b))

/-- The two readings of a measurement judged (R197 to R201); readings are in mΩ, `none` where no current path is found. -/
def State.judge (s : State) (n i : Nat) (r1 r2 : Option Nat) : State :=
  let store := fun (s : State) (v : Nat) => s.modNoz n i fun z => { z with res := v, dis := 0 }
  match r1, r2 with
  | some a, some b =>
    if s.agree a b then
      let v := min 0xFFFE ((a + b) / 20)
      let s := (store s v).count 0x15 n 1
      let cls := s.classOf v (s.f (HLTH_n_RMED_MEDIAN n))
      let limits := s.classOf v v
      let s := if limits < 2 then s.modTh n fun h => { h with results := v :: h.results } else s
      if s.st = DAWN then s
      else
        let s := s.classify n i cls
        if mapClass (s.nozzle n i).bg < 2 then s.modTh n fun h => { h with goods := v :: h.goods } else s
    else
      let s := (s.addF (HLTH_n_DISAGREE_COUNT n) 1).modNoz n i fun z => { z with dis := min 3 (z.dis + 1) }
      if (s.nozzle n i).dis = 3 && decide (mapClass (s.nozzle n i).bg < 2) then s.classify n i 1 else s
  | _, _ =>
    let s := (store s 0xFFFF).count 0x15 n 1
    if s.st = DAWN then s else s.classify n i 2

/-! ### Bypass (R214 to R216) -/

/-- The columns of a bypassed tile that nothing can print: FIRST and COUNT (R216). -/
def State.unprint (s : State) (n : Nat) : Nat × Nat :=
  let first := match s.leftOf? n with
    | some l => if s.bypassed l && n < l then 0 else 32
    | none => 0
  let last := match s.rightOf? n with
    | some r => if s.bypassed r && n < r then 1024 else 992
    | none => 1024
  (first, last - first)

/-- UNPRINT of a bypassed tile set. -/
def State.setUnprint (s : State) (n : Nat) : State :=
  if s.bypassed n then s.setFields [(HLTH_n_UNPRINT_FIRST n, (s.unprint n).1), (HLTH_n_UNPRINT_COUNT n, (s.unprint n).2)] else s

/-- A tile is bypassed: its fuse is open, its lane idle, its neighbours print their whole overlaps (R215, R216). -/
def State.bypassTile (s : State) (n : Nat) : State :=
  let s := (s.fuseOpen n).setF (HLTH_n_STATUS_BYPASSED n) 1
  let s := match (s.th n).engine with
    | some e => s.setFields [(LANE_e_STATUS_IN_USE e, 0), (LANE_e_STATUS_TILE e, 0x7F)]
    | none => s
  let s := s.modTh n fun h => { h with bypassReq := false, dead := true, moveTo := none, waitSpare := false, rollWait := false }
  let s := s.raiseLane (tileDie n) kHLTH_TILE_BYPASS n
  let s := s.setUnprint n
  let s := match s.leftOf? n with
    | some l => s.setUnprint l
    | none => s
  match s.rightOf? n with
  | some r => s.setUnprint r
  | none => s

/-! ### Lane engines and spares (R217 to R220) -/

/-- The lane die of a lane engine, and the engine's number on it: 0–23 its lanes, 24–25 its spares (R11, R219). -/
def engineDie (e : Nat) : Nat := if e < 96 then e / 24 else (e - 96) / 2
def engineIdx (e : Nat) : Nat := if e < 96 then e % 24 else 24 + (e - 96) % 2

/-- A bit of a field set or cleared. -/
def State.setBit (s : State) (fd : Field) (k : Nat) (b : Bool) : State :=
  s.setF fd (if bit (s.f fd) k then (if b then s.f fd else s.f fd - 2 ^ k) else (if b then s.f fd + 2 ^ k else s.f fd))

/-- The engine connected to a tile (R12): the crossbar, LANE_e_STATUS and HLTH_n_STATUS.ENGINE agree. -/
def State.connect (s : State) (n e : Nat) : State :=
  let s := match (s.th n).engine with
    | some o => s.setFields [(LANE_e_STATUS_IN_USE o, 0), (LANE_e_STATUS_TILE o, 0x7F)]
    | none => s
  let s := match (s.th n).engine with
    | some o => if 96 ≤ o then s.setBit HLTH_SPARES_USED (o - 96) false else s
    | none => s
  let s := s.setFields [(LANE_e_STATUS_IN_USE e, 1), (LANE_e_STATUS_TILE e, n), (HLTH_n_STATUS_ENGINE n, engineIdx e)]
  let s := if 96 ≤ e then s.setBit HLTH_SPARES_USED (e - 96) true else s
  s.modTh n fun h => { h with engine := some e }

/-- The tile a lane engine serves. -/
def State.tileOf? (s : State) (e : Nat) : Option Nat :=
  if s.f (LANE_e_STATUS_TILE e) < 96 then some (s.f (LANE_e_STATUS_TILE e)) else none

/-- The free spares of a lane die: working, serving no tile, and not promised to a move (R218). -/
def State.freeSpares (s : State) (d : Nat) : List Nat :=
  [96 + 2 * d, 97 + 2 * d].filter fun e =>
    !s.fb (LANE_e_STATUS_FAILED e) && !s.fb (LANE_e_STATUS_IN_USE e) && s.tileH.all fun x => x.2.moveTo != some e

/-- A lane engine fails: HLTH_LANE_FAIL, and its tile fires no further cycle in its document and waits for a spare
(R217, R218). -/
def State.failEngine (s : State) (e : Nat) : State :=
  let d := engineDie e
  let s := s.setF (LANE_e_STATUS_FAILED e) 1
  let s := if 96 ≤ e then s.setBit HLTH_SPARES_FAILED (e - 96) true else s
  let s := s.raiseLane d kHLTH_LANE_FAIL (d + engineIdx e * 4)
  match s.tileOf? e with
  | some n => s.modTh n fun h => { h with waitSpare := true }
  | none => s

/-- At a gap: the tiles of a list that wait for a spare are served in ascending order; one left without a spare is
handled under R214 (R218). -/
def State.serveSpares (s : State) (tiles : List Nat) : State :=
  tiles.foldl (fun s n =>
    if (s.th n).waitSpare then
      match s.freeSpares (tileDie n) with
      | e :: _ => s.modTh n fun h => { h with waitSpare := false, moveTo := some e }
      | [] =>
        let s := s.modTh n fun h => { h with waitSpare := false, dead := true }
        if s.bypassOk n then s.modTh n fun h => { h with bypassReq := true }
        else s.raiseLane (tileDie n) kHLTH_NO_SPARE n
    else s) s

/-- At a gap: a roll moves the tile's lane to a free spare, and a passed test moves it back (R220). -/
def State.serveRolls (s : State) (tiles : List Nat) : State :=
  tiles.foldl (fun s n =>
    if (s.th n).moveBack then s.modTh n fun h => { h with moveTo := some n, moveBack := false }
    else if (s.th n).rollWait then
      match s.freeSpares (tileDie n) with
      | e :: _ => (s.modTh n fun h => { h with rollWait := false, moveTo := some e }).setF (HLTH_n_STATUS_UNDER_TEST n) 1
      | [] => s
    else s) s

end Sys2Proof.Machine
end

