-- ==== Sys2Proof/Machine/PowerOps.lean ====
section
/-!
DEFINITION. Shared operations of chapter 12: rails and fuses, the store's readiness, the budget broker's limits and the
source machine.
-/
namespace Sys2Proof.Machine

/-- One rail's state. -/
def State.rail (s : State) (q : Nat) : Rail := tget {} s.pwr.rails q

/-- One rail's state changed. -/
def State.modRail (s : State) (q : Nat) (g : Rail → Rail) : State :=
  { s with pwr := { s.pwr with rails := tupd {} q g s.pwr.rails } }

/-- The setpoint of a quad rail under the armed image, if the rail is used (R63, R80, R345). -/
def State.setpoint? (s : State) (q : Nat) : Option Nat :=
  match s.cfg.armed with
  | some im =>
    if im.builtin then some 24000
    else match im.quads[q]? with
      | some r => if r.used then some r.vppMv else none
      | none => none
  | none => none

/-- The tiles of a quad (R4). -/
def quadTiles (q : Nat) : List Nat := [4 * q, 4 * q + 1, 4 * q + 2, 4 * q + 3]

/-- Every fuse of the quad is open. -/
def State.fusesOpen (s : State) (q : Nat) : Bool := (quadTiles q).all fun n => !s.fb (TILE_n_STATUS_VPP_ON n)

/-- A rail begins its 1 V/ms ramp to a voltage in mV (R345). A rail shut off by a short stays off until Dawn (R346). -/
def State.rampRail (s : State) (q mv : Nat) : State :=
  if s.fb (PWR_q_RAIL_SHORT q) then s
  else
    let s := if mv = 0 then s else s.setF (PWR_q_RAIL_ON q) 1
    s.modRail q fun r => { r with target := mv, ramping := true, nextSlot := none }

/-- The rails ramp towards the setpoints of the armed image (R345); a rail whose tiles still hold VPP it must lose waits
for its fuses. -/
def State.startRails (s : State) : State :=
  (List.range 24).foldl (fun s q =>
    match s.setpoint? q with
    | some mv => if (s.rail q).target = mv && s.fb (PWR_q_RAIL_ON q) && !(s.rail q).ramping then
        s.modRail q fun r => { r with nextSlot := some 0, fuseDue := s.now } else s.rampRail q mv
    | none => if s.fb (PWR_q_RAIL_ON q) && s.fusesOpen q then s.rampRail q 0 else s) s

/-- Every rail ramps down (R54, R345). -/
def State.railsDown (s : State) : State :=
  (List.range 24).foldl (fun s q => if s.fb (PWR_q_RAIL_ON q) then s.rampRail q 0 else s) s

/-- Every rail stops at once (R345, Midnight). -/
def State.railsOff (s : State) : State :=
  (List.range 24).foldl (fun s q =>
    (s.setFields [(PWR_q_RAIL_ON q, 0), (PWR_q_RAIL_VPP_MV q, 0)]).modRail q fun _ => {}) s

/-- The variant's aggregate head budget in W (R1). -/
def State.headBudget (s : State) : Nat := if s.ident.variantA then 1600 else 2400

/-- The budget record in force: the armed image's, or the values of R351 without one. -/
def State.budget (s : State) : Budget :=
  match s.cfg.armed with
  | some im => if im.builtin then { headPm := 400, motorPm := 200, logicPm := 300, headCapW := s.headBudget, motorCapW := 750, rtW := 1000, eveHeadW := 400 } else im.budget
  | none => { headPm := 400, motorPm := 200, logicPm := 300, headCapW := s.headBudget, motorCapW := 750, rtW := 1000, eveHeadW := 400 }

/-- P_rated in W at a line voltage in 0.1 V, the lines of R344 rounded down (log entry 16). -/
def ratedW (v : Nat) : Nat :=
  if v < 850 || 2650 < v then Config.ratedOutside v
  else if v < 1000 then 1300 + 350 * (v - 850) / 150
  else if v ≤ 1320 then 1650
  else if v < 2000 then 1650 + 1650 * (v - 1320) / 680
  else 3300

/-- E_dusk in J: 2 s × (320 W + P_sled) + 200 J (R349). -/
def duskReserve (im : Option Image) : Nat :=
  match im with
  | some im =>
    if im.builtin then 840
    else match im.axes.find? (fun a => a.role == 4) with
      | some a => 2 * (320 + a.pwrW) + 200
      | none => 840
  | none => 840

/-- Whether the store converter can discharge (R58, R364, R402). -/
def State.storeCan (s : State) : Bool := !s.pwr.storeStop && !s.pwr.storeHalt

/-- HOLDUP_READY: the store holds at least the Dusk reserve and its converter can discharge (R58). -/
def State.updHoldup (s : State) : State :=
  let r := s.storeCan && decide (s.f PWR_STORE_DUSK_J ≤ s.f PWR_STORE_E_J)
  (s.setFb SYS_STATE_HOLDUP_READY r).setFb PWR_STORE_READY r

/-- The planning line rate, 1,000 to 120,000 lines/s (R366). -/
def State.planRate (s : State) : Nat := max 1000 (min 120000 (s.f PWR_PLAN_RATE))

/-- The account's cap in µJ: P_H × BURST_MS (R354). -/
def State.acctCap (s : State) : Int := s.f PWR_LIMITS_P_H_W * (max 1 (s.f PWR_PLAN_BURST_MS)) * 1000

/-- The head energy account set, and shown in mJ (R354). -/
def State.setAcct (s : State) (uj : Int) : State :=
  ({ s with pwr := { s.pwr with acctUj := uj } }).setFs PWR_ACCT_ACCT_MJ (uj / 1000)

/-- The source machine enters a state (R359). -/
def State.setSrc (s : State) (st : Nat) : State := s.setF PWR_SRC_STATE st

/-- Mains presence and qualification are lost (R343). -/
def State.mainsGone (s : State) : State :=
  ({ s with pwr := { s.pwr with mainsAt := none } }).setFields [(PWR_SRC_MAINS_PRESENT, 0), (PWR_SRC_MAINS_QUAL, 0)]

end Sys2Proof.Machine
end

