-- ==== Sys2Proof/Machine/PulseOps.lean ====
section
/-!
DEFINITION. Shared operations of chapter 06: the temperature bin, the base width, the sensed VPP, the decay count, the
width code, and the planning energy.
-/
namespace Sys2Proof.Machine

/-- Quotient rounded to the nearest, ties away from zero (R177, R183). -/
def roundAway (a : Int) (b : Nat) : Int :=
  if 0 ≤ a then (2 * a + b) / (2 * b) else -((2 * -a + b) / (2 * b))

/-- The bin of a reading in 0.1 °C (R175). -/
def tempBin (x : Int) : Nat := (clamp 0 63 ((2 * (x - 50)) / 25)).toNat

/-- The bin after a reading, with the hysteresis of R175: the reading lies in another bin and at least 0.25 °C from the
nearest boundary of the current one. -/
def nextBin (known : Bool) (cur : Nat) (x : Int) : Nat :=
  let b := tempBin x
  if !known then b
  else if b = cur then cur
  else if cur < b then (if 625 + 125 * (cur : Int) + 25 ≤ 10 * x then b else cur)
  else (if 10 * x + 25 ≤ 500 + 125 * (cur : Int) then b else cur)

/-- A valid reading of a tile reaches the shaper (R175); in Dawn none does, since the first reading after Dawn takes its
bin directly. -/
def State.takeBin (s : State) (n : Nat) : State :=
  match s.temp? n with
  | some x =>
    if s.st = DAWN then s
    else (s.setF (PULSE_n_STATUS_BIN n) (nextBin (s.th n).binKnown (s.f (PULSE_n_STATUS_BIN n)) x)).modTh n fun h =>
      { h with binKnown := true }
  | none => s

/-- The energy table of a tile's plane in force (R174). -/
def State.energy? (s : State) (n : Nat) : Option Energy :=
  match s.tileRec? n with
  | some r => s.energyOf? r.docwin r.plane
  | none => none

/-- W_V of R176 and R177 at a sensed voltage in mV. -/
def widthAt (e : Energy) (bin rank wear : Nat) (v : Nat) : Int :=
  let wr : Int := (e.base.getD bin 0 : Nat) + e.ranks.getD rank 0 + wear
  let vc : Int := clamp (3 * e.vref / 4 : Nat) (5 * e.vref / 4 : Nat) v
  wr + roundAway (wr * e.vcoef * (e.vref - vc)) (4096 * e.vref)

/-- The base width and whether it was clamped (R178). -/
def baseWidth (e : Energy) (bin rank wear : Nat) (v : Nat) : Nat × Bool :=
  let w := widthAt e bin rank wear v
  let c := clamp (2000 + 32 * e.stepPs : Nat) (65535 - 31 * (e.stepPs : Int)) w
  (c.toNat, c != w)

/-- The valid VPP reports whose EOP lies in (t − 8 µs, t] (R179). -/
def State.vppWindow (s : State) (n : Nat) : List Nat :=
  ((s.port n).vpp.filter fun e => s.now < e.1 + us 8 && e.1 ≤ s.now).map (·.2)

/-- The sensed VPP at a header, and the change of source it may bring (R179). -/
def State.senseVpp (s : State) (n : Nat) : State × Nat :=
  let w := s.vppWindow n
  if s.fb (PULSE_n_STATUS_VSRC n) && decide (8 ≤ (s.th n).validRun) || (!s.fb (PULSE_n_STATUS_VSRC n) && !w.isEmpty) then
    if w.isEmpty then (s, s.f (PWR_q_RAIL_VPP_MV (n / 4)))
    else (s.setF (PULSE_n_STATUS_VSRC n) 0, w.sum / w.length)
  else
    let s' := if s.fb (PULSE_n_STATUS_VSRC n) then s
      else (((s.setF (PULSE_n_STATUS_VSRC n) 1).setF (PULSE_n_STATUS_VSENSE_LOST n) 1).modTh n fun h => { h with validRun := 0 }).raiseLane
        (tileDie n) kPULSE_VSENSE_LOST n
    (s', s.f (PWR_q_RAIL_VPP_MV (n / 4)))

/-- The decay count k from Δ in units of 250 ps: Δ / 8,333 ns to the nearest, ties up, within 1 to 64 (R181). -/
def decayCount (d : Nat) : Nat := max 1 (min 64 ((2 * d + 33332) / 66664))

/-- The decay factor M: DECAY applied k times, 0 for k = 64 (R181). -/
def decayFactor (decay k : Nat) : Nat := if 64 ≤ k then 0 else iter (fun m => m * decay / 65536) k 65536

/-- Δ of a tile now (R181). -/
def State.fireDelta (s : State) (n : Nat) : Nat :=
  match (s.fire.find? (fun e => e.1 == n)).map (·.2) with
  | some x =>
    match x.ev1, x.ev2 with
    | some a, some b => max (a - b) (s.now - a)
    | some a, none => s.now - a
    | _, _ => 64 * 33332
  | none => 64 * 33332

/-- What a nozzle's heat state decays to, the history term, and the code before and after its clamp (R182, R183). -/
def heatDecayed (heat m : Nat) : Nat := heat * m / 65536
def historyTerm (h : History) (en : Bool) (sdec : Nat) : Nat := if en then min h.limit (sdec * h.gain / 65536) else 0
def rawCode (tau : Int) (h step : Nat) : Int := roundAway (tau - h) step
def codeOf (raw : Int) : Int := clamp (-32) 31 raw

/-- W_plan: the base width at the rail's setpoint (R189). -/
def State.planWidth (s : State) (n : Nat) (e : Energy) (vpp : Nat) : Nat :=
  (baseWidth e (s.f (PULSE_n_STATUS_BIN n)) (s.th n).rank (s.th n).wear vpp).1

/-- c̄ as CODESUM and FIRED, or 31 when either has saturated, multiplied out: numerator and divisor (R189). -/
def State.meanCode (s : State) (n : Nat) : Int × Nat :=
  let f := s.f (PULSE_n_FIRED_FIRED n)
  let c := s.fs (PULSE_n_CODESUM_CODESUM n)
  if f = 0 then (0, 1)
  else if f = 2 ^ 32 - 1 || c = 2 ^ 31 - 1 || c = -(2 ^ 31 : Int) then (31, 1)
  else (if 0 ≤ c then c else 0, f)

/-- E_t in pJ, rounded up (R189): mV² × ps / mΩ is fJ; `none` while R_t is unknown. -/
def State.planEnergy? (s : State) (n : Nat) : Option Nat :=
  match s.energy? n, s.setpoint? (n / 4) with
  | some e, some vpp =>
    let rt := (s.th n).rt
    if rt = 0 then none
    else
      let (cn, cd) := s.meanCode n
      let num := vpp * vpp * ((e.prePs + s.planWidth n e vpp) * cd + cn.toNat * e.stepPs)
      some (ceilDiv num (rt * cd * 1000))
  | _, _ => none

/-- PULSE_q_EDROP of a quad: the largest E_t of its enabled tiles, at most the field's limit (R190; log entry 19). -/
def State.showEdrop (s : State) (q : Nat) : State :=
  let ts := (quadTiles q).filter fun n => s.enabled n
  if ts.isEmpty || ts.any (fun n => !(s.th n).eKnown) then s.setF (PULSE_q_EDROP_VALID q) 0
  else s.setFields [(PULSE_q_EDROP_VALID q, 1),
    (PULSE_q_EDROP_EDROP_PJ q, min 0xFFFFFF ((ts.map fun n => (s.th n).planned).foldl max 0))]

/-- The planning energies recomputed for the tiles of a window at its gap (R189, R190). -/
def State.planEnergies (s : State) (tiles : List Nat) : State :=
  let s := tiles.foldl (fun s n =>
    match s.planEnergy? n with
    | some e => (s.modTh n fun h => { h with planned := e, eKnown := true }).setF (PULSE_n_RMEAN_R_MOHM n) (s.th n).rt
    | none => (s.modTh n fun h => { h with eKnown := false }).setF (PULSE_n_RMEAN_R_MOHM n) 0) s
  (List.range 24).foldl (fun s q => s.showEdrop q) s

/-- At the end of Dawn the energy rank and the wear term are fixed (R176). -/
def State.fixRanks (s : State) : State :=
  (List.range 96).foldl (fun s n =>
    if s.fb (TILE_n_STATUS_FALLBACK n) then
      let r := 4 * s.f (TILE_n_RANK_CLASS n) + 3
      let w := min (s.f PULSE_FALLBACK_WEAR_CAP_PS) (s.f PULSE_FALLBACK_WEAR_PS * ((s.port n).useCount / 10 ^ 12))
      (s.modTh n fun h => { h with rank := r, wear := w, binKnown := false }).setFields
        [(PULSE_n_STATUS_RANK n, r), (PULSE_n_STATUS_FALLBACK n, 1)]
    else
      let r := s.f (TILE_n_RANK_ERANK n)
      (s.modTh n fun h => { h with rank := r, wear := 0, binKnown := false }).setFields
        [(PULSE_n_STATUS_RANK n, r), (PULSE_n_STATUS_FALLBACK n, 0)]) s

/-- The check at a document's end: clamps above SAT_LIMIT raise PULSE_CODE_SAT (R183); the counts of the document become
FIRED and CODESUM (R193, R253). -/
def State.endPulseDoc (s : State) (n : Nat) : State :=
  let h := s.th n
  let s := if s.f PULSE_CTRL_SAT_LIMIT < h.clamps then
      s.raiseLane (tileDie n) kPULSE_CODE_SAT (n + min h.clamps (2 ^ 25 - 1) * 128) else s
  let s := (s.setF (PULSE_n_FIRED_FIRED n) (sat 32 h.fired)).setFs (PULSE_n_CODESUM_CODESUM n)
    (clamp (-(2 ^ 31)) (2 ^ 31 - 1) h.codes)
  s.modTh n fun h => { h with clamps := 0, fired := 0, codes := 0, baseSatDoc := false }

end Sys2Proof.Machine
end

