-- ==== Sys2Proof/Machine/CompOps.lean ====
section
/-!
DEFINITION. Shared operations of chapter 08: form slots, composition records, rendering, line buffers, and the lane
pipeline that turns dots into packets.
-/
namespace Sys2Proof.Machine

/-- A byte of the form store (R454). -/
def State.formByte (s : State) (a : Nat) : Nat := (Sparse.get Config.formPowerOn s.mem.form a).toNat

/-- A byte as the composer reads it: 0 in a block with an uncorrectable error (R460). -/
def State.inkByte (s : State) (a : Nat) : Nat := if s.mem.eccBad.contains (a / 64) then 0 else s.formByte a

/-- `n` bytes of the form store. -/
def State.formBytes (s : State) (a n : Nat) : List Nat := Mem.getBytes Config.formPowerOn s.mem.form a n

/-- Bytes written to the form store. -/
def State.putForm (s : State) (a : Nat) (bs : List Nat) : State :=
  { s with mem := { s.mem with form := Mem.putBytes Config.formPowerOn a bs s.mem.form } }

/-- The 64-byte blocks of the form store that an access touches, counted by channel (R461). -/
def State.countForm (s : State) (a n : Nat) : State :=
  if n = 0 then s
  else (List.range ((a + n - 1) / 64 + 1 - a / 64)).foldl (fun s i => s.count 0x10 ((a / 64 + i) % 4) 1) s

def State.win (s : State) (w : Nat) : Win := tget {} s.wins w
def State.modWin (s : State) (w : Nat) (g : Win → Win) : State := { s with wins := tupd {} w g s.wins }
def State.fireT (s : State) (n : Nat) : FireT := tget {} s.fire n
def State.modFire (s : State) (n : Nat) (g : FireT → FireT) : State := { s with fire := tupd {} n g s.fire }
def State.lane (s : State) (e : Nat) : Lane := tget {} s.lanes e
def State.modLane (s : State) (e : Nat) (g : Lane → Lane) : State := { s with lanes := tupd {} e g s.lanes }

/-! ### Form slots (R224 to R227) -/

/-- The live slot that a handle names (R224): its generation must match. -/
def State.slot? (s : State) (h : Nat) : Option Slot :=
  match lookup? s.dma.slots (h % 2 ^ 24) with
  | some x => if x.live && x.gen == h / 2 ^ 24 && h != 0 then some x else none
  | none => none

/-- The slot that a handle of an accepted record names: live, or kept for it (R227). -/
def State.slotKept? (s : State) (h : Nat) : Option Slot :=
  match lookup? s.dma.slots (h % 2 ^ 24) with
  | some x => if (x.live || x.kept) && x.gen == h / 2 ^ 24 && h != 0 then some x else none
  | none => none

/-- A slot header (R225). -/
structure SlotHdr where
  format : Nat
  width : Nat
  height : Nat
  stride : Nat
  valid : Bool
deriving DecidableEq, Repr

/-- The header of a slot and whether it is valid for the slot's size (R225, R226). -/
def State.slotHdr (s : State) (x : Slot) : SlotHdr :=
  let b := s.formBytes x.base 64
  let f := byteAt b 0
  let w := leAt b 4 4
  let h := leAt b 8 4
  let st := leAt b 12 4
  let res := zeroAt b 1 3 && zeroAt b 16 48
  let ok := if f = 1 then decide (1 ≤ w ∧ w ≤ 65536 ∧ 1 ≤ h ∧ h ≤ 262144 ∧ ceilDiv w 4 ≤ st ∧ 64 + h * st ≤ x.size)
    else if f = 2 then decide (1 ≤ w ∧ w ≤ 65536 ∧ 1 ≤ h ∧ h ≤ 262144 ∧ w ≤ st ∧ 64 + h * st ≤ x.size)
    else if f = 3 then decide (1 ≤ w ∧ w ≤ 256 ∧ 1 ≤ h ∧ h ≤ 1024 ∧ st = 64 ∧ 64 + 1024 * h ≤ x.size)
    else false
  { format := f, width := w, height := h, stride := st, valid := res && ok && st % 64 == 0 }

/-- A DOT2 dot: `a` is the line's address, `x` the dot (R226). -/
def State.dot2 (s : State) (a x : Nat) : Nat := s.inkByte (a + x / 4) / 4 ^ (x % 4) % 4

/-! ### Records (R228 to R232) -/

/-- An item record from its 32 bytes (R229). -/
def parseItem (b : List Nat) : CmpItem :=
  let c : CmpItem := { kind := byteAt b 0, plane := byteAt b 1, op := byteAt b 2, screen := byteAt b 3, handle := leAt b 4 4,
                       x := sx 32 (leAt b 8 4), y := sx 32 (leAt b 12 4) }
  if c.kind = 1 then { c with srcX := leAt b 16 4, srcY := leAt b 20 4, w := leAt b 24 4, h := leAt b 28 4 }
  else if c.kind = 2 then
    { c with counter := byteAt b 16, digits := byteAt b 17, lz := bit (byteAt b 18) 0, pitch := leAt b 20 2 }
  else { c with fmt := byteAt b 16, offDays := sx 16 (leAt b 18 2), pitch := leAt b 20 2 }

/-- The reserved bytes of an item record hold 0 (R229). -/
def itemReserved (b : List Nat) : Bool :=
  if byteAt b 0 = 2 then decide (byteAt b 18 < 2) && byteAt b 19 == 0 && zeroAt b 22 10
  else if byteAt b 0 = 3 then byteAt b 17 == 0 && zeroAt b 22 10
  else true

/-- A record from its bytes (R228). -/
def parseRec (b : List Nat) (seq stream index : Nat) : CmpRec :=
  { seq, stream, index, win := byteAt b 1, tag := leAt b 16 4, lenValid := bit (byteAt b 2) 0, test := bit (byteAt b 2) 1,
    raw := bit (byteAt b 2) 2, nomask := bit (byteAt b 2) 3, maskset := byteAt b 6, len := leAt b 8 4, extent := leAt b 12 4,
    repeats := leAt b 20 2, bgs := (List.range 8).map fun p => leAt b (24 + 4 * p) 4,
    items := (List.range (leAt b 4 2)).map fun i => parseItem ((b.drop (64 + 32 * i)).take 32) }

/-- The enabled tiles of a window (R80). -/
def State.winTiles (s : State) (w : Nat) : List Nat :=
  match s.cfg.armed with
  | some im => (im.tiles.filter fun r => r.enable && r.docwin == w).map (·.tile)
  | none => []

/-- The enabled tiles of a window on a plane. -/
def State.planeTiles (s : State) (w p : Nat) : List TileRec :=
  match s.cfg.armed with
  | some im => im.tiles.filter fun r => r.enable && r.docwin == w && r.plane == p
  | none => []

/-- The first status code of R230 that a handle of wanted formats meets: 5, 6 or 7, or 0. -/
def State.handleCode (s : State) (h : Nat) (fmts : List Nat) : Nat :=
  match s.slot? h with
  | none => 5
  | some x => if !(s.slotHdr x).valid then 6 else if fmts.contains (s.slotHdr x).format then 0 else 7

/-- The status code of one item (R230). -/
def State.itemCode (s : State) (w : Nat) (it : CmpItem) (b : List Nat) : Nat :=
  let screenOk : Bool := match s.slot? it.handle, s.cfg.armed with
    | some x, some im => (s.slotHdr x).format != 2 || im.screens.any fun sc => sc.idx == it.screen
    | _, _ => true
  let gray : Bool := match s.slot? it.handle with
    | some x => it.kind == 1 && (s.slotHdr x).format == 2
    | none => true
  if !itemReserved b || (!gray && it.screen != 0) then 1
  else if it.kind = 0 || 3 < it.kind || 2 < it.op || 7 < it.plane || (s.planeTiles w it.plane).isEmpty then
    (let c := if it.kind = 1 || it.kind = 2 || it.kind = 3 then s.handleCode it.handle (if it.kind = 1 then [1, 2] else [3]) else 0
     if c = 0 then 8 else c)
  else
    let c := s.handleCode it.handle (if it.kind = 1 then [1, 2] else [3])
    if c != 0 then c
    else if it.kind = 1 && !screenOk then 9
    else if it.kind = 2 && (63 < it.counter || it.digits < 1 || 10 < it.digits || it.pitch < 1 || 1024 < it.pitch) then 10
    else if it.kind = 3 && (5 < it.fmt || it.pitch < 1 || 1024 < it.pitch) then 10
    else 0

/-- The first failing item of a record and its code, in item order (R230; log entry 20). -/
def firstItem (codes : List Nat) (i : Nat) : Nat × Nat :=
  match codes with
  | [] => (0, 0)
  | c :: r => if c = 0 then firstItem r (i + 1) else (c, i)

/-- The status code of a record of `dlen` bytes and its first failing item (R230): the header codes in ascending order,
then the items in order, then the queue. -/
def State.recordCode (s : State) (b : List Nat) (dlen : Nat) : Nat × Nat :=
  let r := parseRec b 0 0 0
  let items := leAt b 4 2
  let itb := fun i => (b.drop (64 + 32 * i)).take 32
  if byteAt b 0 != 1 || 15 < r.win || bits (leAt b 2 2) 15 4 != 0 || 1023 < items || 15 < r.maskset || byteAt b 7 != 0 ||
      leAt b 22 2 != 0 || leAt b 56 8 != 0 || !zeroAt b (64 + 32 * items) (dlen - (64 + 32 * items)) then (1, 0)
  else if (s.winTiles r.win).isEmpty || (match s.cfg.armed with | some im => im.builtin | none => true) then (2, 0)
  else if dlen != ceilDiv (64 + 32 * items) 64 * 64 then (3, 0)
  else if (r.lenValid && r.len == 0) || r.extent < 1 || 262144 < r.extent || r.repeats == 0 then (4, 0)
  else
    let bgc := (r.bgs.filter (· != 0)).map fun h => s.handleCode h [1]
    let bg := if bgc.contains 5 then 5 else if bgc.contains 6 then 6 else if bgc.contains 7 then 7 else 0
    if bg != 0 then (bg, 0)
    else if r.test && !r.nomask && (match s.cfg.armed with | some im => im.masks.all (fun m => m.idx != r.maskset) | none => true) then (11, 0)
    else
      let it := firstItem ((List.range items).map fun i => s.itemCode r.win (parseItem (itb i)) (itb i)) 0
      if it.1 != 0 then it
      else if 64 ≤ (s.win r.win).queue.length then (12, 0)
      else (0, 0)

/-- CMP_WIN_w_Q, _TAG and _REP show the queue (R258). -/
def State.showQueue (s : State) (w : Nat) : State :=
  let q := (s.win w).queue
  let ready := (s.comp.docs.filter fun d => d.rcd.win == w && d.stage == 2 && !d.opened).length
  s.setFields [(CMP_WIN_w_Q_QUEUED w, q.length), (CMP_WIN_w_Q_READY w, ready),
    (CMP_WIN_w_TAG_DOC_TAG w, (q.head?.map (·.tag)).getD 0),
    (CMP_WIN_w_REP_REMAIN w, (q.head?.map fun r => r.repeats - r.opened).getD 0)]

/-- A record that passes is queued to its window (R231); a refused one sets CMP_ERR and raises CMP_REFUSED (R230). The
answer is the status code. -/
def State.compose (s : State) (b : List Nat) (dlen stream index : Nat) : State × Nat :=
  let (code, item) := s.recordCode b dlen
  let r := parseRec b s.comp.nextRec stream index
  if code = 0 then
    let s := (s.modWin r.win fun x => { x with queue := x.queue ++ [r] })
    (({ s with comp := { s.comp with nextRec := s.comp.nextRec + 1 } }).showQueue r.win, 0)
  else
    let s := s.setFields [(CMP_ERR_CODE, code), (CMP_ERR_WIN, r.win), (CMP_ERR_ITEM, item), (CMP_ERR_TAG_DOC_TAG, r.tag)]
    (s.raise kCMP_REFUSED (code + r.win % 16 * 256), code)

/-! ### Dates (R238, R468) -/

/-- A leap year, counted from 2000 (R468). -/
def leap (y : Nat) : Bool := (2000 + y) % 4 == 0 && ((2000 + y) % 100 != 0 || (2000 + y) % 400 == 0)

/-- The length of a month (R468). -/
def monthLen (y m : Nat) : Nat :=
  if m = 2 then (if leap y then 29 else 28) else if m = 4 || m = 6 || m = 9 || m = 11 then 30 else 31

/-- The next day; none after 2399-12-31. -/
def nextDay : Option (Nat × Nat × Nat) → Option (Nat × Nat × Nat)
  | some (y, m, d) =>
    if d < monthLen y m then some (y, m, d + 1)
    else if m < 12 then some (y, m + 1, 1)
    else if y < 399 then some (y + 1, 1, 1) else none
  | none => none

/-- The day before; none before 2000-01-01. -/
def prevDay : Option (Nat × Nat × Nat) → Option (Nat × Nat × Nat)
  | some (y, m, d) =>
    if 1 < d then some (y, m, d - 1)
    else if 1 < m then some (y, m - 1, monthLen y (m - 1))
    else if 0 < y then some (y - 1, 12, 31) else none
  | none => none

/-- A date with days added; none outside the calendar's range (R238). -/
def addDays (d : Nat × Nat × Nat) (k : Int) : Option (Nat × Nat × Nat) :=
  if 0 ≤ k then iter nextDay k.toNat (some d) else iter prevDay (-k).toNat (some d)

/-- The last `n` decimal digits of a number, most significant first. -/
def digitsOf : Nat → Nat → List Nat
  | 0, _ => []
  | n + 1, v => v / 10 ^ n % 10 :: digitsOf n v

/-- The glyphs of a date item (R226, R238). -/
def dateGlyphs (fmt : Nat) (y m d hh mi : Nat) : List Nat :=
  let yy := digitsOf 4 (2000 + y)
  let y2 := digitsOf 2 y
  let mm := digitsOf 2 m
  let dd := digitsOf 2 d
  let hm := digitsOf 2 hh ++ [13] ++ digitsOf 2 mi
  match fmt with
  | 0 => yy ++ [10] ++ mm ++ [10] ++ dd
  | 1 => dd ++ [12] ++ mm ++ [12] ++ yy
  | 2 => dd ++ [11] ++ mm ++ [11] ++ y2
  | 3 => y2 ++ mm ++ dd
  | 4 => hm
  | _ => yy ++ [10] ++ mm ++ [10] ++ dd ++ [14] ++ hm

/-- The glyphs of a serial item (R236). -/
def serialGlyphs (digits : Nat) (lz : Bool) (v : Nat) : List Nat :=
  let ds := digitsOf digits v
  if lz then ds
  else
    let lead := (ds.takeWhile (· == 0)).length
    let lead := if lead = digits then digits - 1 else lead
    List.replicate lead 14 ++ ds.drop lead

/-! ### Rendering (R233 to R240) -/

/-- A rectangle an item lays down: an object's part of a form, or one glyph. -/
structure Stamp where
  x : Int
  y : Int
  w : Nat
  h : Nat
  gray : Bool
  addr : Nat
  stride : Nat
  srcX : Nat
  srcY : Nat
  screen : Option Screen
deriving DecidableEq, Repr

/-- The rectangles of an item, in order (R235, R236, R238). -/
def State.stamps (s : State) (d : RDoc) (it : CmpItem) : List Stamp :=
  match s.slotKept? it.handle with
  | none => []
  | some x =>
    let h := s.slotHdr x
    let glyph := fun (i g : Nat) =>
      ({ x := it.x + i * it.pitch, y := it.y, w := h.width, h := h.height, gray := false, stride := 64, srcX := 0, srcY := 0,
         addr := x.base + 64 + g * h.height * 64, screen := none } : Stamp)
    if !h.valid then []
    else if it.kind = 1 then
      let w := if h.width ≤ it.srcX then 0 else if it.w = 0 then h.width - it.srcX else min it.w (h.width - it.srcX)
      let hh := if h.height ≤ it.srcY then 0 else if it.h = 0 then h.height - it.srcY else min it.h (h.height - it.srcY)
      [{ x := it.x, y := it.y, w := w, h := hh, gray := h.format == 2, addr := x.base + 64, stride := h.stride,
         srcX := it.srcX, srcY := it.srcY,
         screen := match s.cfg.armed with
           | some im => im.screens.find? fun sc => sc.idx == it.screen
           | none => none }]
    else if it.kind = 2 then
      (serialGlyphs it.digits it.lz (((lookup? d.serials it.counter)).getD 0)).zipIdx.map fun (g, i) => glyph i g
    else
      match addDays (d.date.getD 0 0, d.date.getD 1 1, d.date.getD 2 1) it.offDays with
      | some (y, m, dd) => (dateGlyphs it.fmt y m dd (d.date.getD 3 0) (d.date.getD 4 0)).zipIdx.map fun (g, i) => glyph i g
      | none => []

/-- The dot value a rectangle has at a plane column and image line, if it covers it (R226, R235). -/
def State.stampDot (s : State) (st : Stamp) (col line : Nat) : Option Nat :=
  let dx := (col : Int) - st.x
  let dy := (line : Int) - st.y
  if 0 ≤ dx && dx < st.w && 0 ≤ dy && dy < st.h then
    let px := st.srcX + dx.toNat
    let a := st.addr + (st.srcY + dy.toNat) * st.stride
    if st.gray then
      let g := s.inkByte (a + px)
      match st.screen with
      | some sc =>
        let o := 3 * ((line % sc.h) * sc.w + col % sc.w)
        some (b2n (sc.thr.getD o 0 < g) + b2n (sc.thr.getD (o + 1) 0 < g) + b2n (sc.thr.getD (o + 2) 0 < g))
      | none => some 0
    else some (s.dot2 a px)
  else none

/-- An item dot meets the rendered dot (R233). -/
def meet (op d o : Nat) : Nat := if op = 0 then o else if op = 1 then max d o else if o ≠ 0 then 0 else d

/-- The rendered dot of a plane at a column and line: the background, then the items in order (R233). -/
def State.renderDot (s : State) (d : RDoc) (items : List (CmpItem × List Stamp)) (p col line : Nat) : Nat :=
  let bg := match s.slotKept? (d.rcd.bgs.getD p 0) with
    | some x =>
      let h := s.slotHdr x
      if h.valid && h.format == 1 && col < h.width && line < h.height then s.dot2 (x.base + 64 + line * h.stride) col else 0
    | none => 0
  items.foldl (fun v (it, sts) =>
    if it.plane = p then sts.foldl (fun v st =>
      match s.stampDot st col line with
      | some o => meet it.op v o
      | none => v) v else v) bg

/-- Whether a rectangle has dots outside the rendered area of its plane (R234). -/
def outside (tiles : List TileRec) (extent : Nat) (st : Stamp) : Bool :=
  st.w != 0 && st.h != 0 &&
  (decide (st.y < 0 ∨ (extent : Int) < st.y + st.h) ||
   (List.range st.w).any fun i => tiles.all fun r =>
     decide (st.x + i < r.colStart ∨ (r.colStart : Int) + 1024 ≤ st.x + i))

/-- The nonzero dots of a document, by tile, line and tile-local column (R233, R234). -/
def State.renderDots (s : State) (d : RDoc) : List (Nat × Nat) :=
  let items := d.rcd.items.map fun it => (it, s.stamps d it)
  match s.cfg.armed with
  | none => []
  | some im =>
    (im.tiles.filter fun r => r.enable && r.docwin == d.rcd.win).flatMap fun r =>
      (List.range d.rcd.extent).flatMap fun line =>
        (List.range 1024).filterMap fun c =>
          let v := s.renderDot d items r.plane (r.colStart + c) line
          if v = 0 then none else some (r.tile * 2 ^ 32 + line * 1024 + c, v)

/-- MAXDROP of the armed policy (R85). -/
def State.maxdrop (s : State) : Nat :=
  match s.cfg.armed with
  | some im => im.policy.maxdrop
  | none => 3

/-- The planned drops of each quad (R240). -/
def planOf (dots : List (Nat × Nat)) (maxdrop : Nat) : List Nat :=
  (List.range 24).map fun q => ((dots.filter fun e => e.1 / 2 ^ 32 / 4 == q).map fun e => min e.2 maxdrop).sum

/-- Work area in use and in all, in MiB (R239). -/
def State.waFree (s : State) : Nat :=
  let all := match s.cfg.armed with
    | some im => ((im.regions.filter fun r => r.kind == 2).map (·.sizeMib)).sum
    | none => 0
  all - (s.comp.docs.map (·.wa)).sum

/-- CMP_STATUS shows the free work area and the documents being rendered (R258). -/
def State.showComp (s : State) : State :=
  s.setFields [(CMP_STATUS_WA_FREE, sat 16 s.waFree), (CMP_STATUS_RENDERING, (s.comp.docs.filter (·.stage == 0)).length)]

/-- A document's entry changed. -/
def State.modDoc (s : State) (id : Nat) (g : RDoc → RDoc) : State :=
  { s with comp := { s.comp with docs := s.comp.docs.map fun d => if d.id = id then g d else d } }

/-- A document by its number. -/
def State.rdoc? (s : State) (id : Nat) : Option RDoc := s.comp.docs.find? fun d => d.id == id

/-- The value of a serial counter as a document reads it: LOW when it lies outside the range; HIGH is taken as LOW when it
is below it (R237). The truth value says that it was out of range. -/
def State.serialRead (s : State) (k : Nat) : Nat × Bool :=
  let lo := s.f (CMP_SER_k_LOW_LOW k)
  let hi := max lo (s.f (CMP_SER_k_HIGH_HIGH k))
  let v := s.f (CMP_SER_k_VALUE_VALUE k)
  if v < lo || hi < v then (lo, true) else (v, false)

/-- The advance of a counter after a document (R237), from the value the document rendered. -/
def State.serialAdvance (s : State) (k v : Nat) : State :=
  let lo := s.f (CMP_SER_k_LOW_LOW k)
  let hi := max lo (s.f (CMP_SER_k_HIGH_HIGH k))
  let r := v + max 1 (s.f (CMP_SER_k_STEP_STEP k))
  if hi < r then
    ((s.setF (CMP_SER_k_VALUE_VALUE k) (lo + (r - lo) % (hi - lo + 1))).setF (CMP_SER_k_STEP_WRAPPED k) 1).raise kCMP_SER_WRAP k
  else s.setF (CMP_SER_k_VALUE_VALUE k) r

/-- The counters a record names, each once (R237). -/
def recCounters (r : CmpRec) : List Nat := ((r.items.filter (·.kind == 2)).map (·.counter)).eraseDups

/-- The handles a record names. -/
def recHandles (r : CmpRec) : List Nat := (r.bgs.filter (· != 0)) ++ r.items.map (·.handle)

/-- Slots freed while records named them go once no accepted record still names them and awaits a rendering (R227). -/
def State.releaseKept (s : State) : State :=
  let names := (s.wins.flatMap fun e => (e.2.queue.filter fun r => r.started < r.repeats).flatMap recHandles) ++
    ((s.comp.docs.filter (·.stage == 0)).flatMap fun d => recHandles d.rcd)
  { s with dma := { s.dma with slots := s.dma.slots.map fun e =>
      if e.2.kept && !names.contains (e.2.gen * 2 ^ 24 + e.1) then
        (e.1, { e.2 with kept := false, gen := if e.2.gen = 255 then 1 else e.2.gen + 1 }) else e } }

/-! ### Line buffers (R241 to R245) -/

/-- The 256 bytes of a document's image line in a tile's band; blank at or beyond EXTENT (R242, R243). -/
def lineBytes (d : RDoc) (n j : Nat) : List Nat :=
  let key := fun c => n * 2 ^ 32 + j * 1024 + c
  let v := fun c => if d.rcd.extent ≤ j then 0 else (lookup? d.dots (key c)).getD 0
  (List.range 256).map fun b => v (4 * b) + 4 * v (4 * b + 1) + 16 * v (4 * b + 2) + 64 * v (4 * b + 3)

/-- A complete line written into its slot of a lane's buffer (R242). A bank that is not on discards it and counts the
access (R458). -/
def State.writeLine (s : State) (e j : Nat) (bs : List Nat) : State :=
  if s.f (MEM_LBANK_e_LINE e) != 0 then s.addF MEM_STATUS_SLEEP_ACC 1
  else s.modLane e fun l => { l with buf := Mem.putBytes (fun _ => 0) (j % 128 * 256) bs l.buf,
                                     bufLines := insertKey (j % 128) (j + 1) l.bufLines }

/-- Whether a lane's buffer holds image line `j` complete. -/
def lineReady (l : Lane) (j : Nat) : Bool := (lookup? l.bufLines (j % 128)) == some (j + 1)

/-- The dot value at a column of a line in a lane's buffer (R242). -/
def bufDot (l : Lane) (j c : Nat) : Nat := (Sparse.get (fun _ => 0) l.buf (j % 128 * 256 + c / 4)).toNat / 4 ^ (c % 4) % 4

/-- PREFILL within its limits (R258). -/
def State.prefill (s : State) : Nat := max 8 (min 127 (s.f CMP_CTRL_PREFILL))

/-! ### The lane pipeline (R247 to R253) -/

/-- What a cycle's stages have in common. -/
structure CycleCtx where
  n : Nat
  f : Nat
  doc : Doc
  shuttle : Bool
  pass : Nat
  passes : Nat
  adv : Int
  mask : Option MaskSet
  policy : RowPolicy
  first : Nat
  count : Nat
deriving DecidableEq, Repr

/-- The mask bit of plane `k` at column c, line ℓ (R85). -/
def maskBit (m : MaskSet) (k c l : Nat) : Bool := bit (m.bits.getD (k * 512 + l % 64 * 8 + c % 64 / 8) 0) (c % 8)

/-- The usable rows of a dot (R208, R167). -/
def State.usable (s : State) (x : CycleCtx) (c l : Nat) : List Nat :=
  if x.doc.test && x.doc.raw then List.range 12
  else
    let rows := s.usableRows x.n c
    match x.mask with
    | some m => if m.kind = 0 then rows.filter fun r => decide (r < m.planes) && maskBit m r c l else rows
    | none => rows

/-- The drops of a dot that fall to the cycle's pass, and those that find no pass at all (R165, R167, R168). -/
def passShare (x : CycleCtx) (c l v : Nat) : Nat × Nat :=
  if !x.shuttle then (v, 0)
  else
    match x.mask with
    | some m =>
      if m.kind = 1 then
        let order := ((List.range x.passes).map fun i => (l + c + i) % x.passes).filter fun p => decide (p < m.planes) && maskBit m p c l
        if order.isEmpty then (0, if x.pass = 0 then v else 0)
        else (((List.range v).filter fun k => order.getD (k % order.length) 0 == x.pass).length, 0)
      else (((List.range v).filter fun k => (l + c + k) % x.passes == x.pass).length, 0)
    | none => (((List.range v).filter fun k => (l + c + k) % x.passes == x.pass).length, 0)

/-- Rows from a list by rotation: `v` rows from the start `s` (R209). -/
def rotatePick (rows : List Nat) (rotate l v : Nat) : List Nat :=
  let n := rows.length
  let st := if rotate = 0 && n != 0 then l % n else 0
  (List.range (min v n)).map fun k => rows.getD ((st + k) % n) 0

/-- The rows ASSIGN chooses for a dot (R209, R210). -/
def State.chosenRows (s : State) (x : CycleCtx) (c l v : Nat) (rows : List Nat) : List Nat :=
  if x.policy.drift = 1 then
    let good := rows.filter fun r => mapClass (s.nozzle x.n (1024 * r + c)).fg == 0
    let drifting := rows.filter fun r => mapClass (s.nozzle x.n (1024 * r + c)).fg != 0
    if v ≤ good.length then rotatePick good x.policy.rotate l v
    else good ++ drifting.take (v - good.length)
  else rotatePick rows x.policy.rotate l v

/-- One nozzle-event through FETCH to MASK (R249 to R252): whether it fires, and the drops it counts as lost to a mask and
lost otherwise. -/
def State.event (s : State) (x : CycleCtx) (l : Lane) (r c : Nat) : Bool × Nat × Nat :=
  let j : Int := sx 32 (x.f + 2 ^ 32 * 2 - x.doc.s - 8 * r)
  let jn := j.toNat
  let inEnd := match x.doc.jEnd with
    | some e => decide (j ≤ e)
    | none => true
  if decide (j < 0) || !inEnd then (false, 0, 0)
  else if s.bypassed x.n || (decide (x.first ≤ c ∧ c < x.first + x.count)) then (false, 0, 0)
  else if !s.prints x.n c then (false, 0, 0)
  else if x.doc.fixed then
    let a := 96 * r + 12 * (c % 8)
    let hit := decide (a ≤ jn ∧ jn < a + 8)
    if hit && mapClass (s.nozzle x.n (1024 * r + c)).bg == 3 then (false, 0, 1) else (hit, 0, 0)
  else
    let v := min (bufDot l jn c) x.policy.maxdrop
    let (vp, lost) := passShare x c jn v
    let rows := s.usable x c jn
    let ln := if x.shuttle then (jn + x.adv).toNat else jn
    let short := if r = 0 then vp - rows.length + lost else 0
    let ml := if x.mask.isSome then short else 0
    let dl := if x.mask.isSome then 0 else short
    if (s.chosenRows x c ln vp rows).contains r then
      if mapClass (s.nozzle x.n (1024 * r + c)).bg == 3 then (false, ml, dl + 1) else (true, ml, dl)
    else (false, ml, dl)

/-- What the stages of one cycle have gathered so far. -/
structure CycleAcc where
  entries : List (Nat × Nat) := []
  maskLoss : Nat := 0
  dropLoss : Nat := 0
  clamps : Nat := 0
  fired : Nat := 0
  codes : Int := 0
deriving DecidableEq, Repr

/-- One nozzle-event through all stages (R180 to R185, R252, R253): the state takes the nozzle's new heat state. -/
def State.eventAll (x : CycleCtx) (l : Lane) (h : History) (en : Bool) (m step : Nat) (sa : State × CycleAcc) (k : Nat) :
    State × CycleAcc :=
  let s := sa.1
  let a := sa.2
  let c := k / 12
  let r := k % 12
  let i := 1024 * r + c
  let ev := s.event x l r c
  let z := s.nozzle x.n i
  let sdec := heatDecayed z.heat m
  let raw := rawCode z.tau (historyTerm h en sdec) step
  let code := codeOf raw
  let heat := if ev.1 then min 65535 (sdec + h.heat) else sdec
  let a := { a with maskLoss := a.maskLoss + ev.2.1, dropLoss := a.dropLoss + ev.2.2, clamps := a.clamps + b2n (raw != code) }
  (if heat = z.heat then s else s.modNoz x.n i fun z => { z with heat := heat },
   if ev.1 then { a with entries := (i, 64 + wrap 6 code) :: a.entries, fired := a.fired + 1, codes := a.codes + code } else a)

/-- The nozzle-events of a cycle, in the order of R247: pair by pair, the twelve rows of a column in turn. -/
def State.eventSweep (s : State) (x : CycleCtx) (l : Lane) (h : History) (en : Bool) (m step : Nat) : State × CycleAcc :=
  (List.range 12288).foldl (State.eventAll x l h en m step) (s, {})

end Sys2Proof.Machine
end

