-- ==== Sys2Proof/Machine/RingOps.lean ====
section
/-!
DEFINITION. Shared operations of chapters 09 and 10 that put packets, memory writes and interrupts on the ports.
-/
namespace Sys2Proof.Machine

/-! ### Sending on the ring (R297 to R299, R305) -/

/-- One ring port's state changed. -/
def State.modRingPort (s : State) (p : Nat) (g : RingPort → RingPort) : State :=
  { s with ring := { s.ring with ports := tupd {} p g s.ring.ports } }

/-- A port that may carry traffic: healthy, and not looped (R307, R308). -/
def State.portUp (s : State) (p : Nat) : Bool :=
  s.fb (RING_PORT_p_STATUS_UP p) && !s.fb (RING_PORT_p_STATUS_FAILED p) && !s.fb (RING_PORT_p_STATUS_LOOP p)

/-- A packet leaves a port, or loops into the other ring port of a wrapped engine (R308). -/
def State.ringOut (s : State) (port : Nat) (p : RingPkt) : State :=
  if s.portUp port then (s.emit (.ring port p)).count 0x11 (port + 4 * p.vc) 1
  else if port < 2 && s.fb (RING_PORT_p_STATUS_LOOP port) && s.portUp (1 - port) then
    (s.emit (.ring (1 - port) { p with looped := true })).count 0x11 (1 - port + 4 * p.vc) 1
  else s

/-- The next end-to-end sequence number on a virtual channel (R298). -/
def State.nextSeq (s : State) (vc : Nat) : State × Nat :=
  let q := (tget 0 s.ring.seqOut vc + 1) % 65536
  ({ s with ring := { s.ring with seqOut := tupd 0 vc (fun _ => q) s.ring.seqOut } }, q)

/-- A URG packet leaves a ring port; at the end of a line it goes no further (R299). -/
def State.urgOut (s : State) (port : Nat) (p : RingPkt) : State :=
  if s.portUp port then (s.emit (.ring port p)).count 0x11 (port + 4 * p.vc) 1 else s

/-- A URG packet of this engine, sent twice, East and West, and over its bridges (R299, R313). -/
def State.sendUrg (s : State) (p : RingPkt) : State :=
  let (s, q) := s.nextSeq 2
  let p := { p with vc := 2, src := s.eid, seq := q, dual := true }
  (((s.urgOut 0 p).urgOut 1 p).urgOut 2 p).urgOut 3 p

/-- A JOIN token leaves East alone (R300). -/
def State.sendJoin (s : State) (p : RingPkt) : State :=
  let (s, q) := s.nextSeq 2
  s.urgOut 0 { p with vc := 2, seq := q }

/-- The answer to a REQ (R297, R304): an RSP to its source, with its tag. -/
def State.sendRsp (s : State) (req : RingPkt) (type status : Nat) (data : List Nat) : State :=
  let (s, q) := s.nextSeq 1
  s.ringOut 0 { type, vc := 1, src := s.eid, dst := req.src, seq := q, rtag := req.rtag, status, addr := req.addr,
                len := data.length, payload := data }

/-- A REQ of this engine, outstanding until its RSP or for 48 µs (R305). -/
def State.sendReq (s : State) (p : RingPkt) (r : RingReq) : State :=
  let (s, q) := s.nextSeq 0
  let tag := s.ring.nextRtag
  let p := { p with vc := 0, src := s.eid, seq := q, rtag := tag }
  let s := { s with ring := { s.ring with nextRtag := (tag + 1) % 65536,
                                          reqs := s.ring.reqs ++ [{ r with rtag := tag, dst := p.dst, due := s.now + us 48, pkt := p }] } }
  s.ringOut 0 p

/-- Host memory lies behind ring position 0 for every other engine that holds a position (R306). -/
def State.viaRing (s : State) : Bool := s.fb RING_STATUS_POS_VALID && s.eid % 64 != 0

/-- The engine ID of ring position 0 (R300). -/
def State.pos0 (s : State) : Nat := s.eid / 64 * 64

/-! ### Host memory and interrupts (R260, R280, R306) -/

/-- The pieces of at most `k` bytes of a byte string, each with its offset. -/
def pieces (k : Nat) : Nat → Nat → List Nat → List (Nat × List Nat)
  | 0, _, _ => []
  | n + 1, o, bs => if bs.isEmpty then [] else (o, bs.take k) :: pieces k n (o + k) (bs.drop k)

/-- Bytes written to host memory: by the host port, or as HOST_WR packets of at most 256 bytes through position 0
(R306). -/
def State.hostWrite (s : State) (addr : Nat) (bs : List Nat) : State :=
  if s.viaRing then
    (pieces 256 (bs.length / 256 + 1) 0 bs).foldl (fun s (o, b) =>
      let p : RingPkt := { type := 6, vc := 0, src := 0, dst := s.pos0, addr := addr + o, len := b.length, payload := b }
      s.sendReq p { rtag := 0, dst := 0, kind := .hostWrite, due := 0, pkt := p }) s
  else s.emit (.hostWrite addr bs)

/-- A word of the MSI-X table; masked entries are the reset value (R260; log entry 5). -/
def State.msixWord (s : State) (k : Nat) : Word := tget (if k % 4 = 3 then 1 else 0) s.host.msixTable k

/-- A vector is signalled, or its pending bit is set while its entry is masked (R260). -/
def State.msix (s : State) (v : Nat) : State :=
  if (s.msixWord (4 * v + 3)).getLsbD 0 then
    { s with host := { s.host with msixPend := if s.host.msixPend.contains v then s.host.msixPend else v :: s.host.msixPend } }
  else if s.viaRing then
    s.hostWrite ((s.msixWord (4 * v)).toNat + 2 ^ 32 * (s.msixWord (4 * v + 1)).toNat) (toLe 4 (s.msixWord (4 * v + 2)).toNat)
  else s.emit (.msix v)

/-- The outstanding read limit L (R263). -/
def State.readLimit (s : State) : Nat :=
  let m := s.f DMA_CTRL_RD_MAX
  let m := if m = 0 then 1 else min 1024 m
  let l := match s.host.tags with
    | 0 => if s.host.phantom then 64 else 32
    | 1 => if s.host.phantom then 512 else 256
    | _ => if s.host.phantom then 1024 else 768
  min m l

/-- HOST_RD and HOST_LINK show the limit, the reads outstanding and the link (R263, R293). -/
def State.showHost (s : State) : State :=
  s.setFields [(HOST_RD_LIMIT, s.readLimit), (HOST_RD_OUT, (s.dma.reads.filter (·.retryAt.isNone)).length),
    (HOST_LINK_NOSNOOP, b2n s.host.noSnoop), (HOST_LINK_PHANTOM, b2n s.host.phantom), (HOST_LINK_TAGS, s.host.tags),
    (HOST_LINK_WIDTH, s.host.width), (HOST_LINK_SPEED, s.host.speed)]

/-- Another host read may be issued: the limit is not reached (R263). -/
def State.readRoom (s : State) : Bool := decide ((s.dma.reads.filter (·.retryAt.isNone)).length < s.readLimit)

/-- A host read is issued on PCIe; it times out after the completion timeout the host set (R37, R40). -/
def State.issueRead (s : State) (r : OutRead) : State :=
  let tag := s.dma.nextTag
  let r := { r with tag := tag, due := s.now + us s.host.ctoUs }
  let s := { s with dma := { s.dma with nextTag := tag + 1, reads := s.dma.reads ++ [r] } }
  (s.emit (.hostRead tag r.addr r.len)).showHost

/-- The waiting request that round-robin serves next: the lowest engine above the last served, in its arrival order
(R36, R306). -/
def nextMember (last : Nat) (q : List (Nat × Nat × Nat × Nat)) : Option (Nat × Nat × Nat × Nat) :=
  let srcs := sortNat (q.map (·.1)).eraseDups
  match srcs.find? (fun x => decide (last < x)), srcs.head? with
  | some e, _ => q.find? fun x => x.1 == e
  | none, some e => q.find? fun x => x.1 == e
  | none, none => none

/-- The host reads that other engines ask for are issued while the limit leaves room (R263, R306); `n` bounds their number. -/
def State.pumpMembers (s : State) : Nat → State
  | 0 => s
  | n + 1 =>
    if !s.readRoom then s
    else match nextMember s.ring.hostLast s.ring.hostQ with
      | some x =>
        let s := { s with ring := { s.ring with hostQ := s.ring.hostQ.erase x, hostLast := x.1 } }
        (s.issueRead { tag := 0, kind := .member, addr := x.2.2.1, len := x.2.2.2, reqSrc := x.1, reqTag := x.2.1 }).pumpMembers n
      | none => s

/-- A host read for this engine's own use: on PCIe, or as HOST_RD through position 0 (R306). -/
def State.hostRead (s : State) (r : OutRead) : State :=
  if s.viaRing then
    let p : RingPkt := { type := 5, vc := 0, src := 0, dst := s.pos0, addr := r.addr, len := r.len }
    s.sendReq p { rtag := 0, dst := 0, kind := .hostRead, due := 0, stream := r.stream,
                  side := match r.kind with
                    | .fetch => 2
                    | .barrier => 3
                    | _ => r.side,
                  off := r.off, pkt := p }
  else s.issueRead r

end Sys2Proof.Machine
end

