-- ==== Sys2Proof/Machine/DmaOps.lean ====
section
/-!
DEFINITION. Shared operations of chapter 09: streams, completion records, descriptors and their transfers.
-/
namespace Sys2Proof.Machine

/-- One stream's state, and that state changed. -/
def State.stream (s : State) (k : Nat) : Stream := tget {} s.dma.streams k
def State.modStream (s : State) (k : Nat) (g : Stream → Stream) : State :=
  { s with dma := { s.dma with streams := tupd {} k g s.dma.streams } }

/-- Ring and queue sizes of a stream (R265). -/
def State.sqSize (s : State) (k : Nat) : Nat := 2 ^ s.f (DMA_s_SIZE_SQ_LOG2 k)
def State.cqSize (s : State) (k : Nat) : Nat := 2 ^ s.f (DMA_s_SIZE_CQ_LOG2 k)

/-- Ring and queue bases (R265). -/
def State.sqBase (s : State) (k : Nat) : Nat := s.f (DMA_s_SQ_LO_BASE k) * 4096 + 2 ^ 32 * s.f (DMA_s_SQ_HI_BASE_HI k)
def State.cqBase (s : State) (k : Nat) : Nat := s.f (DMA_s_CQ_LO_BASE k) * 4096 + 2 ^ 32 * s.f (DMA_s_CQ_HI_BASE_HI k)

/-! ### Completion records (R282 to R285) -/

/-- A record whose first 28 bytes are given goes to the next place of the stream's queue (R282). -/
def State.putRecord (s : State) (k type : Nat) (bs : List Nat) (irq : Bool) : State :=
  let tail := s.f (DMA_s_CQ_TAIL_TAIL k)
  let ph := s.f (DMA_s_CQ_TAIL_PHASE k)
  let s := s.hostWrite (s.cqBase k + 32 * tail) (bs ++ toLe 4 (type * 2 ^ 16 + k * 16 + ph))
  let s := if tail + 1 = s.cqSize k then s.setFields [(DMA_s_CQ_TAIL_TAIL k, 0), (DMA_s_CQ_TAIL_PHASE k, 1 - ph)]
    else s.setF (DMA_s_CQ_TAIL_TAIL k) (tail + 1)
  let s := (s.setF (DMA_s_RESV_RESV k) (s.f (DMA_s_RESV_RESV k) - 1)).modStream k fun x => { x with used := x.used + 1 }
  if irq then s.msix (s.f (DMA_s_CTRL_VEC k)) else s

/-- A descriptor completion record (R283, R285). -/
def State.descRecord (s : State) (k tag index status detail result : Nat) (irq : Bool) : State :=
  let bs := toLe 4 tag ++ toLe 2 index ++ [status, detail] ++ toLe 8 result ++ toLe 8 s.sysTime ++ toLe 4 0
  (s.count 0x0C k 1).putRecord k 0 bs (irq || (status != 0 && s.fb (DMA_s_CTRL_ERR_IRQ k)))

/-- A document completion record (R284, R285); it is discarded when the stream's reservations are gone (R264, R287). -/
def State.docRecord (s : State) (k : Nat) (tag flags win status rep seq last engines skipped : Nat) : State :=
  if 4096 ≤ k then s
  else
    let bs := toLe 4 tag ++ toLe 2 rep ++ [status, win % 16 + flags * 16] ++ toLe 4 seq ++ toLe 4 last ++ toLe 8 s.sysTime ++
      toLe 4 (sat 16 skipped + engines * 65536)
    s.putRecord k 1 bs (s.fb (DMA_s_CTRL_DOC_IRQ k) || (status != 0 && s.fb (DMA_s_CTRL_ERR_IRQ k)))

/-- Records that may still be reserved (R267). -/
def State.cqFree (s : State) (k : Nat) : Nat := s.cqSize k - (s.stream k).used - s.f (DMA_s_RESV_RESV k)

/-! ### The staging pool (R265, R277) -/

/-- Whether a scratchpad bank is on (R458). -/
def State.spadOn (s : State) (b : Nat) : Bool :=
  (if b < 16 then s.f MEM_SPAD_LO_STATE / 4 ^ b % 4 else s.f MEM_SPAD_HI_STATE / 4 ^ (b - 16) % 4) == 0

/-- DMA_POOL shows the pool (R277). -/
def State.showPool (s : State) : State :=
  let total := 64 * ((List.range 16).filter fun b => s.spadOn b).length
  s.setFields [(DMA_POOL_TOTAL, total), (DMA_POOL_FREE, total - (s.dma.streams.map (·.2.units)).sum)]

/-- The fill of a stream's staging queue: bytes held and bytes requested (R277). -/
def State.fillBytes (s : State) (k : Nat) : Nat :=
  ((s.dma.reads.filter fun r => r.stream == k && r.kind != .member).map (·.len)).sum +
  match (s.stream k).exec with
  | some x => (x.data.map fun e => e.2.2.length).sum
  | none => 0

/-- FILL and PAUSED follow the fill (R277). -/
def State.showFill (s : State) (k : Nat) : State :=
  let f := s.fillBytes k
  let s := s.setF (DMA_s_STATUS_FILL k) (ceilDiv f 4096)
  if s.f (DMA_s_STAGE_HIGH k) * 4096 ≤ f then s.setF (DMA_s_STATUS_PAUSED k) 1 else s

/-- A stream is idle when no accepted descriptor is unfinished; one that is off then returns its units (R265). -/
def State.idleStream (s : State) (k : Nat) : State :=
  let s := s.setFb (DMA_s_STATUS_IDLE k) (s.stream k).exec.isNone
  if (s.stream k).exec.isNone && !s.fb (DMA_s_CTRL_EN k) then (s.modStream k fun x => { x with units := 0 }).showPool else s

/-! ### Descriptors (R269 to R275) -/

/-- The fields of a descriptor (R269). -/
structure Desc where
  op : Nat
  flags : Nat
  srcSpace : Nat
  dstSpace : Nat
  srcCirc : Nat
  dstCirc : Nat
  tag : Nat
  srcEid : Nat
  dstEid : Nat
  src : Nat
  dst : Nat
  len : Nat
  rows : Nat
  srcStride : Nat
  dstStride : Nat
  arg : Nat
  reserved : Nat
deriving DecidableEq, Repr

/-- A descriptor from its 64 bytes (R269). -/
def parseDesc (b : List Nat) : Desc :=
  { op := byteAt b 0, flags := byteAt b 1, srcSpace := byteAt b 2, dstSpace := byteAt b 3, srcCirc := byteAt b 4,
    dstCirc := byteAt b 5, tag := leAt b 8 4, srcEid := leAt b 12 2, dstEid := leAt b 14 2, src := leAt b 16 8,
    dst := leAt b 24 8, len := leAt b 32 4, rows := leAt b 36 4, srcStride := leAt b 40 4, dstStride := leAt b 44 4,
    arg := leAt b 48 8, reserved := byteAt b 1 / 4 + leAt b 6 2 + leAt b 56 8 }

def Desc.irq (d : Desc) : Bool := bit d.flags 1
def Desc.barrier (d : Desc) : Bool := bit d.flags 0

/-- Whether an opcode uses a source side, a destination side, and rows and strides (R270). -/
def Desc.usesSrc (d : Desc) : Bool := d.op == 1 || d.op == 2 || d.op == 4 || d.op == 16
def Desc.usesDst (d : Desc) : Bool := d.op == 1 || d.op == 2 || d.op == 3 || d.op == 4
def Desc.rowCount (d : Desc) : Nat := if d.op = 1 || d.op = 16 then 1 else max 1 d.rows

/-- Every field that the opcode does not use is 0 (R269, R270). -/
def Desc.unusedZero (d : Desc) : Bool :=
  (d.usesSrc || (d.srcSpace == 0 && d.srcCirc == 0 && d.srcEid == 0 && d.src == 0)) &&
  (d.usesDst || (d.dstSpace == 0 && d.dstCirc == 0 && d.dstEid == 0 && d.dst == 0)) &&
  (d.usesSrc || d.usesDst || d.len == 0) &&
  (d.op == 2 || d.op == 3 || d.op == 4 || d.rows == 0) &&
  (d.op == 2 || d.op == 4 || d.srcStride == 0) &&
  (d.op == 2 || d.op == 3 || d.op == 4 || d.dstStride == 0) &&
  (match d.op with
   | 3 => true
   | 16 => decide (d.arg < 2 ^ 16)
   | 17 => d.arg / 2 ^ 6 % 2 ^ 26 == 0
   | 18 => decide (d.arg < 2 ^ 32)
   | _ => d.arg == 0)

/-- One side of a transfer (R271, R273, R274). -/
structure Side where
  space : Nat
  circ : Nat
  eid : Nat
  addr : Nat
  stride : Nat
deriving DecidableEq, Repr

def Desc.srcSide (d : Desc) : Side := ⟨d.srcSpace, d.srcCirc, d.srcEid, d.src, d.srcStride⟩
def Desc.dstSide (d : Desc) : Side := ⟨d.dstSpace, d.dstCirc, d.dstEid, d.dst, d.dstStride⟩

/-- The sides an opcode uses. -/
def Desc.sides (d : Desc) : List Side := (if d.usesSrc then [d.srcSide] else []) ++ (if d.usesDst then [d.dstSide] else [])

/-- The bytes from a side's first to its last (R273). -/
def Desc.span (d : Desc) (x : Side) : Nat := (d.rowCount - 1) * x.stride + d.len

/-- The memory a side lies in, and its address there (R271, R275): 0 host memory, 1 the form store, 2 the staging window,
16 + an engine ID another engine's form store. -/
def State.sideMem (s : State) (x : Side) : Nat × Nat :=
  match x.space with
  | 5 => match s.slotKept? (x.addr / 2 ^ 32) with
    | some sl => (1, sl.base + x.addr % 2 ^ 32)
    | none => (1, 0)
  | 3 => if x.eid = s.eid && s.fb RING_STATUS_POS_VALID then (1, x.addr) else (16 + x.eid, x.addr)
  | p => (p, x.addr)

/-- A side lies within its space or slot (R271, R272). -/
def State.sideRange (s : State) (d : Desc) (x : Side) : Bool :=
  let sp := if x.circ = 0 then d.span x else 1
  match x.space with
  | 0 => decide (x.addr + sp ≤ 2 ^ 64)
  | 1 => decide (x.addr + sp ≤ 2 ^ 36)
  | 2 => decide (0x400000 ≤ x.addr ∧ x.addr + sp ≤ 0x800000)
  | 3 => decide (x.addr + sp ≤ 2 ^ 36)
  | 5 => match s.slot? (x.addr / 2 ^ 32) with
    | some sl => decide (x.addr % 2 ^ 32 + sp ≤ sl.size)
    | none => false
  | _ => false

/-- An engine of the ring can be reached: it holds a position, and no break splits the ring (R272, R305, R309). -/
def State.reachable (s : State) (e : Nat) : Bool :=
  s.fb RING_STATUS_POS_VALID && e / 64 == s.eid / 64 && decide (e % 64 < s.f RING_STATUS_ENGINES) &&
  (!s.fb RING_TOPO_SPLIT || e == s.eid)

/-- The circular side's checks of R272. -/
def Desc.circBad (d : Desc) (x : Side) : Bool :=
  x.circ != 0 && (x.circ < 12 || 40 < x.circ || decide (2 ^ x.circ < d.span x) || x.space == 2 || x.space == 5 ||
    ((x.space == 1 || x.space == 3) && decide (2 ^ 36 < x.addr / 2 ^ x.circ * 2 ^ x.circ + 2 ^ x.circ)))

/-- First and last byte of a side's span in its memory (R273, R274). -/
def State.spanOf (s : State) (d : Desc) (x : Side) : Nat × Nat × Nat :=
  let (m, a) := s.sideMem x
  if x.circ = 0 then (m, a, a + d.span x - 1)
  else (m, a / 2 ^ x.circ * 2 ^ x.circ, a / 2 ^ x.circ * 2 ^ x.circ + 2 ^ x.circ - 1)

/-- The two sides overlap (R275); COMPARE only reads. -/
def State.overlaps (s : State) (d : Desc) : Bool :=
  if d.op = 1 || d.op = 2 then
    let (m1, l1, h1) := s.spanOf d d.srcSide
    let (m2, l2, h2) := s.spanOf d d.dstSide
    m1 == m2 && decide (l1 ≤ h2 ∧ l2 ≤ h1)
  else false

/-- The records a descriptor needs (R267). -/
def Desc.need (d : Desc) : Nat := if d.op = 16 then 1 + d.arg % 2 ^ 16 else 1

/-- The status of the checks of R272, in their order; 0 when all pass. -/
def State.descStatus (s : State) (k : Nat) (d : Desc) : Nat :=
  let slots := d.sides.filter fun x => x.space == 5
  if s.cqSize k < d.need then 0x0C
  else if !([0, 1, 2, 3, 4, 16, 17, 18].contains d.op) || d.reserved != 0 || !d.unusedZero then 0x03
  else if (d.sides.any fun x => x.addr % 64 != 0 || x.stride % 64 != 0) || d.len % 64 != 0 ||
      (d.op == 17 && d.arg / 2 ^ 32 % 64 != 0) then 0x02
  else if (slots.any fun x => (s.slot? (x.addr / 2 ^ 32)).isNone) || (d.op == 18 && (s.slot? d.arg).isNone) then 0x08
  else if (d.op != 4 && d.usesDst && d.dstSpace == 5 && (match s.slot? (d.dst / 2 ^ 32) with | some x => x.owner != k | none => false)) ||
      (d.op == 18 && (match s.slot? d.arg with | some x => x.owner != k | none => false)) then 0x09
  else if (d.sides.any fun x => !([0, 1, 2, 3, 5].contains x.space) || !s.sideRange d x ||
        (1 < d.rowCount && x.stride < d.len)) || (d.op == 16 && d.srcSpace != 0) ||
      ((d.usesSrc || d.usesDst) && d.len == 0) || 16777216 < d.rows || (d.op == 17 && d.arg / 2 ^ 32 < 64) then 0x04
  else if d.sides.any fun x => x.space == 3 && !s.reachable x.eid then 0x0E
  else if d.sides.any d.circBad then 0x05
  else if s.overlaps d && (d.srcCirc != 0 || d.dstCirc != 0) then 0x06
  else if s.overlaps d && d.op == 2 && d.srcStride != d.dstStride then 0x07
  else 0

/-! ### Chunks (R268, R273, R274, R276) -/

/-- The address of linear offset `x` of a side (R274). -/
def sideAddr (base circ x : Nat) : Nat :=
  if circ = 0 then base + x
  else base / 2 ^ circ * 2 ^ circ + (base % 2 ^ circ + x) % 2 ^ circ

/-- The bytes to the end of a side's buffer, to the next 4 KiB boundary of host addresses, and to the end of a staging
bank (R263, R274, R458). -/
def sideRoom (mem base circ x : Nat) : Nat :=
  let a := sideAddr base circ x
  let r := if circ = 0 then 4096 else 2 ^ circ - a % 2 ^ circ
  if mem = 0 then min r (4096 - a % 4096) else if mem = 2 then min r (0x40000 - a % 0x40000) else r

/-- The largest chunk of a side: 4,096 bytes, the Max Read Request Size for host reads, 256 bytes on the ring (R263, R268,
R297). -/
def State.sideChunk (s : State) (mem : Nat) : Nat :=
  if 16 ≤ mem then 256 else if mem = 0 then (if s.viaRing then 256 else max 64 (min 4096 s.host.mrrs)) else 4096

/-- The chunks of one row from offset `o`, at most `fuel` of them. -/
def State.rowChunks (s : State) (d : Desc) (sm dm sb db row : Nat) : Nat → Nat → List Chunk
  | 0, _ => []
  | fuel + 1, o =>
    if d.len ≤ o then []
    else
      let xs := row * d.srcStride + o
      let xd := row * d.dstStride + o
      let n := min (d.len - o) (min (if d.usesSrc then min (s.sideChunk sm) (sideRoom sm sb d.srcCirc xs) else 4096)
        (if d.usesDst then min (s.sideChunk dm) (sideRoom dm db d.dstCirc xd) else 4096))
      { off := row * d.len + o, src := sideAddr sb d.srcCirc xs, dst := sideAddr db d.dstCirc xd, len := n } ::
        s.rowChunks d sm dm sb db row fuel (o + max 64 n)

/-- All chunks of a descriptor in the order of R276: descending when the destination overlaps above the source, none when
source and destination coincide. -/
def State.chunks (s : State) (d : Desc) (x : Exec) : List Chunk :=
  let up := (List.range d.rowCount).flatMap fun r => s.rowChunks d x.srcMem x.dstMem x.srcBase x.dstBase r (d.len / 64) 0
  if s.overlaps d then
    if x.srcBase < x.dstBase then up.reverse else if x.srcBase = x.dstBase then [] else up
  else up

/-! ### Local memories, as the DMA engine and BAR4 reach them -/

/-- `n` bytes of the staging window as it stands. -/
def State.stagingBytes (s : State) (o n : Nat) : List Nat := Mem.getBytes (fun _ => 0) s.mem.staging o n

/-- Bytes of a local memory: 1 the form store, 2 the staging window (R271). -/
def State.localBytes (s : State) (mem a n : Nat) : List Nat :=
  if mem = 2 then
    if s.spadOn (16 + (a - 0x400000) / 0x40000) then s.stagingBytes (a - 0x400000) n
    else List.replicate n 0
  else s.formBytes a n

/-- A write to the staging window; discarded with SYS_NOTE while a check or store is busy (R95), and discarded and counted
while its bank of 256 KiB is not on (R458). -/
def State.putStaging (s : State) (o : Nat) (bs : List Nat) : State :=
  if s.fb CFG_STATUS_BUSY then s.raise kSYS_NOTE (0x400000 + o)
  else if !s.spadOn (16 + o / 0x40000) then s.addF MEM_STATUS_SLEEP_ACC 1
  else { s with mem := { s.mem with staging := Mem.putBytes (fun _ => 0) o bs s.mem.staging } }

/-- The ring index of the descriptor a stream executes; 65,536 none. -/
def State.execIndex (s : State) (k : Nat) : Nat :=
  match (s.stream k).exec with
  | some x => x.index
  | none => 65536

/-- Bytes written to a memory: host, form store, staging window, or another engine's form store by FS_WR (R271, R297);
the answer also says how many acknowledgements are to come. -/
def State.putMem (s : State) (k mem a off : Nat) (bs : List Nat) : State × Nat :=
  match mem with
  | 0 => ((s.hostWrite a bs).count 0x0E k (bs.length / 64), 0)
  | 1 => ((s.putForm a bs).count 0x10 (a / 64 % 4) (bs.length / 64), 0)
  | 2 => (s.putStaging (a - 0x400000) bs, 0)
  | m =>
    ((pieces 256 (bs.length / 256 + 1) 0 bs).foldl (fun s (o, b) =>
      let p : RingPkt := { type := 4, vc := 0, src := 0, dst := m - 16, addr := a + o, len := b.length, payload := b }
      s.sendReq p { rtag := 0, dst := 0, kind := .chunkWrite, due := 0, stream := k, off := off, hostTag := s.execIndex k, pkt := p }) s,
      ceilDiv bs.length 256)

/-! ### Executing (R268, R276, R286) -/

/-- The executing descriptor of a stream changed. -/
def State.modExec (s : State) (k : Nat) (g : Exec → Exec) : State :=
  s.modStream k fun x => { x with exec := x.exec.map g }

/-- The descriptor is marked BAD: no further chunk is issued, and RESULT is the offset of the failing chunk; the first
error stands (R286). -/
def State.markBad (s : State) (k detail off : Nat) : State :=
  s.modExec k fun x => if x.status = 0 then { x with status := 1, detail := detail, result := off, todo := [] } else { x with todo := [] }

/-- A chunk whose data will not come is no longer awaited. -/
def State.dropFlying (s : State) (k off : Nat) : State :=
  s.modExec k fun x => { x with flying := x.flying.filter fun c => c.off != off }

/-- The first 64-byte block that differs, as an offset within the chunk (R270). -/
def firstDiff (a b : List Nat) (n : Nat) : Option Nat :=
  ((List.range (n / 64)).find? fun i => (a.drop (64 * i)).take 64 != (b.drop (64 * i)).take 64).map (64 * ·)

/-- A chunk's bytes on one side: gathered from outside, or read from a local memory now. -/
def State.chunkData (s : State) (x : Exec) (side : Nat) (c : Chunk) : Option (List Nat) :=
  let mem := if side = 0 then x.srcMem else x.dstMem
  let a := if side = 0 then c.src else c.dst
  if mem = 1 || mem = 2 then some (s.localBytes mem a c.len)
  else
    let ps := x.data.filter fun e => e.1 == side && c.off ≤ e.2.1 && e.2.1 < c.off + c.len
    if (ps.map fun e => e.2.2.length).sum = c.len then some (ps.flatMap fun e => e.2.2) else none

/-- A chunk whose data has come is written, or compared (R270). -/
def State.finishChunk (s : State) (k : Nat) (d : Desc) (x : Exec) (c : Chunk) : State :=
  let s := s.modExec k fun y =>
    { y with flying := y.flying.filter (fun z => z.off != c.off),
             data := if d.op = 16 then y.data else y.data.filter fun e => !(c.off ≤ e.2.1 && e.2.1 < c.off + c.len) }
  let s := s.tagDesc k 4 false
  if d.op = 4 then
    match s.chunkData x 0 c, s.chunkData x 1 c with
    | some a, some b =>
      match firstDiff a b c.len with
      | some o => s.modExec k fun y => { y with result := min y.result (c.off + o) }
      | none => s
    | _, _ => s
  else if d.op = 16 then s
  else
    match s.chunkData x 0 c with
    | some bs =>
      let (s, n) := s.putMem k x.dstMem c.dst c.off bs
      (s.modExec k fun y => { y with acks := y.acks + n }).tagDesc k 5 false
    | none => s

/-- Chunks are finished in the order of R276 as far as their data has come; `n` bounds their number. -/
def State.drain (s : State) (k : Nat) (d : Desc) : Nat → State
  | 0 => s
  | n + 1 =>
    match (s.stream k).exec with
    | some x =>
      match x.flying with
      | c :: _ =>
        let ready := (s.chunkData x 0 c).isSome && (d.op != 4 || (s.chunkData x 1 c).isSome)
        if ready then (s.finishChunk k d x c).drain k d n else s
      | [] => s
    | none => s

/-- The reads of one side of a chunk begin: from host memory, or another engine's form store (R263, R297). -/
def State.readSide (s : State) (k : Nat) (mem a off side len : Nat) : State :=
  if mem = 0 then (s.hostRead { tag := 0, kind := .chunk, stream := k, addr := a, len := len, side := side, off := off }).count 0x0D k (len / 64)
  else if 16 ≤ mem then
    let p : RingPkt := { type := 3, vc := 0, src := 0, dst := mem - 16, addr := a, len := len }
    s.sendReq p { rtag := 0, dst := 0, kind := .chunkRead, due := 0, stream := k, side := side, off := off, pkt := p }
  else s.count 0x10 (a / 64 % 4) (len / 64)

/-- Chunks begin in order while the staging queue and the read limit have room (R263, R277). -/
def State.pump (s : State) (k : Nat) (d : Desc) : Nat → State
  | 0 => s
  | n + 1 =>
    match (s.stream k).exec with
    | some x =>
      match x.todo with
      | c :: r =>
        let host := (d.usesSrc && x.srcMem == 0) || (d.op == 4 && x.dstMem == 0)
        if host && (s.fb (DMA_s_STATUS_PAUSED k) || !s.readRoom) then s
        else
          let s := s.modExec k fun y => { y with todo := r, flying := y.flying ++ [c] }
          let s := s.tagDesc k 3 true
          let s := if d.usesSrc then s.readSide k x.srcMem c.src c.off 0 c.len else s
          let s := if d.op = 4 then s.readSide k x.dstMem c.dst c.off 1 c.len else s
          ((s.drain k d 4).showFill k).pump k d n
      | [] => s
    | none => s

/-- The record of a COMPOSE is there: it is validated and queued, or refused (R230, R270, R272). A refused one gives back
the places reserved for its documents. -/
def State.composeRec (s : State) (k : Nat) (d : Desc) (x : Exec) : State :=
  let b := x.data.flatMap fun e => e.2.2
  let code := (s.recordCode b d.len).1
  let release := fun (s : State) => s.setF (DMA_s_RESV_RESV k) (s.f (DMA_s_RESV_RESV k) - d.arg)
  if code != 0 then
    let s := (s.compose b d.len k x.index).1
    (release s).modExec k fun y => { y with status := 0x0B, detail := code, done := true, data := [] }
  else if leAt b 20 2 != d.arg then (release s).modExec k fun y => { y with status := 0x0D, done := true, data := [] }
  else
    let s := (s.compose b d.len k x.index).1
    s.modExec k fun y => { y with done := true, data := [] }

/-- A transfer runs as far as it can: its chunks are formed at the first call, and it is done when none is left (R268). -/
def State.runTransfer (s : State) (k : Nat) : State :=
  match (s.stream k).exec with
  | some x =>
    let d := parseDesc x.bytes
    let s := if x.begun then s
      else s.modExec k fun y => { y with begun := true, todo := s.chunks d x, result := if d.op = 4 then 2 ^ 64 - 1 else 0 }
    let n := match (s.stream k).exec with
      | some y => y.todo.length + y.flying.length
      | none => 0
    let s := (s.drain k d n).pump k d n
    match (s.stream k).exec with
    | some y =>
      if y.todo.isEmpty && y.flying.isEmpty && !y.done then
        if d.op = 16 && y.status = 0 then s.composeRec k d y
        else if d.op = 16 then (s.setF (DMA_s_RESV_RESV k) (s.f (DMA_s_RESV_RESV k) - d.arg)).modExec k fun y => { y with done := true }
        else s.modExec k fun y => { y with done := true }
      else s
    | none => s
  | none => s

/-- Data of a chunk arrives (R276, R277): it enters the staging queue, and the transfer goes on. -/
def State.deliver (s : State) (k side off : Nat) (bs : List Nat) : State :=
  ((s.modExec k fun y => { y with data := y.data ++ [(side, off, bs)] }).runTransfer k).showFill k

/-- A chunk's read or write ended in an error (R286). -/
def State.chunkError (s : State) (k detail off : Nat) : State :=
  (((s.markBad k detail off).dropFlying k off).runTransfer k).showFill k

/-- FILL: the pattern's bytes for an offset within a row (R270). -/
def fillBytes8 (arg len : Nat) : List Nat := (List.range len).map fun i => arg / 256 ^ (i % 8) % 256

/-- A descriptor is refused under R272: its record is written and nothing is executed. -/
def State.refuse (s : State) (k index : Nat) (d : Desc) (status detail : Nat) : State :=
  ((s.descRecord k d.tag index status detail 0 d.irq).addF (DMA_s_ERRCNT_REFUSED k) 1).raise kDMA_REFUSED
    (k + index * 4096 + status % 16 * 2 ^ 28)

/-- R287: the stream stops fetching, and a FETCH record names the first unread descriptor. -/
def State.fetchFail (s : State) (k detail : Nat) : State :=
  let head := s.f (DMA_s_SQ_HEAD_HEAD k)
  let s := ((s.modStream k fun x => { x with fetching := false }).setF (DMA_s_STATUS_HALTED k) 1).showFill k
  let s := s.setF (DMA_s_RESV_RESV k) (s.f (DMA_s_RESV_RESV k) + 1)
  (s.descRecord k 0 head 0x0F detail 0 false).raise kDMA_FETCH k

/-- A host read of a stream has failed for good (R37, R38, R286, R287). -/
def State.readFail (s : State) (r : OutRead) (detail : Nat) : State :=
  let s := { s with dma := { s.dma with reads := s.dma.reads.filter fun x => x.tag != r.tag } }
  let s := (s.pumpMembers 1).showHost
  match r.kind with
  | .fetch => s.fetchFail r.stream detail
  | .chunk => s.chunkError r.stream detail r.off
  | .barrier => (s.markBad r.stream detail 0).modExec r.stream fun x => { x with acked := true }
  | .dropped => s
  | .member =>
    let q : RingPkt := { type := 5, vc := 0, src := r.reqSrc, rtag := r.reqTag, addr := r.addr }
    s.sendRsp q 0x10 1 []

/-- When the doorbell came that posted the `i`-th descriptor not yet read, and what is left after `n` are read (R466). -/
def bellOf : List (Nat × Nat) → Nat → Nat
  | [], _ => 0
  | (k, t) :: r, i => if i < k then t else bellOf r (i - k)
def dropBells : List (Nat × Nat) → Nat → List (Nat × Nat)
  | [], _ => []
  | (k, t) :: r, n => if n < k then (k - n, t) :: r else dropBells r (n - k)

/-- Fetched descriptors join those waiting to be accepted, and HEAD moves past them (R267). -/
def State.gotDescriptors (s : State) (k : Nat) (bs : List Nat) : State :=
  let head := s.f (DMA_s_SQ_HEAD_HEAD k)
  let n := bs.length / 64
  let bells := (s.stream k).bells
  let ds := (List.range n).map fun i =>
    ({ index := (head + i) % s.sqSize k, bytes := (bs.drop (64 * i)).take 64, bell := bellOf bells i,
       readAt := (s.stream k).readAt } : Fetched)
  let s := s.modStream k fun x => { x with fetching := false, fetched := x.fetched ++ ds, bells := dropBells bells n }
  (s.setF (DMA_s_SQ_HEAD_HEAD k) ((head + n) % s.sqSize k)).showFill k

/-! ### Form slots (R288, R289) -/

/-- The free ranges of a region, lowest first: its gaps between the slots it holds. -/
def slotFits (ranges : List (Nat × Nat)) (size lo hi : Nat) : Option Nat :=
  match ranges with
  | [] => if lo + size ≤ hi then some lo else none
  | (a, n) :: r => if lo + size ≤ a then some lo else slotFits r size (max lo (a + n)) hi

/-- The slots in a region in ascending order of address. -/
def State.slotRanges (s : State) (region : Nat) : List (Nat × Nat) :=
  let held := s.dma.slots.filter fun e => e.2.region == region && (e.2.live || e.2.kept)
  (sortNat (held.map fun e => e.2.base)).filterMap fun b => (held.find? fun e => e.2.base == b).map fun e => (b, e.2.size)

/-- The lowest slot index not in use (R288). -/
def lowestFree (used : List Nat) (n : Nat) : Nat := ((List.range n).find? fun i => !used.contains i).getD n

/-- DMA_SLOT.LIVE (R293). -/
def State.showSlots (s : State) : State := s.setF DMA_SLOT_LIVE ((s.dma.slots.filter (·.2.live)).length)

/-- SLOT_ALLOC (R288): the state, the status, DETAIL and RESULT. Generations advance at each free and start at 1; a slot
index that has been freed and is free again is kept with neither mark. -/
def State.slotAlloc (s : State) (k arg : Nat) : State × Nat × Nat × Nat :=
  let size := arg / 2 ^ 32
  let reg := arg % 64
  match s.cfg.armed.bind fun im => im.regions.find? fun r => r.region == reg && r.kind == 1 with
  | none => (s, 0x0A, 3, 0)
  | some r =>
    let busy := (s.dma.slots.filter fun e => e.2.live || e.2.kept).map (·.1)
    if 65536 ≤ busy.length then (s, 0x0A, 2, 0)
    else
      match slotFits (s.slotRanges reg) size (r.baseMib * 2 ^ 20) ((r.baseMib + r.sizeMib) * 2 ^ 20) with
      | none => (s, 0x0A, 1, 0)
      | some a =>
        let i := lowestFree busy 65536
        let g := match lookup? s.dma.slots i with
          | some x => x.gen
          | none => 1
        let s := { s with dma := { s.dma with slots := insertKey i { gen := g, owner := k, base := a, size, region := reg } s.dma.slots } }
        (s.showSlots, 0, 0, g * 2 ^ 24 + i + a / 64 * 2 ^ 32)

/-- SLOT_FREE (R227, R289): the handle is no longer live, its generation advances, and the space is kept while accepted
records that await rendering name it. -/
def State.slotFree (s : State) (h : Nat) : State :=
  let names := (s.wins.flatMap fun e => (e.2.queue.filter fun r => r.started < r.repeats).flatMap recHandles) ++
    ((s.comp.docs.filter (·.stage == 0)).flatMap fun d => recHandles d.rcd)
  let keep := names.contains h
  ({ s with dma := { s.dma with slots := s.dma.slots.map fun (e : Nat × Slot) =>
      if e.1 = h % 2 ^ 24 && e.2.gen = h / 2 ^ 24 then
        (e.1, { e.2 with live := false, kept := keep, gen := if keep then e.2.gen else if e.2.gen = 255 then 1 else e.2.gen + 1 })
      else e } }).showSlots

end Sys2Proof.Machine
end

