-- ==== Sys2Proof/Machine/MemOps.lean ====
section
/-!
DEFINITION. Shared operations of chapter 17 on banks, and the conditions under which register writes and reads reach their
registers (R48, R56).
-/
namespace Sys2Proof.Machine

/-! ### Banks (R458) -/

/-- The bank states that a lane engine has under the armed image: nozzle-state, line and table bank (R86, R458). -/
def State.imageBanks (s : State) (e : Nat) : Nat :=
  match s.cfg.armed with
  | some im => if im.builtin then 0 else im.laneBanks.getD e 0
  | none => 0

/-- The three banks of a lane engine set: 2 bits each for the nozzle-state, line and table bank (R458). -/
def State.setBanks (s : State) (e v : Nat) : State :=
  s.setFields [(MEM_LBANK_e_NSTATE e, v % 4), (MEM_LBANK_e_LINE e, v / 4 % 4), (MEM_LBANK_e_TABLE e, v / 16 % 4)]

/-- A scratchpad bank's state set (R458). The banks of the staging area are always on (R86). -/
def State.setSpad (s : State) (b v : Nat) : State :=
  let fd := if b < 16 then MEM_SPAD_LO_STATE else MEM_SPAD_HI_STATE
  let k := 2 * (b % 16)
  s.setF fd (s.f fd - s.f fd / 2 ^ k % 4 * 2 ^ k + v % 4 * 2 ^ k)

/-! ### When register accesses act (R48, R56) -/

/-- SYS_ and FLT_ registers (R48, R479). -/
def sysOrFlt (off : Nat) : Bool := decide (off < 0x10000) || decide (0x1D0000 ≤ off ∧ off < 0x1E0000) || decide (0xE00000 ≤ off ∧ off < 0xF00000)

/-- The logic is powered (R47, R55). -/
def State.powered (s : State) : Bool := s.sys.phase == .up

/-- A register write acts: Night or Midnight has been entered since logic reset (R56), and in Midnight only on the SYS_
and FLT_ registers (R48; log entry 22). -/
def State.writable (s : State) (off : Nat) : Bool := s.powered && s.sys.bootDone && (s.st != MIDNIGHT || sysOrFlt off)

/-- A register write that a row of its own describes. -/
def State.onWrite (s : State) (off : Nat) (g : State → State) : State := if s.writable off then g s else s

end Sys2Proof.Machine
end

