-- ==== Sys2Proof/Machine/ThermOps.lean ====
section
/-!
DEFINITION. Shared operations of chapter 14: the sensors' classes and levels, predicted times to trip, and pause tests.
-/
namespace Sys2Proof.Machine

/-- One sensor's state, and that state changed. -/
def State.sensor (s : State) (n : Nat) : Sensor := tget {} s.thm.sensors n
def State.modSensor (s : State) (n : Nat) (g : Sensor → Sensor) : State :=
  { s with thm := { s.thm with sensors := tupd {} n g s.thm.sensors } }

/-- The class of a sensor (R401): 0 tiles, 1 lane dies, 2 hub die, 3 cold plate or inlet, 4 store. -/
def sensorClass (n : Nat) : Nat := if n < 96 then 0 else if n = 96 then 2 else if n < 101 then 1 else if n = 101 then 3 else 4

/-- Dusk level and trip level in 0.1 °C (R402). -/
def State.duskLevel (s : State) (n : Nat) : Int :=
  match sensorClass n with
  | 0 => 800
  | 1 => 1100
  | 2 => 1050
  | 3 => if s.ident.variantA then 450 else 500
  | _ => 600
def State.tripLevel (s : State) (n : Nat) : Int :=
  match sensorClass n with
  | 0 => 900
  | 1 => 1250
  | 2 => 1200
  | 3 => if s.ident.variantA then 500 else 600
  | _ => 700

/-- Whether a sensor concerns a window: a tile sensor its tile's window, a lane die sensor the windows of its tiles, the
others every window (R401). -/
def State.concerns (s : State) (n w : Nat) : Bool :=
  if n < 96 then (s.winTiles w).contains n
  else if 97 ≤ n && n < 101 then (s.winTiles w).any fun t => tileDie t == n - 97
  else true

/-- The time to trip as distance in 0.1 °C over rate in 0.1 °C/s, or none when unbounded or the reading is invalid (R405). -/
def State.timeToTrip? (s : State) (n : Nat) : Option (Int × Nat) :=
  match s.temp? n with
  | some x => if 0 < s.fs (THM_n_RATE_RATE n) then some (s.tripLevel n - x, (s.fs (THM_n_RATE_RATE n)).toNat) else none
  | none => none

/-- t_p is no longer than a time of `lines` lines at `rate` lines/s plus CAP_MS: distance / rate ≤ … (R405, R406). -/
def State.tripWithin (s : State) (tp : Int × Nat) (lines rate : Nat) (strict : Bool) : Bool :=
  let l := tp.1 * 1000 * rate
  let r : Int := tp.2 * (lines * 1000 + s.f THM_CTRL_CAP_MS * rate : Nat)
  if strict then decide (l < r) else decide (l ≤ r)

/-- THM_PRED shows t_p in ms, all ones when unbounded (R406; rounded down, log entry 16). -/
def State.showPred (s : State) (tp : Option (Int × Nat)) : State :=
  match tp with
  | some (d, r) => s.setF THM_PRED_TP_MS (sat 32 ((max 0 (d * 1000)) / r).toNat)
  | none => s.setF THM_PRED_TP_MS 0xFFFFFFFF

/-- The smallest of two times to trip (R408). -/
def sooner (a b : Option (Int × Nat)) : Option (Int × Nat) :=
  match a, b with
  | some x, some y => if y.1 * x.2 < x.1 * y.2 then some y else some x
  | some x, none => some x
  | none, y => y

/-- The smallest t_p of all valid sensors (R406). -/
def State.soonest (s : State) : Option (Int × Nat) :=
  (List.range 103).foldl (fun a n => sooner a (s.timeToTrip? n)) none

/-- The lines t_doc counts for the next document of a window (R405). -/
def State.nextLines (s : State) (w : Nat) : Nat :=
  match (s.win w).queue.head? with
  | some r =>
    let len := if r.lenValid then r.len else s.f (FIRE_WIN_w_LEN_LEN w)
    (if len = 0 then r.extent else len) + 88
  | none => 0

/-- The test of R405: some sensor that concerns the window predicts a trip too soon, or a rate action 1 is pending. -/
def State.thermalHold (s : State) (w : Nat) : Bool :=
  (s.win w).ratePend ||
  (List.range 103).any fun n => s.concerns n w && match s.timeToTrip? n with
    | some tp => s.tripWithin tp (s.nextLines w) s.planRate true
    | none => false

/-- A pause step in ms, and the steps a gap may have (R405, R410). -/
def State.stepMs (s : State) : Nat := max 1 (s.f THM_PAUSE_STEP_MS)
def State.maxSteps (s : State) : Nat := max 1 (s.f THM_PAUSE_MAX_STEPS)

/-- Whether any thermal pause runs (R405). -/
def State.showPausing (s : State) : State :=
  s.setFb THM_STATUS_PAUSING (s.wins.any fun e => e.2.thmTo.isSome)

/-- A pause that lasts to an instant is requested for a window's gap: the longer applies (R162). -/
def State.pauseUntil (s : State) (w t : Nat) : State :=
  if t ≤ s.now then s
  else
    (s.modWin w fun x => { x with pauseTo := some (max t (x.pauseTo.getD 0)), pauseFrom := some (x.pauseFrom.getD s.now) }).setF (FIRE_WIN_w_STATUS_PAUSED w) 1

/-- The pause of a window's gap is over: PAUSED clears and its microseconds are counted (R162, R461). -/
def State.endPause (s : State) (w : Nat) : State :=
  match (s.win w).pauseTo, (s.win w).pauseFrom with
  | some t, some f => ((s.count 0x0B w ((t - f) / 4000)).modWin w fun x => { x with pauseTo := none, pauseFrom := none }).setF
      (FIRE_WIN_w_STATUS_PAUSED w) 0
  | _, _ => s

/-- A thermal pause step is requested (R405). -/
def State.thermalStep (s : State) (w : Nat) : State :=
  let t := s.now + ms s.stepMs
  ((s.pauseUntil w t).modWin w fun x => { x with thmTo := some t, thmSteps := x.thmSteps + 1, ratePend := false }).showPausing

/-- The thermal work at the start of a window's gap (R405). -/
def State.thermalGap (s : State) (w : Nat) : State :=
  let s := s.modWin w fun x => { x with thmSteps := 0, thmTo := none }
  if s.thermalHold w then s.thermalStep w else s

end Sys2Proof.Machine
end

