-- ==== Sys2Proof/Machine/CalOps.lean ====
section
/-!
DEFINITION. Shared operations of chapter 16: calibration instances and their values in force, slews, agreement of repeated
measurements, records in NV flash, scheduling, and the KH-4806 compatibility slots. An instance's key is its record number
(R444). Its components are, by target: 0 cells and T_r steps; 1 U offset, V offset, V gain; 2 four shares; 3 cells of
phases 1 to 3; 4 segments and offset.
-/
namespace Sys2Proof.Machine

/-- Target and instance of a record number (R444). -/
def calTarget (k : Nat) : Nat := k / 256
def calInst (k : Nat) : Nat := k % 256

/-- One calibration instance, and that instance changed. -/
def State.calI (s : State) (k : Nat) : CalInst := tget {} s.cal.insts k
def State.modCal (s : State) (k : Nat) (g : CalInst → CalInst) : State :=
  { s with cal := { s.cal with insts := tupd {} k g s.cal.insts } }

/-- The components of a target at logic reset (R452). -/
def calDefault (tgt : Nat) : List Int :=
  match tgt with
  | 1 => [0, 0, 0]
  | 2 => [0x4000, 0x4000, 0x4000, 0x4000]
  | 3 => [0, 0, 0]
  | _ => [0, 0]

/-- The components in force (R442). -/
def State.calForce (s : State) (k : Nat) : List Int :=
  if (s.calI k).force.isEmpty then calDefault (calTarget k) else (s.calI k).force

/-- The greatest magnitude of each component, or for a share its two limits (R432). -/
def calLimits (tgt : Nat) : List (Int × Int) :=
  match tgt with
  | 0 => [(-62, 62), (-8, 8)]
  | 1 => [(-64, 64), (-64, 64), (-127, 127)]
  | 2 => [(8192, 24576), (8192, 24576), (8192, 24576), (8192, 24576)]
  | 3 => [(-31, 31), (-31, 31), (-31, 31)]
  | _ => [(-64, 64), (-320, 320)]

/-- The correction registers show the values in force (R452). -/
def State.showCal (s : State) (k : Nat) : State :=
  let n := calInst k
  let v := fun (i : Nat) => (s.calForce k).getD i 0
  match calTarget k with
  | 0 => (s.setFs (CAL_PORT_n_A_OUT_CELLS n) (v 0)).setFs (CAL_PORT_n_A_TR_CORR n) (v 1)
  | 1 => ((s.setFs (CAL_MOT_a_A_OFS_U n) (v 0)).setFs (CAL_MOT_a_A_OFS_V n) (v 1)).setFs (CAL_MOT_a_B_GAIN_V n) (v 2)
  | 2 => (((s.setFs (CAL_ENC_n_A_SHARE0 n) (v 0)).setFs (CAL_ENC_n_A_SHARE1 n) (v 1)).setFs (CAL_ENC_n_B_SHARE2 n) (v 2)).setFs
      (CAL_ENC_n_B_SHARE3 n) (v 3)
  | 3 => ((s.setFs (CAL_PHASE_d_P1 n) (v 0)).setFs (CAL_PHASE_d_P2 n) (v 1)).setFs (CAL_PHASE_d_P3 n) (v 2)
  | _ => (s.setFs (CAL_PORT_n_A_SENSE_SEG n) (v 0)).setFs (CAL_PORT_n_B_SENSE_OFS n) (v 1)

/-- The components in force replaced. -/
def State.setCal (s : State) (k : Nat) (v : List Int) : State := (s.modCal k fun x => { x with force := v }).showCal k

/-! ### The compatibility slots (R448, R450) -/

/-- The entry of a tile in either slot, while COMPAT = 1. -/
def State.compat? (s : State) (n : Nat) : Option CompatEntry :=
  if s.cal.policy.compat = 0 then none
  else match lookup? s.nv.compat n with
    | some e => some e
    | none => lookup? s.nv.compat (256 + n)

/-- The DAC registers of a tile port (R450, R452): codes 128 and DACS_ON 0 for a tile that is calibrated natively. -/
def State.showDacs (s : State) (n : Nat) : State :=
  match s.compat? n with
  | some e => s.setFields [(CAL_PORT_n_A_DACS_ON n, 1), (CAL_PORT_n_B_STB_DAC n, e.dacA), (CAL_PORT_n_B_SENSE_DAC n, e.dacB)]
  | none => s.setFields [(CAL_PORT_n_A_DACS_ON n, 0), (CAL_PORT_n_B_STB_DAC n, 128), (CAL_PORT_n_B_SENSE_DAC n, 128)]

/-- A tile runs on the DACs: named in a slot when the policy in force was applied (R450). -/
def State.onDacs (s : State) (n : Nat) : Bool := s.f (CAL_PORT_n_A_DACS_ON n) == 1

/-! ### Which instances take part (R432, R440, R450) -/

/-- The instances of a target. -/
def calCount (tgt : Nat) : Nat := match tgt with | 0 => 96 | 1 => 4 | 2 => 16 | 3 => 5 | _ => 96

/-- The record number names an instance. -/
def calExists (k : Nat) : Bool := decide (calTarget k < 5) && decide (calInst k < calCount (calTarget k))

/-- All instances, in ascending order of target and instance (R440). -/
def calKeys : List Nat := (List.range 5).flatMap fun t => (List.range (calCount t)).map fun i => t * 256 + i

/-- The instance takes part: its target is enabled; its tile, axis or MODE 1 input is in use under the armed image; its
tile does not run on the DACs (R432, R436, R450; DEDUCED, log entry 36). -/
def State.calEnabled (s : State) (k : Nat) : Bool :=
  let n := calInst k
  bit s.cal.policy.targets (calTarget k) && match s.cfg.armed with
    | some im =>
      (match calTarget k with
        | 0 => s.enabled n && !s.onDacs n
        | 1 => (im.axes.getD n {}).role != 0
        | 2 => (im.pos.getD n {}).mode == 1
        | 3 => true
        | _ => s.enabled n && !s.onDacs n)
    | none => false

/-! ### Slews (R442) -/

/-- A component part of the way from one value to another, truncated toward its start (R442): one-cell steps spread evenly,
or a linear course. -/
def slewOne (a b : Int) (done total : Nat) : Int := a + ((b - a) * done).tdiv total

/-- The first `n` one-cell steps of a joint course, in ascending order of components. -/
def slewSteps : List Int → List Int → Nat → List Int
  | a :: as, b :: bs, n =>
    let k := min n (b - a).natAbs
    (if a ≤ b then a + k else a - k) :: slewSteps as bs (n - k)
  | as, _, _ => as

/-- The components after `done` of `total` (R442). Target 3 moves one cell at a time over all its phases; the order of its
phases is ascending (DESIGN CHOICE, log entry 37). -/
def slewAt (tgt : Nat) (start target : List Int) (done total : Nat) : List Int :=
  if total ≤ done then target
  else if tgt = 3 then
    let cells := ((start.zip target).map fun p => (p.2 - p.1).natAbs).sum
    slewSteps start target (cells * done / total)
  else (start.zip target).map fun p => slewOne p.1 p.2 done total

/-- A slew has been given and not run out, and HOLD does not keep it from starting (R440, R442). -/
def State.calSlews (s : State) (k : Nat) : Bool :=
  let x := s.calI k
  x.total != 0 && (x.done != 0 || !bit (s.f CAL_CTRL_HOLD) (calTarget k))

/-- CAL_STATUS.SLEWING (R442). -/
def State.showSlewing (s : State) : State :=
  s.setF CAL_STATUS_SLEWING (((List.range 5).filter fun t => s.cal.insts.any fun e => calTarget e.1 == t && s.calSlews e.1).map (2 ^ ·)).sum

/-- A slew moves to a point of its course. -/
def State.slewTo (s : State) (k done : Nat) : State :=
  let x := s.calI k
  let v := slewAt (calTarget k) x.start x.target done x.total
  let s := s.setCal k v
  if x.total ≤ done then (s.modCal k fun x => { x with total := 0, done := 0 }).showSlewing
  else s.modCal k fun x => { x with done := done }

/-- A new value is given (R442): the slew starts, or starts again, from the value in force; target 4 waits for the next swap
boundary. Target 1's course is counted in µs. -/
def State.slewNew (s : State) (k : Nat) (v : List Int) : State :=
  let tgt := calTarget k
  if tgt = 4 then s.modCal k fun x => { x with pendT := some v }
  else
    let total := if tgt = 1 then s.cal.policy.slewMs * 1000 else s.cal.policy.slewLines
    let f := s.calForce k
    if total = 0 || f = v then ((s.modCal k fun x => { x with total := 0, done := 0, target := v }).setCal k v).showSlewing
    else (s.modCal k fun x => { x with start := f, force := f, target := v, total := total, done := 0, slewAt := s.now }).showSlewing

/-- The value of target 4 that waited takes effect at a swap boundary of the tile's window (R442). -/
def State.calSwap (s : State) (n : Nat) : State :=
  match (s.calI (1024 + n)).pendT with
  | some v => (s.modCal (1024 + n) fun x => { x with pendT := none }).setCal (1024 + n) v
  | none => s

/-! ### Records in NV flash (R444 to R446) -/

/-- A valid copy (R445). -/
def validCopy (c : Option CalCopy) : Option CalCopy := c.filter fun c => c.ok && c.seq != 0xFFFFFFFF

/-- X is ahead of C by R110, and not equal. -/
def seqAhead (x c : Nat) : Bool := x != c && decide ((x + 2 ^ 32 - c) % 2 ^ 32 < 2 ^ 31)

/-- The current copy of a record, and whether it is copy A (R445). -/
def State.calCopy? (s : State) (k : Nat) : Option (CalCopy × Bool) :=
  match validCopy (lookup? s.nv.calA k), validCopy (lookup? s.nv.calB k) with
  | some a, some b => if seqAhead b.seq a.seq then some (b, false) else some (a, true)
  | some a, none => some (a, true)
  | none, some b => some (b, false)
  | none, none => none

/-- The components of a record, or those of its factory values without a valid copy (R443). -/
def State.calStored (s : State) (k : Nat) : List Int :=
  match s.calCopy? k with
  | some (c, _) => c.vals
  | none => (lookup? s.nv.factory k).getD (calDefault (calTarget k))

/-- CAL_STATUS.NV_PENDING (R446). -/
def State.showNvPend (s : State) : State := s.setFb CAL_STATUS_NV_PENDING (s.cal.insts.any fun e => e.2.nvWait.isSome)

/-- The copy that is not current takes the values, or the write waits for the interlock of R407 (R445, R446). -/
def State.calRecord (s : State) (k : Nat) (v : List Int) : State :=
  if !s.nvOk then (s.modCal k fun x => { x with nvWait := some v }).showNvPend
  else
    let (seq, a) := match s.calCopy? k with
      | some (c, isA) => ((c.seq + 1) % 2 ^ 32, !isA)
      | none => (1, true)
    let c : CalCopy := { seq := seq, vals := v }
    let s := if a then { s with nv := { s.nv with calA := insertKey k c s.nv.calA } }
      else { s with nv := { s.nv with calB := insertKey k c s.nv.calB } }
    (s.modCal k fun x => { x with nvWait := none }).showNvPend

/-- Record writes that the interlock refused are tried again at a gap, with the latest value (R446). -/
def State.calRetry (s : State) : State :=
  s.cal.insts.foldl (fun s e =>
    match (s.calI e.1).nvWait with
    | some v => s.calRecord e.1 v
    | none => s) s

/-! ### Judging measurements (R433 to R439) -/

/-- The sum of two lists, place by place. -/
def addLists (a b : List Int) : List Int := (a.zip b).map fun p => p.1 + p.2

/-- Two raw results agree (R439): each component differs by no more than TOL / 65,536 of its full scale. Target 3's results
are its bins. -/
def calAgree (tgt tol : Nat) (a b : List Int) : Bool :=
  let d := fun (i : Nat) => ((a.getD i 0 - b.getD i 0).natAbs)
  let near := fun (i fs : Nat) => decide (d i * 65536 ≤ tol * fs)
  match tgt with
  | 0 => near 0 250
  | 1 =>
    let u1 := a.getD 2 0
    let v1 := a.getD 3 0
    let u2 := b.getD 2 0
    let v2 := b.getD 3 0
    near 0 64 && near 1 64 && decide ((u1 * v2 - u2 * v1).natAbs * 655360 ≤ tol * (v1 * v2).natAbs)
  | 2 => (List.range 4).all fun i => near i 16384
  | 3 => (List.range 4).all fun i => decide (4 * d i ≤ tol)
  | _ => (List.range 2).all fun i => decide (d i * 13107200 ≤ tol * (a.getD i 0 + b.getD i 0).natAbs)

/-- The corrections that the mean of two agreed results asks for, before their limits (R433 to R438); the results are given
and `f` is the value in force. -/
def calMean (tgt : Nat) (f a b : List Int) : List Int :=
  let s := addLists a b
  let x := fun (i : Nat) => s.getD i 0
  match tgt with
  | 0 =>
    let cells := clamp (-62) 62 (roundAway (-(x 0)) 8)
    [cells, roundAway (-(x 0) - 8 * cells) 500]
  | 1 =>
    let v1 := a.getD 3 0
    let v2 := b.getD 3 0
    let den := (2 * v1 * v2).natAbs
    [roundAway (x 0) 2, roundAway (x 1) 2,
      if den = 0 then 127 else roundAway (1000 * (a.getD 2 0 * v2 + b.getD 2 0 * v1 - 2 * v1 * v2)) den]
  | 2 => (List.range 4).map fun i => roundAway (x i) 2
  | 3 => (List.range 3).map fun k =>
      f.getD k 0 + roundAway ((k + 1 : Nat) * 250 * 131072 - 1000 * ((s.drop 1).take (k + 1)).sum) 524288
  | _ =>
    let d := x 1 - x 0
    let seg := if d ≤ 0 then 65 else roundAway (2000 * (300000 - d)) d.toNat
    let segc := clamp (-64) 64 seg
    [seg, roundAway (200000000 - x 0 * (2000 + segc)) 40000]

/-- Corrections held within their ranges; the truth value says that one was not (R433). -/
def calClamp (tgt : Nat) (v : List Int) : List Int × Bool :=
  let w := (v.zip (calLimits tgt)).map fun p => clamp p.2.1 p.2.2 p.1
  (w, w != v)

/-- An agreed result is counted and dated (R439, R440, R447). -/
def State.calAgreed (s : State) (k : Nat) : State :=
  let s := (s.incF CAL_COUNT_COUNT 1).incF (CAL_t_STAT_RESULTS (calTarget k)) 1
  let s := s.setFields [(CAL_LAST_DATE_YEAR, s.clk.year), (CAL_LAST_DATE_MONTH, s.clk.month), (CAL_LAST_DATE_DAY, s.clk.day),
    (CAL_LAST_TIME_HOUR, s.clk.hour), (CAL_LAST_TIME_MINUTE, s.clk.minute), (CAL_LAST_TIME_SECOND, s.clk.second)]
  s.modCal k fun x => { x with first := none, bins := [0, 0, 0, 0], lastAt := some s.now, due := x.again, dueAt := s.now, again := false, overdue := 0 }

/-- CAL_STATUS.FACTORY (R443). -/
def State.showFactory (s : State) : State :=
  s.setF CAL_STATUS_FACTORY (((List.range 5).filter fun t => s.cal.insts.any fun e => calTarget e.1 == t && e.2.factory).map (2 ^ ·)).sum

/-- A pair that disagrees (R439): both results go, and the value stays. -/
def State.calDisagree (s : State) (k : Nat) : State :=
  (((s.modCal k fun x => { x with first := none, bins := [0, 0, 0, 0] }).addF (CAL_t_STAT_DISAGREE (calTarget k)) 1)).raise kCAL_DISAGREE (calTarget k)

/-- The mean of an agreed pair within its range, with CAL_EXHAUSTED when it passed it (R433). -/
def State.calValue (s : State) (k : Nat) (a b : List Int) : State × List Int :=
  let (v, lim) := calClamp (calTarget k) (calMean (calTarget k) (s.calForce k) a b)
  (if lim then s.raise kCAL_EXHAUSTED (calTarget k + calInst k * 256) else s, v)

/-- The second result of an instance outside Dawn (R439, R442, R445). -/
def State.calPair (s : State) (k : Nat) (a b : List Int) : State :=
  if calAgree (calTarget k) s.cal.policy.tol a b then
    let (s, v) := s.calValue k a b
    let s := (s.calAgreed k).modCal k fun x => { x with factory := false }
    (((s.slewNew k v).calRecord k v).showFactory)
  else s.calDisagree k

/-! ### Dawn (R443) -/

/-- The second result of a Dawn measurement: target 4, set at once, or the offsets of target 1, set at once while the
record keeps its gain. An offset above 64 LSB is not corrected (R435), and the disagreeing pair leaves the NV value. -/
def State.calDawnPair (s : State) (k : Nat) (a b : List Int) : State :=
  let tol := s.cal.policy.tol
  if calTarget k = 4 then
    if calAgree 4 tol a b then
      let (s, v) := s.calValue k a b
      ((((s.calAgreed k).modCal k fun x => { x with fromDawn := true, factory := false }).setCal k v).calRecord k v).showFactory
    else (s.calDisagree k).setCal k (s.calStored k)
  else
    let near := fun (i : Nat) => decide ((a.getD i 0 - b.getD i 0).natAbs * 65536 ≤ tol * 64)
    let o := (addLists a b).map fun x => roundAway x 2
    if near 0 && near 1 then
      if o.any fun x => decide (64 < x ∨ x < -64) then s.modCal k fun x => { x with first := none }
      else
        let g := (s.calStored k).getD 2 0
        let v := [o.getD 0 0, o.getD 1 0, g]
        (((s.calAgreed k).modCal k fun x => { x with fromDawn := true }).setCal k v).calRecord k v
    else s.calDisagree k

/-- One instance at Dawn step 8 (R443, R445): the value of its record, but for what this Dawn has measured. -/
def State.calLoad (s : State) (k : Nat) : State :=
  let x := s.calI k
  let st := s.calStored k
  let na := (validCopy (lookup? s.nv.calA k)).isSome
  let nb := (validCopy (lookup? s.nv.calB k)).isSome
  let whole := x.fromDawn && calTarget k == 4
  let v := if calTarget k = 1 && x.fromDawn then
      [(s.calForce k).getD 0 0, (s.calForce k).getD 1 0, st.getD 2 0]
    else if whole then s.calForce k else st
  let v := if (calTarget k == 0 || calTarget k == 4) && s.onDacs (calInst k) then [0, 0] else v
  let s := if na && nb then s else s.raise kCAL_RECORD k
  (s.modCal k fun x => { x with total := 0, done := 0, first := none, pendT := none, target := v, factory := !na && !nb }).setCal k v

/-- Dawn step 8 for every instance (R443). -/
def State.calDawn (s : State) : State := ((calKeys.foldl State.calLoad s).showFactory).showSlewing

/-- A Dawn begins: nothing has been measured in it (R443). -/
def State.calDawnStart (s : State) : State :=
  calKeys.foldl (fun s k => s.modCal k fun x => { x with fromDawn := false, first := none }) s

/-! ### Scheduling (R440, R441, R451) -/

/-- An instance becomes due. -/
def State.calDue (s : State) (k : Nat) : State :=
  s.modCal k fun x => if x.due then { x with again := x.again || x.first.isSome }
    else { x with due := true, dueAt := s.now, overdue := 0, again := x.first.isSome }

/-- Every enabled instance is due (R440): on entry to Morning and at RUN_NOW. -/
def State.calAllDue (s : State) : State := (calKeys.filter s.calEnabled).foldl State.calDue s

/-- Some window is in a natural gap. -/
def State.anyGap (s : State) : Bool := s.wins.any fun e => e.2.inGap

/-- The measurements of a window's gap are cut short (R26, R439): the first results of its tiles' ports, and of axes and
inputs once no window is in a gap. -/
def State.calAbandon (s : State) (w : Nat) : State :=
  let ts := s.winTiles w
  let s := ts.foldl (fun s n =>
    let s := if (s.calI n).first.isSome then s.modCal n fun x => { x with first := none } else s
    if (s.calI (1024 + n)).first.isSome then s.modCal (1024 + n) fun x => { x with first := none } else s) s
  if s.anyGap then s
  else (s.cal.insts.filter fun e => calTarget e.1 == 1 || calTarget e.1 == 2).foldl (fun s e =>
    if (s.calI e.1).first.isSome then s.modCal e.1 fun x => { x with first := none } else s) s

/-- Dusk, Night or Midnight discards the measurement pairs under way (R451). -/
def State.calDrop (s : State) : State :=
  s.cal.insts.foldl (fun s e =>
    if (s.calI e.1).first.isSome || (s.calI e.1).bins.any (· != 0) then s.modCal e.1 fun x => { x with first := none, bins := [0, 0, 0, 0] } else s) s

/-- An accepted ARM applies a calibration policy (R91, R450, R451, R453). -/
def State.calApply (s : State) (p : CalPolicy) : State :=
  let s := s.cal.insts.foldl (fun s e =>
    if (s.calI e.1).total = 0 then s
    else if bit p.targets (calTarget e.1) then s.slewTo e.1 (s.calI e.1).total
    else s.modCal e.1 fun x => { x with total := 0, done := 0 }) s
  let s := { s with cal := { s.cal with policy := p } }
  let s := (List.range 96).foldl (fun s n =>
    let s := s.showDacs n
    if s.onDacs n then (s.setCal n [0, 0]).setCal (1024 + n) [0, 0] else s) s
  s.showSlewing

/-! ### Edges for target 3 (R437) -/

/-- An accepted edge is counted against the phase that first sampled it, on each die in turn (`ph` gives the phase per die):
in a natural gap, while the die's PLL is locked, and while the instance is being measured. -/
def State.countEdge (s : State) (ph : List Nat) : State :=
  if !s.anyGap || bit (s.f CAL_CTRL_HOLD) 3 then s
  else (List.range 5).foldl (fun s d =>
    let k := 768 + d
    let x := s.calI k
    if s.calEnabled k && x.due && !s.health.dieUnlocked.contains d && decide (x.bins.sum < 65536) then
      let p := ph.getD d 0 % 4
      s.modCal k fun x => { x with bins := x.bins.mapIdx fun i c => if i = p then c + 1 else c }
    else s) s

/-- A heater reading in mΩ corrected by target 4 (R438). -/
def State.correctOhm (s : State) (n : Nat) (r : Nat) : Nat :=
  let f := s.calForce (1024 + n)
  (max 0 (roundAway (r * (2000 + f.getD 0 0)) 2000 + 10 * f.getD 1 0)).toNat

end Sys2Proof.Machine
end

