-- ==== Sys2Proof/Machine/FireOps.lean ====
section
/-!
DEFINITION. Shared operations of chapter 05 with the admission check of chapter 12: fire lines, document windows, their
gaps and their documents.
-/
namespace Sys2Proof.Machine

/-! ### Lines and steps (R110, R120 to R123) -/

/-- X is ahead of C by the formula of R110, over `w` bits; an equal value satisfies it. -/
def aheadOf (w x c : Nat) : Bool := decide ((x + 2 ^ w - c % 2 ^ w) % 2 ^ w < 2 ^ (w - 1))

/-- X is ahead of C and not equal to it. -/
def beyond (w x c : Nat) : Bool := x % 2 ^ w != c % 2 ^ w && aheadOf w x c

/-- The line state that a count gives (R120): OFFSET and RATIO are 16.16 ticks, the offset's fraction being that of R142. -/
def lineStateOf (count : Nat) (offset : Int) (ratio : Nat) : LineState :=
  let c := wrap 48 ((count : Int) * 65536 - offset)
  let d := sx 48 c
  { line := wrap 32 (d / ratio), phase := d % ratio, prog := 0 }

/-- A line start crossed: the line entered, forward, and whether the crossing is reached by the count step itself. -/
structure Crossing where
  line : Nat
  fwd : Bool
  exact : Bool
deriving DecidableEq, Repr

/-- A step of `d` 16.16 ticks applied to a line state (R121): the new state and the crossings in order. Forward, the start
on which the step ends is reached exactly; in reverse, the start at which it began. -/
def stepLine (ratio : Nat) (l : LineState) (d : Int) : LineState × List Crossing :=
  let p := l.phase + d
  let q := p / ratio
  let l' := { line := wrap 32 (l.line + q), phase := p % ratio, prog := 0 }
  if 0 ≤ q then
    (l', (List.range q.toNat).map fun i => { line := (l.line + i + 1) % 2 ^ 32, fwd := true, exact := p % ratio == 0 && i + 1 == q.toNat })
  else
    (l', (List.range (-q).toNat).map fun (i : Nat) =>
      { line := wrap 32 ((l.line : Int) - i - 1), fwd := false, exact := l.phase == 0 && l.prog == 0 && i == 0 })

/-! ### Which input drives what (R124, R144) -/

def State.pin (s : State) (n : Nat) : PosIn := tget {} s.pos.inputs n
def State.modPin (s : State) (n : Nat) (g : PosIn → PosIn) : State :=
  { s with pos := { s.pos with inputs := tupd {} n g s.pos.inputs } }

/-- The armed record of a position input (R83). -/
def State.posRec (s : State) (n : Nat) : PosRec :=
  match s.cfg.armed with
  | some im => im.pos.getD n {}
  | none => {}

/-- RATIO of an input, in 16.16 ticks. -/
def State.ratio (s : State) (n : Nat) : Nat := max 1 (s.posRec n).ratio

/-- The input that drives a tile: the one whose TILES names it (R83). -/
def State.inputOf? (s : State) (n : Nat) : Option Nat := (List.range 16).find? fun p => bit (s.posRec p).tiles n

/-- The enabled tiles an input drives. -/
def State.tilesOf (s : State) (p : Nat) : List Nat :=
  match s.cfg.armed with
  | some im => sortNat ((im.tiles.filter fun r => r.enable && bit (s.posRec p).tiles r.tile).map (·.tile))
  | none => []

/-- The window's reference input (R144). -/
def State.refInput? (s : State) (w : Nat) : Option Nat :=
  match (sortNat (s.winTiles w)).head? with
  | some n => s.inputOf? n
  | none => none

/-- LINE of the window's reference input. -/
def State.refLine (s : State) (w : Nat) : Nat :=
  match s.refInput? w with
  | some p => (s.pin p).ls.line
  | none => 0

/-- The enabled tiles of a window that take part in its documents: driven by its reference input (R144), not bypassed. -/
def State.partTiles (s : State) (w : Nat) : List Nat :=
  (sortNat (s.winTiles w)).filter fun n => s.inputOf? n == s.refInput? w && !s.bypassed n

/-- The windows whose reference input this is. -/
def State.winsOf (s : State) (p : Nat) : List Nat := (List.range 16).filter fun w => s.refInput? w == some p

/-! ### Offsets (R141 to R143, R163) -/

/-- Passes of a tile, and the advance A_p (R163). -/
def State.passes (s : State) (r : TileRec) : Nat :=
  if r.shuttle then match s.feedOf? r.docwin r.feed with
    | some f => f.n
    | none => 1
  else 1
def State.advance (s : State) (r : TileRec) (p : Nat) : Int :=
  if r.shuttle then match s.feedOf? r.docwin r.feed with
    | some f => (f.adv.take (p + 1)).foldl (· + ·) 0
    | none => 0
  else 0

/-- The offset O of a tile in a pass, signed 16.16 lines (R141). -/
def State.offsetO (s : State) (r : TileRec) (p : Nat) : Int := r.yOffset + s.advance r p

/-- The count in 16.16 ticks at which fire line 0 of a tile begins: OFFSET + O × RATIO, rounded (R142). -/
def State.fireOrigin (s : State) (p : Nat) (o : Int) : Int :=
  (s.posRec p).offset * 65536 + roundAway (o * s.ratio p) 65536

/-- The fire line state set from the count (R142), or from the reference line (R143). -/
def State.resetFire (s : State) (n : Nat) : State :=
  match s.tileRec? n, s.inputOf? n with
  | some r, some p =>
    let o := s.offsetO r (s.f (FIRE_n_STATUS_PASS n))
    let ls := if (s.posRec p).refTake then { line := wrap 32 ((s.pin p).ls.line - o / 65536), phase := 0, prog := 0 }
      else lineStateOf (s.f (POS_n_COUNT_LO_COUNT p)) (s.fireOrigin p o) (s.ratio p)
    ((s.modFire n fun x => { x with ls := ls }).setFields [(FIRE_n_FLINE_F n, ls.line)]).setFs (FIRE_n_OFFSET_O n) o
  | _, _ => s

/-- FIRE_REF_FRAC for a referenced tile whose offset has a fraction (R143). -/
def State.refFrac (s : State) (n : Nat) : State :=
  match s.tileRec? n, s.inputOf? n with
  | some r, some p =>
    if (s.posRec p).refTake && s.offsetO r (s.f (FIRE_n_STATUS_PASS n)) % 65536 != 0 then s.raiseLane (tileDie n) kFIRE_REF_FRAC n else s
  | _, _ => s

/-- A pass is armed: its offset, its fire line state, and H = S − 1; the lane starts again at S (R142, R147, R164, R244). -/
def State.armPass (s : State) (n p start : Nat) : State :=
  let s := s.setFields [(FIRE_n_STATUS_PASS n, p), (FIRE_n_HWM_H n, (start + 2 ^ 32 - 1) % 2 ^ 32)]
  let s := s.resetFire n
  let s := s.refFrac n
  match (s.th n).engine with
  | some e => s.modLane e fun l => { l with nextF := some start, packed := none, inFlight := none, outReg := none, badF := [],
                                            bufLines := if p = 0 then l.bufLines else [], buf := if p = 0 then l.buf else [] }
  | none => s

/-! ### Energy and admission (R353 to R356) -/

/-- The planned energy of a document on each quad in pJ (R353). -/
def State.planPj (s : State) (plan : List Nat) : List Nat :=
  (List.range 24).map fun q =>
    let drops := plan.getD q 0
    if s.fb (PULSE_q_EDROP_VALID q) then drops * s.f (PULSE_q_EDROP_EDROP_PJ q)
    else
      let r := (((quadTiles q).filter fun n => s.enabled n).map fun n => (s.th n).rank).foldl max 0
      drops * 350000 * (16 + r) / 16

/-- The documents in progress. -/
def State.openDocs (s : State) : List (Nat × Doc) := s.wins.filterMap fun e => e.2.doc.map fun d => (e.1, d)

/-- PWR_q_PLAN shows the planned power of the open documents (R355; rounded down, log entry 16). -/
def State.showPlan (s : State) : State :=
  (List.range 24).foldl (fun s q =>
    s.setF (PWR_q_PLAN_PLAN_W q) (sat 16 ((s.openDocs.map fun e => e.2.quadPj.getD q 0 * s.planRate / (e.2.lines * 10 ^ 12)).sum))) s

/-- The planned head power of the open documents in µW (R355). -/
def State.headPlanUw (s : State) : Nat := (s.openDocs.map fun e => e.2.energyPj * s.planRate / (e.2.lines * 10 ^ 6)).sum

/-- The oldest document of a window that has not opened (R231). -/
def State.nextDoc? (s : State) (w : Nat) : Option RDoc := s.comp.docs.find? fun d => d.rcd.win == w && !d.opened

/-- The length of a document: its record's, or FIRE_WIN_w_LEN (R156, R232). -/
def State.docLen (s : State) (w : Nat) (r : CmpRec) : Nat := if r.lenValid then r.len else s.f (FIRE_WIN_w_LEN_LEN w)

/-- A pause that the broker requests for a window's gap, in µs from now (R162, R355, R366). -/
def State.brokerPause (s : State) (w us : Nat) : State :=
  ((s.pauseUntil w (s.now + us * 4000)).addF PWR_PAUSE_COUNT 1).setF PWR_PAUSE_LAST_MS (sat 16 (ceilDiv us 1000))

/-- The lines over which a document's energy is planned (R353, R355). -/
def State.planLines (s : State) (w : Nat) (d : RDoc) : Nat :=
  (if s.docLen w d.rcd = 0 then d.rcd.extent else s.docLen w d.rcd) + 88

/-- Whether Evening's energy and head power bear a document of planned energy `e` pJ over `lines` (R356). -/
def State.eveBears (s : State) (e lines : Nat) : Bool :=
  let draw : Int := s.f PWR_DRAW_LOGIC_W + s.fs PWR_DRAW_IN_MOTOR_W - s.f PWR_LIMITS_P_AVAIL_W
  let left : Int := ((s.f PWR_STORE_E_J : Int) - s.f PWR_STORE_DUSK_J) * 10 ^ 6 - s.pwr.eNeed
  e * s.planRate ≤ (s.budget).eveHeadW * lines * 10 ^ 12 &&
    decide ((e : Int) * s.planRate + draw * lines * 10 ^ 12 ≤ left * s.planRate * 10 ^ 6)

/-- The first quad whose 120 W a document of planned energies `es` would exceed (R355). -/
def State.quadOver? (s : State) (es : List Nat) (lines : Nat) : Option Nat :=
  (List.range 24).find? fun q => (120 - s.f (PWR_q_PLAN_PLAN_W q)) * lines * 10 ^ 12 < es.getD q 0 * s.planRate

/-- Whether a document of planned energy `e` pJ over `lines` would exceed the head power available (R355). -/
def State.headOver (s : State) (e lines : Nat) : Bool :=
  decide (((s.f PWR_LIMITS_P_AVAIL_W : Int) - s.pwr.pLogic) * 10 ^ 6 * (lines * 10 ^ 6 : Nat) <
    (e * s.planRate + s.headPlanUw * lines * 10 ^ 6 : Nat))

/-- The pause in µs in which the head's account gathers what a document of energy `e` pJ lacks; 0 when it lacks nothing
(R355). -/
def State.acctPause (s : State) (e : Nat) : Nat :=
  let short : Int := (e : Int) - s.pwr.acctUj * 10 ^ 6
  if short ≤ 0 then 0 else ceilDiv short.toNat (max 1 (s.f PWR_LIMITS_P_H_W) * 10 ^ 6)

/-- A window's next document is held by the broker, or is no longer (R355). -/
def State.holdDoc (s : State) (w : Nat) (b : Bool) : State := s.modWin w fun x => { x with holdOver := b }

/-- A pause of the head's account, where one is needed (R355). -/
def State.pauseFor (s : State) (w us : Nat) : State := if us = 0 then s else s.brokerPause w us

/-- The broker's check of the next document of a window (R355), or of R356 in Evening. -/
def State.admitDoc (s : State) (w : Nat) : State :=
  match s.nextDoc? w with
  | none => s
  | some d =>
    if d.stage != 2 || (s.win w).doc.isSome then s
    else
      let es := s.planPj d.plan
      let lines := s.planLines w d
      if s.st = EVENING then
        if s.eveBears es.sum lines then s.holdDoc w false else (s.brokerPause w 1000).holdDoc w true
      else
        match s.quadOver? es lines with
        | some q => (s.holdDoc w true).raise kPWR_DOC_OVER (w + (q + 1) * 16)
        | none =>
          if s.headOver es.sum lines then (s.holdDoc w true).raise kPWR_DOC_OVER w
          else (s.holdDoc w false).pauseFor w (s.acctPause es.sum)

/-! ### Opening a document (R155 to R158, R162, R166) -/

/-- A negative offset rounded up to whole lines: ⌈−O⌉ or 0 (R155). -/
def leadLines (o : Int) : Nat := (-(o / 65536)).toNat

/-- E of R155: over the window's tiles and all their passes. -/
def State.leadE (s : State) (w : Nat) : Nat :=
  match s.cfg.armed with
  | some im => ((im.tiles.filter fun r => r.enable && r.docwin == w).flatMap fun r =>
      (List.range (s.passes r)).map fun p => leadLines (s.offsetO r p)).foldl max 0
  | none => 0

/-- The mask set a document uses (R166, R232). -/
def State.docMask? (s : State) (w : Nat) (test nomask : Bool) (set : Nat) : Option MaskSet :=
  if test then (if nomask then none else s.maskOf? w set)
  else
    let x := s.win w
    let first := fun (c : Option Nat) (lim : Nat) => match c with
      | some k => decide (k < lim)
      | none => false
    if first x.rcDocs (s.f (FIRE_WIN_w_MASK_RC_DOCS w)) then s.maskOf? w (s.f (FIRE_WIN_w_MASK_RC_SET w))
    else if first x.suDocs (s.f (FIRE_WIN_w_MASK_SU_DOCS w)) then s.maskOf? w (s.f (FIRE_WIN_w_MASK_SU_SET w))
    else none

/-- No nozzle of a window's tiles has been measured in its present gap (R196). -/
def State.clearScanned (s : State) (w : Nat) : State :=
  (s.winTiles w).foldl (fun s n => s.modTh n fun h => { h with scanned := 0 }) s

/-- Order 5 work in the window's gap is abandoned (R26): measurements cut short are discarded. -/
def State.abandonGap (s : State) (w : Nat) : State :=
  (s.clearScanned w).calAbandon w

/-- CMP_EXTENT when the last image line reaches EXTENT, once for a document (R243). -/
def State.checkExtent (s : State) (w : Nat) : State :=
  match (s.win w).doc with
  | some d =>
    if !d.noExtent && !d.fixed && (match d.jEnd with | some j => decide ((d.extent : Int) ≤ j) | none => false) then
      (s.modWin w fun x => { x with doc := some { d with noExtent := true } }).raise kCMP_EXTENT w
    else s
  | none => s

/-- FIRE_WIN_w_LAST shows the last image line (R171). -/
def State.showLast (s : State) (w : Nat) : State :=
  match (s.win w).doc with
  | some d => match d.jEnd with
    | some j => s.setF (FIRE_WIN_w_LAST_J_END w) (wrap 32 j)
    | none => s
  | none => s

/-- A mask of the wrong KIND for a tile is reported at the open (R168). -/
def State.maskKind (s : State) (m : Option MaskSet) (n : Nat) : State :=
  match m, s.tileRec? n with
  | some m, some r =>
    if (m.kind == 1) != r.shuttle then (s.setF (FIRE_n_STATUS_MASK_KIND n) 1).raiseLane (tileDie n) kFIRE_MASK_KIND n else s
  | _, _ => s

/-- A document begins in a window at start line S (R155, R157): its sequence number, its tiles' high-water lines and lanes. -/
def State.beginDoc (s : State) (w : Nat) (d : Doc) : State :=
  let seq := (s.f (FIRE_WIN_w_SEQ_SEQ w) + 1) % 2 ^ 32
  let st := (s.refLine w + s.f (FIRE_WIN_w_CTRL_LEAD w) + 1 + s.leadE w) % 2 ^ 32
  let d := { d with seq := seq, s := st, jEnd := if d.len = 0 then none else some (d.len - 1) }
  let s := s.setFields [(FIRE_WIN_w_SEQ_SEQ w, seq), (FIRE_WIN_w_START_S w, st), (FIRE_WIN_w_STATUS_OPEN w, 1),
    (FIRE_WIN_w_STATUS_STOPPING w, 0), (FIRE_WIN_w_STATUS_PAUSED w, 0), (FIRE_WIN_w_STATUS_PASS w, 0), (FIRE_WIN_w_LAST_J_END w, 0)]
  let s := if w = s.f FIRE_CTRL_MASTER_WIN then s.handCues else s
  let s := (((s.endPause w).modWin w fun x => { x with inGap := false }).abandonGap w).modWin w fun x =>
    { x with doc := some d, ended := false, announced := false, defer := none, pauseTo := none, thmTo := none,
             skips := [], suDocs := x.suDocs.map (· + 1), rcDocs := x.rcDocs.map (· + 1) }
  let s := (s.partTiles w).foldl (fun s n =>
    let s := s.modFire n fun x => { x with doc := some d.id, finished := false, held := none }
    let s := (s.setF (FIRE_n_STATUS_ACTIVE n) 1).armPass n 0 st
    s.maskKind d.mask n) s
  (((s.setAcct (s.pwr.acctUj - (d.energyPj / 10 ^ 6 : Nat))).checkExtent w).showLast w).showPlan.showPausing

/-- The next document of the window's oldest record opens (R231, R232). -/
def State.acceptOpen (s : State) (w : Nat) : State :=
  match s.nextDoc? w with
  | none => s
  | some rd =>
    let r := rd.rcd
    let len := s.docLen w r
    let es := s.planPj rd.plan
    let d : Doc := { id := rd.id, seq := 0, s := 0, len, test := r.test, raw := r.raw, mask := s.docMask? w r.test r.nomask r.maskset,
                     extent := r.extent, tag := r.tag, stream := r.stream, rep := rd.rep, energyPj := es.sum, quadPj := es,
                     lines := (if len = 0 then r.extent else len) + 88 }
    let s := s.modDoc rd.id fun x => { x with opened := true }
    let count := fun (q : CmpRec) => if q.seq = r.seq then { q with opened := q.opened + 1 } else q
    let s := s.modWin w fun x => { x with queue := (x.queue.map count).filter fun q => q.opened < q.repeats }
    (s.beginDoc w d).showQueue w

/-- The built-in check pattern opens on a window (R65, R246). -/
def State.openPattern (s : State) (w : Nat) : State :=
  s.beginDoc w { id := 0, seq := 0, s := 0, len := 1200, fixed := true, extent := 1200, stream := 4096, lines := 1288 }

/-- An open now would come before the last strobe + GAPMIN reference lines (R158, R169). -/
def State.early (s : State) (w : Nat) : Bool :=
  let x := s.win w
  let g := max 1 (s.f (FIRE_WIN_w_CTRL_GAPMIN w))
  x.doc.isSome || x.ended ||
  (x.lastLine.isSome && (x.gapLines < g || x.gapCycle == some (s.now / 4)))

/-- Nothing else holds an open: the pause is over, the counts have arrived, and no limit holds it (R162, R355). -/
def State.openReady (s : State) (w : Nat) : Bool :=
  (match (s.win w).pauseTo with | some t => decide (t ≤ s.now) | none => true) && !(s.win w).holdOver &&
  match s.nextDoc? w with
  | some d => d.stage == 2
  | none => false

/-- An open is discarded and counted (R158, R159, R162). -/
def State.discardOpen (s : State) (w : Nat) : State := s.addF (FIRE_WIN_w_EVT_DISCARD_CNT w) 1

/-- An open event of a window (R155, R158, R159, R162). -/
def State.openWin (s : State) (w : Nat) : State :=
  if (s.partTiles w).isEmpty then s
  else if s.func != NOON then s.discardOpen w
  else if (s.win w).defer.isSome then s.discardOpen w
  else
    let held := fun (s : State) => if s.fb (FIRE_WIN_w_CTRL_PAUSE_MODE w) then s.discardOpen w
      else s.modWin w fun x => { x with defer := some { since := s.now } }
    if s.early w then
      held (((s.setF (FIRE_WIN_w_STATUS_EARLY w) 1).addF (FIRE_WIN_w_EVT_EARLY_CNT w) 1).raise kFIRE_DOC_EARLY w)
    else if s.openReady w then s.acceptOpen w
    else held s

/-! ### Fire lines past the end, completion and reports (R157, R164, R311, R312) -/

/-- The fire line whose passing ends a document's pass: S + J_end + 88 (R145). -/
def endLine (d : Doc) : Option Nat := d.jEnd.map fun j => wrap 32 (d.s + j + 88)

/-- A joined record is written (R312). -/
def State.writeJoin (s : State) (j : JoinDoc) : State :=
  let sts := j.reports.map fun r => r.2.1
  let status := if sts.contains 2 then 2 else if sts.contains 1 then 1 else if sts.all (· == 3) then 3 else 0
  let last := (j.reports.map fun r => r.2.2.1).foldl min (2 ^ 32 - 1)
  let skipped := (j.reports.map fun r => r.2.2.2).sum
  s.docRecord j.stream j.tag (j.flags % 4 + 4) j.win status j.rep j.seq last j.reports.length skipped

/-- Positions that take part in ring-join mode (R311). -/
def State.joinMembers (s : State) : List Nat :=
  (List.range 64).filter fun k =>
    bit (s.f RING_JOIN_MEMBERS_LO_MEMBERS + 2 ^ 32 * s.f RING_JOIN_MEMBERS_HI_MEMBERS) k

/-- A report reaches position 0 (R311, R312): one record follows when every member's report has arrived. -/
def State.addReport (s : State) (win tag rep eid status last skipped : Nat) (own : Option (Nat × Nat × Nat)) : State :=
  let same := fun (j : JoinDoc) => j.win == win && j.tag == tag && j.rep == rep
  let j := (s.ring.reports.find? same).getD { win, tag, rep, first := s.now }
  let j := { j with reports := j.reports.filter (fun r => r.1 != eid) ++ [(eid, status, last, skipped)] }
  let j := match own with
    | some (st, seq, flags) => { j with stream := st, seq := seq, flags := flags }
    | none => j
  let rest := s.ring.reports.filter fun x => !same x
  if s.joinMembers.all fun k => j.reports.any fun r => r.1 % 64 == k then
    ({ s with ring := { s.ring with reports := rest } }).writeJoin j
  else { s with ring := { s.ring with reports := rest ++ [j] } }

/-- The record of a document that has ended, or its report in ring-join mode (R39, R284, R311). -/
def State.docEnd (s : State) (w stream tag rep status seq last skipped : Nat) (short test : Bool) : State :=
  let flags := b2n short + 2 * b2n test
  if bit (s.f RING_JOIN_CFG_WINS) w && s.fb RING_STATUS_POS_VALID then
    if s.viaRing then
      let s := if stream < 4096 then s.setF (DMA_s_RESV_RESV stream) (s.f (DMA_s_RESV_RESV stream) - 1) else s
      let pl := toLe 4 tag ++ toLe 2 rep ++ [status, w + 16 * flags] ++ toLe 4 seq ++ toLe 4 last ++ toLe 8 s.sysTime ++
        toLe 4 (sat 16 skipped) ++ toLe 4 0
      let p : RingPkt := { type := 7, vc := 0, src := 0, dst := s.pos0, len := 32, payload := pl }
      s.sendReq p { rtag := 0, dst := 0, kind := .docReport, due := 0, pkt := p }
    else if s.joinMembers.contains 0 then s.addReport w tag rep s.eid status last (sat 16 skipped) (some (stream, seq, flags))
    else s.docRecord stream tag flags w status rep seq last 1 skipped
  else s.docRecord stream tag flags w status rep seq last 1 skipped

/-- A window's document completes (R157): its closed source, its record, its counts. -/
def State.completeDoc (s : State) (w : Nat) : State :=
  match (s.win w).doc with
  | none => s
  | some d =>
    let status := if d.stopped then 1 else if (match d.jEnd with | some j => decide (j < 0) | none => false) then 3 else 0
    let last := wrap 32 (d.jEnd.getD 0)
    let s := ((s.emitSrc (0x60 + w)).count 0x0A w 1).setFields [(FIRE_WIN_w_STATUS_OPEN w, 0), (FIRE_WIN_w_STATUS_STOPPING w, 0)]
    let s := (s.winTiles w).foldl (fun s n =>
      if (s.fireT n).doc.isSome then
        let s := ((s.endPulseDoc n).modFire n fun x => { x with doc := none }).setF (FIRE_n_STATUS_ACTIVE n) 0
        match (s.th n).engine with
        | some e => s.tagRecord (fun r => r.typ == 2 && r.unit_ == e && (s.lane e).bufDoc == some d.id) true
        | none => s
      else s) s
    let skipped := ((s.win w).skips.eraseDups).length
    let s := s.modWin w fun x => { x with doc := none, ended := true, gapLines := 0, gapCycle := none, swapAt := some s.now,
                                          lastLine := some (s.refLine w) }
    let s := { s with comp := { s.comp with docs := s.comp.docs.filter fun r => r.id != d.id } }
    let s := (s.showPlan.showComp).showQueue w
    if d.fixed then { s with sys := { s.sys with patternDone := true } }
    else s.docEnd w d.stream d.tag d.rep status d.seq last skipped d.short d.test

/-- Once every tile of the window has passed the document's end, it completes (R157). -/
def State.tryComplete (s : State) (w : Nat) : State :=
  if (s.win w).doc.isSome && (s.winTiles w).all fun n => (s.fireT n).doc.isNone || (s.fireT n).finished then s.completeDoc w else s

/-- A tile whose fire line has passed the end arms its next pass, or has finished (R157, R164). The end counts in a further pass
once the carrier has come back to that pass's start, so that a cycle of it has been taken. -/
def State.checkPass (s : State) (n w : Nat) (d : Doc) : State :=
  match s.tileRec? n, endLine d with
  | some r, some e =>
    let p := s.f (FIRE_n_STATUS_PASS n)
    let away := 0 < p && s.f (FIRE_n_HWM_H n) = (d.s + 2 ^ 32 - 1) % 2 ^ 32 && aheadOf 32 e d.s
    if (s.fireT n).finished || !aheadOf 32 (s.f (FIRE_n_FLINE_F n)) e || away then s
    else
      if p + 1 < s.passes r && !d.stopped then
        let s := s.armPass n (p + 1) d.s
        s.setF (FIRE_WIN_w_STATUS_PASS w) (((s.partTiles w).map fun k => s.f (FIRE_n_STATUS_PASS k)).foldl min 15)
      else s.modFire n fun x => { x with finished := true }
  | _, _ => s

/-- All tiles of a window judged against the document's end. -/
def State.checkPasses (s : State) (w : Nat) : State :=
  match (s.win w).doc with
  | some d => ((s.partTiles w).foldl (fun s n => if (s.fireT n).doc.isSome then s.checkPass n w d else s) s).tryComplete w
  | none => s

/-- The drops that prepared cycles hold for image lines beyond the document's end are dropped (R156, R159): from then on
cycles fire only lines up to J_end. -/
def cutPacket (d : Doc) (p : Packet) : Packet :=
  match d.jEnd with
  | some j =>
    if p.spit then p
    else
      let es := p.entries.filter fun e => decide (sx 32 (p.f + 2 ^ 33 - d.s - 8 * (e.1 / 1024)) ≤ j)
      { p with entries := es, fired := es.length }
  | none => p

/-- Every prepared cycle of the window's tiles cut to the document's end. -/
def State.cutPackets (s : State) (w : Nat) (d : Doc) : State :=
  (s.partTiles w).foldl (fun s n =>
    let s := s.modPort n fun p => { p with ready := p.ready.map (cutPacket d) }
    match (s.th n).engine with
    | some e => s.modLane e fun l => { l with inFlight := l.inFlight.map (cutPacket d), outReg := l.outReg.map (cutPacket d) }
    | none => s) s

/-- A close event of a window (R156). -/
def State.closeWin (s : State) (w : Nat) : State :=
  match (s.win w).doc with
  | none => s
  | some d =>
    let j := sx 32 (s.refLine w + 2 ^ 32 - d.s) - 1
    let short := d.len != 0 && (match d.jEnd with | some e => decide (j < e) | none => false)
    if (d.len == 0 && d.jEnd.isNone) || (short && !d.stopped) then
      let d := { d with jEnd := some j, short := d.short || short }
      let s := s.modWin w fun x => { x with doc := some d }
      let s := if short then (s.setF (FIRE_WIN_w_STATUS_SHORT w) 1).raise kFIRE_CLOSE_SHORT w else s
      (((s.cutPackets w d).showLast w).checkExtent w).checkPasses w
    else s

/-- A stop asked for the open document of a window: it takes effect at the next reference line event (R159). -/
def State.askStop (s : State) (w : Nat) : State :=
  s.modWin w fun x => { x with doc := x.doc.map fun d => if d.stopped then d else { d with stopReq := true } }

/-- The stop takes effect (R159, R169): J is the last image line whose row-0 cycle has been taken on every tile of the
window. A document whose end that reaches is finished, not stopped. -/
def State.applyStop (s : State) (w : Nat) : State :=
  match (s.win w).doc with
  | some d =>
    if !d.stopReq then s
    else
      let js := ((s.partTiles w).filter fun n => (s.fireT n).doc.isSome).map fun n =>
        if (s.fireT n).finished then d.jEnd.getD 0 else sx 32 (s.f (FIRE_n_HWM_H n) + 2 ^ 32 - d.s)
      let j := match js with
        | [] => -1
        | a :: r => r.foldl min a
      if (match d.jEnd with | some e => decide (e ≤ j) | none => false) then
        s.modWin w fun x => { x with doc := some { d with stopReq := false } }
      else
        let d := { d with stopReq := false, stopped := true, jEnd := some j }
        let s := (s.modWin w fun x => { x with doc := some d }).setF (FIRE_WIN_w_STATUS_STOPPING w) 1
        ((s.cutPackets w d).showLast w).checkPasses w
  | none => s

/-! ### Natural gaps (R25, R160, R161, R189, R337) -/

/-- A list of parts in which new ones replace the old of the same key, the others kept (R98). -/
def mergeBy {α : Type} (key : α → Nat) (old new : List α) : List α :=
  (old.filter fun o => new.all fun n => key n != key o) ++ new

/-- The armed image with a live image's tables (R78, R98). -/
def Image.takeLive (im : Image) (l : LiveImage) : Image :=
  { im with id := l.id, masks := mergeBy (·.idx) im.masks l.masks, energy := mergeBy (·.plane) im.energy l.energy,
            feeds := mergeBy (·.idx) im.feeds l.feeds }

/-- The tables of a pending live image take effect for the tiles of a window, its cue functions with the master window;
`hold` is the instant to which cue lines are held, 0 for the end of the gap (R98, R100, R120, R161). -/
def State.liveSwap (s : State) (w hold : Nat) : State :=
  match s.cfg.live, s.cfg.armed with
  | some l, some im =>
    if !s.cfg.liveWins.contains w then s
    else
      let left := s.cfg.liveWins.filter (· != w)
      let s := { s with cfg := { s.cfg with liveWins := left } }
      let s := match l.cues with
        | some cs => if w = s.f FIRE_CTRL_MASTER_WIN then
            let s := s.holdCues im.cues cs hold
            ({ s with cfg := { s.cfg with armed := some { im with cues := cs } } }).showCues
          else s
        | none => s
      let s := (s.winTiles w).foldl (fun s n => s.resetFire n) s
      let s := match s.refInput? w with
        | some p => if (s.posRec p).refTake then s
          else
            let ls := lineStateOf (s.f (POS_n_COUNT_LO_COUNT p)) ((s.posRec p).offset * 65536) (s.ratio p)
            (s.modPin p fun x => { x with ls := ls }).setFields [(POS_n_LINE_LINE p, ls.line), (POS_n_LINE_PHASE_PHASE p, ls.phase.toNat)]
        | none => s
      if left.isEmpty then
        let s := { s with cfg := { s.cfg with
          live := none,
          armed := s.cfg.armed.map fun (a : Image) => a.takeLive l } }
        s.setFields [(CFG_STATUS_LIVE_PENDING, 0), (CFG_IMAGE_ID_IMAGE_ID, l.id)]
      else s
  | _, _ => s

/-- The swaps of a window (R25 order 1 and 2, R161): health maps, live tables, row trims, lane engines, bypasses. -/
def State.swapWin (s : State) (w : Nat) : State :=
  let ts := sortNat (s.winTiles w)
  let s := s.modWin w fun x => { x with swapAt := none }
  let changed := ts.any fun n => s.fb (HLTH_n_STATUS_SWAP_PENDING n) && s.swapChanges n
  let s := ts.foldl (fun s n => s.healthSwap n) s
  let s := if changed then s.modWin w fun x => { x with rcDocs := some 0 } else s
  let s := ts.foldl State.calSwap s
  let s := s.liveSwap w 0
  let s := ts.foldl (fun s n => s.modPort n fun p =>
    { p with trInUse := (List.range 12).map fun r =>
        clamp (-32) 32 (p.rowDly.getD r 0 + s.fs (CAL_PORT_n_A_TR_CORR n)) }) s
  let s := (s.serveSpares ts).serveRolls ts
  ts.foldl (fun s n => if (s.th n).bypassReq then s.bypassTile n else s) s

/-- The counts of the oldest rendered document of a window are delivered to the power broker once its prefill is complete
on every tile (R240): CMP_q_PLAN shows them, and the admission check of R355 follows. -/
def State.tryDeliver (s : State) (w : Nat) : State :=
  match s.nextDoc? w with
  | some d =>
    if d.stage = 1 && (s.winTiles w).all fun n => s.bypassed n || d.prefilled.contains n then
      let qs := ((s.winTiles w).map (· / 4)).eraseDups
      let s := qs.foldl (fun s q => s.setF (CMP_q_PLAN_DROPS q) (sat 32 (d.plan.getD q 0))) s
      ((s.modDoc d.id fun x => { x with stage := 2 }).showQueue w).admitDoc w
    else s
  | none => s

/-- A natural gap of a window begins (R25, R160): swaps, planning energies, usage writes, thermal and broker pauses. -/
def State.beginGap (s : State) (w : Nat) : State :=
  let s := s.modWin w fun x => { x with inGap := true, ended := false, announced := false }
  let s := s.clearScanned w
  let s := s.swapWin w
  let s := s.planEnergies (sortNat (s.winTiles w))
  let s := (s.winTiles w).foldl (fun s n => if 10 ^ 10 ≤ (s.port n).pendUse then s.usageWrite n else s) s
  (((s.thermalGap w).admitDoc w).tryDeliver w).calRetry

/-- A reference line event of a window (R158 to R160): the gap begins at the first after the last strobe; a stop takes
effect; a deferred open takes effect once nothing holds it. -/
def State.windowLine (s : State) (w : Nat) : State :=
  let x := s.win w
  let strobes := (s.winTiles w).any fun n => (s.fireT n).held.isSome || !(s.fireT n).launch.isEmpty
  let s :=
    if x.doc.isSome then s
    else if x.ended then
      if strobes then s
      else (s.modWin w fun x => { x with gapLines := 1, gapCycle := none }).beginGap w
    else
      let s := s.modWin w fun x => { x with gapLines := x.gapLines + 1, gapCycle := none }
      if x.swapAt.isNone then s
      else if x.gapLines = 0 then s.swapWin w
      else s.modWin w fun x => { x with swapAt := none }
  let s := if (s.win w).doc.isNone && (s.win w).gapLines = max 1 (s.f (FIRE_WIN_w_CTRL_GAPMIN w)) then
      s.modWin w fun x => { x with gapCycle := some (s.now / 4) } else s
  let s := s.applyStop w
  if (s.win w).defer.isSome && s.func == NOON && !s.early w && s.openReady w then s.acceptOpen w else s

/-- A swap asked for while a window is in a gap takes place 1 ms later if no reference line event comes (R161). -/
def State.noteSwaps (s : State) : State :=
  (List.range 16).foldl (fun s w =>
    let x := s.win w
    let ts := s.winTiles w
    if x.doc.isNone && x.swapAt.isNone && !ts.isEmpty &&
        (s.cfg.liveWins.contains w ||
          ts.any fun n => s.fb (HLTH_n_STATUS_SWAP_PENDING n) || (s.th n).bypassReq || (s.th n).waitSpare || (s.th n).moveBack) then
      s.modWin w fun x => { x with swapAt := some s.now }
    else s) s

/-! ### Fire line events (R147, R149, R153, R154) -/

/-- FIRE_n_STATUS.REVERSED: the fire line is not ahead of H by R110. -/
def State.showReversed (s : State) (n : Nat) : State :=
  s.setFb (FIRE_n_STATUS_REVERSED n) (!aheadOf 32 (s.f (FIRE_n_FLINE_F n)) (s.f (FIRE_n_HWM_H n)))

/-- The time of the tile's previous strobe, those already placed included. -/
def prevStrobe (x : FireT) : Option Nat :=
  match x.launch.getLast? with
  | some c => some c.target
  | none => x.lastStrobe

/-- A cycle's packet is discarded (R154, R321): a DISCARD block names its tag, and it is not kept anywhere. -/
def State.dropPacket (s : State) (n f : Nat) : State :=
  let s := (s.modPort n fun p => { p with ready := p.ready.filter fun q => q.f != f }).emit (.discard n (f % 65536))
  match (s.th n).engine with
  | some e => (s.modLane e fun l => { l with inFlight := l.inFlight.filter (fun q => q.f != f),
                                             outReg := l.outReg.filter (fun q => q.f != f) }).tagRecord (cycleTag e f) true
  | none => s

/-- A cycle is taken for fire line F with a strobe target (R149, R153, R154). -/
def State.takeCycle (s : State) (n w f target : Nat) (d : Doc) : State :=
  let x := s.fireT n
  let s := (s.setF (FIRE_n_HWM_H n) f).count 4 n 1
  match x.held with
  | some h =>
    let s := ((s.setF (FIRE_n_STATUS_SKIP n) 1).addF (FIRE_n_CNT_SKIP_CNT n) 1).count 6 n 1
    let s := s.raiseLane (tileDie n) kFIRE_OVERRUN (n + h.f % 2 ^ 25 * 128)
    let s := s.modWin w fun x => { x with skips := x.skips ++ [h.f] }
    let s := s.dropPacket n h.f
    let s := (s.addF (FIRE_n_CNT_HOLD_CNT n) 1).count 5 n 1
    s.modFire n fun x => { x with held := some { f := f, target := max target h.target, doc := d.id } }
  | none =>
    let late := match prevStrobe x with
      | some p => decide (target < p + 33000)
      | none => false
    if late then
      let s := ((s.setF (FIRE_n_STATUS_HELD n) 1).addF (FIRE_n_CNT_HOLD_CNT n) 1).count 5 n 1
      s.modFire n fun x => { x with held := some { f := f, target := (prevStrobe x).getD 0 + 33000, doc := d.id } }
    else s.modFire n fun x => { x with launch := x.launch ++ [{ f := f, target := target, doc := d.id }] }

/-- A fire line event of a tile (R142, R147, R154, R181): the line entered, the direction and its time stamp. -/
def State.fireEvent (s : State) (n f : Nat) (fwd : Bool) (stamp : Nat) : State :=
  let s := s.setF (FIRE_n_FLINE_F n) f
  match s.tileRec? n with
  | none => s
  | some r =>
    let w := r.docwin
    let s :=
      if !fwd then
        match (s.fireT n).held with
        | some h =>
          if (f + 1) % 2 ^ 32 = h.f then
            ((s.setF (FIRE_n_HWM_H n) f).setF (FIRE_n_STATUS_HELD n) 0).modFire n fun x => { x with held := none }
          else s
        | none => s
      else
        let s := s.modFire n fun x => { x with ev2 := x.ev1, ev1 := some stamp }
        match (s.fireT n).doc, (s.win w).doc with
        | some _, some d =>
          let inDoc := match endLine d with
            | some e => aheadOf 32 e f
            | none => true
          let ok := f == (s.f (FIRE_n_HWM_H n) + 1) % 2 ^ 32 && inDoc && !(s.fireT n).finished
          let filter := match s.inputOf? n with
            | some p => (s.posRec p).filterNs
            | none => 1
          let s := if ok && !s.health.dieUnlocked.contains (1 + tileDie n) then s.takeCycle n w f (stamp + filter * 4 + 11) d else s
          (s.checkPass n w d).tryComplete w
        | _, _ => s
    s.showReversed n

end Sys2Proof.Machine
end

