-- ==== Sys2Proof/Machine/CfgOps.lean ====
section
/-!
DEFINITION. Shared operations of chapter 03: reading a layout image, the checks of R92 to R97 and R507, and its content.
A check answers its first failure as reason, section and item (R94), or none.
-/
namespace Sys2Proof.Machine

/-- A first failure: reason, section and item (R94). -/
abbrev Fail := Option (Nat × Nat × Nat)

/-- The first of a list of tests that fails, as its reason and item, in a section. -/
def firstBad (sec : Nat) : List (Bool × Nat × Nat) → Fail
  | [] => none
  | (b, r, i) :: rest => if b then some (r, sec, i) else firstBad sec rest

/-- The first failure of several checks taken in order. -/
def firstFail : List Fail → Fail
  | [] => none
  | some f :: _ => some f
  | none :: r => firstFail r

/-- A field of `n` bytes at offset `o` of an image (R72). -/
def rdI (g : Nat → Nat) (o n : Nat) : Nat := le ((List.range n).map fun i => g (o + i))

/-- The bytes of an image from `o` on. -/
def bytesI (g : Nat → Nat) (o n : Nat) : List Nat := (List.range n).map fun i => g (o + i)

/-- Some byte of a stretch is not 0. -/
def dirtyI (g : Nat → Nat) (o n : Nat) : Bool := (List.range n).any fun i => g (o + i) != 0

/-- A length rounded up to 64 bytes (R79). -/
def pad64 (n : Nat) : Nat := (n + 63) / 64 * 64

/-! ### Source and header (R70, R73, R74) -/

/-- The image that a CFG_SOURCE code names (R70). -/
def State.imageAt (s : State) (src : Nat) : Option (Nat → Nat) :=
  if src = 0 then some fun a => (Sparse.get (fun _ => (0 : Byte)) s.mem.staging a).toNat
  else if 8 ≤ src then
    (lookup? s.nv.slots (src - 8)).map fun x => fun a => (Sparse.get (fun _ => (0 : Byte)) x.bytes a).toNat
  else none

/-- SIG matches under the stored layout key (R74). -/
def State.sigOk (s : State) (g : Nat → Nat) (len : Nat) : Bool :=
  match s.nv.key with
  | some k => hmacSha256 k ((List.range len).map fun a => if 0x1C ≤ a && a < 0x40 then 0 else g a) == bytesI g 0x20 32
  | none => false

/-- The header tests 0x10 to 0x14 (R507); `bad` is an uncorrectable memory error met in the image, reported as 0x14 (R460). -/
def headTests (bad : Bool) (g : Nat → Nat) : List (Bool × Nat × Nat) :=
  let len := rdI g 8 4
  [(rdI g 0 4 != 0x494C484B, 0x10, 0), (rdI g 6 2 != 1, 0x11, 6), (decide (2 < rdI g 4 2), 0x12, 4),
   (decide (len < 128 ∨ 4194304 < len) || len % 64 != 0, 0x13, 8),
   (bad || crc32c ((List.range len).map fun a => if 0x1C ≤ a && a < 0x20 then 0 else g a) != rdI g 0x1C 4, 0x14, 0x1C)]

/-- The signature tests 0x15 and 0x16. -/
def State.sigTests (s : State) (g : Nat → Nat) : List (Bool × Nat × Nat) :=
  [(s.nv.layoutLock && !bit (rdI g 0xC 4) 0, 0x15, 0xC), (bit (rdI g 0xC 4) 0 && !s.sigOk g (rdI g 8 4), 0x16, 0x20)]

/-- The tests 0x18, in ascending header offset. -/
def reservedTests (g : Nat → Nat) : List (Bool × Nat × Nat) :=
  [(decide (4 ≤ rdI g 0xC 4), 0x18, 0xC), (rdI g 0x10 4 == 0, 0x18, 0x10), (rdI g 0x16 2 != 0, 0x18, 0x16),
   (!bit (rdI g 0xC 4) 0 && dirtyI g 0x20 32, 0x18, 0x20)]

/-- The header of an image to be armed or applied live (R92 step 2, R507). -/
def State.checkHeader (s : State) (g : Nat → Nat) (live : Bool) : Fail :=
  let v := g 0x14
  let id := s.f CFG_IMAGE_ID_IMAGE_ID
  firstBad 0 (headTests s.mem.eccImage g ++ s.sigTests g ++ [((v == 1 && s.ident.variantA) || (v == 2 && !s.ident.variantA) || decide (2 < v), 0x17, 0x14)] ++
    reservedTests g ++ [(bit (rdI g 0xC 4) 1 != live, 0x19, 0xC),
      (if live then id == 0 || rdI g 0x18 4 != id else rdI g 0x18 4 != 0, 0x1A, 0x18)])

/-- The checks of a store (R71): the header, the reserved bits, and with LAYOUT_LOCK the signature. -/
def State.checkStore (s : State) (g : Nat → Nat) : Fail :=
  firstFail [if s.nvOk then none else some (0x05, 0, 0), firstBad 0 (headTests s.mem.eccImage g ++ reservedTests g),
    if s.nv.layoutLock then firstBad 0 (s.sigTests g) else none]

/-! ### Directory (R77, R78) -/

/-- An entry of the directory: type, offset and length. -/
structure DirEnt where
  type : Nat
  off : Nat
  len : Nat
deriving DecidableEq, Repr

/-- The directory of an image. -/
def dirOf (g : Nat → Nat) : List DirEnt :=
  (List.range (g 0x15)).map fun k => ⟨g (0x40 + 16 * k), rdI g (0x44 + 16 * k) 4, rdI g (0x48 + 16 * k) 4⟩

/-- The directory tests (R507 step 3). -/
def checkDir (g : Nat → Nat) (live : Bool) : Fail :=
  let n := g 0x15
  let len := rdI g 8 4
  let es := dirOf g
  if n = 0 || 10 < n || decide (len < 0x40 + 16 * n) then some (0x20, 0, 0)
  else
    let entry := fun (k : Nat) =>
      let e := es.getD k ⟨0, 0, 0⟩
      let low := es.take k
      firstBad 0 [(e.off % 64 != 0 || e.len % 64 != 0 || decide (e.off < 0x40 + 16 * n) || decide (len < e.off + e.len), 0x21, k),
        (low.any fun x => decide (e.off < x.off + x.len ∧ x.off < e.off + e.len), 0x22, k), (low.any (·.type == e.type), 0x23, k),
        (e.type == 0 || decide (10 < e.type), 0x24, k), (crc32c (bytesI g e.off e.len) != rdI g (0x4C + 16 * k) 4, 0x26, k),
        (g (0x41 + 16 * k) != 1, 0x27, k), (rdI g (0x42 + 16 * k) 2 != 0, 0x2A, k)]
    match (List.range n).findSome? entry with
    | some f => some f
    | none =>
      if live then none
      else firstBad 0 ([1, 2, 3, 4, 5, 8].map fun t => (es.all (·.type != t), 0x25, t))

/-- A section by type: its offset and length. -/
def secOf (g : Nat → Nat) (t : Nat) : Option (Nat × Nat) := ((dirOf g).find? (·.type == t)).map fun e => (e.off, e.len)

/-- COUNT of a section. -/
def cntOf (g : Nat → Nat) (o : Nat) : Nat := rdI g o 2

/-- The preamble tests of a section of records (R79, R507): 0x28, 0x2A, and for a live image 0x29. -/
def preTests (g : Nat → Nat) (o len rsize lo hi tail : Nat) (barred : Bool) : List (Bool × Nat × Nat) :=
  let n := cntOf g o
  [(decide (len < 8) || rdI g (o + 2) 2 != rsize || decide (n < lo ∨ hi < n) || len != pad64 (8 + rsize * n + tail), 0x28, 0),
   (rdI g (o + 4) 4 != 0, 0x2A, 0), (barred, 0x29, 0)]

/-! ### Tile map (R80 to R82) -/

/-- A tile record from its bytes. -/
def tileAt (g : Nat → Nat) (o : Nat) : TileRec :=
  { tile := g o, plane := g (o + 1), bypassOk := bit (g (o + 4)) 2, shuttle := bit (g (o + 4)) 1, enable := bit (g (o + 4)) 0,
    docwin := g (o + 5) / 16, feed := g (o + 5) % 16, split := g (o + 6), colStart := rdI g (o + 8) 4, yOffset := sx 32 (rdI g (o + 12) 4) }

/-- The records of the tile map. -/
def tilesAt (g : Nat → Nat) (o : Nat) : List TileRec := (List.range (cntOf g o)).map fun i => tileAt g (o + 8 + 16 * i)

/-- The records of one plane's enabled tiles with their indices, in ascending COL_START, ties by index. -/
def planeRun (ts : List TileRec) (p : Nat) : List (Nat × TileRec) :=
  let rs := ((List.range ts.length).zip ts).filter fun e => e.2.enable && e.2.plane == p
  (sortNat (rs.map fun e => e.2.colStart * 256 + e.1)).filterMap fun k => rs.find? fun e => e.1 == k % 256

/-- The stitch rule of R81 over the pairs of a run (R507). -/
def stitch : List (Nat × TileRec) → Fail
  | a :: b :: r =>
    let d := b.2.colStart - a.2.colStart
    if d = 992 then stitch (b :: r)
    else if d < 1024 then some (0x34, 1, b.1)
    else if a.2.split != 0 then some (0x34, 1, a.1)
    else stitch (b :: r)
  | [a] => if a.2.split != 0 then some (0x34, 1, a.1) else none
  | [] => none

/-- A quad record. -/
def quadAt (g : Nat → Nat) (o : Nat) : QuadRec := { vppMv := rdI g o 2, used := bit (g (o + 2)) 0 }

/-- Whether a tile failed the last Dawn or was declared absent in it (R82). -/
def State.dawnBad (s : State) (n : Nat) : Bool := s.sys.dawnBad.contains n

/-- The tile map's tests. -/
def State.checkTiles (s : State) (g : Nat → Nat) (o len : Nat) (live : Bool) : Fail :=
  let n := cntOf g o
  let ts := tilesAt g o
  let one := fun (i : Nat) =>
    let r := ts.getD i { tile := 0 }
    let a := o + 8 + 16 * i
    let prev := ts.getD (i - 1) { tile := 0 }
    firstBad 1 [(decide (95 < r.tile) || (i != 0 && decide (r.tile < prev.tile)), 0x30, i), (i != 0 && r.tile == prev.tile, 0x31, i),
      (g (a + 2) != r.tile / 4 || g (a + 3) != r.tile % 4, 0x32, i), (decide (32 < r.split), 0x34, i),
      (decide (7 < r.plane) || decide (r.yOffset < -268435456 ∨ 268435456 < r.yOffset), 0x36, i),
      (!live && r.enable && !r.bypassOk && s.dawnBad r.tile, 0x37, i), (decide (8 ≤ g (a + 4)) || g (a + 7) != 0, 0x38, i)]
  let quad := fun (q : Nat) =>
    let a := o + 8 + 16 * n + 8 * q
    let r := quadAt g a
    firstBad 1 [((ts.any fun t => t.enable && t.tile / 4 == q) != r.used || (r.used && decide (r.vppMv < 14000 ∨ 36000 < r.vppMv)), 0x35, 0x1000 + q),
      (decide (2 ≤ g (a + 2)) || dirtyI g (a + 3) 5, 0x38, 0x1000 + q)]
  firstFail [firstBad 1 (preTests g o len 16 1 96 192 live), (List.range n).findSome? one,
    (List.range 8).findSome? fun p => stitch (planeRun ts p), (List.range 24).findSome? quad]

/-! ### Position routing and event fabric (R83, R84) -/

/-- A position input record. -/
def posAt (g : Nat → Nat) (o : Nat) : PosRec :=
  let f := g (o + 3)
  { mode := g (o + 1), filterNs := g (o + 2), refTake := bit f 4, refSend := bit f 3, dirchgIrq := bit f 2, zEn := bit f 1, invert := bit f 0,
    ratio := rdI g (o + 4) 4, offset := sx 32 (rdI g (o + 8) 4), stillUs := rdI g (o + 12) 4, tiles := rdI g (o + 16) 12, refCh := g (o + 28) }

/-- The sixteen records. -/
def possAt (g : Nat → Nat) (o : Nat) : List PosRec := (List.range 16).map fun i => posAt g (o + 8 + 32 * i)

/-- The position routing's tests. -/
def checkPos (g : Nat → Nat) (o len : Nat) (live : Bool) : Fail :=
  let ps := possAt g o
  let one := fun (i : Nat) =>
    let r := ps.getD i {}
    let a := o + 8 + 32 * i
    firstBad 2 [(decide (32 ≤ g (a + 3)) || dirtyI g (a + 29) 3, 0x2A, i), (decide (3 < r.mode) || g a != i, 0x40, i),
      (r.filterNs == 0 || decide (250 < r.filterNs), 0x41, i), (decide (r.ratio < 0x1000 ∨ 0x4000000 < r.ratio), 0x42, i),
      (decide (r.stillUs < 10 ∨ 1000000 < r.stillUs), 0x44, i),
      ((r.refSend && r.refTake) || ((r.refSend || r.refTake) && decide (15 < r.refCh)) ||
        (r.refSend && (ps.take i).any fun x => x.refSend && x.refCh == r.refCh), 0x45, i)]
  firstFail [firstBad 2 (preTests g o len 32 16 16 0 live), (List.range 16).findSome? one]

/-- The codes of R84. -/
def srcKnown (c : Nat) : Bool := decide (c < 0x74)
def dstKnown (c : Nat) : Bool := decide (0x100 ≤ c ∧ c < 0x154)

/-- The routes. -/
def routesAt (g : Nat → Nat) (o : Nat) : List (Nat × Nat) :=
  (List.range (cntOf g o)).map fun i => (rdI g (o + 8 + 8 * i) 2, rdI g (o + 10 + 8 * i) 2)

/-- The event fabric's tests; more than 256 routes is tested after 0x28 and before the records (R507). -/
def checkFabric (g : Nat → Nat) (o len : Nat) (live : Bool) : Fail :=
  let n := cntOf g o
  let one := fun (i : Nat) =>
    let a := o + 8 + 8 * i
    firstBad 3 [(rdI g (a + 4) 4 != 0, 0x2A, i), (!(srcKnown (rdI g a 2) && dstKnown (rdI g (a + 2) 2)), 0x48, i)]
  firstFail [firstBad 3 (preTests g o len 8 0 65535 0 live), firstBad 3 [(decide (256 < n), 0x48, 256)], (List.range n).findSome? one]

/-! ### Lane pipeline (R85, R186, R187) -/

/-- A part: type, index, whether its header's reserved bytes hold something, where its data lies and how long it is. -/
structure Part where
  ptype : Nat
  pindex : Nat
  res : Bool
  o : Nat
  len : Nat
deriving DecidableEq, Repr

/-- The parts of a section from an address on, and where the last ends; none when one does not fit before `stop`. -/
def partsFrom (g : Nat → Nat) (stop : Nat) : Nat → Nat → Option (List Part × Nat)
  | 0, a => some ([], a)
  | n + 1, a =>
    let len := rdI g (a + 4) 4
    if stop < a + 8 || stop < a + 8 + len then none
    else match partsFrom g stop n (a + 8 + (len + 7) / 8 * 8) with
      | some (ps, e) => some (⟨g a, g (a + 1), g (a + 2) != 0 || g (a + 3) != 0, a + 8, len⟩ :: ps, e)
      | none => none

/-- The parts of the lane pipeline section. -/
def partsAt (g : Nat → Nat) (o len : Nat) : List Part :=
  match partsFrom g (o + len) (cntOf g o) (o + 8) with
  | some (ps, _) => ps
  | none => []

/-- The part's preamble is consistent (R79, R507). -/
def pipeShape (g : Nat → Nat) (o len : Nat) : Bool :=
  decide (8 ≤ len) && rdI g (o + 2) 2 == 0 && match partsFrom g (o + len) (cntOf g o) (o + 8) with
    | some (_, e) => len == pad64 (e - o)
    | none => false

def side (w : Nat) : Bool := w == 8 || w == 16 || w == 32 || w == 64

/-- Reserved bytes of a part's data that lie within it and hold something (R96). -/
def Part.resData (g : Nat → Nat) (p : Part) : Bool :=
  let z := fun (a n : Nat) => (List.range n).any fun i => decide (a + i < p.len) && g (p.o + a + i) != 0
  match p.ptype with
  | 1 => z 2 2
  | 2 => z 3 1
  | 3 => z 2 2
  | 5 => z 0xAA 6
  | 6 => z 1 3
  | _ => false

/-- A part's own data: its reason code when it is out of range (R85, R96, R186, R187). -/
def Part.bad (g : Nat → Nat) (p : Part) : Option Nat :=
  let b := fun (i : Nat) => g (p.o + i)
  let h := fun (i : Nat) => rdI g (p.o + i) 2
  match p.ptype with
  | 1 => if decide (4 ≤ p.len) && side (b 0) && side (b 1) && p.len == 4 + 3 * b 0 * b 1 then none else some 0x57
  | 2 => if p.len == 4 && decide (b 0 ≤ 1) && decide (1 ≤ b 1 ∧ b 1 ≤ 3) && decide (b 2 ≤ 1) then none else some 0x55
  | 3 => if decide (4 ≤ p.len) && decide (b 0 ≤ 1) && decide (1 ≤ b 1 ∧ b 1 ≤ if b 0 = 0 then 12 else 16) && p.len == 4 + 512 * b 1 then none
      else some 0x52
  | 4 => if p.len == 8 && decide (1 ≤ h 2) && decide (h 6 ≤ 32000) then none else some 0x55
  | 5 =>
    if p.len == 176 && ((List.range 64).all fun i => decide (2000 ≤ h (2 * i))) && decide (14000 ≤ h 0x80 ∧ h 0x80 ≤ 36000) &&
        decide (0 ≤ sx 16 (h 0x82) ∧ sx 16 (h 0x82) ≤ 16384) &&
        ((List.range 16).all fun r => decide (-8000 ≤ sx 16 (h (0x84 + 2 * r)) ∧ sx 16 (h (0x84 + 2 * r)) ≤ 8000)) &&
        decide (125 ≤ h 0xA4 ∧ h 0xA4 ≤ 1000) && decide (h 0xA6 ≤ 16000 ∧ h 0xA8 ≤ 16000) && (h 0xA6 != 0 || h 0xA8 == 0) then none
    else some 0x53
  | _ => if p.len == 68 && decide (1 ≤ b 0 ∧ b 0 ≤ 16) && !dirtyI g (p.o + 4 + 4 * b 0) (64 - 4 * b 0) then none else some 0x54

/-- The greatest PINDEX of a part type (R85). -/
def pindexMax (t : Nat) : Nat := match t with | 1 => 7 | 2 => 0 | 3 => 15 | 4 => 0 | 5 => 7 | _ => 15

/-- The lane pipeline's tests. -/
def checkPipe (g : Nat → Nat) (o len : Nat) (live : Bool) : Fail :=
  let ps := partsAt g o len
  let at' := fun (i : Nat) => ps.getD i ⟨0, 0, false, 0, 0⟩
  let barred := fun (i : Nat) =>
    firstBad 4 [(live && !((at' i).ptype == 3 || (at' i).ptype == 5 || (at' i).ptype == 6), 0x29, i)]
  let one := fun (i : Nat) =>
    let p := at' i
    firstBad 4 [(p.res || p.resData g, 0x2A, i), (p.ptype == 0 || decide (6 < p.ptype), 0x50, i),
      (decide (pindexMax p.ptype < p.pindex) || (ps.take i).any fun x => x.ptype == p.ptype && x.pindex == p.pindex, 0x51, i),
      ((p.bad g).isSome, (p.bad g).getD 0, i)]
  firstFail [firstBad 4 [(!pipeShape g o len, 0x28, 0), (rdI g (o + 4) 4 != 0, 0x2A, 0)], (List.range ps.length).findSome? barred,
    (List.range ps.length).findSome? one,
    if live then none
    else firstBad 4 ([2, 3, 4].map fun t => (ps.all (fun p => !(p.ptype == t && p.pindex == 0)), 0x56, t * 0x100))]

/-- The content of the parts. -/
def screensOf (g : Nat → Nat) (ps : List Part) : List Screen :=
  (ps.filter (·.ptype == 1)).map fun p => { idx := p.pindex, w := g p.o, h := g (p.o + 1), thr := bytesI g (p.o + 4) (3 * g p.o * g (p.o + 1)) }
def policyOf (g : Nat → Nat) (ps : List Part) : RowPolicy :=
  match ps.find? (·.ptype == 2) with
  | some p => { rotate := g p.o, maxdrop := g (p.o + 1), drift := g (p.o + 2) }
  | none => {}
def masksOf (g : Nat → Nat) (ps : List Part) : List MaskSet :=
  (ps.filter (·.ptype == 3)).map fun p => { idx := p.pindex, kind := g p.o, planes := g (p.o + 1), bits := bytesI g (p.o + 4) (512 * g (p.o + 1)) }
def historyOf (g : Nat → Nat) (ps : List Part) : History :=
  match ps.find? (·.ptype == 4) with
  | some p => { decay := rdI g p.o 2, heat := rdI g (p.o + 2) 2, gain := rdI g (p.o + 4) 2, limit := rdI g (p.o + 6) 2 }
  | none => {}
def energyOf (g : Nat → Nat) (ps : List Part) : List Energy :=
  (ps.filter (·.ptype == 5)).map fun p =>
    let h := fun (i : Nat) => rdI g (p.o + i) 2
    { plane := p.pindex, base := (List.range 64).map fun b => h (2 * b), vref := h 0x80, vcoef := sx 16 (h 0x82),
      ranks := (List.range 16).map fun r => sx 16 (h (0x84 + 2 * r)), stepPs := h 0xA4, prePs := h 0xA6, gapPs := h 0xA8 }
def feedsOf (g : Nat → Nat) (ps : List Part) : List Feed :=
  (ps.filter (·.ptype == 6)).map fun p =>
    { idx := p.pindex, n := g p.o, adv := (List.range (g p.o)).map fun i => sx 32 (rdI g (p.o + 4 + 4 * i) 4) }

/-! ### Memory partition (R86, R278) -/

/-- The regions. -/
def regionsAt (g : Nat → Nat) (o : Nat) : List Region :=
  (List.range (cntOf g o)).map fun i =>
    let a := o + 8 + 16 * i
    { region := rdI g a 2, kind := g (a + 2), baseMib := rdI g (a + 4) 4, sizeMib := rdI g (a + 8) 4 }

/-- Where the bank-state table begins. -/
def banksAt (g : Nat → Nat) (o : Nat) : Nat := o + 8 + 16 * cntOf g o

/-- The scratchpad banks that hold staging queues of enabled streams (R278): the pool's units fill the banks that are on
from the lowest upward (DEDUCED, log entry 38). -/
def State.poolBanks (s : State) : List Nat :=
  let units := ((s.dma.streams.filter fun e => s.fb (DMA_s_CTRL_EN e.1)).map (·.2.units)).sum
  ((List.range 16).filter fun b => s.spadOn b).take (ceilDiv units 64)

/-- Whether the banks of a lane engine must be on: it serves an enabled tile (R86). -/
def State.laneNeeded (s : State) (ts : List TileRec) (e : Nat) : Bool :=
  ts.any fun r => r.enable && (s.th r.tile).engine.getD r.tile == e

/-- The memory partition's tests. -/
def State.checkMem (s : State) (g : Nat → Nat) (o len : Nat) (live : Bool) (ts : List TileRec) : Fail :=
  let rs := regionsAt g o
  let one := fun (i : Nat) =>
    let a := o + 8 + 16 * i
    let r := rs.getD i { region := 0, kind := 0, baseMib := 0, sizeMib := 0 }
    firstBad 5 [(g (a + 3) != 0 || rdI g (a + 12) 4 != 0, 0x2A, i),
      (r.kind == 0 || decide (3 < r.kind) || r.sizeMib == 0 || decide (63 < r.region) || decide (65536 < r.baseMib + r.sizeMib), 0x60, i),
      ((rs.take i).any fun x => x.region == r.region || decide (x.baseMib < r.baseMib + r.sizeMib ∧ r.baseMib < x.baseMib + x.sizeMib), 0x61, i)]
  let bank := fun (b : Nat) =>
    let v := g (banksAt g o + b)
    let fs := if b < 104 then [v % 4, v / 4 % 4, v / 16 % 4] else [v % 4]
    let must := if b < 104 then s.laneNeeded ts b else decide (120 ≤ b) || s.poolBanks.contains (b - 104)
    firstBad 5 [(fs.contains 3 || (must && fs.any (· != 0)), 0x62, 0x2000 + b),
      (decide ((if b < 104 then 64 else 4) ≤ v), 0x2A, 0x2000 + b)]
  firstFail [firstBad 5 (preTests g o len 16 1 64 136 live), (List.range rs.length).findSome? one,
    firstBad 5 [(rs.all (·.kind != 1), 0x63, 0)], (List.range 136).findSome? bank]

/-! ### Cue functions (R87) -/

def cueAt (g : Nat → Nat) (o : Nat) : CueRec :=
  { func := g (o + 1), activeLow := bit (g (o + 2)) 0, safe := g (o + 3), param := rdI g (o + 4) 2, filterUs := rdI g (o + 6) 2 }
def cuesAt (g : Nat → Nat) (o : Nat) : List CueRec := (List.range 16).map fun i => cueAt g (o + 8 + 8 * i)

/-- PARAM's range by function (R87). -/
def cueParamOk (f p : Nat) : Bool :=
  match f with
  | 1 => decide (p ≤ 15)
  | 2 => decide (p ≤ 15)
  | 5 => decide (1 ≤ p ∧ p ≤ 1000)
  | 6 => decide (p ≤ 3)
  | 8 => decide (p ≤ 15)
  | _ => p == 0

/-- The cue functions' tests. -/
def State.checkCues (s : State) (g : Nat → Nat) (o len : Nat) (live : Bool) : Fail :=
  let cs := cuesAt g o
  let one := fun (i : Nat) =>
    let a := o + 8 + 8 * i
    let c := cs.getD i {}
    let old := s.cueRec i
    firstBad 6 [(decide (2 ≤ g (a + 2)), 0x2A, i),
      (decide (8 < c.func) || !cueParamOk c.func c.param || g a != i || decide (1000 < c.filterUs) || (!cueInput c.func && c.filterUs != 0), 0x68, i),
      (decide (2 < c.safe) || (cueInput c.func && c.safe != 2), 0x69, i),
      (live && old.func == 1 && !(s.winTiles old.param).isEmpty &&
        !(c.func == old.func && c.param == old.param && c.safe == old.safe && c.activeLow == old.activeLow), 0x6A, i)]
  firstFail [firstBad 6 (preTests g o len 8 16 16 0 false), (List.range 16).findSome? one]

/-! ### Motor axes, budget, reactions, calibration policy (R88 to R91) -/

def axisAt (g : Nat → Nat) (o : Nat) : AxisRec :=
  { role := g (o + 1), cmdsrc := g (o + 2), cmdmode := g (o + 3), polePairs := rdI g (o + 4) 2, ratedRpm := rdI g (o + 6) 2,
    pwrW := rdI g (o + 8) 2, pwmKhz := g (o + 10), softDeg := g (o + 11), accel := rdI g (o + 12) 4, capPos := sx 32 (rdI g (o + 16) 4),
    posin := g (o + 20) }
def axesAt (g : Nat → Nat) (o : Nat) : List AxisRec := (List.range 4).map fun i => axisAt g (o + 8 + 32 * i)

/-- The motor axes' tests (R88, R368). -/
def checkAxes (g : Nat → Nat) (o len : Nat) (live : Bool) : Fail :=
  let xs := axesAt g o
  let one := fun (i : Nat) =>
    let a := o + 8 + 32 * i
    let r := xs.getD i {}
    let on := r.role != 0
    let low := (xs.take i).filter (·.role != 0)
    firstBad 7 [(dirtyI g (a + 0x15) 11, 0x2A, i),
      (g a != i || decide (4 < r.role) || (on && (decide (1 < r.cmdsrc) || (r.cmdsrc == 1 && (decide (2 < r.cmdmode) || low.any (·.cmdsrc == 1))))), 0x70, i),
      (on && (decide (r.pwrW < 1 ∨ 750 < r.pwrW) || decide (r.polePairs < 1 ∨ 32 < r.polePairs) || decide (r.ratedRpm < 1 ∨ 60000 < r.ratedRpm) ||
        decide (r.pwmKhz * 60000 < r.ratedRpm * r.polePairs * 16)), 0x71, i),
      (on && (decide (r.pwmKhz < 16 ∨ 64 < r.pwmKhz) || decide (30 < r.softDeg)), 0x72, i),
      (on && ((decide (16 ≤ r.posin) && r.posin != 0xFF) || (r.role == 4 && (decide (15 < r.posin) || low.any (·.role == 4)))), 0x73, i)]
  firstFail [firstBad 7 (preTests g o len 32 4 4 0 live), (List.range 4).findSome? one]

def budgetAt (g : Nat → Nat) (o : Nat) : Budget :=
  let h := fun (i : Nat) => rdI g (o + 8 + i) 2
  { headPm := h 0, motorPm := h 2, logicPm := h 4, headCapW := h 6, motorCapW := h 8, rtW := h 10, eveHeadW := h 12 }

/-- The power budget's tests (R89). -/
def State.checkBudget (s : State) (g : Nat → Nat) (o len : Nat) (live : Bool) : Fail :=
  let b := budgetAt g o
  firstFail [firstBad 8 (preTests g o len 16 1 1 0 live),
    firstBad 8 [(rdI g (o + 22) 2 != 0, 0x2A, 0), (decide (1000 < b.headPm + b.motorPm + b.logicPm), 0x78, 0),
      (decide (s.headBudget < b.headCapW) || decide (b.headCapW < b.eveHeadW), 0x79, 0), (decide (1200 < b.motorCapW), 0x7A, 0),
      (decide (b.logicPm < 247), 0x7B, 0), (decide (1000 < b.rtW), 0x7C, 0)]]

def reactionsAt (g : Nat → Nat) (o : Nat) : List Reaction :=
  (List.range (cntOf g o)).map fun i =>
    let a := o + 8 + 4 * i
    { group := g a, kind := g (a + 1), cls := g (a + 2), irq := bit (g (a + 3)) 0, relay := bit (g (a + 3)) 1 }

/-- The fault reactions' tests (R90, R413, R417). -/
def checkReactions (g : Nat → Nat) (o len : Nat) (live : Bool) : Fail :=
  let rs := reactionsAt g o
  let one := fun (i : Nat) =>
    let r := rs.getD i { group := 0, kind := 0, cls := 0, irq := false, relay := false }
    firstBad 9 [(decide (14 < r.group) || decide (kindCounts.getD r.group 0 < r.kind), 0x80, i),
      (fixedHalt.contains (r.group, r.kind) && decide (r.cls < 3), 0x81, i),
      (decide (3 < r.cls) || decide (4 ≤ g (o + 8 + 4 * i + 3)), 0x82, i),
      ((rs.take i).any fun x => x.group == r.group && x.kind == r.kind, 0x83, i)]
  firstFail [firstBad 9 (preTests g o len 4 0 1024 0 live), (List.range rs.length).findSome? one]

def calAt (g : Nat → Nat) (o : Nat) : CalPolicy :=
  { compat := g (o + 8), targets := g (o + 9) % 32, slewLines := rdI g (o + 10) 2, slewMs := rdI g (o + 12) 2, tol := rdI g (o + 14) 2,
    intervalS := rdI g (o + 16) 4 }

/-- The calibration policy's tests (R91). -/
def checkCal (g : Nat → Nat) (o len : Nat) (live : Bool) : Fail :=
  let p := calAt g o
  firstFail [firstBad 10 (preTests g o len 16 1 1 0 live),
    firstBad 10 [(decide (32 ≤ g (o + 9)) || rdI g (o + 20) 4 != 0, 0x2A, 0),
      (decide (1 < p.compat) || p.slewLines == 0 || p.slewMs == 0 || p.tol == 0 || p.intervalS == 0 || decide (86400 < p.intervalS), 0x88, 0)]]

/-! ### The whole check (R92, R507) -/

/-- A section's test when the image has it. -/
def onSec (g : Nat → Nat) (t : Nat) (f : Nat → Nat → Fail) : Fail :=
  match secOf g t with
  | some (o, len) => f o len
  | none => none

/-- The sections in ascending TYPE (R92 step 4). -/
def State.checkSections (s : State) (g : Nat → Nat) (live : Bool) : Fail :=
  let ts := match secOf g 1 with
    | some (o, _) => tilesAt g o
    | none => []
  firstFail [onSec g 1 fun o n => s.checkTiles g o n live, onSec g 2 fun o n => checkPos g o n live, onSec g 3 fun o n => checkFabric g o n live,
    onSec g 4 fun o n => checkPipe g o n live, onSec g 5 fun o n => s.checkMem g o n live ts, onSec g 6 fun o n => s.checkCues g o n live,
    onSec g 7 fun o n => checkAxes g o n live, onSec g 8 fun o n => s.checkBudget g o n live, onSec g 9 fun o n => checkReactions g o n live,
    onSec g 10 fun o n => checkCal g o n live]

/-- The bank states of an image for lane engines and scratchpad banks (R86). -/
def bankList (g : Nat → Nat) (o a n : Nat) : List Nat := bytesI g (banksAt g o + a) n

/-- The content of a full image (R78 to R91). -/
def parseImage (g : Nat → Nat) : Image :=
  let sec := fun (t : Nat) => (secOf g t).getD (0, 0)
  let has := fun (t : Nat) => (secOf g t).isSome
  let ps := partsAt g (sec 4).1 (sec 4).2
  let o1 := (sec 1).1
  { id := rdI g 0x10 4, tiles := tilesAt g o1, quads := (List.range 24).map fun q => quadAt g (o1 + 8 + 16 * cntOf g o1 + 8 * q),
    pos := possAt g (sec 2).1, routes := routesAt g (sec 3).1, screens := screensOf g ps, policy := policyOf g ps, masks := masksOf g ps,
    history := historyOf g ps, energy := energyOf g ps, feeds := feedsOf g ps, regions := regionsAt g (sec 5).1,
    laneBanks := bankList g (sec 5).1 0 104, spadBanks := bankList g (sec 5).1 104 32,
    cues := if has 6 then cuesAt g (sec 6).1 else [], axes := if has 7 then axesAt g (sec 7).1 else [],
    budget := budgetAt g (sec 8).1, reactions := if has 9 then reactionsAt g (sec 9).1 else [],
    cal := if has 10 then calAt g (sec 10).1 else {} }

/-- The content of a live image (R78). -/
def parseLive (g : Nat → Nat) : LiveImage :=
  let ps := match secOf g 4 with
    | some (o, n) => partsAt g o n
    | none => []
  { id := rdI g 0x10 4, masks := masksOf g ps, energy := energyOf g ps, feeds := feedsOf g ps, cues := (secOf g 6).map fun x => cuesAt g x.1 }

/-- The cross-section tests over an image's content (R92 step 5, R507). -/
def checkCross (im : Image) : Fail :=
  let opens := fun (w : Nat) => im.routes.any (fun r => r.2 == 0x100 + w) || im.cues.any fun c => c.func == 1 && c.param == w
  let one := fun (i : Nat) =>
    let r := im.tiles.getD i { tile := 0 }
    let ins := im.pos.filter fun p => bit p.tiles r.tile
    if !r.enable then none
    else firstFail [firstBad 2 [(ins.length != 1 || ins.any (·.mode == 0), 0x43, r.tile)],
      firstBad 1 [(r.shuttle && im.feeds.all (·.idx != r.feed), 0x98, i), (!opens r.docwin, 0x99, i), (im.energy.all (·.plane != r.plane), 0x9A, i)]]
  let route := fun (i : Nat) =>
    let d := (im.routes.getD i (0, 0)).2
    firstBad 3 [(decide (0x120 ≤ d ∧ d < 0x130) && (im.cues.getD (d - 0x120) {}).func != 5, 0x49, i)]
  firstFail [(List.range im.tiles.length).findSome? one, (List.range im.routes.length).findSome? route]

/-- The enable check of R92 from step 2 on: a failure, or the image. -/
def State.checkImage (s : State) (g : Nat → Nat) : Fail ⊕ Image :=
  match firstFail [s.checkHeader g false, checkDir g false, s.checkSections g false] with
  | some f => .inl (some f)
  | none =>
    let im := parseImage g
    match checkCross im with
    | some f => .inl (some f)
    | none => .inr im

/-- The live check of R97 from step 2 on, against the armed image. -/
def State.checkLive (s : State) (g : Nat → Nat) : Fail ⊕ LiveImage :=
  match firstFail [s.checkHeader g true, checkDir g true, s.checkSections g true] with
  | some f => .inl (some f)
  | none =>
    let l := parseLive g
    match s.cfg.armed with
    | some im =>
      let im' := im.takeLive l
      match checkCross { im' with cues := l.cues.getD im.cues } with
      | some f => .inl (some f)
      | none => .inr l
    | none => .inl (some (0x1A, 0, 0x18))

/-- A result is posted: BUSY ends (R71, R93). -/
def State.postCheck (s : State) (f : Fail) : State :=
  let s := { s with cfg := { s.cfg with busy := none } }
  match f with
  | some (r, sec, i) => s.setFields [(CFG_STATUS_BUSY, 0), (CFG_STATUS_FAIL, 1), (CFG_STATUS_SECTION, sec), (CFG_STATUS_REASON, r), (CFG_ITEM_ITEM, i)]
  | none => s.setFields [(CFG_STATUS_BUSY, 0), (CFG_STATUS_PASS, 1), (CFG_STATUS_REASON, 0)]

/-- ARM is permitted (R44). -/
def State.armPermit (s : State) : Bool := s.st = MORNING || (s.st = DAWN && s.fb SYS_STATE_DAWN_DONE)

/-- LIVE is permitted (R97). -/
def State.livePermit (s : State) : Bool := s.st = MORNING || s.st = NOON || s.st = EVENING

/-- A check or store begins (R71, R92): BUSY, with PASS and FAIL clear; ignored while one runs (R95). -/
def State.startCheck (s : State) (k : CheckKind) (permit : Bool) : State :=
  if s.cfg.busy.isSome then s
  else
    let s := { s with cfg := { s.cfg with busy := some k, busyPermit := permit, busySrc := s.f CFG_SOURCE_SRC, busySlot := s.f CFG_NV_CTRL_SLOT,
                                          busyLive := s.fb CFG_STATUS_LIVE_PENDING }, mem := { s.mem with eccImage := false } }
    s.setFields [(CFG_STATUS_BUSY, 1), (CFG_STATUS_PASS, 0), (CFG_STATUS_FAIL, 0)]

end Sys2Proof.Machine
end

