-- ==== Sys2Proof/Machine/MotorOps.lean ====
section
/-!
DEFINITION. Shared operations of chapter 13: the axes' start sequence, their stops and faults, the pin command, and what
Dusk, Night and the Dawn test do to them.
-/
namespace Sys2Proof.Machine

/-- One axis's state. -/
def State.axis (s : State) (a : Nat) : Axis := tget {} s.mot.axes a

/-- One axis's state changed. -/
def State.modAxis (s : State) (a : Nat) (g : Axis → Axis) : State :=
  { s with mot := { s.mot with axes := tupd {} a g s.mot.axes } }

/-- The record of an axis under the armed image (R88); the keep-wet layout makes axis 0 a pump on the MOT_CMD pin unless
CMD_MODE is 0b11 (R63). -/
def State.axisRec (s : State) (a : Nat) : AxisRec :=
  match s.cfg.armed with
  | some im =>
    if im.builtin then
      if a = 0 && bits s.ident.straps 5 4 != 3 then
        { role := 3, cmdsrc := 1, cmdmode := bits s.ident.straps 5 4, ratedRpm := Config.keepWetRpm, pwrW := Config.keepWetPwr, accel := Config.keepWetAccel }
      else {}
    else im.axes.getD a {}
  | none => {}

/-- The states in which an axis may drive its motor (R369). -/
def State.motorsAllowed (s : State) : Bool := s.st = MORNING || s.st = NOON || s.st = EVENING || s.st = DUSK

/-- ILIM_MA within its limits (R396). -/
def State.ilim (s : State) (a : Nat) : Nat := max 500 (min 16000 (s.f (MOT_a_ILIM_ILIM_MA a)))

/-- An axis raises a message; its INST is the axis (R411). -/
def State.raiseMot (s : State) (a : Nat) (k : Kind) (addr : Nat) : State := s.raiseAs 0 a k addr false

/-- The gates of an axis turn off and the motor coasts. -/
def State.axisOff (s : State) (a : Nat) : State :=
  (s.setFields [(MOT_a_STATUS_RUNNING a, 0), (MOT_a_STATUS_AT_SPEED a, 0), (MOT_a_STATUS_CATCHING a, 0),
    (MOT_a_STATUS_EST a, 0), (MOT_a_STATUS_FW a, 0), (MOT_a_STATUS_PLIM a, 0)]).modAxis a fun x =>
    { x with st := .off, idRef := 0, idFrac := 0, predicted := 0, agreeAt := none, speedAt := none, stallAt := none,
             syncKept := false, ordLeft := 0, heldAt := none }

/-- A phase fault or a trip: the gates turn off until RUN is written 1 again (R376, R388 to R390). -/
def State.axisTrip (s : State) (a : Nat) (flag : Field) (k : Kind) (addr : Nat) : State :=
  ((s.axisOff a).modAxis a fun x => { x with fault := true, run := false }).setF flag 1 |>.raiseMot a k addr

/-- The start sequence begins with the catch check (R376), in a state that lets the axis drive and with no sense-offset
fault (R369, R395). An axis on its way to a stop takes the new command at once (R393). -/
def State.startAxis (s : State) (a : Nat) : State :=
  if (s.axisRec a).role = 0 || !s.motorsAllowed || (s.axis a).offsetBad then s
  else match (s.axis a).st with
    | .off =>
      (s.setF (MOT_a_STATUS_CATCHING a) 1).modAxis a fun x =>
        { x with st := .catchCheck, run := true, fault := false, emitted := false, stepEnd := s.now + ms 100,
                 ordLeft := if (s.axisRec a).posin < 16 then 32 else 0, ordNet := 0, idRef := 0, idFrac := 0 }
    | .stopping => s.modAxis a fun x => { x with st := .running, run := true, emitted := false }
    | _ => s.modAxis a fun x => { x with run := true }

/-- The axis stops by controlled deceleration; before the gates drive the motor the sequence just ends (R371, R394). -/
def State.stopAxis (s : State) (a : Nat) : State :=
  let s := s.modAxis a fun x => { x with run := false, syncKept := false }
  match (s.axis a).st with
  | .running => (s.setF (MOT_a_STATUS_AT_SPEED a) 0).modAxis a fun x => { x with st := .stopping, target := 0 }
  | .stopping => s
  | _ => s.axisOff a

/-- The last step of the start sequence: the sync hold first when SYNC = 1 and no sync event is kept (R374, R376). -/
def State.accelerate (s : State) (a : Nat) : State :=
  if s.fb (MOT_a_CMD_SYNC a) && !(s.axis a).syncKept then s.modAxis a fun x => { x with st := .syncHold }
  else s.modAxis a fun x => { x with st := .running, syncKept := false }

/-- A sync event reaches destination 0x150 + a (R374). -/
def State.motorSync (s : State) (a : Nat) : State :=
  if (s.axis a).st = .syncHold then s.modAxis a fun x => { x with st := .running }
  else if (s.axis a).run && (s.axis a).st != .running && (s.axis a).st != .stopping then
    s.modAxis a fun x => { x with syncKept := true }
  else s

/-- A write of MOT_a_CMD (R370, R371): ignored with a NOTE in Dusk for roles 1, 2 and 4; otherwise stored, and its RUN
bit starts or stops an axis that the host commands. -/
def State.writeMotCmd (s : State) (a : Nat) (v : Word) : State :=
  let r := s.axisRec a
  if s.st = DUSK && (r.role = 1 || r.role = 2 || r.role = 4) then s.raiseMot a kMOT_NOTE (rMOT_a_CMD a)
  else
    let s := s.setReg (rMOT_a_CMD a) (v &&& 0xF0000000)
    if r.cmdsrc = 1 then s
    else if bit v.toNat 31 then (s.modAxis a fun x => { x with fault := false }).startAxis a
    else s.stopAxis a

/-- The command of the MOT_CMD pin in 1/65,536 of RATED_RPM and whether it is above its stop level (R372). The filtered
reading is in mV, in 1/65,536 of full duty, or in 0.1 Hz, by mode. -/
def pinCommand (mode : Nat) (x : Int) : Nat × Bool :=
  if mode = 0 then (sat 16 (clamp 0 10000 x * 65536 / 10000).toNat, decide (200 ≤ x))
  else if mode = 1 then (sat 16 (clamp 0 65536 x).toNat, decide (65536 ≤ 50 * x))
  else (sat 16 (clamp 0 100000 x * 65536 / 100000).toNat, decide (100 ≤ x))

/-- Dusk brings transport and carrier axes to a stand and drives the sled to its cap position; pumps run on (R53). -/
def State.motorsDusk (s : State) : State :=
  [0, 1, 2, 3].foldl (fun s a =>
    match (s.axisRec a).role with
    | 1 => s.stopAxis a
    | 2 => s.stopAxis a
    | 4 => (if (s.axis a).fault then s else s.startAxis a).modAxis a fun x => { x with heldAt := none }
    | _ => s) s

/-- Every inverter turns off (R54, R369). -/
def State.motorsOff (s : State) : State :=
  [0, 1, 2, 3].foldl (fun s a => (s.axisOff a).modAxis a fun x => { x with run := false }) s

/-- Transport and carrier axes stand still, and capping has ended: the sled has held still at CAP_POS for 50 ms, or no
sled drives (R53, R393). -/
def State.duskMotorsDone (s : State) : Bool :=
  [0, 1, 2, 3].all fun a =>
    match (s.axisRec a).role with
    | 1 => (s.axis a).st = .off
    | 2 => (s.axis a).st = .off
    | 4 => (s.axis a).st = .off || match (s.axis a).heldAt with
      | some h => decide (h + ms 50 ≤ s.now)
      | none => false
    | _ => true

/-- The Dawn test of an axis (R59 step 7, R369): the switches whose feedback was wrong and the phase offsets in LSB. -/
def State.dawnMotor (s : State) (a : Nat) (gates : List Nat) (offU offV : Int) : State :=
  let s := gates.foldl (fun s g => (s.setF (MOT_a_STATUS_GATE a) 1).raiseMot a kMOT_GATE (a + g * 4)) s
  let bad := fun (o : Int) => decide (64 < o ∨ o < -64)
  let s := if bad offU then s.raiseMot a kMOT_SENSE_OFFSET a else s
  let s := if bad offV then s.raiseMot a kMOT_SENSE_OFFSET (a + 4) else s
  s.modAxis a fun x => { x with offsetBad := bad offU || bad offV }

/-- The first 32 count steps of an axis's position input after a start, against the commanded direction (R389). -/
def State.phaseOrder (s : State) (n : Nat) (d : Int) : State :=
  [0, 1, 2, 3].foldl (fun s a =>
    let x := s.axis a
    if (s.axisRec a).posin = n && (s.axisRec a).role != 0 && 0 < x.ordLeft && x.st = .running then
      let net := x.ordNet + d
      let s := s.modAxis a fun x => { x with ordLeft := x.ordLeft - 1, ordNet := net }
      if x.ordLeft = 1 && decide (net * x.target < 0) then
        s.axisTrip a (MOT_a_STATUS_PHASE_ORDER a) kMOT_PHASE_ORDER a
      else s
    else s) s

/-- K of R379 in 1/10,000, between the points of its table. -/
def waveK (deg : Nat) : Nat :=
  if deg < 10 then 12730 - deg
  else if deg < 20 then 12720 - 3 * (deg - 10)
  else 12690 - 4 * (min deg 30 - 20)

/-- The voltage margin m in ‰: 1,000 − 1,000 × |v_dq| / V_lim, with V_lim = K × V_link / 2 (R379, R380). -/
def margin (deg link01V vMv : Nat) : Int :=
  let lim := waveK deg * link01V * 100 / 20000
  if lim = 0 then -1000 else 1000 - (1000 * vMv / lim : Nat)

end Sys2Proof.Machine
end

