-- ==== Sys2Proof/Machine/RingRecv.lean ====
section
/-!
DEFINITION. Shared operations on packets that arrive at a ring port (R297 to R303, R308, R309, R313): forwarding, the
sequence check, breaks, and what failed requests bring.
-/
namespace Sys2Proof.Machine

/-- The measured one-way delay of a port's link in ns (R132). -/
def State.linkDelay (s : State) (port : Nat) : Nat := s.f (RING_PORT_p_DELAY_DELAY_NS port)

/-- A type that crosses a bridge (R297). -/
def crosses (type : Nat) : Bool := decide (0x20 ≤ type)

/-- The age a packet has here: its own with the delay of the link it came over (R132). -/
def State.ageHere (s : State) (port : Nat) (p : RingPkt) : Nat := sat 16 (p.age + s.linkDelay port)

/-- The packet as it goes on: older by this hop's link delay and residence (R132). -/
def State.older (s : State) (port : Nat) (p : RingPkt) : RingPkt :=
  { p with age := sat 16 (s.ageHere port p + Config.residence s.draws % 81) }

/-- Whether this engine has sent a packet over its bridge already (R313). -/
def State.wasBridged (s : State) (p : RingPkt) : Bool := s.ring.bridged.contains (p.src * 4 + p.vc, p.seq)

/-- A packet goes over the bridges or off them, once (R313). -/
def State.bridge (s : State) (port : Nat) (p : RingPkt) : State :=
  let other := p.dst / 64 != s.eid / 64
  if !crosses p.type || s.wasBridged p || !(p.bcast || other || 2 ≤ port) then s
  else
    let outs := [2, 3].filter fun q => q != port && (p.bcast || other) && s.portUp q
    if outs.isEmpty && port < 2 then s
    else
      let s := { s with ring := { s.ring with bridged := (p.src * 4 + p.vc, p.seq) :: s.ring.bridged } }
      let s := outs.foldl (fun s q => s.urgOut q p) s
      if 2 ≤ port && (p.bcast || !other) then (s.urgOut 0 p).urgOut 1 p else s

/-- A packet not for this engine alone goes on (R296, R299, R308): around the ring the way it came, and over bridges. -/
def State.forward (s : State) (port : Nat) (p : RingPkt) : State :=
  let q := s.older port p
  let s := s.drawn
  if 2 ≤ port then s.bridge port q
  else
    let s := s.bridge port q
    if p.vc = 2 then s.urgOut (1 - port) q else s.ringOut (1 - port) q

/-- Whether a packet is addressed to this engine. -/
def State.forMe (s : State) (p : RingPkt) : Bool := p.bcast || (s.fb RING_STATUS_POS_VALID && p.dst == s.eid)

/-- The sequence check at the destination (R298): accepted when ahead of the last accepted from the source on the channel. -/
def State.takeSeq (s : State) (p : RingPkt) : State × Bool :=
  let key := p.src * 4 + p.vc
  let last := tget 0 s.ring.seqIn key
  if last = 0 || beyond 16 p.seq (last - 1) then
    ({ s with ring := { s.ring with seqIn := tupd 0 key (fun _ => p.seq + 1) s.ring.seqIn } }, true)
  else (s.addF RING_ERR_DUP 1, false)

/-- The highest position heard of on the own ring counts towards ENGINES (log entry 34). -/
def State.hear (s : State) (p : RingPkt) : State :=
  if s.fb RING_STATUS_POS_VALID && p.src / 64 = s.eid / 64 && s.f RING_STATUS_ENGINES < p.src % 64 + 1 then
    s.setF RING_STATUS_ENGINES (p.src % 64 + 1) else s

/-- A packet arrives at a port (R298, R299): it is removed at its source, forwarded when others may need it, and handed to
`g` when this engine takes it. -/
def State.packetIn (s : State) (port : Nat) (p : RingPkt) (g : State → State) : State :=
  if !s.powered || !s.portUp port then s
  else if s.fb RING_STATUS_POS_VALID && p.src = s.eid then s
  else
    let s := s.hear p
    let alone := s.forMe p && !p.bcast && !p.dual
    let s := if alone then s else s.forward port p
    if s.forMe p then
      let (s, ok) := s.takeSeq p
      if ok then g s else s
    else s

/-- A packet for this engine alone arrives at a port that is up, in order on its channel (R298, R299). -/
def State.receives (s : State) (port : Nat) (p : RingPkt) : Bool :=
  s.powered && s.portUp port && s.fb RING_STATUS_POS_VALID && p.src != s.eid && p.dst == s.eid && !p.bcast && !p.dual && (s.takeSeq p).2

/-- A REQ to this engine is answered with STATUS 2 in Midnight (R303), else handled. -/
def State.reqIn (s : State) (port type : Nat) (p : RingPkt) (rsp : Nat) (g : State → State) : State :=
  if p.type != type then s
  else s.packetIn port p fun s => if s.st = MIDNIGHT then s.sendRsp p rsp 2 [] else g s

/-! ### Breaks (R308 to R310) -/

/-- Breaks part this engine from position 0: one on each way (R309). -/
def State.cutOff (s : State) : Bool :=
  let k := s.eid % 64
  s.fb RING_STATUS_POS_VALID && k != 0 && s.ring.breaks.any (· < k) &&
  (s.ring.breaks.any (k ≤ ·) || !s.fb RING_STATUS_CLOSED)

/-- RING_TOPO shows the breaks (R309, R315); a line that was never closed is split by its first. -/
def State.showTopo (s : State) : State :=
  match s.ring.breaks with
  | [] => s.setReg rRING_TOPO 0
  | b :: r => s.setFields [(RING_TOPO_WRAPPED, 1), (RING_TOPO_SPLIT, b2n (!r.isEmpty || !s.fb RING_STATUS_CLOSED)), (RING_TOPO_BREAK_W, b),
      (RING_TOPO_BREAK_E, if s.fb RING_STATUS_CLOSED then (b + 1) % max 1 (s.f RING_STATUS_ENGINES) else b + 1)]

/-- A break becomes known, or is mended (R308, R309, R310). -/
def State.setBreak (s : State) (west : Nat) (broken : Bool) : State :=
  let was := s.cutOff
  let s := ({ s with ring := { s.ring with breaks := if broken then
    (if s.ring.breaks.contains west then s.ring.breaks else s.ring.breaks ++ [west]) else s.ring.breaks.filter (· != west) } }).showTopo
  if s.cutOff && !was then s.raise kRING_SPLIT s.eid else s

/-- The position west of a break at one of this engine's ring ports. -/
def State.breakAt (s : State) (port : Nat) : Nat := if port = 0 then s.eid % 64 else s.f (RING_PORT_p_STATUS_FAR_EID port) % 64

/-- A WRAP packet: the position west of the break, and whether it is broken (R297; its layout is log entry 35). -/
def State.sendWrap (s : State) (west : Nat) (broken : Bool) : State :=
  s.sendUrg { type := 0x23, vc := 2, src := 0, bcast := true, len := 4, payload := [west, b2n broken, 0, 0] }

/-! ### Requests that fail (R305) -/

/-- A descriptor's ring transfer has failed (R286, R303): DETAIL 5, 6 for the target's form store; a target in Midnight
ends it with REMOTE. -/
def State.ringFail (s : State) (k off status : Nat) : State :=
  if status = 2 then
    ((s.modExec k fun x => if x.status = 0 then { x with status := 0x0E, result := off, todo := [] } else { x with todo := [] }).dropFlying k off).runTransfer k
  else s.chunkError k (if status = 3 then 6 else 5) off

/-- The read that a HOST_RD stood for. -/
def RingReq.asRead (r : RingReq) : OutRead :=
  { tag := 0, kind := if r.side = 2 then .fetch else if r.side = 3 then .barrier else .chunk, stream := r.stream, addr := r.pkt.addr,
    len := r.pkt.len, side := r.side, off := r.off }

/-- What a request that ends without success brings (R305). -/
def State.reqFail (s : State) (r : RingReq) (status : Nat) : State :=
  match r.kind with
  | .bar2 => if r.pkt.type = 1 then s.emit (.barData 2 []) else s
  | .chunkRead => s.ringFail r.stream r.off status
  | .chunkWrite =>
    if s.execIndex r.stream = r.hostTag then
      let s := s.ringFail r.stream r.off status
      s.modExec r.stream fun x => { x with acks := x.acks - 1 }
    else s
  | .hostRead => s.readFail r.asRead 5
  | .docReport => s
  | .hostWrite => s

/-- The outstanding request that an RSP answers, and the state without it (R305). -/
def State.takeReq (s : State) (p : RingPkt) : State × Option RingReq :=
  match s.ring.reqs.find? fun r => r.rtag == p.rtag && r.dst == p.src with
  | some r => ({ s with ring := { s.ring with reqs := s.ring.reqs.filter fun x => x.rtag != r.rtag } }, some r)
  | none => (s.addF RING_ERR_LATE_RSP 1, none)

/-- An RSP arrives: it answers an outstanding request, or is late (R305). -/
def State.rspIn (s : State) (port type : Nat) (p : RingPkt) (g : State → RingReq → State) : State :=
  if p.type != type then s
  else s.packetIn port p fun s =>
    let (s, r) := s.takeReq p
    match r with
    | some r => if p.status = 0 then g s r else s.reqFail r p.status
    | none => s

end Sys2Proof.Machine
end

