-- ==== Sys2Proof/Machine/PosOps.lean ====
section
/-!
DEFINITION. Shared operations of chapter 04: the period estimate and interpolation, line events and what they drive, count
steps, ring line references, and the event fabric's destinations.
-/
namespace Sys2Proof.Machine

/-! ### The estimate and the interpolated position (R116, R117, R122, R436) -/

/-- T in units of 250 ps, if an estimate exists (R116). -/
def State.estimate? (s : State) (n : Nat) : Option Nat :=
  let l := (s.pin n).intervals
  if l.isEmpty then none else some (roundDiv (l.sum : Int) l.length).toNat

/-- T with the elapsed time in its place once that is longer (R117). -/
def State.period? (s : State) (n t : Nat) : Option Nat :=
  match s.estimate? n, (s.pin n).lastStep with
  | some T, some k => some (max T (t - k))
  | _, _ => none

/-- The share in 1/65,536 of the interval an input is in (R436): from edge e forward, to the edge before it in reverse; a
quarter for inputs in other modes. -/
def State.share (s : State) (n : Nat) : Nat :=
  if (s.posRec n).mode = 1 then
    let e := (s.pin n).edge
    let back := s.fb (POS_n_STATUS_DIR n) != (s.posRec n).invert
    ((s.calForce (512 + n)).getD (if back then (e + 3) % 4 else e % 4) 0x4000).toNat
  else 0x4000

/-- The expected interval in 1/16,384 of 250 ps (R122, R436). -/
def State.span? (s : State) (n : Nat) : Option Nat := (s.estimate? n).map fun T => T * s.share n

/-- How far interpolation has gone from the last count at an instant, in 1/65,536 tick (R117, R122). -/
def State.progress (s : State) (n t : Nat) : Nat :=
  match s.span? n, (s.pin n).lastStep with
  | some sp, some k =>
    let e := (t - k) * 16384
    if e = 0 then 0 else min 65535 (e * 65536 / max e sp)
  | _, _ => 0

/-- A line state carried to the interpolated position without crossing a start. -/
def settleLine (ratio : Nat) (rev : Bool) (adv : Nat) (l : LineState) : LineState :=
  let d := if rev then max (-l.phase) (min 0 (-(adv : Int) - l.prog)) else min ((ratio : Int) - 1 - l.phase) (max 0 ((adv : Int) - l.prog))
  { l with phase := l.phase + d, prog := l.prog + d }

/-- The line states that an input's ticks move stand at the interpolated position. -/
def State.settle (s : State) (n t : Nat) : State :=
  if (s.posRec n).refTake then s
  else
    let adv := s.progress n t
    if adv = 0 then s
    else
      let rev := s.fb (POS_n_STATUS_DIR n)
      let r := s.ratio n
      let s := s.modPin n fun x => { x with ls := settleLine r rev adv x.ls }
      let s := s.setF (POS_n_LINE_PHASE_PHASE n) (s.pin n).ls.phase.toNat
      (s.tilesOf n).foldl (fun s k => s.modFire k fun x => { x with ls := settleLine r rev adv x.ls }) s

/-- The distance from the last count to the next start strictly between it and the next count, in 1/65,536 tick (R122); in
reverse a start is crossed only when the position passes below it. -/
def nextCross? (ratio : Nat) (rev : Bool) (l : LineState) : Option Nat :=
  if rev then
    if l.phase = 0 || 65535 ≤ l.phase - l.prog then none else some (l.phase - l.prog).toNat
  else if l.prog + ratio - l.phase < 65536 then some (l.prog + ratio - l.phase).toNat
  else none

/-- When the interpolated position reaches a distance from the last count, to the nearest 250 ps, ties later (R122). -/
def crossTime (k sp r : Nat) : Nat := k + (2 * r * sp + 2 ^ 30) / 2 ^ 31

/-- The line state past that start, and the event. -/
def crossLine (ratio : Nat) (rev : Bool) (l : LineState) (r : Nat) : LineState × List Crossing :=
  let p : Int := if rev then -(r : Int) - 1 else r
  let (l', es) := stepLine ratio l (p - l.prog)
  ({ l' with prog := p }, es)

/-- POS_n_PERIOD as it reads (R116, R117, R119). -/
def State.readPeriod (s : State) (n : Nat) : Nat :=
  match s.period? n s.now with
  | some T => sat 32 T
  | none => 0xFFFFFFFF

/-- POS_n_SPEED as it reads (R118): 0 in standstill and without an estimate. -/
def State.readSpeed (s : State) (n : Nat) : Int :=
  match s.period? n s.now with
  | some T =>
    let v : Nat := if 8000 ≤ T then 4000000000 / T
      else (((s.pin n).recent.filter fun (e : Nat × Int) => decide (s.now < e.1 + us 100)).map fun (e : Nat × Int) => e.2).sum.natAbs * 10000
    if s.fb (POS_n_STATUS_DIR n) then -(v : Int) else v
  | none => 0

/-- LINE's phase as it reads (R120, R122). -/
def State.readPhase (s : State) (n : Nat) : Nat := ((s.settle n s.now).pin n).ls.phase.toNat

/-! ### Ring line references (R132 to R137) -/

/-- One channel's state, and that state changed. -/
def State.refCh (s : State) (c : Nat) : RefCh := tget {} s.pos.refs c
def State.modRef (s : State) (c : Nat) (g : RefCh → RefCh) : State :=
  { s with pos := { s.pos with refs := tupd {} c g s.pos.refs } }

/-- The inputs that take a channel. -/
def State.takers (s : State) (c : Nat) : List Nat := (List.range 16).filter fun n => (s.posRec n).refTake && (s.posRec n).refCh == c

/-- DELAY_NS within its limits (R140). -/
def State.refDelay (s : State) : Nat := max 1000 (min 20000 (s.f POS_REF_DELAY_DELAY_NS))

/-- What a LINEREF packet carries (R132, R136): line, whether forward, heartbeat, marker, STILL, its channel, time stamp and
DELAY_NS. -/
structure Ref where
  line : Nat
  fwd : Bool := true
  beat : Bool := false
  marker : Bool := false
  still : Bool := false
  ch : Nat
  stamp : Nat
  delay : Nat
deriving DecidableEq, Repr

/-- Its payload, and its reading (log entry 35). -/
def Ref.bytes (r : Ref) : List Nat :=
  toLe 4 r.line ++ [b2n r.fwd + 2 * b2n r.beat + 4 * b2n r.marker + 8 * b2n r.still, r.ch] ++ toLe 2 r.delay ++ toLe 8 r.stamp
def refOf (b : List Nat) : Ref :=
  let f := byteAt b 4
  { line := leAt b 0 4, fwd := bit f 0, beat := bit f 1, marker := bit f 2, still := bit f 3, ch := byteAt b 5 % 16,
    delay := leAt b 6 2, stamp := leAt b 8 8 }

/-- A channel has been heard (R136): LOST clears. -/
def State.refHeard (s : State) (c e : Nat) : State :=
  (s.modRef c fun x => { x with heard := some (x.heard.getD e), lastAt := some s.now }).setBit POS_REF_STATUS_LOST c false

/-- A reference waits for its release; without a taker there is none (R133). -/
def State.refQueue (s : State) (r : Ref) (t : Nat) : State :=
  s.modRef r.ch fun x => { x with queue := x.queue ++ [{ at_ := t, line := r.line, dir := r.fwd, marker := r.marker }] }

/-- A packet on a reference channel is sent, and this engine's own copy is heard and waits if it takes the channel
(R132, R133, R136). -/
def State.sendRef (s : State) (r : Ref) : State :=
  let s := s.sendUrg { type := 0x22, vc := 2, src := 0, bcast := true, len := 16, payload := r.bytes }
  if (s.takers r.ch).isEmpty then s
  else
    let s := s.refHeard r.ch s.eid
    if r.beat then s else s.refQueue r (s.now + 4 * r.delay)

/-! ### Line events (R121, R124, R132) -/

/-- Line-slewed calibration values that follow an input's line events advance one event (R442). -/
def State.calFollows (s : State) (k n : Nat) : Bool :=
  match calTarget k with
  | 0 => match s.tileRec? (calInst k) with
    | some r => s.refInput? r.docwin == some n
    | none => false
  | 2 => calInst k == n
  | 3 => s.refInput? (s.f FIRE_CTRL_MASTER_WIN) == some n
  | _ => false
def State.calLine (s : State) (n : Nat) : State :=
  s.cal.insts.foldl (fun s e =>
    if s.calSlews e.1 && s.calFollows e.1 n then s.slewTo e.1 ((s.calI e.1).done + 1) else s) s

/-- A source emits at a stated time (R129). -/
def State.emitAt (s : State) (src t : Nat) : State :=
  { s with pos := { s.pos with fabric := s.pos.fabric ++ [{ due := t + 8, src }] } }

/-- The check pattern's window opens at the next line event of input 0, and its line events are timed (R65, R67). -/
def State.patternLine (s : State) (t : Nat) : State :=
  if s.sys.patternWait then
    { s with sys := { s.sys with patternWait := false, patternLast := some t } }.openPattern 0
  else if s.sys.patternLast.isSome then { s with sys := { s.sys with patternLast := some t } }
  else s

/-- A line boundary lets the dies whose PLL has locked again strobe (R23). -/
def State.relocked (s : State) : State :=
  if s.health.dieAwait.isEmpty then s
  else { s with health := { s.health with dieUnlocked := s.health.dieUnlocked.filter fun d => !s.health.dieAwait.contains d, dieAwait := [] } }

/-- A line event of an input (R121, R124): line entered, direction and time stamp. It goes to the fabric, the reference
channel, the calibration slews and the windows whose reference input this is. -/
def State.lineEvent (s : State) (n line : Nat) (fwd : Bool) (stamp : Nat) : State :=
  let s := s.relocked.setF (POS_n_LINE_LINE n) line
  let s := s.modPin n fun x => { x with lineGap := if x.lastLineAt = 0 then 0 else stamp - x.lastLineAt, lastLineAt := stamp, fwdEvents := x.fwdEvents + b2n fwd }
  let s := if (s.posRec n).refSend then
      s.sendRef { line, fwd, ch := (s.posRec n).refCh, stamp := (stamp - s.sys.powerOn) / 4, delay := s.refDelay }
    else s
  let s := s.calLine n
  let s := if n = 0 then s.patternLine stamp else s
  if fwd then ((s.winsOf n).foldl State.windowLine ((s.emitAt n stamp).count 8 n 1)) else s

/-- The events of one step, one per nanosecond; `own` marks the input's own line state, whose crossings short of the count
step's own count set CATCHUP (R123). -/
def State.lineEvents (s : State) (n t : Nat) : Nat → List Crossing → State
  | _, [] => s
  | i, c :: r =>
    let s := if c.exact then s else (s.setF (POS_n_STATUS_CATCHUP n) 1).addF (POS_n_EVTCNT_CATCHUP_CNT n) 1
    (s.lineEvent n c.line c.fwd (t + 4 * i)).lineEvents n t (i + 1) r

def State.fireEvents (s : State) (k t : Nat) : Nat → List Crossing → State
  | _, [] => s
  | i, c :: r => (s.fireEvent k c.line c.fwd (t + 4 * i)).fireEvents k t (i + 1) r

/-- A tick moves the line state of an input and the fire line states of its tiles to the new count (R121, R123, R142). A tile
whose state one of the input's line events has set from the count has no crossing of its own in this tick. -/
def State.moveLines (s : State) (n : Nat) (d : Int) : State :=
  if (s.posRec n).refTake then s
  else
    let r := s.ratio n
    let (l, es) := stepLine r (s.pin n).ls (d * 65536 - (s.pin n).ls.prog)
    let fire := (s.tilesOf n).map fun k => (k, stepLine r (s.fireT k).ls (d * 65536 - (s.fireT k).ls.prog))
    let s := (s.modPin n fun x => { x with ls := l }).setF (POS_n_LINE_PHASE_PHASE n) l.phase.toNat
    let s := fire.foldl (fun s e => s.modFire e.1 fun x => { x with ls := e.2.1 }) s
    let s := s.lineEvents n s.now 0 es
    fire.foldl (fun s e => if (s.fireT e.1).ls == e.2.1 then s.fireEvents e.1 s.now 0 e.2.2 else s) s

/-- The next interpolated crossing of an input's line states by an instant: its time, the tile (none the input's own), and
its distance (R122, R142). -/
def State.crossing? (s : State) (n t : Nat) : Option (Nat × Option Nat × Nat) :=
  match s.span? n, (s.pin n).lastStep with
  | some sp, some k =>
    if (s.posRec n).refTake then none
    else
      let rev := s.fb (POS_n_STATUS_DIR n)
      let one := fun (who : Option Nat) (l : LineState) => (nextCross? (s.ratio n) rev l).map fun r => (crossTime k sp r, who, r)
      let all := one none (s.pin n).ls :: (s.tilesOf n).map fun i => one (some i) (s.fireT i).ls
      (all.filterMap id).foldl (fun (a : Option (Nat × Option Nat × Nat)) c =>
        if t < c.1 then a else match a with
          | some b => if c.1 < b.1 then some c else some b
          | none => some c) none
  | _, _ => none

/-- Every interpolated crossing up to an instant, in order of time; `fuel` bounds their number. -/
def State.interpolate (s : State) (n t : Nat) : Nat → State
  | 0 => s
  | fuel + 1 =>
    match s.crossing? n t with
    | none => s
    | some (time, who, r) =>
      let rev := s.fb (POS_n_STATUS_DIR n)
      let s := match who with
        | none =>
          let (l, es) := crossLine (s.ratio n) rev (s.pin n).ls r
          let s := (s.modPin n fun x => { x with ls := l }).setF (POS_n_LINE_PHASE_PHASE n) l.phase.toNat
          es.foldl (fun (s : State) (c : Crossing) => s.lineEvent n c.line c.fwd time) s
        | some k =>
          let (l, es) := crossLine (s.ratio n) rev (s.fireT k).ls r
          es.foldl (fun (s : State) (c : Crossing) => s.fireEvent k c.line c.fwd time) (s.modFire k fun x => { x with ls := l })
      s.interpolate n t fuel

/-! ### Count steps (R104 to R118, R126, R127) -/

/-- The count of an input changes by one, and the epoch with a wrap (R109). -/
def State.tick (s : State) (n : Nat) (d : Int) : State :=
  let c : Nat := s.f (POS_n_COUNT_LO_COUNT n) + 2 ^ 32 * s.f (POS_n_COUNT_HI_EPOCH n)
  let v : Nat := wrap 48 ((c : Int) + d)
  (s.setF (POS_n_COUNT_LO_COUNT n) v).setF (POS_n_COUNT_HI_EPOCH n) (v / 2 ^ 32)

/-- A compare hit (R126, R127). -/
def State.compare (s : State) (n : Nat) (d : Int) : State :=
  let sel := s.f (POS_n_CMP_CTRL_DIRSEL n)
  let ok := if sel = 1 then decide (0 < d) else if sel = 2 then decide (d < 0) else true
  if s.fb (POS_n_CMP_CTRL_EN n) && ok && s.f (POS_n_COUNT_LO_COUNT n) = s.f (POS_n_CMP_TARGET n) then
    let s := s.emitSrc (0x10 + n)
    let st := s.f (POS_n_CMP_STEP_STEP n)
    if st = 0 then s.setF (POS_n_CMP_CTRL_EN n) 0 else s.incF (POS_n_CMP_TARGET n) st
  else s

/-- The position interrupt of a direction change (R112). -/
def State.posIrq (s : State) (n : Nat) : State :=
  if (s.posRec n).dirchgIrq && !bit (s.f POS_IRQ_PEND) n then (s.setBit POS_IRQ_PEND n true).msix (s.f POS_IRQ_VEC) else s

/-- A fault that the position block of every die detects, since every die decodes every input (R13, R139). -/
def State.raiseAll (s : State) (k : Kind) (addr : Nat) : State :=
  [0, 1, 2, 3].foldl (fun s d => s.raiseLane d k addr) (s.raise k addr)

/-- What a count step brings before the count moves (R104, R112, R116, R119): overspeed, the position settled, a change of
direction, and the interval. -/
def State.beginStep (s : State) (n : Nat) (d : Int) : State :=
  let x := s.pin n
  let s := match x.lastStep with
    | some k => if s.now < k + 80 then (s.setF (POS_n_STATUS_OVERSPEED n) 1).raiseAll kPOS_OVERSPEED n else s
    | none => s
  let s := s.settle n s.now
  let turned := x.stepped && s.fb (POS_n_STATUS_DIR n) != decide (d < 0)
  let s := if turned then
      (((s.setF (POS_n_STATUS_DIR_CHG n) 1).addF (POS_n_EVTCNT_DIRCHG_CNT n) 1).posIrq n).modPin n fun x =>
        { x with idxTurned := true, run := 0, intervals := [] }
    else s
  let s := s.setFields [(POS_n_STATUS_STILL n, 0), (POS_n_STATUS_DIR n, b2n (decide (d < 0)))]
  s.modPin n fun x =>
    { x with stepped := true, run := x.run + 1, lastStep := some s.now,
             intervals := if x.run = 0 then [] else (s.now - x.lastStep.getD s.now) :: x.intervals.take 3,
             recent := (s.now, d) :: x.recent.filter fun e => decide (s.now < e.1 + us 100) }

/-- A count step of an input, `d` being +1 or −1 after INVERT (R104, R109, R112, R116, R119, R121, R126). -/
def State.countStep (s : State) (n : Nat) (d : Int) : State :=
  (((((s.beginStep n d).tick n d).count 9 n 1).compare n d).phaseOrder n d).moveLines n d

/-- An illegal transition (R106, R107). -/
def State.illegal (s : State) (n : Nat) : State :=
  ((s.setF (POS_n_STATUS_ILLEGAL n) 1).addF (POS_n_EVTCNT_ILLEGAL_CNT n) 1).raiseAll kPOS_ILLEGAL (s.f (POS_n_COUNT_LO_COUNT n) * 16 + n)

/-- What a change of the levels of A and B means in a mode (R105 to R108): the sign of its count step and, in quadrature, the
edge it crosses. -/
inductive Change where
  | none
  | illegal
  | count (d : Int) (edge : Nat)
deriving DecidableEq, Repr

/-- The place of a quadrature state in the forward order 00, 10, 11, 01. -/
def quadState (a b : Bool) : Nat := if a then (if b then 2 else 1) else if b then 3 else 0

/-- The decoding of R105; edge 0 is the transition between 00 and 10 (R436). -/
def decodeStep (mode : Nat) (a0 b0 a b : Bool) : Change :=
  match mode with
  | 1 =>
    if a != a0 && b != b0 then .illegal
    else if a == a0 && b == b0 then .none
    else if quadState a b = (quadState a0 b0 + 1) % 4 then .count 1 (quadState a0 b0) else .count (-1) (quadState a b)
  | 2 =>
    if a && !a0 then (if b != b0 then .illegal else .count (if b then -1 else 1) 0) else .none
  | 3 =>
    let up := a && !a0
    let down := b && !b0
    if up && !down then .count 1 0 else if down && !up then .count (-1) 0 else .none
  | _ => .none

/-! ### Index latch and preset (R111, R113 to R115) -/

/-- The index latch (R113 to R115). -/
def State.latch (s : State) (n : Nat) : State :=
  let c := s.f (POS_n_COUNT_LO_COUNT n) + 2 ^ 32 * s.f (POS_n_COUNT_HI_EPOCH n)
  let s := (s.setFields [(POS_n_IDX_LO_COUNT n, c), (POS_n_IDX_HI_EPOCH n, c / 2 ^ 32)]).emitSrc (0x20 + n)
  let span := s.f (POS_n_IDX_SPAN_SPAN n)
  let x := s.pin n
  let s := match x.prevIdx with
    | none => s
    | some p =>
      if span = 0 then s
      else if x.idxTurned then s.setF (POS_n_STATUS_DRIFT_VALID n) 0
      else
        let d := sx 48 (wrap 48 ((c : Int) - p))
        let drift := clamp (-32767) 32767 (if 0 ≤ d then d - span else d + span)
        let s := (s.setFs (POS_n_IDX_DRIFT_DRIFT n) drift).setF (POS_n_STATUS_DRIFT_VALID n) 1
        let lim := s.f (POS_n_IDX_DRIFT_LIMIT n)
        if lim != 0 && lim < drift.natAbs then (s.setF (POS_n_STATUS_DRIFT n) 1).raiseAll kPOS_DRIFT n else s
  s.modPin n fun x => { x with prevIdx := some c, idxTurned := false }

/-- The line state of an input set from its count (R120). -/
def State.setLine (s : State) (n : Nat) : State :=
  if (s.posRec n).refTake then s
  else
    let ls := lineStateOf (s.f (POS_n_COUNT_LO_COUNT n)) ((s.posRec n).offset * 65536) (s.ratio n)
    (s.modPin n fun x => { x with ls := ls }).setFields [(POS_n_LINE_LINE n, ls.line), (POS_n_LINE_PHASE_PHASE n, ls.phase.toNat)]

/-- A write of POS_n_PRESET_HI (R111, R142). -/
def State.preset (s : State) (n lo hi : Nat) : State :=
  if s.st = NIGHT || s.st = DAWN || s.func = MORNING then
    let s := s.setFields [(POS_n_PRESET_LO_COUNT n, lo), (POS_n_PRESET_HI_EPOCH n, hi), (POS_n_COUNT_LO_COUNT n, lo), (POS_n_COUNT_HI_EPOCH n, hi)]
    let s := s.modPin n fun x => { x with prevIdx := none, idxTurned := false, run := 0, intervals := [], recent := [] }
    (s.tilesOf n).foldl State.resetFire (s.setLine n)
  else s.raise kPOS_NOTE (rPOS_n_PRESET_HI n)

/-- A write of POS_n_CMP (R128). -/
def State.writeCmp (s : State) (n v : Nat) : State :=
  let s := s.setF (POS_n_CMP_TARGET n) v
  if aheadOf 32 v (s.f (POS_n_COUNT_LO_COUNT n)) then s else s.setF (POS_n_STATUS_CMP_BEHIND n) 1

/-! ### References released (R133, R134, R143) -/

/-- A reference is released: it drives the takers' tiles and emits source 0x050 + c. -/
def State.releaseRef (s : State) (c : Nat) (r : RefPend) : State :=
  let s := s.emitSrc (0x50 + c)
  if r.marker then s
  else
    (s.takers c).foldl (fun s n =>
      let s := (s.modPin n fun x => { x with ls := { line := r.line } }).lineEvent n r.line r.dir s.now
      (s.tilesOf n).foldl (fun s k =>
        match s.tileRec? k with
        | some t =>
          let f := wrap 32 ((r.line : Int) - s.offsetO t (s.f (FIRE_n_STATUS_PASS k)) / 65536)
          (s.modFire k fun x => { x with ls := { line := f } }).fireEvent k f r.dir s.now
        | none => s) s) s

/-- A LINEREF packet heard on a channel that this engine takes (R133 to R137); `age` is its age here in ns. A heartbeat gives
the takers their LINE while the channel is lost (DESIGN CHOICE, log entry 39). -/
def State.refIn (s : State) (src age : Nat) (r : Ref) : State :=
  if (s.takers r.ch).isEmpty then s
  else if (s.refCh r.ch).heard.any (· != src) then (s.setBit POS_REF_STATUS_CONFLICT r.ch true).raise kREF_CONFLICT src
  else
    let lost := bit (s.f POS_REF_STATUS_LOST) r.ch
    let s := (s.refHeard r.ch src).setF POS_REF_AGE_AGE_MAX (max (s.f POS_REF_AGE_AGE_MAX) (sat 16 age))
    if r.beat then
      if lost then (s.takers r.ch).foldl (fun s n =>
        let s := (s.modPin n fun x => { x with ls := { line := r.line } }).setF (POS_n_LINE_LINE n) r.line
        (s.tilesOf n).foldl State.resetFire s) s
      else s
    else if age + 500 ≤ r.delay then s.refQueue r (s.now + 4 * (r.delay - age))
    else
      ((s.addF POS_REF_AGE_LATE_CNT 1).raise kREF_LATE r.ch).releaseRef r.ch { at_ := s.now, line := r.line, dir := r.fwd, marker := r.marker }

/-! ### The event fabric's destinations (R84, R129, R130) -/

/-- An event reaches a destination. -/
def State.deliverTo (s : State) (dst : Nat) : State :=
  let k := dst % 16
  match dst / 16 with
  | 0x10 => s.openWin k
  | 0x11 => s.closeWin k
  | 0x12 => s.cuePulse k
  | 0x13 => s.sendRef { line := 0, marker := true, ch := k, stamp := s.sysTime, delay := s.refDelay }
  | 0x14 => s.incF (POS_EVCNT_c_VALUE k) 1
  | 0x15 => s.motorSync k
  | _ => s

/-- A source's event reaches its routed destinations (R129). -/
def State.deliverSrc (s : State) (src : Nat) : State :=
  match s.cfg.armed with
  | some im => (im.routes.filter fun r => r.1 == src).foldl (fun s r => s.deliverTo r.2) s
  | none => s

end Sys2Proof.Machine
end

