-- ==== Sys2Proof/Machine/SysOps.lean ====
section
/-!
DEFINITION. Shared operations of chapter 02 with the apply of chapter 03: entering each operating state, run, stop and Night
requests, the tests at the beginning and the end of Dawn, and the apply of an image.
-/
namespace Sys2Proof.Machine

/-! ### Entering a state (R42, R43) -/

/-- The state register takes a new state and cause, and the old state as PREV (R43). -/
def State.goTo (s : State) (st cause : Nat) : State :=
  (s.setFields [(SYS_STATE_PREV, s.st), (SYS_STATE_STATE, st), (SYS_STATE_CAUSE, cause), (SYS_STATE_FUNC, 0)]).showCues

/-- A pending live replacement is discarded with a NOTE (R99). -/
def State.liveDiscard (s : State) : State :=
  if s.cfg.live.isSome then
    (({ s with cfg := { s.cfg with live := none, liveWins := [] } }).setF CFG_STATUS_LIVE_PENDING 0).raise kSYS_NOTE rCFG_STATUS
  else s

/-- Queued documents that have not opened are discarded with their renderings (R255); `rec` says that each is reported as
discarded, and their number is. -/
def State.discardDocs (s : State) (report : Bool) : State :=
  let all := s.wins.flatMap fun e => e.2.queue.flatMap fun r =>
    (List.range (r.repeats - r.opened)).map fun i => (r, r.opened + i)
  let s := if report then all.foldl (fun s e => s.docEnd e.1.win e.1.stream e.1.tag e.2 2 0 0 0 false e.1.test) s else s
  let s := { s with comp := { s.comp with docs := s.comp.docs.filter (·.opened) } }
  let s := (List.range 16).foldl (fun s w => if (s.win w).queue.isEmpty then s else (s.modWin w fun x => { x with queue := [] }).showQueue w) s
  let s := s.releaseKept.showComp
  if report && !all.isEmpty then s.raise kCMP_DISCARD all.length else s

/-- Opens that are deferred lapse, as no window opens any more (R51). -/
def State.dropDefers (s : State) : State :=
  (List.range 16).foldl (fun s w => if (s.win w).defer.isSome then s.modWin w fun x => { x with defer := none } else s) s

/-- The stand-alone timer starts, unless POS0_MODE is 0b11, which is noted (R62). -/
def State.startSa (s : State) : State :=
  if bits s.ident.straps 7 6 = 3 then s.raise kSYS_NOTE rSYS_STRAP
  else { s with sys := { s.sys with saDeadline := some (s.now + sec 5) } }

/-- The check pattern is neither awaited nor under way (R67), and nothing is spat (R64). -/
def State.noPattern (s : State) : State :=
  { s with sys := { s.sys with patternWait := false, patternDone := false, patternLast := none } }
def State.noSpit (s : State) : State :=
  { s with sys := { s.sys with spitDeadline := none, spitNext := none, spitResume := none } }
def State.quietSys (s : State) : State := s.noPattern.noSpit

/-- Night is entered (R43, R54, R62, R99, R255, R451): power is removed, and what awaits a document is discarded. -/
def State.enterNight (s : State) (cause : Nat) : State :=
  let dusk := s.st == DUSK
  let s := s.goTo NIGHT cause
  let s := s.setFields [(SYS_STATE_DAWN_DONE, 0), (SYS_CTRL_RUN, 0), (SYS_STATE_RUN_PENDING, 0), (THM_STATUS_DUSK_REQ, 0)]
  let s := s.liveDiscard.discardDocs true
  let s := s.dropDefers.calDrop
  let s := (List.range 96).foldl State.removePower s
  let s := s.railsDown.motorsOff
  let s := if !s.fb SYS_STATE_STANDALONE && s.cfg.armed.any (·.builtin) then { s with cfg := { s.cfg with armed := none } } else s
  let first := !s.sys.saSeenNight
  let s := { s with sys := { s.sys with saSeenNight := true, bootDone := true, saDawn := false, duskNight := false, duskThermal := false } }.quietSys
  if bit s.ident.straps 11 && (first || (dusk && !s.fb SYS_CTRL_SA_INHIBIT)) then s.startSa else s

/-- Midnight is entered (R42, R48, R54, R99, R255, R345, R364, R369, R416, R451). -/
def State.enterMidnight (s : State) (cause : Nat) : State :=
  let s := s.goTo MIDNIGHT cause
  let s := (s.liveDiscard.discardDocs false).dropDefers.calDrop
  let s := (List.range 96).foldl (fun s n => (s.fuseOpen n).logicOff n) s
  let s := s.railsOff.motorsOff
  let s := (List.range 16).foldl (fun s w =>
    match (s.win w).doc with
    | some d =>
      let s := { s with comp := { s.comp with docs := s.comp.docs.filter fun r => r.id != d.id } }
      let s := (s.winTiles w).foldl (fun s n => (s.modFire n fun x => { x with doc := none, held := none, launch := [] }).setF (FIRE_n_STATUS_ACTIVE n) 0) s
      (s.modWin w fun x => { x with doc := none }).setFields [(FIRE_WIN_w_STATUS_OPEN w, 0), (FIRE_WIN_w_STATUS_STOPPING w, 0)]
    | none => s) s
  let s := { s with health := { s.health with dieGated := [0, 1, 2, 3, 4] }, pwr := { s.pwr with storeHalt := true } }
  let s := { s with sys := { s.sys with bootDone := true, saDeadline := none } }.quietSys
  s.updHoldup.setF SYS_STATE_RUN_PENDING 0

/-- Noon is entered, or its functions begin in Evening (R45, R166). -/
def State.noonBegins (s : State) : State :=
  (List.range 16).foldl (fun s w => s.modWin w fun x => { x with suDocs := some 0 }) (s.setF SYS_STATE_RUN_PENDING 0)
def State.enterNoon (s : State) (cause : Nat) : State := (s.goTo NOON cause).noonBegins

/-- In Morning a pending RUN is acted on once the store is ready (R50). -/
def State.runPending (s : State) : State :=
  if s.st = MORNING && s.fb SYS_STATE_RUN_PENDING && s.fb SYS_STATE_HOLDUP_READY then s.enterNoon 4 else s

/-- In stand-alone Morning the burst that a pattern interrupted runs on, or the 8 s timer starts if it does not run
(R64, R67). -/
def State.spitMorning (s : State) : State :=
  if !s.fb SYS_STATE_STANDALONE then s
  else match s.sys.spitResume with
    | some k => { s with sys := { s.sys with spitResume := none, spitNext := some k, spitDue := s.now + us 100 } }
    | none =>
      if s.sys.spitDeadline.isNone && s.sys.spitNext.isNone then
        { s with sys := { s.sys with spitDeadline := some (s.now + sec 8) } }
      else s

/-- Morning is entered (R43, R50, R345, R440). -/
def State.enterMorning (s : State) (cause : Nat) : State :=
  let dawn := s.st == DAWN
  let s := s.goTo MORNING cause
  let s := if dawn then s.startRails else s
  (s.calAllDue.spitMorning).runPending

/-! ### Dusk (R51 to R53, R361, R406) -/

/-- Fire lines still to be taken on the slowest tile of a window, those of its further passes included (R406). -/
def State.linesLeft? (s : State) (w : Nat) (d : Doc) : Option Nat :=
  match endLine d, d.jEnd with
  | some e, some j =>
    some ((((s.partTiles w).filter fun n => (s.fireT n).doc.isSome && !(s.fireT n).finished).map fun n =>
      let here := (e + 2 ^ 32 - s.f (FIRE_n_HWM_H n)) % 2 ^ 32
      let more := match s.tileRec? n with
        | some r => s.passes r - 1 - s.f (FIRE_n_STATUS_PASS n)
        | none => 0
      (if here < 2 ^ 31 then here else 0) + more * (j + 89).toNat).max?.getD 0)
  | _, _ => none

/-- The measured line rate of an input as lines per time: a numerator in lines and a divisor in seconds, none at standstill;
a taking input's is that of the channel's last two line events (R118, R406). -/
def State.lineRate? (s : State) (n : Nat) : Option (Nat × Nat) :=
  if (s.posRec n).refTake then
    let g := max (s.pin n).lineGap (s.now - (s.pin n).lastLineAt)
    if (s.pin n).lineGap = 0 || us (s.posRec n).stillUs ≤ s.now - (s.pin n).lastLineAt then none else some (4000000000, g)
  else if s.fb (POS_n_STATUS_STILL n) || s.readSpeed n = 0 then none
  else some ((s.readSpeed n).natAbs * 65536, s.ratio n)

/-- A document finishes: t_p exceeds its remaining time and CAP_MS (R406). -/
def State.finishes (s : State) (w : Nat) (d : Doc) (tp : Option (Int × Nat)) : Bool :=
  match (s.refInput? w).bind s.lineRate?, s.linesLeft? w d with
  | some (num, den), some lines =>
    match tp with
    | none => true
    | some tp => !s.tripWithin tp (lines * den) num false
  | _, _ => false

/-- The test of R406 on every open document: one that fails it is stopped at the next line boundary. -/
def State.finishTest (s : State) : State :=
  let tp := match s.thm.duskSensor with
    | some n => s.timeToTrip? n
    | none => s.soonest
  (s.openDocs).foldl (fun s e => if s.finishes e.1 e.2 tp then s else s.askStop e.1) (s.showPred tp)

/-- Every open document is stopped at its next line boundary (R51). -/
def State.stopDocs (s : State) : State := s.openDocs.foldl (fun s e => s.askStop e.1) s

/-- Dusk is entered (R43, R51, R53, R99, R451). -/
def State.enterDusk (s : State) (cause : Nat) (night : Bool) : State :=
  let s := s.goTo DUSK cause
  let s := { s with sys := { s.sys with duskNight := night || cause == 0x0A, duskThermal := cause == 7 } }.noPattern
  let s := (s.dropDefers.calDrop).motorsDusk
  let s := if cause = 6 then s.stopDocs else if cause = 7 then s.finishTest else s
  s.noteSwaps

/-- A STOP-class fault (R43, R418): from Noon and Evening to Dusk. -/
def State.stopFault (s : State) : State := if s.st = NOON || s.st = EVENING then s.enterDusk 6 false else s

/-- Thermal protection requests Dusk, for a sensor or for none (R406). -/
def State.thermalDusk (s : State) (n : Option Nat) : State :=
  if s.st = NOON || s.st = EVENING then
    ({ s with thm := { s.thm with duskSensor := n } }).enterDusk 7 false
  else s

/-! ### Evening (R43, R45) -/

/-- Mains is lost in Morning or Noon: Evening, with the functions that continue in FUNC; in Dawn, Night (R43). -/
def State.mainsLostState (s : State) : State :=
  if s.st = MORNING || s.st = NOON then
    let f := s.st
    (s.goTo EVENING 8).setF SYS_STATE_FUNC f |>.showCues
  else if s.st = DAWN then s.enterNight 8
  else s

/-- The hand-back to mains ends Evening (R43, R45, R50). -/
def State.handBack (s : State) : State :=
  if s.st = EVENING then
    if s.f SYS_STATE_FUNC = NOON then s.enterNoon 9 else s.enterMorning 9
  else s

/-! ### Requests (R43, R45, R49, R50, R68, R419, R506) -/

/-- A run request (R45, R50, R419, R506). -/
def State.runRequest (s : State) : State :=
  if s.fb FLT_PEND_STOP then (s.setF SYS_STATE_RUN_PENDING 0).raise kSYS_NOTE rSYS_CTRL
  else if s.st = MORNING then
    if s.fb SYS_STATE_HOLDUP_READY then s.enterNoon 4 else s.setF SYS_STATE_RUN_PENDING 1
  else if s.st = DAWN || s.st = DUSK then s.setF SYS_STATE_RUN_PENDING 1
  else if s.st = EVENING && s.f SYS_STATE_FUNC = MORNING then
    if s.pwr.dcOn then (s.setF SYS_STATE_FUNC NOON).noonBegins else s.setF SYS_STATE_RUN_PENDING 1
  else s

/-- A stop request (R43, R50, R506). -/
def State.stopRequest (s : State) : State :=
  let s := s.setF SYS_STATE_RUN_PENDING 0
  if s.func = NOON && (s.st = NOON || s.st = EVENING) then s.enterDusk 5 false else s

/-- SYS_CTRL.NIGHT = 1 (R43, R68): stand-alone operation ends, and the keep-wet layout with it once Night is entered. -/
def State.nightRequest (s : State) : State :=
  let s := s.setF SYS_STATE_STANDALONE 0
  if s.st = DAWN then s.enterNight 1
  else if s.st = MORNING || s.st = NOON || s.st = EVENING then s.enterDusk 5 true
  else if s.st = NIGHT && s.cfg.armed.any (·.builtin) then { s with cfg := { s.cfg with armed := none } }
  else s

/-- SYS_CTRL.ABANDON = 1 (R51): in Dusk the open documents are stopped at the next line boundary. -/
def State.abandon (s : State) : State := if s.st = DUSK then s.stopDocs else s

/-! ### Dawn (R59, R60, R325) -/

/-- The outcome of the ID handshake (R325). -/
def detectCode (a m : Pins) : Nat :=
  let far := fun (x : Option Nat) => match x with
    | some r => decide (1000 < r)
    | none => true
  let tsr := fun (x : Option Nat) => match x with
    | some r => decide (500 ≤ r ∧ r ≤ 20000)
    | none => false
  let hm := fun (x : Option Nat) => match x with
    | some v => decide (400 ≤ v ∧ v ≤ 800)
    | none => false
  let pass := fun (p : Pins) => far p.vppGnd && far p.vppLogic && tsr p.tsr && hm p.hm
  if pass a then 1
  else if a == {} && m == {} then 2
  else if pass m then 3
  else if !far a.vppGnd then 4
  else if !far a.vppLogic then 5
  else 6

/-- A tile's classes and results from before Dawn go; what is forced stays (R198, R201, R203, R205). -/
def dawnNozzle (z : Noz) : Noz :=
  { z with heat := 0, fg := z.fg / 4 % 2 * 4, bg := z.fg / 4 % 2 * 4 + (z.bg / 4 % 2 - z.fg / 4 % 2) * 4, res := 0, dis := 0 }

/-- Every lane engine emptied, and the rolls ended (R59). -/
def State.clearLanes (s : State) : State := { s with lanes := [], health := { s.health with rollTile := [] } }

/-- Dawn step 2: the lane engines as their self-test finds them, each tile on its own engine or a free spare (R59, R217). -/
def State.dawnLanes (s : State) (bad : List Nat) : State :=
  let s := (List.range 104).foldl (fun s e =>
    s.setFields [(LANE_e_STATUS_IN_USE e, 0), (LANE_e_STATUS_TILE e, 0x7F), (LANE_e_STATUS_FAILED e, 0), (LANE_e_STATUS_TESTING e, 0)]) s
  let s := s.setFields [(HLTH_SPARES_FAILED, 0), (HLTH_SPARES_ROLLING, 0), (HLTH_SPARES_USED, 0)]
  let s := s.clearLanes
  let s := (List.range 96).foldl (fun s n => s.modTh n fun h => { h with engine := none }) s
  let s := (sortNat bad).foldl State.failEngine s
  (List.range 96).foldl (fun s n =>
    if !bad.contains n then s.connect n n
    else match s.freeSpares (tileDie n) with
      | e :: _ => s.connect n e
      | [] => (s.setF (TILE_n_STATUS_FAILED n) 1).modTh n fun h => { h with dead := true }) s

/-- A tile port at the beginning of Dawn: no supply, nothing known (R325, R326, R332, R334). -/
def State.dawnTile (s : State) (n : Nat) : State :=
  let s := (s.fuseOpen n).logicOff n
  let s := s.setFields [(TILE_n_STATUS_FAILED n, 0), (TILE_n_STATUS_CAUSE n, 0), (TILE_n_STATUS_DETECT n, 0), (TILE_n_STATUS_FALLBACK n, 0),
    (TILE_n_STATUS_USAGE_ON n, 0), (HLTH_n_STATUS_BYPASSED n, 0), (HLTH_n_STATUS_UNDER_TEST n, 0), (HLTH_n_STATUS_SWAP_PENDING n, 0),
    (HLTH_n_STATUS_OVL_MOVED n, 0), (HLTH_n_UNPRINT_FIRST n, 0), (HLTH_n_UNPRINT_COUNT n, 0), (HLTH_n_SCAN_CURSOR n, 0)]
  let s := s.modPort n fun p => { pendUse := p.pendUse, useCount := p.useCount, useSeq := p.useSeq, userial := p.userial }
  (s.modTh n fun h => { engine := h.engine, rank := h.rank, wear := h.wear, fired := h.fired, codes := h.codes }).modFire n fun _ => {}

/-- Dawn step 3 on a port (R325), and the logic supply of step 4 where it passes (R326). -/
def State.dawnDetect (s : State) (n : Nat) (a m : Pins) : State :=
  let c := detectCode a m
  let s := s.setF (TILE_n_STATUS_DETECT n) c
  if c = 2 then s.absentTile n
  else
    if c = 1 then
      if s.fb (TILE_n_STATUS_FAILED n) then s
      else (s.setF (TILE_n_STATUS_LOGIC_ON n) 1).modPort n fun p => { p with rampEnd := some (s.now + ms 1) }
    else (s.failTile n 1).raiseLane (tileDie n) kTILE_DETECT (n + c * 256)

/-- Dawn is entered, and its tests begin (R43, R59). -/
def State.enterDawn (s : State) (cause : Nat) (x : DawnTests) : State :=
  let s := s.goTo DAWN cause
  let s := x.differ.foldl (fun s n => s.raise kPOS_MISMATCH n) s
  let s := (List.range 96).foldl State.dawnTile s
  let s := s.mapNoz dawnNozzle
  let s := s.dawnLanes x.badLanes
  let s := (List.range 24).foldl (fun s q => s.setF (PWR_q_RAIL_SHORT q) 0) s
  let s := (List.range 96).foldl (fun s n =>
    let p := (lookup? x.pins n).getD ({}, {})
    s.dawnDetect n p.1 p.2) s
  let s := s.calDawnStart
  [0, 1, 2, 3].foldl (fun s a =>
    let ((u1, v1), (u2, v2)) := (lookup? x.offsets a).getD ((0, 0), (0, 0))
    (s.calDawnPair (256 + a) [u1, v1] [u2, v2]).dawnMotor a ((lookup? x.gates a).getD []) (roundAway (u1 + u2) 2) (roundAway (v1 + v2) 2)) s

/-- The tile is absent in this Dawn: the handshake found none (R325), or it passed and the tile has not trained (R326). -/
def State.absent (s : State) (n : Nat) : Bool :=
  s.f (TILE_n_STATUS_DETECT n) == 2 || (s.f (TILE_n_STATUS_DETECT n) == 1 && !s.fb (TILE_n_STATUS_TRAINED n) && !s.fb (TILE_n_STATUS_FAILED n))

/-- The tile counts of SYS_DAWN, and the tiles that did not pass (R60, R82). -/
def State.dawnCounts (s : State) : State :=
  let num := fun (p : Nat → Bool) => ((List.range 96).filter p).length
  let s := { s with sys := { s.sys with dawnBad := (List.range 96).filter fun n => !s.tileUp n } }
  s.setFields [(SYS_DAWN_TILES_UP, num s.tileUp), (SYS_DAWN_TILES_ABSENT, num s.absent),
    (SYS_DAWN_TILES_FAILED, num fun n => s.fb (TILE_n_STATUS_FAILED n)), (SYS_DAWN_SPARES_USED, popcount 8 (s.f HLTH_SPARES_USED))]

/-! ### The apply of an image (R43, R44, R82, R93, R99, R120, R137, R142 to R144, R180, R290, R345, R349, R354, R376, R450, R458) -/

/-- Every slot is freed (R290). -/
def State.freeSlots (s : State) : State :=
  ({ s with dma := { s.dma with slots := s.dma.slots.map fun (e : Nat × Slot) =>
      if e.2.live || e.2.kept then
        (e.1, { e.2 with live := false, kept := false, gen := if e.2.gen = 255 then 1 else e.2.gen + 1 })
      else e } }).showSlots

/-- The inputs and reference channels under a new image (R115, R120, R136, R137). -/
def State.applyPos (s : State) : State :=
  let s := { s with pos := { s.pos with refs := [] } }
  let s := (List.range 16).foldl (fun s n =>
    (s.modPin n fun x => { x with prevIdx := none, ls := {}, hbDue := s.now, lineGap := 0 }).setLine n) s
  (List.range 16).foldl (fun s c =>
    if (s.takers c).isEmpty then s.setBit POS_REF_STATUS_LOST c false
    else
      let was := bit (s.f POS_REF_STATUS_LOST) c
      let s := s.setBit POS_REF_STATUS_LOST c true
      if was then s else s.raise kREF_LOST c) s

/-- The tiles and windows under a new image (R82, R142 to R144, R160, R180, R345). -/
def State.applyTiles (s : State) : State :=
  let s := (List.range 16).foldl (fun s w =>
    (s.endPause w).modWin w fun x =>
      { x with inGap := true, ended := false, gapLines := 0, gapCycle := none, lastLine := none, defer := none,
               announced := false, holdOver := false, swapAt := none, thmTo := none, ratePend := false }) s
  let s := s.mapNoz fun z => { z with heat := 0 }
  (List.range 96).foldl (fun s n =>
    match s.tileRec? n with
    | some r =>
      if r.enable then
        let s := ((s.modFire n fun x => { x with ls := {}, ev1 := none, ev2 := none, finished := false }).setF (FIRE_n_STATUS_PASS n) 0).resetFire n
        let s := s.refFrac n
        let s := if s.inputOf? n != s.refInput? r.docwin then s.raiseLane (tileDie n) kFIRE_WIN_INPUT n else s
        if !s.tileUp n && r.bypassOk && !s.bypassed n then s.bypassTile n else s
      else s.removeVpp n
    | none => s.removeVpp n) s

/-- The cue lines take their new records (R87). -/
def State.applyCues (s : State) : State :=
  ({ s with svc := { s.svc with cueHold := [], cuePulse := [], cueOver := [], vinNoted := [] } }).showCues

/-- An image is applied: its tables are in force, and what the old one awaited is gone. -/
def State.applyImage (s : State) (im : Image) : State :=
  let old := (s.cfg.armed).getD {}
  let s := (s.liveDiscard).discardDocs true
  let s := if im.builtin || (im.regions == old.regions && im.laneBanks == old.laneBanks && im.spadBanks == old.spadBanks) then s else s.freeSlots
  let s := ({ s with cfg := { s.cfg with armed := some im } }).setFields [(CFG_IMAGE_ID_IMAGE_ID, im.id), (SYS_STATE_STANDALONE, b2n im.builtin)]
  let s := s.noSpit
  let s := (List.range 104).foldl (fun s e => s.setBanks e (s.imageBanks e)) s
  let s := ((List.range 32).foldl (fun s b => s.setSpad b (im.spadBanks.getD b 0)) s).showPool
  let s := s.applyPos.applyTiles
  let s := if s.st = MORNING then s.startRails else s
  let s := (s.setF PWR_STORE_DUSK_J (duskReserve (some im))).updHoldup
  let s := if s.pwr.acctSet then s else ({ s with pwr := { s.pwr with acctSet := true } }).setAcct s.acctCap
  let s := [0, 1, 2, 3].foldl (fun s a =>
    let s := s.modAxis a fun x => { x with identified := false }
    if (s.axisRec a).role = 0 && (s.axis a).st != .off then s.axisOff a else s) s
  (({ s with flt := { s.flt with reactions := im.reactions } }).calApply im.cal).applyCues.showComp

/-- The keep-wet layout (R63): every tile that passed Dawn, position input 0 by the straps, start input on cue line 0. Its
columns lie side by side (DESIGN CHOICE, log entry 40). -/
def State.keepWet (s : State) : Image :=
  let st := s.ident.straps
  let e := Config.keepWetEnergy
  { builtin := true
    tiles := ((List.range 96).filter s.tileUp).map fun n => { tile := n, colStart := 1024 * n }
    pos := [{ mode := bits st 7 6 + 1, ratio := 65536 * 2 ^ bits st 10 8, tiles := 2 ^ 96 - 1 }]
    energy := [{ plane := 0, base := (List.range 64).map e, vref := e 64, vcoef := sx 16 (e 65),
                 ranks := (List.range 16).map fun r => sx 16 (e (66 + r)), stepPs := e 82, prePs := e 83, gapPs := e 84 }]
    history := { decay := Config.keepWetHistory 0, heat := Config.keepWetHistory 1, gain := Config.keepWetHistory 2, limit := Config.keepWetHistory 3 } }

end Sys2Proof.Machine
end

