-- ==== Sys2Proof/Machine/Calibration.lean ====
section
/-!
DEFINITION. The commands of chapter 16: measurements, due and overdue instances, slews without line events, and the import of
KH-4806 records.
-/
namespace Sys2Proof.Machine

/-- Measurements of an instance may be made now (R26, R435, R437, R440, R451). -/
def State.calOpen (s : State) (k : Nat) : Bool :=
  let n := calInst k
  s.calEnabled k && (s.calI k).due && !bit (s.f CAL_CTRL_HOLD) (calTarget k) && (s.st = MORNING || s.st = NOON || s.st = EVENING) &&
  match calTarget k with
  | 1 => s.anyGap && s.fb (MOT_a_STATUS_AT_SPEED n)
  | 2 => s.anyGap
  | 3 => (s.calI k).bins.sum == 65536
  | _ => match s.tileRec? n with
    | some r => (s.win r.docwin).inGap
    | none => false

/-- A result joins the first of its pair (R439), or is the first; target 3's next collection begins. -/
def State.calResult (s : State) (k : Nat) (v : List Int) (pair : State → List Int → State) : State :=
  match (s.calI k).first with
  | none => s.modCal k fun x => { x with first := some v, bins := [0, 0, 0, 0] }
  | some a => pair s a

/-- CAL_MEASUREMENT_COMPLETE: a measurement of an instance gives its result (R434 to R439): target 0 the lag error in ps; 1 the
means of U and V in LSB and their RMS; 2 the four shares in 1/65,536; 4 the readings of the 50 Ω and 200 Ω references in mΩ.
Target 3's result is what its bins hold. In Dawn target 4 is measured before the scan (R443). -/
def execCalMeasurementComplete (t target inst : Nat) (vals : List Int) (s : State) : Result :=
  let s := s.at t
  let k := target * 256 + inst
  .next (if target ≥ 5 || inst ≥ calCount target then s
    else if s.st = DAWN then
      if target = 4 && !s.fb SYS_STATE_DAWN_DONE && s.tileUp inst then s.calResult k vals fun s a => s.calDawnPair k a vals else s
    else if s.calOpen k then
      let v := if target = 3 then (s.calI k).bins.map fun (b : Nat) => (b : Int) else vals
      s.calResult k v fun s a => s.calPair k a v
    else s)

/-- CAL_INSTANCE_DUE: INTERVAL_S has passed since the instance's last agreed result (R440). -/
def execCalInstanceDue (t k : Nat) (s : State) : Result :=
  let s := s.at t
  .next (match (s.calI k).lastAt with
    | some x => if calExists k && s.calEnabled k && !(s.calI k).due && x + sec s.cal.policy.intervalS ≤ s.now then s.calDue k else s
    | none => s)

/-- CAL_OVERDUE: an instance has been due for a further INTERVAL_S (R441). -/
def execCalOverdue (t k : Nat) (s : State) : Result :=
  let s := s.at t
  let x := s.calI k
  .next (if calExists k && s.calEnabled k && x.due && x.dueAt + sec ((x.overdue + 1) * s.cal.policy.intervalS) ≤ s.now then
      (s.modCal k fun x => { x with overdue := x.overdue + 1 }).raise kCAL_OVERDUE (calTarget k)
    else s)

/-- The input whose line events an instance's slew counts (R442). -/
def State.calInput? (s : State) (k : Nat) : Option Nat :=
  match calTarget k with
  | 0 => (s.tileRec? (calInst k)).bind fun r => s.refInput? r.docwin
  | 2 => some (calInst k)
  | _ => s.refInput? (s.f FIRE_CTRL_MASTER_WIN)

/-- CAL_SLEW_IDLE_STEP: the counting input has been without a line event for 10 ms, and the next step of the slew is applied,
at most one per ms; in Night and Midnight slews stand (R442, R451). -/
def execCalSlewIdleStep (t k : Nat) (s : State) : Result :=
  let s := s.at t
  let x := s.calI k
  let idle := match s.calInput? k with
    | some n => decide ((s.pin n).lastLineAt + ms 10 ≤ s.now)
    | none => true
  .next (if s.calSlews k && calTarget k != 1 && s.st != NIGHT && s.st != MIDNIGHT && idle && x.slewAt + ms 1 ≤ s.now then
      let next := ((List.range (x.total - x.done)).map (· + x.done + 1)).find? fun d =>
        calTarget k == 2 || slewAt (calTarget k) x.start x.target d x.total != s.calForce k
      (s.modCal k fun x => { x with slewAt := s.now }).slewTo k (next.getD x.total)
    else s)

/-- A write of CAL_CTRL (R440): HOLD, and with RUN_NOW every enabled instance is due. -/
def State.writeCalCtrl (s : State) (v : Word) : State :=
  let s := s.setF CAL_CTRL_HOLD (CAL_CTRL_HOLD.get v)
  (if CAL_CTRL_RUN_NOW.get v = 1 then s.calAllDue else s).showSlewing

/-- RUN_NOW: a write of CAL_CTRL with RUN_NOW = 1 (R440). -/
def execRunNow (t : Nat) (v : Word) (s : State) : Result :=
  .next ((s.at t).onWrite rCAL_CTRL fun s => if CAL_CTRL_RUN_NOW.get v = 1 then s.writeCalCtrl v else s)

/-! ### KH-4806 records (R448, R449) -/

/-- The entries of the record in the staging area at an offset, if it may be imported: tile and the two DAC codes. -/
def State.importRecord? (s : State) (off base slot : Nat) : Option (List (Nat × CompatEntry)) :=
  let h := s.stagingBytes off 16
  let n := byteAt h 4
  let es := (List.range n).map fun i => s.stagingBytes (off + 16 + 8 * i) 8
  let ts := es.map fun e => base + byteAt e 0
  if leAt h 0 4 == 0x3038344B && decide (1 ≤ n ∧ n ≤ 48) && zeroAt h 5 7 && crc32c es.flatten == leAt h 12 4 &&
      es.all (fun e => zeroAt e 3 5) && es.all (fun e => decide (byteAt e 0 ≤ 47)) && ts.all (fun t => decide (t ≤ 95)) &&
      ts.eraseDups.length == ts.length && ts.all (fun t => (lookup? s.nv.compat ((1 - slot) * 256 + t)).isNone) then
    some (es.map fun e => (base + byteAt e 0, { dacA := byteAt e 1, dacB := byteAt e 2 }))
  else none

/-- A write of CAL_IMPORT (R449): with GO the record is stored in its slot, or the import refused. The slots lie in NV flash,
so R407's interlock refuses too (DEDUCED, log entry 41). -/
def State.writeCalImport (s : State) (v : Word) : State :=
  let s := s.setFields [(CAL_IMPORT_BASE, CAL_IMPORT_BASE.get v), (CAL_IMPORT_SLOT, CAL_IMPORT_SLOT.get v), (CAL_IMPORT_OFFSET, CAL_IMPORT_OFFSET.get v)]
  if CAL_IMPORT_GO.get v = 0 then s
  else
    let slot := s.f CAL_IMPORT_SLOT
    match s.importRecord? (s.f CAL_IMPORT_OFFSET * 64) (s.f CAL_IMPORT_BASE) slot with
    | some es =>
      if (s.st = NIGHT || s.st = DAWN || s.st = MORNING) && s.nvOk then
        let kept := s.nv.compat.filter fun e => e.1 / 256 != slot
        { s with nv := { s.nv with compat := es.foldl (fun l e => insertKey (slot * 256 + e.1) e.2 l) kept } }
      else s.setF CAL_STATUS_IMPORT_ERR 1
    | none => s.setF CAL_STATUS_IMPORT_ERR 1

/-- CAL_IMPORT: a write of CAL_IMPORT with GO = 1 (R449). -/
def execCalImport (t : Nat) (v : Word) (s : State) : Result :=
  .next ((s.at t).onWrite rCAL_IMPORT fun s => if CAL_IMPORT_GO.get v = 1 then s.writeCalImport v else s)

end Sys2Proof.Machine
end

