-- ==== Sys2Proof/Machine/Composition.lean ====
section
/-!
DEFINITION. The commands of chapter 08: rendering, the delivery of counts, and the line buffers.
-/
namespace Sys2Proof.Machine

/-- The oldest record of a window with a document that has not begun to render (R231, R239). -/
def State.nextRec? (s : State) (w : Nat) : Option CmpRec := (s.win w).queue.find? fun r => decide (r.started < r.repeats)

/-- The work area of a document of a record, in MiB (R239). -/
def State.recMib (s : State) (r : CmpRec) : Nat := ceilDiv ((s.winTiles r.win).length * 256 * r.extent) (2 ^ 20)

/-- Whether a document of the record must wait for another that names one of its counters (R237, R256): one being rendered,
or one of a record accepted before it that has yet to render. -/
def State.serialWaits (s : State) (r : CmpRec) : Bool :=
  let mine := recCounters r
  let shares := fun (q : CmpRec) => (recCounters q).any mine.contains
  (s.comp.docs.any fun d => d.stage == 0 && shares d.rcd) ||
  s.wins.any fun e => e.2.queue.any fun q => decide (q.seq < r.seq ∧ q.started < q.repeats) && shares q

/-- The next document of window `w` begins to render (R233, R237 to R239): it takes its work area, and reads the calendar
and its counters. -/
def State.renderStart (s : State) (w : Nat) : State :=
  match s.nextRec? w with
  | none => s
  | some r =>
    if (s.comp.docs.any fun d => d.rcd.win == w && d.stage == 0) || decide (s.waFree < s.recMib r) || s.serialWaits r then s
    else
      let cs := recCounters r
      let vals := cs.map fun k => (k, (s.serialRead k).1)
      let d : RDoc := { id := s.comp.nextDoc, rcd := r, rep := r.started, wa := s.recMib r, serials := vals,
                        date := [s.clk.year, s.clk.month, s.clk.day, s.clk.hour, s.clk.minute] }
      let s := cs.foldl (fun s k =>
        if (s.serialRead k).2 then (s.setF (CMP_SER_k_STEP_WRAPPED k) 1).raise kCMP_SER_WRAP k else s) s
      let s := s.modWin w fun x => { x with queue := x.queue.map fun (q : CmpRec) =>
        if q.seq = r.seq then { q with started := q.started + 1 } else q }
      ({ s with comp := { s.comp with docs := s.comp.docs ++ [d], nextDoc := s.comp.nextDoc + 1 } }).showComp

/-- DOCUMENT_RENDER_START: the composer takes up the next document of a window. -/
def execDocumentRenderStart (t w : Nat) (s : State) : Result := .next ((s.at t).renderStart w)

/-- The dots of one band that an item's rectangles cover (R239). -/
def coveredDots (r : TileRec) (extent : Nat) (sts : List Stamp) : Nat :=
  match sts with
  | [] => 0
  | st :: _ =>
    let cols := ((List.range 1024).filter fun c => sts.any fun x =>
      decide (x.x ≤ (r.colStart + c : Nat) ∧ ((r.colStart + c : Nat) : Int) < x.x + x.w)).length
    let lo := max 0 st.y
    let hi := min (extent : Int) (st.y + st.h)
    cols * (hi - lo).toNat

/-- The dots the composer renders for a document (R239, R461). -/
def State.dotsRendered (s : State) (d : RDoc) : Nat :=
  (List.range 8).foldl (fun a p =>
    let ts := s.planeTiles d.rcd.win p
    a + ts.length * 1024 * d.rcd.extent +
      ((d.rcd.items.filter (·.plane == p)).map fun it =>
        (ts.map fun r => coveredDots r d.rcd.extent (s.stamps d it)).sum).sum) 0

/-- What a document's rendering reports: truncated serials, the first item that loses dots, dates out of range (R234, R236,
R238). -/
def State.renderNotes (s : State) (d : RDoc) : State :=
  let w := d.rcd.win
  let its := d.rcd.items.zipIdx
  let s := its.foldl (fun s (it, _) =>
    if it.kind = 2 && decide (10 ^ it.digits ≤ (lookup? d.serials it.counter).getD 0) then s.raise kCMP_SER_WRAP (it.counter + 256)
    else s) s
  let s := its.foldl (fun s (it, i) =>
    if it.kind = 3 && (addDays (d.date.getD 0 0, d.date.getD 1 1, d.date.getD 2 1) it.offDays).isNone then
      s.raise kCMP_DATE_RANGE (w + i * 16) else s) s
  match its.find? fun (it, _) => (s.stamps d it).any (outside (s.planeTiles w it.plane) d.rcd.extent) with
  | some (_, i) => s.raise kCMP_CLIP (w + i * 16)
  | none => s

/-- A document has been rendered (R233 to R240): its dots and planned drops stand, and its counters advance unless the host
has written them since (R256). -/
def State.rendered (s : State) (d : RDoc) : State :=
  let dots := s.renderDots d
  let s := s.renderNotes d
  let s := s.count 0x14 d.rcd.win (s.dotsRendered d)
  let s := d.serials.foldl (fun s (k, v) => if d.touched.contains k then s else s.serialAdvance k v) s
  let plan := planOf dots s.maxdrop
  ((s.modDoc d.id fun x => { x with stage := 1, dots := dots, plan := plan }).releaseKept).showComp

/-- DOCUMENT_RENDERED: the rendering under way in a window ends. -/
def execDocumentRendered (t w : Nat) (s : State) : Result :=
  let s := s.at t
  .next (match s.comp.docs.find? fun d => d.rcd.win == w && d.stage == 0 with
    | some d => 
      let s := s.rendered d
      if s.comp.docs.any (·.stage == 0) then s else { s with mem := { s.mem with eccBad := [] } }
    | none => s)

/-- The document whose prefill a tile's lane is to take now (R243, R244): its open shuttle document after a pass has been
armed again, or the next document of its window once the lane has packed its last cycle of the one before. -/
def State.prefillDoc? (s : State) (n e : Nat) (r : TileRec) : Option RDoc :=
  let l := s.lane e
  let next := (s.nextDoc? r.docwin).filter fun x => decide (1 ≤ x.stage) && !x.prefilled.contains n
  match (s.fireT n).doc, (s.win r.docwin).doc with
  | some id, some d =>
    let lastPass := s.f (FIRE_n_STATUS_PASS n) + 1 == s.passes r || d.stopped
    if l.packed.isNone && 0 < s.f (FIRE_n_STATUS_PASS n) && l.bufLines.isEmpty then s.rdoc? id
    else if lastPass && ((s.fireT n).finished || (d.jEnd.isSome && l.packed == endLine d)) then next
    else none
  | _, _ => next

/-- The tiles of a window whose lanes a document needs. -/
def State.lineTiles (s : State) (w : Nat) : List Nat := (s.winTiles w).filter fun n => !s.bypassed n

/-- The last line of a document that is written to a line buffer: EXTENT − 1, or J_end when that is less (R239). -/
def State.lastLine (s : State) (d : RDoc) : Nat :=
  match (s.win d.rcd.win).doc with
  | some x => if x.id = d.id then
      match x.jEnd with
      | some j => min (d.rcd.extent - 1) j.toNat
      | none => d.rcd.extent - 1
    else d.rcd.extent - 1
  | none => d.rcd.extent - 1

/-- Line `j` of a document is complete in a tile's line buffer (R239, R242, R465): the work area is free once every tile has
the last line of its last pass. -/
def State.takeLine (s : State) (n e : Nat) (d : RDoc) (j : Nat) : State :=
  let s := s.writeLine e j (lineBytes d n j)
  let s := s.tagMany 2 e 1024 fun c => { typ := 2, unit_ := e, idA := j, idB := c, stamps := [s.sysTime] }
  let final := match s.tileRec? n with
    | some r => s.f (FIRE_n_STATUS_PASS n) + 1 == s.passes r || !d.opened && s.passes r == 1
    | none => true
  if j = s.lastLine d && final then
    let wr := n :: d.written
    let s := s.modDoc d.id fun x => { x with written := if x.written.contains n then x.written else n :: x.written }
    if (s.lineTiles d.rcd.win).all wr.contains then (s.modDoc d.id fun x => { x with wa := 0 }).showComp else s
  else s

/-- The prefill of a tile's lane is complete (R243): lines 0 to PREFILL − 1 stand in its buffer. -/
def State.prefillTile (s : State) (n e : Nat) (d : RDoc) : State :=
  let s := s.modLane e fun l => { l with bufDoc := some d.id, bufLines := [], buf := [] }
  let s := (List.range s.prefill).foldl (fun s j => s.takeLine n e ((s.rdoc? d.id).getD d) j) s
  (s.modDoc d.id fun x => { x with prefilled := n :: x.prefilled }).tryDeliver d.rcd.win

/-- PREFILL_COMPLETE: the prefill of one tile's lane engine ends. -/
def execPrefillComplete (t n : Nat) (s : State) : Result :=
  let s := s.at t
  .next (match s.tileRec? n, (s.th n).engine with
    | some r, some e =>
      if s.bypassed n || s.fb (LANE_e_STATUS_FAILED e) then s
      else match s.prefillDoc? n e r with
        | some d => s.prefillTile n e d
        | none => s
    | _, _ => s)

/-- Whether the composer may write line `j` of a document to a tile's buffer now (R243): slots beyond the first 128 lines
are freed by packing fire line S + j − 40. -/
def State.mayWrite (s : State) (n e j : Nat) (d : RDoc) : Bool :=
  if j < 128 then true
  else match (s.fireT n).doc, (s.win d.rcd.win).doc, (s.lane e).packed with
    | some id, some x, some p => id == d.id && decide (sx 32 (p + 2 ^ 32 - x.s) ≥ (j : Int) - 40)
    | _, _, _ => false

/-- LINE_BUFFER_WRITE: the composer streams image line `j` of the document in a tile's line buffer (R243). -/
def execLineBufferWrite (t n j : Nat) (s : State) : Result :=
  let s := s.at t
  .next (match (s.th n).engine with
    | some e =>
      match (s.lane e).bufDoc.bind s.rdoc? with
      | some d => if s.prefill ≤ j && s.mayWrite n e j d then s.takeLine n e d j else s
      | none => s
    | none => s)

end Sys2Proof.Machine
end

