-- ==== Sys2Proof/Machine/Dma.lean ====
section
/-!
DEFINITION. The commands of chapter 09: the streams, their doorbells and descriptors, host reads, and the form-store
aperture.
-/
namespace Sys2Proof.Machine

/-! ### Streams (R264 to R267) -/

/-- A document record that names a stream of `p` names none (R264, R287). -/
def CmpRec.orphan (p : Nat → Bool) (r : CmpRec) : CmpRec := if p r.stream then { r with stream := 4096 } else r

/-- The queued records and the open document of a window, likewise. -/
def Win.orphan (p : Nat → Bool) (x : Win) : Win :=
  { x with queue := x.queue.map (CmpRec.orphan p), doc := x.doc.map fun (d : Doc) => if p d.stream then { d with stream := 4096 } else d }

/-- Document records of a stream are no longer written: its queued and open documents name no stream (R264, R287). -/
def State.orphan (s : State) (p : Nat → Bool) : State :=
  { s with wins := s.wins.map fun (e : Nat × Win) => (e.1, e.2.orphan p),
           comp := { s.comp with docs := s.comp.docs.map fun (d : RDoc) => { d with rcd := d.rcd.orphan p } },
           ring := { s.ring with reports := s.ring.reports.map fun (j : JoinDoc) => if p j.stream then { j with stream := 4096 } else j } }

/-- A stream stops accepting: descriptors read and not accepted are posted no longer, and SQ_HEAD names the first of them
(R265, R291). -/
def State.stopStream (s : State) (k : Nat) : State :=
  let x := s.stream k
  let s := s.setF (DMA_s_CTRL_EN k) 0
  let s := match x.fetched with
    | f :: _ => s.setF (DMA_s_SQ_HEAD_HEAD k) f.index
    | [] => s
  let s := { s with dma := { s.dma with reads := s.dma.reads.map fun (r : OutRead) =>
    if r.stream = k && r.kind = ReadKind.fetch then { r with kind := .dropped } else r } }
  let s := s.modStream k fun x => { x with fetched := [], fetching := false, bells := [], waitSince := none, posted := s.f (DMA_s_SQ_HEAD_HEAD k) }
  (s.setF (DMA_s_STATUS_CQ_WAIT k) 0).idleStream k

/-- The host-facing state is reset (R264); the argument names the event. -/
def State.hostReset (s : State) (kind : Nat) : State :=
  let ks := s.dma.streams.map (·.1)
  let s := s.tagRecord (fun r => r.typ == 3) true
  let s := ks.foldl (fun s k => (s.modStream k fun x => { x with exec := none }).stopStream k) s
  let s := ks.foldl (fun s k => s.setFields [(DMA_s_RESV_RESV k, 0), (DMA_s_STATUS_FILL k, 0), (DMA_s_STATUS_PAUSED k, 0)]) s
  let s := s.orphan fun _ => true
  let s := { s with dma := { s.dma with reads := [] },
                    host := { s.host with msixTable := [], msixPend := [], linkUp := s.host.linkUp && kind != 4 } }
  ((s.setF HOST_AP_BASE_BASE_GIB 0).showHost.showPool).raise kHOST_LINK kind

/-- HOST_FACING_RESET: 1 Function Level Reset, 2 hot reset, 3 entry to D3hot, 4 loss of the link. -/
def execHostFacingReset (t kind : Nat) (s : State) : Result :=
  let s := s.at t
  .next (if s.powered && decide (1 ≤ kind ∧ kind ≤ 4) then s.hostReset kind else s)

/-- The configuration a stream is enabled with is sound (R265, R277, R293). -/
def State.streamOk (s : State) (k : Nat) : Bool :=
  let sq := s.f (DMA_s_SIZE_SQ_LOG2 k)
  let cq := s.f (DMA_s_SIZE_CQ_LOG2 k)
  let n := s.f (DMA_s_STAGE_SIZE k)
  let h := s.f (DMA_s_STAGE_HIGH k)
  decide (4 ≤ sq ∧ sq ≤ 16 ∧ 6 ≤ cq ∧ cq ≤ 20 ∧ 1 ≤ n ∧ n ≤ 256 ∧ 1 ≤ h ∧ h ≤ n ∧ s.f (DMA_s_STAGE_LOW k) < h)

/-- EN = 1 is written to a stream that is off: it is enabled with its staging units, or CFG_ERR is set (R265). -/
def State.enableStream (s : State) (k : Nat) : State :=
  if s.fb (DMA_s_CTRL_EN k) then s
  else if s.streamOk k && decide (s.f (DMA_s_STAGE_SIZE k) ≤ s.f DMA_POOL_FREE + (s.stream k).units) then
    ((s.setF (DMA_s_CTRL_EN k) 1).modStream k fun x => { x with units := s.f (DMA_s_STAGE_SIZE k), posted := s.f (DMA_s_SQ_HEAD_HEAD k) }).showPool
  else s.setF (DMA_s_STATUS_CFG_ERR k) 1

/-- RESET is written with EN = 0 and IDLE = 1 (R287, R293). -/
def State.resetStream (s : State) (k : Nat) : State :=
  if s.fb (DMA_s_CTRL_EN k) || !s.fb (DMA_s_STATUS_IDLE k) then s
  else
    let s := s.setFields [(DMA_s_SQ_HEAD_HEAD k, 0), (DMA_s_CQ_TAIL_TAIL k, 0), (DMA_s_CQ_TAIL_PHASE k, 1), (DMA_s_RESV_RESV k, 0),
      (DMA_s_STATUS_HALTED k, 0)]
    (s.modStream k fun x => { x with posted := 0, used := 0, fetched := [], bells := [] }).orphan (· == k)

/-- A write of DMA_s_CTRL (R265, R293): the plain fields, then RESET, then EN. -/
def State.writeDmaCtrl (s : State) (k v : Nat) : State :=
  let s := s.setFields [(DMA_s_CTRL_DOC_IRQ k, bits v 29 29), (DMA_s_CTRL_ERR_IRQ k, bits v 28 28), (DMA_s_CTRL_VEC k, bits v 10 0)]
  if bit v 31 then s.enableStream k
  else
    let s := if s.fb (DMA_s_CTRL_EN k) then s.stopStream k else s
    if bit v 30 then s.resetStream k else s

/-- STREAM_ENABLE: a write of DMA_s_CTRL with EN = 1. -/
def execStreamEnable (t k : Nat) (v : Word) (s : State) : Result :=
  .next ((s.at t).onWrite (rDMA_s_CTRL k) fun s => if k < 4096 && bit v.toNat 31 then s.writeDmaCtrl k v.toNat else s)

/-- STREAM_DISABLE: a write of DMA_s_CTRL with EN = 0. -/
def execStreamDisable (t k : Nat) (v : Word) (s : State) : Result :=
  .next ((s.at t).onWrite (rDMA_s_CTRL k) fun s => if k < 4096 && !bit v.toNat 31 then s.writeDmaCtrl k v.toNat else s)

/-- STREAM_RESET: a write of DMA_s_CTRL with RESET = 1 and EN = 0. -/
def execStreamReset (t k : Nat) (v : Word) (s : State) : Result :=
  .next ((s.at t).onWrite (rDMA_s_CTRL k) fun s =>
    if k < 4096 && !bit v.toNat 31 && bit v.toNat 30 then s.writeDmaCtrl k v.toNat else s)

/-- A write of DMA_s_DB_SQ (R266). -/
def State.sqDoorbell (s : State) (k v : Nat) : State :=
  let tail := bits v 15 0
  if !s.fb (DMA_s_CTRL_EN k) || s.sqSize k ≤ tail then s.setF (DMA_s_STATUS_DB_IGNORED k) 1
  else
    let n := (tail + s.sqSize k - (s.stream k).posted) % s.sqSize k
    s.modStream k fun x => { x with posted := tail, bells := if n = 0 then x.bells else x.bells ++ [(n, s.sysTime)] }

/-- SQ_DOORBELL: a write of a stream's submission doorbell. -/
def execSqDoorbell (t k : Nat) (v : Word) (s : State) : Result :=
  .next ((s.at t).onWrite (rDMA_s_DB_SQ k) fun s => if k < 4096 then s.sqDoorbell k v.toNat else s)

/-- The records a stream's next descriptor reserves (R267): one when its need exceeds the queue. -/
def State.reserve (s : State) (k : Nat) (d : Desc) : Nat := if s.cqSize k < d.need then 1 else d.need

/-- CQ_WAIT while the next descriptor's completion space is not free (R267). -/
def State.showWait (s : State) (k : Nat) : State :=
  match (s.stream k).fetched with
  | f :: _ =>
    if s.cqFree k < s.reserve k (parseDesc f.bytes) then
      if s.fb (DMA_s_STATUS_CQ_WAIT k) then s
      else (s.setF (DMA_s_STATUS_CQ_WAIT k) 1).modStream k fun x => { x with waitSince := some s.now }
    else (s.setF (DMA_s_STATUS_CQ_WAIT k) 0).modStream k fun x => { x with waitSince := none }
  | [] => (s.setF (DMA_s_STATUS_CQ_WAIT k) 0).modStream k fun x => { x with waitSince := none }

/-- A write of DMA_s_DB_CQ (R266): the records before HEAD are free. -/
def State.cqDoorbell (s : State) (k v : Nat) : State :=
  let n := s.cqSize k
  let head := bits v 19 0 % n
  (s.modStream k fun x => { x with used := (s.f (DMA_s_CQ_TAIL_TAIL k) + n - head) % n }).showWait k

/-- CQ_DOORBELL: a write of a stream's completion doorbell. -/
def execCqDoorbell (t k : Nat) (v : Word) (s : State) : Result :=
  .next ((s.at t).onWrite (rDMA_s_DB_CQ k) fun s => if k < 4096 then s.cqDoorbell k v.toNat else s)

/-! ### Descriptors (R267 to R272) -/

/-- Descriptors that one read may fetch: at most 8, those posted, to the end of the ring, within the largest read (R263,
R267). -/
def State.fetchCount (s : State) (k : Nat) : Nat :=
  let head := s.f (DMA_s_SQ_HEAD_HEAD k)
  let posted := ((s.stream k).posted + s.sqSize k - head) % s.sqSize k
  min (min 8 posted) (min (s.sqSize k - head) (min (64 - head % 64) (s.sideChunk 0 / 64)))

/-- DESCRIPTOR_FETCH: a stream reads its next posted descriptors (R267). -/
def execDescriptorFetch (t k : Nat) (s : State) : Result :=
  let s := s.at t
  let x := s.stream k
  .next (if !s.fb (DMA_s_CTRL_EN k) || s.fb (DMA_s_STATUS_HALTED k) || s.fb (DMA_s_STATUS_CQ_WAIT k) || s.fb (DMA_s_STATUS_PAUSED k) ||
        x.fetching || !x.fetched.isEmpty || s.fetchCount k = 0 || !s.readRoom then s
    else
      let s := s.modStream k fun x => { x with fetching := true, readAt := s.sysTime }
      ((s.hostRead { tag := 0, kind := .fetch, stream := k, addr := s.sqBase k + 64 * s.f (DMA_s_SQ_HEAD_HEAD k), len := 64 * s.fetchCount k }).showFill k).count
        0x0D k (s.fetchCount k))

/-- A descriptor whose completion space is free is accepted and checked (R267, R272). -/
def State.acceptDesc (s : State) (k : Nat) (f : Fetched) : State :=
  let d := parseDesc f.bytes
  let need := s.reserve k d
  let s := (s.setF (DMA_s_RESV_RESV k) (s.f (DMA_s_RESV_RESV k) + need)).modStream k fun x => { x with fetched := x.fetched.drop 1 }
  let s := s.showWait k
  let s := s.tagMany 3 k 1 fun _ => { typ := 3, unit_ := k, idA := f.index, idB := d.tag, stamps := [f.bell, f.readAt, s.sysTime] }
  let code := s.descStatus k d
  if code != 0 then
    let s := (s.setF (DMA_s_RESV_RESV k) (s.f (DMA_s_RESV_RESV k) - (need - 1))).refuse k f.index d code 0
    (s.tagDesc k 7 false).tagRecord (fun r => r.typ == 3 && r.unit_ == k) false
  else
    let (sm, sb) := if d.usesSrc then s.sideMem d.srcSide else (1, 0)
    let (dm, db) := if d.usesDst then s.sideMem d.dstSide else (1, 0)
    (s.modStream k fun x => { x with exec := some { index := f.index, bytes := f.bytes, srcMem := sm, dstMem := dm, srcBase := sb, dstBase := db } }).idleStream k

/-- DESCRIPTOR_ACCEPT: a stream's next descriptor is accepted, or the stream waits for completion space (R267). -/
def execDescriptorAccept (t k : Nat) (s : State) : Result :=
  let s := s.at t
  .next (match (s.stream k).fetched with
    | f :: _ =>
      if !s.fb (DMA_s_CTRL_EN k) || (s.stream k).exec.isSome then s
      else
        let s := s.showWait k
        if s.fb (DMA_s_STATUS_CQ_WAIT k) then s else s.acceptDesc k f
    | [] => s)

/-- The accepted descriptor of a stream runs if it has the opcode and is not done. -/
def State.onDesc (s : State) (k op : Nat) (g : State → Desc → State) : State :=
  match (s.stream k).exec with
  | some x => let d := parseDesc x.bytes; if d.op = op && !x.done then g s d else s
  | none => s

/-- NOP: a descriptor of opcode 0x00 does nothing (R270). -/
def execNop (t k : Nat) (s : State) : Result :=
  .next ((s.at t).onDesc k 0 fun s _ => s.modExec k fun x => { x with done := true })

/-- COPY: a descriptor of opcode 0x01 moves its chunks (R270, R276). -/
def execCopy (t k : Nat) (s : State) : Result := .next ((s.at t).onDesc k 1 fun s _ => s.runTransfer k)

/-- COPY2D: a descriptor of opcode 0x02 moves its rows (R270, R273, R276). -/
def execCopy2d (t k : Nat) (s : State) : Result := .next ((s.at t).onDesc k 2 fun s _ => s.runTransfer k)

/-- FILL: the destination rows take the repeated pattern (R270). -/
def State.runFill (s : State) (k : Nat) (d : Desc) : State :=
  match (s.stream k).exec with
  | some x =>
    let s := (s.chunks d x).foldl (fun s c =>
      let (s, n) := s.putMem k x.dstMem c.dst c.off (fillBytes8 d.arg c.len)
      s.modExec k fun y => { y with acks := y.acks + n }) s
    (s.modExec k fun y => { y with done := true }).tagDesc k 5 false
  | none => s

/-- FILL: a descriptor of opcode 0x03. -/
def execFill (t k : Nat) (s : State) : Result := .next ((s.at t).onDesc k 3 fun s d => s.runFill k d)

/-- COMPARE: a descriptor of opcode 0x04 reads both sides (R270). -/
def execCompare (t k : Nat) (s : State) : Result := .next ((s.at t).onDesc k 4 fun s _ => s.runTransfer k)

/-- COMPOSE: a descriptor of opcode 0x10 reads its record, which is then validated and queued (R230, R270). -/
def execCompose (t k : Nat) (s : State) : Result := .next ((s.at t).onDesc k 16 fun s _ => s.runTransfer k)

/-- SLOT_ALLOC: a descriptor of opcode 0x11 takes a form slot (R288). -/
def execSlotAlloc (t k : Nat) (s : State) : Result :=
  .next ((s.at t).onDesc k 17 fun s d =>
    let (s, st, det, res) := s.slotAlloc k d.arg
    s.modExec k fun x => { x with status := st, detail := det, result := res, done := true })

/-- SLOT_FREE: a descriptor of opcode 0x12 frees a form slot (R289). -/
def execSlotFree (t k : Nat) (s : State) : Result :=
  .next ((s.at t).onDesc k 18 fun s d => (s.slotFree (d.arg % 2 ^ 32)).modExec k fun x => { x with done := true })

/-! ### Host reads (R37, R38, R40, R263) -/

/-- Good data for a host read (R267, R276, R281, R306). -/
def State.readData (s : State) (r : OutRead) (bs : List Nat) : State :=
  let s := (({ s with dma := { s.dma with reads := s.dma.reads.filter fun x => x.tag != r.tag } }).pumpMembers 1).showHost
  match r.kind with
  | .fetch => s.gotDescriptors r.stream bs
  | .chunk => s.deliver r.stream r.side r.off bs
  | .barrier => s.modExec r.stream fun x => { x with acked := true }
  | .member => s.sendRsp { type := 5, vc := 0, src := r.reqSrc, rtag := r.reqTag, addr := r.addr } 0x10 0 bs
  | .dropped => s

/-- The host read outstanding under a tag. -/
def State.read? (s : State) (tag : Nat) : Option OutRead := s.dma.reads.find? fun r => r.tag == tag && r.retryAt.isNone

/-- HOST_READ_COMPLETION: status 0 with the data, or 1 Unsupported Request, 2 Completer Abort, 3 poisoned (R37, R38). -/
def execHostReadCompletion (t tag status : Nat) (data : List Nat) (s : State) : Result :=
  let s := s.at t
  .next (match s.read? tag with
    | some r =>
      if status = 0 then (if data.length = r.len then s.readData r (data.map (· % 256)) else s)
      else if status ≤ 3 then (s.addF HOST_ERR_BADCPL 1).readFail r status
      else s
    | none => s)

/-- HOST_READ_TIMEOUT: a read without an answer is retried after its backoff, or fails after eight retries (R37, R40). -/
def execHostReadTimeout (t tag : Nat) (s : State) : Result :=
  let s := s.at t
  .next (match s.read? tag with
    | some r =>
      if s.now < r.due then s
      else if r.tries < 8 then
        ({ s with dma := { s.dma with reads := s.dma.reads.map fun (x : OutRead) =>
          if x.tag = tag then { x with retryAt := some (s.now + us (2 ^ x.tries)), tries := x.tries + 1 } else x } }).showHost
      else s.readFail r 4
    | none => s)

/-- HOST_READ_RETRY: the backoff of a read has passed, and it is issued again under a new tag (R37). -/
def execHostReadRetry (t tag : Nat) (s : State) : Result :=
  let s := s.at t
  .next (match s.dma.reads.find? fun r => r.tag == tag && r.retryAt.any (· ≤ s.now) with
    | some r =>
      let s := { s with dma := { s.dma with reads := s.dma.reads.filter fun x => x.tag != tag } }
      s.issueRead { r with retryAt := none }
    | none => s)

/-- UNEXPECTED_COMPLETION: a completion that no outstanding read awaits is discarded and counted (R40). -/
def execUnexpectedCompletion (t tag : Nat) (s : State) : Result :=
  let s := s.at t
  .next (if s.powered && (s.read? tag).isNone then (s.addF HOST_ERR_UNEXP 1).raise kHOST_UNEXP_CPL tag else s)

/-! ### Completion (R280, R281, R286) -/

/-- The destination bytes at and beyond RESULT of a BAD descriptor are undefined: each block becomes free values (R286). -/
def State.undefTail (s : State) (d : Desc) (x : Exec) : State :=
  if !(d.op == 1 || d.op == 2 || d.op == 3) || !(x.dstMem == 1 || x.dstMem == 2) then s
  else
    (List.range ((d.rowCount * d.len - x.result) / 64)).foldl (fun s i =>
      let o := x.result + 64 * i
      let a := sideAddr x.dstBase d.dstCirc (o / d.len * d.dstStride + o % d.len)
      let bs := (List.range 64).map fun j => (Config.freeByte (s.draws + j)).toNat
      let s := { s with draws := s.draws + 64 }
      if x.dstMem = 1 then s.putForm a bs else s.putStaging (a - 0x400000) bs) s

/-- The completion record of a stream's descriptor is written, and the stream is free for its next (R280, R283, R286). -/
def State.recordDesc (s : State) (k : Nat) (x : Exec) : State :=
  let d := parseDesc x.bytes
  let s := if x.status = 1 then
      ((s.undefTail d x).addF (DMA_s_ERRCNT_BAD k) 1).raise kDMA_BAD (k + x.index * 4096 + x.detail % 16 * 2 ^ 28)
    else s
  let s := s.descRecord k d.tag x.index x.status x.detail x.result d.irq
  let s := (s.tagDesc k 7 false).tagRecord (fun r => r.typ == 3 && r.unit_ == k) false
  ((s.modStream k fun y => { y with exec := none }).showFill k).idleStream k

/-- DESCRIPTOR_COMPLETE: a descriptor that is done writes its record; one with BARRIER first waits for its writes to be
acknowledged, in host memory by a zero-length read (R280, R281). -/
def execDescriptorComplete (t k : Nat) (s : State) : Result :=
  let s := s.at t
  .next (match (s.stream k).exec with
    | some x =>
      let d := parseDesc x.bytes
      if !x.done then s
      else if !d.barrier || x.acked then s.recordDesc k x
      else if d.usesDst && d.op != 4 && x.dstMem == 0 && !x.asked then
        (s.modExec k fun y => { y with asked := true }).hostRead { tag := 0, kind := .barrier, stream := k, addr := d.dst, len := 0 }
      else s
    | none => s)

/-- BARRIER_ACK: the last write of a BARRIER descriptor is acknowledged at its destination; its record follows (R281). -/
def execBarrierAck (t k : Nat) (s : State) : Result :=
  let s := s.at t
  .next (match (s.stream k).exec with
    | some x =>
      let d := parseDesc x.bytes
      let host := d.usesDst && d.op != 4 && x.dstMem == 0
      if x.done && d.barrier && x.acks == 0 && (!host || x.acked) then
        (s.tagDesc k 6 false).recordDesc k { x with acked := true }
      else s
    | none => s)

/-- PACING_RESUME: the fill of a paused stream has fallen to LOW (R277). -/
def execPacingResume (t k : Nat) (s : State) : Result :=
  let s := s.at t
  .next (if s.fb (DMA_s_STATUS_PAUSED k) && decide (s.fillBytes k ≤ s.f (DMA_s_STAGE_LOW k) * 4096) then
      (s.setF (DMA_s_STATUS_PAUSED k) 0).runTransfer k
    else s)

/-- DMA_CQ_STALL: a stream has waited 10 ms for completion space (R292). -/
def execDmaCqStall (t k : Nat) (s : State) : Result :=
  let s := s.at t
  .next (match (s.stream k).waitSince with
    | some x => if x + ms 10 ≤ s.now && s.fb (DMA_s_STATUS_CQ_WAIT k) then
        (s.modStream k fun y => { y with waitSince := none }).raise kDMA_CQ_STALL k else s
    | none => s)

/-- BAR4_ACCESS: a read of `n` bytes, or a write of bytes, at an offset of the aperture (R262). -/
def execBar4Access (t a n : Nat) (data : Option (List Nat)) (s : State) : Result :=
  let s := s.at t
  let x := min 60 (s.f HOST_AP_BASE_BASE_GIB) * 2 ^ 30 + a
  .next (if !s.powered || !s.sys.bootDone || decide (2 ^ 32 < a + n) then s
    else match data with
      | some bs => (s.putForm x (bs.take n)).countForm x (bs.take n).length
      | none => (s.emit (.barData 0 (s.formBytes x n))).countForm x n)

end Sys2Proof.Machine
end

