-- ==== Sys2Proof/Machine/Lane.lean ====
section
/-!
DEFINITION. The commands of the lane pipeline and the strobe path: a cycle's preparation, its packet, its strobe, and the
timed ends of gaps' swaps and pauses (R19, R149, R161, R162, R248, R320, R321).
-/
namespace Sys2Proof.Machine

/-- The image lines that a cycle at fire line `f` reads (R145, R248). -/
def cycleLines (d : Doc) (f : Nat) : List Nat :=
  if d.fixed then []
  else (List.range 12).filterMap fun r =>
    let j := sx 32 (f + 2 ^ 33 - d.s - 8 * r)
    if 0 ≤ j && (match d.jEnd with | some e => decide (j ≤ e) | none => true) then some j.toNat else none

/-- A cycle whose data is not complete when it is needed (R19, R245): it counts once, on its lane. -/
def State.underrun (s : State) (n e f : Nat) : State :=
  if (s.lane e).badF.contains f then s
  else
    let s := ((s.setF (LANE_e_STATUS_UNDERRUN e) 1).addF (LANE_e_UNDERRUN_COUNT e) 1).count 7 e 1
    (s.modLane e fun l => { l with badF := (f :: l.badF).take 4 }).raiseLane (tileDie n) kLANE_UNDERRUN (n + f % 2 ^ 25 * 128)

/-- The lead of the composer over packing: complete lines beyond the one row 0 reads (R245). -/
def composerLead (l : Lane) (j : Nat) : Nat := (l.bufLines.map (·.2)).foldl max 0 - (j + 1)

/-- The header of a cycle (R174 to R179): sensed VPP, base width, and the report of a clamped one once in a document. -/
def State.header (s : State) (n f : Nat) (d : Doc) : State × Packet :=
  let (s, v) := s.senseVpp n
  match s.energy? n with
  | none => (s, { f, doc := d.id, trims := (s.port n).trInUse })
  | some en =>
    let (b, cl) := baseWidth en (s.f (PULSE_n_STATUS_BIN n)) (s.th n).rank (s.th n).wear v
    let s := s.setFields [(PULSE_n_BASE_VPP_MV n, sat 16 v), (PULSE_n_BASE_BASE_PS n, b)]
    let s := if cl && !(s.th n).baseSatDoc then
        ((s.setF (PULSE_n_STATUS_BASE_SAT n) 1).modTh n fun h => { h with baseSatDoc := true }).raiseLane (tileDie n) kPULSE_BASE_SAT n
      else s
    (s, { f, doc := d.id, base := b, pre := en.prePs, gap := en.gapPs, step := en.stepPs, trims := (s.port n).trInUse })

/-- The entries of a cycle's stages that a tag stamps (R465, R466): nozzle-event `k` enters stage `i` at the fetch clock of
its pair and three clocks for each stage (log entry 21). -/
def State.tagCycle (s : State) (e f : Nat) (d : Doc) : State :=
  let at_ := fun (k i : Nat) => (s.now + k / 2 * 5 + 15 * i - s.sys.powerOn) / 4
  let s := s.tagMany 1 e 12288 fun k =>
    { typ := 1, unit_ := e, idA := f, idB := 1024 * (k % 12) + k / 12, stamps := (List.range 8).map (at_ k) }
  s.modTag (fun r => r.typ == 2 && r.unit_ == e) fun r =>
    (List.range 12).foldl (fun r row =>
      if sx 32 (f + 2 ^ 33 - d.s - 8 * row) = r.idA then r.stamp (row + 1) (at_ (12 * r.idB + row) 0) else r) r

/-- A cycle's events pass through all stages (R247 to R253). -/
def State.prepare (s : State) (n e f : Nat) (r : TileRec) (d : Doc) : State :=
  let l := s.lane e
  let hd := s.header n f d
  let p := hd.2
  let s := hd.1.tagCycle e f d
  let im := s.cfg.armed.getD {}
  let pass := s.f (FIRE_n_STATUS_PASS n)
  let x : CycleCtx := { n, f, doc := d, shuttle := r.shuttle, pass, passes := s.passes r, adv := s.advance r pass / 65536,
                        mask := d.mask, policy := im.policy, first := 0, count := 0 }
  let m := decayFactor im.history.decay (decayCount (s.fireDelta n))
  let sw := s.eventSweep x l im.history (s.fb PULSE_CTRL_HIST_EN) m p.step
  let a := sw.2
  let s := sw.1
  let s := ((s.addF (FIRE_n_MASKLOSS_LOST n) a.maskLoss).addF (HLTH_n_DROPLOSS_LOST n) a.dropLoss).addF (PULSE_n_SAT_SAT n) a.clamps
  let s := s.modTh n fun h => { h with clamps := h.clamps + a.clamps }
  let s := match (cycleLines d f).head? with
    | some j => s.setF (LANE_e_LOAD_LEAD_MIN e) (min (s.f (LANE_e_LOAD_LEAD_MIN e)) (composerLead l j))
    | none => s
  let s := s.count 2 e 12288
  s.modLane e fun l => { l with inFlight := some { p with entries := a.entries.reverse, fired := a.fired, codes := a.codes },
                                nextF := some ((f + 1) % 2 ^ 32) }

/-- The lane prepares a fire line at most three beyond the high-water line (R147). -/
def State.mayPrepare (s : State) (n f : Nat) (d : Doc) : Bool :=
  let h := s.f (FIRE_n_HWM_H n)
  let k := (f + 2 ^ 32 - h) % 2 ^ 32
  decide (1 ≤ k ∧ k ≤ 3) && match endLine d with
    | some e => aheadOf 32 e f
    | none => true

/-- LANE_CYCLE_START: an engine starts its next cycle when PACK has finished the one before, the lines it reads are
complete and the output register can accept it (R248). A cycle already taken without its data is an underrun (R245). -/
def execLaneCycleStart (t e : Nat) (s : State) : Result :=
  let s := s.at t
  .next (match s.tileOf? e with
    | none => s
    | some n =>
      match s.tileRec? n, (s.fireT n).doc, (s.lane e).nextF with
      | some r, some _, some f =>
        match (s.win r.docwin).doc with
        | none => s
        | some d =>
          let l := s.lane e
          let taken := aheadOf 32 (s.f (FIRE_n_HWM_H n)) f
          if s.fb (LANE_e_STATUS_FAILED e) || (s.th n).waitSpare || (s.th n).dead || l.inFlight.isSome || l.outReg.isSome then s
          else if taken then (s.underrun n e f).modLane e fun l => { l with nextF := some ((f + 1) % 2 ^ 32) }
          else if s.mayPrepare n f d && (cycleLines d f).all (lineReady l) && (d.fixed || l.bufDoc == some d.id) then
            s.prepare n e f r d
          else s
      | _, _, _ => s)

/-- The coming gap of a window is announced once every tile has packed its document's last cycle (R160). -/
def State.announce (s : State) (w : Nat) (d : Doc) : State :=
  match endLine d with
  | some f =>
    if (s.partTiles w).all fun n => match (s.th n).engine with
        | some e => (s.lane e).packed == some f
        | none => true
    then s.modWin w fun x => { x with announced := true } else s
  | none => s

/-- CYCLE_PACK_COMPLETE: PACK completes a cycle in the tile-port output register (R19, R253). -/
def execCyclePackComplete (t e : Nat) (s : State) : Result :=
  let s := s.at t
  .next (match s.tileOf? e, (s.lane e).inFlight with
    | some n, some p =>
      if (s.lane e).outReg.isSome then s
      else
        let s := s.modLane e fun l => { l with inFlight := none, outReg := some p, packed := some p.f }
        let s := (s.incF (LANE_e_CYCLES_CYCLES e) 1).modTh n fun h => { h with fired := h.fired + p.fired, codes := h.codes + p.codes }
        let s := if s.pmc.flying.any fun r => r.typ == 2 && r.unit_ == e && r.stamps.getD 12 0 != 0 then
            s.tagRecord (fun r => r.typ == 2) false else s
        match s.tileRec? n with
        | some r => match (s.win r.docwin).doc with
          | some d => s.announce r.docwin d
          | none => s
        | none => s
    | _, _ => s)

/-- TILE_PACKET_SEND: the port sends the packet in its output register, when the tile has room for it and 200 ns have
passed since the strobe of the packet before (R317, R320). -/
def execTilePacketSend (t n : Nat) (s : State) : Result :=
  let s := s.at t
  .next (match (s.th n).engine with
    | none => s
    | some e =>
      match (s.lane e).outReg with
      | none => s
      | some p =>
        let q := s.port n
        let gap := match (s.fireT n).lastStrobe with
          | some x => decide (x + 800 ≤ s.now)
          | none => true
        if !s.tileUp n || decide (2 ≤ q.ready.length) || (!q.ready.isEmpty && !gap) then s
        else
          let eop := s.now + 28512
          let s := s.modLane e fun l => { l with outReg := none }
          let s := s.modPort n fun q => { q with ready := q.ready ++ [p], eops := q.eops ++ [(p.f % 65536, eop)] }
          let s := s.modTag (cycleTag e p.f) fun r => r.stamp 8 s.sysTime
          s.emit (.frame n eop p))

/-- The cycle whose strobe is due on a tile: the oldest taken, or the held one (R149, R153). -/
def State.dueCycle? (s : State) (n : Nat) : Option (Cycle × Bool) :=
  let x := s.fireT n
  match x.launch with
  | c :: _ => if c.target ≤ s.now then some (c, false) else none
  | [] => match x.held with
    | some h => if h.target ≤ s.now then some (h, true) else none
    | none => none

/-- Whether a strobe may leave for a tile at all: its port, die and engine are in operation (R23, R215, R217, R330, R416). -/
def State.strobeAllowed (s : State) (n : Nat) : Bool :=
  s.tileUp n && s.fb (TILE_n_STATUS_VPP_ON n) && !(s.th n).dead && !(s.th n).waitSpare && !s.bypassed n &&
  !s.health.dieUnlocked.contains (1 + tileDie n) && !s.health.dieGated.contains (1 + tileDie n)

/-- The packet of a cycle whose EOP left the port at least 100 ns before the strobe (R321). -/
def readyPacket? (q : TileP) (c : Cycle) : Option Packet :=
  match q.ready.find? (fun p => p.f == c.f && !p.spit) with
  | some p =>
    if (match lookup? q.eops (c.f % 65536) with | some e => decide (e + 400 ≤ c.target) | none => false) then some p else none
  | none => none

/-- A strobe leaves a tile's connector: the tile fires the packet (R149, R322, R337, R461). -/
def State.fireStrobe (s : State) (n target : Nat) (p : Packet) : State :=
  let s := s.modPort n fun q => { q with ready := q.ready.filter (fun x => x != p), eops := q.eops.filter (fun x => x.1 != p.f % 65536),
                                         lastTag := some (p.f % 65536), judged := false }
  let s := s.modFire n fun x => { x with lastStrobe := some target }
  let s := ((s.emit (.strobe n target p)).count 3 n p.fired).addUse n p.fired
  match (s.th n).engine with
  | some e => (s.modTag (cycleTag e p.f) fun r => r.stamp 9 ((target - s.sys.powerOn) / 4)).tagRecord (cycleTag e p.f) false
  | none => s

/-- STROBE_LAUNCH: at its target time a cycle's strobe leaves, or is suppressed because its packet is not there (R19, R149,
R152, R321). -/
def execStrobeLaunch (t n : Nat) (s : State) : Result :=
  let s := s.at t
  .next (match s.dueCycle? n with
    | none => s
    | some (c, held) =>
      let s := if held then (s.setF (FIRE_n_STATUS_HELD n) 0).modFire n fun x => { x with held := none }
        else s.modFire n fun x => { x with launch := x.launch.drop 1 }
      match readyPacket? (s.port n) c with
      | some p =>
        if s.strobeAllowed n then s.fireStrobe n c.target p else s.dropPacket n c.f
      | none =>
        let s := s.dropPacket n c.f
        match (s.th n).engine with
        | some e =>
          let s := s.tagRecord (cycleTag e c.f) true
          if (s.th n).dead || (s.th n).waitSpare || s.bypassed n then s else s.underrun n e c.f
        | none => s)

/-- GAP_SWAP_TIMEOUT: a millisecond without a line event after a swap request, the swap takes place (R161). -/
def execGapSwapTimeout (t w : Nat) (s : State) : Result :=
  let s := s.at t
  .next (match (s.win w).swapAt with
    | some x => if x + ms 1 ≤ s.now && (s.win w).doc.isNone then s.swapWin w else s
    | none => s)

/-- PAUSE_END: the pause of a window's gap has elapsed; opens are no longer held for it (R162). -/
def execPauseEnd (t w : Nat) (s : State) : Result :=
  let s := s.at t
  .next (match (s.win w).pauseTo with
    | some x => if x ≤ s.now then s.endPause w else s
    | none => s)

end Sys2Proof.Machine
end

