-- ==== Sys2Proof/Machine/System.lean ====
section
/-!
DEFINITION. The commands of chapters 02 and 03: power-up, the operating states, stand-alone operation, and layout images.
-/
namespace Sys2Proof.Machine

/-! ### Power-up, logic reset and power cycle (R47, R48, R55 to R57, R61, R471) -/

/-- What stays of the position inputs through a logic reset: the levels on their pins. -/
def pinLevels (l : List (Nat × PosIn)) : List (Nat × PosIn) :=
  (l.map fun e => (e.1, ({ levelA := e.2.levelA, levelB := e.2.levelB, levelZ := e.2.levelZ } : PosIn))).filter fun e => e.2 != {}

/-- Logic reset: every register and everything volatile at its reset value; NV flash, the silicon's identity, the calendar,
the levels on pins, and the manufacture of the oscillators stay. -/
def State.logicReset (s : State) (ph : Phase) : State :=
  { regs := [], now := s.now, ident := s.ident, nv := s.nv, out := s.out, draws := s.draws, pending := s.pending,
    clk := { s.clk with dates := [] }, sys := { phase := ph, powerOn := s.now }, thm := { roRel := s.thm.roRel },
    pos := { inputs := pinLevels s.pos.inputs },
    svc := { cueIn := s.svc.cueIn, vinLow := s.svc.vinLow } }

/-- The alarm contact opens or closes (R420). -/
def State.setAlarm (s : State) (op : Bool) : State :=
  if s.svc.alarmOpen == op then s else ({ s with svc := { s.svc with alarmOpen := op } }).emit (.alarm (!op))

/-- MAINS_APPLIED: supply returns to a module whose logic is off; the straps are sampled and the boot begins (R55, R61,
R471). `dc` says that it is the DC input without mains (R350), `clockOk` that the calendar's own supply has held. -/
def execMainsApplied (t straps : Nat) (dc clockOk : Bool) (s : State) : Result :=
  let s := s.at t
  .next (if s.sys.phase == .unpowered || s.sys.phase == .logicOff then
      let s := s.logicReset .booting
      let s := { s with ident := { s.ident with straps := straps % 4096 / 8 * 8 }, clk := if clockOk then s.clk else {} }
      let s := (s.setAlarm false).setF PWR_STORE_DUSK_J 840
      if dc then ({ s with pwr := { s.pwr with dcOn := true } }).setFields [(PWR_DC_QUAL, 1), (PWR_SRC_STATE, 2), (PWR_SRC_DC_SUPPLYING, 1)]
      else ({ s with pwr := { s.pwr with mainsAt := some s.now } }).setF PWR_SRC_MAINS_PRESENT 1
    else s)

/-- FIRMWARE_CHECK_COMPLETE: the firmware slots are checked, the one BOOT_ALT names first; `a` and `b` say whether slots A
and B pass (R55, R57). -/
def execFirmwareCheckComplete (t : Nat) (a b : Bool) (s : State) : Result :=
  let s := s.at t
  .next (if s.sys.phase == .booting && !s.sys.fwChecked then
      let s := { s with sys := { s.sys with fwChecked := true } }
      let alt := bit s.ident.straps 3
      let run := fun (s : State) (slotB : Bool) => { s with ident := { s.ident with fwSlotB := slotB } }
      if if alt then b else a then run s alt
      else if if alt then a else b then (run s (!alt)).raise kSYS_FW_SLOT (b2n alt)
      else ({ s with sys := { s.sys with phase := .up } }.raise kSYS_BOOT_FAIL 0).enterMidnight 0x10
    else s)

/-- BOOT_SEQUENCE_COMPLETE: Night is entered from power-up, and the store charges (R43, R55, R56). -/
def execBootSequenceComplete (t : Nat) (s : State) : Result :=
  let s := s.at t
  .next (if s.sys.phase == .booting && s.sys.fwChecked then
      let q := match s.pwr.mainsAt with
        | some x => decide (x + ms 200 ≤ s.now)
        | none => false
      let s := ({ s with sys := { s.sys with phase := .up }, pwr := { s.pwr with pfcOn := q, storeMode := if s.fb PWR_STORE_CHG_INHIBIT then 0 else 1 } }).setFb
        PWR_SRC_MAINS_QUAL q
      s.enterNight 0
    else s)

/-- LOGIC_RESERVE_REACHED: in Night without mains and DC input the store has fallen to the logic reserve of 150 J: the logic
is turned off, and the alarm contact opens (R47, R349, R420). -/
def execLogicReserveReached (t : Nat) (s : State) : Result :=
  let s := s.at t
  .next (if s.sys.phase == .up && s.st = NIGHT && s.sys.mainsGone.isSome && s.f PWR_STORE_E_J ≤ 150 then
      { s with sys := { s.sys with phase := .logicOff } }.setAlarm true
    else s)

/-- POWER_CYCLE: in Midnight, which the store does not sustain, the logic resets once mains and the DC input have been away
for 2 s (R48). -/
def execPowerCycle (t : Nat) (s : State) : Result :=
  let s := s.at t
  .next (match s.sys.mainsGone with
    | some x => if s.sys.phase == .up && s.st = MIDNIGHT && x + sec 2 ≤ s.now then
        (s.setAlarm true).logicReset .unpowered
      else s
    | none => s)

/-! ### SYS_CTRL (R43, R49 to R51, R62, R68, R506) -/

/-- A write of SYS_CTRL (R49): the stand-alone timer stops, and the triggers act in the order of their priority. -/
def State.writeSysCtrl (s : State) (v : Word) (x : DawnTests) : State :=
  let was := s.fb SYS_CTRL_RUN
  let s := { s with sys := { s.sys with saDeadline := none } }.setFields
    [(SYS_CTRL_SA_INHIBIT, SYS_CTRL_SA_INHIBIT.get v), (SYS_CTRL_RUN, SYS_CTRL_RUN.get v)]
  let on := fun (f : Field) => f.get v == 1
  let s := if on SYS_CTRL_ABANDON then s.abandon else s
  let s := if on SYS_CTRL_NIGHT then s.nightRequest else s
  let s := if was && !on SYS_CTRL_RUN then s.stopRequest else s
  let s := if on SYS_CTRL_RUN then s.runRequest else s
  if on SYS_CTRL_DAWN && s.st = NIGHT && s.fb PWR_SRC_MAINS_QUAL then s.enterDawn 1 x else s

/-- SYS_CTRL_DAWN: a write of SYS_CTRL with DAWN = 1; in Night with mains qualified Dawn begins (R43). -/
def execSysCtrlDawn (t : Nat) (v : Word) (x : DawnTests) (s : State) : Result :=
  .next ((s.at t).onWrite rSYS_CTRL fun s => if SYS_CTRL_DAWN.get v = 1 then s.writeSysCtrl v x else s)

/-- SYS_CTRL_NIGHT: a write of SYS_CTRL with NIGHT = 1 (R43, R68). -/
def execSysCtrlNight (t : Nat) (v : Word) (s : State) : Result :=
  .next ((s.at t).onWrite rSYS_CTRL fun s => if SYS_CTRL_NIGHT.get v = 1 then s.writeSysCtrl v {} else s)

/-- RUN_REQUEST: a write of SYS_CTRL with RUN = 1 (R506). -/
def execRunRequest (t : Nat) (v : Word) (s : State) : Result :=
  .next ((s.at t).onWrite rSYS_CTRL fun s => if SYS_CTRL_RUN.get v = 1 then s.writeSysCtrl v {} else s)

/-- STOP_REQUEST: a write of SYS_CTRL with RUN = 0 while it reads 1 (R506). -/
def execStopRequest (t : Nat) (v : Word) (s : State) : Result :=
  .next ((s.at t).onWrite rSYS_CTRL fun s =>
    if SYS_CTRL_RUN.get v = 0 && s.fb SYS_CTRL_RUN then s.writeSysCtrl v {} else s)

/-- SYS_CTRL_ABANDON: a write of SYS_CTRL with ABANDON = 1 (R51). -/
def execSysCtrlAbandon (t : Nat) (v : Word) (s : State) : Result :=
  .next ((s.at t).onWrite rSYS_CTRL fun s => if SYS_CTRL_ABANDON.get v = 1 then s.writeSysCtrl v {} else s)

/-! ### Dawn, Morning and Dusk (R50, R53, R60, R62, R176, R419, R443) -/

/-- DAWN_DONE: the last Dawn test ends (R60); in stand-alone operation the keep-wet layout is armed and Morning entered
(R62). -/
def execDawnDone (t : Nat) (s : State) : Result :=
  let s := s.at t
  .next (if s.st = DAWN && !s.fb SYS_STATE_DAWN_DONE then
      let s := (s.calDawn.fixRanks.dawnCounts).setF SYS_STATE_DAWN_DONE 1
      if s.sys.saDawn then (s.applyImage s.keepWet).enterMorning 0x0F else s
    else s)

/-- STANDALONE_TIMER_EXPIRY: the 5 s timer has expired in Night (R43, R62). -/
def execStandaloneTimerExpiry (t : Nat) (x : DawnTests) (s : State) : Result :=
  let s := s.at t
  .next (match s.sys.saDeadline with
    | some d => if d ≤ s.now && s.st = NIGHT && s.sys.phase == .up then
        ({ s with sys := { s.sys with saDeadline := none, saDawn := true } }).enterDawn 2 x
      else s
    | none => s)

/-- RUN_PENDING_ACTED: the store has become ready in Morning with a run pending (R50). -/
def execRunPendingActed (t : Nat) (s : State) : Result := .next (s.at t).runPending

/-- Every cycle taken has left its strobe (R149, R153). -/
def State.strobesOut (s : State) : Bool := (List.range 96).all fun n => (s.fireT n).held.isNone && (s.fireT n).launch.isEmpty

/-- DUSK_COMPLETE: the document with its last strobes, the capping and the transport axes have ended (R43, R53, R337,
R419). -/
def execDuskComplete (t : Nat) (s : State) : Result :=
  let s := s.at t
  .next (if s.st = DUSK && s.openDocs.isEmpty && s.strobesOut && s.duskMotorsDone then
      let s := (List.range 96).foldl State.usageWrite s
      let s := if s.fb SYS_STATE_STANDALONE then (s.setF FLT_PEND_STOP 0).showCues else s
      if s.sys.duskNight || !s.fb PWR_SRC_MAINS_PRESENT then s.enterNight 0x0C else s.enterMorning 0x0C
    else s)

/-! ### Stand-alone spitting and the check pattern (R64 to R67, R178, R185, R253) -/

/-- SPIT_TIMER_EXPIRY: 8 s after the last burst the next begins (R64). -/
def execSpitTimerExpiry (t : Nat) (s : State) : Result :=
  let s := s.at t
  .next (match s.sys.spitDeadline with
    | some d => if d ≤ s.now && s.st = MORNING && s.fb SYS_STATE_STANDALONE then
        { s with sys := { s.sys with spitDeadline := none, spitNext := some 0, spitDue := s.now } }
      else s
    | none => s)

/-- One tile's spit cycle: every nozzle of a row that is not shorted fires with code 0 at the base width (R64, R178, R185,
R204, R253). -/
def State.spitTile (s : State) (k n : Nat) : State :=
  if !s.tileUp n || !s.fb (TILE_n_STATUS_VPP_ON n) || (s.th n).dead || s.health.dieUnlocked.contains (1 + tileDie n) ||
      s.health.dieGated.contains (1 + tileDie n) then s
  else
    let (s, p) := s.header n k { id := 0, seq := 0, s := 0, len := 0 }
    let is := (List.range 1024).map fun c => 1024 * (k % 12) + c
    let es := (is.filter fun i => mapClass (s.nozzle n i).bg != 3).map fun i => (i, 64)
    let p := { p with spit := true, entries := es, fired := es.length }
    let s := s.addF (HLTH_n_DROPLOSS_LOST n) (1024 - es.length)
    let s := match (s.th n).engine with
      | some e => (s.incF (LANE_e_CYCLES_CYCLES e) 1).count 2 e 12288
      | none => s
    let s := s.modPort n fun q => { q with lastTag := some (k % 65536), judged := false }
    let s := s.modFire n fun x => { x with lastStrobe := some s.now }
    ((s.emit (.strobe n s.now p)).count 3 n p.fired).addUse n p.fired

/-- SPIT_CYCLE: the next of a burst's 192 cycles, 100 µs after the one before (R64). -/
def execSpitCycle (t : Nat) (s : State) : Result :=
  let s := s.at t
  .next (match s.sys.spitNext with
    | some k => if s.sys.spitDue ≤ s.now && s.st = MORNING && s.fb SYS_STATE_STANDALONE then
        let s := (List.range 96).foldl (State.spitTile · k) s
        if k + 1 < 192 then { s with sys := { s.sys with spitNext := some (k + 1), spitDue := s.sys.spitDue + us 100 } }
        else { s with sys := { s.sys with spitNext := none, spitDeadline := some (s.sys.spitDue + us 100 + sec 8) } }
      else s
    | none => s)

/-- The check pattern's document is dropped without a record (R51, R67). -/
def State.dropPattern (s : State) : State :=
  let s := (s.partTiles 0).foldl (fun s n =>
    (s.modFire n fun x => { x with doc := none, held := none, launch := [] }).setF (FIRE_n_STATUS_ACTIVE n) 0) s
  ((s.modWin 0 fun x => { x with doc := none, ended := true, gapLines := 0, gapCycle := none, lastLine := some (s.refLine 0) }).setFields
    [(FIRE_WIN_w_STATUS_OPEN 0, 0), (FIRE_WIN_w_STATUS_STOPPING 0, 0)]).showPlan

/-- PATTERN_LINE_TIMEOUT: no line event for 8 s while the pattern's window is open: the pattern is abandoned with a NOTE, and
Dusk follows (R43, R67). -/
def execPatternLineTimeout (t : Nat) (s : State) : Result :=
  let s := s.at t
  .next (match s.sys.patternLast with
    | some x => if x + sec 8 ≤ s.now && s.st = NOON && (s.win 0).doc.isSome then
        ((s.dropPattern).raise kSYS_NOTE rSYS_STATE).enterDusk 0x0E false
      else s
    | none => s)

/-! ### Layout images (R71, R75, R76, R92 to R100) -/

/-- A write of SYS_ENABLE (R92, R97): ARM before LIVE; the second finds a check running. -/
def State.writeEnable (s : State) (v : Word) : State :=
  let s := if SYS_ENABLE_ARM.get v = 1 then s.startCheck .arm s.armPermit else s
  if SYS_ENABLE_LIVE.get v = 1 then s.startCheck .live s.livePermit else s

/-- ARM: a write of SYS_ENABLE with ARM = 1 starts the enable check (R92, R95). -/
def execArm (t : Nat) (v : Word) (s : State) : Result :=
  .next ((s.at t).onWrite rSYS_ENABLE fun s => if SYS_ENABLE_ARM.get v = 1 then s.writeEnable v else s)

/-- LIVE: a write of SYS_ENABLE with LIVE = 1 starts the check of a live image (R97). -/
def execLive (t : Nat) (v : Word) (s : State) : Result :=
  .next ((s.at t).onWrite rSYS_ENABLE fun s => if SYS_ENABLE_LIVE.get v = 1 then s.writeEnable v else s)

/-- ENABLE_CHECK_COMPLETE: the result of the enable check; an accepted image is applied, and Dawn ends (R43, R44, R93). -/
def execEnableCheckComplete (t : Nat) (s : State) : Result :=
  let s := s.at t
  .next (if s.cfg.busy = some .arm then
      if !s.cfg.busyPermit then s.postCheck (some (0x01, 0, 0))
      else match s.imageAt s.cfg.busySrc with
        | none => s.postCheck (some (0x03, 0, 0))
        | some g => match s.checkImage g with
          | .inl f => s.postCheck f
          | .inr im =>
            if !s.armPermit then s.postCheck (some (0x01, 0, 0))
            else
              let s := (s.applyImage im).postCheck none
              if s.st = DAWN then s.enterMorning 3 else s
    else s)

/-- The windows that a live image's tables reach: those of enabled tiles, and the master window for the cue lines. -/
def State.liveTargets (s : State) : List Nat :=
  (List.range 16).filter fun w => w == s.f FIRE_CTRL_MASTER_WIN || !(s.partTiles w).isEmpty

/-- LIVE_CHECK_COMPLETE: the result of the live check; an accepted image waits for its swap, which in Morning's functions
comes at once (R97, R98, R100). -/
def execLiveCheckComplete (t : Nat) (s : State) : Result :=
  let s := s.at t
  .next (if s.cfg.busy = some .live then
      if !s.cfg.busyPermit then s.postCheck (some (0x01, 0, 0))
      else match s.imageAt s.cfg.busySrc with
        | none => s.postCheck (some (0x03, 0, 0))
        | some g =>
          if s.cfg.busyLive then s.postCheck (some (0x04, 0, 0))
          else match s.checkLive g with
            | .inl f => s.postCheck f
            | .inr l =>
              if !s.livePermit then s.postCheck (some (0x01, 0, 0))
              else
                let s := ({ s with cfg := { s.cfg with live := some l, liveWins := s.liveTargets } }).setF CFG_STATUS_LIVE_PENDING 1
                let s := s.postCheck none
                if s.func = MORNING then (s.liveTargets).foldl (fun s w => s.liveSwap w (1 + (s.now + ms 1))) s
                else s.noteSwaps
    else s)

/-- STORE: a write of CFG_NV_CTRL with STORE = 1 (R71, R95); SLOT takes the value written. -/
def State.writeNvCtrl (s : State) (v : Word) : State :=
  let s := s.setF CFG_NV_CTRL_SLOT (CFG_NV_CTRL_SLOT.get v)
  if CFG_NV_CTRL_STORE.get v = 1 then s.startCheck .store true else s
def execStore (t : Nat) (v : Word) (s : State) : Result :=
  .next ((s.at t).onWrite rCFG_NV_CTRL fun s => if CFG_NV_CTRL_STORE.get v = 1 then s.writeNvCtrl v else s)

/-- STORE_COMPLETE: the staging area's image is in its slot, or the store is refused (R71). -/
def execStoreComplete (t : Nat) (s : State) : Result :=
  let s := s.at t
  .next (if s.cfg.busy = some .store then
      match s.imageAt 0 with
      | some g => match s.checkStore g with
        | some f => s.postCheck (some f)
        | none =>
          let len := rdI g 8 4
          let im : NvImage := { len, bytes := s.mem.staging.filter fun e => e.1 < len }
          ({ s with nv := { s.nv with slots := insertKey s.cfg.busySlot im s.nv.slots } }).postCheck none
      | none => s.postCheck (some (0x03, 0, 0))
    else s)

/-- CFG_KEY_STORE: the write of CFG_KEY_7 puts the layout key in force and into NV flash (R75). -/
def State.writeKey (s : State) (k : Nat) (v : Word) : State :=
  if s.nv.layoutLock then s
  else if !s.nvOk then s.raise kSYS_NOTE (rCFG_KEY_n k)
  else
    let s := { s with cfg := { s.cfg with keyBuf := insertKey k v.toNat s.cfg.keyBuf } }
    if k = 7 then
      { s with nv := { s.nv with key := some ((List.range 8).flatMap fun i => toLe 4 ((lookup? s.cfg.keyBuf i).getD 0)) } }
    else s
def execCfgKeyStore (t : Nat) (v : Word) (s : State) : Result :=
  .next ((s.at t).onWrite (rCFG_KEY_n 7) fun s => s.writeKey 7 v)

/-- LAYOUT_LOCK: a write of 1 sets the lock and keeps it in NV flash, or is refused by temperature (R76, R407). -/
def State.writeLock (s : State) (v : Word) : State :=
  if CFG_LOCK_LAYOUT_LOCK.get v = 0 || s.nv.layoutLock then s
  else if s.nvOk then { s with nv := { s.nv with layoutLock := true } }
  else s.raise kSYS_NOTE rCFG_LOCK
def execLayoutLock (t : Nat) (v : Word) (s : State) : Result :=
  .next ((s.at t).onWrite rCFG_LOCK fun s => s.writeLock v)

/-- STAGING_WRITE: a write at a byte offset of the staging window (R70, R95, R458). -/
def execStagingWrite (t off : Nat) (data : List Nat) (s : State) : Result :=
  .next ((s.at t).onWrite (0x400000 + off) fun s => if off + data.length ≤ 0x400000 then s.putStaging off data else s)

/-- CUE_SAFE_INTERVAL_END: a cue line's millisecond at its safe level is over (R100). -/
def execCueSafeIntervalEnd (t n : Nat) (s : State) : Result :=
  let s := s.at t
  .next (match lookup? s.svc.cueHold n with
    | some h => if h != 0 && h ≤ 1 + s.now then ({ s with svc := { s.svc with cueHold := erase s.svc.cueHold n } }).driveCue n else s
    | none => s)

end Sys2Proof.Machine
end

