-- ==== Sys2Proof/Machine/FaultOps.lean ====
section
/-!
DEFINITION. Shared operations of chapter 15: class effects, the hub queue and its floods, the logs, and injection.
-/
namespace Sys2Proof.Machine

/-- Every kind of R413, group by group. -/
def allKinds : List Kind :=
  [kSYS_NOTE, kSYS_PLL_UNLOCK, kSYS_LOCKSTEP, kSYS_FW_SLOT, kSYS_BOOT_FAIL] ++
  [kPOS_NOTE, kPOS_ILLEGAL, kPOS_OVERSPEED, kPOS_DRIFT, kPOS_MISMATCH, kREF_LATE, kREF_LOST, kREF_CONFLICT] ++
  [kFIRE_NOTE, kFIRE_OVERRUN, kFIRE_WIN_INPUT, kFIRE_REF_FRAC, kFIRE_DOC_EARLY, kFIRE_CLOSE_SHORT, kFIRE_MASK_KIND] ++
  [kPULSE_NOTE, kPULSE_BASE_SAT, kPULSE_VSENSE_LOST, kPULSE_CODE_SAT] ++
  [kHLTH_NOTE, kHLTH_NOZZLE_DEAD, kHLTH_SHORT, kHLTH_COL_WEAK, kHLTH_COL_DEAD, kHLTH_LANE_FAIL, kHLTH_NO_SPARE, kHLTH_TILE_FAIL, kHLTH_TILE_BYPASS] ++
  [kCMP_NOTE, kCMP_REFUSED, kCMP_CLIP, kCMP_SER_WRAP, kCMP_DATE_RANGE, kCMP_EXTENT, kCMP_DISCARD, kLANE_UNDERRUN] ++
  [kHOST_NOTE, kDMA_BAD, kDMA_REFUSED, kDMA_FETCH, kDMA_CQ_STALL, kHOST_UNEXP_CPL, kHOST_LINK] ++
  [kRING_NOTE, kRING_WRAP, kRING_SPLIT, kRING_JOIN_REFUSED, kRING_JOIN_TMO, kRING_BRIDGE_REFUSED] ++
  [kTILE_NOTE, kTILE_DETECT, kTILE_ABSENT, kTILE_FAIL, kTILE_TSR_OPEN, kTILE_ID_FALLBACK, kTILE_HM_FAIL, kTILE_AUTH_FAIL, kTILE_CLASS_MISMATCH, kTILE_HM_DEFER] ++
  [kPWR_NOTE, kPWR_LINK_OV, kPWR_STORE_OV, kPWR_LINK_HIGH, kPWR_LINK_UV, kPWR_MAINS_LOST, kPWR_RAIL_LIMIT, kPWR_RAIL_UV, kPWR_RAIL_SHORT, kPWR_LOGIC_OVER, kPWR_DC_RANGE, kPWR_DC_REVERSED, kPWR_DOC_OVER, kPWR_RESERVE, kPWR_HANDBACK_ABORT, kPWR_GROUP_MISMATCH] ++
  [kMOT_NOTE, kMOT_OVERCURRENT, kMOT_GATE, kMOT_SENSE_OFFSET, kMOT_OPEN_PHASE, kMOT_PHASE_ORDER, kMOT_STALL, kMOT_HFI_WEAK, kMOT_CATCH_OVER, kMOT_SAMPLE_FORCED, kMOT_CMD_LOST] ++
  [kTHM_NOTE, kTHM_DIE_OT, kTHM_TILE_OT, kTHM_COOL_OT, kTHM_STORE_OT, kTHM_DUSK_LEVEL, kTHM_RATE, kTHM_PAUSE_LIMIT, kTHM_SENSOR, kTHM_RECAL] ++
  [kFLT_NOTE, kFLT_REMOTE_STOP, kFLT_NV_DEFER] ++
  [kCAL_NOTE, kCAL_DISAGREE, kCAL_EXHAUSTED, kCAL_RECORD, kCAL_OVERDUE] ++
  [kMEM_NOTE, kMEM_ECC_CORR, kMEM_ECC_UNCORR, kCLK_BAD_DATE]

/-! ### Records (R421) -/

/-- The class in bits [43:42] of a message (R411). -/
def msgClass (w : Nat) : Nat := w / 2 ^ 42 % 4

/-- The 32 bytes of a record, with a phase bit (R421). -/
def LogRec.bytes (r : LogRec) (phase : Nat) : List Nat :=
  toLe 8 r.msg ++ toLe 8 r.time ++ toLe 4 (sat 32 r.lastDt) ++ toLe 4 (sat 32 r.count) ++ toLe 2 r.eid ++ [0, 0] ++
    toLe 4 (b2n r.injected * 32 + b2n r.remote * 16 + r.type % 8 * 2 + phase)

/-- The record of one message; `irq` says that its vector waits for the host log (R420). -/
def State.msgRec (s : State) (m : FaultMsg) : LogRec :=
  { msg := m.word, time := m.time, eid := if m.remote then m.eid else s.eid, injected := m.injected, remote := m.remote,
    irq := m.irq && s.fb FLT_CTRL_LOG_EN }

/-! ### The hub queue (R421, R427, R431) -/

/-- FLT_QUEUE shows the fill and the open entries (R431). -/
def State.showQ (s : State) : State :=
  s.setFields [(FLT_QUEUE_FILL, s.flt.queue.length), (FLT_QUEUE_ENTRIES, s.flt.entries.length)]

/-- FLT_FLOOD.HI and LO within their limits (R431). -/
def State.floodHi (s : State) : Nat := max 2 (min 895 (s.f FLT_FLOOD_HI))
def State.floodLo (s : State) : Nat := min (s.f FLT_FLOOD_LO) (s.floodHi - 1)

/-- FLOOD is set when the fill reaches HI (R427). -/
def State.checkFlood (s : State) : State :=
  if !s.fb FLT_PEND_FLOOD && s.floodHi ≤ s.flt.queue.length then
    ({ s with flt := { s.flt with floodAt := s.now, repeatAt := none } }).setF FLT_PEND_FLOOD 1
  else s

/-- A record enters the queue. -/
def State.enqueue (s : State) (r : LogRec) : State :=
  ({ s with flt := { s.flt with queue := s.flt.queue ++ [r] } }).showQ.checkFlood

/-- The fill at which a class finds no room (R427). -/
def roomLimit (cls : Nat) : Nat := if cls = 0 then 896 else if cls = 1 then 1000 else 1024

/-- The hub queue has room for a class. -/
def State.hubRoom (s : State) (cls : Nat) : Bool := decide (s.flt.queue.length < roomLimit cls)

/-- What coalescing goes by: source, kind and raising engine (R427). -/
def State.coalKey (s : State) (m : FaultMsg) : Nat × Nat × Nat :=
  (srcOf m.die m.group m.inst, m.kind, if m.remote then m.eid else s.eid)

/-- The open entry for a key. -/
def State.entryFor? (s : State) (k : Nat × Nat × Nat) : Option Coal :=
  s.flt.entries.find? fun (e : Coal) => e.src == k.1 && e.kind == k.2.1 && e.eid == k.2.2

/-- The vector of the fault log is signalled (R420). -/
def State.fltMsix (s : State) : State := s.msix (s.f FLT_CTRL_VEC)

/-- The vector of an occurrence that gets no record of its own: with the host log off at once (R420). -/
def State.irqNow (s : State) (m : FaultMsg) : State := if m.irq && !s.fb FLT_CTRL_LOG_EN then s.fltMsix else s

/-- A NOTE or DEGRADE is dropped, and counted by class (R427, R428); its vector awaits the drop record (R420). -/
def State.fltDrop (s : State) (m : FaultMsg) : State :=
  let s := s.irqNow m
  let s := if m.irq && s.fb FLT_CTRL_LOG_EN then { s with flt := { s.flt with irqHeld := (m.cls + 2) :: s.flt.irqHeld } } else s
  if m.cls = 0 then ({ s with flt := { s.flt with fNote := s.flt.fNote + 1 } }).addF FLT_DROP_NOTE 1
  else ({ s with flt := { s.flt with fDegr := s.flt.fDegr + 1 } }).addF FLT_DROP_DEGRADE 1

/-- A repeat is counted into its entry (R427). -/
def State.coalesce (s : State) (m : FaultMsg) (k : Nat × Nat × Nat) : State :=
  let g := fun (e : Coal) =>
    if e.src == k.1 && e.kind == k.2.1 && e.eid == k.2.2 then
      let e := if e.count = 0 then { e with first := m.time, msg := m.word, injected := m.injected, remote := m.remote } else e
      { e with count := e.count + 1, last := m.time, irq := e.irq || (m.irq && s.fb FLT_CTRL_LOG_EN) }
    else e
  ({ s with flt := { s.flt with entries := s.flt.entries.map g, repeatAt := some s.now } }).irqNow m

/-- A first arrival of a flood is queued, and opens an entry while the table of 256 has one left (R427). -/
def State.openEntry (s : State) (k : Nat × Nat × Nat) : State :=
  if s.flt.entries.length < 256 then
    let e : Coal := { src := k.1, kind := k.2.1, eid := k.2.2 }
    ({ s with flt := { s.flt with entries := s.flt.entries ++ [e] } }).showQ
  else { s with flt := { s.flt with seen := k :: s.flt.seen } }

/-- The queue takes a message under the rules of a flood and of room (R427); its class effect is taken elsewhere. -/
def State.takeMsg (s : State) (m : FaultMsg) : State :=
  let k := s.coalKey m
  if m.dropped then s.fltDrop m
  else if 2 ≤ m.cls then (s.enqueue (s.msgRec m)).irqNow m
  else if s.fb FLT_PEND_FLOOD && (s.entryFor? k).isSome then s.coalesce m k
  else if s.fb FLT_PEND_FLOOD && s.flt.seen.contains k then s.fltDrop m
  else if s.hubRoom m.cls then
    let flood := s.fb FLT_PEND_FLOOD
    let s := (s.enqueue (s.msgRec m)).irqNow m
    if flood then s.openEntry k else s
  else s.fltDrop m

/-- The hub can take a message now (R416, R427): a lane die keeps what finds no room and no entry; what the hub's own
blocks and other engines bring it takes or drops. -/
def State.canTake (s : State) (m : FaultMsg) : Bool :=
  if m.dropped then true
  else if 2 ≤ m.cls then !(m.acted || m.remote) || s.hubRoom m.cls
  else m.die = 0 || m.remote || s.hubRoom m.cls ||
    (s.fb FLT_PEND_FLOOD && ((s.entryFor? (s.coalKey m)).isSome || s.flt.seen.contains (s.coalKey m)))

/-! ### Class effects (R418 to R420, R425, R426) -/

/-- A STOP packet for a local STOP-class message (R426): the message, STOP_GROUP and seven zero bytes. -/
def State.sendStop (s : State) (m : FaultMsg) : State :=
  if s.fb FLT_CTRL_STOP_SEND && s.f FLT_CTRL_STOP_GROUP != 0 && !(m.group == 12 && m.kind == 1) then
    s.sendUrg { type := 0x21, vc := 2, src := 0, bcast := true, len := 16,
                payload := toLe 8 m.word ++ [s.f FLT_CTRL_STOP_GROUP, 0, 0, 0, 0, 0, 0, 0] }
  else s

/-- A message is sent on to position 0 (R425), or counted as undeliverable (R309, R421). -/
def State.forwardMsg (s : State) (m : FaultMsg) : State :=
  if s.fb FLT_CTRL_FWD_EN && s.f FLT_CTRL_FWD_CLASS ≤ m.cls && s.fb RING_STATUS_POS_VALID && s.eid % 64 != 0 then
    if s.cutOff then ({ s with flt := { s.flt with fRing := s.flt.fRing + 1 } }).addF FLT_DROP_RING_COUNT 1
    else s.sendUrg { type := 0x20, vc := 2, src := 0, dst := s.pos0, age := sat 16 (s.sysTime - m.time), len := 8, payload := toLe 8 m.word }
  else s

/-- The class of a message takes effect (R418 to R420). -/
def State.classEffect (s : State) (m : FaultMsg) : State :=
  let pend := if m.cls = 0 then FLT_PEND_NOTE else if m.cls = 1 then FLT_PEND_DEGRADE else if m.cls = 2 then FLT_PEND_STOP else FLT_PEND_HALT
  let s := s.setF pend 1
  let s := if m.relay || m.cls = 3 then (s.setF FLT_PEND_RELAY 1).setAlarm true else s
  let s := if 2 ≤ m.cls then s.setFields [(FLT_LAST_LO_MSG, m.word), (FLT_LAST_HI_MSG, m.word / 2 ^ 32)] else s
  let s := if m.cls = 2 then s.stopFault.sendStop m
    else if m.cls = 3 then
      let s := { s with nv := { s.nv with haltSaved := false } }
      if s.st = MIDNIGHT then s else s.enterMidnight (if m.group = 0 && m.kind = 4 then 0x10 else 0x0B)
    else s
  s.showCues

/-- The hub collector accepts a message: its class effect unless it has been taken or the message is another engine's, its
place in the queue, and its forwarding (R416, R418, R425, R427). -/
def State.acceptMsg (s : State) (m : FaultMsg) : State :=
  if m.remote then s.takeMsg m
  else
    let s := if m.acted then s else (s.classEffect m).count 0x13 0 1
    let fits := m.cls < 2 || s.hubRoom m.cls
    if fits then (s.takeMsg m).forwardMsg m
    else { s with flt := { s.flt with wire := s.flt.wire ++ [{ m with acted := true }] } }

/-- The oldest of some messages, the least bits [63:44] first among those of one instant (R416). -/
def oldestMsg : List FaultMsg → Option FaultMsg
  | [] => none
  | m :: r => match oldestMsg r with
    | some x => if x.time < m.time || (x.time = m.time && x.word / 2 ^ 44 < m.word / 2 ^ 44) then some x else some m
    | none => some m

/-- The STOP and HALT messages whose class has acted take the room that has come free (R427). -/
def State.takeWaiting (s : State) : State :=
  match oldestMsg (s.flt.wire.filter fun (m : FaultMsg) => m.acted || (m.remote && decide (2 ≤ m.cls))) with
  | some m => if s.hubRoom m.cls then ({ s with flt := { s.flt with wire := s.flt.wire.erase m } }).acceptMsg m else s
  | none => s

/-! ### Logs (R422 to R424) -/

/-- Records of the host log ring (R422). -/
def State.logSize (s : State) : Nat := 2 ^ s.f FLT_LOG_SIZE_LOG2

/-- The host log is full: FLT_PEND.LOG_FULL (R422). -/
def State.showLog (s : State) : State :=
  s.setFb FLT_PEND_LOG_FULL (s.fb FLT_CTRL_LOG_EN && decide (s.logSize ≤ s.flt.logIdx))

/-- A record is written to the host log at TAIL (R421, R422). -/
def State.hostLog (s : State) (r : LogRec) : State :=
  let tail := s.f FLT_LOG_TAIL_TAIL
  let base := s.f FLT_LOG_BASE_LO_BASE * 4096 + s.f FLT_LOG_BASE_HI_BASE * 2 ^ 32
  let s := s.hostWrite (base + 32 * tail) (r.bytes (s.f FLT_LOG_TAIL_PHASE))
  let s := if tail + 1 < s.logSize then s.setF FLT_LOG_TAIL_TAIL (tail + 1)
    else s.setFields [(FLT_LOG_TAIL_TAIL, 0), (FLT_LOG_TAIL_PHASE, 1 - s.f FLT_LOG_TAIL_PHASE)]
  ({ s with flt := { s.flt with logIdx := s.flt.logIdx + 1 } }).showLog

/-- A record waits for NV, of which 256 may while writes are deferred (R424). -/
def State.queueNv (s : State) (r : LogRec) : State :=
  if msgClass r.msg < s.f FLT_CTRL_NV_CLASS then s
  else if s.fb FLT_NV_DEFER && 256 ≤ s.flt.nvQ.length then s.addF FLT_NV_LOST 1
  else { s with flt := { s.flt with nvQ := s.flt.nvQ ++ [r] } }

/-- A record is written to the NV log (R424). -/
def Nv.write (v : Nv) (r : LogRec) : Nv :=
  { v with log := insertKey v.logNext r v.log, logNext := (v.logNext + 1) % 131072,
           logWrapped := v.logWrapped || v.logNext = 131071,
           haltSaved := v.haltSaved || (msgClass r.msg == 3 && r.type == 0 && !r.remote) }

/-! ### Writes of the fault registers (R419, R420, R422, R429) -/

/-- A write of FLT_PEND: 1 acknowledges a class, and closes the alarm contact unless a HALT is pending (R419, R420). -/
def State.writeFltPend (s : State) (v : Word) : State :=
  let clr := fun (s : State) (f : Field) => if f.get v = 1 then s.setF f 0 else s
  let s := clr (clr (clr s FLT_PEND_NOTE) FLT_PEND_DEGRADE) FLT_PEND_STOP
  let s := if FLT_PEND_RELAY.get v = 1 && !s.fb FLT_PEND_HALT then (s.setF FLT_PEND_RELAY 0).setAlarm false else s
  s.showCues

/-- A write of FLT_CTRL: turning LOG_EN on needs LOG2 within 6–20 and starts at index 0 with PHASE 1 (R422). -/
def State.writeFltCtrl (s : State) (v : Word) : State :=
  let was := s.fb FLT_CTRL_LOG_EN
  let s := s.setReg rFLT_CTRL (v &&& 0xFFFF07FF)
  if !was && s.fb FLT_CTRL_LOG_EN then
    if 6 ≤ s.f FLT_LOG_SIZE_LOG2 && s.f FLT_LOG_SIZE_LOG2 ≤ 20 then
      (({ s with flt := { s.flt with logIdx := 0 } }).setFields [(FLT_LOG_TAIL_TAIL, 0), (FLT_LOG_TAIL_PHASE, 1)]).showLog
    else (s.setF FLT_CTRL_LOG_EN 0).raise kFLT_NOTE rFLT_CTRL
  else s.showLog

/-- A write of FLT_LOG_HEAD frees the records before it (R422). -/
def State.writeLogHead (s : State) (v : Word) : State :=
  let s := s.setReg rFLT_LOG_HEAD (v &&& 0xFFFFF)
  ({ s with flt := { s.flt with logIdx := (s.f FLT_LOG_TAIL_TAIL + s.logSize - s.f FLT_LOG_HEAD_HEAD % s.logSize) % s.logSize } }).showLog

/-- The message of a number is raised as if by its source, or discarded with a NOTE (R429). -/
def State.inject (s : State) (w : Nat) : State :=
  let die := w / 2 ^ 60 % 16
  let group := w / 2 ^ 56 % 16
  let kind := w / 2 ^ 44 % 256
  match allKinds.find? fun (k : Kind) => k.group == group && k.code == kind with
  | some k =>
    if k.fixed || 4 < die || s.st = MIDNIGHT then s.raise kFLT_NOTE rFLT_INJECT_HI
    else s.raiseAs die (w / 2 ^ 52 % 16) k (w % 2 ^ 32) true
  | none => s.raise kFLT_NOTE rFLT_INJECT_HI

end Sys2Proof.Machine
end

