-- ==== Sys2Proof/Machine/Position.lean ====
section
/-!
DEFINITION. The commands of chapter 04: edges of the position inputs, interpolated crossings, presets and compares, the event
fabric, and ring line references.
-/
namespace Sys2Proof.Machine

/-- The check pattern's completion in Noon leads to Dusk (R43, R67). -/
def State.patternEnd (s : State) : State :=
  if s.st = NOON && s.sys.patternDone && s.fb SYS_STATE_STANDALONE then s.enterDusk 0x0E false else s

/-- The last _LO value a master wrote (R7). -/
def State.lowOf (s : State) (m off : Nat) : Nat := (tget (0 : BitVec 32) s.lows (m * 2 ^ 24 + off)).toNat

/-- What a change of A and B of an input does: nothing, an illegal transition, or a count step, which INVERT turns around
(R105 to R108). -/
def State.takeChange (s : State) (n : Nat) (c : Change) : State :=
  match c with
  | .none => s
  | .illegal => s.illegal n
  | .count d edge =>
    ((s.modPin n fun p => { p with edge := edge }).countStep n (if (s.posRec n).invert then -d else d)).patternEnd

/-- COUNT_STEP: the filtered levels of A and B of an input are now `a` and `b` (R102 to R126); `ph` is the timing phase that
first sampled the edge, on each die (R437). MODE 0 ignores the pins (R105). -/
def execCountStep (t n : Nat) (a b : Bool) (ph : List Nat) (s : State) : Result :=
  let s := s.at t
  let x := s.pin n
  let s := s.modPin n fun p => { p with levelA := a, levelB := b }
  let mode := (s.posRec n).mode
  .next (if mode = 0 || (x.levelA == a && x.levelB == b) then s
    else (s.countEdge ph).takeChange n (decodeStep mode x.levelA x.levelB a b))

/-- INDEX_LATCH: the filtered level of Z is now `z`; the edge that the direction selects latches (R113). -/
def execIndexLatch (t n : Nat) (z : Bool) (s : State) : Result :=
  let s := s.at t
  let old := (s.pin n).levelZ
  let s := s.modPin n fun p => { p with levelZ := z }
  .next (if (s.posRec n).zEn && (s.posRec n).mode != 0 && old != z && z != s.fb (POS_n_STATUS_DIR n) then s.latch n else s)

/-- INTERPOLATED_CROSSING: the interpolated position of an input has reached line or fire line starts (R122, R142). -/
def execInterpolatedCrossing (t n : Nat) (s : State) : Result :=
  let s := s.at t
  .next (s.interpolate n s.now 10000000).patternEnd

/-- STANDSTILL: no count step for STILL_US (R119). -/
def execStandstill (t n : Nat) (s : State) : Result :=
  let s := s.at t
  .next (match (s.pin n).lastStep with
    | some k =>
      if k + us (s.posRec n).stillUs ≤ s.now && !s.fb (POS_n_STATUS_STILL n) then
        ((s.settle n s.now).setF (POS_n_STATUS_STILL n) 1).modPin n fun x => { x with run := 0, intervals := [], recent := [] }
      else s
    | none => s)

/-- POS_PRESET: the host writes POS_n_PRESET_HI, and count and epoch are loaded (R7, R111). -/
def execPosPreset (t n : Nat) (v : Word) (s : State) : Result :=
  .next ((s.at t).onWrite (rPOS_n_PRESET_HI n) fun s => s.preset n (s.lowOf 0 (rPOS_n_PRESET_LO n)) (v.toNat % 2 ^ 16))

/-- POS_CMP_WRITE: a write of POS_n_CMP.TARGET (R128). -/
def execPosCmpWrite (t n : Nat) (v : Word) (s : State) : Result :=
  .next ((s.at t).onWrite (rPOS_n_CMP n) fun s => s.writeCmp n v.toNat)

/-- DECODER_CROSS_CHECK: the five decoders of an input are compared; `same` says that their counts and epochs agree (R14). -/
def execDecoderCrossCheck (t n : Nat) (same : Bool) (s : State) : Result :=
  let s := s.at t
  .next (if same then s else s.raise kPOS_MISMATCH n)

/-- Events in the order in which the fabric delivers them: by cycle, then by source code (R129, R130). -/
def insertEvt (e : FabEvt) : List FabEvt → List FabEvt
  | [] => [e]
  | x :: r => if e.due / 4 < x.due / 4 || (e.due / 4 = x.due / 4 && e.src < x.src) then e :: x :: r else x :: insertEvt e r

/-- EVENT_FABRIC_DELIVERY: every event due by now reaches its destinations (R129, R130). -/
def execEventFabricDelivery (t : Nat) (s : State) : Result :=
  let s := s.at t
  let due := s.pos.fabric.filter fun e => e.due ≤ s.now
  let s := { s with pos := { s.pos with fabric := s.pos.fabric.filter fun e => s.now < e.due } }
  .next ((due.foldl (fun l e => insertEvt e l) []).foldl (fun s e => s.deliverSrc e.src) s).patternEnd

/-- LINEREF: a LINEREF packet arrives (R132, R133, R135, R137, R299). -/
def execLineref (t port : Nat) (p : RingPkt) (s : State) : Result :=
  let s := s.at t
  .next (s.packetIn port p fun s => if p.type = 0x22 then s.refIn p.src (s.ageHere port p) (refOf p.payload) else s)

/-- LINEREF_RELEASE: the earliest reference of a channel whose instant has come is released (R133, R134). -/
def execLinerefRelease (t ch : Nat) (s : State) : Result :=
  let s := s.at t
  .next (match ((s.refCh ch).queue.filter fun r => r.at_ ≤ s.now).foldl (fun (a : Option RefPend) r => match a with
      | some b => if r.at_ < b.at_ then some r else some b
      | none => some r) none with
    | some r => ((s.modRef ch fun x => { x with queue := x.queue.erase r }).releaseRef ch r).patternEnd
    | none => s)

/-- LINEREF_HEARTBEAT: every 100 µs a sending input's channel carries its LINE and STILL (R136). -/
def execLinerefHeartbeat (t n : Nat) (s : State) : Result :=
  let s := s.at t
  .next (if (s.posRec n).refSend && (s.pin n).hbDue ≤ s.now then
      (s.modPin n fun x => { x with hbDue := s.now + us 100 }).sendRef
        { line := s.f (POS_n_LINE_LINE n), beat := true, still := s.fb (POS_n_STATUS_STILL n), ch := (s.posRec n).refCh, stamp := s.sysTime, delay := s.refDelay }
    else s)

/-- LINEREF_LOST: a taken channel has been silent for 1 ms (R136). -/
def execLinerefLost (t ch : Nat) (s : State) : Result :=
  let s := s.at t
  .next (match (s.refCh ch).lastAt with
    | some x =>
      if x + ms 1 ≤ s.now && !(s.takers ch).isEmpty && !bit (s.f POS_REF_STATUS_LOST) ch then
        (s.setBit POS_REF_STATUS_LOST ch true).raise kREF_LOST ch
      else s
    | none => s)

/-- LINK_DELAY_MEASUREMENT: the time-stamp exchange has measured a ring link's delay in ns (R132). -/
def execLinkDelayMeasurement (t port delay : Nat) (s : State) : Result :=
  let s := s.at t
  .next (if port < 4 && s.portUp port then s.setF (RING_PORT_p_DELAY_DELAY_NS port) (sat 16 delay) else s)

end Sys2Proof.Machine
end

