-- ==== Sys2Proof/Machine/Faults.lean ====
section
/-!
DEFINITION. The commands of fault collection (chapter 15): messages, floods, logs, acknowledgement and injection.
-/
namespace Sys2Proof.Machine

/-- FAULT_MESSAGE_ACCEPTED: of the messages a die has raised the hub collector accepts the oldest that it can take (R416 to
R420, R425 to R427). -/
def execFaultMessageAccepted (t die : Nat) (s : State) : Result :=
  let s := s.at t
  .next (match oldestMsg (s.flt.wire.filter fun (m : FaultMsg) => m.die == die && !m.remote && s.canTake m) with
    | some m => ({ s with flt := { s.flt with wire := s.flt.wire.erase m } }).acceptMsg m
    | none => s)

/-- LOG_RECORD_WRITE: the oldest queued record is written to the host log, the NV log's queue and the on-die history; it
stays while the host log is full (R420 to R424). -/
def execLogRecordWrite (t : Nat) (s : State) : Result :=
  let s := s.at t
  .next (match s.flt.queue with
    | r :: q =>
      if s.fb FLT_PEND_LOG_FULL then s
      else
        let s := ({ s with flt := { s.flt with queue := q, hist := (s.flt.hist ++ [{ r with irq := false }]).drop (s.flt.hist.length - 1023) } }).showQ
        let s := if s.fb FLT_CTRL_LOG_EN then (if r.irq then (s.hostLog r).fltMsix else s.hostLog r) else s
        (s.queueNv { r with irq := false }).takeWaiting
    | [] => s)

/-- NV_LOG_WRITE: the records waiting for NV are written, HALT records first; the temperature interlock defers them, notes it
once, and leaves 256 waiting (R407, R424). -/
def execNvLogWrite (t : Nat) (s : State) : Result :=
  let s := s.at t
  .next (if s.flt.nvQ.isEmpty then s
    else if s.nvOk then
      let halts := s.flt.nvQ.filter fun (r : LogRec) => msgClass r.msg == 3
      let rest := s.flt.nvQ.filter fun (r : LogRec) => msgClass r.msg != 3
      ({ s with nv := (halts ++ rest).foldl Nv.write s.nv, flt := { s.flt with nvQ := [] } }).setF FLT_NV_DEFER 0
    else if s.fb FLT_NV_DEFER then s
    else
      let s := (s.setF FLT_NV_DEFER 1).addF FLT_NV_LOST (s.flt.nvQ.length - 256)
      let s := { s with flt := { s.flt with nvQ := s.flt.nvQ.take 256 } }
      s.raise kFLT_NV_DEFER (wrap 32 (s.fs (THM_n_TEMP_TEMP 96))))

/-- FLOOD_CLEAR: the fill is at or below LO and no repeat has come for QUIET_US: count records and drop records are queued,
and the flood ends (R427, R428). -/
def execFloodClear (t : Nat) (s : State) : Result :=
  let s := s.at t
  .next (if s.fb FLT_PEND_FLOOD && s.flt.queue.length ≤ s.floodLo &&
      (s.flt.repeatAt.getD s.flt.floodAt) + us (max 1 (s.f FLT_COAL_QUIET_US)) ≤ s.now then
      let counts := (s.flt.entries.filter fun (e : Coal) => e.count != 0).map fun (e : Coal) =>
        ({ msg := e.msg, time := e.first, lastDt := e.last - e.first, count := e.count, eid := e.eid, injected := e.injected,
           remote := e.remote, type := 1, irq := e.irq } : LogRec)
      let drop := fun (type n : Nat) => if n = 0 then [] else
        [({ msg := 0, time := s.sysTime, count := n, eid := s.eid, type := type, irq := s.flt.irqHeld.contains type } : LogRec)]
      let recs := counts ++ drop 2 s.flt.fNote ++ drop 3 s.flt.fDegr ++ drop 4 s.flt.fRing
      let s := { s with flt := { s.flt with queue := s.flt.queue ++ recs, entries := [], seen := [], fNote := 0, fDegr := 0, fRing := 0, irqHeld := [] } }
      (s.setF FLT_PEND_FLOOD 0).showQ.checkFlood
    else s)

/-- FLT_PEND_ACK: a write of FLT_PEND acknowledges the classes whose bits are 1 (R419). -/
def execFltPendAck (t : Nat) (v : Word) (s : State) : Result := .next ((s.at t).onWrite rFLT_PEND fun s => s.writeFltPend v)

/-- RELAY_RESET: a write of FLT_PEND with RELAY = 1 closes the alarm contact again unless a HALT is pending (R420). -/
def execRelayReset (t : Nat) (v : Word) (s : State) : Result :=
  .next ((s.at t).onWrite rFLT_PEND fun s => if FLT_PEND_RELAY.get v = 1 then s.writeFltPend v else s)

/-- LOG_EN: a write of FLT_CTRL with LOG_EN = 1 (R422). -/
def execLogEn (t : Nat) (v : Word) (s : State) : Result :=
  .next ((s.at t).onWrite rFLT_CTRL fun s => if FLT_CTRL_LOG_EN.get v = 1 then s.writeFltCtrl v else s)

/-- FLT_LOG_HEAD_WRITE: the host frees the log records before HEAD (R422). -/
def execFltLogHeadWrite (t : Nat) (v : Word) (s : State) : Result := .next ((s.at t).onWrite rFLT_LOG_HEAD fun s => s.writeLogHead v)

/-- FLT_INJECT: the write of FLT_INJECT_HI raises the message of both halves (R7, R429). -/
def State.writeInject (s : State) (lo : Nat) (v : Word) : State :=
  (s.setFields [(FLT_INJECT_LO_MSG, lo), (FLT_INJECT_HI_MSG, v.toNat)]).inject (v.toNat * 2 ^ 32 + lo)
def execFltInject (t : Nat) (v : Word) (s : State) : Result :=
  .next ((s.at t).onWrite rFLT_INJECT_HI fun s => s.writeInject (s.lowOf 0 rFLT_INJECT_LO) v)

/-- FAULT: a forwarded message arrives at position 0 and is queued with REMOTE = 1; no action is taken on its class (R425,
R427). Its TIME allows for the packet's age. -/
def execFault (t port : Nat) (p : RingPkt) (s : State) : Result :=
  let s := s.at t
  .next (if p.type != 0x20 then s
    else s.packetIn port p fun s =>
      let w := leAt p.payload 0 8
      let m : FaultMsg := { die := w / 2 ^ 60 % 16, group := w / 2 ^ 56 % 16, inst := w / 2 ^ 52 % 16, kind := w / 2 ^ 44 % 256, cls := msgClass w,
                            seq := w / 2 ^ 32 % 1024, addr := w % 2 ^ 32, time := s.sysTime - s.ageHere port p, remote := true, eid := p.src }
      if s.canTake m then s.takeMsg m else { s with flt := { s.flt with wire := s.flt.wire ++ [m] } })

/-- STOP: a STOP packet of the engine's stop group raises FLT_REMOTE_STOP (R426). -/
def execStop (t port : Nat) (p : RingPkt) (s : State) : Result :=
  let s := s.at t
  .next (if p.type != 0x21 then s
    else s.packetIn port p fun s =>
      if s.fb FLT_CTRL_STOP_TAKE && s.f FLT_CTRL_STOP_GROUP != 0 && byteAt p.payload 8 = s.f FLT_CTRL_STOP_GROUP then
        s.raise kFLT_REMOTE_STOP p.src
      else s)

end Sys2Proof.Machine
end

