-- ==== Sys2Proof/Machine/Health.lean ====
section
/-!
DEFINITION. The commands of chapter 07: heater measurements, forcing, bypass, lane engines and rolling self-tests.
-/
namespace Sys2Proof.Machine

/-- Whether a tile may be measured now (R59, R196): in Dawn, or from Morning onward in a gap of its window with SCAN_EN = 1
and fewer than 2,048 measurements so far. -/
def State.mayMeasure (s : State) (n : Nat) : Bool :=
  s.tileUp n && (s.st == DAWN ||
    (match s.tileRec? n with
     | some r => r.enable && (s.win r.docwin).doc.isNone && !(s.win r.docwin).ended
     | none => false) &&
    s.fb HLTH_CTRL_SCAN_EN && !s.bypassed n && !(s.th n).dead && decide ((s.th n).scanned < 2048) &&
    (s.st == MORNING || s.st == NOON || s.st == EVENING || s.st == DUSK))

/-- HEATER_MEASUREMENT: the measurement at a tile's cursor completes with two readings in mΩ, or none where no current path
is found (R194 to R201). -/
def execHeaterMeasurement (t n : Nat) (r1 r2 : Option Nat) (s : State) : Result :=
  let s := s.at t
  .next (if s.mayMeasure n then
      let i := s.f (HLTH_n_SCAN_CURSOR n)
      (((s.judge n i (r1.map (s.correctOhm n)) (r2.map (s.correctOhm n))).modTh n fun h => { h with scanned := h.scanned + 1 }).scanNext n i).noteSwaps
    else s)

/-- A write of HLTH_FORCE (R203): FORCED of one nozzle set or cleared in the background map. -/
def State.hlthForce (s : State) (v : Nat) : State :=
  let n := bits v 22 16
  let i := bits v 13 0
  if n < 96 && i < 12288 then
    let e := (s.nozzle n i).bg
    (s.setBg n i (e - b2n (mapForced e) * 4 + b2n (bit v 31) * 4)).noteSwaps
  else s

/-- HLTH_FORCE: a write of the register. -/
def execHlthForce (t : Nat) (v : Word) (s : State) : Result :=
  .next ((s.at t).onWrite rHLTH_FORCE fun s => s.hlthForce v.toNat)

/-- A write of HLTH_BYPASS_REQ (R214): a tile that may be bypassed is at its next gap; another is refused with a NOTE. -/
def State.hlthBypass (s : State) (v : Nat) : State :=
  let n := bits v 6 0
  if !bit v 31 then s
  else if n < 96 && s.bypassOk n then
    if s.bypassed n then s else (s.modTh n fun h => { h with bypassReq := true }).noteSwaps
  else s.raise kHLTH_NOTE rHLTH_BYPASS_REQ

/-- BYPASS_REQUEST: a write of HLTH_BYPASS_REQ. -/
def execBypassRequest (t : Nat) (v : Word) (s : State) : Result :=
  .next ((s.at t).onWrite rHLTH_BYPASS_REQ fun s => s.hlthBypass v.toNat)

/-- The roll of a lane die ends; the next begins INTERVAL_S seconds later (R220). -/
def State.endRoll (s : State) (d : Nat) : State :=
  { s with health := { s.health with rollTile := erase s.health.rollTile d,
                                     rollDue := insertKey d (s.now + sec (s.f HLTH_ROLL_INTERVAL_S)) s.health.rollDue } }

/-- The spare's ROLLING bit follows the roll of its die (R223). -/
def State.showRolling (s : State) : State :=
  s.setF HLTH_SPARES_ROLLING (((List.range 8).filter fun k =>
    match lookup? s.health.rollTile (k / 2) with
    | some n1 => (s.th (n1 - 1)).engine == some (96 + k)
    | none => false).map fun k => 2 ^ k).sum

/-- A parity error fails an engine (R217, R254): its cycle in progress is not completed. A spare that fails while it holds a
tile for a roll ends that roll (R220). -/
def State.parityFail (s : State) (e : Nat) : State :=
  let s := s.setF (LANE_e_STATUS_PARITY e) 1
  let s := match (s.lane e).inFlight with
    | some p => (s.modLane e fun l => { l with inFlight := none }).tagRecord (cycleTag e p.f) true
    | none => s
  if s.fb (LANE_e_STATUS_FAILED e) then s
  else
    let d := engineDie e
    let s := s.failEngine e
    let s := match s.tileOf? e, lookup? s.health.rollTile d with
      | some n, some n1 => if n + 1 = n1 then
          (((s.setF (HLTH_n_STATUS_UNDER_TEST n) 0).modTh n fun h => { h with moveBack := false }).endRoll d).showRolling else s
      | _, _ => s
    s.noteSwaps

/-- LANE_PARITY_ERROR: parity fails in a stage register or bank of a lane engine. -/
def execLaneParityError (t e : Nat) (s : State) : Result :=
  let s := s.at t
  .next (if e < 104 && s.powered then s.parityFail e else s)

/-- A prepared engine takes over a tile (R219): its banks are on, its line buffer empty, every s_n of the tile 0; the engine
it frees returns to the bank states of the armed image. -/
def State.takeOver (s : State) (n e : Nat) : State :=
  let old := (s.th n).engine
  let s := (s.connect n e).setBanks e 0
  let s := { s with lanes := tupd {} e (fun _ => {}) s.lanes }
  let s := (s.nozKeys n).foldl (fun s i => s.modNoz n i fun z => { z with heat := 0 }) s
  let s := s.modTh n fun h => { h with moveTo := none }
  let s := match old with
    | some o => if o = e then s else { (s.setBanks o (s.imageBanks o)) with lanes := tupd {} o (fun _ => {}) s.lanes }
    | none => s
  let s := { s with comp := { s.comp with docs := s.comp.docs.map fun (d : RDoc) =>
    if d.opened then d else { d with prefilled := d.prefilled.filter (· != n) } } }
  let d := tileDie n
  match lookup? s.health.rollTile d with
  | some n1 =>
    if n1 = n + 1 then
      if e = n then (((s.setF (HLTH_n_STATUS_UNDER_TEST n) 0)).endRoll d).showRolling
      else ((s.setF (LANE_e_STATUS_TESTING n) 1).modLane n fun l => { l with rollTest := true }).showRolling
    else s
  | none => s

/-- LANE_ENGINE_PREPARED: the engine prepared for a tile is ready; the move takes effect in the gap, and otherwise waits for
the next (R219). -/
def execLaneEnginePrepared (t n : Nat) (s : State) : Result :=
  let s := s.at t
  .next (match (s.th n).moveTo, s.tileRec? n with
    | some e, some r =>
      if s.bypassed n || s.fb (LANE_e_STATUS_FAILED e) then s.modTh n fun h => { h with moveTo := none }
      else if (s.win r.docwin).doc.isSome then s
      else s.takeOver n e
    | _, _ => s)

/-- The lane whose turn it is on a die: the next after the one tested last, in ascending order, that serves its own enabled
tile (R220). -/
def State.nextRoll? (s : State) (d : Nat) : Option Nat :=
  let start := match lookup? s.health.rollLast d with
    | some k => k - 1 - 24 * d + 1
    | none => 0
  ((List.range 24).map fun i => 24 * d + (start + i) % 24).find? fun n =>
    s.enabled n && !s.bypassed n && !(s.th n).dead && (s.th n).engine == some n && !s.fb (LANE_e_STATUS_FAILED n)

/-- ROLL_INTERVAL_EXPIRY: the next roll of a lane die may begin (R220). -/
def execRollIntervalExpiry (t d : Nat) (s : State) : Result :=
  let s := s.at t
  .next (if 4 ≤ d || !s.fb HLTH_CTRL_ROLL_EN || (lookup? s.health.rollTile d).isSome || decide (s.now < (lookup? s.health.rollDue d).getD 0) ||
        (s.freeSpares d).isEmpty then s
    else match s.nextRoll? d with
      | some n =>
        let s := { s with health := { s.health with rollTile := insertKey d (n + 1) s.health.rollTile,
                                                    rollLast := insertKey d (n + 1) s.health.rollLast } }
        s.modTh n fun h => { h with rollWait := true }
      | none => s)

/-- ROLL_SELF_TEST_COMPLETE: the freed engine of a die has passed or failed its test (R220). -/
def execRollSelfTestComplete (t d : Nat) (pass : Bool) (s : State) : Result :=
  let s := s.at t
  .next (match lookup? s.health.rollTile d with
    | some n1 =>
      let n := n1 - 1
      if !(s.lane n).rollTest then s
      else
        let s := (s.setF (LANE_e_STATUS_TESTING n) 0).modLane n fun l => { l with rollTest := false }
        if pass then (s.modTh n fun h => { h with moveBack := true }).noteSwaps
        else (((s.failEngine n).setF (HLTH_n_STATUS_UNDER_TEST n) 0).endRoll d).showRolling
    | none => s)

end Sys2Proof.Machine
end

