-- ==== Sys2Proof/Machine/HouseOps.lean ====
section
/-!
DEFINITION. Shared operations of chapter 17: the alias views, performance-counter loads and dumps, the tag window, and the
calendar.
-/
namespace Sys2Proof.Machine

/-- Access sizes that registers, the alias views and remote slots take: 4 or 8 bytes, aligned (R459, R475, R478). -/
def wordSized (off n : Nat) : Bool := (n == 4 && off % 4 == 0) || (n == 8 && off % 8 == 0)

/-! ### Atomic aliases (R459) -/

/-- The form-store byte that an offset within an alias view names. -/
def State.aliasAddr (s : State) (o : Nat) : Nat := s.f MEM_ATOM_BASE_BASE * 2 ^ 18 + o % 2 ^ 18

/-- A refused alias access is counted. -/
def State.aliasErr (s : State) : State := s.addF MEM_STATUS_ALIAS_ERR 1

/-- A write of bytes to an alias view, 0 plain, 1 set, 2 clear: one read-modify-write of the word (R459). -/
def State.aliasWrite (s : State) (view o : Nat) (bs : List Nat) : State :=
  if 2 < view then s
  else if !wordSized o bs.length then s.aliasErr
  else
    let a := s.aliasAddr o
    let old := s.formBytes a bs.length
    let new := (old.zip bs).map fun (x, b) => if view = 0 then b % 256 else if view = 1 then x ||| b % 256 else x &&& (255 - b % 256)
    (s.putForm a new).countForm a bs.length

/-- A read of an alias view: the word, or 0 for a refused access (R459). -/
def State.aliasRead (s : State) (view o n : Nat) : State × List Nat :=
  if 2 < view then (s, List.replicate n 0)
  else if !wordSized o n then (s.aliasErr, List.replicate n 0)
  else (s.countForm (s.aliasAddr o) n, s.formBytes (s.aliasAddr o) n)

/-! ### Performance counters and dumps (R461 to R464) -/

/-- The counter is loaded from both halves (R462). -/
def State.pmcLoad (s : State) (n lo hi : Nat) : State := s.setFields [(PMC_n_LO_VALUE n, lo), (PMC_n_HI_VALUE n, hi)]

/-- The dump ring's slots (R464). -/
def State.dumpSize (s : State) : Nat := 2 ^ s.f PMC_CTRL_LOG2

/-- The line events that line dumps count (R463). -/
def State.dumpLines (s : State) : Nat :=
  match s.refInput? (s.f PMC_CTRL_WIN) with
  | some n => (s.pin n).fwdEvents
  | none => 0

/-- The point at which the periodic dumps count, and the length of a period (R463; a period of 0 lines is taken as 1, log
entry 50). -/
def State.dumpClock (s : State) : Nat := if s.fb PMC_CTRL_UNIT_LINES then s.dumpLines else s.sysTime / 1000
def State.dumpPeriod (s : State) : Nat := max (if s.fb PMC_CTRL_UNIT_LINES then 1 else 10) (s.f PMC_CTRL_PERIOD)

/-- The header of a dump record (R464). -/
def State.dumpHeader (s : State) (req : Bool) : List Nat :=
  toLe 4 s.pmc.seq ++ toLe 4 (sat 16 s.pmc.skips + b2n req * 65536) ++ toLe 8 s.sysTime ++ toLe 4 (s.refLine (s.f PMC_CTRL_WIN)) ++
    toLe 2 s.eid ++ List.replicate 38 0 ++ toLe 4 (s.f PMC_DUMP_STAT_PHASE)

/-- The counters of a dump record (R464). -/
def State.dumpCounters (s : State) : List Nat :=
  (List.range 256).flatMap fun n =>
    toLe 8 (s.f (PMC_n_LO_VALUE n) + 2 ^ 32 * s.f (PMC_n_HI_VALUE n) + 2 ^ 48 * b2n (bit (s.reg (rPMC_OVF_k (n / 32))).toNat (n % 32)))

/-- A dump (R464): the record's counters, then its header, into slot TAIL; skipped when the ring is full. -/
def State.dump (s : State) (req : Bool) : State :=
  let next := fun (s : State) => { s with pmc := { s.pmc with seq := (s.pmc.seq + 1) % 2 ^ 32 } }
  if s.dumpSize ≤ s.pmc.dumpUsed then
    next (({ s with pmc := { s.pmc with skips := s.pmc.skips + 1 } }).addF PMC_DUMP_STAT_SKIPPED 1)
  else
    let tail := s.f PMC_DUMP_STAT_TAIL % s.dumpSize
    let base := s.f PMC_DUMP_BASE_LO_BASE * 4096 + 2 ^ 32 * (s.reg rPMC_DUMP_BASE_HI).toNat + tail * 4096
    let hdr := s.dumpHeader req
    let s := (s.hostWrite (base + 0x40) s.dumpCounters).hostWrite base hdr
    let s := if tail + 1 = s.dumpSize then s.setFields [(PMC_DUMP_STAT_TAIL, 0), (PMC_DUMP_STAT_PHASE, 1 - s.f PMC_DUMP_STAT_PHASE)]
      else s.setF PMC_DUMP_STAT_TAIL (tail + 1)
    next { s with pmc := { s.pmc with skips := 0, dumpUsed := s.pmc.dumpUsed + 1 } }

/-- A write of PMC_CTRL (R461, R463): its plain fields, DUMP_EN when LOG2 allows it, and with DUMP_NOW a dump besides the
periodic ones (log entry 50). -/
def State.writePmcCtrl (s : State) (v : Word) : State :=
  let log2 := PMC_CTRL_LOG2.get v
  let en := PMC_CTRL_DUMP_EN.get v = 1 && decide (4 ≤ log2 ∧ log2 ≤ 15)
  let same := s.fb PMC_CTRL_DUMP_EN && s.f PMC_CTRL_UNIT_LINES == PMC_CTRL_UNIT_LINES.get v && s.f PMC_CTRL_WIN == PMC_CTRL_WIN.get v &&
    s.f PMC_CTRL_PERIOD == PMC_CTRL_PERIOD.get v
  let s := (s.setReg rPMC_CTRL (v &&& 0x3F1FFFFF)).setFields [(PMC_CTRL_DUMP_NOW, 0), (PMC_CTRL_DUMP_EN, b2n en)]
  let s := if en && !same then { s with pmc := { s.pmc with dumpDue := s.dumpClock + s.dumpPeriod } } else s
  if en && PMC_CTRL_DUMP_NOW.get v = 1 then s.dump true else s

/-- A write of PMC_DUMP_HEAD frees the records before it (R464). -/
def State.writeDumpHead (s : State) (v : Word) : State :=
  let s := s.setF PMC_DUMP_HEAD_HEAD (PMC_DUMP_HEAD_HEAD.get v)
  let n := s.dumpSize
  { s with pmc := { s.pmc with dumpUsed := (s.f PMC_DUMP_STAT_TAIL + n - s.f PMC_DUMP_HEAD_HEAD % n) % n } }

/-! ### Random tagging (R465, R466) -/

/-- A write of PMC_TAG_CTRL; with a domain the LFSR is loaded (R465). -/
def State.writeTagCtrl (s : State) (v : Word) : State :=
  let s := s.setFields [(PMC_TAG_CTRL_DOMAIN, PMC_TAG_CTRL_DOMAIN.get v), (PMC_TAG_CTRL_RATE, PMC_TAG_CTRL_RATE.get v),
    (PMC_TAG_CTRL_UNIT, PMC_TAG_CTRL_UNIT.get v)]
  if PMC_TAG_CTRL_DOMAIN.get v = 0 then s
  else { s with pmc := { s.pmc with lfsr := if s.f PMC_TAG_SEED_SEED = 0 then 1 else s.f PMC_TAG_SEED_SEED } }

/-- A write of PMC_TAG_STAT.POP releases the oldest entries (R466). -/
def State.writeTagStat (s : State) (v : Word) : State :=
  let k := min (PMC_TAG_STAT_POP.get v) (s.f PMC_TAG_STAT_COUNT)
  if k = 0 then s
  else s.setFields [(PMC_TAG_STAT_HEAD, (s.f PMC_TAG_STAT_HEAD + k) % 64), (PMC_TAG_STAT_COUNT, s.f PMC_TAG_STAT_COUNT - k), (PMC_TAG_STAT_FULL, 0)]

/-- The bytes of a tag record (R466). -/
def TagRec.bytes (r : TagRec) : List Nat :=
  toLe 4 (r.typ % 16 + b2n r.done * 16 + b2n r.abandoned * 32 + r.unit_ % 4096 * 65536) ++ toLe 4 r.idA ++ toLe 4 r.idB ++
    (List.range 13).flatMap fun k => toLe 4 (r.stamps.getD k 0)

/-! ### The calendar (R468 to R470) -/

/-- The calendar one second on; at the end of 2399 it holds (R468). -/
def Clk.tick (c : Clk) : Clk :=
  if c.ended then c
  else if c.second < 59 then { c with second := c.second + 1 }
  else if c.minute < 59 then { c with second := 0, minute := c.minute + 1 }
  else if c.hour < 23 then { c with second := 0, minute := 0, hour := c.hour + 1 }
  else match nextDay (some (c.year, c.month, c.day)) with
    | some (y, m, d) => { c with second := 0, minute := 0, hour := 0, year := y, month := m, day := d }
    | none => { c with ended := true }

/-- Whether a date and time can be set (R469). -/
def validSet (y m d h mi sc : Nat) : Bool :=
  decide (y ≤ 399) && decide (1 ≤ m ∧ m ≤ 12) && decide (1 ≤ d ∧ d ≤ monthLen y m) && decide (h ≤ 23 ∧ mi ≤ 59 ∧ sc ≤ 59)

/-- CLK_DATE and CLK_TIME as the calendar stands (R473). -/
def Clk.dateWord (c : Clk) : Nat := c.year * 65536 + c.month * 256 + c.day
def Clk.timeWord (c : Clk) : Nat := c.hour * 65536 + c.minute * 256 + c.second

/-- A write of CLK_TIME (R469) by the master of a code: the calendar takes the time with the date that master last wrote, or
the current one; an impossible set is refused. -/
def State.clockSet (s : State) (m : Nat) (v : Word) : State :=
  let d : Word := BitVec.ofNat 32 ((lookup? s.clk.dates m).getD s.clk.dateWord)
  let y := CLK_DATE_YEAR.get d
  let mo := CLK_DATE_MONTH.get d
  let dd := CLK_DATE_DAY.get d
  let h := CLK_TIME_HOUR.get v
  let mi := CLK_TIME_MINUTE.get v
  let sc := CLK_TIME_SECOND.get v
  if validSet y mo dd h mi sc then
    { s with clk := { s.clk with year := y, month := mo, day := dd, hour := h, minute := mi, second := sc, ended := false, valid := true,
                                 dates := [] } }
  else (s.setF CLK_STATUS_BAD_DATE 1).raise kCLK_BAD_DATE rCLK_TIME

/-- A write of CLK_DATE waits for the same master's write of CLK_TIME (R469). -/
def State.clockDate (s : State) (m : Nat) (v : Word) : State :=
  { s with clk := { s.clk with dates := insertKey m (v.toNat % 2 ^ 32) s.clk.dates } }

end Sys2Proof.Machine
end

