-- ==== Sys2Proof/Machine/Housekeeping.lean ====
section
/-!
DEFINITION. The commands of chapter 17: atomic aliases, memory errors, performance counters, dumps, tags and the calendar.
-/
namespace Sys2Proof.Machine

/-! ### Atomic aliases (R459) -/

/-- ALIAS_SET_WRITE: bytes written at an offset of the set view. -/
def execAliasSetWrite (t off : Nat) (data : List Nat) (s : State) : Result :=
  .next ((s.at t).onWrite (0xB40000 + off) fun s => if off < 2 ^ 18 then s.aliasWrite 1 off data else s)

/-- ALIAS_CLEAR_WRITE: bytes written at an offset of the clear view. -/
def execAliasClearWrite (t off : Nat) (data : List Nat) (s : State) : Result :=
  .next ((s.at t).onWrite (0xB80000 + off) fun s => if off < 2 ^ 18 then s.aliasWrite 2 off data else s)

/-! ### Memory errors (R460) -/

/-- MEM_ECC_CORRECTED: a corrected error in the form store (0), the scratchpad (1) or NV flash (2) at a byte address. -/
def execMemEccCorrected (t mem a : Nat) (s : State) : Result :=
  let s := s.at t
  .next (if !s.powered then s
    else
      let s := s.addF MEM_ECC_CORR 1
      let due := match s.mem.eccAt with
        | some x => decide (x + sec 1 ≤ s.now)
        | none => true
      if mem != 1 && due then ({ s with mem := { s.mem with eccAt := some s.now } }).raise kMEM_ECC_CORR (a / 64) else s)

/-- What an uncorrectable error does to the reader that met it (R71, R444, R460): a chunk or a queued word marks its
descriptor BAD with DETAIL 6, a BAR read ends in Completer Abort, a composer renders the block as 0, an image fails with
reason 0x14, and a calibration copy fails its check. -/
def State.eccReader (s : State) (a : Nat) : EccReader → State
  | .dma k off => s.chunkError k 6 off
  | .queue k off => s.chunkError k 6 off
  | .bar => s.emit (.barData 2 [])
  | .composer => { s with mem := { s.mem with eccBad := (a / 64) :: s.mem.eccBad.filter (· != a / 64) } }
  | .image => if s.cfg.busy.isSome then { s with mem := { s.mem with eccImage := true } } else s
  | .calCopy b k =>
    let bad := fun (l : List (Nat × CalCopy)) => match lookup? l k with
      | some c => insertKey k { c with ok := false } l
      | none => l
    if b then { s with nv := { s.nv with calB := bad s.nv.calB } } else { s with nv := { s.nv with calA := bad s.nv.calA } }
  | .other => s

/-- MEM_ECC_UNCORRECTABLE: an uncorrectable error in the form store (0), the scratchpad (1) or NV flash (2). -/
def execMemEccUncorrectable (t mem a : Nat) (r : EccReader) (s : State) : Result :=
  let s := s.at t
  .next (if !s.powered then s
    else
      let s := s.addF MEM_ECC_UNCORR 1
      (if mem = 0 then s.raise kMEM_ECC_UNCORR (a / 64) else s).eccReader a r)

/-! ### Performance counters and dumps (R461 to R464) -/

/-- PMC_LOAD: the host's write of PMC_n_HI loads the counter with the low half it wrote last. -/
def execPmcLoad (t n : Nat) (v : Word) (s : State) : Result :=
  .next ((s.at t).onWrite (rPMC_n_HI n) fun s => if n < 256 then s.pmcLoad n (s.lowOf 0 (rPMC_n_LO n)) (v.toNat % 65536) else s)

/-- PMC_DUMP: a periodic dump is due (R463); none by lines without an armed image. -/
def execPmcDump (t : Nat) (s : State) : Result :=
  let s := s.at t
  .next (if s.fb PMC_CTRL_DUMP_EN && s.pmc.dumpDue ≤ s.dumpClock && (!s.fb PMC_CTRL_UNIT_LINES || s.cfg.armed.isSome) then
      ({ s with pmc := { s.pmc with dumpDue := s.pmc.dumpDue + s.dumpPeriod } }).dump false
    else s)

/-- DUMP_NOW: a write of PMC_CTRL with DUMP_NOW = 1. -/
def execDumpNow (t : Nat) (v : Word) (s : State) : Result :=
  .next ((s.at t).onWrite rPMC_CTRL fun s => if PMC_CTRL_DUMP_NOW.get v = 1 then s.writePmcCtrl v else s)

/-- DUMP_EN: a write of PMC_CTRL with DUMP_EN = 1. -/
def execDumpEn (t : Nat) (v : Word) (s : State) : Result :=
  .next ((s.at t).onWrite rPMC_CTRL fun s => if PMC_CTRL_DUMP_EN.get v = 1 then s.writePmcCtrl v else s)

/-! ### Random tagging (R465, R466) -/

/-- TAG_LOAD: a write of PMC_TAG_CTRL with DOMAIN ≠ 0 loads the LFSR. -/
def execTagLoad (t : Nat) (v : Word) (s : State) : Result :=
  .next ((s.at t).onWrite rPMC_TAG_CTRL fun s => if PMC_TAG_CTRL_DOMAIN.get v != 0 then s.writeTagCtrl v else s)

/-- TAG_RECORD_COMPLETE: the tagged object completes, or ends first and is abandoned; its record enters the window. -/
def execTagRecordComplete (t : Nat) (abandoned : Bool) (s : State) : Result := .next ((s.at t).tagRecord (fun _ => true) abandoned)

/-- TAG_POP: a write of PMC_TAG_STAT releases POP entries, oldest first. -/
def execTagPop (t : Nat) (v : Word) (s : State) : Result := .next ((s.at t).onWrite rPMC_TAG_STAT fun s => s.writeTagStat v)

/-! ### The calendar (R468 to R471) -/

/-- CALENDAR_SECOND: a whole second of the calendar's crystal; it runs in every state and with the logic off. -/
def execCalendarSecond (t : Nat) (s : State) : Result := let s := s.at t; .next { s with clk := s.clk.tick }

/-- CLOCK_SET: a master's write of CLK_TIME. -/
def execClockSet (t : Nat) (m : Master) (v : Word) (s : State) : Result := .next ((s.at t).onWrite rCLK_TIME fun s => s.clockSet (masterCode m) v)

end Sys2Proof.Machine
end

