-- ==== Sys2Proof/Machine/Motor.lean ====
section
/-!
DEFINITION. The commands of the motor axes (chapter 13).
-/
namespace Sys2Proof.Machine

/-- An axis the image declares, in a powered engine. -/
def State.axisIs (s : State) (a : Nat) : Bool := s.powered && decide (a < 4) && (s.axisRec a).role != 0

/-- MOTOR_RUN: a write of MOT_a_CMD with RUN = 1 (R370, R371, R376). -/
def execMotorRun (t a : Nat) (v : Word) (s : State) : Result :=
  .next ((s.at t).onWrite (rMOT_a_CMD a) fun s => if a < 4 && bit v.toNat 31 then s.writeMotCmd a v else s)

/-- MOTOR_STOP: a write of MOT_a_CMD with RUN = 0 (R370, R371). -/
def execMotorStop (t a : Nat) (v : Word) (s : State) : Result :=
  .next ((s.at t).onWrite (rMOT_a_CMD a) fun s => if a < 4 && !bit v.toNat 31 then s.writeMotCmd a v else s)

/-! ### The speed loop (R371, R372, R374, R375, R385, R390, R393) -/

/-- Dusk ignores commands to transport, carrier and sled axes (R370). -/
def State.duskHolds (s : State) (a : Nat) : Bool :=
  s.st == DUSK && ((s.axisRec a).role == 1 || (s.axisRec a).role == 2 || (s.axisRec a).role == 4)

/-- The speed, torque mode and current that an axis is to take up (R371, R372): of the pin, of the host's registers, or in
Dusk of the run to CAP_POS (R393; log entry 48). -/
def State.axisCommand (s : State) (a : Nat) : Int × Bool × Int :=
  let r := s.axisRec a
  if s.duskHolds a then
    if r.role = 4 && r.posin < 16 then
      let d := r.capPos - sx 48 (s.f (POS_n_COUNT_LO_COUNT r.posin) + 2 ^ 32 * s.f (POS_n_COUNT_HI_EPOCH r.posin))
      (if d < -2 then -(r.ratedRpm : Int) else if 2 < d then r.ratedRpm else 0, false, 0)
    else (0, false, 0)
  else if (s.axis a).st = .stopping then (0, false, 0)
  else if r.cmdsrc = 1 then (s.mot.pinCmd * r.ratedRpm / 65536, false, 0)
  else (clamp (-r.ratedRpm) r.ratedRpm (s.fs (MOT_a_SPEED_CMD_RPM a)), s.fb (MOT_a_CMD_TORQUE a),
    clamp (-s.ilim a) (s.ilim a) (s.fs (MOT_a_TORQ_CMD_IQ_MA a)))

/-- The filtered reading of the MOT_CMD pin is taken: MOT_CMDPIN shows it, and a pin axis starts or stops as it crosses its
stop level (R372, R373, R388). -/
def State.takePin (s : State) (a : Nat) (x : Int) : State :=
  let r := s.axisRec a
  let (v, on) := pinCommand r.cmdmode x
  let was := s.mot.pinOn
  let s := { s with mot := { s.mot with pinCmd := v, pinOn := on } }
  let s := s.setFields [(MOT_CMDPIN_VALUE, v), (MOT_CMDPIN_MODE, r.cmdmode)]
  if s.fb MOT_CMDPIN_LOST || s.duskHolds a then s
  else if on && !was then (s.modAxis a fun x => { x with fault := false }).startAxis a
  else if !on && was then s.stopAxis a
  else s

/-- The new command takes effect (R371); a change begins a new wait for the speed (R375). -/
def State.takeCommand (s : State) (a : Nat) : State :=
  let (v, tq, iq) := s.axisCommand a
  let x := s.axis a
  let s := if x.target != v || x.torque != tq || x.iqCmd != iq then
      (s.setF (MOT_a_STATUS_AT_SPEED a) 0).modAxis a fun x => { x with emitted := false, speedAt := none }
    else s
  s.modAxis a fun x => { x with target := v, torque := tq, iqCmd := iq }

/-- What the measured speed says: within 1 % of the command (R375), below 10 % of it at the current limit (R390), back to
injection below 4 % of the rated speed (R385), and standing still at the end of a deceleration or at CAP_POS (R393). -/
def State.watchSpeed (s : State) (a : Nat) (rpm : Int) : State :=
  let r := s.axisRec a
  let x := s.axis a
  let near := decide ((rpm - x.target).natAbs * 100 ≤ r.ratedRpm) && x.st == .running && !x.torque
  let i := (s.fs (MOT_a_IDQ_ID_MA a)).natAbs ^ 2 + (s.fs (MOT_a_IDQ_IQ_MA a)).natAbs ^ 2
  let slow := decide (rpm.natAbs * 10 < x.target.natAbs) && decide (s.ilim a ^ 2 ≤ i) && x.st == .running && !x.torque
  let s := s.modAxis a fun x => { x with speedAt := if near then some (x.speedAt.getD s.now) else none,
                                         stallAt := if slow then some (x.stallAt.getD s.now) else none }
  let s := if near then s else s.setF (MOT_a_STATUS_AT_SPEED a) 0
  let s := if s.f (MOT_a_STATUS_EST a) = 2 && rpm.natAbs * 100 < 4 * r.ratedRpm then
      (s.setF (MOT_a_STATUS_EST a) 1).modAxis a fun x => { x with agreeAt := none } else s
  if x.st = .stopping && rpm = 0 then s.axisOff a
  else if s.duskHolds a && r.role = 4 then
    s.modAxis a fun x => { x with heldAt := if rpm = 0 && x.target = 0 then some (x.heldAt.getD s.now) else none }
  else s

/-- SPEED_LOOP_UPDATE: the speed loop runs, every 250 µs, with the estimated speed in rpm and the filtered reading of the
MOT_CMD pin (mV, 1/65,536 of full duty, or 0.1 Hz, by mode) (R371 to R375). -/
def execSpeedLoopUpdate (t a : Nat) (rpm pin : Int) (s : State) : Result :=
  let s := s.at t
  .next (if s.axisIs a then
      let s := s.setFs (MOT_a_SPEED_RPM a) rpm
      let s := if (s.axisRec a).cmdsrc = 1 then s.takePin a pin else s
      (s.takeCommand a).watchSpeed a rpm
    else s)

/-! ### The current controller (R377, R379 to R383, R385, R391) -/

/-- One period's i_d reference in 1/1000 mA, moved by field weakening at 10 % of ILIM_MA per ms (R380). -/
def State.fieldWeaken (s : State) (a vMv : Nat) : State :=
  let r := s.axisRec a
  let x := s.axis a
  let m := margin r.softDeg (s.f PWR_LINK_VOLT) vMv
  let th : Int := s.f (MOT_a_FW_FW_MARGIN_PM a)
  let step : Int := s.ilim a * 100 / max 1 r.pwmKhz
  let low : Int := -((min (s.f (MOT_a_FW_FW_IDMAX_MA a)) (s.ilim a) * 1000 : Nat) : Int)
  let now := x.idRef * 1000 + x.idFrac
  let new := if m < th then max (min now 0 - step) low else if th + 20 < m then min 0 (now + step) else now
  (s.modAxis a fun x => { x with idRef := new / 1000, idFrac := new % 1000 }).setFb (MOT_a_STATUS_FW a) (decide (new < 0))

/-- The period's sample is taken, predicted, or forced (R381 to R383). -/
def State.takeSample (s : State) (a : Nat) (m : CurrentSample) : State :=
  let show_ := fun (s : State) (d q : Int) => (s.setFs (MOT_a_IDQ_ID_MA a) d).setFs (MOT_a_IDQ_IQ_MA a) q
  if m.window then show_ (s.modAxis a fun x => { x with predicted := 0 }) m.idMa m.iqMa
  else if (s.axis a).predicted < 4 then
    let w := s.reg (rMOT_a_IDQ a)
    let s' := ((s.modAxis a fun x => { x with predicted := x.predicted + 1 }).addF (MOT_a_SAMPLE_PREDICTED a) 1).count 0x16 a 1
    (show_ s' (Config.predictedCurrent 0 w s.draws) (Config.predictedCurrent 1 w s.draws)).drawn
  else
    let s := (show_ (s.modAxis a fun x => { x with predicted := 0 }) m.idMa m.iqMa).addF (MOT_a_SAMPLE_FORCED a) 1
    if (match (s.axis a).forcedAt with
      | some x => decide (x + sec 1 ≤ s.now)
      | none => true) then (s.modAxis a fun x => { x with forcedAt := some s.now }).raiseMot a kMOT_SAMPLE_FORCED a
    else s

/-- The offsets of an axis's current sensors follow their slew, linear over SLEW_MS, in each PWM period (R442); in Night and
Midnight slews stand (R451). -/
def State.slewAxis (s : State) (a : Nat) : State :=
  if decide (a < 4) && s.calSlews (256 + a) && s.st != NIGHT && s.st != MIDNIGHT then
    s.slewTo (256 + a) ((s.now - (s.calI (256 + a)).slewAt) / us 1)
  else s

/-- CURRENT_CONTROL_PERIOD: one PWM period of an axis whose gates switch (R377, R380 to R383, R385, R391). -/
def execCurrentControlPeriod (t a : Nat) (smp : CurrentSample) (s : State) : Result :=
  let s := (s.at t).slewAxis a
  .next (if s.axisIs a && s.fb (MOT_a_STATUS_RUNNING a) then
      let s := (s.takeSample a smp).fieldWeaken a smp.vMv
      let s := s.modAxis a fun x => { x with agreeAt := if smp.agree then some (x.agreeAt.getD s.now) else none }
      let lim := min (s.f (MOT_a_SHARE_SHARE_W a)) (s.axisRec a).pwrW
      let asks := (s.fs (MOT_a_SPEED_RPM a)).natAbs < (s.axis a).target.natAbs
      (s.setFs (MOT_a_SHARE_DRAW_W a) smp.drawW).setFb (MOT_a_STATUS_PLIM a) (asks && decide ((lim : Int) ≤ smp.drawW))
    else s)

/-! ### The pin (R373) and the speed (R375) -/

/-- MOT_CMD_LOST: the signal on the pin is lost: each axis that follows it decelerates to a stop (R372, R373). -/
def execMotCmdLost (t : Nat) (s : State) : Result :=
  let s := s.at t
  let as := [0, 1, 2, 3].filter fun a => s.axisIs a && (s.axisRec a).cmdsrc == 1
  .next (if as.isEmpty || s.fb MOT_CMDPIN_LOST then s
    else as.foldl (fun s a => (s.stopAxis a).raiseMot a kMOT_CMD_LOST (a + 4 * (s.axisRec a).cmdmode)) (s.setF MOT_CMDPIN_LOST 1))

/-- MOT_CMD_RESTORED: the signal has been valid for 100 ms and the command lies above the stop level: LOST returns to 0 and
the axis restarts (R373). -/
def execMotCmdRestored (t : Nat) (s : State) : Result :=
  let s := s.at t
  let as := [0, 1, 2, 3].filter fun a => s.axisIs a && (s.axisRec a).cmdsrc == 1
  .next (if s.fb MOT_CMDPIN_LOST && s.mot.pinOn then
      as.foldl (fun s a => if (s.axis a).fault || s.duskHolds a then s else s.startAxis a) (s.setF MOT_CMDPIN_LOST 0)
    else s)

/-- AT_SPEED: the speed has stayed within 1 % of the command for 10 ms: the source is emitted once (R375). -/
def execAtSpeed (t a : Nat) (s : State) : Result :=
  let s := s.at t
  .next (match (s.axis a).speedAt with
    | some x =>
      if s.axisIs a && x + ms 10 ≤ s.now && (s.axis a).st = .running && !(s.axis a).torque && !(s.axis a).emitted then
        ((s.setF (MOT_a_STATUS_AT_SPEED a) 1).modAxis a fun x => { x with emitted := true }).emitSrc (0x70 + a)
      else s
    | none => s)

/-! ### The start sequence (R376, R384 to R387) -/

/-- CATCH_CHECK_COMPLETE: step 1 ends with the induced line-to-line amplitude in 0.1 V and whether a full period was seen
(R376, R386, R387). -/
def execCatchCheckComplete (t a amp : Nat) (full : Bool) (s : State) : Result :=
  let s := s.at t
  .next (if s.axisIs a && (s.axis a).st = .catchCheck then
      let rated := s.f (MOT_a_MODEL_K_KE a) * (s.axisRec a).ratedRpm
      if full && rated < 50 * 1000 * amp then
        if s.f PWR_LINK_VOLT < amp then
          ((s.setF (MOT_a_STATUS_CATCH_OVER a) 1).modAxis a fun x => { x with st := .catchOver, stepEnd := s.now + ms 100 }).raiseMot a
            kMOT_CATCH_OVER (a + amp / 10 % 4096 * 16)
        else s.modAxis a fun x => { x with st := .catching }
      else (s.setF (MOT_a_STATUS_CATCHING a) 0).modAxis a fun x => { x with st := .openCheck }
    else s)

/-- CATCH_LOCK: the phase-locked loop has locked onto the turning motor, whose speed in rpm is known: the gates are enabled
with i_q = 0 (R386). -/
def execCatchLock (t a : Nat) (rpm : Int) (s : State) : Result :=
  let s := s.at t
  .next (if s.axisIs a && (s.axis a).st = .catching then
      let s := (s.setFields [(MOT_a_STATUS_CATCHING a, 0), (MOT_a_STATUS_RUNNING a, 1), (MOT_a_STATUS_EST a, 2), (MOT_a_IDQ_IQ_MA a, 0)]).setFs
        (MOT_a_SPEED_RPM a) rpm
      (s.modAxis a fun x => { x with idRef := Config.catchId rpm, idFrac := 0 }).accelerate a
    else s)

/-- CATCH_OVER_RETRY: 100 ms after a catch was given up for its induced voltage the axis tries again (R387). -/
def execCatchOverRetry (t a : Nat) (s : State) : Result :=
  let s := s.at t
  .next (if s.axisIs a && (s.axis a).st = .catchOver && (s.axis a).run && (s.axis a).stepEnd ≤ s.now then
      s.modAxis a fun x => { x with st := .catchCheck, stepEnd := s.now + ms 100 }
    else s)

/-- OPEN_PHASE_CHECK_COMPLETE: step 2 ends, with the open phase if there is one (R376). -/
def execOpenPhaseCheckComplete (t a : Nat) (open_ : Option Nat) (s : State) : Result :=
  let s := s.at t
  .next (if s.axisIs a && (s.axis a).st = .openCheck then
      match open_ with
      | some p => s.axisTrip a (MOT_a_STATUS_OPEN_PHASE a) kMOT_OPEN_PHASE (a + p % 4 * 4)
      | none =>
        if s.fb (MOT_a_MODEL_R_AUTO a) && !(s.axis a).identified then s.modAxis a fun x => { x with st := .ident, stepEnd := s.now + ms 200 }
        else s.modAxis a fun x => { x with st := .initPos, stepEnd := s.now + ms 52 }
    else s)

/-- MODEL_IDENTIFICATION_COMPLETE: step 3 ends with R_s in mΩ and L_d and L_q in µH (R376). -/
def execModelIdentificationComplete (t a rs ld lq : Nat) (s : State) : Result :=
  let s := s.at t
  .next (if s.axisIs a && (s.axis a).st = .ident then
      (s.setFields [(MOT_a_MODEL_R_RS_MOHM a, sat 16 rs), (MOT_a_MODEL_L_LD_UH a, sat 16 ld), (MOT_a_MODEL_L_LQ_UH a, sat 16 lq)]).modAxis a fun x =>
        { x with identified := true, st := .initPos, stepEnd := s.now + ms 52 }
    else s)

/-- INITIAL_POSITION_FOUND: step 4 ends; with too weak a response the axis starts in open loop (R376, R384). -/
def execInitialPositionFound (t a : Nat) (weak : Bool) (s : State) : Result :=
  let s := s.at t
  .next (if s.axisIs a && (s.axis a).st = .initPos then
      let s := s.setFields [(MOT_a_STATUS_RUNNING a, 1), (MOT_a_STATUS_EST a, if weak then 3 else 1)]
      (if weak then s.raiseMot a kMOT_HFI_WEAK a else s).accelerate a
    else s)

/-- ESTIMATOR_HANDOVER: rising above 5 % of the rated speed, with both estimates in agreement for 10 ms, the angle passes to
the back-EMF observer (R384, R385). -/
def execEstimatorHandover (t a : Nat) (s : State) : Result :=
  let s := s.at t
  .next (match (s.axis a).agreeAt with
    | some x =>
      let e := s.f (MOT_a_STATUS_EST a)
      if s.axisIs a && (e = 1 || e = 3) && x + ms 10 ≤ s.now && 5 * (s.axisRec a).ratedRpm ≤ (s.fs (MOT_a_SPEED_RPM a)).natAbs * 100 then
        s.setF (MOT_a_STATUS_EST a) 2
      else s
    | none => s)

/-! ### Faults (R367, R388, R390, R395) -/

/-- The phase that one period's RMS currents show open: below one eighth of the mean of the other two, which exceeds 20 % of
ILIM_MA (R388). -/
def openPhase? (lim : Nat) (r : Rms) : Option Nat :=
  let bad := fun (x y z : Nat) => decide (16 * x < y + z) && decide (2 * lim < 5 * (y + z))
  if bad r.u r.v r.w then some 0 else if bad r.v r.u r.w then some 1 else if bad r.w r.u r.v then some 2 else none

/-- OPEN_PHASE: the RMS currents of two consecutive electrical periods show a phase open (R388). -/
def execOpenPhase (t a : Nat) (p1 p2 : Rms) (s : State) : Result :=
  let s := s.at t
  .next (match openPhase? (s.ilim a) p1, openPhase? (s.ilim a) p2 with
    | some x, some y =>
      if s.axisIs a && s.fb (MOT_a_STATUS_RUNNING a) && x = y then s.axisTrip a (MOT_a_STATUS_OPEN_PHASE a) kMOT_OPEN_PHASE (a + x * 4) else s
    | _, _ => s)

/-- STALL: slow at the current limit for 500 ms (R390). -/
def execStall (t a : Nat) (s : State) : Result :=
  let s := s.at t
  .next (match (s.axis a).stallAt with
    | some x => if s.axisIs a && x + ms 500 ≤ s.now then s.axisTrip a (MOT_a_STATUS_STALL a) kMOT_STALL a else s
    | none => s)

/-- OVERCURRENT_TRIP: a phase peak above 24 A turns the axis's gates off (R367). -/
def execOvercurrentTrip (t a phase : Nat) (s : State) : Result :=
  let s := s.at t
  .next (if s.axisIs a && (s.axis a).st != .off then s.axisTrip a (MOT_a_STATUS_OVERCURRENT a) kMOT_OVERCURRENT (a + phase % 4 * 4) else s)

/-- GATE_DRIVER_FEEDBACK_FAULT: a switch's feedback is wrong while the axis runs (R395). -/
def execGateDriverFeedbackFault (t a sw : Nat) (s : State) : Result :=
  let s := s.at t
  .next (if s.axisIs a && (s.axis a).st != .off then (s.setF (MOT_a_STATUS_GATE a) 1).raiseMot a kMOT_GATE (a + sw % 8 * 4) else s)

end Sys2Proof.Machine
end

