-- ==== Sys2Proof/Machine/Power.lean ====
section
/-!
DEFINITION. The commands of mains input, rails, energy budget and ride-through (chapter 12).
-/
namespace Sys2Proof.Machine

/-! ### Shared -/

/-- Since when both mains and the DC input have been away (R48). -/
def State.showGone (s : State) : State :=
  { s with sys := { s.sys with mainsGone := if s.fb PWR_SRC_MAINS_PRESENT || s.fb PWR_DC_QUAL then none else some (s.sys.mainsGone.getD s.now) } }

/-- The power block runs: the logic is powered. -/
def State.pwrOn (s : State) : Bool := s.sys.phase == .up || s.sys.phase == .booting

/-- A link voltage in 0.1 V is shown, with the highest one since the last read; above 420 V braking is limited (R366, R392). -/
def State.showLink (s : State) (v : Nat) : State :=
  let s := s.setFields [(PWR_LINK_VOLT, sat 16 v), (PWR_LINK_PEAK, max (s.f PWR_LINK_PEAK) (sat 16 v))]
  [0, 1, 2, 3].foldl (fun s a => if (s.axisRec a).role = 0 then s else s.setFb (MOT_a_STATUS_LINKLIM a) (decide (4200 < v))) s

/-- The DC converter runs or stops (R350). -/
def State.setDc (s : State) (on : Bool) : State :=
  ({ s with pwr := { s.pwr with dcOn := on } }).setFb PWR_SRC_DC_SUPPLYING on

/-- What the store converter does while it neither discharges nor takes braking energy: it charges from the budget below full
while charging is permitted and the PFC stage carries the link (R341, R348, R359). -/
def State.storeIdle (s : State) : State :=
  { s with pwr := { s.pwr with storeMode := b2n (s.pwr.pfcOn && s.storeCan && !s.fb PWR_STORE_CHG_INHIBIT && decide (s.f PWR_STORE_E_J < 2400)) } }

/-- RIDE is entered, or QUAL in the same step with mains already present (R359). -/
def State.enterRide (s : State) : State :=
  if s.fb PWR_SRC_MAINS_PRESENT then ({ s with pwr := { s.pwr with qualFrom := s.now } }).setSrc 3 else s.setSrc 2

/-! ### Mains and the source machine (R343, R359) -/

/-- MAINS_LOST: mains is lost, for a reason 0 no input, 1 low, 2 high, 3 frequency (R43, R343, R359, R365). -/
def execMainsLost (t reason : Nat) (s : State) : Result :=
  let s := s.at t
  .next (if s.pwrOn && s.fb PWR_SRC_MAINS_PRESENT then
      let st := s.f PWR_SRC_STATE
      let s := (s.mainsGone.showGone).raise kPWR_MAINS_LOST reason
      if st = 0 then
        let s := ({ s with pwr := { s.pwr with pfcOn := false, outAt := s.now } }).setSrc 1
        ((s.addF PWR_EVT_RIDES 1).setDc (s.fb PWR_DC_QUAL)).storeIdle.mainsLostState
      else if st = 3 then s.setSrc 2
      else if st = 4 then { s with pwr := { s.pwr with backLost := true } }
      else s
    else s)

/-- MAINS_PRESENT: mains comes within its limits; qualification starts, in RIDE by entering QUAL (R343, R359). -/
def execMainsPresent (t : Nat) (s : State) : Result :=
  let s := s.at t
  .next (if s.pwrOn && !s.fb PWR_SRC_MAINS_PRESENT then
      let s := (({ s with pwr := { s.pwr with mainsAt := some s.now } }).setF PWR_SRC_MAINS_PRESENT 1).showGone
      if s.f PWR_SRC_STATE = 2 then s.enterRide else s
    else s)

/-- MAINS_QUALIFIED: mains has been present for 200 ms, counted from the entry to QUAL in that state, where it starts the
hand-back (R343, R359). -/
def execMainsQualified (t : Nat) (s : State) : Result :=
  let s := s.at t
  .next (match s.pwr.mainsAt with
    | some x =>
      let st := s.f PWR_SRC_STATE
      let since := if st = 3 then max x s.pwr.qualFrom else x
      if s.pwrOn && (st = 0 || st = 3) && !s.fb PWR_SRC_MAINS_QUAL && since + ms 200 ≤ s.now then
        let s := ({ s with pwr := { s.pwr with pfcOn := true } }).setF PWR_SRC_MAINS_QUAL 1
        let s := if st = 3 then ({ s with pwr := { s.pwr with outAt := s.now, backLost := false } }).setSrc 4 else s
        s.storeIdle
      else s
    | none => s)

/-- DC_RAMP_COMPLETE: 20 ms after the entry to OUT the DC converter's ramp is complete, or the wait for it is over (R359). -/
def execDcRampComplete (t : Nat) (s : State) : Result :=
  let s := s.at t
  .next (if s.pwrOn && s.f PWR_SRC_STATE = 1 && s.pwr.outAt + ms 20 ≤ s.now then s.enterRide else s)

/-- HANDBACK_COMPLETE: the ramps of BACK are complete: the PFC stage carries the link again, or, where mains was lost, the
hand-back has been aborted (R43, R359). -/
def execHandbackComplete (t : Nat) (s : State) : Result :=
  let s := s.at t
  .next (if s.pwrOn && s.f PWR_SRC_STATE = 4 && s.pwr.outAt + ms 20 ≤ s.now then
      if s.pwr.backLost then
        let s := (({ s with pwr := { s.pwr with pfcOn := false, backLost := false } }).setDc (s.fb PWR_DC_QUAL)).addF PWR_EVT_ABORTS 1
        (s.raise kPWR_HANDBACK_ABORT (s.f PWR_EVT_ABORTS)).storeIdle.enterRide
      else ((s.setSrc 0).setDc false).storeIdle.handBack.patternEnd
    else s)

/-! ### The link (R341, R363) -/

/-- LINK_OVERVOLTAGE: the link is above 450 V (R16, R341); the voltage is in 0.1 V. -/
def execLinkOvervoltage (t v : Nat) (s : State) : Result :=
  let s := s.at t
  .next (if s.pwrOn then (s.showLink v).raise kPWR_LINK_OV v else s)

/-- LINK_HIGH: the link reaches 430 V, and braking is limited to hold it below (R16, R341, R392). -/
def execLinkHigh (t v : Nat) (s : State) : Result :=
  let s := s.at t
  .next (if s.pwrOn then (s.showLink v).raise kPWR_LINK_HIGH v else s)

/-- LINK_PFC_STOP: the link crosses 410 V (R341, R363). At or above it the PFC stage draws nothing and the store absorbs
energy while it may; below it both end. -/
def execLinkPfcStop (t v : Nat) (s : State) : Result :=
  let s := s.at t
  .next (if s.pwrOn then
      let s := s.showLink v
      if 4100 ≤ v then
        let take := s.storeCan && !s.fb PWR_STORE_CHG_INHIBIT && decide (s.f PWR_STORE_E_J < 2400)
        { s with pwr := { s.pwr with pfcOn := false, storeMode := if take then 2 else 0 } }
      else
        ({ s with pwr := { s.pwr with pfcOn := s.fb PWR_SRC_MAINS_QUAL && (s.f PWR_SRC_STATE = 0 || s.f PWR_SRC_STATE = 4) } }).storeIdle
    else s)

/-- LINK_STORE_DISCHARGE: the link crosses 390 V; at or below it the store discharges into it while its converter can (R341,
R364, R402). -/
def execLinkStoreDischarge (t v : Nat) (s : State) : Result :=
  let s := s.at t
  .next (if s.pwrOn then
      let s := s.showLink v
      if v ≤ 3900 then { s with pwr := { s.pwr with storeMode := if s.storeCan then 3 else 0 } } else s.storeIdle
    else s)

/-- LINK_UNDERVOLTAGE: the link has been below 340 V for 1 ms: the VPP converters and the inverters stop (R341). -/
def execLinkUndervoltage (t v : Nat) (s : State) : Result :=
  let s := s.at t
  .next (if s.pwrOn then
      let s := (s.showLink v).railsOff
      let s := [0, 1, 2, 3].foldl State.axisOff s
      ({ s with pwr := { s.pwr with convStop := true } }).raise kPWR_LINK_UV v
    else s)

/-! ### The broker (R344, R351 to R356, R358, R360 to R362, R404) -/

/-- The measurements are shown (R366); the VPP converters start again once the link is back (R341). -/
def State.showMeas (s : State) (m : BrokerMeas) : State :=
  let s := s.showLink m.link
  let s := s.setFields [(PWR_MAINS_FREQ, sat 16 m.freq), (PWR_MAINS_VRMS, sat 16 m.vrms), (PWR_DRAW_HEAD_W, sat 16 m.headW),
    (PWR_DRAW_LOGIC_W, sat 16 m.logicW), (PWR_DRAW_IN_INPUT_W, sat 16 m.inputW), (PWR_STORE_E_J, sat 12 m.storeJ),
    (PWR_STORE_V_VOLT, sat 16 m.storeV)]
  let s := ((s.setFs PWR_DRAW_IN_MOTOR_W m.motorW).setFs PWR_DC_VOLT m.dcV).setFb PWR_DC_REVERSED (decide (m.dcV < 0))
  let s := m.rails.foldl (fun s (r : RailMeas) =>
    if r.quad < 24 then
      s.setFields [(PWR_q_RAIL_VPP_MV r.quad, if s.fb (PWR_q_RAIL_ON r.quad) then sat 16 r.mv else 0), (PWR_q_RAIL_LIMIT r.quad, b2n r.limited),
        (PWR_q_RAIL_P_AVG_W r.quad, sat 16 r.avgW), (PWR_q_RAIL_P_PEAK_W r.quad, max (s.f (PWR_q_RAIL_P_PEAK_W r.quad)) (sat 16 r.stepW))]
    else s) s
  if s.pwr.convStop && 3400 ≤ m.link then
    let s := { s with pwr := { s.pwr with convStop := false } }
    if s.motorsAllowed then s.startRails else s
  else s

/-- The members of the power group heard in the last 100 ms, this engine among them (R358). -/
def State.groupMembers (s : State) : State :=
  let g := s.pwr.group.filter fun e => s.now < e.2 + ms 100 && e.1 != s.eid
  ({ s with pwr := { s.pwr with group := g } }).setF PWR_GROUP_MEMBERS (if s.f PWR_GROUP_GROUP = 0 then 1 else g.length + 1)

/-- P_avail in W (R351, R358). -/
def State.availW (s : State) : Nat :=
  if s.st = EVENING then (if s.fb PWR_DC_QUAL then min s.budget.rtW 1000 else 0)
  else
    let r := ratedW (s.f PWR_MAINS_VRMS)
    if s.f PWR_GROUP_GROUP = 0 then r else min r (s.f PWR_GROUP_LIMIT * 10 / max 1 (s.f PWR_GROUP_MEMBERS))

/-- The limits of R351 (rounded down, log entry 16). -/
def State.setLimits (s : State) : State :=
  let a := s.availW
  let b := s.budget
  let ph := if s.st = EVENING then b.eveHeadW else min b.headCapW (b.headPm * a / 1000)
  ({ s with pwr := { s.pwr with pAvail := a, pLogic := b.logicPm * a / 1000 } }).setFields
    [(PWR_LIMITS_P_AVAIL_W, sat 16 a), (PWR_LIMITS_P_H_W, sat 16 ph), (PWR_MOTOR_P_M_W, sat 16 (min b.motorCapW (b.motorPm * a / 1000)))]

/-- The motor allowance, shared among the axes that are not off by their PWR_W (R352, R391; rounded down, log entry 16). -/
def State.setAllowance (s : State) : State :=
  let heads : Nat := if s.openDocs.isEmpty then s.f PWR_DRAW_HEAD_W else ((List.range 24).map fun q => s.f (PWR_q_PLAN_PLAN_W q)).sum
  let am := min (s.f PWR_MOTOR_P_M_W) (s.pwr.pAvail - s.pwr.pLogic - heads)
  let on := [0, 1, 2, 3].filter fun a => (s.axis a).st != .off
  let sum := max 1 (on.map fun a => (s.axisRec a).pwrW).sum
  [0, 1, 2, 3].foldl (fun s a =>
    let w := (s.axisRec a).pwrW
    s.setF (MOT_a_SHARE_SHARE_W a) (if on.contains a then sat 16 (min w (am * w / sum)) else 0)) (s.setF PWR_MOTOR_ALLOW_W (sat 16 am))

/-- The fire lines an open document has left on its slowest tile, counted to its planned end while its end is open, and its
lines in all (R360). -/
def State.docLines (s : State) (w : Nat) (d : Doc) : Nat × Nat :=
  let total := d.lines * ((s.partTiles w).map fun n => match s.tileRec? n with
    | some r => s.passes r
    | none => 1).foldl max 1
  let d' := if d.jEnd.isSome then d else { d with jEnd := some ((d.lines : Int) - 89) }
  (min total ((s.linesLeft? w d').getD 0), total)

/-- E_need in µJ (R360). -/
def State.needUj (s : State) : Nat :=
  let ls := s.openDocs.map fun e => (e.2, s.docLines e.1 e.2)
  let heads := (ls.map fun e => e.1.energyPj * e.2.1 / (max 1 e.2.2 * 10 ^ 6)).sum
  let most := (ls.map fun e => e.2.1).foldl max 0
  let over_ : Int := s.f PWR_DRAW_LOGIC_W + s.fs PWR_DRAW_IN_MOTOR_W - s.pwr.pAvail
  heads + (max 0 over_).toNat * most * 10 ^ 6 / s.planRate

/-- The reserve checks of a broker step; `was` is the store's energy before it (R360 to R362, R404). -/
def State.reserveChecks (s : State) (was : Nat) : State :=
  let e := if s.pwr.storeStop then 0 else s.f PWR_STORE_E_J
  let dusk := s.f PWR_STORE_DUSK_J
  if s.st = EVENING then
    let s := { s with pwr := { s.pwr with eNeed := s.needUj } }
    if decide (((e : Int) - dusk) * 10 ^ 6 ≤ s.pwr.eNeed) then s.enterDusk 0x0A false else s
  else
    let s := { s with pwr := { s.pwr with eNeed := 0 } }
    if s.st = DUSK && !s.fb PWR_SRC_MAINS_PRESENT && s.f PWR_STORE_E_J ≤ dusk then s.stopDocs
    else if s.st = NOON && s.fb PWR_SRC_MAINS_PRESENT && s.f PWR_STORE_E_J ≤ dusk && dusk < was then s.raise kPWR_RESERVE (s.f PWR_STORE_E_J)
    else s

/-- BROKER_UPDATE: the broker's 1 ms step (R344, R351 to R356, R360 to R362). -/
def execBrokerUpdate (t : Nat) (m : BrokerMeas) (s : State) : Result :=
  let s := s.at t
  .next (if s.pwrOn then
      let was := s.f PWR_STORE_E_J
      let old := s.pwr.pAvail
      let s := (s.showMeas m).groupMembers.setLimits.setAllowance
      let s := if s.pwr.acctSet then s.setAcct (min s.acctCap (s.pwr.acctUj + s.f PWR_LIMITS_P_H_W * 1000)) else s
      let s := (if s.pwr.storeMode ≤ 1 then s.storeIdle else s).updHoldup.reserveChecks was
      if old < s.pwr.pAvail || s.st = EVENING then
        (List.range 16).foldl (fun s w => if (s.win w).holdOver then s.admitDoc w else s) s
      else s
    else s)

/-! ### Rails (R345 to R347) -/

/-- RAIL_LIMIT: a quad rail goes beyond its power limits and limits its current (R346). -/
def execRailLimit (t q : Nat) (s : State) : Result :=
  let s := s.at t
  .next (if q < 24 && s.fb (PWR_q_RAIL_ON q) then (s.setF (PWR_q_RAIL_LIMIT q) 1).raise kPWR_RAIL_LIMIT q else s)

/-- RAIL_UNDERVOLTAGE: a quad rail has been below 80 % of its setpoint for 1 ms (R346). -/
def execRailUndervoltage (t q : Nat) (s : State) : Result :=
  let s := s.at t
  .next (if q < 24 && s.fb (PWR_q_RAIL_ON q) then (s.setF (PWR_q_RAIL_UV q) 1).raise kPWR_RAIL_UV q else s)

/-- RAIL_SHORT: a quad rail that is on has been below 2 V for 100 µs: it is off until the next Dawn, and its four tiles fail
with CAUSE 0x4 (R330, R346). -/
def execRailShort (t q : Nat) (s : State) : Result :=
  let s := s.at t
  .next (if q < 24 && s.fb (PWR_q_RAIL_ON q) then
      let s := (s.setFields [(PWR_q_RAIL_ON q, 0), (PWR_q_RAIL_VPP_MV q, 0), (PWR_q_RAIL_LIMIT q, 0), (PWR_q_RAIL_SHORT q, 1)]).modRail q fun _ => {}
      ((quadTiles q).foldl (fun s n => s.failTile n 4) s).raise kPWR_RAIL_SHORT q
    else s)

/-- RAIL_RAMP_COMPLETE: a quad rail has reached its setpoint, so its tiles' fuses close in turn, or 0 V, so it is off (R327,
R345). -/
def execRailRampComplete (t q : Nat) (s : State) : Result :=
  let s := s.at t
  .next (if q < 24 && (s.rail q).ramping then
      let mv := (s.rail q).target
      if mv = 0 then (s.setFields [(PWR_q_RAIL_ON q, 0), (PWR_q_RAIL_VPP_MV q, 0)]).modRail q fun _ => {}
      else (s.setF (PWR_q_RAIL_VPP_MV q) mv).modRail q fun r => { r with ramping := false, nextSlot := some 0, fuseDue := s.now }
    else s)

/-- LOGIC_OVERDRAW: the logic draws more than 340 W on average over 100 ms (R347). -/
def execLogicOverdraw (t w : Nat) (s : State) : Result :=
  let s := s.at t
  .next (if s.pwrOn then s.raise kPWR_LOGIC_OVER w else s)

/-! ### The store and the DC input (R348, R350, R359, R364) -/

/-- STORE_OVERVOLTAGE: the store is above 94.0 V (R348); the voltage is in 10 mV. -/
def execStoreOvervoltage (t v : Nat) (s : State) : Result :=
  let s := s.at t
  .next (if s.pwrOn then (s.setF PWR_STORE_V_VOLT (sat 16 v)).raise kPWR_STORE_OV v else s)

/-- DC_INPUT_QUALIFIED: the DC input has lain within 40–60 V for 100 ms; while the store carries the link it ramps in (R350,
R359, R364). -/
def execDcInputQualified (t : Nat) (s : State) : Result :=
  let s := s.at t
  .next (if s.pwrOn then
      let s := (s.setFields [(PWR_DC_QUAL, 1), (PWR_DC_REVERSED, 0)]).showGone
      let st := s.f PWR_SRC_STATE
      if st = 1 || st = 2 || st = 3 then s.setDc true else s
    else s)

/-- DC_INPUT_RANGE: the DC input has been below 38 V or above 63 V for 1 ms (R350); the voltage is in 10 mV. -/
def execDcInputRange (t : Nat) (v : Int) (s : State) : Result :=
  let s := s.at t
  .next (if s.pwrOn then
      let s := ((s.setFields [(PWR_DC_QUAL, 0), (PWR_DC_RANGE, 1)]).setFs PWR_DC_VOLT v).setDc false
      s.showGone.raise kPWR_DC_RANGE (wrap 32 v)
    else s)

/-- DC_INPUT_REVERSED: the DC input is reversed, and is not used until it has held correct polarity for 100 ms (R350). -/
def execDcInputReversed (t : Nat) (v : Int) (s : State) : Result :=
  let s := s.at t
  .next (if s.pwrOn then
      let s := ((s.setFields [(PWR_DC_QUAL, 0), (PWR_DC_REVERSED, 1), (PWR_DC_REV_SEEN, 1)]).setFs PWR_DC_VOLT v).setDc false
      s.showGone.raise kPWR_DC_REVERSED (wrap 32 v)
    else s)

/-! ### Power groups (R357, R358) -/

/-- BUDGET_SEND: every 10 ms a member of a power group sends its limit and draws (R357). -/
def execBudgetSend (t : Nat) (s : State) : Result :=
  let s := s.at t
  .next (if s.powered && s.f PWR_GROUP_GROUP != 0 && s.pwr.budgetDue ≤ s.now then
      let draw : Int := s.f PWR_DRAW_HEAD_W + s.f PWR_DRAW_LOGIC_W + s.fs PWR_DRAW_IN_MOTOR_W
      let s := { s with pwr := { s.pwr with budgetDue := s.now + ms 10 } }
      s.sendUrg { type := 0x31, vc := 2, src := 0, bcast := true, len := 16,
                  payload := [s.f PWR_GROUP_GROUP, b2n (s.st == EVENING)] ++ toLe 2 (s.f PWR_GROUP_LIMIT) ++
                    toLe 2 (clamp 0 65535 draw).toNat ++ toLe 2 (s.f PWR_LIMITS_P_AVAIL_W) ++ [0, 0, 0, 0, 0, 0, 0, 0] }
    else s)

/-- BUDGET: a BUDGET packet of the own power group counts towards its members (R357, R358). -/
def execBudget (t port : Nat) (p : RingPkt) (s : State) : Result :=
  let s := s.at t
  .next (if p.type != 0x31 then s
    else s.packetIn port p fun s =>
      if s.f PWR_GROUP_GROUP != 0 && byteAt p.payload 0 = s.f PWR_GROUP_GROUP then
        let s := { s with pwr := { s.pwr with group := insertKey p.src s.now s.pwr.group } }
        if leAt p.payload 2 2 != s.f PWR_GROUP_LIMIT then s.raise kPWR_GROUP_MISMATCH p.src else s
      else s)

end Sys2Proof.Machine
end

