-- ==== Sys2Proof/Machine/Ring.lean ====
section
/-!
DEFINITION. The commands of chapter 10: joining, requests and responses, link failures and restores, and joined reports.
-/
namespace Sys2Proof.Machine

/-! ### Identity and joining (R300 to R302) -/

/-- A write of RING_CTRL (R300, R302): the JOIN token carries the next position in ADDR (log entry 35). -/
def State.writeRingCtrl (s : State) (v : Nat) : State :=
  let s := s.setF RING_CTRL_RING_ID (bits v 9 0)
  if !bit v 31 || s.fb RING_STATUS_POS_VALID || s.fb RING_STATUS_PASS_ONLY then s
  else
    let eid := bits v 9 0 * 64
    let s := s.setFields [(RING_STATUS_POS_VALID, 1), (RING_STATUS_EID, eid), (RING_STATUS_ENGINES, 1)]
    ({ s with ring := { s.ring with joinDue := some (s.now + ms 10) } }).sendJoin { type := 0x30, vc := 2, src := eid, bcast := true, addr := 1 }

/-- ENUM: a write of RING_CTRL with ENUM = 1. -/
def execEnum (t : Nat) (v : Word) (s : State) : Result :=
  .next ((s.at t).onWrite rRING_CTRL fun s => if bit v.toNat 31 then s.writeRingCtrl v.toNat else s)

/-- A JOIN token arrives (R300 to R302). -/
def State.joinToken (s : State) (port : Nat) (p : RingPkt) : State :=
  if s.fb RING_STATUS_POS_VALID then
    if p.src = s.eid then
      if port = 1 && s.ring.joinDue.isSome then
        ({ s with ring := { s.ring with joinDue := none } }).setFields [(RING_STATUS_CLOSED, 1), (RING_STATUS_ENGINES, min 64 p.addr)]
      else s
    else if p.src / 64 != s.eid / 64 then s.raise kRING_JOIN_REFUSED (p.src / 64)
    else s
  else if s.fb RING_STATUS_PASS_ONLY then s.urgOut 0 p
  else if 63 < p.addr then ((s.setF RING_STATUS_PASS_ONLY 1).raise kRING_JOIN_REFUSED (p.src / 64)).urgOut 0 p
  else
    let s := s.setFields [(RING_STATUS_POS_VALID, 1), (RING_STATUS_EID, p.src / 64 * 64 + p.addr), (RING_STATUS_ENGINES, p.addr + 1),
      (RING_CTRL_RING_ID, p.src / 64)]
    s.urgOut 0 { p with addr := p.addr + 1 }

/-- JOIN: a JOIN token arrives at a port. -/
def execJoin (t port : Nat) (p : RingPkt) (s : State) : Result :=
  let s := s.at t
  .next (if p.type = 0x30 && s.powered && s.portUp port then s.joinToken port p else s)

/-- JOIN_TIMEOUT: the token has not returned within 10 ms, and the ring is a line (R300). -/
def execJoinTimeout (t : Nat) (s : State) : Result :=
  let s := s.at t
  .next (match s.ring.joinDue with
    | some d => if d ≤ s.now then { s with ring := { s.ring with joinDue := none } } else s
    | none => s)

/-! ### Requests (R297, R303, R306, R311) -/

/-- FS_RD: a read of this engine's form store by another (R297). -/
def execFsRd (t port : Nat) (p : RingPkt) (s : State) : Result :=
  .next ((s.at t).reqIn port 3 p 0x10 fun s =>
    if 256 < p.len || decide (2 ^ 36 < p.addr + p.len) then s.sendRsp p 0x10 1 []
    else (s.countForm p.addr p.len).sendRsp p 0x10 0 (s.formBytes p.addr p.len))

/-- FS_WR: a write to this engine's form store by another (R297). -/
def execFsWr (t port : Nat) (p : RingPkt) (s : State) : Result :=
  .next ((s.at t).reqIn port 4 p 0x11 fun s =>
    if 256 < p.payload.length || decide (2 ^ 36 < p.addr + p.payload.length) then s.sendRsp p 0x11 1 []
    else ((s.putForm p.addr p.payload).countForm p.addr p.payload.length).sendRsp p 0x11 0 [])

/-- HOST_RD: position 0 reads host memory for another engine, within its read limit (R306). -/
def execHostRd (t port : Nat) (p : RingPkt) (s : State) : Result :=
  .next ((s.at t).reqIn port 5 p 0x10 fun s =>
    if s.eid % 64 != 0 then s.sendRsp p 0x10 1 []
    else ({ s with ring := { s.ring with hostQ := s.ring.hostQ ++ [(p.src, p.rtag, p.addr, p.len)] } }).pumpMembers 1)

/-- HOST_WR: position 0 writes host memory, or signals a vector's message, for another engine (R306). -/
def execHostWr (t port : Nat) (p : RingPkt) (s : State) : Result :=
  .next ((s.at t).reqIn port 6 p 0x11 fun s =>
    if s.eid % 64 != 0 then s.sendRsp p 0x11 1 []
    else (s.emit (.hostWrite p.addr p.payload)).sendRsp p 0x11 0 [])

/-- DOC_REPORT: a member's report of a document's end reaches position 0 (R311, R312). -/
def execDocReport (t port : Nat) (p : RingPkt) (s : State) : Result :=
  .next ((s.at t).reqIn port 7 p 0x11 fun s =>
    if s.eid % 64 != 0 || p.payload.length != 32 then s.sendRsp p 0x11 1 []
    else
      let b := p.payload
      (s.sendRsp p 0x11 0 []).addReport (byteAt b 7 % 16) (leAt b 0 4) (leAt b 4 2) p.src (byteAt b 6) (leAt b 12 4) (leAt b 24 2) none)

/-! ### Responses (R281, R305) -/

/-- DATA: read data for an outstanding request. -/
def execData (t port : Nat) (p : RingPkt) (s : State) : Result :=
  .next ((s.at t).rspIn port 0x10 p fun s r =>
    match r.kind with
    | .bar2 => s.emit (.barData 0 p.payload)
    | .chunkRead => s.deliver r.stream r.side r.off p.payload
    | .hostRead =>
      match r.side with
      | 2 => if (s.stream r.stream).fetching then s.gotDescriptors r.stream p.payload else s
      | 3 => s.modExec r.stream fun x => { x with acked := true }
      | _ => s.deliver r.stream r.side r.off p.payload
    | _ => s)

/-- ACK: a write request is done at its target. -/
def execAck (t port : Nat) (p : RingPkt) (s : State) : Result :=
  .next ((s.at t).rspIn port 0x11 p fun s r =>
    match r.kind with
    | .chunkWrite => if s.execIndex r.stream = r.hostTag then s.modExec r.stream fun x => { x with acks := x.acks - 1 } else s
    | _ => s)

/-- RING_REQ_TIMEOUT: a REQ without an RSP after 48 µs fails; a DOC_REPORT is sent again up to eight times (R305). -/
def execRingReqTimeout (t rtag : Nat) (s : State) : Result :=
  let s := s.at t
  .next (match s.ring.reqs.find? fun r => r.rtag == rtag && decide (r.due ≤ s.now) with
    | some r =>
      let s := { s with ring := { s.ring with reqs := s.ring.reqs.filter fun x => x.rtag != rtag } }
      if r.kind = .docReport && r.tries < 8 then s.sendReq r.pkt { r with tries := r.tries + 1 } else s.reqFail r 5
    | none => s)

/-- RING_JOIN_TMO: reports of a window's document are still missing TMO_MS after the first (R312). -/
def execRingJoinTmo (t w : Nat) (s : State) : Result :=
  let s := s.at t
  .next (match s.ring.reports.find? fun j => j.win == w && decide (j.first + ms (max 1 (s.f RING_JOIN_CFG_TMO_MS)) ≤ s.now) with
    | some j => (({ s with ring := { s.ring with reports := s.ring.reports.erase j } }).writeJoin j).raise kRING_JOIN_TMO w
    | none => s)

/-! ### Links (R295, R302, R307 to R310, R313) -/

/-- WRAP: another engine reports a break, or its mending (R308). -/
def execWrap (t port : Nat) (p : RingPkt) (s : State) : Result :=
  .next (if p.type != 0x23 then s.at t
    else (s.at t).packetIn port p fun s => s.setBreak (byteAt p.payload 0 % 64) (bit (byteAt p.payload 1) 0))

/-- RING_FRAME_RETRY: a frame is sent again for the `k`-th time, from the first on, or, with `k` = 0, a frame received has failed its CRC (R37,
R315). -/
def execRingFrameRetry (t port k : Nat) (s : State) : Result :=
  let s := s.at t
  .next (if 4 ≤ port || 8 < k || !s.powered || (1 < k && k != (tget {} s.ring.ports port).retries + 1) then s
    else if k = 0 then s.addF (RING_PORT_p_CNT_CRC port) 1
    else ((s.addF (RING_PORT_p_CNT_RETRY port) 1).count 0x12 port 1).modRingPort port fun x => { x with retries := k })

/-- RING_LINK_FAILURE: a link is declared failed; a ring port's traffic loops into the other ring port, and WRAP is sent
(R307, R308). A bridge link is not wrapped (R313). -/
def execRingLinkFailure (t port : Nat) (s : State) : Result :=
  let s := s.at t
  .next (if 4 ≤ port || !s.powered || !s.fb (RING_PORT_p_STATUS_UP port) || s.fb (RING_PORT_p_STATUS_FAILED port) then s
    else
      let s := (s.setFields [(RING_PORT_p_STATUS_UP port, 0), (RING_PORT_p_STATUS_FAILED port, 1)]).modRingPort port fun _ => {}
      if 2 ≤ port then s
      else
        let s := s.setF (RING_PORT_p_STATUS_LOOP port) 1
        if !s.fb RING_STATUS_POS_VALID then s
        else
          let w := s.breakAt port
          ((s.setBreak w true).sendWrap w true).raise kRING_WRAP (port + s.eid % 64 * 4))

/-- An engine without a position whose two ring links retrain takes the position vacant between its neighbours, or passes
traffic only (R302). -/
def State.rejoin (s : State) (west east : Nat) : State :=
  if east = west + 1 || west / 64 != east / 64 || west % 64 = 63 then s.setF RING_STATUS_PASS_ONLY 1
  else s.setFields [(RING_STATUS_POS_VALID, 1), (RING_STATUS_EID, west + 1), (RING_STATUS_ENGINES, max (west % 64 + 2) (east % 64 + 1)),
    (RING_CTRL_RING_ID, west / 64)]

/-- RING_LINK_TRAINED: a link completes training with the engine named at its far end, if that holds a position (R295). -/
def execRingLinkTrained (t port : Nat) (far : Option Nat) (s : State) : Result :=
  let s := s.at t
  .next (if 4 ≤ port || !s.powered then s
    else
      let eid := far.getD 0
      let s := s.setFields [(RING_PORT_p_STATUS_FAR_RING port, eid / 64), (RING_PORT_p_STATUS_FAR_EID port, eid)]
      if 2 ≤ port && far.isSome && s.fb RING_STATUS_POS_VALID && eid / 64 = s.eid / 64 then
        (s.setF (RING_PORT_p_STATUS_UP port) 0).raise kRING_BRIDGE_REFUSED (port + eid / 64 * 4)
      else
        let s := (s.setF (RING_PORT_p_STATUS_UP port) 1).modRingPort port fun x => { x with retries := 0, healthyAt := some s.now, far := far }
        match (tget {} s.ring.ports 1).far, (tget {} s.ring.ports 0).far with
        | some w, some e =>
          if port < 2 && s.portUp 0 && s.portUp 1 && !s.fb RING_STATUS_POS_VALID && !s.fb RING_STATUS_PASS_ONLY then s.rejoin w e else s
        | _, _ => s)

/-- RING_LINK_RESTORE: a failed link has stayed healthy for 100 ms; a drain marker goes along the loopback path (R307,
R310). A bridge link is used again at once. -/
def execRingLinkRestore (t port : Nat) (s : State) : Result :=
  let s := s.at t
  .next (match (tget {} s.ring.ports port).healthyAt with
    | some h =>
      if 4 ≤ port || !s.fb (RING_PORT_p_STATUS_FAILED port) || !s.fb (RING_PORT_p_STATUS_UP port) || decide (s.now < h + ms 100) then s
      else if 2 ≤ port then s.setF (RING_PORT_p_STATUS_FAILED port) 0
      else (s.modRingPort port fun x => { x with draining := true }).emit (.drain (1 - port))
    | none => s)

/-- DRAIN_MARKER_RETURN: the marker has come back; the direct path resumes, and the break is mended (R310). -/
def execDrainMarkerReturn (t port : Nat) (s : State) : Result :=
  let s := s.at t
  .next (if (tget {} s.ring.ports port).draining then
      let w := s.breakAt port
      let s := (s.modRingPort port fun x => { x with draining := false }).setFields [(RING_PORT_p_STATUS_FAILED port, 0), (RING_PORT_p_STATUS_LOOP port, 0)]
      (s.setBreak w false).sendWrap w false
    else s)

end Sys2Proof.Machine
end

