-- ==== Sys2Proof/Machine/Thermal.lean ====
section
/-!
DEFINITION. The commands of temperature sensing and thermal protection (chapter 14).
-/
namespace Sys2Proof.Machine

/-! ### Requests and actions (R401, R402, R406, R408) -/

/-- A sensor requests Dusk (R406). In a Dusk already under way its request brings the finish test, and of two sensors the one
with the smaller t_p decides (R408). -/
def State.reqDusk (s : State) (n : Nat) : State :=
  let s := s.setFields [(THM_STATUS_DUSK_REQ, 1), (THM_STATUS_LAST_SRC, n)]
  if s.st = DUSK && !s.openDocs.isEmpty then
    let first := match s.thm.duskSensor with
      | some m => s.sys.duskThermal && sooner (s.timeToTrip? m) (s.timeToTrip? n) == s.timeToTrip? m
      | none => false
    ({ s with sys := { s.sys with duskThermal := true }, thm := { s.thm with duskSensor := if first then s.thm.duskSensor else some n } }).finishTest
  else s.thermalDusk (some n)

/-- The action of a class when its rate limit is exceeded (R401). -/
def State.rateAction (s : State) (n act : Nat) : State :=
  if act = 0 then s
  else if act = 1 then
    (List.range 16).foldl (fun s w => if !(s.winTiles w).isEmpty && s.concerns n w then s.modWin w fun x => { x with ratePend := true } else s) s
  else if act = 3 && n < 96 then s.failTile n 4
  else s.reqDusk n

/-- The trip action and the message of a sensor at its trip level (R402, R409). -/
def State.tripAction (s : State) (n : Nat) (x : Int) : State :=
  match sensorClass n with
  | 0 => (s.failTile n 4).raise kTHM_TILE_OT n
  | 3 => ((s.raise kTHM_COOL_OT n).reqDusk n).stopDocs
  | 4 =>
    let s := { s with pwr := { s.pwr with storeStop := true, storeMode := 0 }, thm := { s.thm with coolAt := none } }
    s.updHoldup.raise kTHM_STORE_OT n
  | _ => s.raise kTHM_DIE_OT (n + wrap 16 x * 2 ^ 16)

/-! ### A sample (R397 to R402, R407) -/

/-- The corrected reading of an oscillator of a lane die in 0.1 °C (R399, R410). -/
def State.roTemp (s : State) (d k : Nat) : Int :=
  tget (0 : Int) s.thm.roRaw (d * 64 + k) + tget (0 : Int) s.thm.roRel (d * 64 + k) + tget (0 : Int) s.thm.roOfs d

/-- The hottest of some readings. -/
def hottest : List Int → Option Int
  | [] => none
  | x :: r => match hottest r with
    | some y => some (max x y)
    | none => some x

/-- A tile's temperature in 0.1 °C from its TSR in mΩ: θ = (R / 1,000 Ω − 1) / 0.003850 °C (R397; rounded down, log entry
16), none outside 500 Ω to 20 kΩ (R330, R398). -/
def tsrTemp (r : Int) : Option Int := if 500000 ≤ r ∧ r ≤ 20000000 then some (clamp (-32768) 32767 ((r - 1000000) / 385)) else none

/-- A diode's reading, none outside −50 to 175 °C (R398). -/
def diodeTemp (x : Int) : Option Int := if -500 ≤ x ∧ x ≤ 1750 then some x else none

/-- The rate of a sensor in 0.1 °C/s (R401): against the reading W ms earlier, and 0 while there is none (log entry 49). -/
def rateOf (hist : List (Nat × Int)) (now w : Nat) (x : Int) : Int :=
  match hist.find? fun e => decide (e.1 + ms w ≤ now) with
  | some e => clamp (-32768) 32767 ((x - e.2) * 1000 / w)
  | none => 0

/-- The readings of a sensor with a new one, kept for the 255 ms that a window may need. -/
def keepHist (hist : List (Nat × Int)) (now : Nat) (x : Int) : List (Nat × Int) :=
  let recent := hist.filter fun e => decide (now < e.1 + ms 255)
  (now, x) :: recent ++ (hist.drop recent.length).take 1

/-- The rate check (R401). -/
def State.checkRate (s : State) (n : Nat) (x : Int) : State :=
  let c := sensorClass n
  let w := max 1 (s.f (THM_RATE_c_WINDOW_MS c))
  let lim := s.f (THM_RATE_c_LIMIT c)
  let hist := keepHist (s.sensor n).hist s.now x
  let r := rateOf hist s.now w x
  let s := (s.setFs (THM_n_RATE_RATE n) r).setFs (THM_n_RATE_PEAK n) (max r (s.fs (THM_n_RATE_PEAK n)))
  let hot := lim != 0 && decide ((lim : Int) < r)
  let calm := if hot then none else some ((s.sensor n).calmAt.getD s.now)
  let still := match calm with
    | some t => decide (s.now < t + sec 1)
    | none => true
  let run := if hot then (s.sensor n).overRun + 1 else 0
  let s := s.modSensor n fun y => { y with hist := hist, overRun := run, calmAt := calm, acted := y.acted && still }
  if 3 ≤ run && !(s.sensor n).acted then
    ((s.modSensor n fun y => { y with acted := true }).raise kTHM_RATE (n + c * 128)).rateAction n (s.f (THM_RATE_c_ACTION c))
  else s

/-- The fixed levels (R402); a trip to HALT outranks the Dusk request of its sample (R408). -/
def State.checkLevels (s : State) (n : Nat) (x : Int) : State :=
  let dusk := decide (s.duskLevel n ≤ x)
  let trip := decide (s.tripLevel n ≤ x)
  let y := s.sensor n
  let s := s.modSensor n fun y => { y with dusk := dusk, trip := trip }
  let s := if trip && !y.trip then s.tripAction n x else s
  let s := if dusk && !y.dusk then s.raise kTHM_DUSK_LEVEL n else s
  if dusk && !(trip && (sensorClass n = 1 || sensorClass n = 2)) then s.reqDusk n else s

/-- The sampling rate in use (R400). -/
def State.checkFast (s : State) (n : Nat) (x : Int) : State :=
  let lim := s.f (THM_RATE_c_LIMIT (sensorClass n))
  let near := decide (s.duskLevel n - 100 ≤ x ∧ x ≤ s.duskLevel n + 100)
  let hold := near || (lim != 0 && decide ((lim : Int) < 2 * s.fs (THM_n_RATE_RATE n)))
  if hold then (s.setF (THM_n_TEMP_FAST n) 1).modSensor n fun y => { y with slowAt := none }
  else
    let t0 := (s.sensor n).slowAt.getD s.now
    let s := s.modSensor n fun y => { y with slowAt := some t0 }
    if t0 + ms 100 ≤ s.now then s.setF (THM_n_TEMP_FAST n) 0 else s

/-- The interlocks that a reading of the hub die or of the store moves (R403, R407). -/
def State.interlocks (s : State) (n : Nat) : State :=
  if n = 96 then s.setFb THM_STATUS_NV_INHIBIT (!s.nvOk)
  else if n = 102 then
    let t := s.temp? 102
    let within := fun (lo hi : Int) => match t with
      | some x => decide (lo ≤ x ∧ x ≤ hi)
      | none => false
    let cool := match t with
      | some x => decide (x < 650)
      | none => false
    let s := { s with thm := { s.thm with chgAt := if within (-80) 580 then some (s.thm.chgAt.getD s.now) else none,
                                          coolAt := if cool then some (s.thm.coolAt.getD s.now) else none } }
    if within (-100) 600 then s
    else { s with pwr := { s.pwr with storeMode := if s.pwr.storeMode = 3 then 3 else 0 } }.setF PWR_STORE_CHG_INHIBIT 1
  else s

/-- An invalid reading (R175, R330, R398): what it brings is reported when the readings become invalid. -/
def State.badReading (s : State) (n : Nat) : State :=
  let was := (s.sensor n).bad
  let s := (s.setF (THM_n_TEMP_VALID n) 0).modSensor n fun y => { y with bad := true, hist := [], overRun := 0, calmAt := none, slowAt := none }
  if was then s
  else if n < 96 then (if s.f (TILE_n_STATUS_DETECT n) = 1 then s.raiseLane (tileDie n) kTILE_TSR_OPEN n else s)
  else s.raise kTHM_SENSOR n

/-- THERMAL_SAMPLE: sensor `n` is sampled: the TSR in mΩ for a tile, the diode in 0.1 °C for the others, and the uncorrected
oscillators of a lane die in 0.1 °C (R397 to R402, R407). -/
def execThermalSample (t n : Nat) (x : Int) (ro : List Int) (s : State) : Result :=
  let s := s.at t
  .next (if 103 ≤ n || !s.powered then s
    else
      let lane := decide (97 ≤ n) && decide (n < 101)
      let s := if lane then
          { s with thm := { s.thm with roRaw := (List.range 64).foldl (fun m k => tupd (0 : Int) ((n - 97) * 64 + k) (fun o => ro.getD k o) m) s.thm.roRaw } }
        else s
      let raw := if n < 96 then tsrTemp x else diodeTemp x
      let ros := if lane && !ro.isEmpty then (List.range 64).map fun k => s.roTemp (n - 97) k else []
      let s := match raw with
        | some v =>
          let v := (hottest (v :: ros)).getD v
          let s := ((s.setFs (THM_n_TEMP_TEMP n) v).setF (THM_n_TEMP_VALID n) 1).modSensor n fun y => { y with bad := false }
          (((s.checkRate n v).checkLevels n v).checkFast n v).interlocks n
        | none =>
          let s := (s.badReading n).interlocks n
          match hottest ros with
          | some v => s.checkLevels n v
          | none => s
      if n < 96 then s.takeBin n else s)

/-- OSCILLATOR_RECALIBRATION: two diode readings of a lane die, 10 µs apart, set its common offset or disagree (R399). -/
def execOscillatorRecalibration (t d : Nat) (a b : Int) (s : State) : Result :=
  let s := s.at t
  .next (if 4 ≤ d || !s.powered || (match lookup? s.thm.recalAt d with
      | some x => decide (s.now < x + ms 1)
      | none => false) || (diodeTemp a).isNone || (diodeTemp b).isNone then s
    else
      let s := { s with thm := { s.thm with recalAt := insertKey d s.now s.thm.recalAt } }
      if (a - b).natAbs ≤ 5 then
        let o := (a + b) / 2 - (tget (0 : Int) s.thm.roRaw (d * 64) + tget (0 : Int) s.thm.roRel (d * 64))
        ({ s with thm := { s.thm with roOfs := tupd (0 : Int) d (fun _ => o) s.thm.roOfs } }).incF THM_RECAL_COUNT 1
      else (s.addF THM_RECAL_DISAGREE 1).raise kTHM_RECAL d)

/-! ### Pauses and shutdown (R405, R406) -/

/-- The sensor behind a window's pauses: of those that concern it, the one with the smallest t_p (R405, R408). -/
def State.holdSensor (s : State) (w : Nat) : Option Nat :=
  ((List.range 103).foldl (fun (b : Option Nat × Option (Int × Nat)) n =>
    if s.concerns n w && (s.timeToTrip? n).isSome && sooner b.2 (s.timeToTrip? n) != b.2 then (some n, s.timeToTrip? n) else b) (none, none)).1

/-- THERMAL_PAUSE_STEP_END: a pause step of a window's gap ends; the test is repeated, and after MAX_STEPS steps Dusk is
requested (R405). -/
def execThermalPauseStepEnd (t w : Nat) (s : State) : Result :=
  let s := s.at t
  .next (match (s.win w).thmTo with
    | some x =>
      if s.now < x then s
      else
        let s := (s.modWin w fun x => { x with thmTo := none }).showPausing
        if (s.win w).doc.isSome || !s.thermalHold w then s
        else if (s.win w).thmSteps < s.maxSteps then s.thermalStep w
        else
          let n := s.holdSensor w
          let s := s.setFields [(THM_STATUS_DUSK_REQ, 1), (THM_STATUS_LAST_SRC, n.getD 0)]
          (s.raise kTHM_PAUSE_LIMIT (n.getD 0 + w * 128)).thermalDusk n
    | none => s)

/-- DUSK_FINISH_RECHECK: every 1 ms of a thermal Dusk the finish test is repeated (R406). -/
def execDuskFinishRecheck (t : Nat) (s : State) : Result :=
  let s := s.at t
  .next (if s.st = DUSK && s.sys.duskThermal then s.finishTest else s)

/-! ### The store (R403, R407) -/

/-- STORE_CONVERTER_RESUME: the store has read below 65.0 °C for 10 s: discharge resumes (R403). -/
def execStoreConverterResume (t : Nat) (s : State) : Result :=
  let s := s.at t
  .next (match s.thm.coolAt with
    | some x => if s.pwr.storeStop && x + sec 10 ≤ s.now then { s with pwr := { s.pwr with storeStop := false } }.updHoldup else s
    | none => s)

/-- STORE_CHARGING_RESUME: the store has lain at least 2 °C inside its charging range for 10 s (R407). -/
def execStoreChargingResume (t : Nat) (s : State) : Result :=
  let s := s.at t
  .next (match s.thm.chgAt with
    | some x => if s.fb PWR_STORE_CHG_INHIBIT && x + sec 10 ≤ s.now then s.setF PWR_STORE_CHG_INHIBIT 0 else s
    | none => s)

end Sys2Proof.Machine
end

