-- ==== Sys2Proof/Machine/Tile.lean ====
section
/-!
DEFINITION. The commands of the tile ports and head memory (chapter 11).
-/
namespace Sys2Proof.Machine

/-! ### Telemetry and training (R202, R323, R324, R326, R328, R330) -/

/-- A valid report's VPP joins the last 8 µs (R179, R324); one that says it is unavailable, or none, ends the run of valid
ones. -/
def State.takeVpp (s : State) (n vpp : Nat) : State :=
  if vpp = 0xFFFF then s.modTh n fun h => { h with validRun := 0 }
  else
    let s := (s.setF (TILE_n_TELEM_VPP_MV n) vpp).modTh n fun h => { h with validRun := h.validRun + 1 }
    s.modPort n fun p => { p with vpp := (p.vpp.filter fun e => s.now < e.1 + us 8) ++ [(s.now, vpp)] }

/-- An untrained tile has sent a valid report: echoing TRAIN, and the third in a row, it is trained (R326). -/
def State.train (s : State) (n : Nat) (echo : Bool) : State :=
  let s := s.modPort n fun p => { p with echoed := p.echoed || echo, trainOk := if p.echoed || echo then p.trainOk + 1 else 0 }
  if 3 ≤ (s.port n).trainOk then s.setF (TILE_n_STATUS_TRAINED n) 1 else s

/-- LAST_TAG is judged against the last strobe, once for each strobe and from 1 µs after it (R330; log entry 46). -/
def State.judgeStrobe (s : State) (n tag : Nat) : State :=
  let p := s.port n
  match p.lastTag, (s.fireT n).lastStrobe with
  | some g, some x =>
    if p.judged || s.now < x + us 1 then s
    else
      let behind := if beyond 16 g tag then p.behind + 1 else 0
      let s := s.modPort n fun p => { p with judged := true, behind := behind }
      if 4 ≤ behind then s.failTile n 6 else s
  | _, _ => s

/-- TELEMETRY_REPORT: a report arrives; `crcOk` says that its CRC is right (R323). -/
def execTelemetryReport (t n : Nat) (r : Telemetry) (crcOk : Bool) (s : State) : Result :=
  let s := s.at t
  .next (if 96 ≤ n || !s.fb (TILE_n_STATUS_LOGIC_ON n) then s
    else if !crcOk then
      ((s.addF (TILE_n_LINKERR_UP_CRC n) 1).modPort n fun p => { p with trainOk := 0 }).modTh n fun h => { h with validRun := 0 }
    else
      let s := s.modPort n fun p => { p with lastReport := some s.now }
      let s := (s.setF (TILE_n_TELEM_IPP_MA n) r.ipp).takeVpp n r.vpp
      if !s.fb (TILE_n_STATUS_TRAINED n) then
        (match (s.port n).rampEnd with
          | some e => if e ≤ s.now then s.train n r.echo else s
          | none => s)
      else
        let s := if r.crcErr then (s.addF (TILE_n_LINKERR_DN_CRC n) 1).modPort n fun p => { p with crcRun := p.crcRun + 1 }
          else s.modPort n fun p => { p with crcRun := 0 }
        let s := if 8 ≤ (s.port n).crcRun then s.failTile n 5 else s
        let s := s.judgeStrobe n (r.lastTag % 65536)
        let s := if r.openValid then (s.openReport n r.openNozzle).askSwap n else s
        s.tryLogicOff n)

/-- TILE_TRAIN_TIMEOUT: 10 ms after the end of its 3.3 V ramp a tile has not trained: it is declared absent (R326). -/
def execTileTrainTimeout (t n : Nat) (s : State) : Result :=
  let s := s.at t
  .next (match (s.port n).rampEnd with
    | some e => if e + ms 10 ≤ s.now && s.fb (TILE_n_STATUS_LOGIC_ON n) && !s.fb (TILE_n_STATUS_TRAINED n) then s.absentTile n else s
    | none => s)

/-! ### Power and failures (R326 to R330) -/

/-- TILE_LOGIC_OVERCURRENT: a 3.3 V current above 0.5 A opens the switch and fails the tile (R326, R330). -/
def execTileLogicOvercurrent (t n : Nat) (s : State) : Result :=
  let s := s.at t
  .next (if n < 96 && s.fb (TILE_n_STATUS_LOGIC_ON n) then (s.failTile n 2).logicOff n else s)

/-- The next slot of a quad from `k` whose tile's fuse is to close: enabled, trained, not bypassed, its fuse still open
(R327). -/
def State.nextFuse? (s : State) (q k : Nat) : Option Nat :=
  [0, 1, 2, 3].find? fun i =>
    decide (k ≤ i) && s.enabled (4 * q + i) && s.tileUp (4 * q + i) && !s.bypassed (4 * q + i) && !s.fb (TILE_n_STATUS_VPP_ON (4 * q + i))

/-- TILE_FUSE_CLOSE: the next enabled, trained tile of a quad has its VPP fuse closed, 500 µs after the one before (R327). -/
def execTileFuseClose (t q : Nat) (s : State) : Result :=
  let s := s.at t
  .next (match (s.rail q).nextSlot with
    | some k =>
      if 24 ≤ q || s.now < (s.rail q).fuseDue || !s.fb (PWR_q_RAIL_ON q) || (s.rail q).ramping then s
      else match s.nextFuse? q k with
        | some i =>
          let s := (s.setF (TILE_n_STATUS_VPP_ON (4 * q + i)) 1).modPort (4 * q + i) fun p => { p with fuseAt := some s.now, powerOff := none }
          s.modRail q fun r => { r with nextSlot := if i < 3 then some (i + 1) else none, fuseDue := s.now + us 500 }
        | none => s.modRail q fun r => { r with nextSlot := none }
    | none => s)

/-- TILE_VPP_CHECK: 5 ms after its fuse closed, a tile whose reported VPP is not within 5 % of the rail's setpoint fails
(R327, R330). -/
def execTileVppCheck (t n : Nat) (s : State) : Result :=
  let s := s.at t
  .next (match (s.port n).fuseAt with
    | some x =>
      if x + ms 5 ≤ s.now && s.fb (TILE_n_STATUS_VPP_ON n) then
        let s := s.modPort n fun p => { p with fuseAt := none }
        let set := (s.rail (n / 4)).target
        let v := s.f (TILE_n_TELEM_VPP_MV n)
        if 20 * (if v ≤ set then set - v else v - set) ≤ set then s else s.failTile n 4
      else s
    | none => s)

/-- TILE_VPP_DISCHARGED: VPP has fallen below 5 V, or 20 ms have passed, so the 3.3 V switch may open (R328, R337). -/
def execTileVppDischarged (t n : Nat) (s : State) : Result := .next ((s.at t).tryLogicOff n)

/-- EFUSE_TRIP: the tile current has exceeded 40 A, or TRIP_A on average over 10 ms (R329, R330). -/
def execEfuseTrip (t n : Nat) (s : State) : Result :=
  let s := s.at t
  .next (if n < 96 && s.fb (TILE_n_STATUS_VPP_ON n) then s.failTile n 4 else s)

/-- TILE_LOGIC_OVERVOLTAGE: the logic supply exceeds 3.6 V: both switches open (R329, R330). -/
def execTileLogicOvervoltage (t n : Nat) (s : State) : Result :=
  let s := s.at t
  .next (if n < 96 && s.fb (TILE_n_STATUS_LOGIC_ON n) then (s.failTile n 2).logicOff n else s)

/-- TILE_LINK_LOST: no valid report for 100 µs (R330). -/
def execTileLinkLost (t n : Nat) (s : State) : Result :=
  let s := s.at t
  .next (if n < 96 && s.fb (TILE_n_STATUS_TRAINED n) && !s.fb (TILE_n_STATUS_FAILED n) &&
      ((s.port n).lastReport.getD 0) + us 100 ≤ s.now then s.failTile n 5 else s)

/-! ### Head memory (R37, R331 to R338) -/

/-- Dawn step 5 may read a tile's head memory: the tile is trained and not failed, and its bus is free for the command. -/
def State.hmDawn (s : State) (n op : Nat) : Bool :=
  decide (n < 96) && s.st == DAWN && s.tileUp n && s.hmReady n && match (s.port n).hm with
    | some x => x.op == op
    | none => true

/-- Both blocks are judged as far as they are known: an identity block that has been read whole (R332), a usage block whose
slots are all invalid, or for which no key is stored (R334, R338). -/
def State.judgeBlocks (s : State) (n : Nat) : State :=
  let p := s.port n
  let s := if p.idOk.isNone && p.idRead = 0x1840 then s.modPort n fun p => { p with idOk := some (idPasses p) } else s
  let s :=
    if p.useOk.isNone && p.useRead = 48 then
      let ser := le ((List.range 8).map fun i => (Sparse.get (fun _ => 0) p.useBuf i).toNat)
      let s := (s.modPort n fun p => { p with userial := ser }).setF (TILE_n_RANK_CLASS n) ((Sparse.get (fun _ => 0) p.useBuf 8).toNat)
      match useCurrent? p with
      | some (q, c) =>
        let s := (s.modPort n fun p => { p with useSeq := q, useCount := c }).showUsage n
        if s.nv.ukey.isNone then s.modPort n fun p => { p with useOk := some false } else s
      | none => s.modPort n fun p => { p with useOk := some false }
    else s
  if (s.port n).idOk.isSome && (s.port n).useOk.isSome && (p.idOk.isNone || p.useOk.isNone) then s.choosePath n else s

/-- A Dawn transaction on one of the blocks has failed (R37, R338): the block is unusable. -/
def State.hmBlockFail (s : State) (n : Nat) (usage : Bool) : State :=
  let s := s.modPort n fun p => { p with hm := none, idOk := if usage then p.idOk else some (p.idOk.getD false),
                                         useOk := if usage then some (p.useOk.getD false) else p.useOk }
  if (s.port n).idOk.isSome && (s.port n).useOk.isSome then s.choosePath n else s

/-- HM_READ: head-memory bytes from address `a` are read; the blocks are read upward from their first address (R331, R332,
R334). `resp` is what the tile answers, with its CRC; none is a NACK or no answer. -/
def execHmRead (t n a : Nat) (resp : Option (List Nat)) (s : State) : Result :=
  let s := s.at t
  .next (if !s.hmDawn n 0x10 then s
    else
      let len := match resp with
        | some bs => bs.length - 4
        | none => min 256 ((if a < 0x2000 then 0x1840 else 0x2030) - a)
      let s := s.emit (.hmRequest n ([0x10] ++ toLe 2 a ++ [len % 256]))
      match hmData? resp len with
      | some bs =>
        let s := s.modPort n fun p => { p with hm := none }
        let p := s.port n
        if a < 0x2000 then
          if a = p.idRead && a + len ≤ 0x1840 then
            (s.modPort n fun p => { p with idBuf := Mem.putBytes (fun _ => 0) a bs p.idBuf, idRead := a + len }).judgeBlocks n
          else s
        else if a = 0x2000 + p.useRead && a + len ≤ 0x2030 then
          (s.modPort n fun p => { p with useBuf := Mem.putBytes (fun _ => 0) (a - 0x2000) bs p.useBuf, useRead := p.useRead + len }).judgeBlocks n
        else s
      | none =>
        match s.hmError n 0x10 with
        | some s => s
        | none => s.hmBlockFail n (decide (0x2000 ≤ a)))

/-- HM_WRITE: up to 64 bytes are written, inside the temperature interlock (R331, R407). The tile refuses the usage block's
addresses by NACK. -/
def execHmWrite (t n a : Nat) (data : List Nat) (resp : Option (List Nat)) (s : State) : Result :=
  let s := s.at t
  .next (if 96 ≤ n || 64 < data.length || !s.tileUp n || !s.hmReady n ||
      (match (s.port n).hm with
        | some x => x.op != 0x11
        | none => false) then s
    else if !s.hmOk n then (s.setF (TILE_n_STATUS_HM_DEFER n) 1).raiseLane (tileDie n) kTILE_HM_DEFER n
    else
      let s := s.emit (.hmRequest n ([0x11] ++ toLe 2 a ++ data))
      match hmData? resp 1 with
      | some _ => s.hmEnd n
      | none =>
        match s.hmError n 0x11 with
        | some s => s
        | none => s.hmEnd n)

/-- A usage record's SEQ and COUNT (R335). -/
def recSeq (bs : List Nat) : Nat := leAt bs 12 4
def recCount (bs : List Nat) : Nat := leAt bs 16 8

/-- A usage record with its tag, when the tag over `msg` and the record is right under the tile's key (R335). -/
def State.tagged? (s : State) (n : Nat) (msg bs : List Nat) : Option (List Nat) :=
  match s.usageKey? n with
  | some kt => if usageTag kt (msg ++ bs.take 32) == bs.drop 32 then some (bs.take 32) else none
  | none => none

/-- The pending count has been recorded in the tile (R337). -/
def State.addDone (s : State) (n : Nat) (bs : List Nat) : State :=
  let d := match (s.port n).hm with
    | some x => x.delta
    | none => 0
  ((s.modPort n fun p => { p with useSeq := recSeq bs, useCount := recCount bs, pendUse := p.pendUse - d }).showUsage n).hmEnd n

/-- AUTH_READ: the usage record is read with a tag against the nonce N, drawn from the engine's random source: to judge the
usage block at Dawn, or after an add whose outcome is not known (R331, R335, R337, R338). -/
def execAuthRead (t n : Nat) (nonce : List Nat) (resp : Option (List Nat)) (s : State) : Result :=
  let s := s.at t
  let nn := (nonce ++ List.replicate 8 0).take 8
  let verify := match (s.port n).hm with
    | some x => x.verify
    | none => false
  .next (if verify then
      if !s.hmReady n then s
      else
        let s := s.emit (.hmRequest n ([0x20] ++ nn))
        match hmData? resp 40, (s.port n).hm with
        | some bs, some x =>
          match s.tagged? n (nn ++ [0x20]) bs with
          | some rcd => if recSeq rcd = ((s.port n).useSeq + 1) % 2 ^ 32 && recCount rcd = (s.port n).useCount + x.delta then s.addDone n rcd else s.hmEnd n
          | none => s.hmEnd n
        | _, _ =>
          match s.hmError n 0x22 with
          | some s => s
          | none => s.hmEnd n
    else if !s.hmDawn n 0x20 || (s.port n).useRead != 48 || (s.port n).useOk.isSome then s
    else
      let s := s.emit (.hmRequest n ([0x20] ++ nn))
      match hmData? resp 40 with
      | some bs =>
        let s := s.modPort n fun p => { p with hm := none }
        match s.tagged? n (nn ++ [0x20]) bs with
        | some rcd =>
          let s := (s.modPort n fun p => { p with useOk := some true, useSeq := recSeq rcd, useCount := recCount rcd }).showUsage n
          if (s.port n).idOk.isSome then s.choosePath n else s
        | none =>
          if (s.port n).authTries = 0 then s.modPort n fun p => { p with authTries := 1 } else s.hmBlockFail n true
      | none =>
        match s.hmError n 0x20 with
        | some s => s
        | none => s.hmBlockFail n true)

/-- GET_NONCE: the tile answers a fresh M for the add that waits, and AUTH_ADD is sent with its tag (R331, R335, R336). -/
def execGetNonce (t n : Nat) (resp : Option (List Nat)) (s : State) : Result :=
  let s := s.at t
  .next (match (s.port n).hm, s.usageKey? n with
    | some x, some kt =>
      if x.op != 0x22 || x.verify || !x.m.isEmpty || !s.hmReady n then s
      else match hmData? resp 8 with
        | some m =>
          let s := s.modPort n fun p => { p with hm := some { x with m := m, tries := 0 } }
          let d := toLe 8 x.delta
          s.emit (.hmRequest n ([0x22] ++ d ++ usageTag kt (m ++ [0x22] ++ d)))
        | none =>
          match s.hmError n 0x22 with
          | some s => s
          | none => s.hmEnd n
    | _, _ => s)

/-- AUTH_ADD: the tile answers the add with its new record and tag; without an answer, or with a bad tag, the outcome is
read back (R331, R335 to R337). -/
def execAuthAdd (t n : Nat) (resp : Option (List Nat)) (s : State) : Result :=
  let s := s.at t
  .next (match (s.port n).hm with
    | some x =>
      if x.op != 0x22 || x.verify || x.m.isEmpty || !s.hmReady n then s
      else
        let ask := fun (s : State) => s.modPort n fun p => { p with hm := some { x with verify := true, tries := 0, retryAt := none } }
        match hmData? resp 40 with
        | some bs =>
          match s.tagged? n (x.m ++ [0x22]) bs with
          | some rcd => s.addDone n rcd
          | none => ask s
        | none =>
          match s.hmError n 0x22 with
          | some s => s
          | none => ask s
    | none => s)

/-- HM_RETRY: the backoff of a head-memory transaction is over, and it is issued again (R37). -/
def execHmRetry (t n : Nat) (s : State) : Result :=
  let s := s.at t
  .next (match (s.port n).hm with
    | some x =>
      match x.retryAt with
      | some d =>
        if d ≤ s.now then
          let s := s.modPort n fun p => { p with hm := some { x with retryAt := none } }
          if x.op = 0x22 && !x.verify then
            match s.usageKey? n with
            | some kt =>
              if x.m.isEmpty then s.emit (.hmRequest n [0x21])
              else s.emit (.hmRequest n ([0x22] ++ toLe 8 x.delta ++ usageTag kt (x.m ++ [0x22] ++ toLe 8 x.delta)))
            | none => s
          else s
        else s
      | none => s
    | none => s)

/-- A write of a usage master key register (R335): the write of TILE_UKEY_7 stores the key; outside 0–95 °C it is refused
with a NOTE. -/
def State.writeUkey (s : State) (k : Nat) (v : Word) : State :=
  if !s.nvOk then s.raise kTILE_NOTE (rTILE_UKEY_n k)
  else
    let s := { s with cfg := { s.cfg with ukeyBuf := insertKey k v.toNat s.cfg.ukeyBuf } }
    if k = 7 then
      { s with nv := { s.nv with ukey := some ((List.range 8).flatMap fun i => toLe 4 ((lookup? s.cfg.ukeyBuf i).getD 0)) } }
    else s

/-- TILE_UKEY_STORE: the write of TILE_UKEY_7 (R335, R407). -/
def execTileUkeyStore (t : Nat) (v : Word) (s : State) : Result :=
  .next ((s.at t).onWrite (rTILE_UKEY_n 7) fun s => s.writeUkey 7 v)

end Sys2Proof.Machine
end

