-- ==== Sys2Proof/Machine/RegOps.lean ====
section
/-!
DEFINITION. Reads and writes of the address space of BAR0 (R5 to R10, R474 to R478): what a register reads as, the pairs of
64 bits, what a write of each register does, the windows, and accesses by kind of region.
-/
namespace Sys2Proof.Machine

/-! ### What a register reads as (R9) -/

/-- The number of an instance of a family of registers at an offset. -/
def slotOf (base stride count off : Nat) : Option Nat :=
  if base ≤ off && (off - base) % stride == 0 && (off - base) / stride < count then some ((off - base) / stride) else none

/-- What the fields say that are not stored in the register word itself. -/
def State.overlay (s : State) (off : Nat) : Option Word :=
  let w := fun (x : Nat) => some (BitVec.ofNat 32 x)
  if off < 0x10000 then
    if off = rSYS_ID then w ((s.reg off).toNat + s.ident.step % 16 * 256 + (if s.ident.variantA then 2 else 1))
    else if off = rSYS_FW then
      w (b2n s.ident.fwSlotB * 2 ^ 31 + s.ident.fwMajor % 128 * 2 ^ 24 + s.ident.fwMinor % 256 * 65536 + s.ident.fwBuild % 65536)
    else if off = rSYS_STRAP then w s.ident.straps
    else if off = rSYS_TIME_LO then w s.sysTime
    else if off = rSYS_TIME_HI then w (s.sysTime / 2 ^ 32)
    else none
  else if off = rCFG_LOCK then w (b2n s.nv.layoutLock * 2 ^ CFG_LOCK_LAYOUT_LOCK.lo + b2n s.nv.key.isSome * 2 ^ CFG_LOCK_KEY_SET.lo)
  else if off = rTILE_CTRL then some (TILE_CTRL_UKEY_SET.put (s.reg off) (b2n s.nv.ukey.isSome))
  else if off = rCLK_DATE then w s.clk.dateWord
  else if off = rCLK_TIME then w s.clk.timeWord
  else if off = rCLK_STATUS then
    some (CLK_STATUS_VALID.put (CLK_STATUS_END.put (s.reg off) (b2n s.clk.ended)) (b2n s.clk.valid))
  else if off = rFLT_NV then some (FLT_NV_HALT_SAVED.put (s.reg off) (b2n s.nv.haltSaved))
  else if off = rFLT_NV_IDX then
    some (FLT_NV_IDX_WRAPPED.put (FLT_NV_IDX_NEXT.put (s.reg off) s.nv.logNext) (b2n s.nv.logWrapped))
  else match slotOf 0x100030 0x100 16 off, slotOf 0x100034 0x100 16 off, slotOf 0x10003C 0x100 16 off with
    | some n, _, _ => w (s.readPeriod n)
    | _, some n, _ => w (wrap 32 (s.readSpeed n))
    | _, _, some n => w (s.readPhase n)
    | _, _, _ => none

/-- The word a register reads as; reserved and write-only fields read 0 (R8, R9). -/
def State.regWord (s : State) (off : Nat) : Word := (s.overlay off).getD (s.reg off)

/-! ### Pairs of 64 bits (R6, R7) -/

/-- The offsets of the _LO registers, each with its _HI four bytes on; CLK_DATE captures CLK_TIME in the same way (R470). -/
def isLo (off : Nat) : Bool :=
  off == rSYS_TIME_LO || off == rRING_JOIN_MEMBERS_LO || off == rFLT_LAST_LO || off == rFLT_LOG_BASE_LO || off == rFLT_INJECT_LO || off == rMEM_SPAD_LO ||
  off == rPMC_DUMP_BASE_LO || off == rCLK_DATE || (slotOf 0x100010 0x100 16 off).isSome || (slotOf 0x100018 0x100 16 off).isSome ||
  (slotOf 0x100020 0x100 16 off).isSome || (slotOf 0x191004 0x20 96 off).isSome || (slotOf 0x191018 0x20 96 off).isSome ||
  (slotOf 0x1F2004 0x10 256 off).isSome || (slotOf 0xC00000 0x40 4096 off).isSome || (slotOf 0xC00008 0x40 4096 off).isSome

/-- The _HI register of a pair. -/
def isHi (off : Nat) : Bool := decide (4 ≤ off) && isLo (off - 4)

/-- The place of a master's snapshot or low half of a register. -/
def pairKey (m off : Nat) : Nat := m * 2 ^ 24 + off

/-- A read of a register by a master of a code: a _LO captures the snapshot of its _HI, a _HI answers the snapshot, and RC
fields are cleared afterwards (R6, R9). Where no register lies, 0 (R475). -/
def State.readReg (s : State) (m off : Nat) : State × Nat :=
  match regRow? off with
  | none => (s, 0)
  | some r =>
    if isHi off then (s, (tget (0 : Word) s.snaps (pairKey m off)).toNat)
    else
      let v := (s.regWord off).toNat
      let s := if isLo off then { s with snaps := tupd (0 : Word) (pairKey m (off + 4)) (fun _ => s.regWord (off + 4)) s.snaps } else s
      (if r.rc = 0 then s else s.setReg off (s.reg off &&& ~~~ (BitVec.ofNat 32 r.rc)), v)

/-! ### What a write does (R7 to R9) -/

/-- The plain effect: RW fields take the value, W1C fields with a 1 are cleared, every other field stays. -/
def State.plainWrite (s : State) (off : Nat) (v : Word) : State :=
  match regRow? off with
  | none => s
  | some r =>
    let rw : Word := BitVec.ofNat 32 r.rw
    let clr : Word := BitVec.ofNat 32 r.w1c &&& v
    s.setReg off (((s.reg off &&& ~~~ rw) ||| (v &&& rw)) &&& ~~~ clr)

/-- DMA stream registers keep their values while the stream is enabled (R265). -/
def State.streamHeld (s : State) (off : Nat) : Bool :=
  decide (0xC00000 ≤ off ∧ off < 0xC40000) && s.fb (DMA_s_CTRL_EN ((off - 0xC00000) / 64)) &&
    [0x00, 0x04, 0x08, 0x0C, 0x10, 0x18].contains (off % 64)

/-- A write of the _LO of a pair waits for its _HI (R7). -/
def State.writeLo (s : State) (m off : Nat) (v : Word) : State :=
  if s.streamHeld off then s
  else { s with lows := tupd (0 : Word) (pairKey m off) (fun _ => v) s.lows }

/-- A write of the _HI of a pair applies both halves (R7). -/
def State.writeHi (s : State) (m off : Nat) (v : Word) : State :=
  let lo : Word := tget (0 : Word) s.lows (pairKey m (off - 4))
  match slotOf 0x10001C 0x100 16 off, slotOf 0x1F2008 0x10 256 off with
  | some n, _ => s.preset n lo.toNat (v.toNat % 65536)
  | _, some n => s.pmcLoad n lo.toNat (v.toNat % 65536)
  | _, _ =>
    if off = rFLT_INJECT_HI then s.writeInject lo.toNat v
    else if s.streamHeld off then s
    else (s.plainWrite (off - 4) lo).plainWrite off v

/-- A write of a register whose effect is more than its fields (chapters 02 to 17). -/
def State.ownWrite (s : State) (m off : Nat) (v : Word) (x : DawnTests) : Option State :=
  if off < 0x20000 then
    if off = rSYS_CTRL then some (s.writeSysCtrl v x)
    else if off = rSYS_ENABLE then some (s.writeEnable v)
    else if off = rCFG_NV_CTRL then some (s.writeNvCtrl v)
    else if off = rCFG_LOCK then some (s.writeLock v)
    else (slotOf (rCFG_KEY_n 0) 4 8 off).map fun k => s.writeKey k v
  else if off < 0x120000 then (slotOf 0x100000 0x100 16 off).map fun n => s.writeCmp n v.toNat
  else if off < 0x160000 then
    if (slotOf (rFIRE_WIN_w_SEQ 0) 0x20 16 off).isSome then
      some (if s.st = NIGHT || s.st = DAWN || s.func = MORNING then s.plainWrite off v else s)
    else if off = rHLTH_FORCE then some (s.hlthForce v.toNat)
    else if off = rHLTH_BYPASS_REQ then some (s.hlthBypass v.toNat)
    else (slotOf 0x151000 0x10 64 off).map fun k =>
      let s := s.plainWrite off v
      { s with comp := { s.comp with docs := s.comp.docs.map fun (d : RDoc) => { d with touched := k :: d.touched.filter (· != k) } } }
  else if off < 0x190000 then
    if off = rRING_CTRL then some (s.writeRingCtrl v.toNat)
    else if off = rDMA_CTRL then some (s.plainWrite off v).showHost
    else none
  else if off < 0x1C0000 then
    match slotOf (rTILE_UKEY_n 0) 4 8 off, slotOf 0x1B0100 0x40 4 off, slotOf 0x1B0104 0x40 4 off, slotOf 0x1B0108 0x40 4 off with
    | some k, _, _, _ => some (s.writeUkey k v)
    | _, some a, _, _ => some (s.writeMotCmd a v)
    | _, _, some a, _ => if s.duskHolds a then some (s.raiseMot a kMOT_NOTE off) else none
    | _, _, _, some a => if s.duskHolds a then some (s.raiseMot a kMOT_NOTE off) else none
    | _, _, _, _ => none
  else if off < 0x200000 then
    if off = rFLT_CTRL then some (s.writeFltCtrl v)
    else if off = rFLT_PEND then some (s.writeFltPend v)
    else if off = rFLT_LOG_HEAD then some (s.writeLogHead v)
    else if off = rCAL_CTRL then some (s.writeCalCtrl v)
    else if off = rCAL_IMPORT then some (s.writeCalImport v)
    else if off = rPMC_CTRL then some (s.writePmcCtrl v)
    else if off = rPMC_DUMP_HEAD then some (s.writeDumpHead v)
    else if off = rPMC_TAG_CTRL then some (s.writeTagCtrl v)
    else if off = rPMC_TAG_STAT then some (s.writeTagStat v)
    else if off = rCLK_DATE then some (s.clockDate m v)
    else if off = rCLK_TIME then some (s.clockSet m v)
    else none
  else if off < 0xD00000 then (slotOf (rDMA_s_CTRL 0) 64 4096 off).map fun k => s.writeDmaCtrl k v.toNat
  else match slotOf (rDMA_s_DB_SQ 0) 8 4096 off, slotOf (rDMA_s_DB_CQ 0) 8 4096 off with
    | some k, _ => some (s.sqDoorbell k v.toNat)
    | _, some k => some (s.cqDoorbell k v.toNat)
    | _, _ => none

/-- A write of a register by a master of a code. Where no register lies it is discarded (R475). -/
def State.writeReg (s : State) (m off : Nat) (v : Word) (x : DawnTests) : State :=
  if (regRow? off).isNone then s
  else match s.ownWrite m off v x with
    | some s' => s'
    | none =>
      if isLo off then s.writeLo m off v
      else if isHi off then s.writeHi m off v
      else if s.streamHeld off then s
      else s.plainWrite off v

/-! ### Windows, and the MSI-X structures (R198, R223, R259, R260, R410, R423, R431, R466) -/

/-- An offset in a read-only window of R474. -/
def inWindow (off : Nat) : Bool :=
  decide (0x1C2000 ≤ off ∧ off < 0x1C2400) || decide (0x1D8000 ≤ off ∧ off < 0x1E0000) || decide (0x1F4000 ≤ off ∧ off < 0x1F5000) ||
  decide (0x200000 ≤ off ∧ off < 0x2C0000) || decide (0x800000 ≤ off ∧ off < 0xB00000) || decide (0xE00000 ≤ off ∧ off < 0xE10000)

/-- A byte of a window; entries that nothing fills read 0 (R475). -/
def State.windowByte (s : State) (off : Nat) : Nat :=
  let rec_ := fun (l : Option LogRec) (o : Nat) => match l with
    | some r => byteAt (r.bytes 0) (o % 32)
    | none => 0
  if off < 0x1C2400 then
    let o := off - 0x1C2000
    byteAt (toLe 4 (wrap 16 (s.roTemp (o / 256) (o % 256 / 4)))) (o % 4)
  else if off < 0x1E0000 then rec_ (s.flt.hist[(off - 0x1D8000) / 32]?) (off - 0x1D8000)
  else if off < 0x1F5000 then
    match lookup? s.pmc.win ((off - 0x1F4000) / 64) with
    | some r => byteAt r.bytes (off % 64)
    | none => 0
  else if off < 0x2C0000 then
    let n := (off - 0x200000) / 0x2000
    let o := (off - 0x200000) % 0x2000
    if o < 6144 then (s.nozzle n (2 * o)).fg % 16 + (s.nozzle n (2 * o + 1)).fg % 16 * 16 else 0
  else if off < 0xB00000 then
    let n := (off - 0x800000) / 0x8000
    let o := (off - 0x800000) % 0x8000
    if o < 24576 then byteAt (toLe 2 (s.nozzle n (o / 2)).res) (o % 2) else 0
  else rec_ (lookup? s.nv.log (s.f FLT_NV_PAGE * 2048 + (off - 0xE00000) / 32)) (off - 0xE00000)

/-- A byte of the MSI-X table or of the pending-bit array. -/
def State.msixByte (s : State) (off : Nat) : Nat :=
  if 0x178000 ≤ off then byteAt (toLe 4 (s.msixWord ((off - 0x178000) / 4)).toNat) (off % 4)
  else ((List.range 8).map fun i => b2n (s.host.msixPend.contains ((off - 0x177000) * 8 + i)) * 2 ^ i).sum

/-- A word written to the MSI-X table; unmasking an entry whose bit is pending sends its message (R260). -/
def State.msixWrite (s : State) (off : Nat) (v : Word) : State :=
  if off < 0x178000 then s
  else
    let k := (off - 0x178000) / 4
    let v := if k % 4 = 0 then v &&& 0xFFFFFFFC else if k % 4 = 3 then v &&& 1 else v
    let s := { s with host := { s.host with msixTable := tupd (if k % 4 = 3 then 1 else 0) k (fun _ => v) s.host.msixTable } }
    if k % 4 = 3 && v = 0 && s.host.msixPend.contains (k / 4) then
      ({ s with host := { s.host with msixPend := s.host.msixPend.filter (· != k / 4) } }).msix (k / 4)
    else s

def isMsix (off : Nat) : Bool := decide (0x177000 ≤ off ∧ off < 0x177100) || decide (0x178000 ≤ off ∧ off < 0x180000)
def isStaging (off : Nat) : Bool := decide (0x400000 ≤ off ∧ off < 0x800000)
def isAlias (off : Nat) : Bool := decide (0xB00000 ≤ off ∧ off < 0xC00000)

/-! ### Accesses by kind of region (R475) -/

/-- The registers that an access of at most 8 bytes touches, lower first, read one after the other. -/
def State.readRegs (s : State) (m : Nat) : Nat → Nat → State × List Nat
  | _, 0 => (s, [])
  | off, k + 1 =>
    let x := s.readReg m off
    let y := x.1.readRegs m (off + 4) k
    (y.1, toLe 4 x.2 ++ y.2)

/-- A read that is done: status 0, and the part of the data that is asked for. -/
def readDone (g : List Nat → List Nat) (y : State × List Nat) : State × Nat × List Nat := (y.1, 0, g y.2)

/-- A read of `n` bytes by a master of a code: the completion's status (0 done, 1 Unsupported Request) and the data. Before
Night or Midnight is first entered everything reads 0 (R56); in Midnight what lies outside the SYS_ and FLT_ registers reads
a free value (R48). -/
def State.busRead (s : State) (m off n : Nat) : State × Nat × List Nat :=
  if !s.powered || !s.sys.bootDone then (s, 0, List.replicate n 0)
  else if s.st = MIDNIGHT && !sysOrFlt off then
    (s.drawn, 0, ((List.range (n / 4 + 2)).flatMap fun k => toLe 4 (Config.midnightRead (off / 4 * 4 + 4 * k) s.draws).toNat).drop (off % 4) |>.take n)
  else if isStaging off then (s, 0, s.localBytes 2 off n)
  else if inWindow off then (s, 0, (List.range n).map fun i => if inWindow (off + i) then s.windowByte (off + i) else 0)
  else if isAlias off then
    readDone id (s.aliasRead ((off - 0xB00000) / 2 ^ 18) ((off - 0xB00000) % 2 ^ 18) n)
  else if isMsix off then (s, 0, (List.range n).map fun i => if isMsix (off + i) then s.msixByte (off + i) else 0)
  else if 8 < n then
    if (regRow? (off / 4 * 4)).isSome then (s.raise kHOST_NOTE off, 1, []) else (s, 0, List.replicate n 0)
  else if n = 0 then (s, 0, [])
  else
    readDone (fun d => (d.drop (off % 4)).take n) (s.readRegs m (off / 4 * 4) ((off % 4 + n + 3) / 4))

/-- A write of bytes by a master of a code: discarded before Night or Midnight is first entered (R56), and in Midnight outside
the SYS_ and FLT_ registers (log entry 22). -/
def State.busWrite (s : State) (m off : Nat) (bs : List Nat) (x : DawnTests) : State :=
  if !s.writable off then s
  else if isStaging off then if off + bs.length ≤ 0x800000 then s.putStaging (off - 0x400000) bs else s
  else if inWindow off then s.raise kHOST_NOTE off
  else if isAlias off then s.aliasWrite ((off - 0xB00000) / 2 ^ 18) ((off - 0xB00000) % 2 ^ 18) bs
  else if !wordSized off bs.length then if (regRow? (off / 4 * 4)).isSome then s.raise kHOST_NOTE off else s
  else
    let put := fun (s : State) (o : Nat) (v : Nat) =>
      if isMsix o then s.msixWrite o (BitVec.ofNat 32 v) else s.writeReg m o (BitVec.ofNat 32 v) x
    let s := put s off (le (bs.take 4))
    if bs.length = 8 then put s (off + 4) (le (bs.drop 4)) else s

end Sys2Proof.Machine
end

