-- ==== Sys2Proof/Machine/Register.lean ====
section
/-!
DEFINITION. The commands that read and write registers: over BAR0 (R475), over BAR2 (R261, R304, R478), and over the ring
(R303, R304).
-/
namespace Sys2Proof.Machine

/-- REGISTER_WRITE: a write of bytes at a BAR0 offset by a master (R475); `x` is what Dawn's first tests find should the
write enter Dawn. -/
def execRegisterWrite (t : Nat) (m : Master) (off : Nat) (data : List Nat) (x : DawnTests) (s : State) : Result :=
  .next ((s.at t).busWrite (masterCode m) off data x)

/-- A read of BAR0 by a master, answered with its data or Unsupported Request (R475). -/
def State.answerRead (s : State) (m off n : Nat) : State :=
  let (s, st, d) := s.busRead m off n
  s.emit (.barData st d)

/-- LO_READ_SNAPSHOT: a read of `n` bytes at a BAR0 offset; at a _LO register the _HI half is captured for the reading
master (R6). -/
def execLoReadSnapshot (t : Nat) (m : Master) (off n : Nat) (s : State) : Result := .next ((s.at t).answerRead (masterCode m) off n)

/-- RC_READ: a read of `n` bytes at a BAR0 offset; RC fields return their value and clear (R9, R10). -/
def execRcRead (t : Nat) (m : Master) (off n : Nat) (s : State) : Result := .next ((s.at t).answerRead (masterCode m) off n)

/-- CLK_DATE_READ: a master reads CLK_DATE, and CLK_TIME of the same second is captured for it (R470). -/
def execClkDateRead (t : Nat) (m : Master) (s : State) : Result := .next ((s.at t).answerRead (masterCode m) rCLK_DATE 4)

/-- HI_WRITE_PAIR: a write of the _HI register of a pair applies both halves (R7). -/
def execHiWritePair (t : Nat) (m : Master) (off : Nat) (v : Word) (s : State) : Result :=
  .next ((s.at t).onWrite off fun s => if isHi off && off % 4 == 0 then s.writeReg (masterCode m) off v {} else s)

/-- BAR2_ACCESS: a read of `n` bytes, or a write of bytes, at an offset of BAR2: the own position reaches the own registers
(R261), an empty one nothing, and another engine's becomes REG_RD or REG_WR (R304). -/
def execBar2Access (t a n : Nat) (data : Option (List Nat)) (x : DawnTests) (s : State) : Result :=
  let s := s.at t
  let pos := a / 2 ^ 24
  let off := a % 2 ^ 24
  let size := match data with
    | some bs => bs.length
    | none => n
  let refuse := fun (s : State) => if data.isSome then s else s.emit (.barData 1 [])
  .next (if !s.powered || decide (64 ≤ pos) then s
    else if s.fb RING_STATUS_POS_VALID && pos == s.eid % 64 then
      match data with
      | some bs => s.busWrite (masterCode .host) off bs x
      | none => s.answerRead (masterCode .host) off n
    else if !s.fb RING_STATUS_POS_VALID || s.f RING_STATUS_ENGINES ≤ pos then refuse (s.addF HOST_ERR_BAR2_MISS 1)
    else if !wordSized off size then refuse (s.addF RING_ERR_REFUSED 1)
    else
      let p : RingPkt := { type := if data.isSome then 2 else 1, vc := 0, src := 0, dst := s.eid / 64 * 64 + pos, addr := off, len := size, payload := data.getD [] }
      s.sendReq p { rtag := 0, dst := 0, kind := .bar2, due := 0, pkt := p })

/-- REG_RD: a remote register read; in Midnight only the SYS_ and FLT_ registers answer (R303, R304). The MSI-X structures
read 0 (R478). -/
def execRegRd (t port : Nat) (p : RingPkt) (s : State) : Result :=
  let s := s.at t
  .next (if p.type != 1 then s
    else s.packetIn port p fun s =>
      if s.st = MIDNIGHT && !sysOrFlt p.addr then s.sendRsp p 0x10 2 []
      else if !wordSized p.addr p.len || decide (2 ^ 24 ≤ p.addr) then s.sendRsp p 0x10 1 []
      else if isMsix p.addr then s.sendRsp p 0x10 0 (List.replicate p.len 0)
      else
        let (s, _, d) := s.busRead (masterCode (.ring p.src)) p.addr p.len
        s.sendRsp p 0x10 0 d)

/-- REG_WR: a remote register write is applied and acknowledged (R303, R304). -/
def execRegWr (t port : Nat) (p : RingPkt) (x : DawnTests) (s : State) : Result :=
  .next ((s.at t).reqIn port 2 p 0x11 fun s =>
    if !wordSized p.addr p.payload.length || decide (2 ^ 24 ≤ p.addr) then s.sendRsp p 0x11 1 []
    else if isMsix p.addr then s.sendRsp p 0x11 0 []
    else (s.busWrite (masterCode (.ring p.src)) p.addr p.payload x).sendRsp p 0x11 0 [])

end Sys2Proof.Machine
end

