-- ==== Sys2Proof/Machine/Service.lean ====
section
/-!
DEFINITION. The commands of chapter 19 and of R23: boundary scan and service instructions, the service Ethernet, the fluid-sensor
buses, the cue lines, encoder supplies, timing PLLs, lockstep pairs and PERST#.
-/
namespace Sys2Proof.Machine

/-! ### Boundary scan and service instructions (R489, R490, R504) -/

/-- An instruction is shifted into the TAP of a module whose logic is powered. -/
def State.tap (s : State) (ir : Nat) (g : State → State) : State :=
  if s.sys.phase == .up || s.sys.phase == .booting then g { s with svc := { s.svc with tapIr := ir } } else s

/-- EXTEST is selected. -/
def execExtest (t : Nat) (s : State) : Result := .next ((s.at t).tap 0x00 fun s => s)

/-- SAMPLE/PRELOAD is selected. -/
def execSamplePreload (t : Nat) (s : State) : Result := .next ((s.at t).tap 0x02 fun s => s)

/-- BYPASS is selected. -/
def execBypass (t : Nat) (s : State) : Result := .next ((s.at t).tap 0xFF fun s => s)

/-- Service instructions are accepted in Night or Midnight, while the hub die lies within 0–95 °C (R407, R489). -/
def State.serviceOk (s : State) : Bool := s.sys.phase == .up && (s.st == NIGHT || s.st == MIDNIGHT) && s.nvOk

/-- The status of the last service action changed. -/
def State.fwState (s : State) (c : Nat) : State := { s with svc := { s.svc with fwStatus := c } }

/-- A service instruction that acts: refused by its status, or passed over while a FW_COMMIT runs. -/
def State.serviceAct (s : State) (g : State → State) : State :=
  if s.svc.fwStatus = 1 then s else if s.serviceOk then g s else s.fwState 4

/-- FW_STATUS: the status of the last service action and the words loaded are shifted out. -/
def execFwStatus (t : Nat) (s : State) : Result :=
  .next ((s.at t).tap 0x40 fun s => s.emit (.tap ((if s.serviceOk then s.svc.fwStatus else 4) * 2 ^ 24 + s.svc.fwWords)))

/-- FW_LOAD: a byte offset in the load buffer in [63:32], and one data word. -/
def execFwLoad (t w : Nat) (s : State) : Result :=
  let off := w / 2 ^ 32 % 2 ^ 32
  .next ((s.at t).tap 0x41 fun s => s.serviceAct fun s =>
    if off % 4 = 0 && off < 2 ^ 26 then
      ({ s with svc := { s.svc with fwBuf := Mem.putBytes (fun _ => 0) off (toLe 4 w) s.svc.fwBuf, fwWords := sat 24 (s.svc.fwWords + 1) } }).fwState 2
    else s.fwState 4)

/-- FW_COMMIT: the buffer is being written to the slot named in bit 0. -/
def execFwCommit (t v : Nat) (s : State) : Result :=
  .next ((s.at t).tap 0x42 fun s => s.serviceAct fun s => { s with svc := { s.svc with fwSlot := v % 2 } }.fwState 1)

/-- FW_COMMIT_COMPLETE: the buffer stands in its slot, and `good` says whether its CRC-32C passes; the buffer is cleared. -/
def execFwCommitComplete (t : Nat) (good : Bool) (s : State) : Result :=
  let s := s.at t
  .next (if s.svc.fwStatus = 1 then
      let f : FwSlot := { words := s.svc.fwWords, bytes := s.svc.fwBuf }
      let s := { s with nv := if s.svc.fwSlot = 0 then { s.nv with fwA := f } else { s.nv with fwB := f } }
      { s with svc := { s.svc with fwBuf := [], fwWords := 0 } }.fwState (if good then 2 else 3)
    else s)

/-- LOCK_CLEAR: its value erases the layout key and clears LAYOUT_LOCK; any other has no effect. -/
def execLockClear (t v : Nat) (s : State) : Result :=
  .next ((s.at t).tap 0x43 fun s => s.serviceAct fun s =>
    if v % 2 ^ 32 = 0x4C4B434C then ({ s with nv := { s.nv with key := none, layoutLock := false } }).fwState 2 else s)

/-! ### Service Ethernet (R491, R492) -/

/-- The engine's IPv4 address. -/
def State.ipAddr (s : State) : Nat := 0xA9FE0100 + (if s.fb RING_STATUS_POS_VALID then s.eid % 64 + 1 else 100)

/-- ARP_REQUEST: a request for an address. -/
def execArpRequest (t a : Nat) (s : State) : Result :=
  let s := s.at t
  .next (if s.powered && a == s.ipAddr then s.emit (.arp a) else s)

/-- ICMP_ECHO: an echo request of up to 1,472 bytes of data, from an address. -/
def execIcmpEcho (t src : Nat) (data : List Nat) (s : State) : Result :=
  let s := s.at t
  .next (if s.powered && data.length ≤ 1472 then s.emit (.icmp src data) else s)

/-- Four bytes of BAR0 as the register-read service sees them, without a side effect (R492). -/
def State.peek (s : State) (off : Nat) : List Nat :=
  if !s.sys.bootDone then [0, 0, 0, 0]
  else if s.st = MIDNIGHT && !sysOrFlt off then toLe 4 (Config.midnightRead off s.draws).toNat
  else if isStaging off then s.localBytes 2 off 4
  else if inWindow off then (List.range 4).map fun i => s.windowByte (off + i)
  else if isAlias off then
    if off < 0xBC0000 then s.formBytes (s.aliasAddr ((off - 0xB00000) % 2 ^ 18)) 4 else [0, 0, 0, 0]
  else if isMsix off then (List.range 4).map fun i => s.msixByte (off + i)
  else if (regRow? off).isSome then toLe 4 (s.regWord off).toNat
  else [0, 0, 0, 0]

/-- REGISTER_READ_SERVICE: a datagram from an address and port to port 19272. -/
def execRegisterReadService (t src port : Nat) (data : List Nat) (s : State) : Result :=
  let s := s.at t
  let off := leAt data 0 4
  let n := leAt data 4 2
  .next (if !s.powered || data.length != 8 then s
    else if off % 4 = 0 && 1 ≤ n && n ≤ 256 && off + 4 * n ≤ 2 ^ 24 then
      let d := (List.range n).flatMap fun i => s.peek (off + 4 * i)
      s.drawn.emit (.udp src port 19272 (data ++ d))
    else s.emit (.udp src port 19272 (toLe 4 off ++ [0, 0] ++ data.drop 6)))

/-! ### Fluid-sensor buses (R493, R494, R504) -/

/-- One of the two bridges, and that bridge changed. -/
def State.fluid (s : State) (k : Nat) : Fluid := if k = 0 then s.svc.fluid0 else s.svc.fluid1
def State.modFluid (s : State) (k : Nat) (g : Fluid → Fluid) : State :=
  { s with svc := if k = 0 then { s.svc with fluid0 := g s.svc.fluid0 } else { s.svc with fluid1 := g s.svc.fluid1 } }

/-- The next waiting datagram is sent on the bus. -/
def State.fluidNext (s : State) (k : Nat) : State :=
  match (s.fluid k).sending, (s.fluid k).tx with
  | none, d :: r => (s.modFluid k fun x => { x with tx := r, sending := some d }).emit (.fluid k d)
  | _, _ => s

/-- FLUID_BRIDGE_DATAGRAM: a datagram from an address and port reaches a bridge's port; `busy` says that a bus byte is being
received, so that it waits for the bus to fall idle. -/
def execFluidBridgeDatagram (t bus src port : Nat) (data : List Nat) (busy : Bool) (s : State) : Result :=
  let s := s.at t
  .next (if !s.powered || 2 ≤ bus || data.isEmpty || decide (256 < data.length) then s
    else
      let s := s.modFluid bus fun x => { x with peer := some (src, port) }
      let x := s.fluid bus
      if x.sending.isNone && x.tx.isEmpty && !busy then (s.modFluid bus fun x => { x with tx := [data] }).fluidNext bus
      else if x.tx.length < 4 then s.modFluid bus fun x => { x with tx := x.tx ++ [data] }
      else s)

/-- FLUID_BUS_IDLE: a bus has been idle for 2 character times after the bytes given; they go out in datagrams of at most 256,
or, having arrived while the engine was sending, are discarded; the next waiting datagram is then sent. -/
def execFluidBusIdle (t bus : Nat) (data : List Nat) (s : State) : Result :=
  let s := s.at t
  .next (if !s.powered || 2 ≤ bus then s
    else
      let x := s.fluid bus
      let s := match x.sending, x.peer with
        | none, some (a, p) => (pieces 256 (data.length / 256 + 1) 0 data).foldl (fun (s : State) (e : Nat × List Nat) => s.emit (.udp a p (19273 + bus) e.2)) s
        | _, _ => s
      (s.modFluid bus fun x => { x with sending := none }).fluidNext bus)

/-! ### Encoder supplies and cue lines (R65, R87, R100, R484 to R486, R508) -/

/-- ENCODER_SUPPLY_SHORT: a position input's encoder supply is folded back (R413, R484). -/
def execEncoderSupplyShort (t n : Nat) (s : State) : Result :=
  let s := s.at t
  .next (if s.powered && n < 16 then s.raise kSYS_NOTE (0x80000000 + n) else s)

/-- CUE_VIN_LOW: the supply of a cue connector, 0 CUE_LO or 1 CUE_HI, falls below 15 V (R486). -/
def execCueVinLow (t c : Nat) (s : State) : Result :=
  let s := s.at t
  .next (if c < 2 then
      ({ s with svc := { s.svc with vinLow := if s.svc.vinLow.contains c then s.svc.vinLow else c :: s.svc.vinLow } }).showCues
    else s)

/-- CUE_VIN_RESTORED: the supply has been above 16 V for 100 ms; its lines drive again, and their notes are armed (R486). -/
def execCueVinRestored (t c : Nat) (s : State) : Result :=
  let s := s.at t
  .next ({ s with svc := { s.svc with vinLow := s.svc.vinLow.filter (· != c), vinNoted := s.svc.vinNoted.filter fun n => n / 8 != c } }).showCues

/-- CUE_PULSE_END: an event output's pulse is over (R508). -/
def execCuePulseEnd (t n : Nat) (s : State) : Result :=
  let s := s.at t
  .next (match lookup? s.svc.cuePulse n with
    | some e => if e ≤ s.now then ({ s with svc := { s.svc with cuePulse := erase s.svc.cuePulse n } }).driveCue n else s
    | none => s)

/-- CUE_OUTPUT_OVERLOAD: a driven output meets its current limit and turns off for 10 ms (R485). -/
def execCueOutputOverload (t n : Nat) (s : State) : Result :=
  let s := s.at t
  .next (if (lookup? s.svc.cueOut n).isSome then
      ({ s with svc := { s.svc with cueOver := insertKey n (s.now + ms 10) s.svc.cueOver } }).driveCue n
    else s)

/-- CUE_OVERLOAD_RETRY: 10 ms after an overload the line is driven again (R485). -/
def execCueOverloadRetry (t n : Nat) (s : State) : Result :=
  let s := s.at t
  .next (match lookup? s.svc.cueOver n with
    | some e => if e ≤ s.now then ({ s with svc := { s.svc with cueOver := erase s.svc.cueOver n } }).driveCue n else s
    | none => s)

/-- A start pulse of a length on cue line 0 in stand-alone operation (R65, R67): in Morning the check pattern begins, and a spit
burst under way stops at the end of its cycle; a pulse out of length, or in Noon or Dusk, is noted. -/
def State.startPulse (s : State) (len : Nat) : State :=
  if !s.fb SYS_STATE_STANDALONE then s
  else if s.st = NOON || s.st = DUSK || (s.st = MORNING && (len < us 10 || ms 10 < len)) then s.raise kSYS_NOTE 0x030
  else if s.st = MORNING then
    let rest := s.sys.spitNext
    let s := s.noPattern
    let s := { s with sys := { s.sys with spitNext := none, spitDeadline := if rest.isSome then none else s.sys.spitDeadline, spitResume := rest } }
    let s := s.enterNoon 0x0D
    { s with sys := { s.sys with patternWait := true } }
  else s

/-- What a cue input's function does on an active edge (R87, R506). -/
def State.cueFunction (s : State) (n : Nat) : State :=
  let r := s.cueRec n
  match r.func with
  | 1 => s.openWin r.param
  | 2 => s.closeWin r.param
  | 3 => s.runRequest
  | 4 => s.stopRequest
  | 8 => s.incF (POS_EVCNT_c_VALUE r.param) 1
  | _ => s

/-- CUE_INPUT_EDGE: the filtered level of a cue line has changed (R87, R508). On an input its edge emits its source and has the
line's function; a line being switched over ignores it with a NOTE (R100, R413). -/
def execCueInputEdge (t n : Nat) (level : Bool) (s : State) : Result :=
  let s := s.at t
  let was := (lookup? s.svc.cueIn n).getD false
  .next (if !s.powered || 16 ≤ n || was == level then s
    else
      let s := { s with svc := { s.svc with cueIn := insertKey n level s.svc.cueIn } }
      let act := level != (s.cueRec n).activeLow
      let src := (if act then 0x030 else 0x040) + n
      if !cueInput (s.cueRec n).func then s
      else if s.cueHeld n then s.raise kSYS_NOTE src
      else
        let s := s.emitSrc src
        let s := if act then s.cueFunction n else s
        if n != 0 then s
        else if level then { s with sys := { s.sys with cue0Rise := some s.now } }
        else match s.sys.cue0Rise with
          | some x => ({ s with sys := { s.sys with cue0Rise := none } }).startPulse (s.now - x)
          | none => s)

/-! ### Timing PLLs, lockstep pairs, PERST# (R23, R56, R259, R414) -/

/-- PLL_LOSS_OF_LOCK: the timing PLL of the hub die (0) or a lane die (1–4) loses lock, and the die's strobes are gated off. -/
def execPllLossOfLock (t die : Nat) (s : State) : Result :=
  let s := s.at t
  .next (if !s.powered || 5 ≤ die || (s.health.dieUnlocked.contains die && !s.health.dieAwait.contains die) then s
    else
      let s := { s with health := { s.health with dieUnlocked := die :: s.health.dieUnlocked.filter (· != die),
                                                  dieAwait := s.health.dieAwait.filter (· != die) } }
      s.raiseAs die 0 kSYS_PLL_UNLOCK die false)

/-- PLL_RELOCK: the PLL is locked again; strobes resume at the next line boundary. -/
def execPllRelock (t die : Nat) (s : State) : Result :=
  let s := s.at t
  .next (if s.health.dieUnlocked.contains die && !s.health.dieAwait.contains die then
      { s with health := { s.health with dieAwait := die :: s.health.dieAwait } }
    else s)

/-- LOCKSTEP_DISAGREEMENT: the two cores of a pair disagree at a program counter. -/
def execLockstepDisagreement (t pair pc : Nat) (s : State) : Result :=
  let s := s.at t
  .next (if s.powered && pair < 2 then s.raiseAs 0 pair kSYS_LOCKSTEP pc false else s)

/-- PERST_RELEASE: PERST# is released and the link trains, with the options that the host configures. -/
def execPerstRelease (t : Nat) (c : HostCfg) (s : State) : Result :=
  let s := s.at t
  .next (if s.sys.phase == .up || s.sys.phase == .booting then
      ({ s with host := { s.host with linkUp := true, speed := c.speed, width := c.width, tags := c.tags, phantom := c.phantom, noSnoop := c.noSnoop,
                                      mrrs := c.mrrs, ctoUs := c.ctoUs } }).showHost
    else s)

end Sys2Proof.Machine
end

