-- ==== Sys2Proof/Machine/Dispatch.lean ====
section
/-!
DEFINITION. One arm per command of the opcode table: the dispatch of a command to its meaning.
-/
namespace Sys2Proof.Machine

def exec (i : Instr) (s : State) : Host.Outcome State Fault Refusal :=
  match i with
  | .registerWrite t m off data x => Sys2Proof.Machine.execRegisterWrite t m off data x s
  | .loReadSnapshot t m off n => Sys2Proof.Machine.execLoReadSnapshot t m off n s
  | .hiWritePair t m off v => Sys2Proof.Machine.execHiWritePair t m off v s
  | .rcRead t m off n => Sys2Proof.Machine.execRcRead t m off n s
  | .mainsApplied t straps dc clockOk => Sys2Proof.Machine.execMainsApplied t straps dc clockOk s
  | .firmwareCheckComplete t a b => Sys2Proof.Machine.execFirmwareCheckComplete t a b s
  | .bootSequenceComplete t => Sys2Proof.Machine.execBootSequenceComplete t s
  | .sysCtrlDawn t v x => Sys2Proof.Machine.execSysCtrlDawn t v x s
  | .sysCtrlNight t v => Sys2Proof.Machine.execSysCtrlNight t v s
  | .runRequest t v => Sys2Proof.Machine.execRunRequest t v s
  | .stopRequest t v => Sys2Proof.Machine.execStopRequest t v s
  | .sysCtrlAbandon t v => Sys2Proof.Machine.execSysCtrlAbandon t v s
  | .dawnDone t => Sys2Proof.Machine.execDawnDone t s
  | .standaloneTimerExpiry t x => Sys2Proof.Machine.execStandaloneTimerExpiry t x s
  | .runPendingActed t => Sys2Proof.Machine.execRunPendingActed t s
  | .duskComplete t => Sys2Proof.Machine.execDuskComplete t s
  | .logicReserveReached t => Sys2Proof.Machine.execLogicReserveReached t s
  | .powerCycle t => Sys2Proof.Machine.execPowerCycle t s
  | .spitTimerExpiry t => Sys2Proof.Machine.execSpitTimerExpiry t s
  | .spitCycle t => Sys2Proof.Machine.execSpitCycle t s
  | .cueInputEdge t n level => Sys2Proof.Machine.execCueInputEdge t n level s
  | .patternLineTimeout t => Sys2Proof.Machine.execPatternLineTimeout t s
  | .arm t v => Sys2Proof.Machine.execArm t v s
  | .enableCheckComplete t => Sys2Proof.Machine.execEnableCheckComplete t s
  | .live t v => Sys2Proof.Machine.execLive t v s
  | .liveCheckComplete t => Sys2Proof.Machine.execLiveCheckComplete t s
  | .store t v => Sys2Proof.Machine.execStore t v s
  | .storeComplete t => Sys2Proof.Machine.execStoreComplete t s
  | .cfgKeyStore t v => Sys2Proof.Machine.execCfgKeyStore t v s
  | .layoutLock t v => Sys2Proof.Machine.execLayoutLock t v s
  | .stagingWrite t off data => Sys2Proof.Machine.execStagingWrite t off data s
  | .cueSafeIntervalEnd t n => Sys2Proof.Machine.execCueSafeIntervalEnd t n s
  | .countStep t n a b ph => Sys2Proof.Machine.execCountStep t n a b ph s
  | .indexLatch t n z => Sys2Proof.Machine.execIndexLatch t n z s
  | .interpolatedCrossing t n => Sys2Proof.Machine.execInterpolatedCrossing t n s
  | .standstill t n => Sys2Proof.Machine.execStandstill t n s
  | .posPreset t n v => Sys2Proof.Machine.execPosPreset t n v s
  | .posCmpWrite t n v => Sys2Proof.Machine.execPosCmpWrite t n v s
  | .decoderCrossCheck t n same => Sys2Proof.Machine.execDecoderCrossCheck t n same s
  | .eventFabricDelivery t => Sys2Proof.Machine.execEventFabricDelivery t s
  | .lineref t port p => Sys2Proof.Machine.execLineref t port p s
  | .linerefRelease t ch => Sys2Proof.Machine.execLinerefRelease t ch s
  | .linerefHeartbeat t n => Sys2Proof.Machine.execLinerefHeartbeat t n s
  | .linerefLost t ch => Sys2Proof.Machine.execLinerefLost t ch s
  | .linkDelayMeasurement t port delay => Sys2Proof.Machine.execLinkDelayMeasurement t port delay s
  | .strobeLaunch t n => Sys2Proof.Machine.execStrobeLaunch t n s
  | .gapSwapTimeout t w => Sys2Proof.Machine.execGapSwapTimeout t w s
  | .pauseEnd t w => Sys2Proof.Machine.execPauseEnd t w s
  | .laneCycleStart t e => Sys2Proof.Machine.execLaneCycleStart t e s
  | .cyclePackComplete t e => Sys2Proof.Machine.execCyclePackComplete t e s
  | .heaterMeasurement t n r1 r2 => Sys2Proof.Machine.execHeaterMeasurement t n r1 r2 s
  | .hlthForce t v => Sys2Proof.Machine.execHlthForce t v s
  | .bypassRequest t v => Sys2Proof.Machine.execBypassRequest t v s
  | .laneParityError t e => Sys2Proof.Machine.execLaneParityError t e s
  | .laneEnginePrepared t n => Sys2Proof.Machine.execLaneEnginePrepared t n s
  | .rollIntervalExpiry t d => Sys2Proof.Machine.execRollIntervalExpiry t d s
  | .rollSelfTestComplete t d pass => Sys2Proof.Machine.execRollSelfTestComplete t d pass s
  | .documentRenderStart t w => Sys2Proof.Machine.execDocumentRenderStart t w s
  | .documentRendered t w => Sys2Proof.Machine.execDocumentRendered t w s
  | .prefillComplete t n => Sys2Proof.Machine.execPrefillComplete t n s
  | .lineBufferWrite t n j => Sys2Proof.Machine.execLineBufferWrite t n j s
  | .hostFacingReset t kind => Sys2Proof.Machine.execHostFacingReset t kind s
  | .streamEnable t k v => Sys2Proof.Machine.execStreamEnable t k v s
  | .streamDisable t k v => Sys2Proof.Machine.execStreamDisable t k v s
  | .streamReset t k v => Sys2Proof.Machine.execStreamReset t k v s
  | .sqDoorbell t k v => Sys2Proof.Machine.execSqDoorbell t k v s
  | .cqDoorbell t k v => Sys2Proof.Machine.execCqDoorbell t k v s
  | .descriptorFetch t k => Sys2Proof.Machine.execDescriptorFetch t k s
  | .descriptorAccept t k => Sys2Proof.Machine.execDescriptorAccept t k s
  | .nop t k => Sys2Proof.Machine.execNop t k s
  | .copy t k => Sys2Proof.Machine.execCopy t k s
  | .copy2d t k => Sys2Proof.Machine.execCopy2d t k s
  | .fill t k => Sys2Proof.Machine.execFill t k s
  | .compare t k => Sys2Proof.Machine.execCompare t k s
  | .compose t k => Sys2Proof.Machine.execCompose t k s
  | .slotAlloc t k => Sys2Proof.Machine.execSlotAlloc t k s
  | .slotFree t k => Sys2Proof.Machine.execSlotFree t k s
  | .hostReadCompletion t tag status data => Sys2Proof.Machine.execHostReadCompletion t tag status data s
  | .hostReadTimeout t tag => Sys2Proof.Machine.execHostReadTimeout t tag s
  | .hostReadRetry t tag => Sys2Proof.Machine.execHostReadRetry t tag s
  | .unexpectedCompletion t tag => Sys2Proof.Machine.execUnexpectedCompletion t tag s
  | .descriptorComplete t k => Sys2Proof.Machine.execDescriptorComplete t k s
  | .barrierAck t k => Sys2Proof.Machine.execBarrierAck t k s
  | .pacingResume t k => Sys2Proof.Machine.execPacingResume t k s
  | .dmaCqStall t k => Sys2Proof.Machine.execDmaCqStall t k s
  | .bar2Access t a n data x => Sys2Proof.Machine.execBar2Access t a n data x s
  | .bar4Access t a n data => Sys2Proof.Machine.execBar4Access t a n data s
  | .enum t v => Sys2Proof.Machine.execEnum t v s
  | .join t port p => Sys2Proof.Machine.execJoin t port p s
  | .joinTimeout t => Sys2Proof.Machine.execJoinTimeout t s
  | .regRd t port p => Sys2Proof.Machine.execRegRd t port p s
  | .regWr t port p x => Sys2Proof.Machine.execRegWr t port p x s
  | .fsRd t port p => Sys2Proof.Machine.execFsRd t port p s
  | .fsWr t port p => Sys2Proof.Machine.execFsWr t port p s
  | .hostRd t port p => Sys2Proof.Machine.execHostRd t port p s
  | .hostWr t port p => Sys2Proof.Machine.execHostWr t port p s
  | .docReport t port p => Sys2Proof.Machine.execDocReport t port p s
  | .data t port p => Sys2Proof.Machine.execData t port p s
  | .ack t port p => Sys2Proof.Machine.execAck t port p s
  | .fault t port p => Sys2Proof.Machine.execFault t port p s
  | .stop t port p => Sys2Proof.Machine.execStop t port p s
  | .wrap t port p => Sys2Proof.Machine.execWrap t port p s
  | .budget t port p => Sys2Proof.Machine.execBudget t port p s
  | .ringFrameRetry t port k => Sys2Proof.Machine.execRingFrameRetry t port k s
  | .ringLinkFailure t port => Sys2Proof.Machine.execRingLinkFailure t port s
  | .ringLinkTrained t port far => Sys2Proof.Machine.execRingLinkTrained t port far s
  | .ringLinkRestore t port => Sys2Proof.Machine.execRingLinkRestore t port s
  | .drainMarkerReturn t port => Sys2Proof.Machine.execDrainMarkerReturn t port s
  | .ringReqTimeout t rtag => Sys2Proof.Machine.execRingReqTimeout t rtag s
  | .ringJoinTmo t w => Sys2Proof.Machine.execRingJoinTmo t w s
  | .tilePacketSend t n => Sys2Proof.Machine.execTilePacketSend t n s
  | .telemetryReport t n r crcOk => Sys2Proof.Machine.execTelemetryReport t n r crcOk s
  | .tileTrainTimeout t n => Sys2Proof.Machine.execTileTrainTimeout t n s
  | .tileLogicOvercurrent t n => Sys2Proof.Machine.execTileLogicOvercurrent t n s
  | .tileFuseClose t q => Sys2Proof.Machine.execTileFuseClose t q s
  | .tileVppCheck t n => Sys2Proof.Machine.execTileVppCheck t n s
  | .tileVppDischarged t n => Sys2Proof.Machine.execTileVppDischarged t n s
  | .efuseTrip t n => Sys2Proof.Machine.execEfuseTrip t n s
  | .tileLogicOvervoltage t n => Sys2Proof.Machine.execTileLogicOvervoltage t n s
  | .tileLinkLost t n => Sys2Proof.Machine.execTileLinkLost t n s
  | .hmRead t n a resp => Sys2Proof.Machine.execHmRead t n a resp s
  | .hmWrite t n a data resp => Sys2Proof.Machine.execHmWrite t n a data resp s
  | .authRead t n nonce resp => Sys2Proof.Machine.execAuthRead t n nonce resp s
  | .getNonce t n resp => Sys2Proof.Machine.execGetNonce t n resp s
  | .authAdd t n resp => Sys2Proof.Machine.execAuthAdd t n resp s
  | .hmRetry t n => Sys2Proof.Machine.execHmRetry t n s
  | .tileUkeyStore t v => Sys2Proof.Machine.execTileUkeyStore t v s
  | .mainsLost t reason => Sys2Proof.Machine.execMainsLost t reason s
  | .mainsPresent t => Sys2Proof.Machine.execMainsPresent t s
  | .mainsQualified t => Sys2Proof.Machine.execMainsQualified t s
  | .linkOvervoltage t v => Sys2Proof.Machine.execLinkOvervoltage t v s
  | .linkHigh t v => Sys2Proof.Machine.execLinkHigh t v s
  | .linkPfcStop t v => Sys2Proof.Machine.execLinkPfcStop t v s
  | .linkStoreDischarge t v => Sys2Proof.Machine.execLinkStoreDischarge t v s
  | .linkUndervoltage t v => Sys2Proof.Machine.execLinkUndervoltage t v s
  | .brokerUpdate t m => Sys2Proof.Machine.execBrokerUpdate t m s
  | .railLimit t q => Sys2Proof.Machine.execRailLimit t q s
  | .railUndervoltage t q => Sys2Proof.Machine.execRailUndervoltage t q s
  | .railShort t q => Sys2Proof.Machine.execRailShort t q s
  | .railRampComplete t q => Sys2Proof.Machine.execRailRampComplete t q s
  | .logicOverdraw t w => Sys2Proof.Machine.execLogicOverdraw t w s
  | .storeOvervoltage t v => Sys2Proof.Machine.execStoreOvervoltage t v s
  | .dcInputQualified t => Sys2Proof.Machine.execDcInputQualified t s
  | .dcInputRange t v => Sys2Proof.Machine.execDcInputRange t v s
  | .dcInputReversed t v => Sys2Proof.Machine.execDcInputReversed t v s
  | .budgetSend t => Sys2Proof.Machine.execBudgetSend t s
  | .dcRampComplete t => Sys2Proof.Machine.execDcRampComplete t s
  | .handbackComplete t => Sys2Proof.Machine.execHandbackComplete t s
  | .motorRun t a v => Sys2Proof.Machine.execMotorRun t a v s
  | .motorStop t a v => Sys2Proof.Machine.execMotorStop t a v s
  | .speedLoopUpdate t a rpm pin => Sys2Proof.Machine.execSpeedLoopUpdate t a rpm pin s
  | .currentControlPeriod t a smp => Sys2Proof.Machine.execCurrentControlPeriod t a smp s
  | .motCmdLost t => Sys2Proof.Machine.execMotCmdLost t s
  | .motCmdRestored t => Sys2Proof.Machine.execMotCmdRestored t s
  | .atSpeed t a => Sys2Proof.Machine.execAtSpeed t a s
  | .catchCheckComplete t a amp full => Sys2Proof.Machine.execCatchCheckComplete t a amp full s
  | .openPhaseCheckComplete t a open_ => Sys2Proof.Machine.execOpenPhaseCheckComplete t a open_ s
  | .modelIdentificationComplete t a rs ld lq => Sys2Proof.Machine.execModelIdentificationComplete t a rs ld lq s
  | .initialPositionFound t a weak => Sys2Proof.Machine.execInitialPositionFound t a weak s
  | .catchLock t a rpm => Sys2Proof.Machine.execCatchLock t a rpm s
  | .catchOverRetry t a => Sys2Proof.Machine.execCatchOverRetry t a s
  | .estimatorHandover t a => Sys2Proof.Machine.execEstimatorHandover t a s
  | .openPhase t a p1 p2 => Sys2Proof.Machine.execOpenPhase t a p1 p2 s
  | .stall t a => Sys2Proof.Machine.execStall t a s
  | .overcurrentTrip t a phase => Sys2Proof.Machine.execOvercurrentTrip t a phase s
  | .thermalSample t n x ro => Sys2Proof.Machine.execThermalSample t n x ro s
  | .oscillatorRecalibration t d a b => Sys2Proof.Machine.execOscillatorRecalibration t d a b s
  | .thermalPauseStepEnd t w => Sys2Proof.Machine.execThermalPauseStepEnd t w s
  | .duskFinishRecheck t => Sys2Proof.Machine.execDuskFinishRecheck t s
  | .storeConverterResume t => Sys2Proof.Machine.execStoreConverterResume t s
  | .storeChargingResume t => Sys2Proof.Machine.execStoreChargingResume t s
  | .faultMessageAccepted t die => Sys2Proof.Machine.execFaultMessageAccepted t die s
  | .floodClear t => Sys2Proof.Machine.execFloodClear t s
  | .logRecordWrite t => Sys2Proof.Machine.execLogRecordWrite t s
  | .nvLogWrite t => Sys2Proof.Machine.execNvLogWrite t s
  | .fltPendAck t v => Sys2Proof.Machine.execFltPendAck t v s
  | .relayReset t v => Sys2Proof.Machine.execRelayReset t v s
  | .logEn t v => Sys2Proof.Machine.execLogEn t v s
  | .fltLogHeadWrite t v => Sys2Proof.Machine.execFltLogHeadWrite t v s
  | .fltInject t v => Sys2Proof.Machine.execFltInject t v s
  | .runNow t v => Sys2Proof.Machine.execRunNow t v s
  | .calImport t v => Sys2Proof.Machine.execCalImport t v s
  | .calInstanceDue t k => Sys2Proof.Machine.execCalInstanceDue t k s
  | .calMeasurementComplete t target inst vals => Sys2Proof.Machine.execCalMeasurementComplete t target inst vals s
  | .calSlewIdleStep t k => Sys2Proof.Machine.execCalSlewIdleStep t k s
  | .calOverdue t k => Sys2Proof.Machine.execCalOverdue t k s
  | .aliasSetWrite t off data => Sys2Proof.Machine.execAliasSetWrite t off data s
  | .aliasClearWrite t off data => Sys2Proof.Machine.execAliasClearWrite t off data s
  | .memEccCorrected t mem a => Sys2Proof.Machine.execMemEccCorrected t mem a s
  | .memEccUncorrectable t mem a r => Sys2Proof.Machine.execMemEccUncorrectable t mem a r s
  | .pmcLoad t n v => Sys2Proof.Machine.execPmcLoad t n v s
  | .pmcDump t => Sys2Proof.Machine.execPmcDump t s
  | .dumpNow t v => Sys2Proof.Machine.execDumpNow t v s
  | .dumpEn t v => Sys2Proof.Machine.execDumpEn t v s
  | .tagLoad t v => Sys2Proof.Machine.execTagLoad t v s
  | .tagRecordComplete t abandoned => Sys2Proof.Machine.execTagRecordComplete t abandoned s
  | .tagPop t v => Sys2Proof.Machine.execTagPop t v s
  | .calendarSecond t => Sys2Proof.Machine.execCalendarSecond t s
  | .clockSet t m v => Sys2Proof.Machine.execClockSet t m v s
  | .clkDateRead t m => Sys2Proof.Machine.execClkDateRead t m s
  | .extest t => Sys2Proof.Machine.execExtest t s
  | .samplePreload t => Sys2Proof.Machine.execSamplePreload t s
  | .bypass t => Sys2Proof.Machine.execBypass t s
  | .fwStatus t => Sys2Proof.Machine.execFwStatus t s
  | .fwLoad t w => Sys2Proof.Machine.execFwLoad t w s
  | .fwCommit t v => Sys2Proof.Machine.execFwCommit t v s
  | .fwCommitComplete t good => Sys2Proof.Machine.execFwCommitComplete t good s
  | .lockClear t v => Sys2Proof.Machine.execLockClear t v s
  | .arpRequest t a => Sys2Proof.Machine.execArpRequest t a s
  | .icmpEcho t src data => Sys2Proof.Machine.execIcmpEcho t src data s
  | .registerReadService t src port data => Sys2Proof.Machine.execRegisterReadService t src port data s
  | .fluidBridgeDatagram t bus src port data busy => Sys2Proof.Machine.execFluidBridgeDatagram t bus src port data busy s
  | .fluidBusIdle t bus data => Sys2Proof.Machine.execFluidBusIdle t bus data s
  | .encoderSupplyShort t n => Sys2Proof.Machine.execEncoderSupplyShort t n s
  | .cueVinLow t c => Sys2Proof.Machine.execCueVinLow t c s
  | .cuePulseEnd t n => Sys2Proof.Machine.execCuePulseEnd t n s
  | .cueOutputOverload t n => Sys2Proof.Machine.execCueOutputOverload t n s
  | .cueOverloadRetry t n => Sys2Proof.Machine.execCueOverloadRetry t n s
  | .pllLossOfLock t die => Sys2Proof.Machine.execPllLossOfLock t die s
  | .pllRelock t die => Sys2Proof.Machine.execPllRelock t die s
  | .lockstepDisagreement t pair pc => Sys2Proof.Machine.execLockstepDisagreement t pair pc s
  | .gateDriverFeedbackFault t a sw => Sys2Proof.Machine.execGateDriverFeedbackFault t a sw s
  | .perstRelease t c => Sys2Proof.Machine.execPerstRelease t c s
  | .cueVinRestored t c => Sys2Proof.Machine.execCueVinRestored t c s

end Sys2Proof.Machine
end

