-- ==== Sys2Proof/Safety.lean ====
section
/-!
DEFINITION. What a safe run keeps: the canonical form of the register store, the memories and the tables, and the kinds of
output that leave the engine.
-/
namespace Sys2Proof.Machine

/-- The canonical form of a byte memory whose unlisted bytes read as `d`. -/
abbrev Memory.wf (d : Nat → Byte) (m : List Host.Cell) : Bool := Sparse.wf d m

/-- Whether an output is a strobe's rising edge (R149, R330). -/
def Output.isStrobe : Output → Bool
  | .strobe .. => true
  | _ => false

/-- From `s` to `s'` one message joins those that wait at the dies for the hub: its source's die and instance, its kind, and
its address (R411, R415). -/
def State.Raised (s s' : State) (die inst : Nat) (k : Kind) (addr : Nat) : Prop :=
  ∃ m : FaultMsg, s'.flt.wire = s.flt.wire ++ [m] ∧ m.die = die ∧ m.inst = inst ∧ m.group = k.group ∧ m.kind = k.code ∧
    m.addr = addr % 2 ^ 32

/-- From `s` to `s'` a message of a kind with an address has joined those that wait at the dies, whatever joined with it
(R411). -/
def State.Reported (s s' : State) (k : Kind) (addr : Nat) : Prop :=
  ∃ l, s'.flt.wire = s.flt.wire ++ l ∧ ∃ m ∈ l, m.group = k.group ∧ m.kind = k.code ∧ m.addr = addr % 2 ^ 32

/-- From `s` to `s'` an output that satisfies `p` has left the engine, whatever left with it. -/
def State.Put (s s' : State) (p : Output → Prop) : Prop := ∃ l, s'.out = l ++ s.out ∧ ∃ o ∈ l, p o

/-- From `s` to `s'` a source has emitted into the event fabric (R129). -/
def State.Emitted (s s' : State) (src : Nat) : Prop := ∃ l, s'.pos.fabric = s.pos.fabric ++ l ∧ ∃ e ∈ l, e.src = src

/-- The canonical form of the state: the register store, the form store, the staging window, and the tables by tile,
window, nozzle and lane engine hold ascending keys and no entry equal to what an unlisted key reads as. -/
def State.wf (s : State) : Bool :=
  Sparse.wf regReset s.regs && Memory.wf Config.formPowerOn s.mem.form && Memory.wf (fun _ => 0) s.mem.staging &&
  Sparse.wf (fun _ => {}) s.fire && Sparse.wf (fun _ => {}) s.wins && Sparse.wf (fun _ => {}) s.noz &&
  Sparse.wf (fun _ => {}) s.tileH && Sparse.wf (fun _ => {}) s.lanes && Sparse.wf (fun _ => {}) s.ports

/-- The canonical form, part by part. -/
theorem State.wf_iff {s : State} : s.wf = true ↔
    Sparse.wf regReset s.regs = true ∧ Memory.wf Config.formPowerOn s.mem.form = true ∧
    Memory.wf (fun _ => 0) s.mem.staging = true ∧ Sparse.wf (fun _ => {}) s.fire = true ∧
    Sparse.wf (fun _ => {}) s.wins = true ∧ Sparse.wf (fun _ => {}) s.noz = true ∧
    Sparse.wf (fun _ => {}) s.tileH = true ∧ Sparse.wf (fun _ => {}) s.lanes = true ∧
    Sparse.wf (fun _ => {}) s.ports = true := by
  simp only [State.wf, Bool.and_eq_true, and_assoc]

/-! ### What a command may change -/

/-- The parts of the state besides the register store: what belongs to one chapter each, the form store and the staging
window. -/
inductive StatePart where
  | snaps
  | lows
  | ident
  | nv
  | sys
  | cfg
  | pos
  | fire
  | wins
  | noz
  | tileH
  | lanes
  | health
  | comp
  | host
  | dma
  | ring
  | ports
  | pwr
  | mot
  | thm
  | flt
  | cal
  | pmc
  | clk
  | svc
  | form
  | staging
deriving DecidableEq, Repr

/-- A part is the same in two states. -/
def StatePart.same (p : StatePart) (a c : State) : Prop :=
  match p with
  | .snaps => c.snaps = a.snaps
  | .lows => c.lows = a.lows
  | .ident => c.ident = a.ident
  | .nv => c.nv = a.nv
  | .sys => c.sys = a.sys
  | .cfg => c.cfg = a.cfg
  | .pos => c.pos = a.pos
  | .fire => c.fire = a.fire
  | .wins => c.wins = a.wins
  | .noz => c.noz = a.noz
  | .tileH => c.tileH = a.tileH
  | .lanes => c.lanes = a.lanes
  | .health => c.health = a.health
  | .comp => c.comp = a.comp
  | .host => c.host = a.host
  | .dma => c.dma = a.dma
  | .ring => c.ring = a.ring
  | .ports => c.ports = a.ports
  | .pwr => c.pwr = a.pwr
  | .mot => c.mot = a.mot
  | .thm => c.thm = a.thm
  | .flt => c.flt = a.flt
  | .cal => c.cal = a.cal
  | .pmc => c.pmc = a.pmc
  | .clk => c.clk = a.clk
  | .svc => c.svc = a.svc
  | .form => c.mem.form = a.mem.form
  | .staging => c.mem.staging = a.mem.staging

end Sys2Proof.Machine

namespace Sys2Proof
open Machine

/-- The parts that a command may change. -/
def Instr.touched : Instr → List StatePart
  | .registerWrite .. => [.lows, .nv, .sys, .cfg, .pos, .fire, .wins, .noz, .tileH, .lanes, .health, .comp, .host, .dma, .ring, .ports, .pwr, .mot, .flt, .cal, .pmc, .clk, .svc, .form, .staging]
  | .loReadSnapshot .. => [.snaps, .health, .flt]
  | .hiWritePair .. => [.lows, .nv, .sys, .cfg, .pos, .fire, .wins, .noz, .tileH, .lanes, .health, .comp, .host, .dma, .ring, .ports, .pwr, .mot, .flt, .cal, .pmc, .clk, .svc]
  | .rcRead .. => [.snaps, .health, .flt]
  | .mainsApplied .. => [.snaps, .lows, .ident, .sys, .cfg, .pos, .fire, .wins, .noz, .tileH, .lanes, .health, .comp, .host, .dma, .ring, .ports, .pwr, .mot, .thm, .flt, .cal, .pmc, .clk, .svc, .form, .staging]
  | .firmwareCheckComplete .. => [.ident, .sys, .cfg, .fire, .wins, .health, .comp, .host, .dma, .ring, .ports, .pwr, .mot, .flt, .cal, .svc]
  | .bootSequenceComplete .. => [.sys, .cfg, .wins, .health, .comp, .host, .dma, .ring, .ports, .pwr, .mot, .flt, .cal, .svc]
  | .sysCtrlDawn .. => [.nv, .sys, .cfg, .fire, .wins, .noz, .tileH, .lanes, .health, .comp, .host, .dma, .ring, .ports, .pwr, .mot, .flt, .cal, .svc]
  | .sysCtrlNight .. => [.nv, .sys, .cfg, .fire, .wins, .noz, .tileH, .lanes, .health, .comp, .host, .dma, .ring, .ports, .pwr, .mot, .flt, .cal, .svc]
  | .runRequest .. => [.nv, .sys, .cfg, .fire, .wins, .noz, .tileH, .lanes, .health, .comp, .host, .dma, .ring, .ports, .pwr, .mot, .flt, .cal, .svc]
  | .stopRequest .. => [.nv, .sys, .cfg, .fire, .wins, .noz, .tileH, .lanes, .health, .comp, .host, .dma, .ring, .ports, .pwr, .mot, .flt, .cal, .svc]
  | .sysCtrlAbandon .. => [.nv, .sys, .cfg, .fire, .wins, .noz, .tileH, .lanes, .health, .comp, .host, .dma, .ring, .ports, .pwr, .mot, .flt, .cal, .svc]
  | .dawnDone .. => [.sys, .cfg, .pos, .fire, .wins, .noz, .tileH, .health, .comp, .host, .dma, .ring, .ports, .pwr, .mot, .flt, .cal, .svc]
  | .standaloneTimerExpiry .. => [.nv, .sys, .fire, .wins, .noz, .tileH, .lanes, .health, .ports, .mot, .flt, .cal, .svc]
  | .runPendingActed .. => [.wins, .health, .flt, .svc]
  | .duskComplete .. => [.sys, .cfg, .wins, .health, .comp, .host, .dma, .ring, .ports, .pwr, .mot, .flt, .cal, .svc]
  | .logicReserveReached .. => [.sys, .ports, .pwr, .svc]
  | .powerCycle .. => [.snaps, .lows, .sys, .cfg, .pos, .fire, .wins, .noz, .tileH, .lanes, .health, .comp, .host, .dma, .ring, .ports, .pwr, .mot, .thm, .flt, .cal, .pmc, .clk, .svc, .form, .staging]
  | .spitTimerExpiry .. => [.sys]
  | .spitCycle .. => [.sys, .fire, .tileH, .health, .ports, .flt]
  | .cueInputEdge .. => [.sys, .pos, .fire, .wins, .tileH, .lanes, .health, .comp, .host, .dma, .ring, .ports, .pwr, .mot, .flt, .cal, .pmc, .svc]
  | .patternLineTimeout .. => [.sys, .fire, .wins, .health, .mot, .flt, .cal, .svc]
  | .arm .. => [.cfg]
  | .enableCheckComplete .. => [.sys, .cfg, .pos, .fire, .wins, .noz, .tileH, .health, .comp, .host, .dma, .ring, .ports, .pwr, .mot, .flt, .cal, .svc]
  | .live .. => [.cfg]
  | .liveCheckComplete .. => [.cfg, .pos, .fire, .wins, .health, .flt, .svc]
  | .store .. => [.cfg]
  | .storeComplete .. => [.nv, .cfg]
  | .cfgKeyStore .. => [.nv, .cfg, .health, .flt]
  | .layoutLock .. => [.nv, .health, .flt]
  | .stagingWrite .. => [.health, .flt, .staging]
  | .cueSafeIntervalEnd .. => [.health, .flt, .svc]
  | .countStep .. => [.nv, .sys, .cfg, .pos, .fire, .wins, .noz, .tileH, .lanes, .health, .comp, .host, .dma, .ring, .ports, .pwr, .mot, .flt, .cal, .pmc, .svc]
  | .indexLatch .. => [.pos, .health, .flt]
  | .interpolatedCrossing .. => [.nv, .sys, .cfg, .pos, .fire, .wins, .noz, .tileH, .lanes, .health, .comp, .host, .dma, .ring, .ports, .pwr, .mot, .flt, .cal, .pmc, .svc]
  | .standstill .. => [.pos, .fire]
  | .posPreset .. => [.pos, .fire, .health, .flt]
  | .posCmpWrite .. => []
  | .decoderCrossCheck .. => [.health, .flt]
  | .eventFabricDelivery .. => [.sys, .pos, .fire, .wins, .tileH, .lanes, .health, .comp, .host, .dma, .ring, .ports, .pwr, .mot, .flt, .cal, .pmc, .svc]
  | .lineref .. => [.nv, .sys, .cfg, .pos, .fire, .wins, .noz, .tileH, .lanes, .health, .comp, .host, .dma, .ring, .ports, .pwr, .flt, .cal, .pmc, .svc]
  | .linerefRelease .. => [.nv, .sys, .cfg, .pos, .fire, .wins, .noz, .tileH, .lanes, .health, .comp, .host, .dma, .ring, .ports, .pwr, .mot, .flt, .cal, .pmc, .svc]
  | .linerefHeartbeat .. => [.pos, .ring]
  | .linerefLost .. => [.health, .flt]
  | .linkDelayMeasurement .. => []
  | .strobeLaunch .. => [.fire, .lanes, .health, .ports, .flt, .pmc]
  | .gapSwapTimeout .. => [.cfg, .pos, .fire, .wins, .noz, .tileH, .health, .ports, .flt, .cal, .svc]
  | .pauseEnd .. => [.wins]
  | .laneCycleStart .. => [.noz, .tileH, .lanes, .health, .flt, .pmc]
  | .cyclePackComplete .. => [.wins, .tileH, .lanes, .pmc]
  | .heaterMeasurement .. => [.wins, .noz, .tileH, .health, .flt]
  | .hlthForce .. => [.wins, .noz]
  | .bypassRequest .. => [.wins, .tileH, .health, .flt]
  | .laneParityError .. => [.wins, .tileH, .lanes, .health, .flt, .pmc]
  | .laneEnginePrepared .. => [.noz, .tileH, .lanes, .health, .comp]
  | .rollIntervalExpiry .. => [.tileH, .health]
  | .rollSelfTestComplete .. => [.wins, .tileH, .lanes, .health, .flt]
  | .documentRenderStart .. => [.wins, .health, .comp, .flt]
  | .documentRendered .. => [.health, .comp, .dma, .flt]
  | .prefillComplete .. => [.wins, .lanes, .health, .comp, .flt, .pmc]
  | .lineBufferWrite .. => [.lanes, .comp, .pmc]
  | .hostFacingReset .. => [.wins, .health, .comp, .host, .dma, .ring, .flt, .pmc]
  | .streamEnable .. => [.wins, .comp, .dma, .ring]
  | .streamDisable .. => [.wins, .comp, .dma, .ring]
  | .streamReset .. => [.wins, .comp, .dma, .ring]
  | .sqDoorbell .. => [.dma]
  | .cqDoorbell .. => [.dma]
  | .descriptorFetch .. => [.dma, .ring]
  | .descriptorAccept .. => [.health, .host, .dma, .ring, .flt, .pmc]
  | .nop .. => [.dma]
  | .copy .. => [.wins, .health, .comp, .dma, .ring, .flt, .pmc, .form, .staging]
  | .copy2d .. => [.wins, .health, .comp, .dma, .ring, .flt, .pmc, .form, .staging]
  | .fill .. => [.health, .dma, .ring, .flt, .pmc, .form, .staging]
  | .compare .. => [.wins, .health, .comp, .dma, .ring, .flt, .pmc, .form, .staging]
  | .compose .. => [.wins, .health, .comp, .dma, .ring, .flt, .pmc, .form, .staging]
  | .slotAlloc .. => [.dma]
  | .slotFree .. => [.dma]
  | .hostReadCompletion .. => [.wins, .health, .comp, .host, .dma, .ring, .flt, .pmc, .form, .staging]
  | .hostReadTimeout .. => [.wins, .health, .comp, .host, .dma, .ring, .flt, .pmc, .form, .staging]
  | .hostReadRetry .. => [.dma, .ring]
  | .unexpectedCompletion .. => [.health, .flt]
  | .descriptorComplete .. => [.health, .host, .dma, .ring, .flt, .pmc, .form, .staging]
  | .barrierAck .. => [.health, .host, .dma, .ring, .flt, .pmc, .form, .staging]
  | .pacingResume .. => [.wins, .health, .comp, .dma, .ring, .flt, .pmc, .form, .staging]
  | .dmaCqStall .. => [.health, .dma, .flt]
  | .bar2Access .. => [.snaps, .lows, .nv, .sys, .cfg, .pos, .fire, .wins, .noz, .tileH, .lanes, .health, .comp, .host, .dma, .ring, .ports, .pwr, .mot, .flt, .cal, .pmc, .clk, .svc, .form, .staging]
  | .bar4Access .. => [.form]
  | .enum .. => [.ring]
  | .join .. => [.health, .ring, .flt]
  | .joinTimeout .. => [.ring]
  | .regRd .. => [.snaps, .health, .ring, .flt]
  | .regWr .. => [.lows, .nv, .sys, .cfg, .pos, .fire, .wins, .noz, .tileH, .lanes, .health, .comp, .host, .dma, .ring, .ports, .pwr, .mot, .flt, .cal, .pmc, .clk, .svc, .form, .staging]
  | .fsRd .. => [.ring]
  | .fsWr .. => [.ring, .form]
  | .hostRd .. => [.dma, .ring]
  | .hostWr .. => [.ring]
  | .docReport .. => [.host, .dma, .ring]
  | .data .. => [.wins, .health, .comp, .host, .dma, .ring, .flt, .pmc, .form, .staging]
  | .ack .. => [.wins, .health, .comp, .host, .dma, .ring, .flt, .pmc, .form, .staging]
  | .fault .. => [.host, .ring, .flt]
  | .stop .. => [.health, .ring, .flt]
  | .wrap .. => [.health, .ring, .flt]
  | .budget .. => [.health, .ring, .pwr, .flt]
  | .ringFrameRetry .. => [.ring]
  | .ringLinkFailure .. => [.health, .ring, .flt]
  | .ringLinkTrained .. => [.health, .ring, .flt]
  | .ringLinkRestore .. => [.health, .dma, .ring, .flt, .pmc, .form, .staging]
  | .drainMarkerReturn .. => [.health, .ring, .flt]
  | .ringReqTimeout .. => [.wins, .health, .comp, .host, .dma, .ring, .flt, .pmc, .form, .staging]
  | .ringJoinTmo .. => [.health, .host, .dma, .ring, .flt]
  | .tilePacketSend .. => [.lanes, .ports, .pmc]
  | .telemetryReport .. => [.wins, .noz, .tileH, .health, .ports, .flt]
  | .tileTrainTimeout .. => [.health, .ports, .flt]
  | .tileLogicOvercurrent .. => [.wins, .tileH, .health, .ports, .flt]
  | .tileFuseClose .. => [.ports, .pwr]
  | .tileVppCheck .. => [.wins, .tileH, .health, .ports, .flt]
  | .tileVppDischarged .. => [.ports]
  | .efuseTrip .. => [.wins, .tileH, .health, .ports, .flt]
  | .tileLogicOvervoltage .. => [.wins, .tileH, .health, .ports, .flt]
  | .tileLinkLost .. => [.wins, .tileH, .health, .ports, .flt]
  | .hmRead .. => [.wins, .noz, .tileH, .health, .ports, .flt]
  | .hmWrite .. => [.health, .ports, .flt]
  | .authRead .. => [.wins, .noz, .tileH, .health, .ports, .flt]
  | .getNonce .. => [.ports]
  | .authAdd .. => [.ports]
  | .hmRetry .. => [.ports]
  | .tileUkeyStore .. => [.nv, .cfg, .health, .flt]
  | .mainsLost .. => [.sys, .cfg, .wins, .health, .comp, .host, .dma, .ring, .ports, .pwr, .mot, .flt, .cal, .svc]
  | .mainsPresent .. => [.sys, .pwr]
  | .mainsQualified .. => [.pwr]
  | .linkOvervoltage .. => [.health, .flt]
  | .linkHigh .. => [.health, .flt]
  | .linkPfcStop .. => [.pwr]
  | .linkStoreDischarge .. => [.pwr]
  | .linkUndervoltage .. => [.health, .pwr, .mot, .flt]
  | .brokerUpdate .. => [.sys, .wins, .health, .pwr, .mot, .flt, .cal, .svc]
  | .railLimit .. => [.health, .flt]
  | .railUndervoltage .. => [.health, .flt]
  | .railShort .. => [.wins, .tileH, .health, .ports, .pwr, .flt]
  | .railRampComplete .. => [.pwr]
  | .logicOverdraw .. => [.health, .flt]
  | .storeOvervoltage .. => [.health, .flt]
  | .dcInputQualified .. => [.sys, .pwr]
  | .dcInputRange .. => [.sys, .health, .pwr, .flt]
  | .dcInputReversed .. => [.sys, .health, .pwr, .flt]
  | .budgetSend .. => [.ring, .pwr]
  | .dcRampComplete .. => [.pwr]
  | .handbackComplete .. => [.sys, .wins, .health, .pwr, .mot, .flt, .cal, .svc]
  | .motorRun .. => [.health, .mot, .flt]
  | .motorStop .. => [.health, .mot, .flt]
  | .speedLoopUpdate .. => [.mot]
  | .currentControlPeriod .. => [.health, .mot, .flt, .cal]
  | .motCmdLost .. => [.health, .mot, .flt]
  | .motCmdRestored .. => [.mot]
  | .atSpeed .. => [.pos, .mot]
  | .catchCheckComplete .. => [.health, .mot, .flt]
  | .openPhaseCheckComplete .. => [.health, .mot, .flt]
  | .modelIdentificationComplete .. => [.mot]
  | .initialPositionFound .. => [.health, .mot, .flt]
  | .catchLock .. => [.mot]
  | .catchOverRetry .. => [.mot]
  | .estimatorHandover .. => []
  | .openPhase .. => [.health, .mot, .flt]
  | .stall .. => [.health, .mot, .flt]
  | .overcurrentTrip .. => [.health, .mot, .flt]
  | .thermalSample .. => [.sys, .wins, .tileH, .health, .ports, .pwr, .mot, .thm, .flt, .cal, .svc]
  | .oscillatorRecalibration .. => [.health, .thm, .flt]
  | .thermalPauseStepEnd .. => [.sys, .wins, .health, .mot, .thm, .flt, .cal, .svc]
  | .duskFinishRecheck .. => [.wins]
  | .storeConverterResume .. => [.pwr]
  | .storeChargingResume .. => []
  | .faultMessageAccepted .. => [.nv, .sys, .cfg, .fire, .wins, .health, .comp, .host, .dma, .ring, .ports, .pwr, .mot, .flt, .cal, .svc]
  | .floodClear .. => [.flt]
  | .logRecordWrite .. => [.nv, .sys, .cfg, .fire, .wins, .health, .comp, .host, .dma, .ring, .ports, .pwr, .mot, .flt, .cal, .svc]
  | .nvLogWrite .. => [.nv, .health, .flt]
  | .fltPendAck .. => [.health, .flt, .svc]
  | .relayReset .. => [.health, .flt, .svc]
  | .logEn .. => [.health, .flt]
  | .fltLogHeadWrite .. => [.flt]
  | .fltInject .. => [.health, .flt]
  | .runNow .. => [.cal]
  | .calImport .. => [.nv]
  | .calInstanceDue .. => [.cal]
  | .calMeasurementComplete .. => [.nv, .health, .flt, .cal]
  | .calSlewIdleStep .. => [.cal]
  | .calOverdue .. => [.health, .flt, .cal]
  | .aliasSetWrite .. => [.form]
  | .aliasClearWrite .. => [.form]
  | .memEccCorrected .. => [.health, .flt]
  | .memEccUncorrectable .. => [.nv, .wins, .health, .comp, .dma, .ring, .flt, .pmc, .form, .staging]
  | .pmcLoad .. => []
  | .pmcDump .. => [.ring, .pmc]
  | .dumpNow .. => [.ring, .pmc]
  | .dumpEn .. => [.ring, .pmc]
  | .tagLoad .. => [.pmc]
  | .tagRecordComplete .. => [.pmc]
  | .tagPop .. => []
  | .calendarSecond .. => [.clk]
  | .clockSet .. => [.health, .flt, .clk]
  | .clkDateRead .. => [.snaps, .health, .flt]
  | .extest .. => [.svc]
  | .samplePreload .. => [.svc]
  | .bypass .. => [.svc]
  | .fwStatus .. => [.svc]
  | .fwLoad .. => [.svc]
  | .fwCommit .. => [.svc]
  | .fwCommitComplete .. => [.nv, .svc]
  | .lockClear .. => [.nv, .svc]
  | .arpRequest .. => []
  | .icmpEcho .. => []
  | .registerReadService .. => []
  | .fluidBridgeDatagram .. => [.svc]
  | .fluidBusIdle .. => [.svc]
  | .encoderSupplyShort .. => [.health, .flt]
  | .cueVinLow .. => [.health, .flt, .svc]
  | .cuePulseEnd .. => [.health, .flt, .svc]
  | .cueOutputOverload .. => [.health, .flt, .svc]
  | .cueOverloadRetry .. => [.health, .flt, .svc]
  | .pllLossOfLock .. => [.health, .flt]
  | .pllRelock .. => [.health]
  | .lockstepDisagreement .. => [.health, .flt]
  | .gateDriverFeedbackFault .. => [.health, .flt]
  | .perstRelease .. => [.host]
  | .cueVinRestored .. => [.health, .flt, .svc]

/-- The commands that may change SYS_STATE: the triggers of R43, those that move Evening's condition, and the accesses that
can write or read it with an effect. -/
def Instr.mayChangeMode : Instr → Bool
  | .bar2Access ..
  | .bootSequenceComplete ..
  | .brokerUpdate ..
  | .clkDateRead ..
  | .countStep ..
  | .cueInputEdge ..
  | .dawnDone ..
  | .duskComplete ..
  | .enableCheckComplete ..
  | .eventFabricDelivery ..
  | .faultMessageAccepted ..
  | .firmwareCheckComplete ..
  | .handbackComplete ..
  | .hiWritePair ..
  | .interpolatedCrossing ..
  | .linerefRelease ..
  | .loReadSnapshot ..
  | .logRecordWrite ..
  | .mainsApplied ..
  | .mainsLost ..
  | .patternLineTimeout ..
  | .powerCycle ..
  | .rcRead ..
  | .regRd ..
  | .regWr ..
  | .registerWrite ..
  | .runPendingActed ..
  | .runRequest ..
  | .standaloneTimerExpiry ..
  | .stopRequest ..
  | .storeConverterResume ..
  | .sysCtrlAbandon ..
  | .sysCtrlDawn ..
  | .sysCtrlNight ..
  | .thermalPauseStepEnd ..
  | .thermalSample .. => true
  | _ => false

/-- The commands that may send a strobe (R64, R149). -/
def Instr.mayStrobe : Instr → Bool
  | .strobeLaunch .. | .spitCycle .. => true
  | _ => false

end Sys2Proof
end

