-- ==== Sys2Proof/Certificates/Slice0/Obligations.lean ====
section
/-!
DEFINITION. The statements for the provers, each over every state and every operand that meets its hypotheses, with the rules it
rests on.
-/
open Sys2Proof Sys2Proof.Machine

/-- A step takes the command at the front of the queue and runs it on the queue's rest, whatever the command and the state. -/
def Obligations.StepRunsFrontCommand : Prop :=
  ∀ (c : Instr) (rest : List Instr) (s : State), step { s with pending := c :: rest } = exec c { s with pending := rest }

/-- On an empty queue the block idles: a step answers the state as it is. This is the model's own choice (log entry 1). -/
def Obligations.IdleStep : Prop :=
  ∀ s : State, s.pending = [] → step s = .next s

/-- What reset leaves (R42, R48, R55, R70): the module is without power, in the state code of Night, with no command waiting,
no output, nothing listed in the form store and the staging window, no image in force, no fault waiting, and every table in its canonical form. The values the spec
leaves open are those of log entries 3 to 7. -/
def Obligations.ResetState : Prop :=
  State.reset.wf = true ∧ State.reset.pending = [] ∧ State.reset.out = [] ∧ State.reset.sys.phase = .unpowered ∧
  State.reset.st = NIGHT ∧ State.reset.mem.form = [] ∧ State.reset.mem.staging = [] ∧ State.reset.cfg.armed = none ∧
  State.reset.cfg.busy = none ∧ State.reset.flt.wire = [] ∧ State.reset.pos.fabric = [] ∧ State.reset.now = 0

/-- Every step keeps the canonical form: the register store, the form store, the staging window and the tables by tile, window,
nozzle and lane keep ascending keys and list nothing that an unlisted key reads as, from every state and for every command. -/
def Obligations.StepKeepsCanonicalForm : Prop :=
  ∀ s s' : State, s.wf = true → step s = .next s' → s'.wf = true

/-- Every command of the table answers a next state from every state, leaves the commands that wait as they are, does not turn time
back, and takes no output back. -/
def Obligations.EveryCommandAnswers : Prop :=
  ∀ (c : Instr) (s : State), ∃ s', exec c s = .next s' ∧ s'.pending = s.pending ∧ s.now ≤ s'.now ∧ s.draws ≤ s'.draws ∧
    ∃ new, s'.out = new ++ s.out

/-- What a command leaves as it is: for every command, every part of the state that Instr.touched does not name for it (the
form store, the staging window, NV flash, the calendar, the thermal state, a chapter's own state) is the same after it. -/
def Obligations.OtherPartsUnchanged : Prop :=
  ∀ (c : Instr) (s s' : State) (p : StatePart), exec c s = .next s' → p ∉ c.touched → p.same s s'

/-- SYS_STATE changes only by the commands that Instr.mayChangeMode names; every other command leaves the register, and with it
the operating state, its cause and its flags, as it was (R42, R43). -/
def Obligations.StateRegisterUnchanged : Prop :=
  ∀ (c : Instr) (s s' : State), exec c s = .next s' → c.mayChangeMode = false → s'.reg rSYS_STATE = s.reg rSYS_STATE ∧ s'.st = s.st

/-- Strobes leave the engine only with STROBE_LAUNCH and SPIT_CYCLE (R64, R149): whatever else a command puts on a port is no
strobe. -/
def Obligations.OnlyTwoCommandsStrobe : Prop :=
  ∀ (c : Instr) (s s' : State), exec c s = .next s' → c.mayStrobe = false →
    ∃ new, s'.out = new ++ s.out ∧ ∀ o ∈ new, o.isStrobe = false

/-- The register store (R5, R9, R10): a field set reads back what was written modulo its width; every other field of its word and every other register keeps its
value; a counting field stops at its limit. -/
def Obligations.RegisterFields : Prop :=
  (∀ (s : State) (fd : Field) (v : Nat), fd.lo + fd.w ≤ 32 → (s.setF fd v).f fd = v % 2 ^ fd.w) ∧
  (∀ (s : State) (fd gd : Field) (v : Nat), gd.off ≠ fd.off ∨ gd.lo + gd.w ≤ fd.lo ∨ fd.lo + fd.w ≤ gd.lo → (s.setF fd v).f gd = s.f gd) ∧
  (∀ (s : State) (o p : Nat) (w : Word), (s.setReg o w).reg p = if p = o then w else s.reg p) ∧
  (∀ (s : State) (fd : Field) (n : Nat), fd.lo + fd.w ≤ 32 → (s.addF fd n).f fd = min (2 ^ fd.w - 1) (s.f fd + n))

/-- Reads of 64-bit quantities (R6). A read of a _LO register answers its low half and captures the high half for the reading master; a
later read of the _HI register by that master answers the captured half whatever the register holds by then; the snapshots of other masters
stay as they are; and a read of a _HI register for which the master has captured nothing since reset answers 0, as reset captures nothing. -/
def Obligations.LowHighReads : Prop :=
  (∀ (s : State) (t off : Nat) (m : Master), isLo off = true → (regRow? off).isSome = true → s.powered = true →
    s.sys.bootDone = true → (s.st ≠ MIDNIGHT ∨ sysOrFlt off = true) →
    ∃ s', exec (.loReadSnapshot t m off 4) s = .next s' ∧ s'.out = .barData 0 (toLe 4 ((s.at t).regWord off).toNat) :: s.out ∧
      (∀ (z : State) (u : Nat), z.snaps = s'.snaps → (regRow? (off + 4)).isSome = true → z.powered = true → z.sys.bootDone = true →
        (z.st ≠ MIDNIGHT ∨ sysOrFlt (off + 4) = true) →
        ∃ z', exec (.loReadSnapshot u m (off + 4) 4) z = .next z' ∧
          z'.out = .barData 0 (toLe 4 ((s.at t).regWord (off + 4)).toNat) :: z.out ∧ z'.snaps = s'.snaps) ∧
      (∀ k, k ≠ pairKey (masterCode m) (off + 4) → tget 0 s'.snaps k = tget 0 s.snaps k)) ∧
  (∀ (s : State) (t off : Nat) (m : Master), isLo off = true → (regRow? (off + 4)).isSome = true → s.powered = true →
    s.sys.bootDone = true → (s.st ≠ MIDNIGHT ∨ sysOrFlt (off + 4) = true) → (∀ e ∈ s.snaps, e.1 ≠ pairKey (masterCode m) (off + 4)) →
    ∃ s', exec (.loReadSnapshot t m (off + 4) 4) s = .next s' ∧ s'.out = .barData 0 [0, 0, 0, 0] :: s.out) ∧
  (State.reset.snaps = [] ∧ (∀ (m n : Master) (off off' : Nat), off < 2 ^ 24 → off' < 2 ^ 24 →
    pairKey (masterCode m) off = pairKey (masterCode n) off' → masterCode m = masterCode n ∧ off = off'))

/-- Writes of 64-bit pairs (R7). A write of a _LO register keeps its value for the writing master alone and changes no register; the
write of _HI applies both halves, with the low half this master wrote last, or 0 when it has written none since reset: for the pairs of
plain fields, for the performance counters, for the position presets and for FLT_INJECT. -/
def Obligations.HighWrites : Prop :=
  (∀ (s : State) (t off : Nat) (m : Master) (v : Word) (x : DawnTests), isLo off = true → off ≠ rCLK_DATE →
    (regRow? off).isSome = true → s.writable off = true → s.streamHeld off = false →
    ∃ s', exec (.registerWrite t m off (toLe 4 v.toNat) x) s = .next s' ∧ s'.regs = (s.at t).regs ∧
      tget 0 s'.lows (pairKey (masterCode m) off) = v ∧
      (∀ k, k ≠ pairKey (masterCode m) off → tget 0 s'.lows k = tget 0 s.lows k)) ∧
  (∀ (s : State) (t off : Nat) (m : Master) (v : Word) (r q : RegRow), regRow? off = some r → regRow? (off + 4) = some q →
    (off ∈ [rRING_JOIN_MEMBERS_LO, rFLT_LOG_BASE_LO, rPMC_DUMP_BASE_LO] ∨ ∃ k < 4096, off = rDMA_s_SQ_LO k ∨ off = rDMA_s_CQ_LO k) →
    s.streamHeld (off + 4) = false → s.writable (off + 4) = true → r.w1c = 0 → q.w1c = 0 →
    ∃ s', exec (.hiWritePair t m (off + 4) v) s = .next s' ∧
      s'.reg off = (s.reg off &&& ~~~ (BitVec.ofNat 32 r.rw)) ||| (tget 0 s.lows (pairKey (masterCode m) off) &&& BitVec.ofNat 32 r.rw) ∧
      s'.reg (off + 4) = (s.reg (off + 4) &&& ~~~ (BitVec.ofNat 32 q.rw)) ||| (v &&& BitVec.ofNat 32 q.rw) ∧
      (∀ p, p ≠ off → p ≠ off + 4 → s'.reg p = (s.at t).reg p)) ∧
  (∀ (s : State) (t n : Nat) (m : Master) (v : Word), n < 256 → s.writable (rPMC_n_HI n) = true → (regRow? (rPMC_n_HI n)).isSome = true →
    ∃ s', exec (.hiWritePair t m (rPMC_n_HI n) v) s = .next s' ∧
      s'.f (PMC_n_LO_VALUE n) = (tget 0 s.lows (pairKey (masterCode m) (rPMC_n_LO n))).toNat ∧
      s'.f (PMC_n_HI_VALUE n) = v.toNat % 2 ^ 16) ∧
  (∀ (s : State) (t n : Nat) (m : Master) (v : Word), n < 16 → s.writable (rPOS_n_PRESET_HI n) = true →
    (regRow? (rPOS_n_PRESET_HI n)).isSome = true → s.st = NIGHT ∨ s.st = DAWN ∨ s.func = MORNING →
    ∃ s', exec (.hiWritePair t m (rPOS_n_PRESET_HI n) v) s = .next s' ∧
      s'.f (POS_n_PRESET_LO_COUNT n) = (tget 0 s.lows (pairKey (masterCode m) (rPOS_n_PRESET_LO n))).toNat ∧
      s'.f (POS_n_PRESET_HI_EPOCH n) = v.toNat % 2 ^ 16) ∧
  (∀ (s : State) (t : Nat) (m : Master) (v : Word), s.writable rFLT_INJECT_HI = true →
    ∃ s', exec (.hiWritePair t m rFLT_INJECT_HI v) s = .next s' ∧
      s'.f FLT_INJECT_LO_MSG = (tget 0 s.lows (pairKey (masterCode m) rFLT_INJECT_LO)).toNat ∧ s'.f FLT_INJECT_HI_MSG = v.toNat) ∧
  ((∀ (s : State) (k : Nat), (∀ e ∈ s.lows, e.1 ≠ k) → tget 0 s.lows k = 0) ∧ State.reset.lows = [])

/-- Power-up (R47, R48, R55 to R57, R349, R420, R471). MAINS_APPLIED from an unpowered module or one whose logic is off
samples the straps, resets the logic and leaves NV flash as it is. FIRMWARE_CHECK_COMPLETE runs the slot that BOOT_ALT names
when it passes, and with neither slot passing enters Midnight with cause 0x10. BOOT_SEQUENCE_COMPLETE enters Night from
power-up. LOGIC_RESERVE_REACHED turns the logic off and opens the alarm contact. POWER_CYCLE leaves Midnight for a
module without power. -/
def Obligations.PowerUpAndDown : Prop :=
  (∀ (s : State) (t straps : Nat) (dc ok : Bool), s.sys.phase = .unpowered ∨ s.sys.phase = .logicOff →
    ∃ s', exec (.mainsApplied t straps dc ok) s = .next s' ∧ s'.sys.phase = .booting ∧ s'.sys.powerOn = max s.now t ∧
      s'.ident.straps = straps % 4096 / 8 * 8 ∧ s'.nv = s.nv ∧ s'.mem = State.reset.mem) ∧
  (∀ (s : State) (t : Nat) (a b : Bool), s.sys.phase = .booting → s.sys.fwChecked = false →
    ((if bit s.ident.straps 3 then b else a) = true →
      ∃ s', exec (.firmwareCheckComplete t a b) s = .next s' ∧ s'.sys.fwChecked = true ∧
        s'.ident.fwSlotB = bit s.ident.straps 3) ∧
    (a = false → b = false →
      ∃ s', exec (.firmwareCheckComplete t a b) s = .next s' ∧ s'.st = MIDNIGHT ∧ s'.f SYS_STATE_CAUSE = 0x10)) ∧
  (∀ (s : State) (t : Nat), s.sys.phase = .booting → s.sys.fwChecked = true →
    ∃ s', exec (.bootSequenceComplete t) s = .next s' ∧ s'.st = NIGHT ∧ s'.f SYS_STATE_CAUSE = 0) ∧
  (∀ (s : State) (t : Nat), s.sys.phase = .up → s.st = NIGHT → s.sys.mainsGone.isSome = true → s.f PWR_STORE_E_J ≤ 150 →
    ∃ s', exec (.logicReserveReached t) s = .next s' ∧ s'.sys.phase = .logicOff ∧ s'.svc.alarmOpen = true ∧ s'.nv = s.nv) ∧
  (∀ (s : State) (t x : Nat), s.sys.mainsGone = some x → s.sys.phase = .up → s.st = MIDNIGHT → x + sec 2 ≤ max s.now t →
    ∃ s', exec (.powerCycle t) s = .next s' ∧ s'.sys.phase = .unpowered ∧ s'.nv = s.nv ∧ s'.regs = [])

/-- The triggers of SYS_CTRL (R43, R49 to R51, R68, R506). DAWN = 1 in Night with mains qualified begins Dawn, with cause
1. NIGHT = 1 leads from Dawn to Night and from Morning, Noon and Evening to Dusk. A run request in Morning with the hold-up
ready and no STOP pending enters Noon with cause 4. A stop request in Noon enters Dusk with cause 5. ABANDON = 1 in Dusk asks
every open document to stop. -/
def Obligations.SysCtrlTriggers : Prop :=
  (∀ (s : State) (t : Nat) (v : Word) (x : DawnTests), s.writable rSYS_CTRL = true → SYS_CTRL_DAWN.get v = 1 →
    SYS_CTRL_NIGHT.get v = 0 → s.st = NIGHT → s.fb PWR_SRC_MAINS_QUAL = true →
    ∃ s', exec (.sysCtrlDawn t v x) s = .next s' ∧ s'.st = DAWN ∧ s'.f SYS_STATE_PREV = NIGHT ∧ s'.f SYS_STATE_CAUSE = 1) ∧
  (∀ (s : State) (t : Nat) (v : Word), s.writable rSYS_CTRL = true → SYS_CTRL_NIGHT.get v = 1 → SYS_CTRL_DAWN.get v = 0 →
    (s.st = DAWN → ∃ s', exec (.sysCtrlNight t v) s = .next s' ∧ s'.st = NIGHT ∧ s'.f SYS_STATE_PREV = DAWN) ∧
    (s.st = MORNING ∨ s.st = NOON ∨ s.st = EVENING →
      ∃ s', exec (.sysCtrlNight t v) s = .next s' ∧ s'.st = DUSK ∧ s'.f SYS_STATE_PREV = s.st ∧ s'.f SYS_STATE_CAUSE = 5)) ∧
  (∀ (s : State) (t : Nat) (v : Word), s.writable rSYS_CTRL = true → SYS_CTRL_RUN.get v = 1 → SYS_CTRL_NIGHT.get v = 0 →
    s.st = MORNING → s.fb SYS_STATE_HOLDUP_READY = true → s.fb FLT_PEND_STOP = false →
    ∃ s', exec (.runRequest t v) s = .next s' ∧ s'.st = NOON ∧ s'.f SYS_STATE_PREV = MORNING ∧ s'.f SYS_STATE_CAUSE = 4) ∧
  (∀ (s : State) (t : Nat) (v : Word), s.writable rSYS_CTRL = true → SYS_CTRL_RUN.get v = 0 → s.fb SYS_CTRL_RUN = true →
    SYS_CTRL_NIGHT.get v = 0 → s.st = NOON →
    ∃ s', exec (.stopRequest t v) s = .next s' ∧ s'.st = DUSK ∧ s'.f SYS_STATE_PREV = NOON ∧ s'.f SYS_STATE_CAUSE = 5) ∧
  (∀ (s : State) (t : Nat) (v : Word) (w : Nat) (d : Doc), s.writable rSYS_CTRL = true → SYS_CTRL_ABANDON.get v = 1 →
    SYS_CTRL_NIGHT.get v = 0 → SYS_CTRL_RUN.get v = 0 → s.fb SYS_CTRL_RUN = false → s.st = DUSK →
    (s.win w).doc = some d → d.stopped = false →
    ∃ s' d', exec (.sysCtrlAbandon t v) s = .next s' ∧ s'.st = DUSK ∧ (s'.win w).doc = some d' ∧ d'.stopReq = true)

/-- The ends of Dawn and Dusk, and stand-alone operation (R43, R50, R53, R60, R62, R64, R67). DAWN_DONE shows the end of Dawn's tests,
and in stand-alone operation leads on to Morning. The stand-alone timer leads from Night to Dawn with cause 2. A pending run is acted on in
Morning once the hold-up is ready. Dusk leads to Night when Night has been asked for or mains is absent, and otherwise to
Morning. The spit timer begins a burst of 192 cycles 100 µs apart, and the last of them starts the timer of 8 s again. A check pattern
without a line event for 8 s ends in Dusk with cause 0x0E. -/
def Obligations.DawnDuskAndStandalone : Prop :=
  (∀ (s : State) (t : Nat), s.st = DAWN → s.fb SYS_STATE_DAWN_DONE = false →
    (s.sys.saDawn = false → ∃ s', exec (.dawnDone t) s = .next s' ∧ s'.fb SYS_STATE_DAWN_DONE = true ∧ s'.st = DAWN) ∧
    (s.sys.saDawn = true → ∃ s', exec (.dawnDone t) s = .next s' ∧ (s'.st = MORNING ∨ s'.st = NOON))) ∧
  (∀ (s : State) (t d : Nat) (x : DawnTests), s.sys.saDeadline = some d → d ≤ max s.now t → s.st = NIGHT → s.sys.phase = .up →
    ∃ s', exec (.standaloneTimerExpiry t x) s = .next s' ∧ s'.st = DAWN ∧ s'.f SYS_STATE_CAUSE = 2) ∧
  (∀ (s : State) (t : Nat), s.st = MORNING → s.fb SYS_STATE_RUN_PENDING = true → s.fb SYS_STATE_HOLDUP_READY = true →
    ∃ s', exec (.runPendingActed t) s = .next s' ∧ s'.st = NOON ∧ s'.f SYS_STATE_PREV = MORNING ∧ s'.f SYS_STATE_CAUSE = 4) ∧
  (∀ (s : State) (t : Nat), s.st = DUSK → s.openDocs = [] → s.strobesOut = true → (s.at t).duskMotorsDone = true →
    (s.sys.duskNight = true → ∃ s', exec (.duskComplete t) s = .next s' ∧ s'.st = NIGHT ∧ s'.f SYS_STATE_CAUSE = 0x0C) ∧
    (s.sys.duskNight = false → s.fb PWR_SRC_MAINS_PRESENT = true →
      ∃ s', exec (.duskComplete t) s = .next s' ∧ (s'.st = MORNING ∨ s'.st = NOON))) ∧
  (∀ (s : State) (t d : Nat), s.sys.spitDeadline = some d → d ≤ max s.now t → s.st = MORNING → s.fb SYS_STATE_STANDALONE = true →
    ∃ s', exec (.spitTimerExpiry t) s = .next s' ∧ s'.sys.spitNext = some 0 ∧ s'.sys.spitDue = max s.now t ∧ s'.sys.spitDeadline = none) ∧
  (∀ (s : State) (t k : Nat), s.sys.spitNext = some k → s.sys.spitDue ≤ max s.now t → s.st = MORNING → s.fb SYS_STATE_STANDALONE = true →
    (k < 191 → ∃ s', exec (.spitCycle t) s = .next s' ∧ s'.sys.spitNext = some (k + 1) ∧ s'.sys.spitDue = s.sys.spitDue + us 100) ∧
    (k = 191 → ∃ s', exec (.spitCycle t) s = .next s' ∧ s'.sys.spitNext = none ∧
      s'.sys.spitDeadline = some (s.sys.spitDue + us 100 + sec 8))) ∧
  (∀ (s : State) (t x : Nat), s.sys.patternLast = some x → x + sec 8 ≤ max s.now t → s.st = NOON → (s.win 0).doc.isSome = true →
    ∃ s', exec (.patternLineTimeout t) s = .next s' ∧ s'.st = DUSK ∧ s'.f SYS_STATE_PREV = NOON ∧ s'.f SYS_STATE_CAUSE = 0x0E)

/-- Layout images (R43, R44, R70, R71, R75, R76, R92, R93, R97 to R100). A write of SYS_ENABLE or CFG_NV_CTRL begins a check or a
store when none runs: BUSY = 1, PASS = FAIL = 0. ENABLE_CHECK_COMPLETE arms a good image and posts PASS, a bad one FAIL with
its reason, section and item, and in Dawn the good image leads on to Morning. LIVE_CHECK_COMPLETE in Noon keeps the live image for its
swap with LIVE_PENDING = 1. STORE_COMPLETE keeps the image in the slot. The key, the lock and the staging window take what is
written, and a cue line that was held at its safe level is released. -/
def Obligations.LayoutImages : Prop :=
  (∀ (s : State) (t : Nat) (v : Word), s.writable rSYS_ENABLE = true → SYS_ENABLE_ARM.get v = 1 → s.cfg.busy = none →
    ∃ s', exec (.arm t v) s = .next s' ∧ s'.cfg.busy = some .arm ∧ s'.cfg.busyPermit = s.armPermit ∧
      s'.cfg.busySrc = s.f CFG_SOURCE_SRC ∧ s'.fb CFG_STATUS_BUSY = true ∧ s'.fb CFG_STATUS_PASS = false ∧ s'.fb CFG_STATUS_FAIL = false) ∧
  (∀ (s : State) (t : Nat) (v : Word), s.writable rSYS_ENABLE = true → SYS_ENABLE_ARM.get v = 0 → SYS_ENABLE_LIVE.get v = 1 →
    s.cfg.busy = none →
    ∃ s', exec (.live t v) s = .next s' ∧ s'.cfg.busy = some .live ∧ s'.cfg.busyPermit = s.livePermit ∧
      s'.cfg.busySrc = s.f CFG_SOURCE_SRC ∧ s'.fb CFG_STATUS_BUSY = true ∧ s'.fb CFG_STATUS_PASS = false ∧ s'.fb CFG_STATUS_FAIL = false) ∧
  (∀ (s : State) (t : Nat) (v : Word), s.writable rCFG_NV_CTRL = true → CFG_NV_CTRL_STORE.get v = 1 → s.cfg.busy = none →
    ∃ s', exec (.store t v) s = .next s' ∧ s'.cfg.busy = some .store ∧ s'.cfg.busySlot = CFG_NV_CTRL_SLOT.get v ∧
      s'.fb CFG_STATUS_BUSY = true ∧ s'.fb CFG_STATUS_PASS = false ∧ s'.fb CFG_STATUS_FAIL = false) ∧
  (∀ (s : State) (t : Nat) (g : Nat → Nat), s.cfg.busy = some .arm → s.cfg.busyPermit = true →
    (s.at t).imageAt s.cfg.busySrc = some g →
    (∀ im, (s.at t).checkImage g = .inr im → s.st = MORNING →
      ∃ s', exec (.enableCheckComplete t) s = .next s' ∧ s'.cfg.armed = some im ∧ s'.cfg.busy = none ∧
        s'.fb CFG_STATUS_BUSY = false ∧ s'.fb CFG_STATUS_PASS = true ∧ s'.f CFG_STATUS_REASON = 0) ∧
    (∀ im, (s.at t).checkImage g = .inr im → s.st = DAWN → s.fb SYS_STATE_DAWN_DONE = true →
      ∃ s', exec (.enableCheckComplete t) s = .next s' ∧ (s'.st = MORNING ∨ s'.st = NOON)) ∧
    (∀ r sec i, (s.at t).checkImage g = .inl (some (r, sec, i)) →
      ∃ s', exec (.enableCheckComplete t) s = .next s' ∧ s'.cfg.armed = s.cfg.armed ∧ s'.cfg.busy = none ∧
        s'.fb CFG_STATUS_BUSY = false ∧ s'.fb CFG_STATUS_FAIL = true ∧ s'.f CFG_STATUS_REASON = r % 256 ∧
        s'.f CFG_STATUS_SECTION = sec % 256 ∧ s'.f CFG_ITEM_ITEM = i % 2 ^ 32)) ∧
  (∀ (s : State) (t : Nat) (g : Nat → Nat) (l : LiveImage), s.cfg.busy = some .live → s.cfg.busyPermit = true → s.cfg.busyLive = false →
    (s.at t).imageAt s.cfg.busySrc = some g → (s.at t).checkLive g = .inr l → s.st = NOON →
    ∃ s', exec (.liveCheckComplete t) s = .next s' ∧ s'.cfg.live = some l ∧ s'.cfg.armed = s.cfg.armed ∧ s'.cfg.busy = none) ∧
  (∀ (s : State) (t : Nat) (g : Nat → Nat), s.cfg.busy = some .store → (s.at t).imageAt 0 = some g → (s.at t).checkStore g = none →
    ∃ s', exec (.storeComplete t) s = .next s' ∧ s'.cfg.busy = none ∧ s'.fb CFG_STATUS_PASS = true ∧
      s'.nv.slots = insertKey s.cfg.busySlot { len := rdI g 8 4, bytes := s.mem.staging.filter fun e => e.1 < rdI g 8 4 } s.nv.slots) ∧
  (∀ (s : State) (t : Nat) (v : Word), s.writable (rCFG_KEY_n 7) = true →
    (s.nv.layoutLock = false → s.nvOk = true → ∃ s', exec (.cfgKeyStore t v) s = .next s' ∧
      s'.cfg.keyBuf = insertKey 7 v.toNat s.cfg.keyBuf ∧
      s'.nv.key = some ((List.range 8).flatMap fun i => toLe 4 ((lookup? s'.cfg.keyBuf i).getD 0))) ∧
    (s.nv.layoutLock = true → ∃ s', exec (.cfgKeyStore t v) s = .next s' ∧ s'.nv = s.nv)) ∧
  (∀ (s : State) (t : Nat) (v : Word), s.writable rCFG_LOCK = true → CFG_LOCK_LAYOUT_LOCK.get v = 1 → s.nvOk = true →
    ∃ s', exec (.layoutLock t v) s = .next s' ∧ s'.nv.layoutLock = true ∧ s'.nv.key = s.nv.key ∧ s'.nv.slots = s.nv.slots) ∧
  (∀ (s : State) (t off : Nat) (data : List Nat), s.writable (0x400000 + off) = true → off + data.length ≤ 0x400000 →
    s.fb CFG_STATUS_BUSY = false → s.spadOn (16 + off / 0x40000) = true →
    ∃ s', exec (.stagingWrite t off data) s = .next s' ∧ Mem.getBytes (fun _ => 0) s'.mem.staging off data.length = data.map (· % 256) ∧
      (∀ a, a < off ∨ off + data.length ≤ a → Sparse.get (fun _ => 0) s'.mem.staging a = Sparse.get (fun _ => 0) s.mem.staging a) ∧
      s'.mem.form = s.mem.form) ∧
  (∀ (s : State) (t n h : Nat), lookup? s.svc.cueHold n = some h → h ≠ 0 → h ≤ 1 + max s.now t →
    ∃ s', exec (.cueSafeIntervalEnd t n) s = .next s' ∧ lookup? s'.svc.cueHold n = none)

/-- Position inputs (R105 to R107, R109, R111, R113, R119, R126, R128, R139). A count step moves count and epoch by one modulo
2^48, with its direction, and ends standstill, here where no line start is crossed; an illegal transition leaves the count, sets ILLEGAL and
raises POS_ILLEGAL. The index latch copies count and epoch and emits its source. An interpolated crossing forward emits the
input's line event. Standstill, preset, compare and the decoders' comparison act as their rules say. -/
def Obligations.PositionInputs : Prop :=
  (∀ (s : State) (t n : Nat) (a b : Bool) (ph : List Nat) (d : Int) (e : Nat), n < 16 → (s.posRec n).mode ≠ 0 →
    decodeStep (s.posRec n).mode (s.pin n).levelA (s.pin n).levelB a b = .count d e → (s.posRec n).refTake = true →
    s.sys.patternDone = false →
    ∃ s', exec (.countStep t n a b ph) s = .next s' ∧
      (s'.f (POS_n_COUNT_LO_COUNT n) : Int) + 2 ^ 32 * s'.f (POS_n_COUNT_HI_EPOCH n) =
        ((s.f (POS_n_COUNT_LO_COUNT n) : Int) + 2 ^ 32 * s.f (POS_n_COUNT_HI_EPOCH n) + (if (s.posRec n).invert then -d else d)) % 2 ^ 48 ∧
      s'.fb (POS_n_STATUS_DIR n) = decide ((if (s.posRec n).invert then -d else d) < 0) ∧ s'.fb (POS_n_STATUS_STILL n) = false) ∧
  (∀ (s : State) (t n : Nat) (a b : Bool) (ph : List Nat), n < 16 → (s.posRec n).mode ≠ 0 →
    decodeStep (s.posRec n).mode (s.pin n).levelA (s.pin n).levelB a b = .illegal →
    ((s.pin n).levelA ≠ a ∨ (s.pin n).levelB ≠ b) →
    ∃ s', exec (.countStep t n a b ph) s = .next s' ∧ s'.f (POS_n_COUNT_LO_COUNT n) = s.f (POS_n_COUNT_LO_COUNT n) ∧
      s'.f (POS_n_COUNT_HI_EPOCH n) = s.f (POS_n_COUNT_HI_EPOCH n) ∧ s'.fb (POS_n_STATUS_ILLEGAL n) = true ∧
      (∃ m ∈ s'.flt.wire, m.group = kPOS_ILLEGAL.group ∧ m.kind = kPOS_ILLEGAL.code ∧ m.die = 0)) ∧
  (∀ (s : State) (t n : Nat) (z : Bool), n < 16 → (s.posRec n).zEn = true → (s.posRec n).mode ≠ 0 → (s.pin n).levelZ ≠ z →
    z ≠ s.fb (POS_n_STATUS_DIR n) →
    ∃ s', exec (.indexLatch t n z) s = .next s' ∧ s'.f (POS_n_IDX_LO_COUNT n) = s.f (POS_n_COUNT_LO_COUNT n) ∧
      s'.f (POS_n_IDX_HI_EPOCH n) = s.f (POS_n_COUNT_HI_EPOCH n) ∧ s'.f (POS_n_COUNT_LO_COUNT n) = s.f (POS_n_COUNT_LO_COUNT n) ∧
      (s'.pin n).levelZ = z ∧ ∃ e ∈ s'.pos.fabric, e.src = 0x20 + n ∧ e.due = s'.now + 8) ∧
  (∀ (s : State) (t n time r : Nat) (l : LineState) (es : List Crossing) (c : Crossing), (s.at t).crossing? n (max s.now t) = some (time, none, r) →
    crossLine ((s.at t).ratio n) (s.fb (POS_n_STATUS_DIR n)) (s.pin n).ls r = (l, es) → c ∈ es → c.fwd = true → n < 16 →
    ∃ s', exec (.interpolatedCrossing t n) s = .next s' ∧ ∃ e ∈ s'.pos.fabric, e.src = n ∧ e.due = time + 8) ∧
  (∀ (s : State) (t n k : Nat), n < 16 → (s.pin n).lastStep = some k → k + us (s.posRec n).stillUs ≤ max s.now t →
    s.fb (POS_n_STATUS_STILL n) = false →
    ∃ s', exec (.standstill t n) s = .next s' ∧ s'.fb (POS_n_STATUS_STILL n) = true ∧ (s'.pin n).run = 0 ∧ (s'.pin n).intervals = []) ∧
  (∀ (s : State) (t n : Nat) (v : Word), n < 16 → s.writable (rPOS_n_PRESET_HI n) = true →
    (s.st = NIGHT ∨ s.st = DAWN ∨ s.func = MORNING →
      ∃ s', exec (.posPreset t n v) s = .next s' ∧ s'.f (POS_n_COUNT_LO_COUNT n) = s.lowOf 0 (rPOS_n_PRESET_LO n) ∧
        s'.f (POS_n_COUNT_HI_EPOCH n) = v.toNat % 2 ^ 16) ∧
    (s.st ≠ NIGHT → s.st ≠ DAWN → s.func ≠ MORNING →
      ∃ s', exec (.posPreset t n v) s = .next s' ∧ (s.at t).Raised s' 0 0 kPOS_NOTE (rPOS_n_PRESET_HI n) ∧
        s'.f (POS_n_COUNT_LO_COUNT n) = s.f (POS_n_COUNT_LO_COUNT n) ∧ s'.f (POS_n_COUNT_HI_EPOCH n) = s.f (POS_n_COUNT_HI_EPOCH n))) ∧
  (∀ (s : State) (t n : Nat) (v : Word), n < 16 → s.writable (rPOS_n_CMP n) = true →
    ∃ s', exec (.posCmpWrite t n v) s = .next s' ∧ s'.f (POS_n_CMP_TARGET n) = v.toNat ∧
      (aheadOf 32 v.toNat (s.f (POS_n_COUNT_LO_COUNT n)) = false → s'.fb (POS_n_STATUS_CMP_BEHIND n) = true)) ∧
  (∀ (s : State) (t n : Nat), (∃ s', exec (.decoderCrossCheck t n true) s = .next s' ∧ s' = s.at t) ∧
    ∃ s', exec (.decoderCrossCheck t n false) s = .next s' ∧ (s.at t).Raised s' 0 0 kPOS_MISMATCH n)

/-- The event fabric, the ring line references and the cue inputs (R87, R113, R129, R130, R132 to R134, R136). Events due leave the fabric
and act at the destinations they are routed to. A reference heard in time waits until DELAY_NS after its stamp, and its release emits its
source. A heartbeat is due every 100 µs. A taken channel silent for 1 ms is LOST and raises REF_LOST. The measured link delay is
kept. A cue line's edge emits its source. -/
def Obligations.EventsAndReferences : Prop :=
  (∀ (s : State) (t k : Nat) (e : FabEvt) (im : Image), s.pos.fabric = [e] → e.due ≤ max s.now t → s.cfg.armed = some im →
    im.routes.filter (fun r => r.1 == e.src) = [(e.src, 0x140 + k)] → k < 16 → s.sys.patternDone = false →
    ∃ s', exec (.eventFabricDelivery t) s = .next s' ∧ s'.pos.fabric = [] ∧
      s'.f (POS_EVCNT_c_VALUE k) = (s.f (POS_EVCNT_c_VALUE k) + 1) % 2 ^ 32) ∧
  (∀ (s : State) (t port : Nat) (p : RingPkt), s.powered = true → s.portUp port = true → p.type = 0x22 → p.bcast = true →
    ¬(s.fb RING_STATUS_POS_VALID = true ∧ p.src = s.eid) → tget 0 s.ring.seqIn (p.src * 4 + p.vc) = 0 →
    s.takers (refOf p.payload).ch ≠ [] → (s.refCh (refOf p.payload).ch).heard.any (· != p.src) = false →
    (refOf p.payload).beat = false → s.ageHere port p + 500 ≤ (refOf p.payload).delay →
    ∃ s', exec (.lineref t port p) s = .next s' ∧
      (s'.refCh (refOf p.payload).ch).queue = (s.refCh (refOf p.payload).ch).queue ++
        [{ at_ := max s.now t + 4 * ((refOf p.payload).delay - s.ageHere port p), line := (refOf p.payload).line,
           dir := (refOf p.payload).fwd, marker := (refOf p.payload).marker }]) ∧
  (∀ (s : State) (t ch : Nat) (r : RefPend), (s.refCh ch).queue = [r] → r.at_ ≤ max s.now t →
    ∃ s', exec (.linerefRelease t ch) s = .next s' ∧ ∃ e ∈ s'.pos.fabric, e.src = 0x50 + ch) ∧
  (∀ (s : State) (t n : Nat), (s.posRec n).refSend = true → (s.pin n).hbDue ≤ max s.now t →
    ∃ s', exec (.linerefHeartbeat t n) s = .next s' ∧ (s'.pin n).hbDue = max s.now t + us 100 ∧
      (s.portUp 0 = true → ∃ p, Output.ring 0 p ∈ s'.out ∧ p.type = 0x22 ∧ p.bcast = true)) ∧
  (∀ (s : State) (t ch x : Nat), (s.refCh ch).lastAt = some x → x + ms 1 ≤ max s.now t → s.takers ch ≠ [] →
    bit (s.f POS_REF_STATUS_LOST) ch = false → ch < 16 →
    ∃ s', exec (.linerefLost t ch) s = .next s' ∧ bit (s'.f POS_REF_STATUS_LOST) ch = true ∧
      ∃ m ∈ s'.flt.wire, m.group = kREF_LOST.group ∧ m.kind = kREF_LOST.code) ∧
  (∀ (s : State) (t port delay : Nat), port < 4 → s.portUp port = true →
    ∃ s', exec (.linkDelayMeasurement t port delay) s = .next s' ∧
      s'.f (RING_PORT_p_DELAY_DELAY_NS port) = min 65535 delay) ∧
  (∀ (s : State) (t n : Nat) (level : Bool), s.powered = true → n < 16 → (lookup? s.svc.cueIn n).getD false ≠ level →
    cueInput (s.cueRec n).func = true → s.cueHeld n = false →
    ∃ s', exec (.cueInputEdge t n level) s = .next s' ∧
      ∃ e ∈ s'.pos.fabric, e.src = (if level = (s.cueRec n).activeLow then 0x040 else 0x030) + n)

/-- The lanes and strobes (R19, R149, R153, R160 to R162, R248, R253, R317, R320, R321, R330). An engine whose lines are complete prepares the
next cycle; PACK puts it into the output register; the port sends it when the tile has room; and at its target time its strobe
leaves, with its tag, when the tile may be strobed. A window's swap and pause end at their times. -/
def Obligations.LanesAndStrobes : Prop :=
  (∀ (s : State) (t e n f : Nat) (r : TileRec) (id : Nat) (d : Doc), (s.at t).tileOf? e = some n → (s.at t).tileRec? n = some r →
    ((s.at t).fireT n).doc = some id → ((s.at t).lane e).nextF = some f → ((s.at t).win r.docwin).doc = some d →
    (s.at t).fb (LANE_e_STATUS_FAILED e) = false → ((s.at t).th n).waitSpare = false → ((s.at t).th n).dead = false →
    ((s.at t).lane e).inFlight = none → ((s.at t).lane e).outReg = none → aheadOf 32 ((s.at t).f (FIRE_n_HWM_H n)) f = false →
    (s.at t).mayPrepare n f d = true → (cycleLines d f).all (lineReady ((s.at t).lane e)) = true →
    d.fixed = true ∨ ((s.at t).lane e).bufDoc = some d.id →
    ∃ s' p, exec (.laneCycleStart t e) s = .next s' ∧ (s'.lane e).inFlight = some p ∧ p.f = f ∧ p.doc = d.id ∧
      (s'.lane e).nextF = some ((f + 1) % 2 ^ 32)) ∧
  (∀ (s : State) (t e n : Nat) (p : Packet), (s.at t).tileOf? e = some n → (s.lane e).inFlight = some p → (s.lane e).outReg = none →
    ∃ s', exec (.cyclePackComplete t e) s = .next s' ∧ (s'.lane e).inFlight = none ∧ (s'.lane e).outReg = some p ∧
      (s'.lane e).packed = some p.f) ∧
  (∀ (s : State) (t n e : Nat) (p : Packet), (s.th n).engine = some e → (s.lane e).outReg = some p → (s.at t).tileUp n = true →
    (s.port n).ready = [] ∨ ((s.port n).ready.length = 1 ∧ ∃ x, (s.fireT n).lastStrobe = some x ∧ x + 800 ≤ max s.now t) →
    ∃ s', exec (.tilePacketSend t n) s = .next s' ∧ (s'.lane e).outReg = none ∧ (s'.port n).ready = (s.port n).ready ++ [p] ∧
      s'.out = .frame n (max s.now t + 28512) p :: s.out) ∧
  (∀ (s : State) (t n : Nat) (c : Cycle) (rest : List Cycle) (p : Packet), n < 96 → (s.fireT n).launch = c :: rest → c.target ≤ max s.now t →
    readyPacket? (s.port n) c = some p → (s.at t).strobeAllowed n = true →
    ∃ s', exec (.strobeLaunch t n) s = .next s' ∧ s'.out = .strobe n c.target p :: s.out ∧ (s'.fireT n).launch = rest ∧
      (s'.fireT n).lastStrobe = some c.target ∧ (s'.port n).lastTag = some (p.f % 65536)) ∧
  (∀ (s s' : State) (t n : Nat), exec (.strobeLaunch t n) s = .next s' → n < 96 → (s.at t).strobeAllowed n = false →
    ∃ new, s'.out = new ++ s.out ∧ ∀ o ∈ new, o.isStrobe = false) ∧
  (∀ (s : State) (t w x : Nat), (s.win w).swapAt = some x → x + ms 1 ≤ max s.now t → (s.win w).doc = none →
    ∃ s', exec (.gapSwapTimeout t w) s = .next s' ∧ (s'.win w).swapAt = none ∧ (s'.win w).doc = none) ∧
  (∀ (s : State) (t w x y : Nat), (s.win w).pauseTo = some x → (s.win w).pauseFrom = some y → x ≤ max s.now t →
    ∃ s', exec (.pauseEnd t w) s = .next s' ∧ (s'.win w).pauseTo = none ∧ (s'.win w).pauseFrom = none ∧
      s'.fb (FIRE_WIN_w_STATUS_PAUSED w) = false)

/-- Nozzle health (R194 to R203, R214, R217 to R220, R254). A measurement stores its result and moves the cursor on. HLTH_FORCE sets or clears FORCED. A bypass
that may be made is at the tile's next gap, and another is refused with a NOTE. A parity error fails the engine and drops the cycle in
progress. A prepared engine takes its tile over in the gap. Rolls begin at the next lane in turn, and the freed engine's test
moves the tile back or fails the engine. -/
def Obligations.NozzleHealth : Prop :=
  (∀ (s : State) (t n : Nat), n < 96 → (s.at t).mayMeasure n = true → s.f (HLTH_n_SCAN_CURSOR n) < 12287 →
    ∃ s', exec (.heaterMeasurement t n none none) s = .next s' ∧
      (s'.nozzle n (s.f (HLTH_n_SCAN_CURSOR n))).res = 0xFFFF ∧ (s'.nozzle n (s.f (HLTH_n_SCAN_CURSOR n))).dis = 0 ∧
      s'.f (HLTH_n_SCAN_CURSOR n) = s.f (HLTH_n_SCAN_CURSOR n) + 1) ∧
  (∀ (s : State) (t : Nat) (v : Word), s.writable rHLTH_FORCE = true → bits v.toNat 22 16 < 96 → bits v.toNat 13 0 < 12288 →
    ∃ s', exec (.hlthForce t v) s = .next s' ∧ mapForced (s'.nozzle (bits v.toNat 22 16) (bits v.toNat 13 0)).bg = bit v.toNat 31) ∧
  (∀ (s : State) (t : Nat) (v : Word), s.writable rHLTH_BYPASS_REQ = true → bit v.toNat 31 = true →
    (bits v.toNat 6 0 < 96 → (s.at t).bypassOk (bits v.toNat 6 0) = true → (s.at t).bypassed (bits v.toNat 6 0) = false →
      ∃ s', exec (.bypassRequest t v) s = .next s' ∧ (s'.th (bits v.toNat 6 0)).bypassReq = true) ∧
    (¬(bits v.toNat 6 0 < 96 ∧ (s.at t).bypassOk (bits v.toNat 6 0) = true) →
      ∃ s', exec (.bypassRequest t v) s = .next s' ∧ (s.at t).Raised s' 0 0 kHLTH_NOTE rHLTH_BYPASS_REQ)) ∧
  (∀ (s : State) (t e : Nat), e < 104 → s.powered = true → s.fb (LANE_e_STATUS_FAILED e) = false →
    ∃ s', exec (.laneParityError t e) s = .next s' ∧ s'.fb (LANE_e_STATUS_PARITY e) = true ∧ s'.fb (LANE_e_STATUS_FAILED e) = true ∧
      (s'.lane e).inFlight = none ∧ ∃ m ∈ s'.flt.wire, m.group = kHLTH_LANE_FAIL.group ∧ m.kind = kHLTH_LANE_FAIL.code ∧
        m.die = engineDie e + 1) ∧
  (∀ (s : State) (t n e : Nat) (r : TileRec), (s.th n).moveTo = some e → (s.at t).tileRec? n = some r → (s.at t).bypassed n = false →
    (s.at t).fb (LANE_e_STATUS_FAILED e) = false → (s.win r.docwin).doc = none →
    ∃ s', exec (.laneEnginePrepared t n) s = .next s' ∧ (s'.th n).engine = some e ∧ (s'.th n).moveTo = none) ∧
  (∀ (s : State) (t d n : Nat), d < 4 → (s.at t).fb HLTH_CTRL_ROLL_EN = true → lookup? s.health.rollTile d = none →
    (lookup? s.health.rollDue d).getD 0 ≤ max s.now t → (s.at t).freeSpares d ≠ [] → (s.at t).nextRoll? d = some n →
    ∃ s', exec (.rollIntervalExpiry t d) s = .next s' ∧ lookup? s'.health.rollTile d = some (n + 1) ∧ (s'.th n).rollWait = true) ∧
  (∀ (s : State) (t d n : Nat), lookup? s.health.rollTile d = some (n + 1) → (s.lane n).rollTest = true →
    (∃ s', exec (.rollSelfTestComplete t d true) s = .next s' ∧ (s'.th n).moveBack = true ∧ (s'.lane n).rollTest = false ∧
      s'.fb (LANE_e_STATUS_TESTING n) = false) ∧
    (n < 96 → ∃ s', exec (.rollSelfTestComplete t d false) s = .next s' ∧ s'.fb (LANE_e_STATUS_FAILED n) = true ∧
      lookup? s'.health.rollTile d = none))

/-- Composition (R231, R233, R237 to R239, R242, R243, R256). A window's next record with room and free counters begins to render
as a new document. A rendered document reaches stage 1 with its planned drops. The prefill of a tile's lane gives its
buffer to the document, and a line written stands complete in its slot, with the dots of the document. -/
def Obligations.Composition : Prop :=
  (∀ (s : State) (t w : Nat) (r : CmpRec), (s.at t).nextRec? w = some r →
    ((s.at t).comp.docs.any fun d => d.rcd.win == w && d.stage == 0) = false → (s.at t).recMib r ≤ (s.at t).waFree →
    (s.at t).serialWaits r = false →
    ∃ s' d, exec (.documentRenderStart t w) s = .next s' ∧ s'.comp.docs = s.comp.docs ++ [d] ∧ d.id = s.comp.nextDoc ∧ d.rcd = r ∧
      d.rep = r.started ∧ d.stage = 0 ∧ d.wa = (s.at t).recMib r ∧ s'.comp.nextDoc = s.comp.nextDoc + 1) ∧
  (∀ (s : State) (t w : Nat) (d : RDoc), (s.comp.docs.find? fun d => d.rcd.win == w && d.stage == 0) = some d →
    ∃ s', exec (.documentRendered t w) s = .next s' ∧ s'.comp.docs.map (·.id) = s.comp.docs.map (·.id) ∧
      ∀ x ∈ s'.comp.docs, x.id = d.id → x.stage = 1) ∧
  (∀ (s : State) (t n e : Nat) (r : TileRec) (d : RDoc), (s.at t).tileRec? n = some r → (s.th n).engine = some e →
    (s.at t).bypassed n = false → (s.at t).fb (LANE_e_STATUS_FAILED e) = false → (s.at t).prefillDoc? n e r = some d →
    ∃ s', exec (.prefillComplete t n) s = .next s' ∧ (s'.lane e).bufDoc = some d.id) ∧
  (∀ (s : State) (t n e j : Nat) (d : RDoc), (s.th n).engine = some e → ((s.lane e).bufDoc.bind (s.at t).rdoc?) = some d →
    (s.at t).prefill ≤ j → (s.at t).mayWrite n e j d = true → (s.at t).f (MEM_LBANK_e_LINE e) = 0 →
    ∃ s', exec (.lineBufferWrite t n j) s = .next s' ∧ lineReady (s'.lane e) j = true ∧
      Mem.getBytes (fun _ => 0) (s'.lane e).buf (j % 128 * 256) (lineBytes d n j).length = (lineBytes d n j).map (· % 256))

/-- Streams (R264 to R267, R277, R287, R292, R293). A host-facing reset ends every read, masks the interrupts, brings the aperture to 0 and
raises HOST_LINK with its kind. EN = 1 with a sound configuration and units to spare enables a stream, which then holds its units; an unsound
one is refused with CFG_ERR. EN = 0 disables it; RESET on a disabled idle stream brings its positions to 0 with PHASE 1. A submission doorbell
posts the descriptors before its tail, and one that is out of range or comes to a disabled stream sets DB_IGNORED. A completion doorbell frees
the records before its head. A paused stream goes on once its fill has fallen to LOW. A stream that has waited 10 ms for completion
space raises DMA_CQ_STALL. -/
def Obligations.Streams : Prop :=
  (∀ (s : State) (t kind : Nat), s.powered = true → 1 ≤ kind → kind ≤ 4 →
    ∃ s', exec (.hostFacingReset t kind) s = .next s' ∧ s'.dma.reads = [] ∧ s'.host.msixTable = [] ∧ s'.host.msixPend = [] ∧
      s'.f HOST_AP_BASE_BASE_GIB = 0 ∧ s'.mem.form = s.mem.form ∧ s.Reported s' kHOST_LINK kind) ∧
  (∀ (s : State) (t k : Nat) (v : Word), s.writable (rDMA_s_CTRL k) = true → k < 4096 → bit v.toNat 31 = true →
    s.fb (DMA_s_CTRL_EN k) = false →
    (s.streamOk k = true → s.f (DMA_s_STAGE_SIZE k) ≤ s.f DMA_POOL_FREE + (s.stream k).units →
      ∃ s', exec (.streamEnable t k v) s = .next s' ∧ s'.fb (DMA_s_CTRL_EN k) = true ∧ (s'.stream k).units = s.f (DMA_s_STAGE_SIZE k) ∧
        (s'.stream k).posted = s.f (DMA_s_SQ_HEAD_HEAD k)) ∧
    (s.streamOk k = false → ∃ s', exec (.streamEnable t k v) s = .next s' ∧ s'.fb (DMA_s_CTRL_EN k) = false ∧
      s'.fb (DMA_s_STATUS_CFG_ERR k) = true)) ∧
  (∀ (s : State) (t k : Nat) (v : Word), s.writable (rDMA_s_CTRL k) = true → k < 4096 → bit v.toNat 31 = false → bit v.toNat 30 = false →
    s.fb (DMA_s_CTRL_EN k) = true →
    ∃ s', exec (.streamDisable t k v) s = .next s' ∧ s'.fb (DMA_s_CTRL_EN k) = false ∧ (s'.stream k).fetched = [] ∧
      (s'.stream k).fetching = false ∧ (s'.stream k).exec = (s.stream k).exec ∧
      s'.fb (DMA_s_STATUS_IDLE k) = (s.stream k).exec.isNone) ∧
  (∀ (s : State) (t k : Nat) (v : Word), s.writable (rDMA_s_CTRL k) = true → k < 4096 → bit v.toNat 31 = false → bit v.toNat 30 = true →
    s.fb (DMA_s_CTRL_EN k) = false → s.fb (DMA_s_STATUS_IDLE k) = true →
    ∃ s', exec (.streamReset t k v) s = .next s' ∧ s'.f (DMA_s_SQ_HEAD_HEAD k) = 0 ∧ s'.f (DMA_s_CQ_TAIL_TAIL k) = 0 ∧
      s'.f (DMA_s_CQ_TAIL_PHASE k) = 1 ∧ s'.f (DMA_s_RESV_RESV k) = 0 ∧ s'.fb (DMA_s_STATUS_HALTED k) = false ∧
      (s'.stream k).posted = 0 ∧ (s'.stream k).used = 0 ∧ (s'.stream k).fetched = []) ∧
  (∀ (s : State) (t k : Nat) (v : Word), s.writable (rDMA_s_DB_SQ k) = true → k < 4096 →
    (s.fb (DMA_s_CTRL_EN k) = true → bits v.toNat 15 0 < s.sqSize k →
      ∃ s', exec (.sqDoorbell t k v) s = .next s' ∧ (s'.stream k).posted = bits v.toNat 15 0 ∧ s'.regs = (s.at t).regs) ∧
    (s.fb (DMA_s_CTRL_EN k) = false ∨ s.sqSize k ≤ bits v.toNat 15 0 →
      ∃ s', exec (.sqDoorbell t k v) s = .next s' ∧ s'.dma = s.dma ∧ s'.fb (DMA_s_STATUS_DB_IGNORED k) = true)) ∧
  (∀ (s : State) (t k : Nat) (v : Word), s.writable (rDMA_s_DB_CQ k) = true → k < 4096 →
    ∃ s', exec (.cqDoorbell t k v) s = .next s' ∧ (s'.stream k).used =
      (s.f (DMA_s_CQ_TAIL_TAIL k) + s.cqSize k - bits v.toNat 19 0 % s.cqSize k) % s.cqSize k ∧ (s'.stream k).fetched = (s.stream k).fetched) ∧
  (∀ (s : State) (t k : Nat), k < 4096 → s.fb (DMA_s_STATUS_PAUSED k) = true → s.fillBytes k ≤ s.f (DMA_s_STAGE_LOW k) * 4096 →
    (s.stream k).exec = none → ∃ s', exec (.pacingResume t k) s = .next s' ∧ s'.fb (DMA_s_STATUS_PAUSED k) = false) ∧
  (∀ (s : State) (t k x : Nat), k < 4096 → (s.stream k).waitSince = some x → x + ms 10 ≤ max s.now t → s.fb (DMA_s_STATUS_CQ_WAIT k) = true →
    ∃ s', exec (.dmaCqStall t k) s = .next s' ∧ (s'.stream k).waitSince = none ∧ (s.at t).Raised s' 0 0 kDMA_CQ_STALL k)

/-- Descriptors (R267 to R276, R280 to R289). A stream reads the descriptors posted to it, and accepts the next one when its completion
space is free: a sound descriptor begins, an unsound one is refused with its record. NOP ends at once. COPY and COPY2D between places in the form
store move their chunks in order, FILL repeats its pattern, COMPARE answers the first block that differs, COMPOSE reads its
record from host memory, SLOT_ALLOC takes the lowest place of its region, SLOT_FREE ends a handle. A descriptor that is done writes its
record and frees its stream, with BARRIER after the last acknowledgement. -/
def Obligations.Descriptors : Prop :=
  (∀ (s : State) (t k : Nat), k < 4096 → s.fb (DMA_s_CTRL_EN k) = true → s.fb (DMA_s_STATUS_HALTED k) = false →
    s.fb (DMA_s_STATUS_CQ_WAIT k) = false → s.fb (DMA_s_STATUS_PAUSED k) = false → (s.stream k).fetching = false →
    (s.stream k).fetched = [] → s.fetchCount k ≠ 0 → s.readRoom = true → s.viaRing = false →
    ∃ s', exec (.descriptorFetch t k) s = .next s' ∧ (s'.stream k).fetching = true ∧
      s.Put s' (fun o => o = .hostRead s.dma.nextTag (s.sqBase k + 64 * s.f (DMA_s_SQ_HEAD_HEAD k)) (64 * s.fetchCount k))) ∧
  (∀ (s : State) (t k : Nat) (f : Fetched) (r : List Fetched), k < 4096 → s.fb (DMA_s_CTRL_EN k) = true → (s.stream k).exec = none →
    (s.stream k).fetched = f :: r →
    (s.reserve k (parseDesc f.bytes) ≤ s.cqFree k → s.descStatus k (parseDesc f.bytes) = 0 →
      ∃ s' x, exec (.descriptorAccept t k) s = .next s' ∧ (s'.stream k).exec = some x ∧ x.index = f.index ∧ x.bytes = f.bytes ∧
        x.begun = false ∧ x.done = false ∧ (s'.stream k).fetched = r ∧ s'.fb (DMA_s_STATUS_IDLE k) = false) ∧
    (s.reserve k (parseDesc f.bytes) ≤ s.cqFree k → s.descStatus k (parseDesc f.bytes) ≠ 0 →
      ∃ s', exec (.descriptorAccept t k) s = .next s' ∧ (s'.stream k).exec = none ∧ (s'.stream k).fetched = r ∧
        s.Reported s' kDMA_REFUSED (k + f.index * 4096 + s.descStatus k (parseDesc f.bytes) % 16 * 2 ^ 28)) ∧
    (s.cqFree k < s.reserve k (parseDesc f.bytes) →
      ∃ s', exec (.descriptorAccept t k) s = .next s' ∧ s'.fb (DMA_s_STATUS_CQ_WAIT k) = true ∧ (s'.stream k).fetched = f :: r)) ∧
  (∀ (s : State) (t k : Nat) (x : Exec), (s.stream k).exec = some x → x.done = false → (parseDesc x.bytes).op = 0 →
    ∃ s', exec (.nop t k) s = .next s' ∧ (s'.stream k).exec = some { x with done := true } ∧ s'.regs = (s.at t).regs) ∧
  (∀ (s : State) (t k : Nat) (x : Exec), (s.stream k).exec = some x → x.done = false → x.begun = false → x.flying = [] → x.todo = [] →
    x.srcMem = 1 → x.dstMem = 1 →
    ((parseDesc x.bytes).op = 1 → ∃ s' y, exec (.copy t k) s = .next s' ∧ (s'.stream k).exec = some y ∧ y.done = true ∧
      y.status = x.status ∧ s'.mem.form = (s.chunks (parseDesc x.bytes) x).foldl (fun m c =>
        Mem.putBytes Config.formPowerOn c.dst (Mem.getBytes Config.formPowerOn m c.src c.len) m) s.mem.form) ∧
    ((parseDesc x.bytes).op = 2 → ∃ s' y, exec (.copy2d t k) s = .next s' ∧ (s'.stream k).exec = some y ∧ y.done = true ∧
      y.status = x.status ∧ s'.mem.form = (s.chunks (parseDesc x.bytes) x).foldl (fun m c =>
        Mem.putBytes Config.formPowerOn c.dst (Mem.getBytes Config.formPowerOn m c.src c.len) m) s.mem.form) ∧
    ((parseDesc x.bytes).op = 4 →
      (∀ c ∈ s.chunks (parseDesc x.bytes) x, firstDiff (s.formBytes c.src c.len) (s.formBytes c.dst c.len) c.len = none) →
      ∃ s' y, exec (.compare t k) s = .next s' ∧ (s'.stream k).exec = some y ∧ y.done = true ∧ y.result = 2 ^ 64 - 1 ∧
        s'.mem.form = s.mem.form) ∧
    ((parseDesc x.bytes).op = 4 → ∀ c o, s.chunks (parseDesc x.bytes) x = [c] → c.off + o < 2 ^ 64 →
      firstDiff (s.formBytes c.src c.len) (s.formBytes c.dst c.len) c.len = some o →
      ∃ s' y, exec (.compare t k) s = .next s' ∧ (s'.stream k).exec = some y ∧ y.done = true ∧ y.result = c.off + o ∧
        s'.mem.form = s.mem.form)) ∧
  (∀ (s : State) (t k : Nat) (x : Exec), (s.stream k).exec = some x → x.done = false → (parseDesc x.bytes).op = 3 → x.dstMem = 1 →
    ∃ s' y, exec (.fill t k) s = .next s' ∧ (s'.stream k).exec = some y ∧ y.done = true ∧
      s'.mem.form = (s.chunks (parseDesc x.bytes) x).foldl (fun m c =>
        Mem.putBytes Config.formPowerOn c.dst (fillBytes8 (parseDesc x.bytes).arg c.len) m) s.mem.form) ∧
  (∀ (s : State) (t k : Nat) (x : Exec) (c : Chunk), k < 4096 → (s.stream k).exec = some x → x.done = false → x.begun = false →
    x.flying = [] → (parseDesc x.bytes).op = 16 → x.srcMem = 0 → x.data = [] → s.chunks (parseDesc x.bytes) x = [c] → 0 < c.len →
    s.fb (DMA_s_STATUS_PAUSED k) = false → s.readRoom = true → s.viaRing = false →
    ∃ s' y, exec (.compose t k) s = .next s' ∧ (s'.stream k).exec = some y ∧ y.flying = [c] ∧ y.todo = [] ∧ y.done = false ∧
      s.Put s' (fun o => o = .hostRead s.dma.nextTag c.src c.len)) ∧
  (∀ (s : State) (t k : Nat) (x : Exec) (im : Image) (r : Region), (s.stream k).exec = some x → x.done = false →
    (parseDesc x.bytes).op = 17 → s.cfg.armed = some im →
    im.regions.find? (fun r => r.region == (parseDesc x.bytes).arg % 64 && r.kind == 1) = some r → s.dma.slots = [] →
    ((parseDesc x.bytes).arg / 2 ^ 32 ≤ r.sizeMib * 2 ^ 20 →
      ∃ s' y, exec (.slotAlloc t k) s = .next s' ∧ (s'.stream k).exec = some y ∧ y.done = true ∧ y.status = 0 ∧
        y.result = 2 ^ 24 + r.baseMib * 2 ^ 20 / 64 * 2 ^ 32 ∧
        s'.dma.slots = [(0, { gen := 1, owner := k, base := r.baseMib * 2 ^ 20, size := (parseDesc x.bytes).arg / 2 ^ 32,
                              region := (parseDesc x.bytes).arg % 64 })]) ∧
    (r.sizeMib * 2 ^ 20 < (parseDesc x.bytes).arg / 2 ^ 32 →
      ∃ s' y, exec (.slotAlloc t k) s = .next s' ∧ (s'.stream k).exec = some y ∧ y.done = true ∧ y.status = 0x0A ∧ y.detail = 1 ∧
        s'.dma.slots = [])) ∧
  (∀ (s : State) (t k : Nat) (x : Exec) (sl : Slot), (s.stream k).exec = some x → x.done = false → (parseDesc x.bytes).op = 18 →
    s.wins = [] → s.comp.docs = [] → s.dma.slots = [((parseDesc x.bytes).arg % 2 ^ 24, sl)] →
    sl.gen = (parseDesc x.bytes).arg % 2 ^ 32 / 2 ^ 24 →
    ∃ s' y, exec (.slotFree t k) s = .next s' ∧ (s'.stream k).exec = some y ∧ y.done = true ∧
      s'.dma.slots = [((parseDesc x.bytes).arg % 2 ^ 24,
        { sl with live := false, kept := false, gen := if sl.gen = 255 then 1 else sl.gen + 1 })]) ∧
  (∀ (s : State) (t k : Nat) (x : Exec), k < 4096 → (s.stream k).exec = some x → x.done = true → s.viaRing = false →
    ((parseDesc x.bytes).barrier = false ∨ x.acked = true →
      ∃ s', exec (.descriptorComplete t k) s = .next s' ∧ (s'.stream k).exec = none ∧ s'.fb (DMA_s_STATUS_IDLE k) = true ∧
        s.Put s' (fun o => ∃ bs, o = .hostWrite (s.cqBase k + 32 * s.f (DMA_s_CQ_TAIL_TAIL k)) bs ∧ bs.length = 32) ∧
        (x.status = 1 → s.Reported s' kDMA_BAD (k + x.index * 4096 + x.detail % 16 * 2 ^ 28))) ∧
    ((parseDesc x.bytes).barrier = true → x.acked = false → x.acks = 0 → x.dstMem = 1 →
      ∃ s', exec (.barrierAck t k) s = .next s' ∧ (s'.stream k).exec = none ∧
        s.Put s' (fun o => ∃ bs, o = .hostWrite (s.cqBase k + 32 * s.f (DMA_s_CQ_TAIL_TAIL k)) bs ∧ bs.length = 32)))

/-- Host reads and the apertures (R37, R38, R40, R261, R262, R281, R304, R477). An Unsupported Request, a Completer Abort or a poisoned
completion marks the descriptor BAD at once with its code; good data goes where its chunk belongs. A read without an answer by its time is
retried after its backoff under a new tag, eight times. A completion that no read awaits is counted and noted. BAR4 reads and
writes the form store at the aperture's base; BAR2 reaches the own registers at the own position, another engine's by REG_RD
and REG_WR, and nothing at a position without an engine. -/
def Obligations.HostReadsAndApertures : Prop :=
  (∀ (s : State) (t tag status k : Nat) (data : List Nat) (r : OutRead) (x : Exec), s.read? tag = some r → r.kind = .chunk → r.stream = k →
    k < 4096 → (s.stream k).exec = some x → x.status = 0 → x.done = false → x.begun = true → x.flying.filter (fun c => c.off != r.off) = [] →
    (parseDesc x.bytes).op ≠ 16 → s.ring.hostQ = [] →
    1 ≤ status → status ≤ 3 →
    ∃ s' y, exec (.hostReadCompletion t tag status data) s = .next s' ∧ (s'.stream k).exec = some y ∧ y.status = 1 ∧ y.detail = status ∧
      y.result = r.off ∧ y.done = true ∧ s'.read? tag = none ∧ s'.mem.form = s.mem.form) ∧
  (∀ (s : State) (t tag k : Nat) (data : List Nat) (r : OutRead) (x : Exec) (c : Chunk), s.read? tag = some r → r.kind = .chunk →
    r.stream = k → k < 4096 → r.side = 0 → r.off = c.off → r.len = c.len → data.length = c.len → 0 < c.len → (s.stream k).exec = some x →
    x.begun = true → x.done = false → x.todo = [] → x.flying = [c] → x.data = [] → x.srcMem = 0 → x.dstMem = 1 →
    (parseDesc x.bytes).op = 1 → s.ring.hostQ = [] →
    ∃ s' y, exec (.hostReadCompletion t tag 0 data) s = .next s' ∧ (s'.stream k).exec = some y ∧ y.done = true ∧
      s'.mem.form = Mem.putBytes Config.formPowerOn c.dst (data.map (· % 256)) s.mem.form) ∧
  (∀ (s : State) (t tag : Nat) (r : OutRead), s.read? tag = some r → r.due ≤ max s.now t → r.tries < 8 →
    ∃ s', exec (.hostReadTimeout t tag) s = .next s' ∧
      { r with retryAt := some (max s.now t + us (2 ^ r.tries)), tries := r.tries + 1 } ∈ s'.dma.reads ∧ s'.read? tag = none) ∧
  (∀ (s : State) (t tag x : Nat) (r : OutRead), s.dma.reads = [r] → r.tag = tag → r.retryAt = some x → x ≤ max s.now t →
    ∃ s', exec (.hostReadRetry t tag) s = .next s' ∧ s'.out = .hostRead s.dma.nextTag r.addr r.len :: s.out ∧
      s'.dma.reads = [{ r with tag := s.dma.nextTag, due := max s.now t + us s.host.ctoUs, retryAt := none }]) ∧
  (∀ (s : State) (t tag : Nat), s.powered = true → s.read? tag = none →
    ∃ s', exec (.unexpectedCompletion t tag) s = .next s' ∧ s'.f HOST_ERR_UNEXP = min 4095 (s.f HOST_ERR_UNEXP + 1) ∧
      (s.at t).Raised s' 0 0 kHOST_UNEXP_CPL tag) ∧
  (∀ (s : State) (t a n : Nat), s.powered = true → s.sys.bootDone = true → a + n ≤ 2 ^ 32 →
    (∃ s', exec (.bar4Access t a n none) s = .next s' ∧ s'.mem = s.mem ∧
      s'.out = .barData 0 (s.formBytes (min 60 (s.f HOST_AP_BASE_BASE_GIB) * 2 ^ 30 + a) n) :: s.out) ∧
    (∀ bs : List Nat, bs.length = n →
      ∃ s', exec (.bar4Access t a n (some bs)) s = .next s' ∧ s'.out = s.out ∧
        s'.mem.form = Mem.putBytes Config.formPowerOn (min 60 (s.f HOST_AP_BASE_BASE_GIB) * 2 ^ 30 + a) bs s.mem.form)) ∧
  (∀ (s : State) (t pos off n : Nat) (data : Option (List Nat)) (x : DawnTests), s.powered = true → pos < 64 → off < 2 ^ 24 →
    (s.fb RING_STATUS_POS_VALID = true → pos = s.eid % 64 →
      (data = none → ∃ s', exec (.bar2Access t (pos * 2 ^ 24 + off) n data x) s = .next s' ∧
        exec (.rcRead t .host off n) s = .next s') ∧
      (∀ bs, data = some bs → ∃ s', exec (.bar2Access t (pos * 2 ^ 24 + off) n data x) s = .next s' ∧
        exec (.registerWrite t .host off bs x) s = .next s')) ∧
    (s.fb RING_STATUS_POS_VALID = false →
      ∃ s', exec (.bar2Access t (pos * 2 ^ 24 + off) n data x) s = .next s' ∧
        s'.f HOST_ERR_BAR2_MISS = min 255 (s.f HOST_ERR_BAR2_MISS + 1) ∧ (data = none → s'.out = .barData 1 [] :: s.out)) ∧
    (s.fb RING_STATUS_POS_VALID = true → pos ≠ s.eid % 64 → pos < s.f RING_STATUS_ENGINES → off % 4 = 0 → n = 4 → data = none →
      s.portUp 0 = true → ∃ s', exec (.bar2Access t (pos * 2 ^ 24 + off) n data x) s = .next s' ∧
        s.Put s' (fun o => ∃ q, o = .ring 0 q ∧ q.type = 1 ∧ q.dst = s.eid / 64 * 64 + pos ∧ q.addr = off ∧ q.len = 4)))

/-- Requests and responses on the ring (R281, R297, R303 to R306, R311, R312). A request that arrives for this engine alone is done and answered
over East: a register read with the data, a register write, a form-store read with its bytes, a form-store write, at position 0 a
host read and a host write, and a document report, which waits for the others or writes the joined record. A response ends its request: data
goes where the request asked for them, and an acknowledgement counts. A request without a response fails after its time, and a document whose reports are
missing is recorded with RING_JOIN_TMO. -/
def Obligations.RingRequests : Prop :=
  (∀ (s : State) (t port : Nat) (p : RingPkt), s.receives port p = true → s.portUp 0 = true → s.st ≠ MIDNIGHT → p.type = 1 →
    wordSized p.addr p.len = true → p.addr < 0x177000 ∨ isStaging p.addr = true →
    ∃ s', exec (.regRd t port p) s = .next s' ∧
      s.Put s' (fun o => ∃ q, o = .ring 0 q ∧ q.type = 0x10 ∧ q.status = 0 ∧ q.dst = p.src ∧ q.rtag = p.rtag ∧
        q.payload = ((s.at t).busRead (masterCode (.ring p.src)) p.addr p.len).2.2)) ∧
  (∀ (s : State) (t port : Nat) (p : RingPkt) (x : DawnTests), s.receives port p = true → s.portUp 0 = true → s.st ≠ MIDNIGHT →
    p.type = 2 →
    (wordSized p.addr p.payload.length = true → 0x400000 ≤ p.addr → p.addr + p.payload.length ≤ 0x800000 → s.sys.bootDone = true →
      s.fb CFG_STATUS_BUSY = false → s.spadOn (16 + (p.addr - 0x400000) / 0x40000) = true →
      ∃ s', exec (.regWr t port p x) s = .next s' ∧ s'.mem.staging = Mem.putBytes (fun _ => 0) (p.addr - 0x400000) p.payload s.mem.staging ∧
        s.Put s' (fun o => ∃ q, o = .ring 0 q ∧ q.type = 0x11 ∧ q.status = 0 ∧ q.dst = p.src ∧ q.rtag = p.rtag)) ∧
    (wordSized p.addr p.payload.length = false →
      ∃ s', exec (.regWr t port p x) s = .next s' ∧
        s.Put s' (fun o => ∃ q, o = .ring 0 q ∧ q.type = 0x11 ∧ q.status = 1 ∧ q.dst = p.src ∧ q.rtag = p.rtag))) ∧
  (∀ (s : State) (t port : Nat) (p : RingPkt), s.receives port p = true → s.portUp 0 = true → s.st ≠ MIDNIGHT → p.type = 3 →
    p.len ≤ 256 → p.addr + p.len ≤ 2 ^ 36 →
    ∃ s', exec (.fsRd t port p) s = .next s' ∧ s'.mem = s.mem ∧
      s.Put s' (fun o => ∃ q, o = .ring 0 q ∧ q.type = 0x10 ∧ q.status = 0 ∧ q.dst = p.src ∧ q.rtag = p.rtag ∧
        q.payload = s.formBytes p.addr p.len)) ∧
  (∀ (s : State) (t port : Nat) (p : RingPkt), s.receives port p = true → s.portUp 0 = true → s.st ≠ MIDNIGHT → p.type = 4 →
    p.payload.length ≤ 256 → p.addr + p.payload.length ≤ 2 ^ 36 →
    ∃ s', exec (.fsWr t port p) s = .next s' ∧ s'.mem.form = Mem.putBytes Config.formPowerOn p.addr p.payload s.mem.form ∧
      s'.mem.staging = s.mem.staging ∧
      s.Put s' (fun o => ∃ q, o = .ring 0 q ∧ q.type = 0x11 ∧ q.status = 0 ∧ q.dst = p.src ∧ q.rtag = p.rtag)) ∧
  (∀ (s : State) (t port : Nat) (p : RingPkt), s.receives port p = true → s.eid % 64 = 0 → s.st ≠ MIDNIGHT → p.type = 5 →
    s.ring.hostQ = [] → s.readRoom = true →
    ∃ s', exec (.hostRd t port p) s = .next s' ∧ s'.ring.hostQ = [] ∧ s'.out = .hostRead s.dma.nextTag p.addr p.len :: s.out ∧
      ∃ r ∈ s'.dma.reads, r.kind = .member ∧ r.tag = s.dma.nextTag ∧ r.reqSrc = p.src ∧ r.reqTag = p.rtag) ∧
  (∀ (s : State) (t port : Nat) (p : RingPkt), s.receives port p = true → s.portUp 0 = true → s.eid % 64 = 0 → s.st ≠ MIDNIGHT →
    p.type = 6 →
    ∃ s', exec (.hostWr t port p) s = .next s' ∧ s.Put s' (fun o => o = .hostWrite p.addr p.payload) ∧
      s.Put s' (fun o => ∃ q, o = .ring 0 q ∧ q.type = 0x11 ∧ q.status = 0 ∧ q.dst = p.src ∧ q.rtag = p.rtag)) ∧
  (∀ (s : State) (t port : Nat) (p : RingPkt), s.receives port p = true → s.portUp 0 = true → s.eid % 64 = 0 → s.st ≠ MIDNIGHT →
    p.type = 7 → p.payload.length = 32 → s.ring.reports = [] → (∃ k ∈ s.joinMembers, k ≠ p.src % 64) →
    ∃ s' j, exec (.docReport t port p) s = .next s' ∧ s'.ring.reports = [j] ∧ j.win = byteAt p.payload 7 % 16 ∧
      j.tag = leAt p.payload 0 4 ∧ j.rep = leAt p.payload 4 2 ∧ j.first = max s.now t ∧
      j.reports = [(p.src, byteAt p.payload 6, leAt p.payload 12 4, leAt p.payload 24 2)] ∧
      s.Put s' (fun o => ∃ q, o = .ring 0 q ∧ q.type = 0x11 ∧ q.status = 0 ∧ q.dst = p.src)) ∧
  (∀ (s : State) (t port : Nat) (p : RingPkt) (r : RingReq), s.receives port p = true → p.type = 0x10 → p.status = 0 →
    s.ring.reqs = [r] → r.rtag = p.rtag → r.dst = p.src → r.kind = .bar2 →
    ∃ s', exec (.data t port p) s = .next s' ∧ s'.ring.reqs = [] ∧ s'.out = .barData 0 p.payload :: s.out) ∧
  (∀ (s : State) (t port : Nat) (p : RingPkt) (r : RingReq) (x : Exec), s.receives port p = true → p.type = 0x11 → p.status = 0 →
    s.ring.reqs = [r] → r.rtag = p.rtag → r.dst = p.src → r.kind = .chunkWrite → (s.stream r.stream).exec = some x → x.index = r.hostTag →
    ∃ s', exec (.ack t port p) s = .next s' ∧ s'.ring.reqs = [] ∧ (s'.stream r.stream).exec = some { x with acks := x.acks - 1 }) ∧
  (∀ (s : State) (t rtag : Nat) (r : RingReq), s.ring.reqs = [r] → r.rtag = rtag → r.due ≤ max s.now t →
    (r.kind = .bar2 → r.pkt.type = 1 →
      ∃ s', exec (.ringReqTimeout t rtag) s = .next s' ∧ s'.ring.reqs = [] ∧ s'.out = .barData 2 [] :: s.out) ∧
    (r.kind = .docReport → r.tries < 8 →
      ∃ s' q, exec (.ringReqTimeout t rtag) s = .next s' ∧ s'.ring.reqs = [q] ∧ q.kind = .docReport ∧ q.tries = r.tries + 1 ∧
        q.due = max s.now t + us 48 ∧ q.rtag = s.ring.nextRtag)) ∧
  (∀ (s : State) (t w : Nat) (j : JoinDoc), s.ring.reports = [j] → j.win = w →
    j.first + ms (max 1 (s.f RING_JOIN_CFG_TMO_MS)) ≤ max s.now t →
    ∃ s', exec (.ringJoinTmo t w) s = .next s' ∧ s'.ring.reports = [] ∧ s.Reported s' kRING_JOIN_TMO w)

/-- Joining and links (R295, R300 to R302, R307 to R310, R313). ENUM makes an engine position 0 of its ring and sends the JOIN token; an
engine without a position takes the token's and passes it on; the token that comes back closes the ring; without it the ring stays a line.
Frame retries are counted. A failed ring link loops its traffic, and its break is known and announced; a trained link names its far
end, a link that stays healthy sends a drain marker, and its return mends the break. Breaks that WRAP packets name are known. -/
def Obligations.JoiningAndLinks : Prop :=
  (∀ (s : State) (t : Nat) (v : Word), s.writable rRING_CTRL = true → bit v.toNat 31 = true → s.fb RING_STATUS_POS_VALID = false →
    s.fb RING_STATUS_PASS_ONLY = false →
    ∃ s', exec (.enum t v) s = .next s' ∧ s'.fb RING_STATUS_POS_VALID = true ∧ s'.eid = bits v.toNat 9 0 * 64 ∧
      s'.f RING_STATUS_ENGINES = 1 ∧ s'.ring.joinDue = some (max s.now t + ms 10) ∧
      (s.portUp 0 = true → s.Put s' (fun o => ∃ q, o = .ring 0 q ∧ q.type = 0x30 ∧ q.src = bits v.toNat 9 0 * 64 ∧ q.addr = 1))) ∧
  (∀ (s : State) (t port : Nat) (p : RingPkt), s.powered = true → s.portUp port = true → p.type = 0x30 →
    (s.fb RING_STATUS_POS_VALID = false → s.fb RING_STATUS_PASS_ONLY = false → p.addr ≤ 63 → p.src < 2 ^ 16 →
      ∃ s', exec (.join t port p) s = .next s' ∧ s'.fb RING_STATUS_POS_VALID = true ∧ s'.eid = p.src / 64 * 64 + p.addr ∧
        s'.f RING_STATUS_ENGINES = p.addr + 1 ∧
        (s.portUp 0 = true → s.Put s' (fun o => o = .ring 0 { p with addr := p.addr + 1 }))) ∧
    (s.fb RING_STATUS_POS_VALID = false → s.fb RING_STATUS_PASS_ONLY = false → 63 < p.addr →
      ∃ s', exec (.join t port p) s = .next s' ∧ s'.fb RING_STATUS_POS_VALID = false ∧ s'.fb RING_STATUS_PASS_ONLY = true ∧
        (s.at t).Raised s' 0 0 kRING_JOIN_REFUSED (p.src / 64)) ∧
    (s.fb RING_STATUS_POS_VALID = true → p.src = s.eid → port = 1 → s.ring.joinDue.isSome = true →
      ∃ s', exec (.join t port p) s = .next s' ∧ s'.fb RING_STATUS_CLOSED = true ∧ s'.ring.joinDue = none ∧
        s'.f RING_STATUS_ENGINES = min 64 p.addr)) ∧
  (∀ (s : State) (t d : Nat), s.ring.joinDue = some d → d ≤ max s.now t →
    ∃ s', exec (.joinTimeout t) s = .next s' ∧ s'.ring.joinDue = none ∧ s'.regs = (s.at t).regs) ∧
  (∀ (s : State) (t port : Nat) (p : RingPkt), s.powered = true → s.portUp port = true → p.type = 0x23 → p.bcast = true →
    ¬(s.fb RING_STATUS_POS_VALID = true ∧ p.src = s.eid) → (s.takeSeq p).2 = true →
    (bit (byteAt p.payload 1) 0 = true → ∃ s', exec (.wrap t port p) s = .next s' ∧ byteAt p.payload 0 % 64 ∈ s'.ring.breaks ∧
      s'.fb RING_TOPO_WRAPPED = true) ∧
    (bit (byteAt p.payload 1) 0 = false → ∃ s', exec (.wrap t port p) s = .next s' ∧
      s'.ring.breaks = s.ring.breaks.filter (· != byteAt p.payload 0 % 64))) ∧
  (∀ (s : State) (t port : Nat), s.powered = true → port < 4 →
    (∃ s', exec (.ringFrameRetry t port 0) s = .next s' ∧
      s'.f (RING_PORT_p_CNT_CRC port) = min 65535 (s.f (RING_PORT_p_CNT_CRC port) + 1)) ∧
    (∃ s', exec (.ringFrameRetry t port 1) s = .next s' ∧
      s'.f (RING_PORT_p_CNT_RETRY port) = min 65535 (s.f (RING_PORT_p_CNT_RETRY port) + 1) ∧ (tget {} s'.ring.ports port).retries = 1)) ∧
  (∀ (s : State) (t port : Nat), s.powered = true → port < 2 → s.fb (RING_PORT_p_STATUS_UP port) = true →
    s.fb (RING_PORT_p_STATUS_FAILED port) = false → s.fb RING_STATUS_POS_VALID = true →
    ∃ s', exec (.ringLinkFailure t port) s = .next s' ∧ s'.fb (RING_PORT_p_STATUS_UP port) = false ∧
      s'.fb (RING_PORT_p_STATUS_FAILED port) = true ∧ s'.fb (RING_PORT_p_STATUS_LOOP port) = true ∧ s.breakAt port ∈ s'.ring.breaks ∧
      s.Reported s' kRING_WRAP (port + s.eid % 64 * 4)) ∧
  (∀ (s : State) (t port e : Nat), s.powered = true → port < 4 → e < 2 ^ 16 →
    (port < 2 → s.fb RING_STATUS_POS_VALID = true →
      ∃ s', exec (.ringLinkTrained t port (some e)) s = .next s' ∧ s'.fb (RING_PORT_p_STATUS_UP port) = true ∧
        s'.f (RING_PORT_p_STATUS_FAR_EID port) = e ∧ (tget {} s'.ring.ports port).far = some e ∧
        (tget {} s'.ring.ports port).healthyAt = some (max s.now t)) ∧
    (2 ≤ port → s.fb RING_STATUS_POS_VALID = true → e / 64 = s.eid / 64 →
      ∃ s', exec (.ringLinkTrained t port (some e)) s = .next s' ∧ s'.fb (RING_PORT_p_STATUS_UP port) = false ∧
        (s.at t).Raised s' 0 0 kRING_BRIDGE_REFUSED (port + e / 64 * 4))) ∧
  (∀ (s : State) (t port h : Nat), (tget {} s.ring.ports port).healthyAt = some h → port < 4 →
    s.fb (RING_PORT_p_STATUS_FAILED port) = true → s.fb (RING_PORT_p_STATUS_UP port) = true → h + ms 100 ≤ max s.now t →
    (port < 2 → ∃ s', exec (.ringLinkRestore t port) s = .next s' ∧ s'.out = .drain (1 - port) :: s.out ∧
      (tget {} s'.ring.ports port).draining = true) ∧
    (2 ≤ port → ∃ s', exec (.ringLinkRestore t port) s = .next s' ∧ s'.fb (RING_PORT_p_STATUS_FAILED port) = false)) ∧
  (∀ (s : State) (t port : Nat), port < 4 → (tget {} s.ring.ports port).draining = true →
    ∃ s', exec (.drainMarkerReturn t port) s = .next s' ∧ (tget {} s'.ring.ports port).draining = false ∧
      s'.fb (RING_PORT_p_STATUS_FAILED port) = false ∧ s'.fb (RING_PORT_p_STATUS_LOOP port) = false ∧
      s'.ring.breaks = s.ring.breaks.filter (· != s.breakAt port))

/-- Tile ports (R323, R324, R326 to R330). A report whose CRC is right is shown; the third good report in a row with the echo trains the tile, and one
with a wrong CRC is counted. A tile that does not train in time is absent. The fuses of a quad close one after the other, 500 µs apart; 5 ms later a
tile whose VPP is not at its rail's setpoint has failed. A tile fails with its cause on too much current, too high a supply or a lost link, and
the 3.3 V switch opens once VPP has gone. -/
def Obligations.TilePorts : Prop :=
  (∀ (s : State) (t n : Nat) (r : Telemetry), n < 96 → s.fb (TILE_n_STATUS_LOGIC_ON n) = true →
    (∃ s', exec (.telemetryReport t n r false) s = .next s' ∧ s'.f (TILE_n_LINKERR_UP_CRC n) = min 65535 (s.f (TILE_n_LINKERR_UP_CRC n) + 1) ∧
      (s'.port n).trainOk = 0 ∧ s'.f (TILE_n_TELEM_VPP_MV n) = s.f (TILE_n_TELEM_VPP_MV n)) ∧
    (s.fb (TILE_n_STATUS_TRAINED n) = true →
      ∃ s', exec (.telemetryReport t n r true) s = .next s' ∧ s'.f (TILE_n_TELEM_IPP_MA n) = r.ipp % 65536 ∧
        s'.f (TILE_n_TELEM_VPP_MV n) = (if r.vpp = 0xFFFF then s.f (TILE_n_TELEM_VPP_MV n) else r.vpp % 65536) ∧
        ((s.port n).powerOff = none → (s'.port n).lastReport = some (max s.now t))) ∧
    (∀ e, s.fb (TILE_n_STATUS_TRAINED n) = false → (s.port n).rampEnd = some e → e ≤ max s.now t → (s.port n).trainOk = 2 →
      (s.port n).echoed = true → ∃ s', exec (.telemetryReport t n r true) s = .next s' ∧ s'.fb (TILE_n_STATUS_TRAINED n) = true)) ∧
  (∀ (s : State) (t n e : Nat), n < 96 → (s.port n).rampEnd = some e → e + ms 10 ≤ max s.now t → s.fb (TILE_n_STATUS_LOGIC_ON n) = true →
    s.fb (TILE_n_STATUS_TRAINED n) = false →
    ∃ s', exec (.tileTrainTimeout t n) s = .next s' ∧ s'.fb (TILE_n_STATUS_LOGIC_ON n) = false ∧ s'.fb (TILE_n_STATUS_VPP_ON n) = false ∧
      (s.at t).Raised s' (tileDie n + 1) 0 kTILE_ABSENT n) ∧
  (∀ (s : State) (t n : Nat), n < 96 → s.fb (TILE_n_STATUS_LOGIC_ON n) = true → s.fb (TILE_n_STATUS_FAILED n) = false →
    (∃ s', exec (.tileLogicOvercurrent t n) s = .next s' ∧ s'.fb (TILE_n_STATUS_FAILED n) = true ∧ s'.f (TILE_n_STATUS_CAUSE n) = 2 ∧
      s'.fb (TILE_n_STATUS_VPP_ON n) = false ∧ s'.fb (TILE_n_STATUS_LOGIC_ON n) = false ∧ s.Reported s' kTILE_FAIL (n + 2 * 256)) ∧
    (∃ s', exec (.tileLogicOvervoltage t n) s = .next s' ∧ s'.fb (TILE_n_STATUS_FAILED n) = true ∧ s'.f (TILE_n_STATUS_CAUSE n) = 2 ∧
      s'.fb (TILE_n_STATUS_VPP_ON n) = false ∧ s'.fb (TILE_n_STATUS_LOGIC_ON n) = false ∧ s.Reported s' kTILE_FAIL (n + 2 * 256))) ∧
  (∀ (s : State) (t q k i : Nat), q < 24 → (s.rail q).nextSlot = some k → (s.rail q).fuseDue ≤ max s.now t →
    s.fb (PWR_q_RAIL_ON q) = true → (s.rail q).ramping = false → s.nextFuse? q k = some i →
    ∃ s', exec (.tileFuseClose t q) s = .next s' ∧ s'.fb (TILE_n_STATUS_VPP_ON (4 * q + i)) = true ∧
      (s'.port (4 * q + i)).fuseAt = some (max s.now t) ∧ (s'.rail q).fuseDue = max s.now t + us 500 ∧
      (s'.rail q).nextSlot = (if i < 3 then some (i + 1) else none)) ∧
  (∀ (s : State) (t n x : Nat), n < 96 → (s.port n).fuseAt = some x → x + ms 5 ≤ max s.now t → s.fb (TILE_n_STATUS_VPP_ON n) = true →
    s.fb (TILE_n_STATUS_FAILED n) = false →
    (20 * (max (s.f (TILE_n_TELEM_VPP_MV n)) (s.rail (n / 4)).target - min (s.f (TILE_n_TELEM_VPP_MV n)) (s.rail (n / 4)).target) ≤
        (s.rail (n / 4)).target →
      ∃ s', exec (.tileVppCheck t n) s = .next s' ∧ s'.fb (TILE_n_STATUS_VPP_ON n) = true ∧ s'.fb (TILE_n_STATUS_FAILED n) = false ∧
        (s'.port n).fuseAt = none) ∧
    ((s.rail (n / 4)).target <
        20 * (max (s.f (TILE_n_TELEM_VPP_MV n)) (s.rail (n / 4)).target - min (s.f (TILE_n_TELEM_VPP_MV n)) (s.rail (n / 4)).target) →
      ∃ s', exec (.tileVppCheck t n) s = .next s' ∧ s'.fb (TILE_n_STATUS_VPP_ON n) = false ∧ s'.fb (TILE_n_STATUS_FAILED n) = true ∧
        s'.f (TILE_n_STATUS_CAUSE n) = 4 ∧ s.Reported s' kTILE_FAIL (n + 4 * 256))) ∧
  (∀ (s : State) (t n x : Nat), n < 96 → (s.port n).powerOff = some x → s.f (TILE_n_TELEM_VPP_MV n) < 5000 → (s.port n).keepLogic = false →
    (s.port n).hm = none → ∃ s', exec (.tileVppDischarged t n) s = .next s' ∧ s'.fb (TILE_n_STATUS_LOGIC_ON n) = false ∧
      s'.fb (TILE_n_STATUS_TRAINED n) = false ∧ (s'.port n).powerOff = none) ∧
  (∀ (s : State) (t n : Nat), n < 96 → s.fb (TILE_n_STATUS_VPP_ON n) = true → s.fb (TILE_n_STATUS_FAILED n) = false →
    ∃ s', exec (.efuseTrip t n) s = .next s' ∧ s'.fb (TILE_n_STATUS_FAILED n) = true ∧ s'.f (TILE_n_STATUS_CAUSE n) = 4 ∧
      s'.fb (TILE_n_STATUS_VPP_ON n) = false ∧ s.Reported s' kTILE_FAIL (n + 4 * 256)) ∧
  (∀ (s : State) (t n : Nat), n < 96 → s.fb (TILE_n_STATUS_TRAINED n) = true → s.fb (TILE_n_STATUS_FAILED n) = false →
    (s.port n).lastReport.getD 0 + us 100 ≤ max s.now t →
    ∃ s', exec (.tileLinkLost t n) s = .next s' ∧ s'.fb (TILE_n_STATUS_FAILED n) = true ∧ s'.f (TILE_n_STATUS_CAUSE n) = 5 ∧
      s'.fb (TILE_n_STATUS_VPP_ON n) = false ∧ s.Reported s' kTILE_FAIL (n + 5 * 256))

/-- Head memory (R37, R331 to R337, R407). A read whose CRC is right extends the block read so far; one without an answer waits 10 µs for its
first retry. A write goes out within the temperature interlock and is deferred outside it. AUTH_READ with a right tag makes the usage block
good with its count; GET_NONCE leads to AUTH_ADD with the tile's nonce; a right answer to AUTH_ADD records what was pending. A retry is
issued when its backoff is over. The write of TILE_UKEY_7 stores the usage master key. -/
def Obligations.HeadMemory : Prop :=
  (∀ (s : State) (t n a : Nat) (r bs : List Nat), (s.at t).hmDawn n 0x10 = true →
    (hmData? (some r) (r.length - 4) = some bs → a < 0x2000 → a = (s.port n).idRead → a + (r.length - 4) ≤ 0x1840 →
      ∃ s', exec (.hmRead t n a (some r)) s = .next s' ∧ (s'.port n).idRead = a + (r.length - 4) ∧
        (s'.port n).idBuf = Mem.putBytes (fun _ => 0) a bs (s.port n).idBuf ∧
        s.Put s' (fun o => o = .hmRequest n ([0x10] ++ toLe 2 a ++ [(r.length - 4) % 256]))) ∧
    ((s.port n).hm = none →
      ∃ s' x, exec (.hmRead t n a none) s = .next s' ∧ (s'.port n).hm = some x ∧ x.op = 0x10 ∧ x.tries = 1 ∧
        x.retryAt = some (max s.now t + us 10))) ∧
  (∀ (s : State) (t n a : Nat) (data : List Nat) (resp : Option (List Nat)), n < 96 → data.length ≤ 64 → s.tileUp n = true →
    (s.port n).hm = none →
    (s.hmOk n = true → ∃ s', exec (.hmWrite t n a data resp) s = .next s' ∧
      s.Put s' (fun o => o = .hmRequest n ([0x11] ++ toLe 2 a ++ data))) ∧
    (s.hmOk n = false → ∃ s', exec (.hmWrite t n a data resp) s = .next s' ∧ s'.fb (TILE_n_STATUS_HM_DEFER n) = true ∧
      s'.out = s.out ∧ (s.at t).Raised s' (tileDie n + 1) 0 kTILE_HM_DEFER n)) ∧
  (∀ (s : State) (t n : Nat) (nonce r bs rcd : List Nat), (s.at t).hmDawn n 0x20 = true → (s.port n).hm = none →
    (s.port n).useRead = 48 → (s.port n).useOk = none → nonce.length = 8 → hmData? (some r) 40 = some bs →
    s.tagged? n (nonce ++ [0x20]) bs = some rcd →
    ∃ s', exec (.authRead t n nonce (some r)) s = .next s' ∧ (s'.port n).useOk = some true ∧ (s'.port n).useSeq = recSeq rcd ∧
      (s'.port n).useCount = recCount rcd ∧ s.Put s' (fun o => o = .hmRequest n ([0x20] ++ nonce))) ∧
  (∀ (s : State) (t n : Nat) (r m kt : List Nat) (x : HmTxn), n < 96 → (s.port n).hm = some x → x.op = 0x22 → x.verify = false → x.m = [] →
    x.retryAt = none → s.fb (TILE_n_STATUS_LOGIC_ON n) = true → s.usageKey? n = some kt → hmData? (some r) 8 = some m →
    ∃ s', exec (.getNonce t n (some r)) s = .next s' ∧ (s'.port n).hm = some { x with m := m, tries := 0 } ∧
      s'.out = .hmRequest n ([0x22] ++ toLe 8 x.delta ++ usageTag kt (m ++ [0x22] ++ toLe 8 x.delta)) :: s.out) ∧
  (∀ (s : State) (t n : Nat) (r bs rcd : List Nat) (x : HmTxn), n < 96 → (s.port n).hm = some x → x.op = 0x22 → x.verify = false →
    x.m ≠ [] → x.retryAt = none → s.fb (TILE_n_STATUS_LOGIC_ON n) = true → hmData? (some r) 40 = some bs →
    s.tagged? n (x.m ++ [0x22]) bs = some rcd →
    ∃ s', exec (.authAdd t n (some r)) s = .next s' ∧ (s'.port n).useSeq = recSeq rcd ∧ (s'.port n).useCount = recCount rcd ∧
      (s'.port n).pendUse = (s.port n).pendUse - x.delta ∧ (s'.port n).hm = none) ∧
  (∀ (s : State) (t n d : Nat) (x : HmTxn), (s.port n).hm = some x → x.retryAt = some d → d ≤ max s.now t →
    ∃ s', exec (.hmRetry t n) s = .next s' ∧ (s'.port n).hm = some { x with retryAt := none }) ∧
  (∀ (s : State) (t : Nat) (v : Word), s.writable (rTILE_UKEY_n 7) = true →
    (s.nvOk = true → ∃ s', exec (.tileUkeyStore t v) s = .next s' ∧ s'.cfg.ukeyBuf = insertKey 7 v.toNat s.cfg.ukeyBuf ∧
      s'.nv.ukey = some ((List.range 8).flatMap fun i => toLe 4 ((lookup? s'.cfg.ukeyBuf i).getD 0))) ∧
    (s.nvOk = false → ∃ s', exec (.tileUkeyStore t v) s = .next s' ∧ s'.nv = s.nv ∧
      (s.at t).Raised s' 0 0 kTILE_NOTE (rTILE_UKEY_n 7)))

/-- Mains, the source machine and the link (R43, R45, R341, R343, R344, R351, R359, R363, R366). Mains loss clears presence and qualification,
raises PWR_MAINS_LOST, takes the source machine from mains to OUT and Morning and Noon to Evening. Mains presence starts qualification,
which after 200 ms turns the PFC stage on, and in QUAL begins the hand-back. OUT ends in RIDE, or in QUAL with mains there. The
hand-back ends in mains operation, or is aborted. The link's thresholds act as R341 lists them, and a broker step shows what was measured. -/
def Obligations.MainsAndSource : Prop :=
  (∀ (s : State) (t reason : Nat), s.pwrOn = true → s.fb PWR_SRC_MAINS_PRESENT = true →
    (s.f PWR_SRC_STATE = 0 → s.st = MORNING ∨ s.st = NOON →
      ∃ s', exec (.mainsLost t reason) s = .next s' ∧ s'.fb PWR_SRC_MAINS_PRESENT = false ∧ s'.fb PWR_SRC_MAINS_QUAL = false ∧
        s'.f PWR_SRC_STATE = 1 ∧ s'.st = EVENING ∧ s'.f SYS_STATE_FUNC = s.st ∧ s'.pwr.pfcOn = false ∧ s'.pwr.outAt = max s.now t ∧
        s'.pwr.dcOn = s.fb PWR_DC_QUAL ∧ s.Reported s' kPWR_MAINS_LOST reason) ∧
    (s.f PWR_SRC_STATE = 3 → ∃ s', exec (.mainsLost t reason) s = .next s' ∧ s'.fb PWR_SRC_MAINS_PRESENT = false ∧
      s'.f PWR_SRC_STATE = 2 ∧ s'.st = s.st)) ∧
  (∀ (s : State) (t : Nat), s.pwrOn = true → s.fb PWR_SRC_MAINS_PRESENT = false →
    ∃ s', exec (.mainsPresent t) s = .next s' ∧ s'.fb PWR_SRC_MAINS_PRESENT = true ∧ s'.pwr.mainsAt = some (max s.now t) ∧
      s'.f PWR_SRC_STATE = (if s.f PWR_SRC_STATE = 2 then 3 else s.f PWR_SRC_STATE) ∧ s'.sys.mainsGone = none) ∧
  (∀ (s : State) (t x : Nat), s.pwrOn = true → s.pwr.mainsAt = some x → s.fb PWR_SRC_MAINS_QUAL = false →
    (s.f PWR_SRC_STATE = 0 → x + ms 200 ≤ max s.now t →
      ∃ s', exec (.mainsQualified t) s = .next s' ∧ s'.fb PWR_SRC_MAINS_QUAL = true ∧ s'.pwr.pfcOn = true ∧ s'.f PWR_SRC_STATE = 0) ∧
    (s.f PWR_SRC_STATE = 3 → max x s.pwr.qualFrom + ms 200 ≤ max s.now t →
      ∃ s', exec (.mainsQualified t) s = .next s' ∧ s'.fb PWR_SRC_MAINS_QUAL = true ∧ s'.pwr.pfcOn = true ∧ s'.f PWR_SRC_STATE = 4 ∧
        s'.pwr.outAt = max s.now t)) ∧
  (∀ (s : State) (t : Nat), s.pwrOn = true → s.f PWR_SRC_STATE = 1 → s.pwr.outAt + ms 20 ≤ max s.now t →
    ∃ s', exec (.dcRampComplete t) s = .next s' ∧ s'.f PWR_SRC_STATE = (if s.fb PWR_SRC_MAINS_PRESENT then 3 else 2)) ∧
  (∀ (s : State) (t : Nat), s.pwrOn = true → s.f PWR_SRC_STATE = 4 → s.pwr.outAt + ms 20 ≤ max s.now t →
    (s.pwr.backLost = false → s.fb SYS_STATE_STANDALONE = false → s.st = EVENING → s.f SYS_STATE_FUNC = NOON →
      ∃ s', exec (.handbackComplete t) s = .next s' ∧ s'.f PWR_SRC_STATE = 0 ∧ s'.pwr.dcOn = false ∧ s'.st = NOON ∧ s'.f SYS_STATE_CAUSE = 9) ∧
    (s.pwr.backLost = true → s.fb PWR_SRC_MAINS_PRESENT = false →
      ∃ s', exec (.handbackComplete t) s = .next s' ∧ s'.f PWR_SRC_STATE = 2 ∧ s'.pwr.pfcOn = false ∧ s'.pwr.backLost = false ∧ s'.st = s.st ∧
        s.Reported s' kPWR_HANDBACK_ABORT (min 65535 (s.f PWR_EVT_ABORTS + 1)))) ∧
  (∀ (s : State) (t v : Nat), s.pwrOn = true →
    (∃ s', exec (.linkOvervoltage t v) s = .next s' ∧ s'.f PWR_LINK_VOLT = min 65535 v ∧ (s.at t).Raised s' 0 0 kPWR_LINK_OV v) ∧
    (∃ s', exec (.linkHigh t v) s = .next s' ∧ s'.f PWR_LINK_VOLT = min 65535 v ∧ (s.at t).Raised s' 0 0 kPWR_LINK_HIGH v) ∧
    (4100 ≤ v → ∃ s', exec (.linkPfcStop t v) s = .next s' ∧ s'.f PWR_LINK_VOLT = min 65535 v ∧ s'.pwr.pfcOn = false ∧
      s'.pwr.storeMode = (if s.storeCan && !s.fb PWR_STORE_CHG_INHIBIT && decide (s.f PWR_STORE_E_J < 2400) then 2 else 0)) ∧
    (v < 4100 → ∃ s', exec (.linkPfcStop t v) s = .next s' ∧ s'.f PWR_LINK_VOLT = min 65535 v ∧
      s'.pwr.pfcOn = (s.fb PWR_SRC_MAINS_QUAL && (s.f PWR_SRC_STATE = 0 || s.f PWR_SRC_STATE = 4))) ∧
    (v ≤ 3900 → ∃ s', exec (.linkStoreDischarge t v) s = .next s' ∧ s'.f PWR_LINK_VOLT = min 65535 v ∧
      s'.pwr.storeMode = (if s.storeCan then 3 else 0)) ∧
    (∃ s', exec (.linkUndervoltage t v) s = .next s' ∧ s'.pwr.convStop = true ∧ (∀ q < 24, s'.fb (PWR_q_RAIL_ON q) = false) ∧
      (∀ a < 4, (s'.axis a).st = .off) ∧ s.Reported s' kPWR_LINK_UV v)) ∧
  (∀ (s : State) (t : Nat) (m : BrokerMeas), s.pwrOn = true →
    ∃ s', exec (.brokerUpdate t m) s = .next s' ∧ s'.f PWR_LINK_VOLT = min 65535 m.link ∧ s'.f PWR_MAINS_VRMS = min 65535 m.vrms ∧
      s'.f PWR_STORE_E_J = min 4095 m.storeJ ∧ s'.f PWR_DRAW_HEAD_W = min 65535 m.headW ∧
      (s.st ≠ EVENING → s.f PWR_GROUP_GROUP = 0 → s'.f PWR_LIMITS_P_AVAIL_W = min 65535 (ratedW (min 65535 m.vrms))))

/-- Rails, store, DC input and power groups (R327, R330, R345 to R350, R357 to R359, R364). A rail that limits, falls below 80 % or is shorted says so, and a
short turns it off and fails its four tiles. A rail that has reached its setpoint lets the fuses close, one that has reached 0 V is off. Too
much logic power and too high a store voltage are raised. The DC input is taken when it qualifies while the store carries the link and
left when it leaves its range or is reversed. A member of a power group sends its budget every 10 ms and counts those it hears. -/
def Obligations.RailsAndStore : Prop :=
  (∀ (s : State) (t q : Nat), q < 24 → s.fb (PWR_q_RAIL_ON q) = true →
    (∃ s', exec (.railLimit t q) s = .next s' ∧ s'.fb (PWR_q_RAIL_LIMIT q) = true ∧ s'.fb (PWR_q_RAIL_ON q) = true ∧
      (s.at t).Raised s' 0 0 kPWR_RAIL_LIMIT q) ∧
    (∃ s', exec (.railUndervoltage t q) s = .next s' ∧ s'.fb (PWR_q_RAIL_UV q) = true ∧ s'.fb (PWR_q_RAIL_ON q) = true ∧
      (s.at t).Raised s' 0 0 kPWR_RAIL_UV q) ∧
    (∃ s', exec (.railShort t q) s = .next s' ∧ s'.fb (PWR_q_RAIL_ON q) = false ∧ s'.fb (PWR_q_RAIL_SHORT q) = true ∧
      s'.f (PWR_q_RAIL_VPP_MV q) = 0 ∧ (∀ n ∈ quadTiles q, s'.fb (TILE_n_STATUS_FAILED n) = true ∧ s'.fb (TILE_n_STATUS_VPP_ON n) = false) ∧
      s.Reported s' kPWR_RAIL_SHORT q)) ∧
  (∀ (s : State) (t q : Nat), q < 24 → (s.rail q).ramping = true →
    ((s.rail q).target = 0 → ∃ s', exec (.railRampComplete t q) s = .next s' ∧ s'.fb (PWR_q_RAIL_ON q) = false ∧
      s'.f (PWR_q_RAIL_VPP_MV q) = 0 ∧ s'.rail q = {}) ∧
    ((s.rail q).target ≠ 0 → ∃ s', exec (.railRampComplete t q) s = .next s' ∧
      s'.f (PWR_q_RAIL_VPP_MV q) = (s.rail q).target % 65536 ∧ (s'.rail q).ramping = false ∧ (s'.rail q).nextSlot = some 0 ∧
      (s'.rail q).fuseDue = max s.now t)) ∧
  (∀ (s : State) (t w : Nat), s.pwrOn = true →
    (∃ s', exec (.logicOverdraw t w) s = .next s' ∧ (s.at t).Raised s' 0 0 kPWR_LOGIC_OVER w) ∧
    (∃ s', exec (.storeOvervoltage t w) s = .next s' ∧ s'.f PWR_STORE_V_VOLT = min 65535 w ∧ (s.at t).Raised s' 0 0 kPWR_STORE_OV w)) ∧
  (∀ (s : State) (t : Nat) (v : Int), s.pwrOn = true →
    (∃ s', exec (.dcInputQualified t) s = .next s' ∧ s'.fb PWR_DC_QUAL = true ∧ s'.fb PWR_DC_REVERSED = false ∧ s'.sys.mainsGone = none ∧
      (s.f PWR_SRC_STATE = 1 ∨ s.f PWR_SRC_STATE = 2 ∨ s.f PWR_SRC_STATE = 3 → s'.pwr.dcOn = true ∧ s'.fb PWR_SRC_DC_SUPPLYING = true)) ∧
    (∃ s', exec (.dcInputRange t v) s = .next s' ∧ s'.fb PWR_DC_QUAL = false ∧ s'.fb PWR_DC_RANGE = true ∧ s'.pwr.dcOn = false ∧
      (s.at t).Raised s' 0 0 kPWR_DC_RANGE (wrap 32 v)) ∧
    (∃ s', exec (.dcInputReversed t v) s = .next s' ∧ s'.fb PWR_DC_QUAL = false ∧ s'.fb PWR_DC_REVERSED = true ∧
      s'.fb PWR_DC_REV_SEEN = true ∧ s'.pwr.dcOn = false ∧ (s.at t).Raised s' 0 0 kPWR_DC_REVERSED (wrap 32 v))) ∧
  (∀ (s : State) (t : Nat), s.powered = true → s.f PWR_GROUP_GROUP ≠ 0 → s.pwr.budgetDue ≤ max s.now t →
    ∃ s', exec (.budgetSend t) s = .next s' ∧ s'.pwr.budgetDue = max s.now t + ms 10 ∧
      (s.portUp 0 = true → s.Put s' (fun o => ∃ p, o = .ring 0 p ∧ p.type = 0x31 ∧ p.bcast = true ∧ byteAt p.payload 0 = s.f PWR_GROUP_GROUP ∧
        leAt p.payload 2 2 = s.f PWR_GROUP_LIMIT))) ∧
  (∀ (s : State) (t port : Nat) (p : RingPkt), s.powered = true → s.portUp port = true → p.type = 0x31 → p.bcast = true →
    ¬(s.fb RING_STATUS_POS_VALID = true ∧ p.src = s.eid) → (s.takeSeq p).2 = true → s.f PWR_GROUP_GROUP ≠ 0 →
    byteAt p.payload 0 = s.f PWR_GROUP_GROUP →
    ∃ s', exec (.budget t port p) s = .next s' ∧ lookup? s'.pwr.group p.src = some (max s.now t) ∧
      (leAt p.payload 2 2 ≠ s.f PWR_GROUP_LIMIT → s.Reported s' kPWR_GROUP_MISMATCH p.src))

/-- Motor axes (R367, R370 to R377, R381 to R388, R390, R393, R395). RUN = 1 begins the start sequence with its catch check, RUN = 0 a controlled stop.
Each step of the sequence leads to the next: the catch, the open-phase check, the identification, the initial position, the run.
The speed loop takes the command, a control period shows its sample, the speed at its command is announced once, the estimators hand over, and
a lost pin stops its axes until it is restored. A trip turns the gates off, with its flag and message. -/
def Obligations.MotorAxes : Prop :=
  (∀ (s : State) (t a : Nat) (v : Word), s.writable (rMOT_a_CMD a) = true → a < 4 → s.duskHolds a = false → (s.axisRec a).cmdsrc ≠ 1 →
    (bit v.toNat 31 = true → (s.axisRec a).role ≠ 0 → s.motorsAllowed = true → (s.axis a).offsetBad = false → (s.axis a).st = .off →
      ∃ s', exec (.motorRun t a v) s = .next s' ∧ (s'.axis a).st = .catchCheck ∧ (s'.axis a).run = true ∧ (s'.axis a).fault = false ∧
        (s'.axis a).stepEnd = max s.now t + ms 100 ∧ s'.fb (MOT_a_STATUS_CATCHING a) = true ∧ s'.reg (rMOT_a_CMD a) = v &&& 0xF0000000) ∧
    (bit v.toNat 31 = false → (s.axis a).st = .running →
      ∃ s', exec (.motorStop t a v) s = .next s' ∧ (s'.axis a).st = .stopping ∧ (s'.axis a).run = false ∧ (s'.axis a).target = 0 ∧
        s'.reg (rMOT_a_CMD a) = v &&& 0xF0000000) ∧
    (bit v.toNat 31 = false → (s.axis a).st ≠ .running → (s.axis a).st ≠ .stopping →
      ∃ s', exec (.motorStop t a v) s = .next s' ∧ (s'.axis a).st = .off ∧ (s'.axis a).run = false ∧
        s'.fb (MOT_a_STATUS_RUNNING a) = false)) ∧
  (∀ (s : State) (t a : Nat) (rpm pin : Int), s.axisIs a = true → s.duskHolds a = false → (s.axisRec a).cmdsrc ≠ 1 → (s.axis a).st = .running →
    ∃ s', exec (.speedLoopUpdate t a rpm pin) s = .next s' ∧ s'.f (MOT_a_SPEED_RPM a) = wrap 32 rpm ∧
      (s'.axis a).target = clamp (-((s.axisRec a).ratedRpm : Int)) (s.axisRec a).ratedRpm (s.fs (MOT_a_SPEED_CMD_RPM a)) ∧
      (s'.axis a).torque = s.fb (MOT_a_CMD_TORQUE a) ∧ (s'.axis a).st = .running) ∧
  (∀ (s : State) (t a : Nat) (m : CurrentSample), s.axisIs a = true → s.fb (MOT_a_STATUS_RUNNING a) = true → m.window = true →
    ∃ s', exec (.currentControlPeriod t a m) s = .next s' ∧ s'.f (MOT_a_IDQ_ID_MA a) = wrap 16 m.idMa ∧
      s'.f (MOT_a_IDQ_IQ_MA a) = wrap 16 m.iqMa ∧ s'.f (MOT_a_SHARE_DRAW_W a) = wrap 16 m.drawW ∧ (s'.axis a).predicted = 0) ∧
  (∀ (s : State) (t a : Nat), s.axisIs a = true → (s.axisRec a).cmdsrc = 1 →
    (s.fb MOT_CMDPIN_LOST = false → ∃ s', exec (.motCmdLost t) s = .next s' ∧ s'.fb MOT_CMDPIN_LOST = true ∧ (s'.axis a).run = false ∧
      s.Reported s' kMOT_CMD_LOST (a + 4 * (s.axisRec a).cmdmode)) ∧
    (s.fb MOT_CMDPIN_LOST = true → s.mot.pinOn = true → (s.axis a).fault = false → s.duskHolds a = false → s.motorsAllowed = true →
      (s.axis a).offsetBad = false → ∃ s', exec (.motCmdRestored t) s = .next s' ∧ s'.fb MOT_CMDPIN_LOST = false ∧ (s'.axis a).run = true)) ∧
  (∀ (s : State) (t a x : Nat), s.axisIs a = true → (s.axis a).speedAt = some x → x + ms 10 ≤ max s.now t → (s.axis a).st = .running →
    (s.axis a).torque = false → (s.axis a).emitted = false →
    ∃ s', exec (.atSpeed t a) s = .next s' ∧ s'.fb (MOT_a_STATUS_AT_SPEED a) = true ∧ (s'.axis a).emitted = true ∧ s.Emitted s' (0x70 + a)) ∧
  (∀ (s : State) (t a amp : Nat), s.axisIs a = true → (s.axis a).st = .catchCheck →
    (∃ s', exec (.catchCheckComplete t a amp false) s = .next s' ∧ (s'.axis a).st = .openCheck ∧ s'.fb (MOT_a_STATUS_CATCHING a) = false) ∧
    (s.f (MOT_a_MODEL_K_KE a) * (s.axisRec a).ratedRpm < 50 * 1000 * amp → amp ≤ s.f PWR_LINK_VOLT →
      ∃ s', exec (.catchCheckComplete t a amp true) s = .next s' ∧ (s'.axis a).st = .catching) ∧
    (s.f (MOT_a_MODEL_K_KE a) * (s.axisRec a).ratedRpm < 50 * 1000 * amp → s.f PWR_LINK_VOLT < amp →
      ∃ s', exec (.catchCheckComplete t a amp true) s = .next s' ∧ (s'.axis a).st = .catchOver ∧ (s'.axis a).stepEnd = max s.now t + ms 100 ∧
        s'.fb (MOT_a_STATUS_CATCH_OVER a) = true ∧ (s.at t).Raised s' 0 a kMOT_CATCH_OVER (a + amp / 10 % 4096 * 16))) ∧
  (∀ (s : State) (t a : Nat) (rpm : Int), s.axisIs a = true → (s.axis a).st = .catching →
    ∃ s', exec (.catchLock t a rpm) s = .next s' ∧ s'.fb (MOT_a_STATUS_RUNNING a) = true ∧ s'.f (MOT_a_STATUS_EST a) = 2 ∧
      s'.f (MOT_a_SPEED_RPM a) = wrap 32 rpm ∧ s'.f (MOT_a_IDQ_IQ_MA a) = 0 ∧
      (s'.axis a).st = (if s.fb (MOT_a_CMD_SYNC a) && !(s.axis a).syncKept then .syncHold else .running)) ∧
  (∀ (s : State) (t a : Nat), s.axisIs a = true → (s.axis a).st = .catchOver → (s.axis a).run = true → (s.axis a).stepEnd ≤ max s.now t →
    ∃ s', exec (.catchOverRetry t a) s = .next s' ∧ (s'.axis a).st = .catchCheck ∧ (s'.axis a).stepEnd = max s.now t + ms 100) ∧
  (∀ (s : State) (t a p : Nat), s.axisIs a = true → (s.axis a).st = .openCheck →
    (∃ s', exec (.openPhaseCheckComplete t a none) s = .next s' ∧ (s'.axis a).st =
      (if s.fb (MOT_a_MODEL_R_AUTO a) && !(s.axis a).identified then .ident else .initPos)) ∧
    (∃ s', exec (.openPhaseCheckComplete t a (some p)) s = .next s' ∧ (s'.axis a).st = .off ∧ (s'.axis a).fault = true ∧
      s'.fb (MOT_a_STATUS_OPEN_PHASE a) = true ∧ (s.at t).Raised s' 0 a kMOT_OPEN_PHASE (a + p % 4 * 4))) ∧
  (∀ (s : State) (t a rs ld lq : Nat), s.axisIs a = true → (s.axis a).st = .ident →
    ∃ s', exec (.modelIdentificationComplete t a rs ld lq) s = .next s' ∧ s'.f (MOT_a_MODEL_R_RS_MOHM a) = min 65535 rs ∧
      s'.f (MOT_a_MODEL_L_LD_UH a) = min 65535 ld ∧ s'.f (MOT_a_MODEL_L_LQ_UH a) = min 65535 lq ∧ (s'.axis a).identified = true ∧
      (s'.axis a).st = .initPos) ∧
  (∀ (s : State) (t a : Nat) (weak : Bool), s.axisIs a = true → (s.axis a).st = .initPos →
    ∃ s', exec (.initialPositionFound t a weak) s = .next s' ∧ s'.fb (MOT_a_STATUS_RUNNING a) = true ∧
      s'.f (MOT_a_STATUS_EST a) = (if weak then 3 else 1) ∧ (weak = true → (s.at t).Raised s' 0 a kMOT_HFI_WEAK a) ∧
      (s'.axis a).st = (if s.fb (MOT_a_CMD_SYNC a) && !(s.axis a).syncKept then .syncHold else .running)) ∧
  (∀ (s : State) (t a x : Nat), s.axisIs a = true → (s.axis a).agreeAt = some x → x + ms 10 ≤ max s.now t →
    s.f (MOT_a_STATUS_EST a) = 1 ∨ s.f (MOT_a_STATUS_EST a) = 3 →
    5 * (s.axisRec a).ratedRpm ≤ (s.fs (MOT_a_SPEED_RPM a)).natAbs * 100 →
    ∃ s', exec (.estimatorHandover t a) s = .next s' ∧ s'.f (MOT_a_STATUS_EST a) = 2) ∧
  (∀ (s : State) (t a x : Nat) (p1 p2 : Rms), s.axisIs a = true → openPhase? (s.ilim a) p1 = some x → openPhase? (s.ilim a) p2 = some x →
    s.fb (MOT_a_STATUS_RUNNING a) = true →
    ∃ s', exec (.openPhase t a p1 p2) s = .next s' ∧ (s'.axis a).st = .off ∧ (s'.axis a).fault = true ∧
      s'.fb (MOT_a_STATUS_RUNNING a) = false ∧ s'.fb (MOT_a_STATUS_OPEN_PHASE a) = true ∧ (s.at t).Raised s' 0 a kMOT_OPEN_PHASE (a + x * 4)) ∧
  (∀ (s : State) (t a x : Nat), s.axisIs a = true → (s.axis a).stallAt = some x → x + ms 500 ≤ max s.now t →
    ∃ s', exec (.stall t a) s = .next s' ∧ (s'.axis a).st = .off ∧ (s'.axis a).fault = true ∧ s'.fb (MOT_a_STATUS_RUNNING a) = false ∧
      s'.fb (MOT_a_STATUS_STALL a) = true ∧ (s.at t).Raised s' 0 a kMOT_STALL a) ∧
  (∀ (s : State) (t a x : Nat), s.axisIs a = true → (s.axis a).st ≠ .off →
    (∃ s', exec (.overcurrentTrip t a x) s = .next s' ∧ (s'.axis a).st = .off ∧ (s'.axis a).fault = true ∧
      s'.fb (MOT_a_STATUS_RUNNING a) = false ∧ s'.fb (MOT_a_STATUS_OVERCURRENT a) = true ∧
      (s.at t).Raised s' 0 a kMOT_OVERCURRENT (a + x % 4 * 4)) ∧
    (∃ s', exec (.gateDriverFeedbackFault t a x) s = .next s' ∧ s'.fb (MOT_a_STATUS_GATE a) = true ∧ (s'.axis a).st = (s.axis a).st ∧
      (s.at t).Raised s' 0 a kMOT_GATE (a + x % 8 * 4)))

/-- Thermal protection (R397 to R399, R402, R403, R405 to R407). A valid sample is shown as the sensor's temperature and an invalid one clears VALID. A lane
die's oscillators take their offset from two diode readings that agree, and a disagreement is counted. A pause step that ends in a window with a
document, or in a gap that no sensor holds, ends the pause; after the last step of a gap that is held Dusk is requested. In a thermal Dusk the
documents that cannot finish are asked to stop. The store's discharge and charging resume after 10 s in their ranges. -/
def Obligations.ThermalProtection : Prop :=
  (∀ (s : State) (t n : Nat) (x : Int), n < 103 → s.powered = true →
    (∀ v, (if n < 96 then tsrTemp x else diodeTemp x) = some v →
      ∃ s', exec (.thermalSample t n x []) s = .next s' ∧ s'.f (THM_n_TEMP_TEMP n) = wrap 16 v ∧ s'.fb (THM_n_TEMP_VALID n) = true) ∧
    ((if n < 96 then tsrTemp x else diodeTemp x) = none →
      ∃ s', exec (.thermalSample t n x []) s = .next s' ∧ s'.fb (THM_n_TEMP_VALID n) = false ∧ (s'.sensor n).bad = true)) ∧
  (∀ (s : State) (t d : Nat) (a b : Int), d < 4 → s.powered = true → lookup? s.thm.recalAt d = none → (diodeTemp a).isSome = true →
    (diodeTemp b).isSome = true →
    ((a - b).natAbs ≤ 5 → ∃ s', exec (.oscillatorRecalibration t d a b) s = .next s' ∧
      tget (0 : Int) s'.thm.roOfs d = (a + b) / 2 - (tget (0 : Int) s.thm.roRaw (d * 64) + tget (0 : Int) s.thm.roRel (d * 64)) ∧
      s'.f THM_RECAL_COUNT = (s.f THM_RECAL_COUNT + 1) % 65536) ∧
    (5 < (a - b).natAbs → ∃ s', exec (.oscillatorRecalibration t d a b) s = .next s' ∧ s'.thm.roOfs = s.thm.roOfs ∧
      s'.f THM_RECAL_DISAGREE = min 65535 (s.f THM_RECAL_DISAGREE + 1) ∧ (s.at t).Raised s' 0 0 kTHM_RECAL d)) ∧
  (∀ (s : State) (t w x : Nat), w < 16 → (s.win w).thmTo = some x → x ≤ max s.now t →
    ((s.win w).doc.isSome = true ∨ s.thermalHold w = false →
      ∃ s', exec (.thermalPauseStepEnd t w) s = .next s' ∧ (s'.win w).thmTo = none ∧ (s'.win w).doc = (s.win w).doc) ∧
    ((s.win w).doc = none → s.thermalHold w = true → (s.win w).thmSteps < s.maxSteps →
      ∃ s', exec (.thermalPauseStepEnd t w) s = .next s' ∧ (s'.win w).thmTo = some (max s.now t + ms s.stepMs) ∧
        (s'.win w).thmSteps = (s.win w).thmSteps + 1) ∧
    ((s.win w).doc = none → s.thermalHold w = true → s.maxSteps ≤ (s.win w).thmSteps → s.st = NOON →
      ∃ s', exec (.thermalPauseStepEnd t w) s = .next s' ∧ s'.st = DUSK ∧ s'.f SYS_STATE_CAUSE = 7 ∧ s'.fb THM_STATUS_DUSK_REQ = true)) ∧
  (∀ (s : State) (t w : Nat) (d : Doc), s.st = DUSK → s.sys.duskThermal = true → (s.win w).doc = some d → d.stopped = false →
    s.refInput? w = none →
    ∃ s' d', exec (.duskFinishRecheck t) s = .next s' ∧ s'.st = DUSK ∧ (s'.win w).doc = some d' ∧ d'.stopReq = true) ∧
  (∀ (s : State) (t x : Nat), s.thm.coolAt = some x → s.pwr.storeStop = true → x + sec 10 ≤ max s.now t →
    ∃ s', exec (.storeConverterResume t) s = .next s' ∧ s'.pwr.storeStop = false ∧
      s'.fb SYS_STATE_HOLDUP_READY = (!s.pwr.storeHalt && decide (s.f PWR_STORE_DUSK_J ≤ s.f PWR_STORE_E_J))) ∧
  (∀ (s : State) (t x : Nat), s.thm.chgAt = some x → s.fb PWR_STORE_CHG_INHIBIT = true → x + sec 10 ≤ max s.now t →
    ∃ s', exec (.storeChargingResume t) s = .next s' ∧ s'.fb PWR_STORE_CHG_INHIBIT = false)

/-- Fault collection (R411, R416, R418 to R420, R427). The hub collector accepts a die's oldest message that it can take: its class is pending, a
relay message opens the alarm contact, a STOP or HALT stands in FLT_LAST, a HALT enters Midnight, and its record joins the
queue. A STOP or HALT that finds no room waits with its class acted on. Outside a flood a NOTE or DEGRADE takes no more than its own share of the queue: beyond it the hub drops and
counts it. In a flood a repeat is counted into its entry. A quiet flood ends with its count records and drop records. -/
def Obligations.FaultCollection : Prop :=
  (∀ (s : State) (t die : Nat) (m : FaultMsg),
    oldestMsg (s.flt.wire.filter fun x => x.die == die && !x.remote && s.canTake x) = some m → m.acted = false → m.dropped = false → m.cls < 4 →
    (∃ s', exec (.faultMessageAccepted t die) s = .next s' ∧
      s'.fb (if m.cls = 0 then FLT_PEND_NOTE else if m.cls = 1 then FLT_PEND_DEGRADE else if m.cls = 2 then FLT_PEND_STOP else FLT_PEND_HALT) = true ∧
      (m.relay = true ∨ m.cls = 3 → s'.fb FLT_PEND_RELAY = true ∧ s'.svc.alarmOpen = true) ∧
      (2 ≤ m.cls → s'.f FLT_LAST_LO_MSG = m.word % 2 ^ 32 ∧ s'.f FLT_LAST_HI_MSG = m.word / 2 ^ 32 % 2 ^ 32) ∧
      (m.cls = 2 → s.st = NOON → s'.st = DUSK) ∧
      (m.cls = 3 → s'.st = MIDNIGHT)) ∧
    (s.hubRoom m.cls = true → s.fb FLT_PEND_FLOOD = false ∨ 2 ≤ m.cls →
      ∃ s' r, exec (.faultMessageAccepted t die) s = .next s' ∧ s'.flt.queue = s.flt.queue ++ [r] ∧ r.msg = m.word ∧ r.time = m.time ∧
        r.count = 1 ∧ r.type = 0 ∧ r.eid = s.eid ∧ r.remote = false ∧ s'.f FLT_QUEUE_FILL = (s.flt.queue.length + 1) % 2 ^ 11) ∧
    (2 ≤ m.cls → s.hubRoom m.cls = false →
      ∃ s', exec (.faultMessageAccepted t die) s = .next s' ∧ s'.flt.queue = s.flt.queue ∧ { m with acted := true } ∈ s'.flt.wire) ∧
    (m.cls = 1 → s.hubRoom m.cls = false → s.fb FLT_PEND_FLOOD = false →
      ∃ s', exec (.faultMessageAccepted t die) s = .next s' ∧ s'.flt.queue = s.flt.queue ∧
        s'.f FLT_DROP_DEGRADE = min (2 ^ FLT_DROP_DEGRADE.w - 1) (s.f FLT_DROP_DEGRADE + 1)) ∧
    (m.cls = 0 → s.hubRoom m.cls = false → s.fb FLT_PEND_FLOOD = false →
      ∃ s', exec (.faultMessageAccepted t die) s = .next s' ∧ s'.flt.queue = s.flt.queue ∧
        s'.f FLT_DROP_NOTE = min (2 ^ FLT_DROP_NOTE.w - 1) (s.f FLT_DROP_NOTE + 1)) ∧
    (m.cls < 2 → s.fb FLT_PEND_FLOOD = true → ∀ e : Coal, s.flt.entries = [e] → (e.src, e.kind, e.eid) = s.coalKey m → 0 < e.count →
      ∃ s' e', exec (.faultMessageAccepted t die) s = .next s' ∧ s'.flt.queue = s.flt.queue ∧ s'.flt.entries = [e'] ∧
        e'.count = e.count + 1 ∧ e'.last = m.time ∧ e'.first = e.first ∧ e'.msg = e.msg)) ∧
  (∀ (s : State) (t : Nat), s.fb FLT_PEND_FLOOD = true → s.flt.queue.length ≤ s.floodLo →
    (s.flt.repeatAt.getD s.flt.floodAt) + us (max 1 (s.f FLT_COAL_QUIET_US)) ≤ max s.now t →
    ∃ s' l, exec (.floodClear t) s = .next s' ∧ s'.flt.queue = s.flt.queue ++ l ∧ s'.flt.entries = [] ∧ s'.flt.seen = [] ∧
      s'.flt.fNote = 0 ∧ s'.flt.fDegr = 0 ∧ s'.flt.fRing = 0 ∧
      l.length = (s.flt.entries.filter (·.count != 0)).length + (if s.flt.fNote = 0 then 0 else 1) + (if s.flt.fDegr = 0 then 0 else 1) +
        (if s.flt.fRing = 0 then 0 else 1) ∧
      (∀ e ∈ s.flt.entries, e.count ≠ 0 → ∃ r ∈ l, r.type = 1 ∧ r.msg = e.msg ∧ r.count = e.count ∧ r.time = e.first ∧ r.lastDt = e.last - e.first) ∧
      (s.flt.fNote ≠ 0 → ∃ r ∈ l, r.type = 2 ∧ r.count = s.flt.fNote) ∧ (s.flt.fDegr ≠ 0 → ∃ r ∈ l, r.type = 3 ∧ r.count = s.flt.fDegr) ∧
      (s.flt.fRing ≠ 0 → ∃ r ∈ l, r.type = 4 ∧ r.count = s.flt.fRing) ∧
      s'.fb FLT_PEND_FLOOD = decide (s.floodHi ≤ s'.flt.queue.length))

/-- Fault logs and registers (R407, R419 to R426, R429). The oldest record goes to the host log while that has room, to the queue for NV and to the history. Records for NV
are written, HALTs first, while the interlock allows it, and deferred with one FLT_NV_DEFER while it does not. A write of FLT_PEND clears the classes it names, never
HALT, and closes the alarm contact unless a HALT is pending. LOG_EN starts the host log, HEAD frees its records, and FLT_INJECT raises the
message it spells, or a NOTE. A forwarded message of another engine is queued without its class acting, and a STOP packet of the stop group
raises FLT_REMOTE_STOP. -/
def Obligations.FaultLogs : Prop :=
  (∀ (s : State) (t : Nat) (r : LogRec) (q : List LogRec), s.flt.queue = r :: q → s.fb FLT_PEND_LOG_FULL = false →
    ∃ s', exec (.logRecordWrite t) s = .next s' ∧
      s'.flt.hist = (s.flt.hist ++ [{ r with irq := false }]).drop (s.flt.hist.length - 1023) ∧
      (s.f FLT_CTRL_NV_CLASS ≤ msgClass r.msg → s.fb FLT_NV_DEFER = false → s'.flt.nvQ = s.flt.nvQ ++ [{ r with irq := false }]) ∧
      (s.fb FLT_CTRL_LOG_EN = true → s'.flt.logIdx = s.flt.logIdx + 1 ∧
        (s.viaRing = false → s.Put s' (fun o => o = .hostWrite (s.f FLT_LOG_BASE_LO_BASE * 4096 + s.f FLT_LOG_BASE_HI_BASE * 2 ^ 32 +
          32 * s.f FLT_LOG_TAIL_TAIL) (r.bytes (s.f FLT_LOG_TAIL_PHASE))))) ∧
      ((∀ m ∈ s.flt.wire, m.acted = false ∧ m.remote = false) → s'.flt.queue = q)) ∧
  (∀ (s : State) (t : Nat), s.flt.nvQ ≠ [] →
    (s.nvOk = true → ∃ s', exec (.nvLogWrite t) s = .next s' ∧ s'.flt.nvQ = [] ∧ s'.fb FLT_NV_DEFER = false ∧
      s'.nv.logNext % 131072 = (s.nv.logNext + s.flt.nvQ.length) % 131072) ∧
    (s.nvOk = false → s.fb FLT_NV_DEFER = false → ∃ s', exec (.nvLogWrite t) s = .next s' ∧ s'.nv = s.nv ∧ s'.fb FLT_NV_DEFER = true ∧
      s'.flt.nvQ = s.flt.nvQ.take 256 ∧ s'.f FLT_NV_LOST = min 65535 (s.f FLT_NV_LOST + (s.flt.nvQ.length - 256)) ∧
      (s.at t).Raised s' 0 0 kFLT_NV_DEFER (wrap 32 (s.fs (THM_n_TEMP_TEMP 96))))) ∧
  (∀ (s : State) (t : Nat) (v : Word), s.writable rFLT_PEND = true →
    (∃ s', exec (.fltPendAck t v) s = .next s' ∧ s'.fb FLT_PEND_NOTE = (s.fb FLT_PEND_NOTE && !bit v.toNat 0) ∧
      s'.fb FLT_PEND_DEGRADE = (s.fb FLT_PEND_DEGRADE && !bit v.toNat 1) ∧ s'.fb FLT_PEND_STOP = (s.fb FLT_PEND_STOP && !bit v.toNat 2) ∧
      s'.fb FLT_PEND_HALT = s.fb FLT_PEND_HALT ∧ s'.fb FLT_PEND_FLOOD = s.fb FLT_PEND_FLOOD) ∧
    (bit v.toNat 29 = true → s.fb FLT_PEND_HALT = false →
      ∃ s', exec (.relayReset t v) s = .next s' ∧ s'.fb FLT_PEND_RELAY = false ∧ s'.svc.alarmOpen = false) ∧
    (bit v.toNat 29 = true → s.fb FLT_PEND_HALT = true →
      ∃ s', exec (.relayReset t v) s = .next s' ∧ s'.fb FLT_PEND_RELAY = s.fb FLT_PEND_RELAY ∧ s'.svc.alarmOpen = s.svc.alarmOpen)) ∧
  (∀ (s : State) (t : Nat) (v : Word), s.writable rFLT_CTRL = true → bit v.toNat 31 = true → s.fb FLT_CTRL_LOG_EN = false →
    (6 ≤ s.f FLT_LOG_SIZE_LOG2 → s.f FLT_LOG_SIZE_LOG2 ≤ 20 → ∃ s', exec (.logEn t v) s = .next s' ∧ s'.fb FLT_CTRL_LOG_EN = true ∧
      s'.f FLT_LOG_TAIL_TAIL = 0 ∧ s'.f FLT_LOG_TAIL_PHASE = 1 ∧ s'.flt.logIdx = 0 ∧ s'.fb FLT_PEND_LOG_FULL = false) ∧
    (s.f FLT_LOG_SIZE_LOG2 < 6 ∨ 20 < s.f FLT_LOG_SIZE_LOG2 → ∃ s', exec (.logEn t v) s = .next s' ∧ s'.fb FLT_CTRL_LOG_EN = false ∧
      (s.at t).Raised s' 0 0 kFLT_NOTE rFLT_CTRL)) ∧
  (∀ (s : State) (t : Nat) (v : Word), s.writable rFLT_LOG_HEAD = true →
    ∃ s', exec (.fltLogHeadWrite t v) s = .next s' ∧ s'.f FLT_LOG_HEAD_HEAD = v.toNat % 2 ^ 20 ∧
      s'.flt.logIdx = (s.f FLT_LOG_TAIL_TAIL + s.logSize - v.toNat % 2 ^ 20 % s.logSize) % s.logSize ∧ s'.fb FLT_PEND_LOG_FULL = false) ∧
  (∀ (s : State) (t w : Nat) (v : Word), s.writable rFLT_INJECT_HI = true → w = v.toNat * 2 ^ 32 + s.lowOf 0 rFLT_INJECT_LO →
    (∀ k : Kind, k ∈ allKinds → k.fixed = false → k.group = w / 2 ^ 56 % 16 → k.code = w / 2 ^ 44 % 256 → w / 2 ^ 60 ≤ 4 → s.st ≠ MIDNIGHT →
      ∃ s', exec (.fltInject t v) s = .next s' ∧ (s.at t).Raised s' (w / 2 ^ 60) (w / 2 ^ 52 % 16) k w ∧
        s'.flt.wire.getLast?.map (·.injected) = some true) ∧
    ((∀ k ∈ allKinds, k.group = w / 2 ^ 56 % 16 → k.code = w / 2 ^ 44 % 256 → k.fixed = true) ∨ 4 < w / 2 ^ 60 ∨ s.st = MIDNIGHT →
      ∃ s', exec (.fltInject t v) s = .next s' ∧ (s.at t).Raised s' 0 0 kFLT_NOTE rFLT_INJECT_HI)) ∧
  (∀ (s : State) (t port : Nat) (p : RingPkt), s.receives port p = true → p.type = 0x20 → s.fb FLT_PEND_FLOOD = false →
    s.hubRoom (msgClass (leAt p.payload 0 8)) = true →
    ∃ s' r, exec (.fault t port p) s = .next s' ∧ s'.flt.queue = s.flt.queue ++ [r] ∧ r.msg = leAt p.payload 0 8 ∧ r.remote = true ∧
      r.eid = p.src ∧ r.time = (s.at t).sysTime - s.ageHere port p ∧ s'.st = s.st ∧ s'.fb FLT_PEND_HALT = s.fb FLT_PEND_HALT ∧
      s'.fb FLT_PEND_STOP = s.fb FLT_PEND_STOP) ∧
  (∀ (s : State) (t port : Nat) (p : RingPkt), s.powered = true → s.portUp port = true → p.type = 0x21 → p.bcast = true →
    ¬(s.fb RING_STATUS_POS_VALID = true ∧ p.src = s.eid) → (s.takeSeq p).2 = true →
    (s.fb FLT_CTRL_STOP_TAKE = true → s.f FLT_CTRL_STOP_GROUP ≠ 0 → byteAt p.payload 8 = s.f FLT_CTRL_STOP_GROUP →
      ∃ s', exec (.stop t port p) s = .next s' ∧ s.Reported s' kFLT_REMOTE_STOP p.src) ∧
    (s.fb FLT_CTRL_STOP_TAKE = false ∨ s.f FLT_CTRL_STOP_GROUP = 0 ∨ byteAt p.payload 8 ≠ s.f FLT_CTRL_STOP_GROUP →
      ∃ s', exec (.stop t port p) s = .next s' ∧ s'.flt = s.flt))

/-- Calibration (R433, R439 to R443, R445 to R447, R449). RUN_NOW and a passed interval make enabled instances due; an overdue one raises CAL_OVERDUE. Two
results that agree are counted and dated and give a new value within its range; two that disagree are discarded with CAL_DISAGREE
and the value stays. The new value goes to the record's other copy, or waits for the interlock. Target 4 waits for a swap boundary, or is set at once in Dawn.
Without line events a slew goes on by itself. A KH-4806 record is stored in its slot, or refused. -/
def Obligations.CalibrationMeasured : Prop :=
  (∀ (s : State) (t k : Nat) (v : Word), s.writable rCAL_CTRL = true → bit v.toNat 31 = true → calExists k = true → s.calEnabled k = true →
    ∃ s', exec (.runNow t v) s = .next s' ∧ (s'.calI k).due = true ∧ s'.f CAL_CTRL_HOLD = v.toNat % 32 ∧
      ((s.calI k).due = false → (s'.calI k).dueAt = max s.now t) ∧
      ((s.calI k).due = true → (s'.calI k).again = ((s.calI k).again || (s.calI k).first.isSome))) ∧
  (∀ (s : State) (t k x : Nat), (s.calI k).lastAt = some x → calExists k = true → s.calEnabled k = true → (s.calI k).due = false →
    (x + sec s.cal.policy.intervalS ≤ max s.now t →
      ∃ s', exec (.calInstanceDue t k) s = .next s' ∧ (s'.calI k).due = true ∧ (s'.calI k).dueAt = max s.now t) ∧
    (max s.now t < x + sec s.cal.policy.intervalS → ∃ s', exec (.calInstanceDue t k) s = .next s' ∧ s'.cal = s.cal)) ∧
  (∀ (s : State) (t k : Nat), calExists k = true → s.calEnabled k = true → (s.calI k).due = true →
    (s.calI k).dueAt + sec (((s.calI k).overdue + 1) * s.cal.policy.intervalS) ≤ max s.now t →
    ∃ s', exec (.calOverdue t k) s = .next s' ∧ (s'.calI k).overdue = (s.calI k).overdue + 1 ∧ s'.calForce k = s.calForce k ∧
      (s.at t).Raised s' 0 0 kCAL_OVERDUE (calTarget k)) ∧
  (∀ (s : State) (t target inst : Nat) (vals a v : List Int), target < 5 → inst < calCount target → s.calOpen (target * 256 + inst) = true →
    v = (if target = 3 then (s.calI (768 + inst)).bins.map (fun (b : Nat) => (b : Int)) else vals) →
    ((s.calI (target * 256 + inst)).first = none →
      ∃ s', exec (.calMeasurementComplete t target inst vals) s = .next s' ∧ (s'.calI (target * 256 + inst)).first = some v ∧
        s'.calForce (target * 256 + inst) = s.calForce (target * 256 + inst) ∧ s'.f CAL_COUNT_COUNT = s.f CAL_COUNT_COUNT) ∧
    ((s.calI (target * 256 + inst)).first = some a → calAgree target s.cal.policy.tol a v = false →
      ∃ s', exec (.calMeasurementComplete t target inst vals) s = .next s' ∧ (s'.calI (target * 256 + inst)).first = none ∧
        s'.calForce (target * 256 + inst) = s.calForce (target * 256 + inst) ∧
        s'.f (CAL_t_STAT_DISAGREE target) = min 65535 (s.f (CAL_t_STAT_DISAGREE target) + 1) ∧ (s.at t).Raised s' 0 0 kCAL_DISAGREE target) ∧
    ((s.calI (target * 256 + inst)).first = some a → calAgree target s.cal.policy.tol a v = true → ∀ w lim,
      calClamp target (calMean target (s.calForce (target * 256 + inst)) a v) = (w, lim) →
      ∃ s', exec (.calMeasurementComplete t target inst vals) s = .next s' ∧ (s'.calI (target * 256 + inst)).first = none ∧
        (s'.calI (target * 256 + inst)).lastAt = some (max s.now t) ∧
        (s'.calI (target * 256 + inst)).due = (s.calI (target * 256 + inst)).again ∧
        (if target = 4 then (s'.calI (target * 256 + inst)).pendT = some w else (s'.calI (target * 256 + inst)).target = w) ∧
        s'.f CAL_COUNT_COUNT = (s.f CAL_COUNT_COUNT + 1) % 2 ^ 32 ∧ s'.f CAL_LAST_DATE_YEAR = s.clk.year % 512 ∧
        s'.f CAL_LAST_DATE_MONTH = s.clk.month % 16 ∧ s'.f CAL_LAST_DATE_DAY = s.clk.day % 32 ∧ s'.f CAL_LAST_TIME_HOUR = s.clk.hour % 32 ∧
        s'.f CAL_LAST_TIME_MINUTE = s.clk.minute % 64 ∧ s'.f CAL_LAST_TIME_SECOND = s.clk.second % 64 ∧
        (lim = true → s.Reported s' kCAL_EXHAUSTED (target + inst * 256)) ∧
        (s.nvOk = false → (s'.calI (target * 256 + inst)).nvWait = some w ∧ s'.fb CAL_STATUS_NV_PENDING = true ∧ s'.nv = s.nv) ∧
        (s.nvOk = true → s.calCopy? (target * 256 + inst) = none →
          s'.calCopy? (target * 256 + inst) = some ({ seq := 1, vals := w }, true)) ∧
        (s.nvOk = true → ∀ c isA, s.calCopy? (target * 256 + inst) = some (c, isA) → c.seq + 1 < 2 ^ 32 - 1 →
          s'.calCopy? (target * 256 + inst) = some ({ seq := c.seq + 1, vals := w }, !isA)))) ∧
  (∀ (s : State) (t inst : Nat) (vals a w : List Int) (lim : Bool), inst < 96 → s.st = DAWN → s.fb SYS_STATE_DAWN_DONE = false →
    s.tileUp inst = true → (s.calI (1024 + inst)).first = some a → calAgree 4 s.cal.policy.tol a vals = true →
    calClamp 4 (calMean 4 (s.calForce (1024 + inst)) a vals) = (w, lim) →
    ∃ s', exec (.calMeasurementComplete t 4 inst vals) s = .next s' ∧ (s'.calI (1024 + inst)).force = w ∧
      (s'.calI (1024 + inst)).fromDawn = true ∧ (s'.calI (1024 + inst)).first = none ∧ s'.f CAL_COUNT_COUNT = (s.f CAL_COUNT_COUNT + 1) % 2 ^ 32) ∧
  (∀ (s : State) (t k : Nat), s.calSlews k = true → calTarget k ≠ 1 → s.st ≠ NIGHT → s.st ≠ MIDNIGHT → (s.calI k).done < (s.calI k).total →
    (∀ n, s.calInput? k = some n → (s.pin n).lastLineAt + ms 10 ≤ max s.now t) → (s.calI k).slewAt + ms 1 ≤ max s.now t →
    ∃ s' d, exec (.calSlewIdleStep t k) s = .next s' ∧ (s.calI k).done < d ∧ d ≤ (s.calI k).total ∧
      (s'.calI k).force = slewAt (calTarget k) (s.calI k).start (s.calI k).target d (s.calI k).total ∧
      (s'.calI k).slewAt = max s.now t ∧
      (d < (s.calI k).total → (s'.calI k).done = d ∧ (s'.calI k).total = (s.calI k).total) ∧
      (d = (s.calI k).total → (s'.calI k).total = 0 ∧ (s'.calI k).force = (s.calI k).target) ∧
      (∀ j, (s.calI k).done < j → j < d →
        slewAt (calTarget k) (s.calI k).start (s.calI k).target j (s.calI k).total = s.calForce k)) ∧
  (∀ (s : State) (t : Nat) (v : Word), s.writable rCAL_IMPORT = true → bit v.toNat 31 = true →
    (∀ es : List (Nat × CompatEntry),
      s.importRecord? (v.toNat % 2 ^ 16 * 64) (bits v.toNat 30 24) (bits v.toNat 23 23) = some es → s.st = NIGHT ∨ s.st = DAWN ∨ s.st = MORNING →
      s.nvOk = true →
      ∃ s', exec (.calImport t v) s = .next s' ∧ s'.f CAL_STATUS_IMPORT_ERR = s.f CAL_STATUS_IMPORT_ERR ∧
        (∀ e ∈ es, lookup? s'.nv.compat (bits v.toNat 23 23 * 256 + e.1) = some e.2) ∧
        (∀ j, j / 256 ≠ bits v.toNat 23 23 → lookup? s'.nv.compat j = lookup? s.nv.compat j)) ∧
    (s.importRecord? (v.toNat % 2 ^ 16 * 64) (bits v.toNat 30 24) (bits v.toNat 23 23) = none ∨ s.nvOk = false ∨
        (s.st ≠ NIGHT ∧ s.st ≠ DAWN ∧ s.st ≠ MORNING) →
      ∃ s', exec (.calImport t v) s = .next s' ∧ s'.fb CAL_STATUS_IMPORT_ERR = true ∧ s'.nv = s.nv))

/-- Aliases, memory errors, counters, dumps and tags (R458 to R466). A word written through the set or clear view sets or clears its one bits in the
form store; another size or alignment is counted and changes nothing. Memory errors are counted, reported by their rules, and bring the reader its error. A counter is loaded with both
halves; a dump fills the next slot of its ring, or is skipped while that is full; DUMP_EN needs a legal LOG2; the tag generator
loads its seed, the tag in flight fills the window, and POP releases its oldest entries. -/
def Obligations.MemoriesAndCounters : Prop :=
  (∀ (s : State) (t off a : Nat) (data : List Nat), off < 2 ^ 18 → a = s.f MEM_ATOM_BASE_BASE * 2 ^ 18 + off →
    (s.writable (0xB40000 + off) = true → data.length = 4 → off % 4 = 0 →
      ∃ s', exec (.aliasSetWrite t off data) s = .next s' ∧ ∀ b, Sparse.get Config.formPowerOn s'.mem.form b =
        if a ≤ b ∧ b < a + 4 then Sparse.get Config.formPowerOn s.mem.form b ||| BitVec.ofNat 8 (byteAt data (b - a))
        else Sparse.get Config.formPowerOn s.mem.form b) ∧
    (s.writable (0xB80000 + off) = true → data.length = 4 → off % 4 = 0 →
      ∃ s', exec (.aliasClearWrite t off data) s = .next s' ∧ ∀ b, Sparse.get Config.formPowerOn s'.mem.form b =
        if a ≤ b ∧ b < a + 4 then Sparse.get Config.formPowerOn s.mem.form b &&& ~~~ BitVec.ofNat 8 (byteAt data (b - a))
        else Sparse.get Config.formPowerOn s.mem.form b) ∧
    (s.writable (0xB40000 + off) = true → wordSized off data.length = false →
      ∃ s', exec (.aliasSetWrite t off data) s = .next s' ∧ s'.mem = s.mem ∧
        s'.f MEM_STATUS_ALIAS_ERR = min 65535 (s.f MEM_STATUS_ALIAS_ERR + 1)) ∧
    (s.writable (0xB80000 + off) = true → wordSized off data.length = false →
      ∃ s', exec (.aliasClearWrite t off data) s = .next s' ∧ s'.mem = s.mem ∧
        s'.f MEM_STATUS_ALIAS_ERR = min 65535 (s.f MEM_STATUS_ALIAS_ERR + 1))) ∧
  (∀ (s : State) (t mem a : Nat), s.powered = true →
    (∃ s', exec (.memEccCorrected t mem a) s = .next s' ∧ s'.f MEM_ECC_CORR = min 65535 (s.f MEM_ECC_CORR + 1) ∧
      (mem ≠ 1 → (∀ x, s.mem.eccAt = some x → x + sec 1 ≤ max s.now t) → (s.at t).Raised s' 0 0 kMEM_ECC_CORR (a / 64)) ∧
      (mem = 1 ∨ (∃ x, s.mem.eccAt = some x ∧ max s.now t < x + sec 1) → s'.flt = s.flt)) ∧
    (∃ s', exec (.memEccUncorrectable t mem a .bar) s = .next s' ∧ s'.f MEM_ECC_UNCORR = min 65535 (s.f MEM_ECC_UNCORR + 1) ∧
      s'.out = .barData 2 [] :: s.out ∧ (mem = 0 → (s.at t).Raised s' 0 0 kMEM_ECC_UNCORR (a / 64)) ∧ (mem ≠ 0 → s'.flt = s.flt)) ∧
    (∀ k, ∃ s', exec (.memEccUncorrectable t mem a (.calCopy false k)) s = .next s' ∧ validCopy (lookup? s'.nv.calA k) = none ∧
      s'.nv.calB = s.nv.calB) ∧
    (∀ k, ∃ s', exec (.memEccUncorrectable t mem a (.calCopy true k)) s = .next s' ∧ validCopy (lookup? s'.nv.calB k) = none ∧
      s'.nv.calA = s.nv.calA)) ∧
  (∀ (s : State) (t n : Nat) (v : Word), n < 256 → s.writable (rPMC_n_HI n) = true →
    ∃ s', exec (.pmcLoad t n v) s = .next s' ∧ s'.f (PMC_n_LO_VALUE n) = s.lowOf 0 (rPMC_n_LO n) ∧ s'.f (PMC_n_HI_VALUE n) = v.toNat % 2 ^ 16) ∧
  (∀ (s : State) (t : Nat), s.fb PMC_CTRL_DUMP_EN = true → s.pmc.dumpDue ≤ (s.at t).dumpClock → s.f PMC_CTRL_LOG2 ≤ 15 →
    s.fb PMC_CTRL_UNIT_LINES = false ∨ s.cfg.armed.isSome = true →
    (s.dumpSize ≤ s.pmc.dumpUsed → ∃ s', exec (.pmcDump t) s = .next s' ∧ s'.pmc.dumpDue = s.pmc.dumpDue + s.dumpPeriod ∧
      s'.pmc.seq = (s.pmc.seq + 1) % 2 ^ 32 ∧ s'.f PMC_DUMP_STAT_SKIPPED = min 65535 (s.f PMC_DUMP_STAT_SKIPPED + 1) ∧ s'.out = s.out) ∧
    (s.pmc.dumpUsed < s.dumpSize → ∃ s', exec (.pmcDump t) s = .next s' ∧ s'.pmc.dumpDue = s.pmc.dumpDue + s.dumpPeriod ∧
      s'.pmc.seq = (s.pmc.seq + 1) % 2 ^ 32 ∧ s'.pmc.dumpUsed = s.pmc.dumpUsed + 1 ∧
      s'.f PMC_DUMP_STAT_TAIL = (s.f PMC_DUMP_STAT_TAIL % s.dumpSize + 1) % s.dumpSize ∧
      (s.viaRing = false → ∀ base, base = s.f PMC_DUMP_BASE_LO_BASE * 4096 + 2 ^ 32 * (s.reg rPMC_DUMP_BASE_HI).toNat +
          s.f PMC_DUMP_STAT_TAIL % s.dumpSize * 4096 →
        s'.out = .hostWrite base ((s.at t).dumpHeader false) :: .hostWrite (base + 0x40) (s.at t).dumpCounters :: s.out))) ∧
  (∀ (s : State) (t : Nat) (v : Word), s.writable rPMC_CTRL = true →
    (bit v.toNat 30 = true → bit v.toNat 31 = true → 4 ≤ bits v.toNat 20 16 → bits v.toNat 20 16 ≤ 15 →
      ∃ s', exec (.dumpNow t v) s = .next s' ∧ s'.pmc.seq = (s.pmc.seq + 1) % 2 ^ 32 ∧ s'.fb PMC_CTRL_DUMP_NOW = false ∧
        s'.fb PMC_CTRL_DUMP_EN = true) ∧
    (bit v.toNat 30 = true → bit v.toNat 31 = false →
      ∃ s', exec (.dumpNow t v) s = .next s' ∧ s'.pmc = s.pmc ∧ s'.out = s.out) ∧
    (bit v.toNat 31 = true → bit v.toNat 30 = false →
      (4 ≤ bits v.toNat 20 16 → bits v.toNat 20 16 ≤ 15 → ∃ s', exec (.dumpEn t v) s = .next s' ∧ s'.fb PMC_CTRL_DUMP_EN = true ∧
        (s.fb PMC_CTRL_DUMP_EN = false → s'.pmc.dumpDue = s'.dumpClock + s'.dumpPeriod)) ∧
      (bits v.toNat 20 16 < 4 ∨ 15 < bits v.toNat 20 16 → ∃ s', exec (.dumpEn t v) s = .next s' ∧ s'.fb PMC_CTRL_DUMP_EN = false))) ∧
  (∀ (s : State) (t : Nat) (v : Word), s.writable rPMC_TAG_CTRL = true → bits v.toNat 31 30 ≠ 0 →
    ∃ s', exec (.tagLoad t v) s = .next s' ∧ s'.pmc.lfsr = (if s.f PMC_TAG_SEED_SEED = 0 then 1 else s.f PMC_TAG_SEED_SEED) ∧
      s'.f PMC_TAG_CTRL_DOMAIN = bits v.toNat 31 30 ∧ s'.f PMC_TAG_CTRL_RATE = bits v.toNat 28 24 ∧ s'.f PMC_TAG_CTRL_UNIT = v.toNat % 2 ^ 12) ∧
  (∀ (s : State) (t : Nat) (abandoned : Bool) (r : TagRec), s.pmc.flying = some r → s.f PMC_TAG_STAT_COUNT < 64 →
    ∃ s' q, exec (.tagRecordComplete t abandoned) s = .next s' ∧ s'.pmc.flying = none ∧
      s'.f PMC_TAG_STAT_COUNT = s.f PMC_TAG_STAT_COUNT + 1 ∧ s'.f PMC_TAG_STAT_HEAD = s.f PMC_TAG_STAT_HEAD ∧
      s'.fb PMC_TAG_STAT_FULL = decide (s.f PMC_TAG_STAT_COUNT = 63) ∧
      lookup? s'.pmc.win ((s.f PMC_TAG_STAT_HEAD + s.f PMC_TAG_STAT_COUNT) % 64) = some q ∧ q.abandoned = abandoned ∧ q.done = !abandoned ∧
      q.typ = r.typ ∧ q.unit_ = r.unit_ ∧ q.idA = r.idA ∧ q.idB = r.idB) ∧
  (∀ (s : State) (t k : Nat) (v : Word), s.writable rPMC_TAG_STAT = true → k = min (bits v.toNat 22 16) (s.f PMC_TAG_STAT_COUNT) →
    ∃ s', exec (.tagPop t v) s = .next s' ∧ s'.f PMC_TAG_STAT_COUNT = s.f PMC_TAG_STAT_COUNT - k ∧
      s'.f PMC_TAG_STAT_HEAD = (s.f PMC_TAG_STAT_HEAD + k) % 64 ∧ (0 < k → s'.fb PMC_TAG_STAT_FULL = false))

/-- The calendar, and reads that clear (R9, R10, R468 to R470). Each second moves the calendar on, through the ends of minute, hour, day, month and year; at the last
second of 2399 it holds. A write of CLK_TIME sets a possible date and time and refuses an impossible one. A read of CLK_DATE captures CLK_TIME of the same
second for its master. A read of a register answers its word and clears its RC fields and nothing else. -/
def Obligations.CalendarAndClearingReads : Prop :=
  (∀ (s : State) (t : Nat), ∃ s', exec (.calendarSecond t) s = .next s' ∧
    (s.clk.ended = true → s'.clk = s.clk) ∧
    (s.clk.ended = false → s.clk.second < 59 → s'.clk = { s.clk with second := s.clk.second + 1 }) ∧
    (s.clk.ended = false → s.clk.second = 59 → s.clk.minute < 59 → s'.clk = { s.clk with second := 0, minute := s.clk.minute + 1 }) ∧
    (s.clk.ended = false → s.clk.second = 59 → s.clk.minute = 59 → s.clk.hour < 23 →
      s'.clk = { s.clk with second := 0, minute := 0, hour := s.clk.hour + 1 }) ∧
    (s.clk.ended = false → s.clk.second = 59 → s.clk.minute = 59 → s.clk.hour = 23 →
      (s.clk.day < monthLen s.clk.year s.clk.month → s'.clk = { s.clk with second := 0, minute := 0, hour := 0, day := s.clk.day + 1 }) ∧
      (s.clk.day = monthLen s.clk.year s.clk.month → s.clk.month < 12 →
        s'.clk = { s.clk with second := 0, minute := 0, hour := 0, day := 1, month := s.clk.month + 1 }) ∧
      (s.clk.day = 31 → s.clk.month = 12 → s.clk.year < 399 →
        s'.clk = { s.clk with second := 0, minute := 0, hour := 0, day := 1, month := 1, year := s.clk.year + 1 }) ∧
      (s.clk.day = 31 → s.clk.month = 12 → s.clk.year = 399 → s'.clk = { s.clk with ended := true }))) ∧
  (∀ (s : State) (t y mo d h mi sc : Nat) (m : Master) (v : Word), s.writable rCLK_TIME = true → h = bits v.toNat 20 16 → mi = bits v.toNat 13 8 →
    sc = bits v.toNat 5 0 → lookup? s.clk.dates (masterCode m) = some (y * 65536 + mo * 256 + d) → y < 512 → mo < 16 → d < 32 →
    (validSet y mo d h mi sc = true → ∃ s', exec (.clockSet t m v) s = .next s' ∧
      s'.clk = { year := y, month := mo, day := d, hour := h, minute := mi, second := sc, ended := false, valid := true, dates := [] }) ∧
    (validSet y mo d h mi sc = false → ∃ s', exec (.clockSet t m v) s = .next s' ∧ s'.clk = s.clk ∧ s'.fb CLK_STATUS_BAD_DATE = true ∧
      (s.at t).Raised s' 0 0 kCLK_BAD_DATE rCLK_TIME)) ∧
  (∀ (s : State) (t : Nat) (m : Master), s.powered = true → s.sys.bootDone = true → s.st ≠ MIDNIGHT →
    ∃ s', exec (.clkDateRead t m) s = .next s' ∧ s'.out = .barData 0 (toLe 4 s.clk.dateWord) :: s.out ∧
      tget (0 : Word) s'.snaps (pairKey (masterCode m) rCLK_TIME) = BitVec.ofNat 32 s.clk.timeWord ∧ s'.clk = s.clk) ∧
  (∀ (s : State) (t off : Nat) (m : Master) (r : RegRow), s.powered = true → s.sys.bootDone = true → s.st ≠ MIDNIGHT ∨ sysOrFlt off = true →
    regRow? off = some r → off % 4 = 0 → isLo off = false → isHi off = false → isStaging off = false → inWindow off = false →
    isAlias off = false → isMsix off = false →
    ∃ s', exec (.rcRead t m off 4) s = .next s' ∧ s'.out = .barData 0 (toLe 4 ((s.at t).regWord off).toNat) :: s.out ∧
      s'.reg off = (s.at t).reg off &&& ~~~ (BitVec.ofNat 32 r.rc) ∧ (∀ o, o ≠ off → s'.reg o = (s.at t).reg o) ∧ s'.snaps = s.snaps)

/-- Service access (R489 to R492). An instruction shifted into a powered module's TAP is selected, and selecting EXTEST, SAMPLE/PRELOAD or BYPASS changes nothing else.
In Night or Midnight and within temperature FW_LOAD fills the buffer, FW_COMMIT writes it to its slot and leaves it clear, and LOCK_CLEAR erases the layout key and lock; otherwise they are refused with status
4. The service Ethernet answers ARP for its address and echo requests, and its register-read service answers without a side effect. -/
def Obligations.ServiceAccess : Prop :=
  (∀ (s : State) (t : Nat), s.powered = true →
    (∃ s', exec (.extest t) s = .next s' ∧ s'.svc = { s.svc with tapIr := 0x00 } ∧ s'.regs = (s.at t).regs ∧ s'.out = s.out) ∧
    (∃ s', exec (.samplePreload t) s = .next s' ∧ s'.svc = { s.svc with tapIr := 0x02 } ∧ s'.regs = (s.at t).regs ∧ s'.out = s.out) ∧
    (∃ s', exec (.bypass t) s = .next s' ∧ s'.svc = { s.svc with tapIr := 0xFF } ∧ s'.regs = (s.at t).regs ∧ s'.out = s.out) ∧
    (s.st = NIGHT ∨ s.st = MIDNIGHT → s.nvOk = true →
      ∃ s', exec (.fwStatus t) s = .next s' ∧ s'.out = .tap (s.svc.fwStatus * 2 ^ 24 + s.svc.fwWords) :: s.out) ∧
    ((s.st ≠ NIGHT ∧ s.st ≠ MIDNIGHT) ∨ s.nvOk = false →
      ∃ s', exec (.fwStatus t) s = .next s' ∧ s'.out = .tap (4 * 2 ^ 24 + s.svc.fwWords) :: s.out)) ∧
  (∀ (s : State) (t w : Nat), s.powered = true → s.svc.fwStatus ≠ 1 →
    (s.st = NIGHT ∨ s.st = MIDNIGHT → s.nvOk = true → w / 2 ^ 32 % 2 ^ 32 % 4 = 0 → w / 2 ^ 32 % 2 ^ 32 < 2 ^ 26 →
      ∃ s', exec (.fwLoad t w) s = .next s' ∧ s'.svc.fwStatus = 2 ∧ s'.svc.fwWords = min (2 ^ 24 - 1) (s.svc.fwWords + 1) ∧
        ∀ b, Sparse.get (fun _ => 0) s'.svc.fwBuf b = if w / 2 ^ 32 % 2 ^ 32 ≤ b ∧ b < w / 2 ^ 32 % 2 ^ 32 + 4 then
          BitVec.ofNat 8 (w / 2 ^ (8 * (b - w / 2 ^ 32 % 2 ^ 32))) else Sparse.get (fun _ => 0) s.svc.fwBuf b) ∧
    (s.st = NIGHT ∨ s.st = MIDNIGHT → s.nvOk = true →
      ∃ s', exec (.fwCommit t w) s = .next s' ∧ s'.svc.fwStatus = 1 ∧ s'.svc.fwSlot = w % 2 ∧ s'.svc.fwBuf = s.svc.fwBuf) ∧
    (s.st = NIGHT ∨ s.st = MIDNIGHT → s.nvOk = true → w % 2 ^ 32 = 0x4C4B434C →
      ∃ s', exec (.lockClear t w) s = .next s' ∧ s'.nv = { s.nv with key := none, layoutLock := false } ∧ s'.svc.fwStatus = 2) ∧
    (s.st = NIGHT ∨ s.st = MIDNIGHT → s.nvOk = true → w % 2 ^ 32 ≠ 0x4C4B434C →
      ∃ s', exec (.lockClear t w) s = .next s' ∧ s'.nv = s.nv ∧ s'.svc.fwStatus = s.svc.fwStatus) ∧
    ((s.st ≠ NIGHT ∧ s.st ≠ MIDNIGHT) ∨ s.nvOk = false →
      (∃ s', exec (.fwLoad t w) s = .next s' ∧ s'.svc.fwStatus = 4 ∧ s'.svc.fwBuf = s.svc.fwBuf) ∧
      (∃ s', exec (.fwCommit t w) s = .next s' ∧ s'.svc.fwStatus = 4 ∧ s'.nv = s.nv) ∧
      (∃ s', exec (.lockClear t w) s = .next s' ∧ s'.svc.fwStatus = 4 ∧ s'.nv = s.nv))) ∧
  (∀ (s : State) (t : Nat) (good : Bool), s.svc.fwStatus = 1 →
    ∃ s', exec (.fwCommitComplete t good) s = .next s' ∧ s'.svc.fwStatus = (if good then 2 else 3) ∧ s'.svc.fwBuf = [] ∧ s'.svc.fwWords = 0 ∧
      (if s.svc.fwSlot = 0 then s'.nv.fwA = { words := s.svc.fwWords, bytes := s.svc.fwBuf } ∧ s'.nv.fwB = s.nv.fwB
        else s'.nv.fwB = { words := s.svc.fwWords, bytes := s.svc.fwBuf } ∧ s'.nv.fwA = s.nv.fwA)) ∧
  (∀ (s : State) (t src port : Nat) (data : List Nat), s.powered = true →
    (∃ s', exec (.arpRequest t s.ipAddr) s = .next s' ∧ s'.out = .arp s.ipAddr :: s.out) ∧
    (∀ a, a ≠ s.ipAddr → ∃ s', exec (.arpRequest t a) s = .next s' ∧ s' = s.at t) ∧
    (data.length ≤ 1472 → ∃ s', exec (.icmpEcho t src data) s = .next s' ∧ s'.out = .icmp src data :: s.out) ∧
    (1472 < data.length → ∃ s', exec (.icmpEcho t src data) s = .next s' ∧ s'.out = s.out) ∧
    (data.length = 8 → leAt data 0 4 % 4 = 0 → 1 ≤ leAt data 4 2 → leAt data 4 2 ≤ 256 → leAt data 0 4 + 4 * leAt data 4 2 ≤ 2 ^ 24 →
      ∃ s' d, exec (.registerReadService t src port data) s = .next s' ∧ s'.out = .udp src port 19272 (data ++ d) :: s.out ∧
        d.length = 4 * leAt data 4 2 ∧ s'.regs = (s.at t).regs ∧ s'.snaps = s.snaps ∧
        (leAt data 4 2 = 1 → s.sys.bootDone = true → s.st ≠ MIDNIGHT → (regRow? (leAt data 0 4)).isSome = true →
          isStaging (leAt data 0 4) = false → inWindow (leAt data 0 4) = false → isAlias (leAt data 0 4) = false →
          isMsix (leAt data 0 4) = false → d = toLe 4 ((s.at t).regWord (leAt data 0 4)).toNat)) ∧
    (data.length = 8 → leAt data 0 4 % 4 ≠ 0 ∨ leAt data 4 2 = 0 ∨ 256 < leAt data 4 2 ∨ 2 ^ 24 < leAt data 0 4 + 4 * leAt data 4 2 →
      ∃ s', exec (.registerReadService t src port data) s = .next s' ∧
        s'.out = .udp src port 19272 (toLe 4 (leAt data 0 4) ++ [0, 0] ++ data.drop 6) :: s.out))

/-- Fluid-sensor buses and cue lines (R100, R413, R484 to R486, R494, R508). A datagram goes out on an idle bus, waits in a queue of four behind another,
or is dropped; what the bus answers goes to the last peer, and the next datagram is sent. A short encoder supply is noted by its input. A connector low on its supply drives no line high until it is
restored. A pulse ends at its time; an overloaded output turns off for 10 ms and is then driven again. -/
def Obligations.FluidBusesAndCueLines : Prop :=
  (∀ (s : State) (t bus src port : Nat) (data : List Nat) (busy : Bool), s.powered = true → bus < 2 → 1 ≤ data.length → data.length ≤ 256 →
    ((s.fluid bus).sending = none → (s.fluid bus).tx = [] → busy = false →
      ∃ s', exec (.fluidBridgeDatagram t bus src port data busy) s = .next s' ∧ s'.out = .fluid bus data :: s.out ∧
        s'.fluid bus = { peer := some (src, port), tx := [], sending := some data }) ∧
    ((s.fluid bus).sending ≠ none ∨ (s.fluid bus).tx ≠ [] ∨ busy = true →
      ∃ s', exec (.fluidBridgeDatagram t bus src port data busy) s = .next s' ∧ s'.out = s.out ∧ (s'.fluid bus).peer = some (src, port) ∧
        (s'.fluid bus).sending = (s.fluid bus).sending ∧
        (s'.fluid bus).tx = (if (s.fluid bus).tx.length < 4 then (s.fluid bus).tx ++ [data] else (s.fluid bus).tx))) ∧
  (∀ (s : State) (t bus a p : Nat) (data : List Nat), s.powered = true → bus < 2 →
    ((s.fluid bus).sending = none → (s.fluid bus).peer = some (a, p) → 1 ≤ data.length → data.length ≤ 256 →
      ∃ s', exec (.fluidBusIdle t bus data) s = .next s' ∧ s.Put s' (fun o => o = .udp a p (19273 + bus) data)) ∧
    ((s.fluid bus).sending ≠ none → (s.fluid bus).tx = [] →
      ∃ s', exec (.fluidBusIdle t bus data) s = .next s' ∧ s'.out = s.out ∧ (s'.fluid bus).sending = none) ∧
    (∀ d r, (s.fluid bus).tx = d :: r → ∃ s', exec (.fluidBusIdle t bus data) s = .next s' ∧ (s'.fluid bus).sending = some d ∧
      (s'.fluid bus).tx = r ∧ s.Put s' (fun o => o = .fluid bus d))) ∧
  (∀ (s : State) (t n : Nat), s.powered = true → n < 16 →
    ∃ s', exec (.encoderSupplyShort t n) s = .next s' ∧ (s.at t).Raised s' 0 0 kSYS_NOTE (0x80000000 + n)) ∧
  (∀ (s : State) (t c : Nat), c < 2 →
    (∃ s', exec (.cueVinLow t c) s = .next s' ∧ c ∈ s'.svc.vinLow ∧
      (∀ n, n < 16 → n / 8 = c → lookup? s'.svc.cueOut n ≠ some true) ∧
      (∀ n, n < 16 → n / 8 = c → s.cueWants n = some true → lookup? s.svc.cueOver n = none → s.svc.vinNoted = [] →
        s.Reported s' kSYS_NOTE (0x80000120 + n))) ∧
    (∃ s', exec (.cueVinRestored t c) s = .next s' ∧ c ∉ s'.svc.vinLow ∧ (∀ n, n / 8 = c → n ∉ s'.svc.vinNoted) ∧
      (∀ n, n < 16 → n / 8 = c → lookup? s.svc.cueOver n = none → lookup? s'.svc.cueOut n = s.cueWants n))) ∧
  (∀ (s : State) (t n e : Nat), lookup? s.svc.cuePulse n = some e → e ≤ max s.now t → (s.cueRec n).func = 5 → s.cueHeld n = false →
    lookup? s.svc.cueOver n = none → (n / 8) ∉ s.svc.vinLow →
    ∃ s', exec (.cuePulseEnd t n) s = .next s' ∧ lookup? s'.svc.cuePulse n = none ∧ lookup? s'.svc.cueOut n = some (s.cueRec n).activeLow) ∧
  (∀ (s : State) (t n : Nat) (b : Bool),
    (lookup? s.svc.cueOut n = some b → ∃ s', exec (.cueOutputOverload t n) s = .next s' ∧
      lookup? s'.svc.cueOver n = some (max s.now t + ms 10) ∧ lookup? s'.svc.cueOut n = none ∧ s'.out = .cue n none :: s.out) ∧
    (∀ e, lookup? s.svc.cueOver n = some e → e ≤ max s.now t → s.cueWants n = some b → (n / 8) ∉ s.svc.vinLow →
      ∃ s', exec (.cueOverloadRetry t n) s = .next s' ∧ lookup? s'.svc.cueOver n = none ∧ lookup? s'.svc.cueOut n = some b))

/-- Timing PLLs, lockstep pairs and PERST# (R23, R259, R263, R414). A die whose timing PLL loses lock is marked and reported, and after relock waits for the next
line boundary. A lockstep pair that disagrees is reported with its program counter. At the release of PERST# the link is up with what the host has configured. -/
def Obligations.ClocksAndPairs : Prop :=
  (∀ (s : State) (t die : Nat), s.powered = true → die < 5 → die ∉ s.health.dieUnlocked →
    ∃ s', exec (.pllLossOfLock t die) s = .next s' ∧ die ∈ s'.health.dieUnlocked ∧ die ∉ s'.health.dieAwait ∧
      (∀ d, d ≠ die → (d ∈ s'.health.dieUnlocked ↔ d ∈ s.health.dieUnlocked)) ∧ (s.at t).Raised s' die 0 kSYS_PLL_UNLOCK die) ∧
  (∀ (s : State) (t die : Nat), die ∈ s.health.dieUnlocked → die ∉ s.health.dieAwait →
    ∃ s', exec (.pllRelock t die) s = .next s' ∧ die ∈ s'.health.dieAwait ∧ s'.health.dieUnlocked = s.health.dieUnlocked ∧ s'.flt = s.flt) ∧
  (∀ (s : State) (t pair pc : Nat), s.powered = true → pair < 2 →
    ∃ s', exec (.lockstepDisagreement t pair pc) s = .next s' ∧ (s.at t).Raised s' 0 pair kSYS_LOCKSTEP pc ∧
      0 ∈ s'.health.dieGated) ∧
  (∀ (s : State) (t : Nat) (c : HostCfg), s.powered = true →
    ∃ s', exec (.perstRelease t c) s = .next s' ∧ s'.host.linkUp = true ∧ s'.host.mrrs = c.mrrs ∧ s'.host.ctoUs = c.ctoUs ∧
      s'.f HOST_LINK_SPEED = c.speed % 2 ^ HOST_LINK_SPEED.w ∧ s'.f HOST_LINK_WIDTH = c.width % 2 ^ HOST_LINK_WIDTH.w ∧
      s'.f HOST_LINK_TAGS = c.tags % 2 ^ HOST_LINK_TAGS.w ∧ s'.fb HOST_LINK_PHANTOM = c.phantom ∧ s'.fb HOST_LINK_NOSNOOP = c.noSnoop ∧
      s'.f HOST_RD_LIMIT = s'.readLimit % 2 ^ HOST_RD_LIMIT.w)
end

