-- ==== Sys2Proof/Laws/Sparse.lean ====
section
/-!
SUPPORT. The laws of the sparse store and of byte memories: what is read after a write, and the canonical form kept.
-/
namespace Sys2Proof.Machine

section
variable {α : Type} (d : Nat → α)

@[simp] theorem Sparse.get_nil (k : Nat) : Sparse.get d [] k = d k := rfl

/-- A key below every entry of an ascending rest reads as unlisted. -/
theorem Sparse.get_dropWhile (k x : Nat) (m : List (Nat × α)) :
    (x < k → Sparse.get d (m.dropWhile fun e => e.1 ≤ k) x = d x) ∧
    (k < x → Sparse.get d (m.dropWhile fun e => e.1 ≤ k) x = Sparse.get d m x) := by
  induction m with
  | nil => simp [Sparse.get]
  | cons e r ih =>
    obtain ⟨j, w⟩ := e
    by_cases hj : j ≤ k
    · rw [List.dropWhile_cons_of_pos (by simpa using hj)]
      refine ⟨ih.1, fun hx => ?_⟩
      rw [ih.2 hx, Sparse.get, if_neg (by omega), if_neg (by omega)]
    · rw [List.dropWhile_cons_of_neg (by simpa using hj)]
      refine ⟨fun hx => ?_, fun _ => rfl⟩
      rw [Sparse.get, if_pos (by omega)]

variable [DecidableEq α]

/-- The value written is the value read, whatever the store. -/
@[simp] theorem Sparse.get_put_same (k : Nat) (v : α) (m : List (Nat × α)) : Sparse.get d (Sparse.put d k v m) k = v := by
  have base : ∀ r : List (Nat × α), Sparse.get d (r.dropWhile fun e => e.1 ≤ k) k = d k := by
    intro r
    induction r with
    | nil => rfl
    | cons e r ih =>
      by_cases hj : e.1 ≤ k
      · rw [List.dropWhile_cons_of_pos (by simpa using hj)]; exact ih
      · rw [List.dropWhile_cons_of_neg (by simpa using hj), Sparse.get, if_pos (by omega)]
  induction m with
  | nil => by_cases hv : v = d k <;> simp [Sparse.put, Sparse.get, hv]
  | cons e r ih =>
    obtain ⟨j, w⟩ := e
    rw [Sparse.put]
    by_cases h1 : k < j
    · rw [if_pos h1]
      by_cases hv : v = d k
      · rw [if_pos hv, Sparse.get, if_pos h1, hv]
      · rw [if_neg hv, Sparse.get, if_neg (by omega), if_pos rfl]
    · rw [if_neg h1]
      by_cases h2 : k = j
      · rw [if_pos h2]
        by_cases hv : v = d k
        · rw [if_pos hv, base, hv]
        · rw [if_neg hv, Sparse.get, if_neg (by omega), if_pos rfl]
      · rw [if_neg h2, Sparse.get, if_neg h1, if_neg h2, ih]

/-- A write leaves every other key as it was, whatever the store. -/
theorem Sparse.get_put_other (k x : Nat) (v : α) (m : List (Nat × α)) (h : x ≠ k) :
    Sparse.get d (Sparse.put d k v m) x = Sparse.get d m x := by
  induction m with
  | nil =>
    rw [Sparse.put]; split
    · rfl
    · simp [Sparse.get, h]
  | cons e r ih =>
    obtain ⟨j, w⟩ := e
    rw [Sparse.put]
    by_cases h1 : k < j
    · rw [if_pos h1]; split
      · rfl
      · rw [Sparse.get]
        by_cases hx : x < k
        · rw [if_pos hx, Sparse.get, if_pos (by omega)]
        · rw [if_neg hx, if_neg h]
    · rw [if_neg h1]
      by_cases h2 : k = j
      · rw [if_pos h2]; split
        · have hd := Sparse.get_dropWhile d k x r
          rw [Sparse.get]
          by_cases hx : x < k
          · rw [hd.1 hx, if_pos (by omega)]
          · rw [hd.2 (by omega), if_neg (by omega), if_neg (by omega)]
        · rw [Sparse.get, Sparse.get]; subst h2; simp [h]
      · rw [if_neg h2, Sparse.get, Sparse.get, ih]

/-- A read after a write, in one equation. -/
theorem Sparse.get_put (k x : Nat) (v : α) (m : List (Nat × α)) :
    Sparse.get d (Sparse.put d k v m) x = if x = k then v else Sparse.get d m x := by
  split
  · next h => rw [h, Sparse.get_put_same]
  · next h => exact Sparse.get_put_other d k x v m h

/-- The canonical form as a proposition. -/
theorem Sparse.wf_iff (m : List (Nat × α)) :
    Sparse.wf d m = true ↔ m.Pairwise (fun a b => a.1 < b.1) ∧ ∀ e ∈ m, e.2 ≠ d e.1 := by
  simp [Sparse.wf, List.all_eq_true]

theorem Sparse.mem_put (k : Nat) (v : α) (m : List (Nat × α)) :
    ∀ e ∈ Sparse.put d k v m, e = (k, v) ∨ e ∈ m := by
  induction m with
  | nil =>
    intro e he
    rw [Sparse.put] at he
    split at he <;> simp_all
  | cons f r ih =>
    obtain ⟨j, w⟩ := f
    intro e he
    rw [Sparse.put] at he
    split at he
    · split at he
      · exact .inr he
      · simpa using he
    · split at he
      · split at he
        · exact .inr (List.mem_cons_of_mem _ ((List.dropWhile_sublist _).subset he))
        · rcases List.mem_cons.1 he with h | h
          · exact .inl h
          · exact .inr (List.mem_cons_of_mem _ h)
      · rcases List.mem_cons.1 he with h | h
        · exact .inr (by simp [h])
        · rcases ih e h with h | h
          · exact .inl h
          · exact .inr (List.mem_cons_of_mem _ h)

/-- Every write keeps the canonical form. -/
theorem Sparse.wf_put (k : Nat) (v : α) (m : List (Nat × α)) (h : Sparse.wf d m = true) :
    Sparse.wf d (Sparse.put d k v m) = true := by
  rw [Sparse.wf_iff] at h ⊢
  obtain ⟨hp, hn⟩ := h
  induction m with
  | nil =>
    rw [Sparse.put]; split
    · simp
    · next hv => simpa using hv
  | cons f r ih =>
    obtain ⟨j, w⟩ := f
    obtain ⟨hj, hr⟩ := List.pairwise_cons.1 hp
    have hn' : ∀ e ∈ r, e.2 ≠ d e.1 := fun e he => hn e (List.mem_cons_of_mem _ he)
    rw [Sparse.put]
    split
    · next h1 =>
      split
      · exact ⟨hp, hn⟩
      · next hv =>
        refine ⟨List.pairwise_cons.2 ⟨?_, hp⟩, ?_⟩
        · intro e he
          rcases List.mem_cons.1 he with h | h
          · rw [h]; exact h1
          · exact Nat.lt_trans h1 (hj e h)
        · intro e he
          rcases List.mem_cons.1 he with h | h
          · rw [h]; exact hv
          · exact hn e h
    · split
      · next h1 h2 =>
        split
        · exact ⟨hr.sublist (List.dropWhile_sublist _), fun e he => hn' e ((List.dropWhile_sublist _).subset he)⟩
        · next hv =>
          subst h2
          refine ⟨List.pairwise_cons.2 ⟨hj, hr⟩, ?_⟩
          intro e he
          rcases List.mem_cons.1 he with h | h
          · rw [h]; exact hv
          · exact hn' e h
      · next h1 h2 =>
        obtain ⟨i1, i2⟩ := ih hr hn'
        refine ⟨List.pairwise_cons.2 ⟨?_, i1⟩, ?_⟩
        · intro e he
          rcases Sparse.mem_put d k v r e he with h | h
          · rw [h]; show j < k; omega
          · exact hj e h
        · intro e he
          rcases List.mem_cons.1 he with h | h
          · rw [h]; exact hn _ (List.mem_cons_self ..)
          · exact i2 e h

end

/-- A table whose entries are changed, and those that become the unlisted value dropped, keeps the canonical form. -/
theorem Sparse.wf_map_filter {α : Type} [DecidableEq α] (g : α → α) (d : α) (m : List (Nat × α))
    (h : Sparse.wf (fun _ => d) m = true) :
    Sparse.wf (fun _ => d) ((m.map fun (e : Nat × α) => (e.1, g e.2)).filter fun (e : Nat × α) => e.2 != d) = true := by
  rw [Sparse.wf_iff] at h ⊢
  refine ⟨List.Pairwise.filter _ (List.pairwise_map.2 (by simpa using h.1)), fun e he => ?_⟩
  simpa using (List.mem_filter.1 he).2

/-- A table whose entries are changed, none to the unlisted value, keeps the canonical form. -/
theorem Sparse.wf_map {α : Type} [DecidableEq α] (g : α → α) (d : α) (m : List (Nat × α)) (hg : ∀ x, x ≠ d → g x ≠ d)
    (h : Sparse.wf (fun _ => d) m = true) :
    Sparse.wf (fun _ => d) (m.map fun (e : Nat × α) => (e.1, g e.2)) = true := by
  rw [Sparse.wf_iff] at h ⊢
  refine ⟨List.pairwise_map.2 (by simpa using h.1), fun e he => ?_⟩
  obtain ⟨x, hx, rfl⟩ := List.mem_map.1 he
  exact hg _ (h.2 x hx)

/-- What a table's entry reads as after one entry changed. -/
theorem tget_tupd {α : Type} [DecidableEq α] (d : α) (k x : Nat) (f : α → α) (m : List (Nat × α)) :
    tget d (tupd d k f m) x = if x = k then f (tget d m k) else tget d m x := by
  simp only [tget, tupd, Sparse.upd, Sparse.get_put]

@[simp] theorem tget_tupd_same {α : Type} [DecidableEq α] (d : α) (k : Nat) (f : α → α) (m : List (Nat × α)) :
    tget d (tupd d k f m) k = f (tget d m k) := by simp [tget_tupd]

theorem tget_tupd_other {α : Type} [DecidableEq α] (d : α) (k x : Nat) (f : α → α) (m : List (Nat × α)) (h : x ≠ k) :
    tget d (tupd d k f m) x = tget d m x := by simp [tget_tupd, h]

@[simp] theorem tget_nil {α : Type} (d : α) (k : Nat) : tget d [] k = d := rfl

/-- Writing bytes keeps the canonical form. -/
theorem Mem.wf_putBytes (d : Nat → Byte) (bs : List Nat) :
    ∀ (a : Nat) (m : List Host.Cell), Sparse.wf d m = true → Sparse.wf d (Mem.putBytes d a bs m) = true := by
  induction bs with
  | nil => intro a m h; exact h
  | cons b r ih => intro a m h; exact ih _ _ (Sparse.wf_put d _ _ _ h)

/-- Writing bytes leaves every byte outside them as it was. -/
theorem Mem.get_putBytes_other (d : Nat → Byte) (bs : List Nat) :
    ∀ (a : Nat) (m : List Host.Cell) (x : Nat), x < a ∨ a + bs.length ≤ x →
      Sparse.get d (Mem.putBytes d a bs m) x = Sparse.get d m x := by
  induction bs with
  | nil => intro a m x _; rfl
  | cons b r ih =>
    intro a m x h
    simp only [List.length_cons] at h
    rw [Mem.putBytes, ih _ _ _ (by omega), Sparse.get_put_other d _ _ _ _ (by omega)]

/-- The bytes written are the bytes read back, modulo 256. -/
theorem Mem.getBytes_putBytes (d : Nat → Byte) (bs : List Nat) :
    ∀ (a : Nat) (m : List Host.Cell), Mem.getBytes d (Mem.putBytes d a bs m) a bs.length = bs.map (· % 256) := by
  induction bs with
  | nil => intro a m; rfl
  | cons b r ih =>
    intro a m
    rw [List.length_cons, Mem.getBytes, Mem.putBytes, ih, Mem.get_putBytes_other d r (a + 1) _ a (by omega),
      Sparse.get_put_same]
    simp

end Sys2Proof.Machine
end

