-- ==== Sys2Proof/Laws/State.lean ====
section
/-!
SUPPORT. The small lemmas of the state: what each update leaves as it was, field by field, and what a register, a register
field or a table's record reads as after an update. `FireOps` brings every table of the state with its accessor.
-/
namespace Sys2Proof.Machine
set_option Elab.async false

/-! ### Register updates leave every other part of the state -/

@[simp] theorem State.setReg_snaps (s : State) (o : Nat) (x : Word) : (s.setReg o x).snaps = s.snaps := rfl
@[simp] theorem State.setReg_lows (s : State) (o : Nat) (x : Word) : (s.setReg o x).lows = s.lows := rfl
@[simp] theorem State.setReg_now (s : State) (o : Nat) (x : Word) : (s.setReg o x).now = s.now := rfl
@[simp] theorem State.setReg_ident (s : State) (o : Nat) (x : Word) : (s.setReg o x).ident = s.ident := rfl
@[simp] theorem State.setReg_nv (s : State) (o : Nat) (x : Word) : (s.setReg o x).nv = s.nv := rfl
@[simp] theorem State.setReg_sys (s : State) (o : Nat) (x : Word) : (s.setReg o x).sys = s.sys := rfl
@[simp] theorem State.setReg_cfg (s : State) (o : Nat) (x : Word) : (s.setReg o x).cfg = s.cfg := rfl
@[simp] theorem State.setReg_pos (s : State) (o : Nat) (x : Word) : (s.setReg o x).pos = s.pos := rfl
@[simp] theorem State.setReg_fire (s : State) (o : Nat) (x : Word) : (s.setReg o x).fire = s.fire := rfl
@[simp] theorem State.setReg_wins (s : State) (o : Nat) (x : Word) : (s.setReg o x).wins = s.wins := rfl
@[simp] theorem State.setReg_noz (s : State) (o : Nat) (x : Word) : (s.setReg o x).noz = s.noz := rfl
@[simp] theorem State.setReg_tileH (s : State) (o : Nat) (x : Word) : (s.setReg o x).tileH = s.tileH := rfl
@[simp] theorem State.setReg_lanes (s : State) (o : Nat) (x : Word) : (s.setReg o x).lanes = s.lanes := rfl
@[simp] theorem State.setReg_health (s : State) (o : Nat) (x : Word) : (s.setReg o x).health = s.health := rfl
@[simp] theorem State.setReg_comp (s : State) (o : Nat) (x : Word) : (s.setReg o x).comp = s.comp := rfl
@[simp] theorem State.setReg_host (s : State) (o : Nat) (x : Word) : (s.setReg o x).host = s.host := rfl
@[simp] theorem State.setReg_dma (s : State) (o : Nat) (x : Word) : (s.setReg o x).dma = s.dma := rfl
@[simp] theorem State.setReg_ring (s : State) (o : Nat) (x : Word) : (s.setReg o x).ring = s.ring := rfl
@[simp] theorem State.setReg_ports (s : State) (o : Nat) (x : Word) : (s.setReg o x).ports = s.ports := rfl
@[simp] theorem State.setReg_pwr (s : State) (o : Nat) (x : Word) : (s.setReg o x).pwr = s.pwr := rfl
@[simp] theorem State.setReg_mot (s : State) (o : Nat) (x : Word) : (s.setReg o x).mot = s.mot := rfl
@[simp] theorem State.setReg_thm (s : State) (o : Nat) (x : Word) : (s.setReg o x).thm = s.thm := rfl
@[simp] theorem State.setReg_flt (s : State) (o : Nat) (x : Word) : (s.setReg o x).flt = s.flt := rfl
@[simp] theorem State.setReg_cal (s : State) (o : Nat) (x : Word) : (s.setReg o x).cal = s.cal := rfl
@[simp] theorem State.setReg_mem (s : State) (o : Nat) (x : Word) : (s.setReg o x).mem = s.mem := rfl
@[simp] theorem State.setReg_pmc (s : State) (o : Nat) (x : Word) : (s.setReg o x).pmc = s.pmc := rfl
@[simp] theorem State.setReg_clk (s : State) (o : Nat) (x : Word) : (s.setReg o x).clk = s.clk := rfl
@[simp] theorem State.setReg_svc (s : State) (o : Nat) (x : Word) : (s.setReg o x).svc = s.svc := rfl
@[simp] theorem State.setReg_out (s : State) (o : Nat) (x : Word) : (s.setReg o x).out = s.out := rfl
@[simp] theorem State.setReg_draws (s : State) (o : Nat) (x : Word) : (s.setReg o x).draws = s.draws := rfl
@[simp] theorem State.setReg_pending (s : State) (o : Nat) (x : Word) : (s.setReg o x).pending = s.pending := rfl
@[simp] theorem State.setReg_win (s : State) (o : Nat) (x : Word) (w : Nat) : (s.setReg o x).win w = s.win w := rfl
@[simp] theorem State.setReg_fireT (s : State) (o : Nat) (x : Word) (n : Nat) : (s.setReg o x).fireT n = s.fireT n := rfl
@[simp] theorem State.setReg_lane (s : State) (o : Nat) (x : Word) (e : Nat) : (s.setReg o x).lane e = s.lane e := rfl
@[simp] theorem State.setReg_th (s : State) (o : Nat) (x : Word) (n : Nat) : (s.setReg o x).th n = s.th n := rfl
@[simp] theorem State.setReg_port (s : State) (o : Nat) (x : Word) (n : Nat) : (s.setReg o x).port n = s.port n := rfl
@[simp] theorem State.setReg_stream (s : State) (o : Nat) (x : Word) (k : Nat) : (s.setReg o x).stream k = s.stream k := rfl
@[simp] theorem State.setReg_pin (s : State) (o : Nat) (x : Word) (n : Nat) : (s.setReg o x).pin n = s.pin n := rfl
@[simp] theorem State.setReg_axis (s : State) (o : Nat) (x : Word) (a : Nat) : (s.setReg o x).axis a = s.axis a := rfl
@[simp] theorem State.setReg_rail (s : State) (o : Nat) (x : Word) (q : Nat) : (s.setReg o x).rail q = s.rail q := rfl
@[simp] theorem State.setReg_sensor (s : State) (o : Nat) (x : Word) (n : Nat) : (s.setReg o x).sensor n = s.sensor n := rfl
@[simp] theorem State.setReg_tileRec? (s : State) (o : Nat) (x : Word) (n : Nat) : (s.setReg o x).tileRec? n = s.tileRec? n := rfl
@[simp] theorem State.setReg_posRec (s : State) (o : Nat) (x : Word) (n : Nat) : (s.setReg o x).posRec n = s.posRec n := rfl
@[simp] theorem State.setReg_powered (s : State) (o : Nat) (x : Word) : (s.setReg o x).powered = s.powered := rfl
@[simp] theorem State.setF_snaps (s : State) (fd : Field) (v : Nat) : (s.setF fd v).snaps = s.snaps := rfl
@[simp] theorem State.setF_lows (s : State) (fd : Field) (v : Nat) : (s.setF fd v).lows = s.lows := rfl
@[simp] theorem State.setF_now (s : State) (fd : Field) (v : Nat) : (s.setF fd v).now = s.now := rfl
@[simp] theorem State.setF_ident (s : State) (fd : Field) (v : Nat) : (s.setF fd v).ident = s.ident := rfl
@[simp] theorem State.setF_nv (s : State) (fd : Field) (v : Nat) : (s.setF fd v).nv = s.nv := rfl
@[simp] theorem State.setF_sys (s : State) (fd : Field) (v : Nat) : (s.setF fd v).sys = s.sys := rfl
@[simp] theorem State.setF_cfg (s : State) (fd : Field) (v : Nat) : (s.setF fd v).cfg = s.cfg := rfl
@[simp] theorem State.setF_pos (s : State) (fd : Field) (v : Nat) : (s.setF fd v).pos = s.pos := rfl
@[simp] theorem State.setF_fire (s : State) (fd : Field) (v : Nat) : (s.setF fd v).fire = s.fire := rfl
@[simp] theorem State.setF_wins (s : State) (fd : Field) (v : Nat) : (s.setF fd v).wins = s.wins := rfl
@[simp] theorem State.setF_noz (s : State) (fd : Field) (v : Nat) : (s.setF fd v).noz = s.noz := rfl
@[simp] theorem State.setF_tileH (s : State) (fd : Field) (v : Nat) : (s.setF fd v).tileH = s.tileH := rfl
@[simp] theorem State.setF_lanes (s : State) (fd : Field) (v : Nat) : (s.setF fd v).lanes = s.lanes := rfl
@[simp] theorem State.setF_health (s : State) (fd : Field) (v : Nat) : (s.setF fd v).health = s.health := rfl
@[simp] theorem State.setF_comp (s : State) (fd : Field) (v : Nat) : (s.setF fd v).comp = s.comp := rfl
@[simp] theorem State.setF_host (s : State) (fd : Field) (v : Nat) : (s.setF fd v).host = s.host := rfl
@[simp] theorem State.setF_dma (s : State) (fd : Field) (v : Nat) : (s.setF fd v).dma = s.dma := rfl
@[simp] theorem State.setF_ring (s : State) (fd : Field) (v : Nat) : (s.setF fd v).ring = s.ring := rfl
@[simp] theorem State.setF_ports (s : State) (fd : Field) (v : Nat) : (s.setF fd v).ports = s.ports := rfl
@[simp] theorem State.setF_pwr (s : State) (fd : Field) (v : Nat) : (s.setF fd v).pwr = s.pwr := rfl
@[simp] theorem State.setF_mot (s : State) (fd : Field) (v : Nat) : (s.setF fd v).mot = s.mot := rfl
@[simp] theorem State.setF_thm (s : State) (fd : Field) (v : Nat) : (s.setF fd v).thm = s.thm := rfl
@[simp] theorem State.setF_flt (s : State) (fd : Field) (v : Nat) : (s.setF fd v).flt = s.flt := rfl
@[simp] theorem State.setF_cal (s : State) (fd : Field) (v : Nat) : (s.setF fd v).cal = s.cal := rfl
@[simp] theorem State.setF_mem (s : State) (fd : Field) (v : Nat) : (s.setF fd v).mem = s.mem := rfl
@[simp] theorem State.setF_pmc (s : State) (fd : Field) (v : Nat) : (s.setF fd v).pmc = s.pmc := rfl
@[simp] theorem State.setF_clk (s : State) (fd : Field) (v : Nat) : (s.setF fd v).clk = s.clk := rfl
@[simp] theorem State.setF_svc (s : State) (fd : Field) (v : Nat) : (s.setF fd v).svc = s.svc := rfl
@[simp] theorem State.setF_out (s : State) (fd : Field) (v : Nat) : (s.setF fd v).out = s.out := rfl
@[simp] theorem State.setF_draws (s : State) (fd : Field) (v : Nat) : (s.setF fd v).draws = s.draws := rfl
@[simp] theorem State.setF_pending (s : State) (fd : Field) (v : Nat) : (s.setF fd v).pending = s.pending := rfl
@[simp] theorem State.setF_win (s : State) (fd : Field) (v : Nat) (w : Nat) : (s.setF fd v).win w = s.win w := rfl
@[simp] theorem State.setF_fireT (s : State) (fd : Field) (v : Nat) (n : Nat) : (s.setF fd v).fireT n = s.fireT n := rfl
@[simp] theorem State.setF_lane (s : State) (fd : Field) (v : Nat) (e : Nat) : (s.setF fd v).lane e = s.lane e := rfl
@[simp] theorem State.setF_th (s : State) (fd : Field) (v : Nat) (n : Nat) : (s.setF fd v).th n = s.th n := rfl
@[simp] theorem State.setF_port (s : State) (fd : Field) (v : Nat) (n : Nat) : (s.setF fd v).port n = s.port n := rfl
@[simp] theorem State.setF_stream (s : State) (fd : Field) (v : Nat) (k : Nat) : (s.setF fd v).stream k = s.stream k := rfl
@[simp] theorem State.setF_pin (s : State) (fd : Field) (v : Nat) (n : Nat) : (s.setF fd v).pin n = s.pin n := rfl
@[simp] theorem State.setF_axis (s : State) (fd : Field) (v : Nat) (a : Nat) : (s.setF fd v).axis a = s.axis a := rfl
@[simp] theorem State.setF_rail (s : State) (fd : Field) (v : Nat) (q : Nat) : (s.setF fd v).rail q = s.rail q := rfl
@[simp] theorem State.setF_sensor (s : State) (fd : Field) (v : Nat) (n : Nat) : (s.setF fd v).sensor n = s.sensor n := rfl
@[simp] theorem State.setF_tileRec? (s : State) (fd : Field) (v : Nat) (n : Nat) : (s.setF fd v).tileRec? n = s.tileRec? n := rfl
@[simp] theorem State.setF_posRec (s : State) (fd : Field) (v : Nat) (n : Nat) : (s.setF fd v).posRec n = s.posRec n := rfl
@[simp] theorem State.setF_powered (s : State) (fd : Field) (v : Nat) : (s.setF fd v).powered = s.powered := rfl
@[simp] theorem State.setFs_snaps (s : State) (fd : Field) (v : Int) : (s.setFs fd v).snaps = s.snaps := rfl
@[simp] theorem State.setFs_lows (s : State) (fd : Field) (v : Int) : (s.setFs fd v).lows = s.lows := rfl
@[simp] theorem State.setFs_now (s : State) (fd : Field) (v : Int) : (s.setFs fd v).now = s.now := rfl
@[simp] theorem State.setFs_ident (s : State) (fd : Field) (v : Int) : (s.setFs fd v).ident = s.ident := rfl
@[simp] theorem State.setFs_nv (s : State) (fd : Field) (v : Int) : (s.setFs fd v).nv = s.nv := rfl
@[simp] theorem State.setFs_sys (s : State) (fd : Field) (v : Int) : (s.setFs fd v).sys = s.sys := rfl
@[simp] theorem State.setFs_cfg (s : State) (fd : Field) (v : Int) : (s.setFs fd v).cfg = s.cfg := rfl
@[simp] theorem State.setFs_pos (s : State) (fd : Field) (v : Int) : (s.setFs fd v).pos = s.pos := rfl
@[simp] theorem State.setFs_fire (s : State) (fd : Field) (v : Int) : (s.setFs fd v).fire = s.fire := rfl
@[simp] theorem State.setFs_wins (s : State) (fd : Field) (v : Int) : (s.setFs fd v).wins = s.wins := rfl
@[simp] theorem State.setFs_noz (s : State) (fd : Field) (v : Int) : (s.setFs fd v).noz = s.noz := rfl
@[simp] theorem State.setFs_tileH (s : State) (fd : Field) (v : Int) : (s.setFs fd v).tileH = s.tileH := rfl
@[simp] theorem State.setFs_lanes (s : State) (fd : Field) (v : Int) : (s.setFs fd v).lanes = s.lanes := rfl
@[simp] theorem State.setFs_health (s : State) (fd : Field) (v : Int) : (s.setFs fd v).health = s.health := rfl
@[simp] theorem State.setFs_comp (s : State) (fd : Field) (v : Int) : (s.setFs fd v).comp = s.comp := rfl
@[simp] theorem State.setFs_host (s : State) (fd : Field) (v : Int) : (s.setFs fd v).host = s.host := rfl
@[simp] theorem State.setFs_dma (s : State) (fd : Field) (v : Int) : (s.setFs fd v).dma = s.dma := rfl
@[simp] theorem State.setFs_ring (s : State) (fd : Field) (v : Int) : (s.setFs fd v).ring = s.ring := rfl
@[simp] theorem State.setFs_ports (s : State) (fd : Field) (v : Int) : (s.setFs fd v).ports = s.ports := rfl
@[simp] theorem State.setFs_pwr (s : State) (fd : Field) (v : Int) : (s.setFs fd v).pwr = s.pwr := rfl
@[simp] theorem State.setFs_mot (s : State) (fd : Field) (v : Int) : (s.setFs fd v).mot = s.mot := rfl
@[simp] theorem State.setFs_thm (s : State) (fd : Field) (v : Int) : (s.setFs fd v).thm = s.thm := rfl
@[simp] theorem State.setFs_flt (s : State) (fd : Field) (v : Int) : (s.setFs fd v).flt = s.flt := rfl
@[simp] theorem State.setFs_cal (s : State) (fd : Field) (v : Int) : (s.setFs fd v).cal = s.cal := rfl
@[simp] theorem State.setFs_mem (s : State) (fd : Field) (v : Int) : (s.setFs fd v).mem = s.mem := rfl
@[simp] theorem State.setFs_pmc (s : State) (fd : Field) (v : Int) : (s.setFs fd v).pmc = s.pmc := rfl
@[simp] theorem State.setFs_clk (s : State) (fd : Field) (v : Int) : (s.setFs fd v).clk = s.clk := rfl
@[simp] theorem State.setFs_svc (s : State) (fd : Field) (v : Int) : (s.setFs fd v).svc = s.svc := rfl
@[simp] theorem State.setFs_out (s : State) (fd : Field) (v : Int) : (s.setFs fd v).out = s.out := rfl
@[simp] theorem State.setFs_draws (s : State) (fd : Field) (v : Int) : (s.setFs fd v).draws = s.draws := rfl
@[simp] theorem State.setFs_pending (s : State) (fd : Field) (v : Int) : (s.setFs fd v).pending = s.pending := rfl
@[simp] theorem State.setFs_win (s : State) (fd : Field) (v : Int) (w : Nat) : (s.setFs fd v).win w = s.win w := rfl
@[simp] theorem State.setFs_fireT (s : State) (fd : Field) (v : Int) (n : Nat) : (s.setFs fd v).fireT n = s.fireT n := rfl
@[simp] theorem State.setFs_lane (s : State) (fd : Field) (v : Int) (e : Nat) : (s.setFs fd v).lane e = s.lane e := rfl
@[simp] theorem State.setFs_th (s : State) (fd : Field) (v : Int) (n : Nat) : (s.setFs fd v).th n = s.th n := rfl
@[simp] theorem State.setFs_port (s : State) (fd : Field) (v : Int) (n : Nat) : (s.setFs fd v).port n = s.port n := rfl
@[simp] theorem State.setFs_stream (s : State) (fd : Field) (v : Int) (k : Nat) : (s.setFs fd v).stream k = s.stream k := rfl
@[simp] theorem State.setFs_pin (s : State) (fd : Field) (v : Int) (n : Nat) : (s.setFs fd v).pin n = s.pin n := rfl
@[simp] theorem State.setFs_axis (s : State) (fd : Field) (v : Int) (a : Nat) : (s.setFs fd v).axis a = s.axis a := rfl
@[simp] theorem State.setFs_rail (s : State) (fd : Field) (v : Int) (q : Nat) : (s.setFs fd v).rail q = s.rail q := rfl
@[simp] theorem State.setFs_sensor (s : State) (fd : Field) (v : Int) (n : Nat) : (s.setFs fd v).sensor n = s.sensor n := rfl
@[simp] theorem State.setFs_tileRec? (s : State) (fd : Field) (v : Int) (n : Nat) : (s.setFs fd v).tileRec? n = s.tileRec? n := rfl
@[simp] theorem State.setFs_posRec (s : State) (fd : Field) (v : Int) (n : Nat) : (s.setFs fd v).posRec n = s.posRec n := rfl
@[simp] theorem State.setFs_powered (s : State) (fd : Field) (v : Int) : (s.setFs fd v).powered = s.powered := rfl
@[simp] theorem State.setFb_snaps (s : State) (fd : Field) (b : Bool) : (s.setFb fd b).snaps = s.snaps := rfl
@[simp] theorem State.setFb_lows (s : State) (fd : Field) (b : Bool) : (s.setFb fd b).lows = s.lows := rfl
@[simp] theorem State.setFb_now (s : State) (fd : Field) (b : Bool) : (s.setFb fd b).now = s.now := rfl
@[simp] theorem State.setFb_ident (s : State) (fd : Field) (b : Bool) : (s.setFb fd b).ident = s.ident := rfl
@[simp] theorem State.setFb_nv (s : State) (fd : Field) (b : Bool) : (s.setFb fd b).nv = s.nv := rfl
@[simp] theorem State.setFb_sys (s : State) (fd : Field) (b : Bool) : (s.setFb fd b).sys = s.sys := rfl
@[simp] theorem State.setFb_cfg (s : State) (fd : Field) (b : Bool) : (s.setFb fd b).cfg = s.cfg := rfl
@[simp] theorem State.setFb_pos (s : State) (fd : Field) (b : Bool) : (s.setFb fd b).pos = s.pos := rfl
@[simp] theorem State.setFb_fire (s : State) (fd : Field) (b : Bool) : (s.setFb fd b).fire = s.fire := rfl
@[simp] theorem State.setFb_wins (s : State) (fd : Field) (b : Bool) : (s.setFb fd b).wins = s.wins := rfl
@[simp] theorem State.setFb_noz (s : State) (fd : Field) (b : Bool) : (s.setFb fd b).noz = s.noz := rfl
@[simp] theorem State.setFb_tileH (s : State) (fd : Field) (b : Bool) : (s.setFb fd b).tileH = s.tileH := rfl
@[simp] theorem State.setFb_lanes (s : State) (fd : Field) (b : Bool) : (s.setFb fd b).lanes = s.lanes := rfl
@[simp] theorem State.setFb_health (s : State) (fd : Field) (b : Bool) : (s.setFb fd b).health = s.health := rfl
@[simp] theorem State.setFb_comp (s : State) (fd : Field) (b : Bool) : (s.setFb fd b).comp = s.comp := rfl
@[simp] theorem State.setFb_host (s : State) (fd : Field) (b : Bool) : (s.setFb fd b).host = s.host := rfl
@[simp] theorem State.setFb_dma (s : State) (fd : Field) (b : Bool) : (s.setFb fd b).dma = s.dma := rfl
@[simp] theorem State.setFb_ring (s : State) (fd : Field) (b : Bool) : (s.setFb fd b).ring = s.ring := rfl
@[simp] theorem State.setFb_ports (s : State) (fd : Field) (b : Bool) : (s.setFb fd b).ports = s.ports := rfl
@[simp] theorem State.setFb_pwr (s : State) (fd : Field) (b : Bool) : (s.setFb fd b).pwr = s.pwr := rfl
@[simp] theorem State.setFb_mot (s : State) (fd : Field) (b : Bool) : (s.setFb fd b).mot = s.mot := rfl
@[simp] theorem State.setFb_thm (s : State) (fd : Field) (b : Bool) : (s.setFb fd b).thm = s.thm := rfl
@[simp] theorem State.setFb_flt (s : State) (fd : Field) (b : Bool) : (s.setFb fd b).flt = s.flt := rfl
@[simp] theorem State.setFb_cal (s : State) (fd : Field) (b : Bool) : (s.setFb fd b).cal = s.cal := rfl
@[simp] theorem State.setFb_mem (s : State) (fd : Field) (b : Bool) : (s.setFb fd b).mem = s.mem := rfl
@[simp] theorem State.setFb_pmc (s : State) (fd : Field) (b : Bool) : (s.setFb fd b).pmc = s.pmc := rfl
@[simp] theorem State.setFb_clk (s : State) (fd : Field) (b : Bool) : (s.setFb fd b).clk = s.clk := rfl
@[simp] theorem State.setFb_svc (s : State) (fd : Field) (b : Bool) : (s.setFb fd b).svc = s.svc := rfl
@[simp] theorem State.setFb_out (s : State) (fd : Field) (b : Bool) : (s.setFb fd b).out = s.out := rfl
@[simp] theorem State.setFb_draws (s : State) (fd : Field) (b : Bool) : (s.setFb fd b).draws = s.draws := rfl
@[simp] theorem State.setFb_pending (s : State) (fd : Field) (b : Bool) : (s.setFb fd b).pending = s.pending := rfl
@[simp] theorem State.setFb_win (s : State) (fd : Field) (b : Bool) (w : Nat) : (s.setFb fd b).win w = s.win w := rfl
@[simp] theorem State.setFb_fireT (s : State) (fd : Field) (b : Bool) (n : Nat) : (s.setFb fd b).fireT n = s.fireT n := rfl
@[simp] theorem State.setFb_lane (s : State) (fd : Field) (b : Bool) (e : Nat) : (s.setFb fd b).lane e = s.lane e := rfl
@[simp] theorem State.setFb_th (s : State) (fd : Field) (b : Bool) (n : Nat) : (s.setFb fd b).th n = s.th n := rfl
@[simp] theorem State.setFb_port (s : State) (fd : Field) (b : Bool) (n : Nat) : (s.setFb fd b).port n = s.port n := rfl
@[simp] theorem State.setFb_stream (s : State) (fd : Field) (b : Bool) (k : Nat) : (s.setFb fd b).stream k = s.stream k := rfl
@[simp] theorem State.setFb_pin (s : State) (fd : Field) (b : Bool) (n : Nat) : (s.setFb fd b).pin n = s.pin n := rfl
@[simp] theorem State.setFb_axis (s : State) (fd : Field) (b : Bool) (a : Nat) : (s.setFb fd b).axis a = s.axis a := rfl
@[simp] theorem State.setFb_rail (s : State) (fd : Field) (b : Bool) (q : Nat) : (s.setFb fd b).rail q = s.rail q := rfl
@[simp] theorem State.setFb_sensor (s : State) (fd : Field) (b : Bool) (n : Nat) : (s.setFb fd b).sensor n = s.sensor n := rfl
@[simp] theorem State.setFb_tileRec? (s : State) (fd : Field) (b : Bool) (n : Nat) : (s.setFb fd b).tileRec? n = s.tileRec? n := rfl
@[simp] theorem State.setFb_posRec (s : State) (fd : Field) (b : Bool) (n : Nat) : (s.setFb fd b).posRec n = s.posRec n := rfl
@[simp] theorem State.setFb_powered (s : State) (fd : Field) (b : Bool) : (s.setFb fd b).powered = s.powered := rfl
@[simp] theorem State.addF_snaps (s : State) (fd : Field) (k : Nat) : (s.addF fd k).snaps = s.snaps := rfl
@[simp] theorem State.addF_lows (s : State) (fd : Field) (k : Nat) : (s.addF fd k).lows = s.lows := rfl
@[simp] theorem State.addF_now (s : State) (fd : Field) (k : Nat) : (s.addF fd k).now = s.now := rfl
@[simp] theorem State.addF_ident (s : State) (fd : Field) (k : Nat) : (s.addF fd k).ident = s.ident := rfl
@[simp] theorem State.addF_nv (s : State) (fd : Field) (k : Nat) : (s.addF fd k).nv = s.nv := rfl
@[simp] theorem State.addF_sys (s : State) (fd : Field) (k : Nat) : (s.addF fd k).sys = s.sys := rfl
@[simp] theorem State.addF_cfg (s : State) (fd : Field) (k : Nat) : (s.addF fd k).cfg = s.cfg := rfl
@[simp] theorem State.addF_pos (s : State) (fd : Field) (k : Nat) : (s.addF fd k).pos = s.pos := rfl
@[simp] theorem State.addF_fire (s : State) (fd : Field) (k : Nat) : (s.addF fd k).fire = s.fire := rfl
@[simp] theorem State.addF_wins (s : State) (fd : Field) (k : Nat) : (s.addF fd k).wins = s.wins := rfl
@[simp] theorem State.addF_noz (s : State) (fd : Field) (k : Nat) : (s.addF fd k).noz = s.noz := rfl
@[simp] theorem State.addF_tileH (s : State) (fd : Field) (k : Nat) : (s.addF fd k).tileH = s.tileH := rfl
@[simp] theorem State.addF_lanes (s : State) (fd : Field) (k : Nat) : (s.addF fd k).lanes = s.lanes := rfl
@[simp] theorem State.addF_health (s : State) (fd : Field) (k : Nat) : (s.addF fd k).health = s.health := rfl
@[simp] theorem State.addF_comp (s : State) (fd : Field) (k : Nat) : (s.addF fd k).comp = s.comp := rfl
@[simp] theorem State.addF_host (s : State) (fd : Field) (k : Nat) : (s.addF fd k).host = s.host := rfl
@[simp] theorem State.addF_dma (s : State) (fd : Field) (k : Nat) : (s.addF fd k).dma = s.dma := rfl
@[simp] theorem State.addF_ring (s : State) (fd : Field) (k : Nat) : (s.addF fd k).ring = s.ring := rfl
@[simp] theorem State.addF_ports (s : State) (fd : Field) (k : Nat) : (s.addF fd k).ports = s.ports := rfl
@[simp] theorem State.addF_pwr (s : State) (fd : Field) (k : Nat) : (s.addF fd k).pwr = s.pwr := rfl
@[simp] theorem State.addF_mot (s : State) (fd : Field) (k : Nat) : (s.addF fd k).mot = s.mot := rfl
@[simp] theorem State.addF_thm (s : State) (fd : Field) (k : Nat) : (s.addF fd k).thm = s.thm := rfl
@[simp] theorem State.addF_flt (s : State) (fd : Field) (k : Nat) : (s.addF fd k).flt = s.flt := rfl
@[simp] theorem State.addF_cal (s : State) (fd : Field) (k : Nat) : (s.addF fd k).cal = s.cal := rfl
@[simp] theorem State.addF_mem (s : State) (fd : Field) (k : Nat) : (s.addF fd k).mem = s.mem := rfl
@[simp] theorem State.addF_pmc (s : State) (fd : Field) (k : Nat) : (s.addF fd k).pmc = s.pmc := rfl
@[simp] theorem State.addF_clk (s : State) (fd : Field) (k : Nat) : (s.addF fd k).clk = s.clk := rfl
@[simp] theorem State.addF_svc (s : State) (fd : Field) (k : Nat) : (s.addF fd k).svc = s.svc := rfl
@[simp] theorem State.addF_out (s : State) (fd : Field) (k : Nat) : (s.addF fd k).out = s.out := rfl
@[simp] theorem State.addF_draws (s : State) (fd : Field) (k : Nat) : (s.addF fd k).draws = s.draws := rfl
@[simp] theorem State.addF_pending (s : State) (fd : Field) (k : Nat) : (s.addF fd k).pending = s.pending := rfl
@[simp] theorem State.addF_win (s : State) (fd : Field) (k : Nat) (w : Nat) : (s.addF fd k).win w = s.win w := rfl
@[simp] theorem State.addF_fireT (s : State) (fd : Field) (k : Nat) (n : Nat) : (s.addF fd k).fireT n = s.fireT n := rfl
@[simp] theorem State.addF_lane (s : State) (fd : Field) (k : Nat) (e : Nat) : (s.addF fd k).lane e = s.lane e := rfl
@[simp] theorem State.addF_th (s : State) (fd : Field) (k : Nat) (n : Nat) : (s.addF fd k).th n = s.th n := rfl
@[simp] theorem State.addF_port (s : State) (fd : Field) (k : Nat) (n : Nat) : (s.addF fd k).port n = s.port n := rfl
@[simp] theorem State.addF_stream (s : State) (fd : Field) (k : Nat) (j : Nat) : (s.addF fd k).stream j = s.stream j := rfl
@[simp] theorem State.addF_pin (s : State) (fd : Field) (k : Nat) (n : Nat) : (s.addF fd k).pin n = s.pin n := rfl
@[simp] theorem State.addF_axis (s : State) (fd : Field) (k : Nat) (a : Nat) : (s.addF fd k).axis a = s.axis a := rfl
@[simp] theorem State.addF_rail (s : State) (fd : Field) (k : Nat) (q : Nat) : (s.addF fd k).rail q = s.rail q := rfl
@[simp] theorem State.addF_sensor (s : State) (fd : Field) (k : Nat) (n : Nat) : (s.addF fd k).sensor n = s.sensor n := rfl
@[simp] theorem State.addF_tileRec? (s : State) (fd : Field) (k : Nat) (n : Nat) : (s.addF fd k).tileRec? n = s.tileRec? n := rfl
@[simp] theorem State.addF_posRec (s : State) (fd : Field) (k : Nat) (n : Nat) : (s.addF fd k).posRec n = s.posRec n := rfl
@[simp] theorem State.addF_powered (s : State) (fd : Field) (k : Nat) : (s.addF fd k).powered = s.powered := rfl
@[simp] theorem State.incF_snaps (s : State) (fd : Field) (k : Nat) : (s.incF fd k).snaps = s.snaps := rfl
@[simp] theorem State.incF_lows (s : State) (fd : Field) (k : Nat) : (s.incF fd k).lows = s.lows := rfl
@[simp] theorem State.incF_now (s : State) (fd : Field) (k : Nat) : (s.incF fd k).now = s.now := rfl
@[simp] theorem State.incF_ident (s : State) (fd : Field) (k : Nat) : (s.incF fd k).ident = s.ident := rfl
@[simp] theorem State.incF_nv (s : State) (fd : Field) (k : Nat) : (s.incF fd k).nv = s.nv := rfl
@[simp] theorem State.incF_sys (s : State) (fd : Field) (k : Nat) : (s.incF fd k).sys = s.sys := rfl
@[simp] theorem State.incF_cfg (s : State) (fd : Field) (k : Nat) : (s.incF fd k).cfg = s.cfg := rfl
@[simp] theorem State.incF_pos (s : State) (fd : Field) (k : Nat) : (s.incF fd k).pos = s.pos := rfl
@[simp] theorem State.incF_fire (s : State) (fd : Field) (k : Nat) : (s.incF fd k).fire = s.fire := rfl
@[simp] theorem State.incF_wins (s : State) (fd : Field) (k : Nat) : (s.incF fd k).wins = s.wins := rfl
@[simp] theorem State.incF_noz (s : State) (fd : Field) (k : Nat) : (s.incF fd k).noz = s.noz := rfl
@[simp] theorem State.incF_tileH (s : State) (fd : Field) (k : Nat) : (s.incF fd k).tileH = s.tileH := rfl
@[simp] theorem State.incF_lanes (s : State) (fd : Field) (k : Nat) : (s.incF fd k).lanes = s.lanes := rfl
@[simp] theorem State.incF_health (s : State) (fd : Field) (k : Nat) : (s.incF fd k).health = s.health := rfl
@[simp] theorem State.incF_comp (s : State) (fd : Field) (k : Nat) : (s.incF fd k).comp = s.comp := rfl
@[simp] theorem State.incF_host (s : State) (fd : Field) (k : Nat) : (s.incF fd k).host = s.host := rfl
@[simp] theorem State.incF_dma (s : State) (fd : Field) (k : Nat) : (s.incF fd k).dma = s.dma := rfl
@[simp] theorem State.incF_ring (s : State) (fd : Field) (k : Nat) : (s.incF fd k).ring = s.ring := rfl
@[simp] theorem State.incF_ports (s : State) (fd : Field) (k : Nat) : (s.incF fd k).ports = s.ports := rfl
@[simp] theorem State.incF_pwr (s : State) (fd : Field) (k : Nat) : (s.incF fd k).pwr = s.pwr := rfl
@[simp] theorem State.incF_mot (s : State) (fd : Field) (k : Nat) : (s.incF fd k).mot = s.mot := rfl
@[simp] theorem State.incF_thm (s : State) (fd : Field) (k : Nat) : (s.incF fd k).thm = s.thm := rfl
@[simp] theorem State.incF_flt (s : State) (fd : Field) (k : Nat) : (s.incF fd k).flt = s.flt := rfl
@[simp] theorem State.incF_cal (s : State) (fd : Field) (k : Nat) : (s.incF fd k).cal = s.cal := rfl
@[simp] theorem State.incF_mem (s : State) (fd : Field) (k : Nat) : (s.incF fd k).mem = s.mem := rfl
@[simp] theorem State.incF_pmc (s : State) (fd : Field) (k : Nat) : (s.incF fd k).pmc = s.pmc := rfl
@[simp] theorem State.incF_clk (s : State) (fd : Field) (k : Nat) : (s.incF fd k).clk = s.clk := rfl
@[simp] theorem State.incF_svc (s : State) (fd : Field) (k : Nat) : (s.incF fd k).svc = s.svc := rfl
@[simp] theorem State.incF_out (s : State) (fd : Field) (k : Nat) : (s.incF fd k).out = s.out := rfl
@[simp] theorem State.incF_draws (s : State) (fd : Field) (k : Nat) : (s.incF fd k).draws = s.draws := rfl
@[simp] theorem State.incF_pending (s : State) (fd : Field) (k : Nat) : (s.incF fd k).pending = s.pending := rfl
@[simp] theorem State.incF_win (s : State) (fd : Field) (k : Nat) (w : Nat) : (s.incF fd k).win w = s.win w := rfl
@[simp] theorem State.incF_fireT (s : State) (fd : Field) (k : Nat) (n : Nat) : (s.incF fd k).fireT n = s.fireT n := rfl
@[simp] theorem State.incF_lane (s : State) (fd : Field) (k : Nat) (e : Nat) : (s.incF fd k).lane e = s.lane e := rfl
@[simp] theorem State.incF_th (s : State) (fd : Field) (k : Nat) (n : Nat) : (s.incF fd k).th n = s.th n := rfl
@[simp] theorem State.incF_port (s : State) (fd : Field) (k : Nat) (n : Nat) : (s.incF fd k).port n = s.port n := rfl
@[simp] theorem State.incF_stream (s : State) (fd : Field) (k : Nat) (j : Nat) : (s.incF fd k).stream j = s.stream j := rfl
@[simp] theorem State.incF_pin (s : State) (fd : Field) (k : Nat) (n : Nat) : (s.incF fd k).pin n = s.pin n := rfl
@[simp] theorem State.incF_axis (s : State) (fd : Field) (k : Nat) (a : Nat) : (s.incF fd k).axis a = s.axis a := rfl
@[simp] theorem State.incF_rail (s : State) (fd : Field) (k : Nat) (q : Nat) : (s.incF fd k).rail q = s.rail q := rfl
@[simp] theorem State.incF_sensor (s : State) (fd : Field) (k : Nat) (n : Nat) : (s.incF fd k).sensor n = s.sensor n := rfl
@[simp] theorem State.incF_tileRec? (s : State) (fd : Field) (k : Nat) (n : Nat) : (s.incF fd k).tileRec? n = s.tileRec? n := rfl
@[simp] theorem State.incF_posRec (s : State) (fd : Field) (k : Nat) (n : Nat) : (s.incF fd k).posRec n = s.posRec n := rfl
@[simp] theorem State.incF_powered (s : State) (fd : Field) (k : Nat) : (s.incF fd k).powered = s.powered := rfl

/-! ### Recording an output and drawing a free value -/

@[simp] theorem State.emit_regs (s : State) (x : Output) : (s.emit x).regs = s.regs := rfl
@[simp] theorem State.emit_snaps (s : State) (x : Output) : (s.emit x).snaps = s.snaps := rfl
@[simp] theorem State.emit_lows (s : State) (x : Output) : (s.emit x).lows = s.lows := rfl
@[simp] theorem State.emit_now (s : State) (x : Output) : (s.emit x).now = s.now := rfl
@[simp] theorem State.emit_ident (s : State) (x : Output) : (s.emit x).ident = s.ident := rfl
@[simp] theorem State.emit_nv (s : State) (x : Output) : (s.emit x).nv = s.nv := rfl
@[simp] theorem State.emit_sys (s : State) (x : Output) : (s.emit x).sys = s.sys := rfl
@[simp] theorem State.emit_cfg (s : State) (x : Output) : (s.emit x).cfg = s.cfg := rfl
@[simp] theorem State.emit_pos (s : State) (x : Output) : (s.emit x).pos = s.pos := rfl
@[simp] theorem State.emit_fire (s : State) (x : Output) : (s.emit x).fire = s.fire := rfl
@[simp] theorem State.emit_wins (s : State) (x : Output) : (s.emit x).wins = s.wins := rfl
@[simp] theorem State.emit_noz (s : State) (x : Output) : (s.emit x).noz = s.noz := rfl
@[simp] theorem State.emit_tileH (s : State) (x : Output) : (s.emit x).tileH = s.tileH := rfl
@[simp] theorem State.emit_lanes (s : State) (x : Output) : (s.emit x).lanes = s.lanes := rfl
@[simp] theorem State.emit_health (s : State) (x : Output) : (s.emit x).health = s.health := rfl
@[simp] theorem State.emit_comp (s : State) (x : Output) : (s.emit x).comp = s.comp := rfl
@[simp] theorem State.emit_host (s : State) (x : Output) : (s.emit x).host = s.host := rfl
@[simp] theorem State.emit_dma (s : State) (x : Output) : (s.emit x).dma = s.dma := rfl
@[simp] theorem State.emit_ring (s : State) (x : Output) : (s.emit x).ring = s.ring := rfl
@[simp] theorem State.emit_ports (s : State) (x : Output) : (s.emit x).ports = s.ports := rfl
@[simp] theorem State.emit_pwr (s : State) (x : Output) : (s.emit x).pwr = s.pwr := rfl
@[simp] theorem State.emit_mot (s : State) (x : Output) : (s.emit x).mot = s.mot := rfl
@[simp] theorem State.emit_thm (s : State) (x : Output) : (s.emit x).thm = s.thm := rfl
@[simp] theorem State.emit_flt (s : State) (x : Output) : (s.emit x).flt = s.flt := rfl
@[simp] theorem State.emit_cal (s : State) (x : Output) : (s.emit x).cal = s.cal := rfl
@[simp] theorem State.emit_mem (s : State) (x : Output) : (s.emit x).mem = s.mem := rfl
@[simp] theorem State.emit_pmc (s : State) (x : Output) : (s.emit x).pmc = s.pmc := rfl
@[simp] theorem State.emit_clk (s : State) (x : Output) : (s.emit x).clk = s.clk := rfl
@[simp] theorem State.emit_svc (s : State) (x : Output) : (s.emit x).svc = s.svc := rfl
@[simp] theorem State.emit_draws (s : State) (x : Output) : (s.emit x).draws = s.draws := rfl
@[simp] theorem State.emit_pending (s : State) (x : Output) : (s.emit x).pending = s.pending := rfl
@[simp] theorem State.emit_win (s : State) (x : Output) (w : Nat) : (s.emit x).win w = s.win w := rfl
@[simp] theorem State.emit_fireT (s : State) (x : Output) (n : Nat) : (s.emit x).fireT n = s.fireT n := rfl
@[simp] theorem State.emit_lane (s : State) (x : Output) (e : Nat) : (s.emit x).lane e = s.lane e := rfl
@[simp] theorem State.emit_th (s : State) (x : Output) (n : Nat) : (s.emit x).th n = s.th n := rfl
@[simp] theorem State.emit_port (s : State) (x : Output) (n : Nat) : (s.emit x).port n = s.port n := rfl
@[simp] theorem State.emit_stream (s : State) (x : Output) (k : Nat) : (s.emit x).stream k = s.stream k := rfl
@[simp] theorem State.emit_pin (s : State) (x : Output) (n : Nat) : (s.emit x).pin n = s.pin n := rfl
@[simp] theorem State.emit_axis (s : State) (x : Output) (a : Nat) : (s.emit x).axis a = s.axis a := rfl
@[simp] theorem State.emit_rail (s : State) (x : Output) (q : Nat) : (s.emit x).rail q = s.rail q := rfl
@[simp] theorem State.emit_sensor (s : State) (x : Output) (n : Nat) : (s.emit x).sensor n = s.sensor n := rfl
@[simp] theorem State.emit_tileRec? (s : State) (x : Output) (n : Nat) : (s.emit x).tileRec? n = s.tileRec? n := rfl
@[simp] theorem State.emit_posRec (s : State) (x : Output) (n : Nat) : (s.emit x).posRec n = s.posRec n := rfl
@[simp] theorem State.emit_reg (s : State) (x : Output) (off : Nat) : (s.emit x).reg off = s.reg off := rfl
@[simp] theorem State.emit_f (s : State) (x : Output) (fd : Field) : (s.emit x).f fd = s.f fd := rfl
@[simp] theorem State.emit_fs (s : State) (x : Output) (fd : Field) : (s.emit x).fs fd = s.fs fd := rfl
@[simp] theorem State.emit_fb (s : State) (x : Output) (fd : Field) : (s.emit x).fb fd = s.fb fd := rfl
@[simp] theorem State.emit_st (s : State) (x : Output) : (s.emit x).st = s.st := rfl
@[simp] theorem State.emit_powered (s : State) (x : Output) : (s.emit x).powered = s.powered := rfl
@[simp] theorem State.drawn_regs (s : State) : (s.drawn).regs = s.regs := rfl
@[simp] theorem State.drawn_snaps (s : State) : (s.drawn).snaps = s.snaps := rfl
@[simp] theorem State.drawn_lows (s : State) : (s.drawn).lows = s.lows := rfl
@[simp] theorem State.drawn_now (s : State) : (s.drawn).now = s.now := rfl
@[simp] theorem State.drawn_ident (s : State) : (s.drawn).ident = s.ident := rfl
@[simp] theorem State.drawn_nv (s : State) : (s.drawn).nv = s.nv := rfl
@[simp] theorem State.drawn_sys (s : State) : (s.drawn).sys = s.sys := rfl
@[simp] theorem State.drawn_cfg (s : State) : (s.drawn).cfg = s.cfg := rfl
@[simp] theorem State.drawn_pos (s : State) : (s.drawn).pos = s.pos := rfl
@[simp] theorem State.drawn_fire (s : State) : (s.drawn).fire = s.fire := rfl
@[simp] theorem State.drawn_wins (s : State) : (s.drawn).wins = s.wins := rfl
@[simp] theorem State.drawn_noz (s : State) : (s.drawn).noz = s.noz := rfl
@[simp] theorem State.drawn_tileH (s : State) : (s.drawn).tileH = s.tileH := rfl
@[simp] theorem State.drawn_lanes (s : State) : (s.drawn).lanes = s.lanes := rfl
@[simp] theorem State.drawn_health (s : State) : (s.drawn).health = s.health := rfl
@[simp] theorem State.drawn_comp (s : State) : (s.drawn).comp = s.comp := rfl
@[simp] theorem State.drawn_host (s : State) : (s.drawn).host = s.host := rfl
@[simp] theorem State.drawn_dma (s : State) : (s.drawn).dma = s.dma := rfl
@[simp] theorem State.drawn_ring (s : State) : (s.drawn).ring = s.ring := rfl
@[simp] theorem State.drawn_ports (s : State) : (s.drawn).ports = s.ports := rfl
@[simp] theorem State.drawn_pwr (s : State) : (s.drawn).pwr = s.pwr := rfl
@[simp] theorem State.drawn_mot (s : State) : (s.drawn).mot = s.mot := rfl
@[simp] theorem State.drawn_thm (s : State) : (s.drawn).thm = s.thm := rfl
@[simp] theorem State.drawn_flt (s : State) : (s.drawn).flt = s.flt := rfl
@[simp] theorem State.drawn_cal (s : State) : (s.drawn).cal = s.cal := rfl
@[simp] theorem State.drawn_mem (s : State) : (s.drawn).mem = s.mem := rfl
@[simp] theorem State.drawn_pmc (s : State) : (s.drawn).pmc = s.pmc := rfl
@[simp] theorem State.drawn_clk (s : State) : (s.drawn).clk = s.clk := rfl
@[simp] theorem State.drawn_svc (s : State) : (s.drawn).svc = s.svc := rfl
@[simp] theorem State.drawn_out (s : State) : (s.drawn).out = s.out := rfl
@[simp] theorem State.drawn_pending (s : State) : (s.drawn).pending = s.pending := rfl
@[simp] theorem State.drawn_win (s : State) (w : Nat) : (s.drawn).win w = s.win w := rfl
@[simp] theorem State.drawn_fireT (s : State) (n : Nat) : (s.drawn).fireT n = s.fireT n := rfl
@[simp] theorem State.drawn_lane (s : State) (e : Nat) : (s.drawn).lane e = s.lane e := rfl
@[simp] theorem State.drawn_th (s : State) (n : Nat) : (s.drawn).th n = s.th n := rfl
@[simp] theorem State.drawn_port (s : State) (n : Nat) : (s.drawn).port n = s.port n := rfl
@[simp] theorem State.drawn_stream (s : State) (k : Nat) : (s.drawn).stream k = s.stream k := rfl
@[simp] theorem State.drawn_pin (s : State) (n : Nat) : (s.drawn).pin n = s.pin n := rfl
@[simp] theorem State.drawn_axis (s : State) (a : Nat) : (s.drawn).axis a = s.axis a := rfl
@[simp] theorem State.drawn_rail (s : State) (q : Nat) : (s.drawn).rail q = s.rail q := rfl
@[simp] theorem State.drawn_sensor (s : State) (n : Nat) : (s.drawn).sensor n = s.sensor n := rfl
@[simp] theorem State.drawn_tileRec? (s : State) (n : Nat) : (s.drawn).tileRec? n = s.tileRec? n := rfl
@[simp] theorem State.drawn_posRec (s : State) (n : Nat) : (s.drawn).posRec n = s.posRec n := rfl
@[simp] theorem State.drawn_reg (s : State) (off : Nat) : (s.drawn).reg off = s.reg off := rfl
@[simp] theorem State.drawn_f (s : State) (fd : Field) : (s.drawn).f fd = s.f fd := rfl
@[simp] theorem State.drawn_fs (s : State) (fd : Field) : (s.drawn).fs fd = s.fs fd := rfl
@[simp] theorem State.drawn_fb (s : State) (fd : Field) : (s.drawn).fb fd = s.fb fd := rfl
@[simp] theorem State.drawn_st (s : State) : (s.drawn).st = s.st := rfl
@[simp] theorem State.drawn_powered (s : State) : (s.drawn).powered = s.powered := rfl
@[simp] theorem State.emit_out (s : State) (x : Output) : (s.emit x).out = x :: s.out := rfl
@[simp] theorem State.drawn_draws (s : State) : s.drawn.draws = s.draws + 1 := rfl

/-! ### Table updates: the record itself, the other records, the registers -/

@[simp] theorem State.modWin_regs (s : State) (k : Nat) (g : Win → Win) : (s.modWin k g).regs = s.regs := rfl
@[simp] theorem State.modWin_snaps (s : State) (k : Nat) (g : Win → Win) : (s.modWin k g).snaps = s.snaps := rfl
@[simp] theorem State.modWin_lows (s : State) (k : Nat) (g : Win → Win) : (s.modWin k g).lows = s.lows := rfl
@[simp] theorem State.modWin_now (s : State) (k : Nat) (g : Win → Win) : (s.modWin k g).now = s.now := rfl
@[simp] theorem State.modWin_ident (s : State) (k : Nat) (g : Win → Win) : (s.modWin k g).ident = s.ident := rfl
@[simp] theorem State.modWin_nv (s : State) (k : Nat) (g : Win → Win) : (s.modWin k g).nv = s.nv := rfl
@[simp] theorem State.modWin_sys (s : State) (k : Nat) (g : Win → Win) : (s.modWin k g).sys = s.sys := rfl
@[simp] theorem State.modWin_cfg (s : State) (k : Nat) (g : Win → Win) : (s.modWin k g).cfg = s.cfg := rfl
@[simp] theorem State.modWin_pos (s : State) (k : Nat) (g : Win → Win) : (s.modWin k g).pos = s.pos := rfl
@[simp] theorem State.modWin_fire (s : State) (k : Nat) (g : Win → Win) : (s.modWin k g).fire = s.fire := rfl
@[simp] theorem State.modWin_noz (s : State) (k : Nat) (g : Win → Win) : (s.modWin k g).noz = s.noz := rfl
@[simp] theorem State.modWin_tileH (s : State) (k : Nat) (g : Win → Win) : (s.modWin k g).tileH = s.tileH := rfl
@[simp] theorem State.modWin_lanes (s : State) (k : Nat) (g : Win → Win) : (s.modWin k g).lanes = s.lanes := rfl
@[simp] theorem State.modWin_health (s : State) (k : Nat) (g : Win → Win) : (s.modWin k g).health = s.health := rfl
@[simp] theorem State.modWin_comp (s : State) (k : Nat) (g : Win → Win) : (s.modWin k g).comp = s.comp := rfl
@[simp] theorem State.modWin_host (s : State) (k : Nat) (g : Win → Win) : (s.modWin k g).host = s.host := rfl
@[simp] theorem State.modWin_dma (s : State) (k : Nat) (g : Win → Win) : (s.modWin k g).dma = s.dma := rfl
@[simp] theorem State.modWin_ring (s : State) (k : Nat) (g : Win → Win) : (s.modWin k g).ring = s.ring := rfl
@[simp] theorem State.modWin_ports (s : State) (k : Nat) (g : Win → Win) : (s.modWin k g).ports = s.ports := rfl
@[simp] theorem State.modWin_pwr (s : State) (k : Nat) (g : Win → Win) : (s.modWin k g).pwr = s.pwr := rfl
@[simp] theorem State.modWin_mot (s : State) (k : Nat) (g : Win → Win) : (s.modWin k g).mot = s.mot := rfl
@[simp] theorem State.modWin_thm (s : State) (k : Nat) (g : Win → Win) : (s.modWin k g).thm = s.thm := rfl
@[simp] theorem State.modWin_flt (s : State) (k : Nat) (g : Win → Win) : (s.modWin k g).flt = s.flt := rfl
@[simp] theorem State.modWin_cal (s : State) (k : Nat) (g : Win → Win) : (s.modWin k g).cal = s.cal := rfl
@[simp] theorem State.modWin_mem (s : State) (k : Nat) (g : Win → Win) : (s.modWin k g).mem = s.mem := rfl
@[simp] theorem State.modWin_pmc (s : State) (k : Nat) (g : Win → Win) : (s.modWin k g).pmc = s.pmc := rfl
@[simp] theorem State.modWin_clk (s : State) (k : Nat) (g : Win → Win) : (s.modWin k g).clk = s.clk := rfl
@[simp] theorem State.modWin_svc (s : State) (k : Nat) (g : Win → Win) : (s.modWin k g).svc = s.svc := rfl
@[simp] theorem State.modWin_out (s : State) (k : Nat) (g : Win → Win) : (s.modWin k g).out = s.out := rfl
@[simp] theorem State.modWin_draws (s : State) (k : Nat) (g : Win → Win) : (s.modWin k g).draws = s.draws := rfl
@[simp] theorem State.modWin_pending (s : State) (k : Nat) (g : Win → Win) : (s.modWin k g).pending = s.pending := rfl
@[simp] theorem State.modWin_win (s : State) (k : Nat) (g : Win → Win) (j : Nat) :
    (s.modWin k g).win j = if j = k then g (s.win k) else s.win j := tget_tupd ..
@[simp] theorem State.modWin_fireT (s : State) (k : Nat) (g : Win → Win) (j : Nat) : (s.modWin k g).fireT j = s.fireT j := rfl
@[simp] theorem State.modWin_lane (s : State) (k : Nat) (g : Win → Win) (j : Nat) : (s.modWin k g).lane j = s.lane j := rfl
@[simp] theorem State.modWin_th (s : State) (k : Nat) (g : Win → Win) (j : Nat) : (s.modWin k g).th j = s.th j := rfl
@[simp] theorem State.modWin_port (s : State) (k : Nat) (g : Win → Win) (j : Nat) : (s.modWin k g).port j = s.port j := rfl
@[simp] theorem State.modWin_stream (s : State) (k : Nat) (g : Win → Win) (j : Nat) : (s.modWin k g).stream j = s.stream j := rfl
@[simp] theorem State.modWin_pin (s : State) (k : Nat) (g : Win → Win) (j : Nat) : (s.modWin k g).pin j = s.pin j := rfl
@[simp] theorem State.modWin_axis (s : State) (k : Nat) (g : Win → Win) (j : Nat) : (s.modWin k g).axis j = s.axis j := rfl
@[simp] theorem State.modWin_rail (s : State) (k : Nat) (g : Win → Win) (j : Nat) : (s.modWin k g).rail j = s.rail j := rfl
@[simp] theorem State.modWin_sensor (s : State) (k : Nat) (g : Win → Win) (j : Nat) : (s.modWin k g).sensor j = s.sensor j := rfl
@[simp] theorem State.modWin_tileRec? (s : State) (k : Nat) (g : Win → Win) (j : Nat) : (s.modWin k g).tileRec? j = s.tileRec? j := rfl
@[simp] theorem State.modWin_posRec (s : State) (k : Nat) (g : Win → Win) (j : Nat) : (s.modWin k g).posRec j = s.posRec j := rfl
@[simp] theorem State.modWin_reg (s : State) (k : Nat) (g : Win → Win) (off : Nat) : (s.modWin k g).reg off = s.reg off := rfl
@[simp] theorem State.modWin_f (s : State) (k : Nat) (g : Win → Win) (fd : Field) : (s.modWin k g).f fd = s.f fd := rfl
@[simp] theorem State.modWin_fs (s : State) (k : Nat) (g : Win → Win) (fd : Field) : (s.modWin k g).fs fd = s.fs fd := rfl
@[simp] theorem State.modWin_fb (s : State) (k : Nat) (g : Win → Win) (fd : Field) : (s.modWin k g).fb fd = s.fb fd := rfl
@[simp] theorem State.modWin_st (s : State) (k : Nat) (g : Win → Win) : (s.modWin k g).st = s.st := rfl
@[simp] theorem State.modWin_powered (s : State) (k : Nat) (g : Win → Win) : (s.modWin k g).powered = s.powered := rfl
@[simp] theorem State.modFire_regs (s : State) (k : Nat) (g : FireT → FireT) : (s.modFire k g).regs = s.regs := rfl
@[simp] theorem State.modFire_snaps (s : State) (k : Nat) (g : FireT → FireT) : (s.modFire k g).snaps = s.snaps := rfl
@[simp] theorem State.modFire_lows (s : State) (k : Nat) (g : FireT → FireT) : (s.modFire k g).lows = s.lows := rfl
@[simp] theorem State.modFire_now (s : State) (k : Nat) (g : FireT → FireT) : (s.modFire k g).now = s.now := rfl
@[simp] theorem State.modFire_ident (s : State) (k : Nat) (g : FireT → FireT) : (s.modFire k g).ident = s.ident := rfl
@[simp] theorem State.modFire_nv (s : State) (k : Nat) (g : FireT → FireT) : (s.modFire k g).nv = s.nv := rfl
@[simp] theorem State.modFire_sys (s : State) (k : Nat) (g : FireT → FireT) : (s.modFire k g).sys = s.sys := rfl
@[simp] theorem State.modFire_cfg (s : State) (k : Nat) (g : FireT → FireT) : (s.modFire k g).cfg = s.cfg := rfl
@[simp] theorem State.modFire_pos (s : State) (k : Nat) (g : FireT → FireT) : (s.modFire k g).pos = s.pos := rfl
@[simp] theorem State.modFire_wins (s : State) (k : Nat) (g : FireT → FireT) : (s.modFire k g).wins = s.wins := rfl
@[simp] theorem State.modFire_noz (s : State) (k : Nat) (g : FireT → FireT) : (s.modFire k g).noz = s.noz := rfl
@[simp] theorem State.modFire_tileH (s : State) (k : Nat) (g : FireT → FireT) : (s.modFire k g).tileH = s.tileH := rfl
@[simp] theorem State.modFire_lanes (s : State) (k : Nat) (g : FireT → FireT) : (s.modFire k g).lanes = s.lanes := rfl
@[simp] theorem State.modFire_health (s : State) (k : Nat) (g : FireT → FireT) : (s.modFire k g).health = s.health := rfl
@[simp] theorem State.modFire_comp (s : State) (k : Nat) (g : FireT → FireT) : (s.modFire k g).comp = s.comp := rfl
@[simp] theorem State.modFire_host (s : State) (k : Nat) (g : FireT → FireT) : (s.modFire k g).host = s.host := rfl
@[simp] theorem State.modFire_dma (s : State) (k : Nat) (g : FireT → FireT) : (s.modFire k g).dma = s.dma := rfl
@[simp] theorem State.modFire_ring (s : State) (k : Nat) (g : FireT → FireT) : (s.modFire k g).ring = s.ring := rfl
@[simp] theorem State.modFire_ports (s : State) (k : Nat) (g : FireT → FireT) : (s.modFire k g).ports = s.ports := rfl
@[simp] theorem State.modFire_pwr (s : State) (k : Nat) (g : FireT → FireT) : (s.modFire k g).pwr = s.pwr := rfl
@[simp] theorem State.modFire_mot (s : State) (k : Nat) (g : FireT → FireT) : (s.modFire k g).mot = s.mot := rfl
@[simp] theorem State.modFire_thm (s : State) (k : Nat) (g : FireT → FireT) : (s.modFire k g).thm = s.thm := rfl
@[simp] theorem State.modFire_flt (s : State) (k : Nat) (g : FireT → FireT) : (s.modFire k g).flt = s.flt := rfl
@[simp] theorem State.modFire_cal (s : State) (k : Nat) (g : FireT → FireT) : (s.modFire k g).cal = s.cal := rfl
@[simp] theorem State.modFire_mem (s : State) (k : Nat) (g : FireT → FireT) : (s.modFire k g).mem = s.mem := rfl
@[simp] theorem State.modFire_pmc (s : State) (k : Nat) (g : FireT → FireT) : (s.modFire k g).pmc = s.pmc := rfl
@[simp] theorem State.modFire_clk (s : State) (k : Nat) (g : FireT → FireT) : (s.modFire k g).clk = s.clk := rfl
@[simp] theorem State.modFire_svc (s : State) (k : Nat) (g : FireT → FireT) : (s.modFire k g).svc = s.svc := rfl
@[simp] theorem State.modFire_out (s : State) (k : Nat) (g : FireT → FireT) : (s.modFire k g).out = s.out := rfl
@[simp] theorem State.modFire_draws (s : State) (k : Nat) (g : FireT → FireT) : (s.modFire k g).draws = s.draws := rfl
@[simp] theorem State.modFire_pending (s : State) (k : Nat) (g : FireT → FireT) : (s.modFire k g).pending = s.pending := rfl
@[simp] theorem State.modFire_fireT (s : State) (k : Nat) (g : FireT → FireT) (j : Nat) :
    (s.modFire k g).fireT j = if j = k then g (s.fireT k) else s.fireT j := tget_tupd ..
@[simp] theorem State.modFire_win (s : State) (k : Nat) (g : FireT → FireT) (j : Nat) : (s.modFire k g).win j = s.win j := rfl
@[simp] theorem State.modFire_lane (s : State) (k : Nat) (g : FireT → FireT) (j : Nat) : (s.modFire k g).lane j = s.lane j := rfl
@[simp] theorem State.modFire_th (s : State) (k : Nat) (g : FireT → FireT) (j : Nat) : (s.modFire k g).th j = s.th j := rfl
@[simp] theorem State.modFire_port (s : State) (k : Nat) (g : FireT → FireT) (j : Nat) : (s.modFire k g).port j = s.port j := rfl
@[simp] theorem State.modFire_stream (s : State) (k : Nat) (g : FireT → FireT) (j : Nat) : (s.modFire k g).stream j = s.stream j := rfl
@[simp] theorem State.modFire_pin (s : State) (k : Nat) (g : FireT → FireT) (j : Nat) : (s.modFire k g).pin j = s.pin j := rfl
@[simp] theorem State.modFire_axis (s : State) (k : Nat) (g : FireT → FireT) (j : Nat) : (s.modFire k g).axis j = s.axis j := rfl
@[simp] theorem State.modFire_rail (s : State) (k : Nat) (g : FireT → FireT) (j : Nat) : (s.modFire k g).rail j = s.rail j := rfl
@[simp] theorem State.modFire_sensor (s : State) (k : Nat) (g : FireT → FireT) (j : Nat) : (s.modFire k g).sensor j = s.sensor j := rfl
@[simp] theorem State.modFire_tileRec? (s : State) (k : Nat) (g : FireT → FireT) (j : Nat) : (s.modFire k g).tileRec? j = s.tileRec? j := rfl
@[simp] theorem State.modFire_posRec (s : State) (k : Nat) (g : FireT → FireT) (j : Nat) : (s.modFire k g).posRec j = s.posRec j := rfl
@[simp] theorem State.modFire_reg (s : State) (k : Nat) (g : FireT → FireT) (off : Nat) : (s.modFire k g).reg off = s.reg off := rfl
@[simp] theorem State.modFire_f (s : State) (k : Nat) (g : FireT → FireT) (fd : Field) : (s.modFire k g).f fd = s.f fd := rfl
@[simp] theorem State.modFire_fs (s : State) (k : Nat) (g : FireT → FireT) (fd : Field) : (s.modFire k g).fs fd = s.fs fd := rfl
@[simp] theorem State.modFire_fb (s : State) (k : Nat) (g : FireT → FireT) (fd : Field) : (s.modFire k g).fb fd = s.fb fd := rfl
@[simp] theorem State.modFire_st (s : State) (k : Nat) (g : FireT → FireT) : (s.modFire k g).st = s.st := rfl
@[simp] theorem State.modFire_powered (s : State) (k : Nat) (g : FireT → FireT) : (s.modFire k g).powered = s.powered := rfl
@[simp] theorem State.modLane_regs (s : State) (k : Nat) (g : Lane → Lane) : (s.modLane k g).regs = s.regs := rfl
@[simp] theorem State.modLane_snaps (s : State) (k : Nat) (g : Lane → Lane) : (s.modLane k g).snaps = s.snaps := rfl
@[simp] theorem State.modLane_lows (s : State) (k : Nat) (g : Lane → Lane) : (s.modLane k g).lows = s.lows := rfl
@[simp] theorem State.modLane_now (s : State) (k : Nat) (g : Lane → Lane) : (s.modLane k g).now = s.now := rfl
@[simp] theorem State.modLane_ident (s : State) (k : Nat) (g : Lane → Lane) : (s.modLane k g).ident = s.ident := rfl
@[simp] theorem State.modLane_nv (s : State) (k : Nat) (g : Lane → Lane) : (s.modLane k g).nv = s.nv := rfl
@[simp] theorem State.modLane_sys (s : State) (k : Nat) (g : Lane → Lane) : (s.modLane k g).sys = s.sys := rfl
@[simp] theorem State.modLane_cfg (s : State) (k : Nat) (g : Lane → Lane) : (s.modLane k g).cfg = s.cfg := rfl
@[simp] theorem State.modLane_pos (s : State) (k : Nat) (g : Lane → Lane) : (s.modLane k g).pos = s.pos := rfl
@[simp] theorem State.modLane_fire (s : State) (k : Nat) (g : Lane → Lane) : (s.modLane k g).fire = s.fire := rfl
@[simp] theorem State.modLane_wins (s : State) (k : Nat) (g : Lane → Lane) : (s.modLane k g).wins = s.wins := rfl
@[simp] theorem State.modLane_noz (s : State) (k : Nat) (g : Lane → Lane) : (s.modLane k g).noz = s.noz := rfl
@[simp] theorem State.modLane_tileH (s : State) (k : Nat) (g : Lane → Lane) : (s.modLane k g).tileH = s.tileH := rfl
@[simp] theorem State.modLane_health (s : State) (k : Nat) (g : Lane → Lane) : (s.modLane k g).health = s.health := rfl
@[simp] theorem State.modLane_comp (s : State) (k : Nat) (g : Lane → Lane) : (s.modLane k g).comp = s.comp := rfl
@[simp] theorem State.modLane_host (s : State) (k : Nat) (g : Lane → Lane) : (s.modLane k g).host = s.host := rfl
@[simp] theorem State.modLane_dma (s : State) (k : Nat) (g : Lane → Lane) : (s.modLane k g).dma = s.dma := rfl
@[simp] theorem State.modLane_ring (s : State) (k : Nat) (g : Lane → Lane) : (s.modLane k g).ring = s.ring := rfl
@[simp] theorem State.modLane_ports (s : State) (k : Nat) (g : Lane → Lane) : (s.modLane k g).ports = s.ports := rfl
@[simp] theorem State.modLane_pwr (s : State) (k : Nat) (g : Lane → Lane) : (s.modLane k g).pwr = s.pwr := rfl
@[simp] theorem State.modLane_mot (s : State) (k : Nat) (g : Lane → Lane) : (s.modLane k g).mot = s.mot := rfl
@[simp] theorem State.modLane_thm (s : State) (k : Nat) (g : Lane → Lane) : (s.modLane k g).thm = s.thm := rfl
@[simp] theorem State.modLane_flt (s : State) (k : Nat) (g : Lane → Lane) : (s.modLane k g).flt = s.flt := rfl
@[simp] theorem State.modLane_cal (s : State) (k : Nat) (g : Lane → Lane) : (s.modLane k g).cal = s.cal := rfl
@[simp] theorem State.modLane_mem (s : State) (k : Nat) (g : Lane → Lane) : (s.modLane k g).mem = s.mem := rfl
@[simp] theorem State.modLane_pmc (s : State) (k : Nat) (g : Lane → Lane) : (s.modLane k g).pmc = s.pmc := rfl
@[simp] theorem State.modLane_clk (s : State) (k : Nat) (g : Lane → Lane) : (s.modLane k g).clk = s.clk := rfl
@[simp] theorem State.modLane_svc (s : State) (k : Nat) (g : Lane → Lane) : (s.modLane k g).svc = s.svc := rfl
@[simp] theorem State.modLane_out (s : State) (k : Nat) (g : Lane → Lane) : (s.modLane k g).out = s.out := rfl
@[simp] theorem State.modLane_draws (s : State) (k : Nat) (g : Lane → Lane) : (s.modLane k g).draws = s.draws := rfl
@[simp] theorem State.modLane_pending (s : State) (k : Nat) (g : Lane → Lane) : (s.modLane k g).pending = s.pending := rfl
@[simp] theorem State.modLane_lane (s : State) (k : Nat) (g : Lane → Lane) (j : Nat) :
    (s.modLane k g).lane j = if j = k then g (s.lane k) else s.lane j := tget_tupd ..
@[simp] theorem State.modLane_win (s : State) (k : Nat) (g : Lane → Lane) (j : Nat) : (s.modLane k g).win j = s.win j := rfl
@[simp] theorem State.modLane_fireT (s : State) (k : Nat) (g : Lane → Lane) (j : Nat) : (s.modLane k g).fireT j = s.fireT j := rfl
@[simp] theorem State.modLane_th (s : State) (k : Nat) (g : Lane → Lane) (j : Nat) : (s.modLane k g).th j = s.th j := rfl
@[simp] theorem State.modLane_port (s : State) (k : Nat) (g : Lane → Lane) (j : Nat) : (s.modLane k g).port j = s.port j := rfl
@[simp] theorem State.modLane_stream (s : State) (k : Nat) (g : Lane → Lane) (j : Nat) : (s.modLane k g).stream j = s.stream j := rfl
@[simp] theorem State.modLane_pin (s : State) (k : Nat) (g : Lane → Lane) (j : Nat) : (s.modLane k g).pin j = s.pin j := rfl
@[simp] theorem State.modLane_axis (s : State) (k : Nat) (g : Lane → Lane) (j : Nat) : (s.modLane k g).axis j = s.axis j := rfl
@[simp] theorem State.modLane_rail (s : State) (k : Nat) (g : Lane → Lane) (j : Nat) : (s.modLane k g).rail j = s.rail j := rfl
@[simp] theorem State.modLane_sensor (s : State) (k : Nat) (g : Lane → Lane) (j : Nat) : (s.modLane k g).sensor j = s.sensor j := rfl
@[simp] theorem State.modLane_tileRec? (s : State) (k : Nat) (g : Lane → Lane) (j : Nat) : (s.modLane k g).tileRec? j = s.tileRec? j := rfl
@[simp] theorem State.modLane_posRec (s : State) (k : Nat) (g : Lane → Lane) (j : Nat) : (s.modLane k g).posRec j = s.posRec j := rfl
@[simp] theorem State.modLane_reg (s : State) (k : Nat) (g : Lane → Lane) (off : Nat) : (s.modLane k g).reg off = s.reg off := rfl
@[simp] theorem State.modLane_f (s : State) (k : Nat) (g : Lane → Lane) (fd : Field) : (s.modLane k g).f fd = s.f fd := rfl
@[simp] theorem State.modLane_fs (s : State) (k : Nat) (g : Lane → Lane) (fd : Field) : (s.modLane k g).fs fd = s.fs fd := rfl
@[simp] theorem State.modLane_fb (s : State) (k : Nat) (g : Lane → Lane) (fd : Field) : (s.modLane k g).fb fd = s.fb fd := rfl
@[simp] theorem State.modLane_st (s : State) (k : Nat) (g : Lane → Lane) : (s.modLane k g).st = s.st := rfl
@[simp] theorem State.modLane_powered (s : State) (k : Nat) (g : Lane → Lane) : (s.modLane k g).powered = s.powered := rfl
@[simp] theorem State.modPort_regs (s : State) (k : Nat) (g : TileP → TileP) : (s.modPort k g).regs = s.regs := rfl
@[simp] theorem State.modPort_snaps (s : State) (k : Nat) (g : TileP → TileP) : (s.modPort k g).snaps = s.snaps := rfl
@[simp] theorem State.modPort_lows (s : State) (k : Nat) (g : TileP → TileP) : (s.modPort k g).lows = s.lows := rfl
@[simp] theorem State.modPort_now (s : State) (k : Nat) (g : TileP → TileP) : (s.modPort k g).now = s.now := rfl
@[simp] theorem State.modPort_ident (s : State) (k : Nat) (g : TileP → TileP) : (s.modPort k g).ident = s.ident := rfl
@[simp] theorem State.modPort_nv (s : State) (k : Nat) (g : TileP → TileP) : (s.modPort k g).nv = s.nv := rfl
@[simp] theorem State.modPort_sys (s : State) (k : Nat) (g : TileP → TileP) : (s.modPort k g).sys = s.sys := rfl
@[simp] theorem State.modPort_cfg (s : State) (k : Nat) (g : TileP → TileP) : (s.modPort k g).cfg = s.cfg := rfl
@[simp] theorem State.modPort_pos (s : State) (k : Nat) (g : TileP → TileP) : (s.modPort k g).pos = s.pos := rfl
@[simp] theorem State.modPort_fire (s : State) (k : Nat) (g : TileP → TileP) : (s.modPort k g).fire = s.fire := rfl
@[simp] theorem State.modPort_wins (s : State) (k : Nat) (g : TileP → TileP) : (s.modPort k g).wins = s.wins := rfl
@[simp] theorem State.modPort_noz (s : State) (k : Nat) (g : TileP → TileP) : (s.modPort k g).noz = s.noz := rfl
@[simp] theorem State.modPort_tileH (s : State) (k : Nat) (g : TileP → TileP) : (s.modPort k g).tileH = s.tileH := rfl
@[simp] theorem State.modPort_lanes (s : State) (k : Nat) (g : TileP → TileP) : (s.modPort k g).lanes = s.lanes := rfl
@[simp] theorem State.modPort_health (s : State) (k : Nat) (g : TileP → TileP) : (s.modPort k g).health = s.health := rfl
@[simp] theorem State.modPort_comp (s : State) (k : Nat) (g : TileP → TileP) : (s.modPort k g).comp = s.comp := rfl
@[simp] theorem State.modPort_host (s : State) (k : Nat) (g : TileP → TileP) : (s.modPort k g).host = s.host := rfl
@[simp] theorem State.modPort_dma (s : State) (k : Nat) (g : TileP → TileP) : (s.modPort k g).dma = s.dma := rfl
@[simp] theorem State.modPort_ring (s : State) (k : Nat) (g : TileP → TileP) : (s.modPort k g).ring = s.ring := rfl
@[simp] theorem State.modPort_pwr (s : State) (k : Nat) (g : TileP → TileP) : (s.modPort k g).pwr = s.pwr := rfl
@[simp] theorem State.modPort_mot (s : State) (k : Nat) (g : TileP → TileP) : (s.modPort k g).mot = s.mot := rfl
@[simp] theorem State.modPort_thm (s : State) (k : Nat) (g : TileP → TileP) : (s.modPort k g).thm = s.thm := rfl
@[simp] theorem State.modPort_flt (s : State) (k : Nat) (g : TileP → TileP) : (s.modPort k g).flt = s.flt := rfl
@[simp] theorem State.modPort_cal (s : State) (k : Nat) (g : TileP → TileP) : (s.modPort k g).cal = s.cal := rfl
@[simp] theorem State.modPort_mem (s : State) (k : Nat) (g : TileP → TileP) : (s.modPort k g).mem = s.mem := rfl
@[simp] theorem State.modPort_pmc (s : State) (k : Nat) (g : TileP → TileP) : (s.modPort k g).pmc = s.pmc := rfl
@[simp] theorem State.modPort_clk (s : State) (k : Nat) (g : TileP → TileP) : (s.modPort k g).clk = s.clk := rfl
@[simp] theorem State.modPort_svc (s : State) (k : Nat) (g : TileP → TileP) : (s.modPort k g).svc = s.svc := rfl
@[simp] theorem State.modPort_out (s : State) (k : Nat) (g : TileP → TileP) : (s.modPort k g).out = s.out := rfl
@[simp] theorem State.modPort_draws (s : State) (k : Nat) (g : TileP → TileP) : (s.modPort k g).draws = s.draws := rfl
@[simp] theorem State.modPort_pending (s : State) (k : Nat) (g : TileP → TileP) : (s.modPort k g).pending = s.pending := rfl
@[simp] theorem State.modPort_port (s : State) (k : Nat) (g : TileP → TileP) (j : Nat) :
    (s.modPort k g).port j = if j = k then g (s.port k) else s.port j := tget_tupd ..
@[simp] theorem State.modPort_win (s : State) (k : Nat) (g : TileP → TileP) (j : Nat) : (s.modPort k g).win j = s.win j := rfl
@[simp] theorem State.modPort_fireT (s : State) (k : Nat) (g : TileP → TileP) (j : Nat) : (s.modPort k g).fireT j = s.fireT j := rfl
@[simp] theorem State.modPort_lane (s : State) (k : Nat) (g : TileP → TileP) (j : Nat) : (s.modPort k g).lane j = s.lane j := rfl
@[simp] theorem State.modPort_th (s : State) (k : Nat) (g : TileP → TileP) (j : Nat) : (s.modPort k g).th j = s.th j := rfl
@[simp] theorem State.modPort_stream (s : State) (k : Nat) (g : TileP → TileP) (j : Nat) : (s.modPort k g).stream j = s.stream j := rfl
@[simp] theorem State.modPort_pin (s : State) (k : Nat) (g : TileP → TileP) (j : Nat) : (s.modPort k g).pin j = s.pin j := rfl
@[simp] theorem State.modPort_axis (s : State) (k : Nat) (g : TileP → TileP) (j : Nat) : (s.modPort k g).axis j = s.axis j := rfl
@[simp] theorem State.modPort_rail (s : State) (k : Nat) (g : TileP → TileP) (j : Nat) : (s.modPort k g).rail j = s.rail j := rfl
@[simp] theorem State.modPort_sensor (s : State) (k : Nat) (g : TileP → TileP) (j : Nat) : (s.modPort k g).sensor j = s.sensor j := rfl
@[simp] theorem State.modPort_tileRec? (s : State) (k : Nat) (g : TileP → TileP) (j : Nat) : (s.modPort k g).tileRec? j = s.tileRec? j := rfl
@[simp] theorem State.modPort_posRec (s : State) (k : Nat) (g : TileP → TileP) (j : Nat) : (s.modPort k g).posRec j = s.posRec j := rfl
@[simp] theorem State.modPort_reg (s : State) (k : Nat) (g : TileP → TileP) (off : Nat) : (s.modPort k g).reg off = s.reg off := rfl
@[simp] theorem State.modPort_f (s : State) (k : Nat) (g : TileP → TileP) (fd : Field) : (s.modPort k g).f fd = s.f fd := rfl
@[simp] theorem State.modPort_fs (s : State) (k : Nat) (g : TileP → TileP) (fd : Field) : (s.modPort k g).fs fd = s.fs fd := rfl
@[simp] theorem State.modPort_fb (s : State) (k : Nat) (g : TileP → TileP) (fd : Field) : (s.modPort k g).fb fd = s.fb fd := rfl
@[simp] theorem State.modPort_st (s : State) (k : Nat) (g : TileP → TileP) : (s.modPort k g).st = s.st := rfl
@[simp] theorem State.modPort_powered (s : State) (k : Nat) (g : TileP → TileP) : (s.modPort k g).powered = s.powered := rfl
@[simp] theorem State.modTh_regs (s : State) (k : Nat) (g : TileH → TileH) : (s.modTh k g).regs = s.regs := rfl
@[simp] theorem State.modTh_snaps (s : State) (k : Nat) (g : TileH → TileH) : (s.modTh k g).snaps = s.snaps := rfl
@[simp] theorem State.modTh_lows (s : State) (k : Nat) (g : TileH → TileH) : (s.modTh k g).lows = s.lows := rfl
@[simp] theorem State.modTh_now (s : State) (k : Nat) (g : TileH → TileH) : (s.modTh k g).now = s.now := rfl
@[simp] theorem State.modTh_ident (s : State) (k : Nat) (g : TileH → TileH) : (s.modTh k g).ident = s.ident := rfl
@[simp] theorem State.modTh_nv (s : State) (k : Nat) (g : TileH → TileH) : (s.modTh k g).nv = s.nv := rfl
@[simp] theorem State.modTh_sys (s : State) (k : Nat) (g : TileH → TileH) : (s.modTh k g).sys = s.sys := rfl
@[simp] theorem State.modTh_cfg (s : State) (k : Nat) (g : TileH → TileH) : (s.modTh k g).cfg = s.cfg := rfl
@[simp] theorem State.modTh_pos (s : State) (k : Nat) (g : TileH → TileH) : (s.modTh k g).pos = s.pos := rfl
@[simp] theorem State.modTh_fire (s : State) (k : Nat) (g : TileH → TileH) : (s.modTh k g).fire = s.fire := rfl
@[simp] theorem State.modTh_wins (s : State) (k : Nat) (g : TileH → TileH) : (s.modTh k g).wins = s.wins := rfl
@[simp] theorem State.modTh_noz (s : State) (k : Nat) (g : TileH → TileH) : (s.modTh k g).noz = s.noz := rfl
@[simp] theorem State.modTh_lanes (s : State) (k : Nat) (g : TileH → TileH) : (s.modTh k g).lanes = s.lanes := rfl
@[simp] theorem State.modTh_health (s : State) (k : Nat) (g : TileH → TileH) : (s.modTh k g).health = s.health := rfl
@[simp] theorem State.modTh_comp (s : State) (k : Nat) (g : TileH → TileH) : (s.modTh k g).comp = s.comp := rfl
@[simp] theorem State.modTh_host (s : State) (k : Nat) (g : TileH → TileH) : (s.modTh k g).host = s.host := rfl
@[simp] theorem State.modTh_dma (s : State) (k : Nat) (g : TileH → TileH) : (s.modTh k g).dma = s.dma := rfl
@[simp] theorem State.modTh_ring (s : State) (k : Nat) (g : TileH → TileH) : (s.modTh k g).ring = s.ring := rfl
@[simp] theorem State.modTh_ports (s : State) (k : Nat) (g : TileH → TileH) : (s.modTh k g).ports = s.ports := rfl
@[simp] theorem State.modTh_pwr (s : State) (k : Nat) (g : TileH → TileH) : (s.modTh k g).pwr = s.pwr := rfl
@[simp] theorem State.modTh_mot (s : State) (k : Nat) (g : TileH → TileH) : (s.modTh k g).mot = s.mot := rfl
@[simp] theorem State.modTh_thm (s : State) (k : Nat) (g : TileH → TileH) : (s.modTh k g).thm = s.thm := rfl
@[simp] theorem State.modTh_flt (s : State) (k : Nat) (g : TileH → TileH) : (s.modTh k g).flt = s.flt := rfl
@[simp] theorem State.modTh_cal (s : State) (k : Nat) (g : TileH → TileH) : (s.modTh k g).cal = s.cal := rfl
@[simp] theorem State.modTh_mem (s : State) (k : Nat) (g : TileH → TileH) : (s.modTh k g).mem = s.mem := rfl
@[simp] theorem State.modTh_pmc (s : State) (k : Nat) (g : TileH → TileH) : (s.modTh k g).pmc = s.pmc := rfl
@[simp] theorem State.modTh_clk (s : State) (k : Nat) (g : TileH → TileH) : (s.modTh k g).clk = s.clk := rfl
@[simp] theorem State.modTh_svc (s : State) (k : Nat) (g : TileH → TileH) : (s.modTh k g).svc = s.svc := rfl
@[simp] theorem State.modTh_out (s : State) (k : Nat) (g : TileH → TileH) : (s.modTh k g).out = s.out := rfl
@[simp] theorem State.modTh_draws (s : State) (k : Nat) (g : TileH → TileH) : (s.modTh k g).draws = s.draws := rfl
@[simp] theorem State.modTh_pending (s : State) (k : Nat) (g : TileH → TileH) : (s.modTh k g).pending = s.pending := rfl
@[simp] theorem State.modTh_th (s : State) (k : Nat) (g : TileH → TileH) (j : Nat) :
    (s.modTh k g).th j = if j = k then g (s.th k) else s.th j := tget_tupd ..
@[simp] theorem State.modTh_win (s : State) (k : Nat) (g : TileH → TileH) (j : Nat) : (s.modTh k g).win j = s.win j := rfl
@[simp] theorem State.modTh_fireT (s : State) (k : Nat) (g : TileH → TileH) (j : Nat) : (s.modTh k g).fireT j = s.fireT j := rfl
@[simp] theorem State.modTh_lane (s : State) (k : Nat) (g : TileH → TileH) (j : Nat) : (s.modTh k g).lane j = s.lane j := rfl
@[simp] theorem State.modTh_port (s : State) (k : Nat) (g : TileH → TileH) (j : Nat) : (s.modTh k g).port j = s.port j := rfl
@[simp] theorem State.modTh_stream (s : State) (k : Nat) (g : TileH → TileH) (j : Nat) : (s.modTh k g).stream j = s.stream j := rfl
@[simp] theorem State.modTh_pin (s : State) (k : Nat) (g : TileH → TileH) (j : Nat) : (s.modTh k g).pin j = s.pin j := rfl
@[simp] theorem State.modTh_axis (s : State) (k : Nat) (g : TileH → TileH) (j : Nat) : (s.modTh k g).axis j = s.axis j := rfl
@[simp] theorem State.modTh_rail (s : State) (k : Nat) (g : TileH → TileH) (j : Nat) : (s.modTh k g).rail j = s.rail j := rfl
@[simp] theorem State.modTh_sensor (s : State) (k : Nat) (g : TileH → TileH) (j : Nat) : (s.modTh k g).sensor j = s.sensor j := rfl
@[simp] theorem State.modTh_tileRec? (s : State) (k : Nat) (g : TileH → TileH) (j : Nat) : (s.modTh k g).tileRec? j = s.tileRec? j := rfl
@[simp] theorem State.modTh_posRec (s : State) (k : Nat) (g : TileH → TileH) (j : Nat) : (s.modTh k g).posRec j = s.posRec j := rfl
@[simp] theorem State.modTh_reg (s : State) (k : Nat) (g : TileH → TileH) (off : Nat) : (s.modTh k g).reg off = s.reg off := rfl
@[simp] theorem State.modTh_f (s : State) (k : Nat) (g : TileH → TileH) (fd : Field) : (s.modTh k g).f fd = s.f fd := rfl
@[simp] theorem State.modTh_fs (s : State) (k : Nat) (g : TileH → TileH) (fd : Field) : (s.modTh k g).fs fd = s.fs fd := rfl
@[simp] theorem State.modTh_fb (s : State) (k : Nat) (g : TileH → TileH) (fd : Field) : (s.modTh k g).fb fd = s.fb fd := rfl
@[simp] theorem State.modTh_st (s : State) (k : Nat) (g : TileH → TileH) : (s.modTh k g).st = s.st := rfl
@[simp] theorem State.modTh_powered (s : State) (k : Nat) (g : TileH → TileH) : (s.modTh k g).powered = s.powered := rfl
@[simp] theorem State.modStream_regs (s : State) (k : Nat) (g : Stream → Stream) : (s.modStream k g).regs = s.regs := rfl
@[simp] theorem State.modStream_snaps (s : State) (k : Nat) (g : Stream → Stream) : (s.modStream k g).snaps = s.snaps := rfl
@[simp] theorem State.modStream_lows (s : State) (k : Nat) (g : Stream → Stream) : (s.modStream k g).lows = s.lows := rfl
@[simp] theorem State.modStream_now (s : State) (k : Nat) (g : Stream → Stream) : (s.modStream k g).now = s.now := rfl
@[simp] theorem State.modStream_ident (s : State) (k : Nat) (g : Stream → Stream) : (s.modStream k g).ident = s.ident := rfl
@[simp] theorem State.modStream_nv (s : State) (k : Nat) (g : Stream → Stream) : (s.modStream k g).nv = s.nv := rfl
@[simp] theorem State.modStream_sys (s : State) (k : Nat) (g : Stream → Stream) : (s.modStream k g).sys = s.sys := rfl
@[simp] theorem State.modStream_cfg (s : State) (k : Nat) (g : Stream → Stream) : (s.modStream k g).cfg = s.cfg := rfl
@[simp] theorem State.modStream_pos (s : State) (k : Nat) (g : Stream → Stream) : (s.modStream k g).pos = s.pos := rfl
@[simp] theorem State.modStream_fire (s : State) (k : Nat) (g : Stream → Stream) : (s.modStream k g).fire = s.fire := rfl
@[simp] theorem State.modStream_wins (s : State) (k : Nat) (g : Stream → Stream) : (s.modStream k g).wins = s.wins := rfl
@[simp] theorem State.modStream_noz (s : State) (k : Nat) (g : Stream → Stream) : (s.modStream k g).noz = s.noz := rfl
@[simp] theorem State.modStream_tileH (s : State) (k : Nat) (g : Stream → Stream) : (s.modStream k g).tileH = s.tileH := rfl
@[simp] theorem State.modStream_lanes (s : State) (k : Nat) (g : Stream → Stream) : (s.modStream k g).lanes = s.lanes := rfl
@[simp] theorem State.modStream_health (s : State) (k : Nat) (g : Stream → Stream) : (s.modStream k g).health = s.health := rfl
@[simp] theorem State.modStream_comp (s : State) (k : Nat) (g : Stream → Stream) : (s.modStream k g).comp = s.comp := rfl
@[simp] theorem State.modStream_host (s : State) (k : Nat) (g : Stream → Stream) : (s.modStream k g).host = s.host := rfl
@[simp] theorem State.modStream_ring (s : State) (k : Nat) (g : Stream → Stream) : (s.modStream k g).ring = s.ring := rfl
@[simp] theorem State.modStream_ports (s : State) (k : Nat) (g : Stream → Stream) : (s.modStream k g).ports = s.ports := rfl
@[simp] theorem State.modStream_pwr (s : State) (k : Nat) (g : Stream → Stream) : (s.modStream k g).pwr = s.pwr := rfl
@[simp] theorem State.modStream_mot (s : State) (k : Nat) (g : Stream → Stream) : (s.modStream k g).mot = s.mot := rfl
@[simp] theorem State.modStream_thm (s : State) (k : Nat) (g : Stream → Stream) : (s.modStream k g).thm = s.thm := rfl
@[simp] theorem State.modStream_flt (s : State) (k : Nat) (g : Stream → Stream) : (s.modStream k g).flt = s.flt := rfl
@[simp] theorem State.modStream_cal (s : State) (k : Nat) (g : Stream → Stream) : (s.modStream k g).cal = s.cal := rfl
@[simp] theorem State.modStream_mem (s : State) (k : Nat) (g : Stream → Stream) : (s.modStream k g).mem = s.mem := rfl
@[simp] theorem State.modStream_pmc (s : State) (k : Nat) (g : Stream → Stream) : (s.modStream k g).pmc = s.pmc := rfl
@[simp] theorem State.modStream_clk (s : State) (k : Nat) (g : Stream → Stream) : (s.modStream k g).clk = s.clk := rfl
@[simp] theorem State.modStream_svc (s : State) (k : Nat) (g : Stream → Stream) : (s.modStream k g).svc = s.svc := rfl
@[simp] theorem State.modStream_out (s : State) (k : Nat) (g : Stream → Stream) : (s.modStream k g).out = s.out := rfl
@[simp] theorem State.modStream_draws (s : State) (k : Nat) (g : Stream → Stream) : (s.modStream k g).draws = s.draws := rfl
@[simp] theorem State.modStream_pending (s : State) (k : Nat) (g : Stream → Stream) : (s.modStream k g).pending = s.pending := rfl
@[simp] theorem State.modStream_stream (s : State) (k : Nat) (g : Stream → Stream) (j : Nat) :
    (s.modStream k g).stream j = if j = k then g (s.stream k) else s.stream j := tget_tupd ..
@[simp] theorem State.modStream_win (s : State) (k : Nat) (g : Stream → Stream) (j : Nat) : (s.modStream k g).win j = s.win j := rfl
@[simp] theorem State.modStream_fireT (s : State) (k : Nat) (g : Stream → Stream) (j : Nat) : (s.modStream k g).fireT j = s.fireT j := rfl
@[simp] theorem State.modStream_lane (s : State) (k : Nat) (g : Stream → Stream) (j : Nat) : (s.modStream k g).lane j = s.lane j := rfl
@[simp] theorem State.modStream_th (s : State) (k : Nat) (g : Stream → Stream) (j : Nat) : (s.modStream k g).th j = s.th j := rfl
@[simp] theorem State.modStream_port (s : State) (k : Nat) (g : Stream → Stream) (j : Nat) : (s.modStream k g).port j = s.port j := rfl
@[simp] theorem State.modStream_pin (s : State) (k : Nat) (g : Stream → Stream) (j : Nat) : (s.modStream k g).pin j = s.pin j := rfl
@[simp] theorem State.modStream_axis (s : State) (k : Nat) (g : Stream → Stream) (j : Nat) : (s.modStream k g).axis j = s.axis j := rfl
@[simp] theorem State.modStream_rail (s : State) (k : Nat) (g : Stream → Stream) (j : Nat) : (s.modStream k g).rail j = s.rail j := rfl
@[simp] theorem State.modStream_sensor (s : State) (k : Nat) (g : Stream → Stream) (j : Nat) : (s.modStream k g).sensor j = s.sensor j := rfl
@[simp] theorem State.modStream_tileRec? (s : State) (k : Nat) (g : Stream → Stream) (j : Nat) : (s.modStream k g).tileRec? j = s.tileRec? j := rfl
@[simp] theorem State.modStream_posRec (s : State) (k : Nat) (g : Stream → Stream) (j : Nat) : (s.modStream k g).posRec j = s.posRec j := rfl
@[simp] theorem State.modStream_reg (s : State) (k : Nat) (g : Stream → Stream) (off : Nat) : (s.modStream k g).reg off = s.reg off := rfl
@[simp] theorem State.modStream_f (s : State) (k : Nat) (g : Stream → Stream) (fd : Field) : (s.modStream k g).f fd = s.f fd := rfl
@[simp] theorem State.modStream_fs (s : State) (k : Nat) (g : Stream → Stream) (fd : Field) : (s.modStream k g).fs fd = s.fs fd := rfl
@[simp] theorem State.modStream_fb (s : State) (k : Nat) (g : Stream → Stream) (fd : Field) : (s.modStream k g).fb fd = s.fb fd := rfl
@[simp] theorem State.modStream_st (s : State) (k : Nat) (g : Stream → Stream) : (s.modStream k g).st = s.st := rfl
@[simp] theorem State.modStream_powered (s : State) (k : Nat) (g : Stream → Stream) : (s.modStream k g).powered = s.powered := rfl
@[simp] theorem State.modPin_regs (s : State) (k : Nat) (g : PosIn → PosIn) : (s.modPin k g).regs = s.regs := rfl
@[simp] theorem State.modPin_snaps (s : State) (k : Nat) (g : PosIn → PosIn) : (s.modPin k g).snaps = s.snaps := rfl
@[simp] theorem State.modPin_lows (s : State) (k : Nat) (g : PosIn → PosIn) : (s.modPin k g).lows = s.lows := rfl
@[simp] theorem State.modPin_now (s : State) (k : Nat) (g : PosIn → PosIn) : (s.modPin k g).now = s.now := rfl
@[simp] theorem State.modPin_ident (s : State) (k : Nat) (g : PosIn → PosIn) : (s.modPin k g).ident = s.ident := rfl
@[simp] theorem State.modPin_nv (s : State) (k : Nat) (g : PosIn → PosIn) : (s.modPin k g).nv = s.nv := rfl
@[simp] theorem State.modPin_sys (s : State) (k : Nat) (g : PosIn → PosIn) : (s.modPin k g).sys = s.sys := rfl
@[simp] theorem State.modPin_cfg (s : State) (k : Nat) (g : PosIn → PosIn) : (s.modPin k g).cfg = s.cfg := rfl
@[simp] theorem State.modPin_fire (s : State) (k : Nat) (g : PosIn → PosIn) : (s.modPin k g).fire = s.fire := rfl
@[simp] theorem State.modPin_wins (s : State) (k : Nat) (g : PosIn → PosIn) : (s.modPin k g).wins = s.wins := rfl
@[simp] theorem State.modPin_noz (s : State) (k : Nat) (g : PosIn → PosIn) : (s.modPin k g).noz = s.noz := rfl
@[simp] theorem State.modPin_tileH (s : State) (k : Nat) (g : PosIn → PosIn) : (s.modPin k g).tileH = s.tileH := rfl
@[simp] theorem State.modPin_lanes (s : State) (k : Nat) (g : PosIn → PosIn) : (s.modPin k g).lanes = s.lanes := rfl
@[simp] theorem State.modPin_health (s : State) (k : Nat) (g : PosIn → PosIn) : (s.modPin k g).health = s.health := rfl
@[simp] theorem State.modPin_comp (s : State) (k : Nat) (g : PosIn → PosIn) : (s.modPin k g).comp = s.comp := rfl
@[simp] theorem State.modPin_host (s : State) (k : Nat) (g : PosIn → PosIn) : (s.modPin k g).host = s.host := rfl
@[simp] theorem State.modPin_dma (s : State) (k : Nat) (g : PosIn → PosIn) : (s.modPin k g).dma = s.dma := rfl
@[simp] theorem State.modPin_ring (s : State) (k : Nat) (g : PosIn → PosIn) : (s.modPin k g).ring = s.ring := rfl
@[simp] theorem State.modPin_ports (s : State) (k : Nat) (g : PosIn → PosIn) : (s.modPin k g).ports = s.ports := rfl
@[simp] theorem State.modPin_pwr (s : State) (k : Nat) (g : PosIn → PosIn) : (s.modPin k g).pwr = s.pwr := rfl
@[simp] theorem State.modPin_mot (s : State) (k : Nat) (g : PosIn → PosIn) : (s.modPin k g).mot = s.mot := rfl
@[simp] theorem State.modPin_thm (s : State) (k : Nat) (g : PosIn → PosIn) : (s.modPin k g).thm = s.thm := rfl
@[simp] theorem State.modPin_flt (s : State) (k : Nat) (g : PosIn → PosIn) : (s.modPin k g).flt = s.flt := rfl
@[simp] theorem State.modPin_cal (s : State) (k : Nat) (g : PosIn → PosIn) : (s.modPin k g).cal = s.cal := rfl
@[simp] theorem State.modPin_mem (s : State) (k : Nat) (g : PosIn → PosIn) : (s.modPin k g).mem = s.mem := rfl
@[simp] theorem State.modPin_pmc (s : State) (k : Nat) (g : PosIn → PosIn) : (s.modPin k g).pmc = s.pmc := rfl
@[simp] theorem State.modPin_clk (s : State) (k : Nat) (g : PosIn → PosIn) : (s.modPin k g).clk = s.clk := rfl
@[simp] theorem State.modPin_svc (s : State) (k : Nat) (g : PosIn → PosIn) : (s.modPin k g).svc = s.svc := rfl
@[simp] theorem State.modPin_out (s : State) (k : Nat) (g : PosIn → PosIn) : (s.modPin k g).out = s.out := rfl
@[simp] theorem State.modPin_draws (s : State) (k : Nat) (g : PosIn → PosIn) : (s.modPin k g).draws = s.draws := rfl
@[simp] theorem State.modPin_pending (s : State) (k : Nat) (g : PosIn → PosIn) : (s.modPin k g).pending = s.pending := rfl
@[simp] theorem State.modPin_pin (s : State) (k : Nat) (g : PosIn → PosIn) (j : Nat) :
    (s.modPin k g).pin j = if j = k then g (s.pin k) else s.pin j := tget_tupd ..
@[simp] theorem State.modPin_win (s : State) (k : Nat) (g : PosIn → PosIn) (j : Nat) : (s.modPin k g).win j = s.win j := rfl
@[simp] theorem State.modPin_fireT (s : State) (k : Nat) (g : PosIn → PosIn) (j : Nat) : (s.modPin k g).fireT j = s.fireT j := rfl
@[simp] theorem State.modPin_lane (s : State) (k : Nat) (g : PosIn → PosIn) (j : Nat) : (s.modPin k g).lane j = s.lane j := rfl
@[simp] theorem State.modPin_th (s : State) (k : Nat) (g : PosIn → PosIn) (j : Nat) : (s.modPin k g).th j = s.th j := rfl
@[simp] theorem State.modPin_port (s : State) (k : Nat) (g : PosIn → PosIn) (j : Nat) : (s.modPin k g).port j = s.port j := rfl
@[simp] theorem State.modPin_stream (s : State) (k : Nat) (g : PosIn → PosIn) (j : Nat) : (s.modPin k g).stream j = s.stream j := rfl
@[simp] theorem State.modPin_axis (s : State) (k : Nat) (g : PosIn → PosIn) (j : Nat) : (s.modPin k g).axis j = s.axis j := rfl
@[simp] theorem State.modPin_rail (s : State) (k : Nat) (g : PosIn → PosIn) (j : Nat) : (s.modPin k g).rail j = s.rail j := rfl
@[simp] theorem State.modPin_sensor (s : State) (k : Nat) (g : PosIn → PosIn) (j : Nat) : (s.modPin k g).sensor j = s.sensor j := rfl
@[simp] theorem State.modPin_tileRec? (s : State) (k : Nat) (g : PosIn → PosIn) (j : Nat) : (s.modPin k g).tileRec? j = s.tileRec? j := rfl
@[simp] theorem State.modPin_posRec (s : State) (k : Nat) (g : PosIn → PosIn) (j : Nat) : (s.modPin k g).posRec j = s.posRec j := rfl
@[simp] theorem State.modPin_reg (s : State) (k : Nat) (g : PosIn → PosIn) (off : Nat) : (s.modPin k g).reg off = s.reg off := rfl
@[simp] theorem State.modPin_f (s : State) (k : Nat) (g : PosIn → PosIn) (fd : Field) : (s.modPin k g).f fd = s.f fd := rfl
@[simp] theorem State.modPin_fs (s : State) (k : Nat) (g : PosIn → PosIn) (fd : Field) : (s.modPin k g).fs fd = s.fs fd := rfl
@[simp] theorem State.modPin_fb (s : State) (k : Nat) (g : PosIn → PosIn) (fd : Field) : (s.modPin k g).fb fd = s.fb fd := rfl
@[simp] theorem State.modPin_st (s : State) (k : Nat) (g : PosIn → PosIn) : (s.modPin k g).st = s.st := rfl
@[simp] theorem State.modPin_powered (s : State) (k : Nat) (g : PosIn → PosIn) : (s.modPin k g).powered = s.powered := rfl
@[simp] theorem State.modAxis_regs (s : State) (k : Nat) (g : Axis → Axis) : (s.modAxis k g).regs = s.regs := rfl
@[simp] theorem State.modAxis_snaps (s : State) (k : Nat) (g : Axis → Axis) : (s.modAxis k g).snaps = s.snaps := rfl
@[simp] theorem State.modAxis_lows (s : State) (k : Nat) (g : Axis → Axis) : (s.modAxis k g).lows = s.lows := rfl
@[simp] theorem State.modAxis_now (s : State) (k : Nat) (g : Axis → Axis) : (s.modAxis k g).now = s.now := rfl
@[simp] theorem State.modAxis_ident (s : State) (k : Nat) (g : Axis → Axis) : (s.modAxis k g).ident = s.ident := rfl
@[simp] theorem State.modAxis_nv (s : State) (k : Nat) (g : Axis → Axis) : (s.modAxis k g).nv = s.nv := rfl
@[simp] theorem State.modAxis_sys (s : State) (k : Nat) (g : Axis → Axis) : (s.modAxis k g).sys = s.sys := rfl
@[simp] theorem State.modAxis_cfg (s : State) (k : Nat) (g : Axis → Axis) : (s.modAxis k g).cfg = s.cfg := rfl
@[simp] theorem State.modAxis_pos (s : State) (k : Nat) (g : Axis → Axis) : (s.modAxis k g).pos = s.pos := rfl
@[simp] theorem State.modAxis_fire (s : State) (k : Nat) (g : Axis → Axis) : (s.modAxis k g).fire = s.fire := rfl
@[simp] theorem State.modAxis_wins (s : State) (k : Nat) (g : Axis → Axis) : (s.modAxis k g).wins = s.wins := rfl
@[simp] theorem State.modAxis_noz (s : State) (k : Nat) (g : Axis → Axis) : (s.modAxis k g).noz = s.noz := rfl
@[simp] theorem State.modAxis_tileH (s : State) (k : Nat) (g : Axis → Axis) : (s.modAxis k g).tileH = s.tileH := rfl
@[simp] theorem State.modAxis_lanes (s : State) (k : Nat) (g : Axis → Axis) : (s.modAxis k g).lanes = s.lanes := rfl
@[simp] theorem State.modAxis_health (s : State) (k : Nat) (g : Axis → Axis) : (s.modAxis k g).health = s.health := rfl
@[simp] theorem State.modAxis_comp (s : State) (k : Nat) (g : Axis → Axis) : (s.modAxis k g).comp = s.comp := rfl
@[simp] theorem State.modAxis_host (s : State) (k : Nat) (g : Axis → Axis) : (s.modAxis k g).host = s.host := rfl
@[simp] theorem State.modAxis_dma (s : State) (k : Nat) (g : Axis → Axis) : (s.modAxis k g).dma = s.dma := rfl
@[simp] theorem State.modAxis_ring (s : State) (k : Nat) (g : Axis → Axis) : (s.modAxis k g).ring = s.ring := rfl
@[simp] theorem State.modAxis_ports (s : State) (k : Nat) (g : Axis → Axis) : (s.modAxis k g).ports = s.ports := rfl
@[simp] theorem State.modAxis_pwr (s : State) (k : Nat) (g : Axis → Axis) : (s.modAxis k g).pwr = s.pwr := rfl
@[simp] theorem State.modAxis_thm (s : State) (k : Nat) (g : Axis → Axis) : (s.modAxis k g).thm = s.thm := rfl
@[simp] theorem State.modAxis_flt (s : State) (k : Nat) (g : Axis → Axis) : (s.modAxis k g).flt = s.flt := rfl
@[simp] theorem State.modAxis_cal (s : State) (k : Nat) (g : Axis → Axis) : (s.modAxis k g).cal = s.cal := rfl
@[simp] theorem State.modAxis_mem (s : State) (k : Nat) (g : Axis → Axis) : (s.modAxis k g).mem = s.mem := rfl
@[simp] theorem State.modAxis_pmc (s : State) (k : Nat) (g : Axis → Axis) : (s.modAxis k g).pmc = s.pmc := rfl
@[simp] theorem State.modAxis_clk (s : State) (k : Nat) (g : Axis → Axis) : (s.modAxis k g).clk = s.clk := rfl
@[simp] theorem State.modAxis_svc (s : State) (k : Nat) (g : Axis → Axis) : (s.modAxis k g).svc = s.svc := rfl
@[simp] theorem State.modAxis_out (s : State) (k : Nat) (g : Axis → Axis) : (s.modAxis k g).out = s.out := rfl
@[simp] theorem State.modAxis_draws (s : State) (k : Nat) (g : Axis → Axis) : (s.modAxis k g).draws = s.draws := rfl
@[simp] theorem State.modAxis_pending (s : State) (k : Nat) (g : Axis → Axis) : (s.modAxis k g).pending = s.pending := rfl
@[simp] theorem State.modAxis_axis (s : State) (k : Nat) (g : Axis → Axis) (j : Nat) :
    (s.modAxis k g).axis j = if j = k then g (s.axis k) else s.axis j := tget_tupd ..
@[simp] theorem State.modAxis_win (s : State) (k : Nat) (g : Axis → Axis) (j : Nat) : (s.modAxis k g).win j = s.win j := rfl
@[simp] theorem State.modAxis_fireT (s : State) (k : Nat) (g : Axis → Axis) (j : Nat) : (s.modAxis k g).fireT j = s.fireT j := rfl
@[simp] theorem State.modAxis_lane (s : State) (k : Nat) (g : Axis → Axis) (j : Nat) : (s.modAxis k g).lane j = s.lane j := rfl
@[simp] theorem State.modAxis_th (s : State) (k : Nat) (g : Axis → Axis) (j : Nat) : (s.modAxis k g).th j = s.th j := rfl
@[simp] theorem State.modAxis_port (s : State) (k : Nat) (g : Axis → Axis) (j : Nat) : (s.modAxis k g).port j = s.port j := rfl
@[simp] theorem State.modAxis_stream (s : State) (k : Nat) (g : Axis → Axis) (j : Nat) : (s.modAxis k g).stream j = s.stream j := rfl
@[simp] theorem State.modAxis_pin (s : State) (k : Nat) (g : Axis → Axis) (j : Nat) : (s.modAxis k g).pin j = s.pin j := rfl
@[simp] theorem State.modAxis_rail (s : State) (k : Nat) (g : Axis → Axis) (j : Nat) : (s.modAxis k g).rail j = s.rail j := rfl
@[simp] theorem State.modAxis_sensor (s : State) (k : Nat) (g : Axis → Axis) (j : Nat) : (s.modAxis k g).sensor j = s.sensor j := rfl
@[simp] theorem State.modAxis_tileRec? (s : State) (k : Nat) (g : Axis → Axis) (j : Nat) : (s.modAxis k g).tileRec? j = s.tileRec? j := rfl
@[simp] theorem State.modAxis_posRec (s : State) (k : Nat) (g : Axis → Axis) (j : Nat) : (s.modAxis k g).posRec j = s.posRec j := rfl
@[simp] theorem State.modAxis_reg (s : State) (k : Nat) (g : Axis → Axis) (off : Nat) : (s.modAxis k g).reg off = s.reg off := rfl
@[simp] theorem State.modAxis_f (s : State) (k : Nat) (g : Axis → Axis) (fd : Field) : (s.modAxis k g).f fd = s.f fd := rfl
@[simp] theorem State.modAxis_fs (s : State) (k : Nat) (g : Axis → Axis) (fd : Field) : (s.modAxis k g).fs fd = s.fs fd := rfl
@[simp] theorem State.modAxis_fb (s : State) (k : Nat) (g : Axis → Axis) (fd : Field) : (s.modAxis k g).fb fd = s.fb fd := rfl
@[simp] theorem State.modAxis_st (s : State) (k : Nat) (g : Axis → Axis) : (s.modAxis k g).st = s.st := rfl
@[simp] theorem State.modAxis_powered (s : State) (k : Nat) (g : Axis → Axis) : (s.modAxis k g).powered = s.powered := rfl
@[simp] theorem State.modRail_regs (s : State) (k : Nat) (g : Rail → Rail) : (s.modRail k g).regs = s.regs := rfl
@[simp] theorem State.modRail_snaps (s : State) (k : Nat) (g : Rail → Rail) : (s.modRail k g).snaps = s.snaps := rfl
@[simp] theorem State.modRail_lows (s : State) (k : Nat) (g : Rail → Rail) : (s.modRail k g).lows = s.lows := rfl
@[simp] theorem State.modRail_now (s : State) (k : Nat) (g : Rail → Rail) : (s.modRail k g).now = s.now := rfl
@[simp] theorem State.modRail_ident (s : State) (k : Nat) (g : Rail → Rail) : (s.modRail k g).ident = s.ident := rfl
@[simp] theorem State.modRail_nv (s : State) (k : Nat) (g : Rail → Rail) : (s.modRail k g).nv = s.nv := rfl
@[simp] theorem State.modRail_sys (s : State) (k : Nat) (g : Rail → Rail) : (s.modRail k g).sys = s.sys := rfl
@[simp] theorem State.modRail_cfg (s : State) (k : Nat) (g : Rail → Rail) : (s.modRail k g).cfg = s.cfg := rfl
@[simp] theorem State.modRail_pos (s : State) (k : Nat) (g : Rail → Rail) : (s.modRail k g).pos = s.pos := rfl
@[simp] theorem State.modRail_fire (s : State) (k : Nat) (g : Rail → Rail) : (s.modRail k g).fire = s.fire := rfl
@[simp] theorem State.modRail_wins (s : State) (k : Nat) (g : Rail → Rail) : (s.modRail k g).wins = s.wins := rfl
@[simp] theorem State.modRail_noz (s : State) (k : Nat) (g : Rail → Rail) : (s.modRail k g).noz = s.noz := rfl
@[simp] theorem State.modRail_tileH (s : State) (k : Nat) (g : Rail → Rail) : (s.modRail k g).tileH = s.tileH := rfl
@[simp] theorem State.modRail_lanes (s : State) (k : Nat) (g : Rail → Rail) : (s.modRail k g).lanes = s.lanes := rfl
@[simp] theorem State.modRail_health (s : State) (k : Nat) (g : Rail → Rail) : (s.modRail k g).health = s.health := rfl
@[simp] theorem State.modRail_comp (s : State) (k : Nat) (g : Rail → Rail) : (s.modRail k g).comp = s.comp := rfl
@[simp] theorem State.modRail_host (s : State) (k : Nat) (g : Rail → Rail) : (s.modRail k g).host = s.host := rfl
@[simp] theorem State.modRail_dma (s : State) (k : Nat) (g : Rail → Rail) : (s.modRail k g).dma = s.dma := rfl
@[simp] theorem State.modRail_ring (s : State) (k : Nat) (g : Rail → Rail) : (s.modRail k g).ring = s.ring := rfl
@[simp] theorem State.modRail_ports (s : State) (k : Nat) (g : Rail → Rail) : (s.modRail k g).ports = s.ports := rfl
@[simp] theorem State.modRail_mot (s : State) (k : Nat) (g : Rail → Rail) : (s.modRail k g).mot = s.mot := rfl
@[simp] theorem State.modRail_thm (s : State) (k : Nat) (g : Rail → Rail) : (s.modRail k g).thm = s.thm := rfl
@[simp] theorem State.modRail_flt (s : State) (k : Nat) (g : Rail → Rail) : (s.modRail k g).flt = s.flt := rfl
@[simp] theorem State.modRail_cal (s : State) (k : Nat) (g : Rail → Rail) : (s.modRail k g).cal = s.cal := rfl
@[simp] theorem State.modRail_mem (s : State) (k : Nat) (g : Rail → Rail) : (s.modRail k g).mem = s.mem := rfl
@[simp] theorem State.modRail_pmc (s : State) (k : Nat) (g : Rail → Rail) : (s.modRail k g).pmc = s.pmc := rfl
@[simp] theorem State.modRail_clk (s : State) (k : Nat) (g : Rail → Rail) : (s.modRail k g).clk = s.clk := rfl
@[simp] theorem State.modRail_svc (s : State) (k : Nat) (g : Rail → Rail) : (s.modRail k g).svc = s.svc := rfl
@[simp] theorem State.modRail_out (s : State) (k : Nat) (g : Rail → Rail) : (s.modRail k g).out = s.out := rfl
@[simp] theorem State.modRail_draws (s : State) (k : Nat) (g : Rail → Rail) : (s.modRail k g).draws = s.draws := rfl
@[simp] theorem State.modRail_pending (s : State) (k : Nat) (g : Rail → Rail) : (s.modRail k g).pending = s.pending := rfl
@[simp] theorem State.modRail_rail (s : State) (k : Nat) (g : Rail → Rail) (j : Nat) :
    (s.modRail k g).rail j = if j = k then g (s.rail k) else s.rail j := tget_tupd ..
@[simp] theorem State.modRail_win (s : State) (k : Nat) (g : Rail → Rail) (j : Nat) : (s.modRail k g).win j = s.win j := rfl
@[simp] theorem State.modRail_fireT (s : State) (k : Nat) (g : Rail → Rail) (j : Nat) : (s.modRail k g).fireT j = s.fireT j := rfl
@[simp] theorem State.modRail_lane (s : State) (k : Nat) (g : Rail → Rail) (j : Nat) : (s.modRail k g).lane j = s.lane j := rfl
@[simp] theorem State.modRail_th (s : State) (k : Nat) (g : Rail → Rail) (j : Nat) : (s.modRail k g).th j = s.th j := rfl
@[simp] theorem State.modRail_port (s : State) (k : Nat) (g : Rail → Rail) (j : Nat) : (s.modRail k g).port j = s.port j := rfl
@[simp] theorem State.modRail_stream (s : State) (k : Nat) (g : Rail → Rail) (j : Nat) : (s.modRail k g).stream j = s.stream j := rfl
@[simp] theorem State.modRail_pin (s : State) (k : Nat) (g : Rail → Rail) (j : Nat) : (s.modRail k g).pin j = s.pin j := rfl
@[simp] theorem State.modRail_axis (s : State) (k : Nat) (g : Rail → Rail) (j : Nat) : (s.modRail k g).axis j = s.axis j := rfl
@[simp] theorem State.modRail_sensor (s : State) (k : Nat) (g : Rail → Rail) (j : Nat) : (s.modRail k g).sensor j = s.sensor j := rfl
@[simp] theorem State.modRail_tileRec? (s : State) (k : Nat) (g : Rail → Rail) (j : Nat) : (s.modRail k g).tileRec? j = s.tileRec? j := rfl
@[simp] theorem State.modRail_posRec (s : State) (k : Nat) (g : Rail → Rail) (j : Nat) : (s.modRail k g).posRec j = s.posRec j := rfl
@[simp] theorem State.modRail_reg (s : State) (k : Nat) (g : Rail → Rail) (off : Nat) : (s.modRail k g).reg off = s.reg off := rfl
@[simp] theorem State.modRail_f (s : State) (k : Nat) (g : Rail → Rail) (fd : Field) : (s.modRail k g).f fd = s.f fd := rfl
@[simp] theorem State.modRail_fs (s : State) (k : Nat) (g : Rail → Rail) (fd : Field) : (s.modRail k g).fs fd = s.fs fd := rfl
@[simp] theorem State.modRail_fb (s : State) (k : Nat) (g : Rail → Rail) (fd : Field) : (s.modRail k g).fb fd = s.fb fd := rfl
@[simp] theorem State.modRail_st (s : State) (k : Nat) (g : Rail → Rail) : (s.modRail k g).st = s.st := rfl
@[simp] theorem State.modRail_powered (s : State) (k : Nat) (g : Rail → Rail) : (s.modRail k g).powered = s.powered := rfl
@[simp] theorem State.modSensor_regs (s : State) (k : Nat) (g : Sensor → Sensor) : (s.modSensor k g).regs = s.regs := rfl
@[simp] theorem State.modSensor_snaps (s : State) (k : Nat) (g : Sensor → Sensor) : (s.modSensor k g).snaps = s.snaps := rfl
@[simp] theorem State.modSensor_lows (s : State) (k : Nat) (g : Sensor → Sensor) : (s.modSensor k g).lows = s.lows := rfl
@[simp] theorem State.modSensor_now (s : State) (k : Nat) (g : Sensor → Sensor) : (s.modSensor k g).now = s.now := rfl
@[simp] theorem State.modSensor_ident (s : State) (k : Nat) (g : Sensor → Sensor) : (s.modSensor k g).ident = s.ident := rfl
@[simp] theorem State.modSensor_nv (s : State) (k : Nat) (g : Sensor → Sensor) : (s.modSensor k g).nv = s.nv := rfl
@[simp] theorem State.modSensor_sys (s : State) (k : Nat) (g : Sensor → Sensor) : (s.modSensor k g).sys = s.sys := rfl
@[simp] theorem State.modSensor_cfg (s : State) (k : Nat) (g : Sensor → Sensor) : (s.modSensor k g).cfg = s.cfg := rfl
@[simp] theorem State.modSensor_pos (s : State) (k : Nat) (g : Sensor → Sensor) : (s.modSensor k g).pos = s.pos := rfl
@[simp] theorem State.modSensor_fire (s : State) (k : Nat) (g : Sensor → Sensor) : (s.modSensor k g).fire = s.fire := rfl
@[simp] theorem State.modSensor_wins (s : State) (k : Nat) (g : Sensor → Sensor) : (s.modSensor k g).wins = s.wins := rfl
@[simp] theorem State.modSensor_noz (s : State) (k : Nat) (g : Sensor → Sensor) : (s.modSensor k g).noz = s.noz := rfl
@[simp] theorem State.modSensor_tileH (s : State) (k : Nat) (g : Sensor → Sensor) : (s.modSensor k g).tileH = s.tileH := rfl
@[simp] theorem State.modSensor_lanes (s : State) (k : Nat) (g : Sensor → Sensor) : (s.modSensor k g).lanes = s.lanes := rfl
@[simp] theorem State.modSensor_health (s : State) (k : Nat) (g : Sensor → Sensor) : (s.modSensor k g).health = s.health := rfl
@[simp] theorem State.modSensor_comp (s : State) (k : Nat) (g : Sensor → Sensor) : (s.modSensor k g).comp = s.comp := rfl
@[simp] theorem State.modSensor_host (s : State) (k : Nat) (g : Sensor → Sensor) : (s.modSensor k g).host = s.host := rfl
@[simp] theorem State.modSensor_dma (s : State) (k : Nat) (g : Sensor → Sensor) : (s.modSensor k g).dma = s.dma := rfl
@[simp] theorem State.modSensor_ring (s : State) (k : Nat) (g : Sensor → Sensor) : (s.modSensor k g).ring = s.ring := rfl
@[simp] theorem State.modSensor_ports (s : State) (k : Nat) (g : Sensor → Sensor) : (s.modSensor k g).ports = s.ports := rfl
@[simp] theorem State.modSensor_pwr (s : State) (k : Nat) (g : Sensor → Sensor) : (s.modSensor k g).pwr = s.pwr := rfl
@[simp] theorem State.modSensor_mot (s : State) (k : Nat) (g : Sensor → Sensor) : (s.modSensor k g).mot = s.mot := rfl
@[simp] theorem State.modSensor_flt (s : State) (k : Nat) (g : Sensor → Sensor) : (s.modSensor k g).flt = s.flt := rfl
@[simp] theorem State.modSensor_cal (s : State) (k : Nat) (g : Sensor → Sensor) : (s.modSensor k g).cal = s.cal := rfl
@[simp] theorem State.modSensor_mem (s : State) (k : Nat) (g : Sensor → Sensor) : (s.modSensor k g).mem = s.mem := rfl
@[simp] theorem State.modSensor_pmc (s : State) (k : Nat) (g : Sensor → Sensor) : (s.modSensor k g).pmc = s.pmc := rfl
@[simp] theorem State.modSensor_clk (s : State) (k : Nat) (g : Sensor → Sensor) : (s.modSensor k g).clk = s.clk := rfl
@[simp] theorem State.modSensor_svc (s : State) (k : Nat) (g : Sensor → Sensor) : (s.modSensor k g).svc = s.svc := rfl
@[simp] theorem State.modSensor_out (s : State) (k : Nat) (g : Sensor → Sensor) : (s.modSensor k g).out = s.out := rfl
@[simp] theorem State.modSensor_draws (s : State) (k : Nat) (g : Sensor → Sensor) : (s.modSensor k g).draws = s.draws := rfl
@[simp] theorem State.modSensor_pending (s : State) (k : Nat) (g : Sensor → Sensor) : (s.modSensor k g).pending = s.pending := rfl
@[simp] theorem State.modSensor_sensor (s : State) (k : Nat) (g : Sensor → Sensor) (j : Nat) :
    (s.modSensor k g).sensor j = if j = k then g (s.sensor k) else s.sensor j := tget_tupd ..
@[simp] theorem State.modSensor_win (s : State) (k : Nat) (g : Sensor → Sensor) (j : Nat) : (s.modSensor k g).win j = s.win j := rfl
@[simp] theorem State.modSensor_fireT (s : State) (k : Nat) (g : Sensor → Sensor) (j : Nat) : (s.modSensor k g).fireT j = s.fireT j := rfl
@[simp] theorem State.modSensor_lane (s : State) (k : Nat) (g : Sensor → Sensor) (j : Nat) : (s.modSensor k g).lane j = s.lane j := rfl
@[simp] theorem State.modSensor_th (s : State) (k : Nat) (g : Sensor → Sensor) (j : Nat) : (s.modSensor k g).th j = s.th j := rfl
@[simp] theorem State.modSensor_port (s : State) (k : Nat) (g : Sensor → Sensor) (j : Nat) : (s.modSensor k g).port j = s.port j := rfl
@[simp] theorem State.modSensor_stream (s : State) (k : Nat) (g : Sensor → Sensor) (j : Nat) : (s.modSensor k g).stream j = s.stream j := rfl
@[simp] theorem State.modSensor_pin (s : State) (k : Nat) (g : Sensor → Sensor) (j : Nat) : (s.modSensor k g).pin j = s.pin j := rfl
@[simp] theorem State.modSensor_axis (s : State) (k : Nat) (g : Sensor → Sensor) (j : Nat) : (s.modSensor k g).axis j = s.axis j := rfl
@[simp] theorem State.modSensor_rail (s : State) (k : Nat) (g : Sensor → Sensor) (j : Nat) : (s.modSensor k g).rail j = s.rail j := rfl
@[simp] theorem State.modSensor_tileRec? (s : State) (k : Nat) (g : Sensor → Sensor) (j : Nat) : (s.modSensor k g).tileRec? j = s.tileRec? j := rfl
@[simp] theorem State.modSensor_posRec (s : State) (k : Nat) (g : Sensor → Sensor) (j : Nat) : (s.modSensor k g).posRec j = s.posRec j := rfl
@[simp] theorem State.modSensor_reg (s : State) (k : Nat) (g : Sensor → Sensor) (off : Nat) : (s.modSensor k g).reg off = s.reg off := rfl
@[simp] theorem State.modSensor_f (s : State) (k : Nat) (g : Sensor → Sensor) (fd : Field) : (s.modSensor k g).f fd = s.f fd := rfl
@[simp] theorem State.modSensor_fs (s : State) (k : Nat) (g : Sensor → Sensor) (fd : Field) : (s.modSensor k g).fs fd = s.fs fd := rfl
@[simp] theorem State.modSensor_fb (s : State) (k : Nat) (g : Sensor → Sensor) (fd : Field) : (s.modSensor k g).fb fd = s.fb fd := rfl
@[simp] theorem State.modSensor_st (s : State) (k : Nat) (g : Sensor → Sensor) : (s.modSensor k g).st = s.st := rfl
@[simp] theorem State.modSensor_powered (s : State) (k : Nat) (g : Sensor → Sensor) : (s.modSensor k g).powered = s.powered := rfl

/-! ### Registers and fields after an update -/

/-- A field's bits in a word: its width at its place. -/
theorem Field.get_eq (fd : Field) (x : Word) : fd.get x = (x >>> fd.lo).toNat % 2 ^ fd.w := by
  simp [Field.get, BitVec.toNat_ushiftRight, Nat.shiftRight_eq_div_pow]

theorem Field.mask_getLsbD (fd : Field) (i : Nat) (h : i < 32) :
    fd.mask.getLsbD i = decide (fd.lo ≤ i ∧ i < fd.lo + fd.w) := by
  simp only [Field.mask, BitVec.getLsbD_ofNat, h, decide_true, Bool.true_and, Nat.testBit_mul_two_pow, Nat.testBit_two_pow_sub_one]
  by_cases hl : fd.lo ≤ i <;> simp [hl]; omega

theorem Field.put_getLsbD (fd : Field) (x : Word) (v i : Nat) (h : i < 32) :
    (fd.put x v).getLsbD i = if fd.lo ≤ i ∧ i < fd.lo + fd.w then v.testBit (i - fd.lo) else x.getLsbD i := by
  simp only [Field.put, BitVec.getLsbD_or, BitVec.getLsbD_and, BitVec.getLsbD_not, Field.mask_getLsbD fd i h, h,
    BitVec.getLsbD_ofNat, decide_true, Bool.true_and, Nat.testBit_mul_two_pow, Nat.testBit_mod_two_pow]
  by_cases h1 : fd.lo ≤ i <;> by_cases h2 : i < fd.lo + fd.w <;> simp [h1, h2] <;> omega

theorem Field.get_testBit (fd : Field) (x : Word) (i : Nat) :
    (fd.get x).testBit i = (decide (i < fd.w) && x.getLsbD (fd.lo + i)) := by
  simp only [Field.get_eq, Nat.testBit_mod_two_pow, ← BitVec.testBit_toNat, BitVec.toNat_ushiftRight, Nat.testBit_shiftRight]

/-- A field reads as the value put into it, kept to its width. -/
@[simp] theorem Field.get_put_same (fd : Field) (x : Word) (v : Nat) (h : fd.lo + fd.w ≤ 32) :
    fd.get (fd.put x v) = v % 2 ^ fd.w := by
  apply Nat.eq_of_testBit_eq
  intro i
  rw [Field.get_testBit, Nat.testBit_mod_two_pow]
  by_cases hi : i < fd.w
  · rw [Field.put_getLsbD fd x v _ (by omega), if_pos (by omega)]
    simp [hi]
  · simp [hi]

/-- A field with no bit in common with another keeps its value when the other is replaced. -/
theorem Field.get_put_disj (fd gd : Field) (x : Word) (v : Nat) (h : gd.lo + gd.w ≤ fd.lo ∨ fd.lo + fd.w ≤ gd.lo) :
    gd.get (fd.put x v) = gd.get x := by
  apply Nat.eq_of_testBit_eq
  intro i
  rw [Field.get_testBit, Field.get_testBit]
  by_cases hi : i < gd.w
  · by_cases h32 : gd.lo + i < 32
    · rw [Field.put_getLsbD fd x v _ h32, if_neg (by omega)]
    · rw [BitVec.getLsbD_of_ge _ _ (by omega), BitVec.getLsbD_of_ge _ _ (by omega)]
  · simp [hi]

theorem State.reg_setReg (s : State) (o p : Nat) (x : Word) : (s.setReg o x).reg p = if p = o then x else s.reg p :=
  Sparse.get_put ..

@[simp] theorem State.reg_setReg_same (s : State) (o : Nat) (x : Word) : (s.setReg o x).reg o = x := by
  simp [State.reg_setReg]

theorem State.reg_setReg_other (s : State) (o p : Nat) (x : Word) (h : p ≠ o) : (s.setReg o x).reg p = s.reg p := by
  simp [State.reg_setReg, h]

/-- A register other than the field's keeps its word. -/
theorem State.reg_setF_other (s : State) (fd : Field) (v p : Nat) (h : p ≠ fd.off) : (s.setF fd v).reg p = s.reg p :=
  State.reg_setReg_other _ _ _ _ h

@[simp] theorem State.f_setF_same (s : State) (fd : Field) (v : Nat) (h : fd.lo + fd.w ≤ 32 := by decide) :
    (s.setF fd v).f fd = v % 2 ^ fd.w := by
  simp [State.f, State.setF, h]

/-- A field of another register, or with no bit in common, keeps its value. -/
theorem State.f_setF_other (s : State) (fd gd : Field) (v : Nat)
    (h : gd.off ≠ fd.off ∨ gd.lo + gd.w ≤ fd.lo ∨ fd.lo + fd.w ≤ gd.lo) : (s.setF fd v).f gd = s.f gd := by
  rcases h with h | h
  · simp [State.f, State.reg_setF_other _ _ _ _ h]
  · by_cases ho : gd.off = fd.off
    · simp only [State.f, State.setF, ho, State.reg_setReg_same, Field.get_put_disj fd gd _ v h]
    · simp [State.f, State.reg_setF_other _ _ _ _ ho]

theorem State.fb_setF_other (s : State) (fd gd : Field) (v : Nat)
    (h : gd.off ≠ fd.off ∨ gd.lo + gd.w ≤ fd.lo ∨ fd.lo + fd.w ≤ gd.lo) : (s.setF fd v).fb gd = s.fb gd := by
  simp only [State.fb, State.f_setF_other s fd gd v h]

/-! ### Time moves on: the instant and the performance counters change, and nothing else -/

theorem State.pmcAdd_eq (k : Nat) (s : State) (n : Nat) : s.pmcAdd k n = { s with regs := (s.pmcAdd k n).regs } := by
  simp only [State.pmcAdd]; split <;> rfl

theorem State.count_eq (s : State) (ev u k : Nat) : s.count ev u k = { s with regs := (s.count ev u k).regs } := by
  unfold State.count
  split
  · rfl
  · next hc =>
    clear hc
    generalize s.pmcSelected ev u = l
    induction l generalizing s with
    | nil => rfl
    | cons n r ih => rw [List.foldl_cons, ih, State.pmcAdd_eq]

theorem State.at_eq (s : State) (t : Nat) : s.at t = { s with now := max s.now t, regs := (s.at t).regs } := by
  simp only [State.at]
  rw [State.count_eq]

@[simp] theorem State.at_now (s : State) (t : Nat) : (s.at t).now = max s.now t := by rw [State.at_eq]
@[simp] theorem State.at_snaps (s : State) (t : Nat) : (s.at t).snaps = s.snaps := by rw [State.at_eq]
@[simp] theorem State.count_snaps (s : State) (ev u k : Nat) : (s.count ev u k).snaps = s.snaps := by rw [State.count_eq]
@[simp] theorem State.at_lows (s : State) (t : Nat) : (s.at t).lows = s.lows := by rw [State.at_eq]
@[simp] theorem State.count_lows (s : State) (ev u k : Nat) : (s.count ev u k).lows = s.lows := by rw [State.count_eq]
@[simp] theorem State.at_ident (s : State) (t : Nat) : (s.at t).ident = s.ident := by rw [State.at_eq]
@[simp] theorem State.count_ident (s : State) (ev u k : Nat) : (s.count ev u k).ident = s.ident := by rw [State.count_eq]
@[simp] theorem State.at_nv (s : State) (t : Nat) : (s.at t).nv = s.nv := by rw [State.at_eq]
@[simp] theorem State.count_nv (s : State) (ev u k : Nat) : (s.count ev u k).nv = s.nv := by rw [State.count_eq]
@[simp] theorem State.at_sys (s : State) (t : Nat) : (s.at t).sys = s.sys := by rw [State.at_eq]
@[simp] theorem State.count_sys (s : State) (ev u k : Nat) : (s.count ev u k).sys = s.sys := by rw [State.count_eq]
@[simp] theorem State.at_cfg (s : State) (t : Nat) : (s.at t).cfg = s.cfg := by rw [State.at_eq]
@[simp] theorem State.count_cfg (s : State) (ev u k : Nat) : (s.count ev u k).cfg = s.cfg := by rw [State.count_eq]
@[simp] theorem State.at_pos (s : State) (t : Nat) : (s.at t).pos = s.pos := by rw [State.at_eq]
@[simp] theorem State.count_pos (s : State) (ev u k : Nat) : (s.count ev u k).pos = s.pos := by rw [State.count_eq]
@[simp] theorem State.at_fire (s : State) (t : Nat) : (s.at t).fire = s.fire := by rw [State.at_eq]
@[simp] theorem State.count_fire (s : State) (ev u k : Nat) : (s.count ev u k).fire = s.fire := by rw [State.count_eq]
@[simp] theorem State.at_wins (s : State) (t : Nat) : (s.at t).wins = s.wins := by rw [State.at_eq]
@[simp] theorem State.count_wins (s : State) (ev u k : Nat) : (s.count ev u k).wins = s.wins := by rw [State.count_eq]
@[simp] theorem State.at_noz (s : State) (t : Nat) : (s.at t).noz = s.noz := by rw [State.at_eq]
@[simp] theorem State.count_noz (s : State) (ev u k : Nat) : (s.count ev u k).noz = s.noz := by rw [State.count_eq]
@[simp] theorem State.at_tileH (s : State) (t : Nat) : (s.at t).tileH = s.tileH := by rw [State.at_eq]
@[simp] theorem State.count_tileH (s : State) (ev u k : Nat) : (s.count ev u k).tileH = s.tileH := by rw [State.count_eq]
@[simp] theorem State.at_lanes (s : State) (t : Nat) : (s.at t).lanes = s.lanes := by rw [State.at_eq]
@[simp] theorem State.count_lanes (s : State) (ev u k : Nat) : (s.count ev u k).lanes = s.lanes := by rw [State.count_eq]
@[simp] theorem State.at_health (s : State) (t : Nat) : (s.at t).health = s.health := by rw [State.at_eq]
@[simp] theorem State.count_health (s : State) (ev u k : Nat) : (s.count ev u k).health = s.health := by rw [State.count_eq]
@[simp] theorem State.at_comp (s : State) (t : Nat) : (s.at t).comp = s.comp := by rw [State.at_eq]
@[simp] theorem State.count_comp (s : State) (ev u k : Nat) : (s.count ev u k).comp = s.comp := by rw [State.count_eq]
@[simp] theorem State.at_host (s : State) (t : Nat) : (s.at t).host = s.host := by rw [State.at_eq]
@[simp] theorem State.count_host (s : State) (ev u k : Nat) : (s.count ev u k).host = s.host := by rw [State.count_eq]
@[simp] theorem State.at_dma (s : State) (t : Nat) : (s.at t).dma = s.dma := by rw [State.at_eq]
@[simp] theorem State.count_dma (s : State) (ev u k : Nat) : (s.count ev u k).dma = s.dma := by rw [State.count_eq]
@[simp] theorem State.at_ring (s : State) (t : Nat) : (s.at t).ring = s.ring := by rw [State.at_eq]
@[simp] theorem State.count_ring (s : State) (ev u k : Nat) : (s.count ev u k).ring = s.ring := by rw [State.count_eq]
@[simp] theorem State.at_ports (s : State) (t : Nat) : (s.at t).ports = s.ports := by rw [State.at_eq]
@[simp] theorem State.count_ports (s : State) (ev u k : Nat) : (s.count ev u k).ports = s.ports := by rw [State.count_eq]
@[simp] theorem State.at_pwr (s : State) (t : Nat) : (s.at t).pwr = s.pwr := by rw [State.at_eq]
@[simp] theorem State.count_pwr (s : State) (ev u k : Nat) : (s.count ev u k).pwr = s.pwr := by rw [State.count_eq]
@[simp] theorem State.at_mot (s : State) (t : Nat) : (s.at t).mot = s.mot := by rw [State.at_eq]
@[simp] theorem State.count_mot (s : State) (ev u k : Nat) : (s.count ev u k).mot = s.mot := by rw [State.count_eq]
@[simp] theorem State.at_thm (s : State) (t : Nat) : (s.at t).thm = s.thm := by rw [State.at_eq]
@[simp] theorem State.count_thm (s : State) (ev u k : Nat) : (s.count ev u k).thm = s.thm := by rw [State.count_eq]
@[simp] theorem State.at_flt (s : State) (t : Nat) : (s.at t).flt = s.flt := by rw [State.at_eq]
@[simp] theorem State.count_flt (s : State) (ev u k : Nat) : (s.count ev u k).flt = s.flt := by rw [State.count_eq]
@[simp] theorem State.at_cal (s : State) (t : Nat) : (s.at t).cal = s.cal := by rw [State.at_eq]
@[simp] theorem State.count_cal (s : State) (ev u k : Nat) : (s.count ev u k).cal = s.cal := by rw [State.count_eq]
@[simp] theorem State.at_mem (s : State) (t : Nat) : (s.at t).mem = s.mem := by rw [State.at_eq]
@[simp] theorem State.count_mem (s : State) (ev u k : Nat) : (s.count ev u k).mem = s.mem := by rw [State.count_eq]
@[simp] theorem State.at_pmc (s : State) (t : Nat) : (s.at t).pmc = s.pmc := by rw [State.at_eq]
@[simp] theorem State.count_pmc (s : State) (ev u k : Nat) : (s.count ev u k).pmc = s.pmc := by rw [State.count_eq]
@[simp] theorem State.at_clk (s : State) (t : Nat) : (s.at t).clk = s.clk := by rw [State.at_eq]
@[simp] theorem State.count_clk (s : State) (ev u k : Nat) : (s.count ev u k).clk = s.clk := by rw [State.count_eq]
@[simp] theorem State.at_svc (s : State) (t : Nat) : (s.at t).svc = s.svc := by rw [State.at_eq]
@[simp] theorem State.count_svc (s : State) (ev u k : Nat) : (s.count ev u k).svc = s.svc := by rw [State.count_eq]
@[simp] theorem State.at_out (s : State) (t : Nat) : (s.at t).out = s.out := by rw [State.at_eq]
@[simp] theorem State.count_out (s : State) (ev u k : Nat) : (s.count ev u k).out = s.out := by rw [State.count_eq]
@[simp] theorem State.at_draws (s : State) (t : Nat) : (s.at t).draws = s.draws := by rw [State.at_eq]
@[simp] theorem State.count_draws (s : State) (ev u k : Nat) : (s.count ev u k).draws = s.draws := by rw [State.count_eq]
@[simp] theorem State.at_pending (s : State) (t : Nat) : (s.at t).pending = s.pending := by rw [State.at_eq]
@[simp] theorem State.count_pending (s : State) (ev u k : Nat) : (s.count ev u k).pending = s.pending := by rw [State.count_eq]
@[simp] theorem State.count_now (s : State) (ev u k : Nat) : (s.count ev u k).now = s.now := by rw [State.count_eq]
@[simp] theorem State.at_win (s : State) (t w : Nat) : (s.at t).win w = s.win w := by rw [State.at_eq]; rfl
@[simp] theorem State.count_win (s : State) (ev u k j : Nat) : (s.count ev u k).win j = s.win j := by rw [State.count_eq]; rfl
@[simp] theorem State.at_fireT (s : State) (t n : Nat) : (s.at t).fireT n = s.fireT n := by rw [State.at_eq]; rfl
@[simp] theorem State.count_fireT (s : State) (ev u k j : Nat) : (s.count ev u k).fireT j = s.fireT j := by rw [State.count_eq]; rfl
@[simp] theorem State.at_lane (s : State) (t e : Nat) : (s.at t).lane e = s.lane e := by rw [State.at_eq]; rfl
@[simp] theorem State.count_lane (s : State) (ev u k j : Nat) : (s.count ev u k).lane j = s.lane j := by rw [State.count_eq]; rfl
@[simp] theorem State.at_th (s : State) (t n : Nat) : (s.at t).th n = s.th n := by rw [State.at_eq]; rfl
@[simp] theorem State.count_th (s : State) (ev u k j : Nat) : (s.count ev u k).th j = s.th j := by rw [State.count_eq]; rfl
@[simp] theorem State.at_port (s : State) (t n : Nat) : (s.at t).port n = s.port n := by rw [State.at_eq]; rfl
@[simp] theorem State.count_port (s : State) (ev u k j : Nat) : (s.count ev u k).port j = s.port j := by rw [State.count_eq]; rfl
@[simp] theorem State.at_stream (s : State) (t k : Nat) : (s.at t).stream k = s.stream k := by rw [State.at_eq]; rfl
@[simp] theorem State.count_stream (s : State) (ev u k j : Nat) : (s.count ev u k).stream j = s.stream j := by rw [State.count_eq]; rfl
@[simp] theorem State.at_pin (s : State) (t n : Nat) : (s.at t).pin n = s.pin n := by rw [State.at_eq]; rfl
@[simp] theorem State.count_pin (s : State) (ev u k j : Nat) : (s.count ev u k).pin j = s.pin j := by rw [State.count_eq]; rfl
@[simp] theorem State.at_axis (s : State) (t a : Nat) : (s.at t).axis a = s.axis a := by rw [State.at_eq]; rfl
@[simp] theorem State.count_axis (s : State) (ev u k j : Nat) : (s.count ev u k).axis j = s.axis j := by rw [State.count_eq]; rfl
@[simp] theorem State.at_rail (s : State) (t q : Nat) : (s.at t).rail q = s.rail q := by rw [State.at_eq]; rfl
@[simp] theorem State.count_rail (s : State) (ev u k j : Nat) : (s.count ev u k).rail j = s.rail j := by rw [State.count_eq]; rfl
@[simp] theorem State.at_sensor (s : State) (t n : Nat) : (s.at t).sensor n = s.sensor n := by rw [State.at_eq]; rfl
@[simp] theorem State.count_sensor (s : State) (ev u k j : Nat) : (s.count ev u k).sensor j = s.sensor j := by rw [State.count_eq]; rfl
@[simp] theorem State.at_tileRec? (s : State) (t n : Nat) : (s.at t).tileRec? n = s.tileRec? n := by rw [State.at_eq]; rfl
@[simp] theorem State.count_tileRec? (s : State) (ev u k j : Nat) : (s.count ev u k).tileRec? j = s.tileRec? j := by rw [State.count_eq]; rfl
@[simp] theorem State.at_posRec (s : State) (t n : Nat) : (s.at t).posRec n = s.posRec n := by rw [State.at_eq]; rfl
@[simp] theorem State.count_posRec (s : State) (ev u k j : Nat) : (s.count ev u k).posRec j = s.posRec j := by rw [State.count_eq]; rfl
@[simp] theorem State.at_powered (s : State) (t : Nat) : (s.at t).powered = s.powered := by rw [State.at_eq]; rfl

/-- The registers that counting may change: PMC_OVF_k and PMC_n_LO and PMC_n_HI (R461). -/
def isPmc (off : Nat) : Bool := decide (0x1F1080 ≤ off ∧ off < 0x1F3000)

theorem State.reg_pmcAdd (k : Nat) (s : State) (n : Nat) (hn : n < 256) (p : Nat) (h : isPmc p = false) :
    (s.pmcAdd k n).reg p = s.reg p := by
  have hp : ¬(0x1F1080 ≤ p ∧ p < 0x1F3000) := by simpa [isPmc] using h
  have h1 : p ≠ (PMC_n_LO_VALUE n).off := by simp only [PMC_n_LO_VALUE]; omega
  have h2 : p ≠ (PMC_n_HI_VALUE n).off := by simp only [PMC_n_HI_VALUE]; omega
  have h3 : p ≠ rPMC_OVF_k (n / 32) := by simp only [rPMC_OVF_k]; omega
  simp only [State.pmcAdd]
  split <;> simp [State.reg_setF_other, State.reg_setReg_other, h1, h2, h3]

theorem State.pmcSelected_lt (s : State) (ev u n : Nat) (h : n ∈ s.pmcSelected ev u) : n < 256 := by
  simp only [State.pmcSelected, List.mem_filterMap] at h
  obtain ⟨e, _, he⟩ := h
  split at he
  · next hc =>
    simp only [Bool.and_eq_true, decide_eq_true_eq] at hc
    simp only [Option.some.injEq] at he
    omega
  · cases he

/-- Counting changes no register but those of the counters (R461). -/
theorem State.reg_count (s : State) (ev u k p : Nat) (h : isPmc p = false) : (s.count ev u k).reg p = s.reg p := by
  unfold State.count
  split
  · rfl
  · next hc =>
    clear hc
    have hl := State.pmcSelected_lt s ev u
    generalize s.pmcSelected ev u = l at hl
    induction l generalizing s with
    | nil => rfl
    | cons n r ih =>
      rw [List.foldl_cons, ih _ (fun m hm => hl m (List.mem_cons_of_mem _ hm)),
        State.reg_pmcAdd k s n (hl n (List.mem_cons_self ..)) p h]

/-- The passing of time changes no register but those of the counters (R461). -/
@[simp] theorem State.reg_at (s : State) (t p : Nat) (h : isPmc p = false := by rfl) : (s.at t).reg p = s.reg p := by
  simp only [State.at]
  rw [State.reg_count _ _ _ _ _ h]
  rfl

@[simp] theorem State.f_at (s : State) (t : Nat) (fd : Field) (h : isPmc fd.off = false := by rfl) : (s.at t).f fd = s.f fd := by
  simp [State.f, State.reg_at s t fd.off h]

@[simp] theorem State.fb_at (s : State) (t : Nat) (fd : Field) (h : isPmc fd.off = false := by rfl) : (s.at t).fb fd = s.fb fd := by
  simp [State.fb, State.f_at s t fd h]

@[simp] theorem State.fs_at (s : State) (t : Nat) (fd : Field) (h : isPmc fd.off = false := by rfl) : (s.at t).fs fd = s.fs fd := by
  simp [State.fs, State.f_at s t fd h]

@[simp] theorem State.st_at (s : State) (t : Nat) : (s.at t).st = s.st := State.f_at s t _ rfl

@[simp] theorem State.func_at (s : State) (t : Nat) : (s.at t).func = s.func := by
  simp only [State.func, State.st_at, State.f_at s t SYS_STATE_FUNC rfl]

@[simp] theorem State.eid_at (s : State) (t : Nat) : (s.at t).eid = s.eid := State.f_at s t _ rfl

/-! ### Raising a message changes the messages waiting and the die's gating, and nothing else -/

@[simp] theorem State.raiseAs_regs (s : State) (d i : Nat) (k : Kind) (a : Nat) (j : Bool) : (s.raiseAs d i k a j).regs = s.regs := by
  simp only [State.raiseAs]; split <;> rfl
@[simp] theorem State.raise_regs (s : State) (k : Kind) (a : Nat) : (s.raise k a).regs = s.regs := State.raiseAs_regs ..
@[simp] theorem State.raiseLane_regs (s : State) (d : Nat) (k : Kind) (a : Nat) : (s.raiseLane d k a).regs = s.regs := State.raiseAs_regs ..
@[simp] theorem State.raiseAs_snaps (s : State) (d i : Nat) (k : Kind) (a : Nat) (j : Bool) : (s.raiseAs d i k a j).snaps = s.snaps := by
  simp only [State.raiseAs]; split <;> rfl
@[simp] theorem State.raise_snaps (s : State) (k : Kind) (a : Nat) : (s.raise k a).snaps = s.snaps := State.raiseAs_snaps ..
@[simp] theorem State.raiseLane_snaps (s : State) (d : Nat) (k : Kind) (a : Nat) : (s.raiseLane d k a).snaps = s.snaps := State.raiseAs_snaps ..
@[simp] theorem State.raiseAs_lows (s : State) (d i : Nat) (k : Kind) (a : Nat) (j : Bool) : (s.raiseAs d i k a j).lows = s.lows := by
  simp only [State.raiseAs]; split <;> rfl
@[simp] theorem State.raise_lows (s : State) (k : Kind) (a : Nat) : (s.raise k a).lows = s.lows := State.raiseAs_lows ..
@[simp] theorem State.raiseLane_lows (s : State) (d : Nat) (k : Kind) (a : Nat) : (s.raiseLane d k a).lows = s.lows := State.raiseAs_lows ..
@[simp] theorem State.raiseAs_now (s : State) (d i : Nat) (k : Kind) (a : Nat) (j : Bool) : (s.raiseAs d i k a j).now = s.now := by
  simp only [State.raiseAs]; split <;> rfl
@[simp] theorem State.raise_now (s : State) (k : Kind) (a : Nat) : (s.raise k a).now = s.now := State.raiseAs_now ..
@[simp] theorem State.raiseLane_now (s : State) (d : Nat) (k : Kind) (a : Nat) : (s.raiseLane d k a).now = s.now := State.raiseAs_now ..
@[simp] theorem State.raiseAs_ident (s : State) (d i : Nat) (k : Kind) (a : Nat) (j : Bool) : (s.raiseAs d i k a j).ident = s.ident := by
  simp only [State.raiseAs]; split <;> rfl
@[simp] theorem State.raise_ident (s : State) (k : Kind) (a : Nat) : (s.raise k a).ident = s.ident := State.raiseAs_ident ..
@[simp] theorem State.raiseLane_ident (s : State) (d : Nat) (k : Kind) (a : Nat) : (s.raiseLane d k a).ident = s.ident := State.raiseAs_ident ..
@[simp] theorem State.raiseAs_nv (s : State) (d i : Nat) (k : Kind) (a : Nat) (j : Bool) : (s.raiseAs d i k a j).nv = s.nv := by
  simp only [State.raiseAs]; split <;> rfl
@[simp] theorem State.raise_nv (s : State) (k : Kind) (a : Nat) : (s.raise k a).nv = s.nv := State.raiseAs_nv ..
@[simp] theorem State.raiseLane_nv (s : State) (d : Nat) (k : Kind) (a : Nat) : (s.raiseLane d k a).nv = s.nv := State.raiseAs_nv ..
@[simp] theorem State.raiseAs_sys (s : State) (d i : Nat) (k : Kind) (a : Nat) (j : Bool) : (s.raiseAs d i k a j).sys = s.sys := by
  simp only [State.raiseAs]; split <;> rfl
@[simp] theorem State.raise_sys (s : State) (k : Kind) (a : Nat) : (s.raise k a).sys = s.sys := State.raiseAs_sys ..
@[simp] theorem State.raiseLane_sys (s : State) (d : Nat) (k : Kind) (a : Nat) : (s.raiseLane d k a).sys = s.sys := State.raiseAs_sys ..
@[simp] theorem State.raiseAs_cfg (s : State) (d i : Nat) (k : Kind) (a : Nat) (j : Bool) : (s.raiseAs d i k a j).cfg = s.cfg := by
  simp only [State.raiseAs]; split <;> rfl
@[simp] theorem State.raise_cfg (s : State) (k : Kind) (a : Nat) : (s.raise k a).cfg = s.cfg := State.raiseAs_cfg ..
@[simp] theorem State.raiseLane_cfg (s : State) (d : Nat) (k : Kind) (a : Nat) : (s.raiseLane d k a).cfg = s.cfg := State.raiseAs_cfg ..
@[simp] theorem State.raiseAs_pos (s : State) (d i : Nat) (k : Kind) (a : Nat) (j : Bool) : (s.raiseAs d i k a j).pos = s.pos := by
  simp only [State.raiseAs]; split <;> rfl
@[simp] theorem State.raise_pos (s : State) (k : Kind) (a : Nat) : (s.raise k a).pos = s.pos := State.raiseAs_pos ..
@[simp] theorem State.raiseLane_pos (s : State) (d : Nat) (k : Kind) (a : Nat) : (s.raiseLane d k a).pos = s.pos := State.raiseAs_pos ..
@[simp] theorem State.raiseAs_fire (s : State) (d i : Nat) (k : Kind) (a : Nat) (j : Bool) : (s.raiseAs d i k a j).fire = s.fire := by
  simp only [State.raiseAs]; split <;> rfl
@[simp] theorem State.raise_fire (s : State) (k : Kind) (a : Nat) : (s.raise k a).fire = s.fire := State.raiseAs_fire ..
@[simp] theorem State.raiseLane_fire (s : State) (d : Nat) (k : Kind) (a : Nat) : (s.raiseLane d k a).fire = s.fire := State.raiseAs_fire ..
@[simp] theorem State.raiseAs_wins (s : State) (d i : Nat) (k : Kind) (a : Nat) (j : Bool) : (s.raiseAs d i k a j).wins = s.wins := by
  simp only [State.raiseAs]; split <;> rfl
@[simp] theorem State.raise_wins (s : State) (k : Kind) (a : Nat) : (s.raise k a).wins = s.wins := State.raiseAs_wins ..
@[simp] theorem State.raiseLane_wins (s : State) (d : Nat) (k : Kind) (a : Nat) : (s.raiseLane d k a).wins = s.wins := State.raiseAs_wins ..
@[simp] theorem State.raiseAs_noz (s : State) (d i : Nat) (k : Kind) (a : Nat) (j : Bool) : (s.raiseAs d i k a j).noz = s.noz := by
  simp only [State.raiseAs]; split <;> rfl
@[simp] theorem State.raise_noz (s : State) (k : Kind) (a : Nat) : (s.raise k a).noz = s.noz := State.raiseAs_noz ..
@[simp] theorem State.raiseLane_noz (s : State) (d : Nat) (k : Kind) (a : Nat) : (s.raiseLane d k a).noz = s.noz := State.raiseAs_noz ..
@[simp] theorem State.raiseAs_tileH (s : State) (d i : Nat) (k : Kind) (a : Nat) (j : Bool) : (s.raiseAs d i k a j).tileH = s.tileH := by
  simp only [State.raiseAs]; split <;> rfl
@[simp] theorem State.raise_tileH (s : State) (k : Kind) (a : Nat) : (s.raise k a).tileH = s.tileH := State.raiseAs_tileH ..
@[simp] theorem State.raiseLane_tileH (s : State) (d : Nat) (k : Kind) (a : Nat) : (s.raiseLane d k a).tileH = s.tileH := State.raiseAs_tileH ..
@[simp] theorem State.raiseAs_lanes (s : State) (d i : Nat) (k : Kind) (a : Nat) (j : Bool) : (s.raiseAs d i k a j).lanes = s.lanes := by
  simp only [State.raiseAs]; split <;> rfl
@[simp] theorem State.raise_lanes (s : State) (k : Kind) (a : Nat) : (s.raise k a).lanes = s.lanes := State.raiseAs_lanes ..
@[simp] theorem State.raiseLane_lanes (s : State) (d : Nat) (k : Kind) (a : Nat) : (s.raiseLane d k a).lanes = s.lanes := State.raiseAs_lanes ..
@[simp] theorem State.raiseAs_comp (s : State) (d i : Nat) (k : Kind) (a : Nat) (j : Bool) : (s.raiseAs d i k a j).comp = s.comp := by
  simp only [State.raiseAs]; split <;> rfl
@[simp] theorem State.raise_comp (s : State) (k : Kind) (a : Nat) : (s.raise k a).comp = s.comp := State.raiseAs_comp ..
@[simp] theorem State.raiseLane_comp (s : State) (d : Nat) (k : Kind) (a : Nat) : (s.raiseLane d k a).comp = s.comp := State.raiseAs_comp ..
@[simp] theorem State.raiseAs_host (s : State) (d i : Nat) (k : Kind) (a : Nat) (j : Bool) : (s.raiseAs d i k a j).host = s.host := by
  simp only [State.raiseAs]; split <;> rfl
@[simp] theorem State.raise_host (s : State) (k : Kind) (a : Nat) : (s.raise k a).host = s.host := State.raiseAs_host ..
@[simp] theorem State.raiseLane_host (s : State) (d : Nat) (k : Kind) (a : Nat) : (s.raiseLane d k a).host = s.host := State.raiseAs_host ..
@[simp] theorem State.raiseAs_dma (s : State) (d i : Nat) (k : Kind) (a : Nat) (j : Bool) : (s.raiseAs d i k a j).dma = s.dma := by
  simp only [State.raiseAs]; split <;> rfl
@[simp] theorem State.raise_dma (s : State) (k : Kind) (a : Nat) : (s.raise k a).dma = s.dma := State.raiseAs_dma ..
@[simp] theorem State.raiseLane_dma (s : State) (d : Nat) (k : Kind) (a : Nat) : (s.raiseLane d k a).dma = s.dma := State.raiseAs_dma ..
@[simp] theorem State.raiseAs_ring (s : State) (d i : Nat) (k : Kind) (a : Nat) (j : Bool) : (s.raiseAs d i k a j).ring = s.ring := by
  simp only [State.raiseAs]; split <;> rfl
@[simp] theorem State.raise_ring (s : State) (k : Kind) (a : Nat) : (s.raise k a).ring = s.ring := State.raiseAs_ring ..
@[simp] theorem State.raiseLane_ring (s : State) (d : Nat) (k : Kind) (a : Nat) : (s.raiseLane d k a).ring = s.ring := State.raiseAs_ring ..
@[simp] theorem State.raiseAs_ports (s : State) (d i : Nat) (k : Kind) (a : Nat) (j : Bool) : (s.raiseAs d i k a j).ports = s.ports := by
  simp only [State.raiseAs]; split <;> rfl
@[simp] theorem State.raise_ports (s : State) (k : Kind) (a : Nat) : (s.raise k a).ports = s.ports := State.raiseAs_ports ..
@[simp] theorem State.raiseLane_ports (s : State) (d : Nat) (k : Kind) (a : Nat) : (s.raiseLane d k a).ports = s.ports := State.raiseAs_ports ..
@[simp] theorem State.raiseAs_pwr (s : State) (d i : Nat) (k : Kind) (a : Nat) (j : Bool) : (s.raiseAs d i k a j).pwr = s.pwr := by
  simp only [State.raiseAs]; split <;> rfl
@[simp] theorem State.raise_pwr (s : State) (k : Kind) (a : Nat) : (s.raise k a).pwr = s.pwr := State.raiseAs_pwr ..
@[simp] theorem State.raiseLane_pwr (s : State) (d : Nat) (k : Kind) (a : Nat) : (s.raiseLane d k a).pwr = s.pwr := State.raiseAs_pwr ..
@[simp] theorem State.raiseAs_mot (s : State) (d i : Nat) (k : Kind) (a : Nat) (j : Bool) : (s.raiseAs d i k a j).mot = s.mot := by
  simp only [State.raiseAs]; split <;> rfl
@[simp] theorem State.raise_mot (s : State) (k : Kind) (a : Nat) : (s.raise k a).mot = s.mot := State.raiseAs_mot ..
@[simp] theorem State.raiseLane_mot (s : State) (d : Nat) (k : Kind) (a : Nat) : (s.raiseLane d k a).mot = s.mot := State.raiseAs_mot ..
@[simp] theorem State.raiseAs_thm (s : State) (d i : Nat) (k : Kind) (a : Nat) (j : Bool) : (s.raiseAs d i k a j).thm = s.thm := by
  simp only [State.raiseAs]; split <;> rfl
@[simp] theorem State.raise_thm (s : State) (k : Kind) (a : Nat) : (s.raise k a).thm = s.thm := State.raiseAs_thm ..
@[simp] theorem State.raiseLane_thm (s : State) (d : Nat) (k : Kind) (a : Nat) : (s.raiseLane d k a).thm = s.thm := State.raiseAs_thm ..
@[simp] theorem State.raiseAs_cal (s : State) (d i : Nat) (k : Kind) (a : Nat) (j : Bool) : (s.raiseAs d i k a j).cal = s.cal := by
  simp only [State.raiseAs]; split <;> rfl
@[simp] theorem State.raise_cal (s : State) (k : Kind) (a : Nat) : (s.raise k a).cal = s.cal := State.raiseAs_cal ..
@[simp] theorem State.raiseLane_cal (s : State) (d : Nat) (k : Kind) (a : Nat) : (s.raiseLane d k a).cal = s.cal := State.raiseAs_cal ..
@[simp] theorem State.raiseAs_mem (s : State) (d i : Nat) (k : Kind) (a : Nat) (j : Bool) : (s.raiseAs d i k a j).mem = s.mem := by
  simp only [State.raiseAs]; split <;> rfl
@[simp] theorem State.raise_mem (s : State) (k : Kind) (a : Nat) : (s.raise k a).mem = s.mem := State.raiseAs_mem ..
@[simp] theorem State.raiseLane_mem (s : State) (d : Nat) (k : Kind) (a : Nat) : (s.raiseLane d k a).mem = s.mem := State.raiseAs_mem ..
@[simp] theorem State.raiseAs_pmc (s : State) (d i : Nat) (k : Kind) (a : Nat) (j : Bool) : (s.raiseAs d i k a j).pmc = s.pmc := by
  simp only [State.raiseAs]; split <;> rfl
@[simp] theorem State.raise_pmc (s : State) (k : Kind) (a : Nat) : (s.raise k a).pmc = s.pmc := State.raiseAs_pmc ..
@[simp] theorem State.raiseLane_pmc (s : State) (d : Nat) (k : Kind) (a : Nat) : (s.raiseLane d k a).pmc = s.pmc := State.raiseAs_pmc ..
@[simp] theorem State.raiseAs_clk (s : State) (d i : Nat) (k : Kind) (a : Nat) (j : Bool) : (s.raiseAs d i k a j).clk = s.clk := by
  simp only [State.raiseAs]; split <;> rfl
@[simp] theorem State.raise_clk (s : State) (k : Kind) (a : Nat) : (s.raise k a).clk = s.clk := State.raiseAs_clk ..
@[simp] theorem State.raiseLane_clk (s : State) (d : Nat) (k : Kind) (a : Nat) : (s.raiseLane d k a).clk = s.clk := State.raiseAs_clk ..
@[simp] theorem State.raiseAs_svc (s : State) (d i : Nat) (k : Kind) (a : Nat) (j : Bool) : (s.raiseAs d i k a j).svc = s.svc := by
  simp only [State.raiseAs]; split <;> rfl
@[simp] theorem State.raise_svc (s : State) (k : Kind) (a : Nat) : (s.raise k a).svc = s.svc := State.raiseAs_svc ..
@[simp] theorem State.raiseLane_svc (s : State) (d : Nat) (k : Kind) (a : Nat) : (s.raiseLane d k a).svc = s.svc := State.raiseAs_svc ..
@[simp] theorem State.raiseAs_out (s : State) (d i : Nat) (k : Kind) (a : Nat) (j : Bool) : (s.raiseAs d i k a j).out = s.out := by
  simp only [State.raiseAs]; split <;> rfl
@[simp] theorem State.raise_out (s : State) (k : Kind) (a : Nat) : (s.raise k a).out = s.out := State.raiseAs_out ..
@[simp] theorem State.raiseLane_out (s : State) (d : Nat) (k : Kind) (a : Nat) : (s.raiseLane d k a).out = s.out := State.raiseAs_out ..
@[simp] theorem State.raiseAs_draws (s : State) (d i : Nat) (k : Kind) (a : Nat) (j : Bool) : (s.raiseAs d i k a j).draws = s.draws := by
  simp only [State.raiseAs]; split <;> rfl
@[simp] theorem State.raise_draws (s : State) (k : Kind) (a : Nat) : (s.raise k a).draws = s.draws := State.raiseAs_draws ..
@[simp] theorem State.raiseLane_draws (s : State) (d : Nat) (k : Kind) (a : Nat) : (s.raiseLane d k a).draws = s.draws := State.raiseAs_draws ..
@[simp] theorem State.raiseAs_pending (s : State) (d i : Nat) (k : Kind) (a : Nat) (j : Bool) : (s.raiseAs d i k a j).pending = s.pending := by
  simp only [State.raiseAs]; split <;> rfl
@[simp] theorem State.raise_pending (s : State) (k : Kind) (a : Nat) : (s.raise k a).pending = s.pending := State.raiseAs_pending ..
@[simp] theorem State.raiseLane_pending (s : State) (d : Nat) (k : Kind) (a : Nat) : (s.raiseLane d k a).pending = s.pending := State.raiseAs_pending ..
@[simp] theorem State.raise_win (s : State) (k : Kind) (a j : Nat) : (s.raise k a).win j = s.win j := by
  simp only [State.win, State.raise_wins]
@[simp] theorem State.raiseLane_win (s : State) (d : Nat) (k : Kind) (a j : Nat) : (s.raiseLane d k a).win j = s.win j := by
  simp only [State.win, State.raiseLane_wins]
@[simp] theorem State.raise_fireT (s : State) (k : Kind) (a j : Nat) : (s.raise k a).fireT j = s.fireT j := by
  simp only [State.fireT, State.raise_fire]
@[simp] theorem State.raiseLane_fireT (s : State) (d : Nat) (k : Kind) (a j : Nat) : (s.raiseLane d k a).fireT j = s.fireT j := by
  simp only [State.fireT, State.raiseLane_fire]
@[simp] theorem State.raise_lane (s : State) (k : Kind) (a j : Nat) : (s.raise k a).lane j = s.lane j := by
  simp only [State.lane, State.raise_lanes]
@[simp] theorem State.raiseLane_lane (s : State) (d : Nat) (k : Kind) (a j : Nat) : (s.raiseLane d k a).lane j = s.lane j := by
  simp only [State.lane, State.raiseLane_lanes]
@[simp] theorem State.raise_th (s : State) (k : Kind) (a j : Nat) : (s.raise k a).th j = s.th j := by
  simp only [State.th, State.raise_tileH]
@[simp] theorem State.raiseLane_th (s : State) (d : Nat) (k : Kind) (a j : Nat) : (s.raiseLane d k a).th j = s.th j := by
  simp only [State.th, State.raiseLane_tileH]
@[simp] theorem State.raise_port (s : State) (k : Kind) (a j : Nat) : (s.raise k a).port j = s.port j := by
  simp only [State.port, State.raise_ports]
@[simp] theorem State.raiseLane_port (s : State) (d : Nat) (k : Kind) (a j : Nat) : (s.raiseLane d k a).port j = s.port j := by
  simp only [State.port, State.raiseLane_ports]
@[simp] theorem State.raise_stream (s : State) (k : Kind) (a j : Nat) : (s.raise k a).stream j = s.stream j := by
  simp only [State.stream, State.raise_dma]
@[simp] theorem State.raiseLane_stream (s : State) (d : Nat) (k : Kind) (a j : Nat) : (s.raiseLane d k a).stream j = s.stream j := by
  simp only [State.stream, State.raiseLane_dma]
@[simp] theorem State.raise_pin (s : State) (k : Kind) (a j : Nat) : (s.raise k a).pin j = s.pin j := by
  simp only [State.pin, State.raise_pos]
@[simp] theorem State.raiseLane_pin (s : State) (d : Nat) (k : Kind) (a j : Nat) : (s.raiseLane d k a).pin j = s.pin j := by
  simp only [State.pin, State.raiseLane_pos]
@[simp] theorem State.raise_axis (s : State) (k : Kind) (a j : Nat) : (s.raise k a).axis j = s.axis j := by
  simp only [State.axis, State.raise_mot]
@[simp] theorem State.raiseLane_axis (s : State) (d : Nat) (k : Kind) (a j : Nat) : (s.raiseLane d k a).axis j = s.axis j := by
  simp only [State.axis, State.raiseLane_mot]
@[simp] theorem State.raise_rail (s : State) (k : Kind) (a j : Nat) : (s.raise k a).rail j = s.rail j := by
  simp only [State.rail, State.raise_pwr]
@[simp] theorem State.raiseLane_rail (s : State) (d : Nat) (k : Kind) (a j : Nat) : (s.raiseLane d k a).rail j = s.rail j := by
  simp only [State.rail, State.raiseLane_pwr]
@[simp] theorem State.raise_sensor (s : State) (k : Kind) (a j : Nat) : (s.raise k a).sensor j = s.sensor j := by
  simp only [State.sensor, State.raise_thm]
@[simp] theorem State.raiseLane_sensor (s : State) (d : Nat) (k : Kind) (a j : Nat) : (s.raiseLane d k a).sensor j = s.sensor j := by
  simp only [State.sensor, State.raiseLane_thm]
@[simp] theorem State.raise_tileRec? (s : State) (k : Kind) (a j : Nat) : (s.raise k a).tileRec? j = s.tileRec? j := by
  simp only [State.tileRec?, State.raise_cfg]
@[simp] theorem State.raiseLane_tileRec? (s : State) (d : Nat) (k : Kind) (a j : Nat) : (s.raiseLane d k a).tileRec? j = s.tileRec? j := by
  simp only [State.tileRec?, State.raiseLane_cfg]
@[simp] theorem State.raise_posRec (s : State) (k : Kind) (a j : Nat) : (s.raise k a).posRec j = s.posRec j := by
  simp only [State.posRec, State.raise_cfg]
@[simp] theorem State.raiseLane_posRec (s : State) (d : Nat) (k : Kind) (a j : Nat) : (s.raiseLane d k a).posRec j = s.posRec j := by
  simp only [State.posRec, State.raiseLane_cfg]
@[simp] theorem State.raise_reg (s : State) (k : Kind) (a : Nat) (p : Nat) : (s.raise k a).reg p = s.reg p := by simp [State.reg]
@[simp] theorem State.raise_f (s : State) (k : Kind) (a : Nat) (fd : Field) : (s.raise k a).f fd = s.f fd := by simp [State.f]
@[simp] theorem State.raise_fb (s : State) (k : Kind) (a : Nat) (fd : Field) : (s.raise k a).fb fd = s.fb fd := by simp [State.fb]
@[simp] theorem State.raise_fs (s : State) (k : Kind) (a : Nat) (fd : Field) : (s.raise k a).fs fd = s.fs fd := by simp [State.fs]
@[simp] theorem State.raise_st (s : State) (k : Kind) (a : Nat) : (s.raise k a).st = s.st := by simp [State.st]
@[simp] theorem State.raiseLane_reg (s : State) (d : Nat) (k : Kind) (a : Nat) (p : Nat) : (s.raiseLane d k a).reg p = s.reg p := by simp [State.reg]
@[simp] theorem State.raiseLane_f (s : State) (d : Nat) (k : Kind) (a : Nat) (fd : Field) : (s.raiseLane d k a).f fd = s.f fd := by simp [State.f]
@[simp] theorem State.raiseLane_fb (s : State) (d : Nat) (k : Kind) (a : Nat) (fd : Field) : (s.raiseLane d k a).fb fd = s.fb fd := by simp [State.fb]
@[simp] theorem State.raiseLane_fs (s : State) (d : Nat) (k : Kind) (a : Nat) (fd : Field) : (s.raiseLane d k a).fs fd = s.fs fd := by simp [State.fs]
@[simp] theorem State.raiseLane_st (s : State) (d : Nat) (k : Kind) (a : Nat) : (s.raiseLane d k a).st = s.st := by simp [State.st]

/-- A raised message joins those waiting at the dies, stamped as the reaction table and its source's count say (R411, R415). -/
theorem State.raiseAs_wire (s : State) (d i : Nat) (k : Kind) (a : Nat) (j : Bool) :
    (s.raiseAs d i k a j).flt.wire = s.flt.wire ++
      [{ die := d, group := k.group, inst := i, kind := k.code, cls := (reaction s.flt.reactions k).1,
         seq := tget 0 s.flt.seqs (srcOf d k.group i), addr := a % 2 ^ 32, time := s.sysTime, injected := j,
         irq := (reaction s.flt.reactions k).2.1, relay := (reaction s.flt.reactions k).2.2,
         dropped := dieDrops s.flt.wire d (reaction s.flt.reactions k).1 }] := by
  simp only [State.raiseAs]
  split <;> rfl

/-- An operation that raises last leaves its message at the end of those waiting. -/
theorem State.Raised.raiseAs {s c : State} (h : c.flt.wire = s.flt.wire) (d i : Nat) (k : Kind) (a : Nat) (j : Bool) :
    s.Raised (c.raiseAs d i k a j) d i k a :=
  ⟨_, (State.raiseAs_wire c d i k a j).trans (by rw [h]), rfl, rfl, rfl, rfl, rfl⟩

theorem State.Raised.raise {s c : State} (h : c.flt.wire = s.flt.wire) (k : Kind) (a : Nat) :
    s.Raised (c.raise k a) 0 0 k a := .raiseAs h ..

theorem State.Raised.raiseLane {s c : State} (h : c.flt.wire = s.flt.wire) (d : Nat) (k : Kind) (a : Nat) :
    s.Raised (c.raiseLane d k a) (d + 1) 0 k a := .raiseAs h ..

/-- What comes after, leaving the messages as they are, does not matter. -/
theorem State.Raised.after {s c c' : State} {d i : Nat} {k : Kind} {a : Nat} (h : s.Raised c d i k a)
    (e : c'.flt.wire = c.flt.wire) : s.Raised c' d i k a := by
  obtain ⟨m, h1, h2⟩ := h
  exact ⟨m, e.trans h1, h2⟩

end Sys2Proof.Machine
end

