-- ==== Sys2Proof/Laws/SteadyOps.lean ====
section
/-!
SUPPORT. The operations and commands that leave the SYS_STATE register as it is (R42, R43). Each proof walks through the
operation's own structure and cites the lemmas of what it calls.
-/
set_option linter.unusedTactic false
set_option linter.unreachableTactic false
set_option linter.unusedVariables false
namespace Sys2Proof.Machine
set_option Elab.async false
variable {s₀ s : State}

/-- The SYS_STATE register of `s` reads as that of `s₀`. -/
def Steady (s₀ s : State) : Prop := s.reg rSYS_STATE = s₀.reg rSYS_STATE

theorem Steady.refl : Steady s s := rfl

theorem Steady.trans {s₁ s₂ : State} (h : Steady s₀ s₁) (k : Steady s₁ s₂) : Steady s₀ s₂ := Eq.trans k h

/-- The operating state reads as before (R42). -/
theorem Steady.st (h : Steady s₀ s) : s.st = s₀.st := congrArg SYS_STATE_STATE.get h

theorem Steady.f (h : Steady s₀ s) (fd : Field) (ho : fd.off = rSYS_STATE := by rfl) : s.f fd = s₀.f fd := by
  simp only [State.f, ho]
  exact congrArg fd.get h

theorem Steady.setReg (h : Steady s₀ s) (o : Nat) (w : Word)
    (ho : rSYS_STATE < o := by first | decide | exact Nat.lt_of_lt_of_le (by decide) (Nat.le_add_right _ _)) : Steady s₀ (s.setReg o w) :=
  (State.reg_setReg_other s o rSYS_STATE w (Nat.ne_of_lt ho)).trans h

section
variable (h : Steady s₀ s) (fd : Field)
include h

theorem Steady.setF (v : Nat)
    (ho : rSYS_STATE < fd.off := by first | decide | exact Nat.lt_of_lt_of_le (by decide) (Nat.le_add_right _ _)) :
    Steady s₀ (s.setF fd v) := h.setReg _ _ ho
theorem Steady.setFs (v : Int)
    (ho : rSYS_STATE < fd.off := by first | decide | exact Nat.lt_of_lt_of_le (by decide) (Nat.le_add_right _ _)) :
    Steady s₀ (s.setFs fd v) := h.setReg _ _ ho
theorem Steady.setFb (b : Bool)
    (ho : rSYS_STATE < fd.off := by first | decide | exact Nat.lt_of_lt_of_le (by decide) (Nat.le_add_right _ _)) :
    Steady s₀ (s.setFb fd b) := h.setReg _ _ ho
theorem Steady.addF (k : Nat)
    (ho : rSYS_STATE < fd.off := by first | decide | exact Nat.lt_of_lt_of_le (by decide) (Nat.le_add_right _ _)) :
    Steady s₀ (s.addF fd k) := h.setReg _ _ ho
theorem Steady.incF (k : Nat)
    (ho : rSYS_STATE < fd.off := by first | decide | exact Nat.lt_of_lt_of_le (by decide) (Nat.le_add_right _ _)) :
    Steady s₀ (s.incF fd k) := h.setReg _ _ ho
end

theorem Steady.setFields_nil (h : Steady s₀ s) : Steady s₀ (s.setFields []) := h
theorem Steady.setFields_cons {fd : Field} {v : Nat} {l : List (Field × Nat)} (h : Steady s₀ ((s.setF fd v).setFields l)) :
    Steady s₀ (s.setFields ((fd, v) :: l)) := h
theorem Steady.emit (h : Steady s₀ s) (o : Output) : Steady s₀ (s.emit o) := h
theorem Steady.drawn (h : Steady s₀ s) : Steady s₀ s.drawn := h
theorem Steady.draw (h : Steady s₀ s) (k : Nat) : Steady s₀ { s with draws := s.draws + k } := h
theorem Steady.at (h : Steady s₀ s) (t : Nat) : Steady s₀ (s.at t) := (State.reg_at s t rSYS_STATE).trans h
theorem Steady.count (h : Steady s₀ s) (ev u k : Nat) : Steady s₀ (s.count ev u k) :=
  (State.reg_count s ev u k rSYS_STATE rfl).trans h

theorem Steady.ite {p : Prop} [Decidable p] {x y : State} (hx : Steady s₀ x) (hy : Steady s₀ y) :
    Steady s₀ (if p then x else y) := by split <;> assumption

theorem Steady.ite_fst {α : Type} {p : Prop} [Decidable p] {x y : State × α} (hx : Steady s₀ x.1) (hy : Steady s₀ y.1) :
    Steady s₀ (if p then x else y).1 := by split <;> assumption

theorem Steady.foldl {α : Type} {f : State → α → State} {l : List α} (h : Steady s₀ s)
    (hf : ∀ s x, Steady s₀ s → Steady s₀ (f s x)) : Steady s₀ (l.foldl f s) := by
  induction l generalizing s with
  | nil => exact h
  | cons x r ih => exact ih (hf _ _ h)

theorem Steady.foldl_fst {α β : Type} {f : State × β → α → State × β} {l : List α} {y : β} (h : Steady s₀ s)
    (hf : ∀ s z x, Steady s₀ s → Steady s₀ (f (s, z) x).1) : Steady s₀ (l.foldl f (s, y)).1 := by
  induction l generalizing s y with
  | nil => exact h
  | cons x r ih => exact ih (hf _ _ _ h)

theorem Steady.cut {x : State} {P : Prop} (hx : Steady s₀ x) (h : Steady s₀ x → P) : P := h hx

/-- An update of other parts of the state leaves the registers as they were. -/
theorem Steady.upd {snaps lows now ident nv sys cfg pos fire wins noz tileH lanes health comp host dma ring ports pwr mot thm flt cal mem pmc clk svc out draws pending} (h : Steady s₀ s) : Steady s₀ (State.mk s.regs snaps lows now ident nv sys cfg pos fire wins noz tileH lanes health comp host dma ring ports pwr mot thm flt cal mem pmc clk svc out draws pending) := h

/-! ### Machine/Ops.lean -/

theorem Steady.raiseAs (h : Steady s₀ s) (die : Nat) (inst : Nat) (k : Kind) (addr : Nat) (injected : Bool) :
    Steady s₀ (State.raiseAs s die inst k addr injected) := by
  delta State.raiseAs
  repeat' first
    | with_reducible assumption
    | with_reducible refine Steady.ite ?_ ?_
    | (try lift_lets -underBinder); intro x; refine Steady.cut (x := x) ?_ ?_ <;> [subst x; (clear_value x; intro _)]
    | (try lift_lets -underBinder); intro x; first | subst x | skip
    | split
    | fail_if_no_progress with_reducible refine Steady.upd ?_

theorem Steady.raise (h : Steady s₀ s) (k : Kind) (addr : Nat) :
    Steady s₀ (State.raise s k addr) := by
  delta State.raise
  repeat' first
    | with_reducible assumption
    | with_reducible apply Steady.raiseAs

theorem Steady.raiseLane (h : Steady s₀ s) (d : Nat) (k : Kind) (addr : Nat) :
    Steady s₀ (State.raiseLane s d k addr) := by
  delta State.raiseLane
  repeat' first
    | with_reducible assumption
    | with_reducible apply Steady.raiseAs

theorem Steady.emitSrc (h : Steady s₀ s) (src : Nat) :
    Steady s₀ (State.emitSrc s src) := by
  delta State.emitSrc
  repeat' first
    | with_reducible assumption
    | fail_if_no_progress with_reducible refine Steady.upd ?_

/-! ### Machine/TagOps.lean -/

theorem Steady.tagCandidate (h : Steady s₀ s) (r : TagRec) :
    Steady s₀ (State.tagCandidate s r) := by
  delta State.tagCandidate
  repeat' first
    | with_reducible assumption
    | with_reducible refine Steady.ite ?_ ?_
    | (try lift_lets -underBinder); intro x; refine Steady.cut (x := x) ?_ ?_ <;> [subst x; (clear_value x; intro _)]
    | (try lift_lets -underBinder); intro x; first | subst x | skip
    | fail_if_no_progress with_reducible refine Steady.upd ?_

theorem Steady.tagMany (h : Steady s₀ s) (domain : Nat) (unit_ : Nat) (n : Nat) (mk : Nat → TagRec) :
    Steady s₀ (State.tagMany s domain unit_ n mk) := by
  delta State.tagMany
  repeat' first
    | with_reducible assumption
    | with_reducible apply Steady.tagCandidate
    | with_reducible refine Steady.ite ?_ ?_
    | with_reducible refine Steady.foldl ?_ ?_
    | (try lift_lets -underBinder); intro x; refine Steady.cut (x := x) ?_ ?_ <;> [subst x; (clear_value x; intro _)]
    | (try lift_lets -underBinder); intro x; first | subst x | skip

theorem Steady.modTag (h : Steady s₀ s) (p : TagRec → Bool) (g : TagRec → TagRec) :
    Steady s₀ (State.modTag s p g) := by
  delta State.modTag
  repeat' first
    | with_reducible assumption
    | with_reducible refine Steady.ite ?_ ?_
    | (try lift_lets -underBinder); intro x; refine Steady.cut (x := x) ?_ ?_ <;> [subst x; (clear_value x; intro _)]
    | (try lift_lets -underBinder); intro x; first | subst x | skip
    | fail_if_no_progress with_reducible refine Steady.upd ?_

theorem Steady.tagRecord (h : Steady s₀ s) (p : TagRec → Bool) (abandoned : Bool) :
    Steady s₀ (State.tagRecord s p abandoned) := by
  delta State.tagRecord
  repeat' first
    | with_reducible assumption
    | with_reducible refine Steady.setFields_nil ?_
    | with_reducible refine Steady.setFields_cons ?_
    | with_reducible refine Steady.setF ?_ _ _
    | with_reducible refine Steady.ite ?_ ?_
    | (try lift_lets -underBinder); intro x; refine Steady.cut (x := x) ?_ ?_ <;> [subst x; (clear_value x; intro _)]
    | (try lift_lets -underBinder); intro x; first | subst x | skip
    | split
    | fail_if_no_progress dsimp only
    | fail_if_no_progress with_reducible refine Steady.upd ?_

theorem Steady.tagDesc (h : Steady s₀ s) (stream : Nat) (k : Nat) (first : Bool) :
    Steady s₀ (State.tagDesc s stream k first) := by
  delta State.tagDesc
  repeat' first
    | with_reducible assumption
    | with_reducible apply Steady.modTag
    | with_reducible refine Steady.ite ?_ ?_
    | (try lift_lets -underBinder); intro x; refine Steady.cut (x := x) ?_ ?_ <;> [subst x; (clear_value x; intro _)]
    | (try lift_lets -underBinder); intro x; first | subst x | skip

/-! ### Machine/CueOps.lean -/

theorem Steady.driveCue (h : Steady s₀ s) (n : Nat) :
    Steady s₀ (State.driveCue s n) := by
  delta State.driveCue
  repeat' first
    | with_reducible assumption
    | with_reducible apply Steady.emit
    | with_reducible apply Steady.raise
    | with_reducible refine Steady.ite ?_ ?_
    | (try lift_lets -underBinder); intro x; refine Steady.cut (x := x) ?_ ?_ <;> [subst x; (clear_value x; intro _)]
    | (try lift_lets -underBinder); intro x; first | subst x | skip
    | split
    | fail_if_no_progress dsimp only
    | fail_if_no_progress with_reducible refine Steady.upd ?_

theorem Steady.showCues (h : Steady s₀ s) :
    Steady s₀ (State.showCues s) := by
  delta State.showCues
  repeat' first
    | with_reducible assumption
    | with_reducible apply Steady.driveCue
    | with_reducible refine Steady.foldl ?_ ?_
    | (try lift_lets -underBinder); intro x; refine Steady.cut (x := x) ?_ ?_ <;> [subst x; (clear_value x; intro _)]
    | (try lift_lets -underBinder); intro x; first | subst x | skip

theorem Steady.cuePulse (h : Steady s₀ s) (n : Nat) :
    Steady s₀ (State.cuePulse s n) := by
  delta State.cuePulse
  repeat' first
    | with_reducible assumption
    | with_reducible apply Steady.driveCue
    | with_reducible refine Steady.ite ?_ ?_
    | fail_if_no_progress with_reducible refine Steady.upd ?_

theorem Steady.holdCues (h : Steady s₀ s) (old : List CueRec) (new : List CueRec) (until_ : Nat) :
    Steady s₀ (State.holdCues s old new until_) := by
  delta State.holdCues
  repeat' first
    | with_reducible assumption
    | with_reducible apply Steady.cuePulse
    | with_reducible refine Steady.ite ?_ ?_
    | with_reducible refine Steady.foldl ?_ ?_
    | (try lift_lets -underBinder); intro x; refine Steady.cut (x := x) ?_ ?_ <;> [subst x; (clear_value x; intro _)]
    | (try lift_lets -underBinder); intro x; first | subst x | skip
    | fail_if_no_progress with_reducible refine Steady.upd ?_

theorem Steady.handCues (h : Steady s₀ s) :
    Steady s₀ (State.handCues s) := by
  delta State.handCues
  repeat' first
    | with_reducible assumption
    | with_reducible apply Steady.showCues
    | (try lift_lets -underBinder); intro x; refine Steady.cut (x := x) ?_ ?_ <;> [subst x; (clear_value x; intro _)]
    | (try lift_lets -underBinder); intro x; first | subst x | skip
    | fail_if_no_progress with_reducible refine Steady.upd ?_

/-! ### Machine/TileOps.lean -/

theorem Steady.modPort (h : Steady s₀ s) (n : Nat) (g : TileP → TileP) :
    Steady s₀ (State.modPort s n g) := by
  delta State.modPort
  repeat' first
    | with_reducible assumption
    | fail_if_no_progress with_reducible refine Steady.upd ?_

theorem Steady.modTh (h : Steady s₀ s) (n : Nat) (g : TileH → TileH) :
    Steady s₀ (State.modTh s n g) := by
  delta State.modTh
  repeat' first
    | with_reducible assumption
    | fail_if_no_progress with_reducible refine Steady.upd ?_

theorem Steady.modNoz (h : Steady s₀ s) (n : Nat) (i : Nat) (g : Noz → Noz) :
    Steady s₀ (State.modNoz s n i g) := by
  delta State.modNoz
  repeat' first
    | with_reducible assumption
    | fail_if_no_progress with_reducible refine Steady.upd ?_

theorem Steady.mapNoz (h : Steady s₀ s) (g : Noz → Noz) : Steady s₀ (State.mapNoz s g) := h

theorem Steady.showUsage (h : Steady s₀ s) (n : Nat) :
    Steady s₀ (State.showUsage s n) := by
  delta State.showUsage
  repeat' first
    | with_reducible assumption
    | with_reducible refine Steady.setF ?_ _ _
    | (try lift_lets -underBinder); intro x; refine Steady.cut (x := x) ?_ ?_ <;> [subst x; (clear_value x; intro _)]
    | (try lift_lets -underBinder); intro x; first | subst x | skip

theorem Steady.addUse (h : Steady s₀ s) (n : Nat) (k : Nat) :
    Steady s₀ (State.addUse s n k) := by
  delta State.addUse
  repeat' first
    | with_reducible assumption
    | with_reducible apply Steady.modPort
    | with_reducible apply Steady.showUsage
    | (try lift_lets -underBinder); intro x; refine Steady.cut (x := x) ?_ ?_ <;> [subst x; (clear_value x; intro _)]
    | (try lift_lets -underBinder); intro x; first | subst x | skip
    | fail_if_no_progress with_reducible refine Steady.upd ?_

theorem Steady.usageWrite (h : Steady s₀ s) (n : Nat) :
    Steady s₀ (State.usageWrite s n) := by
  delta State.usageWrite
  repeat' first
    | with_reducible assumption
    | with_reducible apply Steady.emit
    | with_reducible apply Steady.modPort
    | with_reducible apply Steady.raiseLane
    | with_reducible refine Steady.setF ?_ _ _
    | with_reducible refine Steady.ite ?_ ?_
    | (try lift_lets -underBinder); intro x; refine Steady.cut (x := x) ?_ ?_ <;> [subst x; (clear_value x; intro _)]
    | (try lift_lets -underBinder); intro x; first | subst x | skip
    | fail_if_no_progress with_reducible refine Steady.upd ?_

theorem Steady.logicOff (h : Steady s₀ s) (n : Nat) :
    Steady s₀ (State.logicOff s n) := by
  delta State.logicOff
  repeat' first
    | with_reducible assumption
    | with_reducible apply Steady.modPort
    | with_reducible refine Steady.setF ?_ _ _
    | (try lift_lets -underBinder); intro x; refine Steady.cut (x := x) ?_ ?_ <;> [subst x; (clear_value x; intro _)]
    | (try lift_lets -underBinder); intro x; first | subst x | skip
    | fail_if_no_progress with_reducible refine Steady.upd ?_

theorem Steady.fuseOpen (h : Steady s₀ s) (n : Nat) :
    Steady s₀ (State.fuseOpen s n) := by
  delta State.fuseOpen
  repeat' first
    | with_reducible assumption
    | with_reducible apply Steady.modPort
    | with_reducible refine Steady.setF ?_ _ _
    | (try lift_lets -underBinder); intro x; refine Steady.cut (x := x) ?_ ?_ <;> [subst x; (clear_value x; intro _)]
    | (try lift_lets -underBinder); intro x; first | subst x | skip
    | fail_if_no_progress with_reducible refine Steady.upd ?_

theorem Steady.removePower (h : Steady s₀ s) (n : Nat) :
    Steady s₀ (State.removePower s n) := by
  delta State.removePower
  repeat' first
    | with_reducible assumption
    | with_reducible apply Steady.fuseOpen
    | with_reducible apply Steady.logicOff
    | with_reducible apply Steady.modPort
    | with_reducible apply Steady.usageWrite
    | with_reducible refine Steady.ite ?_ ?_
    | (try lift_lets -underBinder); intro x; refine Steady.cut (x := x) ?_ ?_ <;> [subst x; (clear_value x; intro _)]
    | (try lift_lets -underBinder); intro x; first | subst x | skip
    | fail_if_no_progress with_reducible refine Steady.upd ?_

theorem Steady.removeVpp (h : Steady s₀ s) (n : Nat) :
    Steady s₀ (State.removeVpp s n) := by
  delta State.removeVpp
  repeat' first
    | with_reducible assumption
    | with_reducible apply Steady.fuseOpen
    | with_reducible apply Steady.modPort
    | with_reducible apply Steady.usageWrite
    | with_reducible refine Steady.ite ?_ ?_
    | (try lift_lets -underBinder); intro x; refine Steady.cut (x := x) ?_ ?_ <;> [subst x; (clear_value x; intro _)]
    | (try lift_lets -underBinder); intro x; first | subst x | skip
    | fail_if_no_progress with_reducible refine Steady.upd ?_

theorem Steady.tryLogicOff (h : Steady s₀ s) (n : Nat) :
    Steady s₀ (State.tryLogicOff s n) := by
  delta State.tryLogicOff
  repeat' first
    | with_reducible assumption
    | with_reducible apply Steady.logicOff
    | with_reducible apply Steady.modPort
    | with_reducible refine Steady.ite ?_ ?_
    | (try lift_lets -underBinder); intro x; refine Steady.cut (x := x) ?_ ?_ <;> [subst x; (clear_value x; intro _)]
    | (try lift_lets -underBinder); intro x; first | subst x | skip
    | split
    | fail_if_no_progress with_reducible refine Steady.upd ?_

theorem Steady.askSwap (h : Steady s₀ s) (n : Nat) :
    Steady s₀ (State.askSwap s n) := by
  delta State.askSwap
  repeat' first
    | with_reducible assumption
    | with_reducible refine Steady.ite ?_ ?_
    | (try lift_lets -underBinder); intro x; refine Steady.cut (x := x) ?_ ?_ <;> [subst x; (clear_value x; intro _)]
    | (try lift_lets -underBinder); intro x; first | subst x | skip
    | split
    | fail_if_no_progress with_reducible refine Steady.upd ?_

theorem Steady.afterFail (h : Steady s₀ s) (n : Nat) :
    Steady s₀ (State.afterFail s n) := by
  delta State.afterFail
  repeat' first
    | with_reducible assumption
    | with_reducible apply Steady.askSwap
    | with_reducible apply Steady.modTh
    | with_reducible apply Steady.raise
    | with_reducible refine Steady.ite ?_ ?_
    | (try lift_lets -underBinder); intro x; refine Steady.cut (x := x) ?_ ?_ <;> [subst x; (clear_value x; intro _)]
    | (try lift_lets -underBinder); intro x; first | subst x | skip
    | fail_if_no_progress with_reducible refine Steady.upd ?_

theorem Steady.failTile (h : Steady s₀ s) (n : Nat) (cause : Nat) :
    Steady s₀ (State.failTile s n cause) := by
  delta State.failTile
  repeat' first
    | with_reducible assumption
    | with_reducible apply Steady.afterFail
    | with_reducible apply Steady.fuseOpen
    | with_reducible apply Steady.raiseLane
    | with_reducible refine Steady.setF ?_ _ _
    | with_reducible refine Steady.ite ?_ ?_
    | (try lift_lets -underBinder); intro x; refine Steady.cut (x := x) ?_ ?_ <;> [subst x; (clear_value x; intro _)]
    | (try lift_lets -underBinder); intro x; first | subst x | skip

theorem Steady.absentTile (h : Steady s₀ s) (n : Nat) :
    Steady s₀ (State.absentTile s n) := by
  delta State.absentTile
  repeat' first
    | with_reducible assumption
    | with_reducible apply Steady.fuseOpen
    | with_reducible apply Steady.logicOff
    | with_reducible apply Steady.raiseLane

theorem Steady.loadTrims (h : Steady s₀ s) (n : Nat) (useId : Bool) :
    Steady s₀ (State.loadTrims s n useId) := by
  delta State.loadTrims
  repeat' first
    | with_reducible assumption
    | with_reducible apply Steady.modNoz
    | with_reducible refine Steady.ite ?_ ?_
    | with_reducible refine Steady.foldl ?_ ?_
    | (try lift_lets -underBinder); intro x; refine Steady.cut (x := x) ?_ ?_ <;> [subst x; (clear_value x; intro _)]
    | (try lift_lets -underBinder); intro x; first | subst x | skip
    | fail_if_no_progress with_reducible refine Steady.upd ?_

theorem Steady.choosePath (h : Steady s₀ s) (n : Nat) :
    Steady s₀ (State.choosePath s n) := by
  delta State.choosePath
  repeat' first
    | with_reducible assumption
    | with_reducible apply Steady.failTile
    | with_reducible apply Steady.loadTrims
    | with_reducible apply Steady.modPort
    | with_reducible apply Steady.raiseLane
    | with_reducible refine Steady.setF ?_ _ _
    | with_reducible refine Steady.setFields_nil ?_
    | with_reducible refine Steady.setFields_cons ?_
    | with_reducible refine Steady.setF ?_ _ _
    | with_reducible refine Steady.ite ?_ ?_
    | (try lift_lets -underBinder); intro x; refine Steady.cut (x := x) ?_ ?_ <;> [subst x; (clear_value x; intro _)]
    | (try lift_lets -underBinder); intro x; first | subst x | skip
    | split
    | fail_if_no_progress dsimp only
    | fail_if_no_progress with_reducible refine Steady.upd ?_

theorem Steady.hmError {c} (h : Steady s₀ s) {n : Nat} {op : Nat} (e : State.hmError s n op = some c) :
    Steady s₀ c := by
  delta State.hmError at e
  try dsimp only at e
  repeat' first
    | contradiction
    | (injection e with e; subst e)
    | split at e
    | with_reducible assumption
    | with_reducible apply Steady.modPort
    | with_reducible refine Steady.ite ?_ ?_

theorem Steady.hmEnd (h : Steady s₀ s) (n : Nat) :
    Steady s₀ (State.hmEnd s n) := by
  delta State.hmEnd
  repeat' first
    | with_reducible assumption
    | with_reducible apply Steady.modPort
    | with_reducible apply Steady.tryLogicOff
    | (try lift_lets -underBinder); intro x; refine Steady.cut (x := x) ?_ ?_ <;> [subst x; (clear_value x; intro _)]
    | (try lift_lets -underBinder); intro x; first | subst x | skip
    | fail_if_no_progress with_reducible refine Steady.upd ?_

/-! ### Machine/HealthOps.lean -/

theorem Steady.setBg (h : Steady s₀ s) (n : Nat) (i : Nat) (e : Nat) :
    Steady s₀ (State.setBg s n i e) := by
  delta State.setBg
  repeat' first
    | with_reducible assumption
    | with_reducible apply Steady.modNoz
    | with_reducible refine Steady.setF ?_ _ _
    | with_reducible refine Steady.ite ?_ ?_
    | (try lift_lets -underBinder); intro x; refine Steady.cut (x := x) ?_ ?_ <;> [subst x; (clear_value x; intro _)]
    | (try lift_lets -underBinder); intro x; first | subst x | skip
    | fail_if_no_progress with_reducible refine Steady.upd ?_

theorem Steady.classify (h : Steady s₀ s) (n : Nat) (i : Nat) (cls : Nat) :
    Steady s₀ (State.classify s n i cls) := by
  delta State.classify
  repeat' first
    | with_reducible assumption
    | with_reducible refine Steady.addF ?_ _ _
    | with_reducible apply Steady.raiseLane
    | with_reducible apply Steady.setBg
    | with_reducible refine Steady.ite ?_ ?_
    | (try lift_lets -underBinder); intro x; refine Steady.cut (x := x) ?_ ?_ <;> [subst x; (clear_value x; intro _)]
    | (try lift_lets -underBinder); intro x; first | subst x | skip

theorem Steady.openReport (h : Steady s₀ s) (n : Nat) (i : Nat) :
    Steady s₀ (State.openReport s n i) := by
  delta State.openReport
  repeat' first
    | with_reducible assumption
    | with_reducible apply Steady.classify
    | with_reducible refine Steady.ite ?_ ?_

theorem Steady.moveColumns (h : Steady s₀ s) (n : Nat) :
    Steady s₀ (State.moveColumns s n) := by
  delta State.moveColumns
  repeat' first
    | with_reducible assumption
    | with_reducible apply Steady.modTh
    | with_reducible refine Steady.setFb ?_ _ _
    | with_reducible refine Steady.ite ?_ ?_
    | with_reducible refine Steady.foldl ?_ ?_
    | (try lift_lets -underBinder); intro x; refine Steady.cut (x := x) ?_ ?_ <;> [subst x; (clear_value x; intro _)]
    | (try lift_lets -underBinder); intro x; first | subst x | skip
    | fail_if_no_progress with_reducible refine Steady.upd ?_

theorem Steady.showHealth (h : Steady s₀ s) (n : Nat) :
    Steady s₀ (State.showHealth s n) := by
  delta State.showHealth
  repeat' first
    | with_reducible assumption
    | with_reducible apply Steady.raiseLane
    | with_reducible refine Steady.setFields_nil ?_
    | with_reducible refine Steady.setFields_cons ?_
    | with_reducible refine Steady.setF ?_ _ _
    | with_reducible refine Steady.ite ?_ ?_
    | (try lift_lets -underBinder); intro x; refine Steady.cut (x := x) ?_ ?_ <;> [subst x; (clear_value x; intro _)]
    | (try lift_lets -underBinder); intro x; first | subst x | skip
    | split

theorem Steady.healthSwap (h : Steady s₀ s) (n : Nat) :
    Steady s₀ (State.healthSwap s n) := by
  delta State.healthSwap
  repeat' first
    | with_reducible assumption
    | with_reducible apply Steady.modNoz
    | with_reducible apply Steady.modTh
    | with_reducible apply Steady.moveColumns
    | with_reducible refine Steady.setF ?_ _ _
    | with_reducible apply Steady.showHealth
    | with_reducible refine Steady.ite ?_ ?_
    | with_reducible refine Steady.foldl ?_ ?_
    | (try lift_lets -underBinder); intro x; refine Steady.cut (x := x) ?_ ?_ <;> [subst x; (clear_value x; intro _)]
    | (try lift_lets -underBinder); intro x; first | subst x | skip
    | split
    | fail_if_no_progress dsimp only
    | fail_if_no_progress with_reducible refine Steady.upd ?_

theorem Steady.scanComplete (h : Steady s₀ s) (n : Nat) :
    Steady s₀ (State.scanComplete s n) := by
  delta State.scanComplete
  repeat' first
    | with_reducible assumption
    | with_reducible apply Steady.classify
    | with_reducible apply Steady.healthSwap
    | with_reducible refine Steady.incF ?_ _ _
    | with_reducible apply Steady.modTh
    | with_reducible refine Steady.setF ?_ _ _
    | with_reducible refine Steady.ite ?_ ?_
    | with_reducible refine Steady.foldl ?_ ?_
    | (try lift_lets -underBinder); intro x; refine Steady.cut (x := x) ?_ ?_ <;> [subst x; (clear_value x; intro _)]
    | (try lift_lets -underBinder); intro x; first | subst x | skip
    | fail_if_no_progress with_reducible refine Steady.upd ?_

theorem Steady.scanNext (h : Steady s₀ s) (n : Nat) (i : Nat) :
    Steady s₀ (State.scanNext s n i) := by
  delta State.scanNext
  repeat' first
    | with_reducible assumption
    | with_reducible apply Steady.scanComplete
    | with_reducible refine Steady.setF ?_ _ _
    | with_reducible refine Steady.ite ?_ ?_

theorem Steady.judge (h : Steady s₀ s) (n : Nat) (i : Nat) (r1 : Option Nat) (r2 : Option Nat) :
    Steady s₀ (State.judge s n i r1 r2) := by
  delta State.judge
  repeat' first
    | with_reducible assumption
    | with_reducible refine Steady.addF ?_ _ _
    | with_reducible apply Steady.classify
    | with_reducible apply Steady.count
    | with_reducible apply Steady.modNoz
    | with_reducible apply Steady.modTh
    | with_reducible refine Steady.ite ?_ ?_
    | (try lift_lets -underBinder); intro x; refine Steady.cut (x := x) ?_ ?_ <;> [subst x; (clear_value x; intro _)]
    | (try lift_lets -underBinder); intro x; first | subst x | skip
    | split
    | fail_if_no_progress dsimp only
    | fail_if_no_progress with_reducible refine Steady.upd ?_

theorem Steady.setUnprint (h : Steady s₀ s) (n : Nat) :
    Steady s₀ (State.setUnprint s n) := by
  delta State.setUnprint
  repeat' first
    | with_reducible assumption
    | with_reducible refine Steady.setFields_nil ?_
    | with_reducible refine Steady.setFields_cons ?_
    | with_reducible refine Steady.setF ?_ _ _
    | with_reducible refine Steady.ite ?_ ?_

theorem Steady.bypassTile (h : Steady s₀ s) (n : Nat) :
    Steady s₀ (State.bypassTile s n) := by
  delta State.bypassTile
  repeat' first
    | with_reducible assumption
    | with_reducible apply Steady.fuseOpen
    | with_reducible apply Steady.modTh
    | with_reducible apply Steady.raiseLane
    | with_reducible refine Steady.setF ?_ _ _
    | with_reducible refine Steady.setFields_nil ?_
    | with_reducible refine Steady.setFields_cons ?_
    | with_reducible refine Steady.setF ?_ _ _
    | with_reducible apply Steady.setUnprint
    | (try lift_lets -underBinder); intro x; refine Steady.cut (x := x) ?_ ?_ <;> [subst x; (clear_value x; intro _)]
    | (try lift_lets -underBinder); intro x; first | subst x | skip
    | split
    | fail_if_no_progress dsimp only
    | fail_if_no_progress with_reducible refine Steady.upd ?_

theorem Steady.setBit (h : Steady s₀ s) (fd : Field) (k : Nat) (b : Bool)
    (ho : rSYS_STATE < fd.off := by first | decide | exact Nat.lt_of_lt_of_le (by decide) (Nat.le_add_right _ _)) : Steady s₀ (State.setBit s fd k b) := h.setReg _ _ ho

theorem Steady.connect (h : Steady s₀ s) (n : Nat) (e : Nat) :
    Steady s₀ (State.connect s n e) := by
  delta State.connect
  repeat' first
    | with_reducible assumption
    | with_reducible apply Steady.modTh
    | with_reducible refine Steady.setBit ?_ _ _ _
    | with_reducible refine Steady.setFields_nil ?_
    | with_reducible refine Steady.setFields_cons ?_
    | with_reducible refine Steady.setF ?_ _ _
    | with_reducible refine Steady.ite ?_ ?_
    | (try lift_lets -underBinder); intro x; refine Steady.cut (x := x) ?_ ?_ <;> [subst x; (clear_value x; intro _)]
    | (try lift_lets -underBinder); intro x; first | subst x | skip
    | split
    | fail_if_no_progress dsimp only
    | fail_if_no_progress with_reducible refine Steady.upd ?_

theorem Steady.failEngine (h : Steady s₀ s) (e : Nat) :
    Steady s₀ (State.failEngine s e) := by
  delta State.failEngine
  repeat' first
    | with_reducible assumption
    | with_reducible apply Steady.modTh
    | with_reducible apply Steady.raiseLane
    | with_reducible refine Steady.setBit ?_ _ _ _
    | with_reducible refine Steady.setF ?_ _ _
    | with_reducible refine Steady.ite ?_ ?_
    | (try lift_lets -underBinder); intro x; refine Steady.cut (x := x) ?_ ?_ <;> [subst x; (clear_value x; intro _)]
    | (try lift_lets -underBinder); intro x; first | subst x | skip
    | split
    | fail_if_no_progress dsimp only
    | fail_if_no_progress with_reducible refine Steady.upd ?_

theorem Steady.serveSpares (h : Steady s₀ s) (tiles : List Nat) :
    Steady s₀ (State.serveSpares s tiles) := by
  delta State.serveSpares
  repeat' first
    | with_reducible assumption
    | with_reducible apply Steady.modTh
    | with_reducible apply Steady.raiseLane
    | with_reducible refine Steady.ite ?_ ?_
    | with_reducible refine Steady.foldl ?_ ?_
    | (try lift_lets -underBinder); intro x; refine Steady.cut (x := x) ?_ ?_ <;> [subst x; (clear_value x; intro _)]
    | (try lift_lets -underBinder); intro x; first | subst x | skip
    | split
    | fail_if_no_progress dsimp only
    | fail_if_no_progress with_reducible refine Steady.upd ?_

theorem Steady.serveRolls (h : Steady s₀ s) (tiles : List Nat) :
    Steady s₀ (State.serveRolls s tiles) := by
  delta State.serveRolls
  repeat' first
    | with_reducible assumption
    | with_reducible apply Steady.modTh
    | with_reducible refine Steady.setF ?_ _ _
    | with_reducible refine Steady.ite ?_ ?_
    | with_reducible refine Steady.foldl ?_ ?_
    | (try lift_lets -underBinder); intro x; refine Steady.cut (x := x) ?_ ?_ <;> [subst x; (clear_value x; intro _)]
    | (try lift_lets -underBinder); intro x; first | subst x | skip
    | split
    | fail_if_no_progress with_reducible refine Steady.upd ?_

/-! ### Machine/PowerOps.lean -/

theorem Steady.modRail (h : Steady s₀ s) (q : Nat) (g : Rail → Rail) :
    Steady s₀ (State.modRail s q g) := by
  delta State.modRail
  repeat' first
    | with_reducible assumption
    | fail_if_no_progress with_reducible refine Steady.upd ?_

theorem Steady.rampRail (h : Steady s₀ s) (q : Nat) (mv : Nat) :
    Steady s₀ (State.rampRail s q mv) := by
  delta State.rampRail
  repeat' first
    | with_reducible assumption
    | with_reducible apply Steady.modRail
    | with_reducible refine Steady.setF ?_ _ _
    | with_reducible refine Steady.ite ?_ ?_
    | (try lift_lets -underBinder); intro x; refine Steady.cut (x := x) ?_ ?_ <;> [subst x; (clear_value x; intro _)]
    | (try lift_lets -underBinder); intro x; first | subst x | skip
    | fail_if_no_progress with_reducible refine Steady.upd ?_

theorem Steady.startRails (h : Steady s₀ s) :
    Steady s₀ (State.startRails s) := by
  delta State.startRails
  repeat' first
    | with_reducible assumption
    | with_reducible apply Steady.modRail
    | with_reducible apply Steady.rampRail
    | with_reducible refine Steady.ite ?_ ?_
    | with_reducible refine Steady.foldl ?_ ?_
    | (try lift_lets -underBinder); intro x; refine Steady.cut (x := x) ?_ ?_ <;> [subst x; (clear_value x; intro _)]
    | (try lift_lets -underBinder); intro x; first | subst x | skip
    | split
    | fail_if_no_progress with_reducible refine Steady.upd ?_

theorem Steady.railsDown (h : Steady s₀ s) :
    Steady s₀ (State.railsDown s) := by
  delta State.railsDown
  repeat' first
    | with_reducible assumption
    | with_reducible apply Steady.rampRail
    | with_reducible refine Steady.ite ?_ ?_
    | with_reducible refine Steady.foldl ?_ ?_
    | (try lift_lets -underBinder); intro x; refine Steady.cut (x := x) ?_ ?_ <;> [subst x; (clear_value x; intro _)]
    | (try lift_lets -underBinder); intro x; first | subst x | skip

theorem Steady.railsOff (h : Steady s₀ s) :
    Steady s₀ (State.railsOff s) := by
  delta State.railsOff
  repeat' first
    | with_reducible assumption
    | with_reducible apply Steady.modRail
    | with_reducible refine Steady.setFields_nil ?_
    | with_reducible refine Steady.setFields_cons ?_
    | with_reducible refine Steady.setF ?_ _ _
    | with_reducible refine Steady.foldl ?_ ?_
    | (try lift_lets -underBinder); intro x; refine Steady.cut (x := x) ?_ ?_ <;> [subst x; (clear_value x; intro _)]
    | (try lift_lets -underBinder); intro x; first | subst x | skip

theorem Steady.setAcct (h : Steady s₀ s) (uj : Int) :
    Steady s₀ (State.setAcct s uj) := by
  delta State.setAcct
  repeat' first
    | with_reducible assumption
    | with_reducible refine Steady.setFs ?_ _ _
    | fail_if_no_progress with_reducible refine Steady.upd ?_

theorem Steady.setSrc (h : Steady s₀ s) (st : Nat) :
    Steady s₀ (State.setSrc s st) := by
  delta State.setSrc
  repeat' first
    | with_reducible assumption
    | with_reducible refine Steady.setF ?_ _ _

theorem Steady.mainsGone (h : Steady s₀ s) :
    Steady s₀ (State.mainsGone s) := by
  delta State.mainsGone
  repeat' first
    | with_reducible assumption
    | with_reducible refine Steady.setFields_nil ?_
    | with_reducible refine Steady.setFields_cons ?_
    | with_reducible refine Steady.setF ?_ _ _
    | fail_if_no_progress with_reducible refine Steady.upd ?_

/-! ### Machine/MotorOps.lean -/

theorem Steady.modAxis (h : Steady s₀ s) (a : Nat) (g : Axis → Axis) :
    Steady s₀ (State.modAxis s a g) := by
  delta State.modAxis
  repeat' first
    | with_reducible assumption
    | fail_if_no_progress with_reducible refine Steady.upd ?_

theorem Steady.raiseMot (h : Steady s₀ s) (a : Nat) (k : Kind) (addr : Nat) :
    Steady s₀ (State.raiseMot s a k addr) := by
  delta State.raiseMot
  repeat' first
    | with_reducible assumption
    | with_reducible apply Steady.raiseAs

theorem Steady.axisOff (h : Steady s₀ s) (a : Nat) :
    Steady s₀ (State.axisOff s a) := by
  delta State.axisOff
  repeat' first
    | with_reducible assumption
    | with_reducible apply Steady.modAxis
    | with_reducible refine Steady.setFields_nil ?_
    | with_reducible refine Steady.setFields_cons ?_
    | with_reducible refine Steady.setF ?_ _ _
    | (try lift_lets -underBinder); intro x; refine Steady.cut (x := x) ?_ ?_ <;> [subst x; (clear_value x; intro _)]
    | (try lift_lets -underBinder); intro x; first | subst x | skip
    | fail_if_no_progress with_reducible refine Steady.upd ?_

theorem Steady.axisTrip (h : Steady s₀ s) (a : Nat) (flag : Field) (k : Kind) (addr : Nat)
    (ho : rSYS_STATE < flag.off := by first | decide | exact Nat.lt_of_lt_of_le (by decide) (Nat.le_add_right _ _)) : Steady s₀ (State.axisTrip s a flag k addr) := by
  delta State.axisTrip
  exact Steady.raiseMot (Steady.setF (Steady.modAxis (Steady.axisOff h _) _ _) _ _ ho) _ _ _

theorem Steady.startAxis (h : Steady s₀ s) (a : Nat) :
    Steady s₀ (State.startAxis s a) := by
  delta State.startAxis
  repeat' first
    | with_reducible assumption
    | with_reducible apply Steady.modAxis
    | with_reducible refine Steady.setF ?_ _ _
    | with_reducible refine Steady.ite ?_ ?_
    | (try lift_lets -underBinder); intro x; refine Steady.cut (x := x) ?_ ?_ <;> [subst x; (clear_value x; intro _)]
    | (try lift_lets -underBinder); intro x; first | subst x | skip
    | split
    | fail_if_no_progress with_reducible refine Steady.upd ?_

theorem Steady.stopAxis (h : Steady s₀ s) (a : Nat) :
    Steady s₀ (State.stopAxis s a) := by
  delta State.stopAxis
  repeat' first
    | with_reducible assumption
    | with_reducible apply Steady.axisOff
    | with_reducible apply Steady.modAxis
    | with_reducible refine Steady.setF ?_ _ _
    | (try lift_lets -underBinder); intro x; refine Steady.cut (x := x) ?_ ?_ <;> [subst x; (clear_value x; intro _)]
    | (try lift_lets -underBinder); intro x; first | subst x | skip
    | split
    | fail_if_no_progress dsimp only
    | fail_if_no_progress with_reducible refine Steady.upd ?_

theorem Steady.accelerate (h : Steady s₀ s) (a : Nat) :
    Steady s₀ (State.accelerate s a) := by
  delta State.accelerate
  repeat' first
    | with_reducible assumption
    | with_reducible apply Steady.modAxis
    | with_reducible refine Steady.ite ?_ ?_
    | (try lift_lets -underBinder); intro x; refine Steady.cut (x := x) ?_ ?_ <;> [subst x; (clear_value x; intro _)]
    | (try lift_lets -underBinder); intro x; first | subst x | skip
    | fail_if_no_progress with_reducible refine Steady.upd ?_

theorem Steady.motorSync (h : Steady s₀ s) (a : Nat) :
    Steady s₀ (State.motorSync s a) := by
  delta State.motorSync
  repeat' first
    | with_reducible assumption
    | with_reducible apply Steady.modAxis
    | with_reducible refine Steady.ite ?_ ?_
    | (try lift_lets -underBinder); intro x; refine Steady.cut (x := x) ?_ ?_ <;> [subst x; (clear_value x; intro _)]
    | (try lift_lets -underBinder); intro x; first | subst x | skip
    | fail_if_no_progress with_reducible refine Steady.upd ?_

theorem Steady.writeMotCmd (h : Steady s₀ s) (a : Nat) (v : Word) :
    Steady s₀ (State.writeMotCmd s a v) := by
  delta State.writeMotCmd
  repeat' first
    | with_reducible assumption
    | with_reducible apply Steady.modAxis
    | with_reducible apply Steady.raiseMot
    | with_reducible refine Steady.setReg ?_ _ _
    | with_reducible apply Steady.startAxis
    | with_reducible apply Steady.stopAxis
    | with_reducible refine Steady.ite ?_ ?_
    | (try lift_lets -underBinder); intro x; refine Steady.cut (x := x) ?_ ?_ <;> [subst x; (clear_value x; intro _)]
    | (try lift_lets -underBinder); intro x; first | subst x | skip
    | fail_if_no_progress with_reducible refine Steady.upd ?_

theorem Steady.motorsDusk (h : Steady s₀ s) :
    Steady s₀ (State.motorsDusk s) := by
  delta State.motorsDusk
  repeat' first
    | with_reducible assumption
    | with_reducible apply Steady.modAxis
    | with_reducible apply Steady.startAxis
    | with_reducible apply Steady.stopAxis
    | with_reducible refine Steady.ite ?_ ?_
    | with_reducible refine Steady.foldl ?_ ?_
    | (try lift_lets -underBinder); intro x; refine Steady.cut (x := x) ?_ ?_ <;> [subst x; (clear_value x; intro _)]
    | (try lift_lets -underBinder); intro x; first | subst x | skip
    | split
    | fail_if_no_progress with_reducible refine Steady.upd ?_

theorem Steady.motorsOff (h : Steady s₀ s) :
    Steady s₀ (State.motorsOff s) := by
  delta State.motorsOff
  repeat' first
    | with_reducible assumption
    | with_reducible apply Steady.axisOff
    | with_reducible apply Steady.modAxis
    | with_reducible refine Steady.foldl ?_ ?_
    | (try lift_lets -underBinder); intro x; refine Steady.cut (x := x) ?_ ?_ <;> [subst x; (clear_value x; intro _)]
    | (try lift_lets -underBinder); intro x; first | subst x | skip
    | fail_if_no_progress with_reducible refine Steady.upd ?_

theorem Steady.dawnMotor (h : Steady s₀ s) (a : Nat) (gates : List Nat) (offU : Int) (offV : Int) :
    Steady s₀ (State.dawnMotor s a gates offU offV) := by
  delta State.dawnMotor
  repeat' first
    | with_reducible assumption
    | with_reducible apply Steady.modAxis
    | with_reducible apply Steady.raiseMot
    | with_reducible refine Steady.setF ?_ _ _
    | with_reducible refine Steady.ite ?_ ?_
    | with_reducible refine Steady.foldl ?_ ?_
    | (try lift_lets -underBinder); intro x; refine Steady.cut (x := x) ?_ ?_ <;> [subst x; (clear_value x; intro _)]
    | (try lift_lets -underBinder); intro x; first | subst x | skip
    | fail_if_no_progress with_reducible refine Steady.upd ?_

theorem Steady.phaseOrder (h : Steady s₀ s) (n : Nat) (d : Int) :
    Steady s₀ (State.phaseOrder s n d) := by
  delta State.phaseOrder
  repeat' first
    | with_reducible assumption
    | with_reducible refine Steady.axisTrip ?_ _ _ _ _
    | with_reducible apply Steady.modAxis
    | with_reducible refine Steady.ite ?_ ?_
    | with_reducible refine Steady.foldl ?_ ?_
    | (try lift_lets -underBinder); intro x; refine Steady.cut (x := x) ?_ ?_ <;> [subst x; (clear_value x; intro _)]
    | (try lift_lets -underBinder); intro x; first | subst x | skip
    | fail_if_no_progress with_reducible refine Steady.upd ?_

/-! ### Machine/PulseOps.lean -/

theorem Steady.takeBin (h : Steady s₀ s) (n : Nat) :
    Steady s₀ (State.takeBin s n) := by
  delta State.takeBin
  repeat' first
    | with_reducible assumption
    | with_reducible apply Steady.modTh
    | with_reducible refine Steady.setF ?_ _ _
    | with_reducible refine Steady.ite ?_ ?_
    | (try lift_lets -underBinder); intro x; refine Steady.cut (x := x) ?_ ?_ <;> [subst x; (clear_value x; intro _)]
    | (try lift_lets -underBinder); intro x; first | subst x | skip
    | split
    | fail_if_no_progress with_reducible refine Steady.upd ?_

theorem Steady.senseVpp (h : Steady s₀ s) (n : Nat) :
    Steady s₀ (State.senseVpp s n).1 := by
  delta State.senseVpp
  repeat' first
    | with_reducible assumption
    | with_reducible apply Steady.modTh
    | with_reducible apply Steady.raiseLane
    | with_reducible refine Steady.setF ?_ _ _
    | with_reducible refine Steady.ite ?_ ?_
    | with_reducible refine Steady.ite_fst ?_ ?_
    | (try lift_lets -underBinder); intro x; refine Steady.cut (x := x) ?_ ?_ <;> [subst x; (clear_value x; intro _)]
    | (try lift_lets -underBinder); intro x; first | subst x | skip
    | split
    | fail_if_no_progress with_reducible refine Steady.upd ?_

theorem Steady.senseVpp_eq {c} {v} (h : Steady s₀ s) {n : Nat} (e : State.senseVpp s n = (c, v)) :
    Steady s₀ c := by
  have k := Steady.senseVpp h n
  rwa [e] at k

theorem Steady.showEdrop (h : Steady s₀ s) (q : Nat) :
    Steady s₀ (State.showEdrop s q) := by
  delta State.showEdrop
  repeat' first
    | with_reducible assumption
    | with_reducible refine Steady.setF ?_ _ _
    | with_reducible refine Steady.setFields_nil ?_
    | with_reducible refine Steady.setFields_cons ?_
    | with_reducible refine Steady.setF ?_ _ _
    | with_reducible refine Steady.ite ?_ ?_
    | with_reducible refine Steady.foldl ?_ ?_
    | (try lift_lets -underBinder); intro x; refine Steady.cut (x := x) ?_ ?_ <;> [subst x; (clear_value x; intro _)]
    | (try lift_lets -underBinder); intro x; first | subst x | skip

theorem Steady.planEnergies (h : Steady s₀ s) (tiles : List Nat) :
    Steady s₀ (State.planEnergies s tiles) := by
  delta State.planEnergies
  repeat' first
    | with_reducible assumption
    | with_reducible apply Steady.modTh
    | with_reducible refine Steady.setF ?_ _ _
    | with_reducible apply Steady.showEdrop
    | with_reducible refine Steady.foldl ?_ ?_
    | (try lift_lets -underBinder); intro x; refine Steady.cut (x := x) ?_ ?_ <;> [subst x; (clear_value x; intro _)]
    | (try lift_lets -underBinder); intro x; first | subst x | skip
    | split
    | fail_if_no_progress dsimp only
    | fail_if_no_progress with_reducible refine Steady.upd ?_

theorem Steady.fixRanks (h : Steady s₀ s) :
    Steady s₀ (State.fixRanks s) := by
  delta State.fixRanks
  repeat' first
    | with_reducible assumption
    | with_reducible apply Steady.modTh
    | with_reducible refine Steady.setFields_nil ?_
    | with_reducible refine Steady.setFields_cons ?_
    | with_reducible refine Steady.setF ?_ _ _
    | with_reducible refine Steady.ite ?_ ?_
    | with_reducible refine Steady.foldl ?_ ?_
    | (try lift_lets -underBinder); intro x; refine Steady.cut (x := x) ?_ ?_ <;> [subst x; (clear_value x; intro _)]
    | (try lift_lets -underBinder); intro x; first | subst x | skip
    | fail_if_no_progress with_reducible refine Steady.upd ?_

theorem Steady.endPulseDoc (h : Steady s₀ s) (n : Nat) :
    Steady s₀ (State.endPulseDoc s n) := by
  delta State.endPulseDoc
  repeat' first
    | with_reducible assumption
    | with_reducible apply Steady.modTh
    | with_reducible apply Steady.raiseLane
    | with_reducible refine Steady.setF ?_ _ _
    | with_reducible refine Steady.setFs ?_ _ _
    | with_reducible refine Steady.ite ?_ ?_
    | (try lift_lets -underBinder); intro x; refine Steady.cut (x := x) ?_ ?_ <;> [subst x; (clear_value x; intro _)]
    | (try lift_lets -underBinder); intro x; first | subst x | skip
    | fail_if_no_progress with_reducible refine Steady.upd ?_

/-! ### Machine/CompOps.lean -/

theorem Steady.putForm (h : Steady s₀ s) (a : Nat) (bs : List Nat) :
    Steady s₀ (State.putForm s a bs) := by
  delta State.putForm
  repeat' first
    | with_reducible assumption
    | fail_if_no_progress with_reducible refine Steady.upd ?_

theorem Steady.countForm (h : Steady s₀ s) (a : Nat) (n : Nat) :
    Steady s₀ (State.countForm s a n) := by
  delta State.countForm
  repeat' first
    | with_reducible assumption
    | with_reducible apply Steady.count
    | with_reducible refine Steady.ite ?_ ?_
    | with_reducible refine Steady.foldl ?_ ?_
    | (try lift_lets -underBinder); intro x; refine Steady.cut (x := x) ?_ ?_ <;> [subst x; (clear_value x; intro _)]
    | (try lift_lets -underBinder); intro x; first | subst x | skip

theorem Steady.modWin (h : Steady s₀ s) (w : Nat) (g : Win → Win) :
    Steady s₀ (State.modWin s w g) := by
  delta State.modWin
  repeat' first
    | with_reducible assumption
    | fail_if_no_progress with_reducible refine Steady.upd ?_

theorem Steady.modFire (h : Steady s₀ s) (n : Nat) (g : FireT → FireT) :
    Steady s₀ (State.modFire s n g) := by
  delta State.modFire
  repeat' first
    | with_reducible assumption
    | fail_if_no_progress with_reducible refine Steady.upd ?_

theorem Steady.modLane (h : Steady s₀ s) (e : Nat) (g : Lane → Lane) :
    Steady s₀ (State.modLane s e g) := by
  delta State.modLane
  repeat' first
    | with_reducible assumption
    | fail_if_no_progress with_reducible refine Steady.upd ?_

theorem Steady.showQueue (h : Steady s₀ s) (w : Nat) :
    Steady s₀ (State.showQueue s w) := by
  delta State.showQueue
  repeat' first
    | with_reducible assumption
    | with_reducible refine Steady.setFields_nil ?_
    | with_reducible refine Steady.setFields_cons ?_
    | with_reducible refine Steady.setF ?_ _ _
    | (try lift_lets -underBinder); intro x; refine Steady.cut (x := x) ?_ ?_ <;> [subst x; (clear_value x; intro _)]
    | (try lift_lets -underBinder); intro x; first | subst x | skip

theorem Steady.compose (h : Steady s₀ s) (b : List Nat) (dlen : Nat) (stream : Nat) (index : Nat) :
    Steady s₀ (State.compose s b dlen stream index).1 := by
  delta State.compose
  repeat' first
    | with_reducible assumption
    | with_reducible apply Steady.modWin
    | with_reducible apply Steady.raise
    | with_reducible refine Steady.setFields_nil ?_
    | with_reducible refine Steady.setFields_cons ?_
    | with_reducible refine Steady.setF ?_ _ _
    | with_reducible apply Steady.showQueue
    | with_reducible refine Steady.ite ?_ ?_
    | with_reducible refine Steady.ite_fst ?_ ?_
    | (try lift_lets -underBinder); intro x; refine Steady.cut (x := x) ?_ ?_ <;> [subst x; (clear_value x; intro _)]
    | (try lift_lets -underBinder); intro x; first | subst x | skip
    | split
    | fail_if_no_progress with_reducible refine Steady.upd ?_

theorem Steady.compose_eq {c} {v} (h : Steady s₀ s) {b : List Nat} {dlen : Nat} {stream : Nat} {index : Nat} (e : State.compose s b dlen stream index = (c, v)) :
    Steady s₀ c := by
  have k := Steady.compose h b dlen stream index
  rwa [e] at k

theorem Steady.showComp (h : Steady s₀ s) :
    Steady s₀ (State.showComp s) := by
  delta State.showComp
  repeat' first
    | with_reducible assumption
    | with_reducible refine Steady.setFields_nil ?_
    | with_reducible refine Steady.setFields_cons ?_
    | with_reducible refine Steady.setF ?_ _ _

theorem Steady.modDoc (h : Steady s₀ s) (id : Nat) (g : RDoc → RDoc) :
    Steady s₀ (State.modDoc s id g) := by
  delta State.modDoc
  repeat' first
    | with_reducible assumption
    | with_reducible refine Steady.ite ?_ ?_
    | (try lift_lets -underBinder); intro x; refine Steady.cut (x := x) ?_ ?_ <;> [subst x; (clear_value x; intro _)]
    | (try lift_lets -underBinder); intro x; first | subst x | skip
    | fail_if_no_progress with_reducible refine Steady.upd ?_

theorem Steady.serialAdvance (h : Steady s₀ s) (k : Nat) (v : Nat) :
    Steady s₀ (State.serialAdvance s k v) := by
  delta State.serialAdvance
  repeat' first
    | with_reducible assumption
    | with_reducible apply Steady.raise
    | with_reducible refine Steady.setF ?_ _ _
    | with_reducible refine Steady.ite ?_ ?_
    | (try lift_lets -underBinder); intro x; refine Steady.cut (x := x) ?_ ?_ <;> [subst x; (clear_value x; intro _)]
    | (try lift_lets -underBinder); intro x; first | subst x | skip

theorem Steady.releaseKept (h : Steady s₀ s) :
    Steady s₀ (State.releaseKept s) := by
  delta State.releaseKept
  repeat' first
    | with_reducible assumption
    | with_reducible refine Steady.ite ?_ ?_
    | (try lift_lets -underBinder); intro x; refine Steady.cut (x := x) ?_ ?_ <;> [subst x; (clear_value x; intro _)]
    | (try lift_lets -underBinder); intro x; first | subst x | skip
    | fail_if_no_progress with_reducible refine Steady.upd ?_

theorem Steady.writeLine (h : Steady s₀ s) (e : Nat) (j : Nat) (bs : List Nat) :
    Steady s₀ (State.writeLine s e j bs) := by
  delta State.writeLine
  repeat' first
    | with_reducible assumption
    | with_reducible refine Steady.addF ?_ _ _
    | with_reducible apply Steady.modLane
    | with_reducible refine Steady.ite ?_ ?_
    | (try lift_lets -underBinder); intro x; refine Steady.cut (x := x) ?_ ?_ <;> [subst x; (clear_value x; intro _)]
    | (try lift_lets -underBinder); intro x; first | subst x | skip
    | fail_if_no_progress with_reducible refine Steady.upd ?_

theorem Steady.eventAll (h : Steady s₀ s) (x : CycleCtx) (l : Lane) (hh : History) (en : Bool) (m step : Nat) (acc : CycleAcc)
    (k : Nat) : Steady s₀ (State.eventAll x l hh en m step (s, acc) k).1 := by
  delta State.eventAll
  exact Steady.ite h (h.modNoz _ _ _)

theorem Steady.eventSweep (h : Steady s₀ s) (x : CycleCtx) (l : Lane) (hh : History) (en : Bool) (m step : Nat) :
    Steady s₀ (State.eventSweep s x l hh en m step).1 :=
  h.foldl_fst fun _ z k hs => hs.eventAll x l hh en m step z k

theorem Steady.eventSweep_eq {c v} (h : Steady s₀ s) {x : CycleCtx} {l : Lane} {hh : History} {en : Bool} {m step : Nat}
    (e : State.eventSweep s x l hh en m step = (c, v)) : Steady s₀ c := by
  have k := Steady.eventSweep h x l hh en m step
  rwa [e] at k

/-! ### Machine/RingOps.lean -/

theorem Steady.modRingPort (h : Steady s₀ s) (p : Nat) (g : RingPort → RingPort) :
    Steady s₀ (State.modRingPort s p g) := by
  delta State.modRingPort
  repeat' first
    | with_reducible assumption
    | fail_if_no_progress with_reducible refine Steady.upd ?_

theorem Steady.ringOut (h : Steady s₀ s) (port : Nat) (p : RingPkt) :
    Steady s₀ (State.ringOut s port p) := by
  delta State.ringOut
  repeat' first
    | with_reducible assumption
    | with_reducible apply Steady.count
    | with_reducible apply Steady.emit
    | with_reducible refine Steady.ite ?_ ?_
    | fail_if_no_progress with_reducible refine Steady.upd ?_

theorem Steady.nextSeq (h : Steady s₀ s) (vc : Nat) :
    Steady s₀ (State.nextSeq s vc).1 := by
  delta State.nextSeq
  repeat' first
    | with_reducible assumption
    | (try lift_lets -underBinder); intro x; refine Steady.cut (x := x) ?_ ?_ <;> [subst x; (clear_value x; intro _)]
    | (try lift_lets -underBinder); intro x; first | subst x | skip
    | split
    | fail_if_no_progress with_reducible refine Steady.upd ?_

theorem Steady.nextSeq_eq {c} {v} (h : Steady s₀ s) {vc : Nat} (e : State.nextSeq s vc = (c, v)) :
    Steady s₀ c := by
  have k := Steady.nextSeq h vc
  rwa [e] at k

theorem Steady.urgOut (h : Steady s₀ s) (port : Nat) (p : RingPkt) :
    Steady s₀ (State.urgOut s port p) := by
  delta State.urgOut
  repeat' first
    | with_reducible assumption
    | with_reducible apply Steady.count
    | with_reducible apply Steady.emit
    | with_reducible refine Steady.ite ?_ ?_

theorem Steady.sendUrg (h : Steady s₀ s) (p : RingPkt) :
    Steady s₀ (State.sendUrg s p) := by
  delta State.sendUrg
  repeat' first
    | with_reducible assumption
    | with_reducible apply Steady.nextSeq
    | with_reducible refine Steady.nextSeq_eq ?_ (by assumption)
    | with_reducible apply Steady.urgOut
    | (try lift_lets -underBinder); intro x; refine Steady.cut (x := x) ?_ ?_ <;> [subst x; (clear_value x; intro _)]
    | (try lift_lets -underBinder); intro x; first | subst x | skip
    | split
    | fail_if_no_progress with_reducible refine Steady.upd ?_

theorem Steady.sendJoin (h : Steady s₀ s) (p : RingPkt) :
    Steady s₀ (State.sendJoin s p) := by
  delta State.sendJoin
  repeat' first
    | with_reducible assumption
    | with_reducible apply Steady.nextSeq
    | with_reducible refine Steady.nextSeq_eq ?_ (by assumption)
    | with_reducible apply Steady.urgOut
    | (try lift_lets -underBinder); intro x; refine Steady.cut (x := x) ?_ ?_ <;> [subst x; (clear_value x; intro _)]
    | (try lift_lets -underBinder); intro x; first | subst x | skip
    | split
    | fail_if_no_progress with_reducible refine Steady.upd ?_

theorem Steady.sendRsp (h : Steady s₀ s) (req : RingPkt) (type : Nat) (status : Nat) (data : List Nat) :
    Steady s₀ (State.sendRsp s req type status data) := by
  delta State.sendRsp
  repeat' first
    | with_reducible assumption
    | with_reducible apply Steady.nextSeq
    | with_reducible refine Steady.nextSeq_eq ?_ (by assumption)
    | with_reducible apply Steady.ringOut
    | (try lift_lets -underBinder); intro x; refine Steady.cut (x := x) ?_ ?_ <;> [subst x; (clear_value x; intro _)]
    | (try lift_lets -underBinder); intro x; first | subst x | skip
    | split

theorem Steady.sendReq (h : Steady s₀ s) (p : RingPkt) (r : RingReq) :
    Steady s₀ (State.sendReq s p r) := by
  delta State.sendReq
  repeat' first
    | with_reducible assumption
    | with_reducible apply Steady.nextSeq
    | with_reducible refine Steady.nextSeq_eq ?_ (by assumption)
    | with_reducible apply Steady.ringOut
    | (try lift_lets -underBinder); intro x; refine Steady.cut (x := x) ?_ ?_ <;> [subst x; (clear_value x; intro _)]
    | (try lift_lets -underBinder); intro x; first | subst x | skip
    | split
    | fail_if_no_progress with_reducible refine Steady.upd ?_

theorem Steady.hostWrite (h : Steady s₀ s) (addr : Nat) (bs : List Nat) :
    Steady s₀ (State.hostWrite s addr bs) := by
  delta State.hostWrite
  repeat' first
    | with_reducible assumption
    | with_reducible apply Steady.emit
    | with_reducible apply Steady.sendReq
    | with_reducible refine Steady.ite ?_ ?_
    | with_reducible refine Steady.foldl ?_ ?_
    | (try lift_lets -underBinder); intro x; refine Steady.cut (x := x) ?_ ?_ <;> [subst x; (clear_value x; intro _)]
    | (try lift_lets -underBinder); intro x; first | subst x | skip

theorem Steady.msix (h : Steady s₀ s) (v : Nat) :
    Steady s₀ (State.msix s v) := by
  delta State.msix
  repeat' first
    | with_reducible assumption
    | with_reducible apply Steady.emit
    | with_reducible apply Steady.hostWrite
    | with_reducible refine Steady.ite ?_ ?_
    | fail_if_no_progress with_reducible refine Steady.upd ?_

theorem Steady.showHost (h : Steady s₀ s) :
    Steady s₀ (State.showHost s) := by
  delta State.showHost
  repeat' first
    | with_reducible assumption
    | with_reducible refine Steady.setFields_nil ?_
    | with_reducible refine Steady.setFields_cons ?_
    | with_reducible refine Steady.setF ?_ _ _

theorem Steady.issueRead (h : Steady s₀ s) (r : OutRead) :
    Steady s₀ (State.issueRead s r) := by
  delta State.issueRead
  repeat' first
    | with_reducible assumption
    | with_reducible apply Steady.emit
    | with_reducible apply Steady.hostRead
    | with_reducible apply Steady.showHost
    | (try lift_lets -underBinder); intro x; refine Steady.cut (x := x) ?_ ?_ <;> [subst x; (clear_value x; intro _)]
    | (try lift_lets -underBinder); intro x; first | subst x | skip
    | fail_if_no_progress with_reducible refine Steady.upd ?_

theorem Steady.pumpMembers (h : Steady s₀ s) (n : Nat) :
    Steady s₀ (State.pumpMembers s n) := by
  induction n generalizing s with
  | zero => exact h
  | succ n ih =>
    rw [State.pumpMembers]
    repeat' first
      | with_reducible assumption
      | with_reducible apply Steady.issueRead
      | with_reducible apply ih
      | with_reducible refine Steady.ite ?_ ?_
      | (try lift_lets -underBinder); intro x; refine Steady.cut (x := x) ?_ ?_ <;> [subst x; (clear_value x; intro _)]
      | (try lift_lets -underBinder); intro x; first | subst x | skip
      | split
      | fail_if_no_progress dsimp only
      | fail_if_no_progress with_reducible refine Steady.upd ?_

theorem Steady.hostRead (h : Steady s₀ s) (r : OutRead) :
    Steady s₀ (State.hostRead s r) := by
  delta State.hostRead
  repeat' first
    | with_reducible assumption
    | with_reducible apply Steady.issueRead
    | with_reducible apply Steady.sendReq
    | with_reducible refine Steady.ite ?_ ?_
    | (try lift_lets -underBinder); intro x; refine Steady.cut (x := x) ?_ ?_ <;> [subst x; (clear_value x; intro _)]
    | (try lift_lets -underBinder); intro x; first | subst x | skip
    | split
    | fail_if_no_progress dsimp only
    | fail_if_no_progress with_reducible refine Steady.upd ?_

/-! ### Machine/DmaOps.lean -/

theorem Steady.modStream (h : Steady s₀ s) (k : Nat) (g : Stream → Stream) :
    Steady s₀ (State.modStream s k g) := by
  delta State.modStream
  repeat' first
    | with_reducible assumption
    | fail_if_no_progress with_reducible refine Steady.upd ?_

theorem Steady.putRecord (h : Steady s₀ s) (k : Nat) (type : Nat) (bs : List Nat) (irq : Bool) :
    Steady s₀ (State.putRecord s k type bs irq) := by
  delta State.putRecord
  repeat' first
    | with_reducible assumption
    | with_reducible apply Steady.hostWrite
    | with_reducible apply Steady.modStream
    | with_reducible apply Steady.msix
    | with_reducible refine Steady.setF ?_ _ _
    | with_reducible refine Steady.setFields_nil ?_
    | with_reducible refine Steady.setFields_cons ?_
    | with_reducible refine Steady.setF ?_ _ _
    | with_reducible refine Steady.ite ?_ ?_
    | (try lift_lets -underBinder); intro x; refine Steady.cut (x := x) ?_ ?_ <;> [subst x; (clear_value x; intro _)]
    | (try lift_lets -underBinder); intro x; first | subst x | skip
    | fail_if_no_progress with_reducible refine Steady.upd ?_

theorem Steady.descRecord (h : Steady s₀ s) (k : Nat) (tag : Nat) (index : Nat) (status : Nat) (detail : Nat) (result : Nat) (irq : Bool) :
    Steady s₀ (State.descRecord s k tag index status detail result irq) := by
  delta State.descRecord
  repeat' first
    | with_reducible assumption
    | with_reducible apply Steady.count
    | with_reducible apply Steady.putRecord
    | (try lift_lets -underBinder); intro x; refine Steady.cut (x := x) ?_ ?_ <;> [subst x; (clear_value x; intro _)]
    | (try lift_lets -underBinder); intro x; first | subst x | skip

theorem Steady.docRecord (h : Steady s₀ s) (k : Nat) (tag : Nat) (flags : Nat) (win : Nat) (status : Nat) (rep : Nat) (seq : Nat) (last : Nat) (engines : Nat) (skipped : Nat) :
    Steady s₀ (State.docRecord s k tag flags win status rep seq last engines skipped) := by
  delta State.docRecord
  repeat' first
    | with_reducible assumption
    | with_reducible apply Steady.putRecord
    | with_reducible refine Steady.ite ?_ ?_
    | (try lift_lets -underBinder); intro x; refine Steady.cut (x := x) ?_ ?_ <;> [subst x; (clear_value x; intro _)]
    | (try lift_lets -underBinder); intro x; first | subst x | skip

theorem Steady.showPool (h : Steady s₀ s) :
    Steady s₀ (State.showPool s) := by
  delta State.showPool
  repeat' first
    | with_reducible assumption
    | with_reducible refine Steady.setFields_nil ?_
    | with_reducible refine Steady.setFields_cons ?_
    | with_reducible refine Steady.setF ?_ _ _
    | (try lift_lets -underBinder); intro x; refine Steady.cut (x := x) ?_ ?_ <;> [subst x; (clear_value x; intro _)]
    | (try lift_lets -underBinder); intro x; first | subst x | skip

theorem Steady.showFill (h : Steady s₀ s) (k : Nat) :
    Steady s₀ (State.showFill s k) := by
  delta State.showFill
  repeat' first
    | with_reducible assumption
    | with_reducible refine Steady.setF ?_ _ _
    | with_reducible refine Steady.ite ?_ ?_
    | (try lift_lets -underBinder); intro x; refine Steady.cut (x := x) ?_ ?_ <;> [subst x; (clear_value x; intro _)]
    | (try lift_lets -underBinder); intro x; first | subst x | skip

theorem Steady.idleStream (h : Steady s₀ s) (k : Nat) :
    Steady s₀ (State.idleStream s k) := by
  delta State.idleStream
  repeat' first
    | with_reducible assumption
    | with_reducible apply Steady.modStream
    | with_reducible refine Steady.setFb ?_ _ _
    | with_reducible apply Steady.showPool
    | with_reducible refine Steady.ite ?_ ?_
    | (try lift_lets -underBinder); intro x; refine Steady.cut (x := x) ?_ ?_ <;> [subst x; (clear_value x; intro _)]
    | (try lift_lets -underBinder); intro x; first | subst x | skip
    | fail_if_no_progress with_reducible refine Steady.upd ?_

theorem Steady.putStaging (h : Steady s₀ s) (o : Nat) (bs : List Nat) :
    Steady s₀ (State.putStaging s o bs) := by
  delta State.putStaging
  repeat' first
    | with_reducible assumption
    | with_reducible refine Steady.addF ?_ _ _
    | with_reducible apply Steady.raise
    | with_reducible refine Steady.ite ?_ ?_
    | (try lift_lets -underBinder); intro x; refine Steady.cut (x := x) ?_ ?_ <;> [subst x; (clear_value x; intro _)]
    | (try lift_lets -underBinder); intro x; first | subst x | skip
    | fail_if_no_progress with_reducible refine Steady.upd ?_

theorem Steady.putMem (h : Steady s₀ s) (k : Nat) (mem : Nat) (a : Nat) (off : Nat) (bs : List Nat) :
    Steady s₀ (State.putMem s k mem a off bs).1 := by
  delta State.putMem
  repeat' first
    | with_reducible assumption
    | with_reducible apply Steady.count
    | with_reducible apply Steady.hostWrite
    | with_reducible apply Steady.putForm
    | with_reducible apply Steady.putStaging
    | with_reducible apply Steady.sendReq
    | with_reducible refine Steady.foldl ?_ ?_
    | (try lift_lets -underBinder); intro x; refine Steady.cut (x := x) ?_ ?_ <;> [subst x; (clear_value x; intro _)]
    | (try lift_lets -underBinder); intro x; first | subst x | skip
    | split
    | fail_if_no_progress dsimp only
    | fail_if_no_progress with_reducible refine Steady.upd ?_

theorem Steady.putMem_eq {c} {v} (h : Steady s₀ s) {k : Nat} {mem : Nat} {a : Nat} {off : Nat} {bs : List Nat} (e : State.putMem s k mem a off bs = (c, v)) :
    Steady s₀ c := by
  have k := Steady.putMem h k mem a off bs
  rwa [e] at k

theorem Steady.modExec (h : Steady s₀ s) (k : Nat) (g : Exec → Exec) :
    Steady s₀ (State.modExec s k g) := by
  delta State.modExec
  repeat' first
    | with_reducible assumption
    | with_reducible apply Steady.modStream
    | (try lift_lets -underBinder); intro x; refine Steady.cut (x := x) ?_ ?_ <;> [subst x; (clear_value x; intro _)]
    | (try lift_lets -underBinder); intro x; first | subst x | skip
    | fail_if_no_progress with_reducible refine Steady.upd ?_

theorem Steady.markBad (h : Steady s₀ s) (k : Nat) (detail : Nat) (off : Nat) :
    Steady s₀ (State.markBad s k detail off) := by
  delta State.markBad
  repeat' first
    | with_reducible assumption
    | with_reducible apply Steady.modExec
    | with_reducible refine Steady.ite ?_ ?_
    | (try lift_lets -underBinder); intro x; refine Steady.cut (x := x) ?_ ?_ <;> [subst x; (clear_value x; intro _)]
    | (try lift_lets -underBinder); intro x; first | subst x | skip
    | fail_if_no_progress with_reducible refine Steady.upd ?_

theorem Steady.dropFlying (h : Steady s₀ s) (k : Nat) (off : Nat) :
    Steady s₀ (State.dropFlying s k off) := by
  delta State.dropFlying
  repeat' first
    | with_reducible assumption
    | with_reducible apply Steady.modExec
    | (try lift_lets -underBinder); intro x; refine Steady.cut (x := x) ?_ ?_ <;> [subst x; (clear_value x; intro _)]
    | (try lift_lets -underBinder); intro x; first | subst x | skip
    | fail_if_no_progress with_reducible refine Steady.upd ?_

theorem Steady.finishChunk (h : Steady s₀ s) (k : Nat) (d : Desc) (x : Exec) (c : Chunk) :
    Steady s₀ (State.finishChunk s k d x c) := by
  delta State.finishChunk
  repeat' first
    | with_reducible assumption
    | with_reducible apply Steady.modExec
    | with_reducible apply Steady.putMem
    | with_reducible refine Steady.putMem_eq ?_ (by assumption)
    | with_reducible apply Steady.tagDesc
    | with_reducible refine Steady.ite ?_ ?_
    | (try lift_lets -underBinder); intro x; refine Steady.cut (x := x) ?_ ?_ <;> [subst x; (clear_value x; intro _)]
    | (try lift_lets -underBinder); intro x; first | subst x | skip
    | split
    | fail_if_no_progress dsimp only
    | fail_if_no_progress with_reducible refine Steady.upd ?_

theorem Steady.drain (h : Steady s₀ s) (k : Nat) (d : Desc) (n : Nat) :
    Steady s₀ (State.drain s k d n) := by
  induction n generalizing s with
  | zero => exact h
  | succ n ih =>
    rw [State.drain]
    repeat' first
      | with_reducible assumption
      | with_reducible apply Steady.finishChunk
      | with_reducible apply ih
      | with_reducible refine Steady.ite ?_ ?_
      | (try lift_lets -underBinder); intro x; refine Steady.cut (x := x) ?_ ?_ <;> [subst x; (clear_value x; intro _)]
      | (try lift_lets -underBinder); intro x; first | subst x | skip
      | split
      | fail_if_no_progress dsimp only
      | fail_if_no_progress with_reducible refine Steady.upd ?_

theorem Steady.readSide (h : Steady s₀ s) (k : Nat) (mem : Nat) (a : Nat) (off : Nat) (side : Nat) (len : Nat) :
    Steady s₀ (State.readSide s k mem a off side len) := by
  delta State.readSide
  repeat' first
    | with_reducible assumption
    | with_reducible apply Steady.count
    | with_reducible apply Steady.hostRead
    | with_reducible apply Steady.sendReq
    | with_reducible refine Steady.ite ?_ ?_
    | (try lift_lets -underBinder); intro x; refine Steady.cut (x := x) ?_ ?_ <;> [subst x; (clear_value x; intro _)]
    | (try lift_lets -underBinder); intro x; first | subst x | skip

theorem Steady.pump (h : Steady s₀ s) (k : Nat) (d : Desc) (n : Nat) :
    Steady s₀ (State.pump s k d n) := by
  induction n generalizing s with
  | zero => exact h
  | succ n ih =>
    rw [State.pump]
    repeat' first
      | with_reducible assumption
      | with_reducible apply Steady.drain
      | with_reducible apply Steady.modExec
      | with_reducible apply Steady.readSide
      | with_reducible apply Steady.showFill
      | with_reducible apply Steady.tagDesc
      | with_reducible apply ih
      | with_reducible refine Steady.ite ?_ ?_
      | (try lift_lets -underBinder); intro x; refine Steady.cut (x := x) ?_ ?_ <;> [subst x; (clear_value x; intro _)]
      | (try lift_lets -underBinder); intro x; first | subst x | skip
      | split
      | fail_if_no_progress dsimp only
      | fail_if_no_progress with_reducible refine Steady.upd ?_

theorem Steady.composeRec (h : Steady s₀ s) (k : Nat) (d : Desc) (x : Exec) :
    Steady s₀ (State.composeRec s k d x) := by
  delta State.composeRec
  repeat' first
    | with_reducible assumption
    | with_reducible apply Steady.compose
    | with_reducible refine Steady.compose_eq ?_ (by assumption)
    | with_reducible apply Steady.modExec
    | with_reducible refine Steady.setF ?_ _ _
    | with_reducible refine Steady.ite ?_ ?_
    | (try lift_lets -underBinder); intro x; refine Steady.cut (x := x) ?_ ?_ <;> [subst x; (clear_value x; intro _)]
    | (try lift_lets -underBinder); intro x; first | subst x | skip
    | fail_if_no_progress with_reducible refine Steady.upd ?_

theorem Steady.runTransfer (h : Steady s₀ s) (k : Nat) :
    Steady s₀ (State.runTransfer s k) := by
  delta State.runTransfer
  repeat' first
    | with_reducible assumption
    | with_reducible apply Steady.composeRec
    | with_reducible apply Steady.drain
    | with_reducible apply Steady.modExec
    | with_reducible apply Steady.pump
    | with_reducible refine Steady.setF ?_ _ _
    | with_reducible refine Steady.ite ?_ ?_
    | (try lift_lets -underBinder); intro x; refine Steady.cut (x := x) ?_ ?_ <;> [subst x; (clear_value x; intro _)]
    | (try lift_lets -underBinder); intro x; first | subst x | skip
    | split
    | fail_if_no_progress dsimp only
    | fail_if_no_progress with_reducible refine Steady.upd ?_

theorem Steady.deliver (h : Steady s₀ s) (k : Nat) (side : Nat) (off : Nat) (bs : List Nat) :
    Steady s₀ (State.deliver s k side off bs) := by
  delta State.deliver
  repeat' first
    | with_reducible assumption
    | with_reducible apply Steady.modExec
    | with_reducible apply Steady.runTransfer
    | with_reducible apply Steady.showFill
    | (try lift_lets -underBinder); intro x; refine Steady.cut (x := x) ?_ ?_ <;> [subst x; (clear_value x; intro _)]
    | (try lift_lets -underBinder); intro x; first | subst x | skip
    | fail_if_no_progress with_reducible refine Steady.upd ?_

theorem Steady.chunkError (h : Steady s₀ s) (k : Nat) (detail : Nat) (off : Nat) :
    Steady s₀ (State.chunkError s k detail off) := by
  delta State.chunkError
  repeat' first
    | with_reducible assumption
    | with_reducible apply Steady.dropFlying
    | with_reducible apply Steady.markBad
    | with_reducible apply Steady.runTransfer
    | with_reducible apply Steady.showFill

theorem Steady.refuse (h : Steady s₀ s) (k : Nat) (index : Nat) (d : Desc) (status : Nat) (detail : Nat) :
    Steady s₀ (State.refuse s k index d status detail) := by
  delta State.refuse
  repeat' first
    | with_reducible assumption
    | with_reducible refine Steady.addF ?_ _ _
    | with_reducible apply Steady.descRecord
    | with_reducible apply Steady.raise

theorem Steady.fetchFail (h : Steady s₀ s) (k : Nat) (detail : Nat) :
    Steady s₀ (State.fetchFail s k detail) := by
  delta State.fetchFail
  repeat' first
    | with_reducible assumption
    | with_reducible apply Steady.descRecord
    | with_reducible apply Steady.modStream
    | with_reducible apply Steady.raise
    | with_reducible refine Steady.setF ?_ _ _
    | with_reducible apply Steady.showFill
    | (try lift_lets -underBinder); intro x; refine Steady.cut (x := x) ?_ ?_ <;> [subst x; (clear_value x; intro _)]
    | (try lift_lets -underBinder); intro x; first | subst x | skip
    | fail_if_no_progress with_reducible refine Steady.upd ?_

theorem Steady.readFail (h : Steady s₀ s) (r : OutRead) (detail : Nat) :
    Steady s₀ (State.readFail s r detail) := by
  delta State.readFail
  repeat' first
    | with_reducible assumption
    | with_reducible apply Steady.chunkError
    | with_reducible apply Steady.fetchFail
    | with_reducible apply Steady.markBad
    | with_reducible apply Steady.modExec
    | with_reducible apply Steady.pumpMembers
    | with_reducible apply Steady.sendRsp
    | with_reducible apply Steady.showHost
    | (try lift_lets -underBinder); intro x; refine Steady.cut (x := x) ?_ ?_ <;> [subst x; (clear_value x; intro _)]
    | (try lift_lets -underBinder); intro x; first | subst x | skip
    | split
    | fail_if_no_progress dsimp only
    | fail_if_no_progress with_reducible refine Steady.upd ?_

theorem Steady.gotDescriptors (h : Steady s₀ s) (k : Nat) (bs : List Nat) :
    Steady s₀ (State.gotDescriptors s k bs) := by
  delta State.gotDescriptors
  repeat' first
    | with_reducible assumption
    | with_reducible apply Steady.modStream
    | with_reducible refine Steady.setF ?_ _ _
    | with_reducible apply Steady.showFill
    | (try lift_lets -underBinder); intro x; refine Steady.cut (x := x) ?_ ?_ <;> [subst x; (clear_value x; intro _)]
    | (try lift_lets -underBinder); intro x; first | subst x | skip
    | fail_if_no_progress with_reducible refine Steady.upd ?_

theorem Steady.showSlots (h : Steady s₀ s) :
    Steady s₀ (State.showSlots s) := by
  delta State.showSlots
  repeat' first
    | with_reducible assumption
    | with_reducible refine Steady.setF ?_ _ _

theorem Steady.slotAlloc (h : Steady s₀ s) (k : Nat) (arg : Nat) :
    Steady s₀ (State.slotAlloc s k arg).1 := by
  delta State.slotAlloc
  repeat' first
    | with_reducible assumption
    | with_reducible apply Steady.showSlots
    | with_reducible refine Steady.ite ?_ ?_
    | with_reducible refine Steady.ite_fst ?_ ?_
    | (try lift_lets -underBinder); intro x; refine Steady.cut (x := x) ?_ ?_ <;> [subst x; (clear_value x; intro _)]
    | (try lift_lets -underBinder); intro x; first | subst x | skip
    | split
    | fail_if_no_progress dsimp only
    | fail_if_no_progress with_reducible refine Steady.upd ?_

theorem Steady.slotAlloc_eq {c} {v} (h : Steady s₀ s) {k : Nat} {arg : Nat} (e : State.slotAlloc s k arg = (c, v)) :
    Steady s₀ c := by
  have k := Steady.slotAlloc h k arg
  rwa [e] at k

theorem Steady.slotFree (h : Steady s₀ s) (h : Nat) :
    Steady s₀ (State.slotFree s h) := by
  delta State.slotFree
  repeat' first
    | with_reducible assumption
    | with_reducible apply Steady.showSlots
    | with_reducible refine Steady.ite ?_ ?_
    | (try lift_lets -underBinder); intro x; refine Steady.cut (x := x) ?_ ?_ <;> [subst x; (clear_value x; intro _)]
    | (try lift_lets -underBinder); intro x; first | subst x | skip
    | fail_if_no_progress with_reducible refine Steady.upd ?_

/-! ### Machine/MemOps.lean -/

theorem Steady.setBanks (h : Steady s₀ s) (e : Nat) (v : Nat) :
    Steady s₀ (State.setBanks s e v) := by
  delta State.setBanks
  repeat' first
    | with_reducible assumption
    | with_reducible refine Steady.setFields_nil ?_
    | with_reducible refine Steady.setFields_cons ?_
    | with_reducible refine Steady.setF ?_ _ _

theorem Steady.setSpad (h : Steady s₀ s) (b : Nat) (v : Nat) : Steady s₀ (State.setSpad s b v) := by
  delta State.setSpad
  exact Steady.setF h _ _ (by split <;> decide)

theorem Steady.onWrite (h : Steady s₀ s) (off : Nat) (g : State → State) (h_g : ∀ s, Steady s₀ s → Steady s₀ (g s)) :
    Steady s₀ (State.onWrite s off g) := by
  delta State.onWrite
  repeat' first
    | with_reducible assumption
    | with_reducible apply h_g
    | with_reducible refine Steady.ite ?_ ?_

/-! ### Machine/ThermOps.lean -/

theorem Steady.modSensor (h : Steady s₀ s) (n : Nat) (g : Sensor → Sensor) :
    Steady s₀ (State.modSensor s n g) := by
  delta State.modSensor
  repeat' first
    | with_reducible assumption
    | fail_if_no_progress with_reducible refine Steady.upd ?_

theorem Steady.showPred (h : Steady s₀ s) (tp : Option (Int × Nat)) :
    Steady s₀ (State.showPred s tp) := by
  delta State.showPred
  repeat' first
    | with_reducible assumption
    | with_reducible refine Steady.setF ?_ _ _
    | split
    | fail_if_no_progress with_reducible refine Steady.upd ?_

theorem Steady.showPausing (h : Steady s₀ s) :
    Steady s₀ (State.showPausing s) := by
  delta State.showPausing
  repeat' first
    | with_reducible assumption
    | with_reducible refine Steady.setFb ?_ _ _
    | (try lift_lets -underBinder); intro x; refine Steady.cut (x := x) ?_ ?_ <;> [subst x; (clear_value x; intro _)]
    | (try lift_lets -underBinder); intro x; first | subst x | skip

theorem Steady.pauseUntil (h : Steady s₀ s) (w : Nat) (t : Nat) :
    Steady s₀ (State.pauseUntil s w t) := by
  delta State.pauseUntil
  repeat' first
    | with_reducible assumption
    | with_reducible apply Steady.modWin
    | with_reducible refine Steady.setF ?_ _ _
    | with_reducible refine Steady.ite ?_ ?_
    | (try lift_lets -underBinder); intro x; refine Steady.cut (x := x) ?_ ?_ <;> [subst x; (clear_value x; intro _)]
    | (try lift_lets -underBinder); intro x; first | subst x | skip
    | fail_if_no_progress with_reducible refine Steady.upd ?_

theorem Steady.endPause (h : Steady s₀ s) (w : Nat) :
    Steady s₀ (State.endPause s w) := by
  delta State.endPause
  repeat' first
    | with_reducible assumption
    | with_reducible apply Steady.count
    | with_reducible apply Steady.modWin
    | with_reducible refine Steady.setF ?_ _ _
    | (try lift_lets -underBinder); intro x; refine Steady.cut (x := x) ?_ ?_ <;> [subst x; (clear_value x; intro _)]
    | (try lift_lets -underBinder); intro x; first | subst x | skip
    | split
    | fail_if_no_progress with_reducible refine Steady.upd ?_

theorem Steady.thermalStep (h : Steady s₀ s) (w : Nat) :
    Steady s₀ (State.thermalStep s w) := by
  delta State.thermalStep
  repeat' first
    | with_reducible assumption
    | with_reducible apply Steady.modWin
    | with_reducible apply Steady.pauseUntil
    | with_reducible apply Steady.showPausing
    | (try lift_lets -underBinder); intro x; refine Steady.cut (x := x) ?_ ?_ <;> [subst x; (clear_value x; intro _)]
    | (try lift_lets -underBinder); intro x; first | subst x | skip
    | fail_if_no_progress with_reducible refine Steady.upd ?_

theorem Steady.thermalGap (h : Steady s₀ s) (w : Nat) :
    Steady s₀ (State.thermalGap s w) := by
  delta State.thermalGap
  repeat' first
    | with_reducible assumption
    | with_reducible apply Steady.modWin
    | with_reducible apply Steady.thermalStep
    | with_reducible refine Steady.ite ?_ ?_
    | (try lift_lets -underBinder); intro x; refine Steady.cut (x := x) ?_ ?_ <;> [subst x; (clear_value x; intro _)]
    | (try lift_lets -underBinder); intro x; first | subst x | skip
    | fail_if_no_progress with_reducible refine Steady.upd ?_

/-! ### Machine/CalOps.lean -/

theorem Steady.modCal (h : Steady s₀ s) (k : Nat) (g : CalInst → CalInst) :
    Steady s₀ (State.modCal s k g) := by
  delta State.modCal
  repeat' first
    | with_reducible assumption
    | fail_if_no_progress with_reducible refine Steady.upd ?_

theorem Steady.showCal (h : Steady s₀ s) (k : Nat) :
    Steady s₀ (State.showCal s k) := by
  delta State.showCal
  repeat' first
    | with_reducible assumption
    | with_reducible refine Steady.setFs ?_ _ _
    | (try lift_lets -underBinder); intro x; refine Steady.cut (x := x) ?_ ?_ <;> [subst x; (clear_value x; intro _)]
    | (try lift_lets -underBinder); intro x; first | subst x | skip
    | split
    | fail_if_no_progress dsimp only
    | fail_if_no_progress with_reducible refine Steady.upd ?_

theorem Steady.setCal (h : Steady s₀ s) (k : Nat) (v : List Int) :
    Steady s₀ (State.setCal s k v) := by
  delta State.setCal
  repeat' first
    | with_reducible assumption
    | with_reducible apply Steady.modCal
    | with_reducible apply Steady.showCal
    | (try lift_lets -underBinder); intro x; refine Steady.cut (x := x) ?_ ?_ <;> [subst x; (clear_value x; intro _)]
    | (try lift_lets -underBinder); intro x; first | subst x | skip
    | fail_if_no_progress with_reducible refine Steady.upd ?_

theorem Steady.showDacs (h : Steady s₀ s) (n : Nat) :
    Steady s₀ (State.showDacs s n) := by
  delta State.showDacs
  repeat' first
    | with_reducible assumption
    | with_reducible refine Steady.setFields_nil ?_
    | with_reducible refine Steady.setFields_cons ?_
    | with_reducible refine Steady.setF ?_ _ _
    | split
    | fail_if_no_progress with_reducible refine Steady.upd ?_

theorem Steady.showSlewing (h : Steady s₀ s) :
    Steady s₀ (State.showSlewing s) := by
  delta State.showSlewing
  repeat' first
    | with_reducible assumption
    | with_reducible refine Steady.setF ?_ _ _
    | (try lift_lets -underBinder); intro x; refine Steady.cut (x := x) ?_ ?_ <;> [subst x; (clear_value x; intro _)]
    | (try lift_lets -underBinder); intro x; first | subst x | skip

theorem Steady.slewTo (h : Steady s₀ s) (k : Nat) (done : Nat) :
    Steady s₀ (State.slewTo s k done) := by
  delta State.slewTo
  repeat' first
    | with_reducible assumption
    | with_reducible apply Steady.modCal
    | with_reducible apply Steady.setCal
    | with_reducible apply Steady.showSlewing
    | with_reducible refine Steady.ite ?_ ?_
    | (try lift_lets -underBinder); intro x; refine Steady.cut (x := x) ?_ ?_ <;> [subst x; (clear_value x; intro _)]
    | (try lift_lets -underBinder); intro x; first | subst x | skip
    | fail_if_no_progress with_reducible refine Steady.upd ?_

theorem Steady.slewNew (h : Steady s₀ s) (k : Nat) (v : List Int) :
    Steady s₀ (State.slewNew s k v) := by
  delta State.slewNew
  repeat' first
    | with_reducible assumption
    | with_reducible apply Steady.modCal
    | with_reducible apply Steady.setCal
    | with_reducible apply Steady.showSlewing
    | with_reducible refine Steady.ite ?_ ?_
    | (try lift_lets -underBinder); intro x; refine Steady.cut (x := x) ?_ ?_ <;> [subst x; (clear_value x; intro _)]
    | (try lift_lets -underBinder); intro x; first | subst x | skip
    | fail_if_no_progress with_reducible refine Steady.upd ?_

theorem Steady.calSwap (h : Steady s₀ s) (n : Nat) :
    Steady s₀ (State.calSwap s n) := by
  delta State.calSwap
  repeat' first
    | with_reducible assumption
    | with_reducible apply Steady.modCal
    | with_reducible apply Steady.setCal
    | (try lift_lets -underBinder); intro x; refine Steady.cut (x := x) ?_ ?_ <;> [subst x; (clear_value x; intro _)]
    | (try lift_lets -underBinder); intro x; first | subst x | skip
    | split
    | fail_if_no_progress with_reducible refine Steady.upd ?_

theorem Steady.showNvPend (h : Steady s₀ s) :
    Steady s₀ (State.showNvPend s) := by
  delta State.showNvPend
  repeat' first
    | with_reducible assumption
    | with_reducible refine Steady.setFb ?_ _ _
    | (try lift_lets -underBinder); intro x; refine Steady.cut (x := x) ?_ ?_ <;> [subst x; (clear_value x; intro _)]
    | (try lift_lets -underBinder); intro x; first | subst x | skip

theorem Steady.calRecord (h : Steady s₀ s) (k : Nat) (v : List Int) :
    Steady s₀ (State.calRecord s k v) := by
  delta State.calRecord
  repeat' first
    | with_reducible assumption
    | with_reducible apply Steady.modCal
    | with_reducible apply Steady.showNvPend
    | with_reducible refine Steady.ite ?_ ?_
    | (try lift_lets -underBinder); intro x; refine Steady.cut (x := x) ?_ ?_ <;> [subst x; (clear_value x; intro _)]
    | (try lift_lets -underBinder); intro x; first | subst x | skip
    | split
    | fail_if_no_progress dsimp only
    | fail_if_no_progress with_reducible refine Steady.upd ?_

theorem Steady.calRetry (h : Steady s₀ s) :
    Steady s₀ (State.calRetry s) := by
  delta State.calRetry
  repeat' first
    | with_reducible assumption
    | with_reducible apply Steady.calRecord
    | with_reducible refine Steady.foldl ?_ ?_
    | (try lift_lets -underBinder); intro x; refine Steady.cut (x := x) ?_ ?_ <;> [subst x; (clear_value x; intro _)]
    | (try lift_lets -underBinder); intro x; first | subst x | skip
    | split
    | fail_if_no_progress with_reducible refine Steady.upd ?_

theorem Steady.calAgreed (h : Steady s₀ s) (k : Nat) :
    Steady s₀ (State.calAgreed s k) := by
  delta State.calAgreed
  repeat' first
    | with_reducible assumption
    | with_reducible refine Steady.incF ?_ _ _
    | with_reducible apply Steady.modCal
    | with_reducible refine Steady.setFields_nil ?_
    | with_reducible refine Steady.setFields_cons ?_
    | with_reducible refine Steady.setF ?_ _ _
    | (try lift_lets -underBinder); intro x; refine Steady.cut (x := x) ?_ ?_ <;> [subst x; (clear_value x; intro _)]
    | (try lift_lets -underBinder); intro x; first | subst x | skip
    | fail_if_no_progress with_reducible refine Steady.upd ?_

theorem Steady.showFactory (h : Steady s₀ s) :
    Steady s₀ (State.showFactory s) := by
  delta State.showFactory
  repeat' first
    | with_reducible assumption
    | with_reducible refine Steady.setF ?_ _ _
    | (try lift_lets -underBinder); intro x; refine Steady.cut (x := x) ?_ ?_ <;> [subst x; (clear_value x; intro _)]
    | (try lift_lets -underBinder); intro x; first | subst x | skip

theorem Steady.calDisagree (h : Steady s₀ s) (k : Nat) :
    Steady s₀ (State.calDisagree s k) := by
  delta State.calDisagree
  repeat' first
    | with_reducible assumption
    | with_reducible refine Steady.addF ?_ _ _
    | with_reducible apply Steady.modCal
    | with_reducible apply Steady.raise
    | (try lift_lets -underBinder); intro x; refine Steady.cut (x := x) ?_ ?_ <;> [subst x; (clear_value x; intro _)]
    | (try lift_lets -underBinder); intro x; first | subst x | skip
    | fail_if_no_progress with_reducible refine Steady.upd ?_

theorem Steady.calValue (h : Steady s₀ s) (k : Nat) (a : List Int) (b : List Int) :
    Steady s₀ (State.calValue s k a b).1 := by
  delta State.calValue
  repeat' first
    | with_reducible assumption
    | with_reducible apply Steady.raise
    | with_reducible refine Steady.ite ?_ ?_
    | with_reducible refine Steady.ite_fst ?_ ?_
    | (try lift_lets -underBinder); intro x; refine Steady.cut (x := x) ?_ ?_ <;> [subst x; (clear_value x; intro _)]
    | (try lift_lets -underBinder); intro x; first | subst x | skip
    | split

theorem Steady.calValue_eq {c} {v} (h : Steady s₀ s) {k : Nat} {a : List Int} {b : List Int} (e : State.calValue s k a b = (c, v)) :
    Steady s₀ c := by
  have k := Steady.calValue h k a b
  rwa [e] at k

theorem Steady.calPair (h : Steady s₀ s) (k : Nat) (a : List Int) (b : List Int) :
    Steady s₀ (State.calPair s k a b) := by
  delta State.calPair
  repeat' first
    | with_reducible assumption
    | with_reducible apply Steady.calAgreed
    | with_reducible apply Steady.calDisagree
    | with_reducible apply Steady.calRecord
    | with_reducible apply Steady.calValue
    | with_reducible refine Steady.calValue_eq ?_ (by assumption)
    | with_reducible apply Steady.modCal
    | with_reducible apply Steady.showFactory
    | with_reducible apply Steady.slewNew
    | with_reducible refine Steady.ite ?_ ?_
    | (try lift_lets -underBinder); intro x; refine Steady.cut (x := x) ?_ ?_ <;> [subst x; (clear_value x; intro _)]
    | (try lift_lets -underBinder); intro x; first | subst x | skip
    | split
    | fail_if_no_progress with_reducible refine Steady.upd ?_

theorem Steady.calDawnPair (h : Steady s₀ s) (k : Nat) (a : List Int) (b : List Int) :
    Steady s₀ (State.calDawnPair s k a b) := by
  delta State.calDawnPair
  repeat' first
    | with_reducible assumption
    | with_reducible apply Steady.calAgreed
    | with_reducible apply Steady.calDisagree
    | with_reducible apply Steady.calRecord
    | with_reducible apply Steady.calValue
    | with_reducible refine Steady.calValue_eq ?_ (by assumption)
    | with_reducible apply Steady.modCal
    | with_reducible apply Steady.setCal
    | with_reducible apply Steady.showFactory
    | with_reducible refine Steady.ite ?_ ?_
    | (try lift_lets -underBinder); intro x; refine Steady.cut (x := x) ?_ ?_ <;> [subst x; (clear_value x; intro _)]
    | (try lift_lets -underBinder); intro x; first | subst x | skip
    | split
    | fail_if_no_progress with_reducible refine Steady.upd ?_

theorem Steady.calLoad (h : Steady s₀ s) (k : Nat) :
    Steady s₀ (State.calLoad s k) := by
  delta State.calLoad
  repeat' first
    | with_reducible assumption
    | with_reducible apply Steady.modCal
    | with_reducible apply Steady.raise
    | with_reducible apply Steady.setCal
    | with_reducible refine Steady.ite ?_ ?_
    | (try lift_lets -underBinder); intro x; refine Steady.cut (x := x) ?_ ?_ <;> [subst x; (clear_value x; intro _)]
    | (try lift_lets -underBinder); intro x; first | subst x | skip
    | fail_if_no_progress with_reducible refine Steady.upd ?_

theorem Steady.calDawn (h : Steady s₀ s) :
    Steady s₀ (State.calDawn s) := by
  delta State.calDawn
  repeat' first
    | with_reducible assumption
    | with_reducible apply Steady.calLoad
    | with_reducible apply Steady.showFactory
    | with_reducible apply Steady.showSlewing
    | with_reducible refine Steady.foldl ?_ ?_
    | (try lift_lets -underBinder); intro x; refine Steady.cut (x := x) ?_ ?_ <;> [subst x; (clear_value x; intro _)]
    | (try lift_lets -underBinder); intro x; first | subst x | skip

theorem Steady.calDawnStart (h : Steady s₀ s) :
    Steady s₀ (State.calDawnStart s) := by
  delta State.calDawnStart
  repeat' first
    | with_reducible assumption
    | with_reducible apply Steady.modCal
    | with_reducible refine Steady.foldl ?_ ?_
    | (try lift_lets -underBinder); intro x; refine Steady.cut (x := x) ?_ ?_ <;> [subst x; (clear_value x; intro _)]
    | (try lift_lets -underBinder); intro x; first | subst x | skip
    | fail_if_no_progress with_reducible refine Steady.upd ?_

theorem Steady.calDue (h : Steady s₀ s) (k : Nat) :
    Steady s₀ (State.calDue s k) := by
  delta State.calDue
  repeat' first
    | with_reducible assumption
    | with_reducible apply Steady.modCal
    | with_reducible refine Steady.ite ?_ ?_
    | (try lift_lets -underBinder); intro x; refine Steady.cut (x := x) ?_ ?_ <;> [subst x; (clear_value x; intro _)]
    | (try lift_lets -underBinder); intro x; first | subst x | skip
    | fail_if_no_progress with_reducible refine Steady.upd ?_

theorem Steady.calAllDue (h : Steady s₀ s) :
    Steady s₀ (State.calAllDue s) := by
  delta State.calAllDue
  repeat' first
    | with_reducible assumption
    | with_reducible apply Steady.calDue
    | with_reducible refine Steady.foldl ?_ ?_
    | (try lift_lets -underBinder); intro x; refine Steady.cut (x := x) ?_ ?_ <;> [subst x; (clear_value x; intro _)]
    | (try lift_lets -underBinder); intro x; first | subst x | skip

theorem Steady.calAbandon (h : Steady s₀ s) (w : Nat) :
    Steady s₀ (State.calAbandon s w) := by
  delta State.calAbandon
  repeat' first
    | with_reducible assumption
    | with_reducible apply Steady.modCal
    | with_reducible refine Steady.ite ?_ ?_
    | with_reducible refine Steady.foldl ?_ ?_
    | (try lift_lets -underBinder); intro x; refine Steady.cut (x := x) ?_ ?_ <;> [subst x; (clear_value x; intro _)]
    | (try lift_lets -underBinder); intro x; first | subst x | skip
    | fail_if_no_progress with_reducible refine Steady.upd ?_

theorem Steady.calDrop (h : Steady s₀ s) :
    Steady s₀ (State.calDrop s) := by
  delta State.calDrop
  repeat' first
    | with_reducible assumption
    | with_reducible apply Steady.modCal
    | with_reducible refine Steady.ite ?_ ?_
    | with_reducible refine Steady.foldl ?_ ?_
    | (try lift_lets -underBinder); intro x; refine Steady.cut (x := x) ?_ ?_ <;> [subst x; (clear_value x; intro _)]
    | (try lift_lets -underBinder); intro x; first | subst x | skip
    | fail_if_no_progress with_reducible refine Steady.upd ?_

theorem Steady.calApply (h : Steady s₀ s) (p : CalPolicy) :
    Steady s₀ (State.calApply s p) := by
  delta State.calApply
  repeat' first
    | with_reducible assumption
    | with_reducible apply Steady.modCal
    | with_reducible apply Steady.setCal
    | with_reducible apply Steady.showDacs
    | with_reducible apply Steady.showSlewing
    | with_reducible apply Steady.slewTo
    | with_reducible refine Steady.ite ?_ ?_
    | with_reducible refine Steady.foldl ?_ ?_
    | (try lift_lets -underBinder); intro x; refine Steady.cut (x := x) ?_ ?_ <;> [subst x; (clear_value x; intro _)]
    | (try lift_lets -underBinder); intro x; first | subst x | skip
    | fail_if_no_progress with_reducible refine Steady.upd ?_

theorem Steady.countEdge (h : Steady s₀ s) (ph : List Nat) :
    Steady s₀ (State.countEdge s ph) := by
  delta State.countEdge
  repeat' first
    | with_reducible assumption
    | with_reducible apply Steady.modCal
    | with_reducible refine Steady.ite ?_ ?_
    | with_reducible refine Steady.foldl ?_ ?_
    | (try lift_lets -underBinder); intro x; refine Steady.cut (x := x) ?_ ?_ <;> [subst x; (clear_value x; intro _)]
    | (try lift_lets -underBinder); intro x; first | subst x | skip
    | fail_if_no_progress with_reducible refine Steady.upd ?_

/-! ### Machine/FireOps.lean -/

theorem Steady.modPin (h : Steady s₀ s) (n : Nat) (g : PosIn → PosIn) :
    Steady s₀ (State.modPin s n g) := by
  delta State.modPin
  repeat' first
    | with_reducible assumption
    | fail_if_no_progress with_reducible refine Steady.upd ?_

theorem Steady.resetFire (h : Steady s₀ s) (n : Nat) :
    Steady s₀ (State.resetFire s n) := by
  delta State.resetFire
  repeat' first
    | with_reducible assumption
    | with_reducible apply Steady.modFire
    | with_reducible refine Steady.setFields_nil ?_
    | with_reducible refine Steady.setFields_cons ?_
    | with_reducible refine Steady.setF ?_ _ _
    | with_reducible refine Steady.setFs ?_ _ _
    | with_reducible refine Steady.ite ?_ ?_
    | (try lift_lets -underBinder); intro x; refine Steady.cut (x := x) ?_ ?_ <;> [subst x; (clear_value x; intro _)]
    | (try lift_lets -underBinder); intro x; first | subst x | skip
    | split
    | fail_if_no_progress dsimp only
    | fail_if_no_progress with_reducible refine Steady.upd ?_

theorem Steady.refFrac (h : Steady s₀ s) (n : Nat) :
    Steady s₀ (State.refFrac s n) := by
  delta State.refFrac
  repeat' first
    | with_reducible assumption
    | with_reducible apply Steady.raiseLane
    | with_reducible refine Steady.ite ?_ ?_
    | split
    | fail_if_no_progress with_reducible refine Steady.upd ?_

theorem Steady.armPass (h : Steady s₀ s) (n : Nat) (p : Nat) (start : Nat) :
    Steady s₀ (State.armPass s n p start) := by
  delta State.armPass
  repeat' first
    | with_reducible assumption
    | with_reducible apply Steady.modLane
    | with_reducible apply Steady.refFrac
    | with_reducible apply Steady.resetFire
    | with_reducible refine Steady.setFields_nil ?_
    | with_reducible refine Steady.setFields_cons ?_
    | with_reducible refine Steady.setF ?_ _ _
    | with_reducible refine Steady.ite ?_ ?_
    | (try lift_lets -underBinder); intro x; refine Steady.cut (x := x) ?_ ?_ <;> [subst x; (clear_value x; intro _)]
    | (try lift_lets -underBinder); intro x; first | subst x | skip
    | split
    | fail_if_no_progress dsimp only
    | fail_if_no_progress with_reducible refine Steady.upd ?_

theorem Steady.showPlan (h : Steady s₀ s) :
    Steady s₀ (State.showPlan s) := by
  delta State.showPlan
  repeat' first
    | with_reducible assumption
    | with_reducible refine Steady.setF ?_ _ _
    | with_reducible refine Steady.foldl ?_ ?_
    | (try lift_lets -underBinder); intro x; refine Steady.cut (x := x) ?_ ?_ <;> [subst x; (clear_value x; intro _)]
    | (try lift_lets -underBinder); intro x; first | subst x | skip

theorem Steady.brokerPause (h : Steady s₀ s) (w : Nat) (us : Nat) :
    Steady s₀ (State.brokerPause s w us) := by
  delta State.brokerPause
  repeat' first
    | with_reducible assumption
    | with_reducible refine Steady.addF ?_ _ _
    | with_reducible apply Steady.pauseUntil
    | with_reducible refine Steady.setF ?_ _ _

theorem Steady.holdDoc (h : Steady s₀ s) (w : Nat) (b : Bool) :
    Steady s₀ (State.holdDoc s w b) := by
  delta State.holdDoc
  repeat' first
    | with_reducible assumption
    | with_reducible apply Steady.modWin
    | (try lift_lets -underBinder); intro x; refine Steady.cut (x := x) ?_ ?_ <;> [subst x; (clear_value x; intro _)]
    | (try lift_lets -underBinder); intro x; first | subst x | skip
    | fail_if_no_progress with_reducible refine Steady.upd ?_

theorem Steady.pauseFor (h : Steady s₀ s) (w : Nat) (us : Nat) :
    Steady s₀ (State.pauseFor s w us) := by
  delta State.pauseFor
  repeat' first
    | with_reducible assumption
    | with_reducible apply Steady.brokerPause
    | with_reducible refine Steady.ite ?_ ?_

theorem Steady.admitDoc (h : Steady s₀ s) (w : Nat) :
    Steady s₀ (State.admitDoc s w) := by
  delta State.admitDoc
  repeat' first
    | with_reducible assumption
    | with_reducible apply Steady.brokerPause
    | with_reducible apply Steady.holdDoc
    | with_reducible apply Steady.pauseFor
    | with_reducible apply Steady.raise
    | with_reducible refine Steady.ite ?_ ?_
    | (try lift_lets -underBinder); intro x; refine Steady.cut (x := x) ?_ ?_ <;> [subst x; (clear_value x; intro _)]
    | (try lift_lets -underBinder); intro x; first | subst x | skip
    | split
    | fail_if_no_progress dsimp only
    | fail_if_no_progress with_reducible refine Steady.upd ?_

theorem Steady.clearScanned (h : Steady s₀ s) (w : Nat) :
    Steady s₀ (State.clearScanned s w) := by
  delta State.clearScanned
  repeat' first
    | with_reducible assumption
    | with_reducible apply Steady.modTh
    | with_reducible refine Steady.foldl ?_ ?_
    | (try lift_lets -underBinder); intro x; refine Steady.cut (x := x) ?_ ?_ <;> [subst x; (clear_value x; intro _)]
    | (try lift_lets -underBinder); intro x; first | subst x | skip
    | fail_if_no_progress with_reducible refine Steady.upd ?_

theorem Steady.abandonGap (h : Steady s₀ s) (w : Nat) :
    Steady s₀ (State.abandonGap s w) := by
  delta State.abandonGap
  repeat' first
    | with_reducible assumption
    | with_reducible apply Steady.calAbandon
    | with_reducible apply Steady.clearScanned

theorem Steady.checkExtent (h : Steady s₀ s) (w : Nat) :
    Steady s₀ (State.checkExtent s w) := by
  delta State.checkExtent
  repeat' first
    | with_reducible assumption
    | with_reducible apply Steady.modWin
    | with_reducible apply Steady.raise
    | with_reducible refine Steady.ite ?_ ?_
    | (try lift_lets -underBinder); intro x; refine Steady.cut (x := x) ?_ ?_ <;> [subst x; (clear_value x; intro _)]
    | (try lift_lets -underBinder); intro x; first | subst x | skip
    | split
    | fail_if_no_progress with_reducible refine Steady.upd ?_

theorem Steady.showLast (h : Steady s₀ s) (w : Nat) :
    Steady s₀ (State.showLast s w) := by
  delta State.showLast
  repeat' first
    | with_reducible assumption
    | with_reducible refine Steady.setF ?_ _ _
    | split
    | fail_if_no_progress with_reducible refine Steady.upd ?_

theorem Steady.maskKind (h : Steady s₀ s) (m : Option MaskSet) (n : Nat) :
    Steady s₀ (State.maskKind s m n) := by
  delta State.maskKind
  repeat' first
    | with_reducible assumption
    | with_reducible apply Steady.raiseLane
    | with_reducible refine Steady.setF ?_ _ _
    | with_reducible refine Steady.ite ?_ ?_
    | split
    | fail_if_no_progress with_reducible refine Steady.upd ?_

theorem Steady.beginDoc (h : Steady s₀ s) (w : Nat) (d : Doc) :
    Steady s₀ (State.beginDoc s w d) := by
  delta State.beginDoc
  repeat' first
    | with_reducible assumption
    | with_reducible apply Steady.abandonGap
    | with_reducible apply Steady.armPass
    | with_reducible apply Steady.checkExtent
    | with_reducible apply Steady.endPause
    | with_reducible apply Steady.handCues
    | with_reducible apply Steady.maskKind
    | with_reducible apply Steady.modFire
    | with_reducible apply Steady.modWin
    | with_reducible apply Steady.setAcct
    | with_reducible refine Steady.setF ?_ _ _
    | with_reducible refine Steady.setFields_nil ?_
    | with_reducible refine Steady.setFields_cons ?_
    | with_reducible refine Steady.setF ?_ _ _
    | with_reducible apply Steady.showLast
    | with_reducible apply Steady.showPausing
    | with_reducible apply Steady.showPlan
    | with_reducible refine Steady.ite ?_ ?_
    | with_reducible refine Steady.foldl ?_ ?_
    | (try lift_lets -underBinder); intro x; refine Steady.cut (x := x) ?_ ?_ <;> [subst x; (clear_value x; intro _)]
    | (try lift_lets -underBinder); intro x; first | subst x | skip
    | fail_if_no_progress with_reducible refine Steady.upd ?_

theorem Steady.acceptOpen (h : Steady s₀ s) (w : Nat) :
    Steady s₀ (State.acceptOpen s w) := by
  delta State.acceptOpen
  repeat' first
    | with_reducible assumption
    | with_reducible apply Steady.beginDoc
    | with_reducible apply Steady.modDoc
    | with_reducible apply Steady.modWin
    | with_reducible apply Steady.showQueue
    | with_reducible refine Steady.ite ?_ ?_
    | (try lift_lets -underBinder); intro x; refine Steady.cut (x := x) ?_ ?_ <;> [subst x; (clear_value x; intro _)]
    | (try lift_lets -underBinder); intro x; first | subst x | skip
    | split
    | fail_if_no_progress dsimp only
    | fail_if_no_progress with_reducible refine Steady.upd ?_

theorem Steady.openPattern (h : Steady s₀ s) (w : Nat) :
    Steady s₀ (State.openPattern s w) := by
  delta State.openPattern
  repeat' first
    | with_reducible assumption
    | with_reducible apply Steady.beginDoc

theorem Steady.discardOpen (h : Steady s₀ s) (w : Nat) :
    Steady s₀ (State.discardOpen s w) := by
  delta State.discardOpen
  repeat' first
    | with_reducible assumption
    | with_reducible refine Steady.addF ?_ _ _

theorem Steady.openWin (h : Steady s₀ s) (w : Nat) :
    Steady s₀ (State.openWin s w) := by
  delta State.openWin
  repeat' first
    | with_reducible assumption
    | with_reducible apply Steady.acceptOpen
    | with_reducible refine Steady.addF ?_ _ _
    | with_reducible apply Steady.discardOpen
    | with_reducible apply Steady.modWin
    | with_reducible apply Steady.raise
    | with_reducible refine Steady.setF ?_ _ _
    | with_reducible refine Steady.ite ?_ ?_
    | (try lift_lets -underBinder); intro x; refine Steady.cut (x := x) ?_ ?_ <;> [subst x; (clear_value x; intro _)]
    | (try lift_lets -underBinder); intro x; first | subst x | skip
    | fail_if_no_progress with_reducible refine Steady.upd ?_

theorem Steady.writeJoin (h : Steady s₀ s) (j : JoinDoc) :
    Steady s₀ (State.writeJoin s j) := by
  delta State.writeJoin
  repeat' first
    | with_reducible assumption
    | with_reducible apply Steady.docRecord
    | with_reducible refine Steady.ite ?_ ?_
    | with_reducible refine Steady.foldl ?_ ?_
    | (try lift_lets -underBinder); intro x; refine Steady.cut (x := x) ?_ ?_ <;> [subst x; (clear_value x; intro _)]
    | (try lift_lets -underBinder); intro x; first | subst x | skip

theorem Steady.addReport (h : Steady s₀ s) (win : Nat) (tag : Nat) (rep : Nat) (eid : Nat) (status : Nat) (last : Nat) (skipped : Nat) (own : Option (Nat × Nat × Nat)) :
    Steady s₀ (State.addReport s win tag rep eid status last skipped own) := by
  delta State.addReport
  repeat' first
    | with_reducible assumption
    | with_reducible apply Steady.writeJoin
    | with_reducible refine Steady.ite ?_ ?_
    | (try lift_lets -underBinder); intro x; refine Steady.cut (x := x) ?_ ?_ <;> [subst x; (clear_value x; intro _)]
    | (try lift_lets -underBinder); intro x; first | subst x | skip
    | split
    | fail_if_no_progress dsimp only
    | fail_if_no_progress with_reducible refine Steady.upd ?_

theorem Steady.docEnd (h : Steady s₀ s) (w : Nat) (stream : Nat) (tag : Nat) (rep : Nat) (status : Nat) (seq : Nat) (last : Nat) (skipped : Nat) (short : Bool) (test : Bool) :
    Steady s₀ (State.docEnd s w stream tag rep status seq last skipped short test) := by
  delta State.docEnd
  repeat' first
    | with_reducible assumption
    | with_reducible apply Steady.addReport
    | with_reducible apply Steady.docRecord
    | with_reducible apply Steady.sendReq
    | with_reducible refine Steady.setF ?_ _ _
    | with_reducible refine Steady.ite ?_ ?_
    | (try lift_lets -underBinder); intro x; refine Steady.cut (x := x) ?_ ?_ <;> [subst x; (clear_value x; intro _)]
    | (try lift_lets -underBinder); intro x; first | subst x | skip

theorem Steady.completeDoc (h : Steady s₀ s) (w : Nat) :
    Steady s₀ (State.completeDoc s w) := by
  delta State.completeDoc
  repeat' first
    | with_reducible assumption
    | with_reducible apply Steady.count
    | with_reducible apply Steady.docEnd
    | with_reducible apply Steady.emitSrc
    | with_reducible apply Steady.endPulseDoc
    | with_reducible apply Steady.modFire
    | with_reducible apply Steady.modWin
    | with_reducible refine Steady.setF ?_ _ _
    | with_reducible refine Steady.setFields_nil ?_
    | with_reducible refine Steady.setFields_cons ?_
    | with_reducible refine Steady.setF ?_ _ _
    | with_reducible apply Steady.showComp
    | with_reducible apply Steady.showPlan
    | with_reducible apply Steady.showQueue
    | with_reducible apply Steady.tagRecord
    | with_reducible refine Steady.ite ?_ ?_
    | with_reducible refine Steady.foldl ?_ ?_
    | (try lift_lets -underBinder); intro x; refine Steady.cut (x := x) ?_ ?_ <;> [subst x; (clear_value x; intro _)]
    | (try lift_lets -underBinder); intro x; first | subst x | skip
    | split
    | fail_if_no_progress dsimp only
    | fail_if_no_progress with_reducible refine Steady.upd ?_

theorem Steady.tryComplete (h : Steady s₀ s) (w : Nat) :
    Steady s₀ (State.tryComplete s w) := by
  delta State.tryComplete
  repeat' first
    | with_reducible assumption
    | with_reducible apply Steady.completeDoc
    | with_reducible refine Steady.ite ?_ ?_
    | (try lift_lets -underBinder); intro x; refine Steady.cut (x := x) ?_ ?_ <;> [subst x; (clear_value x; intro _)]
    | (try lift_lets -underBinder); intro x; first | subst x | skip

theorem Steady.checkPass (h : Steady s₀ s) (n : Nat) (w : Nat) (d : Doc) :
    Steady s₀ (State.checkPass s n w d) := by
  delta State.checkPass
  repeat' first
    | with_reducible assumption
    | with_reducible apply Steady.armPass
    | with_reducible apply Steady.modFire
    | with_reducible refine Steady.setF ?_ _ _
    | with_reducible refine Steady.ite ?_ ?_
    | with_reducible refine Steady.foldl ?_ ?_
    | (try lift_lets -underBinder); intro x; refine Steady.cut (x := x) ?_ ?_ <;> [subst x; (clear_value x; intro _)]
    | (try lift_lets -underBinder); intro x; first | subst x | skip
    | split
    | fail_if_no_progress dsimp only
    | fail_if_no_progress with_reducible refine Steady.upd ?_

theorem Steady.checkPasses (h : Steady s₀ s) (w : Nat) :
    Steady s₀ (State.checkPasses s w) := by
  delta State.checkPasses
  repeat' first
    | with_reducible assumption
    | with_reducible apply Steady.checkPass
    | with_reducible apply Steady.tryComplete
    | with_reducible refine Steady.ite ?_ ?_
    | with_reducible refine Steady.foldl ?_ ?_
    | (try lift_lets -underBinder); intro x; refine Steady.cut (x := x) ?_ ?_ <;> [subst x; (clear_value x; intro _)]
    | (try lift_lets -underBinder); intro x; first | subst x | skip
    | split
    | fail_if_no_progress with_reducible refine Steady.upd ?_

theorem Steady.cutPackets (h : Steady s₀ s) (w : Nat) (d : Doc) :
    Steady s₀ (State.cutPackets s w d) := by
  delta State.cutPackets
  repeat' first
    | with_reducible assumption
    | with_reducible apply Steady.modLane
    | with_reducible apply Steady.modPort
    | with_reducible refine Steady.foldl ?_ ?_
    | (try lift_lets -underBinder); intro x; refine Steady.cut (x := x) ?_ ?_ <;> [subst x; (clear_value x; intro _)]
    | (try lift_lets -underBinder); intro x; first | subst x | skip
    | split
    | fail_if_no_progress dsimp only
    | fail_if_no_progress with_reducible refine Steady.upd ?_

theorem Steady.closeWin (h : Steady s₀ s) (w : Nat) :
    Steady s₀ (State.closeWin s w) := by
  delta State.closeWin
  repeat' first
    | with_reducible assumption
    | with_reducible apply Steady.checkExtent
    | with_reducible apply Steady.checkPasses
    | with_reducible apply Steady.cutPackets
    | with_reducible apply Steady.modWin
    | with_reducible apply Steady.raise
    | with_reducible refine Steady.setF ?_ _ _
    | with_reducible apply Steady.showLast
    | with_reducible refine Steady.ite ?_ ?_
    | (try lift_lets -underBinder); intro x; refine Steady.cut (x := x) ?_ ?_ <;> [subst x; (clear_value x; intro _)]
    | (try lift_lets -underBinder); intro x; first | subst x | skip
    | split
    | fail_if_no_progress dsimp only
    | fail_if_no_progress with_reducible refine Steady.upd ?_

theorem Steady.askStop (h : Steady s₀ s) (w : Nat) :
    Steady s₀ (State.askStop s w) := by
  delta State.askStop
  repeat' first
    | with_reducible assumption
    | with_reducible apply Steady.modWin
    | with_reducible refine Steady.ite ?_ ?_
    | (try lift_lets -underBinder); intro x; refine Steady.cut (x := x) ?_ ?_ <;> [subst x; (clear_value x; intro _)]
    | (try lift_lets -underBinder); intro x; first | subst x | skip
    | fail_if_no_progress with_reducible refine Steady.upd ?_

theorem Steady.applyStop (h : Steady s₀ s) (w : Nat) :
    Steady s₀ (State.applyStop s w) := by
  delta State.applyStop
  repeat' first
    | with_reducible assumption
    | with_reducible apply Steady.checkPasses
    | with_reducible apply Steady.cutPackets
    | with_reducible apply Steady.modWin
    | with_reducible refine Steady.setF ?_ _ _
    | with_reducible apply Steady.showLast
    | with_reducible refine Steady.ite ?_ ?_
    | with_reducible refine Steady.foldl ?_ ?_
    | (try lift_lets -underBinder); intro x; refine Steady.cut (x := x) ?_ ?_ <;> [subst x; (clear_value x; intro _)]
    | (try lift_lets -underBinder); intro x; first | subst x | skip
    | split
    | fail_if_no_progress dsimp only
    | fail_if_no_progress with_reducible refine Steady.upd ?_

theorem Steady.liveSwap (h : Steady s₀ s) (w : Nat) (hold : Nat) :
    Steady s₀ (State.liveSwap s w hold) := by
  delta State.liveSwap
  repeat' first
    | with_reducible assumption
    | with_reducible apply Steady.holdCues
    | with_reducible apply Steady.modPin
    | with_reducible apply Steady.resetFire
    | with_reducible refine Steady.setFields_nil ?_
    | with_reducible refine Steady.setFields_cons ?_
    | with_reducible refine Steady.setF ?_ _ _
    | with_reducible apply Steady.showCues
    | with_reducible refine Steady.ite ?_ ?_
    | with_reducible refine Steady.foldl ?_ ?_
    | (try lift_lets -underBinder); intro x; refine Steady.cut (x := x) ?_ ?_ <;> [subst x; (clear_value x; intro _)]
    | (try lift_lets -underBinder); intro x; first | subst x | skip
    | split
    | fail_if_no_progress dsimp only
    | fail_if_no_progress with_reducible refine Steady.upd ?_

theorem Steady.swapWin (h : Steady s₀ s) (w : Nat) :
    Steady s₀ (State.swapWin s w) := by
  delta State.swapWin
  repeat' first
    | with_reducible assumption
    | with_reducible apply Steady.bypassTile
    | with_reducible apply Steady.calSwap
    | with_reducible apply Steady.healthSwap
    | with_reducible apply Steady.liveSwap
    | with_reducible apply Steady.modPort
    | with_reducible apply Steady.modWin
    | with_reducible apply Steady.serveRolls
    | with_reducible apply Steady.serveSpares
    | with_reducible refine Steady.ite ?_ ?_
    | with_reducible refine Steady.foldl ?_ ?_
    | (try lift_lets -underBinder); intro x; refine Steady.cut (x := x) ?_ ?_ <;> [subst x; (clear_value x; intro _)]
    | (try lift_lets -underBinder); intro x; first | subst x | skip
    | fail_if_no_progress with_reducible refine Steady.upd ?_

theorem Steady.tryDeliver (h : Steady s₀ s) (w : Nat) :
    Steady s₀ (State.tryDeliver s w) := by
  delta State.tryDeliver
  repeat' first
    | with_reducible assumption
    | with_reducible apply Steady.admitDoc
    | with_reducible apply Steady.modDoc
    | with_reducible refine Steady.setF ?_ _ _
    | with_reducible apply Steady.showQueue
    | with_reducible refine Steady.ite ?_ ?_
    | with_reducible refine Steady.foldl ?_ ?_
    | (try lift_lets -underBinder); intro x; refine Steady.cut (x := x) ?_ ?_ <;> [subst x; (clear_value x; intro _)]
    | (try lift_lets -underBinder); intro x; first | subst x | skip
    | split
    | fail_if_no_progress dsimp only
    | fail_if_no_progress with_reducible refine Steady.upd ?_

theorem Steady.beginGap (h : Steady s₀ s) (w : Nat) :
    Steady s₀ (State.beginGap s w) := by
  delta State.beginGap
  repeat' first
    | with_reducible assumption
    | with_reducible apply Steady.admitDoc
    | with_reducible apply Steady.calRetry
    | with_reducible apply Steady.clearScanned
    | with_reducible apply Steady.modWin
    | with_reducible apply Steady.planEnergies
    | with_reducible apply Steady.swapWin
    | with_reducible apply Steady.thermalGap
    | with_reducible apply Steady.tryDeliver
    | with_reducible apply Steady.usageWrite
    | with_reducible refine Steady.ite ?_ ?_
    | with_reducible refine Steady.foldl ?_ ?_
    | (try lift_lets -underBinder); intro x; refine Steady.cut (x := x) ?_ ?_ <;> [subst x; (clear_value x; intro _)]
    | (try lift_lets -underBinder); intro x; first | subst x | skip
    | fail_if_no_progress with_reducible refine Steady.upd ?_

theorem Steady.windowLine (h : Steady s₀ s) (w : Nat) :
    Steady s₀ (State.windowLine s w) := by
  delta State.windowLine
  repeat' first
    | with_reducible assumption
    | with_reducible apply Steady.acceptOpen
    | with_reducible apply Steady.applyStop
    | with_reducible apply Steady.beginGap
    | with_reducible apply Steady.modWin
    | with_reducible apply Steady.swapWin
    | with_reducible refine Steady.ite ?_ ?_
    | (try lift_lets -underBinder); intro x; refine Steady.cut (x := x) ?_ ?_ <;> [subst x; (clear_value x; intro _)]
    | (try lift_lets -underBinder); intro x; first | subst x | skip
    | fail_if_no_progress with_reducible refine Steady.upd ?_

theorem Steady.noteSwaps (h : Steady s₀ s) :
    Steady s₀ (State.noteSwaps s) := by
  delta State.noteSwaps
  repeat' first
    | with_reducible assumption
    | with_reducible apply Steady.modWin
    | with_reducible refine Steady.ite ?_ ?_
    | with_reducible refine Steady.foldl ?_ ?_
    | (try lift_lets -underBinder); intro x; refine Steady.cut (x := x) ?_ ?_ <;> [subst x; (clear_value x; intro _)]
    | (try lift_lets -underBinder); intro x; first | subst x | skip
    | fail_if_no_progress with_reducible refine Steady.upd ?_

theorem Steady.showReversed (h : Steady s₀ s) (n : Nat) :
    Steady s₀ (State.showReversed s n) := by
  delta State.showReversed
  repeat' first
    | with_reducible assumption
    | with_reducible refine Steady.setFb ?_ _ _

theorem Steady.dropPacket (h : Steady s₀ s) (n : Nat) (f : Nat) :
    Steady s₀ (State.dropPacket s n f) := by
  delta State.dropPacket
  repeat' first
    | with_reducible assumption
    | with_reducible apply Steady.emit
    | with_reducible apply Steady.modLane
    | with_reducible apply Steady.modPort
    | with_reducible apply Steady.tagRecord
    | (try lift_lets -underBinder); intro x; refine Steady.cut (x := x) ?_ ?_ <;> [subst x; (clear_value x; intro _)]
    | (try lift_lets -underBinder); intro x; first | subst x | skip
    | split
    | fail_if_no_progress dsimp only
    | fail_if_no_progress with_reducible refine Steady.upd ?_

theorem Steady.takeCycle (h : Steady s₀ s) (n : Nat) (w : Nat) (f : Nat) (target : Nat) (d : Doc) :
    Steady s₀ (State.takeCycle s n w f target d) := by
  delta State.takeCycle
  repeat' first
    | with_reducible assumption
    | with_reducible refine Steady.addF ?_ _ _
    | with_reducible apply Steady.count
    | with_reducible apply Steady.dropPacket
    | with_reducible apply Steady.modFire
    | with_reducible apply Steady.modWin
    | with_reducible apply Steady.raiseLane
    | with_reducible refine Steady.setF ?_ _ _
    | with_reducible refine Steady.ite ?_ ?_
    | (try lift_lets -underBinder); intro x; refine Steady.cut (x := x) ?_ ?_ <;> [subst x; (clear_value x; intro _)]
    | (try lift_lets -underBinder); intro x; first | subst x | skip
    | split
    | fail_if_no_progress dsimp only
    | fail_if_no_progress with_reducible refine Steady.upd ?_

theorem Steady.fireEvent (h : Steady s₀ s) (n : Nat) (f : Nat) (fwd : Bool) (stamp : Nat) :
    Steady s₀ (State.fireEvent s n f fwd stamp) := by
  delta State.fireEvent
  repeat' first
    | with_reducible assumption
    | with_reducible apply Steady.checkPass
    | with_reducible apply Steady.modFire
    | with_reducible refine Steady.setF ?_ _ _
    | with_reducible apply Steady.showReversed
    | with_reducible apply Steady.takeCycle
    | with_reducible apply Steady.tryComplete
    | with_reducible refine Steady.ite ?_ ?_
    | (try lift_lets -underBinder); intro x; refine Steady.cut (x := x) ?_ ?_ <;> [subst x; (clear_value x; intro _)]
    | (try lift_lets -underBinder); intro x; first | subst x | skip
    | split
    | fail_if_no_progress dsimp only
    | fail_if_no_progress with_reducible refine Steady.upd ?_

/-! ### Machine/CfgOps.lean -/

theorem Steady.postCheck (h : Steady s₀ s) (f : Fail) :
    Steady s₀ (State.postCheck s f) := by
  delta State.postCheck
  repeat' first
    | with_reducible assumption
    | with_reducible refine Steady.setFields_nil ?_
    | with_reducible refine Steady.setFields_cons ?_
    | with_reducible refine Steady.setF ?_ _ _
    | (try lift_lets -underBinder); intro x; refine Steady.cut (x := x) ?_ ?_ <;> [subst x; (clear_value x; intro _)]
    | (try lift_lets -underBinder); intro x; first | subst x | skip
    | split
    | fail_if_no_progress dsimp only
    | fail_if_no_progress with_reducible refine Steady.upd ?_

theorem Steady.startCheck (h : Steady s₀ s) (k : CheckKind) (permit : Bool) :
    Steady s₀ (State.startCheck s k permit) := by
  delta State.startCheck
  repeat' first
    | with_reducible assumption
    | with_reducible refine Steady.setFields_nil ?_
    | with_reducible refine Steady.setFields_cons ?_
    | with_reducible refine Steady.setF ?_ _ _
    | with_reducible refine Steady.ite ?_ ?_
    | (try lift_lets -underBinder); intro x; refine Steady.cut (x := x) ?_ ?_ <;> [subst x; (clear_value x; intro _)]
    | (try lift_lets -underBinder); intro x; first | subst x | skip
    | fail_if_no_progress with_reducible refine Steady.upd ?_

/-! ### Machine/RingRecv.lean -/

theorem Steady.bridge (h : Steady s₀ s) (port : Nat) (p : RingPkt) :
    Steady s₀ (State.bridge s port p) := by
  delta State.bridge
  repeat' first
    | with_reducible assumption
    | with_reducible apply Steady.urgOut
    | with_reducible refine Steady.ite ?_ ?_
    | with_reducible refine Steady.foldl ?_ ?_
    | (try lift_lets -underBinder); intro x; refine Steady.cut (x := x) ?_ ?_ <;> [subst x; (clear_value x; intro _)]
    | (try lift_lets -underBinder); intro x; first | subst x | skip
    | fail_if_no_progress with_reducible refine Steady.upd ?_

theorem Steady.forward (h : Steady s₀ s) (port : Nat) (p : RingPkt) :
    Steady s₀ (State.forward s port p) := by
  delta State.forward
  repeat' first
    | with_reducible assumption
    | with_reducible apply Steady.bridge
    | with_reducible apply Steady.drawn
    | with_reducible apply Steady.ringOut
    | with_reducible apply Steady.urgOut
    | with_reducible refine Steady.ite ?_ ?_
    | (try lift_lets -underBinder); intro x; refine Steady.cut (x := x) ?_ ?_ <;> [subst x; (clear_value x; intro _)]
    | (try lift_lets -underBinder); intro x; first | subst x | skip

theorem Steady.takeSeq (h : Steady s₀ s) (p : RingPkt) :
    Steady s₀ (State.takeSeq s p).1 := by
  delta State.takeSeq
  repeat' first
    | with_reducible assumption
    | with_reducible refine Steady.addF ?_ _ _
    | with_reducible refine Steady.ite ?_ ?_
    | with_reducible refine Steady.ite_fst ?_ ?_
    | (try lift_lets -underBinder); intro x; refine Steady.cut (x := x) ?_ ?_ <;> [subst x; (clear_value x; intro _)]
    | (try lift_lets -underBinder); intro x; first | subst x | skip
    | split
    | fail_if_no_progress with_reducible refine Steady.upd ?_

theorem Steady.takeSeq_eq {c} {v} (h : Steady s₀ s) {p : RingPkt} (e : State.takeSeq s p = (c, v)) :
    Steady s₀ c := by
  have k := Steady.takeSeq h p
  rwa [e] at k

theorem Steady.hear (h : Steady s₀ s) (p : RingPkt) :
    Steady s₀ (State.hear s p) := by
  delta State.hear
  repeat' first
    | with_reducible assumption
    | with_reducible refine Steady.setF ?_ _ _
    | with_reducible refine Steady.ite ?_ ?_

theorem Steady.packetIn (h : Steady s₀ s) (port : Nat) (p : RingPkt) (g : State → State) (h_g : ∀ s, Steady s₀ s → Steady s₀ (g s)) :
    Steady s₀ (State.packetIn s port p g) := by
  delta State.packetIn
  repeat' first
    | with_reducible assumption
    | with_reducible apply h_g
    | with_reducible apply Steady.forward
    | with_reducible apply Steady.hear
    | with_reducible apply Steady.takeSeq
    | with_reducible refine Steady.takeSeq_eq ?_ (by assumption)
    | with_reducible refine Steady.ite ?_ ?_
    | (try lift_lets -underBinder); intro x; refine Steady.cut (x := x) ?_ ?_ <;> [subst x; (clear_value x; intro _)]
    | (try lift_lets -underBinder); intro x; first | subst x | skip
    | split

theorem Steady.reqIn (h : Steady s₀ s) (port : Nat) (type : Nat) (p : RingPkt) (rsp : Nat) (g : State → State) (h_g : ∀ s, Steady s₀ s → Steady s₀ (g s)) :
    Steady s₀ (State.reqIn s port type p rsp g) := by
  delta State.reqIn
  repeat' first
    | with_reducible assumption
    | with_reducible apply h_g
    | with_reducible apply Steady.packetIn
    | with_reducible apply Steady.sendRsp
    | with_reducible refine Steady.ite ?_ ?_
    | (try lift_lets -underBinder); intro x; refine Steady.cut (x := x) ?_ ?_ <;> [subst x; (clear_value x; intro _)]
    | (try lift_lets -underBinder); intro x; first | subst x | skip

theorem Steady.showTopo (h : Steady s₀ s) :
    Steady s₀ (State.showTopo s) := by
  delta State.showTopo
  repeat' first
    | with_reducible assumption
    | with_reducible refine Steady.setFields_nil ?_
    | with_reducible refine Steady.setFields_cons ?_
    | with_reducible refine Steady.setF ?_ _ _
    | with_reducible refine Steady.setReg ?_ _ _
    | with_reducible refine Steady.ite ?_ ?_
    | split
    | fail_if_no_progress with_reducible refine Steady.upd ?_

theorem Steady.setBreak (h : Steady s₀ s) (west : Nat) (broken : Bool) :
    Steady s₀ (State.setBreak s west broken) := by
  delta State.setBreak
  repeat' first
    | with_reducible assumption
    | with_reducible apply Steady.raise
    | with_reducible apply Steady.showTopo
    | with_reducible refine Steady.ite ?_ ?_
    | (try lift_lets -underBinder); intro x; refine Steady.cut (x := x) ?_ ?_ <;> [subst x; (clear_value x; intro _)]
    | (try lift_lets -underBinder); intro x; first | subst x | skip
    | fail_if_no_progress with_reducible refine Steady.upd ?_

theorem Steady.sendWrap (h : Steady s₀ s) (west : Nat) (broken : Bool) :
    Steady s₀ (State.sendWrap s west broken) := by
  delta State.sendWrap
  repeat' first
    | with_reducible assumption
    | with_reducible apply Steady.sendUrg

theorem Steady.ringFail (h : Steady s₀ s) (k : Nat) (off : Nat) (status : Nat) :
    Steady s₀ (State.ringFail s k off status) := by
  delta State.ringFail
  repeat' first
    | with_reducible assumption
    | with_reducible apply Steady.chunkError
    | with_reducible apply Steady.dropFlying
    | with_reducible apply Steady.modExec
    | with_reducible apply Steady.runTransfer
    | with_reducible refine Steady.ite ?_ ?_
    | (try lift_lets -underBinder); intro x; refine Steady.cut (x := x) ?_ ?_ <;> [subst x; (clear_value x; intro _)]
    | (try lift_lets -underBinder); intro x; first | subst x | skip
    | fail_if_no_progress with_reducible refine Steady.upd ?_

theorem Steady.reqFail (h : Steady s₀ s) (r : RingReq) (status : Nat) :
    Steady s₀ (State.reqFail s r status) := by
  delta State.reqFail
  repeat' first
    | with_reducible assumption
    | with_reducible apply Steady.emit
    | with_reducible apply Steady.hostRead
    | with_reducible apply Steady.hostWrite
    | with_reducible apply Steady.modExec
    | with_reducible apply Steady.readFail
    | with_reducible apply Steady.ringFail
    | with_reducible refine Steady.ite ?_ ?_
    | (try lift_lets -underBinder); intro x; refine Steady.cut (x := x) ?_ ?_ <;> [subst x; (clear_value x; intro _)]
    | (try lift_lets -underBinder); intro x; first | subst x | skip
    | split
    | fail_if_no_progress dsimp only
    | fail_if_no_progress with_reducible refine Steady.upd ?_

theorem Steady.takeReq (h : Steady s₀ s) (p : RingPkt) :
    Steady s₀ (State.takeReq s p).1 := by
  delta State.takeReq
  repeat' first
    | with_reducible assumption
    | with_reducible refine Steady.addF ?_ _ _
    | (try lift_lets -underBinder); intro x; refine Steady.cut (x := x) ?_ ?_ <;> [subst x; (clear_value x; intro _)]
    | (try lift_lets -underBinder); intro x; first | subst x | skip
    | split
    | fail_if_no_progress with_reducible refine Steady.upd ?_

theorem Steady.takeReq_eq {c} {v} (h : Steady s₀ s) {p : RingPkt} (e : State.takeReq s p = (c, v)) :
    Steady s₀ c := by
  have k := Steady.takeReq h p
  rwa [e] at k

theorem Steady.rspIn (h : Steady s₀ s) (port : Nat) (type : Nat) (p : RingPkt) (g : State → RingReq → State) (h_g : ∀ s x0, Steady s₀ s → Steady s₀ (g s x0)) :
    Steady s₀ (State.rspIn s port type p g) := by
  delta State.rspIn
  repeat' first
    | with_reducible assumption
    | with_reducible apply h_g
    | with_reducible apply Steady.packetIn
    | with_reducible apply Steady.reqFail
    | with_reducible apply Steady.takeReq
    | with_reducible refine Steady.takeReq_eq ?_ (by assumption)
    | with_reducible refine Steady.ite ?_ ?_
    | (try lift_lets -underBinder); intro x; refine Steady.cut (x := x) ?_ ?_ <;> [subst x; (clear_value x; intro _)]
    | (try lift_lets -underBinder); intro x; first | subst x | skip
    | split
    | fail_if_no_progress dsimp only
    | fail_if_no_progress with_reducible refine Steady.upd ?_

/-! ### Machine/PosOps.lean -/

theorem Steady.settle (h : Steady s₀ s) (n : Nat) (t : Nat) :
    Steady s₀ (State.settle s n t) := by
  delta State.settle
  repeat' first
    | with_reducible assumption
    | with_reducible apply Steady.modFire
    | with_reducible apply Steady.modPin
    | with_reducible refine Steady.setF ?_ _ _
    | with_reducible refine Steady.ite ?_ ?_
    | with_reducible refine Steady.foldl ?_ ?_
    | (try lift_lets -underBinder); intro x; refine Steady.cut (x := x) ?_ ?_ <;> [subst x; (clear_value x; intro _)]
    | (try lift_lets -underBinder); intro x; first | subst x | skip
    | fail_if_no_progress with_reducible refine Steady.upd ?_

theorem Steady.modRef (h : Steady s₀ s) (c : Nat) (g : RefCh → RefCh) :
    Steady s₀ (State.modRef s c g) := by
  delta State.modRef
  repeat' first
    | with_reducible assumption
    | fail_if_no_progress with_reducible refine Steady.upd ?_

theorem Steady.refHeard (h : Steady s₀ s) (c : Nat) (e : Nat) :
    Steady s₀ (State.refHeard s c e) := by
  delta State.refHeard
  repeat' first
    | with_reducible assumption
    | with_reducible apply Steady.modRef
    | with_reducible refine Steady.setBit ?_ _ _ _
    | (try lift_lets -underBinder); intro x; refine Steady.cut (x := x) ?_ ?_ <;> [subst x; (clear_value x; intro _)]
    | (try lift_lets -underBinder); intro x; first | subst x | skip
    | fail_if_no_progress with_reducible refine Steady.upd ?_

theorem Steady.refQueue (h : Steady s₀ s) (r : Ref) (t : Nat) :
    Steady s₀ (State.refQueue s r t) := by
  delta State.refQueue
  repeat' first
    | with_reducible assumption
    | with_reducible apply Steady.modRef
    | (try lift_lets -underBinder); intro x; refine Steady.cut (x := x) ?_ ?_ <;> [subst x; (clear_value x; intro _)]
    | (try lift_lets -underBinder); intro x; first | subst x | skip
    | fail_if_no_progress with_reducible refine Steady.upd ?_

theorem Steady.sendRef (h : Steady s₀ s) (r : Ref) :
    Steady s₀ (State.sendRef s r) := by
  delta State.sendRef
  repeat' first
    | with_reducible assumption
    | with_reducible apply Steady.refHeard
    | with_reducible apply Steady.refQueue
    | with_reducible apply Steady.sendUrg
    | with_reducible refine Steady.ite ?_ ?_
    | (try lift_lets -underBinder); intro x; refine Steady.cut (x := x) ?_ ?_ <;> [subst x; (clear_value x; intro _)]
    | (try lift_lets -underBinder); intro x; first | subst x | skip

theorem Steady.calLine (h : Steady s₀ s) (n : Nat) :
    Steady s₀ (State.calLine s n) := by
  delta State.calLine
  repeat' first
    | with_reducible assumption
    | with_reducible apply Steady.slewTo
    | with_reducible refine Steady.ite ?_ ?_
    | with_reducible refine Steady.foldl ?_ ?_
    | (try lift_lets -underBinder); intro x; refine Steady.cut (x := x) ?_ ?_ <;> [subst x; (clear_value x; intro _)]
    | (try lift_lets -underBinder); intro x; first | subst x | skip

theorem Steady.emitAt (h : Steady s₀ s) (src : Nat) (t : Nat) :
    Steady s₀ (State.emitAt s src t) := by
  delta State.emitAt
  repeat' first
    | with_reducible assumption
    | fail_if_no_progress with_reducible refine Steady.upd ?_

theorem Steady.patternLine (h : Steady s₀ s) (t : Nat) :
    Steady s₀ (State.patternLine s t) := by
  delta State.patternLine
  repeat' first
    | with_reducible assumption
    | with_reducible apply Steady.openPattern
    | with_reducible refine Steady.ite ?_ ?_
    | fail_if_no_progress with_reducible refine Steady.upd ?_

theorem Steady.relocked (h : Steady s₀ s) :
    Steady s₀ (State.relocked s) := by
  delta State.relocked
  repeat' first
    | with_reducible assumption
    | with_reducible refine Steady.ite ?_ ?_
    | (try lift_lets -underBinder); intro x; refine Steady.cut (x := x) ?_ ?_ <;> [subst x; (clear_value x; intro _)]
    | (try lift_lets -underBinder); intro x; first | subst x | skip
    | fail_if_no_progress with_reducible refine Steady.upd ?_

theorem Steady.lineEvent (h : Steady s₀ s) (n : Nat) (line : Nat) (fwd : Bool) (stamp : Nat) :
    Steady s₀ (State.lineEvent s n line fwd stamp) := by
  delta State.lineEvent
  repeat' first
    | with_reducible assumption
    | with_reducible apply Steady.calLine
    | with_reducible apply Steady.count
    | with_reducible apply Steady.emitAt
    | with_reducible apply Steady.modPin
    | with_reducible apply Steady.patternLine
    | with_reducible apply Steady.relocked
    | with_reducible apply Steady.sendRef
    | with_reducible refine Steady.setF ?_ _ _
    | with_reducible apply Steady.windowLine
    | with_reducible refine Steady.ite ?_ ?_
    | with_reducible refine Steady.foldl ?_ ?_
    | (try lift_lets -underBinder); intro x; refine Steady.cut (x := x) ?_ ?_ <;> [subst x; (clear_value x; intro _)]
    | (try lift_lets -underBinder); intro x; first | subst x | skip
    | fail_if_no_progress with_reducible refine Steady.upd ?_

theorem Steady.lineEvents (h : Steady s₀ s) (n : Nat) (t : Nat) (i : Nat) (l : List Crossing) :
    Steady s₀ (State.lineEvents s n t i l) := by
  induction l generalizing s i with
  | nil => exact h
  | cons c r ih =>
    rw [State.lineEvents]
    repeat' first
      | with_reducible assumption
      | with_reducible refine Steady.addF ?_ _ _
      | with_reducible apply Steady.lineEvent
      | with_reducible refine Steady.setF ?_ _ _
      | with_reducible apply ih
      | with_reducible refine Steady.ite ?_ ?_
      | (try lift_lets -underBinder); intro x; refine Steady.cut (x := x) ?_ ?_ <;> [subst x; (clear_value x; intro _)]
      | (try lift_lets -underBinder); intro x; first | subst x | skip

theorem Steady.fireEvents (h : Steady s₀ s) (k : Nat) (t : Nat) (i : Nat) (l : List Crossing) :
    Steady s₀ (State.fireEvents s k t i l) := by
  induction l generalizing s i with
  | nil => exact h
  | cons c r ih =>
    rw [State.fireEvents]
    repeat' first
      | with_reducible assumption
      | with_reducible apply Steady.fireEvent
      | with_reducible apply ih

theorem Steady.moveLines (h : Steady s₀ s) (n : Nat) (d : Int) :
    Steady s₀ (State.moveLines s n d) := by
  delta State.moveLines
  repeat' first
    | with_reducible assumption
    | with_reducible apply Steady.fireEvents
    | with_reducible apply Steady.lineEvents
    | with_reducible apply Steady.modFire
    | with_reducible apply Steady.modPin
    | with_reducible refine Steady.setF ?_ _ _
    | with_reducible refine Steady.ite ?_ ?_
    | with_reducible refine Steady.foldl ?_ ?_
    | (try lift_lets -underBinder); intro x; refine Steady.cut (x := x) ?_ ?_ <;> [subst x; (clear_value x; intro _)]
    | (try lift_lets -underBinder); intro x; first | subst x | skip
    | split
    | fail_if_no_progress with_reducible refine Steady.upd ?_

theorem Steady.interpolate (h : Steady s₀ s) (n : Nat) (t : Nat) (fuel : Nat) :
    Steady s₀ (State.interpolate s n t fuel) := by
  induction fuel generalizing s with
  | zero => exact h
  | succ fuel ih =>
    rw [State.interpolate]
    repeat' first
      | with_reducible assumption
      | with_reducible apply Steady.fireEvent
      | with_reducible apply Steady.lineEvent
      | with_reducible apply Steady.modFire
      | with_reducible apply Steady.modPin
      | with_reducible refine Steady.setF ?_ _ _
      | with_reducible apply ih
      | with_reducible refine Steady.foldl ?_ ?_
      | (try lift_lets -underBinder); intro x; refine Steady.cut (x := x) ?_ ?_ <;> [subst x; (clear_value x; intro _)]
      | (try lift_lets -underBinder); intro x; first | subst x | skip
      | split
      | fail_if_no_progress dsimp only
      | fail_if_no_progress with_reducible refine Steady.upd ?_

theorem Steady.tick (h : Steady s₀ s) (n : Nat) (d : Int) :
    Steady s₀ (State.tick s n d) := by
  delta State.tick
  repeat' first
    | with_reducible assumption
    | with_reducible refine Steady.setF ?_ _ _
    | (try lift_lets -underBinder); intro x; refine Steady.cut (x := x) ?_ ?_ <;> [subst x; (clear_value x; intro _)]
    | (try lift_lets -underBinder); intro x; first | subst x | skip

theorem Steady.compare (h : Steady s₀ s) (n : Nat) (d : Int) :
    Steady s₀ (State.compare s n d) := by
  delta State.compare
  repeat' first
    | with_reducible assumption
    | with_reducible apply Steady.emitSrc
    | with_reducible refine Steady.incF ?_ _ _
    | with_reducible refine Steady.setF ?_ _ _
    | with_reducible refine Steady.ite ?_ ?_
    | (try lift_lets -underBinder); intro x; refine Steady.cut (x := x) ?_ ?_ <;> [subst x; (clear_value x; intro _)]
    | (try lift_lets -underBinder); intro x; first | subst x | skip

theorem Steady.posIrq (h : Steady s₀ s) (n : Nat) :
    Steady s₀ (State.posIrq s n) := by
  delta State.posIrq
  repeat' first
    | with_reducible assumption
    | with_reducible apply Steady.msix
    | with_reducible refine Steady.setBit ?_ _ _ _
    | with_reducible refine Steady.ite ?_ ?_

theorem Steady.raiseAll (h : Steady s₀ s) (k : Kind) (addr : Nat) :
    Steady s₀ (State.raiseAll s k addr) := by
  delta State.raiseAll
  repeat' first
    | with_reducible assumption
    | with_reducible apply Steady.raise
    | with_reducible apply Steady.raiseLane
    | with_reducible refine Steady.foldl ?_ ?_
    | (try lift_lets -underBinder); intro x; refine Steady.cut (x := x) ?_ ?_ <;> [subst x; (clear_value x; intro _)]
    | (try lift_lets -underBinder); intro x; first | subst x | skip

theorem Steady.beginStep (h : Steady s₀ s) (n : Nat) (d : Int) :
    Steady s₀ (State.beginStep s n d) := by
  delta State.beginStep
  repeat' first
    | with_reducible assumption
    | with_reducible refine Steady.addF ?_ _ _
    | with_reducible apply Steady.modPin
    | with_reducible apply Steady.posIrq
    | with_reducible apply Steady.raiseAll
    | with_reducible refine Steady.setF ?_ _ _
    | with_reducible refine Steady.setFields_nil ?_
    | with_reducible refine Steady.setFields_cons ?_
    | with_reducible refine Steady.setF ?_ _ _
    | with_reducible apply Steady.settle
    | with_reducible refine Steady.ite ?_ ?_
    | (try lift_lets -underBinder); intro x; refine Steady.cut (x := x) ?_ ?_ <;> [subst x; (clear_value x; intro _)]
    | (try lift_lets -underBinder); intro x; first | subst x | skip
    | split
    | fail_if_no_progress dsimp only
    | fail_if_no_progress with_reducible refine Steady.upd ?_

theorem Steady.countStep (h : Steady s₀ s) (n : Nat) (d : Int) :
    Steady s₀ (State.countStep s n d) := by
  delta State.countStep
  repeat' first
    | with_reducible assumption
    | with_reducible apply Steady.beginStep
    | with_reducible apply Steady.compare
    | with_reducible apply Steady.count
    | with_reducible apply Steady.moveLines
    | with_reducible apply Steady.phaseOrder
    | with_reducible apply Steady.tick

theorem Steady.illegal (h : Steady s₀ s) (n : Nat) :
    Steady s₀ (State.illegal s n) := by
  delta State.illegal
  repeat' first
    | with_reducible assumption
    | with_reducible refine Steady.addF ?_ _ _
    | with_reducible apply Steady.raiseAll
    | with_reducible refine Steady.setF ?_ _ _

theorem Steady.latch (h : Steady s₀ s) (n : Nat) :
    Steady s₀ (State.latch s n) := by
  delta State.latch
  repeat' first
    | with_reducible assumption
    | with_reducible apply Steady.emitSrc
    | with_reducible apply Steady.modPin
    | with_reducible apply Steady.raiseAll
    | with_reducible refine Steady.setF ?_ _ _
    | with_reducible refine Steady.setFields_nil ?_
    | with_reducible refine Steady.setFields_cons ?_
    | with_reducible refine Steady.setF ?_ _ _
    | with_reducible refine Steady.setFs ?_ _ _
    | with_reducible refine Steady.ite ?_ ?_
    | (try lift_lets -underBinder); intro x; refine Steady.cut (x := x) ?_ ?_ <;> [subst x; (clear_value x; intro _)]
    | (try lift_lets -underBinder); intro x; first | subst x | skip
    | split
    | fail_if_no_progress dsimp only
    | fail_if_no_progress with_reducible refine Steady.upd ?_

theorem Steady.setLine (h : Steady s₀ s) (n : Nat) :
    Steady s₀ (State.setLine s n) := by
  delta State.setLine
  repeat' first
    | with_reducible assumption
    | with_reducible apply Steady.modPin
    | with_reducible refine Steady.setFields_nil ?_
    | with_reducible refine Steady.setFields_cons ?_
    | with_reducible refine Steady.setF ?_ _ _
    | with_reducible refine Steady.ite ?_ ?_
    | (try lift_lets -underBinder); intro x; refine Steady.cut (x := x) ?_ ?_ <;> [subst x; (clear_value x; intro _)]
    | (try lift_lets -underBinder); intro x; first | subst x | skip
    | fail_if_no_progress with_reducible refine Steady.upd ?_

theorem Steady.preset (h : Steady s₀ s) (n : Nat) (lo : Nat) (hi : Nat) :
    Steady s₀ (State.preset s n lo hi) := by
  delta State.preset
  repeat' first
    | with_reducible assumption
    | with_reducible apply Steady.modPin
    | with_reducible apply Steady.raise
    | with_reducible apply Steady.resetFire
    | with_reducible refine Steady.setFields_nil ?_
    | with_reducible refine Steady.setFields_cons ?_
    | with_reducible refine Steady.setF ?_ _ _
    | with_reducible apply Steady.setLine
    | with_reducible refine Steady.ite ?_ ?_
    | with_reducible refine Steady.foldl ?_ ?_
    | (try lift_lets -underBinder); intro x; refine Steady.cut (x := x) ?_ ?_ <;> [subst x; (clear_value x; intro _)]
    | (try lift_lets -underBinder); intro x; first | subst x | skip
    | fail_if_no_progress with_reducible refine Steady.upd ?_

theorem Steady.writeCmp (h : Steady s₀ s) (n : Nat) (v : Nat) :
    Steady s₀ (State.writeCmp s n v) := by
  delta State.writeCmp
  repeat' first
    | with_reducible assumption
    | with_reducible refine Steady.setF ?_ _ _
    | with_reducible refine Steady.ite ?_ ?_
    | (try lift_lets -underBinder); intro x; refine Steady.cut (x := x) ?_ ?_ <;> [subst x; (clear_value x; intro _)]
    | (try lift_lets -underBinder); intro x; first | subst x | skip

theorem Steady.releaseRef (h : Steady s₀ s) (c : Nat) (r : RefPend) :
    Steady s₀ (State.releaseRef s c r) := by
  delta State.releaseRef
  repeat' first
    | with_reducible assumption
    | with_reducible apply Steady.emitSrc
    | with_reducible apply Steady.fireEvent
    | with_reducible apply Steady.lineEvent
    | with_reducible apply Steady.modFire
    | with_reducible apply Steady.modPin
    | with_reducible refine Steady.ite ?_ ?_
    | with_reducible refine Steady.foldl ?_ ?_
    | (try lift_lets -underBinder); intro x; refine Steady.cut (x := x) ?_ ?_ <;> [subst x; (clear_value x; intro _)]
    | (try lift_lets -underBinder); intro x; first | subst x | skip
    | split
    | fail_if_no_progress dsimp only
    | fail_if_no_progress with_reducible refine Steady.upd ?_

theorem Steady.refIn (h : Steady s₀ s) (src : Nat) (age : Nat) (r : Ref) :
    Steady s₀ (State.refIn s src age r) := by
  delta State.refIn
  repeat' first
    | with_reducible assumption
    | with_reducible refine Steady.addF ?_ _ _
    | with_reducible apply Steady.modPin
    | with_reducible apply Steady.raise
    | with_reducible apply Steady.refHeard
    | with_reducible apply Steady.refQueue
    | with_reducible apply Steady.releaseRef
    | with_reducible apply Steady.resetFire
    | with_reducible refine Steady.setBit ?_ _ _ _
    | with_reducible refine Steady.setF ?_ _ _
    | with_reducible refine Steady.ite ?_ ?_
    | with_reducible refine Steady.foldl ?_ ?_
    | (try lift_lets -underBinder); intro x; refine Steady.cut (x := x) ?_ ?_ <;> [subst x; (clear_value x; intro _)]
    | (try lift_lets -underBinder); intro x; first | subst x | skip
    | fail_if_no_progress with_reducible refine Steady.upd ?_

theorem Steady.deliverTo (h : Steady s₀ s) (dst : Nat) :
    Steady s₀ (State.deliverTo s dst) := by
  delta State.deliverTo
  repeat' first
    | with_reducible assumption
    | with_reducible apply Steady.closeWin
    | with_reducible apply Steady.cuePulse
    | with_reducible refine Steady.incF ?_ _ _
    | with_reducible apply Steady.motorSync
    | with_reducible apply Steady.openWin
    | with_reducible apply Steady.sendRef
    | (try lift_lets -underBinder); intro x; refine Steady.cut (x := x) ?_ ?_ <;> [subst x; (clear_value x; intro _)]
    | (try lift_lets -underBinder); intro x; first | subst x | skip
    | split
    | fail_if_no_progress dsimp only
    | fail_if_no_progress with_reducible refine Steady.upd ?_

theorem Steady.deliverSrc (h : Steady s₀ s) (src : Nat) :
    Steady s₀ (State.deliverSrc s src) := by
  delta State.deliverSrc
  repeat' first
    | with_reducible assumption
    | with_reducible apply Steady.deliverTo
    | with_reducible refine Steady.foldl ?_ ?_
    | (try lift_lets -underBinder); intro x; refine Steady.cut (x := x) ?_ ?_ <;> [subst x; (clear_value x; intro _)]
    | (try lift_lets -underBinder); intro x; first | subst x | skip
    | split
    | fail_if_no_progress with_reducible refine Steady.upd ?_

/-! ### Machine/SysOps.lean -/

theorem Steady.liveDiscard (h : Steady s₀ s) :
    Steady s₀ (State.liveDiscard s) := by
  delta State.liveDiscard
  repeat' first
    | with_reducible assumption
    | with_reducible apply Steady.raise
    | with_reducible refine Steady.setF ?_ _ _
    | with_reducible refine Steady.ite ?_ ?_
    | fail_if_no_progress with_reducible refine Steady.upd ?_

theorem Steady.discardDocs (h : Steady s₀ s) (report : Bool) :
    Steady s₀ (State.discardDocs s report) := by
  delta State.discardDocs
  repeat' first
    | with_reducible assumption
    | with_reducible apply Steady.docEnd
    | with_reducible apply Steady.modWin
    | with_reducible apply Steady.raise
    | with_reducible apply Steady.releaseKept
    | with_reducible apply Steady.showComp
    | with_reducible apply Steady.showQueue
    | with_reducible refine Steady.ite ?_ ?_
    | with_reducible refine Steady.foldl ?_ ?_
    | (try lift_lets -underBinder); intro x; refine Steady.cut (x := x) ?_ ?_ <;> [subst x; (clear_value x; intro _)]
    | (try lift_lets -underBinder); intro x; first | subst x | skip
    | fail_if_no_progress with_reducible refine Steady.upd ?_

theorem Steady.dropDefers (h : Steady s₀ s) :
    Steady s₀ (State.dropDefers s) := by
  delta State.dropDefers
  repeat' first
    | with_reducible assumption
    | with_reducible apply Steady.modWin
    | with_reducible refine Steady.ite ?_ ?_
    | with_reducible refine Steady.foldl ?_ ?_
    | (try lift_lets -underBinder); intro x; refine Steady.cut (x := x) ?_ ?_ <;> [subst x; (clear_value x; intro _)]
    | (try lift_lets -underBinder); intro x; first | subst x | skip
    | fail_if_no_progress with_reducible refine Steady.upd ?_

theorem Steady.startSa (h : Steady s₀ s) :
    Steady s₀ (State.startSa s) := by
  delta State.startSa
  repeat' first
    | with_reducible assumption
    | with_reducible apply Steady.raise
    | with_reducible refine Steady.ite ?_ ?_
    | fail_if_no_progress with_reducible refine Steady.upd ?_

theorem Steady.noPattern (h : Steady s₀ s) :
    Steady s₀ (State.noPattern s) := by
  delta State.noPattern
  repeat' first
    | with_reducible assumption
    | fail_if_no_progress with_reducible refine Steady.upd ?_

theorem Steady.noSpit (h : Steady s₀ s) :
    Steady s₀ (State.noSpit s) := by
  delta State.noSpit
  repeat' first
    | with_reducible assumption
    | fail_if_no_progress with_reducible refine Steady.upd ?_

theorem Steady.quietSys (h : Steady s₀ s) :
    Steady s₀ (State.quietSys s) := by
  delta State.quietSys
  repeat' first
    | with_reducible assumption
    | with_reducible apply Steady.noPattern
    | with_reducible apply Steady.noSpit

theorem Steady.spitMorning (h : Steady s₀ s) :
    Steady s₀ (State.spitMorning s) := by
  delta State.spitMorning
  repeat' first
    | with_reducible assumption
    | with_reducible refine Steady.ite ?_ ?_
    | split
    | fail_if_no_progress with_reducible refine Steady.upd ?_

theorem Steady.finishTest (h : Steady s₀ s) :
    Steady s₀ (State.finishTest s) := by
  delta State.finishTest
  repeat' first
    | with_reducible assumption
    | with_reducible apply Steady.askStop
    | with_reducible apply Steady.showPred
    | with_reducible refine Steady.ite ?_ ?_
    | with_reducible refine Steady.foldl ?_ ?_
    | (try lift_lets -underBinder); intro x; refine Steady.cut (x := x) ?_ ?_ <;> [subst x; (clear_value x; intro _)]
    | (try lift_lets -underBinder); intro x; first | subst x | skip
    | split
    | fail_if_no_progress dsimp only
    | fail_if_no_progress with_reducible refine Steady.upd ?_

theorem Steady.stopDocs (h : Steady s₀ s) :
    Steady s₀ (State.stopDocs s) := by
  delta State.stopDocs
  repeat' first
    | with_reducible assumption
    | with_reducible apply Steady.askStop
    | with_reducible refine Steady.foldl ?_ ?_
    | (try lift_lets -underBinder); intro x; refine Steady.cut (x := x) ?_ ?_ <;> [subst x; (clear_value x; intro _)]
    | (try lift_lets -underBinder); intro x; first | subst x | skip

theorem Steady.abandon (h : Steady s₀ s) :
    Steady s₀ (State.abandon s) := by
  delta State.abandon
  repeat' first
    | with_reducible assumption
    | with_reducible apply Steady.stopDocs
    | with_reducible refine Steady.ite ?_ ?_

theorem Steady.clearLanes (h : Steady s₀ s) : Steady s₀ (State.clearLanes s) := h

theorem Steady.dawnLanes (h : Steady s₀ s) (bad : List Nat) :
    Steady s₀ (State.dawnLanes s bad) := by
  delta State.dawnLanes
  repeat' first
    | with_reducible assumption
    | with_reducible apply Steady.clearLanes
    | with_reducible apply Steady.connect
    | with_reducible apply Steady.failEngine
    | with_reducible apply Steady.modTh
    | with_reducible refine Steady.setF ?_ _ _
    | with_reducible refine Steady.setFields_nil ?_
    | with_reducible refine Steady.setFields_cons ?_
    | with_reducible refine Steady.setF ?_ _ _
    | with_reducible refine Steady.ite ?_ ?_
    | with_reducible refine Steady.foldl ?_ ?_
    | (try lift_lets -underBinder); intro x; refine Steady.cut (x := x) ?_ ?_ <;> [subst x; (clear_value x; intro _)]
    | (try lift_lets -underBinder); intro x; first | subst x | skip
    | split
    | fail_if_no_progress dsimp only
    | fail_if_no_progress with_reducible refine Steady.upd ?_

theorem Steady.dawnTile (h : Steady s₀ s) (n : Nat) :
    Steady s₀ (State.dawnTile s n) := by
  delta State.dawnTile
  repeat' first
    | with_reducible assumption
    | with_reducible apply Steady.fuseOpen
    | with_reducible apply Steady.logicOff
    | with_reducible apply Steady.modFire
    | with_reducible apply Steady.modPort
    | with_reducible apply Steady.modTh
    | with_reducible refine Steady.setFields_nil ?_
    | with_reducible refine Steady.setFields_cons ?_
    | with_reducible refine Steady.setF ?_ _ _
    | (try lift_lets -underBinder); intro x; refine Steady.cut (x := x) ?_ ?_ <;> [subst x; (clear_value x; intro _)]
    | (try lift_lets -underBinder); intro x; first | subst x | skip

theorem Steady.dawnDetect (h : Steady s₀ s) (n : Nat) (a : Pins) (m : Pins) :
    Steady s₀ (State.dawnDetect s n a m) := by
  delta State.dawnDetect
  repeat' first
    | with_reducible assumption
    | with_reducible apply Steady.absentTile
    | with_reducible apply Steady.failTile
    | with_reducible apply Steady.modPort
    | with_reducible apply Steady.raiseLane
    | with_reducible refine Steady.setF ?_ _ _
    | with_reducible refine Steady.ite ?_ ?_
    | (try lift_lets -underBinder); intro x; refine Steady.cut (x := x) ?_ ?_ <;> [subst x; (clear_value x; intro _)]
    | (try lift_lets -underBinder); intro x; first | subst x | skip
    | fail_if_no_progress with_reducible refine Steady.upd ?_

theorem Steady.dawnCounts (h : Steady s₀ s) :
    Steady s₀ (State.dawnCounts s) := by
  delta State.dawnCounts
  repeat' first
    | with_reducible assumption
    | with_reducible refine Steady.setFields_nil ?_
    | with_reducible refine Steady.setFields_cons ?_
    | with_reducible refine Steady.setF ?_ _ _
    | (try lift_lets -underBinder); intro x; refine Steady.cut (x := x) ?_ ?_ <;> [subst x; (clear_value x; intro _)]
    | (try lift_lets -underBinder); intro x; first | subst x | skip
    | fail_if_no_progress with_reducible refine Steady.upd ?_

theorem Steady.freeSlots (h : Steady s₀ s) :
    Steady s₀ (State.freeSlots s) := by
  delta State.freeSlots
  repeat' first
    | with_reducible assumption
    | with_reducible apply Steady.showSlots
    | with_reducible refine Steady.ite ?_ ?_
    | (try lift_lets -underBinder); intro x; refine Steady.cut (x := x) ?_ ?_ <;> [subst x; (clear_value x; intro _)]
    | (try lift_lets -underBinder); intro x; first | subst x | skip
    | fail_if_no_progress with_reducible refine Steady.upd ?_

theorem Steady.applyPos (h : Steady s₀ s) :
    Steady s₀ (State.applyPos s) := by
  delta State.applyPos
  repeat' first
    | with_reducible assumption
    | with_reducible apply Steady.modPin
    | with_reducible apply Steady.raise
    | with_reducible refine Steady.setBit ?_ _ _ _
    | with_reducible apply Steady.setLine
    | with_reducible refine Steady.ite ?_ ?_
    | with_reducible refine Steady.foldl ?_ ?_
    | (try lift_lets -underBinder); intro x; refine Steady.cut (x := x) ?_ ?_ <;> [subst x; (clear_value x; intro _)]
    | (try lift_lets -underBinder); intro x; first | subst x | skip
    | fail_if_no_progress with_reducible refine Steady.upd ?_

theorem Steady.applyTiles (h : Steady s₀ s) :
    Steady s₀ (State.applyTiles s) := by
  delta State.applyTiles
  repeat' first
    | with_reducible assumption
    | with_reducible apply Steady.bypassTile
    | with_reducible apply Steady.endPause
    | with_reducible apply Steady.mapNoz
    | with_reducible apply Steady.modFire
    | with_reducible apply Steady.modWin
    | with_reducible apply Steady.raiseLane
    | with_reducible apply Steady.refFrac
    | with_reducible apply Steady.removeVpp
    | with_reducible apply Steady.resetFire
    | with_reducible refine Steady.setF ?_ _ _
    | with_reducible refine Steady.ite ?_ ?_
    | with_reducible refine Steady.foldl ?_ ?_
    | (try lift_lets -underBinder); intro x; refine Steady.cut (x := x) ?_ ?_ <;> [subst x; (clear_value x; intro _)]
    | (try lift_lets -underBinder); intro x; first | subst x | skip
    | split
    | fail_if_no_progress dsimp only
    | fail_if_no_progress with_reducible refine Steady.upd ?_

theorem Steady.applyCues (h : Steady s₀ s) :
    Steady s₀ (State.applyCues s) := by
  delta State.applyCues
  repeat' first
    | with_reducible assumption
    | with_reducible apply Steady.showCues
    | fail_if_no_progress with_reducible refine Steady.upd ?_

end Sys2Proof.Machine
end

