-- ==== Sys2Proof/Laws/Modes.lean ====
section
/-!
SUPPORT. What entering an operating state leaves in SYS_STATE (R42, R43).
-/
set_option linter.unusedTactic false
set_option linter.unreachableTactic false
namespace Sys2Proof.Machine
set_option Elab.async false

variable {s : State}

/-- A field of SYS_STATE after an operation that leaves the register as it is. -/
theorem Steady.f_eq {s₀ s : State} (h : Steady s₀ s) (fd : Field) (ho : fd.off = rSYS_STATE := by rfl) : s.f fd = s₀.f fd :=
  h.f fd ho

/-- The state entered, the state left and the cause (R43). -/
theorem State.goTo_state (s : State) (st c : Nat) (h : st < 16) : (s.goTo st c).f SYS_STATE_STATE = st := by
  unfold State.goTo
  rw [((Steady.refl).showCues).f_eq SYS_STATE_STATE]
  simp only [State.setFields]
  rw [State.f_setF_other _ _ _ _ (by decide), State.f_setF_other _ _ _ _ (by decide),
    State.f_setF_same _ SYS_STATE_STATE]
  exact Nat.mod_eq_of_lt h

theorem State.goTo_prev (s : State) (st c : Nat) : (s.goTo st c).f SYS_STATE_PREV = s.st := by
  unfold State.goTo
  rw [((Steady.refl).showCues).f_eq SYS_STATE_PREV]
  simp only [State.setFields]
  rw [State.f_setF_other _ _ _ _ (by decide), State.f_setF_other _ _ _ _ (by decide), State.f_setF_other _ _ _ _ (by decide),
    State.f_setF_same _ SYS_STATE_PREV]
  exact Nat.mod_eq_of_lt (Nat.mod_lt _ (by decide))

theorem State.goTo_cause (s : State) (st c : Nat) (h : c < 256) : (s.goTo st c).f SYS_STATE_CAUSE = c := by
  unfold State.goTo
  rw [((Steady.refl).showCues).f_eq SYS_STATE_CAUSE]
  simp only [State.setFields]
  rw [State.f_setF_other _ _ _ _ (by decide), State.f_setF_same _ SYS_STATE_CAUSE]
  exact Nat.mod_eq_of_lt h

/-- STATE, PREV and CAUSE read as in another state. -/
structure SameMode (s₀ s : State) : Prop where
  state : s.f SYS_STATE_STATE = s₀.f SYS_STATE_STATE
  prev : s.f SYS_STATE_PREV = s₀.f SYS_STATE_PREV
  cause : s.f SYS_STATE_CAUSE = s₀.f SYS_STATE_CAUSE

theorem SameMode.refl : SameMode s s := ⟨rfl, rfl, rfl⟩

theorem SameMode.trans {s₀ s₁ s₂ : State} (h : SameMode s₀ s₁) (k : SameMode s₁ s₂) : SameMode s₀ s₂ :=
  ⟨k.1.trans h.1, k.2.trans h.2, k.3.trans h.3⟩

theorem SameMode.of_steady {s₀ s : State} (h : Steady s₀ s) : SameMode s₀ s := ⟨h.f_eq _, h.f_eq _, h.f_eq _⟩

theorem SameMode.setF {s₀ : State} (h : SameMode s₀ s) (fd : Field) (v : Nat)
    (ho : fd.off ≠ rSYS_STATE ∨ fd.lo < 0 ∨ 20 ≤ fd.lo) : SameMode s₀ (s.setF fd v) := by
  have hd : ∀ gd : Field, gd.off = rSYS_STATE → gd.lo + gd.w ≤ 20 → (s.setF fd v).f gd = s.f gd := fun gd h1 h2 => by
    refine State.f_setF_other _ _ _ _ ?_
    rcases ho with ho | ho | ho
    · exact .inl fun e => ho (e.symm.trans h1)
    · omega
    · exact .inr (.inl (by omega))
  exact ⟨(hd _ rfl (by decide)).trans h.1, (hd _ rfl (by decide)).trans h.2, (hd _ rfl (by decide)).trans h.3⟩

/-- After `goTo`, an operation that keeps STATE, PREV and CAUSE leaves what `goTo` put there. -/
theorem SameMode.entered {s' : State} {st c : Nat} (h : SameMode (s.goTo st c) s') (h1 : st < 16) (h2 : c < 256) :
    s'.st = st ∧ s'.f SYS_STATE_PREV = s.st ∧ s'.f SYS_STATE_CAUSE = c :=
  ⟨h.1.trans (s.goTo_state st c h1), h.2.trans (s.goTo_prev st c), h.3.trans (s.goTo_cause st c h2)⟩

theorem Steady.enterDawn (s : State) (c : Nat) (x : DawnTests) : Steady (s.goTo DAWN c) (s.enterDawn c x) := by
  delta State.enterDawn
  beta_reduce
  generalize s.goTo DAWN c = z
  have h : Steady z z := Steady.refl
  repeat' first
    | with_reducible assumption
    | with_reducible apply Steady.raise
    | with_reducible apply Steady.dawnTile
    | with_reducible apply Steady.mapNoz
    | with_reducible apply Steady.dawnLanes
    | with_reducible refine Steady.setF ?_ _ _
    | with_reducible apply Steady.dawnDetect
    | with_reducible apply Steady.calDawnStart
    | with_reducible apply Steady.dawnMotor
    | with_reducible apply Steady.calDawnPair
    | with_reducible refine Steady.foldl ?_ ?_
    | (try lift_lets -underBinder); intro x; refine Steady.cut (x := x) ?_ ?_ <;> [subst x; (clear_value x; intro _)]
    | (try lift_lets -underBinder); intro x; first | subst x | skip
    | split

theorem State.enterDawn_state (s : State) (c : Nat) (x : DawnTests) (h : c < 256) :
    (s.enterDawn c x).st = DAWN ∧ (s.enterDawn c x).f SYS_STATE_PREV = s.st ∧ (s.enterDawn c x).f SYS_STATE_CAUSE = c := by
  have k := SameMode.of_steady (Steady.enterDawn s c x)
  exact k.entered (by decide) h

theorem SameMode.enterNight (s : State) (c : Nat) : SameMode (s.goTo NIGHT c) (s.enterNight c) := by
  delta State.enterNight
  beta_reduce
  generalize s.goTo NIGHT c = g
  have h1 : SameMode g (g.setFields
      [(SYS_STATE_DAWN_DONE, 0), (SYS_CTRL_RUN, 0), (SYS_STATE_RUN_PENDING, 0), (THM_STATUS_DUSK_REQ, 0)]) :=
    (((SameMode.refl.setF _ _ (by decide)).setF _ _ (by decide)).setF _ _ (by decide)).setF _ _ (by decide)
  refine h1.trans (SameMode.of_steady ?_)
  obtain ⟨z, hz⟩ : ∃ z, z = g.setFields
    [(SYS_STATE_DAWN_DONE, 0), (SYS_CTRL_RUN, 0), (SYS_STATE_RUN_PENDING, 0), (THM_STATUS_DUSK_REQ, 0)] := ⟨_, rfl⟩
  replace hz : Steady z (g.setFields
    [(SYS_STATE_DAWN_DONE, 0), (SYS_CTRL_RUN, 0), (SYS_STATE_RUN_PENDING, 0), (THM_STATUS_DUSK_REQ, 0)]) ∧
    Steady (g.setFields
    [(SYS_STATE_DAWN_DONE, 0), (SYS_CTRL_RUN, 0), (SYS_STATE_RUN_PENDING, 0), (THM_STATUS_DUSK_REQ, 0)]) z := by
    rw [hz]; exact ⟨Steady.refl, Steady.refl⟩
  refine Steady.trans hz.2 ?_
  replace hz := hz.1
  repeat' first
    | with_reducible assumption
    | with_reducible exact hz
    | with_reducible apply Steady.liveDiscard
    | with_reducible apply Steady.discardDocs
    | with_reducible apply Steady.dropDefers
    | with_reducible apply Steady.calDrop
    | with_reducible apply Steady.removePower
    | with_reducible apply Steady.railsDown
    | with_reducible apply Steady.motorsOff
    | with_reducible apply Steady.quietSys
    | with_reducible apply Steady.startSa
    | with_reducible refine Steady.ite ?_ ?_
    | with_reducible refine Steady.foldl ?_ ?_
    | (try lift_lets -underBinder); intro x; refine Steady.cut (x := x) ?_ ?_ <;> [subst x; (clear_value x; intro _)]
    | (try lift_lets -underBinder); intro x; first | subst x | skip
    | fail_if_no_progress with_reducible refine Steady.upd ?_

theorem State.enterNight_state (s : State) (c : Nat) (h : c < 256) :
    (s.enterNight c).st = NIGHT ∧ (s.enterNight c).f SYS_STATE_PREV = s.st ∧ (s.enterNight c).f SYS_STATE_CAUSE = c := by
  have k := SameMode.enterNight s c
  exact k.entered (by decide) h

theorem SameMode.updHoldup {s₀ : State} (h : SameMode s₀ s) : SameMode s₀ s.updHoldup := by
  unfold State.updHoldup
  exact (h.setF _ _ (by decide)).setF _ _ (by decide)

theorem SameMode.enterMidnight (s : State) (c : Nat) : SameMode (s.goTo MIDNIGHT c) (s.enterMidnight c) := by
  unfold State.enterMidnight
  refine SameMode.setF (SameMode.updHoldup (SameMode.of_steady ?_)) _ _ (by decide)
  generalize s.goTo MIDNIGHT c = z
  have h : Steady z z := Steady.refl
  repeat' first
    | with_reducible assumption
    | with_reducible apply Steady.liveDiscard
    | with_reducible apply Steady.discardDocs
    | with_reducible apply Steady.dropDefers
    | with_reducible apply Steady.calDrop
    | with_reducible apply Steady.fuseOpen
    | with_reducible apply Steady.logicOff
    | with_reducible apply Steady.railsOff
    | with_reducible apply Steady.motorsOff
    | with_reducible apply Steady.quietSys
    | with_reducible apply Steady.modFire
    | with_reducible apply Steady.modWin
    | with_reducible refine Steady.setFields_nil ?_
    | with_reducible refine Steady.setFields_cons ?_
    | with_reducible refine Steady.setF ?_ _ _
    | with_reducible refine Steady.ite ?_ ?_
    | with_reducible refine Steady.foldl ?_ ?_
    | (try lift_lets -underBinder); intro x; refine Steady.cut (x := x) ?_ ?_ <;> [subst x; (clear_value x; intro _)]
    | (try lift_lets -underBinder); intro x; first | subst x | skip
    | split
    | fail_if_no_progress with_reducible refine Steady.upd ?_

theorem State.enterMidnight_state (s : State) (c : Nat) (h : c < 256) :
    (s.enterMidnight c).st = MIDNIGHT ∧ (s.enterMidnight c).f SYS_STATE_PREV = s.st ∧ (s.enterMidnight c).f SYS_STATE_CAUSE = c := by
  have k := SameMode.enterMidnight s c
  exact k.entered (by decide) h

theorem SameMode.noonBegins {s₀ : State} (h : SameMode s₀ s) : SameMode s₀ s.noonBegins := by
  unfold State.noonBegins
  refine (h.setF SYS_STATE_RUN_PENDING 0 (by decide)).trans (SameMode.of_steady ?_)
  exact Steady.refl.foldl fun s w hs => hs.modWin _ _

theorem State.enterNoon_state (s : State) (c : Nat) (h : c < 256) :
    (s.enterNoon c).st = NOON ∧ (s.enterNoon c).f SYS_STATE_PREV = s.st ∧ (s.enterNoon c).f SYS_STATE_CAUSE = c := by
  have k := SameMode.noonBegins (SameMode.refl (s := s.goTo NOON c))
  exact k.entered (by decide) h

theorem Steady.enterDusk (s : State) (c : Nat) (n : Bool) : Steady (s.goTo DUSK c) (s.enterDusk c n) := by
  delta State.enterDusk
  have h : Steady (s.goTo DUSK c) (s.goTo DUSK c) := Steady.refl
  repeat' first
    | with_reducible assumption
    | with_reducible apply Steady.noPattern
    | with_reducible apply Steady.dropDefers
    | with_reducible apply Steady.calDrop
    | with_reducible apply Steady.motorsDusk
    | with_reducible apply Steady.stopDocs
    | with_reducible apply Steady.finishTest
    | with_reducible apply Steady.noteSwaps
    | with_reducible refine Steady.ite ?_ ?_
    | (try lift_lets -underBinder); intro x; refine Steady.cut (x := x) ?_ ?_ <;> [subst x; (clear_value x; intro _)]
    | (try lift_lets -underBinder); intro x; first | subst x | skip
    | fail_if_no_progress with_reducible refine Steady.upd ?_

theorem State.enterDusk_state (s : State) (c : Nat) (n : Bool) (h : c < 256) :
    (s.enterDusk c n).st = DUSK ∧ (s.enterDusk c n).f SYS_STATE_PREV = s.st ∧ (s.enterDusk c n).f SYS_STATE_CAUSE = c := by
  have k := SameMode.of_steady (Steady.enterDusk s c n)
  exact k.entered (by decide) h

end Sys2Proof.Machine
end

