-- ==== Sys2Proof/Laws/Access.lean ====
section
/-!
SUPPORT. Register writes that a command of its own performs: when they act, and what the requests of SYS_CTRL leave in
SYS_STATE (R43, R48 to R50, R56, R506).
-/
set_option linter.unusedTactic false
set_option linter.unreachableTactic false
namespace Sys2Proof.Machine
set_option Elab.async false
variable {s : State}

@[simp] theorem State.writable_at (s : State) (t off : Nat) : (s.at t).writable off = s.writable off := by
  simp [State.writable]

/-- A write that is taken acts at its own instant. -/
theorem State.onWrite_at (s : State) (t off : Nat) (g : State → State) (h : s.writable off = true) :
    (s.at t).onWrite off g = g (s.at t) := by
  simp [State.onWrite, h]

/-- A write before Night or Midnight has first been entered, or in Midnight outside the SYS_ and FLT_ registers, changes
nothing (R48, R56; log entry 22). -/
theorem State.onWrite_not (s : State) (off : Nat) (g : State → State) (h : s.writable off = false) : s.onWrite off g = s := by
  simp [State.onWrite, h]

theorem SameMode.at (s : State) (t : Nat) : SameMode s (s.at t) := .of_steady (Steady.refl.at t)

theorem SameMode.st {s₀ s : State} (h : SameMode s₀ s) : s.st = s₀.st := h.state

theorem SameMode.raise {s₀ : State} (h : SameMode s₀ s) (k : Kind) (a : Nat) : SameMode s₀ (s.raise k a) :=
  h.trans (.of_steady (Steady.refl.raise k a))

theorem SameMode.ite {s₀ x y : State} {p : Prop} [Decidable p] (hx : SameMode s₀ x) (hy : SameMode s₀ y) :
    SameMode s₀ (if p then x else y) := by split <;> assumption

/-- A run request in Night or Midnight, or refused by a pending STOP, causes no transition (R50, R419). -/
theorem SameMode.runRequest_idle (s : State) (h1 : s.st ≠ MORNING) (h3 : ¬(s.st = EVENING ∧ s.f SYS_STATE_FUNC = MORNING)) :
    SameMode s s.runRequest := by
  unfold State.runRequest
  refine SameMode.ite ((SameMode.refl.setF _ _ (by decide)).raise _ _) ?_
  rw [if_neg h1]
  refine SameMode.ite (SameMode.refl.setF _ _ (by decide)) ?_
  rw [if_neg (by simpa using h3)]
  exact .refl

/-- A stop request outside Noon's functions only withdraws a pending RUN (R50, R506). -/
theorem SameMode.stopRequest_idle (s : State) (h : s.st ≠ NOON) (h2 : s.st ≠ EVENING) : SameMode s s.stopRequest := by
  unfold State.stopRequest
  have k : SameMode s (s.setF SYS_STATE_RUN_PENDING 0) := SameMode.refl.setF _ _ (by decide)
  have e : (s.setF SYS_STATE_RUN_PENDING 0).st = s.st := k.st
  simp only [e]
  rw [if_neg (by simp [h, h2])]
  exact k

end Sys2Proof.Machine
end

