-- ==== Sys2Proof/Laws/Frame.lean ====
section
/-!
SUPPORT. What an operation may change: a frame says that time does not go back, that the queue stays, that outputs are only
added, that the canonical forms are kept, and which parts of the state stay as they were. Each operation has one lemma of
this kind (the other files of this folder), and callers cite it.
-/
namespace Sys2Proof.Machine
set_option Elab.async false

/-- The parts of the state that an operation may change, and whether it may send a strobe. -/
structure Touch where
  snaps : Bool := false
  lows : Bool := false
  ident : Bool := false
  nv : Bool := false
  sys : Bool := false
  cfg : Bool := false
  pos : Bool := false
  fire : Bool := false
  wins : Bool := false
  noz : Bool := false
  tileH : Bool := false
  lanes : Bool := false
  health : Bool := false
  comp : Bool := false
  host : Bool := false
  dma : Bool := false
  ring : Bool := false
  ports : Bool := false
  pwr : Bool := false
  mot : Bool := false
  thm : Bool := false
  flt : Bool := false
  cal : Bool := false
  pmc : Bool := false
  clk : Bool := false
  svc : Bool := false
  form : Bool := false
  staging : Bool := false
  strobe : Bool := false
deriving DecidableEq, Repr

/-- From `a` to `c` only the parts that `m` names may have changed. -/
structure Frame (m : Touch) (a c : State) : Prop where
  now : a.now ≤ c.now
  pending : c.pending = a.pending
  draws : a.draws ≤ c.draws
  out : ∃ new, c.out = new ++ a.out ∧ (m.strobe = true ∨ ∀ o ∈ new, o.isStrobe = false)
  wf : a.wf = true → c.wf = true
  form : m.form = true ∨ c.mem.form = a.mem.form
  staging : m.staging = true ∨ c.mem.staging = a.mem.staging
  snaps : m.snaps = true ∨ c.snaps = a.snaps
  lows : m.lows = true ∨ c.lows = a.lows
  ident : m.ident = true ∨ c.ident = a.ident
  nv : m.nv = true ∨ c.nv = a.nv
  sys : m.sys = true ∨ c.sys = a.sys
  cfg : m.cfg = true ∨ c.cfg = a.cfg
  pos : m.pos = true ∨ c.pos = a.pos
  fire : m.fire = true ∨ c.fire = a.fire
  wins : m.wins = true ∨ c.wins = a.wins
  noz : m.noz = true ∨ c.noz = a.noz
  tileH : m.tileH = true ∨ c.tileH = a.tileH
  lanes : m.lanes = true ∨ c.lanes = a.lanes
  health : m.health = true ∨ c.health = a.health
  comp : m.comp = true ∨ c.comp = a.comp
  host : m.host = true ∨ c.host = a.host
  dma : m.dma = true ∨ c.dma = a.dma
  ring : m.ring = true ∨ c.ring = a.ring
  ports : m.ports = true ∨ c.ports = a.ports
  pwr : m.pwr = true ∨ c.pwr = a.pwr
  mot : m.mot = true ∨ c.mot = a.mot
  thm : m.thm = true ∨ c.thm = a.thm
  flt : m.flt = true ∨ c.flt = a.flt
  cal : m.cal = true ∨ c.cal = a.cal
  pmc : m.pmc = true ∨ c.pmc = a.pmc
  clk : m.clk = true ∨ c.clk = a.clk
  svc : m.svc = true ∨ c.svc = a.svc

variable {m : Touch} {a s c : State}

@[simp] theorem Frame.refl : Frame m a a where
  now := Nat.le_refl _
  pending := rfl
  draws := Nat.le_refl _
  out := ⟨[], rfl, .inr (by simp)⟩
  wf h := h
  form := .inr rfl
  staging := .inr rfl
  snaps := .inr rfl
  lows := .inr rfl
  ident := .inr rfl
  nv := .inr rfl
  sys := .inr rfl
  cfg := .inr rfl
  pos := .inr rfl
  fire := .inr rfl
  wins := .inr rfl
  noz := .inr rfl
  tileH := .inr rfl
  lanes := .inr rfl
  health := .inr rfl
  comp := .inr rfl
  host := .inr rfl
  dma := .inr rfl
  ring := .inr rfl
  ports := .inr rfl
  pwr := .inr rfl
  mot := .inr rfl
  thm := .inr rfl
  flt := .inr rfl
  cal := .inr rfl
  pmc := .inr rfl
  clk := .inr rfl
  svc := .inr rfl

/-- Frames compose. -/
theorem Frame.trans (h : Frame m a s) (k : Frame m s c) : Frame m a c where
  now := Nat.le_trans h.now k.now
  pending := k.pending.trans h.pending
  draws := Nat.le_trans h.draws k.draws
  out := by
    obtain ⟨x, hx, px⟩ := h.out
    obtain ⟨y, hy, py⟩ := k.out
    refine ⟨y ++ x, by rw [hy, hx, List.append_assoc], ?_⟩
    rcases px with px | px
    · exact .inl px
    · rcases py with py | py
      · exact .inl py
      · refine .inr fun o ho => ?_
        rcases List.mem_append.1 ho with h | h
        · exact py o h
        · exact px o h
  wf g := k.wf (h.wf g)
  form := k.form.elim .inl fun e => h.form.elim .inl fun e' => .inr (e.trans e')
  staging := k.staging.elim .inl fun e => h.staging.elim .inl fun e' => .inr (e.trans e')
  snaps := k.snaps.elim .inl fun e => h.snaps.elim .inl fun e' => .inr (e.trans e')
  lows := k.lows.elim .inl fun e => h.lows.elim .inl fun e' => .inr (e.trans e')
  ident := k.ident.elim .inl fun e => h.ident.elim .inl fun e' => .inr (e.trans e')
  nv := k.nv.elim .inl fun e => h.nv.elim .inl fun e' => .inr (e.trans e')
  sys := k.sys.elim .inl fun e => h.sys.elim .inl fun e' => .inr (e.trans e')
  cfg := k.cfg.elim .inl fun e => h.cfg.elim .inl fun e' => .inr (e.trans e')
  pos := k.pos.elim .inl fun e => h.pos.elim .inl fun e' => .inr (e.trans e')
  fire := k.fire.elim .inl fun e => h.fire.elim .inl fun e' => .inr (e.trans e')
  wins := k.wins.elim .inl fun e => h.wins.elim .inl fun e' => .inr (e.trans e')
  noz := k.noz.elim .inl fun e => h.noz.elim .inl fun e' => .inr (e.trans e')
  tileH := k.tileH.elim .inl fun e => h.tileH.elim .inl fun e' => .inr (e.trans e')
  lanes := k.lanes.elim .inl fun e => h.lanes.elim .inl fun e' => .inr (e.trans e')
  health := k.health.elim .inl fun e => h.health.elim .inl fun e' => .inr (e.trans e')
  comp := k.comp.elim .inl fun e => h.comp.elim .inl fun e' => .inr (e.trans e')
  host := k.host.elim .inl fun e => h.host.elim .inl fun e' => .inr (e.trans e')
  dma := k.dma.elim .inl fun e => h.dma.elim .inl fun e' => .inr (e.trans e')
  ring := k.ring.elim .inl fun e => h.ring.elim .inl fun e' => .inr (e.trans e')
  ports := k.ports.elim .inl fun e => h.ports.elim .inl fun e' => .inr (e.trans e')
  pwr := k.pwr.elim .inl fun e => h.pwr.elim .inl fun e' => .inr (e.trans e')
  mot := k.mot.elim .inl fun e => h.mot.elim .inl fun e' => .inr (e.trans e')
  thm := k.thm.elim .inl fun e => h.thm.elim .inl fun e' => .inr (e.trans e')
  flt := k.flt.elim .inl fun e => h.flt.elim .inl fun e' => .inr (e.trans e')
  cal := k.cal.elim .inl fun e => h.cal.elim .inl fun e' => .inr (e.trans e')
  pmc := k.pmc.elim .inl fun e => h.pmc.elim .inl fun e' => .inr (e.trans e')
  clk := k.clk.elim .inl fun e => h.clk.elim .inl fun e' => .inr (e.trans e')
  svc := k.svc.elim .inl fun e => h.svc.elim .inl fun e' => .inr (e.trans e')

/-- A record update where each part is as before or may change. -/
theorem Frame.upd {snaps lows ident nv sys cfg pos fire wins noz tileH lanes health comp host dma ring ports pwr mot thm flt cal mem pmc clk svc} (h : Frame m a s)
    (form : mem.form = s.mem.form := by rfl) (staging : mem.staging = s.mem.staging := by rfl)
    (wfire : fire = s.fire ∨ (Sparse.wf (fun _ => {}) s.fire = true → Sparse.wf (fun _ => {}) fire = true) := by first | exact .inl rfl | exact .inr (Sparse.wf_put _ _ _ _))
    (wwins : wins = s.wins ∨ (Sparse.wf (fun _ => {}) s.wins = true → Sparse.wf (fun _ => {}) wins = true) := by first | exact .inl rfl | exact .inr (Sparse.wf_put _ _ _ _))
    (wnoz : noz = s.noz ∨ (Sparse.wf (fun _ => {}) s.noz = true → Sparse.wf (fun _ => {}) noz = true) := by first | exact .inl rfl | exact .inr (Sparse.wf_put _ _ _ _))
    (wtileH : tileH = s.tileH ∨ (Sparse.wf (fun _ => {}) s.tileH = true → Sparse.wf (fun _ => {}) tileH = true) := by first | exact .inl rfl | exact .inr (Sparse.wf_put _ _ _ _))
    (wlanes : lanes = s.lanes ∨ (Sparse.wf (fun _ => {}) s.lanes = true → Sparse.wf (fun _ => {}) lanes = true) := by first | exact .inl rfl | exact .inr (Sparse.wf_put _ _ _ _))
    (wports : ports = s.ports ∨ (Sparse.wf (fun _ => {}) s.ports = true → Sparse.wf (fun _ => {}) ports = true) := by first | exact .inl rfl | exact .inr (Sparse.wf_put _ _ _ _))
    (snaps_eq : m.snaps = true ∨ snaps = s.snaps := by first | exact .inl ‹_› | exact .inr rfl)
    (lows_eq : m.lows = true ∨ lows = s.lows := by first | exact .inl ‹_› | exact .inr rfl)
    (ident_eq : m.ident = true ∨ ident = s.ident := by first | exact .inl ‹_› | exact .inr rfl)
    (nv_eq : m.nv = true ∨ nv = s.nv := by first | exact .inl ‹_› | exact .inr rfl)
    (sys_eq : m.sys = true ∨ sys = s.sys := by first | exact .inl ‹_› | exact .inr rfl)
    (cfg_eq : m.cfg = true ∨ cfg = s.cfg := by first | exact .inl ‹_› | exact .inr rfl)
    (pos_eq : m.pos = true ∨ pos = s.pos := by first | exact .inl ‹_› | exact .inr rfl)
    (fire_eq : m.fire = true ∨ fire = s.fire := by first | exact .inl ‹_› | exact .inr rfl)
    (wins_eq : m.wins = true ∨ wins = s.wins := by first | exact .inl ‹_› | exact .inr rfl)
    (noz_eq : m.noz = true ∨ noz = s.noz := by first | exact .inl ‹_› | exact .inr rfl)
    (tileH_eq : m.tileH = true ∨ tileH = s.tileH := by first | exact .inl ‹_› | exact .inr rfl)
    (lanes_eq : m.lanes = true ∨ lanes = s.lanes := by first | exact .inl ‹_› | exact .inr rfl)
    (health_eq : m.health = true ∨ health = s.health := by first | exact .inl ‹_› | exact .inr rfl)
    (comp_eq : m.comp = true ∨ comp = s.comp := by first | exact .inl ‹_› | exact .inr rfl)
    (host_eq : m.host = true ∨ host = s.host := by first | exact .inl ‹_› | exact .inr rfl)
    (dma_eq : m.dma = true ∨ dma = s.dma := by first | exact .inl ‹_› | exact .inr rfl)
    (ring_eq : m.ring = true ∨ ring = s.ring := by first | exact .inl ‹_› | exact .inr rfl)
    (ports_eq : m.ports = true ∨ ports = s.ports := by first | exact .inl ‹_› | exact .inr rfl)
    (pwr_eq : m.pwr = true ∨ pwr = s.pwr := by first | exact .inl ‹_› | exact .inr rfl)
    (mot_eq : m.mot = true ∨ mot = s.mot := by first | exact .inl ‹_› | exact .inr rfl)
    (thm_eq : m.thm = true ∨ thm = s.thm := by first | exact .inl ‹_› | exact .inr rfl)
    (flt_eq : m.flt = true ∨ flt = s.flt := by first | exact .inl ‹_› | exact .inr rfl)
    (cal_eq : m.cal = true ∨ cal = s.cal := by first | exact .inl ‹_› | exact .inr rfl)
    (pmc_eq : m.pmc = true ∨ pmc = s.pmc := by first | exact .inl ‹_› | exact .inr rfl)
    (clk_eq : m.clk = true ∨ clk = s.clk := by first | exact .inl ‹_› | exact .inr rfl)
    (svc_eq : m.svc = true ∨ svc = s.svc := by first | exact .inl ‹_› | exact .inr rfl)
    : Frame m a (State.mk s.regs snaps lows s.now ident nv sys cfg pos fire wins noz tileH lanes health comp host dma ring ports pwr mot thm flt cal mem pmc clk svc s.out s.draws s.pending) := h.trans {
      now := Nat.le_refl _
      pending := rfl
      draws := Nat.le_refl _
      out := ⟨[], rfl, .inr (by simp)⟩
      wf := by
        simp only [State.wf_iff, form, staging]
        rintro ⟨h1, h2, h3, h4, h5, h6, h7, h8, h9⟩
        exact ⟨h1, h2, h3, wfire.elim (· ▸ h4) (· h4), wwins.elim (· ▸ h5) (· h5), wnoz.elim (· ▸ h6) (· h6),
          wtileH.elim (· ▸ h7) (· h7), wlanes.elim (· ▸ h8) (· h8), wports.elim (· ▸ h9) (· h9)⟩
      form := .inr form
      staging := .inr staging
      snaps := snaps_eq
      lows := lows_eq
      ident := ident_eq
      nv := nv_eq
      sys := sys_eq
      cfg := cfg_eq
      pos := pos_eq
      fire := fire_eq
      wins := wins_eq
      noz := noz_eq
      tileH := tileH_eq
      lanes := lanes_eq
      health := health_eq
      comp := comp_eq
      host := host_eq
      dma := dma_eq
      ring := ring_eq
      ports := ports_eq
      pwr := pwr_eq
      mot := mot_eq
      thm := thm_eq
      flt := flt_eq
      cal := cal_eq
      pmc := pmc_eq
      clk := clk_eq
      svc := svc_eq
    }

/-- A register's word may be replaced within every frame. -/
theorem Frame.setReg (h : Frame m a s) (off : Nat) (w : Word) : Frame m a (s.setReg off w) := h.trans {
  now := Nat.le_refl _
  pending := rfl
  draws := Nat.le_refl _
  out := ⟨[], rfl, .inr (by simp)⟩
  wf := by
    simp only [State.wf_iff]
    rintro ⟨h1, h⟩
    exact ⟨Sparse.wf_put _ _ _ _ h1, h⟩
  form := .inr rfl
  staging := .inr rfl
  snaps := .inr rfl
  lows := .inr rfl
  ident := .inr rfl
  nv := .inr rfl
  sys := .inr rfl
  cfg := .inr rfl
  pos := .inr rfl
  fire := .inr rfl
  wins := .inr rfl
  noz := .inr rfl
  tileH := .inr rfl
  lanes := .inr rfl
  health := .inr rfl
  comp := .inr rfl
  host := .inr rfl
  dma := .inr rfl
  ring := .inr rfl
  ports := .inr rfl
  pwr := .inr rfl
  mot := .inr rfl
  thm := .inr rfl
  flt := .inr rfl
  cal := .inr rfl
  pmc := .inr rfl
  clk := .inr rfl
  svc := .inr rfl
}

theorem Frame.setF (h : Frame m a s) (fd : Field) (v : Nat) : Frame m a (s.setF fd v) := h.setReg _ _
theorem Frame.setFs (h : Frame m a s) (fd : Field) (v : Int) : Frame m a (s.setFs fd v) := h.setReg _ _
theorem Frame.setFb (h : Frame m a s) (fd : Field) (b : Bool) : Frame m a (s.setFb fd b) := h.setReg _ _
theorem Frame.addF (h : Frame m a s) (fd : Field) (n : Nat) : Frame m a (s.addF fd n) := h.setReg _ _
theorem Frame.incF (h : Frame m a s) (fd : Field) (n : Nat) : Frame m a (s.incF fd n) := h.setReg _ _

theorem Frame.setFields (l : List (Field × Nat)) : ∀ {s}, Frame m a s → Frame m a (s.setFields l) := by
  induction l with
  | nil => intro s h; exact h
  | cons e r ih => intro s h; exact ih (h.setF e.1 e.2)

/-- An output that is no strobe may be recorded within every frame; a strobe only where the frame allows it. -/
theorem Frame.emit (h : Frame m a s) (o : Output) (ho : m.strobe = true ∨ o.isStrobe = false) : Frame m a (s.emit o) := h.trans {
  now := Nat.le_refl _
  pending := rfl
  draws := Nat.le_refl _
  out := ⟨[o], rfl, ho.imp id fun h => by simpa using h⟩
  wf := id
  form := .inr rfl
  staging := .inr rfl
  snaps := .inr rfl
  lows := .inr rfl
  ident := .inr rfl
  nv := .inr rfl
  sys := .inr rfl
  cfg := .inr rfl
  pos := .inr rfl
  fire := .inr rfl
  wins := .inr rfl
  noz := .inr rfl
  tileH := .inr rfl
  lanes := .inr rfl
  health := .inr rfl
  comp := .inr rfl
  host := .inr rfl
  dma := .inr rfl
  ring := .inr rfl
  ports := .inr rfl
  pwr := .inr rfl
  mot := .inr rfl
  thm := .inr rfl
  flt := .inr rfl
  cal := .inr rfl
  pmc := .inr rfl
  clk := .inr rfl
  svc := .inr rfl
}

/-- The memories replaced: their canonical form kept, and each bytes' part as before unless the frame allows it. -/
theorem Frame.setMem (h : Frame m a s) (x : Mem) (hf : m.form = true ∨ x.form = s.mem.form)
    (hs : m.staging = true ∨ x.staging = s.mem.staging)
    (wf : Memory.wf Config.formPowerOn s.mem.form = true → Memory.wf (fun _ => 0) s.mem.staging = true →
      Memory.wf Config.formPowerOn x.form = true ∧ Memory.wf (fun _ => 0) x.staging = true) :
    Frame m a { s with mem := x } := h.trans {
  now := Nat.le_refl _
  pending := rfl
  draws := Nat.le_refl _
  out := ⟨[], rfl, .inr (by simp)⟩
  wf := by
    simp only [State.wf_iff]
    rintro ⟨h1, h2, h3, h4⟩
    exact ⟨h1, (wf h2 h3).1, (wf h2 h3).2, h4⟩
  form := hf
  staging := hs
  snaps := .inr rfl
  lows := .inr rfl
  ident := .inr rfl
  nv := .inr rfl
  sys := .inr rfl
  cfg := .inr rfl
  pos := .inr rfl
  fire := .inr rfl
  wins := .inr rfl
  noz := .inr rfl
  tileH := .inr rfl
  lanes := .inr rfl
  health := .inr rfl
  comp := .inr rfl
  host := .inr rfl
  dma := .inr rfl
  ring := .inr rfl
  ports := .inr rfl
  pwr := .inr rfl
  mot := .inr rfl
  thm := .inr rfl
  flt := .inr rfl
  cal := .inr rfl
  pmc := .inr rfl
  clk := .inr rfl
  svc := .inr rfl
}

/-- The counter of free values may advance within every frame. -/
theorem Frame.draw (h : Frame m a s) (k : Nat) : Frame m a { s with draws := s.draws + k } := h.trans {
  now := Nat.le_refl _
  pending := rfl
  draws := Nat.le_add_right _ _
  out := ⟨[], rfl, .inr (by simp)⟩
  wf := id
  form := .inr rfl
  staging := .inr rfl
  snaps := .inr rfl
  lows := .inr rfl
  ident := .inr rfl
  nv := .inr rfl
  sys := .inr rfl
  cfg := .inr rfl
  pos := .inr rfl
  fire := .inr rfl
  wins := .inr rfl
  noz := .inr rfl
  tileH := .inr rfl
  lanes := .inr rfl
  health := .inr rfl
  comp := .inr rfl
  host := .inr rfl
  dma := .inr rfl
  ring := .inr rfl
  ports := .inr rfl
  pwr := .inr rfl
  mot := .inr rfl
  thm := .inr rfl
  flt := .inr rfl
  cal := .inr rfl
  pmc := .inr rfl
  clk := .inr rfl
  svc := .inr rfl
}

theorem Frame.drawn (h : Frame m a s) : Frame m a s.drawn := h.draw 1

/-- A fold of an operation stays within the operation's frame. -/
theorem Frame.foldl {α : Type} {f : State → α → State} {l : List α} (h : Frame m a s)
    (hf : ∀ s x, Frame m a s → Frame m a (f s x)) : Frame m a (l.foldl f s) := by
  induction l generalizing s with
  | nil => exact h
  | cons x r ih => exact ih (hf _ _ h)

/-- A fold over a pair whose first part is the state. -/
theorem Frame.foldl_fst {α β : Type} {f : State × β → α → State × β} {l : List α} {y : β} (h : Frame m a s)
    (hf : ∀ s z x, Frame m a s → Frame m a (f (s, z) x).1) : Frame m a (l.foldl f (s, y)).1 := by
  induction l generalizing s y with
  | nil => exact h
  | cons x r ih => exact ih (hf _ _ _ h)

theorem Frame.ite {p : Prop} [Decidable p] {x y : State} (hx : Frame m a x) (hy : Frame m a y) :
    Frame m a (if p then x else y) := by split <;> assumption

theorem Frame.ite_fst {α : Type} {p : Prop} [Decidable p] {x y : State × α} (hx : Frame m a x.1) (hy : Frame m a y.1) :
    Frame m a (if p then x else y).1 := by split <;> assumption

/-- A write that a function of a register takes, case by case. -/
theorem Frame.opt_ite {p : Prop} [Decidable p] {x y : Option State} (hx : ∀ c ∈ x, Frame m a c) (hy : ∀ c ∈ y, Frame m a c) :
    ∀ c ∈ (if p then x else y), Frame m a c := by split <;> assumption

theorem Frame.opt_some (h : Frame m a s) : ∀ c ∈ some s, Frame m a c := by
  intro c hc
  rw [Option.mem_some_iff] at hc
  exact hc ▸ h

theorem Frame.opt_none : ∀ c ∈ (none : Option State), Frame m a c := by simp

theorem Frame.opt_map {α : Type} {g : α → State} {o : Option α} (h : ∀ k, Frame m a (g k)) : ∀ c ∈ o.map g, Frame m a c := by
  intro c hc
  obtain ⟨k, _, rfl⟩ := Option.mem_map.1 hc
  exact h k

theorem Frame.pmcAdd (h : Frame m a s) (k n : Nat) : Frame m a (s.pmcAdd k n) := by
  unfold State.pmcAdd
  refine Frame.ite ((h.setF _ _).setF _ _) ?_
  exact ((h.setF _ _).setF _ _).setReg _ _

theorem Frame.count (h : Frame m a s) (ev u k : Nat) : Frame m a (s.count ev u k) := by
  unfold State.count
  exact Frame.ite h (h.foldl fun s x hs => hs.pmcAdd _ _)

/-- Time moves on within every frame. -/
theorem Frame.at (h : Frame m a s) (t : Nat) : Frame m a (s.at t) := by
  unfold State.at
  refine Frame.count (h.trans ?_) _ _ _
  exact {
    now := Nat.le_max_left _ _
    pending := rfl
    draws := Nat.le_refl _
    out := ⟨[], rfl, .inr (by simp)⟩
    wf := id
    form := .inr rfl
    staging := .inr rfl
    snaps := .inr rfl
    lows := .inr rfl
    ident := .inr rfl
    nv := .inr rfl
    sys := .inr rfl
    cfg := .inr rfl
    pos := .inr rfl
    fire := .inr rfl
    wins := .inr rfl
    noz := .inr rfl
    tileH := .inr rfl
    lanes := .inr rfl
    health := .inr rfl
    comp := .inr rfl
    host := .inr rfl
    dma := .inr rfl
    ring := .inr rfl
    ports := .inr rfl
    pwr := .inr rfl
    mot := .inr rfl
    thm := .inr rfl
    flt := .inr rfl
    cal := .inr rfl
    pmc := .inr rfl
    clk := .inr rfl
    svc := .inr rfl
  }

/-- Cases of a walk through an operation: a value met on the way is within the frame. -/
theorem Frame.cut {x : State} {P : Prop} (hx : Frame m a x) (h : Frame m a x → P) : P := h hx

end Sys2Proof.Machine
end

