-- ==== Sys2Proof/Laws/FrameOps.lean ====
section
/-!
SUPPORT. The frames of the shared operations of the registers, tiles, heads, composer, ring, DMA and fire schedulers. Each proof walks
through the operation's own structure and cites the frames of what it calls.
-/
set_option linter.unusedTactic false
set_option linter.unreachableTactic false
set_option linter.unusedVariables false
namespace Sys2Proof.Machine
set_option Elab.async false
variable {μ : Touch} {s₀ s : State}

/-! ### Machine/Ops.lean -/

theorem Frame.raiseAs (h : Frame μ s₀ s) (die : Nat) (inst : Nat) (k : Kind) (addr : Nat) (injected : Bool) (h_health : μ.health = true) (h_flt : μ.flt = true) :
    Frame μ s₀ (State.raiseAs s die inst k addr injected) := by
  delta State.raiseAs
  repeat' first
    | with_reducible assumption
    | with_reducible refine Frame.ite ?_ ?_
    | (try lift_lets -underBinder); intro x; refine Frame.cut (x := x) ?_ ?_ <;> [subst x; (clear_value x; intro _)]
    | (try lift_lets -underBinder); intro x; first | subst x | skip
    | split
    | fail_if_no_progress with_reducible refine Frame.upd ?_

theorem Frame.raise (h : Frame μ s₀ s) (k : Kind) (addr : Nat) (h_health : μ.health = true) (h_flt : μ.flt = true) :
    Frame μ s₀ (State.raise s k addr) := by
  delta State.raise
  repeat' first
    | with_reducible assumption
    | with_reducible apply Frame.raiseAs

theorem Frame.raiseLane (h : Frame μ s₀ s) (d : Nat) (k : Kind) (addr : Nat) (h_health : μ.health = true) (h_flt : μ.flt = true) :
    Frame μ s₀ (State.raiseLane s d k addr) := by
  delta State.raiseLane
  repeat' first
    | with_reducible assumption
    | with_reducible apply Frame.raiseAs

theorem Frame.emitSrc (h : Frame μ s₀ s) (src : Nat) (h_pos : μ.pos = true) :
    Frame μ s₀ (State.emitSrc s src) := by
  delta State.emitSrc
  repeat' first
    | with_reducible assumption
    | fail_if_no_progress with_reducible refine Frame.upd ?_

/-! ### Machine/TagOps.lean -/

theorem Frame.tagCandidate (h : Frame μ s₀ s) (r : TagRec) (h_pmc : μ.pmc = true) :
    Frame μ s₀ (State.tagCandidate s r) := by
  delta State.tagCandidate
  repeat' first
    | with_reducible assumption
    | with_reducible refine Frame.ite ?_ ?_
    | (try lift_lets -underBinder); intro x; refine Frame.cut (x := x) ?_ ?_ <;> [subst x; (clear_value x; intro _)]
    | (try lift_lets -underBinder); intro x; first | subst x | skip
    | fail_if_no_progress with_reducible refine Frame.upd ?_

theorem Frame.tagMany (h : Frame μ s₀ s) (domain : Nat) (unit_ : Nat) (n : Nat) (mk : Nat → TagRec) (h_pmc : μ.pmc = true) :
    Frame μ s₀ (State.tagMany s domain unit_ n mk) := by
  delta State.tagMany
  repeat' first
    | with_reducible assumption
    | with_reducible apply Frame.tagCandidate
    | with_reducible refine Frame.ite ?_ ?_
    | with_reducible refine Frame.foldl ?_ ?_
    | (try lift_lets -underBinder); intro x; refine Frame.cut (x := x) ?_ ?_ <;> [subst x; (clear_value x; intro _)]
    | (try lift_lets -underBinder); intro x; first | subst x | skip

theorem Frame.modTag (h : Frame μ s₀ s) (p : TagRec → Bool) (g : TagRec → TagRec) (h_pmc : μ.pmc = true) :
    Frame μ s₀ (State.modTag s p g) := by
  delta State.modTag
  repeat' first
    | with_reducible assumption
    | with_reducible refine Frame.ite ?_ ?_
    | (try lift_lets -underBinder); intro x; refine Frame.cut (x := x) ?_ ?_ <;> [subst x; (clear_value x; intro _)]
    | (try lift_lets -underBinder); intro x; first | subst x | skip
    | fail_if_no_progress with_reducible refine Frame.upd ?_

theorem Frame.tagRecord (h : Frame μ s₀ s) (p : TagRec → Bool) (abandoned : Bool) (h_pmc : μ.pmc = true) :
    Frame μ s₀ (State.tagRecord s p abandoned) := by
  delta State.tagRecord
  repeat' first
    | with_reducible assumption
    | with_reducible apply Frame.setFields
    | with_reducible refine Frame.ite ?_ ?_
    | (try lift_lets -underBinder); intro x; refine Frame.cut (x := x) ?_ ?_ <;> [subst x; (clear_value x; intro _)]
    | (try lift_lets -underBinder); intro x; first | subst x | skip
    | split
    | fail_if_no_progress dsimp only
    | fail_if_no_progress with_reducible refine Frame.upd ?_

theorem Frame.tagDesc (h : Frame μ s₀ s) (stream : Nat) (k : Nat) (first : Bool) (h_pmc : μ.pmc = true) :
    Frame μ s₀ (State.tagDesc s stream k first) := by
  delta State.tagDesc
  repeat' first
    | with_reducible assumption
    | with_reducible apply Frame.modTag
    | with_reducible refine Frame.ite ?_ ?_
    | (try lift_lets -underBinder); intro x; refine Frame.cut (x := x) ?_ ?_ <;> [subst x; (clear_value x; intro _)]
    | (try lift_lets -underBinder); intro x; first | subst x | skip

/-! ### Machine/CueOps.lean -/

theorem Frame.driveCue (h : Frame μ s₀ s) (n : Nat) (h_health : μ.health = true) (h_flt : μ.flt = true) (h_svc : μ.svc = true) :
    Frame μ s₀ (State.driveCue s n) := by
  delta State.driveCue
  repeat' first
    | with_reducible assumption
    | with_reducible refine Frame.emit ?_ _ (.inr rfl)
    | with_reducible apply Frame.raise
    | with_reducible refine Frame.ite ?_ ?_
    | (try lift_lets -underBinder); intro x; refine Frame.cut (x := x) ?_ ?_ <;> [subst x; (clear_value x; intro _)]
    | (try lift_lets -underBinder); intro x; first | subst x | skip
    | split
    | fail_if_no_progress dsimp only
    | fail_if_no_progress with_reducible refine Frame.upd ?_

theorem Frame.showCues (h : Frame μ s₀ s) (h_health : μ.health = true) (h_flt : μ.flt = true) (h_svc : μ.svc = true) :
    Frame μ s₀ (State.showCues s) := by
  delta State.showCues
  repeat' first
    | with_reducible assumption
    | with_reducible apply Frame.driveCue
    | with_reducible refine Frame.foldl ?_ ?_
    | (try lift_lets -underBinder); intro x; refine Frame.cut (x := x) ?_ ?_ <;> [subst x; (clear_value x; intro _)]
    | (try lift_lets -underBinder); intro x; first | subst x | skip

theorem Frame.cuePulse (h : Frame μ s₀ s) (n : Nat) (h_health : μ.health = true) (h_flt : μ.flt = true) (h_svc : μ.svc = true) :
    Frame μ s₀ (State.cuePulse s n) := by
  delta State.cuePulse
  repeat' first
    | with_reducible assumption
    | with_reducible apply Frame.driveCue
    | with_reducible refine Frame.ite ?_ ?_
    | fail_if_no_progress with_reducible refine Frame.upd ?_

theorem Frame.holdCues (h : Frame μ s₀ s) (old : List CueRec) (new : List CueRec) (until_ : Nat) (h_health : μ.health = true) (h_flt : μ.flt = true) (h_svc : μ.svc = true) :
    Frame μ s₀ (State.holdCues s old new until_) := by
  delta State.holdCues
  repeat' first
    | with_reducible assumption
    | with_reducible apply Frame.cuePulse
    | with_reducible refine Frame.ite ?_ ?_
    | with_reducible refine Frame.foldl ?_ ?_
    | (try lift_lets -underBinder); intro x; refine Frame.cut (x := x) ?_ ?_ <;> [subst x; (clear_value x; intro _)]
    | (try lift_lets -underBinder); intro x; first | subst x | skip
    | fail_if_no_progress with_reducible refine Frame.upd ?_

theorem Frame.handCues (h : Frame μ s₀ s) (h_health : μ.health = true) (h_flt : μ.flt = true) (h_svc : μ.svc = true) :
    Frame μ s₀ (State.handCues s) := by
  delta State.handCues
  repeat' first
    | with_reducible assumption
    | with_reducible apply Frame.showCues
    | (try lift_lets -underBinder); intro x; refine Frame.cut (x := x) ?_ ?_ <;> [subst x; (clear_value x; intro _)]
    | (try lift_lets -underBinder); intro x; first | subst x | skip
    | fail_if_no_progress with_reducible refine Frame.upd ?_

/-! ### Machine/TileOps.lean -/

theorem Frame.modPort (h : Frame μ s₀ s) (n : Nat) (g : TileP → TileP) (h_ports : μ.ports = true) :
    Frame μ s₀ (State.modPort s n g) := by
  delta State.modPort
  repeat' first
    | with_reducible assumption
    | fail_if_no_progress with_reducible refine Frame.upd ?_

theorem Frame.modTh (h : Frame μ s₀ s) (n : Nat) (g : TileH → TileH) (h_tileH : μ.tileH = true) :
    Frame μ s₀ (State.modTh s n g) := by
  delta State.modTh
  repeat' first
    | with_reducible assumption
    | fail_if_no_progress with_reducible refine Frame.upd ?_

theorem Frame.modNoz (h : Frame μ s₀ s) (n : Nat) (i : Nat) (g : Noz → Noz) (h_noz : μ.noz = true) :
    Frame μ s₀ (State.modNoz s n i g) := by
  delta State.modNoz
  repeat' first
    | with_reducible assumption
    | fail_if_no_progress with_reducible refine Frame.upd ?_

theorem Frame.mapNoz (h : Frame μ s₀ s) (g : Noz → Noz) (h_noz : μ.noz = true) : Frame μ s₀ (State.mapNoz s g) := by
  delta State.mapNoz
  exact Frame.upd h (wnoz := .inr (Sparse.wf_map_filter g {} s.noz))

theorem Frame.showUsage (h : Frame μ s₀ s) (n : Nat) :
    Frame μ s₀ (State.showUsage s n) := by
  delta State.showUsage
  repeat' first
    | with_reducible assumption
    | with_reducible apply Frame.setF
    | (try lift_lets -underBinder); intro x; refine Frame.cut (x := x) ?_ ?_ <;> [subst x; (clear_value x; intro _)]
    | (try lift_lets -underBinder); intro x; first | subst x | skip

theorem Frame.addUse (h : Frame μ s₀ s) (n : Nat) (k : Nat) (h_ports : μ.ports = true) :
    Frame μ s₀ (State.addUse s n k) := by
  delta State.addUse
  repeat' first
    | with_reducible assumption
    | with_reducible apply Frame.modPort
    | with_reducible apply Frame.showUsage
    | (try lift_lets -underBinder); intro x; refine Frame.cut (x := x) ?_ ?_ <;> [subst x; (clear_value x; intro _)]
    | (try lift_lets -underBinder); intro x; first | subst x | skip
    | fail_if_no_progress with_reducible refine Frame.upd ?_

theorem Frame.usageWrite (h : Frame μ s₀ s) (n : Nat) (h_health : μ.health = true) (h_ports : μ.ports = true) (h_flt : μ.flt = true) :
    Frame μ s₀ (State.usageWrite s n) := by
  delta State.usageWrite
  repeat' first
    | with_reducible assumption
    | with_reducible refine Frame.emit ?_ _ (.inr rfl)
    | with_reducible apply Frame.modPort
    | with_reducible apply Frame.raiseLane
    | with_reducible apply Frame.setF
    | with_reducible refine Frame.ite ?_ ?_
    | (try lift_lets -underBinder); intro x; refine Frame.cut (x := x) ?_ ?_ <;> [subst x; (clear_value x; intro _)]
    | (try lift_lets -underBinder); intro x; first | subst x | skip
    | fail_if_no_progress with_reducible refine Frame.upd ?_

theorem Frame.logicOff (h : Frame μ s₀ s) (n : Nat) (h_ports : μ.ports = true) :
    Frame μ s₀ (State.logicOff s n) := by
  delta State.logicOff
  repeat' first
    | with_reducible assumption
    | with_reducible apply Frame.modPort
    | with_reducible apply Frame.setF
    | (try lift_lets -underBinder); intro x; refine Frame.cut (x := x) ?_ ?_ <;> [subst x; (clear_value x; intro _)]
    | (try lift_lets -underBinder); intro x; first | subst x | skip
    | fail_if_no_progress with_reducible refine Frame.upd ?_

theorem Frame.fuseOpen (h : Frame μ s₀ s) (n : Nat) (h_ports : μ.ports = true) :
    Frame μ s₀ (State.fuseOpen s n) := by
  delta State.fuseOpen
  repeat' first
    | with_reducible assumption
    | with_reducible apply Frame.modPort
    | with_reducible apply Frame.setF
    | (try lift_lets -underBinder); intro x; refine Frame.cut (x := x) ?_ ?_ <;> [subst x; (clear_value x; intro _)]
    | (try lift_lets -underBinder); intro x; first | subst x | skip
    | fail_if_no_progress with_reducible refine Frame.upd ?_

theorem Frame.removePower (h : Frame μ s₀ s) (n : Nat) (h_health : μ.health = true) (h_ports : μ.ports = true) (h_flt : μ.flt = true) :
    Frame μ s₀ (State.removePower s n) := by
  delta State.removePower
  repeat' first
    | with_reducible assumption
    | with_reducible apply Frame.fuseOpen
    | with_reducible apply Frame.logicOff
    | with_reducible apply Frame.modPort
    | with_reducible apply Frame.usageWrite
    | with_reducible refine Frame.ite ?_ ?_
    | (try lift_lets -underBinder); intro x; refine Frame.cut (x := x) ?_ ?_ <;> [subst x; (clear_value x; intro _)]
    | (try lift_lets -underBinder); intro x; first | subst x | skip
    | fail_if_no_progress with_reducible refine Frame.upd ?_

theorem Frame.removeVpp (h : Frame μ s₀ s) (n : Nat) (h_health : μ.health = true) (h_ports : μ.ports = true) (h_flt : μ.flt = true) :
    Frame μ s₀ (State.removeVpp s n) := by
  delta State.removeVpp
  repeat' first
    | with_reducible assumption
    | with_reducible apply Frame.fuseOpen
    | with_reducible apply Frame.modPort
    | with_reducible apply Frame.usageWrite
    | with_reducible refine Frame.ite ?_ ?_
    | (try lift_lets -underBinder); intro x; refine Frame.cut (x := x) ?_ ?_ <;> [subst x; (clear_value x; intro _)]
    | (try lift_lets -underBinder); intro x; first | subst x | skip
    | fail_if_no_progress with_reducible refine Frame.upd ?_

theorem Frame.tryLogicOff (h : Frame μ s₀ s) (n : Nat) (h_ports : μ.ports = true) :
    Frame μ s₀ (State.tryLogicOff s n) := by
  delta State.tryLogicOff
  repeat' first
    | with_reducible assumption
    | with_reducible apply Frame.logicOff
    | with_reducible apply Frame.modPort
    | with_reducible refine Frame.ite ?_ ?_
    | (try lift_lets -underBinder); intro x; refine Frame.cut (x := x) ?_ ?_ <;> [subst x; (clear_value x; intro _)]
    | (try lift_lets -underBinder); intro x; first | subst x | skip
    | split
    | fail_if_no_progress with_reducible refine Frame.upd ?_

theorem Frame.askSwap (h : Frame μ s₀ s) (n : Nat) (h_wins : μ.wins = true) :
    Frame μ s₀ (State.askSwap s n) := by
  delta State.askSwap
  repeat' first
    | with_reducible assumption
    | with_reducible refine Frame.ite ?_ ?_
    | (try lift_lets -underBinder); intro x; refine Frame.cut (x := x) ?_ ?_ <;> [subst x; (clear_value x; intro _)]
    | (try lift_lets -underBinder); intro x; first | subst x | skip
    | split
    | fail_if_no_progress with_reducible refine Frame.upd ?_

theorem Frame.afterFail (h : Frame μ s₀ s) (n : Nat) (h_wins : μ.wins = true) (h_tileH : μ.tileH = true) (h_health : μ.health = true) (h_flt : μ.flt = true) :
    Frame μ s₀ (State.afterFail s n) := by
  delta State.afterFail
  repeat' first
    | with_reducible assumption
    | with_reducible apply Frame.askSwap
    | with_reducible apply Frame.modTh
    | with_reducible apply Frame.raise
    | with_reducible refine Frame.ite ?_ ?_
    | (try lift_lets -underBinder); intro x; refine Frame.cut (x := x) ?_ ?_ <;> [subst x; (clear_value x; intro _)]
    | (try lift_lets -underBinder); intro x; first | subst x | skip
    | fail_if_no_progress with_reducible refine Frame.upd ?_

theorem Frame.failTile (h : Frame μ s₀ s) (n : Nat) (cause : Nat) (h_wins : μ.wins = true) (h_tileH : μ.tileH = true) (h_health : μ.health = true) (h_ports : μ.ports = true) (h_flt : μ.flt = true) :
    Frame μ s₀ (State.failTile s n cause) := by
  delta State.failTile
  repeat' first
    | with_reducible assumption
    | with_reducible apply Frame.afterFail
    | with_reducible apply Frame.fuseOpen
    | with_reducible apply Frame.raiseLane
    | with_reducible apply Frame.setF
    | with_reducible refine Frame.ite ?_ ?_
    | (try lift_lets -underBinder); intro x; refine Frame.cut (x := x) ?_ ?_ <;> [subst x; (clear_value x; intro _)]
    | (try lift_lets -underBinder); intro x; first | subst x | skip

theorem Frame.absentTile (h : Frame μ s₀ s) (n : Nat) (h_health : μ.health = true) (h_ports : μ.ports = true) (h_flt : μ.flt = true) :
    Frame μ s₀ (State.absentTile s n) := by
  delta State.absentTile
  repeat' first
    | with_reducible assumption
    | with_reducible apply Frame.fuseOpen
    | with_reducible apply Frame.logicOff
    | with_reducible apply Frame.raiseLane

theorem Frame.loadTrims (h : Frame μ s₀ s) (n : Nat) (useId : Bool) (h_noz : μ.noz = true) :
    Frame μ s₀ (State.loadTrims s n useId) := by
  delta State.loadTrims
  repeat' first
    | with_reducible assumption
    | with_reducible apply Frame.modNoz
    | with_reducible refine Frame.ite ?_ ?_
    | with_reducible refine Frame.foldl ?_ ?_
    | (try lift_lets -underBinder); intro x; refine Frame.cut (x := x) ?_ ?_ <;> [subst x; (clear_value x; intro _)]
    | (try lift_lets -underBinder); intro x; first | subst x | skip
    | fail_if_no_progress with_reducible refine Frame.upd ?_

theorem Frame.choosePath (h : Frame μ s₀ s) (n : Nat) (h_wins : μ.wins = true) (h_noz : μ.noz = true) (h_tileH : μ.tileH = true) (h_health : μ.health = true) (h_ports : μ.ports = true) (h_flt : μ.flt = true) :
    Frame μ s₀ (State.choosePath s n) := by
  delta State.choosePath
  repeat' first
    | with_reducible assumption
    | with_reducible apply Frame.failTile
    | with_reducible apply Frame.loadTrims
    | with_reducible apply Frame.modPort
    | with_reducible apply Frame.raiseLane
    | with_reducible apply Frame.setF
    | with_reducible apply Frame.setFields
    | with_reducible refine Frame.ite ?_ ?_
    | (try lift_lets -underBinder); intro x; refine Frame.cut (x := x) ?_ ?_ <;> [subst x; (clear_value x; intro _)]
    | (try lift_lets -underBinder); intro x; first | subst x | skip
    | split
    | fail_if_no_progress dsimp only
    | fail_if_no_progress with_reducible refine Frame.upd ?_

theorem Frame.hmError {c} (h : Frame μ s₀ s) {n : Nat} {op : Nat} (e : State.hmError s n op = some c) (h_ports : μ.ports = true) :
    Frame μ s₀ c := by
  delta State.hmError at e
  try dsimp only at e
  repeat' first
    | contradiction
    | (injection e with e; subst e)
    | split at e
    | with_reducible assumption
    | with_reducible apply Frame.modPort
    | with_reducible refine Frame.ite ?_ ?_
    | with_reducible refine Frame.foldl ?_ ?_
    | intro _
    | split
    | fail_if_no_progress with_reducible refine Frame.upd ?_

theorem Frame.hmEnd (h : Frame μ s₀ s) (n : Nat) (h_ports : μ.ports = true) :
    Frame μ s₀ (State.hmEnd s n) := by
  delta State.hmEnd
  repeat' first
    | with_reducible assumption
    | with_reducible apply Frame.modPort
    | with_reducible apply Frame.tryLogicOff
    | (try lift_lets -underBinder); intro x; refine Frame.cut (x := x) ?_ ?_ <;> [subst x; (clear_value x; intro _)]
    | (try lift_lets -underBinder); intro x; first | subst x | skip
    | fail_if_no_progress with_reducible refine Frame.upd ?_

/-! ### Machine/HealthOps.lean -/

theorem Frame.setBg (h : Frame μ s₀ s) (n : Nat) (i : Nat) (e : Nat) (h_noz : μ.noz = true) :
    Frame μ s₀ (State.setBg s n i e) := by
  delta State.setBg
  repeat' first
    | with_reducible assumption
    | with_reducible apply Frame.modNoz
    | with_reducible apply Frame.setF
    | with_reducible refine Frame.ite ?_ ?_
    | (try lift_lets -underBinder); intro x; refine Frame.cut (x := x) ?_ ?_ <;> [subst x; (clear_value x; intro _)]
    | (try lift_lets -underBinder); intro x; first | subst x | skip
    | fail_if_no_progress with_reducible refine Frame.upd ?_

theorem Frame.classify (h : Frame μ s₀ s) (n : Nat) (i : Nat) (cls : Nat) (h_noz : μ.noz = true) (h_health : μ.health = true) (h_flt : μ.flt = true) :
    Frame μ s₀ (State.classify s n i cls) := by
  delta State.classify
  repeat' first
    | with_reducible assumption
    | with_reducible apply Frame.addF
    | with_reducible apply Frame.raiseLane
    | with_reducible apply Frame.setBg
    | with_reducible refine Frame.ite ?_ ?_
    | (try lift_lets -underBinder); intro x; refine Frame.cut (x := x) ?_ ?_ <;> [subst x; (clear_value x; intro _)]
    | (try lift_lets -underBinder); intro x; first | subst x | skip

theorem Frame.openReport (h : Frame μ s₀ s) (n : Nat) (i : Nat) (h_noz : μ.noz = true) (h_health : μ.health = true) (h_flt : μ.flt = true) :
    Frame μ s₀ (State.openReport s n i) := by
  delta State.openReport
  repeat' first
    | with_reducible assumption
    | with_reducible apply Frame.classify
    | with_reducible refine Frame.ite ?_ ?_

theorem Frame.moveColumns (h : Frame μ s₀ s) (n : Nat) (h_tileH : μ.tileH = true) :
    Frame μ s₀ (State.moveColumns s n) := by
  delta State.moveColumns
  repeat' first
    | with_reducible assumption
    | with_reducible apply Frame.modTh
    | with_reducible apply Frame.setFb
    | with_reducible refine Frame.ite ?_ ?_
    | with_reducible refine Frame.foldl ?_ ?_
    | (try lift_lets -underBinder); intro x; refine Frame.cut (x := x) ?_ ?_ <;> [subst x; (clear_value x; intro _)]
    | (try lift_lets -underBinder); intro x; first | subst x | skip
    | fail_if_no_progress with_reducible refine Frame.upd ?_

theorem Frame.showHealth (h : Frame μ s₀ s) (n : Nat) (h_health : μ.health = true) (h_flt : μ.flt = true) :
    Frame μ s₀ (State.showHealth s n) := by
  delta State.showHealth
  repeat' first
    | with_reducible assumption
    | with_reducible apply Frame.raiseLane
    | with_reducible apply Frame.setFields
    | with_reducible refine Frame.ite ?_ ?_
    | (try lift_lets -underBinder); intro x; refine Frame.cut (x := x) ?_ ?_ <;> [subst x; (clear_value x; intro _)]
    | (try lift_lets -underBinder); intro x; first | subst x | skip
    | split

theorem Frame.healthSwap (h : Frame μ s₀ s) (n : Nat) (h_noz : μ.noz = true) (h_tileH : μ.tileH = true) (h_health : μ.health = true) (h_flt : μ.flt = true) :
    Frame μ s₀ (State.healthSwap s n) := by
  delta State.healthSwap
  repeat' first
    | with_reducible assumption
    | with_reducible apply Frame.modNoz
    | with_reducible apply Frame.modTh
    | with_reducible apply Frame.moveColumns
    | with_reducible apply Frame.setF
    | with_reducible apply Frame.showHealth
    | with_reducible refine Frame.ite ?_ ?_
    | with_reducible refine Frame.foldl ?_ ?_
    | (try lift_lets -underBinder); intro x; refine Frame.cut (x := x) ?_ ?_ <;> [subst x; (clear_value x; intro _)]
    | (try lift_lets -underBinder); intro x; first | subst x | skip
    | split
    | fail_if_no_progress dsimp only
    | fail_if_no_progress with_reducible refine Frame.upd ?_

theorem Frame.scanComplete (h : Frame μ s₀ s) (n : Nat) (h_noz : μ.noz = true) (h_tileH : μ.tileH = true) (h_health : μ.health = true) (h_flt : μ.flt = true) :
    Frame μ s₀ (State.scanComplete s n) := by
  delta State.scanComplete
  repeat' first
    | with_reducible assumption
    | with_reducible apply Frame.classify
    | with_reducible apply Frame.healthSwap
    | with_reducible apply Frame.incF
    | with_reducible apply Frame.modTh
    | with_reducible apply Frame.setF
    | with_reducible refine Frame.ite ?_ ?_
    | with_reducible refine Frame.foldl ?_ ?_
    | (try lift_lets -underBinder); intro x; refine Frame.cut (x := x) ?_ ?_ <;> [subst x; (clear_value x; intro _)]
    | (try lift_lets -underBinder); intro x; first | subst x | skip
    | fail_if_no_progress with_reducible refine Frame.upd ?_

theorem Frame.scanNext (h : Frame μ s₀ s) (n : Nat) (i : Nat) (h_noz : μ.noz = true) (h_tileH : μ.tileH = true) (h_health : μ.health = true) (h_flt : μ.flt = true) :
    Frame μ s₀ (State.scanNext s n i) := by
  delta State.scanNext
  repeat' first
    | with_reducible assumption
    | with_reducible apply Frame.scanComplete
    | with_reducible apply Frame.setF
    | with_reducible refine Frame.ite ?_ ?_

theorem Frame.judge (h : Frame μ s₀ s) (n : Nat) (i : Nat) (r1 : Option Nat) (r2 : Option Nat) (h_noz : μ.noz = true) (h_tileH : μ.tileH = true) (h_health : μ.health = true) (h_flt : μ.flt = true) :
    Frame μ s₀ (State.judge s n i r1 r2) := by
  delta State.judge
  repeat' first
    | with_reducible assumption
    | with_reducible apply Frame.addF
    | with_reducible apply Frame.classify
    | with_reducible apply Frame.count
    | with_reducible apply Frame.modNoz
    | with_reducible apply Frame.modTh
    | with_reducible refine Frame.ite ?_ ?_
    | (try lift_lets -underBinder); intro x; refine Frame.cut (x := x) ?_ ?_ <;> [subst x; (clear_value x; intro _)]
    | (try lift_lets -underBinder); intro x; first | subst x | skip
    | split
    | fail_if_no_progress dsimp only
    | fail_if_no_progress with_reducible refine Frame.upd ?_

theorem Frame.setUnprint (h : Frame μ s₀ s) (n : Nat) :
    Frame μ s₀ (State.setUnprint s n) := by
  delta State.setUnprint
  repeat' first
    | with_reducible assumption
    | with_reducible apply Frame.setFields
    | with_reducible refine Frame.ite ?_ ?_

theorem Frame.bypassTile (h : Frame μ s₀ s) (n : Nat) (h_tileH : μ.tileH = true) (h_health : μ.health = true) (h_ports : μ.ports = true) (h_flt : μ.flt = true) :
    Frame μ s₀ (State.bypassTile s n) := by
  delta State.bypassTile
  repeat' first
    | with_reducible assumption
    | with_reducible apply Frame.fuseOpen
    | with_reducible apply Frame.modTh
    | with_reducible apply Frame.raiseLane
    | with_reducible apply Frame.setF
    | with_reducible apply Frame.setFields
    | with_reducible apply Frame.setUnprint
    | (try lift_lets -underBinder); intro x; refine Frame.cut (x := x) ?_ ?_ <;> [subst x; (clear_value x; intro _)]
    | (try lift_lets -underBinder); intro x; first | subst x | skip
    | split
    | fail_if_no_progress dsimp only
    | fail_if_no_progress with_reducible refine Frame.upd ?_

theorem Frame.setBit (h : Frame μ s₀ s) (fd : Field) (k : Nat) (b : Bool) :
    Frame μ s₀ (State.setBit s fd k b) := by
  delta State.setBit
  repeat' first
    | with_reducible assumption
    | with_reducible apply Frame.setF
    | with_reducible refine Frame.ite ?_ ?_

theorem Frame.connect (h : Frame μ s₀ s) (n : Nat) (e : Nat) (h_tileH : μ.tileH = true) :
    Frame μ s₀ (State.connect s n e) := by
  delta State.connect
  repeat' first
    | with_reducible assumption
    | with_reducible apply Frame.modTh
    | with_reducible apply Frame.setBit
    | with_reducible apply Frame.setFields
    | with_reducible refine Frame.ite ?_ ?_
    | (try lift_lets -underBinder); intro x; refine Frame.cut (x := x) ?_ ?_ <;> [subst x; (clear_value x; intro _)]
    | (try lift_lets -underBinder); intro x; first | subst x | skip
    | split
    | fail_if_no_progress dsimp only
    | fail_if_no_progress with_reducible refine Frame.upd ?_

theorem Frame.failEngine (h : Frame μ s₀ s) (e : Nat) (h_tileH : μ.tileH = true) (h_health : μ.health = true) (h_flt : μ.flt = true) :
    Frame μ s₀ (State.failEngine s e) := by
  delta State.failEngine
  repeat' first
    | with_reducible assumption
    | with_reducible apply Frame.modTh
    | with_reducible apply Frame.raiseLane
    | with_reducible apply Frame.setBit
    | with_reducible apply Frame.setF
    | with_reducible refine Frame.ite ?_ ?_
    | (try lift_lets -underBinder); intro x; refine Frame.cut (x := x) ?_ ?_ <;> [subst x; (clear_value x; intro _)]
    | (try lift_lets -underBinder); intro x; first | subst x | skip
    | split
    | fail_if_no_progress dsimp only
    | fail_if_no_progress with_reducible refine Frame.upd ?_

theorem Frame.serveSpares (h : Frame μ s₀ s) (tiles : List Nat) (h_tileH : μ.tileH = true) (h_health : μ.health = true) (h_flt : μ.flt = true) :
    Frame μ s₀ (State.serveSpares s tiles) := by
  delta State.serveSpares
  repeat' first
    | with_reducible assumption
    | with_reducible apply Frame.modTh
    | with_reducible apply Frame.raiseLane
    | with_reducible refine Frame.ite ?_ ?_
    | with_reducible refine Frame.foldl ?_ ?_
    | (try lift_lets -underBinder); intro x; refine Frame.cut (x := x) ?_ ?_ <;> [subst x; (clear_value x; intro _)]
    | (try lift_lets -underBinder); intro x; first | subst x | skip
    | split
    | fail_if_no_progress dsimp only
    | fail_if_no_progress with_reducible refine Frame.upd ?_

theorem Frame.serveRolls (h : Frame μ s₀ s) (tiles : List Nat) (h_tileH : μ.tileH = true) :
    Frame μ s₀ (State.serveRolls s tiles) := by
  delta State.serveRolls
  repeat' first
    | with_reducible assumption
    | with_reducible apply Frame.modTh
    | with_reducible apply Frame.setF
    | with_reducible refine Frame.ite ?_ ?_
    | with_reducible refine Frame.foldl ?_ ?_
    | (try lift_lets -underBinder); intro x; refine Frame.cut (x := x) ?_ ?_ <;> [subst x; (clear_value x; intro _)]
    | (try lift_lets -underBinder); intro x; first | subst x | skip
    | split
    | fail_if_no_progress with_reducible refine Frame.upd ?_

/-! ### Machine/PowerOps.lean -/

theorem Frame.modRail (h : Frame μ s₀ s) (q : Nat) (g : Rail → Rail) (h_pwr : μ.pwr = true) :
    Frame μ s₀ (State.modRail s q g) := by
  delta State.modRail
  repeat' first
    | with_reducible assumption
    | fail_if_no_progress with_reducible refine Frame.upd ?_

theorem Frame.rampRail (h : Frame μ s₀ s) (q : Nat) (mv : Nat) (h_pwr : μ.pwr = true) :
    Frame μ s₀ (State.rampRail s q mv) := by
  delta State.rampRail
  repeat' first
    | with_reducible assumption
    | with_reducible apply Frame.modRail
    | with_reducible apply Frame.setF
    | with_reducible refine Frame.ite ?_ ?_
    | (try lift_lets -underBinder); intro x; refine Frame.cut (x := x) ?_ ?_ <;> [subst x; (clear_value x; intro _)]
    | (try lift_lets -underBinder); intro x; first | subst x | skip
    | fail_if_no_progress with_reducible refine Frame.upd ?_

theorem Frame.startRails (h : Frame μ s₀ s) (h_pwr : μ.pwr = true) :
    Frame μ s₀ (State.startRails s) := by
  delta State.startRails
  repeat' first
    | with_reducible assumption
    | with_reducible apply Frame.modRail
    | with_reducible apply Frame.rampRail
    | with_reducible refine Frame.ite ?_ ?_
    | with_reducible refine Frame.foldl ?_ ?_
    | (try lift_lets -underBinder); intro x; refine Frame.cut (x := x) ?_ ?_ <;> [subst x; (clear_value x; intro _)]
    | (try lift_lets -underBinder); intro x; first | subst x | skip
    | split
    | fail_if_no_progress with_reducible refine Frame.upd ?_

theorem Frame.railsDown (h : Frame μ s₀ s) (h_pwr : μ.pwr = true) :
    Frame μ s₀ (State.railsDown s) := by
  delta State.railsDown
  repeat' first
    | with_reducible assumption
    | with_reducible apply Frame.rampRail
    | with_reducible refine Frame.ite ?_ ?_
    | with_reducible refine Frame.foldl ?_ ?_
    | (try lift_lets -underBinder); intro x; refine Frame.cut (x := x) ?_ ?_ <;> [subst x; (clear_value x; intro _)]
    | (try lift_lets -underBinder); intro x; first | subst x | skip

theorem Frame.railsOff (h : Frame μ s₀ s) (h_pwr : μ.pwr = true) :
    Frame μ s₀ (State.railsOff s) := by
  delta State.railsOff
  repeat' first
    | with_reducible assumption
    | with_reducible apply Frame.modRail
    | with_reducible apply Frame.setFields
    | with_reducible refine Frame.foldl ?_ ?_
    | (try lift_lets -underBinder); intro x; refine Frame.cut (x := x) ?_ ?_ <;> [subst x; (clear_value x; intro _)]
    | (try lift_lets -underBinder); intro x; first | subst x | skip

theorem Frame.updHoldup (h : Frame μ s₀ s) :
    Frame μ s₀ (State.updHoldup s) := by
  delta State.updHoldup
  repeat' first
    | with_reducible assumption
    | with_reducible apply Frame.setFb
    | (try lift_lets -underBinder); intro x; refine Frame.cut (x := x) ?_ ?_ <;> [subst x; (clear_value x; intro _)]
    | (try lift_lets -underBinder); intro x; first | subst x | skip

theorem Frame.setAcct (h : Frame μ s₀ s) (uj : Int) (h_pwr : μ.pwr = true) :
    Frame μ s₀ (State.setAcct s uj) := by
  delta State.setAcct
  repeat' first
    | with_reducible assumption
    | with_reducible apply Frame.setFs
    | fail_if_no_progress with_reducible refine Frame.upd ?_

theorem Frame.setSrc (h : Frame μ s₀ s) (st : Nat) :
    Frame μ s₀ (State.setSrc s st) := by
  delta State.setSrc
  repeat' first
    | with_reducible assumption
    | with_reducible apply Frame.setF

theorem Frame.mainsGone (h : Frame μ s₀ s) (h_pwr : μ.pwr = true) :
    Frame μ s₀ (State.mainsGone s) := by
  delta State.mainsGone
  repeat' first
    | with_reducible assumption
    | with_reducible apply Frame.setFields
    | fail_if_no_progress with_reducible refine Frame.upd ?_

/-! ### Machine/MotorOps.lean -/

theorem Frame.modAxis (h : Frame μ s₀ s) (a : Nat) (g : Axis → Axis) (h_mot : μ.mot = true) :
    Frame μ s₀ (State.modAxis s a g) := by
  delta State.modAxis
  repeat' first
    | with_reducible assumption
    | fail_if_no_progress with_reducible refine Frame.upd ?_

theorem Frame.raiseMot (h : Frame μ s₀ s) (a : Nat) (k : Kind) (addr : Nat) (h_health : μ.health = true) (h_flt : μ.flt = true) :
    Frame μ s₀ (State.raiseMot s a k addr) := by
  delta State.raiseMot
  repeat' first
    | with_reducible assumption
    | with_reducible apply Frame.raiseAs

theorem Frame.axisOff (h : Frame μ s₀ s) (a : Nat) (h_mot : μ.mot = true) :
    Frame μ s₀ (State.axisOff s a) := by
  delta State.axisOff
  repeat' first
    | with_reducible assumption
    | with_reducible apply Frame.modAxis
    | with_reducible apply Frame.setFields
    | (try lift_lets -underBinder); intro x; refine Frame.cut (x := x) ?_ ?_ <;> [subst x; (clear_value x; intro _)]
    | (try lift_lets -underBinder); intro x; first | subst x | skip
    | fail_if_no_progress with_reducible refine Frame.upd ?_

theorem Frame.axisTrip (h : Frame μ s₀ s) (a : Nat) (flag : Field) (k : Kind) (addr : Nat) (h_health : μ.health = true) (h_mot : μ.mot = true) (h_flt : μ.flt = true) :
    Frame μ s₀ (State.axisTrip s a flag k addr) := by
  delta State.axisTrip
  repeat' first
    | with_reducible assumption
    | with_reducible apply Frame.axisOff
    | with_reducible apply Frame.modAxis
    | with_reducible apply Frame.raiseMot
    | with_reducible apply Frame.setF
    | (try lift_lets -underBinder); intro x; refine Frame.cut (x := x) ?_ ?_ <;> [subst x; (clear_value x; intro _)]
    | (try lift_lets -underBinder); intro x; first | subst x | skip
    | fail_if_no_progress with_reducible refine Frame.upd ?_

theorem Frame.startAxis (h : Frame μ s₀ s) (a : Nat) (h_mot : μ.mot = true) :
    Frame μ s₀ (State.startAxis s a) := by
  delta State.startAxis
  repeat' first
    | with_reducible assumption
    | with_reducible apply Frame.modAxis
    | with_reducible apply Frame.setF
    | with_reducible refine Frame.ite ?_ ?_
    | (try lift_lets -underBinder); intro x; refine Frame.cut (x := x) ?_ ?_ <;> [subst x; (clear_value x; intro _)]
    | (try lift_lets -underBinder); intro x; first | subst x | skip
    | split
    | fail_if_no_progress with_reducible refine Frame.upd ?_

theorem Frame.stopAxis (h : Frame μ s₀ s) (a : Nat) (h_mot : μ.mot = true) :
    Frame μ s₀ (State.stopAxis s a) := by
  delta State.stopAxis
  repeat' first
    | with_reducible assumption
    | with_reducible apply Frame.axisOff
    | with_reducible apply Frame.modAxis
    | with_reducible apply Frame.setF
    | (try lift_lets -underBinder); intro x; refine Frame.cut (x := x) ?_ ?_ <;> [subst x; (clear_value x; intro _)]
    | (try lift_lets -underBinder); intro x; first | subst x | skip
    | split
    | fail_if_no_progress dsimp only
    | fail_if_no_progress with_reducible refine Frame.upd ?_

theorem Frame.accelerate (h : Frame μ s₀ s) (a : Nat) (h_mot : μ.mot = true) :
    Frame μ s₀ (State.accelerate s a) := by
  delta State.accelerate
  repeat' first
    | with_reducible assumption
    | with_reducible apply Frame.modAxis
    | with_reducible refine Frame.ite ?_ ?_
    | (try lift_lets -underBinder); intro x; refine Frame.cut (x := x) ?_ ?_ <;> [subst x; (clear_value x; intro _)]
    | (try lift_lets -underBinder); intro x; first | subst x | skip
    | fail_if_no_progress with_reducible refine Frame.upd ?_

theorem Frame.motorSync (h : Frame μ s₀ s) (a : Nat) (h_mot : μ.mot = true) :
    Frame μ s₀ (State.motorSync s a) := by
  delta State.motorSync
  repeat' first
    | with_reducible assumption
    | with_reducible apply Frame.modAxis
    | with_reducible refine Frame.ite ?_ ?_
    | (try lift_lets -underBinder); intro x; refine Frame.cut (x := x) ?_ ?_ <;> [subst x; (clear_value x; intro _)]
    | (try lift_lets -underBinder); intro x; first | subst x | skip
    | fail_if_no_progress with_reducible refine Frame.upd ?_

theorem Frame.writeMotCmd (h : Frame μ s₀ s) (a : Nat) (v : Word) (h_health : μ.health = true) (h_mot : μ.mot = true) (h_flt : μ.flt = true) :
    Frame μ s₀ (State.writeMotCmd s a v) := by
  delta State.writeMotCmd
  repeat' first
    | with_reducible assumption
    | with_reducible apply Frame.modAxis
    | with_reducible apply Frame.raiseMot
    | with_reducible apply Frame.setReg
    | with_reducible apply Frame.startAxis
    | with_reducible apply Frame.stopAxis
    | with_reducible refine Frame.ite ?_ ?_
    | (try lift_lets -underBinder); intro x; refine Frame.cut (x := x) ?_ ?_ <;> [subst x; (clear_value x; intro _)]
    | (try lift_lets -underBinder); intro x; first | subst x | skip
    | fail_if_no_progress with_reducible refine Frame.upd ?_

theorem Frame.motorsDusk (h : Frame μ s₀ s) (h_mot : μ.mot = true) :
    Frame μ s₀ (State.motorsDusk s) := by
  delta State.motorsDusk
  repeat' first
    | with_reducible assumption
    | with_reducible apply Frame.modAxis
    | with_reducible apply Frame.startAxis
    | with_reducible apply Frame.stopAxis
    | with_reducible refine Frame.ite ?_ ?_
    | with_reducible refine Frame.foldl ?_ ?_
    | (try lift_lets -underBinder); intro x; refine Frame.cut (x := x) ?_ ?_ <;> [subst x; (clear_value x; intro _)]
    | (try lift_lets -underBinder); intro x; first | subst x | skip
    | split
    | fail_if_no_progress with_reducible refine Frame.upd ?_

theorem Frame.motorsOff (h : Frame μ s₀ s) (h_mot : μ.mot = true) :
    Frame μ s₀ (State.motorsOff s) := by
  delta State.motorsOff
  repeat' first
    | with_reducible assumption
    | with_reducible apply Frame.axisOff
    | with_reducible apply Frame.modAxis
    | with_reducible refine Frame.foldl ?_ ?_
    | (try lift_lets -underBinder); intro x; refine Frame.cut (x := x) ?_ ?_ <;> [subst x; (clear_value x; intro _)]
    | (try lift_lets -underBinder); intro x; first | subst x | skip
    | fail_if_no_progress with_reducible refine Frame.upd ?_

theorem Frame.dawnMotor (h : Frame μ s₀ s) (a : Nat) (gates : List Nat) (offU : Int) (offV : Int) (h_health : μ.health = true) (h_mot : μ.mot = true) (h_flt : μ.flt = true) :
    Frame μ s₀ (State.dawnMotor s a gates offU offV) := by
  delta State.dawnMotor
  repeat' first
    | with_reducible assumption
    | with_reducible apply Frame.modAxis
    | with_reducible apply Frame.raiseMot
    | with_reducible apply Frame.setF
    | with_reducible refine Frame.ite ?_ ?_
    | with_reducible refine Frame.foldl ?_ ?_
    | (try lift_lets -underBinder); intro x; refine Frame.cut (x := x) ?_ ?_ <;> [subst x; (clear_value x; intro _)]
    | (try lift_lets -underBinder); intro x; first | subst x | skip
    | fail_if_no_progress with_reducible refine Frame.upd ?_

theorem Frame.phaseOrder (h : Frame μ s₀ s) (n : Nat) (d : Int) (h_health : μ.health = true) (h_mot : μ.mot = true) (h_flt : μ.flt = true) :
    Frame μ s₀ (State.phaseOrder s n d) := by
  delta State.phaseOrder
  repeat' first
    | with_reducible assumption
    | with_reducible apply Frame.axisTrip
    | with_reducible apply Frame.modAxis
    | with_reducible refine Frame.ite ?_ ?_
    | with_reducible refine Frame.foldl ?_ ?_
    | (try lift_lets -underBinder); intro x; refine Frame.cut (x := x) ?_ ?_ <;> [subst x; (clear_value x; intro _)]
    | (try lift_lets -underBinder); intro x; first | subst x | skip
    | fail_if_no_progress with_reducible refine Frame.upd ?_

/-! ### Machine/PulseOps.lean -/

theorem Frame.takeBin (h : Frame μ s₀ s) (n : Nat) (h_tileH : μ.tileH = true) :
    Frame μ s₀ (State.takeBin s n) := by
  delta State.takeBin
  repeat' first
    | with_reducible assumption
    | with_reducible apply Frame.modTh
    | with_reducible apply Frame.setF
    | with_reducible refine Frame.ite ?_ ?_
    | (try lift_lets -underBinder); intro x; refine Frame.cut (x := x) ?_ ?_ <;> [subst x; (clear_value x; intro _)]
    | (try lift_lets -underBinder); intro x; first | subst x | skip
    | split
    | fail_if_no_progress with_reducible refine Frame.upd ?_

theorem Frame.senseVpp (h : Frame μ s₀ s) (n : Nat) (h_tileH : μ.tileH = true) (h_health : μ.health = true) (h_flt : μ.flt = true) :
    Frame μ s₀ (State.senseVpp s n).1 := by
  delta State.senseVpp
  repeat' first
    | with_reducible assumption
    | with_reducible apply Frame.modTh
    | with_reducible apply Frame.raiseLane
    | with_reducible apply Frame.setF
    | with_reducible refine Frame.ite ?_ ?_
    | with_reducible refine Frame.ite_fst ?_ ?_
    | (try lift_lets -underBinder); intro x; refine Frame.cut (x := x) ?_ ?_ <;> [subst x; (clear_value x; intro _)]
    | (try lift_lets -underBinder); intro x; first | subst x | skip
    | split
    | fail_if_no_progress with_reducible refine Frame.upd ?_

theorem Frame.senseVpp_eq {c} {v} (h : Frame μ s₀ s) {n : Nat} (e : State.senseVpp s n = (c, v)) (h_tileH : μ.tileH = true) (h_health : μ.health = true) (h_flt : μ.flt = true) :
    Frame μ s₀ c := by
  have k := Frame.senseVpp h n h_tileH h_health h_flt
  rwa [e] at k

theorem Frame.showEdrop (h : Frame μ s₀ s) (q : Nat) :
    Frame μ s₀ (State.showEdrop s q) := by
  delta State.showEdrop
  repeat' first
    | with_reducible assumption
    | with_reducible apply Frame.setF
    | with_reducible apply Frame.setFields
    | with_reducible refine Frame.ite ?_ ?_
    | with_reducible refine Frame.foldl ?_ ?_
    | (try lift_lets -underBinder); intro x; refine Frame.cut (x := x) ?_ ?_ <;> [subst x; (clear_value x; intro _)]
    | (try lift_lets -underBinder); intro x; first | subst x | skip

theorem Frame.planEnergies (h : Frame μ s₀ s) (tiles : List Nat) (h_tileH : μ.tileH = true) :
    Frame μ s₀ (State.planEnergies s tiles) := by
  delta State.planEnergies
  repeat' first
    | with_reducible assumption
    | with_reducible apply Frame.modTh
    | with_reducible apply Frame.setF
    | with_reducible apply Frame.showEdrop
    | with_reducible refine Frame.foldl ?_ ?_
    | (try lift_lets -underBinder); intro x; refine Frame.cut (x := x) ?_ ?_ <;> [subst x; (clear_value x; intro _)]
    | (try lift_lets -underBinder); intro x; first | subst x | skip
    | split
    | fail_if_no_progress dsimp only
    | fail_if_no_progress with_reducible refine Frame.upd ?_

theorem Frame.fixRanks (h : Frame μ s₀ s) (h_tileH : μ.tileH = true) :
    Frame μ s₀ (State.fixRanks s) := by
  delta State.fixRanks
  repeat' first
    | with_reducible assumption
    | with_reducible apply Frame.modTh
    | with_reducible apply Frame.setFields
    | with_reducible refine Frame.ite ?_ ?_
    | with_reducible refine Frame.foldl ?_ ?_
    | (try lift_lets -underBinder); intro x; refine Frame.cut (x := x) ?_ ?_ <;> [subst x; (clear_value x; intro _)]
    | (try lift_lets -underBinder); intro x; first | subst x | skip
    | fail_if_no_progress with_reducible refine Frame.upd ?_

theorem Frame.endPulseDoc (h : Frame μ s₀ s) (n : Nat) (h_tileH : μ.tileH = true) (h_health : μ.health = true) (h_flt : μ.flt = true) :
    Frame μ s₀ (State.endPulseDoc s n) := by
  delta State.endPulseDoc
  repeat' first
    | with_reducible assumption
    | with_reducible apply Frame.modTh
    | with_reducible apply Frame.raiseLane
    | with_reducible apply Frame.setF
    | with_reducible apply Frame.setFs
    | with_reducible refine Frame.ite ?_ ?_
    | (try lift_lets -underBinder); intro x; refine Frame.cut (x := x) ?_ ?_ <;> [subst x; (clear_value x; intro _)]
    | (try lift_lets -underBinder); intro x; first | subst x | skip
    | fail_if_no_progress with_reducible refine Frame.upd ?_

/-! ### Machine/CompOps.lean -/

/-- Bytes written to the form store keep its canonical form. -/
theorem Frame.putForm (h : Frame μ s₀ s) (a : Nat) (bs : List Nat) (h_form : μ.form = true) :
    Frame μ s₀ (State.putForm s a bs) :=
  h.setMem _ (.inl h_form) (.inr rfl) fun h1 h2 => ⟨Mem.wf_putBytes _ _ _ _ h1, h2⟩

theorem Frame.countForm (h : Frame μ s₀ s) (a : Nat) (n : Nat) :
    Frame μ s₀ (State.countForm s a n) := by
  delta State.countForm
  repeat' first
    | with_reducible assumption
    | with_reducible apply Frame.count
    | with_reducible refine Frame.ite ?_ ?_
    | with_reducible refine Frame.foldl ?_ ?_
    | (try lift_lets -underBinder); intro x; refine Frame.cut (x := x) ?_ ?_ <;> [subst x; (clear_value x; intro _)]
    | (try lift_lets -underBinder); intro x; first | subst x | skip

theorem Frame.modWin (h : Frame μ s₀ s) (w : Nat) (g : Win → Win) (h_wins : μ.wins = true) :
    Frame μ s₀ (State.modWin s w g) := by
  delta State.modWin
  repeat' first
    | with_reducible assumption
    | fail_if_no_progress with_reducible refine Frame.upd ?_

theorem Frame.modFire (h : Frame μ s₀ s) (n : Nat) (g : FireT → FireT) (h_fire : μ.fire = true) :
    Frame μ s₀ (State.modFire s n g) := by
  delta State.modFire
  repeat' first
    | with_reducible assumption
    | fail_if_no_progress with_reducible refine Frame.upd ?_

theorem Frame.modLane (h : Frame μ s₀ s) (e : Nat) (g : Lane → Lane) (h_lanes : μ.lanes = true) :
    Frame μ s₀ (State.modLane s e g) := by
  delta State.modLane
  repeat' first
    | with_reducible assumption
    | fail_if_no_progress with_reducible refine Frame.upd ?_

theorem Frame.showQueue (h : Frame μ s₀ s) (w : Nat) :
    Frame μ s₀ (State.showQueue s w) := by
  delta State.showQueue
  repeat' first
    | with_reducible assumption
    | with_reducible apply Frame.setFields
    | (try lift_lets -underBinder); intro x; refine Frame.cut (x := x) ?_ ?_ <;> [subst x; (clear_value x; intro _)]
    | (try lift_lets -underBinder); intro x; first | subst x | skip

theorem Frame.compose (h : Frame μ s₀ s) (b : List Nat) (dlen : Nat) (stream : Nat) (index : Nat) (h_wins : μ.wins = true) (h_health : μ.health = true) (h_comp : μ.comp = true) (h_flt : μ.flt = true) :
    Frame μ s₀ (State.compose s b dlen stream index).1 := by
  delta State.compose
  repeat' first
    | with_reducible assumption
    | with_reducible apply Frame.modWin
    | with_reducible apply Frame.raise
    | with_reducible apply Frame.setFields
    | with_reducible apply Frame.showQueue
    | with_reducible refine Frame.ite ?_ ?_
    | with_reducible refine Frame.ite_fst ?_ ?_
    | (try lift_lets -underBinder); intro x; refine Frame.cut (x := x) ?_ ?_ <;> [subst x; (clear_value x; intro _)]
    | (try lift_lets -underBinder); intro x; first | subst x | skip
    | split
    | fail_if_no_progress with_reducible refine Frame.upd ?_

theorem Frame.compose_eq {c} {v} (h : Frame μ s₀ s) {b : List Nat} {dlen : Nat} {stream : Nat} {index : Nat} (e : State.compose s b dlen stream index = (c, v)) (h_wins : μ.wins = true) (h_health : μ.health = true) (h_comp : μ.comp = true) (h_flt : μ.flt = true) :
    Frame μ s₀ c := by
  have k := Frame.compose h b dlen stream index h_wins h_health h_comp h_flt
  rwa [e] at k

theorem Frame.showComp (h : Frame μ s₀ s) :
    Frame μ s₀ (State.showComp s) := by
  delta State.showComp
  repeat' first
    | with_reducible assumption
    | with_reducible apply Frame.setFields

theorem Frame.modDoc (h : Frame μ s₀ s) (id : Nat) (g : RDoc → RDoc) (h_comp : μ.comp = true) :
    Frame μ s₀ (State.modDoc s id g) := by
  delta State.modDoc
  repeat' first
    | with_reducible assumption
    | with_reducible refine Frame.ite ?_ ?_
    | (try lift_lets -underBinder); intro x; refine Frame.cut (x := x) ?_ ?_ <;> [subst x; (clear_value x; intro _)]
    | (try lift_lets -underBinder); intro x; first | subst x | skip
    | fail_if_no_progress with_reducible refine Frame.upd ?_

theorem Frame.serialAdvance (h : Frame μ s₀ s) (k : Nat) (v : Nat) (h_health : μ.health = true) (h_flt : μ.flt = true) :
    Frame μ s₀ (State.serialAdvance s k v) := by
  delta State.serialAdvance
  repeat' first
    | with_reducible assumption
    | with_reducible apply Frame.raise
    | with_reducible apply Frame.setF
    | with_reducible refine Frame.ite ?_ ?_
    | (try lift_lets -underBinder); intro x; refine Frame.cut (x := x) ?_ ?_ <;> [subst x; (clear_value x; intro _)]
    | (try lift_lets -underBinder); intro x; first | subst x | skip

theorem Frame.releaseKept (h : Frame μ s₀ s) (h_dma : μ.dma = true) :
    Frame μ s₀ (State.releaseKept s) := by
  delta State.releaseKept
  repeat' first
    | with_reducible assumption
    | with_reducible refine Frame.ite ?_ ?_
    | (try lift_lets -underBinder); intro x; refine Frame.cut (x := x) ?_ ?_ <;> [subst x; (clear_value x; intro _)]
    | (try lift_lets -underBinder); intro x; first | subst x | skip
    | fail_if_no_progress with_reducible refine Frame.upd ?_

theorem Frame.writeLine (h : Frame μ s₀ s) (e : Nat) (j : Nat) (bs : List Nat) (h_lanes : μ.lanes = true) :
    Frame μ s₀ (State.writeLine s e j bs) := by
  delta State.writeLine
  repeat' first
    | with_reducible assumption
    | with_reducible apply Frame.addF
    | with_reducible apply Frame.modLane
    | with_reducible refine Frame.ite ?_ ?_
    | (try lift_lets -underBinder); intro x; refine Frame.cut (x := x) ?_ ?_ <;> [subst x; (clear_value x; intro _)]
    | (try lift_lets -underBinder); intro x; first | subst x | skip
    | fail_if_no_progress with_reducible refine Frame.upd ?_

theorem Frame.eventAll (h : Frame μ s₀ s) (x : CycleCtx) (l : Lane) (hh : History) (en : Bool) (m step : Nat) (acc : CycleAcc)
    (k : Nat) (h_noz : μ.noz = true) : Frame μ s₀ (State.eventAll x l hh en m step (s, acc) k).1 := by
  exact Frame.ite h (h.modNoz _ _ _ h_noz)

/-- A cycle's pass over the nozzles stays within the frame of one nozzle-event. -/
theorem Frame.eventSweep (h : Frame μ s₀ s) (x : CycleCtx) (l : Lane) (hh : History) (en : Bool) (m step : Nat)
    (h_noz : μ.noz = true) : Frame μ s₀ (State.eventSweep s x l hh en m step).1 :=
  h.foldl_fst fun _ z k hs => hs.eventAll x l hh en m step z k h_noz

theorem Frame.eventSweep_eq {c v} (h : Frame μ s₀ s) {x : CycleCtx} {l : Lane} {hh : History} {en : Bool} {m step : Nat}
    (e : State.eventSweep s x l hh en m step = (c, v)) (h_noz : μ.noz = true) : Frame μ s₀ c := by
  have k := Frame.eventSweep h x l hh en m step h_noz
  rwa [e] at k

/-! ### Machine/RingOps.lean -/

theorem Frame.modRingPort (h : Frame μ s₀ s) (p : Nat) (g : RingPort → RingPort) (h_ring : μ.ring = true) :
    Frame μ s₀ (State.modRingPort s p g) := by
  delta State.modRingPort
  repeat' first
    | with_reducible assumption
    | fail_if_no_progress with_reducible refine Frame.upd ?_

theorem Frame.ringOut (h : Frame μ s₀ s) (port : Nat) (p : RingPkt) :
    Frame μ s₀ (State.ringOut s port p) := by
  delta State.ringOut
  repeat' first
    | with_reducible assumption
    | with_reducible apply Frame.count
    | with_reducible refine Frame.emit ?_ _ (.inr rfl)
    | with_reducible refine Frame.ite ?_ ?_
    | fail_if_no_progress with_reducible refine Frame.upd ?_

theorem Frame.nextSeq (h : Frame μ s₀ s) (vc : Nat) (h_ring : μ.ring = true) :
    Frame μ s₀ (State.nextSeq s vc).1 := by
  delta State.nextSeq
  repeat' first
    | with_reducible assumption
    | (try lift_lets -underBinder); intro x; refine Frame.cut (x := x) ?_ ?_ <;> [subst x; (clear_value x; intro _)]
    | (try lift_lets -underBinder); intro x; first | subst x | skip
    | split
    | fail_if_no_progress with_reducible refine Frame.upd ?_

theorem Frame.nextSeq_eq {c} {v} (h : Frame μ s₀ s) {vc : Nat} (e : State.nextSeq s vc = (c, v)) (h_ring : μ.ring = true) :
    Frame μ s₀ c := by
  have k := Frame.nextSeq h vc h_ring
  rwa [e] at k

theorem Frame.urgOut (h : Frame μ s₀ s) (port : Nat) (p : RingPkt) :
    Frame μ s₀ (State.urgOut s port p) := by
  delta State.urgOut
  repeat' first
    | with_reducible assumption
    | with_reducible apply Frame.count
    | with_reducible refine Frame.emit ?_ _ (.inr rfl)
    | with_reducible refine Frame.ite ?_ ?_

theorem Frame.sendUrg (h : Frame μ s₀ s) (p : RingPkt) (h_ring : μ.ring = true) :
    Frame μ s₀ (State.sendUrg s p) := by
  delta State.sendUrg
  repeat' first
    | with_reducible assumption
    | with_reducible apply Frame.nextSeq
    | with_reducible refine Frame.nextSeq_eq ?_ (by assumption) ‹_›
    | with_reducible apply Frame.urgOut
    | (try lift_lets -underBinder); intro x; refine Frame.cut (x := x) ?_ ?_ <;> [subst x; (clear_value x; intro _)]
    | (try lift_lets -underBinder); intro x; first | subst x | skip
    | split
    | fail_if_no_progress with_reducible refine Frame.upd ?_

theorem Frame.sendJoin (h : Frame μ s₀ s) (p : RingPkt) (h_ring : μ.ring = true) :
    Frame μ s₀ (State.sendJoin s p) := by
  delta State.sendJoin
  repeat' first
    | with_reducible assumption
    | with_reducible apply Frame.nextSeq
    | with_reducible refine Frame.nextSeq_eq ?_ (by assumption) ‹_›
    | with_reducible apply Frame.urgOut
    | (try lift_lets -underBinder); intro x; refine Frame.cut (x := x) ?_ ?_ <;> [subst x; (clear_value x; intro _)]
    | (try lift_lets -underBinder); intro x; first | subst x | skip
    | split
    | fail_if_no_progress with_reducible refine Frame.upd ?_

theorem Frame.sendRsp (h : Frame μ s₀ s) (req : RingPkt) (type : Nat) (status : Nat) (data : List Nat) (h_ring : μ.ring = true) :
    Frame μ s₀ (State.sendRsp s req type status data) := by
  delta State.sendRsp
  repeat' first
    | with_reducible assumption
    | with_reducible apply Frame.nextSeq
    | with_reducible refine Frame.nextSeq_eq ?_ (by assumption) ‹_›
    | with_reducible apply Frame.ringOut
    | (try lift_lets -underBinder); intro x; refine Frame.cut (x := x) ?_ ?_ <;> [subst x; (clear_value x; intro _)]
    | (try lift_lets -underBinder); intro x; first | subst x | skip
    | split

theorem Frame.sendReq (h : Frame μ s₀ s) (p : RingPkt) (r : RingReq) (h_ring : μ.ring = true) :
    Frame μ s₀ (State.sendReq s p r) := by
  delta State.sendReq
  repeat' first
    | with_reducible assumption
    | with_reducible apply Frame.nextSeq
    | with_reducible refine Frame.nextSeq_eq ?_ (by assumption) ‹_›
    | with_reducible apply Frame.ringOut
    | (try lift_lets -underBinder); intro x; refine Frame.cut (x := x) ?_ ?_ <;> [subst x; (clear_value x; intro _)]
    | (try lift_lets -underBinder); intro x; first | subst x | skip
    | split
    | fail_if_no_progress with_reducible refine Frame.upd ?_

theorem Frame.hostWrite (h : Frame μ s₀ s) (addr : Nat) (bs : List Nat) (h_ring : μ.ring = true) :
    Frame μ s₀ (State.hostWrite s addr bs) := by
  delta State.hostWrite
  repeat' first
    | with_reducible assumption
    | with_reducible refine Frame.emit ?_ _ (.inr rfl)
    | with_reducible apply Frame.sendReq
    | with_reducible refine Frame.ite ?_ ?_
    | with_reducible refine Frame.foldl ?_ ?_
    | (try lift_lets -underBinder); intro x; refine Frame.cut (x := x) ?_ ?_ <;> [subst x; (clear_value x; intro _)]
    | (try lift_lets -underBinder); intro x; first | subst x | skip

theorem Frame.msix (h : Frame μ s₀ s) (v : Nat) (h_host : μ.host = true) (h_ring : μ.ring = true) :
    Frame μ s₀ (State.msix s v) := by
  delta State.msix
  repeat' first
    | with_reducible assumption
    | with_reducible refine Frame.emit ?_ _ (.inr rfl)
    | with_reducible apply Frame.hostWrite
    | with_reducible refine Frame.ite ?_ ?_
    | fail_if_no_progress with_reducible refine Frame.upd ?_

theorem Frame.showHost (h : Frame μ s₀ s) :
    Frame μ s₀ (State.showHost s) := by
  delta State.showHost
  repeat' first
    | with_reducible assumption
    | with_reducible apply Frame.setFields

theorem Frame.issueRead (h : Frame μ s₀ s) (r : OutRead) (h_dma : μ.dma = true) (h_ring : μ.ring = true) :
    Frame μ s₀ (State.issueRead s r) := by
  delta State.issueRead
  repeat' first
    | with_reducible assumption
    | with_reducible refine Frame.emit ?_ _ (.inr rfl)
    | with_reducible apply Frame.hostRead
    | with_reducible apply Frame.showHost
    | (try lift_lets -underBinder); intro x; refine Frame.cut (x := x) ?_ ?_ <;> [subst x; (clear_value x; intro _)]
    | (try lift_lets -underBinder); intro x; first | subst x | skip
    | fail_if_no_progress with_reducible refine Frame.upd ?_

theorem Frame.pumpMembers (h : Frame μ s₀ s) (n : Nat) (h_dma : μ.dma = true) (h_ring : μ.ring = true) :
    Frame μ s₀ (State.pumpMembers s n) := by
  induction n generalizing s with
  | zero => exact h
  | succ n ih =>
    rw [State.pumpMembers]
    repeat' first
      | with_reducible assumption
      | with_reducible apply Frame.issueRead
      | with_reducible apply ih
      | with_reducible refine Frame.ite ?_ ?_
      | (try lift_lets -underBinder); intro x; refine Frame.cut (x := x) ?_ ?_ <;> [subst x; (clear_value x; intro _)]
      | (try lift_lets -underBinder); intro x; first | subst x | skip
      | split
      | fail_if_no_progress dsimp only
      | fail_if_no_progress with_reducible refine Frame.upd ?_

theorem Frame.hostRead (h : Frame μ s₀ s) (r : OutRead) (h_dma : μ.dma = true) (h_ring : μ.ring = true) :
    Frame μ s₀ (State.hostRead s r) := by
  delta State.hostRead
  repeat' first
    | with_reducible assumption
    | with_reducible apply Frame.issueRead
    | with_reducible apply Frame.sendReq
    | with_reducible refine Frame.ite ?_ ?_
    | (try lift_lets -underBinder); intro x; refine Frame.cut (x := x) ?_ ?_ <;> [subst x; (clear_value x; intro _)]
    | (try lift_lets -underBinder); intro x; first | subst x | skip
    | split
    | fail_if_no_progress dsimp only
    | fail_if_no_progress with_reducible refine Frame.upd ?_

/-! ### Machine/DmaOps.lean -/

theorem Frame.modStream (h : Frame μ s₀ s) (k : Nat) (g : Stream → Stream) (h_dma : μ.dma = true) :
    Frame μ s₀ (State.modStream s k g) := by
  delta State.modStream
  repeat' first
    | with_reducible assumption
    | fail_if_no_progress with_reducible refine Frame.upd ?_

theorem Frame.putRecord (h : Frame μ s₀ s) (k : Nat) (type : Nat) (bs : List Nat) (irq : Bool) (h_host : μ.host = true) (h_dma : μ.dma = true) (h_ring : μ.ring = true) :
    Frame μ s₀ (State.putRecord s k type bs irq) := by
  delta State.putRecord
  repeat' first
    | with_reducible assumption
    | with_reducible apply Frame.hostWrite
    | with_reducible apply Frame.modStream
    | with_reducible apply Frame.msix
    | with_reducible apply Frame.setF
    | with_reducible apply Frame.setFields
    | with_reducible refine Frame.ite ?_ ?_
    | (try lift_lets -underBinder); intro x; refine Frame.cut (x := x) ?_ ?_ <;> [subst x; (clear_value x; intro _)]
    | (try lift_lets -underBinder); intro x; first | subst x | skip
    | fail_if_no_progress with_reducible refine Frame.upd ?_

theorem Frame.descRecord (h : Frame μ s₀ s) (k : Nat) (tag : Nat) (index : Nat) (status : Nat) (detail : Nat) (result : Nat) (irq : Bool) (h_host : μ.host = true) (h_dma : μ.dma = true) (h_ring : μ.ring = true) :
    Frame μ s₀ (State.descRecord s k tag index status detail result irq) := by
  delta State.descRecord
  repeat' first
    | with_reducible assumption
    | with_reducible apply Frame.count
    | with_reducible apply Frame.putRecord
    | (try lift_lets -underBinder); intro x; refine Frame.cut (x := x) ?_ ?_ <;> [subst x; (clear_value x; intro _)]
    | (try lift_lets -underBinder); intro x; first | subst x | skip

theorem Frame.docRecord (h : Frame μ s₀ s) (k : Nat) (tag : Nat) (flags : Nat) (win : Nat) (status : Nat) (rep : Nat) (seq : Nat) (last : Nat) (engines : Nat) (skipped : Nat) (h_host : μ.host = true) (h_dma : μ.dma = true) (h_ring : μ.ring = true) :
    Frame μ s₀ (State.docRecord s k tag flags win status rep seq last engines skipped) := by
  delta State.docRecord
  repeat' first
    | with_reducible assumption
    | with_reducible apply Frame.putRecord
    | with_reducible refine Frame.ite ?_ ?_
    | (try lift_lets -underBinder); intro x; refine Frame.cut (x := x) ?_ ?_ <;> [subst x; (clear_value x; intro _)]
    | (try lift_lets -underBinder); intro x; first | subst x | skip

theorem Frame.showPool (h : Frame μ s₀ s) :
    Frame μ s₀ (State.showPool s) := by
  delta State.showPool
  repeat' first
    | with_reducible assumption
    | with_reducible apply Frame.setFields
    | (try lift_lets -underBinder); intro x; refine Frame.cut (x := x) ?_ ?_ <;> [subst x; (clear_value x; intro _)]
    | (try lift_lets -underBinder); intro x; first | subst x | skip

theorem Frame.showFill (h : Frame μ s₀ s) (k : Nat) :
    Frame μ s₀ (State.showFill s k) := by
  delta State.showFill
  repeat' first
    | with_reducible assumption
    | with_reducible apply Frame.setF
    | with_reducible refine Frame.ite ?_ ?_
    | (try lift_lets -underBinder); intro x; refine Frame.cut (x := x) ?_ ?_ <;> [subst x; (clear_value x; intro _)]
    | (try lift_lets -underBinder); intro x; first | subst x | skip

theorem Frame.idleStream (h : Frame μ s₀ s) (k : Nat) (h_dma : μ.dma = true) :
    Frame μ s₀ (State.idleStream s k) := by
  delta State.idleStream
  repeat' first
    | with_reducible assumption
    | with_reducible apply Frame.modStream
    | with_reducible apply Frame.setFb
    | with_reducible apply Frame.showPool
    | with_reducible refine Frame.ite ?_ ?_
    | (try lift_lets -underBinder); intro x; refine Frame.cut (x := x) ?_ ?_ <;> [subst x; (clear_value x; intro _)]
    | (try lift_lets -underBinder); intro x; first | subst x | skip
    | fail_if_no_progress with_reducible refine Frame.upd ?_

/-- Bytes written to the staging window keep its canonical form. -/
theorem Frame.putStaging (h : Frame μ s₀ s) (o : Nat) (bs : List Nat) (h_health : μ.health = true) (h_flt : μ.flt = true)
    (h_staging : μ.staging = true) : Frame μ s₀ (State.putStaging s o bs) := by
  delta State.putStaging
  refine Frame.ite (h.raise _ _ h_health h_flt) (Frame.ite (h.addF _ _) ?_)
  exact h.setMem _ (.inr rfl) (.inl h_staging) fun h1 h2 => ⟨h1, Mem.wf_putBytes _ _ _ _ h2⟩

theorem Frame.putMem (h : Frame μ s₀ s) (k : Nat) (mem : Nat) (a : Nat) (off : Nat) (bs : List Nat) (h_health : μ.health = true) (h_ring : μ.ring = true) (h_flt : μ.flt = true) (h_form : μ.form = true) (h_staging : μ.staging = true) :
    Frame μ s₀ (State.putMem s k mem a off bs).1 := by
  delta State.putMem
  repeat' first
    | with_reducible assumption
    | with_reducible apply Frame.count
    | with_reducible apply Frame.hostWrite
    | with_reducible apply Frame.putForm
    | with_reducible apply Frame.putStaging
    | with_reducible apply Frame.sendReq
    | with_reducible refine Frame.foldl ?_ ?_
    | (try lift_lets -underBinder); intro x; refine Frame.cut (x := x) ?_ ?_ <;> [subst x; (clear_value x; intro _)]
    | (try lift_lets -underBinder); intro x; first | subst x | skip
    | split
    | fail_if_no_progress dsimp only
    | fail_if_no_progress with_reducible refine Frame.upd ?_

theorem Frame.putMem_eq {c} {v} (h : Frame μ s₀ s) {k : Nat} {mem : Nat} {a : Nat} {off : Nat} {bs : List Nat} (e : State.putMem s k mem a off bs = (c, v)) (h_health : μ.health = true) (h_ring : μ.ring = true) (h_flt : μ.flt = true) (h_form : μ.form = true) (h_staging : μ.staging = true) :
    Frame μ s₀ c := by
  have k := Frame.putMem h k mem a off bs h_health h_ring h_flt h_form h_staging
  rwa [e] at k

theorem Frame.modExec (h : Frame μ s₀ s) (k : Nat) (g : Exec → Exec) (h_dma : μ.dma = true) :
    Frame μ s₀ (State.modExec s k g) := by
  delta State.modExec
  repeat' first
    | with_reducible assumption
    | with_reducible apply Frame.modStream
    | (try lift_lets -underBinder); intro x; refine Frame.cut (x := x) ?_ ?_ <;> [subst x; (clear_value x; intro _)]
    | (try lift_lets -underBinder); intro x; first | subst x | skip
    | fail_if_no_progress with_reducible refine Frame.upd ?_

theorem Frame.markBad (h : Frame μ s₀ s) (k : Nat) (detail : Nat) (off : Nat) (h_dma : μ.dma = true) :
    Frame μ s₀ (State.markBad s k detail off) := by
  delta State.markBad
  repeat' first
    | with_reducible assumption
    | with_reducible apply Frame.modExec
    | with_reducible refine Frame.ite ?_ ?_
    | (try lift_lets -underBinder); intro x; refine Frame.cut (x := x) ?_ ?_ <;> [subst x; (clear_value x; intro _)]
    | (try lift_lets -underBinder); intro x; first | subst x | skip
    | fail_if_no_progress with_reducible refine Frame.upd ?_

theorem Frame.dropFlying (h : Frame μ s₀ s) (k : Nat) (off : Nat) (h_dma : μ.dma = true) :
    Frame μ s₀ (State.dropFlying s k off) := by
  delta State.dropFlying
  repeat' first
    | with_reducible assumption
    | with_reducible apply Frame.modExec
    | (try lift_lets -underBinder); intro x; refine Frame.cut (x := x) ?_ ?_ <;> [subst x; (clear_value x; intro _)]
    | (try lift_lets -underBinder); intro x; first | subst x | skip
    | fail_if_no_progress with_reducible refine Frame.upd ?_

theorem Frame.finishChunk (h : Frame μ s₀ s) (k : Nat) (d : Desc) (x : Exec) (c : Chunk) (h_health : μ.health = true) (h_dma : μ.dma = true) (h_ring : μ.ring = true) (h_flt : μ.flt = true) (h_pmc : μ.pmc = true) (h_form : μ.form = true) (h_staging : μ.staging = true) :
    Frame μ s₀ (State.finishChunk s k d x c) := by
  delta State.finishChunk
  repeat' first
    | with_reducible assumption
    | with_reducible apply Frame.modExec
    | with_reducible apply Frame.putMem
    | with_reducible refine Frame.putMem_eq ?_ (by assumption) ‹_› ‹_› ‹_› ‹_› ‹_›
    | with_reducible apply Frame.tagDesc
    | with_reducible refine Frame.ite ?_ ?_
    | (try lift_lets -underBinder); intro x; refine Frame.cut (x := x) ?_ ?_ <;> [subst x; (clear_value x; intro _)]
    | (try lift_lets -underBinder); intro x; first | subst x | skip
    | split
    | fail_if_no_progress dsimp only
    | fail_if_no_progress with_reducible refine Frame.upd ?_

theorem Frame.drain (h : Frame μ s₀ s) (k : Nat) (d : Desc) (n : Nat) (h_health : μ.health = true) (h_dma : μ.dma = true) (h_ring : μ.ring = true) (h_flt : μ.flt = true) (h_pmc : μ.pmc = true) (h_form : μ.form = true) (h_staging : μ.staging = true) :
    Frame μ s₀ (State.drain s k d n) := by
  induction n generalizing s with
  | zero => exact h
  | succ n ih =>
    rw [State.drain]
    repeat' first
      | with_reducible assumption
      | with_reducible apply Frame.finishChunk
      | with_reducible apply ih
      | with_reducible refine Frame.ite ?_ ?_
      | (try lift_lets -underBinder); intro x; refine Frame.cut (x := x) ?_ ?_ <;> [subst x; (clear_value x; intro _)]
      | (try lift_lets -underBinder); intro x; first | subst x | skip
      | split
      | fail_if_no_progress dsimp only
      | fail_if_no_progress with_reducible refine Frame.upd ?_

theorem Frame.readSide (h : Frame μ s₀ s) (k : Nat) (mem : Nat) (a : Nat) (off : Nat) (side : Nat) (len : Nat) (h_dma : μ.dma = true) (h_ring : μ.ring = true) :
    Frame μ s₀ (State.readSide s k mem a off side len) := by
  delta State.readSide
  repeat' first
    | with_reducible assumption
    | with_reducible apply Frame.count
    | with_reducible apply Frame.hostRead
    | with_reducible apply Frame.sendReq
    | with_reducible refine Frame.ite ?_ ?_
    | (try lift_lets -underBinder); intro x; refine Frame.cut (x := x) ?_ ?_ <;> [subst x; (clear_value x; intro _)]
    | (try lift_lets -underBinder); intro x; first | subst x | skip

theorem Frame.pump (h : Frame μ s₀ s) (k : Nat) (d : Desc) (n : Nat) (h_health : μ.health = true) (h_dma : μ.dma = true) (h_ring : μ.ring = true) (h_flt : μ.flt = true) (h_pmc : μ.pmc = true) (h_form : μ.form = true) (h_staging : μ.staging = true) :
    Frame μ s₀ (State.pump s k d n) := by
  induction n generalizing s with
  | zero => exact h
  | succ n ih =>
    rw [State.pump]
    repeat' first
      | with_reducible assumption
      | with_reducible apply Frame.drain
      | with_reducible apply Frame.modExec
      | with_reducible apply Frame.readSide
      | with_reducible apply Frame.showFill
      | with_reducible apply Frame.tagDesc
      | with_reducible apply ih
      | with_reducible refine Frame.ite ?_ ?_
      | (try lift_lets -underBinder); intro x; refine Frame.cut (x := x) ?_ ?_ <;> [subst x; (clear_value x; intro _)]
      | (try lift_lets -underBinder); intro x; first | subst x | skip
      | split
      | fail_if_no_progress dsimp only
      | fail_if_no_progress with_reducible refine Frame.upd ?_

theorem Frame.composeRec (h : Frame μ s₀ s) (k : Nat) (d : Desc) (x : Exec) (h_wins : μ.wins = true) (h_health : μ.health = true) (h_comp : μ.comp = true) (h_dma : μ.dma = true) (h_flt : μ.flt = true) :
    Frame μ s₀ (State.composeRec s k d x) := by
  delta State.composeRec
  repeat' first
    | with_reducible assumption
    | with_reducible apply Frame.compose
    | with_reducible refine Frame.compose_eq ?_ (by assumption) ‹_› ‹_› ‹_› ‹_›
    | with_reducible apply Frame.modExec
    | with_reducible apply Frame.setF
    | with_reducible refine Frame.ite ?_ ?_
    | (try lift_lets -underBinder); intro x; refine Frame.cut (x := x) ?_ ?_ <;> [subst x; (clear_value x; intro _)]
    | (try lift_lets -underBinder); intro x; first | subst x | skip
    | fail_if_no_progress with_reducible refine Frame.upd ?_

theorem Frame.runTransfer (h : Frame μ s₀ s) (k : Nat) (h_wins : μ.wins = true) (h_health : μ.health = true) (h_comp : μ.comp = true) (h_dma : μ.dma = true) (h_ring : μ.ring = true) (h_flt : μ.flt = true) (h_pmc : μ.pmc = true) (h_form : μ.form = true) (h_staging : μ.staging = true) :
    Frame μ s₀ (State.runTransfer s k) := by
  delta State.runTransfer
  repeat' first
    | with_reducible assumption
    | with_reducible apply Frame.composeRec
    | with_reducible apply Frame.drain
    | with_reducible apply Frame.modExec
    | with_reducible apply Frame.pump
    | with_reducible apply Frame.setF
    | with_reducible refine Frame.ite ?_ ?_
    | (try lift_lets -underBinder); intro x; refine Frame.cut (x := x) ?_ ?_ <;> [subst x; (clear_value x; intro _)]
    | (try lift_lets -underBinder); intro x; first | subst x | skip
    | split
    | fail_if_no_progress dsimp only
    | fail_if_no_progress with_reducible refine Frame.upd ?_

theorem Frame.deliver (h : Frame μ s₀ s) (k : Nat) (side : Nat) (off : Nat) (bs : List Nat) (h_wins : μ.wins = true) (h_health : μ.health = true) (h_comp : μ.comp = true) (h_dma : μ.dma = true) (h_ring : μ.ring = true) (h_flt : μ.flt = true) (h_pmc : μ.pmc = true) (h_form : μ.form = true) (h_staging : μ.staging = true) :
    Frame μ s₀ (State.deliver s k side off bs) := by
  delta State.deliver
  repeat' first
    | with_reducible assumption
    | with_reducible apply Frame.modExec
    | with_reducible apply Frame.runTransfer
    | with_reducible apply Frame.showFill
    | (try lift_lets -underBinder); intro x; refine Frame.cut (x := x) ?_ ?_ <;> [subst x; (clear_value x; intro _)]
    | (try lift_lets -underBinder); intro x; first | subst x | skip
    | fail_if_no_progress with_reducible refine Frame.upd ?_

theorem Frame.chunkError (h : Frame μ s₀ s) (k : Nat) (detail : Nat) (off : Nat) (h_wins : μ.wins = true) (h_health : μ.health = true) (h_comp : μ.comp = true) (h_dma : μ.dma = true) (h_ring : μ.ring = true) (h_flt : μ.flt = true) (h_pmc : μ.pmc = true) (h_form : μ.form = true) (h_staging : μ.staging = true) :
    Frame μ s₀ (State.chunkError s k detail off) := by
  delta State.chunkError
  repeat' first
    | with_reducible assumption
    | with_reducible apply Frame.dropFlying
    | with_reducible apply Frame.markBad
    | with_reducible apply Frame.runTransfer
    | with_reducible apply Frame.showFill

theorem Frame.refuse (h : Frame μ s₀ s) (k : Nat) (index : Nat) (d : Desc) (status : Nat) (detail : Nat) (h_health : μ.health = true) (h_host : μ.host = true) (h_dma : μ.dma = true) (h_ring : μ.ring = true) (h_flt : μ.flt = true) :
    Frame μ s₀ (State.refuse s k index d status detail) := by
  delta State.refuse
  repeat' first
    | with_reducible assumption
    | with_reducible apply Frame.addF
    | with_reducible apply Frame.descRecord
    | with_reducible apply Frame.raise

theorem Frame.fetchFail (h : Frame μ s₀ s) (k : Nat) (detail : Nat) (h_health : μ.health = true) (h_host : μ.host = true) (h_dma : μ.dma = true) (h_ring : μ.ring = true) (h_flt : μ.flt = true) :
    Frame μ s₀ (State.fetchFail s k detail) := by
  delta State.fetchFail
  repeat' first
    | with_reducible assumption
    | with_reducible apply Frame.descRecord
    | with_reducible apply Frame.modStream
    | with_reducible apply Frame.raise
    | with_reducible apply Frame.setF
    | with_reducible apply Frame.showFill
    | (try lift_lets -underBinder); intro x; refine Frame.cut (x := x) ?_ ?_ <;> [subst x; (clear_value x; intro _)]
    | (try lift_lets -underBinder); intro x; first | subst x | skip
    | fail_if_no_progress with_reducible refine Frame.upd ?_

theorem Frame.readFail (h : Frame μ s₀ s) (r : OutRead) (detail : Nat) (h_wins : μ.wins = true) (h_health : μ.health = true) (h_comp : μ.comp = true) (h_host : μ.host = true) (h_dma : μ.dma = true) (h_ring : μ.ring = true) (h_flt : μ.flt = true) (h_pmc : μ.pmc = true) (h_form : μ.form = true) (h_staging : μ.staging = true) :
    Frame μ s₀ (State.readFail s r detail) := by
  delta State.readFail
  repeat' first
    | with_reducible assumption
    | with_reducible apply Frame.chunkError
    | with_reducible apply Frame.fetchFail
    | with_reducible apply Frame.markBad
    | with_reducible apply Frame.modExec
    | with_reducible apply Frame.pumpMembers
    | with_reducible apply Frame.sendRsp
    | with_reducible apply Frame.showHost
    | (try lift_lets -underBinder); intro x; refine Frame.cut (x := x) ?_ ?_ <;> [subst x; (clear_value x; intro _)]
    | (try lift_lets -underBinder); intro x; first | subst x | skip
    | split
    | fail_if_no_progress dsimp only
    | fail_if_no_progress with_reducible refine Frame.upd ?_

theorem Frame.gotDescriptors (h : Frame μ s₀ s) (k : Nat) (bs : List Nat) (h_dma : μ.dma = true) :
    Frame μ s₀ (State.gotDescriptors s k bs) := by
  delta State.gotDescriptors
  repeat' first
    | with_reducible assumption
    | with_reducible apply Frame.modStream
    | with_reducible apply Frame.setF
    | with_reducible apply Frame.showFill
    | (try lift_lets -underBinder); intro x; refine Frame.cut (x := x) ?_ ?_ <;> [subst x; (clear_value x; intro _)]
    | (try lift_lets -underBinder); intro x; first | subst x | skip
    | fail_if_no_progress with_reducible refine Frame.upd ?_

theorem Frame.showSlots (h : Frame μ s₀ s) :
    Frame μ s₀ (State.showSlots s) := by
  delta State.showSlots
  repeat' first
    | with_reducible assumption
    | with_reducible apply Frame.setF

theorem Frame.slotAlloc (h : Frame μ s₀ s) (k : Nat) (arg : Nat) (h_dma : μ.dma = true) :
    Frame μ s₀ (State.slotAlloc s k arg).1 := by
  delta State.slotAlloc
  repeat' first
    | with_reducible assumption
    | with_reducible apply Frame.showSlots
    | with_reducible refine Frame.ite ?_ ?_
    | with_reducible refine Frame.ite_fst ?_ ?_
    | (try lift_lets -underBinder); intro x; refine Frame.cut (x := x) ?_ ?_ <;> [subst x; (clear_value x; intro _)]
    | (try lift_lets -underBinder); intro x; first | subst x | skip
    | split
    | fail_if_no_progress dsimp only
    | fail_if_no_progress with_reducible refine Frame.upd ?_

theorem Frame.slotAlloc_eq {c} {v} (h : Frame μ s₀ s) {k : Nat} {arg : Nat} (e : State.slotAlloc s k arg = (c, v)) (h_dma : μ.dma = true) :
    Frame μ s₀ c := by
  have k := Frame.slotAlloc h k arg h_dma
  rwa [e] at k

theorem Frame.slotFree (h : Frame μ s₀ s) (h : Nat) (h_dma : μ.dma = true) :
    Frame μ s₀ (State.slotFree s h) := by
  delta State.slotFree
  repeat' first
    | with_reducible assumption
    | with_reducible apply Frame.showSlots
    | with_reducible refine Frame.ite ?_ ?_
    | (try lift_lets -underBinder); intro x; refine Frame.cut (x := x) ?_ ?_ <;> [subst x; (clear_value x; intro _)]
    | (try lift_lets -underBinder); intro x; first | subst x | skip
    | fail_if_no_progress with_reducible refine Frame.upd ?_

/-! ### Machine/MemOps.lean -/

theorem Frame.setBanks (h : Frame μ s₀ s) (e : Nat) (v : Nat) :
    Frame μ s₀ (State.setBanks s e v) := by
  delta State.setBanks
  repeat' first
    | with_reducible assumption
    | with_reducible apply Frame.setFields

theorem Frame.setSpad (h : Frame μ s₀ s) (b : Nat) (v : Nat) :
    Frame μ s₀ (State.setSpad s b v) := by
  delta State.setSpad
  repeat' first
    | with_reducible assumption
    | with_reducible apply Frame.setF
    | with_reducible refine Frame.ite ?_ ?_
    | (try lift_lets -underBinder); intro x; refine Frame.cut (x := x) ?_ ?_ <;> [subst x; (clear_value x; intro _)]
    | (try lift_lets -underBinder); intro x; first | subst x | skip

theorem Frame.onWrite (h : Frame μ s₀ s) (off : Nat) (g : State → State) (h_g : ∀ s, Frame μ s₀ s → Frame μ s₀ (g s)) :
    Frame μ s₀ (State.onWrite s off g) := by
  delta State.onWrite
  repeat' first
    | with_reducible assumption
    | with_reducible apply h_g
    | with_reducible refine Frame.ite ?_ ?_

/-! ### Machine/ThermOps.lean -/

theorem Frame.modSensor (h : Frame μ s₀ s) (n : Nat) (g : Sensor → Sensor) (h_thm : μ.thm = true) :
    Frame μ s₀ (State.modSensor s n g) := by
  delta State.modSensor
  repeat' first
    | with_reducible assumption
    | fail_if_no_progress with_reducible refine Frame.upd ?_

theorem Frame.showPred (h : Frame μ s₀ s) (tp : Option (Int × Nat)) :
    Frame μ s₀ (State.showPred s tp) := by
  delta State.showPred
  repeat' first
    | with_reducible assumption
    | with_reducible apply Frame.setF
    | split
    | fail_if_no_progress with_reducible refine Frame.upd ?_

theorem Frame.showPausing (h : Frame μ s₀ s) :
    Frame μ s₀ (State.showPausing s) := by
  delta State.showPausing
  repeat' first
    | with_reducible assumption
    | with_reducible apply Frame.setFb
    | (try lift_lets -underBinder); intro x; refine Frame.cut (x := x) ?_ ?_ <;> [subst x; (clear_value x; intro _)]
    | (try lift_lets -underBinder); intro x; first | subst x | skip

theorem Frame.pauseUntil (h : Frame μ s₀ s) (w : Nat) (t : Nat) (h_wins : μ.wins = true) :
    Frame μ s₀ (State.pauseUntil s w t) := by
  delta State.pauseUntil
  repeat' first
    | with_reducible assumption
    | with_reducible apply Frame.modWin
    | with_reducible apply Frame.setF
    | with_reducible refine Frame.ite ?_ ?_
    | (try lift_lets -underBinder); intro x; refine Frame.cut (x := x) ?_ ?_ <;> [subst x; (clear_value x; intro _)]
    | (try lift_lets -underBinder); intro x; first | subst x | skip
    | fail_if_no_progress with_reducible refine Frame.upd ?_

theorem Frame.endPause (h : Frame μ s₀ s) (w : Nat) (h_wins : μ.wins = true) :
    Frame μ s₀ (State.endPause s w) := by
  delta State.endPause
  repeat' first
    | with_reducible assumption
    | with_reducible apply Frame.count
    | with_reducible apply Frame.modWin
    | with_reducible apply Frame.setF
    | (try lift_lets -underBinder); intro x; refine Frame.cut (x := x) ?_ ?_ <;> [subst x; (clear_value x; intro _)]
    | (try lift_lets -underBinder); intro x; first | subst x | skip
    | split
    | fail_if_no_progress with_reducible refine Frame.upd ?_

theorem Frame.thermalStep (h : Frame μ s₀ s) (w : Nat) (h_wins : μ.wins = true) :
    Frame μ s₀ (State.thermalStep s w) := by
  delta State.thermalStep
  repeat' first
    | with_reducible assumption
    | with_reducible apply Frame.modWin
    | with_reducible apply Frame.pauseUntil
    | with_reducible apply Frame.showPausing
    | (try lift_lets -underBinder); intro x; refine Frame.cut (x := x) ?_ ?_ <;> [subst x; (clear_value x; intro _)]
    | (try lift_lets -underBinder); intro x; first | subst x | skip
    | fail_if_no_progress with_reducible refine Frame.upd ?_

theorem Frame.thermalGap (h : Frame μ s₀ s) (w : Nat) (h_wins : μ.wins = true) :
    Frame μ s₀ (State.thermalGap s w) := by
  delta State.thermalGap
  repeat' first
    | with_reducible assumption
    | with_reducible apply Frame.modWin
    | with_reducible apply Frame.thermalStep
    | with_reducible refine Frame.ite ?_ ?_
    | (try lift_lets -underBinder); intro x; refine Frame.cut (x := x) ?_ ?_ <;> [subst x; (clear_value x; intro _)]
    | (try lift_lets -underBinder); intro x; first | subst x | skip
    | fail_if_no_progress with_reducible refine Frame.upd ?_

/-! ### Machine/CalOps.lean -/

theorem Frame.modCal (h : Frame μ s₀ s) (k : Nat) (g : CalInst → CalInst) (h_cal : μ.cal = true) :
    Frame μ s₀ (State.modCal s k g) := by
  delta State.modCal
  repeat' first
    | with_reducible assumption
    | fail_if_no_progress with_reducible refine Frame.upd ?_

theorem Frame.showCal (h : Frame μ s₀ s) (k : Nat) :
    Frame μ s₀ (State.showCal s k) := by
  delta State.showCal
  repeat' first
    | with_reducible assumption
    | with_reducible apply Frame.setFs
    | (try lift_lets -underBinder); intro x; refine Frame.cut (x := x) ?_ ?_ <;> [subst x; (clear_value x; intro _)]
    | (try lift_lets -underBinder); intro x; first | subst x | skip
    | split
    | fail_if_no_progress dsimp only
    | fail_if_no_progress with_reducible refine Frame.upd ?_

theorem Frame.setCal (h : Frame μ s₀ s) (k : Nat) (v : List Int) (h_cal : μ.cal = true) :
    Frame μ s₀ (State.setCal s k v) := by
  delta State.setCal
  repeat' first
    | with_reducible assumption
    | with_reducible apply Frame.modCal
    | with_reducible apply Frame.showCal
    | (try lift_lets -underBinder); intro x; refine Frame.cut (x := x) ?_ ?_ <;> [subst x; (clear_value x; intro _)]
    | (try lift_lets -underBinder); intro x; first | subst x | skip
    | fail_if_no_progress with_reducible refine Frame.upd ?_

theorem Frame.showDacs (h : Frame μ s₀ s) (n : Nat) :
    Frame μ s₀ (State.showDacs s n) := by
  delta State.showDacs
  repeat' first
    | with_reducible assumption
    | with_reducible apply Frame.setFields
    | split
    | fail_if_no_progress with_reducible refine Frame.upd ?_

theorem Frame.showSlewing (h : Frame μ s₀ s) :
    Frame μ s₀ (State.showSlewing s) := by
  delta State.showSlewing
  repeat' first
    | with_reducible assumption
    | with_reducible apply Frame.setF
    | (try lift_lets -underBinder); intro x; refine Frame.cut (x := x) ?_ ?_ <;> [subst x; (clear_value x; intro _)]
    | (try lift_lets -underBinder); intro x; first | subst x | skip

theorem Frame.slewTo (h : Frame μ s₀ s) (k : Nat) (done : Nat) (h_cal : μ.cal = true) :
    Frame μ s₀ (State.slewTo s k done) := by
  delta State.slewTo
  repeat' first
    | with_reducible assumption
    | with_reducible apply Frame.modCal
    | with_reducible apply Frame.setCal
    | with_reducible apply Frame.showSlewing
    | with_reducible refine Frame.ite ?_ ?_
    | (try lift_lets -underBinder); intro x; refine Frame.cut (x := x) ?_ ?_ <;> [subst x; (clear_value x; intro _)]
    | (try lift_lets -underBinder); intro x; first | subst x | skip
    | fail_if_no_progress with_reducible refine Frame.upd ?_

theorem Frame.slewNew (h : Frame μ s₀ s) (k : Nat) (v : List Int) (h_cal : μ.cal = true) :
    Frame μ s₀ (State.slewNew s k v) := by
  delta State.slewNew
  repeat' first
    | with_reducible assumption
    | with_reducible apply Frame.modCal
    | with_reducible apply Frame.setCal
    | with_reducible apply Frame.showSlewing
    | with_reducible refine Frame.ite ?_ ?_
    | (try lift_lets -underBinder); intro x; refine Frame.cut (x := x) ?_ ?_ <;> [subst x; (clear_value x; intro _)]
    | (try lift_lets -underBinder); intro x; first | subst x | skip
    | fail_if_no_progress with_reducible refine Frame.upd ?_

theorem Frame.calSwap (h : Frame μ s₀ s) (n : Nat) (h_cal : μ.cal = true) :
    Frame μ s₀ (State.calSwap s n) := by
  delta State.calSwap
  repeat' first
    | with_reducible assumption
    | with_reducible apply Frame.modCal
    | with_reducible apply Frame.setCal
    | (try lift_lets -underBinder); intro x; refine Frame.cut (x := x) ?_ ?_ <;> [subst x; (clear_value x; intro _)]
    | (try lift_lets -underBinder); intro x; first | subst x | skip
    | split
    | fail_if_no_progress with_reducible refine Frame.upd ?_

theorem Frame.showNvPend (h : Frame μ s₀ s) :
    Frame μ s₀ (State.showNvPend s) := by
  delta State.showNvPend
  repeat' first
    | with_reducible assumption
    | with_reducible apply Frame.setFb
    | (try lift_lets -underBinder); intro x; refine Frame.cut (x := x) ?_ ?_ <;> [subst x; (clear_value x; intro _)]
    | (try lift_lets -underBinder); intro x; first | subst x | skip

theorem Frame.calRecord (h : Frame μ s₀ s) (k : Nat) (v : List Int) (h_nv : μ.nv = true) (h_cal : μ.cal = true) :
    Frame μ s₀ (State.calRecord s k v) := by
  delta State.calRecord
  repeat' first
    | with_reducible assumption
    | with_reducible apply Frame.modCal
    | with_reducible apply Frame.showNvPend
    | with_reducible refine Frame.ite ?_ ?_
    | (try lift_lets -underBinder); intro x; refine Frame.cut (x := x) ?_ ?_ <;> [subst x; (clear_value x; intro _)]
    | (try lift_lets -underBinder); intro x; first | subst x | skip
    | split
    | fail_if_no_progress dsimp only
    | fail_if_no_progress with_reducible refine Frame.upd ?_

theorem Frame.calRetry (h : Frame μ s₀ s) (h_nv : μ.nv = true) (h_cal : μ.cal = true) :
    Frame μ s₀ (State.calRetry s) := by
  delta State.calRetry
  repeat' first
    | with_reducible assumption
    | with_reducible apply Frame.calRecord
    | with_reducible refine Frame.foldl ?_ ?_
    | (try lift_lets -underBinder); intro x; refine Frame.cut (x := x) ?_ ?_ <;> [subst x; (clear_value x; intro _)]
    | (try lift_lets -underBinder); intro x; first | subst x | skip
    | split
    | fail_if_no_progress with_reducible refine Frame.upd ?_

theorem Frame.calAgreed (h : Frame μ s₀ s) (k : Nat) (h_cal : μ.cal = true) :
    Frame μ s₀ (State.calAgreed s k) := by
  delta State.calAgreed
  repeat' first
    | with_reducible assumption
    | with_reducible apply Frame.incF
    | with_reducible apply Frame.modCal
    | with_reducible apply Frame.setFields
    | (try lift_lets -underBinder); intro x; refine Frame.cut (x := x) ?_ ?_ <;> [subst x; (clear_value x; intro _)]
    | (try lift_lets -underBinder); intro x; first | subst x | skip
    | fail_if_no_progress with_reducible refine Frame.upd ?_

theorem Frame.showFactory (h : Frame μ s₀ s) :
    Frame μ s₀ (State.showFactory s) := by
  delta State.showFactory
  repeat' first
    | with_reducible assumption
    | with_reducible apply Frame.setF
    | (try lift_lets -underBinder); intro x; refine Frame.cut (x := x) ?_ ?_ <;> [subst x; (clear_value x; intro _)]
    | (try lift_lets -underBinder); intro x; first | subst x | skip

theorem Frame.calDisagree (h : Frame μ s₀ s) (k : Nat) (h_health : μ.health = true) (h_flt : μ.flt = true) (h_cal : μ.cal = true) :
    Frame μ s₀ (State.calDisagree s k) := by
  delta State.calDisagree
  repeat' first
    | with_reducible assumption
    | with_reducible apply Frame.addF
    | with_reducible apply Frame.modCal
    | with_reducible apply Frame.raise
    | (try lift_lets -underBinder); intro x; refine Frame.cut (x := x) ?_ ?_ <;> [subst x; (clear_value x; intro _)]
    | (try lift_lets -underBinder); intro x; first | subst x | skip
    | fail_if_no_progress with_reducible refine Frame.upd ?_

theorem Frame.calValue (h : Frame μ s₀ s) (k : Nat) (a : List Int) (b : List Int) (h_health : μ.health = true) (h_flt : μ.flt = true) :
    Frame μ s₀ (State.calValue s k a b).1 := by
  delta State.calValue
  repeat' first
    | with_reducible assumption
    | with_reducible apply Frame.raise
    | with_reducible refine Frame.ite ?_ ?_
    | with_reducible refine Frame.ite_fst ?_ ?_
    | (try lift_lets -underBinder); intro x; refine Frame.cut (x := x) ?_ ?_ <;> [subst x; (clear_value x; intro _)]
    | (try lift_lets -underBinder); intro x; first | subst x | skip
    | split

theorem Frame.calValue_eq {c} {v} (h : Frame μ s₀ s) {k : Nat} {a : List Int} {b : List Int} (e : State.calValue s k a b = (c, v)) (h_health : μ.health = true) (h_flt : μ.flt = true) :
    Frame μ s₀ c := by
  have k := Frame.calValue h k a b h_health h_flt
  rwa [e] at k

theorem Frame.calPair (h : Frame μ s₀ s) (k : Nat) (a : List Int) (b : List Int) (h_nv : μ.nv = true) (h_health : μ.health = true) (h_flt : μ.flt = true) (h_cal : μ.cal = true) :
    Frame μ s₀ (State.calPair s k a b) := by
  delta State.calPair
  repeat' first
    | with_reducible assumption
    | with_reducible apply Frame.calAgreed
    | with_reducible apply Frame.calDisagree
    | with_reducible apply Frame.calRecord
    | with_reducible apply Frame.calValue
    | with_reducible refine Frame.calValue_eq ?_ (by assumption) ‹_› ‹_›
    | with_reducible apply Frame.modCal
    | with_reducible apply Frame.showFactory
    | with_reducible apply Frame.slewNew
    | with_reducible refine Frame.ite ?_ ?_
    | (try lift_lets -underBinder); intro x; refine Frame.cut (x := x) ?_ ?_ <;> [subst x; (clear_value x; intro _)]
    | (try lift_lets -underBinder); intro x; first | subst x | skip
    | split
    | fail_if_no_progress with_reducible refine Frame.upd ?_

theorem Frame.calDawnPair (h : Frame μ s₀ s) (k : Nat) (a : List Int) (b : List Int) (h_nv : μ.nv = true) (h_health : μ.health = true) (h_flt : μ.flt = true) (h_cal : μ.cal = true) :
    Frame μ s₀ (State.calDawnPair s k a b) := by
  delta State.calDawnPair
  repeat' first
    | with_reducible assumption
    | with_reducible apply Frame.calAgreed
    | with_reducible apply Frame.calDisagree
    | with_reducible apply Frame.calRecord
    | with_reducible apply Frame.calValue
    | with_reducible refine Frame.calValue_eq ?_ (by assumption) ‹_› ‹_›
    | with_reducible apply Frame.modCal
    | with_reducible apply Frame.setCal
    | with_reducible apply Frame.showFactory
    | with_reducible refine Frame.ite ?_ ?_
    | (try lift_lets -underBinder); intro x; refine Frame.cut (x := x) ?_ ?_ <;> [subst x; (clear_value x; intro _)]
    | (try lift_lets -underBinder); intro x; first | subst x | skip
    | split
    | fail_if_no_progress with_reducible refine Frame.upd ?_

theorem Frame.calLoad (h : Frame μ s₀ s) (k : Nat) (h_health : μ.health = true) (h_flt : μ.flt = true) (h_cal : μ.cal = true) :
    Frame μ s₀ (State.calLoad s k) := by
  delta State.calLoad
  repeat' first
    | with_reducible assumption
    | with_reducible apply Frame.modCal
    | with_reducible apply Frame.raise
    | with_reducible apply Frame.setCal
    | with_reducible refine Frame.ite ?_ ?_
    | (try lift_lets -underBinder); intro x; refine Frame.cut (x := x) ?_ ?_ <;> [subst x; (clear_value x; intro _)]
    | (try lift_lets -underBinder); intro x; first | subst x | skip
    | fail_if_no_progress with_reducible refine Frame.upd ?_

theorem Frame.calDawn (h : Frame μ s₀ s) (h_health : μ.health = true) (h_flt : μ.flt = true) (h_cal : μ.cal = true) :
    Frame μ s₀ (State.calDawn s) := by
  delta State.calDawn
  repeat' first
    | with_reducible assumption
    | with_reducible apply Frame.calLoad
    | with_reducible apply Frame.showFactory
    | with_reducible apply Frame.showSlewing
    | with_reducible refine Frame.foldl ?_ ?_
    | (try lift_lets -underBinder); intro x; refine Frame.cut (x := x) ?_ ?_ <;> [subst x; (clear_value x; intro _)]
    | (try lift_lets -underBinder); intro x; first | subst x | skip

theorem Frame.calDawnStart (h : Frame μ s₀ s) (h_cal : μ.cal = true) :
    Frame μ s₀ (State.calDawnStart s) := by
  delta State.calDawnStart
  repeat' first
    | with_reducible assumption
    | with_reducible apply Frame.modCal
    | with_reducible refine Frame.foldl ?_ ?_
    | (try lift_lets -underBinder); intro x; refine Frame.cut (x := x) ?_ ?_ <;> [subst x; (clear_value x; intro _)]
    | (try lift_lets -underBinder); intro x; first | subst x | skip
    | fail_if_no_progress with_reducible refine Frame.upd ?_

theorem Frame.calDue (h : Frame μ s₀ s) (k : Nat) (h_cal : μ.cal = true) :
    Frame μ s₀ (State.calDue s k) := by
  delta State.calDue
  repeat' first
    | with_reducible assumption
    | with_reducible apply Frame.modCal
    | with_reducible refine Frame.ite ?_ ?_
    | (try lift_lets -underBinder); intro x; refine Frame.cut (x := x) ?_ ?_ <;> [subst x; (clear_value x; intro _)]
    | (try lift_lets -underBinder); intro x; first | subst x | skip
    | fail_if_no_progress with_reducible refine Frame.upd ?_

theorem Frame.calAllDue (h : Frame μ s₀ s) (h_cal : μ.cal = true) :
    Frame μ s₀ (State.calAllDue s) := by
  delta State.calAllDue
  repeat' first
    | with_reducible assumption
    | with_reducible apply Frame.calDue
    | with_reducible refine Frame.foldl ?_ ?_
    | (try lift_lets -underBinder); intro x; refine Frame.cut (x := x) ?_ ?_ <;> [subst x; (clear_value x; intro _)]
    | (try lift_lets -underBinder); intro x; first | subst x | skip

theorem Frame.calAbandon (h : Frame μ s₀ s) (w : Nat) (h_cal : μ.cal = true) :
    Frame μ s₀ (State.calAbandon s w) := by
  delta State.calAbandon
  repeat' first
    | with_reducible assumption
    | with_reducible apply Frame.modCal
    | with_reducible refine Frame.ite ?_ ?_
    | with_reducible refine Frame.foldl ?_ ?_
    | (try lift_lets -underBinder); intro x; refine Frame.cut (x := x) ?_ ?_ <;> [subst x; (clear_value x; intro _)]
    | (try lift_lets -underBinder); intro x; first | subst x | skip
    | fail_if_no_progress with_reducible refine Frame.upd ?_

theorem Frame.calDrop (h : Frame μ s₀ s) (h_cal : μ.cal = true) :
    Frame μ s₀ (State.calDrop s) := by
  delta State.calDrop
  repeat' first
    | with_reducible assumption
    | with_reducible apply Frame.modCal
    | with_reducible refine Frame.ite ?_ ?_
    | with_reducible refine Frame.foldl ?_ ?_
    | (try lift_lets -underBinder); intro x; refine Frame.cut (x := x) ?_ ?_ <;> [subst x; (clear_value x; intro _)]
    | (try lift_lets -underBinder); intro x; first | subst x | skip
    | fail_if_no_progress with_reducible refine Frame.upd ?_

theorem Frame.calApply (h : Frame μ s₀ s) (p : CalPolicy) (h_cal : μ.cal = true) :
    Frame μ s₀ (State.calApply s p) := by
  delta State.calApply
  repeat' first
    | with_reducible assumption
    | with_reducible apply Frame.modCal
    | with_reducible apply Frame.setCal
    | with_reducible apply Frame.showDacs
    | with_reducible apply Frame.showSlewing
    | with_reducible apply Frame.slewTo
    | with_reducible refine Frame.ite ?_ ?_
    | with_reducible refine Frame.foldl ?_ ?_
    | (try lift_lets -underBinder); intro x; refine Frame.cut (x := x) ?_ ?_ <;> [subst x; (clear_value x; intro _)]
    | (try lift_lets -underBinder); intro x; first | subst x | skip
    | fail_if_no_progress with_reducible refine Frame.upd ?_

theorem Frame.countEdge (h : Frame μ s₀ s) (ph : List Nat) (h_cal : μ.cal = true) :
    Frame μ s₀ (State.countEdge s ph) := by
  delta State.countEdge
  repeat' first
    | with_reducible assumption
    | with_reducible apply Frame.modCal
    | with_reducible refine Frame.ite ?_ ?_
    | with_reducible refine Frame.foldl ?_ ?_
    | (try lift_lets -underBinder); intro x; refine Frame.cut (x := x) ?_ ?_ <;> [subst x; (clear_value x; intro _)]
    | (try lift_lets -underBinder); intro x; first | subst x | skip
    | fail_if_no_progress with_reducible refine Frame.upd ?_

/-! ### Machine/FireOps.lean -/

theorem Frame.modPin (h : Frame μ s₀ s) (n : Nat) (g : PosIn → PosIn) (h_pos : μ.pos = true) :
    Frame μ s₀ (State.modPin s n g) := by
  delta State.modPin
  repeat' first
    | with_reducible assumption
    | fail_if_no_progress with_reducible refine Frame.upd ?_

theorem Frame.resetFire (h : Frame μ s₀ s) (n : Nat) (h_fire : μ.fire = true) :
    Frame μ s₀ (State.resetFire s n) := by
  delta State.resetFire
  repeat' first
    | with_reducible assumption
    | with_reducible apply Frame.modFire
    | with_reducible apply Frame.setFields
    | with_reducible apply Frame.setFs
    | with_reducible refine Frame.ite ?_ ?_
    | (try lift_lets -underBinder); intro x; refine Frame.cut (x := x) ?_ ?_ <;> [subst x; (clear_value x; intro _)]
    | (try lift_lets -underBinder); intro x; first | subst x | skip
    | split
    | fail_if_no_progress dsimp only
    | fail_if_no_progress with_reducible refine Frame.upd ?_

theorem Frame.refFrac (h : Frame μ s₀ s) (n : Nat) (h_health : μ.health = true) (h_flt : μ.flt = true) :
    Frame μ s₀ (State.refFrac s n) := by
  delta State.refFrac
  repeat' first
    | with_reducible assumption
    | with_reducible apply Frame.raiseLane
    | with_reducible refine Frame.ite ?_ ?_
    | split
    | fail_if_no_progress with_reducible refine Frame.upd ?_

theorem Frame.armPass (h : Frame μ s₀ s) (n : Nat) (p : Nat) (start : Nat) (h_fire : μ.fire = true) (h_lanes : μ.lanes = true) (h_health : μ.health = true) (h_flt : μ.flt = true) :
    Frame μ s₀ (State.armPass s n p start) := by
  delta State.armPass
  repeat' first
    | with_reducible assumption
    | with_reducible apply Frame.modLane
    | with_reducible apply Frame.refFrac
    | with_reducible apply Frame.resetFire
    | with_reducible apply Frame.setFields
    | with_reducible refine Frame.ite ?_ ?_
    | (try lift_lets -underBinder); intro x; refine Frame.cut (x := x) ?_ ?_ <;> [subst x; (clear_value x; intro _)]
    | (try lift_lets -underBinder); intro x; first | subst x | skip
    | split
    | fail_if_no_progress dsimp only
    | fail_if_no_progress with_reducible refine Frame.upd ?_

theorem Frame.showPlan (h : Frame μ s₀ s) :
    Frame μ s₀ (State.showPlan s) := by
  delta State.showPlan
  repeat' first
    | with_reducible assumption
    | with_reducible apply Frame.setF
    | with_reducible refine Frame.foldl ?_ ?_
    | (try lift_lets -underBinder); intro x; refine Frame.cut (x := x) ?_ ?_ <;> [subst x; (clear_value x; intro _)]
    | (try lift_lets -underBinder); intro x; first | subst x | skip

theorem Frame.brokerPause (h : Frame μ s₀ s) (w : Nat) (us : Nat) (h_wins : μ.wins = true) :
    Frame μ s₀ (State.brokerPause s w us) := by
  delta State.brokerPause
  repeat' first
    | with_reducible assumption
    | with_reducible apply Frame.addF
    | with_reducible apply Frame.pauseUntil
    | with_reducible apply Frame.setF

theorem Frame.holdDoc (h : Frame μ s₀ s) (w : Nat) (b : Bool) (h_wins : μ.wins = true) :
    Frame μ s₀ (State.holdDoc s w b) := by
  delta State.holdDoc
  repeat' first
    | with_reducible assumption
    | with_reducible apply Frame.modWin
    | (try lift_lets -underBinder); intro x; refine Frame.cut (x := x) ?_ ?_ <;> [subst x; (clear_value x; intro _)]
    | (try lift_lets -underBinder); intro x; first | subst x | skip
    | fail_if_no_progress with_reducible refine Frame.upd ?_

theorem Frame.pauseFor (h : Frame μ s₀ s) (w : Nat) (us : Nat) (h_wins : μ.wins = true) :
    Frame μ s₀ (State.pauseFor s w us) := by
  delta State.pauseFor
  repeat' first
    | with_reducible assumption
    | with_reducible apply Frame.brokerPause
    | with_reducible refine Frame.ite ?_ ?_

theorem Frame.admitDoc (h : Frame μ s₀ s) (w : Nat) (h_wins : μ.wins = true) (h_health : μ.health = true) (h_flt : μ.flt = true) :
    Frame μ s₀ (State.admitDoc s w) := by
  delta State.admitDoc
  repeat' first
    | with_reducible assumption
    | with_reducible apply Frame.brokerPause
    | with_reducible apply Frame.holdDoc
    | with_reducible apply Frame.pauseFor
    | with_reducible apply Frame.raise
    | with_reducible refine Frame.ite ?_ ?_
    | (try lift_lets -underBinder); intro x; refine Frame.cut (x := x) ?_ ?_ <;> [subst x; (clear_value x; intro _)]
    | (try lift_lets -underBinder); intro x; first | subst x | skip
    | split
    | fail_if_no_progress dsimp only
    | fail_if_no_progress with_reducible refine Frame.upd ?_

theorem Frame.clearScanned (h : Frame μ s₀ s) (w : Nat) (h_tileH : μ.tileH = true) :
    Frame μ s₀ (State.clearScanned s w) := by
  delta State.clearScanned
  repeat' first
    | with_reducible assumption
    | with_reducible apply Frame.modTh
    | with_reducible refine Frame.foldl ?_ ?_
    | (try lift_lets -underBinder); intro x; refine Frame.cut (x := x) ?_ ?_ <;> [subst x; (clear_value x; intro _)]
    | (try lift_lets -underBinder); intro x; first | subst x | skip
    | fail_if_no_progress with_reducible refine Frame.upd ?_

theorem Frame.abandonGap (h : Frame μ s₀ s) (w : Nat) (h_tileH : μ.tileH = true) (h_cal : μ.cal = true) :
    Frame μ s₀ (State.abandonGap s w) := by
  delta State.abandonGap
  repeat' first
    | with_reducible assumption
    | with_reducible apply Frame.calAbandon
    | with_reducible apply Frame.clearScanned

theorem Frame.checkExtent (h : Frame μ s₀ s) (w : Nat) (h_wins : μ.wins = true) (h_health : μ.health = true) (h_flt : μ.flt = true) :
    Frame μ s₀ (State.checkExtent s w) := by
  delta State.checkExtent
  repeat' first
    | with_reducible assumption
    | with_reducible apply Frame.modWin
    | with_reducible apply Frame.raise
    | with_reducible refine Frame.ite ?_ ?_
    | (try lift_lets -underBinder); intro x; refine Frame.cut (x := x) ?_ ?_ <;> [subst x; (clear_value x; intro _)]
    | (try lift_lets -underBinder); intro x; first | subst x | skip
    | split
    | fail_if_no_progress with_reducible refine Frame.upd ?_

theorem Frame.showLast (h : Frame μ s₀ s) (w : Nat) :
    Frame μ s₀ (State.showLast s w) := by
  delta State.showLast
  repeat' first
    | with_reducible assumption
    | with_reducible apply Frame.setF
    | split
    | fail_if_no_progress with_reducible refine Frame.upd ?_

theorem Frame.maskKind (h : Frame μ s₀ s) (m : Option MaskSet) (n : Nat) (h_health : μ.health = true) (h_flt : μ.flt = true) :
    Frame μ s₀ (State.maskKind s m n) := by
  delta State.maskKind
  repeat' first
    | with_reducible assumption
    | with_reducible apply Frame.raiseLane
    | with_reducible apply Frame.setF
    | with_reducible refine Frame.ite ?_ ?_
    | split
    | fail_if_no_progress with_reducible refine Frame.upd ?_

theorem Frame.beginDoc (h : Frame μ s₀ s) (w : Nat) (d : Doc) (h_fire : μ.fire = true) (h_wins : μ.wins = true) (h_tileH : μ.tileH = true) (h_lanes : μ.lanes = true) (h_health : μ.health = true) (h_pwr : μ.pwr = true) (h_flt : μ.flt = true) (h_cal : μ.cal = true) (h_svc : μ.svc = true) :
    Frame μ s₀ (State.beginDoc s w d) := by
  delta State.beginDoc
  repeat' first
    | with_reducible assumption
    | with_reducible apply Frame.abandonGap
    | with_reducible apply Frame.armPass
    | with_reducible apply Frame.checkExtent
    | with_reducible apply Frame.endPause
    | with_reducible apply Frame.handCues
    | with_reducible apply Frame.maskKind
    | with_reducible apply Frame.modFire
    | with_reducible apply Frame.modWin
    | with_reducible apply Frame.setAcct
    | with_reducible apply Frame.setF
    | with_reducible apply Frame.setFields
    | with_reducible apply Frame.showLast
    | with_reducible apply Frame.showPausing
    | with_reducible apply Frame.showPlan
    | with_reducible refine Frame.ite ?_ ?_
    | with_reducible refine Frame.foldl ?_ ?_
    | (try lift_lets -underBinder); intro x; refine Frame.cut (x := x) ?_ ?_ <;> [subst x; (clear_value x; intro _)]
    | (try lift_lets -underBinder); intro x; first | subst x | skip
    | fail_if_no_progress with_reducible refine Frame.upd ?_

theorem Frame.acceptOpen (h : Frame μ s₀ s) (w : Nat) (h_fire : μ.fire = true) (h_wins : μ.wins = true) (h_tileH : μ.tileH = true) (h_lanes : μ.lanes = true) (h_health : μ.health = true) (h_comp : μ.comp = true) (h_pwr : μ.pwr = true) (h_flt : μ.flt = true) (h_cal : μ.cal = true) (h_svc : μ.svc = true) :
    Frame μ s₀ (State.acceptOpen s w) := by
  delta State.acceptOpen
  repeat' first
    | with_reducible assumption
    | with_reducible apply Frame.beginDoc
    | with_reducible apply Frame.modDoc
    | with_reducible apply Frame.modWin
    | with_reducible apply Frame.showQueue
    | with_reducible refine Frame.ite ?_ ?_
    | (try lift_lets -underBinder); intro x; refine Frame.cut (x := x) ?_ ?_ <;> [subst x; (clear_value x; intro _)]
    | (try lift_lets -underBinder); intro x; first | subst x | skip
    | split
    | fail_if_no_progress dsimp only
    | fail_if_no_progress with_reducible refine Frame.upd ?_

theorem Frame.openPattern (h : Frame μ s₀ s) (w : Nat) (h_fire : μ.fire = true) (h_wins : μ.wins = true) (h_tileH : μ.tileH = true) (h_lanes : μ.lanes = true) (h_health : μ.health = true) (h_pwr : μ.pwr = true) (h_flt : μ.flt = true) (h_cal : μ.cal = true) (h_svc : μ.svc = true) :
    Frame μ s₀ (State.openPattern s w) := by
  delta State.openPattern
  repeat' first
    | with_reducible assumption
    | with_reducible apply Frame.beginDoc

theorem Frame.discardOpen (h : Frame μ s₀ s) (w : Nat) :
    Frame μ s₀ (State.discardOpen s w) := by
  delta State.discardOpen
  repeat' first
    | with_reducible assumption
    | with_reducible apply Frame.addF

theorem Frame.openWin (h : Frame μ s₀ s) (w : Nat) (h_fire : μ.fire = true) (h_wins : μ.wins = true) (h_tileH : μ.tileH = true) (h_lanes : μ.lanes = true) (h_health : μ.health = true) (h_comp : μ.comp = true) (h_pwr : μ.pwr = true) (h_flt : μ.flt = true) (h_cal : μ.cal = true) (h_svc : μ.svc = true) :
    Frame μ s₀ (State.openWin s w) := by
  delta State.openWin
  repeat' first
    | with_reducible assumption
    | with_reducible apply Frame.acceptOpen
    | with_reducible apply Frame.addF
    | with_reducible apply Frame.discardOpen
    | with_reducible apply Frame.modWin
    | with_reducible apply Frame.raise
    | with_reducible apply Frame.setF
    | with_reducible refine Frame.ite ?_ ?_
    | (try lift_lets -underBinder); intro x; refine Frame.cut (x := x) ?_ ?_ <;> [subst x; (clear_value x; intro _)]
    | (try lift_lets -underBinder); intro x; first | subst x | skip
    | fail_if_no_progress with_reducible refine Frame.upd ?_

theorem Frame.writeJoin (h : Frame μ s₀ s) (j : JoinDoc) (h_host : μ.host = true) (h_dma : μ.dma = true) (h_ring : μ.ring = true) :
    Frame μ s₀ (State.writeJoin s j) := by
  delta State.writeJoin
  repeat' first
    | with_reducible assumption
    | with_reducible apply Frame.docRecord
    | with_reducible refine Frame.ite ?_ ?_
    | with_reducible refine Frame.foldl ?_ ?_
    | (try lift_lets -underBinder); intro x; refine Frame.cut (x := x) ?_ ?_ <;> [subst x; (clear_value x; intro _)]
    | (try lift_lets -underBinder); intro x; first | subst x | skip

theorem Frame.addReport (h : Frame μ s₀ s) (win : Nat) (tag : Nat) (rep : Nat) (eid : Nat) (status : Nat) (last : Nat) (skipped : Nat) (own : Option (Nat × Nat × Nat)) (h_host : μ.host = true) (h_dma : μ.dma = true) (h_ring : μ.ring = true) :
    Frame μ s₀ (State.addReport s win tag rep eid status last skipped own) := by
  delta State.addReport
  repeat' first
    | with_reducible assumption
    | with_reducible apply Frame.writeJoin
    | with_reducible refine Frame.ite ?_ ?_
    | (try lift_lets -underBinder); intro x; refine Frame.cut (x := x) ?_ ?_ <;> [subst x; (clear_value x; intro _)]
    | (try lift_lets -underBinder); intro x; first | subst x | skip
    | split
    | fail_if_no_progress dsimp only
    | fail_if_no_progress with_reducible refine Frame.upd ?_

theorem Frame.docEnd (h : Frame μ s₀ s) (w : Nat) (stream : Nat) (tag : Nat) (rep : Nat) (status : Nat) (seq : Nat) (last : Nat) (skipped : Nat) (short : Bool) (test : Bool) (h_host : μ.host = true) (h_dma : μ.dma = true) (h_ring : μ.ring = true) :
    Frame μ s₀ (State.docEnd s w stream tag rep status seq last skipped short test) := by
  delta State.docEnd
  repeat' first
    | with_reducible assumption
    | with_reducible apply Frame.addReport
    | with_reducible apply Frame.docRecord
    | with_reducible apply Frame.sendReq
    | with_reducible apply Frame.setF
    | with_reducible refine Frame.ite ?_ ?_
    | (try lift_lets -underBinder); intro x; refine Frame.cut (x := x) ?_ ?_ <;> [subst x; (clear_value x; intro _)]
    | (try lift_lets -underBinder); intro x; first | subst x | skip

theorem Frame.completeDoc (h : Frame μ s₀ s) (w : Nat) (h_sys : μ.sys = true) (h_pos : μ.pos = true) (h_fire : μ.fire = true) (h_wins : μ.wins = true) (h_tileH : μ.tileH = true) (h_health : μ.health = true) (h_comp : μ.comp = true) (h_host : μ.host = true) (h_dma : μ.dma = true) (h_ring : μ.ring = true) (h_flt : μ.flt = true) (h_pmc : μ.pmc = true) :
    Frame μ s₀ (State.completeDoc s w) := by
  delta State.completeDoc
  repeat' first
    | with_reducible assumption
    | with_reducible apply Frame.count
    | with_reducible apply Frame.docEnd
    | with_reducible apply Frame.emitSrc
    | with_reducible apply Frame.endPulseDoc
    | with_reducible apply Frame.modFire
    | with_reducible apply Frame.modWin
    | with_reducible apply Frame.setF
    | with_reducible apply Frame.setFields
    | with_reducible apply Frame.showComp
    | with_reducible apply Frame.showPlan
    | with_reducible apply Frame.showQueue
    | with_reducible apply Frame.tagRecord
    | with_reducible refine Frame.ite ?_ ?_
    | with_reducible refine Frame.foldl ?_ ?_
    | (try lift_lets -underBinder); intro x; refine Frame.cut (x := x) ?_ ?_ <;> [subst x; (clear_value x; intro _)]
    | (try lift_lets -underBinder); intro x; first | subst x | skip
    | split
    | fail_if_no_progress dsimp only
    | fail_if_no_progress with_reducible refine Frame.upd ?_

theorem Frame.tryComplete (h : Frame μ s₀ s) (w : Nat) (h_sys : μ.sys = true) (h_pos : μ.pos = true) (h_fire : μ.fire = true) (h_wins : μ.wins = true) (h_tileH : μ.tileH = true) (h_health : μ.health = true) (h_comp : μ.comp = true) (h_host : μ.host = true) (h_dma : μ.dma = true) (h_ring : μ.ring = true) (h_flt : μ.flt = true) (h_pmc : μ.pmc = true) :
    Frame μ s₀ (State.tryComplete s w) := by
  delta State.tryComplete
  repeat' first
    | with_reducible assumption
    | with_reducible apply Frame.completeDoc
    | with_reducible refine Frame.ite ?_ ?_
    | (try lift_lets -underBinder); intro x; refine Frame.cut (x := x) ?_ ?_ <;> [subst x; (clear_value x; intro _)]
    | (try lift_lets -underBinder); intro x; first | subst x | skip

theorem Frame.checkPass (h : Frame μ s₀ s) (n : Nat) (w : Nat) (d : Doc) (h_fire : μ.fire = true) (h_lanes : μ.lanes = true) (h_health : μ.health = true) (h_flt : μ.flt = true) :
    Frame μ s₀ (State.checkPass s n w d) := by
  delta State.checkPass
  repeat' first
    | with_reducible assumption
    | with_reducible apply Frame.armPass
    | with_reducible apply Frame.modFire
    | with_reducible apply Frame.setF
    | with_reducible refine Frame.ite ?_ ?_
    | with_reducible refine Frame.foldl ?_ ?_
    | (try lift_lets -underBinder); intro x; refine Frame.cut (x := x) ?_ ?_ <;> [subst x; (clear_value x; intro _)]
    | (try lift_lets -underBinder); intro x; first | subst x | skip
    | split
    | fail_if_no_progress dsimp only
    | fail_if_no_progress with_reducible refine Frame.upd ?_

theorem Frame.checkPasses (h : Frame μ s₀ s) (w : Nat) (h_sys : μ.sys = true) (h_pos : μ.pos = true) (h_fire : μ.fire = true) (h_wins : μ.wins = true) (h_tileH : μ.tileH = true) (h_lanes : μ.lanes = true) (h_health : μ.health = true) (h_comp : μ.comp = true) (h_host : μ.host = true) (h_dma : μ.dma = true) (h_ring : μ.ring = true) (h_flt : μ.flt = true) (h_pmc : μ.pmc = true) :
    Frame μ s₀ (State.checkPasses s w) := by
  delta State.checkPasses
  repeat' first
    | with_reducible assumption
    | with_reducible apply Frame.checkPass
    | with_reducible apply Frame.tryComplete
    | with_reducible refine Frame.ite ?_ ?_
    | with_reducible refine Frame.foldl ?_ ?_
    | (try lift_lets -underBinder); intro x; refine Frame.cut (x := x) ?_ ?_ <;> [subst x; (clear_value x; intro _)]
    | (try lift_lets -underBinder); intro x; first | subst x | skip
    | split
    | fail_if_no_progress with_reducible refine Frame.upd ?_

theorem Frame.cutPackets (h : Frame μ s₀ s) (w : Nat) (d : Doc) (h_lanes : μ.lanes = true) (h_ports : μ.ports = true) :
    Frame μ s₀ (State.cutPackets s w d) := by
  delta State.cutPackets
  repeat' first
    | with_reducible assumption
    | with_reducible apply Frame.modLane
    | with_reducible apply Frame.modPort
    | with_reducible refine Frame.foldl ?_ ?_
    | (try lift_lets -underBinder); intro x; refine Frame.cut (x := x) ?_ ?_ <;> [subst x; (clear_value x; intro _)]
    | (try lift_lets -underBinder); intro x; first | subst x | skip
    | split
    | fail_if_no_progress dsimp only
    | fail_if_no_progress with_reducible refine Frame.upd ?_

theorem Frame.closeWin (h : Frame μ s₀ s) (w : Nat) (h_sys : μ.sys = true) (h_pos : μ.pos = true) (h_fire : μ.fire = true) (h_wins : μ.wins = true) (h_tileH : μ.tileH = true) (h_lanes : μ.lanes = true) (h_health : μ.health = true) (h_comp : μ.comp = true) (h_host : μ.host = true) (h_dma : μ.dma = true) (h_ring : μ.ring = true) (h_ports : μ.ports = true) (h_flt : μ.flt = true) (h_pmc : μ.pmc = true) :
    Frame μ s₀ (State.closeWin s w) := by
  delta State.closeWin
  repeat' first
    | with_reducible assumption
    | with_reducible apply Frame.checkExtent
    | with_reducible apply Frame.checkPasses
    | with_reducible apply Frame.cutPackets
    | with_reducible apply Frame.modWin
    | with_reducible apply Frame.raise
    | with_reducible apply Frame.setF
    | with_reducible apply Frame.showLast
    | with_reducible refine Frame.ite ?_ ?_
    | (try lift_lets -underBinder); intro x; refine Frame.cut (x := x) ?_ ?_ <;> [subst x; (clear_value x; intro _)]
    | (try lift_lets -underBinder); intro x; first | subst x | skip
    | split
    | fail_if_no_progress dsimp only
    | fail_if_no_progress with_reducible refine Frame.upd ?_

theorem Frame.askStop (h : Frame μ s₀ s) (w : Nat) (h_wins : μ.wins = true) :
    Frame μ s₀ (State.askStop s w) := by
  delta State.askStop
  repeat' first
    | with_reducible assumption
    | with_reducible apply Frame.modWin
    | with_reducible refine Frame.ite ?_ ?_
    | (try lift_lets -underBinder); intro x; refine Frame.cut (x := x) ?_ ?_ <;> [subst x; (clear_value x; intro _)]
    | (try lift_lets -underBinder); intro x; first | subst x | skip
    | fail_if_no_progress with_reducible refine Frame.upd ?_

theorem Frame.applyStop (h : Frame μ s₀ s) (w : Nat) (h_sys : μ.sys = true) (h_pos : μ.pos = true) (h_fire : μ.fire = true) (h_wins : μ.wins = true) (h_tileH : μ.tileH = true) (h_lanes : μ.lanes = true) (h_health : μ.health = true) (h_comp : μ.comp = true) (h_host : μ.host = true) (h_dma : μ.dma = true) (h_ring : μ.ring = true) (h_ports : μ.ports = true) (h_flt : μ.flt = true) (h_pmc : μ.pmc = true) :
    Frame μ s₀ (State.applyStop s w) := by
  delta State.applyStop
  repeat' first
    | with_reducible assumption
    | with_reducible apply Frame.checkPasses
    | with_reducible apply Frame.cutPackets
    | with_reducible apply Frame.modWin
    | with_reducible apply Frame.setF
    | with_reducible apply Frame.showLast
    | with_reducible refine Frame.ite ?_ ?_
    | with_reducible refine Frame.foldl ?_ ?_
    | (try lift_lets -underBinder); intro x; refine Frame.cut (x := x) ?_ ?_ <;> [subst x; (clear_value x; intro _)]
    | (try lift_lets -underBinder); intro x; first | subst x | skip
    | split
    | fail_if_no_progress dsimp only
    | fail_if_no_progress with_reducible refine Frame.upd ?_

theorem Frame.liveSwap (h : Frame μ s₀ s) (w : Nat) (hold : Nat) (h_cfg : μ.cfg = true) (h_pos : μ.pos = true) (h_fire : μ.fire = true) (h_health : μ.health = true) (h_flt : μ.flt = true) (h_svc : μ.svc = true) :
    Frame μ s₀ (State.liveSwap s w hold) := by
  delta State.liveSwap
  repeat' first
    | with_reducible assumption
    | with_reducible apply Frame.holdCues
    | with_reducible apply Frame.modPin
    | with_reducible apply Frame.resetFire
    | with_reducible apply Frame.setFields
    | with_reducible apply Frame.showCues
    | with_reducible refine Frame.ite ?_ ?_
    | with_reducible refine Frame.foldl ?_ ?_
    | (try lift_lets -underBinder); intro x; refine Frame.cut (x := x) ?_ ?_ <;> [subst x; (clear_value x; intro _)]
    | (try lift_lets -underBinder); intro x; first | subst x | skip
    | split
    | fail_if_no_progress dsimp only
    | fail_if_no_progress with_reducible refine Frame.upd ?_

theorem Frame.swapWin (h : Frame μ s₀ s) (w : Nat) (h_cfg : μ.cfg = true) (h_pos : μ.pos = true) (h_fire : μ.fire = true) (h_wins : μ.wins = true) (h_noz : μ.noz = true) (h_tileH : μ.tileH = true) (h_health : μ.health = true) (h_ports : μ.ports = true) (h_flt : μ.flt = true) (h_cal : μ.cal = true) (h_svc : μ.svc = true) :
    Frame μ s₀ (State.swapWin s w) := by
  delta State.swapWin
  repeat' first
    | with_reducible assumption
    | with_reducible apply Frame.bypassTile
    | with_reducible apply Frame.calSwap
    | with_reducible apply Frame.healthSwap
    | with_reducible apply Frame.liveSwap
    | with_reducible apply Frame.modPort
    | with_reducible apply Frame.modWin
    | with_reducible apply Frame.serveRolls
    | with_reducible apply Frame.serveSpares
    | with_reducible refine Frame.ite ?_ ?_
    | with_reducible refine Frame.foldl ?_ ?_
    | (try lift_lets -underBinder); intro x; refine Frame.cut (x := x) ?_ ?_ <;> [subst x; (clear_value x; intro _)]
    | (try lift_lets -underBinder); intro x; first | subst x | skip
    | fail_if_no_progress with_reducible refine Frame.upd ?_

theorem Frame.tryDeliver (h : Frame μ s₀ s) (w : Nat) (h_wins : μ.wins = true) (h_health : μ.health = true) (h_comp : μ.comp = true) (h_flt : μ.flt = true) :
    Frame μ s₀ (State.tryDeliver s w) := by
  delta State.tryDeliver
  repeat' first
    | with_reducible assumption
    | with_reducible apply Frame.admitDoc
    | with_reducible apply Frame.modDoc
    | with_reducible apply Frame.setF
    | with_reducible apply Frame.showQueue
    | with_reducible refine Frame.ite ?_ ?_
    | with_reducible refine Frame.foldl ?_ ?_
    | (try lift_lets -underBinder); intro x; refine Frame.cut (x := x) ?_ ?_ <;> [subst x; (clear_value x; intro _)]
    | (try lift_lets -underBinder); intro x; first | subst x | skip
    | split
    | fail_if_no_progress dsimp only
    | fail_if_no_progress with_reducible refine Frame.upd ?_

theorem Frame.beginGap (h : Frame μ s₀ s) (w : Nat) (h_nv : μ.nv = true) (h_cfg : μ.cfg = true) (h_pos : μ.pos = true) (h_fire : μ.fire = true) (h_wins : μ.wins = true) (h_noz : μ.noz = true) (h_tileH : μ.tileH = true) (h_health : μ.health = true) (h_comp : μ.comp = true) (h_ports : μ.ports = true) (h_flt : μ.flt = true) (h_cal : μ.cal = true) (h_svc : μ.svc = true) :
    Frame μ s₀ (State.beginGap s w) := by
  delta State.beginGap
  repeat' first
    | with_reducible assumption
    | with_reducible apply Frame.admitDoc
    | with_reducible apply Frame.calRetry
    | with_reducible apply Frame.clearScanned
    | with_reducible apply Frame.modWin
    | with_reducible apply Frame.planEnergies
    | with_reducible apply Frame.swapWin
    | with_reducible apply Frame.thermalGap
    | with_reducible apply Frame.tryDeliver
    | with_reducible apply Frame.usageWrite
    | with_reducible refine Frame.ite ?_ ?_
    | with_reducible refine Frame.foldl ?_ ?_
    | (try lift_lets -underBinder); intro x; refine Frame.cut (x := x) ?_ ?_ <;> [subst x; (clear_value x; intro _)]
    | (try lift_lets -underBinder); intro x; first | subst x | skip
    | fail_if_no_progress with_reducible refine Frame.upd ?_

theorem Frame.windowLine (h : Frame μ s₀ s) (w : Nat) (h_nv : μ.nv = true) (h_sys : μ.sys = true) (h_cfg : μ.cfg = true) (h_pos : μ.pos = true) (h_fire : μ.fire = true) (h_wins : μ.wins = true) (h_noz : μ.noz = true) (h_tileH : μ.tileH = true) (h_lanes : μ.lanes = true) (h_health : μ.health = true) (h_comp : μ.comp = true) (h_host : μ.host = true) (h_dma : μ.dma = true) (h_ring : μ.ring = true) (h_ports : μ.ports = true) (h_pwr : μ.pwr = true) (h_flt : μ.flt = true) (h_cal : μ.cal = true) (h_pmc : μ.pmc = true) (h_svc : μ.svc = true) :
    Frame μ s₀ (State.windowLine s w) := by
  delta State.windowLine
  repeat' first
    | with_reducible assumption
    | with_reducible apply Frame.acceptOpen
    | with_reducible apply Frame.applyStop
    | with_reducible apply Frame.beginGap
    | with_reducible apply Frame.modWin
    | with_reducible apply Frame.swapWin
    | with_reducible refine Frame.ite ?_ ?_
    | (try lift_lets -underBinder); intro x; refine Frame.cut (x := x) ?_ ?_ <;> [subst x; (clear_value x; intro _)]
    | (try lift_lets -underBinder); intro x; first | subst x | skip
    | fail_if_no_progress with_reducible refine Frame.upd ?_

theorem Frame.noteSwaps (h : Frame μ s₀ s) (h_wins : μ.wins = true) :
    Frame μ s₀ (State.noteSwaps s) := by
  delta State.noteSwaps
  repeat' first
    | with_reducible assumption
    | with_reducible apply Frame.modWin
    | with_reducible refine Frame.ite ?_ ?_
    | with_reducible refine Frame.foldl ?_ ?_
    | (try lift_lets -underBinder); intro x; refine Frame.cut (x := x) ?_ ?_ <;> [subst x; (clear_value x; intro _)]
    | (try lift_lets -underBinder); intro x; first | subst x | skip
    | fail_if_no_progress with_reducible refine Frame.upd ?_

theorem Frame.showReversed (h : Frame μ s₀ s) (n : Nat) :
    Frame μ s₀ (State.showReversed s n) := by
  delta State.showReversed
  repeat' first
    | with_reducible assumption
    | with_reducible apply Frame.setFb

theorem Frame.dropPacket (h : Frame μ s₀ s) (n : Nat) (f : Nat) (h_lanes : μ.lanes = true) (h_ports : μ.ports = true) (h_pmc : μ.pmc = true) :
    Frame μ s₀ (State.dropPacket s n f) := by
  delta State.dropPacket
  repeat' first
    | with_reducible assumption
    | with_reducible refine Frame.emit ?_ _ (.inr rfl)
    | with_reducible apply Frame.modLane
    | with_reducible apply Frame.modPort
    | with_reducible apply Frame.tagRecord
    | (try lift_lets -underBinder); intro x; refine Frame.cut (x := x) ?_ ?_ <;> [subst x; (clear_value x; intro _)]
    | (try lift_lets -underBinder); intro x; first | subst x | skip
    | split
    | fail_if_no_progress dsimp only
    | fail_if_no_progress with_reducible refine Frame.upd ?_

theorem Frame.takeCycle (h : Frame μ s₀ s) (n : Nat) (w : Nat) (f : Nat) (target : Nat) (d : Doc) (h_fire : μ.fire = true) (h_wins : μ.wins = true) (h_lanes : μ.lanes = true) (h_health : μ.health = true) (h_ports : μ.ports = true) (h_flt : μ.flt = true) (h_pmc : μ.pmc = true) :
    Frame μ s₀ (State.takeCycle s n w f target d) := by
  delta State.takeCycle
  repeat' first
    | with_reducible assumption
    | with_reducible apply Frame.addF
    | with_reducible apply Frame.count
    | with_reducible apply Frame.dropPacket
    | with_reducible apply Frame.modFire
    | with_reducible apply Frame.modWin
    | with_reducible apply Frame.raiseLane
    | with_reducible apply Frame.setF
    | with_reducible refine Frame.ite ?_ ?_
    | (try lift_lets -underBinder); intro x; refine Frame.cut (x := x) ?_ ?_ <;> [subst x; (clear_value x; intro _)]
    | (try lift_lets -underBinder); intro x; first | subst x | skip
    | split
    | fail_if_no_progress dsimp only
    | fail_if_no_progress with_reducible refine Frame.upd ?_

theorem Frame.fireEvent (h : Frame μ s₀ s) (n : Nat) (f : Nat) (fwd : Bool) (stamp : Nat) (h_sys : μ.sys = true) (h_pos : μ.pos = true) (h_fire : μ.fire = true) (h_wins : μ.wins = true) (h_tileH : μ.tileH = true) (h_lanes : μ.lanes = true) (h_health : μ.health = true) (h_comp : μ.comp = true) (h_host : μ.host = true) (h_dma : μ.dma = true) (h_ring : μ.ring = true) (h_ports : μ.ports = true) (h_flt : μ.flt = true) (h_pmc : μ.pmc = true) :
    Frame μ s₀ (State.fireEvent s n f fwd stamp) := by
  delta State.fireEvent
  repeat' first
    | with_reducible assumption
    | with_reducible apply Frame.checkPass
    | with_reducible apply Frame.modFire
    | with_reducible apply Frame.setF
    | with_reducible apply Frame.showReversed
    | with_reducible apply Frame.takeCycle
    | with_reducible apply Frame.tryComplete
    | with_reducible refine Frame.ite ?_ ?_
    | (try lift_lets -underBinder); intro x; refine Frame.cut (x := x) ?_ ?_ <;> [subst x; (clear_value x; intro _)]
    | (try lift_lets -underBinder); intro x; first | subst x | skip
    | split
    | fail_if_no_progress dsimp only
    | fail_if_no_progress with_reducible refine Frame.upd ?_

end Sys2Proof.Machine
end

