-- ==== Sys2Proof/Laws/FrameSys.lean ====
section
/-!
SUPPORT. The frames of the shared operations of configuration, ring reception, position and the operating states. Each proof walks
through the operation's own structure and cites the frames of what it calls.
-/
set_option linter.unusedTactic false
set_option linter.unreachableTactic false
set_option linter.unusedVariables false
namespace Sys2Proof.Machine
set_option Elab.async false
variable {μ : Touch} {s₀ s : State}

/-! ### Machine/CfgOps.lean -/

theorem Frame.postCheck (h : Frame μ s₀ s) (f : Fail) (h_cfg : μ.cfg = true) :
    Frame μ s₀ (State.postCheck s f) := by
  delta State.postCheck
  repeat' first
    | with_reducible assumption
    | with_reducible apply Frame.setFields
    | (try lift_lets -underBinder); intro x; refine Frame.cut (x := x) ?_ ?_ <;> [subst x; (clear_value x; intro _)]
    | (try lift_lets -underBinder); intro x; first | subst x | skip
    | split
    | fail_if_no_progress dsimp only
    | fail_if_no_progress with_reducible refine Frame.upd ?_

theorem Frame.startCheck (h : Frame μ s₀ s) (k : CheckKind) (permit : Bool) (h_cfg : μ.cfg = true) :
    Frame μ s₀ (State.startCheck s k permit) := by
  delta State.startCheck
  repeat' first
    | with_reducible assumption
    | with_reducible apply Frame.setFields
    | with_reducible refine Frame.ite ?_ ?_
    | (try lift_lets -underBinder); intro x; refine Frame.cut (x := x) ?_ ?_ <;> [subst x; (clear_value x; intro _)]
    | (try lift_lets -underBinder); intro x; first | subst x | skip
    | fail_if_no_progress with_reducible refine Frame.upd ?_

/-! ### Machine/RingRecv.lean -/

theorem Frame.bridge (h : Frame μ s₀ s) (port : Nat) (p : RingPkt) (h_ring : μ.ring = true) :
    Frame μ s₀ (State.bridge s port p) := by
  delta State.bridge
  repeat' first
    | with_reducible assumption
    | with_reducible apply Frame.urgOut
    | with_reducible refine Frame.ite ?_ ?_
    | with_reducible refine Frame.foldl ?_ ?_
    | (try lift_lets -underBinder); intro x; refine Frame.cut (x := x) ?_ ?_ <;> [subst x; (clear_value x; intro _)]
    | (try lift_lets -underBinder); intro x; first | subst x | skip
    | fail_if_no_progress with_reducible refine Frame.upd ?_

theorem Frame.forward (h : Frame μ s₀ s) (port : Nat) (p : RingPkt) (h_ring : μ.ring = true) :
    Frame μ s₀ (State.forward s port p) := by
  delta State.forward
  repeat' first
    | with_reducible assumption
    | with_reducible apply Frame.bridge
    | with_reducible apply Frame.drawn
    | with_reducible apply Frame.ringOut
    | with_reducible apply Frame.urgOut
    | with_reducible refine Frame.ite ?_ ?_
    | (try lift_lets -underBinder); intro x; refine Frame.cut (x := x) ?_ ?_ <;> [subst x; (clear_value x; intro _)]
    | (try lift_lets -underBinder); intro x; first | subst x | skip

theorem Frame.takeSeq (h : Frame μ s₀ s) (p : RingPkt) (h_ring : μ.ring = true) :
    Frame μ s₀ (State.takeSeq s p).1 := by
  delta State.takeSeq
  repeat' first
    | with_reducible assumption
    | with_reducible apply Frame.addF
    | with_reducible refine Frame.ite ?_ ?_
    | with_reducible refine Frame.ite_fst ?_ ?_
    | (try lift_lets -underBinder); intro x; refine Frame.cut (x := x) ?_ ?_ <;> [subst x; (clear_value x; intro _)]
    | (try lift_lets -underBinder); intro x; first | subst x | skip
    | split
    | fail_if_no_progress with_reducible refine Frame.upd ?_

theorem Frame.takeSeq_eq {c} {v} (h : Frame μ s₀ s) {p : RingPkt} (e : State.takeSeq s p = (c, v)) (h_ring : μ.ring = true) :
    Frame μ s₀ c := by
  have k := Frame.takeSeq h p h_ring
  rwa [e] at k

theorem Frame.hear (h : Frame μ s₀ s) (p : RingPkt) :
    Frame μ s₀ (State.hear s p) := by
  delta State.hear
  repeat' first
    | with_reducible assumption
    | with_reducible apply Frame.setF
    | with_reducible refine Frame.ite ?_ ?_

theorem Frame.packetIn (h : Frame μ s₀ s) (port : Nat) (p : RingPkt) (g : State → State) (h_g : ∀ s, Frame μ s₀ s → Frame μ s₀ (g s)) (h_ring : μ.ring = true) :
    Frame μ s₀ (State.packetIn s port p g) := by
  delta State.packetIn
  repeat' first
    | with_reducible assumption
    | with_reducible apply h_g
    | with_reducible apply Frame.forward
    | with_reducible apply Frame.hear
    | with_reducible apply Frame.takeSeq
    | with_reducible refine Frame.takeSeq_eq ?_ (by assumption) ‹_›
    | with_reducible refine Frame.ite ?_ ?_
    | (try lift_lets -underBinder); intro x; refine Frame.cut (x := x) ?_ ?_ <;> [subst x; (clear_value x; intro _)]
    | (try lift_lets -underBinder); intro x; first | subst x | skip
    | split

theorem Frame.reqIn (h : Frame μ s₀ s) (port : Nat) (type : Nat) (p : RingPkt) (rsp : Nat) (g : State → State) (h_g : ∀ s, Frame μ s₀ s → Frame μ s₀ (g s)) (h_ring : μ.ring = true) :
    Frame μ s₀ (State.reqIn s port type p rsp g) := by
  delta State.reqIn
  repeat' first
    | with_reducible assumption
    | with_reducible apply h_g
    | with_reducible apply Frame.packetIn
    | with_reducible apply Frame.sendRsp
    | with_reducible refine Frame.ite ?_ ?_
    | (try lift_lets -underBinder); intro x; refine Frame.cut (x := x) ?_ ?_ <;> [subst x; (clear_value x; intro _)]
    | (try lift_lets -underBinder); intro x; first | subst x | skip

theorem Frame.showTopo (h : Frame μ s₀ s) :
    Frame μ s₀ (State.showTopo s) := by
  delta State.showTopo
  repeat' first
    | with_reducible assumption
    | with_reducible apply Frame.setFields
    | with_reducible apply Frame.setReg
    | with_reducible refine Frame.ite ?_ ?_
    | split
    | fail_if_no_progress with_reducible refine Frame.upd ?_

theorem Frame.setBreak (h : Frame μ s₀ s) (west : Nat) (broken : Bool) (h_health : μ.health = true) (h_ring : μ.ring = true) (h_flt : μ.flt = true) :
    Frame μ s₀ (State.setBreak s west broken) := by
  delta State.setBreak
  repeat' first
    | with_reducible assumption
    | with_reducible apply Frame.raise
    | with_reducible apply Frame.showTopo
    | with_reducible refine Frame.ite ?_ ?_
    | (try lift_lets -underBinder); intro x; refine Frame.cut (x := x) ?_ ?_ <;> [subst x; (clear_value x; intro _)]
    | (try lift_lets -underBinder); intro x; first | subst x | skip
    | fail_if_no_progress with_reducible refine Frame.upd ?_

theorem Frame.sendWrap (h : Frame μ s₀ s) (west : Nat) (broken : Bool) (h_ring : μ.ring = true) :
    Frame μ s₀ (State.sendWrap s west broken) := by
  delta State.sendWrap
  repeat' first
    | with_reducible assumption
    | with_reducible apply Frame.sendUrg

theorem Frame.ringFail (h : Frame μ s₀ s) (k : Nat) (off : Nat) (status : Nat) (h_wins : μ.wins = true) (h_health : μ.health = true) (h_comp : μ.comp = true) (h_dma : μ.dma = true) (h_ring : μ.ring = true) (h_flt : μ.flt = true) (h_pmc : μ.pmc = true) (h_form : μ.form = true) (h_staging : μ.staging = true) :
    Frame μ s₀ (State.ringFail s k off status) := by
  delta State.ringFail
  repeat' first
    | with_reducible assumption
    | with_reducible apply Frame.chunkError
    | with_reducible apply Frame.dropFlying
    | with_reducible apply Frame.modExec
    | with_reducible apply Frame.runTransfer
    | with_reducible refine Frame.ite ?_ ?_
    | (try lift_lets -underBinder); intro x; refine Frame.cut (x := x) ?_ ?_ <;> [subst x; (clear_value x; intro _)]
    | (try lift_lets -underBinder); intro x; first | subst x | skip
    | fail_if_no_progress with_reducible refine Frame.upd ?_

theorem Frame.reqFail (h : Frame μ s₀ s) (r : RingReq) (status : Nat) (h_wins : μ.wins = true) (h_health : μ.health = true) (h_comp : μ.comp = true) (h_host : μ.host = true) (h_dma : μ.dma = true) (h_ring : μ.ring = true) (h_flt : μ.flt = true) (h_pmc : μ.pmc = true) (h_form : μ.form = true) (h_staging : μ.staging = true) :
    Frame μ s₀ (State.reqFail s r status) := by
  delta State.reqFail
  repeat' first
    | with_reducible assumption
    | with_reducible refine Frame.emit ?_ _ (.inr rfl)
    | with_reducible apply Frame.hostRead
    | with_reducible apply Frame.hostWrite
    | with_reducible apply Frame.modExec
    | with_reducible apply Frame.readFail
    | with_reducible apply Frame.ringFail
    | with_reducible refine Frame.ite ?_ ?_
    | (try lift_lets -underBinder); intro x; refine Frame.cut (x := x) ?_ ?_ <;> [subst x; (clear_value x; intro _)]
    | (try lift_lets -underBinder); intro x; first | subst x | skip
    | split
    | fail_if_no_progress dsimp only
    | fail_if_no_progress with_reducible refine Frame.upd ?_

theorem Frame.takeReq (h : Frame μ s₀ s) (p : RingPkt) (h_ring : μ.ring = true) :
    Frame μ s₀ (State.takeReq s p).1 := by
  delta State.takeReq
  repeat' first
    | with_reducible assumption
    | with_reducible apply Frame.addF
    | (try lift_lets -underBinder); intro x; refine Frame.cut (x := x) ?_ ?_ <;> [subst x; (clear_value x; intro _)]
    | (try lift_lets -underBinder); intro x; first | subst x | skip
    | split
    | fail_if_no_progress with_reducible refine Frame.upd ?_

theorem Frame.takeReq_eq {c} {v} (h : Frame μ s₀ s) {p : RingPkt} (e : State.takeReq s p = (c, v)) (h_ring : μ.ring = true) :
    Frame μ s₀ c := by
  have k := Frame.takeReq h p h_ring
  rwa [e] at k

theorem Frame.rspIn (h : Frame μ s₀ s) (port : Nat) (type : Nat) (p : RingPkt) (g : State → RingReq → State) (h_g : ∀ s x0, Frame μ s₀ s → Frame μ s₀ (g s x0)) (h_wins : μ.wins = true) (h_health : μ.health = true) (h_comp : μ.comp = true) (h_host : μ.host = true) (h_dma : μ.dma = true) (h_ring : μ.ring = true) (h_flt : μ.flt = true) (h_pmc : μ.pmc = true) (h_form : μ.form = true) (h_staging : μ.staging = true) :
    Frame μ s₀ (State.rspIn s port type p g) := by
  delta State.rspIn
  repeat' first
    | with_reducible assumption
    | with_reducible apply h_g
    | with_reducible apply Frame.packetIn
    | with_reducible apply Frame.reqFail
    | with_reducible apply Frame.takeReq
    | with_reducible refine Frame.takeReq_eq ?_ (by assumption) ‹_›
    | with_reducible refine Frame.ite ?_ ?_
    | (try lift_lets -underBinder); intro x; refine Frame.cut (x := x) ?_ ?_ <;> [subst x; (clear_value x; intro _)]
    | (try lift_lets -underBinder); intro x; first | subst x | skip
    | split
    | fail_if_no_progress dsimp only
    | fail_if_no_progress with_reducible refine Frame.upd ?_

/-! ### Machine/PosOps.lean -/

theorem Frame.settle (h : Frame μ s₀ s) (n : Nat) (t : Nat) (h_pos : μ.pos = true) (h_fire : μ.fire = true) :
    Frame μ s₀ (State.settle s n t) := by
  delta State.settle
  repeat' first
    | with_reducible assumption
    | with_reducible apply Frame.modFire
    | with_reducible apply Frame.modPin
    | with_reducible apply Frame.setF
    | with_reducible refine Frame.ite ?_ ?_
    | with_reducible refine Frame.foldl ?_ ?_
    | (try lift_lets -underBinder); intro x; refine Frame.cut (x := x) ?_ ?_ <;> [subst x; (clear_value x; intro _)]
    | (try lift_lets -underBinder); intro x; first | subst x | skip
    | fail_if_no_progress with_reducible refine Frame.upd ?_

theorem Frame.modRef (h : Frame μ s₀ s) (c : Nat) (g : RefCh → RefCh) (h_pos : μ.pos = true) :
    Frame μ s₀ (State.modRef s c g) := by
  delta State.modRef
  repeat' first
    | with_reducible assumption
    | fail_if_no_progress with_reducible refine Frame.upd ?_

theorem Frame.refHeard (h : Frame μ s₀ s) (c : Nat) (e : Nat) (h_pos : μ.pos = true) :
    Frame μ s₀ (State.refHeard s c e) := by
  delta State.refHeard
  repeat' first
    | with_reducible assumption
    | with_reducible apply Frame.modRef
    | with_reducible apply Frame.setBit
    | (try lift_lets -underBinder); intro x; refine Frame.cut (x := x) ?_ ?_ <;> [subst x; (clear_value x; intro _)]
    | (try lift_lets -underBinder); intro x; first | subst x | skip
    | fail_if_no_progress with_reducible refine Frame.upd ?_

theorem Frame.refQueue (h : Frame μ s₀ s) (r : Ref) (t : Nat) (h_pos : μ.pos = true) :
    Frame μ s₀ (State.refQueue s r t) := by
  delta State.refQueue
  repeat' first
    | with_reducible assumption
    | with_reducible apply Frame.modRef
    | (try lift_lets -underBinder); intro x; refine Frame.cut (x := x) ?_ ?_ <;> [subst x; (clear_value x; intro _)]
    | (try lift_lets -underBinder); intro x; first | subst x | skip
    | fail_if_no_progress with_reducible refine Frame.upd ?_

theorem Frame.sendRef (h : Frame μ s₀ s) (r : Ref) (h_pos : μ.pos = true) (h_ring : μ.ring = true) :
    Frame μ s₀ (State.sendRef s r) := by
  delta State.sendRef
  repeat' first
    | with_reducible assumption
    | with_reducible apply Frame.refHeard
    | with_reducible apply Frame.refQueue
    | with_reducible apply Frame.sendUrg
    | with_reducible refine Frame.ite ?_ ?_
    | (try lift_lets -underBinder); intro x; refine Frame.cut (x := x) ?_ ?_ <;> [subst x; (clear_value x; intro _)]
    | (try lift_lets -underBinder); intro x; first | subst x | skip

theorem Frame.calLine (h : Frame μ s₀ s) (n : Nat) (h_cal : μ.cal = true) :
    Frame μ s₀ (State.calLine s n) := by
  delta State.calLine
  repeat' first
    | with_reducible assumption
    | with_reducible apply Frame.slewTo
    | with_reducible refine Frame.ite ?_ ?_
    | with_reducible refine Frame.foldl ?_ ?_
    | (try lift_lets -underBinder); intro x; refine Frame.cut (x := x) ?_ ?_ <;> [subst x; (clear_value x; intro _)]
    | (try lift_lets -underBinder); intro x; first | subst x | skip

theorem Frame.emitAt (h : Frame μ s₀ s) (src : Nat) (t : Nat) (h_pos : μ.pos = true) :
    Frame μ s₀ (State.emitAt s src t) := by
  delta State.emitAt
  repeat' first
    | with_reducible assumption
    | fail_if_no_progress with_reducible refine Frame.upd ?_

theorem Frame.patternLine (h : Frame μ s₀ s) (t : Nat) (h_sys : μ.sys = true) (h_fire : μ.fire = true) (h_wins : μ.wins = true) (h_tileH : μ.tileH = true) (h_lanes : μ.lanes = true) (h_health : μ.health = true) (h_pwr : μ.pwr = true) (h_flt : μ.flt = true) (h_cal : μ.cal = true) (h_svc : μ.svc = true) :
    Frame μ s₀ (State.patternLine s t) := by
  delta State.patternLine
  repeat' first
    | with_reducible assumption
    | with_reducible apply Frame.openPattern
    | with_reducible refine Frame.ite ?_ ?_
    | fail_if_no_progress with_reducible refine Frame.upd ?_

theorem Frame.relocked (h : Frame μ s₀ s) (h_health : μ.health = true) :
    Frame μ s₀ (State.relocked s) := by
  delta State.relocked
  repeat' first
    | with_reducible assumption
    | with_reducible refine Frame.ite ?_ ?_
    | (try lift_lets -underBinder); intro x; refine Frame.cut (x := x) ?_ ?_ <;> [subst x; (clear_value x; intro _)]
    | (try lift_lets -underBinder); intro x; first | subst x | skip
    | fail_if_no_progress with_reducible refine Frame.upd ?_

theorem Frame.lineEvent (h : Frame μ s₀ s) (n : Nat) (line : Nat) (fwd : Bool) (stamp : Nat) (h_nv : μ.nv = true) (h_sys : μ.sys = true) (h_cfg : μ.cfg = true) (h_pos : μ.pos = true) (h_fire : μ.fire = true) (h_wins : μ.wins = true) (h_noz : μ.noz = true) (h_tileH : μ.tileH = true) (h_lanes : μ.lanes = true) (h_health : μ.health = true) (h_comp : μ.comp = true) (h_host : μ.host = true) (h_dma : μ.dma = true) (h_ring : μ.ring = true) (h_ports : μ.ports = true) (h_pwr : μ.pwr = true) (h_flt : μ.flt = true) (h_cal : μ.cal = true) (h_pmc : μ.pmc = true) (h_svc : μ.svc = true) :
    Frame μ s₀ (State.lineEvent s n line fwd stamp) := by
  delta State.lineEvent
  repeat' first
    | with_reducible assumption
    | with_reducible apply Frame.calLine
    | with_reducible apply Frame.count
    | with_reducible apply Frame.emitAt
    | with_reducible apply Frame.modPin
    | with_reducible apply Frame.patternLine
    | with_reducible apply Frame.relocked
    | with_reducible apply Frame.sendRef
    | with_reducible apply Frame.setF
    | with_reducible apply Frame.windowLine
    | with_reducible refine Frame.ite ?_ ?_
    | with_reducible refine Frame.foldl ?_ ?_
    | (try lift_lets -underBinder); intro x; refine Frame.cut (x := x) ?_ ?_ <;> [subst x; (clear_value x; intro _)]
    | (try lift_lets -underBinder); intro x; first | subst x | skip
    | fail_if_no_progress with_reducible refine Frame.upd ?_

theorem Frame.lineEvents (h : Frame μ s₀ s) (n : Nat) (t : Nat) (i : Nat) (l : List Crossing) (h_nv : μ.nv = true) (h_sys : μ.sys = true) (h_cfg : μ.cfg = true) (h_pos : μ.pos = true) (h_fire : μ.fire = true) (h_wins : μ.wins = true) (h_noz : μ.noz = true) (h_tileH : μ.tileH = true) (h_lanes : μ.lanes = true) (h_health : μ.health = true) (h_comp : μ.comp = true) (h_host : μ.host = true) (h_dma : μ.dma = true) (h_ring : μ.ring = true) (h_ports : μ.ports = true) (h_pwr : μ.pwr = true) (h_flt : μ.flt = true) (h_cal : μ.cal = true) (h_pmc : μ.pmc = true) (h_svc : μ.svc = true) :
    Frame μ s₀ (State.lineEvents s n t i l) := by
  induction l generalizing s i with
  | nil => exact h
  | cons c r ih =>
    rw [State.lineEvents]
    repeat' first
      | with_reducible assumption
      | with_reducible apply Frame.addF
      | with_reducible apply Frame.lineEvent
      | with_reducible apply Frame.setF
      | with_reducible apply ih
      | with_reducible refine Frame.ite ?_ ?_
      | (try lift_lets -underBinder); intro x; refine Frame.cut (x := x) ?_ ?_ <;> [subst x; (clear_value x; intro _)]
      | (try lift_lets -underBinder); intro x; first | subst x | skip

theorem Frame.fireEvents (h : Frame μ s₀ s) (k : Nat) (t : Nat) (i : Nat) (l : List Crossing) (h_sys : μ.sys = true) (h_pos : μ.pos = true) (h_fire : μ.fire = true) (h_wins : μ.wins = true) (h_tileH : μ.tileH = true) (h_lanes : μ.lanes = true) (h_health : μ.health = true) (h_comp : μ.comp = true) (h_host : μ.host = true) (h_dma : μ.dma = true) (h_ring : μ.ring = true) (h_ports : μ.ports = true) (h_flt : μ.flt = true) (h_pmc : μ.pmc = true) :
    Frame μ s₀ (State.fireEvents s k t i l) := by
  induction l generalizing s i with
  | nil => exact h
  | cons c r ih =>
    rw [State.fireEvents]
    repeat' first
      | with_reducible assumption
      | with_reducible apply Frame.fireEvent
      | with_reducible apply ih

theorem Frame.moveLines (h : Frame μ s₀ s) (n : Nat) (d : Int) (h_nv : μ.nv = true) (h_sys : μ.sys = true) (h_cfg : μ.cfg = true) (h_pos : μ.pos = true) (h_fire : μ.fire = true) (h_wins : μ.wins = true) (h_noz : μ.noz = true) (h_tileH : μ.tileH = true) (h_lanes : μ.lanes = true) (h_health : μ.health = true) (h_comp : μ.comp = true) (h_host : μ.host = true) (h_dma : μ.dma = true) (h_ring : μ.ring = true) (h_ports : μ.ports = true) (h_pwr : μ.pwr = true) (h_flt : μ.flt = true) (h_cal : μ.cal = true) (h_pmc : μ.pmc = true) (h_svc : μ.svc = true) :
    Frame μ s₀ (State.moveLines s n d) := by
  delta State.moveLines
  repeat' first
    | with_reducible assumption
    | with_reducible apply Frame.fireEvents
    | with_reducible apply Frame.lineEvents
    | with_reducible apply Frame.modFire
    | with_reducible apply Frame.modPin
    | with_reducible apply Frame.setF
    | with_reducible refine Frame.ite ?_ ?_
    | with_reducible refine Frame.foldl ?_ ?_
    | (try lift_lets -underBinder); intro x; refine Frame.cut (x := x) ?_ ?_ <;> [subst x; (clear_value x; intro _)]
    | (try lift_lets -underBinder); intro x; first | subst x | skip
    | split
    | fail_if_no_progress with_reducible refine Frame.upd ?_

theorem Frame.interpolate (h : Frame μ s₀ s) (n : Nat) (t : Nat) (fuel : Nat) (h_nv : μ.nv = true) (h_sys : μ.sys = true) (h_cfg : μ.cfg = true) (h_pos : μ.pos = true) (h_fire : μ.fire = true) (h_wins : μ.wins = true) (h_noz : μ.noz = true) (h_tileH : μ.tileH = true) (h_lanes : μ.lanes = true) (h_health : μ.health = true) (h_comp : μ.comp = true) (h_host : μ.host = true) (h_dma : μ.dma = true) (h_ring : μ.ring = true) (h_ports : μ.ports = true) (h_pwr : μ.pwr = true) (h_flt : μ.flt = true) (h_cal : μ.cal = true) (h_pmc : μ.pmc = true) (h_svc : μ.svc = true) :
    Frame μ s₀ (State.interpolate s n t fuel) := by
  induction fuel generalizing s with
  | zero => exact h
  | succ fuel ih =>
    rw [State.interpolate]
    repeat' first
      | with_reducible assumption
      | with_reducible apply Frame.fireEvent
      | with_reducible apply Frame.lineEvent
      | with_reducible apply Frame.modFire
      | with_reducible apply Frame.modPin
      | with_reducible apply Frame.setF
      | with_reducible apply ih
      | with_reducible refine Frame.foldl ?_ ?_
      | (try lift_lets -underBinder); intro x; refine Frame.cut (x := x) ?_ ?_ <;> [subst x; (clear_value x; intro _)]
      | (try lift_lets -underBinder); intro x; first | subst x | skip
      | split
      | fail_if_no_progress dsimp only
      | fail_if_no_progress with_reducible refine Frame.upd ?_

theorem Frame.tick (h : Frame μ s₀ s) (n : Nat) (d : Int) :
    Frame μ s₀ (State.tick s n d) := by
  delta State.tick
  repeat' first
    | with_reducible assumption
    | with_reducible apply Frame.setF
    | (try lift_lets -underBinder); intro x; refine Frame.cut (x := x) ?_ ?_ <;> [subst x; (clear_value x; intro _)]
    | (try lift_lets -underBinder); intro x; first | subst x | skip

theorem Frame.compare (h : Frame μ s₀ s) (n : Nat) (d : Int) (h_pos : μ.pos = true) :
    Frame μ s₀ (State.compare s n d) := by
  delta State.compare
  repeat' first
    | with_reducible assumption
    | with_reducible apply Frame.emitSrc
    | with_reducible apply Frame.incF
    | with_reducible apply Frame.setF
    | with_reducible refine Frame.ite ?_ ?_
    | (try lift_lets -underBinder); intro x; refine Frame.cut (x := x) ?_ ?_ <;> [subst x; (clear_value x; intro _)]
    | (try lift_lets -underBinder); intro x; first | subst x | skip

theorem Frame.posIrq (h : Frame μ s₀ s) (n : Nat) (h_host : μ.host = true) (h_ring : μ.ring = true) :
    Frame μ s₀ (State.posIrq s n) := by
  delta State.posIrq
  repeat' first
    | with_reducible assumption
    | with_reducible apply Frame.msix
    | with_reducible apply Frame.setBit
    | with_reducible refine Frame.ite ?_ ?_

theorem Frame.raiseAll (h : Frame μ s₀ s) (k : Kind) (addr : Nat) (h_health : μ.health = true) (h_flt : μ.flt = true) :
    Frame μ s₀ (State.raiseAll s k addr) := by
  delta State.raiseAll
  repeat' first
    | with_reducible assumption
    | with_reducible apply Frame.raise
    | with_reducible apply Frame.raiseLane
    | with_reducible refine Frame.foldl ?_ ?_
    | (try lift_lets -underBinder); intro x; refine Frame.cut (x := x) ?_ ?_ <;> [subst x; (clear_value x; intro _)]
    | (try lift_lets -underBinder); intro x; first | subst x | skip

theorem Frame.beginStep (h : Frame μ s₀ s) (n : Nat) (d : Int) (h_pos : μ.pos = true) (h_fire : μ.fire = true) (h_health : μ.health = true) (h_host : μ.host = true) (h_ring : μ.ring = true) (h_flt : μ.flt = true) :
    Frame μ s₀ (State.beginStep s n d) := by
  delta State.beginStep
  repeat' first
    | with_reducible assumption
    | with_reducible apply Frame.addF
    | with_reducible apply Frame.modPin
    | with_reducible apply Frame.posIrq
    | with_reducible apply Frame.raiseAll
    | with_reducible apply Frame.setF
    | with_reducible apply Frame.setFields
    | with_reducible apply Frame.settle
    | with_reducible refine Frame.ite ?_ ?_
    | (try lift_lets -underBinder); intro x; refine Frame.cut (x := x) ?_ ?_ <;> [subst x; (clear_value x; intro _)]
    | (try lift_lets -underBinder); intro x; first | subst x | skip
    | split
    | fail_if_no_progress dsimp only
    | fail_if_no_progress with_reducible refine Frame.upd ?_

theorem Frame.countStep (h : Frame μ s₀ s) (n : Nat) (d : Int) (h_nv : μ.nv = true) (h_sys : μ.sys = true) (h_cfg : μ.cfg = true) (h_pos : μ.pos = true) (h_fire : μ.fire = true) (h_wins : μ.wins = true) (h_noz : μ.noz = true) (h_tileH : μ.tileH = true) (h_lanes : μ.lanes = true) (h_health : μ.health = true) (h_comp : μ.comp = true) (h_host : μ.host = true) (h_dma : μ.dma = true) (h_ring : μ.ring = true) (h_ports : μ.ports = true) (h_pwr : μ.pwr = true) (h_mot : μ.mot = true) (h_flt : μ.flt = true) (h_cal : μ.cal = true) (h_pmc : μ.pmc = true) (h_svc : μ.svc = true) :
    Frame μ s₀ (State.countStep s n d) := by
  delta State.countStep
  repeat' first
    | with_reducible assumption
    | with_reducible apply Frame.beginStep
    | with_reducible apply Frame.compare
    | with_reducible apply Frame.count
    | with_reducible apply Frame.moveLines
    | with_reducible apply Frame.phaseOrder
    | with_reducible apply Frame.tick

theorem Frame.illegal (h : Frame μ s₀ s) (n : Nat) (h_health : μ.health = true) (h_flt : μ.flt = true) :
    Frame μ s₀ (State.illegal s n) := by
  delta State.illegal
  repeat' first
    | with_reducible assumption
    | with_reducible apply Frame.addF
    | with_reducible apply Frame.raiseAll
    | with_reducible apply Frame.setF

theorem Frame.latch (h : Frame μ s₀ s) (n : Nat) (h_pos : μ.pos = true) (h_health : μ.health = true) (h_flt : μ.flt = true) :
    Frame μ s₀ (State.latch s n) := by
  delta State.latch
  repeat' first
    | with_reducible assumption
    | with_reducible apply Frame.emitSrc
    | with_reducible apply Frame.modPin
    | with_reducible apply Frame.raiseAll
    | with_reducible apply Frame.setF
    | with_reducible apply Frame.setFields
    | with_reducible apply Frame.setFs
    | with_reducible refine Frame.ite ?_ ?_
    | (try lift_lets -underBinder); intro x; refine Frame.cut (x := x) ?_ ?_ <;> [subst x; (clear_value x; intro _)]
    | (try lift_lets -underBinder); intro x; first | subst x | skip
    | split
    | fail_if_no_progress dsimp only
    | fail_if_no_progress with_reducible refine Frame.upd ?_

theorem Frame.setLine (h : Frame μ s₀ s) (n : Nat) (h_pos : μ.pos = true) :
    Frame μ s₀ (State.setLine s n) := by
  delta State.setLine
  repeat' first
    | with_reducible assumption
    | with_reducible apply Frame.modPin
    | with_reducible apply Frame.setFields
    | with_reducible refine Frame.ite ?_ ?_
    | (try lift_lets -underBinder); intro x; refine Frame.cut (x := x) ?_ ?_ <;> [subst x; (clear_value x; intro _)]
    | (try lift_lets -underBinder); intro x; first | subst x | skip
    | fail_if_no_progress with_reducible refine Frame.upd ?_

theorem Frame.preset (h : Frame μ s₀ s) (n : Nat) (lo : Nat) (hi : Nat) (h_pos : μ.pos = true) (h_fire : μ.fire = true) (h_health : μ.health = true) (h_flt : μ.flt = true) :
    Frame μ s₀ (State.preset s n lo hi) := by
  delta State.preset
  repeat' first
    | with_reducible assumption
    | with_reducible apply Frame.modPin
    | with_reducible apply Frame.raise
    | with_reducible apply Frame.resetFire
    | with_reducible apply Frame.setFields
    | with_reducible apply Frame.setLine
    | with_reducible refine Frame.ite ?_ ?_
    | with_reducible refine Frame.foldl ?_ ?_
    | (try lift_lets -underBinder); intro x; refine Frame.cut (x := x) ?_ ?_ <;> [subst x; (clear_value x; intro _)]
    | (try lift_lets -underBinder); intro x; first | subst x | skip
    | fail_if_no_progress with_reducible refine Frame.upd ?_

theorem Frame.writeCmp (h : Frame μ s₀ s) (n : Nat) (v : Nat) :
    Frame μ s₀ (State.writeCmp s n v) := by
  delta State.writeCmp
  repeat' first
    | with_reducible assumption
    | with_reducible apply Frame.setF
    | with_reducible refine Frame.ite ?_ ?_
    | (try lift_lets -underBinder); intro x; refine Frame.cut (x := x) ?_ ?_ <;> [subst x; (clear_value x; intro _)]
    | (try lift_lets -underBinder); intro x; first | subst x | skip

theorem Frame.releaseRef (h : Frame μ s₀ s) (c : Nat) (r : RefPend) (h_nv : μ.nv = true) (h_sys : μ.sys = true) (h_cfg : μ.cfg = true) (h_pos : μ.pos = true) (h_fire : μ.fire = true) (h_wins : μ.wins = true) (h_noz : μ.noz = true) (h_tileH : μ.tileH = true) (h_lanes : μ.lanes = true) (h_health : μ.health = true) (h_comp : μ.comp = true) (h_host : μ.host = true) (h_dma : μ.dma = true) (h_ring : μ.ring = true) (h_ports : μ.ports = true) (h_pwr : μ.pwr = true) (h_flt : μ.flt = true) (h_cal : μ.cal = true) (h_pmc : μ.pmc = true) (h_svc : μ.svc = true) :
    Frame μ s₀ (State.releaseRef s c r) := by
  delta State.releaseRef
  repeat' first
    | with_reducible assumption
    | with_reducible apply Frame.emitSrc
    | with_reducible apply Frame.fireEvent
    | with_reducible apply Frame.lineEvent
    | with_reducible apply Frame.modFire
    | with_reducible apply Frame.modPin
    | with_reducible refine Frame.ite ?_ ?_
    | with_reducible refine Frame.foldl ?_ ?_
    | (try lift_lets -underBinder); intro x; refine Frame.cut (x := x) ?_ ?_ <;> [subst x; (clear_value x; intro _)]
    | (try lift_lets -underBinder); intro x; first | subst x | skip
    | split
    | fail_if_no_progress dsimp only
    | fail_if_no_progress with_reducible refine Frame.upd ?_

theorem Frame.refIn (h : Frame μ s₀ s) (src : Nat) (age : Nat) (r : Ref) (h_nv : μ.nv = true) (h_sys : μ.sys = true) (h_cfg : μ.cfg = true) (h_pos : μ.pos = true) (h_fire : μ.fire = true) (h_wins : μ.wins = true) (h_noz : μ.noz = true) (h_tileH : μ.tileH = true) (h_lanes : μ.lanes = true) (h_health : μ.health = true) (h_comp : μ.comp = true) (h_host : μ.host = true) (h_dma : μ.dma = true) (h_ring : μ.ring = true) (h_ports : μ.ports = true) (h_pwr : μ.pwr = true) (h_flt : μ.flt = true) (h_cal : μ.cal = true) (h_pmc : μ.pmc = true) (h_svc : μ.svc = true) :
    Frame μ s₀ (State.refIn s src age r) := by
  delta State.refIn
  repeat' first
    | with_reducible assumption
    | with_reducible apply Frame.addF
    | with_reducible apply Frame.modPin
    | with_reducible apply Frame.raise
    | with_reducible apply Frame.refHeard
    | with_reducible apply Frame.refQueue
    | with_reducible apply Frame.releaseRef
    | with_reducible apply Frame.resetFire
    | with_reducible apply Frame.setBit
    | with_reducible apply Frame.setF
    | with_reducible refine Frame.ite ?_ ?_
    | with_reducible refine Frame.foldl ?_ ?_
    | (try lift_lets -underBinder); intro x; refine Frame.cut (x := x) ?_ ?_ <;> [subst x; (clear_value x; intro _)]
    | (try lift_lets -underBinder); intro x; first | subst x | skip
    | fail_if_no_progress with_reducible refine Frame.upd ?_

theorem Frame.deliverTo (h : Frame μ s₀ s) (dst : Nat) (h_sys : μ.sys = true) (h_pos : μ.pos = true) (h_fire : μ.fire = true) (h_wins : μ.wins = true) (h_tileH : μ.tileH = true) (h_lanes : μ.lanes = true) (h_health : μ.health = true) (h_comp : μ.comp = true) (h_host : μ.host = true) (h_dma : μ.dma = true) (h_ring : μ.ring = true) (h_ports : μ.ports = true) (h_pwr : μ.pwr = true) (h_mot : μ.mot = true) (h_flt : μ.flt = true) (h_cal : μ.cal = true) (h_pmc : μ.pmc = true) (h_svc : μ.svc = true) :
    Frame μ s₀ (State.deliverTo s dst) := by
  delta State.deliverTo
  repeat' first
    | with_reducible assumption
    | with_reducible apply Frame.closeWin
    | with_reducible apply Frame.cuePulse
    | with_reducible apply Frame.incF
    | with_reducible apply Frame.motorSync
    | with_reducible apply Frame.openWin
    | with_reducible apply Frame.sendRef
    | (try lift_lets -underBinder); intro x; refine Frame.cut (x := x) ?_ ?_ <;> [subst x; (clear_value x; intro _)]
    | (try lift_lets -underBinder); intro x; first | subst x | skip
    | split
    | fail_if_no_progress dsimp only
    | fail_if_no_progress with_reducible refine Frame.upd ?_

theorem Frame.deliverSrc (h : Frame μ s₀ s) (src : Nat) (h_sys : μ.sys = true) (h_pos : μ.pos = true) (h_fire : μ.fire = true) (h_wins : μ.wins = true) (h_tileH : μ.tileH = true) (h_lanes : μ.lanes = true) (h_health : μ.health = true) (h_comp : μ.comp = true) (h_host : μ.host = true) (h_dma : μ.dma = true) (h_ring : μ.ring = true) (h_ports : μ.ports = true) (h_pwr : μ.pwr = true) (h_mot : μ.mot = true) (h_flt : μ.flt = true) (h_cal : μ.cal = true) (h_pmc : μ.pmc = true) (h_svc : μ.svc = true) :
    Frame μ s₀ (State.deliverSrc s src) := by
  delta State.deliverSrc
  repeat' first
    | with_reducible assumption
    | with_reducible apply Frame.deliverTo
    | with_reducible refine Frame.foldl ?_ ?_
    | (try lift_lets -underBinder); intro x; refine Frame.cut (x := x) ?_ ?_ <;> [subst x; (clear_value x; intro _)]
    | (try lift_lets -underBinder); intro x; first | subst x | skip
    | split
    | fail_if_no_progress with_reducible refine Frame.upd ?_

/-! ### Machine/SysOps.lean -/

theorem Frame.goTo (h : Frame μ s₀ s) (st : Nat) (cause : Nat) (h_health : μ.health = true) (h_flt : μ.flt = true) (h_svc : μ.svc = true) :
    Frame μ s₀ (State.goTo s st cause) := by
  delta State.goTo
  repeat' first
    | with_reducible assumption
    | with_reducible apply Frame.setFields
    | with_reducible apply Frame.showCues

theorem Frame.liveDiscard (h : Frame μ s₀ s) (h_cfg : μ.cfg = true) (h_health : μ.health = true) (h_flt : μ.flt = true) :
    Frame μ s₀ (State.liveDiscard s) := by
  delta State.liveDiscard
  repeat' first
    | with_reducible assumption
    | with_reducible apply Frame.raise
    | with_reducible apply Frame.setF
    | with_reducible refine Frame.ite ?_ ?_
    | fail_if_no_progress with_reducible refine Frame.upd ?_

theorem Frame.discardDocs (h : Frame μ s₀ s) (report : Bool) (h_wins : μ.wins = true) (h_health : μ.health = true) (h_comp : μ.comp = true) (h_host : μ.host = true) (h_dma : μ.dma = true) (h_ring : μ.ring = true) (h_flt : μ.flt = true) :
    Frame μ s₀ (State.discardDocs s report) := by
  delta State.discardDocs
  repeat' first
    | with_reducible assumption
    | with_reducible apply Frame.docEnd
    | with_reducible apply Frame.modWin
    | with_reducible apply Frame.raise
    | with_reducible apply Frame.releaseKept
    | with_reducible apply Frame.showComp
    | with_reducible apply Frame.showQueue
    | with_reducible refine Frame.ite ?_ ?_
    | with_reducible refine Frame.foldl ?_ ?_
    | (try lift_lets -underBinder); intro x; refine Frame.cut (x := x) ?_ ?_ <;> [subst x; (clear_value x; intro _)]
    | (try lift_lets -underBinder); intro x; first | subst x | skip
    | fail_if_no_progress with_reducible refine Frame.upd ?_

theorem Frame.dropDefers (h : Frame μ s₀ s) (h_wins : μ.wins = true) :
    Frame μ s₀ (State.dropDefers s) := by
  delta State.dropDefers
  repeat' first
    | with_reducible assumption
    | with_reducible apply Frame.modWin
    | with_reducible refine Frame.ite ?_ ?_
    | with_reducible refine Frame.foldl ?_ ?_
    | (try lift_lets -underBinder); intro x; refine Frame.cut (x := x) ?_ ?_ <;> [subst x; (clear_value x; intro _)]
    | (try lift_lets -underBinder); intro x; first | subst x | skip
    | fail_if_no_progress with_reducible refine Frame.upd ?_

theorem Frame.startSa (h : Frame μ s₀ s) (h_sys : μ.sys = true) (h_health : μ.health = true) (h_flt : μ.flt = true) :
    Frame μ s₀ (State.startSa s) := by
  delta State.startSa
  repeat' first
    | with_reducible assumption
    | with_reducible apply Frame.raise
    | with_reducible refine Frame.ite ?_ ?_
    | fail_if_no_progress with_reducible refine Frame.upd ?_

theorem Frame.noPattern (h : Frame μ s₀ s) (h_sys : μ.sys = true) :
    Frame μ s₀ (State.noPattern s) := by
  delta State.noPattern
  repeat' first
    | with_reducible assumption
    | fail_if_no_progress with_reducible refine Frame.upd ?_

theorem Frame.noSpit (h : Frame μ s₀ s) (h_sys : μ.sys = true) :
    Frame μ s₀ (State.noSpit s) := by
  delta State.noSpit
  repeat' first
    | with_reducible assumption
    | fail_if_no_progress with_reducible refine Frame.upd ?_

theorem Frame.quietSys (h : Frame μ s₀ s) (h_sys : μ.sys = true) :
    Frame μ s₀ (State.quietSys s) := by
  delta State.quietSys
  repeat' first
    | with_reducible assumption
    | with_reducible apply Frame.noPattern
    | with_reducible apply Frame.noSpit

theorem Frame.enterNight (h : Frame μ s₀ s) (cause : Nat) (h_sys : μ.sys = true) (h_cfg : μ.cfg = true) (h_wins : μ.wins = true) (h_health : μ.health = true) (h_comp : μ.comp = true) (h_host : μ.host = true) (h_dma : μ.dma = true) (h_ring : μ.ring = true) (h_ports : μ.ports = true) (h_pwr : μ.pwr = true) (h_mot : μ.mot = true) (h_flt : μ.flt = true) (h_cal : μ.cal = true) (h_svc : μ.svc = true) :
    Frame μ s₀ (State.enterNight s cause) := by
  delta State.enterNight
  repeat' first
    | with_reducible assumption
    | with_reducible apply Frame.calDrop
    | with_reducible apply Frame.discardDocs
    | with_reducible apply Frame.dropDefers
    | with_reducible apply Frame.goTo
    | with_reducible apply Frame.liveDiscard
    | with_reducible apply Frame.motorsOff
    | with_reducible apply Frame.quietSys
    | with_reducible apply Frame.railsDown
    | with_reducible apply Frame.removePower
    | with_reducible apply Frame.setFields
    | with_reducible apply Frame.startSa
    | with_reducible refine Frame.ite ?_ ?_
    | with_reducible refine Frame.foldl ?_ ?_
    | (try lift_lets -underBinder); intro x; refine Frame.cut (x := x) ?_ ?_ <;> [subst x; (clear_value x; intro _)]
    | (try lift_lets -underBinder); intro x; first | subst x | skip
    | fail_if_no_progress with_reducible refine Frame.upd ?_

theorem Frame.enterMidnight (h : Frame μ s₀ s) (cause : Nat) (h_sys : μ.sys = true) (h_cfg : μ.cfg = true) (h_fire : μ.fire = true) (h_wins : μ.wins = true) (h_health : μ.health = true) (h_comp : μ.comp = true) (h_host : μ.host = true) (h_dma : μ.dma = true) (h_ring : μ.ring = true) (h_ports : μ.ports = true) (h_pwr : μ.pwr = true) (h_mot : μ.mot = true) (h_flt : μ.flt = true) (h_cal : μ.cal = true) (h_svc : μ.svc = true) :
    Frame μ s₀ (State.enterMidnight s cause) := by
  delta State.enterMidnight
  repeat' first
    | with_reducible assumption
    | with_reducible apply Frame.calDrop
    | with_reducible apply Frame.discardDocs
    | with_reducible apply Frame.dropDefers
    | with_reducible apply Frame.fuseOpen
    | with_reducible apply Frame.goTo
    | with_reducible apply Frame.liveDiscard
    | with_reducible apply Frame.logicOff
    | with_reducible apply Frame.modFire
    | with_reducible apply Frame.modWin
    | with_reducible apply Frame.motorsOff
    | with_reducible apply Frame.quietSys
    | with_reducible apply Frame.railsOff
    | with_reducible apply Frame.setF
    | with_reducible apply Frame.setFields
    | with_reducible apply Frame.updHoldup
    | with_reducible refine Frame.foldl ?_ ?_
    | (try lift_lets -underBinder); intro x; refine Frame.cut (x := x) ?_ ?_ <;> [subst x; (clear_value x; intro _)]
    | (try lift_lets -underBinder); intro x; first | subst x | skip
    | split
    | fail_if_no_progress dsimp only
    | fail_if_no_progress with_reducible refine Frame.upd ?_

theorem Frame.noonBegins (h : Frame μ s₀ s) (h_wins : μ.wins = true) :
    Frame μ s₀ (State.noonBegins s) := by
  delta State.noonBegins
  repeat' first
    | with_reducible assumption
    | with_reducible apply Frame.modWin
    | with_reducible apply Frame.setF
    | with_reducible refine Frame.foldl ?_ ?_
    | (try lift_lets -underBinder); intro x; refine Frame.cut (x := x) ?_ ?_ <;> [subst x; (clear_value x; intro _)]
    | (try lift_lets -underBinder); intro x; first | subst x | skip
    | fail_if_no_progress with_reducible refine Frame.upd ?_

theorem Frame.enterNoon (h : Frame μ s₀ s) (cause : Nat) (h_wins : μ.wins = true) (h_health : μ.health = true) (h_flt : μ.flt = true) (h_svc : μ.svc = true) :
    Frame μ s₀ (State.enterNoon s cause) := by
  delta State.enterNoon
  repeat' first
    | with_reducible assumption
    | with_reducible apply Frame.goTo
    | with_reducible apply Frame.noonBegins

theorem Frame.runPending (h : Frame μ s₀ s) (h_wins : μ.wins = true) (h_health : μ.health = true) (h_flt : μ.flt = true) (h_svc : μ.svc = true) :
    Frame μ s₀ (State.runPending s) := by
  delta State.runPending
  repeat' first
    | with_reducible assumption
    | with_reducible apply Frame.enterNoon
    | with_reducible refine Frame.ite ?_ ?_

theorem Frame.spitMorning (h : Frame μ s₀ s) (h_sys : μ.sys = true) :
    Frame μ s₀ (State.spitMorning s) := by
  delta State.spitMorning
  repeat' first
    | with_reducible assumption
    | with_reducible refine Frame.ite ?_ ?_
    | split
    | fail_if_no_progress with_reducible refine Frame.upd ?_

theorem Frame.enterMorning (h : Frame μ s₀ s) (cause : Nat) (h_sys : μ.sys = true) (h_wins : μ.wins = true) (h_health : μ.health = true) (h_pwr : μ.pwr = true) (h_flt : μ.flt = true) (h_cal : μ.cal = true) (h_svc : μ.svc = true) :
    Frame μ s₀ (State.enterMorning s cause) := by
  delta State.enterMorning
  repeat' first
    | with_reducible assumption
    | with_reducible apply Frame.calAllDue
    | with_reducible apply Frame.goTo
    | with_reducible apply Frame.runPending
    | with_reducible apply Frame.spitMorning
    | with_reducible apply Frame.startRails
    | with_reducible refine Frame.ite ?_ ?_
    | (try lift_lets -underBinder); intro x; refine Frame.cut (x := x) ?_ ?_ <;> [subst x; (clear_value x; intro _)]
    | (try lift_lets -underBinder); intro x; first | subst x | skip

theorem Frame.finishTest (h : Frame μ s₀ s) (h_wins : μ.wins = true) :
    Frame μ s₀ (State.finishTest s) := by
  delta State.finishTest
  repeat' first
    | with_reducible assumption
    | with_reducible apply Frame.askStop
    | with_reducible apply Frame.showPred
    | with_reducible refine Frame.ite ?_ ?_
    | with_reducible refine Frame.foldl ?_ ?_
    | (try lift_lets -underBinder); intro x; refine Frame.cut (x := x) ?_ ?_ <;> [subst x; (clear_value x; intro _)]
    | (try lift_lets -underBinder); intro x; first | subst x | skip
    | split
    | fail_if_no_progress dsimp only
    | fail_if_no_progress with_reducible refine Frame.upd ?_

theorem Frame.stopDocs (h : Frame μ s₀ s) (h_wins : μ.wins = true) :
    Frame μ s₀ (State.stopDocs s) := by
  delta State.stopDocs
  repeat' first
    | with_reducible assumption
    | with_reducible apply Frame.askStop
    | with_reducible refine Frame.foldl ?_ ?_
    | (try lift_lets -underBinder); intro x; refine Frame.cut (x := x) ?_ ?_ <;> [subst x; (clear_value x; intro _)]
    | (try lift_lets -underBinder); intro x; first | subst x | skip

theorem Frame.enterDusk (h : Frame μ s₀ s) (cause : Nat) (night : Bool) (h_sys : μ.sys = true) (h_wins : μ.wins = true) (h_health : μ.health = true) (h_mot : μ.mot = true) (h_flt : μ.flt = true) (h_cal : μ.cal = true) (h_svc : μ.svc = true) :
    Frame μ s₀ (State.enterDusk s cause night) := by
  delta State.enterDusk
  repeat' first
    | with_reducible assumption
    | with_reducible apply Frame.calDrop
    | with_reducible apply Frame.dropDefers
    | with_reducible apply Frame.finishTest
    | with_reducible apply Frame.goTo
    | with_reducible apply Frame.motorsDusk
    | with_reducible apply Frame.noPattern
    | with_reducible apply Frame.noteSwaps
    | with_reducible apply Frame.stopDocs
    | with_reducible refine Frame.ite ?_ ?_
    | (try lift_lets -underBinder); intro x; refine Frame.cut (x := x) ?_ ?_ <;> [subst x; (clear_value x; intro _)]
    | (try lift_lets -underBinder); intro x; first | subst x | skip
    | fail_if_no_progress with_reducible refine Frame.upd ?_

theorem Frame.stopFault (h : Frame μ s₀ s) (h_sys : μ.sys = true) (h_wins : μ.wins = true) (h_health : μ.health = true) (h_mot : μ.mot = true) (h_flt : μ.flt = true) (h_cal : μ.cal = true) (h_svc : μ.svc = true) :
    Frame μ s₀ (State.stopFault s) := by
  delta State.stopFault
  repeat' first
    | with_reducible assumption
    | with_reducible apply Frame.enterDusk
    | with_reducible refine Frame.ite ?_ ?_

theorem Frame.thermalDusk (h : Frame μ s₀ s) (n : Option Nat) (h_sys : μ.sys = true) (h_wins : μ.wins = true) (h_health : μ.health = true) (h_mot : μ.mot = true) (h_thm : μ.thm = true) (h_flt : μ.flt = true) (h_cal : μ.cal = true) (h_svc : μ.svc = true) :
    Frame μ s₀ (State.thermalDusk s n) := by
  delta State.thermalDusk
  repeat' first
    | with_reducible assumption
    | with_reducible apply Frame.enterDusk
    | with_reducible refine Frame.ite ?_ ?_
    | fail_if_no_progress with_reducible refine Frame.upd ?_

theorem Frame.mainsLostState (h : Frame μ s₀ s) (h_sys : μ.sys = true) (h_cfg : μ.cfg = true) (h_wins : μ.wins = true) (h_health : μ.health = true) (h_comp : μ.comp = true) (h_host : μ.host = true) (h_dma : μ.dma = true) (h_ring : μ.ring = true) (h_ports : μ.ports = true) (h_pwr : μ.pwr = true) (h_mot : μ.mot = true) (h_flt : μ.flt = true) (h_cal : μ.cal = true) (h_svc : μ.svc = true) :
    Frame μ s₀ (State.mainsLostState s) := by
  delta State.mainsLostState
  repeat' first
    | with_reducible assumption
    | with_reducible apply Frame.enterNight
    | with_reducible apply Frame.goTo
    | with_reducible apply Frame.setF
    | with_reducible apply Frame.showCues
    | with_reducible refine Frame.ite ?_ ?_
    | (try lift_lets -underBinder); intro x; refine Frame.cut (x := x) ?_ ?_ <;> [subst x; (clear_value x; intro _)]
    | (try lift_lets -underBinder); intro x; first | subst x | skip

theorem Frame.handBack (h : Frame μ s₀ s) (h_sys : μ.sys = true) (h_wins : μ.wins = true) (h_health : μ.health = true) (h_pwr : μ.pwr = true) (h_flt : μ.flt = true) (h_cal : μ.cal = true) (h_svc : μ.svc = true) :
    Frame μ s₀ (State.handBack s) := by
  delta State.handBack
  repeat' first
    | with_reducible assumption
    | with_reducible apply Frame.enterMorning
    | with_reducible apply Frame.enterNoon
    | with_reducible refine Frame.ite ?_ ?_

theorem Frame.runRequest (h : Frame μ s₀ s) (h_wins : μ.wins = true) (h_health : μ.health = true) (h_flt : μ.flt = true) (h_svc : μ.svc = true) :
    Frame μ s₀ (State.runRequest s) := by
  delta State.runRequest
  repeat' first
    | with_reducible assumption
    | with_reducible apply Frame.enterNoon
    | with_reducible apply Frame.noonBegins
    | with_reducible apply Frame.raise
    | with_reducible apply Frame.setF
    | with_reducible refine Frame.ite ?_ ?_

theorem Frame.stopRequest (h : Frame μ s₀ s) (h_sys : μ.sys = true) (h_wins : μ.wins = true) (h_health : μ.health = true) (h_mot : μ.mot = true) (h_flt : μ.flt = true) (h_cal : μ.cal = true) (h_svc : μ.svc = true) :
    Frame μ s₀ (State.stopRequest s) := by
  delta State.stopRequest
  repeat' first
    | with_reducible assumption
    | with_reducible apply Frame.enterDusk
    | with_reducible apply Frame.setF
    | with_reducible refine Frame.ite ?_ ?_
    | (try lift_lets -underBinder); intro x; refine Frame.cut (x := x) ?_ ?_ <;> [subst x; (clear_value x; intro _)]
    | (try lift_lets -underBinder); intro x; first | subst x | skip

theorem Frame.nightRequest (h : Frame μ s₀ s) (h_sys : μ.sys = true) (h_cfg : μ.cfg = true) (h_wins : μ.wins = true) (h_health : μ.health = true) (h_comp : μ.comp = true) (h_host : μ.host = true) (h_dma : μ.dma = true) (h_ring : μ.ring = true) (h_ports : μ.ports = true) (h_pwr : μ.pwr = true) (h_mot : μ.mot = true) (h_flt : μ.flt = true) (h_cal : μ.cal = true) (h_svc : μ.svc = true) :
    Frame μ s₀ (State.nightRequest s) := by
  delta State.nightRequest
  repeat' first
    | with_reducible assumption
    | with_reducible apply Frame.enterDusk
    | with_reducible apply Frame.enterNight
    | with_reducible apply Frame.setF
    | with_reducible refine Frame.ite ?_ ?_
    | (try lift_lets -underBinder); intro x; refine Frame.cut (x := x) ?_ ?_ <;> [subst x; (clear_value x; intro _)]
    | (try lift_lets -underBinder); intro x; first | subst x | skip
    | fail_if_no_progress with_reducible refine Frame.upd ?_

theorem Frame.abandon (h : Frame μ s₀ s) (h_wins : μ.wins = true) :
    Frame μ s₀ (State.abandon s) := by
  delta State.abandon
  repeat' first
    | with_reducible assumption
    | with_reducible apply Frame.stopDocs
    | with_reducible refine Frame.ite ?_ ?_

theorem Frame.clearLanes (h : Frame μ s₀ s) (h_lanes : μ.lanes = true) (h_health : μ.health = true) :
    Frame μ s₀ (State.clearLanes s) := by
  delta State.clearLanes
  exact Frame.upd h (wlanes := .inr fun _ => rfl)

theorem Frame.dawnLanes (h : Frame μ s₀ s) (bad : List Nat) (h_tileH : μ.tileH = true) (h_lanes : μ.lanes = true) (h_health : μ.health = true) (h_flt : μ.flt = true) :
    Frame μ s₀ (State.dawnLanes s bad) := by
  delta State.dawnLanes
  repeat' first
    | with_reducible assumption
    | with_reducible apply Frame.clearLanes
    | with_reducible apply Frame.connect
    | with_reducible apply Frame.failEngine
    | with_reducible apply Frame.modTh
    | with_reducible apply Frame.setF
    | with_reducible apply Frame.setFields
    | with_reducible refine Frame.ite ?_ ?_
    | with_reducible refine Frame.foldl ?_ ?_
    | (try lift_lets -underBinder); intro x; refine Frame.cut (x := x) ?_ ?_ <;> [subst x; (clear_value x; intro _)]
    | (try lift_lets -underBinder); intro x; first | subst x | skip
    | split
    | fail_if_no_progress dsimp only
    | fail_if_no_progress with_reducible refine Frame.upd ?_

theorem Frame.dawnTile (h : Frame μ s₀ s) (n : Nat) (h_fire : μ.fire = true) (h_tileH : μ.tileH = true) (h_ports : μ.ports = true) :
    Frame μ s₀ (State.dawnTile s n) := by
  delta State.dawnTile
  repeat' first
    | with_reducible assumption
    | with_reducible apply Frame.fuseOpen
    | with_reducible apply Frame.logicOff
    | with_reducible apply Frame.modFire
    | with_reducible apply Frame.modPort
    | with_reducible apply Frame.modTh
    | with_reducible apply Frame.setFields
    | (try lift_lets -underBinder); intro x; refine Frame.cut (x := x) ?_ ?_ <;> [subst x; (clear_value x; intro _)]
    | (try lift_lets -underBinder); intro x; first | subst x | skip

theorem Frame.dawnDetect (h : Frame μ s₀ s) (n : Nat) (a : Pins) (m : Pins) (h_wins : μ.wins = true) (h_tileH : μ.tileH = true) (h_health : μ.health = true) (h_ports : μ.ports = true) (h_flt : μ.flt = true) :
    Frame μ s₀ (State.dawnDetect s n a m) := by
  delta State.dawnDetect
  repeat' first
    | with_reducible assumption
    | with_reducible apply Frame.absentTile
    | with_reducible apply Frame.failTile
    | with_reducible apply Frame.modPort
    | with_reducible apply Frame.raiseLane
    | with_reducible apply Frame.setF
    | with_reducible refine Frame.ite ?_ ?_
    | (try lift_lets -underBinder); intro x; refine Frame.cut (x := x) ?_ ?_ <;> [subst x; (clear_value x; intro _)]
    | (try lift_lets -underBinder); intro x; first | subst x | skip
    | fail_if_no_progress with_reducible refine Frame.upd ?_

theorem Frame.enterDawn (h : Frame μ s₀ s) (cause : Nat) (x : DawnTests) (h_nv : μ.nv = true) (h_fire : μ.fire = true) (h_wins : μ.wins = true) (h_noz : μ.noz = true) (h_tileH : μ.tileH = true) (h_lanes : μ.lanes = true) (h_health : μ.health = true) (h_ports : μ.ports = true) (h_mot : μ.mot = true) (h_flt : μ.flt = true) (h_cal : μ.cal = true) (h_svc : μ.svc = true) :
    Frame μ s₀ (State.enterDawn s cause x) := by
  delta State.enterDawn
  repeat' first
    | with_reducible assumption
    | with_reducible apply Frame.calDawnPair
    | with_reducible apply Frame.calDawnStart
    | with_reducible apply Frame.dawnDetect
    | with_reducible apply Frame.dawnLanes
    | with_reducible apply Frame.dawnMotor
    | with_reducible apply Frame.dawnTile
    | with_reducible apply Frame.goTo
    | with_reducible apply Frame.mapNoz
    | with_reducible apply Frame.raise
    | with_reducible apply Frame.setF
    | with_reducible refine Frame.foldl ?_ ?_
    | (try lift_lets -underBinder); intro x; refine Frame.cut (x := x) ?_ ?_ <;> [subst x; (clear_value x; intro _)]
    | (try lift_lets -underBinder); intro x; first | subst x | skip
    | split

theorem Frame.dawnCounts (h : Frame μ s₀ s) (h_sys : μ.sys = true) :
    Frame μ s₀ (State.dawnCounts s) := by
  delta State.dawnCounts
  repeat' first
    | with_reducible assumption
    | with_reducible apply Frame.setFields
    | (try lift_lets -underBinder); intro x; refine Frame.cut (x := x) ?_ ?_ <;> [subst x; (clear_value x; intro _)]
    | (try lift_lets -underBinder); intro x; first | subst x | skip
    | fail_if_no_progress with_reducible refine Frame.upd ?_

theorem Frame.freeSlots (h : Frame μ s₀ s) (h_dma : μ.dma = true) :
    Frame μ s₀ (State.freeSlots s) := by
  delta State.freeSlots
  repeat' first
    | with_reducible assumption
    | with_reducible apply Frame.showSlots
    | with_reducible refine Frame.ite ?_ ?_
    | (try lift_lets -underBinder); intro x; refine Frame.cut (x := x) ?_ ?_ <;> [subst x; (clear_value x; intro _)]
    | (try lift_lets -underBinder); intro x; first | subst x | skip
    | fail_if_no_progress with_reducible refine Frame.upd ?_

theorem Frame.applyPos (h : Frame μ s₀ s) (h_pos : μ.pos = true) (h_health : μ.health = true) (h_flt : μ.flt = true) :
    Frame μ s₀ (State.applyPos s) := by
  delta State.applyPos
  repeat' first
    | with_reducible assumption
    | with_reducible apply Frame.modPin
    | with_reducible apply Frame.raise
    | with_reducible apply Frame.setBit
    | with_reducible apply Frame.setLine
    | with_reducible refine Frame.ite ?_ ?_
    | with_reducible refine Frame.foldl ?_ ?_
    | (try lift_lets -underBinder); intro x; refine Frame.cut (x := x) ?_ ?_ <;> [subst x; (clear_value x; intro _)]
    | (try lift_lets -underBinder); intro x; first | subst x | skip
    | fail_if_no_progress with_reducible refine Frame.upd ?_

theorem Frame.applyTiles (h : Frame μ s₀ s) (h_fire : μ.fire = true) (h_wins : μ.wins = true) (h_noz : μ.noz = true) (h_tileH : μ.tileH = true) (h_health : μ.health = true) (h_ports : μ.ports = true) (h_flt : μ.flt = true) :
    Frame μ s₀ (State.applyTiles s) := by
  delta State.applyTiles
  repeat' first
    | with_reducible assumption
    | with_reducible apply Frame.bypassTile
    | with_reducible apply Frame.endPause
    | with_reducible apply Frame.mapNoz
    | with_reducible apply Frame.modFire
    | with_reducible apply Frame.modWin
    | with_reducible apply Frame.raiseLane
    | with_reducible apply Frame.refFrac
    | with_reducible apply Frame.removeVpp
    | with_reducible apply Frame.resetFire
    | with_reducible apply Frame.setF
    | with_reducible refine Frame.ite ?_ ?_
    | with_reducible refine Frame.foldl ?_ ?_
    | (try lift_lets -underBinder); intro x; refine Frame.cut (x := x) ?_ ?_ <;> [subst x; (clear_value x; intro _)]
    | (try lift_lets -underBinder); intro x; first | subst x | skip
    | split
    | fail_if_no_progress dsimp only
    | fail_if_no_progress with_reducible refine Frame.upd ?_

theorem Frame.applyCues (h : Frame μ s₀ s) (h_health : μ.health = true) (h_flt : μ.flt = true) (h_svc : μ.svc = true) :
    Frame μ s₀ (State.applyCues s) := by
  delta State.applyCues
  repeat' first
    | with_reducible assumption
    | with_reducible apply Frame.showCues
    | fail_if_no_progress with_reducible refine Frame.upd ?_

theorem Frame.applyImage (h : Frame μ s₀ s) (im : Image) (h_sys : μ.sys = true) (h_cfg : μ.cfg = true) (h_pos : μ.pos = true) (h_fire : μ.fire = true) (h_wins : μ.wins = true) (h_noz : μ.noz = true) (h_tileH : μ.tileH = true) (h_health : μ.health = true) (h_comp : μ.comp = true) (h_host : μ.host = true) (h_dma : μ.dma = true) (h_ring : μ.ring = true) (h_ports : μ.ports = true) (h_pwr : μ.pwr = true) (h_mot : μ.mot = true) (h_flt : μ.flt = true) (h_cal : μ.cal = true) (h_svc : μ.svc = true) :
    Frame μ s₀ (State.applyImage s im) := by
  delta State.applyImage
  repeat' first
    | with_reducible assumption
    | with_reducible apply Frame.applyCues
    | with_reducible apply Frame.applyPos
    | with_reducible apply Frame.applyTiles
    | with_reducible apply Frame.axisOff
    | with_reducible apply Frame.calApply
    | with_reducible apply Frame.discardDocs
    | with_reducible apply Frame.freeSlots
    | with_reducible apply Frame.liveDiscard
    | with_reducible apply Frame.modAxis
    | with_reducible apply Frame.noSpit
    | with_reducible apply Frame.setAcct
    | with_reducible apply Frame.setBanks
    | with_reducible apply Frame.setF
    | with_reducible apply Frame.setFields
    | with_reducible apply Frame.setSpad
    | with_reducible apply Frame.showComp
    | with_reducible apply Frame.showPool
    | with_reducible apply Frame.startRails
    | with_reducible apply Frame.updHoldup
    | with_reducible refine Frame.ite ?_ ?_
    | with_reducible refine Frame.foldl ?_ ?_
    | (try lift_lets -underBinder); intro x; refine Frame.cut (x := x) ?_ ?_ <;> [subst x; (clear_value x; intro _)]
    | (try lift_lets -underBinder); intro x; first | subst x | skip
    | fail_if_no_progress with_reducible refine Frame.upd ?_

end Sys2Proof.Machine
end

