-- ==== Sys2Proof/Laws/FrameCommands.lean ====
section
/-!
SUPPORT. The frames of the commands, each with the parts of the state it may change, and the operations they share. Each proof walks
through the operation's own structure and cites the frames of what it calls.
-/
set_option linter.unusedTactic false
set_option linter.unreachableTactic false
set_option linter.unusedVariables false
namespace Sys2Proof.Machine
set_option Elab.async false
variable {μ : Touch} {s₀ s : State}

/-! ### Machine/Composition.lean -/

theorem Frame.renderStart (h : Frame μ s₀ s) (w : Nat) (h_wins : μ.wins = true) (h_health : μ.health = true) (h_comp : μ.comp = true) (h_flt : μ.flt = true) :
    Frame μ s₀ (State.renderStart s w) := by
  delta State.renderStart
  repeat' first
    | with_reducible assumption
    | with_reducible apply Frame.modWin
    | with_reducible apply Frame.raise
    | with_reducible apply Frame.setF
    | with_reducible apply Frame.showComp
    | with_reducible refine Frame.ite ?_ ?_
    | with_reducible refine Frame.foldl ?_ ?_
    | (try lift_lets -underBinder); intro x; refine Frame.cut (x := x) ?_ ?_ <;> [subst x; (clear_value x; intro _)]
    | (try lift_lets -underBinder); intro x; first | subst x | skip
    | split
    | fail_if_no_progress dsimp only
    | fail_if_no_progress with_reducible refine Frame.upd ?_

theorem Frame.execDocumentRenderStart (h : Frame μ s₀ s) (t : Nat) (w : Nat) (h_wins : μ.wins = true) (h_health : μ.health = true) (h_comp : μ.comp = true) (h_flt : μ.flt = true) :
    ∃ s₁, execDocumentRenderStart t w s = .next s₁ ∧ Frame μ s₀ s₁ := by
  refine ⟨_, rfl, ?_⟩
  repeat' first
    | with_reducible assumption
    | with_reducible apply Frame.at
    | with_reducible apply Frame.renderStart

theorem Frame.renderNotes (h : Frame μ s₀ s) (d : RDoc) (h_health : μ.health = true) (h_flt : μ.flt = true) :
    Frame μ s₀ (State.renderNotes s d) := by
  delta State.renderNotes
  repeat' first
    | with_reducible assumption
    | with_reducible apply Frame.raise
    | with_reducible refine Frame.ite ?_ ?_
    | with_reducible refine Frame.foldl ?_ ?_
    | (try lift_lets -underBinder); intro x; refine Frame.cut (x := x) ?_ ?_ <;> [subst x; (clear_value x; intro _)]
    | (try lift_lets -underBinder); intro x; first | subst x | skip
    | split
    | fail_if_no_progress dsimp only
    | fail_if_no_progress with_reducible refine Frame.upd ?_

theorem Frame.rendered (h : Frame μ s₀ s) (d : RDoc) (h_health : μ.health = true) (h_comp : μ.comp = true) (h_dma : μ.dma = true) (h_flt : μ.flt = true) :
    Frame μ s₀ (State.rendered s d) := by
  delta State.rendered
  repeat' first
    | with_reducible assumption
    | with_reducible apply Frame.count
    | with_reducible apply Frame.modDoc
    | with_reducible apply Frame.releaseKept
    | with_reducible apply Frame.renderNotes
    | with_reducible apply Frame.serialAdvance
    | with_reducible apply Frame.showComp
    | with_reducible refine Frame.ite ?_ ?_
    | with_reducible refine Frame.foldl ?_ ?_
    | (try lift_lets -underBinder); intro x; refine Frame.cut (x := x) ?_ ?_ <;> [subst x; (clear_value x; intro _)]
    | (try lift_lets -underBinder); intro x; first | subst x | skip
    | fail_if_no_progress with_reducible refine Frame.upd ?_

theorem Frame.execDocumentRendered (h : Frame μ s₀ s) (t : Nat) (w : Nat) (h_health : μ.health = true) (h_comp : μ.comp = true) (h_dma : μ.dma = true) (h_flt : μ.flt = true) :
    ∃ s₁, execDocumentRendered t w s = .next s₁ ∧ Frame μ s₀ s₁ := by
  refine ⟨_, rfl, ?_⟩
  repeat' first
    | with_reducible assumption
    | with_reducible apply Frame.at
    | with_reducible apply Frame.rendered
    | with_reducible refine Frame.ite ?_ ?_
    | (try lift_lets -underBinder); intro x; refine Frame.cut (x := x) ?_ ?_ <;> [subst x; (clear_value x; intro _)]
    | (try lift_lets -underBinder); intro x; first | subst x | skip
    | split
    | fail_if_no_progress dsimp only
    | fail_if_no_progress with_reducible refine Frame.upd ?_

theorem Frame.takeLine (h : Frame μ s₀ s) (n : Nat) (e : Nat) (d : RDoc) (j : Nat) (h_lanes : μ.lanes = true) (h_comp : μ.comp = true) (h_pmc : μ.pmc = true) :
    Frame μ s₀ (State.takeLine s n e d j) := by
  delta State.takeLine
  repeat' first
    | with_reducible assumption
    | with_reducible apply Frame.modDoc
    | with_reducible apply Frame.showComp
    | with_reducible apply Frame.tagMany
    | with_reducible apply Frame.writeLine
    | with_reducible refine Frame.ite ?_ ?_
    | (try lift_lets -underBinder); intro x; refine Frame.cut (x := x) ?_ ?_ <;> [subst x; (clear_value x; intro _)]
    | (try lift_lets -underBinder); intro x; first | subst x | skip
    | split
    | fail_if_no_progress dsimp only
    | fail_if_no_progress with_reducible refine Frame.upd ?_

theorem Frame.prefillTile (h : Frame μ s₀ s) (n : Nat) (e : Nat) (d : RDoc) (h_wins : μ.wins = true) (h_lanes : μ.lanes = true) (h_health : μ.health = true) (h_comp : μ.comp = true) (h_flt : μ.flt = true) (h_pmc : μ.pmc = true) :
    Frame μ s₀ (State.prefillTile s n e d) := by
  delta State.prefillTile
  repeat' first
    | with_reducible assumption
    | with_reducible apply Frame.modDoc
    | with_reducible apply Frame.modLane
    | with_reducible apply Frame.takeLine
    | with_reducible apply Frame.tryDeliver
    | with_reducible refine Frame.foldl ?_ ?_
    | (try lift_lets -underBinder); intro x; refine Frame.cut (x := x) ?_ ?_ <;> [subst x; (clear_value x; intro _)]
    | (try lift_lets -underBinder); intro x; first | subst x | skip
    | fail_if_no_progress with_reducible refine Frame.upd ?_

theorem Frame.execPrefillComplete (h : Frame μ s₀ s) (t : Nat) (n : Nat) (h_wins : μ.wins = true) (h_lanes : μ.lanes = true) (h_health : μ.health = true) (h_comp : μ.comp = true) (h_flt : μ.flt = true) (h_pmc : μ.pmc = true) :
    ∃ s₁, execPrefillComplete t n s = .next s₁ ∧ Frame μ s₀ s₁ := by
  refine ⟨_, rfl, ?_⟩
  repeat' first
    | with_reducible assumption
    | with_reducible apply Frame.at
    | with_reducible apply Frame.prefillTile
    | with_reducible refine Frame.ite ?_ ?_
    | (try lift_lets -underBinder); intro x; refine Frame.cut (x := x) ?_ ?_ <;> [subst x; (clear_value x; intro _)]
    | (try lift_lets -underBinder); intro x; first | subst x | skip
    | split
    | fail_if_no_progress dsimp only
    | fail_if_no_progress with_reducible refine Frame.upd ?_

theorem Frame.execLineBufferWrite (h : Frame μ s₀ s) (t : Nat) (n : Nat) (j : Nat) (h_lanes : μ.lanes = true) (h_comp : μ.comp = true) (h_pmc : μ.pmc = true) :
    ∃ s₁, execLineBufferWrite t n j s = .next s₁ ∧ Frame μ s₀ s₁ := by
  refine ⟨_, rfl, ?_⟩
  repeat' first
    | with_reducible assumption
    | with_reducible apply Frame.at
    | with_reducible apply Frame.takeLine
    | with_reducible refine Frame.ite ?_ ?_
    | (try lift_lets -underBinder); intro x; refine Frame.cut (x := x) ?_ ?_ <;> [subst x; (clear_value x; intro _)]
    | (try lift_lets -underBinder); intro x; first | subst x | skip
    | split
    | fail_if_no_progress dsimp only
    | fail_if_no_progress with_reducible refine Frame.upd ?_

/-! ### Machine/Lane.lean -/

theorem Frame.underrun (h : Frame μ s₀ s) (n : Nat) (e : Nat) (f : Nat) (h_lanes : μ.lanes = true) (h_health : μ.health = true) (h_flt : μ.flt = true) :
    Frame μ s₀ (State.underrun s n e f) := by
  delta State.underrun
  repeat' first
    | with_reducible assumption
    | with_reducible apply Frame.addF
    | with_reducible apply Frame.count
    | with_reducible apply Frame.modLane
    | with_reducible apply Frame.raiseLane
    | with_reducible apply Frame.setF
    | with_reducible refine Frame.ite ?_ ?_
    | (try lift_lets -underBinder); intro x; refine Frame.cut (x := x) ?_ ?_ <;> [subst x; (clear_value x; intro _)]
    | (try lift_lets -underBinder); intro x; first | subst x | skip
    | fail_if_no_progress with_reducible refine Frame.upd ?_

theorem Frame.header (h : Frame μ s₀ s) (n : Nat) (f : Nat) (d : Doc) (h_tileH : μ.tileH = true) (h_health : μ.health = true) (h_flt : μ.flt = true) :
    Frame μ s₀ (State.header s n f d).1 := by
  delta State.header
  repeat' first
    | with_reducible assumption
    | with_reducible apply Frame.modTh
    | with_reducible apply Frame.raiseLane
    | with_reducible apply Frame.senseVpp
    | with_reducible refine Frame.senseVpp_eq ?_ (by assumption) ‹_› ‹_› ‹_›
    | with_reducible apply Frame.setF
    | with_reducible apply Frame.setFields
    | with_reducible refine Frame.ite ?_ ?_
    | with_reducible refine Frame.ite_fst ?_ ?_
    | (try lift_lets -underBinder); intro x; refine Frame.cut (x := x) ?_ ?_ <;> [subst x; (clear_value x; intro _)]
    | (try lift_lets -underBinder); intro x; first | subst x | skip
    | split
    | fail_if_no_progress dsimp only
    | fail_if_no_progress with_reducible refine Frame.upd ?_

theorem Frame.header_eq {c} {v} (h : Frame μ s₀ s) {n : Nat} {f : Nat} {d : Doc} (e : State.header s n f d = (c, v)) (h_tileH : μ.tileH = true) (h_health : μ.health = true) (h_flt : μ.flt = true) :
    Frame μ s₀ c := by
  have k := Frame.header h n f d h_tileH h_health h_flt
  rwa [e] at k

theorem Frame.tagCycle (h : Frame μ s₀ s) (e : Nat) (f : Nat) (d : Doc) (h_pmc : μ.pmc = true) :
    Frame μ s₀ (State.tagCycle s e f d) := by
  delta State.tagCycle
  repeat' first
    | with_reducible assumption
    | with_reducible apply Frame.modTag
    | with_reducible apply Frame.tagMany
    | with_reducible refine Frame.ite ?_ ?_
    | with_reducible refine Frame.foldl ?_ ?_
    | (try lift_lets -underBinder); intro x; refine Frame.cut (x := x) ?_ ?_ <;> [subst x; (clear_value x; intro _)]
    | (try lift_lets -underBinder); intro x; first | subst x | skip

theorem Frame.prepare (h : Frame μ s₀ s) (n : Nat) (e : Nat) (f : Nat) (r : TileRec) (d : Doc) (h_noz : μ.noz = true) (h_tileH : μ.tileH = true) (h_lanes : μ.lanes = true) (h_health : μ.health = true) (h_flt : μ.flt = true) (h_pmc : μ.pmc = true) :
    Frame μ s₀ (State.prepare s n e f r d) := by
  delta State.prepare
  repeat' first
    | with_reducible assumption
    | with_reducible apply Frame.addF
    | with_reducible apply Frame.count
    | with_reducible apply Frame.eventSweep
    | with_reducible refine Frame.eventSweep_eq ?_ (by assumption) ‹_›
    | with_reducible apply Frame.header
    | with_reducible refine Frame.header_eq ?_ (by assumption) ‹_› ‹_› ‹_›
    | with_reducible apply Frame.modLane
    | with_reducible apply Frame.modTh
    | with_reducible apply Frame.setF
    | with_reducible apply Frame.tagCycle
    | (try lift_lets -underBinder); intro x; refine Frame.cut (x := x) ?_ ?_ <;> [subst x; (clear_value x; intro _)]
    | (try lift_lets -underBinder); intro x; first | subst x | skip
    | split
    | fail_if_no_progress dsimp only
    | fail_if_no_progress with_reducible refine Frame.upd ?_

theorem Frame.execLaneCycleStart (h : Frame μ s₀ s) (t : Nat) (e : Nat) (h_noz : μ.noz = true) (h_tileH : μ.tileH = true) (h_lanes : μ.lanes = true) (h_health : μ.health = true) (h_flt : μ.flt = true) (h_pmc : μ.pmc = true) :
    ∃ s₁, execLaneCycleStart t e s = .next s₁ ∧ Frame μ s₀ s₁ := by
  refine ⟨_, rfl, ?_⟩
  repeat' first
    | with_reducible assumption
    | with_reducible apply Frame.at
    | with_reducible apply Frame.modLane
    | with_reducible apply Frame.prepare
    | with_reducible apply Frame.underrun
    | with_reducible refine Frame.ite ?_ ?_
    | (try lift_lets -underBinder); intro x; refine Frame.cut (x := x) ?_ ?_ <;> [subst x; (clear_value x; intro _)]
    | (try lift_lets -underBinder); intro x; first | subst x | skip
    | split
    | fail_if_no_progress dsimp only
    | fail_if_no_progress with_reducible refine Frame.upd ?_

theorem Frame.announce (h : Frame μ s₀ s) (w : Nat) (d : Doc) (h_wins : μ.wins = true) :
    Frame μ s₀ (State.announce s w d) := by
  delta State.announce
  repeat' first
    | with_reducible assumption
    | with_reducible apply Frame.modWin
    | with_reducible refine Frame.ite ?_ ?_
    | (try lift_lets -underBinder); intro x; refine Frame.cut (x := x) ?_ ?_ <;> [subst x; (clear_value x; intro _)]
    | (try lift_lets -underBinder); intro x; first | subst x | skip
    | split
    | fail_if_no_progress with_reducible refine Frame.upd ?_

theorem Frame.execCyclePackComplete (h : Frame μ s₀ s) (t : Nat) (e : Nat) (h_wins : μ.wins = true) (h_tileH : μ.tileH = true) (h_lanes : μ.lanes = true) (h_pmc : μ.pmc = true) :
    ∃ s₁, execCyclePackComplete t e s = .next s₁ ∧ Frame μ s₀ s₁ := by
  refine ⟨_, rfl, ?_⟩
  repeat' first
    | with_reducible assumption
    | with_reducible apply Frame.announce
    | with_reducible apply Frame.at
    | with_reducible apply Frame.incF
    | with_reducible apply Frame.modLane
    | with_reducible apply Frame.modTh
    | with_reducible apply Frame.tagRecord
    | with_reducible refine Frame.ite ?_ ?_
    | (try lift_lets -underBinder); intro x; refine Frame.cut (x := x) ?_ ?_ <;> [subst x; (clear_value x; intro _)]
    | (try lift_lets -underBinder); intro x; first | subst x | skip
    | split
    | fail_if_no_progress dsimp only
    | fail_if_no_progress with_reducible refine Frame.upd ?_

theorem Frame.execTilePacketSend (h : Frame μ s₀ s) (t : Nat) (n : Nat) (h_lanes : μ.lanes = true) (h_ports : μ.ports = true) (h_pmc : μ.pmc = true) :
    ∃ s₁, execTilePacketSend t n s = .next s₁ ∧ Frame μ s₀ s₁ := by
  refine ⟨_, rfl, ?_⟩
  repeat' first
    | with_reducible assumption
    | with_reducible apply Frame.at
    | with_reducible refine Frame.emit ?_ _ (.inr rfl)
    | with_reducible apply Frame.modLane
    | with_reducible apply Frame.modPort
    | with_reducible apply Frame.modTag
    | with_reducible refine Frame.ite ?_ ?_
    | (try lift_lets -underBinder); intro x; refine Frame.cut (x := x) ?_ ?_ <;> [subst x; (clear_value x; intro _)]
    | (try lift_lets -underBinder); intro x; first | subst x | skip
    | split
    | fail_if_no_progress dsimp only
    | fail_if_no_progress with_reducible refine Frame.upd ?_

theorem Frame.fireStrobe (h : Frame μ s₀ s) (n : Nat) (target : Nat) (p : Packet) (h_fire : μ.fire = true) (h_ports : μ.ports = true) (h_pmc : μ.pmc = true) (h_strobe : μ.strobe = true) :
    Frame μ s₀ (State.fireStrobe s n target p) := by
  delta State.fireStrobe
  repeat' first
    | with_reducible assumption
    | with_reducible apply Frame.addUse
    | with_reducible apply Frame.count
    | with_reducible refine Frame.emit ?_ _ (.inr rfl)
    | with_reducible apply Frame.modFire
    | with_reducible apply Frame.modPort
    | with_reducible apply Frame.modTag
    | with_reducible apply Frame.tagRecord
    | with_reducible refine Frame.emit ?_ _ (.inl ‹_›)
    | (try lift_lets -underBinder); intro x; refine Frame.cut (x := x) ?_ ?_ <;> [subst x; (clear_value x; intro _)]
    | (try lift_lets -underBinder); intro x; first | subst x | skip
    | split
    | fail_if_no_progress dsimp only
    | fail_if_no_progress with_reducible refine Frame.upd ?_

theorem Frame.execStrobeLaunch (h : Frame μ s₀ s) (t : Nat) (n : Nat) (h_fire : μ.fire = true) (h_lanes : μ.lanes = true) (h_health : μ.health = true) (h_ports : μ.ports = true) (h_flt : μ.flt = true) (h_pmc : μ.pmc = true) (h_strobe : μ.strobe = true) :
    ∃ s₁, execStrobeLaunch t n s = .next s₁ ∧ Frame μ s₀ s₁ := by
  refine ⟨_, rfl, ?_⟩
  repeat' first
    | with_reducible assumption
    | with_reducible apply Frame.at
    | with_reducible apply Frame.dropPacket
    | with_reducible apply Frame.fireStrobe
    | with_reducible apply Frame.modFire
    | with_reducible apply Frame.setF
    | with_reducible apply Frame.tagRecord
    | with_reducible apply Frame.underrun
    | with_reducible refine Frame.ite ?_ ?_
    | (try lift_lets -underBinder); intro x; refine Frame.cut (x := x) ?_ ?_ <;> [subst x; (clear_value x; intro _)]
    | (try lift_lets -underBinder); intro x; first | subst x | skip
    | split
    | fail_if_no_progress dsimp only
    | fail_if_no_progress with_reducible refine Frame.upd ?_

theorem Frame.execGapSwapTimeout (h : Frame μ s₀ s) (t : Nat) (w : Nat) (h_cfg : μ.cfg = true) (h_pos : μ.pos = true) (h_fire : μ.fire = true) (h_wins : μ.wins = true) (h_noz : μ.noz = true) (h_tileH : μ.tileH = true) (h_health : μ.health = true) (h_ports : μ.ports = true) (h_flt : μ.flt = true) (h_cal : μ.cal = true) (h_svc : μ.svc = true) :
    ∃ s₁, execGapSwapTimeout t w s = .next s₁ ∧ Frame μ s₀ s₁ := by
  refine ⟨_, rfl, ?_⟩
  repeat' first
    | with_reducible assumption
    | with_reducible apply Frame.at
    | with_reducible apply Frame.swapWin
    | with_reducible refine Frame.ite ?_ ?_
    | (try lift_lets -underBinder); intro x; refine Frame.cut (x := x) ?_ ?_ <;> [subst x; (clear_value x; intro _)]
    | (try lift_lets -underBinder); intro x; first | subst x | skip
    | split
    | fail_if_no_progress dsimp only
    | fail_if_no_progress with_reducible refine Frame.upd ?_

theorem Frame.execPauseEnd (h : Frame μ s₀ s) (t : Nat) (w : Nat) (h_wins : μ.wins = true) :
    ∃ s₁, execPauseEnd t w s = .next s₁ ∧ Frame μ s₀ s₁ := by
  refine ⟨_, rfl, ?_⟩
  repeat' first
    | with_reducible assumption
    | with_reducible apply Frame.at
    | with_reducible apply Frame.endPause
    | with_reducible refine Frame.ite ?_ ?_
    | (try lift_lets -underBinder); intro x; refine Frame.cut (x := x) ?_ ?_ <;> [subst x; (clear_value x; intro _)]
    | (try lift_lets -underBinder); intro x; first | subst x | skip
    | split
    | fail_if_no_progress dsimp only
    | fail_if_no_progress with_reducible refine Frame.upd ?_

/-! ### Machine/Health.lean -/

theorem Frame.execHeaterMeasurement (h : Frame μ s₀ s) (t : Nat) (n : Nat) (r1 : Option Nat) (r2 : Option Nat) (h_wins : μ.wins = true) (h_noz : μ.noz = true) (h_tileH : μ.tileH = true) (h_health : μ.health = true) (h_flt : μ.flt = true) :
    ∃ s₁, execHeaterMeasurement t n r1 r2 s = .next s₁ ∧ Frame μ s₀ s₁ := by
  refine ⟨_, rfl, ?_⟩
  repeat' first
    | with_reducible assumption
    | with_reducible apply Frame.at
    | with_reducible apply Frame.judge
    | with_reducible apply Frame.modTh
    | with_reducible apply Frame.noteSwaps
    | with_reducible apply Frame.scanNext
    | with_reducible refine Frame.ite ?_ ?_
    | (try lift_lets -underBinder); intro x; refine Frame.cut (x := x) ?_ ?_ <;> [subst x; (clear_value x; intro _)]
    | (try lift_lets -underBinder); intro x; first | subst x | skip
    | fail_if_no_progress with_reducible refine Frame.upd ?_

theorem Frame.hlthForce (h : Frame μ s₀ s) (v : Nat) (h_wins : μ.wins = true) (h_noz : μ.noz = true) :
    Frame μ s₀ (State.hlthForce s v) := by
  delta State.hlthForce
  repeat' first
    | with_reducible assumption
    | with_reducible apply Frame.noteSwaps
    | with_reducible apply Frame.setBg
    | with_reducible refine Frame.ite ?_ ?_
    | (try lift_lets -underBinder); intro x; refine Frame.cut (x := x) ?_ ?_ <;> [subst x; (clear_value x; intro _)]
    | (try lift_lets -underBinder); intro x; first | subst x | skip

theorem Frame.execHlthForce (h : Frame μ s₀ s) (t : Nat) (v : Word) (h_wins : μ.wins = true) (h_noz : μ.noz = true) :
    ∃ s₁, execHlthForce t v s = .next s₁ ∧ Frame μ s₀ s₁ := by
  refine ⟨_, rfl, ?_⟩
  repeat' first
    | with_reducible assumption
    | with_reducible apply Frame.at
    | with_reducible apply Frame.hlthForce
    | with_reducible apply Frame.onWrite
    | (try lift_lets -underBinder); intro x; refine Frame.cut (x := x) ?_ ?_ <;> [subst x; (clear_value x; intro _)]
    | (try lift_lets -underBinder); intro x; first | subst x | skip

theorem Frame.hlthBypass (h : Frame μ s₀ s) (v : Nat) (h_wins : μ.wins = true) (h_tileH : μ.tileH = true) (h_health : μ.health = true) (h_flt : μ.flt = true) :
    Frame μ s₀ (State.hlthBypass s v) := by
  delta State.hlthBypass
  repeat' first
    | with_reducible assumption
    | with_reducible apply Frame.modTh
    | with_reducible apply Frame.noteSwaps
    | with_reducible apply Frame.raise
    | with_reducible refine Frame.ite ?_ ?_
    | (try lift_lets -underBinder); intro x; refine Frame.cut (x := x) ?_ ?_ <;> [subst x; (clear_value x; intro _)]
    | (try lift_lets -underBinder); intro x; first | subst x | skip
    | fail_if_no_progress with_reducible refine Frame.upd ?_

theorem Frame.execBypassRequest (h : Frame μ s₀ s) (t : Nat) (v : Word) (h_wins : μ.wins = true) (h_tileH : μ.tileH = true) (h_health : μ.health = true) (h_flt : μ.flt = true) :
    ∃ s₁, execBypassRequest t v s = .next s₁ ∧ Frame μ s₀ s₁ := by
  refine ⟨_, rfl, ?_⟩
  repeat' first
    | with_reducible assumption
    | with_reducible apply Frame.at
    | with_reducible apply Frame.hlthBypass
    | with_reducible apply Frame.onWrite
    | (try lift_lets -underBinder); intro x; refine Frame.cut (x := x) ?_ ?_ <;> [subst x; (clear_value x; intro _)]
    | (try lift_lets -underBinder); intro x; first | subst x | skip

theorem Frame.endRoll (h : Frame μ s₀ s) (d : Nat) (h_health : μ.health = true) :
    Frame μ s₀ (State.endRoll s d) := by
  delta State.endRoll
  repeat' first
    | with_reducible assumption
    | fail_if_no_progress with_reducible refine Frame.upd ?_

theorem Frame.showRolling (h : Frame μ s₀ s) :
    Frame μ s₀ (State.showRolling s) := by
  delta State.showRolling
  repeat' first
    | with_reducible assumption
    | with_reducible apply Frame.setF
    | (try lift_lets -underBinder); intro x; refine Frame.cut (x := x) ?_ ?_ <;> [subst x; (clear_value x; intro _)]
    | (try lift_lets -underBinder); intro x; first | subst x | skip
    | split
    | fail_if_no_progress with_reducible refine Frame.upd ?_

theorem Frame.parityFail (h : Frame μ s₀ s) (e : Nat) (h_wins : μ.wins = true) (h_tileH : μ.tileH = true) (h_lanes : μ.lanes = true) (h_health : μ.health = true) (h_flt : μ.flt = true) (h_pmc : μ.pmc = true) :
    Frame μ s₀ (State.parityFail s e) := by
  delta State.parityFail
  repeat' first
    | with_reducible assumption
    | with_reducible apply Frame.endRoll
    | with_reducible apply Frame.failEngine
    | with_reducible apply Frame.modLane
    | with_reducible apply Frame.modTh
    | with_reducible apply Frame.noteSwaps
    | with_reducible apply Frame.setF
    | with_reducible apply Frame.showRolling
    | with_reducible apply Frame.tagRecord
    | with_reducible refine Frame.ite ?_ ?_
    | (try lift_lets -underBinder); intro x; refine Frame.cut (x := x) ?_ ?_ <;> [subst x; (clear_value x; intro _)]
    | (try lift_lets -underBinder); intro x; first | subst x | skip
    | split
    | fail_if_no_progress dsimp only
    | fail_if_no_progress with_reducible refine Frame.upd ?_

theorem Frame.execLaneParityError (h : Frame μ s₀ s) (t : Nat) (e : Nat) (h_wins : μ.wins = true) (h_tileH : μ.tileH = true) (h_lanes : μ.lanes = true) (h_health : μ.health = true) (h_flt : μ.flt = true) (h_pmc : μ.pmc = true) :
    ∃ s₁, execLaneParityError t e s = .next s₁ ∧ Frame μ s₀ s₁ := by
  refine ⟨_, rfl, ?_⟩
  repeat' first
    | with_reducible assumption
    | with_reducible apply Frame.at
    | with_reducible apply Frame.parityFail
    | with_reducible refine Frame.ite ?_ ?_
    | (try lift_lets -underBinder); intro x; refine Frame.cut (x := x) ?_ ?_ <;> [subst x; (clear_value x; intro _)]
    | (try lift_lets -underBinder); intro x; first | subst x | skip

theorem Frame.takeOver (h : Frame μ s₀ s) (n : Nat) (e : Nat) (h_noz : μ.noz = true) (h_tileH : μ.tileH = true) (h_lanes : μ.lanes = true) (h_health : μ.health = true) (h_comp : μ.comp = true) :
    Frame μ s₀ (State.takeOver s n e) := by
  delta State.takeOver
  repeat' first
    | with_reducible assumption
    | with_reducible apply Frame.connect
    | with_reducible apply Frame.endRoll
    | with_reducible apply Frame.modLane
    | with_reducible apply Frame.modNoz
    | with_reducible apply Frame.modTh
    | with_reducible apply Frame.setBanks
    | with_reducible apply Frame.setF
    | with_reducible apply Frame.showRolling
    | with_reducible refine Frame.ite ?_ ?_
    | with_reducible refine Frame.foldl ?_ ?_
    | (try lift_lets -underBinder); intro x; refine Frame.cut (x := x) ?_ ?_ <;> [subst x; (clear_value x; intro _)]
    | (try lift_lets -underBinder); intro x; first | subst x | skip
    | split
    | fail_if_no_progress dsimp only
    | fail_if_no_progress with_reducible refine Frame.upd ?_

theorem Frame.execLaneEnginePrepared (h : Frame μ s₀ s) (t : Nat) (n : Nat) (h_noz : μ.noz = true) (h_tileH : μ.tileH = true) (h_lanes : μ.lanes = true) (h_health : μ.health = true) (h_comp : μ.comp = true) :
    ∃ s₁, execLaneEnginePrepared t n s = .next s₁ ∧ Frame μ s₀ s₁ := by
  refine ⟨_, rfl, ?_⟩
  repeat' first
    | with_reducible assumption
    | with_reducible apply Frame.at
    | with_reducible apply Frame.modTh
    | with_reducible apply Frame.takeOver
    | with_reducible refine Frame.ite ?_ ?_
    | (try lift_lets -underBinder); intro x; refine Frame.cut (x := x) ?_ ?_ <;> [subst x; (clear_value x; intro _)]
    | (try lift_lets -underBinder); intro x; first | subst x | skip
    | split
    | fail_if_no_progress dsimp only
    | fail_if_no_progress with_reducible refine Frame.upd ?_

theorem Frame.execRollIntervalExpiry (h : Frame μ s₀ s) (t : Nat) (d : Nat) (h_tileH : μ.tileH = true) (h_health : μ.health = true) :
    ∃ s₁, execRollIntervalExpiry t d s = .next s₁ ∧ Frame μ s₀ s₁ := by
  refine ⟨_, rfl, ?_⟩
  repeat' first
    | with_reducible assumption
    | with_reducible apply Frame.at
    | with_reducible apply Frame.modTh
    | with_reducible refine Frame.ite ?_ ?_
    | (try lift_lets -underBinder); intro x; refine Frame.cut (x := x) ?_ ?_ <;> [subst x; (clear_value x; intro _)]
    | (try lift_lets -underBinder); intro x; first | subst x | skip
    | split
    | fail_if_no_progress dsimp only
    | fail_if_no_progress with_reducible refine Frame.upd ?_

theorem Frame.execRollSelfTestComplete (h : Frame μ s₀ s) (t : Nat) (d : Nat) (pass : Bool) (h_wins : μ.wins = true) (h_tileH : μ.tileH = true) (h_lanes : μ.lanes = true) (h_health : μ.health = true) (h_flt : μ.flt = true) :
    ∃ s₁, execRollSelfTestComplete t d pass s = .next s₁ ∧ Frame μ s₀ s₁ := by
  refine ⟨_, rfl, ?_⟩
  repeat' first
    | with_reducible assumption
    | with_reducible apply Frame.at
    | with_reducible apply Frame.endRoll
    | with_reducible apply Frame.failEngine
    | with_reducible apply Frame.modLane
    | with_reducible apply Frame.modTh
    | with_reducible apply Frame.noteSwaps
    | with_reducible apply Frame.setF
    | with_reducible apply Frame.showRolling
    | with_reducible refine Frame.ite ?_ ?_
    | (try lift_lets -underBinder); intro x; refine Frame.cut (x := x) ?_ ?_ <;> [subst x; (clear_value x; intro _)]
    | (try lift_lets -underBinder); intro x; first | subst x | skip
    | split
    | fail_if_no_progress dsimp only
    | fail_if_no_progress with_reducible refine Frame.upd ?_

/-! ### Machine/Dma.lean -/

theorem Frame.orphan (h : Frame μ s₀ s) (p : Nat → Bool) (h_wins : μ.wins = true) (h_comp : μ.comp = true)
    (h_ring : μ.ring = true) : Frame μ s₀ (State.orphan s p) := by
  delta State.orphan
  refine Frame.upd h (wwins := .inr (Sparse.wf_map (Win.orphan p) {} s.wins fun x hx hg => hx ?_))
  have hq : x.queue = [] := by
    have := congrArg Win.queue hg
    simpa [Win.orphan] using this
  have hd : x.doc = none := by
    have := congrArg Win.doc hg
    simpa [Win.orphan] using this
  have e : x.orphan p = x := by
    cases x
    simp only at hq hd
    subst hq hd
    rfl
  rw [← e, hg]

theorem Frame.stopStream (h : Frame μ s₀ s) (k : Nat) (h_dma : μ.dma = true) :
    Frame μ s₀ (State.stopStream s k) := by
  delta State.stopStream
  repeat' first
    | with_reducible assumption
    | with_reducible apply Frame.idleStream
    | with_reducible apply Frame.modStream
    | with_reducible apply Frame.setF
    | with_reducible refine Frame.ite ?_ ?_
    | (try lift_lets -underBinder); intro x; refine Frame.cut (x := x) ?_ ?_ <;> [subst x; (clear_value x; intro _)]
    | (try lift_lets -underBinder); intro x; first | subst x | skip
    | split
    | fail_if_no_progress dsimp only
    | fail_if_no_progress with_reducible refine Frame.upd ?_

theorem Frame.hostReset (h : Frame μ s₀ s) (kind : Nat) (h_wins : μ.wins = true) (h_health : μ.health = true) (h_comp : μ.comp = true) (h_host : μ.host = true) (h_dma : μ.dma = true) (h_ring : μ.ring = true) (h_flt : μ.flt = true) (h_pmc : μ.pmc = true) :
    Frame μ s₀ (State.hostReset s kind) := by
  delta State.hostReset
  repeat' first
    | with_reducible assumption
    | with_reducible apply Frame.modStream
    | with_reducible apply Frame.orphan
    | with_reducible apply Frame.raise
    | with_reducible apply Frame.setF
    | with_reducible apply Frame.setFields
    | with_reducible apply Frame.showHost
    | with_reducible apply Frame.showPool
    | with_reducible apply Frame.stopStream
    | with_reducible apply Frame.tagRecord
    | with_reducible refine Frame.foldl ?_ ?_
    | (try lift_lets -underBinder); intro x; refine Frame.cut (x := x) ?_ ?_ <;> [subst x; (clear_value x; intro _)]
    | (try lift_lets -underBinder); intro x; first | subst x | skip
    | fail_if_no_progress with_reducible refine Frame.upd ?_

theorem Frame.execHostFacingReset (h : Frame μ s₀ s) (t : Nat) (kind : Nat) (h_wins : μ.wins = true) (h_health : μ.health = true) (h_comp : μ.comp = true) (h_host : μ.host = true) (h_dma : μ.dma = true) (h_ring : μ.ring = true) (h_flt : μ.flt = true) (h_pmc : μ.pmc = true) :
    ∃ s₁, execHostFacingReset t kind s = .next s₁ ∧ Frame μ s₀ s₁ := by
  refine ⟨_, rfl, ?_⟩
  repeat' first
    | with_reducible assumption
    | with_reducible apply Frame.at
    | with_reducible apply Frame.hostReset
    | with_reducible refine Frame.ite ?_ ?_
    | (try lift_lets -underBinder); intro x; refine Frame.cut (x := x) ?_ ?_ <;> [subst x; (clear_value x; intro _)]
    | (try lift_lets -underBinder); intro x; first | subst x | skip

theorem Frame.enableStream (h : Frame μ s₀ s) (k : Nat) (h_dma : μ.dma = true) :
    Frame μ s₀ (State.enableStream s k) := by
  delta State.enableStream
  repeat' first
    | with_reducible assumption
    | with_reducible apply Frame.modStream
    | with_reducible apply Frame.setF
    | with_reducible apply Frame.showPool
    | with_reducible refine Frame.ite ?_ ?_
    | (try lift_lets -underBinder); intro x; refine Frame.cut (x := x) ?_ ?_ <;> [subst x; (clear_value x; intro _)]
    | (try lift_lets -underBinder); intro x; first | subst x | skip
    | fail_if_no_progress with_reducible refine Frame.upd ?_

theorem Frame.resetStream (h : Frame μ s₀ s) (k : Nat) (h_wins : μ.wins = true) (h_comp : μ.comp = true) (h_dma : μ.dma = true) (h_ring : μ.ring = true) :
    Frame μ s₀ (State.resetStream s k) := by
  delta State.resetStream
  repeat' first
    | with_reducible assumption
    | with_reducible apply Frame.modStream
    | with_reducible apply Frame.orphan
    | with_reducible apply Frame.setFields
    | with_reducible refine Frame.ite ?_ ?_
    | (try lift_lets -underBinder); intro x; refine Frame.cut (x := x) ?_ ?_ <;> [subst x; (clear_value x; intro _)]
    | (try lift_lets -underBinder); intro x; first | subst x | skip
    | fail_if_no_progress with_reducible refine Frame.upd ?_

theorem Frame.writeDmaCtrl (h : Frame μ s₀ s) (k : Nat) (v : Nat) (h_wins : μ.wins = true) (h_comp : μ.comp = true) (h_dma : μ.dma = true) (h_ring : μ.ring = true) :
    Frame μ s₀ (State.writeDmaCtrl s k v) := by
  delta State.writeDmaCtrl
  repeat' first
    | with_reducible assumption
    | with_reducible apply Frame.enableStream
    | with_reducible apply Frame.resetStream
    | with_reducible apply Frame.setFields
    | with_reducible apply Frame.stopStream
    | with_reducible refine Frame.ite ?_ ?_
    | (try lift_lets -underBinder); intro x; refine Frame.cut (x := x) ?_ ?_ <;> [subst x; (clear_value x; intro _)]
    | (try lift_lets -underBinder); intro x; first | subst x | skip

theorem Frame.execStreamEnable (h : Frame μ s₀ s) (t : Nat) (k : Nat) (v : Word) (h_wins : μ.wins = true) (h_comp : μ.comp = true) (h_dma : μ.dma = true) (h_ring : μ.ring = true) :
    ∃ s₁, execStreamEnable t k v s = .next s₁ ∧ Frame μ s₀ s₁ := by
  refine ⟨_, rfl, ?_⟩
  repeat' first
    | with_reducible assumption
    | with_reducible apply Frame.at
    | with_reducible apply Frame.onWrite
    | with_reducible apply Frame.writeDmaCtrl
    | with_reducible refine Frame.ite ?_ ?_
    | (try lift_lets -underBinder); intro x; refine Frame.cut (x := x) ?_ ?_ <;> [subst x; (clear_value x; intro _)]
    | (try lift_lets -underBinder); intro x; first | subst x | skip

theorem Frame.execStreamDisable (h : Frame μ s₀ s) (t : Nat) (k : Nat) (v : Word) (h_wins : μ.wins = true) (h_comp : μ.comp = true) (h_dma : μ.dma = true) (h_ring : μ.ring = true) :
    ∃ s₁, execStreamDisable t k v s = .next s₁ ∧ Frame μ s₀ s₁ := by
  refine ⟨_, rfl, ?_⟩
  repeat' first
    | with_reducible assumption
    | with_reducible apply Frame.at
    | with_reducible apply Frame.onWrite
    | with_reducible apply Frame.writeDmaCtrl
    | with_reducible refine Frame.ite ?_ ?_
    | (try lift_lets -underBinder); intro x; refine Frame.cut (x := x) ?_ ?_ <;> [subst x; (clear_value x; intro _)]
    | (try lift_lets -underBinder); intro x; first | subst x | skip

theorem Frame.execStreamReset (h : Frame μ s₀ s) (t : Nat) (k : Nat) (v : Word) (h_wins : μ.wins = true) (h_comp : μ.comp = true) (h_dma : μ.dma = true) (h_ring : μ.ring = true) :
    ∃ s₁, execStreamReset t k v s = .next s₁ ∧ Frame μ s₀ s₁ := by
  refine ⟨_, rfl, ?_⟩
  repeat' first
    | with_reducible assumption
    | with_reducible apply Frame.at
    | with_reducible apply Frame.onWrite
    | with_reducible apply Frame.writeDmaCtrl
    | with_reducible refine Frame.ite ?_ ?_
    | (try lift_lets -underBinder); intro x; refine Frame.cut (x := x) ?_ ?_ <;> [subst x; (clear_value x; intro _)]
    | (try lift_lets -underBinder); intro x; first | subst x | skip

theorem Frame.sqDoorbell (h : Frame μ s₀ s) (k : Nat) (v : Nat) (h_dma : μ.dma = true) :
    Frame μ s₀ (State.sqDoorbell s k v) := by
  delta State.sqDoorbell
  repeat' first
    | with_reducible assumption
    | with_reducible apply Frame.modStream
    | with_reducible apply Frame.setF
    | with_reducible refine Frame.ite ?_ ?_
    | (try lift_lets -underBinder); intro x; refine Frame.cut (x := x) ?_ ?_ <;> [subst x; (clear_value x; intro _)]
    | (try lift_lets -underBinder); intro x; first | subst x | skip
    | fail_if_no_progress with_reducible refine Frame.upd ?_

theorem Frame.execSqDoorbell (h : Frame μ s₀ s) (t : Nat) (k : Nat) (v : Word) (h_dma : μ.dma = true) :
    ∃ s₁, execSqDoorbell t k v s = .next s₁ ∧ Frame μ s₀ s₁ := by
  refine ⟨_, rfl, ?_⟩
  repeat' first
    | with_reducible assumption
    | with_reducible apply Frame.at
    | with_reducible apply Frame.onWrite
    | with_reducible apply Frame.sqDoorbell
    | with_reducible refine Frame.ite ?_ ?_
    | (try lift_lets -underBinder); intro x; refine Frame.cut (x := x) ?_ ?_ <;> [subst x; (clear_value x; intro _)]
    | (try lift_lets -underBinder); intro x; first | subst x | skip

theorem Frame.showWait (h : Frame μ s₀ s) (k : Nat) (h_dma : μ.dma = true) :
    Frame μ s₀ (State.showWait s k) := by
  delta State.showWait
  repeat' first
    | with_reducible assumption
    | with_reducible apply Frame.modStream
    | with_reducible apply Frame.setF
    | with_reducible refine Frame.ite ?_ ?_
    | (try lift_lets -underBinder); intro x; refine Frame.cut (x := x) ?_ ?_ <;> [subst x; (clear_value x; intro _)]
    | (try lift_lets -underBinder); intro x; first | subst x | skip
    | split
    | fail_if_no_progress with_reducible refine Frame.upd ?_

theorem Frame.cqDoorbell (h : Frame μ s₀ s) (k : Nat) (v : Nat) (h_dma : μ.dma = true) :
    Frame μ s₀ (State.cqDoorbell s k v) := by
  delta State.cqDoorbell
  repeat' first
    | with_reducible assumption
    | with_reducible apply Frame.modStream
    | with_reducible apply Frame.showWait
    | (try lift_lets -underBinder); intro x; refine Frame.cut (x := x) ?_ ?_ <;> [subst x; (clear_value x; intro _)]
    | (try lift_lets -underBinder); intro x; first | subst x | skip
    | fail_if_no_progress with_reducible refine Frame.upd ?_

theorem Frame.execCqDoorbell (h : Frame μ s₀ s) (t : Nat) (k : Nat) (v : Word) (h_dma : μ.dma = true) :
    ∃ s₁, execCqDoorbell t k v s = .next s₁ ∧ Frame μ s₀ s₁ := by
  refine ⟨_, rfl, ?_⟩
  repeat' first
    | with_reducible assumption
    | with_reducible apply Frame.at
    | with_reducible apply Frame.cqDoorbell
    | with_reducible apply Frame.onWrite
    | with_reducible refine Frame.ite ?_ ?_
    | (try lift_lets -underBinder); intro x; refine Frame.cut (x := x) ?_ ?_ <;> [subst x; (clear_value x; intro _)]
    | (try lift_lets -underBinder); intro x; first | subst x | skip

theorem Frame.execDescriptorFetch (h : Frame μ s₀ s) (t : Nat) (k : Nat) (h_dma : μ.dma = true) (h_ring : μ.ring = true) :
    ∃ s₁, execDescriptorFetch t k s = .next s₁ ∧ Frame μ s₀ s₁ := by
  refine ⟨_, rfl, ?_⟩
  repeat' first
    | with_reducible assumption
    | with_reducible apply Frame.at
    | with_reducible apply Frame.count
    | with_reducible apply Frame.hostRead
    | with_reducible apply Frame.modStream
    | with_reducible apply Frame.showFill
    | with_reducible refine Frame.ite ?_ ?_
    | (try lift_lets -underBinder); intro x; refine Frame.cut (x := x) ?_ ?_ <;> [subst x; (clear_value x; intro _)]
    | (try lift_lets -underBinder); intro x; first | subst x | skip
    | fail_if_no_progress with_reducible refine Frame.upd ?_

theorem Frame.acceptDesc (h : Frame μ s₀ s) (k : Nat) (f : Fetched) (h_health : μ.health = true) (h_host : μ.host = true) (h_dma : μ.dma = true) (h_ring : μ.ring = true) (h_flt : μ.flt = true) (h_pmc : μ.pmc = true) :
    Frame μ s₀ (State.acceptDesc s k f) := by
  delta State.acceptDesc
  repeat' first
    | with_reducible assumption
    | with_reducible apply Frame.idleStream
    | with_reducible apply Frame.modStream
    | with_reducible apply Frame.refuse
    | with_reducible apply Frame.setF
    | with_reducible apply Frame.showWait
    | with_reducible apply Frame.tagDesc
    | with_reducible apply Frame.tagMany
    | with_reducible apply Frame.tagRecord
    | with_reducible refine Frame.ite ?_ ?_
    | (try lift_lets -underBinder); intro x; refine Frame.cut (x := x) ?_ ?_ <;> [subst x; (clear_value x; intro _)]
    | (try lift_lets -underBinder); intro x; first | subst x | skip
    | split
    | fail_if_no_progress with_reducible refine Frame.upd ?_

theorem Frame.execDescriptorAccept (h : Frame μ s₀ s) (t : Nat) (k : Nat) (h_health : μ.health = true) (h_host : μ.host = true) (h_dma : μ.dma = true) (h_ring : μ.ring = true) (h_flt : μ.flt = true) (h_pmc : μ.pmc = true) :
    ∃ s₁, execDescriptorAccept t k s = .next s₁ ∧ Frame μ s₀ s₁ := by
  refine ⟨_, rfl, ?_⟩
  repeat' first
    | with_reducible assumption
    | with_reducible apply Frame.acceptDesc
    | with_reducible apply Frame.at
    | with_reducible apply Frame.showWait
    | with_reducible refine Frame.ite ?_ ?_
    | (try lift_lets -underBinder); intro x; refine Frame.cut (x := x) ?_ ?_ <;> [subst x; (clear_value x; intro _)]
    | (try lift_lets -underBinder); intro x; first | subst x | skip
    | split
    | fail_if_no_progress dsimp only
    | fail_if_no_progress with_reducible refine Frame.upd ?_

theorem Frame.onDesc (h : Frame μ s₀ s) (k : Nat) (op : Nat) (g : State → Desc → State) (h_g : ∀ s x0, Frame μ s₀ s → Frame μ s₀ (g s x0)) :
    Frame μ s₀ (State.onDesc s k op g) := by
  delta State.onDesc
  repeat' first
    | with_reducible assumption
    | with_reducible apply h_g
    | with_reducible refine Frame.ite ?_ ?_
    | (try lift_lets -underBinder); intro x; refine Frame.cut (x := x) ?_ ?_ <;> [subst x; (clear_value x; intro _)]
    | (try lift_lets -underBinder); intro x; first | subst x | skip
    | split
    | fail_if_no_progress dsimp only
    | fail_if_no_progress with_reducible refine Frame.upd ?_

theorem Frame.execNop (h : Frame μ s₀ s) (t : Nat) (k : Nat) (h_dma : μ.dma = true) :
    ∃ s₁, execNop t k s = .next s₁ ∧ Frame μ s₀ s₁ := by
  refine ⟨_, rfl, ?_⟩
  repeat' first
    | with_reducible assumption
    | with_reducible apply Frame.at
    | with_reducible apply Frame.modExec
    | with_reducible apply Frame.onDesc
    | (try lift_lets -underBinder); intro x; refine Frame.cut (x := x) ?_ ?_ <;> [subst x; (clear_value x; intro _)]
    | (try lift_lets -underBinder); intro x; first | subst x | skip
    | fail_if_no_progress with_reducible refine Frame.upd ?_

theorem Frame.execCopy (h : Frame μ s₀ s) (t : Nat) (k : Nat) (h_wins : μ.wins = true) (h_health : μ.health = true) (h_comp : μ.comp = true) (h_dma : μ.dma = true) (h_ring : μ.ring = true) (h_flt : μ.flt = true) (h_pmc : μ.pmc = true) (h_form : μ.form = true) (h_staging : μ.staging = true) :
    ∃ s₁, execCopy t k s = .next s₁ ∧ Frame μ s₀ s₁ := by
  refine ⟨_, rfl, ?_⟩
  repeat' first
    | with_reducible assumption
    | with_reducible apply Frame.at
    | with_reducible apply Frame.onDesc
    | with_reducible apply Frame.runTransfer
    | (try lift_lets -underBinder); intro x; refine Frame.cut (x := x) ?_ ?_ <;> [subst x; (clear_value x; intro _)]
    | (try lift_lets -underBinder); intro x; first | subst x | skip

theorem Frame.execCopy2d (h : Frame μ s₀ s) (t : Nat) (k : Nat) (h_wins : μ.wins = true) (h_health : μ.health = true) (h_comp : μ.comp = true) (h_dma : μ.dma = true) (h_ring : μ.ring = true) (h_flt : μ.flt = true) (h_pmc : μ.pmc = true) (h_form : μ.form = true) (h_staging : μ.staging = true) :
    ∃ s₁, execCopy2d t k s = .next s₁ ∧ Frame μ s₀ s₁ := by
  refine ⟨_, rfl, ?_⟩
  repeat' first
    | with_reducible assumption
    | with_reducible apply Frame.at
    | with_reducible apply Frame.onDesc
    | with_reducible apply Frame.runTransfer
    | (try lift_lets -underBinder); intro x; refine Frame.cut (x := x) ?_ ?_ <;> [subst x; (clear_value x; intro _)]
    | (try lift_lets -underBinder); intro x; first | subst x | skip

theorem Frame.runFill (h : Frame μ s₀ s) (k : Nat) (d : Desc) (h_health : μ.health = true) (h_dma : μ.dma = true) (h_ring : μ.ring = true) (h_flt : μ.flt = true) (h_pmc : μ.pmc = true) (h_form : μ.form = true) (h_staging : μ.staging = true) :
    Frame μ s₀ (State.runFill s k d) := by
  delta State.runFill
  repeat' first
    | with_reducible assumption
    | with_reducible apply Frame.modExec
    | with_reducible apply Frame.putMem
    | with_reducible refine Frame.putMem_eq ?_ (by assumption) ‹_› ‹_› ‹_› ‹_› ‹_›
    | with_reducible apply Frame.tagDesc
    | with_reducible refine Frame.foldl ?_ ?_
    | (try lift_lets -underBinder); intro x; refine Frame.cut (x := x) ?_ ?_ <;> [subst x; (clear_value x; intro _)]
    | (try lift_lets -underBinder); intro x; first | subst x | skip
    | split
    | fail_if_no_progress dsimp only
    | fail_if_no_progress with_reducible refine Frame.upd ?_

theorem Frame.execFill (h : Frame μ s₀ s) (t : Nat) (k : Nat) (h_health : μ.health = true) (h_dma : μ.dma = true) (h_ring : μ.ring = true) (h_flt : μ.flt = true) (h_pmc : μ.pmc = true) (h_form : μ.form = true) (h_staging : μ.staging = true) :
    ∃ s₁, execFill t k s = .next s₁ ∧ Frame μ s₀ s₁ := by
  refine ⟨_, rfl, ?_⟩
  repeat' first
    | with_reducible assumption
    | with_reducible apply Frame.at
    | with_reducible apply Frame.onDesc
    | with_reducible apply Frame.runFill
    | (try lift_lets -underBinder); intro x; refine Frame.cut (x := x) ?_ ?_ <;> [subst x; (clear_value x; intro _)]
    | (try lift_lets -underBinder); intro x; first | subst x | skip

theorem Frame.execCompare (h : Frame μ s₀ s) (t : Nat) (k : Nat) (h_wins : μ.wins = true) (h_health : μ.health = true) (h_comp : μ.comp = true) (h_dma : μ.dma = true) (h_ring : μ.ring = true) (h_flt : μ.flt = true) (h_pmc : μ.pmc = true) (h_form : μ.form = true) (h_staging : μ.staging = true) :
    ∃ s₁, execCompare t k s = .next s₁ ∧ Frame μ s₀ s₁ := by
  refine ⟨_, rfl, ?_⟩
  repeat' first
    | with_reducible assumption
    | with_reducible apply Frame.at
    | with_reducible apply Frame.onDesc
    | with_reducible apply Frame.runTransfer
    | (try lift_lets -underBinder); intro x; refine Frame.cut (x := x) ?_ ?_ <;> [subst x; (clear_value x; intro _)]
    | (try lift_lets -underBinder); intro x; first | subst x | skip

theorem Frame.execCompose (h : Frame μ s₀ s) (t : Nat) (k : Nat) (h_wins : μ.wins = true) (h_health : μ.health = true) (h_comp : μ.comp = true) (h_dma : μ.dma = true) (h_ring : μ.ring = true) (h_flt : μ.flt = true) (h_pmc : μ.pmc = true) (h_form : μ.form = true) (h_staging : μ.staging = true) :
    ∃ s₁, execCompose t k s = .next s₁ ∧ Frame μ s₀ s₁ := by
  refine ⟨_, rfl, ?_⟩
  repeat' first
    | with_reducible assumption
    | with_reducible apply Frame.at
    | with_reducible apply Frame.onDesc
    | with_reducible apply Frame.runTransfer
    | (try lift_lets -underBinder); intro x; refine Frame.cut (x := x) ?_ ?_ <;> [subst x; (clear_value x; intro _)]
    | (try lift_lets -underBinder); intro x; first | subst x | skip

theorem Frame.execSlotAlloc (h : Frame μ s₀ s) (t : Nat) (k : Nat) (h_dma : μ.dma = true) :
    ∃ s₁, execSlotAlloc t k s = .next s₁ ∧ Frame μ s₀ s₁ := by
  refine ⟨_, rfl, ?_⟩
  repeat' first
    | with_reducible assumption
    | with_reducible apply Frame.at
    | with_reducible apply Frame.modExec
    | with_reducible apply Frame.onDesc
    | with_reducible apply Frame.slotAlloc
    | with_reducible refine Frame.slotAlloc_eq ?_ (by assumption) ‹_›
    | (try lift_lets -underBinder); intro x; refine Frame.cut (x := x) ?_ ?_ <;> [subst x; (clear_value x; intro _)]
    | (try lift_lets -underBinder); intro x; first | subst x | skip
    | split
    | fail_if_no_progress with_reducible refine Frame.upd ?_

theorem Frame.execSlotFree (h : Frame μ s₀ s) (t : Nat) (k : Nat) (h_dma : μ.dma = true) :
    ∃ s₁, execSlotFree t k s = .next s₁ ∧ Frame μ s₀ s₁ := by
  refine ⟨_, rfl, ?_⟩
  repeat' first
    | with_reducible assumption
    | with_reducible apply Frame.at
    | with_reducible apply Frame.modExec
    | with_reducible apply Frame.onDesc
    | with_reducible apply Frame.slotFree
    | (try lift_lets -underBinder); intro x; refine Frame.cut (x := x) ?_ ?_ <;> [subst x; (clear_value x; intro _)]
    | (try lift_lets -underBinder); intro x; first | subst x | skip
    | fail_if_no_progress with_reducible refine Frame.upd ?_

theorem Frame.readData (h : Frame μ s₀ s) (r : OutRead) (bs : List Nat) (h_wins : μ.wins = true) (h_health : μ.health = true) (h_comp : μ.comp = true) (h_dma : μ.dma = true) (h_ring : μ.ring = true) (h_flt : μ.flt = true) (h_pmc : μ.pmc = true) (h_form : μ.form = true) (h_staging : μ.staging = true) :
    Frame μ s₀ (State.readData s r bs) := by
  delta State.readData
  repeat' first
    | with_reducible assumption
    | with_reducible apply Frame.deliver
    | with_reducible apply Frame.gotDescriptors
    | with_reducible apply Frame.modExec
    | with_reducible apply Frame.pumpMembers
    | with_reducible apply Frame.sendRsp
    | with_reducible apply Frame.showHost
    | (try lift_lets -underBinder); intro x; refine Frame.cut (x := x) ?_ ?_ <;> [subst x; (clear_value x; intro _)]
    | (try lift_lets -underBinder); intro x; first | subst x | skip
    | split
    | fail_if_no_progress dsimp only
    | fail_if_no_progress with_reducible refine Frame.upd ?_

theorem Frame.execHostReadCompletion (h : Frame μ s₀ s) (t : Nat) (tag : Nat) (status : Nat) (data : List Nat) (h_wins : μ.wins = true) (h_health : μ.health = true) (h_comp : μ.comp = true) (h_host : μ.host = true) (h_dma : μ.dma = true) (h_ring : μ.ring = true) (h_flt : μ.flt = true) (h_pmc : μ.pmc = true) (h_form : μ.form = true) (h_staging : μ.staging = true) :
    ∃ s₁, execHostReadCompletion t tag status data s = .next s₁ ∧ Frame μ s₀ s₁ := by
  refine ⟨_, rfl, ?_⟩
  repeat' first
    | with_reducible assumption
    | with_reducible apply Frame.addF
    | with_reducible apply Frame.at
    | with_reducible apply Frame.readData
    | with_reducible apply Frame.readFail
    | with_reducible refine Frame.ite ?_ ?_
    | (try lift_lets -underBinder); intro x; refine Frame.cut (x := x) ?_ ?_ <;> [subst x; (clear_value x; intro _)]
    | (try lift_lets -underBinder); intro x; first | subst x | skip
    | split
    | fail_if_no_progress dsimp only
    | fail_if_no_progress with_reducible refine Frame.upd ?_

theorem Frame.execHostReadTimeout (h : Frame μ s₀ s) (t : Nat) (tag : Nat) (h_wins : μ.wins = true) (h_health : μ.health = true) (h_comp : μ.comp = true) (h_host : μ.host = true) (h_dma : μ.dma = true) (h_ring : μ.ring = true) (h_flt : μ.flt = true) (h_pmc : μ.pmc = true) (h_form : μ.form = true) (h_staging : μ.staging = true) :
    ∃ s₁, execHostReadTimeout t tag s = .next s₁ ∧ Frame μ s₀ s₁ := by
  refine ⟨_, rfl, ?_⟩
  repeat' first
    | with_reducible assumption
    | with_reducible apply Frame.at
    | with_reducible apply Frame.readFail
    | with_reducible apply Frame.showHost
    | with_reducible refine Frame.ite ?_ ?_
    | (try lift_lets -underBinder); intro x; refine Frame.cut (x := x) ?_ ?_ <;> [subst x; (clear_value x; intro _)]
    | (try lift_lets -underBinder); intro x; first | subst x | skip
    | split
    | fail_if_no_progress dsimp only
    | fail_if_no_progress with_reducible refine Frame.upd ?_

theorem Frame.execHostReadRetry (h : Frame μ s₀ s) (t : Nat) (tag : Nat) (h_dma : μ.dma = true) (h_ring : μ.ring = true) :
    ∃ s₁, execHostReadRetry t tag s = .next s₁ ∧ Frame μ s₀ s₁ := by
  refine ⟨_, rfl, ?_⟩
  repeat' first
    | with_reducible assumption
    | with_reducible apply Frame.at
    | with_reducible apply Frame.issueRead
    | (try lift_lets -underBinder); intro x; refine Frame.cut (x := x) ?_ ?_ <;> [subst x; (clear_value x; intro _)]
    | (try lift_lets -underBinder); intro x; first | subst x | skip
    | split
    | fail_if_no_progress dsimp only
    | fail_if_no_progress with_reducible refine Frame.upd ?_

theorem Frame.execUnexpectedCompletion (h : Frame μ s₀ s) (t : Nat) (tag : Nat) (h_health : μ.health = true) (h_flt : μ.flt = true) :
    ∃ s₁, execUnexpectedCompletion t tag s = .next s₁ ∧ Frame μ s₀ s₁ := by
  refine ⟨_, rfl, ?_⟩
  repeat' first
    | with_reducible assumption
    | with_reducible apply Frame.addF
    | with_reducible apply Frame.at
    | with_reducible apply Frame.raise
    | with_reducible refine Frame.ite ?_ ?_
    | (try lift_lets -underBinder); intro x; refine Frame.cut (x := x) ?_ ?_ <;> [subst x; (clear_value x; intro _)]
    | (try lift_lets -underBinder); intro x; first | subst x | skip

theorem Frame.undefTail (h : Frame μ s₀ s) (d : Desc) (x : Exec) (h_health : μ.health = true) (h_flt : μ.flt = true) (h_form : μ.form = true) (h_staging : μ.staging = true) :
    Frame μ s₀ (State.undefTail s d x) := by
  delta State.undefTail
  repeat' first
    | with_reducible assumption
    | with_reducible apply Frame.putForm
    | with_reducible apply Frame.putStaging
    | with_reducible refine Frame.draw ?_ _
    | with_reducible refine Frame.ite ?_ ?_
    | with_reducible refine Frame.foldl ?_ ?_
    | (try lift_lets -underBinder); intro x; refine Frame.cut (x := x) ?_ ?_ <;> [subst x; (clear_value x; intro _)]
    | (try lift_lets -underBinder); intro x; first | subst x | skip
    | fail_if_no_progress with_reducible refine Frame.upd ?_

theorem Frame.recordDesc (h : Frame μ s₀ s) (k : Nat) (x : Exec) (h_health : μ.health = true) (h_host : μ.host = true) (h_dma : μ.dma = true) (h_ring : μ.ring = true) (h_flt : μ.flt = true) (h_pmc : μ.pmc = true) (h_form : μ.form = true) (h_staging : μ.staging = true) :
    Frame μ s₀ (State.recordDesc s k x) := by
  delta State.recordDesc
  repeat' first
    | with_reducible assumption
    | with_reducible apply Frame.addF
    | with_reducible apply Frame.descRecord
    | with_reducible apply Frame.idleStream
    | with_reducible apply Frame.modStream
    | with_reducible apply Frame.raise
    | with_reducible apply Frame.showFill
    | with_reducible apply Frame.tagDesc
    | with_reducible apply Frame.tagRecord
    | with_reducible apply Frame.undefTail
    | with_reducible refine Frame.ite ?_ ?_
    | (try lift_lets -underBinder); intro x; refine Frame.cut (x := x) ?_ ?_ <;> [subst x; (clear_value x; intro _)]
    | (try lift_lets -underBinder); intro x; first | subst x | skip
    | fail_if_no_progress with_reducible refine Frame.upd ?_

theorem Frame.execDescriptorComplete (h : Frame μ s₀ s) (t : Nat) (k : Nat) (h_health : μ.health = true) (h_host : μ.host = true) (h_dma : μ.dma = true) (h_ring : μ.ring = true) (h_flt : μ.flt = true) (h_pmc : μ.pmc = true) (h_form : μ.form = true) (h_staging : μ.staging = true) :
    ∃ s₁, execDescriptorComplete t k s = .next s₁ ∧ Frame μ s₀ s₁ := by
  refine ⟨_, rfl, ?_⟩
  repeat' first
    | with_reducible assumption
    | with_reducible apply Frame.at
    | with_reducible apply Frame.hostRead
    | with_reducible apply Frame.modExec
    | with_reducible apply Frame.recordDesc
    | with_reducible refine Frame.ite ?_ ?_
    | (try lift_lets -underBinder); intro x; refine Frame.cut (x := x) ?_ ?_ <;> [subst x; (clear_value x; intro _)]
    | (try lift_lets -underBinder); intro x; first | subst x | skip
    | split
    | fail_if_no_progress dsimp only
    | fail_if_no_progress with_reducible refine Frame.upd ?_

theorem Frame.execBarrierAck (h : Frame μ s₀ s) (t : Nat) (k : Nat) (h_health : μ.health = true) (h_host : μ.host = true) (h_dma : μ.dma = true) (h_ring : μ.ring = true) (h_flt : μ.flt = true) (h_pmc : μ.pmc = true) (h_form : μ.form = true) (h_staging : μ.staging = true) :
    ∃ s₁, execBarrierAck t k s = .next s₁ ∧ Frame μ s₀ s₁ := by
  refine ⟨_, rfl, ?_⟩
  repeat' first
    | with_reducible assumption
    | with_reducible apply Frame.at
    | with_reducible apply Frame.recordDesc
    | with_reducible apply Frame.tagDesc
    | with_reducible refine Frame.ite ?_ ?_
    | (try lift_lets -underBinder); intro x; refine Frame.cut (x := x) ?_ ?_ <;> [subst x; (clear_value x; intro _)]
    | (try lift_lets -underBinder); intro x; first | subst x | skip
    | split
    | fail_if_no_progress dsimp only
    | fail_if_no_progress with_reducible refine Frame.upd ?_

theorem Frame.execPacingResume (h : Frame μ s₀ s) (t : Nat) (k : Nat) (h_wins : μ.wins = true) (h_health : μ.health = true) (h_comp : μ.comp = true) (h_dma : μ.dma = true) (h_ring : μ.ring = true) (h_flt : μ.flt = true) (h_pmc : μ.pmc = true) (h_form : μ.form = true) (h_staging : μ.staging = true) :
    ∃ s₁, execPacingResume t k s = .next s₁ ∧ Frame μ s₀ s₁ := by
  refine ⟨_, rfl, ?_⟩
  repeat' first
    | with_reducible assumption
    | with_reducible apply Frame.at
    | with_reducible apply Frame.runTransfer
    | with_reducible apply Frame.setF
    | with_reducible refine Frame.ite ?_ ?_
    | (try lift_lets -underBinder); intro x; refine Frame.cut (x := x) ?_ ?_ <;> [subst x; (clear_value x; intro _)]
    | (try lift_lets -underBinder); intro x; first | subst x | skip

theorem Frame.execDmaCqStall (h : Frame μ s₀ s) (t : Nat) (k : Nat) (h_health : μ.health = true) (h_dma : μ.dma = true) (h_flt : μ.flt = true) :
    ∃ s₁, execDmaCqStall t k s = .next s₁ ∧ Frame μ s₀ s₁ := by
  refine ⟨_, rfl, ?_⟩
  repeat' first
    | with_reducible assumption
    | with_reducible apply Frame.at
    | with_reducible apply Frame.modStream
    | with_reducible apply Frame.raise
    | with_reducible refine Frame.ite ?_ ?_
    | (try lift_lets -underBinder); intro x; refine Frame.cut (x := x) ?_ ?_ <;> [subst x; (clear_value x; intro _)]
    | (try lift_lets -underBinder); intro x; first | subst x | skip
    | split
    | fail_if_no_progress dsimp only
    | fail_if_no_progress with_reducible refine Frame.upd ?_

theorem Frame.execBar4Access (h : Frame μ s₀ s) (t : Nat) (a : Nat) (n : Nat) (data : Option (List Nat)) (h_form : μ.form = true) :
    ∃ s₁, execBar4Access t a n data s = .next s₁ ∧ Frame μ s₀ s₁ := by
  refine ⟨_, rfl, ?_⟩
  repeat' first
    | with_reducible assumption
    | with_reducible apply Frame.at
    | with_reducible apply Frame.countForm
    | with_reducible refine Frame.emit ?_ _ (.inr rfl)
    | with_reducible apply Frame.putForm
    | with_reducible refine Frame.ite ?_ ?_
    | (try lift_lets -underBinder); intro x; refine Frame.cut (x := x) ?_ ?_ <;> [subst x; (clear_value x; intro _)]
    | (try lift_lets -underBinder); intro x; first | subst x | skip
    | split
    | fail_if_no_progress dsimp only
    | fail_if_no_progress with_reducible refine Frame.upd ?_

/-! ### Machine/Ring.lean -/

theorem Frame.writeRingCtrl (h : Frame μ s₀ s) (v : Nat) (h_ring : μ.ring = true) :
    Frame μ s₀ (State.writeRingCtrl s v) := by
  delta State.writeRingCtrl
  repeat' first
    | with_reducible assumption
    | with_reducible apply Frame.sendJoin
    | with_reducible apply Frame.setF
    | with_reducible apply Frame.setFields
    | with_reducible refine Frame.ite ?_ ?_
    | (try lift_lets -underBinder); intro x; refine Frame.cut (x := x) ?_ ?_ <;> [subst x; (clear_value x; intro _)]
    | (try lift_lets -underBinder); intro x; first | subst x | skip
    | fail_if_no_progress with_reducible refine Frame.upd ?_

theorem Frame.execEnum (h : Frame μ s₀ s) (t : Nat) (v : Word) (h_ring : μ.ring = true) :
    ∃ s₁, execEnum t v s = .next s₁ ∧ Frame μ s₀ s₁ := by
  refine ⟨_, rfl, ?_⟩
  repeat' first
    | with_reducible assumption
    | with_reducible apply Frame.at
    | with_reducible apply Frame.onWrite
    | with_reducible apply Frame.writeRingCtrl
    | with_reducible refine Frame.ite ?_ ?_
    | (try lift_lets -underBinder); intro x; refine Frame.cut (x := x) ?_ ?_ <;> [subst x; (clear_value x; intro _)]
    | (try lift_lets -underBinder); intro x; first | subst x | skip

theorem Frame.joinToken (h : Frame μ s₀ s) (port : Nat) (p : RingPkt) (h_health : μ.health = true) (h_ring : μ.ring = true) (h_flt : μ.flt = true) :
    Frame μ s₀ (State.joinToken s port p) := by
  delta State.joinToken
  repeat' first
    | with_reducible assumption
    | with_reducible apply Frame.raise
    | with_reducible apply Frame.setF
    | with_reducible apply Frame.setFields
    | with_reducible apply Frame.urgOut
    | with_reducible refine Frame.ite ?_ ?_
    | (try lift_lets -underBinder); intro x; refine Frame.cut (x := x) ?_ ?_ <;> [subst x; (clear_value x; intro _)]
    | (try lift_lets -underBinder); intro x; first | subst x | skip
    | fail_if_no_progress with_reducible refine Frame.upd ?_

theorem Frame.execJoin (h : Frame μ s₀ s) (t : Nat) (port : Nat) (p : RingPkt) (h_health : μ.health = true) (h_ring : μ.ring = true) (h_flt : μ.flt = true) :
    ∃ s₁, execJoin t port p s = .next s₁ ∧ Frame μ s₀ s₁ := by
  refine ⟨_, rfl, ?_⟩
  repeat' first
    | with_reducible assumption
    | with_reducible apply Frame.at
    | with_reducible apply Frame.joinToken
    | with_reducible refine Frame.ite ?_ ?_
    | (try lift_lets -underBinder); intro x; refine Frame.cut (x := x) ?_ ?_ <;> [subst x; (clear_value x; intro _)]
    | (try lift_lets -underBinder); intro x; first | subst x | skip

theorem Frame.execJoinTimeout (h : Frame μ s₀ s) (t : Nat) (h_ring : μ.ring = true) :
    ∃ s₁, execJoinTimeout t s = .next s₁ ∧ Frame μ s₀ s₁ := by
  refine ⟨_, rfl, ?_⟩
  repeat' first
    | with_reducible assumption
    | with_reducible apply Frame.at
    | with_reducible refine Frame.ite ?_ ?_
    | (try lift_lets -underBinder); intro x; refine Frame.cut (x := x) ?_ ?_ <;> [subst x; (clear_value x; intro _)]
    | (try lift_lets -underBinder); intro x; first | subst x | skip
    | split
    | fail_if_no_progress dsimp only
    | fail_if_no_progress with_reducible refine Frame.upd ?_

theorem Frame.execFsRd (h : Frame μ s₀ s) (t : Nat) (port : Nat) (p : RingPkt) (h_ring : μ.ring = true) :
    ∃ s₁, execFsRd t port p s = .next s₁ ∧ Frame μ s₀ s₁ := by
  refine ⟨_, rfl, ?_⟩
  repeat' first
    | with_reducible assumption
    | with_reducible apply Frame.at
    | with_reducible apply Frame.countForm
    | with_reducible apply Frame.reqIn
    | with_reducible apply Frame.sendRsp
    | with_reducible refine Frame.ite ?_ ?_
    | (try lift_lets -underBinder); intro x; refine Frame.cut (x := x) ?_ ?_ <;> [subst x; (clear_value x; intro _)]
    | (try lift_lets -underBinder); intro x; first | subst x | skip

theorem Frame.execFsWr (h : Frame μ s₀ s) (t : Nat) (port : Nat) (p : RingPkt) (h_ring : μ.ring = true) (h_form : μ.form = true) :
    ∃ s₁, execFsWr t port p s = .next s₁ ∧ Frame μ s₀ s₁ := by
  refine ⟨_, rfl, ?_⟩
  repeat' first
    | with_reducible assumption
    | with_reducible apply Frame.at
    | with_reducible apply Frame.countForm
    | with_reducible apply Frame.putForm
    | with_reducible apply Frame.reqIn
    | with_reducible apply Frame.sendRsp
    | with_reducible refine Frame.ite ?_ ?_
    | (try lift_lets -underBinder); intro x; refine Frame.cut (x := x) ?_ ?_ <;> [subst x; (clear_value x; intro _)]
    | (try lift_lets -underBinder); intro x; first | subst x | skip

theorem Frame.execHostRd (h : Frame μ s₀ s) (t : Nat) (port : Nat) (p : RingPkt) (h_dma : μ.dma = true) (h_ring : μ.ring = true) :
    ∃ s₁, execHostRd t port p s = .next s₁ ∧ Frame μ s₀ s₁ := by
  refine ⟨_, rfl, ?_⟩
  repeat' first
    | with_reducible assumption
    | with_reducible apply Frame.at
    | with_reducible apply Frame.pumpMembers
    | with_reducible apply Frame.reqIn
    | with_reducible apply Frame.sendRsp
    | with_reducible refine Frame.ite ?_ ?_
    | (try lift_lets -underBinder); intro x; refine Frame.cut (x := x) ?_ ?_ <;> [subst x; (clear_value x; intro _)]
    | (try lift_lets -underBinder); intro x; first | subst x | skip
    | fail_if_no_progress with_reducible refine Frame.upd ?_

theorem Frame.execHostWr (h : Frame μ s₀ s) (t : Nat) (port : Nat) (p : RingPkt) (h_ring : μ.ring = true) :
    ∃ s₁, execHostWr t port p s = .next s₁ ∧ Frame μ s₀ s₁ := by
  refine ⟨_, rfl, ?_⟩
  repeat' first
    | with_reducible assumption
    | with_reducible apply Frame.at
    | with_reducible refine Frame.emit ?_ _ (.inr rfl)
    | with_reducible apply Frame.hostWrite
    | with_reducible apply Frame.reqIn
    | with_reducible apply Frame.sendRsp
    | with_reducible refine Frame.ite ?_ ?_
    | (try lift_lets -underBinder); intro x; refine Frame.cut (x := x) ?_ ?_ <;> [subst x; (clear_value x; intro _)]
    | (try lift_lets -underBinder); intro x; first | subst x | skip

theorem Frame.execDocReport (h : Frame μ s₀ s) (t : Nat) (port : Nat) (p : RingPkt) (h_host : μ.host = true) (h_dma : μ.dma = true) (h_ring : μ.ring = true) :
    ∃ s₁, execDocReport t port p s = .next s₁ ∧ Frame μ s₀ s₁ := by
  refine ⟨_, rfl, ?_⟩
  repeat' first
    | with_reducible assumption
    | with_reducible apply Frame.addReport
    | with_reducible apply Frame.at
    | with_reducible apply Frame.reqIn
    | with_reducible apply Frame.sendRsp
    | with_reducible refine Frame.ite ?_ ?_
    | (try lift_lets -underBinder); intro x; refine Frame.cut (x := x) ?_ ?_ <;> [subst x; (clear_value x; intro _)]
    | (try lift_lets -underBinder); intro x; first | subst x | skip

theorem Frame.execData (h : Frame μ s₀ s) (t : Nat) (port : Nat) (p : RingPkt) (h_wins : μ.wins = true) (h_health : μ.health = true) (h_comp : μ.comp = true) (h_host : μ.host = true) (h_dma : μ.dma = true) (h_ring : μ.ring = true) (h_flt : μ.flt = true) (h_pmc : μ.pmc = true) (h_form : μ.form = true) (h_staging : μ.staging = true) :
    ∃ s₁, execData t port p s = .next s₁ ∧ Frame μ s₀ s₁ := by
  refine ⟨_, rfl, ?_⟩
  repeat' first
    | with_reducible assumption
    | with_reducible apply Frame.at
    | with_reducible apply Frame.deliver
    | with_reducible refine Frame.emit ?_ _ (.inr rfl)
    | with_reducible apply Frame.gotDescriptors
    | with_reducible apply Frame.hostRead
    | with_reducible apply Frame.modExec
    | with_reducible apply Frame.rspIn
    | with_reducible refine Frame.ite ?_ ?_
    | (try lift_lets -underBinder); intro x; refine Frame.cut (x := x) ?_ ?_ <;> [subst x; (clear_value x; intro _)]
    | (try lift_lets -underBinder); intro x; first | subst x | skip
    | split
    | fail_if_no_progress with_reducible refine Frame.upd ?_

theorem Frame.execAck (h : Frame μ s₀ s) (t : Nat) (port : Nat) (p : RingPkt) (h_wins : μ.wins = true) (h_health : μ.health = true) (h_comp : μ.comp = true) (h_host : μ.host = true) (h_dma : μ.dma = true) (h_ring : μ.ring = true) (h_flt : μ.flt = true) (h_pmc : μ.pmc = true) (h_form : μ.form = true) (h_staging : μ.staging = true) :
    ∃ s₁, execAck t port p s = .next s₁ ∧ Frame μ s₀ s₁ := by
  refine ⟨_, rfl, ?_⟩
  repeat' first
    | with_reducible assumption
    | with_reducible apply Frame.at
    | with_reducible apply Frame.modExec
    | with_reducible apply Frame.rspIn
    | with_reducible refine Frame.ite ?_ ?_
    | (try lift_lets -underBinder); intro x; refine Frame.cut (x := x) ?_ ?_ <;> [subst x; (clear_value x; intro _)]
    | (try lift_lets -underBinder); intro x; first | subst x | skip
    | split
    | fail_if_no_progress with_reducible refine Frame.upd ?_

theorem Frame.execRingReqTimeout (h : Frame μ s₀ s) (t : Nat) (rtag : Nat) (h_wins : μ.wins = true) (h_health : μ.health = true) (h_comp : μ.comp = true) (h_host : μ.host = true) (h_dma : μ.dma = true) (h_ring : μ.ring = true) (h_flt : μ.flt = true) (h_pmc : μ.pmc = true) (h_form : μ.form = true) (h_staging : μ.staging = true) :
    ∃ s₁, execRingReqTimeout t rtag s = .next s₁ ∧ Frame μ s₀ s₁ := by
  refine ⟨_, rfl, ?_⟩
  repeat' first
    | with_reducible assumption
    | with_reducible apply Frame.at
    | with_reducible apply Frame.reqFail
    | with_reducible apply Frame.sendReq
    | with_reducible refine Frame.ite ?_ ?_
    | (try lift_lets -underBinder); intro x; refine Frame.cut (x := x) ?_ ?_ <;> [subst x; (clear_value x; intro _)]
    | (try lift_lets -underBinder); intro x; first | subst x | skip
    | split
    | fail_if_no_progress dsimp only
    | fail_if_no_progress with_reducible refine Frame.upd ?_

theorem Frame.execRingJoinTmo (h : Frame μ s₀ s) (t : Nat) (w : Nat) (h_health : μ.health = true) (h_host : μ.host = true) (h_dma : μ.dma = true) (h_ring : μ.ring = true) (h_flt : μ.flt = true) :
    ∃ s₁, execRingJoinTmo t w s = .next s₁ ∧ Frame μ s₀ s₁ := by
  refine ⟨_, rfl, ?_⟩
  repeat' first
    | with_reducible assumption
    | with_reducible apply Frame.at
    | with_reducible apply Frame.raise
    | with_reducible apply Frame.writeJoin
    | (try lift_lets -underBinder); intro x; refine Frame.cut (x := x) ?_ ?_ <;> [subst x; (clear_value x; intro _)]
    | (try lift_lets -underBinder); intro x; first | subst x | skip
    | split
    | fail_if_no_progress dsimp only
    | fail_if_no_progress with_reducible refine Frame.upd ?_

theorem Frame.execWrap (h : Frame μ s₀ s) (t : Nat) (port : Nat) (p : RingPkt) (h_health : μ.health = true) (h_ring : μ.ring = true) (h_flt : μ.flt = true) :
    ∃ s₁, execWrap t port p s = .next s₁ ∧ Frame μ s₀ s₁ := by
  refine ⟨_, rfl, ?_⟩
  repeat' first
    | with_reducible assumption
    | with_reducible apply Frame.at
    | with_reducible apply Frame.packetIn
    | with_reducible apply Frame.setBreak
    | with_reducible refine Frame.ite ?_ ?_
    | (try lift_lets -underBinder); intro x; refine Frame.cut (x := x) ?_ ?_ <;> [subst x; (clear_value x; intro _)]
    | (try lift_lets -underBinder); intro x; first | subst x | skip

theorem Frame.execRingFrameRetry (h : Frame μ s₀ s) (t : Nat) (port : Nat) (k : Nat) (h_ring : μ.ring = true) :
    ∃ s₁, execRingFrameRetry t port k s = .next s₁ ∧ Frame μ s₀ s₁ := by
  refine ⟨_, rfl, ?_⟩
  repeat' first
    | with_reducible assumption
    | with_reducible apply Frame.addF
    | with_reducible apply Frame.at
    | with_reducible apply Frame.count
    | with_reducible apply Frame.modRingPort
    | with_reducible refine Frame.ite ?_ ?_
    | (try lift_lets -underBinder); intro x; refine Frame.cut (x := x) ?_ ?_ <;> [subst x; (clear_value x; intro _)]
    | (try lift_lets -underBinder); intro x; first | subst x | skip
    | fail_if_no_progress with_reducible refine Frame.upd ?_

theorem Frame.execRingLinkFailure (h : Frame μ s₀ s) (t : Nat) (port : Nat) (h_health : μ.health = true) (h_ring : μ.ring = true) (h_flt : μ.flt = true) :
    ∃ s₁, execRingLinkFailure t port s = .next s₁ ∧ Frame μ s₀ s₁ := by
  refine ⟨_, rfl, ?_⟩
  repeat' first
    | with_reducible assumption
    | with_reducible apply Frame.at
    | with_reducible apply Frame.modRingPort
    | with_reducible apply Frame.raise
    | with_reducible apply Frame.sendWrap
    | with_reducible apply Frame.setBreak
    | with_reducible apply Frame.setF
    | with_reducible apply Frame.setFields
    | with_reducible refine Frame.ite ?_ ?_
    | (try lift_lets -underBinder); intro x; refine Frame.cut (x := x) ?_ ?_ <;> [subst x; (clear_value x; intro _)]
    | (try lift_lets -underBinder); intro x; first | subst x | skip

theorem Frame.rejoin (h : Frame μ s₀ s) (west : Nat) (east : Nat) :
    Frame μ s₀ (State.rejoin s west east) := by
  delta State.rejoin
  repeat' first
    | with_reducible assumption
    | with_reducible apply Frame.setF
    | with_reducible apply Frame.setFields
    | with_reducible refine Frame.ite ?_ ?_

theorem Frame.execRingLinkTrained (h : Frame μ s₀ s) (t : Nat) (port : Nat) (far : Option Nat) (h_health : μ.health = true) (h_ring : μ.ring = true) (h_flt : μ.flt = true) :
    ∃ s₁, execRingLinkTrained t port far s = .next s₁ ∧ Frame μ s₀ s₁ := by
  refine ⟨_, rfl, ?_⟩
  repeat' first
    | with_reducible assumption
    | with_reducible apply Frame.at
    | with_reducible apply Frame.modRingPort
    | with_reducible apply Frame.raise
    | with_reducible apply Frame.rejoin
    | with_reducible apply Frame.setF
    | with_reducible apply Frame.setFields
    | with_reducible refine Frame.ite ?_ ?_
    | (try lift_lets -underBinder); intro x; refine Frame.cut (x := x) ?_ ?_ <;> [subst x; (clear_value x; intro _)]
    | (try lift_lets -underBinder); intro x; first | subst x | skip
    | split
    | fail_if_no_progress dsimp only
    | fail_if_no_progress with_reducible refine Frame.upd ?_

theorem Frame.execRingLinkRestore (h : Frame μ s₀ s) (t : Nat) (port : Nat) (h_health : μ.health = true) (h_dma : μ.dma = true) (h_ring : μ.ring = true) (h_flt : μ.flt = true) (h_pmc : μ.pmc = true) (h_form : μ.form = true) (h_staging : μ.staging = true) :
    ∃ s₁, execRingLinkRestore t port s = .next s₁ ∧ Frame μ s₀ s₁ := by
  refine ⟨_, rfl, ?_⟩
  repeat' first
    | with_reducible assumption
    | with_reducible apply Frame.at
    | with_reducible apply Frame.drain
    | with_reducible refine Frame.emit ?_ _ (.inr rfl)
    | with_reducible apply Frame.modRingPort
    | with_reducible apply Frame.setF
    | with_reducible refine Frame.ite ?_ ?_
    | (try lift_lets -underBinder); intro x; refine Frame.cut (x := x) ?_ ?_ <;> [subst x; (clear_value x; intro _)]
    | (try lift_lets -underBinder); intro x; first | subst x | skip
    | split
    | fail_if_no_progress dsimp only
    | fail_if_no_progress with_reducible refine Frame.upd ?_

theorem Frame.execDrainMarkerReturn (h : Frame μ s₀ s) (t : Nat) (port : Nat) (h_health : μ.health = true) (h_ring : μ.ring = true) (h_flt : μ.flt = true) :
    ∃ s₁, execDrainMarkerReturn t port s = .next s₁ ∧ Frame μ s₀ s₁ := by
  refine ⟨_, rfl, ?_⟩
  repeat' first
    | with_reducible assumption
    | with_reducible apply Frame.at
    | with_reducible apply Frame.modRingPort
    | with_reducible apply Frame.sendWrap
    | with_reducible apply Frame.setBreak
    | with_reducible apply Frame.setFields
    | with_reducible refine Frame.ite ?_ ?_
    | (try lift_lets -underBinder); intro x; refine Frame.cut (x := x) ?_ ?_ <;> [subst x; (clear_value x; intro _)]
    | (try lift_lets -underBinder); intro x; first | subst x | skip
    | fail_if_no_progress with_reducible refine Frame.upd ?_

/-! ### Machine/System.lean -/

/-- What a logic reset keeps: NV flash and the identity among the parts. -/
theorem Frame.logicReset (h : Frame μ s₀ s) (ph : Phase) (h_snaps : μ.snaps = true) (h_lows : μ.lows = true) (h_sys : μ.sys = true) (h_cfg : μ.cfg = true) (h_pos : μ.pos = true) (h_fire : μ.fire = true) (h_wins : μ.wins = true) (h_noz : μ.noz = true) (h_tileH : μ.tileH = true) (h_lanes : μ.lanes = true) (h_health : μ.health = true) (h_comp : μ.comp = true) (h_host : μ.host = true) (h_dma : μ.dma = true) (h_ring : μ.ring = true) (h_ports : μ.ports = true) (h_pwr : μ.pwr = true) (h_mot : μ.mot = true) (h_thm : μ.thm = true) (h_flt : μ.flt = true) (h_cal : μ.cal = true) (h_pmc : μ.pmc = true) (h_clk : μ.clk = true) (h_svc : μ.svc = true) (h_form : μ.form = true) (h_staging : μ.staging = true) :
    Frame μ s₀ (State.logicReset s ph) :=
  h.trans {
    now := Nat.le_refl _
    pending := rfl
    draws := Nat.le_refl _
    out := ⟨[], rfl, .inr (by simp)⟩
    wf := fun _ => State.wf_iff.2 ⟨rfl, rfl, rfl, rfl, rfl, rfl, rfl, rfl, rfl⟩
    snaps := .inl h_snaps
    lows := .inl h_lows
    ident := .inr rfl
    nv := .inr rfl
    sys := .inl h_sys
    cfg := .inl h_cfg
    pos := .inl h_pos
    fire := .inl h_fire
    wins := .inl h_wins
    noz := .inl h_noz
    tileH := .inl h_tileH
    lanes := .inl h_lanes
    health := .inl h_health
    comp := .inl h_comp
    host := .inl h_host
    dma := .inl h_dma
    ring := .inl h_ring
    ports := .inl h_ports
    pwr := .inl h_pwr
    mot := .inl h_mot
    thm := .inl h_thm
    flt := .inl h_flt
    cal := .inl h_cal
    pmc := .inl h_pmc
    clk := .inl h_clk
    svc := .inl h_svc
    form := .inl h_form
    staging := .inl h_staging
  }

theorem Frame.setAlarm (h : Frame μ s₀ s) (op : Bool) (h_svc : μ.svc = true) :
    Frame μ s₀ (State.setAlarm s op) := by
  delta State.setAlarm
  repeat' first
    | with_reducible assumption
    | with_reducible refine Frame.emit ?_ _ (.inr rfl)
    | with_reducible refine Frame.ite ?_ ?_
    | fail_if_no_progress with_reducible refine Frame.upd ?_

theorem Frame.execMainsApplied (h : Frame μ s₀ s) (t : Nat) (straps : Nat) (dc : Bool) (clockOk : Bool) (h_snaps : μ.snaps = true) (h_lows : μ.lows = true) (h_ident : μ.ident = true) (h_sys : μ.sys = true) (h_cfg : μ.cfg = true) (h_pos : μ.pos = true) (h_fire : μ.fire = true) (h_wins : μ.wins = true) (h_noz : μ.noz = true) (h_tileH : μ.tileH = true) (h_lanes : μ.lanes = true) (h_health : μ.health = true) (h_comp : μ.comp = true) (h_host : μ.host = true) (h_dma : μ.dma = true) (h_ring : μ.ring = true) (h_ports : μ.ports = true) (h_pwr : μ.pwr = true) (h_mot : μ.mot = true) (h_thm : μ.thm = true) (h_flt : μ.flt = true) (h_cal : μ.cal = true) (h_pmc : μ.pmc = true) (h_clk : μ.clk = true) (h_svc : μ.svc = true) (h_form : μ.form = true) (h_staging : μ.staging = true) :
    ∃ s₁, execMainsApplied t straps dc clockOk s = .next s₁ ∧ Frame μ s₀ s₁ := by
  refine ⟨_, rfl, ?_⟩
  repeat' first
    | with_reducible assumption
    | with_reducible apply Frame.at
    | with_reducible apply Frame.logicOff
    | with_reducible apply Frame.logicReset
    | with_reducible apply Frame.setAlarm
    | with_reducible apply Frame.setF
    | with_reducible apply Frame.setFields
    | with_reducible refine Frame.ite ?_ ?_
    | (try lift_lets -underBinder); intro x; refine Frame.cut (x := x) ?_ ?_ <;> [subst x; (clear_value x; intro _)]
    | (try lift_lets -underBinder); intro x; first | subst x | skip
    | fail_if_no_progress with_reducible refine Frame.upd ?_

theorem Frame.execFirmwareCheckComplete (h : Frame μ s₀ s) (t : Nat) (a : Bool) (b : Bool) (h_ident : μ.ident = true) (h_sys : μ.sys = true) (h_cfg : μ.cfg = true) (h_fire : μ.fire = true) (h_wins : μ.wins = true) (h_health : μ.health = true) (h_comp : μ.comp = true) (h_host : μ.host = true) (h_dma : μ.dma = true) (h_ring : μ.ring = true) (h_ports : μ.ports = true) (h_pwr : μ.pwr = true) (h_mot : μ.mot = true) (h_flt : μ.flt = true) (h_cal : μ.cal = true) (h_svc : μ.svc = true) :
    ∃ s₁, execFirmwareCheckComplete t a b s = .next s₁ ∧ Frame μ s₀ s₁ := by
  refine ⟨_, rfl, ?_⟩
  repeat' first
    | with_reducible assumption
    | with_reducible apply Frame.at
    | with_reducible apply Frame.enterMidnight
    | with_reducible apply Frame.raise
    | with_reducible refine Frame.ite ?_ ?_
    | (try lift_lets -underBinder); intro x; refine Frame.cut (x := x) ?_ ?_ <;> [subst x; (clear_value x; intro _)]
    | (try lift_lets -underBinder); intro x; first | subst x | skip
    | fail_if_no_progress with_reducible refine Frame.upd ?_

theorem Frame.execBootSequenceComplete (h : Frame μ s₀ s) (t : Nat) (h_sys : μ.sys = true) (h_cfg : μ.cfg = true) (h_wins : μ.wins = true) (h_health : μ.health = true) (h_comp : μ.comp = true) (h_host : μ.host = true) (h_dma : μ.dma = true) (h_ring : μ.ring = true) (h_ports : μ.ports = true) (h_pwr : μ.pwr = true) (h_mot : μ.mot = true) (h_flt : μ.flt = true) (h_cal : μ.cal = true) (h_svc : μ.svc = true) :
    ∃ s₁, execBootSequenceComplete t s = .next s₁ ∧ Frame μ s₀ s₁ := by
  refine ⟨_, rfl, ?_⟩
  repeat' first
    | with_reducible assumption
    | with_reducible apply Frame.at
    | with_reducible apply Frame.enterNight
    | with_reducible apply Frame.setFb
    | with_reducible refine Frame.ite ?_ ?_
    | (try lift_lets -underBinder); intro x; refine Frame.cut (x := x) ?_ ?_ <;> [subst x; (clear_value x; intro _)]
    | (try lift_lets -underBinder); intro x; first | subst x | skip
    | split
    | fail_if_no_progress dsimp only
    | fail_if_no_progress with_reducible refine Frame.upd ?_

theorem Frame.execLogicReserveReached (h : Frame μ s₀ s) (t : Nat) (h_sys : μ.sys = true) (h_ports : μ.ports = true) (h_pwr : μ.pwr = true) (h_svc : μ.svc = true) :
    ∃ s₁, execLogicReserveReached t s = .next s₁ ∧ Frame μ s₀ s₁ := by
  refine ⟨_, rfl, ?_⟩
  repeat' first
    | with_reducible assumption
    | with_reducible apply Frame.at
    | with_reducible apply Frame.logicOff
    | with_reducible apply Frame.mainsGone
    | with_reducible apply Frame.setAlarm
    | with_reducible refine Frame.ite ?_ ?_
    | (try lift_lets -underBinder); intro x; refine Frame.cut (x := x) ?_ ?_ <;> [subst x; (clear_value x; intro _)]
    | (try lift_lets -underBinder); intro x; first | subst x | skip
    | fail_if_no_progress with_reducible refine Frame.upd ?_

theorem Frame.execPowerCycle (h : Frame μ s₀ s) (t : Nat) (h_snaps : μ.snaps = true) (h_lows : μ.lows = true) (h_sys : μ.sys = true) (h_cfg : μ.cfg = true) (h_pos : μ.pos = true) (h_fire : μ.fire = true) (h_wins : μ.wins = true) (h_noz : μ.noz = true) (h_tileH : μ.tileH = true) (h_lanes : μ.lanes = true) (h_health : μ.health = true) (h_comp : μ.comp = true) (h_host : μ.host = true) (h_dma : μ.dma = true) (h_ring : μ.ring = true) (h_ports : μ.ports = true) (h_pwr : μ.pwr = true) (h_mot : μ.mot = true) (h_thm : μ.thm = true) (h_flt : μ.flt = true) (h_cal : μ.cal = true) (h_pmc : μ.pmc = true) (h_clk : μ.clk = true) (h_svc : μ.svc = true) (h_form : μ.form = true) (h_staging : μ.staging = true) :
    ∃ s₁, execPowerCycle t s = .next s₁ ∧ Frame μ s₀ s₁ := by
  refine ⟨_, rfl, ?_⟩
  repeat' first
    | with_reducible assumption
    | with_reducible apply Frame.at
    | with_reducible apply Frame.logicReset
    | with_reducible apply Frame.mainsGone
    | with_reducible apply Frame.setAlarm
    | with_reducible refine Frame.ite ?_ ?_
    | (try lift_lets -underBinder); intro x; refine Frame.cut (x := x) ?_ ?_ <;> [subst x; (clear_value x; intro _)]
    | (try lift_lets -underBinder); intro x; first | subst x | skip
    | split
    | fail_if_no_progress dsimp only
    | fail_if_no_progress with_reducible refine Frame.upd ?_

theorem Frame.writeSysCtrl (h : Frame μ s₀ s) (v : Word) (x : DawnTests) (h_nv : μ.nv = true) (h_sys : μ.sys = true) (h_cfg : μ.cfg = true) (h_fire : μ.fire = true) (h_wins : μ.wins = true) (h_noz : μ.noz = true) (h_tileH : μ.tileH = true) (h_lanes : μ.lanes = true) (h_health : μ.health = true) (h_comp : μ.comp = true) (h_host : μ.host = true) (h_dma : μ.dma = true) (h_ring : μ.ring = true) (h_ports : μ.ports = true) (h_pwr : μ.pwr = true) (h_mot : μ.mot = true) (h_flt : μ.flt = true) (h_cal : μ.cal = true) (h_svc : μ.svc = true) :
    Frame μ s₀ (State.writeSysCtrl s v x) := by
  delta State.writeSysCtrl
  repeat' first
    | with_reducible assumption
    | with_reducible apply Frame.abandon
    | with_reducible apply Frame.enterDawn
    | with_reducible apply Frame.nightRequest
    | with_reducible apply Frame.runRequest
    | with_reducible apply Frame.setFields
    | with_reducible apply Frame.stopRequest
    | with_reducible refine Frame.ite ?_ ?_
    | (try lift_lets -underBinder); intro x; refine Frame.cut (x := x) ?_ ?_ <;> [subst x; (clear_value x; intro _)]
    | (try lift_lets -underBinder); intro x; first | subst x | skip
    | fail_if_no_progress with_reducible refine Frame.upd ?_

theorem Frame.execSysCtrlDawn (h : Frame μ s₀ s) (t : Nat) (v : Word) (x : DawnTests) (h_nv : μ.nv = true) (h_sys : μ.sys = true) (h_cfg : μ.cfg = true) (h_fire : μ.fire = true) (h_wins : μ.wins = true) (h_noz : μ.noz = true) (h_tileH : μ.tileH = true) (h_lanes : μ.lanes = true) (h_health : μ.health = true) (h_comp : μ.comp = true) (h_host : μ.host = true) (h_dma : μ.dma = true) (h_ring : μ.ring = true) (h_ports : μ.ports = true) (h_pwr : μ.pwr = true) (h_mot : μ.mot = true) (h_flt : μ.flt = true) (h_cal : μ.cal = true) (h_svc : μ.svc = true) :
    ∃ s₁, execSysCtrlDawn t v x s = .next s₁ ∧ Frame μ s₀ s₁ := by
  refine ⟨_, rfl, ?_⟩
  repeat' first
    | with_reducible assumption
    | with_reducible apply Frame.at
    | with_reducible apply Frame.onWrite
    | with_reducible apply Frame.writeSysCtrl
    | with_reducible refine Frame.ite ?_ ?_
    | (try lift_lets -underBinder); intro x; refine Frame.cut (x := x) ?_ ?_ <;> [subst x; (clear_value x; intro _)]
    | (try lift_lets -underBinder); intro x; first | subst x | skip

theorem Frame.execSysCtrlNight (h : Frame μ s₀ s) (t : Nat) (v : Word) (h_nv : μ.nv = true) (h_sys : μ.sys = true) (h_cfg : μ.cfg = true) (h_fire : μ.fire = true) (h_wins : μ.wins = true) (h_noz : μ.noz = true) (h_tileH : μ.tileH = true) (h_lanes : μ.lanes = true) (h_health : μ.health = true) (h_comp : μ.comp = true) (h_host : μ.host = true) (h_dma : μ.dma = true) (h_ring : μ.ring = true) (h_ports : μ.ports = true) (h_pwr : μ.pwr = true) (h_mot : μ.mot = true) (h_flt : μ.flt = true) (h_cal : μ.cal = true) (h_svc : μ.svc = true) :
    ∃ s₁, execSysCtrlNight t v s = .next s₁ ∧ Frame μ s₀ s₁ := by
  refine ⟨_, rfl, ?_⟩
  repeat' first
    | with_reducible assumption
    | with_reducible apply Frame.at
    | with_reducible apply Frame.onWrite
    | with_reducible apply Frame.writeSysCtrl
    | with_reducible refine Frame.ite ?_ ?_
    | (try lift_lets -underBinder); intro x; refine Frame.cut (x := x) ?_ ?_ <;> [subst x; (clear_value x; intro _)]
    | (try lift_lets -underBinder); intro x; first | subst x | skip

theorem Frame.execRunRequest (h : Frame μ s₀ s) (t : Nat) (v : Word) (h_nv : μ.nv = true) (h_sys : μ.sys = true) (h_cfg : μ.cfg = true) (h_fire : μ.fire = true) (h_wins : μ.wins = true) (h_noz : μ.noz = true) (h_tileH : μ.tileH = true) (h_lanes : μ.lanes = true) (h_health : μ.health = true) (h_comp : μ.comp = true) (h_host : μ.host = true) (h_dma : μ.dma = true) (h_ring : μ.ring = true) (h_ports : μ.ports = true) (h_pwr : μ.pwr = true) (h_mot : μ.mot = true) (h_flt : μ.flt = true) (h_cal : μ.cal = true) (h_svc : μ.svc = true) :
    ∃ s₁, execRunRequest t v s = .next s₁ ∧ Frame μ s₀ s₁ := by
  refine ⟨_, rfl, ?_⟩
  repeat' first
    | with_reducible assumption
    | with_reducible apply Frame.at
    | with_reducible apply Frame.onWrite
    | with_reducible apply Frame.writeSysCtrl
    | with_reducible refine Frame.ite ?_ ?_
    | (try lift_lets -underBinder); intro x; refine Frame.cut (x := x) ?_ ?_ <;> [subst x; (clear_value x; intro _)]
    | (try lift_lets -underBinder); intro x; first | subst x | skip

theorem Frame.execStopRequest (h : Frame μ s₀ s) (t : Nat) (v : Word) (h_nv : μ.nv = true) (h_sys : μ.sys = true) (h_cfg : μ.cfg = true) (h_fire : μ.fire = true) (h_wins : μ.wins = true) (h_noz : μ.noz = true) (h_tileH : μ.tileH = true) (h_lanes : μ.lanes = true) (h_health : μ.health = true) (h_comp : μ.comp = true) (h_host : μ.host = true) (h_dma : μ.dma = true) (h_ring : μ.ring = true) (h_ports : μ.ports = true) (h_pwr : μ.pwr = true) (h_mot : μ.mot = true) (h_flt : μ.flt = true) (h_cal : μ.cal = true) (h_svc : μ.svc = true) :
    ∃ s₁, execStopRequest t v s = .next s₁ ∧ Frame μ s₀ s₁ := by
  refine ⟨_, rfl, ?_⟩
  repeat' first
    | with_reducible assumption
    | with_reducible apply Frame.at
    | with_reducible apply Frame.onWrite
    | with_reducible apply Frame.writeSysCtrl
    | with_reducible refine Frame.ite ?_ ?_
    | (try lift_lets -underBinder); intro x; refine Frame.cut (x := x) ?_ ?_ <;> [subst x; (clear_value x; intro _)]
    | (try lift_lets -underBinder); intro x; first | subst x | skip

theorem Frame.execSysCtrlAbandon (h : Frame μ s₀ s) (t : Nat) (v : Word) (h_nv : μ.nv = true) (h_sys : μ.sys = true) (h_cfg : μ.cfg = true) (h_fire : μ.fire = true) (h_wins : μ.wins = true) (h_noz : μ.noz = true) (h_tileH : μ.tileH = true) (h_lanes : μ.lanes = true) (h_health : μ.health = true) (h_comp : μ.comp = true) (h_host : μ.host = true) (h_dma : μ.dma = true) (h_ring : μ.ring = true) (h_ports : μ.ports = true) (h_pwr : μ.pwr = true) (h_mot : μ.mot = true) (h_flt : μ.flt = true) (h_cal : μ.cal = true) (h_svc : μ.svc = true) :
    ∃ s₁, execSysCtrlAbandon t v s = .next s₁ ∧ Frame μ s₀ s₁ := by
  refine ⟨_, rfl, ?_⟩
  repeat' first
    | with_reducible assumption
    | with_reducible apply Frame.at
    | with_reducible apply Frame.onWrite
    | with_reducible apply Frame.writeSysCtrl
    | with_reducible refine Frame.ite ?_ ?_
    | (try lift_lets -underBinder); intro x; refine Frame.cut (x := x) ?_ ?_ <;> [subst x; (clear_value x; intro _)]
    | (try lift_lets -underBinder); intro x; first | subst x | skip

theorem Frame.execDawnDone (h : Frame μ s₀ s) (t : Nat) (h_sys : μ.sys = true) (h_cfg : μ.cfg = true) (h_pos : μ.pos = true) (h_fire : μ.fire = true) (h_wins : μ.wins = true) (h_noz : μ.noz = true) (h_tileH : μ.tileH = true) (h_health : μ.health = true) (h_comp : μ.comp = true) (h_host : μ.host = true) (h_dma : μ.dma = true) (h_ring : μ.ring = true) (h_ports : μ.ports = true) (h_pwr : μ.pwr = true) (h_mot : μ.mot = true) (h_flt : μ.flt = true) (h_cal : μ.cal = true) (h_svc : μ.svc = true) :
    ∃ s₁, execDawnDone t s = .next s₁ ∧ Frame μ s₀ s₁ := by
  refine ⟨_, rfl, ?_⟩
  repeat' first
    | with_reducible assumption
    | with_reducible apply Frame.applyImage
    | with_reducible apply Frame.at
    | with_reducible apply Frame.calDawn
    | with_reducible apply Frame.dawnCounts
    | with_reducible apply Frame.enterMorning
    | with_reducible apply Frame.fixRanks
    | with_reducible apply Frame.setF
    | with_reducible refine Frame.ite ?_ ?_
    | (try lift_lets -underBinder); intro x; refine Frame.cut (x := x) ?_ ?_ <;> [subst x; (clear_value x; intro _)]
    | (try lift_lets -underBinder); intro x; first | subst x | skip

theorem Frame.execStandaloneTimerExpiry (h : Frame μ s₀ s) (t : Nat) (x : DawnTests) (h_nv : μ.nv = true) (h_sys : μ.sys = true) (h_fire : μ.fire = true) (h_wins : μ.wins = true) (h_noz : μ.noz = true) (h_tileH : μ.tileH = true) (h_lanes : μ.lanes = true) (h_health : μ.health = true) (h_ports : μ.ports = true) (h_mot : μ.mot = true) (h_flt : μ.flt = true) (h_cal : μ.cal = true) (h_svc : μ.svc = true) :
    ∃ s₁, execStandaloneTimerExpiry t x s = .next s₁ ∧ Frame μ s₀ s₁ := by
  refine ⟨_, rfl, ?_⟩
  repeat' first
    | with_reducible assumption
    | with_reducible apply Frame.at
    | with_reducible apply Frame.enterDawn
    | with_reducible refine Frame.ite ?_ ?_
    | (try lift_lets -underBinder); intro x; refine Frame.cut (x := x) ?_ ?_ <;> [subst x; (clear_value x; intro _)]
    | (try lift_lets -underBinder); intro x; first | subst x | skip
    | split
    | fail_if_no_progress dsimp only
    | fail_if_no_progress with_reducible refine Frame.upd ?_

theorem Frame.execRunPendingActed (h : Frame μ s₀ s) (t : Nat) (h_wins : μ.wins = true) (h_health : μ.health = true) (h_flt : μ.flt = true) (h_svc : μ.svc = true) :
    ∃ s₁, execRunPendingActed t s = .next s₁ ∧ Frame μ s₀ s₁ := by
  refine ⟨_, rfl, ?_⟩
  repeat' first
    | with_reducible assumption
    | with_reducible apply Frame.at
    | with_reducible apply Frame.runPending

theorem Frame.execDuskComplete (h : Frame μ s₀ s) (t : Nat) (h_sys : μ.sys = true) (h_cfg : μ.cfg = true) (h_wins : μ.wins = true) (h_health : μ.health = true) (h_comp : μ.comp = true) (h_host : μ.host = true) (h_dma : μ.dma = true) (h_ring : μ.ring = true) (h_ports : μ.ports = true) (h_pwr : μ.pwr = true) (h_mot : μ.mot = true) (h_flt : μ.flt = true) (h_cal : μ.cal = true) (h_svc : μ.svc = true) :
    ∃ s₁, execDuskComplete t s = .next s₁ ∧ Frame μ s₀ s₁ := by
  refine ⟨_, rfl, ?_⟩
  repeat' first
    | with_reducible assumption
    | with_reducible apply Frame.at
    | with_reducible apply Frame.enterMorning
    | with_reducible apply Frame.enterNight
    | with_reducible apply Frame.setF
    | with_reducible apply Frame.showCues
    | with_reducible apply Frame.usageWrite
    | with_reducible refine Frame.ite ?_ ?_
    | with_reducible refine Frame.foldl ?_ ?_
    | (try lift_lets -underBinder); intro x; refine Frame.cut (x := x) ?_ ?_ <;> [subst x; (clear_value x; intro _)]
    | (try lift_lets -underBinder); intro x; first | subst x | skip

theorem Frame.execSpitTimerExpiry (h : Frame μ s₀ s) (t : Nat) (h_sys : μ.sys = true) :
    ∃ s₁, execSpitTimerExpiry t s = .next s₁ ∧ Frame μ s₀ s₁ := by
  refine ⟨_, rfl, ?_⟩
  repeat' first
    | with_reducible assumption
    | with_reducible apply Frame.at
    | with_reducible refine Frame.ite ?_ ?_
    | (try lift_lets -underBinder); intro x; refine Frame.cut (x := x) ?_ ?_ <;> [subst x; (clear_value x; intro _)]
    | (try lift_lets -underBinder); intro x; first | subst x | skip
    | split
    | fail_if_no_progress dsimp only
    | fail_if_no_progress with_reducible refine Frame.upd ?_

theorem Frame.spitTile (h : Frame μ s₀ s) (k : Nat) (n : Nat) (h_fire : μ.fire = true) (h_tileH : μ.tileH = true) (h_health : μ.health = true) (h_ports : μ.ports = true) (h_flt : μ.flt = true) (h_strobe : μ.strobe = true) :
    Frame μ s₀ (State.spitTile s k n) := by
  delta State.spitTile
  repeat' first
    | with_reducible assumption
    | with_reducible apply Frame.addF
    | with_reducible apply Frame.addUse
    | with_reducible apply Frame.count
    | with_reducible refine Frame.emit ?_ _ (.inr rfl)
    | with_reducible apply Frame.header
    | with_reducible refine Frame.header_eq ?_ (by assumption) ‹_› ‹_› ‹_›
    | with_reducible apply Frame.incF
    | with_reducible apply Frame.modFire
    | with_reducible apply Frame.modPort
    | with_reducible refine Frame.emit ?_ _ (.inl ‹_›)
    | with_reducible refine Frame.ite ?_ ?_
    | (try lift_lets -underBinder); intro x; refine Frame.cut (x := x) ?_ ?_ <;> [subst x; (clear_value x; intro _)]
    | (try lift_lets -underBinder); intro x; first | subst x | skip
    | split
    | fail_if_no_progress dsimp only
    | fail_if_no_progress with_reducible refine Frame.upd ?_

theorem Frame.execSpitCycle (h : Frame μ s₀ s) (t : Nat) (h_sys : μ.sys = true) (h_fire : μ.fire = true) (h_tileH : μ.tileH = true) (h_health : μ.health = true) (h_ports : μ.ports = true) (h_flt : μ.flt = true) (h_strobe : μ.strobe = true) :
    ∃ s₁, execSpitCycle t s = .next s₁ ∧ Frame μ s₀ s₁ := by
  refine ⟨_, rfl, ?_⟩
  repeat' first
    | with_reducible assumption
    | with_reducible apply Frame.at
    | with_reducible apply Frame.spitTile
    | with_reducible refine Frame.ite ?_ ?_
    | with_reducible refine Frame.foldl ?_ ?_
    | (try lift_lets -underBinder); intro x; refine Frame.cut (x := x) ?_ ?_ <;> [subst x; (clear_value x; intro _)]
    | (try lift_lets -underBinder); intro x; first | subst x | skip
    | split
    | fail_if_no_progress dsimp only
    | fail_if_no_progress with_reducible refine Frame.upd ?_

theorem Frame.dropPattern (h : Frame μ s₀ s) (h_fire : μ.fire = true) (h_wins : μ.wins = true) :
    Frame μ s₀ (State.dropPattern s) := by
  delta State.dropPattern
  repeat' first
    | with_reducible assumption
    | with_reducible apply Frame.modFire
    | with_reducible apply Frame.modWin
    | with_reducible apply Frame.setF
    | with_reducible apply Frame.setFields
    | with_reducible apply Frame.showPlan
    | with_reducible refine Frame.foldl ?_ ?_
    | (try lift_lets -underBinder); intro x; refine Frame.cut (x := x) ?_ ?_ <;> [subst x; (clear_value x; intro _)]
    | (try lift_lets -underBinder); intro x; first | subst x | skip
    | fail_if_no_progress with_reducible refine Frame.upd ?_

theorem Frame.execPatternLineTimeout (h : Frame μ s₀ s) (t : Nat) (h_sys : μ.sys = true) (h_fire : μ.fire = true) (h_wins : μ.wins = true) (h_health : μ.health = true) (h_mot : μ.mot = true) (h_flt : μ.flt = true) (h_cal : μ.cal = true) (h_svc : μ.svc = true) :
    ∃ s₁, execPatternLineTimeout t s = .next s₁ ∧ Frame μ s₀ s₁ := by
  refine ⟨_, rfl, ?_⟩
  repeat' first
    | with_reducible assumption
    | with_reducible apply Frame.at
    | with_reducible apply Frame.dropPattern
    | with_reducible apply Frame.enterDusk
    | with_reducible apply Frame.raise
    | with_reducible refine Frame.ite ?_ ?_
    | (try lift_lets -underBinder); intro x; refine Frame.cut (x := x) ?_ ?_ <;> [subst x; (clear_value x; intro _)]
    | (try lift_lets -underBinder); intro x; first | subst x | skip
    | split
    | fail_if_no_progress dsimp only
    | fail_if_no_progress with_reducible refine Frame.upd ?_

theorem Frame.writeEnable (h : Frame μ s₀ s) (v : Word) (h_cfg : μ.cfg = true) :
    Frame μ s₀ (State.writeEnable s v) := by
  delta State.writeEnable
  repeat' first
    | with_reducible assumption
    | with_reducible apply Frame.startCheck
    | with_reducible refine Frame.ite ?_ ?_
    | (try lift_lets -underBinder); intro x; refine Frame.cut (x := x) ?_ ?_ <;> [subst x; (clear_value x; intro _)]
    | (try lift_lets -underBinder); intro x; first | subst x | skip

theorem Frame.execArm (h : Frame μ s₀ s) (t : Nat) (v : Word) (h_cfg : μ.cfg = true) :
    ∃ s₁, execArm t v s = .next s₁ ∧ Frame μ s₀ s₁ := by
  refine ⟨_, rfl, ?_⟩
  repeat' first
    | with_reducible assumption
    | with_reducible apply Frame.at
    | with_reducible apply Frame.onWrite
    | with_reducible apply Frame.writeEnable
    | with_reducible refine Frame.ite ?_ ?_
    | (try lift_lets -underBinder); intro x; refine Frame.cut (x := x) ?_ ?_ <;> [subst x; (clear_value x; intro _)]
    | (try lift_lets -underBinder); intro x; first | subst x | skip

theorem Frame.execLive (h : Frame μ s₀ s) (t : Nat) (v : Word) (h_cfg : μ.cfg = true) :
    ∃ s₁, execLive t v s = .next s₁ ∧ Frame μ s₀ s₁ := by
  refine ⟨_, rfl, ?_⟩
  repeat' first
    | with_reducible assumption
    | with_reducible apply Frame.at
    | with_reducible apply Frame.onWrite
    | with_reducible apply Frame.writeEnable
    | with_reducible refine Frame.ite ?_ ?_
    | (try lift_lets -underBinder); intro x; refine Frame.cut (x := x) ?_ ?_ <;> [subst x; (clear_value x; intro _)]
    | (try lift_lets -underBinder); intro x; first | subst x | skip

theorem Frame.execEnableCheckComplete (h : Frame μ s₀ s) (t : Nat) (h_sys : μ.sys = true) (h_cfg : μ.cfg = true) (h_pos : μ.pos = true) (h_fire : μ.fire = true) (h_wins : μ.wins = true) (h_noz : μ.noz = true) (h_tileH : μ.tileH = true) (h_health : μ.health = true) (h_comp : μ.comp = true) (h_host : μ.host = true) (h_dma : μ.dma = true) (h_ring : μ.ring = true) (h_ports : μ.ports = true) (h_pwr : μ.pwr = true) (h_mot : μ.mot = true) (h_flt : μ.flt = true) (h_cal : μ.cal = true) (h_svc : μ.svc = true) :
    ∃ s₁, execEnableCheckComplete t s = .next s₁ ∧ Frame μ s₀ s₁ := by
  refine ⟨_, rfl, ?_⟩
  repeat' first
    | with_reducible assumption
    | with_reducible apply Frame.applyImage
    | with_reducible apply Frame.at
    | with_reducible apply Frame.enterMorning
    | with_reducible apply Frame.postCheck
    | with_reducible refine Frame.ite ?_ ?_
    | (try lift_lets -underBinder); intro x; refine Frame.cut (x := x) ?_ ?_ <;> [subst x; (clear_value x; intro _)]
    | (try lift_lets -underBinder); intro x; first | subst x | skip
    | split
    | fail_if_no_progress dsimp only
    | fail_if_no_progress with_reducible refine Frame.upd ?_

theorem Frame.execLiveCheckComplete (h : Frame μ s₀ s) (t : Nat) (h_cfg : μ.cfg = true) (h_pos : μ.pos = true) (h_fire : μ.fire = true) (h_wins : μ.wins = true) (h_health : μ.health = true) (h_flt : μ.flt = true) (h_svc : μ.svc = true) :
    ∃ s₁, execLiveCheckComplete t s = .next s₁ ∧ Frame μ s₀ s₁ := by
  refine ⟨_, rfl, ?_⟩
  repeat' first
    | with_reducible assumption
    | with_reducible apply Frame.at
    | with_reducible apply Frame.liveSwap
    | with_reducible apply Frame.noteSwaps
    | with_reducible apply Frame.postCheck
    | with_reducible apply Frame.setF
    | with_reducible refine Frame.ite ?_ ?_
    | with_reducible refine Frame.foldl ?_ ?_
    | (try lift_lets -underBinder); intro x; refine Frame.cut (x := x) ?_ ?_ <;> [subst x; (clear_value x; intro _)]
    | (try lift_lets -underBinder); intro x; first | subst x | skip
    | split
    | fail_if_no_progress dsimp only
    | fail_if_no_progress with_reducible refine Frame.upd ?_

theorem Frame.writeNvCtrl (h : Frame μ s₀ s) (v : Word) (h_cfg : μ.cfg = true) :
    Frame μ s₀ (State.writeNvCtrl s v) := by
  delta State.writeNvCtrl
  repeat' first
    | with_reducible assumption
    | with_reducible apply Frame.setF
    | with_reducible apply Frame.startCheck
    | with_reducible refine Frame.ite ?_ ?_
    | (try lift_lets -underBinder); intro x; refine Frame.cut (x := x) ?_ ?_ <;> [subst x; (clear_value x; intro _)]
    | (try lift_lets -underBinder); intro x; first | subst x | skip

theorem Frame.execStore (h : Frame μ s₀ s) (t : Nat) (v : Word) (h_cfg : μ.cfg = true) :
    ∃ s₁, execStore t v s = .next s₁ ∧ Frame μ s₀ s₁ := by
  refine ⟨_, rfl, ?_⟩
  repeat' first
    | with_reducible assumption
    | with_reducible apply Frame.at
    | with_reducible apply Frame.onWrite
    | with_reducible apply Frame.writeNvCtrl
    | with_reducible refine Frame.ite ?_ ?_
    | (try lift_lets -underBinder); intro x; refine Frame.cut (x := x) ?_ ?_ <;> [subst x; (clear_value x; intro _)]
    | (try lift_lets -underBinder); intro x; first | subst x | skip

theorem Frame.execStoreComplete (h : Frame μ s₀ s) (t : Nat) (h_nv : μ.nv = true) (h_cfg : μ.cfg = true) :
    ∃ s₁, execStoreComplete t s = .next s₁ ∧ Frame μ s₀ s₁ := by
  refine ⟨_, rfl, ?_⟩
  repeat' first
    | with_reducible assumption
    | with_reducible apply Frame.at
    | with_reducible apply Frame.postCheck
    | with_reducible refine Frame.ite ?_ ?_
    | (try lift_lets -underBinder); intro x; refine Frame.cut (x := x) ?_ ?_ <;> [subst x; (clear_value x; intro _)]
    | (try lift_lets -underBinder); intro x; first | subst x | skip
    | split
    | fail_if_no_progress dsimp only
    | fail_if_no_progress with_reducible refine Frame.upd ?_

theorem Frame.writeKey (h : Frame μ s₀ s) (k : Nat) (v : Word) (h_nv : μ.nv = true) (h_cfg : μ.cfg = true) (h_health : μ.health = true) (h_flt : μ.flt = true) :
    Frame μ s₀ (State.writeKey s k v) := by
  delta State.writeKey
  repeat' first
    | with_reducible assumption
    | with_reducible apply Frame.raise
    | with_reducible refine Frame.ite ?_ ?_
    | (try lift_lets -underBinder); intro x; refine Frame.cut (x := x) ?_ ?_ <;> [subst x; (clear_value x; intro _)]
    | (try lift_lets -underBinder); intro x; first | subst x | skip
    | fail_if_no_progress with_reducible refine Frame.upd ?_

theorem Frame.execCfgKeyStore (h : Frame μ s₀ s) (t : Nat) (v : Word) (h_nv : μ.nv = true) (h_cfg : μ.cfg = true) (h_health : μ.health = true) (h_flt : μ.flt = true) :
    ∃ s₁, execCfgKeyStore t v s = .next s₁ ∧ Frame μ s₀ s₁ := by
  refine ⟨_, rfl, ?_⟩
  repeat' first
    | with_reducible assumption
    | with_reducible apply Frame.at
    | with_reducible apply Frame.onWrite
    | with_reducible apply Frame.writeKey
    | (try lift_lets -underBinder); intro x; refine Frame.cut (x := x) ?_ ?_ <;> [subst x; (clear_value x; intro _)]
    | (try lift_lets -underBinder); intro x; first | subst x | skip

theorem Frame.writeLock (h : Frame μ s₀ s) (v : Word) (h_nv : μ.nv = true) (h_health : μ.health = true) (h_flt : μ.flt = true) :
    Frame μ s₀ (State.writeLock s v) := by
  delta State.writeLock
  repeat' first
    | with_reducible assumption
    | with_reducible apply Frame.raise
    | with_reducible refine Frame.ite ?_ ?_
    | fail_if_no_progress with_reducible refine Frame.upd ?_

theorem Frame.execLayoutLock (h : Frame μ s₀ s) (t : Nat) (v : Word) (h_nv : μ.nv = true) (h_health : μ.health = true) (h_flt : μ.flt = true) :
    ∃ s₁, execLayoutLock t v s = .next s₁ ∧ Frame μ s₀ s₁ := by
  refine ⟨_, rfl, ?_⟩
  repeat' first
    | with_reducible assumption
    | with_reducible apply Frame.at
    | with_reducible apply Frame.onWrite
    | with_reducible apply Frame.writeLock
    | (try lift_lets -underBinder); intro x; refine Frame.cut (x := x) ?_ ?_ <;> [subst x; (clear_value x; intro _)]
    | (try lift_lets -underBinder); intro x; first | subst x | skip

theorem Frame.execStagingWrite (h : Frame μ s₀ s) (t : Nat) (off : Nat) (data : List Nat) (h_health : μ.health = true) (h_flt : μ.flt = true) (h_staging : μ.staging = true) :
    ∃ s₁, execStagingWrite t off data s = .next s₁ ∧ Frame μ s₀ s₁ := by
  refine ⟨_, rfl, ?_⟩
  repeat' first
    | with_reducible assumption
    | with_reducible apply Frame.at
    | with_reducible apply Frame.onWrite
    | with_reducible apply Frame.putStaging
    | with_reducible refine Frame.ite ?_ ?_
    | (try lift_lets -underBinder); intro x; refine Frame.cut (x := x) ?_ ?_ <;> [subst x; (clear_value x; intro _)]
    | (try lift_lets -underBinder); intro x; first | subst x | skip

theorem Frame.execCueSafeIntervalEnd (h : Frame μ s₀ s) (t : Nat) (n : Nat) (h_health : μ.health = true) (h_flt : μ.flt = true) (h_svc : μ.svc = true) :
    ∃ s₁, execCueSafeIntervalEnd t n s = .next s₁ ∧ Frame μ s₀ s₁ := by
  refine ⟨_, rfl, ?_⟩
  repeat' first
    | with_reducible assumption
    | with_reducible apply Frame.at
    | with_reducible apply Frame.driveCue
    | with_reducible refine Frame.ite ?_ ?_
    | (try lift_lets -underBinder); intro x; refine Frame.cut (x := x) ?_ ?_ <;> [subst x; (clear_value x; intro _)]
    | (try lift_lets -underBinder); intro x; first | subst x | skip
    | split
    | fail_if_no_progress dsimp only
    | fail_if_no_progress with_reducible refine Frame.upd ?_

/-! ### Machine/Position.lean -/

theorem Frame.patternEnd (h : Frame μ s₀ s) (h_sys : μ.sys = true) (h_wins : μ.wins = true) (h_health : μ.health = true) (h_mot : μ.mot = true) (h_flt : μ.flt = true) (h_cal : μ.cal = true) (h_svc : μ.svc = true) :
    Frame μ s₀ (State.patternEnd s) := by
  delta State.patternEnd
  repeat' first
    | with_reducible assumption
    | with_reducible apply Frame.enterDusk
    | with_reducible refine Frame.ite ?_ ?_

theorem Frame.takeChange (h : Frame μ s₀ s) (n : Nat) (c : Change) (h_nv : μ.nv = true) (h_sys : μ.sys = true) (h_cfg : μ.cfg = true) (h_pos : μ.pos = true) (h_fire : μ.fire = true) (h_wins : μ.wins = true) (h_noz : μ.noz = true) (h_tileH : μ.tileH = true) (h_lanes : μ.lanes = true) (h_health : μ.health = true) (h_comp : μ.comp = true) (h_host : μ.host = true) (h_dma : μ.dma = true) (h_ring : μ.ring = true) (h_ports : μ.ports = true) (h_pwr : μ.pwr = true) (h_mot : μ.mot = true) (h_flt : μ.flt = true) (h_cal : μ.cal = true) (h_pmc : μ.pmc = true) (h_svc : μ.svc = true) :
    Frame μ s₀ (State.takeChange s n c) := by
  delta State.takeChange
  repeat' first
    | with_reducible assumption
    | with_reducible apply Frame.count
    | with_reducible apply Frame.countStep
    | with_reducible apply Frame.illegal
    | with_reducible apply Frame.modPin
    | with_reducible apply Frame.patternEnd
    | with_reducible refine Frame.ite ?_ ?_
    | (try lift_lets -underBinder); intro x; refine Frame.cut (x := x) ?_ ?_ <;> [subst x; (clear_value x; intro _)]
    | (try lift_lets -underBinder); intro x; first | subst x | skip
    | split
    | fail_if_no_progress with_reducible refine Frame.upd ?_

theorem Frame.execCountStep (h : Frame μ s₀ s) (t : Nat) (n : Nat) (a : Bool) (b : Bool) (ph : List Nat) (h_nv : μ.nv = true) (h_sys : μ.sys = true) (h_cfg : μ.cfg = true) (h_pos : μ.pos = true) (h_fire : μ.fire = true) (h_wins : μ.wins = true) (h_noz : μ.noz = true) (h_tileH : μ.tileH = true) (h_lanes : μ.lanes = true) (h_health : μ.health = true) (h_comp : μ.comp = true) (h_host : μ.host = true) (h_dma : μ.dma = true) (h_ring : μ.ring = true) (h_ports : μ.ports = true) (h_pwr : μ.pwr = true) (h_mot : μ.mot = true) (h_flt : μ.flt = true) (h_cal : μ.cal = true) (h_pmc : μ.pmc = true) (h_svc : μ.svc = true) :
    ∃ s₁, execCountStep t n a b ph s = .next s₁ ∧ Frame μ s₀ s₁ := by
  refine ⟨_, rfl, ?_⟩
  repeat' first
    | with_reducible assumption
    | with_reducible apply Frame.at
    | with_reducible apply Frame.countEdge
    | with_reducible apply Frame.modPin
    | with_reducible apply Frame.takeChange
    | with_reducible refine Frame.ite ?_ ?_
    | (try lift_lets -underBinder); intro x; refine Frame.cut (x := x) ?_ ?_ <;> [subst x; (clear_value x; intro _)]
    | (try lift_lets -underBinder); intro x; first | subst x | skip
    | fail_if_no_progress with_reducible refine Frame.upd ?_

theorem Frame.execIndexLatch (h : Frame μ s₀ s) (t : Nat) (n : Nat) (z : Bool) (h_pos : μ.pos = true) (h_health : μ.health = true) (h_flt : μ.flt = true) :
    ∃ s₁, execIndexLatch t n z s = .next s₁ ∧ Frame μ s₀ s₁ := by
  refine ⟨_, rfl, ?_⟩
  repeat' first
    | with_reducible assumption
    | with_reducible apply Frame.at
    | with_reducible apply Frame.latch
    | with_reducible apply Frame.modPin
    | with_reducible refine Frame.ite ?_ ?_
    | (try lift_lets -underBinder); intro x; refine Frame.cut (x := x) ?_ ?_ <;> [subst x; (clear_value x; intro _)]
    | (try lift_lets -underBinder); intro x; first | subst x | skip
    | fail_if_no_progress with_reducible refine Frame.upd ?_

theorem Frame.execInterpolatedCrossing (h : Frame μ s₀ s) (t : Nat) (n : Nat) (h_nv : μ.nv = true) (h_sys : μ.sys = true) (h_cfg : μ.cfg = true) (h_pos : μ.pos = true) (h_fire : μ.fire = true) (h_wins : μ.wins = true) (h_noz : μ.noz = true) (h_tileH : μ.tileH = true) (h_lanes : μ.lanes = true) (h_health : μ.health = true) (h_comp : μ.comp = true) (h_host : μ.host = true) (h_dma : μ.dma = true) (h_ring : μ.ring = true) (h_ports : μ.ports = true) (h_pwr : μ.pwr = true) (h_mot : μ.mot = true) (h_flt : μ.flt = true) (h_cal : μ.cal = true) (h_pmc : μ.pmc = true) (h_svc : μ.svc = true) :
    ∃ s₁, execInterpolatedCrossing t n s = .next s₁ ∧ Frame μ s₀ s₁ := by
  refine ⟨_, rfl, ?_⟩
  repeat' first
    | with_reducible assumption
    | with_reducible apply Frame.at
    | with_reducible apply Frame.interpolate
    | with_reducible apply Frame.patternEnd
    | (try lift_lets -underBinder); intro x; refine Frame.cut (x := x) ?_ ?_ <;> [subst x; (clear_value x; intro _)]
    | (try lift_lets -underBinder); intro x; first | subst x | skip

theorem Frame.execStandstill (h : Frame μ s₀ s) (t : Nat) (n : Nat) (h_pos : μ.pos = true) (h_fire : μ.fire = true) :
    ∃ s₁, execStandstill t n s = .next s₁ ∧ Frame μ s₀ s₁ := by
  refine ⟨_, rfl, ?_⟩
  repeat' first
    | with_reducible assumption
    | with_reducible apply Frame.at
    | with_reducible apply Frame.modPin
    | with_reducible apply Frame.setF
    | with_reducible apply Frame.settle
    | with_reducible refine Frame.ite ?_ ?_
    | (try lift_lets -underBinder); intro x; refine Frame.cut (x := x) ?_ ?_ <;> [subst x; (clear_value x; intro _)]
    | (try lift_lets -underBinder); intro x; first | subst x | skip
    | split
    | fail_if_no_progress dsimp only
    | fail_if_no_progress with_reducible refine Frame.upd ?_

theorem Frame.execPosPreset (h : Frame μ s₀ s) (t : Nat) (n : Nat) (v : Word) (h_pos : μ.pos = true) (h_fire : μ.fire = true) (h_health : μ.health = true) (h_flt : μ.flt = true) :
    ∃ s₁, execPosPreset t n v s = .next s₁ ∧ Frame μ s₀ s₁ := by
  refine ⟨_, rfl, ?_⟩
  repeat' first
    | with_reducible assumption
    | with_reducible apply Frame.at
    | with_reducible apply Frame.onWrite
    | with_reducible apply Frame.preset
    | (try lift_lets -underBinder); intro x; refine Frame.cut (x := x) ?_ ?_ <;> [subst x; (clear_value x; intro _)]
    | (try lift_lets -underBinder); intro x; first | subst x | skip

theorem Frame.execPosCmpWrite (h : Frame μ s₀ s) (t : Nat) (n : Nat) (v : Word) :
    ∃ s₁, execPosCmpWrite t n v s = .next s₁ ∧ Frame μ s₀ s₁ := by
  refine ⟨_, rfl, ?_⟩
  repeat' first
    | with_reducible assumption
    | with_reducible apply Frame.at
    | with_reducible apply Frame.onWrite
    | with_reducible apply Frame.writeCmp
    | (try lift_lets -underBinder); intro x; refine Frame.cut (x := x) ?_ ?_ <;> [subst x; (clear_value x; intro _)]
    | (try lift_lets -underBinder); intro x; first | subst x | skip

theorem Frame.execDecoderCrossCheck (h : Frame μ s₀ s) (t : Nat) (n : Nat) (same : Bool) (h_health : μ.health = true) (h_flt : μ.flt = true) :
    ∃ s₁, execDecoderCrossCheck t n same s = .next s₁ ∧ Frame μ s₀ s₁ := by
  refine ⟨_, rfl, ?_⟩
  repeat' first
    | with_reducible assumption
    | with_reducible apply Frame.at
    | with_reducible apply Frame.raise
    | with_reducible refine Frame.ite ?_ ?_
    | (try lift_lets -underBinder); intro x; refine Frame.cut (x := x) ?_ ?_ <;> [subst x; (clear_value x; intro _)]
    | (try lift_lets -underBinder); intro x; first | subst x | skip

theorem Frame.execEventFabricDelivery (h : Frame μ s₀ s) (t : Nat) (h_sys : μ.sys = true) (h_pos : μ.pos = true) (h_fire : μ.fire = true) (h_wins : μ.wins = true) (h_tileH : μ.tileH = true) (h_lanes : μ.lanes = true) (h_health : μ.health = true) (h_comp : μ.comp = true) (h_host : μ.host = true) (h_dma : μ.dma = true) (h_ring : μ.ring = true) (h_ports : μ.ports = true) (h_pwr : μ.pwr = true) (h_mot : μ.mot = true) (h_flt : μ.flt = true) (h_cal : μ.cal = true) (h_pmc : μ.pmc = true) (h_svc : μ.svc = true) :
    ∃ s₁, execEventFabricDelivery t s = .next s₁ ∧ Frame μ s₀ s₁ := by
  refine ⟨_, rfl, ?_⟩
  repeat' first
    | with_reducible assumption
    | with_reducible apply Frame.at
    | with_reducible apply Frame.deliverSrc
    | with_reducible apply Frame.patternEnd
    | with_reducible refine Frame.foldl ?_ ?_
    | (try lift_lets -underBinder); intro x; refine Frame.cut (x := x) ?_ ?_ <;> [subst x; (clear_value x; intro _)]
    | (try lift_lets -underBinder); intro x; first | subst x | skip
    | fail_if_no_progress with_reducible refine Frame.upd ?_

theorem Frame.execLineref (h : Frame μ s₀ s) (t : Nat) (port : Nat) (p : RingPkt) (h_nv : μ.nv = true) (h_sys : μ.sys = true) (h_cfg : μ.cfg = true) (h_pos : μ.pos = true) (h_fire : μ.fire = true) (h_wins : μ.wins = true) (h_noz : μ.noz = true) (h_tileH : μ.tileH = true) (h_lanes : μ.lanes = true) (h_health : μ.health = true) (h_comp : μ.comp = true) (h_host : μ.host = true) (h_dma : μ.dma = true) (h_ring : μ.ring = true) (h_ports : μ.ports = true) (h_pwr : μ.pwr = true) (h_flt : μ.flt = true) (h_cal : μ.cal = true) (h_pmc : μ.pmc = true) (h_svc : μ.svc = true) :
    ∃ s₁, execLineref t port p s = .next s₁ ∧ Frame μ s₀ s₁ := by
  refine ⟨_, rfl, ?_⟩
  repeat' first
    | with_reducible assumption
    | with_reducible apply Frame.at
    | with_reducible apply Frame.packetIn
    | with_reducible apply Frame.refIn
    | with_reducible refine Frame.ite ?_ ?_
    | (try lift_lets -underBinder); intro x; refine Frame.cut (x := x) ?_ ?_ <;> [subst x; (clear_value x; intro _)]
    | (try lift_lets -underBinder); intro x; first | subst x | skip

theorem Frame.execLinerefRelease (h : Frame μ s₀ s) (t : Nat) (ch : Nat) (h_nv : μ.nv = true) (h_sys : μ.sys = true) (h_cfg : μ.cfg = true) (h_pos : μ.pos = true) (h_fire : μ.fire = true) (h_wins : μ.wins = true) (h_noz : μ.noz = true) (h_tileH : μ.tileH = true) (h_lanes : μ.lanes = true) (h_health : μ.health = true) (h_comp : μ.comp = true) (h_host : μ.host = true) (h_dma : μ.dma = true) (h_ring : μ.ring = true) (h_ports : μ.ports = true) (h_pwr : μ.pwr = true) (h_mot : μ.mot = true) (h_flt : μ.flt = true) (h_cal : μ.cal = true) (h_pmc : μ.pmc = true) (h_svc : μ.svc = true) :
    ∃ s₁, execLinerefRelease t ch s = .next s₁ ∧ Frame μ s₀ s₁ := by
  refine ⟨_, rfl, ?_⟩
  repeat' first
    | with_reducible assumption
    | with_reducible apply Frame.at
    | with_reducible apply Frame.modRef
    | with_reducible apply Frame.patternEnd
    | with_reducible apply Frame.releaseRef
    | with_reducible refine Frame.ite ?_ ?_
    | with_reducible refine Frame.foldl ?_ ?_
    | (try lift_lets -underBinder); intro x; refine Frame.cut (x := x) ?_ ?_ <;> [subst x; (clear_value x; intro _)]
    | (try lift_lets -underBinder); intro x; first | subst x | skip
    | split
    | fail_if_no_progress dsimp only
    | fail_if_no_progress with_reducible refine Frame.upd ?_

theorem Frame.execLinerefHeartbeat (h : Frame μ s₀ s) (t : Nat) (n : Nat) (h_pos : μ.pos = true) (h_ring : μ.ring = true) :
    ∃ s₁, execLinerefHeartbeat t n s = .next s₁ ∧ Frame μ s₀ s₁ := by
  refine ⟨_, rfl, ?_⟩
  repeat' first
    | with_reducible assumption
    | with_reducible apply Frame.at
    | with_reducible apply Frame.modPin
    | with_reducible apply Frame.sendRef
    | with_reducible refine Frame.ite ?_ ?_
    | (try lift_lets -underBinder); intro x; refine Frame.cut (x := x) ?_ ?_ <;> [subst x; (clear_value x; intro _)]
    | (try lift_lets -underBinder); intro x; first | subst x | skip
    | fail_if_no_progress with_reducible refine Frame.upd ?_

theorem Frame.execLinerefLost (h : Frame μ s₀ s) (t : Nat) (ch : Nat) (h_health : μ.health = true) (h_flt : μ.flt = true) :
    ∃ s₁, execLinerefLost t ch s = .next s₁ ∧ Frame μ s₀ s₁ := by
  refine ⟨_, rfl, ?_⟩
  repeat' first
    | with_reducible assumption
    | with_reducible apply Frame.at
    | with_reducible apply Frame.raise
    | with_reducible apply Frame.setBit
    | with_reducible refine Frame.ite ?_ ?_
    | (try lift_lets -underBinder); intro x; refine Frame.cut (x := x) ?_ ?_ <;> [subst x; (clear_value x; intro _)]
    | (try lift_lets -underBinder); intro x; first | subst x | skip
    | split
    | fail_if_no_progress dsimp only
    | fail_if_no_progress with_reducible refine Frame.upd ?_

theorem Frame.execLinkDelayMeasurement (h : Frame μ s₀ s) (t : Nat) (port : Nat) (delay : Nat) :
    ∃ s₁, execLinkDelayMeasurement t port delay s = .next s₁ ∧ Frame μ s₀ s₁ := by
  refine ⟨_, rfl, ?_⟩
  repeat' first
    | with_reducible assumption
    | with_reducible apply Frame.at
    | with_reducible apply Frame.setF
    | with_reducible refine Frame.ite ?_ ?_
    | (try lift_lets -underBinder); intro x; refine Frame.cut (x := x) ?_ ?_ <;> [subst x; (clear_value x; intro _)]
    | (try lift_lets -underBinder); intro x; first | subst x | skip

/-! ### Machine/Calibration.lean -/

theorem Frame.calResult (h : Frame μ s₀ s) (k : Nat) (v : List Int) (pair : State → List Int → State) (h_pair : ∀ s x0, Frame μ s₀ s → Frame μ s₀ (pair s x0)) (h_cal : μ.cal = true) :
    Frame μ s₀ (State.calResult s k v pair) := by
  delta State.calResult
  repeat' first
    | with_reducible assumption
    | with_reducible apply h_pair
    | with_reducible apply Frame.modCal
    | (try lift_lets -underBinder); intro x; refine Frame.cut (x := x) ?_ ?_ <;> [subst x; (clear_value x; intro _)]
    | (try lift_lets -underBinder); intro x; first | subst x | skip
    | split
    | fail_if_no_progress with_reducible refine Frame.upd ?_

theorem Frame.execCalMeasurementComplete (h : Frame μ s₀ s) (t : Nat) (target : Nat) (inst : Nat) (vals : List Int) (h_nv : μ.nv = true) (h_health : μ.health = true) (h_flt : μ.flt = true) (h_cal : μ.cal = true) :
    ∃ s₁, execCalMeasurementComplete t target inst vals s = .next s₁ ∧ Frame μ s₀ s₁ := by
  refine ⟨_, rfl, ?_⟩
  repeat' first
    | with_reducible assumption
    | with_reducible apply Frame.at
    | with_reducible apply Frame.calDawnPair
    | with_reducible apply Frame.calPair
    | with_reducible apply Frame.calResult
    | with_reducible refine Frame.ite ?_ ?_
    | (try lift_lets -underBinder); intro x; refine Frame.cut (x := x) ?_ ?_ <;> [subst x; (clear_value x; intro _)]
    | (try lift_lets -underBinder); intro x; first | subst x | skip

theorem Frame.execCalInstanceDue (h : Frame μ s₀ s) (t : Nat) (k : Nat) (h_cal : μ.cal = true) :
    ∃ s₁, execCalInstanceDue t k s = .next s₁ ∧ Frame μ s₀ s₁ := by
  refine ⟨_, rfl, ?_⟩
  repeat' first
    | with_reducible assumption
    | with_reducible apply Frame.at
    | with_reducible apply Frame.calDue
    | with_reducible refine Frame.ite ?_ ?_
    | (try lift_lets -underBinder); intro x; refine Frame.cut (x := x) ?_ ?_ <;> [subst x; (clear_value x; intro _)]
    | (try lift_lets -underBinder); intro x; first | subst x | skip
    | split
    | fail_if_no_progress dsimp only
    | fail_if_no_progress with_reducible refine Frame.upd ?_

theorem Frame.execCalOverdue (h : Frame μ s₀ s) (t : Nat) (k : Nat) (h_health : μ.health = true) (h_flt : μ.flt = true) (h_cal : μ.cal = true) :
    ∃ s₁, execCalOverdue t k s = .next s₁ ∧ Frame μ s₀ s₁ := by
  refine ⟨_, rfl, ?_⟩
  repeat' first
    | with_reducible assumption
    | with_reducible apply Frame.at
    | with_reducible apply Frame.modCal
    | with_reducible apply Frame.raise
    | with_reducible refine Frame.ite ?_ ?_
    | (try lift_lets -underBinder); intro x; refine Frame.cut (x := x) ?_ ?_ <;> [subst x; (clear_value x; intro _)]
    | (try lift_lets -underBinder); intro x; first | subst x | skip
    | fail_if_no_progress with_reducible refine Frame.upd ?_

theorem Frame.execCalSlewIdleStep (h : Frame μ s₀ s) (t : Nat) (k : Nat) (h_cal : μ.cal = true) :
    ∃ s₁, execCalSlewIdleStep t k s = .next s₁ ∧ Frame μ s₀ s₁ := by
  refine ⟨_, rfl, ?_⟩
  repeat' first
    | with_reducible assumption
    | with_reducible apply Frame.at
    | with_reducible apply Frame.modCal
    | with_reducible apply Frame.slewTo
    | with_reducible refine Frame.ite ?_ ?_
    | (try lift_lets -underBinder); intro x; refine Frame.cut (x := x) ?_ ?_ <;> [subst x; (clear_value x; intro _)]
    | (try lift_lets -underBinder); intro x; first | subst x | skip
    | split
    | fail_if_no_progress dsimp only
    | fail_if_no_progress with_reducible refine Frame.upd ?_

theorem Frame.writeCalCtrl (h : Frame μ s₀ s) (v : Word) (h_cal : μ.cal = true) :
    Frame μ s₀ (State.writeCalCtrl s v) := by
  delta State.writeCalCtrl
  repeat' first
    | with_reducible assumption
    | with_reducible apply Frame.calAllDue
    | with_reducible apply Frame.setF
    | with_reducible apply Frame.showSlewing
    | with_reducible refine Frame.ite ?_ ?_
    | (try lift_lets -underBinder); intro x; refine Frame.cut (x := x) ?_ ?_ <;> [subst x; (clear_value x; intro _)]
    | (try lift_lets -underBinder); intro x; first | subst x | skip

theorem Frame.execRunNow (h : Frame μ s₀ s) (t : Nat) (v : Word) (h_cal : μ.cal = true) :
    ∃ s₁, execRunNow t v s = .next s₁ ∧ Frame μ s₀ s₁ := by
  refine ⟨_, rfl, ?_⟩
  repeat' first
    | with_reducible assumption
    | with_reducible apply Frame.at
    | with_reducible apply Frame.onWrite
    | with_reducible apply Frame.writeCalCtrl
    | with_reducible refine Frame.ite ?_ ?_
    | (try lift_lets -underBinder); intro x; refine Frame.cut (x := x) ?_ ?_ <;> [subst x; (clear_value x; intro _)]
    | (try lift_lets -underBinder); intro x; first | subst x | skip

theorem Frame.writeCalImport (h : Frame μ s₀ s) (v : Word) (h_nv : μ.nv = true) :
    Frame μ s₀ (State.writeCalImport s v) := by
  delta State.writeCalImport
  repeat' first
    | with_reducible assumption
    | with_reducible apply Frame.setF
    | with_reducible apply Frame.setFields
    | with_reducible refine Frame.ite ?_ ?_
    | with_reducible refine Frame.foldl ?_ ?_
    | (try lift_lets -underBinder); intro x; refine Frame.cut (x := x) ?_ ?_ <;> [subst x; (clear_value x; intro _)]
    | (try lift_lets -underBinder); intro x; first | subst x | skip
    | split
    | fail_if_no_progress dsimp only
    | fail_if_no_progress with_reducible refine Frame.upd ?_

theorem Frame.execCalImport (h : Frame μ s₀ s) (t : Nat) (v : Word) (h_nv : μ.nv = true) :
    ∃ s₁, execCalImport t v s = .next s₁ ∧ Frame μ s₀ s₁ := by
  refine ⟨_, rfl, ?_⟩
  repeat' first
    | with_reducible assumption
    | with_reducible apply Frame.at
    | with_reducible apply Frame.onWrite
    | with_reducible apply Frame.writeCalImport
    | with_reducible refine Frame.ite ?_ ?_
    | (try lift_lets -underBinder); intro x; refine Frame.cut (x := x) ?_ ?_ <;> [subst x; (clear_value x; intro _)]
    | (try lift_lets -underBinder); intro x; first | subst x | skip

/-! ### Machine/FaultOps.lean -/

theorem Frame.showQ (h : Frame μ s₀ s) :
    Frame μ s₀ (State.showQ s) := by
  delta State.showQ
  repeat' first
    | with_reducible assumption
    | with_reducible apply Frame.setFields

theorem Frame.checkFlood (h : Frame μ s₀ s) (h_flt : μ.flt = true) :
    Frame μ s₀ (State.checkFlood s) := by
  delta State.checkFlood
  repeat' first
    | with_reducible assumption
    | with_reducible apply Frame.setF
    | with_reducible refine Frame.ite ?_ ?_
    | fail_if_no_progress with_reducible refine Frame.upd ?_

theorem Frame.enqueue (h : Frame μ s₀ s) (r : LogRec) (h_flt : μ.flt = true) :
    Frame μ s₀ (State.enqueue s r) := by
  delta State.enqueue
  repeat' first
    | with_reducible assumption
    | with_reducible apply Frame.checkFlood
    | with_reducible apply Frame.showQ
    | fail_if_no_progress with_reducible refine Frame.upd ?_

theorem Frame.fltMsix (h : Frame μ s₀ s) (h_host : μ.host = true) (h_ring : μ.ring = true) :
    Frame μ s₀ (State.fltMsix s) := by
  delta State.fltMsix
  repeat' first
    | with_reducible assumption
    | with_reducible apply Frame.msix

theorem Frame.irqNow (h : Frame μ s₀ s) (m : FaultMsg) (h_host : μ.host = true) (h_ring : μ.ring = true) :
    Frame μ s₀ (State.irqNow s m) := by
  delta State.irqNow
  repeat' first
    | with_reducible assumption
    | with_reducible apply Frame.fltMsix
    | with_reducible refine Frame.ite ?_ ?_

theorem Frame.fltDrop (h : Frame μ s₀ s) (m : FaultMsg) (h_host : μ.host = true) (h_ring : μ.ring = true) (h_flt : μ.flt = true) :
    Frame μ s₀ (State.fltDrop s m) := by
  delta State.fltDrop
  repeat' first
    | with_reducible assumption
    | with_reducible apply Frame.addF
    | with_reducible apply Frame.irqNow
    | with_reducible refine Frame.ite ?_ ?_
    | (try lift_lets -underBinder); intro x; refine Frame.cut (x := x) ?_ ?_ <;> [subst x; (clear_value x; intro _)]
    | (try lift_lets -underBinder); intro x; first | subst x | skip
    | fail_if_no_progress with_reducible refine Frame.upd ?_

theorem Frame.coalesce (h : Frame μ s₀ s) (m : FaultMsg) (k : Nat × Nat × Nat) (h_host : μ.host = true) (h_ring : μ.ring = true) (h_flt : μ.flt = true) :
    Frame μ s₀ (State.coalesce s m k) := by
  delta State.coalesce
  repeat' first
    | with_reducible assumption
    | with_reducible apply Frame.count
    | with_reducible apply Frame.irqNow
    | with_reducible refine Frame.ite ?_ ?_
    | (try lift_lets -underBinder); intro x; refine Frame.cut (x := x) ?_ ?_ <;> [subst x; (clear_value x; intro _)]
    | (try lift_lets -underBinder); intro x; first | subst x | skip
    | fail_if_no_progress with_reducible refine Frame.upd ?_

theorem Frame.openEntry (h : Frame μ s₀ s) (k : Nat × Nat × Nat) (h_flt : μ.flt = true) :
    Frame μ s₀ (State.openEntry s k) := by
  delta State.openEntry
  repeat' first
    | with_reducible assumption
    | with_reducible apply Frame.showQ
    | with_reducible refine Frame.ite ?_ ?_
    | (try lift_lets -underBinder); intro x; refine Frame.cut (x := x) ?_ ?_ <;> [subst x; (clear_value x; intro _)]
    | (try lift_lets -underBinder); intro x; first | subst x | skip
    | fail_if_no_progress with_reducible refine Frame.upd ?_

theorem Frame.takeMsg (h : Frame μ s₀ s) (m : FaultMsg) (h_host : μ.host = true) (h_ring : μ.ring = true) (h_flt : μ.flt = true) :
    Frame μ s₀ (State.takeMsg s m) := by
  delta State.takeMsg
  repeat' first
    | with_reducible assumption
    | with_reducible apply Frame.coalesce
    | with_reducible apply Frame.enqueue
    | with_reducible apply Frame.fltDrop
    | with_reducible apply Frame.irqNow
    | with_reducible apply Frame.openEntry
    | with_reducible refine Frame.ite ?_ ?_
    | (try lift_lets -underBinder); intro x; refine Frame.cut (x := x) ?_ ?_ <;> [subst x; (clear_value x; intro _)]
    | (try lift_lets -underBinder); intro x; first | subst x | skip

theorem Frame.sendStop (h : Frame μ s₀ s) (m : FaultMsg) (h_ring : μ.ring = true) :
    Frame μ s₀ (State.sendStop s m) := by
  delta State.sendStop
  repeat' first
    | with_reducible assumption
    | with_reducible apply Frame.sendUrg
    | with_reducible refine Frame.ite ?_ ?_

theorem Frame.forwardMsg (h : Frame μ s₀ s) (m : FaultMsg) (h_ring : μ.ring = true) (h_flt : μ.flt = true) :
    Frame μ s₀ (State.forwardMsg s m) := by
  delta State.forwardMsg
  repeat' first
    | with_reducible assumption
    | with_reducible apply Frame.addF
    | with_reducible apply Frame.sendUrg
    | with_reducible refine Frame.ite ?_ ?_
    | fail_if_no_progress with_reducible refine Frame.upd ?_

theorem Frame.classEffect (h : Frame μ s₀ s) (m : FaultMsg) (h_nv : μ.nv = true) (h_sys : μ.sys = true) (h_cfg : μ.cfg = true) (h_fire : μ.fire = true) (h_wins : μ.wins = true) (h_health : μ.health = true) (h_comp : μ.comp = true) (h_host : μ.host = true) (h_dma : μ.dma = true) (h_ring : μ.ring = true) (h_ports : μ.ports = true) (h_pwr : μ.pwr = true) (h_mot : μ.mot = true) (h_flt : μ.flt = true) (h_cal : μ.cal = true) (h_svc : μ.svc = true) :
    Frame μ s₀ (State.classEffect s m) := by
  delta State.classEffect
  repeat' first
    | with_reducible assumption
    | with_reducible apply Frame.enterMidnight
    | with_reducible apply Frame.sendStop
    | with_reducible apply Frame.setAlarm
    | with_reducible apply Frame.setF
    | with_reducible apply Frame.setFields
    | with_reducible apply Frame.showCues
    | with_reducible apply Frame.stopFault
    | with_reducible refine Frame.ite ?_ ?_
    | (try lift_lets -underBinder); intro x; refine Frame.cut (x := x) ?_ ?_ <;> [subst x; (clear_value x; intro _)]
    | (try lift_lets -underBinder); intro x; first | subst x | skip
    | fail_if_no_progress with_reducible refine Frame.upd ?_

theorem Frame.acceptMsg (h : Frame μ s₀ s) (m : FaultMsg) (h_nv : μ.nv = true) (h_sys : μ.sys = true) (h_cfg : μ.cfg = true) (h_fire : μ.fire = true) (h_wins : μ.wins = true) (h_health : μ.health = true) (h_comp : μ.comp = true) (h_host : μ.host = true) (h_dma : μ.dma = true) (h_ring : μ.ring = true) (h_ports : μ.ports = true) (h_pwr : μ.pwr = true) (h_mot : μ.mot = true) (h_flt : μ.flt = true) (h_cal : μ.cal = true) (h_svc : μ.svc = true) :
    Frame μ s₀ (State.acceptMsg s m) := by
  delta State.acceptMsg
  repeat' first
    | with_reducible assumption
    | with_reducible apply Frame.classEffect
    | with_reducible apply Frame.count
    | with_reducible apply Frame.forwardMsg
    | with_reducible apply Frame.takeMsg
    | with_reducible refine Frame.ite ?_ ?_
    | (try lift_lets -underBinder); intro x; refine Frame.cut (x := x) ?_ ?_ <;> [subst x; (clear_value x; intro _)]
    | (try lift_lets -underBinder); intro x; first | subst x | skip
    | fail_if_no_progress with_reducible refine Frame.upd ?_

theorem Frame.takeWaiting (h : Frame μ s₀ s) (h_nv : μ.nv = true) (h_sys : μ.sys = true) (h_cfg : μ.cfg = true) (h_fire : μ.fire = true) (h_wins : μ.wins = true) (h_health : μ.health = true) (h_comp : μ.comp = true) (h_host : μ.host = true) (h_dma : μ.dma = true) (h_ring : μ.ring = true) (h_ports : μ.ports = true) (h_pwr : μ.pwr = true) (h_mot : μ.mot = true) (h_flt : μ.flt = true) (h_cal : μ.cal = true) (h_svc : μ.svc = true) :
    Frame μ s₀ (State.takeWaiting s) := by
  delta State.takeWaiting
  repeat' first
    | with_reducible assumption
    | with_reducible apply Frame.acceptMsg
    | with_reducible refine Frame.ite ?_ ?_
    | (try lift_lets -underBinder); intro x; refine Frame.cut (x := x) ?_ ?_ <;> [subst x; (clear_value x; intro _)]
    | (try lift_lets -underBinder); intro x; first | subst x | skip
    | split
    | fail_if_no_progress with_reducible refine Frame.upd ?_

theorem Frame.showLog (h : Frame μ s₀ s) :
    Frame μ s₀ (State.showLog s) := by
  delta State.showLog
  repeat' first
    | with_reducible assumption
    | with_reducible apply Frame.setFb

theorem Frame.hostLog (h : Frame μ s₀ s) (r : LogRec) (h_ring : μ.ring = true) (h_flt : μ.flt = true) :
    Frame μ s₀ (State.hostLog s r) := by
  delta State.hostLog
  repeat' first
    | with_reducible assumption
    | with_reducible apply Frame.hostWrite
    | with_reducible apply Frame.setF
    | with_reducible apply Frame.setFields
    | with_reducible apply Frame.showLog
    | with_reducible refine Frame.ite ?_ ?_
    | (try lift_lets -underBinder); intro x; refine Frame.cut (x := x) ?_ ?_ <;> [subst x; (clear_value x; intro _)]
    | (try lift_lets -underBinder); intro x; first | subst x | skip
    | fail_if_no_progress with_reducible refine Frame.upd ?_

theorem Frame.queueNv (h : Frame μ s₀ s) (r : LogRec) (h_flt : μ.flt = true) :
    Frame μ s₀ (State.queueNv s r) := by
  delta State.queueNv
  repeat' first
    | with_reducible assumption
    | with_reducible apply Frame.addF
    | with_reducible refine Frame.ite ?_ ?_
    | fail_if_no_progress with_reducible refine Frame.upd ?_

theorem Frame.writeFltPend (h : Frame μ s₀ s) (v : Word) (h_health : μ.health = true) (h_flt : μ.flt = true) (h_svc : μ.svc = true) :
    Frame μ s₀ (State.writeFltPend s v) := by
  delta State.writeFltPend
  repeat' first
    | with_reducible assumption
    | with_reducible apply Frame.setAlarm
    | with_reducible apply Frame.setF
    | with_reducible apply Frame.showCues
    | with_reducible refine Frame.ite ?_ ?_
    | (try lift_lets -underBinder); intro x; refine Frame.cut (x := x) ?_ ?_ <;> [subst x; (clear_value x; intro _)]
    | (try lift_lets -underBinder); intro x; first | subst x | skip

theorem Frame.writeFltCtrl (h : Frame μ s₀ s) (v : Word) (h_health : μ.health = true) (h_flt : μ.flt = true) :
    Frame μ s₀ (State.writeFltCtrl s v) := by
  delta State.writeFltCtrl
  repeat' first
    | with_reducible assumption
    | with_reducible apply Frame.raise
    | with_reducible apply Frame.setF
    | with_reducible apply Frame.setFields
    | with_reducible apply Frame.setReg
    | with_reducible apply Frame.showLog
    | with_reducible refine Frame.ite ?_ ?_
    | (try lift_lets -underBinder); intro x; refine Frame.cut (x := x) ?_ ?_ <;> [subst x; (clear_value x; intro _)]
    | (try lift_lets -underBinder); intro x; first | subst x | skip
    | fail_if_no_progress with_reducible refine Frame.upd ?_

theorem Frame.writeLogHead (h : Frame μ s₀ s) (v : Word) (h_flt : μ.flt = true) :
    Frame μ s₀ (State.writeLogHead s v) := by
  delta State.writeLogHead
  repeat' first
    | with_reducible assumption
    | with_reducible apply Frame.setReg
    | with_reducible apply Frame.showLog
    | (try lift_lets -underBinder); intro x; refine Frame.cut (x := x) ?_ ?_ <;> [subst x; (clear_value x; intro _)]
    | (try lift_lets -underBinder); intro x; first | subst x | skip
    | fail_if_no_progress with_reducible refine Frame.upd ?_

theorem Frame.inject (h : Frame μ s₀ s) (w : Nat) (h_health : μ.health = true) (h_flt : μ.flt = true) :
    Frame μ s₀ (State.inject s w) := by
  delta State.inject
  repeat' first
    | with_reducible assumption
    | with_reducible apply Frame.raise
    | with_reducible apply Frame.raiseAs
    | with_reducible refine Frame.ite ?_ ?_
    | (try lift_lets -underBinder); intro x; refine Frame.cut (x := x) ?_ ?_ <;> [subst x; (clear_value x; intro _)]
    | (try lift_lets -underBinder); intro x; first | subst x | skip
    | split
    | fail_if_no_progress dsimp only
    | fail_if_no_progress with_reducible refine Frame.upd ?_

/-! ### Machine/Faults.lean -/

theorem Frame.execFaultMessageAccepted (h : Frame μ s₀ s) (t : Nat) (die : Nat) (h_nv : μ.nv = true) (h_sys : μ.sys = true) (h_cfg : μ.cfg = true) (h_fire : μ.fire = true) (h_wins : μ.wins = true) (h_health : μ.health = true) (h_comp : μ.comp = true) (h_host : μ.host = true) (h_dma : μ.dma = true) (h_ring : μ.ring = true) (h_ports : μ.ports = true) (h_pwr : μ.pwr = true) (h_mot : μ.mot = true) (h_flt : μ.flt = true) (h_cal : μ.cal = true) (h_svc : μ.svc = true) :
    ∃ s₁, execFaultMessageAccepted t die s = .next s₁ ∧ Frame μ s₀ s₁ := by
  refine ⟨_, rfl, ?_⟩
  repeat' first
    | with_reducible assumption
    | with_reducible apply Frame.acceptMsg
    | with_reducible apply Frame.at
    | (try lift_lets -underBinder); intro x; refine Frame.cut (x := x) ?_ ?_ <;> [subst x; (clear_value x; intro _)]
    | (try lift_lets -underBinder); intro x; first | subst x | skip
    | split
    | fail_if_no_progress dsimp only
    | fail_if_no_progress with_reducible refine Frame.upd ?_

theorem Frame.execLogRecordWrite (h : Frame μ s₀ s) (t : Nat) (h_nv : μ.nv = true) (h_sys : μ.sys = true) (h_cfg : μ.cfg = true) (h_fire : μ.fire = true) (h_wins : μ.wins = true) (h_health : μ.health = true) (h_comp : μ.comp = true) (h_host : μ.host = true) (h_dma : μ.dma = true) (h_ring : μ.ring = true) (h_ports : μ.ports = true) (h_pwr : μ.pwr = true) (h_mot : μ.mot = true) (h_flt : μ.flt = true) (h_cal : μ.cal = true) (h_svc : μ.svc = true) :
    ∃ s₁, execLogRecordWrite t s = .next s₁ ∧ Frame μ s₀ s₁ := by
  refine ⟨_, rfl, ?_⟩
  repeat' first
    | with_reducible assumption
    | with_reducible apply Frame.at
    | with_reducible apply Frame.fltMsix
    | with_reducible apply Frame.hostLog
    | with_reducible apply Frame.queueNv
    | with_reducible apply Frame.showQ
    | with_reducible apply Frame.takeWaiting
    | with_reducible refine Frame.ite ?_ ?_
    | (try lift_lets -underBinder); intro x; refine Frame.cut (x := x) ?_ ?_ <;> [subst x; (clear_value x; intro _)]
    | (try lift_lets -underBinder); intro x; first | subst x | skip
    | split
    | fail_if_no_progress dsimp only
    | fail_if_no_progress with_reducible refine Frame.upd ?_

theorem Frame.execNvLogWrite (h : Frame μ s₀ s) (t : Nat) (h_nv : μ.nv = true) (h_health : μ.health = true) (h_flt : μ.flt = true) :
    ∃ s₁, execNvLogWrite t s = .next s₁ ∧ Frame μ s₀ s₁ := by
  refine ⟨_, rfl, ?_⟩
  repeat' first
    | with_reducible assumption
    | with_reducible apply Frame.addF
    | with_reducible apply Frame.at
    | with_reducible apply Frame.raise
    | with_reducible apply Frame.setF
    | with_reducible refine Frame.ite ?_ ?_
    | with_reducible refine Frame.foldl ?_ ?_
    | (try lift_lets -underBinder); intro x; refine Frame.cut (x := x) ?_ ?_ <;> [subst x; (clear_value x; intro _)]
    | (try lift_lets -underBinder); intro x; first | subst x | skip
    | fail_if_no_progress with_reducible refine Frame.upd ?_

theorem Frame.execFloodClear (h : Frame μ s₀ s) (t : Nat) (h_flt : μ.flt = true) :
    ∃ s₁, execFloodClear t s = .next s₁ ∧ Frame μ s₀ s₁ := by
  refine ⟨_, rfl, ?_⟩
  repeat' first
    | with_reducible assumption
    | with_reducible apply Frame.at
    | with_reducible apply Frame.checkFlood
    | with_reducible apply Frame.count
    | with_reducible apply Frame.setF
    | with_reducible apply Frame.showQ
    | with_reducible refine Frame.ite ?_ ?_
    | (try lift_lets -underBinder); intro x; refine Frame.cut (x := x) ?_ ?_ <;> [subst x; (clear_value x; intro _)]
    | (try lift_lets -underBinder); intro x; first | subst x | skip
    | fail_if_no_progress with_reducible refine Frame.upd ?_

theorem Frame.execFltPendAck (h : Frame μ s₀ s) (t : Nat) (v : Word) (h_health : μ.health = true) (h_flt : μ.flt = true) (h_svc : μ.svc = true) :
    ∃ s₁, execFltPendAck t v s = .next s₁ ∧ Frame μ s₀ s₁ := by
  refine ⟨_, rfl, ?_⟩
  repeat' first
    | with_reducible assumption
    | with_reducible apply Frame.at
    | with_reducible apply Frame.onWrite
    | with_reducible apply Frame.writeFltPend
    | (try lift_lets -underBinder); intro x; refine Frame.cut (x := x) ?_ ?_ <;> [subst x; (clear_value x; intro _)]
    | (try lift_lets -underBinder); intro x; first | subst x | skip

theorem Frame.execRelayReset (h : Frame μ s₀ s) (t : Nat) (v : Word) (h_health : μ.health = true) (h_flt : μ.flt = true) (h_svc : μ.svc = true) :
    ∃ s₁, execRelayReset t v s = .next s₁ ∧ Frame μ s₀ s₁ := by
  refine ⟨_, rfl, ?_⟩
  repeat' first
    | with_reducible assumption
    | with_reducible apply Frame.at
    | with_reducible apply Frame.onWrite
    | with_reducible apply Frame.writeFltPend
    | with_reducible refine Frame.ite ?_ ?_
    | (try lift_lets -underBinder); intro x; refine Frame.cut (x := x) ?_ ?_ <;> [subst x; (clear_value x; intro _)]
    | (try lift_lets -underBinder); intro x; first | subst x | skip

theorem Frame.execLogEn (h : Frame μ s₀ s) (t : Nat) (v : Word) (h_health : μ.health = true) (h_flt : μ.flt = true) :
    ∃ s₁, execLogEn t v s = .next s₁ ∧ Frame μ s₀ s₁ := by
  refine ⟨_, rfl, ?_⟩
  repeat' first
    | with_reducible assumption
    | with_reducible apply Frame.at
    | with_reducible apply Frame.onWrite
    | with_reducible apply Frame.writeFltCtrl
    | with_reducible refine Frame.ite ?_ ?_
    | (try lift_lets -underBinder); intro x; refine Frame.cut (x := x) ?_ ?_ <;> [subst x; (clear_value x; intro _)]
    | (try lift_lets -underBinder); intro x; first | subst x | skip

theorem Frame.execFltLogHeadWrite (h : Frame μ s₀ s) (t : Nat) (v : Word) (h_flt : μ.flt = true) :
    ∃ s₁, execFltLogHeadWrite t v s = .next s₁ ∧ Frame μ s₀ s₁ := by
  refine ⟨_, rfl, ?_⟩
  repeat' first
    | with_reducible assumption
    | with_reducible apply Frame.at
    | with_reducible apply Frame.onWrite
    | with_reducible apply Frame.writeLogHead
    | (try lift_lets -underBinder); intro x; refine Frame.cut (x := x) ?_ ?_ <;> [subst x; (clear_value x; intro _)]
    | (try lift_lets -underBinder); intro x; first | subst x | skip

theorem Frame.writeInject (h : Frame μ s₀ s) (lo : Nat) (v : Word) (h_health : μ.health = true) (h_flt : μ.flt = true) :
    Frame μ s₀ (State.writeInject s lo v) := by
  delta State.writeInject
  repeat' first
    | with_reducible assumption
    | with_reducible apply Frame.inject
    | with_reducible apply Frame.setFields

theorem Frame.execFltInject (h : Frame μ s₀ s) (t : Nat) (v : Word) (h_health : μ.health = true) (h_flt : μ.flt = true) :
    ∃ s₁, execFltInject t v s = .next s₁ ∧ Frame μ s₀ s₁ := by
  refine ⟨_, rfl, ?_⟩
  repeat' first
    | with_reducible assumption
    | with_reducible apply Frame.at
    | with_reducible apply Frame.onWrite
    | with_reducible apply Frame.writeInject
    | (try lift_lets -underBinder); intro x; refine Frame.cut (x := x) ?_ ?_ <;> [subst x; (clear_value x; intro _)]
    | (try lift_lets -underBinder); intro x; first | subst x | skip

theorem Frame.execFault (h : Frame μ s₀ s) (t : Nat) (port : Nat) (p : RingPkt) (h_host : μ.host = true) (h_ring : μ.ring = true) (h_flt : μ.flt = true) :
    ∃ s₁, execFault t port p s = .next s₁ ∧ Frame μ s₀ s₁ := by
  refine ⟨_, rfl, ?_⟩
  repeat' first
    | with_reducible assumption
    | with_reducible apply Frame.at
    | with_reducible apply Frame.packetIn
    | with_reducible apply Frame.takeMsg
    | with_reducible refine Frame.ite ?_ ?_
    | (try lift_lets -underBinder); intro x; refine Frame.cut (x := x) ?_ ?_ <;> [subst x; (clear_value x; intro _)]
    | (try lift_lets -underBinder); intro x; first | subst x | skip
    | fail_if_no_progress with_reducible refine Frame.upd ?_

theorem Frame.execStop (h : Frame μ s₀ s) (t : Nat) (port : Nat) (p : RingPkt) (h_health : μ.health = true) (h_ring : μ.ring = true) (h_flt : μ.flt = true) :
    ∃ s₁, execStop t port p s = .next s₁ ∧ Frame μ s₀ s₁ := by
  refine ⟨_, rfl, ?_⟩
  repeat' first
    | with_reducible assumption
    | with_reducible apply Frame.at
    | with_reducible apply Frame.packetIn
    | with_reducible apply Frame.raise
    | with_reducible refine Frame.ite ?_ ?_
    | (try lift_lets -underBinder); intro x; refine Frame.cut (x := x) ?_ ?_ <;> [subst x; (clear_value x; intro _)]
    | (try lift_lets -underBinder); intro x; first | subst x | skip

/-! ### Machine/HouseOps.lean -/

theorem Frame.aliasErr (h : Frame μ s₀ s) :
    Frame μ s₀ (State.aliasErr s) := by
  delta State.aliasErr
  repeat' first
    | with_reducible assumption
    | with_reducible apply Frame.addF

theorem Frame.aliasWrite (h : Frame μ s₀ s) (view : Nat) (o : Nat) (bs : List Nat) (h_form : μ.form = true) :
    Frame μ s₀ (State.aliasWrite s view o bs) := by
  delta State.aliasWrite
  repeat' first
    | with_reducible assumption
    | with_reducible apply Frame.aliasErr
    | with_reducible apply Frame.countForm
    | with_reducible apply Frame.putForm
    | with_reducible refine Frame.ite ?_ ?_
    | (try lift_lets -underBinder); intro x; refine Frame.cut (x := x) ?_ ?_ <;> [subst x; (clear_value x; intro _)]
    | (try lift_lets -underBinder); intro x; first | subst x | skip

theorem Frame.aliasRead (h : Frame μ s₀ s) (view : Nat) (o : Nat) (n : Nat) :
    Frame μ s₀ (State.aliasRead s view o n).1 := by
  delta State.aliasRead
  repeat' first
    | with_reducible assumption
    | with_reducible apply Frame.aliasErr
    | with_reducible apply Frame.countForm
    | with_reducible refine Frame.ite ?_ ?_
    | with_reducible refine Frame.ite_fst ?_ ?_
    | split

theorem Frame.aliasRead_eq {c} {v} (h : Frame μ s₀ s) {view : Nat} {o : Nat} {n : Nat} (e : State.aliasRead s view o n = (c, v)) :
    Frame μ s₀ c := by
  have k := Frame.aliasRead h view o n
  rwa [e] at k

theorem Frame.pmcLoad (h : Frame μ s₀ s) (n : Nat) (lo : Nat) (hi : Nat) :
    Frame μ s₀ (State.pmcLoad s n lo hi) := by
  delta State.pmcLoad
  repeat' first
    | with_reducible assumption
    | with_reducible apply Frame.setFields

theorem Frame.dump (h : Frame μ s₀ s) (req : Bool) (h_ring : μ.ring = true) (h_pmc : μ.pmc = true) :
    Frame μ s₀ (State.dump s req) := by
  delta State.dump
  repeat' first
    | with_reducible assumption
    | with_reducible apply Frame.addF
    | with_reducible apply Frame.hostWrite
    | with_reducible apply Frame.setF
    | with_reducible apply Frame.setFields
    | with_reducible refine Frame.ite ?_ ?_
    | (try lift_lets -underBinder); intro x; refine Frame.cut (x := x) ?_ ?_ <;> [subst x; (clear_value x; intro _)]
    | (try lift_lets -underBinder); intro x; first | subst x | skip
    | fail_if_no_progress with_reducible refine Frame.upd ?_

theorem Frame.writePmcCtrl (h : Frame μ s₀ s) (v : Word) (h_ring : μ.ring = true) (h_pmc : μ.pmc = true) :
    Frame μ s₀ (State.writePmcCtrl s v) := by
  delta State.writePmcCtrl
  repeat' first
    | with_reducible assumption
    | with_reducible apply Frame.dump
    | with_reducible apply Frame.setFields
    | with_reducible apply Frame.setReg
    | with_reducible refine Frame.ite ?_ ?_
    | (try lift_lets -underBinder); intro x; refine Frame.cut (x := x) ?_ ?_ <;> [subst x; (clear_value x; intro _)]
    | (try lift_lets -underBinder); intro x; first | subst x | skip
    | fail_if_no_progress with_reducible refine Frame.upd ?_

theorem Frame.writeDumpHead (h : Frame μ s₀ s) (v : Word) (h_pmc : μ.pmc = true) :
    Frame μ s₀ (State.writeDumpHead s v) := by
  delta State.writeDumpHead
  repeat' first
    | with_reducible assumption
    | with_reducible apply Frame.setF
    | (try lift_lets -underBinder); intro x; refine Frame.cut (x := x) ?_ ?_ <;> [subst x; (clear_value x; intro _)]
    | (try lift_lets -underBinder); intro x; first | subst x | skip
    | fail_if_no_progress with_reducible refine Frame.upd ?_

theorem Frame.writeTagCtrl (h : Frame μ s₀ s) (v : Word) (h_pmc : μ.pmc = true) :
    Frame μ s₀ (State.writeTagCtrl s v) := by
  delta State.writeTagCtrl
  repeat' first
    | with_reducible assumption
    | with_reducible apply Frame.setFields
    | with_reducible refine Frame.ite ?_ ?_
    | (try lift_lets -underBinder); intro x; refine Frame.cut (x := x) ?_ ?_ <;> [subst x; (clear_value x; intro _)]
    | (try lift_lets -underBinder); intro x; first | subst x | skip
    | fail_if_no_progress with_reducible refine Frame.upd ?_

theorem Frame.writeTagStat (h : Frame μ s₀ s) (v : Word) :
    Frame μ s₀ (State.writeTagStat s v) := by
  delta State.writeTagStat
  repeat' first
    | with_reducible assumption
    | with_reducible apply Frame.setFields
    | with_reducible refine Frame.ite ?_ ?_
    | (try lift_lets -underBinder); intro x; refine Frame.cut (x := x) ?_ ?_ <;> [subst x; (clear_value x; intro _)]
    | (try lift_lets -underBinder); intro x; first | subst x | skip

theorem Frame.clockSet (h : Frame μ s₀ s) (m : Nat) (v : Word) (h_health : μ.health = true) (h_flt : μ.flt = true) (h_clk : μ.clk = true) :
    Frame μ s₀ (State.clockSet s m v) := by
  delta State.clockSet
  repeat' first
    | with_reducible assumption
    | with_reducible apply Frame.raise
    | with_reducible apply Frame.setF
    | with_reducible refine Frame.ite ?_ ?_
    | (try lift_lets -underBinder); intro x; refine Frame.cut (x := x) ?_ ?_ <;> [subst x; (clear_value x; intro _)]
    | (try lift_lets -underBinder); intro x; first | subst x | skip
    | fail_if_no_progress with_reducible refine Frame.upd ?_

theorem Frame.clockDate (h : Frame μ s₀ s) (m : Nat) (v : Word) (h_clk : μ.clk = true) :
    Frame μ s₀ (State.clockDate s m v) := by
  delta State.clockDate
  repeat' first
    | with_reducible assumption
    | fail_if_no_progress with_reducible refine Frame.upd ?_

/-! ### Machine/Housekeeping.lean -/

theorem Frame.execAliasSetWrite (h : Frame μ s₀ s) (t : Nat) (off : Nat) (data : List Nat) (h_form : μ.form = true) :
    ∃ s₁, execAliasSetWrite t off data s = .next s₁ ∧ Frame μ s₀ s₁ := by
  refine ⟨_, rfl, ?_⟩
  repeat' first
    | with_reducible assumption
    | with_reducible apply Frame.aliasWrite
    | with_reducible apply Frame.at
    | with_reducible apply Frame.onWrite
    | with_reducible refine Frame.ite ?_ ?_
    | (try lift_lets -underBinder); intro x; refine Frame.cut (x := x) ?_ ?_ <;> [subst x; (clear_value x; intro _)]
    | (try lift_lets -underBinder); intro x; first | subst x | skip

theorem Frame.execAliasClearWrite (h : Frame μ s₀ s) (t : Nat) (off : Nat) (data : List Nat) (h_form : μ.form = true) :
    ∃ s₁, execAliasClearWrite t off data s = .next s₁ ∧ Frame μ s₀ s₁ := by
  refine ⟨_, rfl, ?_⟩
  repeat' first
    | with_reducible assumption
    | with_reducible apply Frame.aliasWrite
    | with_reducible apply Frame.at
    | with_reducible apply Frame.onWrite
    | with_reducible refine Frame.ite ?_ ?_
    | (try lift_lets -underBinder); intro x; refine Frame.cut (x := x) ?_ ?_ <;> [subst x; (clear_value x; intro _)]
    | (try lift_lets -underBinder); intro x; first | subst x | skip

theorem Frame.execMemEccCorrected (h : Frame μ s₀ s) (t : Nat) (mem : Nat) (a : Nat) (h_health : μ.health = true) (h_flt : μ.flt = true) :
    ∃ s₁, execMemEccCorrected t mem a s = .next s₁ ∧ Frame μ s₀ s₁ := by
  refine ⟨_, rfl, ?_⟩
  repeat' first
    | with_reducible assumption
    | with_reducible apply Frame.addF
    | with_reducible apply Frame.at
    | with_reducible apply Frame.raise
    | with_reducible refine Frame.ite ?_ ?_
    | (try lift_lets -underBinder); intro x; refine Frame.cut (x := x) ?_ ?_ <;> [subst x; (clear_value x; intro _)]
    | (try lift_lets -underBinder); intro x; first | subst x | skip
    | split
    | fail_if_no_progress dsimp only
    | fail_if_no_progress with_reducible refine Frame.upd ?_

theorem Frame.eccReader (h : Frame μ s₀ s) (a : Nat) (r : EccReader) (h_nv : μ.nv = true) (h_wins : μ.wins = true) (h_health : μ.health = true) (h_comp : μ.comp = true) (h_dma : μ.dma = true) (h_ring : μ.ring = true) (h_flt : μ.flt = true) (h_pmc : μ.pmc = true) (h_form : μ.form = true) (h_staging : μ.staging = true) :
    Frame μ s₀ (State.eccReader s a r) := by
  cases r <;> delta State.eccReader <;> dsimp only
  repeat' first
    | with_reducible assumption
    | with_reducible apply Frame.chunkError
    | with_reducible refine Frame.emit ?_ _ (.inr rfl)
    | with_reducible refine Frame.ite ?_ ?_
    | (try lift_lets -underBinder); intro x; first | subst x | skip
    | split
    | fail_if_no_progress with_reducible refine Frame.upd ?_

theorem Frame.execMemEccUncorrectable (h : Frame μ s₀ s) (t : Nat) (mem : Nat) (a : Nat) (r : EccReader) (h_nv : μ.nv = true) (h_wins : μ.wins = true) (h_health : μ.health = true) (h_comp : μ.comp = true) (h_dma : μ.dma = true) (h_ring : μ.ring = true) (h_flt : μ.flt = true) (h_pmc : μ.pmc = true) (h_form : μ.form = true) (h_staging : μ.staging = true) :
    ∃ s₁, execMemEccUncorrectable t mem a r s = .next s₁ ∧ Frame μ s₀ s₁ := by
  refine ⟨_, rfl, ?_⟩
  repeat' first
    | with_reducible assumption
    | with_reducible apply Frame.addF
    | with_reducible apply Frame.at
    | with_reducible apply Frame.eccReader
    | with_reducible apply Frame.raise
    | with_reducible refine Frame.ite ?_ ?_
    | (try lift_lets -underBinder); intro x; refine Frame.cut (x := x) ?_ ?_ <;> [subst x; (clear_value x; intro _)]
    | (try lift_lets -underBinder); intro x; first | subst x | skip

theorem Frame.execPmcLoad (h : Frame μ s₀ s) (t : Nat) (n : Nat) (v : Word) :
    ∃ s₁, execPmcLoad t n v s = .next s₁ ∧ Frame μ s₀ s₁ := by
  refine ⟨_, rfl, ?_⟩
  repeat' first
    | with_reducible assumption
    | with_reducible apply Frame.at
    | with_reducible apply Frame.onWrite
    | with_reducible apply Frame.pmcLoad
    | with_reducible refine Frame.ite ?_ ?_
    | (try lift_lets -underBinder); intro x; refine Frame.cut (x := x) ?_ ?_ <;> [subst x; (clear_value x; intro _)]
    | (try lift_lets -underBinder); intro x; first | subst x | skip

theorem Frame.execPmcDump (h : Frame μ s₀ s) (t : Nat) (h_ring : μ.ring = true) (h_pmc : μ.pmc = true) :
    ∃ s₁, execPmcDump t s = .next s₁ ∧ Frame μ s₀ s₁ := by
  refine ⟨_, rfl, ?_⟩
  repeat' first
    | with_reducible assumption
    | with_reducible apply Frame.at
    | with_reducible apply Frame.dump
    | with_reducible refine Frame.ite ?_ ?_
    | (try lift_lets -underBinder); intro x; refine Frame.cut (x := x) ?_ ?_ <;> [subst x; (clear_value x; intro _)]
    | (try lift_lets -underBinder); intro x; first | subst x | skip
    | fail_if_no_progress with_reducible refine Frame.upd ?_

theorem Frame.execDumpNow (h : Frame μ s₀ s) (t : Nat) (v : Word) (h_ring : μ.ring = true) (h_pmc : μ.pmc = true) :
    ∃ s₁, execDumpNow t v s = .next s₁ ∧ Frame μ s₀ s₁ := by
  refine ⟨_, rfl, ?_⟩
  repeat' first
    | with_reducible assumption
    | with_reducible apply Frame.at
    | with_reducible apply Frame.onWrite
    | with_reducible apply Frame.writePmcCtrl
    | with_reducible refine Frame.ite ?_ ?_
    | (try lift_lets -underBinder); intro x; refine Frame.cut (x := x) ?_ ?_ <;> [subst x; (clear_value x; intro _)]
    | (try lift_lets -underBinder); intro x; first | subst x | skip

theorem Frame.execDumpEn (h : Frame μ s₀ s) (t : Nat) (v : Word) (h_ring : μ.ring = true) (h_pmc : μ.pmc = true) :
    ∃ s₁, execDumpEn t v s = .next s₁ ∧ Frame μ s₀ s₁ := by
  refine ⟨_, rfl, ?_⟩
  repeat' first
    | with_reducible assumption
    | with_reducible apply Frame.at
    | with_reducible apply Frame.onWrite
    | with_reducible apply Frame.writePmcCtrl
    | with_reducible refine Frame.ite ?_ ?_
    | (try lift_lets -underBinder); intro x; refine Frame.cut (x := x) ?_ ?_ <;> [subst x; (clear_value x; intro _)]
    | (try lift_lets -underBinder); intro x; first | subst x | skip

theorem Frame.execTagLoad (h : Frame μ s₀ s) (t : Nat) (v : Word) (h_pmc : μ.pmc = true) :
    ∃ s₁, execTagLoad t v s = .next s₁ ∧ Frame μ s₀ s₁ := by
  refine ⟨_, rfl, ?_⟩
  repeat' first
    | with_reducible assumption
    | with_reducible apply Frame.at
    | with_reducible apply Frame.onWrite
    | with_reducible apply Frame.writeTagCtrl
    | with_reducible refine Frame.ite ?_ ?_
    | (try lift_lets -underBinder); intro x; refine Frame.cut (x := x) ?_ ?_ <;> [subst x; (clear_value x; intro _)]
    | (try lift_lets -underBinder); intro x; first | subst x | skip

theorem Frame.execTagRecordComplete (h : Frame μ s₀ s) (t : Nat) (abandoned : Bool) (h_pmc : μ.pmc = true) :
    ∃ s₁, execTagRecordComplete t abandoned s = .next s₁ ∧ Frame μ s₀ s₁ := by
  refine ⟨_, rfl, ?_⟩
  repeat' first
    | with_reducible assumption
    | with_reducible apply Frame.at
    | with_reducible apply Frame.tagRecord
    | (try lift_lets -underBinder); intro x; refine Frame.cut (x := x) ?_ ?_ <;> [subst x; (clear_value x; intro _)]
    | (try lift_lets -underBinder); intro x; first | subst x | skip

theorem Frame.execTagPop (h : Frame μ s₀ s) (t : Nat) (v : Word) :
    ∃ s₁, execTagPop t v s = .next s₁ ∧ Frame μ s₀ s₁ := by
  refine ⟨_, rfl, ?_⟩
  repeat' first
    | with_reducible assumption
    | with_reducible apply Frame.at
    | with_reducible apply Frame.onWrite
    | with_reducible apply Frame.writeTagStat
    | (try lift_lets -underBinder); intro x; refine Frame.cut (x := x) ?_ ?_ <;> [subst x; (clear_value x; intro _)]
    | (try lift_lets -underBinder); intro x; first | subst x | skip

theorem Frame.execCalendarSecond (h : Frame μ s₀ s) (t : Nat) (h_clk : μ.clk = true) :
    ∃ s₁, execCalendarSecond t s = .next s₁ ∧ Frame μ s₀ s₁ := by
  refine ⟨_, rfl, ?_⟩
  repeat' first
    | with_reducible assumption
    | with_reducible apply Frame.at
    | with_reducible apply Frame.tick
    | (try lift_lets -underBinder); intro x; refine Frame.cut (x := x) ?_ ?_ <;> [subst x; (clear_value x; intro _)]
    | (try lift_lets -underBinder); intro x; first | subst x | skip
    | fail_if_no_progress with_reducible refine Frame.upd ?_

theorem Frame.execClockSet (h : Frame μ s₀ s) (t : Nat) (m : Master) (v : Word) (h_health : μ.health = true) (h_flt : μ.flt = true) (h_clk : μ.clk = true) :
    ∃ s₁, execClockSet t m v s = .next s₁ ∧ Frame μ s₀ s₁ := by
  refine ⟨_, rfl, ?_⟩
  repeat' first
    | with_reducible assumption
    | with_reducible apply Frame.at
    | with_reducible apply Frame.clockSet
    | with_reducible apply Frame.onWrite
    | (try lift_lets -underBinder); intro x; refine Frame.cut (x := x) ?_ ?_ <;> [subst x; (clear_value x; intro _)]
    | (try lift_lets -underBinder); intro x; first | subst x | skip

/-! ### Machine/Power.lean -/

theorem Frame.showGone (h : Frame μ s₀ s) (h_sys : μ.sys = true) (h_pwr : μ.pwr = true) :
    Frame μ s₀ (State.showGone s) := by
  delta State.showGone
  repeat' first
    | with_reducible assumption
    | with_reducible apply Frame.mainsGone
    | with_reducible refine Frame.ite ?_ ?_
    | fail_if_no_progress with_reducible refine Frame.upd ?_

theorem Frame.showLink (h : Frame μ s₀ s) (v : Nat) :
    Frame μ s₀ (State.showLink s v) := by
  delta State.showLink
  repeat' first
    | with_reducible assumption
    | with_reducible apply Frame.setFb
    | with_reducible apply Frame.setFields
    | with_reducible refine Frame.ite ?_ ?_
    | with_reducible refine Frame.foldl ?_ ?_
    | (try lift_lets -underBinder); intro x; refine Frame.cut (x := x) ?_ ?_ <;> [subst x; (clear_value x; intro _)]
    | (try lift_lets -underBinder); intro x; first | subst x | skip

theorem Frame.setDc (h : Frame μ s₀ s) (on : Bool) (h_pwr : μ.pwr = true) :
    Frame μ s₀ (State.setDc s on) := by
  delta State.setDc
  repeat' first
    | with_reducible assumption
    | with_reducible apply Frame.setFb
    | fail_if_no_progress with_reducible refine Frame.upd ?_

theorem Frame.storeIdle (h : Frame μ s₀ s) (h_pwr : μ.pwr = true) :
    Frame μ s₀ (State.storeIdle s) := by
  delta State.storeIdle
  repeat' first
    | with_reducible assumption
    | fail_if_no_progress with_reducible refine Frame.upd ?_

theorem Frame.enterRide (h : Frame μ s₀ s) (h_pwr : μ.pwr = true) :
    Frame μ s₀ (State.enterRide s) := by
  delta State.enterRide
  repeat' first
    | with_reducible assumption
    | with_reducible apply Frame.setSrc
    | with_reducible refine Frame.ite ?_ ?_
    | fail_if_no_progress with_reducible refine Frame.upd ?_

theorem Frame.execMainsLost (h : Frame μ s₀ s) (t : Nat) (reason : Nat) (h_sys : μ.sys = true) (h_cfg : μ.cfg = true) (h_wins : μ.wins = true) (h_health : μ.health = true) (h_comp : μ.comp = true) (h_host : μ.host = true) (h_dma : μ.dma = true) (h_ring : μ.ring = true) (h_ports : μ.ports = true) (h_pwr : μ.pwr = true) (h_mot : μ.mot = true) (h_flt : μ.flt = true) (h_cal : μ.cal = true) (h_svc : μ.svc = true) :
    ∃ s₁, execMainsLost t reason s = .next s₁ ∧ Frame μ s₀ s₁ := by
  refine ⟨_, rfl, ?_⟩
  repeat' first
    | with_reducible assumption
    | with_reducible apply Frame.addF
    | with_reducible apply Frame.at
    | with_reducible apply Frame.mainsGone
    | with_reducible apply Frame.mainsLostState
    | with_reducible apply Frame.raise
    | with_reducible apply Frame.setDc
    | with_reducible apply Frame.setSrc
    | with_reducible apply Frame.showGone
    | with_reducible apply Frame.storeIdle
    | with_reducible refine Frame.ite ?_ ?_
    | (try lift_lets -underBinder); intro x; refine Frame.cut (x := x) ?_ ?_ <;> [subst x; (clear_value x; intro _)]
    | (try lift_lets -underBinder); intro x; first | subst x | skip
    | fail_if_no_progress with_reducible refine Frame.upd ?_

theorem Frame.execMainsPresent (h : Frame μ s₀ s) (t : Nat) (h_sys : μ.sys = true) (h_pwr : μ.pwr = true) :
    ∃ s₁, execMainsPresent t s = .next s₁ ∧ Frame μ s₀ s₁ := by
  refine ⟨_, rfl, ?_⟩
  repeat' first
    | with_reducible assumption
    | with_reducible apply Frame.at
    | with_reducible apply Frame.enterRide
    | with_reducible apply Frame.setF
    | with_reducible apply Frame.showGone
    | with_reducible refine Frame.ite ?_ ?_
    | (try lift_lets -underBinder); intro x; refine Frame.cut (x := x) ?_ ?_ <;> [subst x; (clear_value x; intro _)]
    | (try lift_lets -underBinder); intro x; first | subst x | skip
    | fail_if_no_progress with_reducible refine Frame.upd ?_

theorem Frame.execMainsQualified (h : Frame μ s₀ s) (t : Nat) (h_pwr : μ.pwr = true) :
    ∃ s₁, execMainsQualified t s = .next s₁ ∧ Frame μ s₀ s₁ := by
  refine ⟨_, rfl, ?_⟩
  repeat' first
    | with_reducible assumption
    | with_reducible apply Frame.at
    | with_reducible apply Frame.setF
    | with_reducible apply Frame.setSrc
    | with_reducible apply Frame.storeIdle
    | with_reducible refine Frame.ite ?_ ?_
    | (try lift_lets -underBinder); intro x; refine Frame.cut (x := x) ?_ ?_ <;> [subst x; (clear_value x; intro _)]
    | (try lift_lets -underBinder); intro x; first | subst x | skip
    | split
    | fail_if_no_progress dsimp only
    | fail_if_no_progress with_reducible refine Frame.upd ?_

theorem Frame.execDcRampComplete (h : Frame μ s₀ s) (t : Nat) (h_pwr : μ.pwr = true) :
    ∃ s₁, execDcRampComplete t s = .next s₁ ∧ Frame μ s₀ s₁ := by
  refine ⟨_, rfl, ?_⟩
  repeat' first
    | with_reducible assumption
    | with_reducible apply Frame.at
    | with_reducible apply Frame.enterRide
    | with_reducible refine Frame.ite ?_ ?_
    | (try lift_lets -underBinder); intro x; refine Frame.cut (x := x) ?_ ?_ <;> [subst x; (clear_value x; intro _)]
    | (try lift_lets -underBinder); intro x; first | subst x | skip

theorem Frame.execHandbackComplete (h : Frame μ s₀ s) (t : Nat) (h_sys : μ.sys = true) (h_wins : μ.wins = true) (h_health : μ.health = true) (h_pwr : μ.pwr = true) (h_mot : μ.mot = true) (h_flt : μ.flt = true) (h_cal : μ.cal = true) (h_svc : μ.svc = true) :
    ∃ s₁, execHandbackComplete t s = .next s₁ ∧ Frame μ s₀ s₁ := by
  refine ⟨_, rfl, ?_⟩
  repeat' first
    | with_reducible assumption
    | with_reducible apply Frame.addF
    | with_reducible apply Frame.at
    | with_reducible apply Frame.enterRide
    | with_reducible apply Frame.handBack
    | with_reducible apply Frame.patternEnd
    | with_reducible apply Frame.raise
    | with_reducible apply Frame.setDc
    | with_reducible apply Frame.setSrc
    | with_reducible apply Frame.storeIdle
    | with_reducible refine Frame.ite ?_ ?_
    | (try lift_lets -underBinder); intro x; refine Frame.cut (x := x) ?_ ?_ <;> [subst x; (clear_value x; intro _)]
    | (try lift_lets -underBinder); intro x; first | subst x | skip
    | fail_if_no_progress with_reducible refine Frame.upd ?_

theorem Frame.execLinkOvervoltage (h : Frame μ s₀ s) (t : Nat) (v : Nat) (h_health : μ.health = true) (h_flt : μ.flt = true) :
    ∃ s₁, execLinkOvervoltage t v s = .next s₁ ∧ Frame μ s₀ s₁ := by
  refine ⟨_, rfl, ?_⟩
  repeat' first
    | with_reducible assumption
    | with_reducible apply Frame.at
    | with_reducible apply Frame.raise
    | with_reducible apply Frame.showLink
    | with_reducible refine Frame.ite ?_ ?_
    | (try lift_lets -underBinder); intro x; refine Frame.cut (x := x) ?_ ?_ <;> [subst x; (clear_value x; intro _)]
    | (try lift_lets -underBinder); intro x; first | subst x | skip

theorem Frame.execLinkHigh (h : Frame μ s₀ s) (t : Nat) (v : Nat) (h_health : μ.health = true) (h_flt : μ.flt = true) :
    ∃ s₁, execLinkHigh t v s = .next s₁ ∧ Frame μ s₀ s₁ := by
  refine ⟨_, rfl, ?_⟩
  repeat' first
    | with_reducible assumption
    | with_reducible apply Frame.at
    | with_reducible apply Frame.raise
    | with_reducible apply Frame.showLink
    | with_reducible refine Frame.ite ?_ ?_
    | (try lift_lets -underBinder); intro x; refine Frame.cut (x := x) ?_ ?_ <;> [subst x; (clear_value x; intro _)]
    | (try lift_lets -underBinder); intro x; first | subst x | skip

theorem Frame.execLinkPfcStop (h : Frame μ s₀ s) (t : Nat) (v : Nat) (h_pwr : μ.pwr = true) :
    ∃ s₁, execLinkPfcStop t v s = .next s₁ ∧ Frame μ s₀ s₁ := by
  refine ⟨_, rfl, ?_⟩
  repeat' first
    | with_reducible assumption
    | with_reducible apply Frame.at
    | with_reducible apply Frame.showLink
    | with_reducible apply Frame.storeIdle
    | with_reducible refine Frame.ite ?_ ?_
    | (try lift_lets -underBinder); intro x; refine Frame.cut (x := x) ?_ ?_ <;> [subst x; (clear_value x; intro _)]
    | (try lift_lets -underBinder); intro x; first | subst x | skip
    | fail_if_no_progress with_reducible refine Frame.upd ?_

theorem Frame.execLinkStoreDischarge (h : Frame μ s₀ s) (t : Nat) (v : Nat) (h_pwr : μ.pwr = true) :
    ∃ s₁, execLinkStoreDischarge t v s = .next s₁ ∧ Frame μ s₀ s₁ := by
  refine ⟨_, rfl, ?_⟩
  repeat' first
    | with_reducible assumption
    | with_reducible apply Frame.at
    | with_reducible apply Frame.showLink
    | with_reducible apply Frame.storeIdle
    | with_reducible refine Frame.ite ?_ ?_
    | (try lift_lets -underBinder); intro x; refine Frame.cut (x := x) ?_ ?_ <;> [subst x; (clear_value x; intro _)]
    | (try lift_lets -underBinder); intro x; first | subst x | skip
    | fail_if_no_progress with_reducible refine Frame.upd ?_

theorem Frame.execLinkUndervoltage (h : Frame μ s₀ s) (t : Nat) (v : Nat) (h_health : μ.health = true) (h_pwr : μ.pwr = true) (h_mot : μ.mot = true) (h_flt : μ.flt = true) :
    ∃ s₁, execLinkUndervoltage t v s = .next s₁ ∧ Frame μ s₀ s₁ := by
  refine ⟨_, rfl, ?_⟩
  repeat' first
    | with_reducible assumption
    | with_reducible apply Frame.at
    | with_reducible apply Frame.axisOff
    | with_reducible apply Frame.railsOff
    | with_reducible apply Frame.raise
    | with_reducible apply Frame.showLink
    | with_reducible refine Frame.ite ?_ ?_
    | with_reducible refine Frame.foldl ?_ ?_
    | (try lift_lets -underBinder); intro x; refine Frame.cut (x := x) ?_ ?_ <;> [subst x; (clear_value x; intro _)]
    | (try lift_lets -underBinder); intro x; first | subst x | skip
    | fail_if_no_progress with_reducible refine Frame.upd ?_

theorem Frame.showMeas (h : Frame μ s₀ s) (m : BrokerMeas) (h_pwr : μ.pwr = true) :
    Frame μ s₀ (State.showMeas s m) := by
  delta State.showMeas
  repeat' first
    | with_reducible assumption
    | with_reducible apply Frame.setFb
    | with_reducible apply Frame.setFields
    | with_reducible apply Frame.setFs
    | with_reducible apply Frame.showLink
    | with_reducible apply Frame.startRails
    | with_reducible refine Frame.ite ?_ ?_
    | with_reducible refine Frame.foldl ?_ ?_
    | (try lift_lets -underBinder); intro x; refine Frame.cut (x := x) ?_ ?_ <;> [subst x; (clear_value x; intro _)]
    | (try lift_lets -underBinder); intro x; first | subst x | skip
    | fail_if_no_progress with_reducible refine Frame.upd ?_

theorem Frame.groupMembers (h : Frame μ s₀ s) (h_pwr : μ.pwr = true) :
    Frame μ s₀ (State.groupMembers s) := by
  delta State.groupMembers
  repeat' first
    | with_reducible assumption
    | with_reducible apply Frame.setF
    | with_reducible refine Frame.ite ?_ ?_
    | (try lift_lets -underBinder); intro x; refine Frame.cut (x := x) ?_ ?_ <;> [subst x; (clear_value x; intro _)]
    | (try lift_lets -underBinder); intro x; first | subst x | skip
    | fail_if_no_progress with_reducible refine Frame.upd ?_

theorem Frame.setLimits (h : Frame μ s₀ s) (h_pwr : μ.pwr = true) :
    Frame μ s₀ (State.setLimits s) := by
  delta State.setLimits
  repeat' first
    | with_reducible assumption
    | with_reducible apply Frame.setFields
    | with_reducible refine Frame.ite ?_ ?_
    | (try lift_lets -underBinder); intro x; refine Frame.cut (x := x) ?_ ?_ <;> [subst x; (clear_value x; intro _)]
    | (try lift_lets -underBinder); intro x; first | subst x | skip
    | fail_if_no_progress with_reducible refine Frame.upd ?_

theorem Frame.setAllowance (h : Frame μ s₀ s) :
    Frame μ s₀ (State.setAllowance s) := by
  delta State.setAllowance
  repeat' first
    | with_reducible assumption
    | with_reducible apply Frame.setF
    | with_reducible refine Frame.ite ?_ ?_
    | with_reducible refine Frame.foldl ?_ ?_
    | (try lift_lets -underBinder); intro x; refine Frame.cut (x := x) ?_ ?_ <;> [subst x; (clear_value x; intro _)]
    | (try lift_lets -underBinder); intro x; first | subst x | skip

theorem Frame.reserveChecks (h : Frame μ s₀ s) (was : Nat) (h_sys : μ.sys = true) (h_wins : μ.wins = true) (h_health : μ.health = true) (h_pwr : μ.pwr = true) (h_mot : μ.mot = true) (h_flt : μ.flt = true) (h_cal : μ.cal = true) (h_svc : μ.svc = true) :
    Frame μ s₀ (State.reserveChecks s was) := by
  delta State.reserveChecks
  repeat' first
    | with_reducible assumption
    | with_reducible apply Frame.enterDusk
    | with_reducible apply Frame.raise
    | with_reducible apply Frame.stopDocs
    | with_reducible refine Frame.ite ?_ ?_
    | (try lift_lets -underBinder); intro x; refine Frame.cut (x := x) ?_ ?_ <;> [subst x; (clear_value x; intro _)]
    | (try lift_lets -underBinder); intro x; first | subst x | skip
    | fail_if_no_progress with_reducible refine Frame.upd ?_

theorem Frame.execBrokerUpdate (h : Frame μ s₀ s) (t : Nat) (m : BrokerMeas) (h_sys : μ.sys = true) (h_wins : μ.wins = true) (h_health : μ.health = true) (h_pwr : μ.pwr = true) (h_mot : μ.mot = true) (h_flt : μ.flt = true) (h_cal : μ.cal = true) (h_svc : μ.svc = true) :
    ∃ s₁, execBrokerUpdate t m s = .next s₁ ∧ Frame μ s₀ s₁ := by
  refine ⟨_, rfl, ?_⟩
  repeat' first
    | with_reducible assumption
    | with_reducible apply Frame.admitDoc
    | with_reducible apply Frame.at
    | with_reducible apply Frame.groupMembers
    | with_reducible apply Frame.reserveChecks
    | with_reducible apply Frame.setAcct
    | with_reducible apply Frame.setAllowance
    | with_reducible apply Frame.setLimits
    | with_reducible apply Frame.showMeas
    | with_reducible apply Frame.storeIdle
    | with_reducible apply Frame.updHoldup
    | with_reducible refine Frame.ite ?_ ?_
    | with_reducible refine Frame.foldl ?_ ?_
    | (try lift_lets -underBinder); intro x; refine Frame.cut (x := x) ?_ ?_ <;> [subst x; (clear_value x; intro _)]
    | (try lift_lets -underBinder); intro x; first | subst x | skip

theorem Frame.execRailLimit (h : Frame μ s₀ s) (t : Nat) (q : Nat) (h_health : μ.health = true) (h_flt : μ.flt = true) :
    ∃ s₁, execRailLimit t q s = .next s₁ ∧ Frame μ s₀ s₁ := by
  refine ⟨_, rfl, ?_⟩
  repeat' first
    | with_reducible assumption
    | with_reducible apply Frame.at
    | with_reducible apply Frame.raise
    | with_reducible apply Frame.setF
    | with_reducible refine Frame.ite ?_ ?_
    | (try lift_lets -underBinder); intro x; refine Frame.cut (x := x) ?_ ?_ <;> [subst x; (clear_value x; intro _)]
    | (try lift_lets -underBinder); intro x; first | subst x | skip

theorem Frame.execRailUndervoltage (h : Frame μ s₀ s) (t : Nat) (q : Nat) (h_health : μ.health = true) (h_flt : μ.flt = true) :
    ∃ s₁, execRailUndervoltage t q s = .next s₁ ∧ Frame μ s₀ s₁ := by
  refine ⟨_, rfl, ?_⟩
  repeat' first
    | with_reducible assumption
    | with_reducible apply Frame.at
    | with_reducible apply Frame.raise
    | with_reducible apply Frame.setF
    | with_reducible refine Frame.ite ?_ ?_
    | (try lift_lets -underBinder); intro x; refine Frame.cut (x := x) ?_ ?_ <;> [subst x; (clear_value x; intro _)]
    | (try lift_lets -underBinder); intro x; first | subst x | skip

theorem Frame.execRailShort (h : Frame μ s₀ s) (t : Nat) (q : Nat) (h_wins : μ.wins = true) (h_tileH : μ.tileH = true) (h_health : μ.health = true) (h_ports : μ.ports = true) (h_pwr : μ.pwr = true) (h_flt : μ.flt = true) :
    ∃ s₁, execRailShort t q s = .next s₁ ∧ Frame μ s₀ s₁ := by
  refine ⟨_, rfl, ?_⟩
  repeat' first
    | with_reducible assumption
    | with_reducible apply Frame.at
    | with_reducible apply Frame.failTile
    | with_reducible apply Frame.modRail
    | with_reducible apply Frame.raise
    | with_reducible apply Frame.setFields
    | with_reducible refine Frame.ite ?_ ?_
    | with_reducible refine Frame.foldl ?_ ?_
    | (try lift_lets -underBinder); intro x; refine Frame.cut (x := x) ?_ ?_ <;> [subst x; (clear_value x; intro _)]
    | (try lift_lets -underBinder); intro x; first | subst x | skip

theorem Frame.execRailRampComplete (h : Frame μ s₀ s) (t : Nat) (q : Nat) (h_pwr : μ.pwr = true) :
    ∃ s₁, execRailRampComplete t q s = .next s₁ ∧ Frame μ s₀ s₁ := by
  refine ⟨_, rfl, ?_⟩
  repeat' first
    | with_reducible assumption
    | with_reducible apply Frame.at
    | with_reducible apply Frame.modRail
    | with_reducible apply Frame.setF
    | with_reducible apply Frame.setFields
    | with_reducible refine Frame.ite ?_ ?_
    | (try lift_lets -underBinder); intro x; refine Frame.cut (x := x) ?_ ?_ <;> [subst x; (clear_value x; intro _)]
    | (try lift_lets -underBinder); intro x; first | subst x | skip
    | fail_if_no_progress with_reducible refine Frame.upd ?_

theorem Frame.execLogicOverdraw (h : Frame μ s₀ s) (t : Nat) (w : Nat) (h_health : μ.health = true) (h_flt : μ.flt = true) :
    ∃ s₁, execLogicOverdraw t w s = .next s₁ ∧ Frame μ s₀ s₁ := by
  refine ⟨_, rfl, ?_⟩
  repeat' first
    | with_reducible assumption
    | with_reducible apply Frame.at
    | with_reducible apply Frame.raise
    | with_reducible refine Frame.ite ?_ ?_
    | (try lift_lets -underBinder); intro x; refine Frame.cut (x := x) ?_ ?_ <;> [subst x; (clear_value x; intro _)]
    | (try lift_lets -underBinder); intro x; first | subst x | skip

theorem Frame.execStoreOvervoltage (h : Frame μ s₀ s) (t : Nat) (v : Nat) (h_health : μ.health = true) (h_flt : μ.flt = true) :
    ∃ s₁, execStoreOvervoltage t v s = .next s₁ ∧ Frame μ s₀ s₁ := by
  refine ⟨_, rfl, ?_⟩
  repeat' first
    | with_reducible assumption
    | with_reducible apply Frame.at
    | with_reducible apply Frame.raise
    | with_reducible apply Frame.setF
    | with_reducible refine Frame.ite ?_ ?_
    | (try lift_lets -underBinder); intro x; refine Frame.cut (x := x) ?_ ?_ <;> [subst x; (clear_value x; intro _)]
    | (try lift_lets -underBinder); intro x; first | subst x | skip

theorem Frame.execDcInputQualified (h : Frame μ s₀ s) (t : Nat) (h_sys : μ.sys = true) (h_pwr : μ.pwr = true) :
    ∃ s₁, execDcInputQualified t s = .next s₁ ∧ Frame μ s₀ s₁ := by
  refine ⟨_, rfl, ?_⟩
  repeat' first
    | with_reducible assumption
    | with_reducible apply Frame.at
    | with_reducible apply Frame.setDc
    | with_reducible apply Frame.setFields
    | with_reducible apply Frame.showGone
    | with_reducible refine Frame.ite ?_ ?_
    | (try lift_lets -underBinder); intro x; refine Frame.cut (x := x) ?_ ?_ <;> [subst x; (clear_value x; intro _)]
    | (try lift_lets -underBinder); intro x; first | subst x | skip

theorem Frame.execDcInputRange (h : Frame μ s₀ s) (t : Nat) (v : Int) (h_sys : μ.sys = true) (h_health : μ.health = true) (h_pwr : μ.pwr = true) (h_flt : μ.flt = true) :
    ∃ s₁, execDcInputRange t v s = .next s₁ ∧ Frame μ s₀ s₁ := by
  refine ⟨_, rfl, ?_⟩
  repeat' first
    | with_reducible assumption
    | with_reducible apply Frame.at
    | with_reducible apply Frame.raise
    | with_reducible apply Frame.setDc
    | with_reducible apply Frame.setFields
    | with_reducible apply Frame.setFs
    | with_reducible apply Frame.showGone
    | with_reducible refine Frame.ite ?_ ?_
    | (try lift_lets -underBinder); intro x; refine Frame.cut (x := x) ?_ ?_ <;> [subst x; (clear_value x; intro _)]
    | (try lift_lets -underBinder); intro x; first | subst x | skip

theorem Frame.execDcInputReversed (h : Frame μ s₀ s) (t : Nat) (v : Int) (h_sys : μ.sys = true) (h_health : μ.health = true) (h_pwr : μ.pwr = true) (h_flt : μ.flt = true) :
    ∃ s₁, execDcInputReversed t v s = .next s₁ ∧ Frame μ s₀ s₁ := by
  refine ⟨_, rfl, ?_⟩
  repeat' first
    | with_reducible assumption
    | with_reducible apply Frame.at
    | with_reducible apply Frame.raise
    | with_reducible apply Frame.setDc
    | with_reducible apply Frame.setFields
    | with_reducible apply Frame.setFs
    | with_reducible apply Frame.showGone
    | with_reducible refine Frame.ite ?_ ?_
    | (try lift_lets -underBinder); intro x; refine Frame.cut (x := x) ?_ ?_ <;> [subst x; (clear_value x; intro _)]
    | (try lift_lets -underBinder); intro x; first | subst x | skip

theorem Frame.execBudgetSend (h : Frame μ s₀ s) (t : Nat) (h_ring : μ.ring = true) (h_pwr : μ.pwr = true) :
    ∃ s₁, execBudgetSend t s = .next s₁ ∧ Frame μ s₀ s₁ := by
  refine ⟨_, rfl, ?_⟩
  repeat' first
    | with_reducible assumption
    | with_reducible apply Frame.at
    | with_reducible apply Frame.sendUrg
    | with_reducible refine Frame.ite ?_ ?_
    | (try lift_lets -underBinder); intro x; refine Frame.cut (x := x) ?_ ?_ <;> [subst x; (clear_value x; intro _)]
    | (try lift_lets -underBinder); intro x; first | subst x | skip
    | fail_if_no_progress with_reducible refine Frame.upd ?_

theorem Frame.execBudget (h : Frame μ s₀ s) (t : Nat) (port : Nat) (p : RingPkt) (h_health : μ.health = true) (h_ring : μ.ring = true) (h_pwr : μ.pwr = true) (h_flt : μ.flt = true) :
    ∃ s₁, execBudget t port p s = .next s₁ ∧ Frame μ s₀ s₁ := by
  refine ⟨_, rfl, ?_⟩
  repeat' first
    | with_reducible assumption
    | with_reducible apply Frame.at
    | with_reducible apply Frame.packetIn
    | with_reducible apply Frame.raise
    | with_reducible refine Frame.ite ?_ ?_
    | (try lift_lets -underBinder); intro x; refine Frame.cut (x := x) ?_ ?_ <;> [subst x; (clear_value x; intro _)]
    | (try lift_lets -underBinder); intro x; first | subst x | skip
    | fail_if_no_progress with_reducible refine Frame.upd ?_

/-! ### Machine/Tile.lean -/

theorem Frame.takeVpp (h : Frame μ s₀ s) (n : Nat) (vpp : Nat) (h_tileH : μ.tileH = true) (h_ports : μ.ports = true) :
    Frame μ s₀ (State.takeVpp s n vpp) := by
  delta State.takeVpp
  repeat' first
    | with_reducible assumption
    | with_reducible apply Frame.modPort
    | with_reducible apply Frame.modTh
    | with_reducible apply Frame.setF
    | with_reducible refine Frame.ite ?_ ?_
    | (try lift_lets -underBinder); intro x; refine Frame.cut (x := x) ?_ ?_ <;> [subst x; (clear_value x; intro _)]
    | (try lift_lets -underBinder); intro x; first | subst x | skip
    | fail_if_no_progress with_reducible refine Frame.upd ?_

theorem Frame.train (h : Frame μ s₀ s) (n : Nat) (echo : Bool) (h_ports : μ.ports = true) :
    Frame μ s₀ (State.train s n echo) := by
  delta State.train
  repeat' first
    | with_reducible assumption
    | with_reducible apply Frame.modPort
    | with_reducible apply Frame.setF
    | with_reducible refine Frame.ite ?_ ?_
    | (try lift_lets -underBinder); intro x; refine Frame.cut (x := x) ?_ ?_ <;> [subst x; (clear_value x; intro _)]
    | (try lift_lets -underBinder); intro x; first | subst x | skip
    | fail_if_no_progress with_reducible refine Frame.upd ?_

theorem Frame.judgeStrobe (h : Frame μ s₀ s) (n : Nat) (tag : Nat) (h_wins : μ.wins = true) (h_tileH : μ.tileH = true) (h_health : μ.health = true) (h_ports : μ.ports = true) (h_flt : μ.flt = true) :
    Frame μ s₀ (State.judgeStrobe s n tag) := by
  delta State.judgeStrobe
  repeat' first
    | with_reducible assumption
    | with_reducible apply Frame.failTile
    | with_reducible apply Frame.modPort
    | with_reducible refine Frame.ite ?_ ?_
    | (try lift_lets -underBinder); intro x; refine Frame.cut (x := x) ?_ ?_ <;> [subst x; (clear_value x; intro _)]
    | (try lift_lets -underBinder); intro x; first | subst x | skip
    | split
    | fail_if_no_progress dsimp only
    | fail_if_no_progress with_reducible refine Frame.upd ?_

theorem Frame.execTelemetryReport (h : Frame μ s₀ s) (t : Nat) (n : Nat) (r : Telemetry) (crcOk : Bool) (h_wins : μ.wins = true) (h_noz : μ.noz = true) (h_tileH : μ.tileH = true) (h_health : μ.health = true) (h_ports : μ.ports = true) (h_flt : μ.flt = true) :
    ∃ s₁, execTelemetryReport t n r crcOk s = .next s₁ ∧ Frame μ s₀ s₁ := by
  refine ⟨_, rfl, ?_⟩
  repeat' first
    | with_reducible assumption
    | with_reducible apply Frame.addF
    | with_reducible apply Frame.askSwap
    | with_reducible apply Frame.at
    | with_reducible apply Frame.failTile
    | with_reducible apply Frame.judgeStrobe
    | with_reducible apply Frame.modPort
    | with_reducible apply Frame.modTh
    | with_reducible apply Frame.openReport
    | with_reducible apply Frame.setF
    | with_reducible apply Frame.takeVpp
    | with_reducible apply Frame.train
    | with_reducible apply Frame.tryLogicOff
    | with_reducible refine Frame.ite ?_ ?_
    | (try lift_lets -underBinder); intro x; refine Frame.cut (x := x) ?_ ?_ <;> [subst x; (clear_value x; intro _)]
    | (try lift_lets -underBinder); intro x; first | subst x | skip
    | split
    | fail_if_no_progress dsimp only
    | fail_if_no_progress with_reducible refine Frame.upd ?_

theorem Frame.execTileTrainTimeout (h : Frame μ s₀ s) (t : Nat) (n : Nat) (h_health : μ.health = true) (h_ports : μ.ports = true) (h_flt : μ.flt = true) :
    ∃ s₁, execTileTrainTimeout t n s = .next s₁ ∧ Frame μ s₀ s₁ := by
  refine ⟨_, rfl, ?_⟩
  repeat' first
    | with_reducible assumption
    | with_reducible apply Frame.absentTile
    | with_reducible apply Frame.at
    | with_reducible refine Frame.ite ?_ ?_
    | (try lift_lets -underBinder); intro x; refine Frame.cut (x := x) ?_ ?_ <;> [subst x; (clear_value x; intro _)]
    | (try lift_lets -underBinder); intro x; first | subst x | skip
    | split
    | fail_if_no_progress dsimp only
    | fail_if_no_progress with_reducible refine Frame.upd ?_

theorem Frame.execTileLogicOvercurrent (h : Frame μ s₀ s) (t : Nat) (n : Nat) (h_wins : μ.wins = true) (h_tileH : μ.tileH = true) (h_health : μ.health = true) (h_ports : μ.ports = true) (h_flt : μ.flt = true) :
    ∃ s₁, execTileLogicOvercurrent t n s = .next s₁ ∧ Frame μ s₀ s₁ := by
  refine ⟨_, rfl, ?_⟩
  repeat' first
    | with_reducible assumption
    | with_reducible apply Frame.at
    | with_reducible apply Frame.failTile
    | with_reducible apply Frame.logicOff
    | with_reducible refine Frame.ite ?_ ?_
    | (try lift_lets -underBinder); intro x; refine Frame.cut (x := x) ?_ ?_ <;> [subst x; (clear_value x; intro _)]
    | (try lift_lets -underBinder); intro x; first | subst x | skip

theorem Frame.execTileFuseClose (h : Frame μ s₀ s) (t : Nat) (q : Nat) (h_ports : μ.ports = true) (h_pwr : μ.pwr = true) :
    ∃ s₁, execTileFuseClose t q s = .next s₁ ∧ Frame μ s₀ s₁ := by
  refine ⟨_, rfl, ?_⟩
  repeat' first
    | with_reducible assumption
    | with_reducible apply Frame.at
    | with_reducible apply Frame.modPort
    | with_reducible apply Frame.modRail
    | with_reducible apply Frame.setF
    | with_reducible refine Frame.ite ?_ ?_
    | (try lift_lets -underBinder); intro x; refine Frame.cut (x := x) ?_ ?_ <;> [subst x; (clear_value x; intro _)]
    | (try lift_lets -underBinder); intro x; first | subst x | skip
    | split
    | fail_if_no_progress dsimp only
    | fail_if_no_progress with_reducible refine Frame.upd ?_

theorem Frame.execTileVppCheck (h : Frame μ s₀ s) (t : Nat) (n : Nat) (h_wins : μ.wins = true) (h_tileH : μ.tileH = true) (h_health : μ.health = true) (h_ports : μ.ports = true) (h_flt : μ.flt = true) :
    ∃ s₁, execTileVppCheck t n s = .next s₁ ∧ Frame μ s₀ s₁ := by
  refine ⟨_, rfl, ?_⟩
  repeat' first
    | with_reducible assumption
    | with_reducible apply Frame.at
    | with_reducible apply Frame.failTile
    | with_reducible apply Frame.modPort
    | with_reducible refine Frame.ite ?_ ?_
    | (try lift_lets -underBinder); intro x; refine Frame.cut (x := x) ?_ ?_ <;> [subst x; (clear_value x; intro _)]
    | (try lift_lets -underBinder); intro x; first | subst x | skip
    | split
    | fail_if_no_progress dsimp only
    | fail_if_no_progress with_reducible refine Frame.upd ?_

theorem Frame.execTileVppDischarged (h : Frame μ s₀ s) (t : Nat) (n : Nat) (h_ports : μ.ports = true) :
    ∃ s₁, execTileVppDischarged t n s = .next s₁ ∧ Frame μ s₀ s₁ := by
  refine ⟨_, rfl, ?_⟩
  repeat' first
    | with_reducible assumption
    | with_reducible apply Frame.at
    | with_reducible apply Frame.tryLogicOff

theorem Frame.execEfuseTrip (h : Frame μ s₀ s) (t : Nat) (n : Nat) (h_wins : μ.wins = true) (h_tileH : μ.tileH = true) (h_health : μ.health = true) (h_ports : μ.ports = true) (h_flt : μ.flt = true) :
    ∃ s₁, execEfuseTrip t n s = .next s₁ ∧ Frame μ s₀ s₁ := by
  refine ⟨_, rfl, ?_⟩
  repeat' first
    | with_reducible assumption
    | with_reducible apply Frame.at
    | with_reducible apply Frame.failTile
    | with_reducible refine Frame.ite ?_ ?_
    | (try lift_lets -underBinder); intro x; refine Frame.cut (x := x) ?_ ?_ <;> [subst x; (clear_value x; intro _)]
    | (try lift_lets -underBinder); intro x; first | subst x | skip

theorem Frame.execTileLogicOvervoltage (h : Frame μ s₀ s) (t : Nat) (n : Nat) (h_wins : μ.wins = true) (h_tileH : μ.tileH = true) (h_health : μ.health = true) (h_ports : μ.ports = true) (h_flt : μ.flt = true) :
    ∃ s₁, execTileLogicOvervoltage t n s = .next s₁ ∧ Frame μ s₀ s₁ := by
  refine ⟨_, rfl, ?_⟩
  repeat' first
    | with_reducible assumption
    | with_reducible apply Frame.at
    | with_reducible apply Frame.failTile
    | with_reducible apply Frame.logicOff
    | with_reducible refine Frame.ite ?_ ?_
    | (try lift_lets -underBinder); intro x; refine Frame.cut (x := x) ?_ ?_ <;> [subst x; (clear_value x; intro _)]
    | (try lift_lets -underBinder); intro x; first | subst x | skip

theorem Frame.execTileLinkLost (h : Frame μ s₀ s) (t : Nat) (n : Nat) (h_wins : μ.wins = true) (h_tileH : μ.tileH = true) (h_health : μ.health = true) (h_ports : μ.ports = true) (h_flt : μ.flt = true) :
    ∃ s₁, execTileLinkLost t n s = .next s₁ ∧ Frame μ s₀ s₁ := by
  refine ⟨_, rfl, ?_⟩
  repeat' first
    | with_reducible assumption
    | with_reducible apply Frame.at
    | with_reducible apply Frame.failTile
    | with_reducible refine Frame.ite ?_ ?_
    | (try lift_lets -underBinder); intro x; refine Frame.cut (x := x) ?_ ?_ <;> [subst x; (clear_value x; intro _)]
    | (try lift_lets -underBinder); intro x; first | subst x | skip

theorem Frame.judgeBlocks (h : Frame μ s₀ s) (n : Nat) (h_wins : μ.wins = true) (h_noz : μ.noz = true) (h_tileH : μ.tileH = true) (h_health : μ.health = true) (h_ports : μ.ports = true) (h_flt : μ.flt = true) :
    Frame μ s₀ (State.judgeBlocks s n) := by
  delta State.judgeBlocks
  repeat' first
    | with_reducible assumption
    | with_reducible apply Frame.choosePath
    | with_reducible apply Frame.modPort
    | with_reducible apply Frame.setF
    | with_reducible apply Frame.showUsage
    | with_reducible refine Frame.ite ?_ ?_
    | (try lift_lets -underBinder); intro x; refine Frame.cut (x := x) ?_ ?_ <;> [subst x; (clear_value x; intro _)]
    | (try lift_lets -underBinder); intro x; first | subst x | skip
    | split
    | fail_if_no_progress dsimp only
    | fail_if_no_progress with_reducible refine Frame.upd ?_

theorem Frame.hmBlockFail (h : Frame μ s₀ s) (n : Nat) (usage : Bool) (h_wins : μ.wins = true) (h_noz : μ.noz = true) (h_tileH : μ.tileH = true) (h_health : μ.health = true) (h_ports : μ.ports = true) (h_flt : μ.flt = true) :
    Frame μ s₀ (State.hmBlockFail s n usage) := by
  delta State.hmBlockFail
  repeat' first
    | with_reducible assumption
    | with_reducible apply Frame.choosePath
    | with_reducible apply Frame.modPort
    | with_reducible refine Frame.ite ?_ ?_
    | (try lift_lets -underBinder); intro x; refine Frame.cut (x := x) ?_ ?_ <;> [subst x; (clear_value x; intro _)]
    | (try lift_lets -underBinder); intro x; first | subst x | skip
    | fail_if_no_progress with_reducible refine Frame.upd ?_

theorem Frame.execHmRead (h : Frame μ s₀ s) (t : Nat) (n : Nat) (a : Nat) (resp : Option (List Nat)) (h_wins : μ.wins = true) (h_noz : μ.noz = true) (h_tileH : μ.tileH = true) (h_health : μ.health = true) (h_ports : μ.ports = true) (h_flt : μ.flt = true) :
    ∃ s₁, execHmRead t n a resp s = .next s₁ ∧ Frame μ s₀ s₁ := by
  refine ⟨_, rfl, ?_⟩
  repeat' first
    | with_reducible assumption
    | with_reducible apply Frame.at
    | with_reducible refine Frame.emit ?_ _ (.inr rfl)
    | with_reducible apply Frame.hmBlockFail
    | with_reducible refine Frame.hmError ?_ (by assumption) ‹_›
    | with_reducible apply Frame.judgeBlocks
    | with_reducible apply Frame.modPort
    | with_reducible refine Frame.ite ?_ ?_
    | (try lift_lets -underBinder); intro x; refine Frame.cut (x := x) ?_ ?_ <;> [subst x; (clear_value x; intro _)]
    | (try lift_lets -underBinder); intro x; first | subst x | skip
    | split
    | fail_if_no_progress dsimp only
    | fail_if_no_progress with_reducible refine Frame.upd ?_

theorem Frame.execHmWrite (h : Frame μ s₀ s) (t : Nat) (n : Nat) (a : Nat) (data : List Nat) (resp : Option (List Nat)) (h_health : μ.health = true) (h_ports : μ.ports = true) (h_flt : μ.flt = true) :
    ∃ s₁, execHmWrite t n a data resp s = .next s₁ ∧ Frame μ s₀ s₁ := by
  refine ⟨_, rfl, ?_⟩
  repeat' first
    | with_reducible assumption
    | with_reducible apply Frame.at
    | with_reducible refine Frame.emit ?_ _ (.inr rfl)
    | with_reducible apply Frame.hmEnd
    | with_reducible refine Frame.hmError ?_ (by assumption) ‹_›
    | with_reducible apply Frame.raiseLane
    | with_reducible apply Frame.setF
    | with_reducible refine Frame.ite ?_ ?_
    | (try lift_lets -underBinder); intro x; refine Frame.cut (x := x) ?_ ?_ <;> [subst x; (clear_value x; intro _)]
    | (try lift_lets -underBinder); intro x; first | subst x | skip
    | split
    | fail_if_no_progress dsimp only
    | fail_if_no_progress with_reducible refine Frame.upd ?_

theorem Frame.addDone (h : Frame μ s₀ s) (n : Nat) (bs : List Nat) (h_ports : μ.ports = true) :
    Frame μ s₀ (State.addDone s n bs) := by
  delta State.addDone
  repeat' first
    | with_reducible assumption
    | with_reducible apply Frame.hmEnd
    | with_reducible apply Frame.modPort
    | with_reducible apply Frame.showUsage
    | (try lift_lets -underBinder); intro x; refine Frame.cut (x := x) ?_ ?_ <;> [subst x; (clear_value x; intro _)]
    | (try lift_lets -underBinder); intro x; first | subst x | skip
    | split
    | fail_if_no_progress dsimp only
    | fail_if_no_progress with_reducible refine Frame.upd ?_

theorem Frame.execAuthRead (h : Frame μ s₀ s) (t : Nat) (n : Nat) (nonce : List Nat) (resp : Option (List Nat)) (h_wins : μ.wins = true) (h_noz : μ.noz = true) (h_tileH : μ.tileH = true) (h_health : μ.health = true) (h_ports : μ.ports = true) (h_flt : μ.flt = true) :
    ∃ s₁, execAuthRead t n nonce resp s = .next s₁ ∧ Frame μ s₀ s₁ := by
  refine ⟨_, rfl, ?_⟩
  repeat' first
    | with_reducible assumption
    | with_reducible apply Frame.addDone
    | with_reducible apply Frame.at
    | with_reducible apply Frame.choosePath
    | with_reducible refine Frame.emit ?_ _ (.inr rfl)
    | with_reducible apply Frame.hmBlockFail
    | with_reducible apply Frame.hmEnd
    | with_reducible refine Frame.hmError ?_ (by assumption) ‹_›
    | with_reducible apply Frame.modPort
    | with_reducible apply Frame.showUsage
    | with_reducible refine Frame.ite ?_ ?_
    | (try lift_lets -underBinder); intro x; refine Frame.cut (x := x) ?_ ?_ <;> [subst x; (clear_value x; intro _)]
    | (try lift_lets -underBinder); intro x; first | subst x | skip
    | split
    | fail_if_no_progress dsimp only
    | fail_if_no_progress with_reducible refine Frame.upd ?_

theorem Frame.execGetNonce (h : Frame μ s₀ s) (t : Nat) (n : Nat) (resp : Option (List Nat)) (h_ports : μ.ports = true) :
    ∃ s₁, execGetNonce t n resp s = .next s₁ ∧ Frame μ s₀ s₁ := by
  refine ⟨_, rfl, ?_⟩
  repeat' first
    | with_reducible assumption
    | with_reducible apply Frame.at
    | with_reducible refine Frame.emit ?_ _ (.inr rfl)
    | with_reducible apply Frame.hmEnd
    | with_reducible refine Frame.hmError ?_ (by assumption) ‹_›
    | with_reducible apply Frame.modPort
    | with_reducible refine Frame.ite ?_ ?_
    | (try lift_lets -underBinder); intro x; refine Frame.cut (x := x) ?_ ?_ <;> [subst x; (clear_value x; intro _)]
    | (try lift_lets -underBinder); intro x; first | subst x | skip
    | split
    | fail_if_no_progress dsimp only
    | fail_if_no_progress with_reducible refine Frame.upd ?_

theorem Frame.execAuthAdd (h : Frame μ s₀ s) (t : Nat) (n : Nat) (resp : Option (List Nat)) (h_ports : μ.ports = true) :
    ∃ s₁, execAuthAdd t n resp s = .next s₁ ∧ Frame μ s₀ s₁ := by
  refine ⟨_, rfl, ?_⟩
  repeat' first
    | with_reducible assumption
    | with_reducible apply Frame.addDone
    | with_reducible apply Frame.at
    | with_reducible refine Frame.hmError ?_ (by assumption) ‹_›
    | with_reducible apply Frame.modPort
    | with_reducible refine Frame.ite ?_ ?_
    | (try lift_lets -underBinder); intro x; refine Frame.cut (x := x) ?_ ?_ <;> [subst x; (clear_value x; intro _)]
    | (try lift_lets -underBinder); intro x; first | subst x | skip
    | split
    | fail_if_no_progress dsimp only
    | fail_if_no_progress with_reducible refine Frame.upd ?_

theorem Frame.execHmRetry (h : Frame μ s₀ s) (t : Nat) (n : Nat) (h_ports : μ.ports = true) :
    ∃ s₁, execHmRetry t n s = .next s₁ ∧ Frame μ s₀ s₁ := by
  refine ⟨_, rfl, ?_⟩
  repeat' first
    | with_reducible assumption
    | with_reducible apply Frame.at
    | with_reducible refine Frame.emit ?_ _ (.inr rfl)
    | with_reducible apply Frame.modPort
    | with_reducible refine Frame.ite ?_ ?_
    | (try lift_lets -underBinder); intro x; refine Frame.cut (x := x) ?_ ?_ <;> [subst x; (clear_value x; intro _)]
    | (try lift_lets -underBinder); intro x; first | subst x | skip
    | split
    | fail_if_no_progress dsimp only
    | fail_if_no_progress with_reducible refine Frame.upd ?_

theorem Frame.writeUkey (h : Frame μ s₀ s) (k : Nat) (v : Word) (h_nv : μ.nv = true) (h_cfg : μ.cfg = true) (h_health : μ.health = true) (h_flt : μ.flt = true) :
    Frame μ s₀ (State.writeUkey s k v) := by
  delta State.writeUkey
  repeat' first
    | with_reducible assumption
    | with_reducible apply Frame.raise
    | with_reducible refine Frame.ite ?_ ?_
    | (try lift_lets -underBinder); intro x; refine Frame.cut (x := x) ?_ ?_ <;> [subst x; (clear_value x; intro _)]
    | (try lift_lets -underBinder); intro x; first | subst x | skip
    | fail_if_no_progress with_reducible refine Frame.upd ?_

theorem Frame.execTileUkeyStore (h : Frame μ s₀ s) (t : Nat) (v : Word) (h_nv : μ.nv = true) (h_cfg : μ.cfg = true) (h_health : μ.health = true) (h_flt : μ.flt = true) :
    ∃ s₁, execTileUkeyStore t v s = .next s₁ ∧ Frame μ s₀ s₁ := by
  refine ⟨_, rfl, ?_⟩
  repeat' first
    | with_reducible assumption
    | with_reducible apply Frame.at
    | with_reducible apply Frame.onWrite
    | with_reducible apply Frame.writeUkey
    | (try lift_lets -underBinder); intro x; refine Frame.cut (x := x) ?_ ?_ <;> [subst x; (clear_value x; intro _)]
    | (try lift_lets -underBinder); intro x; first | subst x | skip

/-! ### Machine/Motor.lean -/

theorem Frame.execMotorRun (h : Frame μ s₀ s) (t : Nat) (a : Nat) (v : Word) (h_health : μ.health = true) (h_mot : μ.mot = true) (h_flt : μ.flt = true) :
    ∃ s₁, execMotorRun t a v s = .next s₁ ∧ Frame μ s₀ s₁ := by
  refine ⟨_, rfl, ?_⟩
  repeat' first
    | with_reducible assumption
    | with_reducible apply Frame.at
    | with_reducible apply Frame.onWrite
    | with_reducible apply Frame.writeMotCmd
    | with_reducible refine Frame.ite ?_ ?_
    | (try lift_lets -underBinder); intro x; refine Frame.cut (x := x) ?_ ?_ <;> [subst x; (clear_value x; intro _)]
    | (try lift_lets -underBinder); intro x; first | subst x | skip

theorem Frame.execMotorStop (h : Frame μ s₀ s) (t : Nat) (a : Nat) (v : Word) (h_health : μ.health = true) (h_mot : μ.mot = true) (h_flt : μ.flt = true) :
    ∃ s₁, execMotorStop t a v s = .next s₁ ∧ Frame μ s₀ s₁ := by
  refine ⟨_, rfl, ?_⟩
  repeat' first
    | with_reducible assumption
    | with_reducible apply Frame.at
    | with_reducible apply Frame.onWrite
    | with_reducible apply Frame.writeMotCmd
    | with_reducible refine Frame.ite ?_ ?_
    | (try lift_lets -underBinder); intro x; refine Frame.cut (x := x) ?_ ?_ <;> [subst x; (clear_value x; intro _)]
    | (try lift_lets -underBinder); intro x; first | subst x | skip

theorem Frame.takePin (h : Frame μ s₀ s) (a : Nat) (x : Int) (h_mot : μ.mot = true) :
    Frame μ s₀ (State.takePin s a x) := by
  delta State.takePin
  repeat' first
    | with_reducible assumption
    | with_reducible apply Frame.modAxis
    | with_reducible apply Frame.setFields
    | with_reducible apply Frame.startAxis
    | with_reducible apply Frame.stopAxis
    | with_reducible refine Frame.ite ?_ ?_
    | (try lift_lets -underBinder); intro x; refine Frame.cut (x := x) ?_ ?_ <;> [subst x; (clear_value x; intro _)]
    | (try lift_lets -underBinder); intro x; first | subst x | skip
    | split
    | fail_if_no_progress with_reducible refine Frame.upd ?_

theorem Frame.takeCommand (h : Frame μ s₀ s) (a : Nat) (h_mot : μ.mot = true) :
    Frame μ s₀ (State.takeCommand s a) := by
  delta State.takeCommand
  repeat' first
    | with_reducible assumption
    | with_reducible apply Frame.modAxis
    | with_reducible apply Frame.setF
    | with_reducible refine Frame.ite ?_ ?_
    | (try lift_lets -underBinder); intro x; refine Frame.cut (x := x) ?_ ?_ <;> [subst x; (clear_value x; intro _)]
    | (try lift_lets -underBinder); intro x; first | subst x | skip
    | split
    | fail_if_no_progress with_reducible refine Frame.upd ?_

theorem Frame.watchSpeed (h : Frame μ s₀ s) (a : Nat) (rpm : Int) (h_mot : μ.mot = true) :
    Frame μ s₀ (State.watchSpeed s a rpm) := by
  delta State.watchSpeed
  repeat' first
    | with_reducible assumption
    | with_reducible apply Frame.axisOff
    | with_reducible apply Frame.modAxis
    | with_reducible apply Frame.setF
    | with_reducible refine Frame.ite ?_ ?_
    | (try lift_lets -underBinder); intro x; refine Frame.cut (x := x) ?_ ?_ <;> [subst x; (clear_value x; intro _)]
    | (try lift_lets -underBinder); intro x; first | subst x | skip
    | fail_if_no_progress with_reducible refine Frame.upd ?_

theorem Frame.execSpeedLoopUpdate (h : Frame μ s₀ s) (t : Nat) (a : Nat) (rpm : Int) (pin : Int) (h_mot : μ.mot = true) :
    ∃ s₁, execSpeedLoopUpdate t a rpm pin s = .next s₁ ∧ Frame μ s₀ s₁ := by
  refine ⟨_, rfl, ?_⟩
  repeat' first
    | with_reducible assumption
    | with_reducible apply Frame.at
    | with_reducible apply Frame.setFs
    | with_reducible apply Frame.takeCommand
    | with_reducible apply Frame.takePin
    | with_reducible apply Frame.watchSpeed
    | with_reducible refine Frame.ite ?_ ?_
    | (try lift_lets -underBinder); intro x; refine Frame.cut (x := x) ?_ ?_ <;> [subst x; (clear_value x; intro _)]
    | (try lift_lets -underBinder); intro x; first | subst x | skip

theorem Frame.fieldWeaken (h : Frame μ s₀ s) (a : Nat) (vMv : Nat) (h_mot : μ.mot = true) :
    Frame μ s₀ (State.fieldWeaken s a vMv) := by
  delta State.fieldWeaken
  repeat' first
    | with_reducible assumption
    | with_reducible apply Frame.modAxis
    | with_reducible apply Frame.setFb
    | with_reducible refine Frame.ite ?_ ?_
    | (try lift_lets -underBinder); intro x; refine Frame.cut (x := x) ?_ ?_ <;> [subst x; (clear_value x; intro _)]
    | (try lift_lets -underBinder); intro x; first | subst x | skip
    | fail_if_no_progress with_reducible refine Frame.upd ?_

theorem Frame.takeSample (h : Frame μ s₀ s) (a : Nat) (m : CurrentSample) (h_health : μ.health = true) (h_mot : μ.mot = true) (h_flt : μ.flt = true) :
    Frame μ s₀ (State.takeSample s a m) := by
  delta State.takeSample
  repeat' first
    | with_reducible assumption
    | with_reducible apply Frame.addF
    | with_reducible apply Frame.count
    | with_reducible apply Frame.drawn
    | with_reducible apply Frame.modAxis
    | with_reducible apply Frame.raiseMot
    | with_reducible apply Frame.setFs
    | with_reducible refine Frame.ite ?_ ?_
    | (try lift_lets -underBinder); intro x; refine Frame.cut (x := x) ?_ ?_ <;> [subst x; (clear_value x; intro _)]
    | (try lift_lets -underBinder); intro x; first | subst x | skip
    | split
    | fail_if_no_progress dsimp only
    | fail_if_no_progress with_reducible refine Frame.upd ?_

theorem Frame.slewAxis (h : Frame μ s₀ s) (a : Nat) (h_cal : μ.cal = true) :
    Frame μ s₀ (State.slewAxis s a) := by
  delta State.slewAxis
  repeat' first
    | with_reducible assumption
    | with_reducible apply Frame.slewTo
    | with_reducible refine Frame.ite ?_ ?_

theorem Frame.execCurrentControlPeriod (h : Frame μ s₀ s) (t : Nat) (a : Nat) (smp : CurrentSample) (h_health : μ.health = true) (h_mot : μ.mot = true) (h_flt : μ.flt = true) (h_cal : μ.cal = true) :
    ∃ s₁, execCurrentControlPeriod t a smp s = .next s₁ ∧ Frame μ s₀ s₁ := by
  refine ⟨_, rfl, ?_⟩
  repeat' first
    | with_reducible assumption
    | with_reducible apply Frame.at
    | with_reducible apply Frame.fieldWeaken
    | with_reducible apply Frame.modAxis
    | with_reducible apply Frame.setFb
    | with_reducible apply Frame.setFs
    | with_reducible apply Frame.slewAxis
    | with_reducible apply Frame.takeSample
    | with_reducible refine Frame.ite ?_ ?_
    | (try lift_lets -underBinder); intro x; refine Frame.cut (x := x) ?_ ?_ <;> [subst x; (clear_value x; intro _)]
    | (try lift_lets -underBinder); intro x; first | subst x | skip
    | fail_if_no_progress with_reducible refine Frame.upd ?_

theorem Frame.execMotCmdLost (h : Frame μ s₀ s) (t : Nat) (h_health : μ.health = true) (h_mot : μ.mot = true) (h_flt : μ.flt = true) :
    ∃ s₁, execMotCmdLost t s = .next s₁ ∧ Frame μ s₀ s₁ := by
  refine ⟨_, rfl, ?_⟩
  repeat' first
    | with_reducible assumption
    | with_reducible apply Frame.at
    | with_reducible apply Frame.raiseMot
    | with_reducible apply Frame.setF
    | with_reducible apply Frame.stopAxis
    | with_reducible refine Frame.ite ?_ ?_
    | with_reducible refine Frame.foldl ?_ ?_
    | (try lift_lets -underBinder); intro x; refine Frame.cut (x := x) ?_ ?_ <;> [subst x; (clear_value x; intro _)]
    | (try lift_lets -underBinder); intro x; first | subst x | skip

theorem Frame.execMotCmdRestored (h : Frame μ s₀ s) (t : Nat) (h_mot : μ.mot = true) :
    ∃ s₁, execMotCmdRestored t s = .next s₁ ∧ Frame μ s₀ s₁ := by
  refine ⟨_, rfl, ?_⟩
  repeat' first
    | with_reducible assumption
    | with_reducible apply Frame.at
    | with_reducible apply Frame.setF
    | with_reducible apply Frame.startAxis
    | with_reducible refine Frame.ite ?_ ?_
    | with_reducible refine Frame.foldl ?_ ?_
    | (try lift_lets -underBinder); intro x; refine Frame.cut (x := x) ?_ ?_ <;> [subst x; (clear_value x; intro _)]
    | (try lift_lets -underBinder); intro x; first | subst x | skip

theorem Frame.execAtSpeed (h : Frame μ s₀ s) (t : Nat) (a : Nat) (h_pos : μ.pos = true) (h_mot : μ.mot = true) :
    ∃ s₁, execAtSpeed t a s = .next s₁ ∧ Frame μ s₀ s₁ := by
  refine ⟨_, rfl, ?_⟩
  repeat' first
    | with_reducible assumption
    | with_reducible apply Frame.at
    | with_reducible apply Frame.emitSrc
    | with_reducible apply Frame.modAxis
    | with_reducible apply Frame.setF
    | with_reducible refine Frame.ite ?_ ?_
    | (try lift_lets -underBinder); intro x; refine Frame.cut (x := x) ?_ ?_ <;> [subst x; (clear_value x; intro _)]
    | (try lift_lets -underBinder); intro x; first | subst x | skip
    | split
    | fail_if_no_progress dsimp only
    | fail_if_no_progress with_reducible refine Frame.upd ?_

theorem Frame.execCatchCheckComplete (h : Frame μ s₀ s) (t : Nat) (a : Nat) (amp : Nat) (full : Bool) (h_health : μ.health = true) (h_mot : μ.mot = true) (h_flt : μ.flt = true) :
    ∃ s₁, execCatchCheckComplete t a amp full s = .next s₁ ∧ Frame μ s₀ s₁ := by
  refine ⟨_, rfl, ?_⟩
  repeat' first
    | with_reducible assumption
    | with_reducible apply Frame.at
    | with_reducible apply Frame.modAxis
    | with_reducible apply Frame.raiseMot
    | with_reducible apply Frame.setF
    | with_reducible refine Frame.ite ?_ ?_
    | (try lift_lets -underBinder); intro x; refine Frame.cut (x := x) ?_ ?_ <;> [subst x; (clear_value x; intro _)]
    | (try lift_lets -underBinder); intro x; first | subst x | skip
    | fail_if_no_progress with_reducible refine Frame.upd ?_

theorem Frame.execCatchLock (h : Frame μ s₀ s) (t : Nat) (a : Nat) (rpm : Int) (h_mot : μ.mot = true) :
    ∃ s₁, execCatchLock t a rpm s = .next s₁ ∧ Frame μ s₀ s₁ := by
  refine ⟨_, rfl, ?_⟩
  repeat' first
    | with_reducible assumption
    | with_reducible apply Frame.accelerate
    | with_reducible apply Frame.at
    | with_reducible apply Frame.modAxis
    | with_reducible apply Frame.setFields
    | with_reducible apply Frame.setFs
    | with_reducible refine Frame.ite ?_ ?_
    | (try lift_lets -underBinder); intro x; refine Frame.cut (x := x) ?_ ?_ <;> [subst x; (clear_value x; intro _)]
    | (try lift_lets -underBinder); intro x; first | subst x | skip
    | fail_if_no_progress with_reducible refine Frame.upd ?_

theorem Frame.execCatchOverRetry (h : Frame μ s₀ s) (t : Nat) (a : Nat) (h_mot : μ.mot = true) :
    ∃ s₁, execCatchOverRetry t a s = .next s₁ ∧ Frame μ s₀ s₁ := by
  refine ⟨_, rfl, ?_⟩
  repeat' first
    | with_reducible assumption
    | with_reducible apply Frame.at
    | with_reducible apply Frame.modAxis
    | with_reducible refine Frame.ite ?_ ?_
    | (try lift_lets -underBinder); intro x; refine Frame.cut (x := x) ?_ ?_ <;> [subst x; (clear_value x; intro _)]
    | (try lift_lets -underBinder); intro x; first | subst x | skip
    | fail_if_no_progress with_reducible refine Frame.upd ?_

theorem Frame.execOpenPhaseCheckComplete (h : Frame μ s₀ s) (t : Nat) (a : Nat) (open_ : Option Nat) (h_health : μ.health = true) (h_mot : μ.mot = true) (h_flt : μ.flt = true) :
    ∃ s₁, execOpenPhaseCheckComplete t a open_ s = .next s₁ ∧ Frame μ s₀ s₁ := by
  refine ⟨_, rfl, ?_⟩
  repeat' first
    | with_reducible assumption
    | with_reducible apply Frame.at
    | with_reducible apply Frame.axisTrip
    | with_reducible apply Frame.modAxis
    | with_reducible refine Frame.ite ?_ ?_
    | (try lift_lets -underBinder); intro x; refine Frame.cut (x := x) ?_ ?_ <;> [subst x; (clear_value x; intro _)]
    | (try lift_lets -underBinder); intro x; first | subst x | skip
    | split
    | fail_if_no_progress dsimp only
    | fail_if_no_progress with_reducible refine Frame.upd ?_

theorem Frame.execModelIdentificationComplete (h : Frame μ s₀ s) (t : Nat) (a : Nat) (rs : Nat) (ld : Nat) (lq : Nat) (h_mot : μ.mot = true) :
    ∃ s₁, execModelIdentificationComplete t a rs ld lq s = .next s₁ ∧ Frame μ s₀ s₁ := by
  refine ⟨_, rfl, ?_⟩
  repeat' first
    | with_reducible assumption
    | with_reducible apply Frame.at
    | with_reducible apply Frame.modAxis
    | with_reducible apply Frame.setFields
    | with_reducible refine Frame.ite ?_ ?_
    | (try lift_lets -underBinder); intro x; refine Frame.cut (x := x) ?_ ?_ <;> [subst x; (clear_value x; intro _)]
    | (try lift_lets -underBinder); intro x; first | subst x | skip
    | fail_if_no_progress with_reducible refine Frame.upd ?_

theorem Frame.execInitialPositionFound (h : Frame μ s₀ s) (t : Nat) (a : Nat) (weak : Bool) (h_health : μ.health = true) (h_mot : μ.mot = true) (h_flt : μ.flt = true) :
    ∃ s₁, execInitialPositionFound t a weak s = .next s₁ ∧ Frame μ s₀ s₁ := by
  refine ⟨_, rfl, ?_⟩
  repeat' first
    | with_reducible assumption
    | with_reducible apply Frame.accelerate
    | with_reducible apply Frame.at
    | with_reducible apply Frame.raiseMot
    | with_reducible apply Frame.setFields
    | with_reducible refine Frame.ite ?_ ?_
    | (try lift_lets -underBinder); intro x; refine Frame.cut (x := x) ?_ ?_ <;> [subst x; (clear_value x; intro _)]
    | (try lift_lets -underBinder); intro x; first | subst x | skip

theorem Frame.execEstimatorHandover (h : Frame μ s₀ s) (t : Nat) (a : Nat) :
    ∃ s₁, execEstimatorHandover t a s = .next s₁ ∧ Frame μ s₀ s₁ := by
  refine ⟨_, rfl, ?_⟩
  repeat' first
    | with_reducible assumption
    | with_reducible apply Frame.at
    | with_reducible apply Frame.setF
    | with_reducible refine Frame.ite ?_ ?_
    | (try lift_lets -underBinder); intro x; refine Frame.cut (x := x) ?_ ?_ <;> [subst x; (clear_value x; intro _)]
    | (try lift_lets -underBinder); intro x; first | subst x | skip
    | split
    | fail_if_no_progress dsimp only
    | fail_if_no_progress with_reducible refine Frame.upd ?_

theorem Frame.execOpenPhase (h : Frame μ s₀ s) (t : Nat) (a : Nat) (p1 : Rms) (p2 : Rms) (h_health : μ.health = true) (h_mot : μ.mot = true) (h_flt : μ.flt = true) :
    ∃ s₁, execOpenPhase t a p1 p2 s = .next s₁ ∧ Frame μ s₀ s₁ := by
  refine ⟨_, rfl, ?_⟩
  repeat' first
    | with_reducible assumption
    | with_reducible apply Frame.at
    | with_reducible apply Frame.axisTrip
    | with_reducible refine Frame.ite ?_ ?_
    | (try lift_lets -underBinder); intro x; refine Frame.cut (x := x) ?_ ?_ <;> [subst x; (clear_value x; intro _)]
    | (try lift_lets -underBinder); intro x; first | subst x | skip
    | split
    | fail_if_no_progress dsimp only
    | fail_if_no_progress with_reducible refine Frame.upd ?_

theorem Frame.execStall (h : Frame μ s₀ s) (t : Nat) (a : Nat) (h_health : μ.health = true) (h_mot : μ.mot = true) (h_flt : μ.flt = true) :
    ∃ s₁, execStall t a s = .next s₁ ∧ Frame μ s₀ s₁ := by
  refine ⟨_, rfl, ?_⟩
  repeat' first
    | with_reducible assumption
    | with_reducible apply Frame.at
    | with_reducible apply Frame.axisTrip
    | with_reducible refine Frame.ite ?_ ?_
    | (try lift_lets -underBinder); intro x; refine Frame.cut (x := x) ?_ ?_ <;> [subst x; (clear_value x; intro _)]
    | (try lift_lets -underBinder); intro x; first | subst x | skip
    | split
    | fail_if_no_progress dsimp only
    | fail_if_no_progress with_reducible refine Frame.upd ?_

theorem Frame.execOvercurrentTrip (h : Frame μ s₀ s) (t : Nat) (a : Nat) (phase : Nat) (h_health : μ.health = true) (h_mot : μ.mot = true) (h_flt : μ.flt = true) :
    ∃ s₁, execOvercurrentTrip t a phase s = .next s₁ ∧ Frame μ s₀ s₁ := by
  refine ⟨_, rfl, ?_⟩
  repeat' first
    | with_reducible assumption
    | with_reducible apply Frame.at
    | with_reducible apply Frame.axisTrip
    | with_reducible refine Frame.ite ?_ ?_
    | (try lift_lets -underBinder); intro x; refine Frame.cut (x := x) ?_ ?_ <;> [subst x; (clear_value x; intro _)]
    | (try lift_lets -underBinder); intro x; first | subst x | skip

theorem Frame.execGateDriverFeedbackFault (h : Frame μ s₀ s) (t : Nat) (a : Nat) (sw : Nat) (h_health : μ.health = true) (h_flt : μ.flt = true) :
    ∃ s₁, execGateDriverFeedbackFault t a sw s = .next s₁ ∧ Frame μ s₀ s₁ := by
  refine ⟨_, rfl, ?_⟩
  repeat' first
    | with_reducible assumption
    | with_reducible apply Frame.at
    | with_reducible apply Frame.raiseMot
    | with_reducible apply Frame.setF
    | with_reducible refine Frame.ite ?_ ?_
    | (try lift_lets -underBinder); intro x; refine Frame.cut (x := x) ?_ ?_ <;> [subst x; (clear_value x; intro _)]
    | (try lift_lets -underBinder); intro x; first | subst x | skip

/-! ### Machine/Thermal.lean -/

theorem Frame.reqDusk (h : Frame μ s₀ s) (n : Nat) (h_sys : μ.sys = true) (h_wins : μ.wins = true) (h_health : μ.health = true) (h_mot : μ.mot = true) (h_thm : μ.thm = true) (h_flt : μ.flt = true) (h_cal : μ.cal = true) (h_svc : μ.svc = true) :
    Frame μ s₀ (State.reqDusk s n) := by
  delta State.reqDusk
  repeat' first
    | with_reducible assumption
    | with_reducible apply Frame.finishTest
    | with_reducible apply Frame.setFields
    | with_reducible apply Frame.thermalDusk
    | with_reducible refine Frame.ite ?_ ?_
    | (try lift_lets -underBinder); intro x; refine Frame.cut (x := x) ?_ ?_ <;> [subst x; (clear_value x; intro _)]
    | (try lift_lets -underBinder); intro x; first | subst x | skip
    | split
    | fail_if_no_progress dsimp only
    | fail_if_no_progress with_reducible refine Frame.upd ?_

theorem Frame.rateAction (h : Frame μ s₀ s) (n : Nat) (act : Nat) (h_sys : μ.sys = true) (h_wins : μ.wins = true) (h_tileH : μ.tileH = true) (h_health : μ.health = true) (h_ports : μ.ports = true) (h_mot : μ.mot = true) (h_thm : μ.thm = true) (h_flt : μ.flt = true) (h_cal : μ.cal = true) (h_svc : μ.svc = true) :
    Frame μ s₀ (State.rateAction s n act) := by
  delta State.rateAction
  repeat' first
    | with_reducible assumption
    | with_reducible apply Frame.failTile
    | with_reducible apply Frame.modWin
    | with_reducible apply Frame.reqDusk
    | with_reducible refine Frame.ite ?_ ?_
    | with_reducible refine Frame.foldl ?_ ?_
    | (try lift_lets -underBinder); intro x; refine Frame.cut (x := x) ?_ ?_ <;> [subst x; (clear_value x; intro _)]
    | (try lift_lets -underBinder); intro x; first | subst x | skip
    | fail_if_no_progress with_reducible refine Frame.upd ?_

theorem Frame.tripAction (h : Frame μ s₀ s) (n : Nat) (x : Int) (h_sys : μ.sys = true) (h_wins : μ.wins = true) (h_tileH : μ.tileH = true) (h_health : μ.health = true) (h_ports : μ.ports = true) (h_pwr : μ.pwr = true) (h_mot : μ.mot = true) (h_thm : μ.thm = true) (h_flt : μ.flt = true) (h_cal : μ.cal = true) (h_svc : μ.svc = true) :
    Frame μ s₀ (State.tripAction s n x) := by
  delta State.tripAction
  repeat' first
    | with_reducible assumption
    | with_reducible apply Frame.failTile
    | with_reducible apply Frame.raise
    | with_reducible apply Frame.reqDusk
    | with_reducible apply Frame.stopDocs
    | with_reducible apply Frame.updHoldup
    | (try lift_lets -underBinder); intro x; refine Frame.cut (x := x) ?_ ?_ <;> [subst x; (clear_value x; intro _)]
    | (try lift_lets -underBinder); intro x; first | subst x | skip
    | split
    | fail_if_no_progress dsimp only
    | fail_if_no_progress with_reducible refine Frame.upd ?_

theorem Frame.checkRate (h : Frame μ s₀ s) (n : Nat) (x : Int) (h_sys : μ.sys = true) (h_wins : μ.wins = true) (h_tileH : μ.tileH = true) (h_health : μ.health = true) (h_ports : μ.ports = true) (h_mot : μ.mot = true) (h_thm : μ.thm = true) (h_flt : μ.flt = true) (h_cal : μ.cal = true) (h_svc : μ.svc = true) :
    Frame μ s₀ (State.checkRate s n x) := by
  delta State.checkRate
  repeat' first
    | with_reducible assumption
    | with_reducible apply Frame.modSensor
    | with_reducible apply Frame.raise
    | with_reducible apply Frame.rateAction
    | with_reducible apply Frame.setFs
    | with_reducible refine Frame.ite ?_ ?_
    | (try lift_lets -underBinder); intro x; refine Frame.cut (x := x) ?_ ?_ <;> [subst x; (clear_value x; intro _)]
    | (try lift_lets -underBinder); intro x; first | subst x | skip
    | split
    | fail_if_no_progress dsimp only
    | fail_if_no_progress with_reducible refine Frame.upd ?_

theorem Frame.checkLevels (h : Frame μ s₀ s) (n : Nat) (x : Int) (h_sys : μ.sys = true) (h_wins : μ.wins = true) (h_tileH : μ.tileH = true) (h_health : μ.health = true) (h_ports : μ.ports = true) (h_pwr : μ.pwr = true) (h_mot : μ.mot = true) (h_thm : μ.thm = true) (h_flt : μ.flt = true) (h_cal : μ.cal = true) (h_svc : μ.svc = true) :
    Frame μ s₀ (State.checkLevels s n x) := by
  delta State.checkLevels
  repeat' first
    | with_reducible assumption
    | with_reducible apply Frame.modSensor
    | with_reducible apply Frame.raise
    | with_reducible apply Frame.reqDusk
    | with_reducible apply Frame.tripAction
    | with_reducible refine Frame.ite ?_ ?_
    | (try lift_lets -underBinder); intro x; refine Frame.cut (x := x) ?_ ?_ <;> [subst x; (clear_value x; intro _)]
    | (try lift_lets -underBinder); intro x; first | subst x | skip
    | fail_if_no_progress with_reducible refine Frame.upd ?_

theorem Frame.checkFast (h : Frame μ s₀ s) (n : Nat) (x : Int) (h_thm : μ.thm = true) :
    Frame μ s₀ (State.checkFast s n x) := by
  delta State.checkFast
  repeat' first
    | with_reducible assumption
    | with_reducible apply Frame.modSensor
    | with_reducible apply Frame.setF
    | with_reducible refine Frame.ite ?_ ?_
    | (try lift_lets -underBinder); intro x; refine Frame.cut (x := x) ?_ ?_ <;> [subst x; (clear_value x; intro _)]
    | (try lift_lets -underBinder); intro x; first | subst x | skip
    | fail_if_no_progress with_reducible refine Frame.upd ?_

theorem Frame.interlocks (h : Frame μ s₀ s) (n : Nat) (h_pwr : μ.pwr = true) (h_thm : μ.thm = true) :
    Frame μ s₀ (State.interlocks s n) := by
  delta State.interlocks
  repeat' first
    | with_reducible assumption
    | with_reducible apply Frame.setF
    | with_reducible apply Frame.setFb
    | with_reducible refine Frame.ite ?_ ?_
    | (try lift_lets -underBinder); intro x; refine Frame.cut (x := x) ?_ ?_ <;> [subst x; (clear_value x; intro _)]
    | (try lift_lets -underBinder); intro x; first | subst x | skip
    | split
    | fail_if_no_progress dsimp only
    | fail_if_no_progress with_reducible refine Frame.upd ?_

theorem Frame.badReading (h : Frame μ s₀ s) (n : Nat) (h_health : μ.health = true) (h_thm : μ.thm = true) (h_flt : μ.flt = true) :
    Frame μ s₀ (State.badReading s n) := by
  delta State.badReading
  repeat' first
    | with_reducible assumption
    | with_reducible apply Frame.modSensor
    | with_reducible apply Frame.raise
    | with_reducible apply Frame.raiseLane
    | with_reducible apply Frame.setF
    | with_reducible refine Frame.ite ?_ ?_
    | (try lift_lets -underBinder); intro x; refine Frame.cut (x := x) ?_ ?_ <;> [subst x; (clear_value x; intro _)]
    | (try lift_lets -underBinder); intro x; first | subst x | skip
    | fail_if_no_progress with_reducible refine Frame.upd ?_

theorem Frame.execThermalSample (h : Frame μ s₀ s) (t : Nat) (n : Nat) (x : Int) (ro : List Int) (h_sys : μ.sys = true) (h_wins : μ.wins = true) (h_tileH : μ.tileH = true) (h_health : μ.health = true) (h_ports : μ.ports = true) (h_pwr : μ.pwr = true) (h_mot : μ.mot = true) (h_thm : μ.thm = true) (h_flt : μ.flt = true) (h_cal : μ.cal = true) (h_svc : μ.svc = true) :
    ∃ s₁, execThermalSample t n x ro s = .next s₁ ∧ Frame μ s₀ s₁ := by
  refine ⟨_, rfl, ?_⟩
  repeat' first
    | with_reducible assumption
    | with_reducible apply Frame.at
    | with_reducible apply Frame.badReading
    | with_reducible apply Frame.checkFast
    | with_reducible apply Frame.checkLevels
    | with_reducible apply Frame.checkRate
    | with_reducible apply Frame.interlocks
    | with_reducible apply Frame.modSensor
    | with_reducible apply Frame.setF
    | with_reducible apply Frame.setFs
    | with_reducible apply Frame.takeBin
    | with_reducible refine Frame.ite ?_ ?_
    | with_reducible refine Frame.foldl ?_ ?_
    | (try lift_lets -underBinder); intro x; refine Frame.cut (x := x) ?_ ?_ <;> [subst x; (clear_value x; intro _)]
    | (try lift_lets -underBinder); intro x; first | subst x | skip
    | split
    | fail_if_no_progress dsimp only
    | fail_if_no_progress with_reducible refine Frame.upd ?_

theorem Frame.execOscillatorRecalibration (h : Frame μ s₀ s) (t : Nat) (d : Nat) (a : Int) (b : Int) (h_health : μ.health = true) (h_thm : μ.thm = true) (h_flt : μ.flt = true) :
    ∃ s₁, execOscillatorRecalibration t d a b s = .next s₁ ∧ Frame μ s₀ s₁ := by
  refine ⟨_, rfl, ?_⟩
  repeat' first
    | with_reducible assumption
    | with_reducible apply Frame.addF
    | with_reducible apply Frame.at
    | with_reducible apply Frame.incF
    | with_reducible apply Frame.raise
    | with_reducible refine Frame.ite ?_ ?_
    | (try lift_lets -underBinder); intro x; refine Frame.cut (x := x) ?_ ?_ <;> [subst x; (clear_value x; intro _)]
    | (try lift_lets -underBinder); intro x; first | subst x | skip
    | split
    | fail_if_no_progress dsimp only
    | fail_if_no_progress with_reducible refine Frame.upd ?_

theorem Frame.execThermalPauseStepEnd (h : Frame μ s₀ s) (t : Nat) (w : Nat) (h_sys : μ.sys = true) (h_wins : μ.wins = true) (h_health : μ.health = true) (h_mot : μ.mot = true) (h_thm : μ.thm = true) (h_flt : μ.flt = true) (h_cal : μ.cal = true) (h_svc : μ.svc = true) :
    ∃ s₁, execThermalPauseStepEnd t w s = .next s₁ ∧ Frame μ s₀ s₁ := by
  refine ⟨_, rfl, ?_⟩
  repeat' first
    | with_reducible assumption
    | with_reducible apply Frame.at
    | with_reducible apply Frame.modWin
    | with_reducible apply Frame.raise
    | with_reducible apply Frame.setFields
    | with_reducible apply Frame.showPausing
    | with_reducible apply Frame.thermalDusk
    | with_reducible apply Frame.thermalStep
    | with_reducible refine Frame.ite ?_ ?_
    | (try lift_lets -underBinder); intro x; refine Frame.cut (x := x) ?_ ?_ <;> [subst x; (clear_value x; intro _)]
    | (try lift_lets -underBinder); intro x; first | subst x | skip
    | split
    | fail_if_no_progress dsimp only
    | fail_if_no_progress with_reducible refine Frame.upd ?_

theorem Frame.execDuskFinishRecheck (h : Frame μ s₀ s) (t : Nat) (h_wins : μ.wins = true) :
    ∃ s₁, execDuskFinishRecheck t s = .next s₁ ∧ Frame μ s₀ s₁ := by
  refine ⟨_, rfl, ?_⟩
  repeat' first
    | with_reducible assumption
    | with_reducible apply Frame.at
    | with_reducible apply Frame.finishTest
    | with_reducible refine Frame.ite ?_ ?_
    | (try lift_lets -underBinder); intro x; refine Frame.cut (x := x) ?_ ?_ <;> [subst x; (clear_value x; intro _)]
    | (try lift_lets -underBinder); intro x; first | subst x | skip

theorem Frame.execStoreConverterResume (h : Frame μ s₀ s) (t : Nat) (h_pwr : μ.pwr = true) :
    ∃ s₁, execStoreConverterResume t s = .next s₁ ∧ Frame μ s₀ s₁ := by
  refine ⟨_, rfl, ?_⟩
  repeat' first
    | with_reducible assumption
    | with_reducible apply Frame.at
    | with_reducible apply Frame.updHoldup
    | with_reducible refine Frame.ite ?_ ?_
    | (try lift_lets -underBinder); intro x; refine Frame.cut (x := x) ?_ ?_ <;> [subst x; (clear_value x; intro _)]
    | (try lift_lets -underBinder); intro x; first | subst x | skip
    | split
    | fail_if_no_progress dsimp only
    | fail_if_no_progress with_reducible refine Frame.upd ?_

theorem Frame.execStoreChargingResume (h : Frame μ s₀ s) (t : Nat) :
    ∃ s₁, execStoreChargingResume t s = .next s₁ ∧ Frame μ s₀ s₁ := by
  refine ⟨_, rfl, ?_⟩
  repeat' first
    | with_reducible assumption
    | with_reducible apply Frame.at
    | with_reducible apply Frame.setF
    | with_reducible refine Frame.ite ?_ ?_
    | (try lift_lets -underBinder); intro x; refine Frame.cut (x := x) ?_ ?_ <;> [subst x; (clear_value x; intro _)]
    | (try lift_lets -underBinder); intro x; first | subst x | skip
    | split
    | fail_if_no_progress dsimp only
    | fail_if_no_progress with_reducible refine Frame.upd ?_

/-! ### Machine/RegOps.lean -/

theorem Frame.readReg (h : Frame μ s₀ s) (m : Nat) (off : Nat) (h_snaps : μ.snaps = true) :
    Frame μ s₀ (State.readReg s m off).1 := by
  delta State.readReg
  repeat' first
    | with_reducible assumption
    | with_reducible apply Frame.setReg
    | with_reducible refine Frame.ite ?_ ?_
    | with_reducible refine Frame.ite_fst ?_ ?_
    | (try lift_lets -underBinder); intro x; refine Frame.cut (x := x) ?_ ?_ <;> [subst x; (clear_value x; intro _)]
    | (try lift_lets -underBinder); intro x; first | subst x | skip
    | split
    | fail_if_no_progress dsimp only
    | fail_if_no_progress with_reducible refine Frame.upd ?_

theorem Frame.readReg_eq {c} {v} (h : Frame μ s₀ s) {m : Nat} {off : Nat} (e : State.readReg s m off = (c, v)) (h_snaps : μ.snaps = true) :
    Frame μ s₀ c := by
  have k := Frame.readReg h m off h_snaps
  rwa [e] at k

theorem Frame.plainWrite (h : Frame μ s₀ s) (off : Nat) (v : Word) :
    Frame μ s₀ (State.plainWrite s off v) := by
  delta State.plainWrite
  repeat' first
    | with_reducible assumption
    | with_reducible apply Frame.setReg
    | (try lift_lets -underBinder); intro x; refine Frame.cut (x := x) ?_ ?_ <;> [subst x; (clear_value x; intro _)]
    | (try lift_lets -underBinder); intro x; first | subst x | skip
    | split
    | fail_if_no_progress dsimp only
    | fail_if_no_progress with_reducible refine Frame.upd ?_

theorem Frame.writeLo (h : Frame μ s₀ s) (m : Nat) (off : Nat) (v : Word) (h_lows : μ.lows = true) :
    Frame μ s₀ (State.writeLo s m off v) := by
  delta State.writeLo
  repeat' first
    | with_reducible assumption
    | with_reducible refine Frame.ite ?_ ?_
    | (try lift_lets -underBinder); intro x; refine Frame.cut (x := x) ?_ ?_ <;> [subst x; (clear_value x; intro _)]
    | (try lift_lets -underBinder); intro x; first | subst x | skip
    | fail_if_no_progress with_reducible refine Frame.upd ?_

theorem Frame.writeHi (h : Frame μ s₀ s) (m : Nat) (off : Nat) (v : Word) (h_pos : μ.pos = true) (h_fire : μ.fire = true) (h_health : μ.health = true) (h_flt : μ.flt = true) :
    Frame μ s₀ (State.writeHi s m off v) := by
  delta State.writeHi
  repeat' first
    | with_reducible assumption
    | with_reducible apply Frame.plainWrite
    | with_reducible apply Frame.pmcLoad
    | with_reducible apply Frame.preset
    | with_reducible apply Frame.writeInject
    | with_reducible refine Frame.ite ?_ ?_
    | (try lift_lets -underBinder); intro x; refine Frame.cut (x := x) ?_ ?_ <;> [subst x; (clear_value x; intro _)]
    | (try lift_lets -underBinder); intro x; first | subst x | skip
    | split
    | fail_if_no_progress dsimp only
    | fail_if_no_progress with_reducible refine Frame.upd ?_

theorem Frame.ownWrite_mem (h : Frame μ s₀ s) (m off : Nat) (v : Word) (x : DawnTests) (h_nv : μ.nv = true) (h_sys : μ.sys = true) (h_cfg : μ.cfg = true) (h_fire : μ.fire = true) (h_wins : μ.wins = true) (h_noz : μ.noz = true) (h_tileH : μ.tileH = true) (h_lanes : μ.lanes = true) (h_health : μ.health = true) (h_comp : μ.comp = true) (h_host : μ.host = true) (h_dma : μ.dma = true) (h_ring : μ.ring = true) (h_ports : μ.ports = true) (h_pwr : μ.pwr = true) (h_mot : μ.mot = true) (h_flt : μ.flt = true) (h_cal : μ.cal = true) (h_pmc : μ.pmc = true) (h_clk : μ.clk = true) (h_svc : μ.svc = true) :
    ∀ c ∈ State.ownWrite s m off v x, Frame μ s₀ c := by
  delta State.ownWrite
  repeat' first
    | with_reducible refine Frame.opt_ite ?_ ?_
    | with_reducible refine Frame.opt_some ?_
    | with_reducible exact Frame.opt_none
    | (with_reducible refine Frame.opt_map ?_; intro k)
    | split
    | with_reducible assumption
    | with_reducible apply Frame.clockDate
    | with_reducible apply Frame.clockSet
    | with_reducible apply Frame.cqDoorbell
    | with_reducible apply Frame.hlthBypass
    | with_reducible apply Frame.hlthForce
    | with_reducible apply Frame.plainWrite
    | with_reducible apply Frame.raiseMot
    | with_reducible apply Frame.showHost
    | with_reducible apply Frame.sqDoorbell
    | with_reducible apply Frame.writeCalCtrl
    | with_reducible apply Frame.writeCalImport
    | with_reducible apply Frame.writeCmp
    | with_reducible apply Frame.writeDmaCtrl
    | with_reducible apply Frame.writeDumpHead
    | with_reducible apply Frame.writeEnable
    | with_reducible apply Frame.writeFltCtrl
    | with_reducible apply Frame.writeFltPend
    | with_reducible apply Frame.writeKey
    | with_reducible apply Frame.writeLock
    | with_reducible apply Frame.writeLogHead
    | with_reducible apply Frame.writeMotCmd
    | with_reducible apply Frame.writeNvCtrl
    | with_reducible apply Frame.writePmcCtrl
    | with_reducible apply Frame.writeRingCtrl
    | with_reducible apply Frame.writeSysCtrl
    | with_reducible apply Frame.writeTagCtrl
    | with_reducible apply Frame.writeTagStat
    | with_reducible apply Frame.writeUkey
    | with_reducible refine Frame.ite ?_ ?_
    | (try lift_lets -underBinder); intro x; refine Frame.cut (x := x) ?_ ?_ <;> [subst x; (clear_value x; intro _)]
    | (try lift_lets -underBinder); intro x; first | subst x | skip
    | split
    | fail_if_no_progress dsimp only
    | fail_if_no_progress with_reducible refine Frame.upd ?_

theorem Frame.ownWrite {c} (h : Frame μ s₀ s) {m off : Nat} {v : Word} {x : DawnTests} (e : State.ownWrite s m off v x = some c) (h_nv : μ.nv = true) (h_sys : μ.sys = true) (h_cfg : μ.cfg = true) (h_fire : μ.fire = true) (h_wins : μ.wins = true) (h_noz : μ.noz = true) (h_tileH : μ.tileH = true) (h_lanes : μ.lanes = true) (h_health : μ.health = true) (h_comp : μ.comp = true) (h_host : μ.host = true) (h_dma : μ.dma = true) (h_ring : μ.ring = true) (h_ports : μ.ports = true) (h_pwr : μ.pwr = true) (h_mot : μ.mot = true) (h_flt : μ.flt = true) (h_cal : μ.cal = true) (h_pmc : μ.pmc = true) (h_clk : μ.clk = true) (h_svc : μ.svc = true) :
    Frame μ s₀ c := Frame.ownWrite_mem h m off v x h_nv h_sys h_cfg h_fire h_wins h_noz h_tileH h_lanes h_health h_comp h_host h_dma h_ring h_ports h_pwr h_mot h_flt h_cal h_pmc h_clk h_svc c e

theorem Frame.writeReg (h : Frame μ s₀ s) (m : Nat) (off : Nat) (v : Word) (x : DawnTests) (h_lows : μ.lows = true) (h_nv : μ.nv = true) (h_sys : μ.sys = true) (h_cfg : μ.cfg = true) (h_pos : μ.pos = true) (h_fire : μ.fire = true) (h_wins : μ.wins = true) (h_noz : μ.noz = true) (h_tileH : μ.tileH = true) (h_lanes : μ.lanes = true) (h_health : μ.health = true) (h_comp : μ.comp = true) (h_host : μ.host = true) (h_dma : μ.dma = true) (h_ring : μ.ring = true) (h_ports : μ.ports = true) (h_pwr : μ.pwr = true) (h_mot : μ.mot = true) (h_flt : μ.flt = true) (h_cal : μ.cal = true) (h_pmc : μ.pmc = true) (h_clk : μ.clk = true) (h_svc : μ.svc = true) :
    Frame μ s₀ (State.writeReg s m off v x) := by
  delta State.writeReg
  repeat' first
    | with_reducible assumption
    | with_reducible refine Frame.ownWrite ?_ (by assumption) ‹_› ‹_› ‹_› ‹_› ‹_› ‹_› ‹_› ‹_› ‹_› ‹_› ‹_› ‹_› ‹_› ‹_› ‹_› ‹_› ‹_› ‹_› ‹_› ‹_› ‹_›
    | with_reducible apply Frame.plainWrite
    | with_reducible apply Frame.writeHi
    | with_reducible apply Frame.writeLo
    | with_reducible refine Frame.ite ?_ ?_
    | split
    | fail_if_no_progress with_reducible refine Frame.upd ?_

theorem Frame.msixWrite (h : Frame μ s₀ s) (off : Nat) (v : Word) (h_host : μ.host = true) (h_ring : μ.ring = true) :
    Frame μ s₀ (State.msixWrite s off v) := by
  delta State.msixWrite
  repeat' first
    | with_reducible assumption
    | with_reducible apply Frame.msix
    | with_reducible refine Frame.ite ?_ ?_
    | (try lift_lets -underBinder); intro x; refine Frame.cut (x := x) ?_ ?_ <;> [subst x; (clear_value x; intro _)]
    | (try lift_lets -underBinder); intro x; first | subst x | skip
    | fail_if_no_progress with_reducible refine Frame.upd ?_

theorem Frame.readRegs (m k : Nat) (h_snaps : μ.snaps = true) :
    ∀ {s} (off : Nat), Frame μ s₀ s → Frame μ s₀ (State.readRegs s m off k).1 := by
  induction k with
  | zero => intro s off h; exact h
  | succ k ih => intro s off h; exact ih (off + 4) (h.readReg m off h_snaps)

theorem Frame.readDone {y : State × List Nat} (h : Frame μ s₀ y.1) (g : List Nat → List Nat) :
    Frame μ s₀ (readDone g y).1 := h

theorem Frame.busRead (h : Frame μ s₀ s) (m : Nat) (off : Nat) (n : Nat) (h_snaps : μ.snaps = true) (h_health : μ.health = true) (h_flt : μ.flt = true) :
    Frame μ s₀ (State.busRead s m off n).1 := by
  delta State.busRead
  repeat' first
    | with_reducible assumption
    | with_reducible apply Frame.aliasRead
    | with_reducible refine Frame.aliasRead_eq ?_ (by assumption)
    | with_reducible apply Frame.drawn
    | with_reducible apply Frame.raise
    | with_reducible apply Frame.readRegs
    | with_reducible apply Frame.readDone
    | with_reducible refine Frame.readDone_eq ?_ (by assumption)
    | with_reducible refine Frame.ite ?_ ?_
    | with_reducible refine Frame.ite_fst ?_ ?_
    | (try lift_lets -underBinder); intro x; refine Frame.cut (x := x) ?_ ?_ <;> [subst x; (clear_value x; intro _)]
    | (try lift_lets -underBinder); intro x; first | subst x | skip
    | split

theorem Frame.busRead_eq {c} {v} (h : Frame μ s₀ s) {m : Nat} {off : Nat} {n : Nat} (e : State.busRead s m off n = (c, v)) (h_snaps : μ.snaps = true) (h_health : μ.health = true) (h_flt : μ.flt = true) :
    Frame μ s₀ c := by
  have k := Frame.busRead h m off n h_snaps h_health h_flt
  rwa [e] at k

theorem Frame.busWrite (h : Frame μ s₀ s) (m : Nat) (off : Nat) (bs : List Nat) (x : DawnTests) (h_lows : μ.lows = true) (h_nv : μ.nv = true) (h_sys : μ.sys = true) (h_cfg : μ.cfg = true) (h_pos : μ.pos = true) (h_fire : μ.fire = true) (h_wins : μ.wins = true) (h_noz : μ.noz = true) (h_tileH : μ.tileH = true) (h_lanes : μ.lanes = true) (h_health : μ.health = true) (h_comp : μ.comp = true) (h_host : μ.host = true) (h_dma : μ.dma = true) (h_ring : μ.ring = true) (h_ports : μ.ports = true) (h_pwr : μ.pwr = true) (h_mot : μ.mot = true) (h_flt : μ.flt = true) (h_cal : μ.cal = true) (h_pmc : μ.pmc = true) (h_clk : μ.clk = true) (h_svc : μ.svc = true) (h_form : μ.form = true) (h_staging : μ.staging = true) :
    Frame μ s₀ (State.busWrite s m off bs x) := by
  delta State.busWrite
  repeat' first
    | with_reducible assumption
    | with_reducible apply Frame.aliasWrite
    | with_reducible apply Frame.msixWrite
    | with_reducible apply Frame.putStaging
    | with_reducible apply Frame.raise
    | with_reducible apply Frame.writeReg
    | with_reducible refine Frame.ite ?_ ?_
    | (try lift_lets -underBinder); intro x; refine Frame.cut (x := x) ?_ ?_ <;> [subst x; (clear_value x; intro _)]
    | (try lift_lets -underBinder); intro x; first | subst x | skip

/-! ### Machine/Register.lean -/

theorem Frame.execRegisterWrite (h : Frame μ s₀ s) (t : Nat) (m : Master) (off : Nat) (data : List Nat) (x : DawnTests) (h_lows : μ.lows = true) (h_nv : μ.nv = true) (h_sys : μ.sys = true) (h_cfg : μ.cfg = true) (h_pos : μ.pos = true) (h_fire : μ.fire = true) (h_wins : μ.wins = true) (h_noz : μ.noz = true) (h_tileH : μ.tileH = true) (h_lanes : μ.lanes = true) (h_health : μ.health = true) (h_comp : μ.comp = true) (h_host : μ.host = true) (h_dma : μ.dma = true) (h_ring : μ.ring = true) (h_ports : μ.ports = true) (h_pwr : μ.pwr = true) (h_mot : μ.mot = true) (h_flt : μ.flt = true) (h_cal : μ.cal = true) (h_pmc : μ.pmc = true) (h_clk : μ.clk = true) (h_svc : μ.svc = true) (h_form : μ.form = true) (h_staging : μ.staging = true) :
    ∃ s₁, execRegisterWrite t m off data x s = .next s₁ ∧ Frame μ s₀ s₁ := by
  refine ⟨_, rfl, ?_⟩
  repeat' first
    | with_reducible assumption
    | with_reducible apply Frame.at
    | with_reducible apply Frame.busWrite

theorem Frame.answerRead (h : Frame μ s₀ s) (m : Nat) (off : Nat) (n : Nat) (h_snaps : μ.snaps = true) (h_health : μ.health = true) (h_flt : μ.flt = true) :
    Frame μ s₀ (State.answerRead s m off n) := by
  delta State.answerRead
  repeat' first
    | with_reducible assumption
    | with_reducible apply Frame.busRead
    | with_reducible refine Frame.busRead_eq ?_ (by assumption) ‹_› ‹_› ‹_›
    | with_reducible refine Frame.emit ?_ _ (.inr rfl)
    | (try lift_lets -underBinder); intro x; refine Frame.cut (x := x) ?_ ?_ <;> [subst x; (clear_value x; intro _)]
    | (try lift_lets -underBinder); intro x; first | subst x | skip
    | split

theorem Frame.execLoReadSnapshot (h : Frame μ s₀ s) (t : Nat) (m : Master) (off : Nat) (n : Nat) (h_snaps : μ.snaps = true) (h_health : μ.health = true) (h_flt : μ.flt = true) :
    ∃ s₁, execLoReadSnapshot t m off n s = .next s₁ ∧ Frame μ s₀ s₁ := by
  refine ⟨_, rfl, ?_⟩
  repeat' first
    | with_reducible assumption
    | with_reducible apply Frame.answerRead
    | with_reducible apply Frame.at

theorem Frame.execRcRead (h : Frame μ s₀ s) (t : Nat) (m : Master) (off : Nat) (n : Nat) (h_snaps : μ.snaps = true) (h_health : μ.health = true) (h_flt : μ.flt = true) :
    ∃ s₁, execRcRead t m off n s = .next s₁ ∧ Frame μ s₀ s₁ := by
  refine ⟨_, rfl, ?_⟩
  repeat' first
    | with_reducible assumption
    | with_reducible apply Frame.answerRead
    | with_reducible apply Frame.at

theorem Frame.execClkDateRead (h : Frame μ s₀ s) (t : Nat) (m : Master) (h_snaps : μ.snaps = true) (h_health : μ.health = true) (h_flt : μ.flt = true) :
    ∃ s₁, execClkDateRead t m s = .next s₁ ∧ Frame μ s₀ s₁ := by
  refine ⟨_, rfl, ?_⟩
  repeat' first
    | with_reducible assumption
    | with_reducible apply Frame.answerRead
    | with_reducible apply Frame.at

theorem Frame.execHiWritePair (h : Frame μ s₀ s) (t : Nat) (m : Master) (off : Nat) (v : Word) (h_lows : μ.lows = true) (h_nv : μ.nv = true) (h_sys : μ.sys = true) (h_cfg : μ.cfg = true) (h_pos : μ.pos = true) (h_fire : μ.fire = true) (h_wins : μ.wins = true) (h_noz : μ.noz = true) (h_tileH : μ.tileH = true) (h_lanes : μ.lanes = true) (h_health : μ.health = true) (h_comp : μ.comp = true) (h_host : μ.host = true) (h_dma : μ.dma = true) (h_ring : μ.ring = true) (h_ports : μ.ports = true) (h_pwr : μ.pwr = true) (h_mot : μ.mot = true) (h_flt : μ.flt = true) (h_cal : μ.cal = true) (h_pmc : μ.pmc = true) (h_clk : μ.clk = true) (h_svc : μ.svc = true) :
    ∃ s₁, execHiWritePair t m off v s = .next s₁ ∧ Frame μ s₀ s₁ := by
  refine ⟨_, rfl, ?_⟩
  repeat' first
    | with_reducible assumption
    | with_reducible apply Frame.at
    | with_reducible apply Frame.onWrite
    | with_reducible apply Frame.writeReg
    | with_reducible refine Frame.ite ?_ ?_
    | (try lift_lets -underBinder); intro x; refine Frame.cut (x := x) ?_ ?_ <;> [subst x; (clear_value x; intro _)]
    | (try lift_lets -underBinder); intro x; first | subst x | skip

theorem Frame.execBar2Access (h : Frame μ s₀ s) (t : Nat) (a : Nat) (n : Nat) (data : Option (List Nat)) (x : DawnTests) (h_snaps : μ.snaps = true) (h_lows : μ.lows = true) (h_nv : μ.nv = true) (h_sys : μ.sys = true) (h_cfg : μ.cfg = true) (h_pos : μ.pos = true) (h_fire : μ.fire = true) (h_wins : μ.wins = true) (h_noz : μ.noz = true) (h_tileH : μ.tileH = true) (h_lanes : μ.lanes = true) (h_health : μ.health = true) (h_comp : μ.comp = true) (h_host : μ.host = true) (h_dma : μ.dma = true) (h_ring : μ.ring = true) (h_ports : μ.ports = true) (h_pwr : μ.pwr = true) (h_mot : μ.mot = true) (h_flt : μ.flt = true) (h_cal : μ.cal = true) (h_pmc : μ.pmc = true) (h_clk : μ.clk = true) (h_svc : μ.svc = true) (h_form : μ.form = true) (h_staging : μ.staging = true) :
    ∃ s₁, execBar2Access t a n data x s = .next s₁ ∧ Frame μ s₀ s₁ := by
  refine ⟨_, rfl, ?_⟩
  repeat' first
    | with_reducible assumption
    | with_reducible apply Frame.addF
    | with_reducible apply Frame.answerRead
    | with_reducible apply Frame.at
    | with_reducible apply Frame.busWrite
    | with_reducible refine Frame.emit ?_ _ (.inr rfl)
    | with_reducible apply Frame.sendReq
    | with_reducible refine Frame.ite ?_ ?_
    | (try lift_lets -underBinder); intro x; refine Frame.cut (x := x) ?_ ?_ <;> [subst x; (clear_value x; intro _)]
    | (try lift_lets -underBinder); intro x; first | subst x | skip
    | split
    | fail_if_no_progress dsimp only
    | fail_if_no_progress with_reducible refine Frame.upd ?_

theorem Frame.execRegRd (h : Frame μ s₀ s) (t : Nat) (port : Nat) (p : RingPkt) (h_snaps : μ.snaps = true) (h_health : μ.health = true) (h_ring : μ.ring = true) (h_flt : μ.flt = true) :
    ∃ s₁, execRegRd t port p s = .next s₁ ∧ Frame μ s₀ s₁ := by
  refine ⟨_, rfl, ?_⟩
  repeat' first
    | with_reducible assumption
    | with_reducible apply Frame.at
    | with_reducible apply Frame.busRead
    | with_reducible refine Frame.busRead_eq ?_ (by assumption) ‹_› ‹_› ‹_›
    | with_reducible apply Frame.packetIn
    | with_reducible apply Frame.sendRsp
    | with_reducible refine Frame.ite ?_ ?_
    | (try lift_lets -underBinder); intro x; refine Frame.cut (x := x) ?_ ?_ <;> [subst x; (clear_value x; intro _)]
    | (try lift_lets -underBinder); intro x; first | subst x | skip
    | split

theorem Frame.execRegWr (h : Frame μ s₀ s) (t : Nat) (port : Nat) (p : RingPkt) (x : DawnTests) (h_lows : μ.lows = true) (h_nv : μ.nv = true) (h_sys : μ.sys = true) (h_cfg : μ.cfg = true) (h_pos : μ.pos = true) (h_fire : μ.fire = true) (h_wins : μ.wins = true) (h_noz : μ.noz = true) (h_tileH : μ.tileH = true) (h_lanes : μ.lanes = true) (h_health : μ.health = true) (h_comp : μ.comp = true) (h_host : μ.host = true) (h_dma : μ.dma = true) (h_ring : μ.ring = true) (h_ports : μ.ports = true) (h_pwr : μ.pwr = true) (h_mot : μ.mot = true) (h_flt : μ.flt = true) (h_cal : μ.cal = true) (h_pmc : μ.pmc = true) (h_clk : μ.clk = true) (h_svc : μ.svc = true) (h_form : μ.form = true) (h_staging : μ.staging = true) :
    ∃ s₁, execRegWr t port p x s = .next s₁ ∧ Frame μ s₀ s₁ := by
  refine ⟨_, rfl, ?_⟩
  repeat' first
    | with_reducible assumption
    | with_reducible apply Frame.at
    | with_reducible apply Frame.busWrite
    | with_reducible apply Frame.reqIn
    | with_reducible apply Frame.sendRsp
    | with_reducible refine Frame.ite ?_ ?_
    | (try lift_lets -underBinder); intro x; refine Frame.cut (x := x) ?_ ?_ <;> [subst x; (clear_value x; intro _)]
    | (try lift_lets -underBinder); intro x; first | subst x | skip

/-! ### Machine/Service.lean -/

theorem Frame.tap (h : Frame μ s₀ s) (ir : Nat) (g : State → State) (h_g : ∀ s, Frame μ s₀ s → Frame μ s₀ (g s)) (h_svc : μ.svc = true) :
    Frame μ s₀ (State.tap s ir g) := by
  delta State.tap
  repeat' first
    | with_reducible assumption
    | with_reducible apply h_g
    | with_reducible refine Frame.ite ?_ ?_
    | fail_if_no_progress with_reducible refine Frame.upd ?_

theorem Frame.execExtest (h : Frame μ s₀ s) (t : Nat) (h_svc : μ.svc = true) :
    ∃ s₁, execExtest t s = .next s₁ ∧ Frame μ s₀ s₁ := by
  refine ⟨_, rfl, ?_⟩
  repeat' first
    | with_reducible assumption
    | with_reducible apply Frame.at
    | with_reducible apply Frame.tap
    | (try lift_lets -underBinder); intro x; refine Frame.cut (x := x) ?_ ?_ <;> [subst x; (clear_value x; intro _)]
    | (try lift_lets -underBinder); intro x; first | subst x | skip

theorem Frame.execSamplePreload (h : Frame μ s₀ s) (t : Nat) (h_svc : μ.svc = true) :
    ∃ s₁, execSamplePreload t s = .next s₁ ∧ Frame μ s₀ s₁ := by
  refine ⟨_, rfl, ?_⟩
  repeat' first
    | with_reducible assumption
    | with_reducible apply Frame.at
    | with_reducible apply Frame.tap
    | (try lift_lets -underBinder); intro x; refine Frame.cut (x := x) ?_ ?_ <;> [subst x; (clear_value x; intro _)]
    | (try lift_lets -underBinder); intro x; first | subst x | skip

theorem Frame.execBypass (h : Frame μ s₀ s) (t : Nat) (h_svc : μ.svc = true) :
    ∃ s₁, execBypass t s = .next s₁ ∧ Frame μ s₀ s₁ := by
  refine ⟨_, rfl, ?_⟩
  repeat' first
    | with_reducible assumption
    | with_reducible apply Frame.at
    | with_reducible apply Frame.tap
    | (try lift_lets -underBinder); intro x; refine Frame.cut (x := x) ?_ ?_ <;> [subst x; (clear_value x; intro _)]
    | (try lift_lets -underBinder); intro x; first | subst x | skip

theorem Frame.fwState (h : Frame μ s₀ s) (c : Nat) (h_svc : μ.svc = true) :
    Frame μ s₀ (State.fwState s c) := by
  delta State.fwState
  repeat' first
    | with_reducible assumption
    | fail_if_no_progress with_reducible refine Frame.upd ?_

theorem Frame.serviceAct (h : Frame μ s₀ s) (g : State → State) (h_g : ∀ s, Frame μ s₀ s → Frame μ s₀ (g s)) (h_svc : μ.svc = true) :
    Frame μ s₀ (State.serviceAct s g) := by
  delta State.serviceAct
  repeat' first
    | with_reducible assumption
    | with_reducible apply h_g
    | with_reducible apply Frame.fwState
    | with_reducible refine Frame.ite ?_ ?_

theorem Frame.execFwStatus (h : Frame μ s₀ s) (t : Nat) (h_svc : μ.svc = true) :
    ∃ s₁, execFwStatus t s = .next s₁ ∧ Frame μ s₀ s₁ := by
  refine ⟨_, rfl, ?_⟩
  repeat' first
    | with_reducible assumption
    | with_reducible apply Frame.at
    | with_reducible refine Frame.emit ?_ _ (.inr rfl)
    | with_reducible apply Frame.tap
    | with_reducible refine Frame.ite ?_ ?_
    | (try lift_lets -underBinder); intro x; refine Frame.cut (x := x) ?_ ?_ <;> [subst x; (clear_value x; intro _)]
    | (try lift_lets -underBinder); intro x; first | subst x | skip

theorem Frame.execFwLoad (h : Frame μ s₀ s) (t : Nat) (w : Nat) (h_svc : μ.svc = true) :
    ∃ s₁, execFwLoad t w s = .next s₁ ∧ Frame μ s₀ s₁ := by
  refine ⟨_, rfl, ?_⟩
  repeat' first
    | with_reducible assumption
    | with_reducible apply Frame.at
    | with_reducible apply Frame.fwState
    | with_reducible apply Frame.serviceAct
    | with_reducible apply Frame.tap
    | with_reducible refine Frame.ite ?_ ?_
    | (try lift_lets -underBinder); intro x; refine Frame.cut (x := x) ?_ ?_ <;> [subst x; (clear_value x; intro _)]
    | (try lift_lets -underBinder); intro x; first | subst x | skip
    | fail_if_no_progress with_reducible refine Frame.upd ?_

theorem Frame.execFwCommit (h : Frame μ s₀ s) (t : Nat) (v : Nat) (h_svc : μ.svc = true) :
    ∃ s₁, execFwCommit t v s = .next s₁ ∧ Frame μ s₀ s₁ := by
  refine ⟨_, rfl, ?_⟩
  repeat' first
    | with_reducible assumption
    | with_reducible apply Frame.at
    | with_reducible apply Frame.fwState
    | with_reducible apply Frame.serviceAct
    | with_reducible apply Frame.tap
    | (try lift_lets -underBinder); intro x; refine Frame.cut (x := x) ?_ ?_ <;> [subst x; (clear_value x; intro _)]
    | (try lift_lets -underBinder); intro x; first | subst x | skip
    | fail_if_no_progress with_reducible refine Frame.upd ?_

theorem Frame.execFwCommitComplete (h : Frame μ s₀ s) (t : Nat) (good : Bool) (h_nv : μ.nv = true) (h_svc : μ.svc = true) :
    ∃ s₁, execFwCommitComplete t good s = .next s₁ ∧ Frame μ s₀ s₁ := by
  refine ⟨_, rfl, ?_⟩
  repeat' first
    | with_reducible assumption
    | with_reducible apply Frame.at
    | with_reducible apply Frame.fwState
    | with_reducible refine Frame.ite ?_ ?_
    | (try lift_lets -underBinder); intro x; refine Frame.cut (x := x) ?_ ?_ <;> [subst x; (clear_value x; intro _)]
    | (try lift_lets -underBinder); intro x; first | subst x | skip
    | fail_if_no_progress with_reducible refine Frame.upd ?_

theorem Frame.execLockClear (h : Frame μ s₀ s) (t : Nat) (v : Nat) (h_nv : μ.nv = true) (h_svc : μ.svc = true) :
    ∃ s₁, execLockClear t v s = .next s₁ ∧ Frame μ s₀ s₁ := by
  refine ⟨_, rfl, ?_⟩
  repeat' first
    | with_reducible assumption
    | with_reducible apply Frame.at
    | with_reducible apply Frame.fwState
    | with_reducible apply Frame.serviceAct
    | with_reducible apply Frame.tap
    | with_reducible refine Frame.ite ?_ ?_
    | (try lift_lets -underBinder); intro x; refine Frame.cut (x := x) ?_ ?_ <;> [subst x; (clear_value x; intro _)]
    | (try lift_lets -underBinder); intro x; first | subst x | skip
    | fail_if_no_progress with_reducible refine Frame.upd ?_

theorem Frame.execArpRequest (h : Frame μ s₀ s) (t : Nat) (a : Nat) :
    ∃ s₁, execArpRequest t a s = .next s₁ ∧ Frame μ s₀ s₁ := by
  refine ⟨_, rfl, ?_⟩
  repeat' first
    | with_reducible assumption
    | with_reducible apply Frame.at
    | with_reducible refine Frame.emit ?_ _ (.inr rfl)
    | with_reducible refine Frame.ite ?_ ?_
    | (try lift_lets -underBinder); intro x; refine Frame.cut (x := x) ?_ ?_ <;> [subst x; (clear_value x; intro _)]
    | (try lift_lets -underBinder); intro x; first | subst x | skip

theorem Frame.execIcmpEcho (h : Frame μ s₀ s) (t : Nat) (src : Nat) (data : List Nat) :
    ∃ s₁, execIcmpEcho t src data s = .next s₁ ∧ Frame μ s₀ s₁ := by
  refine ⟨_, rfl, ?_⟩
  repeat' first
    | with_reducible assumption
    | with_reducible apply Frame.at
    | with_reducible refine Frame.emit ?_ _ (.inr rfl)
    | with_reducible refine Frame.ite ?_ ?_
    | (try lift_lets -underBinder); intro x; refine Frame.cut (x := x) ?_ ?_ <;> [subst x; (clear_value x; intro _)]
    | (try lift_lets -underBinder); intro x; first | subst x | skip

theorem Frame.execRegisterReadService (h : Frame μ s₀ s) (t : Nat) (src : Nat) (port : Nat) (data : List Nat) :
    ∃ s₁, execRegisterReadService t src port data s = .next s₁ ∧ Frame μ s₀ s₁ := by
  refine ⟨_, rfl, ?_⟩
  repeat' first
    | with_reducible assumption
    | with_reducible apply Frame.at
    | with_reducible apply Frame.drawn
    | with_reducible refine Frame.emit ?_ _ (.inr rfl)
    | with_reducible refine Frame.ite ?_ ?_
    | (try lift_lets -underBinder); intro x; refine Frame.cut (x := x) ?_ ?_ <;> [subst x; (clear_value x; intro _)]
    | (try lift_lets -underBinder); intro x; first | subst x | skip

theorem Frame.modFluid (h : Frame μ s₀ s) (k : Nat) (g : Fluid → Fluid) (h_svc : μ.svc = true) :
    Frame μ s₀ (State.modFluid s k g) := by
  delta State.modFluid
  repeat' first
    | with_reducible assumption
    | with_reducible refine Frame.ite ?_ ?_
    | fail_if_no_progress with_reducible refine Frame.upd ?_

theorem Frame.fluidNext (h : Frame μ s₀ s) (k : Nat) (h_svc : μ.svc = true) :
    Frame μ s₀ (State.fluidNext s k) := by
  delta State.fluidNext
  repeat' first
    | with_reducible assumption
    | with_reducible refine Frame.emit ?_ _ (.inr rfl)
    | with_reducible apply Frame.modFluid
    | (try lift_lets -underBinder); intro x; refine Frame.cut (x := x) ?_ ?_ <;> [subst x; (clear_value x; intro _)]
    | (try lift_lets -underBinder); intro x; first | subst x | skip
    | split
    | fail_if_no_progress with_reducible refine Frame.upd ?_

theorem Frame.execFluidBridgeDatagram (h : Frame μ s₀ s) (t : Nat) (bus : Nat) (src : Nat) (port : Nat) (data : List Nat) (busy : Bool) (h_svc : μ.svc = true) :
    ∃ s₁, execFluidBridgeDatagram t bus src port data busy s = .next s₁ ∧ Frame μ s₀ s₁ := by
  refine ⟨_, rfl, ?_⟩
  repeat' first
    | with_reducible assumption
    | with_reducible apply Frame.at
    | with_reducible apply Frame.fluidNext
    | with_reducible apply Frame.modFluid
    | with_reducible refine Frame.ite ?_ ?_
    | (try lift_lets -underBinder); intro x; refine Frame.cut (x := x) ?_ ?_ <;> [subst x; (clear_value x; intro _)]
    | (try lift_lets -underBinder); intro x; first | subst x | skip
    | fail_if_no_progress with_reducible refine Frame.upd ?_

theorem Frame.execFluidBusIdle (h : Frame μ s₀ s) (t : Nat) (bus : Nat) (data : List Nat) (h_svc : μ.svc = true) :
    ∃ s₁, execFluidBusIdle t bus data s = .next s₁ ∧ Frame μ s₀ s₁ := by
  refine ⟨_, rfl, ?_⟩
  repeat' first
    | with_reducible assumption
    | with_reducible apply Frame.at
    | with_reducible refine Frame.emit ?_ _ (.inr rfl)
    | with_reducible apply Frame.fluidNext
    | with_reducible apply Frame.modFluid
    | with_reducible refine Frame.ite ?_ ?_
    | with_reducible refine Frame.foldl ?_ ?_
    | (try lift_lets -underBinder); intro x; refine Frame.cut (x := x) ?_ ?_ <;> [subst x; (clear_value x; intro _)]
    | (try lift_lets -underBinder); intro x; first | subst x | skip
    | split
    | fail_if_no_progress dsimp only
    | fail_if_no_progress with_reducible refine Frame.upd ?_

theorem Frame.execEncoderSupplyShort (h : Frame μ s₀ s) (t : Nat) (n : Nat) (h_health : μ.health = true) (h_flt : μ.flt = true) :
    ∃ s₁, execEncoderSupplyShort t n s = .next s₁ ∧ Frame μ s₀ s₁ := by
  refine ⟨_, rfl, ?_⟩
  repeat' first
    | with_reducible assumption
    | with_reducible apply Frame.at
    | with_reducible apply Frame.raise
    | with_reducible refine Frame.ite ?_ ?_
    | (try lift_lets -underBinder); intro x; refine Frame.cut (x := x) ?_ ?_ <;> [subst x; (clear_value x; intro _)]
    | (try lift_lets -underBinder); intro x; first | subst x | skip

theorem Frame.execCueVinLow (h : Frame μ s₀ s) (t : Nat) (c : Nat) (h_health : μ.health = true) (h_flt : μ.flt = true) (h_svc : μ.svc = true) :
    ∃ s₁, execCueVinLow t c s = .next s₁ ∧ Frame μ s₀ s₁ := by
  refine ⟨_, rfl, ?_⟩
  repeat' first
    | with_reducible assumption
    | with_reducible apply Frame.at
    | with_reducible apply Frame.showCues
    | with_reducible refine Frame.ite ?_ ?_
    | (try lift_lets -underBinder); intro x; refine Frame.cut (x := x) ?_ ?_ <;> [subst x; (clear_value x; intro _)]
    | (try lift_lets -underBinder); intro x; first | subst x | skip
    | fail_if_no_progress with_reducible refine Frame.upd ?_

theorem Frame.execCueVinRestored (h : Frame μ s₀ s) (t : Nat) (c : Nat) (h_health : μ.health = true) (h_flt : μ.flt = true) (h_svc : μ.svc = true) :
    ∃ s₁, execCueVinRestored t c s = .next s₁ ∧ Frame μ s₀ s₁ := by
  refine ⟨_, rfl, ?_⟩
  repeat' first
    | with_reducible assumption
    | with_reducible apply Frame.at
    | with_reducible apply Frame.showCues
    | (try lift_lets -underBinder); intro x; refine Frame.cut (x := x) ?_ ?_ <;> [subst x; (clear_value x; intro _)]
    | (try lift_lets -underBinder); intro x; first | subst x | skip
    | fail_if_no_progress with_reducible refine Frame.upd ?_

theorem Frame.execCuePulseEnd (h : Frame μ s₀ s) (t : Nat) (n : Nat) (h_health : μ.health = true) (h_flt : μ.flt = true) (h_svc : μ.svc = true) :
    ∃ s₁, execCuePulseEnd t n s = .next s₁ ∧ Frame μ s₀ s₁ := by
  refine ⟨_, rfl, ?_⟩
  repeat' first
    | with_reducible assumption
    | with_reducible apply Frame.at
    | with_reducible apply Frame.cuePulse
    | with_reducible apply Frame.driveCue
    | with_reducible refine Frame.ite ?_ ?_
    | (try lift_lets -underBinder); intro x; refine Frame.cut (x := x) ?_ ?_ <;> [subst x; (clear_value x; intro _)]
    | (try lift_lets -underBinder); intro x; first | subst x | skip
    | split
    | fail_if_no_progress dsimp only
    | fail_if_no_progress with_reducible refine Frame.upd ?_

theorem Frame.execCueOutputOverload (h : Frame μ s₀ s) (t : Nat) (n : Nat) (h_health : μ.health = true) (h_flt : μ.flt = true) (h_svc : μ.svc = true) :
    ∃ s₁, execCueOutputOverload t n s = .next s₁ ∧ Frame μ s₀ s₁ := by
  refine ⟨_, rfl, ?_⟩
  repeat' first
    | with_reducible assumption
    | with_reducible apply Frame.at
    | with_reducible apply Frame.driveCue
    | with_reducible refine Frame.ite ?_ ?_
    | (try lift_lets -underBinder); intro x; refine Frame.cut (x := x) ?_ ?_ <;> [subst x; (clear_value x; intro _)]
    | (try lift_lets -underBinder); intro x; first | subst x | skip
    | fail_if_no_progress with_reducible refine Frame.upd ?_

theorem Frame.execCueOverloadRetry (h : Frame μ s₀ s) (t : Nat) (n : Nat) (h_health : μ.health = true) (h_flt : μ.flt = true) (h_svc : μ.svc = true) :
    ∃ s₁, execCueOverloadRetry t n s = .next s₁ ∧ Frame μ s₀ s₁ := by
  refine ⟨_, rfl, ?_⟩
  repeat' first
    | with_reducible assumption
    | with_reducible apply Frame.at
    | with_reducible apply Frame.driveCue
    | with_reducible refine Frame.ite ?_ ?_
    | (try lift_lets -underBinder); intro x; refine Frame.cut (x := x) ?_ ?_ <;> [subst x; (clear_value x; intro _)]
    | (try lift_lets -underBinder); intro x; first | subst x | skip
    | split
    | fail_if_no_progress dsimp only
    | fail_if_no_progress with_reducible refine Frame.upd ?_

theorem Frame.startPulse (h : Frame μ s₀ s) (len : Nat) (h_sys : μ.sys = true) (h_wins : μ.wins = true) (h_health : μ.health = true) (h_flt : μ.flt = true) (h_svc : μ.svc = true) :
    Frame μ s₀ (State.startPulse s len) := by
  delta State.startPulse
  repeat' first
    | with_reducible assumption
    | with_reducible apply Frame.enterNoon
    | with_reducible apply Frame.noPattern
    | with_reducible apply Frame.raise
    | with_reducible refine Frame.ite ?_ ?_
    | (try lift_lets -underBinder); intro x; refine Frame.cut (x := x) ?_ ?_ <;> [subst x; (clear_value x; intro _)]
    | (try lift_lets -underBinder); intro x; first | subst x | skip
    | fail_if_no_progress with_reducible refine Frame.upd ?_

theorem Frame.cueFunction (h : Frame μ s₀ s) (n : Nat) (h_sys : μ.sys = true) (h_pos : μ.pos = true) (h_fire : μ.fire = true) (h_wins : μ.wins = true) (h_tileH : μ.tileH = true) (h_lanes : μ.lanes = true) (h_health : μ.health = true) (h_comp : μ.comp = true) (h_host : μ.host = true) (h_dma : μ.dma = true) (h_ring : μ.ring = true) (h_ports : μ.ports = true) (h_pwr : μ.pwr = true) (h_mot : μ.mot = true) (h_flt : μ.flt = true) (h_cal : μ.cal = true) (h_pmc : μ.pmc = true) (h_svc : μ.svc = true) :
    Frame μ s₀ (State.cueFunction s n) := by
  delta State.cueFunction
  repeat' first
    | with_reducible assumption
    | with_reducible apply Frame.closeWin
    | with_reducible apply Frame.incF
    | with_reducible apply Frame.openWin
    | with_reducible apply Frame.runRequest
    | with_reducible apply Frame.stopRequest
    | (try lift_lets -underBinder); intro x; refine Frame.cut (x := x) ?_ ?_ <;> [subst x; (clear_value x; intro _)]
    | (try lift_lets -underBinder); intro x; first | subst x | skip
    | split
    | fail_if_no_progress dsimp only
    | fail_if_no_progress with_reducible refine Frame.upd ?_

theorem Frame.execCueInputEdge (h : Frame μ s₀ s) (t : Nat) (n : Nat) (level : Bool) (h_sys : μ.sys = true) (h_pos : μ.pos = true) (h_fire : μ.fire = true) (h_wins : μ.wins = true) (h_tileH : μ.tileH = true) (h_lanes : μ.lanes = true) (h_health : μ.health = true) (h_comp : μ.comp = true) (h_host : μ.host = true) (h_dma : μ.dma = true) (h_ring : μ.ring = true) (h_ports : μ.ports = true) (h_pwr : μ.pwr = true) (h_mot : μ.mot = true) (h_flt : μ.flt = true) (h_cal : μ.cal = true) (h_pmc : μ.pmc = true) (h_svc : μ.svc = true) :
    ∃ s₁, execCueInputEdge t n level s = .next s₁ ∧ Frame μ s₀ s₁ := by
  refine ⟨_, rfl, ?_⟩
  repeat' first
    | with_reducible assumption
    | with_reducible apply Frame.at
    | with_reducible apply Frame.cueFunction
    | with_reducible apply Frame.emitSrc
    | with_reducible apply Frame.raise
    | with_reducible apply Frame.startPulse
    | with_reducible refine Frame.ite ?_ ?_
    | (try lift_lets -underBinder); intro x; refine Frame.cut (x := x) ?_ ?_ <;> [subst x; (clear_value x; intro _)]
    | (try lift_lets -underBinder); intro x; first | subst x | skip
    | split
    | fail_if_no_progress dsimp only
    | fail_if_no_progress with_reducible refine Frame.upd ?_

theorem Frame.execPllLossOfLock (h : Frame μ s₀ s) (t : Nat) (die : Nat) (h_health : μ.health = true) (h_flt : μ.flt = true) :
    ∃ s₁, execPllLossOfLock t die s = .next s₁ ∧ Frame μ s₀ s₁ := by
  refine ⟨_, rfl, ?_⟩
  repeat' first
    | with_reducible assumption
    | with_reducible apply Frame.at
    | with_reducible apply Frame.raiseAs
    | with_reducible refine Frame.ite ?_ ?_
    | (try lift_lets -underBinder); intro x; refine Frame.cut (x := x) ?_ ?_ <;> [subst x; (clear_value x; intro _)]
    | (try lift_lets -underBinder); intro x; first | subst x | skip
    | fail_if_no_progress with_reducible refine Frame.upd ?_

theorem Frame.execPllRelock (h : Frame μ s₀ s) (t : Nat) (die : Nat) (h_health : μ.health = true) :
    ∃ s₁, execPllRelock t die s = .next s₁ ∧ Frame μ s₀ s₁ := by
  refine ⟨_, rfl, ?_⟩
  repeat' first
    | with_reducible assumption
    | with_reducible apply Frame.at
    | with_reducible refine Frame.ite ?_ ?_
    | (try lift_lets -underBinder); intro x; refine Frame.cut (x := x) ?_ ?_ <;> [subst x; (clear_value x; intro _)]
    | (try lift_lets -underBinder); intro x; first | subst x | skip
    | fail_if_no_progress with_reducible refine Frame.upd ?_

theorem Frame.execLockstepDisagreement (h : Frame μ s₀ s) (t : Nat) (pair : Nat) (pc : Nat) (h_health : μ.health = true) (h_flt : μ.flt = true) :
    ∃ s₁, execLockstepDisagreement t pair pc s = .next s₁ ∧ Frame μ s₀ s₁ := by
  refine ⟨_, rfl, ?_⟩
  repeat' first
    | with_reducible assumption
    | with_reducible apply Frame.at
    | with_reducible apply Frame.raiseAs
    | with_reducible refine Frame.ite ?_ ?_
    | (try lift_lets -underBinder); intro x; refine Frame.cut (x := x) ?_ ?_ <;> [subst x; (clear_value x; intro _)]
    | (try lift_lets -underBinder); intro x; first | subst x | skip

theorem Frame.execPerstRelease (h : Frame μ s₀ s) (t : Nat) (c : HostCfg) (h_host : μ.host = true) :
    ∃ s₁, execPerstRelease t c s = .next s₁ ∧ Frame μ s₀ s₁ := by
  refine ⟨_, rfl, ?_⟩
  repeat' first
    | with_reducible assumption
    | with_reducible apply Frame.at
    | with_reducible apply Frame.showHost
    | with_reducible refine Frame.ite ?_ ?_
    | (try lift_lets -underBinder); intro x; refine Frame.cut (x := x) ?_ ?_ <;> [subst x; (clear_value x; intro _)]
    | (try lift_lets -underBinder); intro x; first | subst x | skip
    | fail_if_no_progress with_reducible refine Frame.upd ?_

end Sys2Proof.Machine
end

