-- ==== Sys2Proof/Laws/GrowOps.lean ====
section
/-!
SUPPORT. The operations and commands that only add to what waits in the event fabric and at the dies for the hub, and to the outputs. Each proof walks through the
operation's own structure and cites the lemmas of what it calls.
-/
set_option linter.unusedTactic false
set_option linter.unreachableTactic false
set_option linter.unusedVariables false
namespace Sys2Proof.Machine
set_option Elab.async false
variable {s₀ s : State}

/-- From `s₀` to `s` events and messages that wait, and outputs, have only been added (R129, R415). -/
structure Grow (s₀ s : State) : Prop where
  fabric : s₀.pos.fabric <+: s.pos.fabric
  wire : s₀.flt.wire <+: s.flt.wire
  out : s₀.out <:+ s.out

theorem Grow.refl : Grow s s := ⟨List.prefix_refl _, List.prefix_refl _, List.suffix_refl _⟩

theorem Grow.trans {s₁ s₂ : State} (h : Grow s₀ s₁) (k : Grow s₁ s₂) : Grow s₀ s₂ :=
  ⟨h.1.trans k.1, h.2.trans k.2, h.3.trans k.3⟩

theorem Grow.setReg (h : Grow s₀ s) (o : Nat) (w : Word) : Grow s₀ (s.setReg o w) := ⟨h.1, h.2, h.3⟩

section
variable (h : Grow s₀ s) (fd : Field)
include h
theorem Grow.setF (v : Nat) : Grow s₀ (s.setF fd v) := h.setReg _ _
theorem Grow.setFs (v : Int) : Grow s₀ (s.setFs fd v) := h.setReg _ _
theorem Grow.setFb (b : Bool) : Grow s₀ (s.setFb fd b) := h.setReg _ _
theorem Grow.addF (k : Nat) : Grow s₀ (s.addF fd k) := h.setReg _ _
theorem Grow.incF (k : Nat) : Grow s₀ (s.incF fd k) := h.setReg _ _
end

theorem Grow.setFields_nil (h : Grow s₀ s) : Grow s₀ (s.setFields []) := h
theorem Grow.setFields_cons {fd : Field} {v : Nat} {l : List (Field × Nat)} (h : Grow s₀ ((s.setF fd v).setFields l)) :
    Grow s₀ (s.setFields ((fd, v) :: l)) := h
theorem Grow.emit (h : Grow s₀ s) (o : Output) : Grow s₀ (s.emit o) := ⟨h.1, h.2, h.3.trans (List.suffix_cons _ _)⟩
theorem Grow.drawn (h : Grow s₀ s) : Grow s₀ s.drawn := ⟨h.1, h.2, h.3⟩
theorem Grow.draw (h : Grow s₀ s) (k : Nat) : Grow s₀ { s with draws := s.draws + k } := ⟨h.1, h.2, h.3⟩

theorem Grow.ite {p : Prop} [Decidable p] {x y : State} (hx : Grow s₀ x) (hy : Grow s₀ y) :
    Grow s₀ (if p then x else y) := by split <;> assumption

theorem Grow.ite_fst {α : Type} {p : Prop} [Decidable p] {x y : State × α} (hx : Grow s₀ x.1) (hy : Grow s₀ y.1) :
    Grow s₀ (if p then x else y).1 := by split <;> assumption

theorem Grow.foldl {α : Type} {f : State → α → State} {l : List α} (h : Grow s₀ s)
    (hf : ∀ s x, Grow s₀ s → Grow s₀ (f s x)) : Grow s₀ (l.foldl f s) := by
  induction l generalizing s with
  | nil => exact h
  | cons x r ih => exact ih (hf _ _ h)

theorem Grow.foldl_fst {α β : Type} {f : State × β → α → State × β} {l : List α} {y : β} (h : Grow s₀ s)
    (hf : ∀ s z x, Grow s₀ s → Grow s₀ (f (s, z) x).1) : Grow s₀ (l.foldl f (s, y)).1 := by
  induction l generalizing s y with
  | nil => exact h
  | cons x r ih => exact ih (hf _ _ _ h)

theorem Grow.cut {x : State} {P : Prop} (hx : Grow s₀ x) (h : Grow s₀ x → P) : P := h hx

/-- An update of other parts of the state. -/
theorem Grow.upd {snaps lows now ident nv sys cfg pos fire wins noz tileH lanes health comp host dma ring ports pwr mot thm flt cal mem pmc clk svc out draws pending} (h : Grow s₀ s)
    (e1 : s.pos.fabric <+: pos.fabric := by first | exact List.prefix_refl _ | exact List.prefix_append _ _)
    (e2 : s.flt.wire <+: flt.wire := by first | exact List.prefix_refl _ | exact List.prefix_append _ _)
    (e3 : s.out <:+ out := by exact List.suffix_refl _) :
    Grow s₀ (State.mk s.regs snaps lows now ident nv sys cfg pos fire wins noz tileH lanes health comp host dma ring ports pwr mot thm flt cal mem pmc clk svc out draws pending) := ⟨h.1.trans e1, h.2.trans e2, h.3.trans e3⟩

theorem Grow.pmcAdd (h : Grow s₀ s) (k n : Nat) : Grow s₀ (State.pmcAdd k s n) := by
  delta State.pmcAdd
  exact Grow.ite ((h.setF _ _).setF _ _) (((h.setF _ _).setF _ _).setReg _ _)

theorem Grow.count (h : Grow s₀ s) (ev u k : Nat) : Grow s₀ (s.count ev u k) := by
  delta State.count
  exact Grow.ite h (h.foldl fun _ _ hs => hs.pmcAdd _ _)

theorem Grow.at (h : Grow s₀ s) (t : Nat) : Grow s₀ (s.at t) := by
  delta State.at
  exact Grow.count (s := { s with now := max s.now t }) ⟨h.1, h.2, h.3⟩ _ _ _

/-! ### Machine/Ops.lean -/

theorem Grow.raiseAs (h : Grow s₀ s) (die : Nat) (inst : Nat) (k : Kind) (addr : Nat) (injected : Bool) :
    Grow s₀ (State.raiseAs s die inst k addr injected) := by
  delta State.raiseAs
  repeat' first
    | with_reducible assumption
    | with_reducible refine Grow.ite ?_ ?_
    | (try lift_lets -underBinder); intro x; refine Grow.cut (x := x) ?_ ?_ <;> [subst x; (clear_value x; intro _)]
    | (try lift_lets -underBinder); intro x; first | subst x | skip
    | split
    | fail_if_no_progress with_reducible refine Grow.upd ?_

theorem Grow.raise (h : Grow s₀ s) (k : Kind) (addr : Nat) :
    Grow s₀ (State.raise s k addr) := by
  delta State.raise
  repeat' first
    | with_reducible assumption
    | with_reducible apply Grow.raiseAs

theorem Grow.raiseLane (h : Grow s₀ s) (d : Nat) (k : Kind) (addr : Nat) :
    Grow s₀ (State.raiseLane s d k addr) := by
  delta State.raiseLane
  repeat' first
    | with_reducible assumption
    | with_reducible apply Grow.raiseAs

theorem Grow.emitSrc (h : Grow s₀ s) (src : Nat) :
    Grow s₀ (State.emitSrc s src) := by
  delta State.emitSrc
  repeat' first
    | with_reducible assumption
    | fail_if_no_progress with_reducible refine Grow.upd ?_

/-! ### Machine/TagOps.lean -/

theorem Grow.tagCandidate (h : Grow s₀ s) (r : TagRec) :
    Grow s₀ (State.tagCandidate s r) := by
  delta State.tagCandidate
  repeat' first
    | with_reducible assumption
    | with_reducible refine Grow.ite ?_ ?_
    | (try lift_lets -underBinder); intro x; refine Grow.cut (x := x) ?_ ?_ <;> [subst x; (clear_value x; intro _)]
    | (try lift_lets -underBinder); intro x; first | subst x | skip
    | fail_if_no_progress with_reducible refine Grow.upd ?_

theorem Grow.tagMany (h : Grow s₀ s) (domain : Nat) (unit_ : Nat) (n : Nat) (mk : Nat → TagRec) :
    Grow s₀ (State.tagMany s domain unit_ n mk) := by
  delta State.tagMany
  repeat' first
    | with_reducible assumption
    | with_reducible apply Grow.tagCandidate
    | with_reducible refine Grow.ite ?_ ?_
    | with_reducible refine Grow.foldl ?_ ?_
    | (try lift_lets -underBinder); intro x; refine Grow.cut (x := x) ?_ ?_ <;> [subst x; (clear_value x; intro _)]
    | (try lift_lets -underBinder); intro x; first | subst x | skip

theorem Grow.modTag (h : Grow s₀ s) (p : TagRec → Bool) (g : TagRec → TagRec) :
    Grow s₀ (State.modTag s p g) := by
  delta State.modTag
  repeat' first
    | with_reducible assumption
    | with_reducible refine Grow.ite ?_ ?_
    | (try lift_lets -underBinder); intro x; refine Grow.cut (x := x) ?_ ?_ <;> [subst x; (clear_value x; intro _)]
    | (try lift_lets -underBinder); intro x; first | subst x | skip
    | fail_if_no_progress with_reducible refine Grow.upd ?_

theorem Grow.tagRecord (h : Grow s₀ s) (p : TagRec → Bool) (abandoned : Bool) :
    Grow s₀ (State.tagRecord s p abandoned) := by
  delta State.tagRecord
  repeat' first
    | with_reducible assumption
    | with_reducible refine Grow.setFields_nil ?_
    | with_reducible refine Grow.setFields_cons ?_
    | with_reducible refine Grow.setF ?_ _ _
    | with_reducible refine Grow.ite ?_ ?_
    | (try lift_lets -underBinder); intro x; refine Grow.cut (x := x) ?_ ?_ <;> [subst x; (clear_value x; intro _)]
    | (try lift_lets -underBinder); intro x; first | subst x | skip
    | split
    | fail_if_no_progress dsimp only
    | fail_if_no_progress with_reducible refine Grow.upd ?_

theorem Grow.tagDesc (h : Grow s₀ s) (stream : Nat) (k : Nat) (first : Bool) :
    Grow s₀ (State.tagDesc s stream k first) := by
  delta State.tagDesc
  repeat' first
    | with_reducible assumption
    | with_reducible apply Grow.modTag
    | with_reducible refine Grow.ite ?_ ?_
    | (try lift_lets -underBinder); intro x; refine Grow.cut (x := x) ?_ ?_ <;> [subst x; (clear_value x; intro _)]
    | (try lift_lets -underBinder); intro x; first | subst x | skip

/-! ### Machine/CueOps.lean -/

theorem Grow.driveCue (h : Grow s₀ s) (n : Nat) :
    Grow s₀ (State.driveCue s n) := by
  delta State.driveCue
  repeat' first
    | with_reducible assumption
    | with_reducible apply Grow.emit
    | with_reducible apply Grow.raise
    | with_reducible refine Grow.ite ?_ ?_
    | (try lift_lets -underBinder); intro x; refine Grow.cut (x := x) ?_ ?_ <;> [subst x; (clear_value x; intro _)]
    | (try lift_lets -underBinder); intro x; first | subst x | skip
    | split
    | fail_if_no_progress dsimp only
    | fail_if_no_progress with_reducible refine Grow.upd ?_

theorem Grow.showCues (h : Grow s₀ s) :
    Grow s₀ (State.showCues s) := by
  delta State.showCues
  repeat' first
    | with_reducible assumption
    | with_reducible apply Grow.driveCue
    | with_reducible refine Grow.foldl ?_ ?_
    | (try lift_lets -underBinder); intro x; refine Grow.cut (x := x) ?_ ?_ <;> [subst x; (clear_value x; intro _)]
    | (try lift_lets -underBinder); intro x; first | subst x | skip

theorem Grow.cuePulse (h : Grow s₀ s) (n : Nat) :
    Grow s₀ (State.cuePulse s n) := by
  delta State.cuePulse
  repeat' first
    | with_reducible assumption
    | with_reducible apply Grow.driveCue
    | with_reducible refine Grow.ite ?_ ?_
    | fail_if_no_progress with_reducible refine Grow.upd ?_

theorem Grow.holdCues (h : Grow s₀ s) (old : List CueRec) (new : List CueRec) (until_ : Nat) :
    Grow s₀ (State.holdCues s old new until_) := by
  delta State.holdCues
  repeat' first
    | with_reducible assumption
    | with_reducible apply Grow.cuePulse
    | with_reducible refine Grow.ite ?_ ?_
    | with_reducible refine Grow.foldl ?_ ?_
    | (try lift_lets -underBinder); intro x; refine Grow.cut (x := x) ?_ ?_ <;> [subst x; (clear_value x; intro _)]
    | (try lift_lets -underBinder); intro x; first | subst x | skip
    | fail_if_no_progress with_reducible refine Grow.upd ?_

theorem Grow.handCues (h : Grow s₀ s) :
    Grow s₀ (State.handCues s) := by
  delta State.handCues
  repeat' first
    | with_reducible assumption
    | with_reducible apply Grow.showCues
    | (try lift_lets -underBinder); intro x; refine Grow.cut (x := x) ?_ ?_ <;> [subst x; (clear_value x; intro _)]
    | (try lift_lets -underBinder); intro x; first | subst x | skip
    | fail_if_no_progress with_reducible refine Grow.upd ?_

/-! ### Machine/TileOps.lean -/

theorem Grow.modPort (h : Grow s₀ s) (n : Nat) (g : TileP → TileP) :
    Grow s₀ (State.modPort s n g) := by
  delta State.modPort
  repeat' first
    | with_reducible assumption
    | fail_if_no_progress with_reducible refine Grow.upd ?_

theorem Grow.modTh (h : Grow s₀ s) (n : Nat) (g : TileH → TileH) :
    Grow s₀ (State.modTh s n g) := by
  delta State.modTh
  repeat' first
    | with_reducible assumption
    | fail_if_no_progress with_reducible refine Grow.upd ?_

theorem Grow.modNoz (h : Grow s₀ s) (n : Nat) (i : Nat) (g : Noz → Noz) :
    Grow s₀ (State.modNoz s n i g) := by
  delta State.modNoz
  repeat' first
    | with_reducible assumption
    | fail_if_no_progress with_reducible refine Grow.upd ?_

theorem Grow.mapNoz (h : Grow s₀ s) (g : Noz → Noz) : Grow s₀ (State.mapNoz s g) := ⟨h.1, h.2, h.3⟩

theorem Grow.showUsage (h : Grow s₀ s) (n : Nat) :
    Grow s₀ (State.showUsage s n) := by
  delta State.showUsage
  repeat' first
    | with_reducible assumption
    | with_reducible refine Grow.setF ?_ _ _
    | (try lift_lets -underBinder); intro x; refine Grow.cut (x := x) ?_ ?_ <;> [subst x; (clear_value x; intro _)]
    | (try lift_lets -underBinder); intro x; first | subst x | skip

theorem Grow.addUse (h : Grow s₀ s) (n : Nat) (k : Nat) :
    Grow s₀ (State.addUse s n k) := by
  delta State.addUse
  repeat' first
    | with_reducible assumption
    | with_reducible apply Grow.modPort
    | with_reducible apply Grow.showUsage
    | (try lift_lets -underBinder); intro x; refine Grow.cut (x := x) ?_ ?_ <;> [subst x; (clear_value x; intro _)]
    | (try lift_lets -underBinder); intro x; first | subst x | skip
    | fail_if_no_progress with_reducible refine Grow.upd ?_

theorem Grow.usageWrite (h : Grow s₀ s) (n : Nat) :
    Grow s₀ (State.usageWrite s n) := by
  delta State.usageWrite
  repeat' first
    | with_reducible assumption
    | with_reducible apply Grow.emit
    | with_reducible apply Grow.modPort
    | with_reducible apply Grow.raiseLane
    | with_reducible refine Grow.setF ?_ _ _
    | with_reducible refine Grow.ite ?_ ?_
    | (try lift_lets -underBinder); intro x; refine Grow.cut (x := x) ?_ ?_ <;> [subst x; (clear_value x; intro _)]
    | (try lift_lets -underBinder); intro x; first | subst x | skip
    | fail_if_no_progress with_reducible refine Grow.upd ?_

theorem Grow.logicOff (h : Grow s₀ s) (n : Nat) :
    Grow s₀ (State.logicOff s n) := by
  delta State.logicOff
  repeat' first
    | with_reducible assumption
    | with_reducible apply Grow.modPort
    | with_reducible refine Grow.setF ?_ _ _
    | (try lift_lets -underBinder); intro x; refine Grow.cut (x := x) ?_ ?_ <;> [subst x; (clear_value x; intro _)]
    | (try lift_lets -underBinder); intro x; first | subst x | skip
    | fail_if_no_progress with_reducible refine Grow.upd ?_

theorem Grow.fuseOpen (h : Grow s₀ s) (n : Nat) :
    Grow s₀ (State.fuseOpen s n) := by
  delta State.fuseOpen
  repeat' first
    | with_reducible assumption
    | with_reducible apply Grow.modPort
    | with_reducible refine Grow.setF ?_ _ _
    | (try lift_lets -underBinder); intro x; refine Grow.cut (x := x) ?_ ?_ <;> [subst x; (clear_value x; intro _)]
    | (try lift_lets -underBinder); intro x; first | subst x | skip
    | fail_if_no_progress with_reducible refine Grow.upd ?_

theorem Grow.removePower (h : Grow s₀ s) (n : Nat) :
    Grow s₀ (State.removePower s n) := by
  delta State.removePower
  repeat' first
    | with_reducible assumption
    | with_reducible apply Grow.fuseOpen
    | with_reducible apply Grow.logicOff
    | with_reducible apply Grow.modPort
    | with_reducible apply Grow.usageWrite
    | with_reducible refine Grow.ite ?_ ?_
    | (try lift_lets -underBinder); intro x; refine Grow.cut (x := x) ?_ ?_ <;> [subst x; (clear_value x; intro _)]
    | (try lift_lets -underBinder); intro x; first | subst x | skip
    | fail_if_no_progress with_reducible refine Grow.upd ?_

theorem Grow.removeVpp (h : Grow s₀ s) (n : Nat) :
    Grow s₀ (State.removeVpp s n) := by
  delta State.removeVpp
  repeat' first
    | with_reducible assumption
    | with_reducible apply Grow.fuseOpen
    | with_reducible apply Grow.modPort
    | with_reducible apply Grow.usageWrite
    | with_reducible refine Grow.ite ?_ ?_
    | (try lift_lets -underBinder); intro x; refine Grow.cut (x := x) ?_ ?_ <;> [subst x; (clear_value x; intro _)]
    | (try lift_lets -underBinder); intro x; first | subst x | skip
    | fail_if_no_progress with_reducible refine Grow.upd ?_

theorem Grow.tryLogicOff (h : Grow s₀ s) (n : Nat) :
    Grow s₀ (State.tryLogicOff s n) := by
  delta State.tryLogicOff
  repeat' first
    | with_reducible assumption
    | with_reducible apply Grow.logicOff
    | with_reducible apply Grow.modPort
    | with_reducible refine Grow.ite ?_ ?_
    | (try lift_lets -underBinder); intro x; refine Grow.cut (x := x) ?_ ?_ <;> [subst x; (clear_value x; intro _)]
    | (try lift_lets -underBinder); intro x; first | subst x | skip
    | split
    | fail_if_no_progress with_reducible refine Grow.upd ?_

theorem Grow.askSwap (h : Grow s₀ s) (n : Nat) :
    Grow s₀ (State.askSwap s n) := by
  delta State.askSwap
  repeat' first
    | with_reducible assumption
    | with_reducible refine Grow.ite ?_ ?_
    | (try lift_lets -underBinder); intro x; refine Grow.cut (x := x) ?_ ?_ <;> [subst x; (clear_value x; intro _)]
    | (try lift_lets -underBinder); intro x; first | subst x | skip
    | split
    | fail_if_no_progress with_reducible refine Grow.upd ?_

theorem Grow.afterFail (h : Grow s₀ s) (n : Nat) :
    Grow s₀ (State.afterFail s n) := by
  delta State.afterFail
  repeat' first
    | with_reducible assumption
    | with_reducible apply Grow.askSwap
    | with_reducible apply Grow.modTh
    | with_reducible apply Grow.raise
    | with_reducible refine Grow.ite ?_ ?_
    | (try lift_lets -underBinder); intro x; refine Grow.cut (x := x) ?_ ?_ <;> [subst x; (clear_value x; intro _)]
    | (try lift_lets -underBinder); intro x; first | subst x | skip
    | fail_if_no_progress with_reducible refine Grow.upd ?_

theorem Grow.failTile (h : Grow s₀ s) (n : Nat) (cause : Nat) :
    Grow s₀ (State.failTile s n cause) := by
  delta State.failTile
  repeat' first
    | with_reducible assumption
    | with_reducible apply Grow.afterFail
    | with_reducible apply Grow.fuseOpen
    | with_reducible apply Grow.raiseLane
    | with_reducible refine Grow.setF ?_ _ _
    | with_reducible refine Grow.ite ?_ ?_
    | (try lift_lets -underBinder); intro x; refine Grow.cut (x := x) ?_ ?_ <;> [subst x; (clear_value x; intro _)]
    | (try lift_lets -underBinder); intro x; first | subst x | skip

theorem Grow.absentTile (h : Grow s₀ s) (n : Nat) :
    Grow s₀ (State.absentTile s n) := by
  delta State.absentTile
  repeat' first
    | with_reducible assumption
    | with_reducible apply Grow.fuseOpen
    | with_reducible apply Grow.logicOff
    | with_reducible apply Grow.raiseLane

theorem Grow.loadTrims (h : Grow s₀ s) (n : Nat) (useId : Bool) :
    Grow s₀ (State.loadTrims s n useId) := by
  delta State.loadTrims
  repeat' first
    | with_reducible assumption
    | with_reducible apply Grow.modNoz
    | with_reducible refine Grow.ite ?_ ?_
    | with_reducible refine Grow.foldl ?_ ?_
    | (try lift_lets -underBinder); intro x; refine Grow.cut (x := x) ?_ ?_ <;> [subst x; (clear_value x; intro _)]
    | (try lift_lets -underBinder); intro x; first | subst x | skip
    | fail_if_no_progress with_reducible refine Grow.upd ?_

theorem Grow.choosePath (h : Grow s₀ s) (n : Nat) :
    Grow s₀ (State.choosePath s n) := by
  delta State.choosePath
  repeat' first
    | with_reducible assumption
    | with_reducible apply Grow.failTile
    | with_reducible apply Grow.loadTrims
    | with_reducible apply Grow.modPort
    | with_reducible apply Grow.raiseLane
    | with_reducible refine Grow.setF ?_ _ _
    | with_reducible refine Grow.setFields_nil ?_
    | with_reducible refine Grow.setFields_cons ?_
    | with_reducible refine Grow.setF ?_ _ _
    | with_reducible refine Grow.ite ?_ ?_
    | (try lift_lets -underBinder); intro x; refine Grow.cut (x := x) ?_ ?_ <;> [subst x; (clear_value x; intro _)]
    | (try lift_lets -underBinder); intro x; first | subst x | skip
    | split
    | fail_if_no_progress dsimp only
    | fail_if_no_progress with_reducible refine Grow.upd ?_

theorem Grow.hmError {c} (h : Grow s₀ s) {n : Nat} {op : Nat} (e : State.hmError s n op = some c) :
    Grow s₀ c := by
  delta State.hmError at e
  try dsimp only at e
  repeat' first
    | contradiction
    | (injection e with e; subst e)
    | split at e
    | with_reducible assumption
    | with_reducible apply Grow.modPort
    | with_reducible refine Grow.ite ?_ ?_

theorem Grow.hmEnd (h : Grow s₀ s) (n : Nat) :
    Grow s₀ (State.hmEnd s n) := by
  delta State.hmEnd
  repeat' first
    | with_reducible assumption
    | with_reducible apply Grow.modPort
    | with_reducible apply Grow.tryLogicOff
    | (try lift_lets -underBinder); intro x; refine Grow.cut (x := x) ?_ ?_ <;> [subst x; (clear_value x; intro _)]
    | (try lift_lets -underBinder); intro x; first | subst x | skip
    | fail_if_no_progress with_reducible refine Grow.upd ?_

/-! ### Machine/HealthOps.lean -/

theorem Grow.setBg (h : Grow s₀ s) (n : Nat) (i : Nat) (e : Nat) :
    Grow s₀ (State.setBg s n i e) := by
  delta State.setBg
  repeat' first
    | with_reducible assumption
    | with_reducible apply Grow.modNoz
    | with_reducible refine Grow.setF ?_ _ _
    | with_reducible refine Grow.ite ?_ ?_
    | (try lift_lets -underBinder); intro x; refine Grow.cut (x := x) ?_ ?_ <;> [subst x; (clear_value x; intro _)]
    | (try lift_lets -underBinder); intro x; first | subst x | skip
    | fail_if_no_progress with_reducible refine Grow.upd ?_

theorem Grow.classify (h : Grow s₀ s) (n : Nat) (i : Nat) (cls : Nat) :
    Grow s₀ (State.classify s n i cls) := by
  delta State.classify
  repeat' first
    | with_reducible assumption
    | with_reducible refine Grow.addF ?_ _ _
    | with_reducible apply Grow.raiseLane
    | with_reducible apply Grow.setBg
    | with_reducible refine Grow.ite ?_ ?_
    | (try lift_lets -underBinder); intro x; refine Grow.cut (x := x) ?_ ?_ <;> [subst x; (clear_value x; intro _)]
    | (try lift_lets -underBinder); intro x; first | subst x | skip

theorem Grow.openReport (h : Grow s₀ s) (n : Nat) (i : Nat) :
    Grow s₀ (State.openReport s n i) := by
  delta State.openReport
  repeat' first
    | with_reducible assumption
    | with_reducible apply Grow.classify
    | with_reducible refine Grow.ite ?_ ?_

theorem Grow.moveColumns (h : Grow s₀ s) (n : Nat) :
    Grow s₀ (State.moveColumns s n) := by
  delta State.moveColumns
  repeat' first
    | with_reducible assumption
    | with_reducible apply Grow.modTh
    | with_reducible refine Grow.setFb ?_ _ _
    | with_reducible refine Grow.ite ?_ ?_
    | with_reducible refine Grow.foldl ?_ ?_
    | (try lift_lets -underBinder); intro x; refine Grow.cut (x := x) ?_ ?_ <;> [subst x; (clear_value x; intro _)]
    | (try lift_lets -underBinder); intro x; first | subst x | skip
    | fail_if_no_progress with_reducible refine Grow.upd ?_

theorem Grow.showHealth (h : Grow s₀ s) (n : Nat) :
    Grow s₀ (State.showHealth s n) := by
  delta State.showHealth
  repeat' first
    | with_reducible assumption
    | with_reducible apply Grow.raiseLane
    | with_reducible refine Grow.setFields_nil ?_
    | with_reducible refine Grow.setFields_cons ?_
    | with_reducible refine Grow.setF ?_ _ _
    | with_reducible refine Grow.ite ?_ ?_
    | (try lift_lets -underBinder); intro x; refine Grow.cut (x := x) ?_ ?_ <;> [subst x; (clear_value x; intro _)]
    | (try lift_lets -underBinder); intro x; first | subst x | skip
    | split

theorem Grow.healthSwap (h : Grow s₀ s) (n : Nat) :
    Grow s₀ (State.healthSwap s n) := by
  delta State.healthSwap
  repeat' first
    | with_reducible assumption
    | with_reducible apply Grow.modNoz
    | with_reducible apply Grow.modTh
    | with_reducible apply Grow.moveColumns
    | with_reducible refine Grow.setF ?_ _ _
    | with_reducible apply Grow.showHealth
    | with_reducible refine Grow.ite ?_ ?_
    | with_reducible refine Grow.foldl ?_ ?_
    | (try lift_lets -underBinder); intro x; refine Grow.cut (x := x) ?_ ?_ <;> [subst x; (clear_value x; intro _)]
    | (try lift_lets -underBinder); intro x; first | subst x | skip
    | split
    | fail_if_no_progress dsimp only
    | fail_if_no_progress with_reducible refine Grow.upd ?_

theorem Grow.scanComplete (h : Grow s₀ s) (n : Nat) :
    Grow s₀ (State.scanComplete s n) := by
  delta State.scanComplete
  repeat' first
    | with_reducible assumption
    | with_reducible apply Grow.classify
    | with_reducible apply Grow.healthSwap
    | with_reducible refine Grow.incF ?_ _ _
    | with_reducible apply Grow.modTh
    | with_reducible refine Grow.setF ?_ _ _
    | with_reducible refine Grow.ite ?_ ?_
    | with_reducible refine Grow.foldl ?_ ?_
    | (try lift_lets -underBinder); intro x; refine Grow.cut (x := x) ?_ ?_ <;> [subst x; (clear_value x; intro _)]
    | (try lift_lets -underBinder); intro x; first | subst x | skip
    | fail_if_no_progress with_reducible refine Grow.upd ?_

theorem Grow.scanNext (h : Grow s₀ s) (n : Nat) (i : Nat) :
    Grow s₀ (State.scanNext s n i) := by
  delta State.scanNext
  repeat' first
    | with_reducible assumption
    | with_reducible apply Grow.scanComplete
    | with_reducible refine Grow.setF ?_ _ _
    | with_reducible refine Grow.ite ?_ ?_

theorem Grow.judge (h : Grow s₀ s) (n : Nat) (i : Nat) (r1 : Option Nat) (r2 : Option Nat) :
    Grow s₀ (State.judge s n i r1 r2) := by
  delta State.judge
  repeat' first
    | with_reducible assumption
    | with_reducible refine Grow.addF ?_ _ _
    | with_reducible apply Grow.classify
    | with_reducible apply Grow.count
    | with_reducible apply Grow.modNoz
    | with_reducible apply Grow.modTh
    | with_reducible refine Grow.ite ?_ ?_
    | (try lift_lets -underBinder); intro x; refine Grow.cut (x := x) ?_ ?_ <;> [subst x; (clear_value x; intro _)]
    | (try lift_lets -underBinder); intro x; first | subst x | skip
    | split
    | fail_if_no_progress dsimp only
    | fail_if_no_progress with_reducible refine Grow.upd ?_

theorem Grow.setUnprint (h : Grow s₀ s) (n : Nat) :
    Grow s₀ (State.setUnprint s n) := by
  delta State.setUnprint
  repeat' first
    | with_reducible assumption
    | with_reducible refine Grow.setFields_nil ?_
    | with_reducible refine Grow.setFields_cons ?_
    | with_reducible refine Grow.setF ?_ _ _
    | with_reducible refine Grow.ite ?_ ?_

theorem Grow.bypassTile (h : Grow s₀ s) (n : Nat) :
    Grow s₀ (State.bypassTile s n) := by
  delta State.bypassTile
  repeat' first
    | with_reducible assumption
    | with_reducible apply Grow.fuseOpen
    | with_reducible apply Grow.modTh
    | with_reducible apply Grow.raiseLane
    | with_reducible refine Grow.setF ?_ _ _
    | with_reducible refine Grow.setFields_nil ?_
    | with_reducible refine Grow.setFields_cons ?_
    | with_reducible refine Grow.setF ?_ _ _
    | with_reducible apply Grow.setUnprint
    | (try lift_lets -underBinder); intro x; refine Grow.cut (x := x) ?_ ?_ <;> [subst x; (clear_value x; intro _)]
    | (try lift_lets -underBinder); intro x; first | subst x | skip
    | split
    | fail_if_no_progress dsimp only
    | fail_if_no_progress with_reducible refine Grow.upd ?_

theorem Grow.setBit (h : Grow s₀ s) (fd : Field) (k : Nat) (b : Bool) :
    Grow s₀ (State.setBit s fd k b) := by
  delta State.setBit
  repeat' first
    | with_reducible assumption
    | with_reducible refine Grow.setF ?_ _ _
    | with_reducible refine Grow.ite ?_ ?_

theorem Grow.connect (h : Grow s₀ s) (n : Nat) (e : Nat) :
    Grow s₀ (State.connect s n e) := by
  delta State.connect
  repeat' first
    | with_reducible assumption
    | with_reducible apply Grow.modTh
    | with_reducible refine Grow.setBit ?_ _ _ _
    | with_reducible refine Grow.setFields_nil ?_
    | with_reducible refine Grow.setFields_cons ?_
    | with_reducible refine Grow.setF ?_ _ _
    | with_reducible refine Grow.ite ?_ ?_
    | (try lift_lets -underBinder); intro x; refine Grow.cut (x := x) ?_ ?_ <;> [subst x; (clear_value x; intro _)]
    | (try lift_lets -underBinder); intro x; first | subst x | skip
    | split
    | fail_if_no_progress dsimp only
    | fail_if_no_progress with_reducible refine Grow.upd ?_

theorem Grow.failEngine (h : Grow s₀ s) (e : Nat) :
    Grow s₀ (State.failEngine s e) := by
  delta State.failEngine
  repeat' first
    | with_reducible assumption
    | with_reducible apply Grow.modTh
    | with_reducible apply Grow.raiseLane
    | with_reducible refine Grow.setBit ?_ _ _ _
    | with_reducible refine Grow.setF ?_ _ _
    | with_reducible refine Grow.ite ?_ ?_
    | (try lift_lets -underBinder); intro x; refine Grow.cut (x := x) ?_ ?_ <;> [subst x; (clear_value x; intro _)]
    | (try lift_lets -underBinder); intro x; first | subst x | skip
    | split
    | fail_if_no_progress dsimp only
    | fail_if_no_progress with_reducible refine Grow.upd ?_

theorem Grow.serveSpares (h : Grow s₀ s) (tiles : List Nat) :
    Grow s₀ (State.serveSpares s tiles) := by
  delta State.serveSpares
  repeat' first
    | with_reducible assumption
    | with_reducible apply Grow.modTh
    | with_reducible apply Grow.raiseLane
    | with_reducible refine Grow.ite ?_ ?_
    | with_reducible refine Grow.foldl ?_ ?_
    | (try lift_lets -underBinder); intro x; refine Grow.cut (x := x) ?_ ?_ <;> [subst x; (clear_value x; intro _)]
    | (try lift_lets -underBinder); intro x; first | subst x | skip
    | split
    | fail_if_no_progress dsimp only
    | fail_if_no_progress with_reducible refine Grow.upd ?_

theorem Grow.serveRolls (h : Grow s₀ s) (tiles : List Nat) :
    Grow s₀ (State.serveRolls s tiles) := by
  delta State.serveRolls
  repeat' first
    | with_reducible assumption
    | with_reducible apply Grow.modTh
    | with_reducible refine Grow.setF ?_ _ _
    | with_reducible refine Grow.ite ?_ ?_
    | with_reducible refine Grow.foldl ?_ ?_
    | (try lift_lets -underBinder); intro x; refine Grow.cut (x := x) ?_ ?_ <;> [subst x; (clear_value x; intro _)]
    | (try lift_lets -underBinder); intro x; first | subst x | skip
    | split
    | fail_if_no_progress with_reducible refine Grow.upd ?_

/-! ### Machine/PowerOps.lean -/

theorem Grow.modRail (h : Grow s₀ s) (q : Nat) (g : Rail → Rail) :
    Grow s₀ (State.modRail s q g) := by
  delta State.modRail
  repeat' first
    | with_reducible assumption
    | fail_if_no_progress with_reducible refine Grow.upd ?_

theorem Grow.rampRail (h : Grow s₀ s) (q : Nat) (mv : Nat) :
    Grow s₀ (State.rampRail s q mv) := by
  delta State.rampRail
  repeat' first
    | with_reducible assumption
    | with_reducible apply Grow.modRail
    | with_reducible refine Grow.setF ?_ _ _
    | with_reducible refine Grow.ite ?_ ?_
    | (try lift_lets -underBinder); intro x; refine Grow.cut (x := x) ?_ ?_ <;> [subst x; (clear_value x; intro _)]
    | (try lift_lets -underBinder); intro x; first | subst x | skip
    | fail_if_no_progress with_reducible refine Grow.upd ?_

theorem Grow.startRails (h : Grow s₀ s) :
    Grow s₀ (State.startRails s) := by
  delta State.startRails
  repeat' first
    | with_reducible assumption
    | with_reducible apply Grow.modRail
    | with_reducible apply Grow.rampRail
    | with_reducible refine Grow.ite ?_ ?_
    | with_reducible refine Grow.foldl ?_ ?_
    | (try lift_lets -underBinder); intro x; refine Grow.cut (x := x) ?_ ?_ <;> [subst x; (clear_value x; intro _)]
    | (try lift_lets -underBinder); intro x; first | subst x | skip
    | split
    | fail_if_no_progress with_reducible refine Grow.upd ?_

theorem Grow.railsDown (h : Grow s₀ s) :
    Grow s₀ (State.railsDown s) := by
  delta State.railsDown
  repeat' first
    | with_reducible assumption
    | with_reducible apply Grow.rampRail
    | with_reducible refine Grow.ite ?_ ?_
    | with_reducible refine Grow.foldl ?_ ?_
    | (try lift_lets -underBinder); intro x; refine Grow.cut (x := x) ?_ ?_ <;> [subst x; (clear_value x; intro _)]
    | (try lift_lets -underBinder); intro x; first | subst x | skip

theorem Grow.railsOff (h : Grow s₀ s) :
    Grow s₀ (State.railsOff s) := by
  delta State.railsOff
  repeat' first
    | with_reducible assumption
    | with_reducible apply Grow.modRail
    | with_reducible refine Grow.setFields_nil ?_
    | with_reducible refine Grow.setFields_cons ?_
    | with_reducible refine Grow.setF ?_ _ _
    | with_reducible refine Grow.foldl ?_ ?_
    | (try lift_lets -underBinder); intro x; refine Grow.cut (x := x) ?_ ?_ <;> [subst x; (clear_value x; intro _)]
    | (try lift_lets -underBinder); intro x; first | subst x | skip

theorem Grow.updHoldup (h : Grow s₀ s) :
    Grow s₀ (State.updHoldup s) := by
  delta State.updHoldup
  repeat' first
    | with_reducible assumption
    | with_reducible refine Grow.setFb ?_ _ _
    | (try lift_lets -underBinder); intro x; refine Grow.cut (x := x) ?_ ?_ <;> [subst x; (clear_value x; intro _)]
    | (try lift_lets -underBinder); intro x; first | subst x | skip

theorem Grow.setAcct (h : Grow s₀ s) (uj : Int) :
    Grow s₀ (State.setAcct s uj) := by
  delta State.setAcct
  repeat' first
    | with_reducible assumption
    | with_reducible refine Grow.setFs ?_ _ _
    | fail_if_no_progress with_reducible refine Grow.upd ?_

theorem Grow.setSrc (h : Grow s₀ s) (st : Nat) :
    Grow s₀ (State.setSrc s st) := by
  delta State.setSrc
  repeat' first
    | with_reducible assumption
    | with_reducible refine Grow.setF ?_ _ _

theorem Grow.mainsGone (h : Grow s₀ s) :
    Grow s₀ (State.mainsGone s) := by
  delta State.mainsGone
  repeat' first
    | with_reducible assumption
    | with_reducible refine Grow.setFields_nil ?_
    | with_reducible refine Grow.setFields_cons ?_
    | with_reducible refine Grow.setF ?_ _ _
    | fail_if_no_progress with_reducible refine Grow.upd ?_

/-! ### Machine/MotorOps.lean -/

theorem Grow.modAxis (h : Grow s₀ s) (a : Nat) (g : Axis → Axis) :
    Grow s₀ (State.modAxis s a g) := by
  delta State.modAxis
  repeat' first
    | with_reducible assumption
    | fail_if_no_progress with_reducible refine Grow.upd ?_

theorem Grow.raiseMot (h : Grow s₀ s) (a : Nat) (k : Kind) (addr : Nat) :
    Grow s₀ (State.raiseMot s a k addr) := by
  delta State.raiseMot
  repeat' first
    | with_reducible assumption
    | with_reducible apply Grow.raiseAs

theorem Grow.axisOff (h : Grow s₀ s) (a : Nat) :
    Grow s₀ (State.axisOff s a) := by
  delta State.axisOff
  repeat' first
    | with_reducible assumption
    | with_reducible apply Grow.modAxis
    | with_reducible refine Grow.setFields_nil ?_
    | with_reducible refine Grow.setFields_cons ?_
    | with_reducible refine Grow.setF ?_ _ _
    | (try lift_lets -underBinder); intro x; refine Grow.cut (x := x) ?_ ?_ <;> [subst x; (clear_value x; intro _)]
    | (try lift_lets -underBinder); intro x; first | subst x | skip
    | fail_if_no_progress with_reducible refine Grow.upd ?_

theorem Grow.axisTrip (h : Grow s₀ s) (a : Nat) (flag : Field) (k : Kind) (addr : Nat) :
    Grow s₀ (State.axisTrip s a flag k addr) := by
  delta State.axisTrip
  repeat' first
    | with_reducible assumption
    | with_reducible apply Grow.axisOff
    | with_reducible apply Grow.modAxis
    | with_reducible apply Grow.raiseMot
    | with_reducible refine Grow.setF ?_ _ _
    | (try lift_lets -underBinder); intro x; refine Grow.cut (x := x) ?_ ?_ <;> [subst x; (clear_value x; intro _)]
    | (try lift_lets -underBinder); intro x; first | subst x | skip
    | fail_if_no_progress with_reducible refine Grow.upd ?_

theorem Grow.startAxis (h : Grow s₀ s) (a : Nat) :
    Grow s₀ (State.startAxis s a) := by
  delta State.startAxis
  repeat' first
    | with_reducible assumption
    | with_reducible apply Grow.modAxis
    | with_reducible refine Grow.setF ?_ _ _
    | with_reducible refine Grow.ite ?_ ?_
    | (try lift_lets -underBinder); intro x; refine Grow.cut (x := x) ?_ ?_ <;> [subst x; (clear_value x; intro _)]
    | (try lift_lets -underBinder); intro x; first | subst x | skip
    | split
    | fail_if_no_progress with_reducible refine Grow.upd ?_

theorem Grow.stopAxis (h : Grow s₀ s) (a : Nat) :
    Grow s₀ (State.stopAxis s a) := by
  delta State.stopAxis
  repeat' first
    | with_reducible assumption
    | with_reducible apply Grow.axisOff
    | with_reducible apply Grow.modAxis
    | with_reducible refine Grow.setF ?_ _ _
    | (try lift_lets -underBinder); intro x; refine Grow.cut (x := x) ?_ ?_ <;> [subst x; (clear_value x; intro _)]
    | (try lift_lets -underBinder); intro x; first | subst x | skip
    | split
    | fail_if_no_progress dsimp only
    | fail_if_no_progress with_reducible refine Grow.upd ?_

theorem Grow.accelerate (h : Grow s₀ s) (a : Nat) :
    Grow s₀ (State.accelerate s a) := by
  delta State.accelerate
  repeat' first
    | with_reducible assumption
    | with_reducible apply Grow.modAxis
    | with_reducible refine Grow.ite ?_ ?_
    | (try lift_lets -underBinder); intro x; refine Grow.cut (x := x) ?_ ?_ <;> [subst x; (clear_value x; intro _)]
    | (try lift_lets -underBinder); intro x; first | subst x | skip
    | fail_if_no_progress with_reducible refine Grow.upd ?_

theorem Grow.motorSync (h : Grow s₀ s) (a : Nat) :
    Grow s₀ (State.motorSync s a) := by
  delta State.motorSync
  repeat' first
    | with_reducible assumption
    | with_reducible apply Grow.modAxis
    | with_reducible refine Grow.ite ?_ ?_
    | (try lift_lets -underBinder); intro x; refine Grow.cut (x := x) ?_ ?_ <;> [subst x; (clear_value x; intro _)]
    | (try lift_lets -underBinder); intro x; first | subst x | skip
    | fail_if_no_progress with_reducible refine Grow.upd ?_

theorem Grow.writeMotCmd (h : Grow s₀ s) (a : Nat) (v : Word) :
    Grow s₀ (State.writeMotCmd s a v) := by
  delta State.writeMotCmd
  repeat' first
    | with_reducible assumption
    | with_reducible apply Grow.modAxis
    | with_reducible apply Grow.raiseMot
    | with_reducible refine Grow.setReg ?_ _ _
    | with_reducible apply Grow.startAxis
    | with_reducible apply Grow.stopAxis
    | with_reducible refine Grow.ite ?_ ?_
    | (try lift_lets -underBinder); intro x; refine Grow.cut (x := x) ?_ ?_ <;> [subst x; (clear_value x; intro _)]
    | (try lift_lets -underBinder); intro x; first | subst x | skip
    | fail_if_no_progress with_reducible refine Grow.upd ?_

theorem Grow.motorsDusk (h : Grow s₀ s) :
    Grow s₀ (State.motorsDusk s) := by
  delta State.motorsDusk
  repeat' first
    | with_reducible assumption
    | with_reducible apply Grow.modAxis
    | with_reducible apply Grow.startAxis
    | with_reducible apply Grow.stopAxis
    | with_reducible refine Grow.ite ?_ ?_
    | with_reducible refine Grow.foldl ?_ ?_
    | (try lift_lets -underBinder); intro x; refine Grow.cut (x := x) ?_ ?_ <;> [subst x; (clear_value x; intro _)]
    | (try lift_lets -underBinder); intro x; first | subst x | skip
    | split
    | fail_if_no_progress with_reducible refine Grow.upd ?_

theorem Grow.motorsOff (h : Grow s₀ s) :
    Grow s₀ (State.motorsOff s) := by
  delta State.motorsOff
  repeat' first
    | with_reducible assumption
    | with_reducible apply Grow.axisOff
    | with_reducible apply Grow.modAxis
    | with_reducible refine Grow.foldl ?_ ?_
    | (try lift_lets -underBinder); intro x; refine Grow.cut (x := x) ?_ ?_ <;> [subst x; (clear_value x; intro _)]
    | (try lift_lets -underBinder); intro x; first | subst x | skip
    | fail_if_no_progress with_reducible refine Grow.upd ?_

theorem Grow.dawnMotor (h : Grow s₀ s) (a : Nat) (gates : List Nat) (offU : Int) (offV : Int) :
    Grow s₀ (State.dawnMotor s a gates offU offV) := by
  delta State.dawnMotor
  repeat' first
    | with_reducible assumption
    | with_reducible apply Grow.modAxis
    | with_reducible apply Grow.raiseMot
    | with_reducible refine Grow.setF ?_ _ _
    | with_reducible refine Grow.ite ?_ ?_
    | with_reducible refine Grow.foldl ?_ ?_
    | (try lift_lets -underBinder); intro x; refine Grow.cut (x := x) ?_ ?_ <;> [subst x; (clear_value x; intro _)]
    | (try lift_lets -underBinder); intro x; first | subst x | skip
    | fail_if_no_progress with_reducible refine Grow.upd ?_

theorem Grow.phaseOrder (h : Grow s₀ s) (n : Nat) (d : Int) :
    Grow s₀ (State.phaseOrder s n d) := by
  delta State.phaseOrder
  repeat' first
    | with_reducible assumption
    | with_reducible refine Grow.axisTrip ?_ _ _ _ _
    | with_reducible apply Grow.modAxis
    | with_reducible refine Grow.ite ?_ ?_
    | with_reducible refine Grow.foldl ?_ ?_
    | (try lift_lets -underBinder); intro x; refine Grow.cut (x := x) ?_ ?_ <;> [subst x; (clear_value x; intro _)]
    | (try lift_lets -underBinder); intro x; first | subst x | skip
    | fail_if_no_progress with_reducible refine Grow.upd ?_

/-! ### Machine/PulseOps.lean -/

theorem Grow.takeBin (h : Grow s₀ s) (n : Nat) :
    Grow s₀ (State.takeBin s n) := by
  delta State.takeBin
  repeat' first
    | with_reducible assumption
    | with_reducible apply Grow.modTh
    | with_reducible refine Grow.setF ?_ _ _
    | with_reducible refine Grow.ite ?_ ?_
    | (try lift_lets -underBinder); intro x; refine Grow.cut (x := x) ?_ ?_ <;> [subst x; (clear_value x; intro _)]
    | (try lift_lets -underBinder); intro x; first | subst x | skip
    | split
    | fail_if_no_progress with_reducible refine Grow.upd ?_

theorem Grow.senseVpp (h : Grow s₀ s) (n : Nat) :
    Grow s₀ (State.senseVpp s n).1 := by
  delta State.senseVpp
  repeat' first
    | with_reducible assumption
    | with_reducible apply Grow.modTh
    | with_reducible apply Grow.raiseLane
    | with_reducible refine Grow.setF ?_ _ _
    | with_reducible refine Grow.ite ?_ ?_
    | with_reducible refine Grow.ite_fst ?_ ?_
    | (try lift_lets -underBinder); intro x; refine Grow.cut (x := x) ?_ ?_ <;> [subst x; (clear_value x; intro _)]
    | (try lift_lets -underBinder); intro x; first | subst x | skip
    | split
    | fail_if_no_progress with_reducible refine Grow.upd ?_

theorem Grow.senseVpp_eq {c} {v} (h : Grow s₀ s) {n : Nat} (e : State.senseVpp s n = (c, v)) :
    Grow s₀ c := by
  have k := Grow.senseVpp h n
  rwa [e] at k

theorem Grow.showEdrop (h : Grow s₀ s) (q : Nat) :
    Grow s₀ (State.showEdrop s q) := by
  delta State.showEdrop
  repeat' first
    | with_reducible assumption
    | with_reducible refine Grow.setF ?_ _ _
    | with_reducible refine Grow.setFields_nil ?_
    | with_reducible refine Grow.setFields_cons ?_
    | with_reducible refine Grow.setF ?_ _ _
    | with_reducible refine Grow.ite ?_ ?_
    | with_reducible refine Grow.foldl ?_ ?_
    | (try lift_lets -underBinder); intro x; refine Grow.cut (x := x) ?_ ?_ <;> [subst x; (clear_value x; intro _)]
    | (try lift_lets -underBinder); intro x; first | subst x | skip

theorem Grow.planEnergies (h : Grow s₀ s) (tiles : List Nat) :
    Grow s₀ (State.planEnergies s tiles) := by
  delta State.planEnergies
  repeat' first
    | with_reducible assumption
    | with_reducible apply Grow.modTh
    | with_reducible refine Grow.setF ?_ _ _
    | with_reducible apply Grow.showEdrop
    | with_reducible refine Grow.foldl ?_ ?_
    | (try lift_lets -underBinder); intro x; refine Grow.cut (x := x) ?_ ?_ <;> [subst x; (clear_value x; intro _)]
    | (try lift_lets -underBinder); intro x; first | subst x | skip
    | split
    | fail_if_no_progress dsimp only
    | fail_if_no_progress with_reducible refine Grow.upd ?_

theorem Grow.fixRanks (h : Grow s₀ s) :
    Grow s₀ (State.fixRanks s) := by
  delta State.fixRanks
  repeat' first
    | with_reducible assumption
    | with_reducible apply Grow.modTh
    | with_reducible refine Grow.setFields_nil ?_
    | with_reducible refine Grow.setFields_cons ?_
    | with_reducible refine Grow.setF ?_ _ _
    | with_reducible refine Grow.ite ?_ ?_
    | with_reducible refine Grow.foldl ?_ ?_
    | (try lift_lets -underBinder); intro x; refine Grow.cut (x := x) ?_ ?_ <;> [subst x; (clear_value x; intro _)]
    | (try lift_lets -underBinder); intro x; first | subst x | skip
    | fail_if_no_progress with_reducible refine Grow.upd ?_

theorem Grow.endPulseDoc (h : Grow s₀ s) (n : Nat) :
    Grow s₀ (State.endPulseDoc s n) := by
  delta State.endPulseDoc
  repeat' first
    | with_reducible assumption
    | with_reducible apply Grow.modTh
    | with_reducible apply Grow.raiseLane
    | with_reducible refine Grow.setF ?_ _ _
    | with_reducible refine Grow.setFs ?_ _ _
    | with_reducible refine Grow.ite ?_ ?_
    | (try lift_lets -underBinder); intro x; refine Grow.cut (x := x) ?_ ?_ <;> [subst x; (clear_value x; intro _)]
    | (try lift_lets -underBinder); intro x; first | subst x | skip
    | fail_if_no_progress with_reducible refine Grow.upd ?_

/-! ### Machine/CompOps.lean -/

theorem Grow.putForm (h : Grow s₀ s) (a : Nat) (bs : List Nat) :
    Grow s₀ (State.putForm s a bs) := by
  delta State.putForm
  repeat' first
    | with_reducible assumption
    | fail_if_no_progress with_reducible refine Grow.upd ?_

theorem Grow.countForm (h : Grow s₀ s) (a : Nat) (n : Nat) :
    Grow s₀ (State.countForm s a n) := by
  delta State.countForm
  repeat' first
    | with_reducible assumption
    | with_reducible apply Grow.count
    | with_reducible refine Grow.ite ?_ ?_
    | with_reducible refine Grow.foldl ?_ ?_
    | (try lift_lets -underBinder); intro x; refine Grow.cut (x := x) ?_ ?_ <;> [subst x; (clear_value x; intro _)]
    | (try lift_lets -underBinder); intro x; first | subst x | skip

theorem Grow.modWin (h : Grow s₀ s) (w : Nat) (g : Win → Win) :
    Grow s₀ (State.modWin s w g) := by
  delta State.modWin
  repeat' first
    | with_reducible assumption
    | fail_if_no_progress with_reducible refine Grow.upd ?_

theorem Grow.modFire (h : Grow s₀ s) (n : Nat) (g : FireT → FireT) :
    Grow s₀ (State.modFire s n g) := by
  delta State.modFire
  repeat' first
    | with_reducible assumption
    | fail_if_no_progress with_reducible refine Grow.upd ?_

theorem Grow.modLane (h : Grow s₀ s) (e : Nat) (g : Lane → Lane) :
    Grow s₀ (State.modLane s e g) := by
  delta State.modLane
  repeat' first
    | with_reducible assumption
    | fail_if_no_progress with_reducible refine Grow.upd ?_

theorem Grow.showQueue (h : Grow s₀ s) (w : Nat) :
    Grow s₀ (State.showQueue s w) := by
  delta State.showQueue
  repeat' first
    | with_reducible assumption
    | with_reducible refine Grow.setFields_nil ?_
    | with_reducible refine Grow.setFields_cons ?_
    | with_reducible refine Grow.setF ?_ _ _
    | (try lift_lets -underBinder); intro x; refine Grow.cut (x := x) ?_ ?_ <;> [subst x; (clear_value x; intro _)]
    | (try lift_lets -underBinder); intro x; first | subst x | skip

theorem Grow.compose (h : Grow s₀ s) (b : List Nat) (dlen : Nat) (stream : Nat) (index : Nat) :
    Grow s₀ (State.compose s b dlen stream index).1 := by
  delta State.compose
  repeat' first
    | with_reducible assumption
    | with_reducible apply Grow.modWin
    | with_reducible apply Grow.raise
    | with_reducible refine Grow.setFields_nil ?_
    | with_reducible refine Grow.setFields_cons ?_
    | with_reducible refine Grow.setF ?_ _ _
    | with_reducible apply Grow.showQueue
    | with_reducible refine Grow.ite ?_ ?_
    | with_reducible refine Grow.ite_fst ?_ ?_
    | (try lift_lets -underBinder); intro x; refine Grow.cut (x := x) ?_ ?_ <;> [subst x; (clear_value x; intro _)]
    | (try lift_lets -underBinder); intro x; first | subst x | skip
    | split
    | fail_if_no_progress with_reducible refine Grow.upd ?_

theorem Grow.compose_eq {c} {v} (h : Grow s₀ s) {b : List Nat} {dlen : Nat} {stream : Nat} {index : Nat} (e : State.compose s b dlen stream index = (c, v)) :
    Grow s₀ c := by
  have k := Grow.compose h b dlen stream index
  rwa [e] at k

theorem Grow.showComp (h : Grow s₀ s) :
    Grow s₀ (State.showComp s) := by
  delta State.showComp
  repeat' first
    | with_reducible assumption
    | with_reducible refine Grow.setFields_nil ?_
    | with_reducible refine Grow.setFields_cons ?_
    | with_reducible refine Grow.setF ?_ _ _

theorem Grow.modDoc (h : Grow s₀ s) (id : Nat) (g : RDoc → RDoc) :
    Grow s₀ (State.modDoc s id g) := by
  delta State.modDoc
  repeat' first
    | with_reducible assumption
    | with_reducible refine Grow.ite ?_ ?_
    | (try lift_lets -underBinder); intro x; refine Grow.cut (x := x) ?_ ?_ <;> [subst x; (clear_value x; intro _)]
    | (try lift_lets -underBinder); intro x; first | subst x | skip
    | fail_if_no_progress with_reducible refine Grow.upd ?_

theorem Grow.serialAdvance (h : Grow s₀ s) (k : Nat) (v : Nat) :
    Grow s₀ (State.serialAdvance s k v) := by
  delta State.serialAdvance
  repeat' first
    | with_reducible assumption
    | with_reducible apply Grow.raise
    | with_reducible refine Grow.setF ?_ _ _
    | with_reducible refine Grow.ite ?_ ?_
    | (try lift_lets -underBinder); intro x; refine Grow.cut (x := x) ?_ ?_ <;> [subst x; (clear_value x; intro _)]
    | (try lift_lets -underBinder); intro x; first | subst x | skip

theorem Grow.releaseKept (h : Grow s₀ s) :
    Grow s₀ (State.releaseKept s) := by
  delta State.releaseKept
  repeat' first
    | with_reducible assumption
    | with_reducible refine Grow.ite ?_ ?_
    | (try lift_lets -underBinder); intro x; refine Grow.cut (x := x) ?_ ?_ <;> [subst x; (clear_value x; intro _)]
    | (try lift_lets -underBinder); intro x; first | subst x | skip
    | fail_if_no_progress with_reducible refine Grow.upd ?_

theorem Grow.writeLine (h : Grow s₀ s) (e : Nat) (j : Nat) (bs : List Nat) :
    Grow s₀ (State.writeLine s e j bs) := by
  delta State.writeLine
  repeat' first
    | with_reducible assumption
    | with_reducible refine Grow.addF ?_ _ _
    | with_reducible apply Grow.modLane
    | with_reducible refine Grow.ite ?_ ?_
    | (try lift_lets -underBinder); intro x; refine Grow.cut (x := x) ?_ ?_ <;> [subst x; (clear_value x; intro _)]
    | (try lift_lets -underBinder); intro x; first | subst x | skip
    | fail_if_no_progress with_reducible refine Grow.upd ?_

theorem Grow.eventAll (h : Grow s₀ s) (x : CycleCtx) (l : Lane) (hh : History) (en : Bool) (m step : Nat) (acc : CycleAcc)
    (k : Nat) : Grow s₀ (State.eventAll x l hh en m step (s, acc) k).1 := by
  delta State.eventAll
  exact Grow.ite h (h.modNoz _ _ _)

theorem Grow.eventSweep (h : Grow s₀ s) (x : CycleCtx) (l : Lane) (hh : History) (en : Bool) (m step : Nat) :
    Grow s₀ (State.eventSweep s x l hh en m step).1 :=
  h.foldl_fst fun _ z k hs => hs.eventAll x l hh en m step z k

theorem Grow.eventSweep_eq {c v} (h : Grow s₀ s) {x : CycleCtx} {l : Lane} {hh : History} {en : Bool} {m step : Nat}
    (e : State.eventSweep s x l hh en m step = (c, v)) : Grow s₀ c := by
  have k := Grow.eventSweep h x l hh en m step
  rwa [e] at k

/-! ### Machine/RingOps.lean -/

theorem Grow.modRingPort (h : Grow s₀ s) (p : Nat) (g : RingPort → RingPort) :
    Grow s₀ (State.modRingPort s p g) := by
  delta State.modRingPort
  repeat' first
    | with_reducible assumption
    | fail_if_no_progress with_reducible refine Grow.upd ?_

theorem Grow.ringOut (h : Grow s₀ s) (port : Nat) (p : RingPkt) :
    Grow s₀ (State.ringOut s port p) := by
  delta State.ringOut
  repeat' first
    | with_reducible assumption
    | with_reducible apply Grow.count
    | with_reducible apply Grow.emit
    | with_reducible refine Grow.ite ?_ ?_
    | fail_if_no_progress with_reducible refine Grow.upd ?_

theorem Grow.nextSeq (h : Grow s₀ s) (vc : Nat) :
    Grow s₀ (State.nextSeq s vc).1 := by
  delta State.nextSeq
  repeat' first
    | with_reducible assumption
    | (try lift_lets -underBinder); intro x; refine Grow.cut (x := x) ?_ ?_ <;> [subst x; (clear_value x; intro _)]
    | (try lift_lets -underBinder); intro x; first | subst x | skip
    | split
    | fail_if_no_progress with_reducible refine Grow.upd ?_

theorem Grow.nextSeq_eq {c} {v} (h : Grow s₀ s) {vc : Nat} (e : State.nextSeq s vc = (c, v)) :
    Grow s₀ c := by
  have k := Grow.nextSeq h vc
  rwa [e] at k

theorem Grow.urgOut (h : Grow s₀ s) (port : Nat) (p : RingPkt) :
    Grow s₀ (State.urgOut s port p) := by
  delta State.urgOut
  repeat' first
    | with_reducible assumption
    | with_reducible apply Grow.count
    | with_reducible apply Grow.emit
    | with_reducible refine Grow.ite ?_ ?_

theorem Grow.sendUrg (h : Grow s₀ s) (p : RingPkt) :
    Grow s₀ (State.sendUrg s p) := by
  delta State.sendUrg
  repeat' first
    | with_reducible assumption
    | with_reducible apply Grow.nextSeq
    | with_reducible refine Grow.nextSeq_eq ?_ (by assumption)
    | with_reducible apply Grow.urgOut
    | (try lift_lets -underBinder); intro x; refine Grow.cut (x := x) ?_ ?_ <;> [subst x; (clear_value x; intro _)]
    | (try lift_lets -underBinder); intro x; first | subst x | skip
    | split
    | fail_if_no_progress with_reducible refine Grow.upd ?_

theorem Grow.sendJoin (h : Grow s₀ s) (p : RingPkt) :
    Grow s₀ (State.sendJoin s p) := by
  delta State.sendJoin
  repeat' first
    | with_reducible assumption
    | with_reducible apply Grow.nextSeq
    | with_reducible refine Grow.nextSeq_eq ?_ (by assumption)
    | with_reducible apply Grow.urgOut
    | (try lift_lets -underBinder); intro x; refine Grow.cut (x := x) ?_ ?_ <;> [subst x; (clear_value x; intro _)]
    | (try lift_lets -underBinder); intro x; first | subst x | skip
    | split
    | fail_if_no_progress with_reducible refine Grow.upd ?_

theorem Grow.sendRsp (h : Grow s₀ s) (req : RingPkt) (type : Nat) (status : Nat) (data : List Nat) :
    Grow s₀ (State.sendRsp s req type status data) := by
  delta State.sendRsp
  repeat' first
    | with_reducible assumption
    | with_reducible apply Grow.nextSeq
    | with_reducible refine Grow.nextSeq_eq ?_ (by assumption)
    | with_reducible apply Grow.ringOut
    | (try lift_lets -underBinder); intro x; refine Grow.cut (x := x) ?_ ?_ <;> [subst x; (clear_value x; intro _)]
    | (try lift_lets -underBinder); intro x; first | subst x | skip
    | split

theorem Grow.sendReq (h : Grow s₀ s) (p : RingPkt) (r : RingReq) :
    Grow s₀ (State.sendReq s p r) := by
  delta State.sendReq
  repeat' first
    | with_reducible assumption
    | with_reducible apply Grow.nextSeq
    | with_reducible refine Grow.nextSeq_eq ?_ (by assumption)
    | with_reducible apply Grow.ringOut
    | (try lift_lets -underBinder); intro x; refine Grow.cut (x := x) ?_ ?_ <;> [subst x; (clear_value x; intro _)]
    | (try lift_lets -underBinder); intro x; first | subst x | skip
    | split
    | fail_if_no_progress with_reducible refine Grow.upd ?_

theorem Grow.hostWrite (h : Grow s₀ s) (addr : Nat) (bs : List Nat) :
    Grow s₀ (State.hostWrite s addr bs) := by
  delta State.hostWrite
  repeat' first
    | with_reducible assumption
    | with_reducible apply Grow.emit
    | with_reducible apply Grow.sendReq
    | with_reducible refine Grow.ite ?_ ?_
    | with_reducible refine Grow.foldl ?_ ?_
    | (try lift_lets -underBinder); intro x; refine Grow.cut (x := x) ?_ ?_ <;> [subst x; (clear_value x; intro _)]
    | (try lift_lets -underBinder); intro x; first | subst x | skip

theorem Grow.msix (h : Grow s₀ s) (v : Nat) :
    Grow s₀ (State.msix s v) := by
  delta State.msix
  repeat' first
    | with_reducible assumption
    | with_reducible apply Grow.emit
    | with_reducible apply Grow.hostWrite
    | with_reducible refine Grow.ite ?_ ?_
    | fail_if_no_progress with_reducible refine Grow.upd ?_

theorem Grow.showHost (h : Grow s₀ s) :
    Grow s₀ (State.showHost s) := by
  delta State.showHost
  repeat' first
    | with_reducible assumption
    | with_reducible refine Grow.setFields_nil ?_
    | with_reducible refine Grow.setFields_cons ?_
    | with_reducible refine Grow.setF ?_ _ _

theorem Grow.issueRead (h : Grow s₀ s) (r : OutRead) :
    Grow s₀ (State.issueRead s r) := by
  delta State.issueRead
  repeat' first
    | with_reducible assumption
    | with_reducible apply Grow.emit
    | with_reducible apply Grow.hostRead
    | with_reducible apply Grow.showHost
    | (try lift_lets -underBinder); intro x; refine Grow.cut (x := x) ?_ ?_ <;> [subst x; (clear_value x; intro _)]
    | (try lift_lets -underBinder); intro x; first | subst x | skip
    | fail_if_no_progress with_reducible refine Grow.upd ?_

theorem Grow.pumpMembers (h : Grow s₀ s) (n : Nat) :
    Grow s₀ (State.pumpMembers s n) := by
  induction n generalizing s with
  | zero => exact h
  | succ n ih =>
    rw [State.pumpMembers]
    repeat' first
      | with_reducible assumption
      | with_reducible apply Grow.issueRead
      | with_reducible apply ih
      | with_reducible refine Grow.ite ?_ ?_
      | (try lift_lets -underBinder); intro x; refine Grow.cut (x := x) ?_ ?_ <;> [subst x; (clear_value x; intro _)]
      | (try lift_lets -underBinder); intro x; first | subst x | skip
      | split
      | fail_if_no_progress dsimp only
      | fail_if_no_progress with_reducible refine Grow.upd ?_

theorem Grow.hostRead (h : Grow s₀ s) (r : OutRead) :
    Grow s₀ (State.hostRead s r) := by
  delta State.hostRead
  repeat' first
    | with_reducible assumption
    | with_reducible apply Grow.issueRead
    | with_reducible apply Grow.sendReq
    | with_reducible refine Grow.ite ?_ ?_
    | (try lift_lets -underBinder); intro x; refine Grow.cut (x := x) ?_ ?_ <;> [subst x; (clear_value x; intro _)]
    | (try lift_lets -underBinder); intro x; first | subst x | skip
    | split
    | fail_if_no_progress dsimp only
    | fail_if_no_progress with_reducible refine Grow.upd ?_

/-! ### Machine/DmaOps.lean -/

theorem Grow.modStream (h : Grow s₀ s) (k : Nat) (g : Stream → Stream) :
    Grow s₀ (State.modStream s k g) := by
  delta State.modStream
  repeat' first
    | with_reducible assumption
    | fail_if_no_progress with_reducible refine Grow.upd ?_

theorem Grow.putRecord (h : Grow s₀ s) (k : Nat) (type : Nat) (bs : List Nat) (irq : Bool) :
    Grow s₀ (State.putRecord s k type bs irq) := by
  delta State.putRecord
  repeat' first
    | with_reducible assumption
    | with_reducible apply Grow.hostWrite
    | with_reducible apply Grow.modStream
    | with_reducible apply Grow.msix
    | with_reducible refine Grow.setF ?_ _ _
    | with_reducible refine Grow.setFields_nil ?_
    | with_reducible refine Grow.setFields_cons ?_
    | with_reducible refine Grow.setF ?_ _ _
    | with_reducible refine Grow.ite ?_ ?_
    | (try lift_lets -underBinder); intro x; refine Grow.cut (x := x) ?_ ?_ <;> [subst x; (clear_value x; intro _)]
    | (try lift_lets -underBinder); intro x; first | subst x | skip
    | fail_if_no_progress with_reducible refine Grow.upd ?_

theorem Grow.descRecord (h : Grow s₀ s) (k : Nat) (tag : Nat) (index : Nat) (status : Nat) (detail : Nat) (result : Nat) (irq : Bool) :
    Grow s₀ (State.descRecord s k tag index status detail result irq) := by
  delta State.descRecord
  repeat' first
    | with_reducible assumption
    | with_reducible apply Grow.count
    | with_reducible apply Grow.putRecord
    | (try lift_lets -underBinder); intro x; refine Grow.cut (x := x) ?_ ?_ <;> [subst x; (clear_value x; intro _)]
    | (try lift_lets -underBinder); intro x; first | subst x | skip

theorem Grow.docRecord (h : Grow s₀ s) (k : Nat) (tag : Nat) (flags : Nat) (win : Nat) (status : Nat) (rep : Nat) (seq : Nat) (last : Nat) (engines : Nat) (skipped : Nat) :
    Grow s₀ (State.docRecord s k tag flags win status rep seq last engines skipped) := by
  delta State.docRecord
  repeat' first
    | with_reducible assumption
    | with_reducible apply Grow.putRecord
    | with_reducible refine Grow.ite ?_ ?_
    | (try lift_lets -underBinder); intro x; refine Grow.cut (x := x) ?_ ?_ <;> [subst x; (clear_value x; intro _)]
    | (try lift_lets -underBinder); intro x; first | subst x | skip

theorem Grow.showPool (h : Grow s₀ s) :
    Grow s₀ (State.showPool s) := by
  delta State.showPool
  repeat' first
    | with_reducible assumption
    | with_reducible refine Grow.setFields_nil ?_
    | with_reducible refine Grow.setFields_cons ?_
    | with_reducible refine Grow.setF ?_ _ _
    | (try lift_lets -underBinder); intro x; refine Grow.cut (x := x) ?_ ?_ <;> [subst x; (clear_value x; intro _)]
    | (try lift_lets -underBinder); intro x; first | subst x | skip

theorem Grow.showFill (h : Grow s₀ s) (k : Nat) :
    Grow s₀ (State.showFill s k) := by
  delta State.showFill
  repeat' first
    | with_reducible assumption
    | with_reducible refine Grow.setF ?_ _ _
    | with_reducible refine Grow.ite ?_ ?_
    | (try lift_lets -underBinder); intro x; refine Grow.cut (x := x) ?_ ?_ <;> [subst x; (clear_value x; intro _)]
    | (try lift_lets -underBinder); intro x; first | subst x | skip

theorem Grow.idleStream (h : Grow s₀ s) (k : Nat) :
    Grow s₀ (State.idleStream s k) := by
  delta State.idleStream
  repeat' first
    | with_reducible assumption
    | with_reducible apply Grow.modStream
    | with_reducible refine Grow.setFb ?_ _ _
    | with_reducible apply Grow.showPool
    | with_reducible refine Grow.ite ?_ ?_
    | (try lift_lets -underBinder); intro x; refine Grow.cut (x := x) ?_ ?_ <;> [subst x; (clear_value x; intro _)]
    | (try lift_lets -underBinder); intro x; first | subst x | skip
    | fail_if_no_progress with_reducible refine Grow.upd ?_

theorem Grow.putStaging (h : Grow s₀ s) (o : Nat) (bs : List Nat) :
    Grow s₀ (State.putStaging s o bs) := by
  delta State.putStaging
  repeat' first
    | with_reducible assumption
    | with_reducible refine Grow.addF ?_ _ _
    | with_reducible apply Grow.raise
    | with_reducible refine Grow.ite ?_ ?_
    | (try lift_lets -underBinder); intro x; refine Grow.cut (x := x) ?_ ?_ <;> [subst x; (clear_value x; intro _)]
    | (try lift_lets -underBinder); intro x; first | subst x | skip
    | fail_if_no_progress with_reducible refine Grow.upd ?_

theorem Grow.putMem (h : Grow s₀ s) (k : Nat) (mem : Nat) (a : Nat) (off : Nat) (bs : List Nat) :
    Grow s₀ (State.putMem s k mem a off bs).1 := by
  delta State.putMem
  repeat' first
    | with_reducible assumption
    | with_reducible apply Grow.count
    | with_reducible apply Grow.hostWrite
    | with_reducible apply Grow.putForm
    | with_reducible apply Grow.putStaging
    | with_reducible apply Grow.sendReq
    | with_reducible refine Grow.foldl ?_ ?_
    | (try lift_lets -underBinder); intro x; refine Grow.cut (x := x) ?_ ?_ <;> [subst x; (clear_value x; intro _)]
    | (try lift_lets -underBinder); intro x; first | subst x | skip
    | split
    | fail_if_no_progress dsimp only
    | fail_if_no_progress with_reducible refine Grow.upd ?_

theorem Grow.putMem_eq {c} {v} (h : Grow s₀ s) {k : Nat} {mem : Nat} {a : Nat} {off : Nat} {bs : List Nat} (e : State.putMem s k mem a off bs = (c, v)) :
    Grow s₀ c := by
  have k := Grow.putMem h k mem a off bs
  rwa [e] at k

theorem Grow.modExec (h : Grow s₀ s) (k : Nat) (g : Exec → Exec) :
    Grow s₀ (State.modExec s k g) := by
  delta State.modExec
  repeat' first
    | with_reducible assumption
    | with_reducible apply Grow.modStream
    | (try lift_lets -underBinder); intro x; refine Grow.cut (x := x) ?_ ?_ <;> [subst x; (clear_value x; intro _)]
    | (try lift_lets -underBinder); intro x; first | subst x | skip
    | fail_if_no_progress with_reducible refine Grow.upd ?_

theorem Grow.markBad (h : Grow s₀ s) (k : Nat) (detail : Nat) (off : Nat) :
    Grow s₀ (State.markBad s k detail off) := by
  delta State.markBad
  repeat' first
    | with_reducible assumption
    | with_reducible apply Grow.modExec
    | with_reducible refine Grow.ite ?_ ?_
    | (try lift_lets -underBinder); intro x; refine Grow.cut (x := x) ?_ ?_ <;> [subst x; (clear_value x; intro _)]
    | (try lift_lets -underBinder); intro x; first | subst x | skip
    | fail_if_no_progress with_reducible refine Grow.upd ?_

theorem Grow.dropFlying (h : Grow s₀ s) (k : Nat) (off : Nat) :
    Grow s₀ (State.dropFlying s k off) := by
  delta State.dropFlying
  repeat' first
    | with_reducible assumption
    | with_reducible apply Grow.modExec
    | (try lift_lets -underBinder); intro x; refine Grow.cut (x := x) ?_ ?_ <;> [subst x; (clear_value x; intro _)]
    | (try lift_lets -underBinder); intro x; first | subst x | skip
    | fail_if_no_progress with_reducible refine Grow.upd ?_

theorem Grow.finishChunk (h : Grow s₀ s) (k : Nat) (d : Desc) (x : Exec) (c : Chunk) :
    Grow s₀ (State.finishChunk s k d x c) := by
  delta State.finishChunk
  repeat' first
    | with_reducible assumption
    | with_reducible apply Grow.modExec
    | with_reducible apply Grow.putMem
    | with_reducible refine Grow.putMem_eq ?_ (by assumption)
    | with_reducible apply Grow.tagDesc
    | with_reducible refine Grow.ite ?_ ?_
    | (try lift_lets -underBinder); intro x; refine Grow.cut (x := x) ?_ ?_ <;> [subst x; (clear_value x; intro _)]
    | (try lift_lets -underBinder); intro x; first | subst x | skip
    | split
    | fail_if_no_progress dsimp only
    | fail_if_no_progress with_reducible refine Grow.upd ?_

theorem Grow.drain (h : Grow s₀ s) (k : Nat) (d : Desc) (n : Nat) :
    Grow s₀ (State.drain s k d n) := by
  induction n generalizing s with
  | zero => exact h
  | succ n ih =>
    rw [State.drain]
    repeat' first
      | with_reducible assumption
      | with_reducible apply Grow.finishChunk
      | with_reducible apply ih
      | with_reducible refine Grow.ite ?_ ?_
      | (try lift_lets -underBinder); intro x; refine Grow.cut (x := x) ?_ ?_ <;> [subst x; (clear_value x; intro _)]
      | (try lift_lets -underBinder); intro x; first | subst x | skip
      | split
      | fail_if_no_progress dsimp only
      | fail_if_no_progress with_reducible refine Grow.upd ?_

theorem Grow.readSide (h : Grow s₀ s) (k : Nat) (mem : Nat) (a : Nat) (off : Nat) (side : Nat) (len : Nat) :
    Grow s₀ (State.readSide s k mem a off side len) := by
  delta State.readSide
  repeat' first
    | with_reducible assumption
    | with_reducible apply Grow.count
    | with_reducible apply Grow.hostRead
    | with_reducible apply Grow.sendReq
    | with_reducible refine Grow.ite ?_ ?_
    | (try lift_lets -underBinder); intro x; refine Grow.cut (x := x) ?_ ?_ <;> [subst x; (clear_value x; intro _)]
    | (try lift_lets -underBinder); intro x; first | subst x | skip

theorem Grow.pump (h : Grow s₀ s) (k : Nat) (d : Desc) (n : Nat) :
    Grow s₀ (State.pump s k d n) := by
  induction n generalizing s with
  | zero => exact h
  | succ n ih =>
    rw [State.pump]
    repeat' first
      | with_reducible assumption
      | with_reducible apply Grow.drain
      | with_reducible apply Grow.modExec
      | with_reducible apply Grow.readSide
      | with_reducible apply Grow.showFill
      | with_reducible apply Grow.tagDesc
      | with_reducible apply ih
      | with_reducible refine Grow.ite ?_ ?_
      | (try lift_lets -underBinder); intro x; refine Grow.cut (x := x) ?_ ?_ <;> [subst x; (clear_value x; intro _)]
      | (try lift_lets -underBinder); intro x; first | subst x | skip
      | split
      | fail_if_no_progress dsimp only
      | fail_if_no_progress with_reducible refine Grow.upd ?_

theorem Grow.composeRec (h : Grow s₀ s) (k : Nat) (d : Desc) (x : Exec) :
    Grow s₀ (State.composeRec s k d x) := by
  delta State.composeRec
  repeat' first
    | with_reducible assumption
    | with_reducible apply Grow.compose
    | with_reducible refine Grow.compose_eq ?_ (by assumption)
    | with_reducible apply Grow.modExec
    | with_reducible refine Grow.setF ?_ _ _
    | with_reducible refine Grow.ite ?_ ?_
    | (try lift_lets -underBinder); intro x; refine Grow.cut (x := x) ?_ ?_ <;> [subst x; (clear_value x; intro _)]
    | (try lift_lets -underBinder); intro x; first | subst x | skip
    | fail_if_no_progress with_reducible refine Grow.upd ?_

theorem Grow.runTransfer (h : Grow s₀ s) (k : Nat) :
    Grow s₀ (State.runTransfer s k) := by
  delta State.runTransfer
  repeat' first
    | with_reducible assumption
    | with_reducible apply Grow.composeRec
    | with_reducible apply Grow.drain
    | with_reducible apply Grow.modExec
    | with_reducible apply Grow.pump
    | with_reducible refine Grow.setF ?_ _ _
    | with_reducible refine Grow.ite ?_ ?_
    | (try lift_lets -underBinder); intro x; refine Grow.cut (x := x) ?_ ?_ <;> [subst x; (clear_value x; intro _)]
    | (try lift_lets -underBinder); intro x; first | subst x | skip
    | split
    | fail_if_no_progress dsimp only
    | fail_if_no_progress with_reducible refine Grow.upd ?_

theorem Grow.deliver (h : Grow s₀ s) (k : Nat) (side : Nat) (off : Nat) (bs : List Nat) :
    Grow s₀ (State.deliver s k side off bs) := by
  delta State.deliver
  repeat' first
    | with_reducible assumption
    | with_reducible apply Grow.modExec
    | with_reducible apply Grow.runTransfer
    | with_reducible apply Grow.showFill
    | (try lift_lets -underBinder); intro x; refine Grow.cut (x := x) ?_ ?_ <;> [subst x; (clear_value x; intro _)]
    | (try lift_lets -underBinder); intro x; first | subst x | skip
    | fail_if_no_progress with_reducible refine Grow.upd ?_

theorem Grow.chunkError (h : Grow s₀ s) (k : Nat) (detail : Nat) (off : Nat) :
    Grow s₀ (State.chunkError s k detail off) := by
  delta State.chunkError
  repeat' first
    | with_reducible assumption
    | with_reducible apply Grow.dropFlying
    | with_reducible apply Grow.markBad
    | with_reducible apply Grow.runTransfer
    | with_reducible apply Grow.showFill

theorem Grow.refuse (h : Grow s₀ s) (k : Nat) (index : Nat) (d : Desc) (status : Nat) (detail : Nat) :
    Grow s₀ (State.refuse s k index d status detail) := by
  delta State.refuse
  repeat' first
    | with_reducible assumption
    | with_reducible refine Grow.addF ?_ _ _
    | with_reducible apply Grow.descRecord
    | with_reducible apply Grow.raise

theorem Grow.fetchFail (h : Grow s₀ s) (k : Nat) (detail : Nat) :
    Grow s₀ (State.fetchFail s k detail) := by
  delta State.fetchFail
  repeat' first
    | with_reducible assumption
    | with_reducible apply Grow.descRecord
    | with_reducible apply Grow.modStream
    | with_reducible apply Grow.raise
    | with_reducible refine Grow.setF ?_ _ _
    | with_reducible apply Grow.showFill
    | (try lift_lets -underBinder); intro x; refine Grow.cut (x := x) ?_ ?_ <;> [subst x; (clear_value x; intro _)]
    | (try lift_lets -underBinder); intro x; first | subst x | skip
    | fail_if_no_progress with_reducible refine Grow.upd ?_

theorem Grow.readFail (h : Grow s₀ s) (r : OutRead) (detail : Nat) :
    Grow s₀ (State.readFail s r detail) := by
  delta State.readFail
  repeat' first
    | with_reducible assumption
    | with_reducible apply Grow.chunkError
    | with_reducible apply Grow.fetchFail
    | with_reducible apply Grow.markBad
    | with_reducible apply Grow.modExec
    | with_reducible apply Grow.pumpMembers
    | with_reducible apply Grow.sendRsp
    | with_reducible apply Grow.showHost
    | (try lift_lets -underBinder); intro x; refine Grow.cut (x := x) ?_ ?_ <;> [subst x; (clear_value x; intro _)]
    | (try lift_lets -underBinder); intro x; first | subst x | skip
    | split
    | fail_if_no_progress dsimp only
    | fail_if_no_progress with_reducible refine Grow.upd ?_

theorem Grow.gotDescriptors (h : Grow s₀ s) (k : Nat) (bs : List Nat) :
    Grow s₀ (State.gotDescriptors s k bs) := by
  delta State.gotDescriptors
  repeat' first
    | with_reducible assumption
    | with_reducible apply Grow.modStream
    | with_reducible refine Grow.setF ?_ _ _
    | with_reducible apply Grow.showFill
    | (try lift_lets -underBinder); intro x; refine Grow.cut (x := x) ?_ ?_ <;> [subst x; (clear_value x; intro _)]
    | (try lift_lets -underBinder); intro x; first | subst x | skip
    | fail_if_no_progress with_reducible refine Grow.upd ?_

theorem Grow.showSlots (h : Grow s₀ s) :
    Grow s₀ (State.showSlots s) := by
  delta State.showSlots
  repeat' first
    | with_reducible assumption
    | with_reducible refine Grow.setF ?_ _ _

theorem Grow.slotAlloc (h : Grow s₀ s) (k : Nat) (arg : Nat) :
    Grow s₀ (State.slotAlloc s k arg).1 := by
  delta State.slotAlloc
  repeat' first
    | with_reducible assumption
    | with_reducible apply Grow.showSlots
    | with_reducible refine Grow.ite ?_ ?_
    | with_reducible refine Grow.ite_fst ?_ ?_
    | (try lift_lets -underBinder); intro x; refine Grow.cut (x := x) ?_ ?_ <;> [subst x; (clear_value x; intro _)]
    | (try lift_lets -underBinder); intro x; first | subst x | skip
    | split
    | fail_if_no_progress dsimp only
    | fail_if_no_progress with_reducible refine Grow.upd ?_

theorem Grow.slotAlloc_eq {c} {v} (h : Grow s₀ s) {k : Nat} {arg : Nat} (e : State.slotAlloc s k arg = (c, v)) :
    Grow s₀ c := by
  have k := Grow.slotAlloc h k arg
  rwa [e] at k

theorem Grow.slotFree (h : Grow s₀ s) (h : Nat) :
    Grow s₀ (State.slotFree s h) := by
  delta State.slotFree
  repeat' first
    | with_reducible assumption
    | with_reducible apply Grow.showSlots
    | with_reducible refine Grow.ite ?_ ?_
    | (try lift_lets -underBinder); intro x; refine Grow.cut (x := x) ?_ ?_ <;> [subst x; (clear_value x; intro _)]
    | (try lift_lets -underBinder); intro x; first | subst x | skip
    | fail_if_no_progress with_reducible refine Grow.upd ?_

/-! ### Machine/MemOps.lean -/

theorem Grow.setBanks (h : Grow s₀ s) (e : Nat) (v : Nat) :
    Grow s₀ (State.setBanks s e v) := by
  delta State.setBanks
  repeat' first
    | with_reducible assumption
    | with_reducible refine Grow.setFields_nil ?_
    | with_reducible refine Grow.setFields_cons ?_
    | with_reducible refine Grow.setF ?_ _ _

theorem Grow.setSpad (h : Grow s₀ s) (b : Nat) (v : Nat) :
    Grow s₀ (State.setSpad s b v) := by
  delta State.setSpad
  repeat' first
    | with_reducible assumption
    | with_reducible refine Grow.setF ?_ _ _
    | with_reducible refine Grow.ite ?_ ?_
    | (try lift_lets -underBinder); intro x; refine Grow.cut (x := x) ?_ ?_ <;> [subst x; (clear_value x; intro _)]
    | (try lift_lets -underBinder); intro x; first | subst x | skip

theorem Grow.onWrite (h : Grow s₀ s) (off : Nat) (g : State → State) (h_g : ∀ s, Grow s₀ s → Grow s₀ (g s)) :
    Grow s₀ (State.onWrite s off g) := by
  delta State.onWrite
  repeat' first
    | with_reducible assumption
    | with_reducible apply h_g
    | with_reducible refine Grow.ite ?_ ?_

/-! ### Machine/ThermOps.lean -/

theorem Grow.modSensor (h : Grow s₀ s) (n : Nat) (g : Sensor → Sensor) :
    Grow s₀ (State.modSensor s n g) := by
  delta State.modSensor
  repeat' first
    | with_reducible assumption
    | fail_if_no_progress with_reducible refine Grow.upd ?_

theorem Grow.showPred (h : Grow s₀ s) (tp : Option (Int × Nat)) :
    Grow s₀ (State.showPred s tp) := by
  delta State.showPred
  repeat' first
    | with_reducible assumption
    | with_reducible refine Grow.setF ?_ _ _
    | split
    | fail_if_no_progress with_reducible refine Grow.upd ?_

theorem Grow.showPausing (h : Grow s₀ s) :
    Grow s₀ (State.showPausing s) := by
  delta State.showPausing
  repeat' first
    | with_reducible assumption
    | with_reducible refine Grow.setFb ?_ _ _
    | (try lift_lets -underBinder); intro x; refine Grow.cut (x := x) ?_ ?_ <;> [subst x; (clear_value x; intro _)]
    | (try lift_lets -underBinder); intro x; first | subst x | skip

theorem Grow.pauseUntil (h : Grow s₀ s) (w : Nat) (t : Nat) :
    Grow s₀ (State.pauseUntil s w t) := by
  delta State.pauseUntil
  repeat' first
    | with_reducible assumption
    | with_reducible apply Grow.modWin
    | with_reducible refine Grow.setF ?_ _ _
    | with_reducible refine Grow.ite ?_ ?_
    | (try lift_lets -underBinder); intro x; refine Grow.cut (x := x) ?_ ?_ <;> [subst x; (clear_value x; intro _)]
    | (try lift_lets -underBinder); intro x; first | subst x | skip
    | fail_if_no_progress with_reducible refine Grow.upd ?_

theorem Grow.endPause (h : Grow s₀ s) (w : Nat) :
    Grow s₀ (State.endPause s w) := by
  delta State.endPause
  repeat' first
    | with_reducible assumption
    | with_reducible apply Grow.count
    | with_reducible apply Grow.modWin
    | with_reducible refine Grow.setF ?_ _ _
    | (try lift_lets -underBinder); intro x; refine Grow.cut (x := x) ?_ ?_ <;> [subst x; (clear_value x; intro _)]
    | (try lift_lets -underBinder); intro x; first | subst x | skip
    | split
    | fail_if_no_progress with_reducible refine Grow.upd ?_

theorem Grow.thermalStep (h : Grow s₀ s) (w : Nat) :
    Grow s₀ (State.thermalStep s w) := by
  delta State.thermalStep
  repeat' first
    | with_reducible assumption
    | with_reducible apply Grow.modWin
    | with_reducible apply Grow.pauseUntil
    | with_reducible apply Grow.showPausing
    | (try lift_lets -underBinder); intro x; refine Grow.cut (x := x) ?_ ?_ <;> [subst x; (clear_value x; intro _)]
    | (try lift_lets -underBinder); intro x; first | subst x | skip
    | fail_if_no_progress with_reducible refine Grow.upd ?_

theorem Grow.thermalGap (h : Grow s₀ s) (w : Nat) :
    Grow s₀ (State.thermalGap s w) := by
  delta State.thermalGap
  repeat' first
    | with_reducible assumption
    | with_reducible apply Grow.modWin
    | with_reducible apply Grow.thermalStep
    | with_reducible refine Grow.ite ?_ ?_
    | (try lift_lets -underBinder); intro x; refine Grow.cut (x := x) ?_ ?_ <;> [subst x; (clear_value x; intro _)]
    | (try lift_lets -underBinder); intro x; first | subst x | skip
    | fail_if_no_progress with_reducible refine Grow.upd ?_

/-! ### Machine/CalOps.lean -/

theorem Grow.modCal (h : Grow s₀ s) (k : Nat) (g : CalInst → CalInst) :
    Grow s₀ (State.modCal s k g) := by
  delta State.modCal
  repeat' first
    | with_reducible assumption
    | fail_if_no_progress with_reducible refine Grow.upd ?_

theorem Grow.showCal (h : Grow s₀ s) (k : Nat) :
    Grow s₀ (State.showCal s k) := by
  delta State.showCal
  repeat' first
    | with_reducible assumption
    | with_reducible refine Grow.setFs ?_ _ _
    | (try lift_lets -underBinder); intro x; refine Grow.cut (x := x) ?_ ?_ <;> [subst x; (clear_value x; intro _)]
    | (try lift_lets -underBinder); intro x; first | subst x | skip
    | split
    | fail_if_no_progress dsimp only
    | fail_if_no_progress with_reducible refine Grow.upd ?_

theorem Grow.setCal (h : Grow s₀ s) (k : Nat) (v : List Int) :
    Grow s₀ (State.setCal s k v) := by
  delta State.setCal
  repeat' first
    | with_reducible assumption
    | with_reducible apply Grow.modCal
    | with_reducible apply Grow.showCal
    | (try lift_lets -underBinder); intro x; refine Grow.cut (x := x) ?_ ?_ <;> [subst x; (clear_value x; intro _)]
    | (try lift_lets -underBinder); intro x; first | subst x | skip
    | fail_if_no_progress with_reducible refine Grow.upd ?_

theorem Grow.showDacs (h : Grow s₀ s) (n : Nat) :
    Grow s₀ (State.showDacs s n) := by
  delta State.showDacs
  repeat' first
    | with_reducible assumption
    | with_reducible refine Grow.setFields_nil ?_
    | with_reducible refine Grow.setFields_cons ?_
    | with_reducible refine Grow.setF ?_ _ _
    | split
    | fail_if_no_progress with_reducible refine Grow.upd ?_

theorem Grow.showSlewing (h : Grow s₀ s) :
    Grow s₀ (State.showSlewing s) := by
  delta State.showSlewing
  repeat' first
    | with_reducible assumption
    | with_reducible refine Grow.setF ?_ _ _
    | (try lift_lets -underBinder); intro x; refine Grow.cut (x := x) ?_ ?_ <;> [subst x; (clear_value x; intro _)]
    | (try lift_lets -underBinder); intro x; first | subst x | skip

theorem Grow.slewTo (h : Grow s₀ s) (k : Nat) (done : Nat) :
    Grow s₀ (State.slewTo s k done) := by
  delta State.slewTo
  repeat' first
    | with_reducible assumption
    | with_reducible apply Grow.modCal
    | with_reducible apply Grow.setCal
    | with_reducible apply Grow.showSlewing
    | with_reducible refine Grow.ite ?_ ?_
    | (try lift_lets -underBinder); intro x; refine Grow.cut (x := x) ?_ ?_ <;> [subst x; (clear_value x; intro _)]
    | (try lift_lets -underBinder); intro x; first | subst x | skip
    | fail_if_no_progress with_reducible refine Grow.upd ?_

theorem Grow.slewNew (h : Grow s₀ s) (k : Nat) (v : List Int) :
    Grow s₀ (State.slewNew s k v) := by
  delta State.slewNew
  repeat' first
    | with_reducible assumption
    | with_reducible apply Grow.modCal
    | with_reducible apply Grow.setCal
    | with_reducible apply Grow.showSlewing
    | with_reducible refine Grow.ite ?_ ?_
    | (try lift_lets -underBinder); intro x; refine Grow.cut (x := x) ?_ ?_ <;> [subst x; (clear_value x; intro _)]
    | (try lift_lets -underBinder); intro x; first | subst x | skip
    | fail_if_no_progress with_reducible refine Grow.upd ?_

theorem Grow.calSwap (h : Grow s₀ s) (n : Nat) :
    Grow s₀ (State.calSwap s n) := by
  delta State.calSwap
  repeat' first
    | with_reducible assumption
    | with_reducible apply Grow.modCal
    | with_reducible apply Grow.setCal
    | (try lift_lets -underBinder); intro x; refine Grow.cut (x := x) ?_ ?_ <;> [subst x; (clear_value x; intro _)]
    | (try lift_lets -underBinder); intro x; first | subst x | skip
    | split
    | fail_if_no_progress with_reducible refine Grow.upd ?_

theorem Grow.showNvPend (h : Grow s₀ s) :
    Grow s₀ (State.showNvPend s) := by
  delta State.showNvPend
  repeat' first
    | with_reducible assumption
    | with_reducible refine Grow.setFb ?_ _ _
    | (try lift_lets -underBinder); intro x; refine Grow.cut (x := x) ?_ ?_ <;> [subst x; (clear_value x; intro _)]
    | (try lift_lets -underBinder); intro x; first | subst x | skip

theorem Grow.calRecord (h : Grow s₀ s) (k : Nat) (v : List Int) :
    Grow s₀ (State.calRecord s k v) := by
  delta State.calRecord
  repeat' first
    | with_reducible assumption
    | with_reducible apply Grow.modCal
    | with_reducible apply Grow.showNvPend
    | with_reducible refine Grow.ite ?_ ?_
    | (try lift_lets -underBinder); intro x; refine Grow.cut (x := x) ?_ ?_ <;> [subst x; (clear_value x; intro _)]
    | (try lift_lets -underBinder); intro x; first | subst x | skip
    | split
    | fail_if_no_progress dsimp only
    | fail_if_no_progress with_reducible refine Grow.upd ?_

theorem Grow.calRetry (h : Grow s₀ s) :
    Grow s₀ (State.calRetry s) := by
  delta State.calRetry
  repeat' first
    | with_reducible assumption
    | with_reducible apply Grow.calRecord
    | with_reducible refine Grow.foldl ?_ ?_
    | (try lift_lets -underBinder); intro x; refine Grow.cut (x := x) ?_ ?_ <;> [subst x; (clear_value x; intro _)]
    | (try lift_lets -underBinder); intro x; first | subst x | skip
    | split
    | fail_if_no_progress with_reducible refine Grow.upd ?_

theorem Grow.calAgreed (h : Grow s₀ s) (k : Nat) :
    Grow s₀ (State.calAgreed s k) := by
  delta State.calAgreed
  repeat' first
    | with_reducible assumption
    | with_reducible refine Grow.incF ?_ _ _
    | with_reducible apply Grow.modCal
    | with_reducible refine Grow.setFields_nil ?_
    | with_reducible refine Grow.setFields_cons ?_
    | with_reducible refine Grow.setF ?_ _ _
    | (try lift_lets -underBinder); intro x; refine Grow.cut (x := x) ?_ ?_ <;> [subst x; (clear_value x; intro _)]
    | (try lift_lets -underBinder); intro x; first | subst x | skip
    | fail_if_no_progress with_reducible refine Grow.upd ?_

theorem Grow.showFactory (h : Grow s₀ s) :
    Grow s₀ (State.showFactory s) := by
  delta State.showFactory
  repeat' first
    | with_reducible assumption
    | with_reducible refine Grow.setF ?_ _ _
    | (try lift_lets -underBinder); intro x; refine Grow.cut (x := x) ?_ ?_ <;> [subst x; (clear_value x; intro _)]
    | (try lift_lets -underBinder); intro x; first | subst x | skip

theorem Grow.calDisagree (h : Grow s₀ s) (k : Nat) :
    Grow s₀ (State.calDisagree s k) := by
  delta State.calDisagree
  repeat' first
    | with_reducible assumption
    | with_reducible refine Grow.addF ?_ _ _
    | with_reducible apply Grow.modCal
    | with_reducible apply Grow.raise
    | (try lift_lets -underBinder); intro x; refine Grow.cut (x := x) ?_ ?_ <;> [subst x; (clear_value x; intro _)]
    | (try lift_lets -underBinder); intro x; first | subst x | skip
    | fail_if_no_progress with_reducible refine Grow.upd ?_

theorem Grow.calValue (h : Grow s₀ s) (k : Nat) (a : List Int) (b : List Int) :
    Grow s₀ (State.calValue s k a b).1 := by
  delta State.calValue
  repeat' first
    | with_reducible assumption
    | with_reducible apply Grow.raise
    | with_reducible refine Grow.ite ?_ ?_
    | with_reducible refine Grow.ite_fst ?_ ?_
    | (try lift_lets -underBinder); intro x; refine Grow.cut (x := x) ?_ ?_ <;> [subst x; (clear_value x; intro _)]
    | (try lift_lets -underBinder); intro x; first | subst x | skip
    | split

theorem Grow.calValue_eq {c} {v} (h : Grow s₀ s) {k : Nat} {a : List Int} {b : List Int} (e : State.calValue s k a b = (c, v)) :
    Grow s₀ c := by
  have k := Grow.calValue h k a b
  rwa [e] at k

theorem Grow.calPair (h : Grow s₀ s) (k : Nat) (a : List Int) (b : List Int) :
    Grow s₀ (State.calPair s k a b) := by
  delta State.calPair
  repeat' first
    | with_reducible assumption
    | with_reducible apply Grow.calAgreed
    | with_reducible apply Grow.calDisagree
    | with_reducible apply Grow.calRecord
    | with_reducible apply Grow.calValue
    | with_reducible refine Grow.calValue_eq ?_ (by assumption)
    | with_reducible apply Grow.modCal
    | with_reducible apply Grow.showFactory
    | with_reducible apply Grow.slewNew
    | with_reducible refine Grow.ite ?_ ?_
    | (try lift_lets -underBinder); intro x; refine Grow.cut (x := x) ?_ ?_ <;> [subst x; (clear_value x; intro _)]
    | (try lift_lets -underBinder); intro x; first | subst x | skip
    | split
    | fail_if_no_progress with_reducible refine Grow.upd ?_

theorem Grow.calDawnPair (h : Grow s₀ s) (k : Nat) (a : List Int) (b : List Int) :
    Grow s₀ (State.calDawnPair s k a b) := by
  delta State.calDawnPair
  repeat' first
    | with_reducible assumption
    | with_reducible apply Grow.calAgreed
    | with_reducible apply Grow.calDisagree
    | with_reducible apply Grow.calRecord
    | with_reducible apply Grow.calValue
    | with_reducible refine Grow.calValue_eq ?_ (by assumption)
    | with_reducible apply Grow.modCal
    | with_reducible apply Grow.setCal
    | with_reducible apply Grow.showFactory
    | with_reducible refine Grow.ite ?_ ?_
    | (try lift_lets -underBinder); intro x; refine Grow.cut (x := x) ?_ ?_ <;> [subst x; (clear_value x; intro _)]
    | (try lift_lets -underBinder); intro x; first | subst x | skip
    | split
    | fail_if_no_progress with_reducible refine Grow.upd ?_

theorem Grow.calLoad (h : Grow s₀ s) (k : Nat) :
    Grow s₀ (State.calLoad s k) := by
  delta State.calLoad
  repeat' first
    | with_reducible assumption
    | with_reducible apply Grow.modCal
    | with_reducible apply Grow.raise
    | with_reducible apply Grow.setCal
    | with_reducible refine Grow.ite ?_ ?_
    | (try lift_lets -underBinder); intro x; refine Grow.cut (x := x) ?_ ?_ <;> [subst x; (clear_value x; intro _)]
    | (try lift_lets -underBinder); intro x; first | subst x | skip
    | fail_if_no_progress with_reducible refine Grow.upd ?_

theorem Grow.calDawn (h : Grow s₀ s) :
    Grow s₀ (State.calDawn s) := by
  delta State.calDawn
  repeat' first
    | with_reducible assumption
    | with_reducible apply Grow.calLoad
    | with_reducible apply Grow.showFactory
    | with_reducible apply Grow.showSlewing
    | with_reducible refine Grow.foldl ?_ ?_
    | (try lift_lets -underBinder); intro x; refine Grow.cut (x := x) ?_ ?_ <;> [subst x; (clear_value x; intro _)]
    | (try lift_lets -underBinder); intro x; first | subst x | skip

theorem Grow.calDawnStart (h : Grow s₀ s) :
    Grow s₀ (State.calDawnStart s) := by
  delta State.calDawnStart
  repeat' first
    | with_reducible assumption
    | with_reducible apply Grow.modCal
    | with_reducible refine Grow.foldl ?_ ?_
    | (try lift_lets -underBinder); intro x; refine Grow.cut (x := x) ?_ ?_ <;> [subst x; (clear_value x; intro _)]
    | (try lift_lets -underBinder); intro x; first | subst x | skip
    | fail_if_no_progress with_reducible refine Grow.upd ?_

theorem Grow.calDue (h : Grow s₀ s) (k : Nat) :
    Grow s₀ (State.calDue s k) := by
  delta State.calDue
  repeat' first
    | with_reducible assumption
    | with_reducible apply Grow.modCal
    | with_reducible refine Grow.ite ?_ ?_
    | (try lift_lets -underBinder); intro x; refine Grow.cut (x := x) ?_ ?_ <;> [subst x; (clear_value x; intro _)]
    | (try lift_lets -underBinder); intro x; first | subst x | skip
    | fail_if_no_progress with_reducible refine Grow.upd ?_

theorem Grow.calAllDue (h : Grow s₀ s) :
    Grow s₀ (State.calAllDue s) := by
  delta State.calAllDue
  repeat' first
    | with_reducible assumption
    | with_reducible apply Grow.calDue
    | with_reducible refine Grow.foldl ?_ ?_
    | (try lift_lets -underBinder); intro x; refine Grow.cut (x := x) ?_ ?_ <;> [subst x; (clear_value x; intro _)]
    | (try lift_lets -underBinder); intro x; first | subst x | skip

theorem Grow.calAbandon (h : Grow s₀ s) (w : Nat) :
    Grow s₀ (State.calAbandon s w) := by
  delta State.calAbandon
  repeat' first
    | with_reducible assumption
    | with_reducible apply Grow.modCal
    | with_reducible refine Grow.ite ?_ ?_
    | with_reducible refine Grow.foldl ?_ ?_
    | (try lift_lets -underBinder); intro x; refine Grow.cut (x := x) ?_ ?_ <;> [subst x; (clear_value x; intro _)]
    | (try lift_lets -underBinder); intro x; first | subst x | skip
    | fail_if_no_progress with_reducible refine Grow.upd ?_

theorem Grow.calDrop (h : Grow s₀ s) :
    Grow s₀ (State.calDrop s) := by
  delta State.calDrop
  repeat' first
    | with_reducible assumption
    | with_reducible apply Grow.modCal
    | with_reducible refine Grow.ite ?_ ?_
    | with_reducible refine Grow.foldl ?_ ?_
    | (try lift_lets -underBinder); intro x; refine Grow.cut (x := x) ?_ ?_ <;> [subst x; (clear_value x; intro _)]
    | (try lift_lets -underBinder); intro x; first | subst x | skip
    | fail_if_no_progress with_reducible refine Grow.upd ?_

theorem Grow.calApply (h : Grow s₀ s) (p : CalPolicy) :
    Grow s₀ (State.calApply s p) := by
  delta State.calApply
  repeat' first
    | with_reducible assumption
    | with_reducible apply Grow.modCal
    | with_reducible apply Grow.setCal
    | with_reducible apply Grow.showDacs
    | with_reducible apply Grow.showSlewing
    | with_reducible apply Grow.slewTo
    | with_reducible refine Grow.ite ?_ ?_
    | with_reducible refine Grow.foldl ?_ ?_
    | (try lift_lets -underBinder); intro x; refine Grow.cut (x := x) ?_ ?_ <;> [subst x; (clear_value x; intro _)]
    | (try lift_lets -underBinder); intro x; first | subst x | skip
    | fail_if_no_progress with_reducible refine Grow.upd ?_

theorem Grow.countEdge (h : Grow s₀ s) (ph : List Nat) :
    Grow s₀ (State.countEdge s ph) := by
  delta State.countEdge
  repeat' first
    | with_reducible assumption
    | with_reducible apply Grow.modCal
    | with_reducible refine Grow.ite ?_ ?_
    | with_reducible refine Grow.foldl ?_ ?_
    | (try lift_lets -underBinder); intro x; refine Grow.cut (x := x) ?_ ?_ <;> [subst x; (clear_value x; intro _)]
    | (try lift_lets -underBinder); intro x; first | subst x | skip
    | fail_if_no_progress with_reducible refine Grow.upd ?_

/-! ### Machine/FireOps.lean -/

theorem Grow.modPin (h : Grow s₀ s) (n : Nat) (g : PosIn → PosIn) :
    Grow s₀ (State.modPin s n g) := by
  delta State.modPin
  repeat' first
    | with_reducible assumption
    | fail_if_no_progress with_reducible refine Grow.upd ?_

theorem Grow.resetFire (h : Grow s₀ s) (n : Nat) :
    Grow s₀ (State.resetFire s n) := by
  delta State.resetFire
  repeat' first
    | with_reducible assumption
    | with_reducible apply Grow.modFire
    | with_reducible refine Grow.setFields_nil ?_
    | with_reducible refine Grow.setFields_cons ?_
    | with_reducible refine Grow.setF ?_ _ _
    | with_reducible refine Grow.setFs ?_ _ _
    | with_reducible refine Grow.ite ?_ ?_
    | (try lift_lets -underBinder); intro x; refine Grow.cut (x := x) ?_ ?_ <;> [subst x; (clear_value x; intro _)]
    | (try lift_lets -underBinder); intro x; first | subst x | skip
    | split
    | fail_if_no_progress dsimp only
    | fail_if_no_progress with_reducible refine Grow.upd ?_

theorem Grow.refFrac (h : Grow s₀ s) (n : Nat) :
    Grow s₀ (State.refFrac s n) := by
  delta State.refFrac
  repeat' first
    | with_reducible assumption
    | with_reducible apply Grow.raiseLane
    | with_reducible refine Grow.ite ?_ ?_
    | split
    | fail_if_no_progress with_reducible refine Grow.upd ?_

theorem Grow.armPass (h : Grow s₀ s) (n : Nat) (p : Nat) (start : Nat) :
    Grow s₀ (State.armPass s n p start) := by
  delta State.armPass
  repeat' first
    | with_reducible assumption
    | with_reducible apply Grow.modLane
    | with_reducible apply Grow.refFrac
    | with_reducible apply Grow.resetFire
    | with_reducible refine Grow.setFields_nil ?_
    | with_reducible refine Grow.setFields_cons ?_
    | with_reducible refine Grow.setF ?_ _ _
    | with_reducible refine Grow.ite ?_ ?_
    | (try lift_lets -underBinder); intro x; refine Grow.cut (x := x) ?_ ?_ <;> [subst x; (clear_value x; intro _)]
    | (try lift_lets -underBinder); intro x; first | subst x | skip
    | split
    | fail_if_no_progress dsimp only
    | fail_if_no_progress with_reducible refine Grow.upd ?_

theorem Grow.showPlan (h : Grow s₀ s) :
    Grow s₀ (State.showPlan s) := by
  delta State.showPlan
  repeat' first
    | with_reducible assumption
    | with_reducible refine Grow.setF ?_ _ _
    | with_reducible refine Grow.foldl ?_ ?_
    | (try lift_lets -underBinder); intro x; refine Grow.cut (x := x) ?_ ?_ <;> [subst x; (clear_value x; intro _)]
    | (try lift_lets -underBinder); intro x; first | subst x | skip

theorem Grow.brokerPause (h : Grow s₀ s) (w : Nat) (us : Nat) :
    Grow s₀ (State.brokerPause s w us) := by
  delta State.brokerPause
  repeat' first
    | with_reducible assumption
    | with_reducible refine Grow.addF ?_ _ _
    | with_reducible apply Grow.pauseUntil
    | with_reducible refine Grow.setF ?_ _ _

theorem Grow.holdDoc (h : Grow s₀ s) (w : Nat) (b : Bool) :
    Grow s₀ (State.holdDoc s w b) := by
  delta State.holdDoc
  repeat' first
    | with_reducible assumption
    | with_reducible apply Grow.modWin
    | (try lift_lets -underBinder); intro x; refine Grow.cut (x := x) ?_ ?_ <;> [subst x; (clear_value x; intro _)]
    | (try lift_lets -underBinder); intro x; first | subst x | skip
    | fail_if_no_progress with_reducible refine Grow.upd ?_

theorem Grow.pauseFor (h : Grow s₀ s) (w : Nat) (us : Nat) :
    Grow s₀ (State.pauseFor s w us) := by
  delta State.pauseFor
  repeat' first
    | with_reducible assumption
    | with_reducible apply Grow.brokerPause
    | with_reducible refine Grow.ite ?_ ?_

theorem Grow.admitDoc (h : Grow s₀ s) (w : Nat) :
    Grow s₀ (State.admitDoc s w) := by
  delta State.admitDoc
  repeat' first
    | with_reducible assumption
    | with_reducible apply Grow.brokerPause
    | with_reducible apply Grow.holdDoc
    | with_reducible apply Grow.pauseFor
    | with_reducible apply Grow.raise
    | with_reducible refine Grow.ite ?_ ?_
    | (try lift_lets -underBinder); intro x; refine Grow.cut (x := x) ?_ ?_ <;> [subst x; (clear_value x; intro _)]
    | (try lift_lets -underBinder); intro x; first | subst x | skip
    | split
    | fail_if_no_progress dsimp only
    | fail_if_no_progress with_reducible refine Grow.upd ?_

theorem Grow.clearScanned (h : Grow s₀ s) (w : Nat) :
    Grow s₀ (State.clearScanned s w) := by
  delta State.clearScanned
  repeat' first
    | with_reducible assumption
    | with_reducible apply Grow.modTh
    | with_reducible refine Grow.foldl ?_ ?_
    | (try lift_lets -underBinder); intro x; refine Grow.cut (x := x) ?_ ?_ <;> [subst x; (clear_value x; intro _)]
    | (try lift_lets -underBinder); intro x; first | subst x | skip
    | fail_if_no_progress with_reducible refine Grow.upd ?_

theorem Grow.abandonGap (h : Grow s₀ s) (w : Nat) :
    Grow s₀ (State.abandonGap s w) := by
  delta State.abandonGap
  repeat' first
    | with_reducible assumption
    | with_reducible apply Grow.calAbandon
    | with_reducible apply Grow.clearScanned

theorem Grow.checkExtent (h : Grow s₀ s) (w : Nat) :
    Grow s₀ (State.checkExtent s w) := by
  delta State.checkExtent
  repeat' first
    | with_reducible assumption
    | with_reducible apply Grow.modWin
    | with_reducible apply Grow.raise
    | with_reducible refine Grow.ite ?_ ?_
    | (try lift_lets -underBinder); intro x; refine Grow.cut (x := x) ?_ ?_ <;> [subst x; (clear_value x; intro _)]
    | (try lift_lets -underBinder); intro x; first | subst x | skip
    | split
    | fail_if_no_progress with_reducible refine Grow.upd ?_

theorem Grow.showLast (h : Grow s₀ s) (w : Nat) :
    Grow s₀ (State.showLast s w) := by
  delta State.showLast
  repeat' first
    | with_reducible assumption
    | with_reducible refine Grow.setF ?_ _ _
    | split
    | fail_if_no_progress with_reducible refine Grow.upd ?_

theorem Grow.maskKind (h : Grow s₀ s) (m : Option MaskSet) (n : Nat) :
    Grow s₀ (State.maskKind s m n) := by
  delta State.maskKind
  repeat' first
    | with_reducible assumption
    | with_reducible apply Grow.raiseLane
    | with_reducible refine Grow.setF ?_ _ _
    | with_reducible refine Grow.ite ?_ ?_
    | split
    | fail_if_no_progress with_reducible refine Grow.upd ?_

theorem Grow.beginDoc (h : Grow s₀ s) (w : Nat) (d : Doc) :
    Grow s₀ (State.beginDoc s w d) := by
  delta State.beginDoc
  repeat' first
    | with_reducible assumption
    | with_reducible apply Grow.abandonGap
    | with_reducible apply Grow.armPass
    | with_reducible apply Grow.checkExtent
    | with_reducible apply Grow.endPause
    | with_reducible apply Grow.handCues
    | with_reducible apply Grow.maskKind
    | with_reducible apply Grow.modFire
    | with_reducible apply Grow.modWin
    | with_reducible apply Grow.setAcct
    | with_reducible refine Grow.setF ?_ _ _
    | with_reducible refine Grow.setFields_nil ?_
    | with_reducible refine Grow.setFields_cons ?_
    | with_reducible refine Grow.setF ?_ _ _
    | with_reducible apply Grow.showLast
    | with_reducible apply Grow.showPausing
    | with_reducible apply Grow.showPlan
    | with_reducible refine Grow.ite ?_ ?_
    | with_reducible refine Grow.foldl ?_ ?_
    | (try lift_lets -underBinder); intro x; refine Grow.cut (x := x) ?_ ?_ <;> [subst x; (clear_value x; intro _)]
    | (try lift_lets -underBinder); intro x; first | subst x | skip
    | fail_if_no_progress with_reducible refine Grow.upd ?_

theorem Grow.acceptOpen (h : Grow s₀ s) (w : Nat) :
    Grow s₀ (State.acceptOpen s w) := by
  delta State.acceptOpen
  repeat' first
    | with_reducible assumption
    | with_reducible apply Grow.beginDoc
    | with_reducible apply Grow.modDoc
    | with_reducible apply Grow.modWin
    | with_reducible apply Grow.showQueue
    | with_reducible refine Grow.ite ?_ ?_
    | (try lift_lets -underBinder); intro x; refine Grow.cut (x := x) ?_ ?_ <;> [subst x; (clear_value x; intro _)]
    | (try lift_lets -underBinder); intro x; first | subst x | skip
    | split
    | fail_if_no_progress dsimp only
    | fail_if_no_progress with_reducible refine Grow.upd ?_

theorem Grow.openPattern (h : Grow s₀ s) (w : Nat) :
    Grow s₀ (State.openPattern s w) := by
  delta State.openPattern
  repeat' first
    | with_reducible assumption
    | with_reducible apply Grow.beginDoc

theorem Grow.discardOpen (h : Grow s₀ s) (w : Nat) :
    Grow s₀ (State.discardOpen s w) := by
  delta State.discardOpen
  repeat' first
    | with_reducible assumption
    | with_reducible refine Grow.addF ?_ _ _

theorem Grow.openWin (h : Grow s₀ s) (w : Nat) :
    Grow s₀ (State.openWin s w) := by
  delta State.openWin
  repeat' first
    | with_reducible assumption
    | with_reducible apply Grow.acceptOpen
    | with_reducible refine Grow.addF ?_ _ _
    | with_reducible apply Grow.discardOpen
    | with_reducible apply Grow.modWin
    | with_reducible apply Grow.raise
    | with_reducible refine Grow.setF ?_ _ _
    | with_reducible refine Grow.ite ?_ ?_
    | (try lift_lets -underBinder); intro x; refine Grow.cut (x := x) ?_ ?_ <;> [subst x; (clear_value x; intro _)]
    | (try lift_lets -underBinder); intro x; first | subst x | skip
    | fail_if_no_progress with_reducible refine Grow.upd ?_

theorem Grow.writeJoin (h : Grow s₀ s) (j : JoinDoc) :
    Grow s₀ (State.writeJoin s j) := by
  delta State.writeJoin
  repeat' first
    | with_reducible assumption
    | with_reducible apply Grow.docRecord
    | with_reducible refine Grow.ite ?_ ?_
    | with_reducible refine Grow.foldl ?_ ?_
    | (try lift_lets -underBinder); intro x; refine Grow.cut (x := x) ?_ ?_ <;> [subst x; (clear_value x; intro _)]
    | (try lift_lets -underBinder); intro x; first | subst x | skip

theorem Grow.addReport (h : Grow s₀ s) (win : Nat) (tag : Nat) (rep : Nat) (eid : Nat) (status : Nat) (last : Nat) (skipped : Nat) (own : Option (Nat × Nat × Nat)) :
    Grow s₀ (State.addReport s win tag rep eid status last skipped own) := by
  delta State.addReport
  repeat' first
    | with_reducible assumption
    | with_reducible apply Grow.writeJoin
    | with_reducible refine Grow.ite ?_ ?_
    | (try lift_lets -underBinder); intro x; refine Grow.cut (x := x) ?_ ?_ <;> [subst x; (clear_value x; intro _)]
    | (try lift_lets -underBinder); intro x; first | subst x | skip
    | split
    | fail_if_no_progress dsimp only
    | fail_if_no_progress with_reducible refine Grow.upd ?_

theorem Grow.docEnd (h : Grow s₀ s) (w : Nat) (stream : Nat) (tag : Nat) (rep : Nat) (status : Nat) (seq : Nat) (last : Nat) (skipped : Nat) (short : Bool) (test : Bool) :
    Grow s₀ (State.docEnd s w stream tag rep status seq last skipped short test) := by
  delta State.docEnd
  repeat' first
    | with_reducible assumption
    | with_reducible apply Grow.addReport
    | with_reducible apply Grow.docRecord
    | with_reducible apply Grow.sendReq
    | with_reducible refine Grow.setF ?_ _ _
    | with_reducible refine Grow.ite ?_ ?_
    | (try lift_lets -underBinder); intro x; refine Grow.cut (x := x) ?_ ?_ <;> [subst x; (clear_value x; intro _)]
    | (try lift_lets -underBinder); intro x; first | subst x | skip

theorem Grow.completeDoc (h : Grow s₀ s) (w : Nat) :
    Grow s₀ (State.completeDoc s w) := by
  delta State.completeDoc
  repeat' first
    | with_reducible assumption
    | with_reducible apply Grow.count
    | with_reducible apply Grow.docEnd
    | with_reducible apply Grow.emitSrc
    | with_reducible apply Grow.endPulseDoc
    | with_reducible apply Grow.modFire
    | with_reducible apply Grow.modWin
    | with_reducible refine Grow.setF ?_ _ _
    | with_reducible refine Grow.setFields_nil ?_
    | with_reducible refine Grow.setFields_cons ?_
    | with_reducible refine Grow.setF ?_ _ _
    | with_reducible apply Grow.showComp
    | with_reducible apply Grow.showPlan
    | with_reducible apply Grow.showQueue
    | with_reducible apply Grow.tagRecord
    | with_reducible refine Grow.ite ?_ ?_
    | with_reducible refine Grow.foldl ?_ ?_
    | (try lift_lets -underBinder); intro x; refine Grow.cut (x := x) ?_ ?_ <;> [subst x; (clear_value x; intro _)]
    | (try lift_lets -underBinder); intro x; first | subst x | skip
    | split
    | fail_if_no_progress dsimp only
    | fail_if_no_progress with_reducible refine Grow.upd ?_

theorem Grow.tryComplete (h : Grow s₀ s) (w : Nat) :
    Grow s₀ (State.tryComplete s w) := by
  delta State.tryComplete
  repeat' first
    | with_reducible assumption
    | with_reducible apply Grow.completeDoc
    | with_reducible refine Grow.ite ?_ ?_
    | (try lift_lets -underBinder); intro x; refine Grow.cut (x := x) ?_ ?_ <;> [subst x; (clear_value x; intro _)]
    | (try lift_lets -underBinder); intro x; first | subst x | skip

theorem Grow.checkPass (h : Grow s₀ s) (n : Nat) (w : Nat) (d : Doc) :
    Grow s₀ (State.checkPass s n w d) := by
  delta State.checkPass
  repeat' first
    | with_reducible assumption
    | with_reducible apply Grow.armPass
    | with_reducible apply Grow.modFire
    | with_reducible refine Grow.setF ?_ _ _
    | with_reducible refine Grow.ite ?_ ?_
    | with_reducible refine Grow.foldl ?_ ?_
    | (try lift_lets -underBinder); intro x; refine Grow.cut (x := x) ?_ ?_ <;> [subst x; (clear_value x; intro _)]
    | (try lift_lets -underBinder); intro x; first | subst x | skip
    | split
    | fail_if_no_progress dsimp only
    | fail_if_no_progress with_reducible refine Grow.upd ?_

theorem Grow.checkPasses (h : Grow s₀ s) (w : Nat) :
    Grow s₀ (State.checkPasses s w) := by
  delta State.checkPasses
  repeat' first
    | with_reducible assumption
    | with_reducible apply Grow.checkPass
    | with_reducible apply Grow.tryComplete
    | with_reducible refine Grow.ite ?_ ?_
    | with_reducible refine Grow.foldl ?_ ?_
    | (try lift_lets -underBinder); intro x; refine Grow.cut (x := x) ?_ ?_ <;> [subst x; (clear_value x; intro _)]
    | (try lift_lets -underBinder); intro x; first | subst x | skip
    | split
    | fail_if_no_progress with_reducible refine Grow.upd ?_

theorem Grow.cutPackets (h : Grow s₀ s) (w : Nat) (d : Doc) :
    Grow s₀ (State.cutPackets s w d) := by
  delta State.cutPackets
  repeat' first
    | with_reducible assumption
    | with_reducible apply Grow.modLane
    | with_reducible apply Grow.modPort
    | with_reducible refine Grow.foldl ?_ ?_
    | (try lift_lets -underBinder); intro x; refine Grow.cut (x := x) ?_ ?_ <;> [subst x; (clear_value x; intro _)]
    | (try lift_lets -underBinder); intro x; first | subst x | skip
    | split
    | fail_if_no_progress dsimp only
    | fail_if_no_progress with_reducible refine Grow.upd ?_

theorem Grow.closeWin (h : Grow s₀ s) (w : Nat) :
    Grow s₀ (State.closeWin s w) := by
  delta State.closeWin
  repeat' first
    | with_reducible assumption
    | with_reducible apply Grow.checkExtent
    | with_reducible apply Grow.checkPasses
    | with_reducible apply Grow.cutPackets
    | with_reducible apply Grow.modWin
    | with_reducible apply Grow.raise
    | with_reducible refine Grow.setF ?_ _ _
    | with_reducible apply Grow.showLast
    | with_reducible refine Grow.ite ?_ ?_
    | (try lift_lets -underBinder); intro x; refine Grow.cut (x := x) ?_ ?_ <;> [subst x; (clear_value x; intro _)]
    | (try lift_lets -underBinder); intro x; first | subst x | skip
    | split
    | fail_if_no_progress dsimp only
    | fail_if_no_progress with_reducible refine Grow.upd ?_

theorem Grow.askStop (h : Grow s₀ s) (w : Nat) :
    Grow s₀ (State.askStop s w) := by
  delta State.askStop
  repeat' first
    | with_reducible assumption
    | with_reducible apply Grow.modWin
    | with_reducible refine Grow.ite ?_ ?_
    | (try lift_lets -underBinder); intro x; refine Grow.cut (x := x) ?_ ?_ <;> [subst x; (clear_value x; intro _)]
    | (try lift_lets -underBinder); intro x; first | subst x | skip
    | fail_if_no_progress with_reducible refine Grow.upd ?_

theorem Grow.applyStop (h : Grow s₀ s) (w : Nat) :
    Grow s₀ (State.applyStop s w) := by
  delta State.applyStop
  repeat' first
    | with_reducible assumption
    | with_reducible apply Grow.checkPasses
    | with_reducible apply Grow.cutPackets
    | with_reducible apply Grow.modWin
    | with_reducible refine Grow.setF ?_ _ _
    | with_reducible apply Grow.showLast
    | with_reducible refine Grow.ite ?_ ?_
    | with_reducible refine Grow.foldl ?_ ?_
    | (try lift_lets -underBinder); intro x; refine Grow.cut (x := x) ?_ ?_ <;> [subst x; (clear_value x; intro _)]
    | (try lift_lets -underBinder); intro x; first | subst x | skip
    | split
    | fail_if_no_progress dsimp only
    | fail_if_no_progress with_reducible refine Grow.upd ?_

theorem Grow.liveSwap (h : Grow s₀ s) (w : Nat) (hold : Nat) :
    Grow s₀ (State.liveSwap s w hold) := by
  delta State.liveSwap
  repeat' first
    | with_reducible assumption
    | with_reducible apply Grow.holdCues
    | with_reducible apply Grow.modPin
    | with_reducible apply Grow.resetFire
    | with_reducible refine Grow.setFields_nil ?_
    | with_reducible refine Grow.setFields_cons ?_
    | with_reducible refine Grow.setF ?_ _ _
    | with_reducible apply Grow.showCues
    | with_reducible refine Grow.ite ?_ ?_
    | with_reducible refine Grow.foldl ?_ ?_
    | (try lift_lets -underBinder); intro x; refine Grow.cut (x := x) ?_ ?_ <;> [subst x; (clear_value x; intro _)]
    | (try lift_lets -underBinder); intro x; first | subst x | skip
    | split
    | fail_if_no_progress dsimp only
    | fail_if_no_progress with_reducible refine Grow.upd ?_

theorem Grow.swapWin (h : Grow s₀ s) (w : Nat) :
    Grow s₀ (State.swapWin s w) := by
  delta State.swapWin
  repeat' first
    | with_reducible assumption
    | with_reducible apply Grow.bypassTile
    | with_reducible apply Grow.calSwap
    | with_reducible apply Grow.healthSwap
    | with_reducible apply Grow.liveSwap
    | with_reducible apply Grow.modPort
    | with_reducible apply Grow.modWin
    | with_reducible apply Grow.serveRolls
    | with_reducible apply Grow.serveSpares
    | with_reducible refine Grow.ite ?_ ?_
    | with_reducible refine Grow.foldl ?_ ?_
    | (try lift_lets -underBinder); intro x; refine Grow.cut (x := x) ?_ ?_ <;> [subst x; (clear_value x; intro _)]
    | (try lift_lets -underBinder); intro x; first | subst x | skip
    | fail_if_no_progress with_reducible refine Grow.upd ?_

theorem Grow.tryDeliver (h : Grow s₀ s) (w : Nat) :
    Grow s₀ (State.tryDeliver s w) := by
  delta State.tryDeliver
  repeat' first
    | with_reducible assumption
    | with_reducible apply Grow.admitDoc
    | with_reducible apply Grow.modDoc
    | with_reducible refine Grow.setF ?_ _ _
    | with_reducible apply Grow.showQueue
    | with_reducible refine Grow.ite ?_ ?_
    | with_reducible refine Grow.foldl ?_ ?_
    | (try lift_lets -underBinder); intro x; refine Grow.cut (x := x) ?_ ?_ <;> [subst x; (clear_value x; intro _)]
    | (try lift_lets -underBinder); intro x; first | subst x | skip
    | split
    | fail_if_no_progress dsimp only
    | fail_if_no_progress with_reducible refine Grow.upd ?_

theorem Grow.beginGap (h : Grow s₀ s) (w : Nat) :
    Grow s₀ (State.beginGap s w) := by
  delta State.beginGap
  repeat' first
    | with_reducible assumption
    | with_reducible apply Grow.admitDoc
    | with_reducible apply Grow.calRetry
    | with_reducible apply Grow.clearScanned
    | with_reducible apply Grow.modWin
    | with_reducible apply Grow.planEnergies
    | with_reducible apply Grow.swapWin
    | with_reducible apply Grow.thermalGap
    | with_reducible apply Grow.tryDeliver
    | with_reducible apply Grow.usageWrite
    | with_reducible refine Grow.ite ?_ ?_
    | with_reducible refine Grow.foldl ?_ ?_
    | (try lift_lets -underBinder); intro x; refine Grow.cut (x := x) ?_ ?_ <;> [subst x; (clear_value x; intro _)]
    | (try lift_lets -underBinder); intro x; first | subst x | skip
    | fail_if_no_progress with_reducible refine Grow.upd ?_

theorem Grow.windowLine (h : Grow s₀ s) (w : Nat) :
    Grow s₀ (State.windowLine s w) := by
  delta State.windowLine
  repeat' first
    | with_reducible assumption
    | with_reducible apply Grow.acceptOpen
    | with_reducible apply Grow.applyStop
    | with_reducible apply Grow.beginGap
    | with_reducible apply Grow.modWin
    | with_reducible apply Grow.swapWin
    | with_reducible refine Grow.ite ?_ ?_
    | (try lift_lets -underBinder); intro x; refine Grow.cut (x := x) ?_ ?_ <;> [subst x; (clear_value x; intro _)]
    | (try lift_lets -underBinder); intro x; first | subst x | skip
    | fail_if_no_progress with_reducible refine Grow.upd ?_

theorem Grow.noteSwaps (h : Grow s₀ s) :
    Grow s₀ (State.noteSwaps s) := by
  delta State.noteSwaps
  repeat' first
    | with_reducible assumption
    | with_reducible apply Grow.modWin
    | with_reducible refine Grow.ite ?_ ?_
    | with_reducible refine Grow.foldl ?_ ?_
    | (try lift_lets -underBinder); intro x; refine Grow.cut (x := x) ?_ ?_ <;> [subst x; (clear_value x; intro _)]
    | (try lift_lets -underBinder); intro x; first | subst x | skip
    | fail_if_no_progress with_reducible refine Grow.upd ?_

theorem Grow.showReversed (h : Grow s₀ s) (n : Nat) :
    Grow s₀ (State.showReversed s n) := by
  delta State.showReversed
  repeat' first
    | with_reducible assumption
    | with_reducible refine Grow.setFb ?_ _ _

theorem Grow.dropPacket (h : Grow s₀ s) (n : Nat) (f : Nat) :
    Grow s₀ (State.dropPacket s n f) := by
  delta State.dropPacket
  repeat' first
    | with_reducible assumption
    | with_reducible apply Grow.emit
    | with_reducible apply Grow.modLane
    | with_reducible apply Grow.modPort
    | with_reducible apply Grow.tagRecord
    | (try lift_lets -underBinder); intro x; refine Grow.cut (x := x) ?_ ?_ <;> [subst x; (clear_value x; intro _)]
    | (try lift_lets -underBinder); intro x; first | subst x | skip
    | split
    | fail_if_no_progress dsimp only
    | fail_if_no_progress with_reducible refine Grow.upd ?_

theorem Grow.takeCycle (h : Grow s₀ s) (n : Nat) (w : Nat) (f : Nat) (target : Nat) (d : Doc) :
    Grow s₀ (State.takeCycle s n w f target d) := by
  delta State.takeCycle
  repeat' first
    | with_reducible assumption
    | with_reducible refine Grow.addF ?_ _ _
    | with_reducible apply Grow.count
    | with_reducible apply Grow.dropPacket
    | with_reducible apply Grow.modFire
    | with_reducible apply Grow.modWin
    | with_reducible apply Grow.raiseLane
    | with_reducible refine Grow.setF ?_ _ _
    | with_reducible refine Grow.ite ?_ ?_
    | (try lift_lets -underBinder); intro x; refine Grow.cut (x := x) ?_ ?_ <;> [subst x; (clear_value x; intro _)]
    | (try lift_lets -underBinder); intro x; first | subst x | skip
    | split
    | fail_if_no_progress dsimp only
    | fail_if_no_progress with_reducible refine Grow.upd ?_

theorem Grow.fireEvent (h : Grow s₀ s) (n : Nat) (f : Nat) (fwd : Bool) (stamp : Nat) :
    Grow s₀ (State.fireEvent s n f fwd stamp) := by
  delta State.fireEvent
  repeat' first
    | with_reducible assumption
    | with_reducible apply Grow.checkPass
    | with_reducible apply Grow.modFire
    | with_reducible refine Grow.setF ?_ _ _
    | with_reducible apply Grow.showReversed
    | with_reducible apply Grow.takeCycle
    | with_reducible apply Grow.tryComplete
    | with_reducible refine Grow.ite ?_ ?_
    | (try lift_lets -underBinder); intro x; refine Grow.cut (x := x) ?_ ?_ <;> [subst x; (clear_value x; intro _)]
    | (try lift_lets -underBinder); intro x; first | subst x | skip
    | split
    | fail_if_no_progress dsimp only
    | fail_if_no_progress with_reducible refine Grow.upd ?_

/-! ### Machine/CfgOps.lean -/

theorem Grow.postCheck (h : Grow s₀ s) (f : Fail) :
    Grow s₀ (State.postCheck s f) := by
  delta State.postCheck
  repeat' first
    | with_reducible assumption
    | with_reducible refine Grow.setFields_nil ?_
    | with_reducible refine Grow.setFields_cons ?_
    | with_reducible refine Grow.setF ?_ _ _
    | (try lift_lets -underBinder); intro x; refine Grow.cut (x := x) ?_ ?_ <;> [subst x; (clear_value x; intro _)]
    | (try lift_lets -underBinder); intro x; first | subst x | skip
    | split
    | fail_if_no_progress dsimp only
    | fail_if_no_progress with_reducible refine Grow.upd ?_

theorem Grow.startCheck (h : Grow s₀ s) (k : CheckKind) (permit : Bool) :
    Grow s₀ (State.startCheck s k permit) := by
  delta State.startCheck
  repeat' first
    | with_reducible assumption
    | with_reducible refine Grow.setFields_nil ?_
    | with_reducible refine Grow.setFields_cons ?_
    | with_reducible refine Grow.setF ?_ _ _
    | with_reducible refine Grow.ite ?_ ?_
    | (try lift_lets -underBinder); intro x; refine Grow.cut (x := x) ?_ ?_ <;> [subst x; (clear_value x; intro _)]
    | (try lift_lets -underBinder); intro x; first | subst x | skip
    | fail_if_no_progress with_reducible refine Grow.upd ?_

/-! ### Machine/RingRecv.lean -/

theorem Grow.bridge (h : Grow s₀ s) (port : Nat) (p : RingPkt) :
    Grow s₀ (State.bridge s port p) := by
  delta State.bridge
  repeat' first
    | with_reducible assumption
    | with_reducible apply Grow.urgOut
    | with_reducible refine Grow.ite ?_ ?_
    | with_reducible refine Grow.foldl ?_ ?_
    | (try lift_lets -underBinder); intro x; refine Grow.cut (x := x) ?_ ?_ <;> [subst x; (clear_value x; intro _)]
    | (try lift_lets -underBinder); intro x; first | subst x | skip
    | fail_if_no_progress with_reducible refine Grow.upd ?_

theorem Grow.forward (h : Grow s₀ s) (port : Nat) (p : RingPkt) :
    Grow s₀ (State.forward s port p) := by
  delta State.forward
  repeat' first
    | with_reducible assumption
    | with_reducible apply Grow.bridge
    | with_reducible apply Grow.drawn
    | with_reducible apply Grow.ringOut
    | with_reducible apply Grow.urgOut
    | with_reducible refine Grow.ite ?_ ?_
    | (try lift_lets -underBinder); intro x; refine Grow.cut (x := x) ?_ ?_ <;> [subst x; (clear_value x; intro _)]
    | (try lift_lets -underBinder); intro x; first | subst x | skip

theorem Grow.takeSeq (h : Grow s₀ s) (p : RingPkt) :
    Grow s₀ (State.takeSeq s p).1 := by
  delta State.takeSeq
  repeat' first
    | with_reducible assumption
    | with_reducible refine Grow.addF ?_ _ _
    | with_reducible refine Grow.ite ?_ ?_
    | with_reducible refine Grow.ite_fst ?_ ?_
    | (try lift_lets -underBinder); intro x; refine Grow.cut (x := x) ?_ ?_ <;> [subst x; (clear_value x; intro _)]
    | (try lift_lets -underBinder); intro x; first | subst x | skip
    | split
    | fail_if_no_progress with_reducible refine Grow.upd ?_

theorem Grow.takeSeq_eq {c} {v} (h : Grow s₀ s) {p : RingPkt} (e : State.takeSeq s p = (c, v)) :
    Grow s₀ c := by
  have k := Grow.takeSeq h p
  rwa [e] at k

theorem Grow.hear (h : Grow s₀ s) (p : RingPkt) :
    Grow s₀ (State.hear s p) := by
  delta State.hear
  repeat' first
    | with_reducible assumption
    | with_reducible refine Grow.setF ?_ _ _
    | with_reducible refine Grow.ite ?_ ?_

theorem Grow.packetIn (h : Grow s₀ s) (port : Nat) (p : RingPkt) (g : State → State) (h_g : ∀ s, Grow s₀ s → Grow s₀ (g s)) :
    Grow s₀ (State.packetIn s port p g) := by
  delta State.packetIn
  repeat' first
    | with_reducible assumption
    | with_reducible apply h_g
    | with_reducible apply Grow.forward
    | with_reducible apply Grow.hear
    | with_reducible apply Grow.takeSeq
    | with_reducible refine Grow.takeSeq_eq ?_ (by assumption)
    | with_reducible refine Grow.ite ?_ ?_
    | (try lift_lets -underBinder); intro x; refine Grow.cut (x := x) ?_ ?_ <;> [subst x; (clear_value x; intro _)]
    | (try lift_lets -underBinder); intro x; first | subst x | skip
    | split

theorem Grow.reqIn (h : Grow s₀ s) (port : Nat) (type : Nat) (p : RingPkt) (rsp : Nat) (g : State → State) (h_g : ∀ s, Grow s₀ s → Grow s₀ (g s)) :
    Grow s₀ (State.reqIn s port type p rsp g) := by
  delta State.reqIn
  repeat' first
    | with_reducible assumption
    | with_reducible apply h_g
    | with_reducible apply Grow.packetIn
    | with_reducible apply Grow.sendRsp
    | with_reducible refine Grow.ite ?_ ?_
    | (try lift_lets -underBinder); intro x; refine Grow.cut (x := x) ?_ ?_ <;> [subst x; (clear_value x; intro _)]
    | (try lift_lets -underBinder); intro x; first | subst x | skip

theorem Grow.showTopo (h : Grow s₀ s) :
    Grow s₀ (State.showTopo s) := by
  delta State.showTopo
  repeat' first
    | with_reducible assumption
    | with_reducible refine Grow.setFields_nil ?_
    | with_reducible refine Grow.setFields_cons ?_
    | with_reducible refine Grow.setF ?_ _ _
    | with_reducible refine Grow.setReg ?_ _ _
    | with_reducible refine Grow.ite ?_ ?_
    | split
    | fail_if_no_progress with_reducible refine Grow.upd ?_

theorem Grow.setBreak (h : Grow s₀ s) (west : Nat) (broken : Bool) :
    Grow s₀ (State.setBreak s west broken) := by
  delta State.setBreak
  repeat' first
    | with_reducible assumption
    | with_reducible apply Grow.raise
    | with_reducible apply Grow.showTopo
    | with_reducible refine Grow.ite ?_ ?_
    | (try lift_lets -underBinder); intro x; refine Grow.cut (x := x) ?_ ?_ <;> [subst x; (clear_value x; intro _)]
    | (try lift_lets -underBinder); intro x; first | subst x | skip
    | fail_if_no_progress with_reducible refine Grow.upd ?_

theorem Grow.sendWrap (h : Grow s₀ s) (west : Nat) (broken : Bool) :
    Grow s₀ (State.sendWrap s west broken) := by
  delta State.sendWrap
  repeat' first
    | with_reducible assumption
    | with_reducible apply Grow.sendUrg

theorem Grow.ringFail (h : Grow s₀ s) (k : Nat) (off : Nat) (status : Nat) :
    Grow s₀ (State.ringFail s k off status) := by
  delta State.ringFail
  repeat' first
    | with_reducible assumption
    | with_reducible apply Grow.chunkError
    | with_reducible apply Grow.dropFlying
    | with_reducible apply Grow.modExec
    | with_reducible apply Grow.runTransfer
    | with_reducible refine Grow.ite ?_ ?_
    | (try lift_lets -underBinder); intro x; refine Grow.cut (x := x) ?_ ?_ <;> [subst x; (clear_value x; intro _)]
    | (try lift_lets -underBinder); intro x; first | subst x | skip
    | fail_if_no_progress with_reducible refine Grow.upd ?_

theorem Grow.reqFail (h : Grow s₀ s) (r : RingReq) (status : Nat) :
    Grow s₀ (State.reqFail s r status) := by
  delta State.reqFail
  repeat' first
    | with_reducible assumption
    | with_reducible apply Grow.emit
    | with_reducible apply Grow.hostRead
    | with_reducible apply Grow.hostWrite
    | with_reducible apply Grow.modExec
    | with_reducible apply Grow.readFail
    | with_reducible apply Grow.ringFail
    | with_reducible refine Grow.ite ?_ ?_
    | (try lift_lets -underBinder); intro x; refine Grow.cut (x := x) ?_ ?_ <;> [subst x; (clear_value x; intro _)]
    | (try lift_lets -underBinder); intro x; first | subst x | skip
    | split
    | fail_if_no_progress dsimp only
    | fail_if_no_progress with_reducible refine Grow.upd ?_

theorem Grow.takeReq (h : Grow s₀ s) (p : RingPkt) :
    Grow s₀ (State.takeReq s p).1 := by
  delta State.takeReq
  repeat' first
    | with_reducible assumption
    | with_reducible refine Grow.addF ?_ _ _
    | (try lift_lets -underBinder); intro x; refine Grow.cut (x := x) ?_ ?_ <;> [subst x; (clear_value x; intro _)]
    | (try lift_lets -underBinder); intro x; first | subst x | skip
    | split
    | fail_if_no_progress with_reducible refine Grow.upd ?_

theorem Grow.takeReq_eq {c} {v} (h : Grow s₀ s) {p : RingPkt} (e : State.takeReq s p = (c, v)) :
    Grow s₀ c := by
  have k := Grow.takeReq h p
  rwa [e] at k

theorem Grow.rspIn (h : Grow s₀ s) (port : Nat) (type : Nat) (p : RingPkt) (g : State → RingReq → State) (h_g : ∀ s x0, Grow s₀ s → Grow s₀ (g s x0)) :
    Grow s₀ (State.rspIn s port type p g) := by
  delta State.rspIn
  repeat' first
    | with_reducible assumption
    | with_reducible apply h_g
    | with_reducible apply Grow.packetIn
    | with_reducible apply Grow.reqFail
    | with_reducible apply Grow.takeReq
    | with_reducible refine Grow.takeReq_eq ?_ (by assumption)
    | with_reducible refine Grow.ite ?_ ?_
    | (try lift_lets -underBinder); intro x; refine Grow.cut (x := x) ?_ ?_ <;> [subst x; (clear_value x; intro _)]
    | (try lift_lets -underBinder); intro x; first | subst x | skip
    | split
    | fail_if_no_progress dsimp only
    | fail_if_no_progress with_reducible refine Grow.upd ?_

/-! ### Machine/PosOps.lean -/

theorem Grow.settle (h : Grow s₀ s) (n : Nat) (t : Nat) :
    Grow s₀ (State.settle s n t) := by
  delta State.settle
  repeat' first
    | with_reducible assumption
    | with_reducible apply Grow.modFire
    | with_reducible apply Grow.modPin
    | with_reducible refine Grow.setF ?_ _ _
    | with_reducible refine Grow.ite ?_ ?_
    | with_reducible refine Grow.foldl ?_ ?_
    | (try lift_lets -underBinder); intro x; refine Grow.cut (x := x) ?_ ?_ <;> [subst x; (clear_value x; intro _)]
    | (try lift_lets -underBinder); intro x; first | subst x | skip
    | fail_if_no_progress with_reducible refine Grow.upd ?_

theorem Grow.modRef (h : Grow s₀ s) (c : Nat) (g : RefCh → RefCh) :
    Grow s₀ (State.modRef s c g) := by
  delta State.modRef
  repeat' first
    | with_reducible assumption
    | fail_if_no_progress with_reducible refine Grow.upd ?_

theorem Grow.refHeard (h : Grow s₀ s) (c : Nat) (e : Nat) :
    Grow s₀ (State.refHeard s c e) := by
  delta State.refHeard
  repeat' first
    | with_reducible assumption
    | with_reducible apply Grow.modRef
    | with_reducible refine Grow.setBit ?_ _ _ _
    | (try lift_lets -underBinder); intro x; refine Grow.cut (x := x) ?_ ?_ <;> [subst x; (clear_value x; intro _)]
    | (try lift_lets -underBinder); intro x; first | subst x | skip
    | fail_if_no_progress with_reducible refine Grow.upd ?_

theorem Grow.refQueue (h : Grow s₀ s) (r : Ref) (t : Nat) :
    Grow s₀ (State.refQueue s r t) := by
  delta State.refQueue
  repeat' first
    | with_reducible assumption
    | with_reducible apply Grow.modRef
    | (try lift_lets -underBinder); intro x; refine Grow.cut (x := x) ?_ ?_ <;> [subst x; (clear_value x; intro _)]
    | (try lift_lets -underBinder); intro x; first | subst x | skip
    | fail_if_no_progress with_reducible refine Grow.upd ?_

theorem Grow.sendRef (h : Grow s₀ s) (r : Ref) :
    Grow s₀ (State.sendRef s r) := by
  delta State.sendRef
  repeat' first
    | with_reducible assumption
    | with_reducible apply Grow.refHeard
    | with_reducible apply Grow.refQueue
    | with_reducible apply Grow.sendUrg
    | with_reducible refine Grow.ite ?_ ?_
    | (try lift_lets -underBinder); intro x; refine Grow.cut (x := x) ?_ ?_ <;> [subst x; (clear_value x; intro _)]
    | (try lift_lets -underBinder); intro x; first | subst x | skip

theorem Grow.calLine (h : Grow s₀ s) (n : Nat) :
    Grow s₀ (State.calLine s n) := by
  delta State.calLine
  repeat' first
    | with_reducible assumption
    | with_reducible apply Grow.slewTo
    | with_reducible refine Grow.ite ?_ ?_
    | with_reducible refine Grow.foldl ?_ ?_
    | (try lift_lets -underBinder); intro x; refine Grow.cut (x := x) ?_ ?_ <;> [subst x; (clear_value x; intro _)]
    | (try lift_lets -underBinder); intro x; first | subst x | skip

theorem Grow.emitAt (h : Grow s₀ s) (src : Nat) (t : Nat) :
    Grow s₀ (State.emitAt s src t) := by
  delta State.emitAt
  repeat' first
    | with_reducible assumption
    | fail_if_no_progress with_reducible refine Grow.upd ?_

theorem Grow.patternLine (h : Grow s₀ s) (t : Nat) :
    Grow s₀ (State.patternLine s t) := by
  delta State.patternLine
  repeat' first
    | with_reducible assumption
    | with_reducible apply Grow.openPattern
    | with_reducible refine Grow.ite ?_ ?_
    | fail_if_no_progress with_reducible refine Grow.upd ?_

theorem Grow.relocked (h : Grow s₀ s) :
    Grow s₀ (State.relocked s) := by
  delta State.relocked
  repeat' first
    | with_reducible assumption
    | with_reducible refine Grow.ite ?_ ?_
    | (try lift_lets -underBinder); intro x; refine Grow.cut (x := x) ?_ ?_ <;> [subst x; (clear_value x; intro _)]
    | (try lift_lets -underBinder); intro x; first | subst x | skip
    | fail_if_no_progress with_reducible refine Grow.upd ?_

theorem Grow.lineEvent (h : Grow s₀ s) (n : Nat) (line : Nat) (fwd : Bool) (stamp : Nat) :
    Grow s₀ (State.lineEvent s n line fwd stamp) := by
  delta State.lineEvent
  repeat' first
    | with_reducible assumption
    | with_reducible apply Grow.calLine
    | with_reducible apply Grow.count
    | with_reducible apply Grow.emitAt
    | with_reducible apply Grow.modPin
    | with_reducible apply Grow.patternLine
    | with_reducible apply Grow.relocked
    | with_reducible apply Grow.sendRef
    | with_reducible refine Grow.setF ?_ _ _
    | with_reducible apply Grow.windowLine
    | with_reducible refine Grow.ite ?_ ?_
    | with_reducible refine Grow.foldl ?_ ?_
    | (try lift_lets -underBinder); intro x; refine Grow.cut (x := x) ?_ ?_ <;> [subst x; (clear_value x; intro _)]
    | (try lift_lets -underBinder); intro x; first | subst x | skip
    | fail_if_no_progress with_reducible refine Grow.upd ?_

theorem Grow.lineEvents (h : Grow s₀ s) (n : Nat) (t : Nat) (i : Nat) (l : List Crossing) :
    Grow s₀ (State.lineEvents s n t i l) := by
  induction l generalizing s i with
  | nil => exact h
  | cons c r ih =>
    rw [State.lineEvents]
    repeat' first
      | with_reducible assumption
      | with_reducible refine Grow.addF ?_ _ _
      | with_reducible apply Grow.lineEvent
      | with_reducible refine Grow.setF ?_ _ _
      | with_reducible apply ih
      | with_reducible refine Grow.ite ?_ ?_
      | (try lift_lets -underBinder); intro x; refine Grow.cut (x := x) ?_ ?_ <;> [subst x; (clear_value x; intro _)]
      | (try lift_lets -underBinder); intro x; first | subst x | skip

theorem Grow.fireEvents (h : Grow s₀ s) (k : Nat) (t : Nat) (i : Nat) (l : List Crossing) :
    Grow s₀ (State.fireEvents s k t i l) := by
  induction l generalizing s i with
  | nil => exact h
  | cons c r ih =>
    rw [State.fireEvents]
    repeat' first
      | with_reducible assumption
      | with_reducible apply Grow.fireEvent
      | with_reducible apply ih

theorem Grow.moveLines (h : Grow s₀ s) (n : Nat) (d : Int) :
    Grow s₀ (State.moveLines s n d) := by
  delta State.moveLines
  repeat' first
    | with_reducible assumption
    | with_reducible apply Grow.fireEvents
    | with_reducible apply Grow.lineEvents
    | with_reducible apply Grow.modFire
    | with_reducible apply Grow.modPin
    | with_reducible refine Grow.setF ?_ _ _
    | with_reducible refine Grow.ite ?_ ?_
    | with_reducible refine Grow.foldl ?_ ?_
    | (try lift_lets -underBinder); intro x; refine Grow.cut (x := x) ?_ ?_ <;> [subst x; (clear_value x; intro _)]
    | (try lift_lets -underBinder); intro x; first | subst x | skip
    | split
    | fail_if_no_progress with_reducible refine Grow.upd ?_

theorem Grow.interpolate (h : Grow s₀ s) (n : Nat) (t : Nat) (fuel : Nat) :
    Grow s₀ (State.interpolate s n t fuel) := by
  induction fuel generalizing s with
  | zero => exact h
  | succ fuel ih =>
    rw [State.interpolate]
    repeat' first
      | with_reducible assumption
      | with_reducible apply Grow.fireEvent
      | with_reducible apply Grow.lineEvent
      | with_reducible apply Grow.modFire
      | with_reducible apply Grow.modPin
      | with_reducible refine Grow.setF ?_ _ _
      | with_reducible apply ih
      | with_reducible refine Grow.foldl ?_ ?_
      | (try lift_lets -underBinder); intro x; refine Grow.cut (x := x) ?_ ?_ <;> [subst x; (clear_value x; intro _)]
      | (try lift_lets -underBinder); intro x; first | subst x | skip
      | split
      | fail_if_no_progress dsimp only
      | fail_if_no_progress with_reducible refine Grow.upd ?_

theorem Grow.tick (h : Grow s₀ s) (n : Nat) (d : Int) :
    Grow s₀ (State.tick s n d) := by
  delta State.tick
  repeat' first
    | with_reducible assumption
    | with_reducible refine Grow.setF ?_ _ _
    | (try lift_lets -underBinder); intro x; refine Grow.cut (x := x) ?_ ?_ <;> [subst x; (clear_value x; intro _)]
    | (try lift_lets -underBinder); intro x; first | subst x | skip

theorem Grow.compare (h : Grow s₀ s) (n : Nat) (d : Int) :
    Grow s₀ (State.compare s n d) := by
  delta State.compare
  repeat' first
    | with_reducible assumption
    | with_reducible apply Grow.emitSrc
    | with_reducible refine Grow.incF ?_ _ _
    | with_reducible refine Grow.setF ?_ _ _
    | with_reducible refine Grow.ite ?_ ?_
    | (try lift_lets -underBinder); intro x; refine Grow.cut (x := x) ?_ ?_ <;> [subst x; (clear_value x; intro _)]
    | (try lift_lets -underBinder); intro x; first | subst x | skip

theorem Grow.posIrq (h : Grow s₀ s) (n : Nat) :
    Grow s₀ (State.posIrq s n) := by
  delta State.posIrq
  repeat' first
    | with_reducible assumption
    | with_reducible apply Grow.msix
    | with_reducible refine Grow.setBit ?_ _ _ _
    | with_reducible refine Grow.ite ?_ ?_

theorem Grow.raiseAll (h : Grow s₀ s) (k : Kind) (addr : Nat) :
    Grow s₀ (State.raiseAll s k addr) := by
  delta State.raiseAll
  repeat' first
    | with_reducible assumption
    | with_reducible apply Grow.raise
    | with_reducible apply Grow.raiseLane
    | with_reducible refine Grow.foldl ?_ ?_
    | (try lift_lets -underBinder); intro x; refine Grow.cut (x := x) ?_ ?_ <;> [subst x; (clear_value x; intro _)]
    | (try lift_lets -underBinder); intro x; first | subst x | skip

theorem Grow.beginStep (h : Grow s₀ s) (n : Nat) (d : Int) :
    Grow s₀ (State.beginStep s n d) := by
  delta State.beginStep
  repeat' first
    | with_reducible assumption
    | with_reducible refine Grow.addF ?_ _ _
    | with_reducible apply Grow.modPin
    | with_reducible apply Grow.posIrq
    | with_reducible apply Grow.raiseAll
    | with_reducible refine Grow.setF ?_ _ _
    | with_reducible refine Grow.setFields_nil ?_
    | with_reducible refine Grow.setFields_cons ?_
    | with_reducible refine Grow.setF ?_ _ _
    | with_reducible apply Grow.settle
    | with_reducible refine Grow.ite ?_ ?_
    | (try lift_lets -underBinder); intro x; refine Grow.cut (x := x) ?_ ?_ <;> [subst x; (clear_value x; intro _)]
    | (try lift_lets -underBinder); intro x; first | subst x | skip
    | split
    | fail_if_no_progress dsimp only
    | fail_if_no_progress with_reducible refine Grow.upd ?_

theorem Grow.countStep (h : Grow s₀ s) (n : Nat) (d : Int) :
    Grow s₀ (State.countStep s n d) := by
  delta State.countStep
  repeat' first
    | with_reducible assumption
    | with_reducible apply Grow.beginStep
    | with_reducible apply Grow.compare
    | with_reducible apply Grow.count
    | with_reducible apply Grow.moveLines
    | with_reducible apply Grow.phaseOrder
    | with_reducible apply Grow.tick

theorem Grow.illegal (h : Grow s₀ s) (n : Nat) :
    Grow s₀ (State.illegal s n) := by
  delta State.illegal
  repeat' first
    | with_reducible assumption
    | with_reducible refine Grow.addF ?_ _ _
    | with_reducible apply Grow.raiseAll
    | with_reducible refine Grow.setF ?_ _ _

theorem Grow.latch (h : Grow s₀ s) (n : Nat) :
    Grow s₀ (State.latch s n) := by
  delta State.latch
  repeat' first
    | with_reducible assumption
    | with_reducible apply Grow.emitSrc
    | with_reducible apply Grow.modPin
    | with_reducible apply Grow.raiseAll
    | with_reducible refine Grow.setF ?_ _ _
    | with_reducible refine Grow.setFields_nil ?_
    | with_reducible refine Grow.setFields_cons ?_
    | with_reducible refine Grow.setF ?_ _ _
    | with_reducible refine Grow.setFs ?_ _ _
    | with_reducible refine Grow.ite ?_ ?_
    | (try lift_lets -underBinder); intro x; refine Grow.cut (x := x) ?_ ?_ <;> [subst x; (clear_value x; intro _)]
    | (try lift_lets -underBinder); intro x; first | subst x | skip
    | split
    | fail_if_no_progress dsimp only
    | fail_if_no_progress with_reducible refine Grow.upd ?_

theorem Grow.setLine (h : Grow s₀ s) (n : Nat) :
    Grow s₀ (State.setLine s n) := by
  delta State.setLine
  repeat' first
    | with_reducible assumption
    | with_reducible apply Grow.modPin
    | with_reducible refine Grow.setFields_nil ?_
    | with_reducible refine Grow.setFields_cons ?_
    | with_reducible refine Grow.setF ?_ _ _
    | with_reducible refine Grow.ite ?_ ?_
    | (try lift_lets -underBinder); intro x; refine Grow.cut (x := x) ?_ ?_ <;> [subst x; (clear_value x; intro _)]
    | (try lift_lets -underBinder); intro x; first | subst x | skip
    | fail_if_no_progress with_reducible refine Grow.upd ?_

theorem Grow.preset (h : Grow s₀ s) (n : Nat) (lo : Nat) (hi : Nat) :
    Grow s₀ (State.preset s n lo hi) := by
  delta State.preset
  repeat' first
    | with_reducible assumption
    | with_reducible apply Grow.modPin
    | with_reducible apply Grow.raise
    | with_reducible apply Grow.resetFire
    | with_reducible refine Grow.setFields_nil ?_
    | with_reducible refine Grow.setFields_cons ?_
    | with_reducible refine Grow.setF ?_ _ _
    | with_reducible apply Grow.setLine
    | with_reducible refine Grow.ite ?_ ?_
    | with_reducible refine Grow.foldl ?_ ?_
    | (try lift_lets -underBinder); intro x; refine Grow.cut (x := x) ?_ ?_ <;> [subst x; (clear_value x; intro _)]
    | (try lift_lets -underBinder); intro x; first | subst x | skip
    | fail_if_no_progress with_reducible refine Grow.upd ?_

theorem Grow.writeCmp (h : Grow s₀ s) (n : Nat) (v : Nat) :
    Grow s₀ (State.writeCmp s n v) := by
  delta State.writeCmp
  repeat' first
    | with_reducible assumption
    | with_reducible refine Grow.setF ?_ _ _
    | with_reducible refine Grow.ite ?_ ?_
    | (try lift_lets -underBinder); intro x; refine Grow.cut (x := x) ?_ ?_ <;> [subst x; (clear_value x; intro _)]
    | (try lift_lets -underBinder); intro x; first | subst x | skip

theorem Grow.releaseRef (h : Grow s₀ s) (c : Nat) (r : RefPend) :
    Grow s₀ (State.releaseRef s c r) := by
  delta State.releaseRef
  repeat' first
    | with_reducible assumption
    | with_reducible apply Grow.emitSrc
    | with_reducible apply Grow.fireEvent
    | with_reducible apply Grow.lineEvent
    | with_reducible apply Grow.modFire
    | with_reducible apply Grow.modPin
    | with_reducible refine Grow.ite ?_ ?_
    | with_reducible refine Grow.foldl ?_ ?_
    | (try lift_lets -underBinder); intro x; refine Grow.cut (x := x) ?_ ?_ <;> [subst x; (clear_value x; intro _)]
    | (try lift_lets -underBinder); intro x; first | subst x | skip
    | split
    | fail_if_no_progress dsimp only
    | fail_if_no_progress with_reducible refine Grow.upd ?_

theorem Grow.refIn (h : Grow s₀ s) (src : Nat) (age : Nat) (r : Ref) :
    Grow s₀ (State.refIn s src age r) := by
  delta State.refIn
  repeat' first
    | with_reducible assumption
    | with_reducible refine Grow.addF ?_ _ _
    | with_reducible apply Grow.modPin
    | with_reducible apply Grow.raise
    | with_reducible apply Grow.refHeard
    | with_reducible apply Grow.refQueue
    | with_reducible apply Grow.releaseRef
    | with_reducible apply Grow.resetFire
    | with_reducible refine Grow.setBit ?_ _ _ _
    | with_reducible refine Grow.setF ?_ _ _
    | with_reducible refine Grow.ite ?_ ?_
    | with_reducible refine Grow.foldl ?_ ?_
    | (try lift_lets -underBinder); intro x; refine Grow.cut (x := x) ?_ ?_ <;> [subst x; (clear_value x; intro _)]
    | (try lift_lets -underBinder); intro x; first | subst x | skip
    | fail_if_no_progress with_reducible refine Grow.upd ?_

theorem Grow.deliverTo (h : Grow s₀ s) (dst : Nat) :
    Grow s₀ (State.deliverTo s dst) := by
  delta State.deliverTo
  repeat' first
    | with_reducible assumption
    | with_reducible apply Grow.closeWin
    | with_reducible apply Grow.cuePulse
    | with_reducible refine Grow.incF ?_ _ _
    | with_reducible apply Grow.motorSync
    | with_reducible apply Grow.openWin
    | with_reducible apply Grow.sendRef
    | (try lift_lets -underBinder); intro x; refine Grow.cut (x := x) ?_ ?_ <;> [subst x; (clear_value x; intro _)]
    | (try lift_lets -underBinder); intro x; first | subst x | skip
    | split
    | fail_if_no_progress dsimp only
    | fail_if_no_progress with_reducible refine Grow.upd ?_

theorem Grow.deliverSrc (h : Grow s₀ s) (src : Nat) :
    Grow s₀ (State.deliverSrc s src) := by
  delta State.deliverSrc
  repeat' first
    | with_reducible assumption
    | with_reducible apply Grow.deliverTo
    | with_reducible refine Grow.foldl ?_ ?_
    | (try lift_lets -underBinder); intro x; refine Grow.cut (x := x) ?_ ?_ <;> [subst x; (clear_value x; intro _)]
    | (try lift_lets -underBinder); intro x; first | subst x | skip
    | split
    | fail_if_no_progress with_reducible refine Grow.upd ?_

/-! ### Machine/SysOps.lean -/

theorem Grow.goTo (h : Grow s₀ s) (st : Nat) (cause : Nat) :
    Grow s₀ (State.goTo s st cause) := by
  delta State.goTo
  repeat' first
    | with_reducible assumption
    | with_reducible refine Grow.setFields_nil ?_
    | with_reducible refine Grow.setFields_cons ?_
    | with_reducible refine Grow.setF ?_ _ _
    | with_reducible apply Grow.showCues

theorem Grow.liveDiscard (h : Grow s₀ s) :
    Grow s₀ (State.liveDiscard s) := by
  delta State.liveDiscard
  repeat' first
    | with_reducible assumption
    | with_reducible apply Grow.raise
    | with_reducible refine Grow.setF ?_ _ _
    | with_reducible refine Grow.ite ?_ ?_
    | fail_if_no_progress with_reducible refine Grow.upd ?_

theorem Grow.discardDocs (h : Grow s₀ s) (report : Bool) :
    Grow s₀ (State.discardDocs s report) := by
  delta State.discardDocs
  repeat' first
    | with_reducible assumption
    | with_reducible apply Grow.docEnd
    | with_reducible apply Grow.modWin
    | with_reducible apply Grow.raise
    | with_reducible apply Grow.releaseKept
    | with_reducible apply Grow.showComp
    | with_reducible apply Grow.showQueue
    | with_reducible refine Grow.ite ?_ ?_
    | with_reducible refine Grow.foldl ?_ ?_
    | (try lift_lets -underBinder); intro x; refine Grow.cut (x := x) ?_ ?_ <;> [subst x; (clear_value x; intro _)]
    | (try lift_lets -underBinder); intro x; first | subst x | skip
    | fail_if_no_progress with_reducible refine Grow.upd ?_

theorem Grow.dropDefers (h : Grow s₀ s) :
    Grow s₀ (State.dropDefers s) := by
  delta State.dropDefers
  repeat' first
    | with_reducible assumption
    | with_reducible apply Grow.modWin
    | with_reducible refine Grow.ite ?_ ?_
    | with_reducible refine Grow.foldl ?_ ?_
    | (try lift_lets -underBinder); intro x; refine Grow.cut (x := x) ?_ ?_ <;> [subst x; (clear_value x; intro _)]
    | (try lift_lets -underBinder); intro x; first | subst x | skip
    | fail_if_no_progress with_reducible refine Grow.upd ?_

theorem Grow.startSa (h : Grow s₀ s) :
    Grow s₀ (State.startSa s) := by
  delta State.startSa
  repeat' first
    | with_reducible assumption
    | with_reducible apply Grow.raise
    | with_reducible refine Grow.ite ?_ ?_
    | fail_if_no_progress with_reducible refine Grow.upd ?_

theorem Grow.noPattern (h : Grow s₀ s) :
    Grow s₀ (State.noPattern s) := by
  delta State.noPattern
  repeat' first
    | with_reducible assumption
    | fail_if_no_progress with_reducible refine Grow.upd ?_

theorem Grow.noSpit (h : Grow s₀ s) :
    Grow s₀ (State.noSpit s) := by
  delta State.noSpit
  repeat' first
    | with_reducible assumption
    | fail_if_no_progress with_reducible refine Grow.upd ?_

theorem Grow.quietSys (h : Grow s₀ s) :
    Grow s₀ (State.quietSys s) := by
  delta State.quietSys
  repeat' first
    | with_reducible assumption
    | with_reducible apply Grow.noPattern
    | with_reducible apply Grow.noSpit

theorem Grow.enterNight (h : Grow s₀ s) (cause : Nat) :
    Grow s₀ (State.enterNight s cause) := by
  delta State.enterNight
  repeat' first
    | with_reducible assumption
    | with_reducible apply Grow.calDrop
    | with_reducible apply Grow.discardDocs
    | with_reducible apply Grow.dropDefers
    | with_reducible apply Grow.goTo
    | with_reducible apply Grow.liveDiscard
    | with_reducible apply Grow.motorsOff
    | with_reducible apply Grow.quietSys
    | with_reducible apply Grow.railsDown
    | with_reducible apply Grow.removePower
    | with_reducible refine Grow.setFields_nil ?_
    | with_reducible refine Grow.setFields_cons ?_
    | with_reducible refine Grow.setF ?_ _ _
    | with_reducible apply Grow.startSa
    | with_reducible refine Grow.ite ?_ ?_
    | with_reducible refine Grow.foldl ?_ ?_
    | (try lift_lets -underBinder); intro x; refine Grow.cut (x := x) ?_ ?_ <;> [subst x; (clear_value x; intro _)]
    | (try lift_lets -underBinder); intro x; first | subst x | skip
    | fail_if_no_progress with_reducible refine Grow.upd ?_

theorem Grow.enterMidnight (h : Grow s₀ s) (cause : Nat) :
    Grow s₀ (State.enterMidnight s cause) := by
  delta State.enterMidnight
  repeat' first
    | with_reducible assumption
    | with_reducible apply Grow.calDrop
    | with_reducible apply Grow.discardDocs
    | with_reducible apply Grow.dropDefers
    | with_reducible apply Grow.fuseOpen
    | with_reducible apply Grow.goTo
    | with_reducible apply Grow.liveDiscard
    | with_reducible apply Grow.logicOff
    | with_reducible apply Grow.modFire
    | with_reducible apply Grow.modWin
    | with_reducible apply Grow.motorsOff
    | with_reducible apply Grow.quietSys
    | with_reducible apply Grow.railsOff
    | with_reducible refine Grow.setF ?_ _ _
    | with_reducible refine Grow.setFields_nil ?_
    | with_reducible refine Grow.setFields_cons ?_
    | with_reducible refine Grow.setF ?_ _ _
    | with_reducible apply Grow.updHoldup
    | with_reducible refine Grow.foldl ?_ ?_
    | (try lift_lets -underBinder); intro x; refine Grow.cut (x := x) ?_ ?_ <;> [subst x; (clear_value x; intro _)]
    | (try lift_lets -underBinder); intro x; first | subst x | skip
    | split
    | fail_if_no_progress dsimp only
    | fail_if_no_progress with_reducible refine Grow.upd ?_

theorem Grow.noonBegins (h : Grow s₀ s) :
    Grow s₀ (State.noonBegins s) := by
  delta State.noonBegins
  repeat' first
    | with_reducible assumption
    | with_reducible apply Grow.modWin
    | with_reducible refine Grow.setF ?_ _ _
    | with_reducible refine Grow.foldl ?_ ?_
    | (try lift_lets -underBinder); intro x; refine Grow.cut (x := x) ?_ ?_ <;> [subst x; (clear_value x; intro _)]
    | (try lift_lets -underBinder); intro x; first | subst x | skip
    | fail_if_no_progress with_reducible refine Grow.upd ?_

theorem Grow.enterNoon (h : Grow s₀ s) (cause : Nat) :
    Grow s₀ (State.enterNoon s cause) := by
  delta State.enterNoon
  repeat' first
    | with_reducible assumption
    | with_reducible apply Grow.goTo
    | with_reducible apply Grow.noonBegins

theorem Grow.runPending (h : Grow s₀ s) :
    Grow s₀ (State.runPending s) := by
  delta State.runPending
  repeat' first
    | with_reducible assumption
    | with_reducible apply Grow.enterNoon
    | with_reducible refine Grow.ite ?_ ?_

theorem Grow.spitMorning (h : Grow s₀ s) :
    Grow s₀ (State.spitMorning s) := by
  delta State.spitMorning
  repeat' first
    | with_reducible assumption
    | with_reducible refine Grow.ite ?_ ?_
    | split
    | fail_if_no_progress with_reducible refine Grow.upd ?_

theorem Grow.enterMorning (h : Grow s₀ s) (cause : Nat) :
    Grow s₀ (State.enterMorning s cause) := by
  delta State.enterMorning
  repeat' first
    | with_reducible assumption
    | with_reducible apply Grow.calAllDue
    | with_reducible apply Grow.goTo
    | with_reducible apply Grow.runPending
    | with_reducible apply Grow.spitMorning
    | with_reducible apply Grow.startRails
    | with_reducible refine Grow.ite ?_ ?_
    | (try lift_lets -underBinder); intro x; refine Grow.cut (x := x) ?_ ?_ <;> [subst x; (clear_value x; intro _)]
    | (try lift_lets -underBinder); intro x; first | subst x | skip

theorem Grow.finishTest (h : Grow s₀ s) :
    Grow s₀ (State.finishTest s) := by
  delta State.finishTest
  repeat' first
    | with_reducible assumption
    | with_reducible apply Grow.askStop
    | with_reducible apply Grow.showPred
    | with_reducible refine Grow.ite ?_ ?_
    | with_reducible refine Grow.foldl ?_ ?_
    | (try lift_lets -underBinder); intro x; refine Grow.cut (x := x) ?_ ?_ <;> [subst x; (clear_value x; intro _)]
    | (try lift_lets -underBinder); intro x; first | subst x | skip
    | split
    | fail_if_no_progress dsimp only
    | fail_if_no_progress with_reducible refine Grow.upd ?_

theorem Grow.stopDocs (h : Grow s₀ s) :
    Grow s₀ (State.stopDocs s) := by
  delta State.stopDocs
  repeat' first
    | with_reducible assumption
    | with_reducible apply Grow.askStop
    | with_reducible refine Grow.foldl ?_ ?_
    | (try lift_lets -underBinder); intro x; refine Grow.cut (x := x) ?_ ?_ <;> [subst x; (clear_value x; intro _)]
    | (try lift_lets -underBinder); intro x; first | subst x | skip

theorem Grow.enterDusk (h : Grow s₀ s) (cause : Nat) (night : Bool) :
    Grow s₀ (State.enterDusk s cause night) := by
  delta State.enterDusk
  repeat' first
    | with_reducible assumption
    | with_reducible apply Grow.calDrop
    | with_reducible apply Grow.dropDefers
    | with_reducible apply Grow.finishTest
    | with_reducible apply Grow.goTo
    | with_reducible apply Grow.motorsDusk
    | with_reducible apply Grow.noPattern
    | with_reducible apply Grow.noteSwaps
    | with_reducible apply Grow.stopDocs
    | with_reducible refine Grow.ite ?_ ?_
    | (try lift_lets -underBinder); intro x; refine Grow.cut (x := x) ?_ ?_ <;> [subst x; (clear_value x; intro _)]
    | (try lift_lets -underBinder); intro x; first | subst x | skip
    | fail_if_no_progress with_reducible refine Grow.upd ?_

theorem Grow.stopFault (h : Grow s₀ s) :
    Grow s₀ (State.stopFault s) := by
  delta State.stopFault
  repeat' first
    | with_reducible assumption
    | with_reducible apply Grow.enterDusk
    | with_reducible refine Grow.ite ?_ ?_

theorem Grow.thermalDusk (h : Grow s₀ s) (n : Option Nat) :
    Grow s₀ (State.thermalDusk s n) := by
  delta State.thermalDusk
  repeat' first
    | with_reducible assumption
    | with_reducible apply Grow.enterDusk
    | with_reducible refine Grow.ite ?_ ?_
    | fail_if_no_progress with_reducible refine Grow.upd ?_

theorem Grow.mainsLostState (h : Grow s₀ s) :
    Grow s₀ (State.mainsLostState s) := by
  delta State.mainsLostState
  repeat' first
    | with_reducible assumption
    | with_reducible apply Grow.enterNight
    | with_reducible apply Grow.goTo
    | with_reducible refine Grow.setF ?_ _ _
    | with_reducible apply Grow.showCues
    | with_reducible refine Grow.ite ?_ ?_
    | (try lift_lets -underBinder); intro x; refine Grow.cut (x := x) ?_ ?_ <;> [subst x; (clear_value x; intro _)]
    | (try lift_lets -underBinder); intro x; first | subst x | skip

theorem Grow.handBack (h : Grow s₀ s) :
    Grow s₀ (State.handBack s) := by
  delta State.handBack
  repeat' first
    | with_reducible assumption
    | with_reducible apply Grow.enterMorning
    | with_reducible apply Grow.enterNoon
    | with_reducible refine Grow.ite ?_ ?_

theorem Grow.runRequest (h : Grow s₀ s) :
    Grow s₀ (State.runRequest s) := by
  delta State.runRequest
  repeat' first
    | with_reducible assumption
    | with_reducible apply Grow.enterNoon
    | with_reducible apply Grow.noonBegins
    | with_reducible apply Grow.raise
    | with_reducible refine Grow.setF ?_ _ _
    | with_reducible refine Grow.ite ?_ ?_

theorem Grow.stopRequest (h : Grow s₀ s) :
    Grow s₀ (State.stopRequest s) := by
  delta State.stopRequest
  repeat' first
    | with_reducible assumption
    | with_reducible apply Grow.enterDusk
    | with_reducible refine Grow.setF ?_ _ _
    | with_reducible refine Grow.ite ?_ ?_
    | (try lift_lets -underBinder); intro x; refine Grow.cut (x := x) ?_ ?_ <;> [subst x; (clear_value x; intro _)]
    | (try lift_lets -underBinder); intro x; first | subst x | skip

theorem Grow.nightRequest (h : Grow s₀ s) :
    Grow s₀ (State.nightRequest s) := by
  delta State.nightRequest
  repeat' first
    | with_reducible assumption
    | with_reducible apply Grow.enterDusk
    | with_reducible apply Grow.enterNight
    | with_reducible refine Grow.setF ?_ _ _
    | with_reducible refine Grow.ite ?_ ?_
    | (try lift_lets -underBinder); intro x; refine Grow.cut (x := x) ?_ ?_ <;> [subst x; (clear_value x; intro _)]
    | (try lift_lets -underBinder); intro x; first | subst x | skip
    | fail_if_no_progress with_reducible refine Grow.upd ?_

theorem Grow.abandon (h : Grow s₀ s) :
    Grow s₀ (State.abandon s) := by
  delta State.abandon
  repeat' first
    | with_reducible assumption
    | with_reducible apply Grow.stopDocs
    | with_reducible refine Grow.ite ?_ ?_

theorem Grow.clearLanes (h : Grow s₀ s) : Grow s₀ (State.clearLanes s) := ⟨h.1, h.2, h.3⟩

theorem Grow.dawnLanes (h : Grow s₀ s) (bad : List Nat) :
    Grow s₀ (State.dawnLanes s bad) := by
  delta State.dawnLanes
  repeat' first
    | with_reducible assumption
    | with_reducible apply Grow.clearLanes
    | with_reducible apply Grow.connect
    | with_reducible apply Grow.failEngine
    | with_reducible apply Grow.modTh
    | with_reducible refine Grow.setF ?_ _ _
    | with_reducible refine Grow.setFields_nil ?_
    | with_reducible refine Grow.setFields_cons ?_
    | with_reducible refine Grow.setF ?_ _ _
    | with_reducible refine Grow.ite ?_ ?_
    | with_reducible refine Grow.foldl ?_ ?_
    | (try lift_lets -underBinder); intro x; refine Grow.cut (x := x) ?_ ?_ <;> [subst x; (clear_value x; intro _)]
    | (try lift_lets -underBinder); intro x; first | subst x | skip
    | split
    | fail_if_no_progress dsimp only
    | fail_if_no_progress with_reducible refine Grow.upd ?_

theorem Grow.dawnTile (h : Grow s₀ s) (n : Nat) :
    Grow s₀ (State.dawnTile s n) := by
  delta State.dawnTile
  repeat' first
    | with_reducible assumption
    | with_reducible apply Grow.fuseOpen
    | with_reducible apply Grow.logicOff
    | with_reducible apply Grow.modFire
    | with_reducible apply Grow.modPort
    | with_reducible apply Grow.modTh
    | with_reducible refine Grow.setFields_nil ?_
    | with_reducible refine Grow.setFields_cons ?_
    | with_reducible refine Grow.setF ?_ _ _
    | (try lift_lets -underBinder); intro x; refine Grow.cut (x := x) ?_ ?_ <;> [subst x; (clear_value x; intro _)]
    | (try lift_lets -underBinder); intro x; first | subst x | skip

theorem Grow.dawnDetect (h : Grow s₀ s) (n : Nat) (a : Pins) (m : Pins) :
    Grow s₀ (State.dawnDetect s n a m) := by
  delta State.dawnDetect
  repeat' first
    | with_reducible assumption
    | with_reducible apply Grow.absentTile
    | with_reducible apply Grow.failTile
    | with_reducible apply Grow.modPort
    | with_reducible apply Grow.raiseLane
    | with_reducible refine Grow.setF ?_ _ _
    | with_reducible refine Grow.ite ?_ ?_
    | (try lift_lets -underBinder); intro x; refine Grow.cut (x := x) ?_ ?_ <;> [subst x; (clear_value x; intro _)]
    | (try lift_lets -underBinder); intro x; first | subst x | skip
    | fail_if_no_progress with_reducible refine Grow.upd ?_

theorem Grow.enterDawn (h : Grow s₀ s) (cause : Nat) (x : DawnTests) :
    Grow s₀ (State.enterDawn s cause x) := by
  delta State.enterDawn
  repeat' first
    | with_reducible assumption
    | with_reducible apply Grow.calDawnPair
    | with_reducible apply Grow.calDawnStart
    | with_reducible apply Grow.dawnDetect
    | with_reducible apply Grow.dawnLanes
    | with_reducible apply Grow.dawnMotor
    | with_reducible apply Grow.dawnTile
    | with_reducible apply Grow.goTo
    | with_reducible apply Grow.mapNoz
    | with_reducible apply Grow.raise
    | with_reducible refine Grow.setF ?_ _ _
    | with_reducible refine Grow.foldl ?_ ?_
    | (try lift_lets -underBinder); intro x; refine Grow.cut (x := x) ?_ ?_ <;> [subst x; (clear_value x; intro _)]
    | (try lift_lets -underBinder); intro x; first | subst x | skip
    | split

theorem Grow.dawnCounts (h : Grow s₀ s) :
    Grow s₀ (State.dawnCounts s) := by
  delta State.dawnCounts
  repeat' first
    | with_reducible assumption
    | with_reducible refine Grow.setFields_nil ?_
    | with_reducible refine Grow.setFields_cons ?_
    | with_reducible refine Grow.setF ?_ _ _
    | (try lift_lets -underBinder); intro x; refine Grow.cut (x := x) ?_ ?_ <;> [subst x; (clear_value x; intro _)]
    | (try lift_lets -underBinder); intro x; first | subst x | skip
    | fail_if_no_progress with_reducible refine Grow.upd ?_

theorem Grow.freeSlots (h : Grow s₀ s) :
    Grow s₀ (State.freeSlots s) := by
  delta State.freeSlots
  repeat' first
    | with_reducible assumption
    | with_reducible apply Grow.showSlots
    | with_reducible refine Grow.ite ?_ ?_
    | (try lift_lets -underBinder); intro x; refine Grow.cut (x := x) ?_ ?_ <;> [subst x; (clear_value x; intro _)]
    | (try lift_lets -underBinder); intro x; first | subst x | skip
    | fail_if_no_progress with_reducible refine Grow.upd ?_

theorem Grow.applyPos (h : Grow s₀ s) :
    Grow s₀ (State.applyPos s) := by
  delta State.applyPos
  repeat' first
    | with_reducible assumption
    | with_reducible apply Grow.modPin
    | with_reducible apply Grow.raise
    | with_reducible refine Grow.setBit ?_ _ _ _
    | with_reducible apply Grow.setLine
    | with_reducible refine Grow.ite ?_ ?_
    | with_reducible refine Grow.foldl ?_ ?_
    | (try lift_lets -underBinder); intro x; refine Grow.cut (x := x) ?_ ?_ <;> [subst x; (clear_value x; intro _)]
    | (try lift_lets -underBinder); intro x; first | subst x | skip
    | fail_if_no_progress with_reducible refine Grow.upd ?_

theorem Grow.applyTiles (h : Grow s₀ s) :
    Grow s₀ (State.applyTiles s) := by
  delta State.applyTiles
  repeat' first
    | with_reducible assumption
    | with_reducible apply Grow.bypassTile
    | with_reducible apply Grow.endPause
    | with_reducible apply Grow.mapNoz
    | with_reducible apply Grow.modFire
    | with_reducible apply Grow.modWin
    | with_reducible apply Grow.raiseLane
    | with_reducible apply Grow.refFrac
    | with_reducible apply Grow.removeVpp
    | with_reducible apply Grow.resetFire
    | with_reducible refine Grow.setF ?_ _ _
    | with_reducible refine Grow.ite ?_ ?_
    | with_reducible refine Grow.foldl ?_ ?_
    | (try lift_lets -underBinder); intro x; refine Grow.cut (x := x) ?_ ?_ <;> [subst x; (clear_value x; intro _)]
    | (try lift_lets -underBinder); intro x; first | subst x | skip
    | split
    | fail_if_no_progress dsimp only
    | fail_if_no_progress with_reducible refine Grow.upd ?_

theorem Grow.applyCues (h : Grow s₀ s) :
    Grow s₀ (State.applyCues s) := by
  delta State.applyCues
  repeat' first
    | with_reducible assumption
    | with_reducible apply Grow.showCues
    | fail_if_no_progress with_reducible refine Grow.upd ?_

theorem Grow.applyImage (h : Grow s₀ s) (im : Image) :
    Grow s₀ (State.applyImage s im) := by
  delta State.applyImage
  repeat' first
    | with_reducible assumption
    | with_reducible apply Grow.applyCues
    | with_reducible apply Grow.applyPos
    | with_reducible apply Grow.applyTiles
    | with_reducible apply Grow.axisOff
    | with_reducible apply Grow.calApply
    | with_reducible apply Grow.discardDocs
    | with_reducible apply Grow.freeSlots
    | with_reducible apply Grow.liveDiscard
    | with_reducible apply Grow.modAxis
    | with_reducible apply Grow.noSpit
    | with_reducible apply Grow.setAcct
    | with_reducible apply Grow.setBanks
    | with_reducible refine Grow.setF ?_ _ _
    | with_reducible refine Grow.setFields_nil ?_
    | with_reducible refine Grow.setFields_cons ?_
    | with_reducible refine Grow.setF ?_ _ _
    | with_reducible apply Grow.setSpad
    | with_reducible apply Grow.showComp
    | with_reducible apply Grow.showPool
    | with_reducible apply Grow.startRails
    | with_reducible apply Grow.updHoldup
    | with_reducible refine Grow.ite ?_ ?_
    | with_reducible refine Grow.foldl ?_ ?_
    | (try lift_lets -underBinder); intro x; refine Grow.cut (x := x) ?_ ?_ <;> [subst x; (clear_value x; intro _)]
    | (try lift_lets -underBinder); intro x; first | subst x | skip
    | fail_if_no_progress with_reducible refine Grow.upd ?_

end Sys2Proof.Machine
end

