-- ==== Sys2Proof/Laws/GrowCommands.lean ====
section
/-!
SUPPORT. The operations and commands that only add to what waits in the event fabric and at the dies for the hub, and to the outputs. Each proof walks through the
operation's own structure and cites the lemmas of what it calls.
-/
set_option linter.unusedTactic false
set_option linter.unreachableTactic false
set_option linter.unusedVariables false
namespace Sys2Proof.Machine
set_option Elab.async false
variable {s₀ s : State}

/-! ### Machine/Composition.lean -/

theorem Grow.renderStart (h : Grow s₀ s) (w : Nat) :
    Grow s₀ (State.renderStart s w) := by
  delta State.renderStart
  repeat' first
    | with_reducible assumption
    | with_reducible apply Grow.modWin
    | with_reducible apply Grow.raise
    | with_reducible refine Grow.setF ?_ _ _
    | with_reducible apply Grow.showComp
    | with_reducible refine Grow.ite ?_ ?_
    | with_reducible refine Grow.foldl ?_ ?_
    | (try lift_lets -underBinder); intro x; refine Grow.cut (x := x) ?_ ?_ <;> [subst x; (clear_value x; intro _)]
    | (try lift_lets -underBinder); intro x; first | subst x | skip
    | split
    | fail_if_no_progress dsimp only
    | fail_if_no_progress with_reducible refine Grow.upd ?_

theorem Grow.execDocumentRenderStart (h : Grow s₀ s) (t : Nat) (w : Nat) :
    ∃ s₁, execDocumentRenderStart t w s = .next s₁ ∧ Grow s₀ s₁ := by
  refine ⟨_, rfl, ?_⟩
  repeat' first
    | with_reducible assumption
    | with_reducible apply Grow.at
    | with_reducible apply Grow.renderStart

theorem Grow.renderNotes (h : Grow s₀ s) (d : RDoc) :
    Grow s₀ (State.renderNotes s d) := by
  delta State.renderNotes
  repeat' first
    | with_reducible assumption
    | with_reducible apply Grow.raise
    | with_reducible refine Grow.ite ?_ ?_
    | with_reducible refine Grow.foldl ?_ ?_
    | (try lift_lets -underBinder); intro x; refine Grow.cut (x := x) ?_ ?_ <;> [subst x; (clear_value x; intro _)]
    | (try lift_lets -underBinder); intro x; first | subst x | skip
    | split
    | fail_if_no_progress dsimp only
    | fail_if_no_progress with_reducible refine Grow.upd ?_

theorem Grow.rendered (h : Grow s₀ s) (d : RDoc) :
    Grow s₀ (State.rendered s d) := by
  delta State.rendered
  repeat' first
    | with_reducible assumption
    | with_reducible apply Grow.count
    | with_reducible apply Grow.modDoc
    | with_reducible apply Grow.releaseKept
    | with_reducible apply Grow.renderNotes
    | with_reducible apply Grow.serialAdvance
    | with_reducible apply Grow.showComp
    | with_reducible refine Grow.ite ?_ ?_
    | with_reducible refine Grow.foldl ?_ ?_
    | (try lift_lets -underBinder); intro x; refine Grow.cut (x := x) ?_ ?_ <;> [subst x; (clear_value x; intro _)]
    | (try lift_lets -underBinder); intro x; first | subst x | skip
    | fail_if_no_progress with_reducible refine Grow.upd ?_

theorem Grow.execDocumentRendered (h : Grow s₀ s) (t : Nat) (w : Nat) :
    ∃ s₁, execDocumentRendered t w s = .next s₁ ∧ Grow s₀ s₁ := by
  refine ⟨_, rfl, ?_⟩
  repeat' first
    | with_reducible assumption
    | with_reducible apply Grow.at
    | with_reducible apply Grow.rendered
    | with_reducible refine Grow.ite ?_ ?_
    | (try lift_lets -underBinder); intro x; refine Grow.cut (x := x) ?_ ?_ <;> [subst x; (clear_value x; intro _)]
    | (try lift_lets -underBinder); intro x; first | subst x | skip
    | split
    | fail_if_no_progress dsimp only
    | fail_if_no_progress with_reducible refine Grow.upd ?_

theorem Grow.takeLine (h : Grow s₀ s) (n : Nat) (e : Nat) (d : RDoc) (j : Nat) :
    Grow s₀ (State.takeLine s n e d j) := by
  delta State.takeLine
  repeat' first
    | with_reducible assumption
    | with_reducible apply Grow.modDoc
    | with_reducible apply Grow.showComp
    | with_reducible apply Grow.tagMany
    | with_reducible apply Grow.writeLine
    | with_reducible refine Grow.ite ?_ ?_
    | (try lift_lets -underBinder); intro x; refine Grow.cut (x := x) ?_ ?_ <;> [subst x; (clear_value x; intro _)]
    | (try lift_lets -underBinder); intro x; first | subst x | skip
    | split
    | fail_if_no_progress dsimp only
    | fail_if_no_progress with_reducible refine Grow.upd ?_

theorem Grow.prefillTile (h : Grow s₀ s) (n : Nat) (e : Nat) (d : RDoc) :
    Grow s₀ (State.prefillTile s n e d) := by
  delta State.prefillTile
  repeat' first
    | with_reducible assumption
    | with_reducible apply Grow.modDoc
    | with_reducible apply Grow.modLane
    | with_reducible apply Grow.takeLine
    | with_reducible apply Grow.tryDeliver
    | with_reducible refine Grow.foldl ?_ ?_
    | (try lift_lets -underBinder); intro x; refine Grow.cut (x := x) ?_ ?_ <;> [subst x; (clear_value x; intro _)]
    | (try lift_lets -underBinder); intro x; first | subst x | skip
    | fail_if_no_progress with_reducible refine Grow.upd ?_

theorem Grow.execPrefillComplete (h : Grow s₀ s) (t : Nat) (n : Nat) :
    ∃ s₁, execPrefillComplete t n s = .next s₁ ∧ Grow s₀ s₁ := by
  refine ⟨_, rfl, ?_⟩
  repeat' first
    | with_reducible assumption
    | with_reducible apply Grow.at
    | with_reducible apply Grow.prefillTile
    | with_reducible refine Grow.ite ?_ ?_
    | (try lift_lets -underBinder); intro x; refine Grow.cut (x := x) ?_ ?_ <;> [subst x; (clear_value x; intro _)]
    | (try lift_lets -underBinder); intro x; first | subst x | skip
    | split
    | fail_if_no_progress dsimp only
    | fail_if_no_progress with_reducible refine Grow.upd ?_

theorem Grow.execLineBufferWrite (h : Grow s₀ s) (t : Nat) (n : Nat) (j : Nat) :
    ∃ s₁, execLineBufferWrite t n j s = .next s₁ ∧ Grow s₀ s₁ := by
  refine ⟨_, rfl, ?_⟩
  repeat' first
    | with_reducible assumption
    | with_reducible apply Grow.at
    | with_reducible apply Grow.takeLine
    | with_reducible refine Grow.ite ?_ ?_
    | (try lift_lets -underBinder); intro x; refine Grow.cut (x := x) ?_ ?_ <;> [subst x; (clear_value x; intro _)]
    | (try lift_lets -underBinder); intro x; first | subst x | skip
    | split
    | fail_if_no_progress dsimp only
    | fail_if_no_progress with_reducible refine Grow.upd ?_

/-! ### Machine/Lane.lean -/

theorem Grow.underrun (h : Grow s₀ s) (n : Nat) (e : Nat) (f : Nat) :
    Grow s₀ (State.underrun s n e f) := by
  delta State.underrun
  repeat' first
    | with_reducible assumption
    | with_reducible refine Grow.addF ?_ _ _
    | with_reducible apply Grow.count
    | with_reducible apply Grow.modLane
    | with_reducible apply Grow.raiseLane
    | with_reducible refine Grow.setF ?_ _ _
    | with_reducible refine Grow.ite ?_ ?_
    | (try lift_lets -underBinder); intro x; refine Grow.cut (x := x) ?_ ?_ <;> [subst x; (clear_value x; intro _)]
    | (try lift_lets -underBinder); intro x; first | subst x | skip
    | fail_if_no_progress with_reducible refine Grow.upd ?_

theorem Grow.header (h : Grow s₀ s) (n : Nat) (f : Nat) (d : Doc) :
    Grow s₀ (State.header s n f d).1 := by
  delta State.header
  repeat' first
    | with_reducible assumption
    | with_reducible apply Grow.modTh
    | with_reducible apply Grow.raiseLane
    | with_reducible apply Grow.senseVpp
    | with_reducible refine Grow.senseVpp_eq ?_ (by assumption)
    | with_reducible refine Grow.setF ?_ _ _
    | with_reducible refine Grow.setFields_nil ?_
    | with_reducible refine Grow.setFields_cons ?_
    | with_reducible refine Grow.setF ?_ _ _
    | with_reducible refine Grow.ite ?_ ?_
    | with_reducible refine Grow.ite_fst ?_ ?_
    | (try lift_lets -underBinder); intro x; refine Grow.cut (x := x) ?_ ?_ <;> [subst x; (clear_value x; intro _)]
    | (try lift_lets -underBinder); intro x; first | subst x | skip
    | split
    | fail_if_no_progress dsimp only
    | fail_if_no_progress with_reducible refine Grow.upd ?_

theorem Grow.header_eq {c} {v} (h : Grow s₀ s) {n : Nat} {f : Nat} {d : Doc} (e : State.header s n f d = (c, v)) :
    Grow s₀ c := by
  have k := Grow.header h n f d
  rwa [e] at k

theorem Grow.tagCycle (h : Grow s₀ s) (e : Nat) (f : Nat) (d : Doc) :
    Grow s₀ (State.tagCycle s e f d) := by
  delta State.tagCycle
  repeat' first
    | with_reducible assumption
    | with_reducible apply Grow.modTag
    | with_reducible apply Grow.tagMany
    | with_reducible refine Grow.ite ?_ ?_
    | with_reducible refine Grow.foldl ?_ ?_
    | (try lift_lets -underBinder); intro x; refine Grow.cut (x := x) ?_ ?_ <;> [subst x; (clear_value x; intro _)]
    | (try lift_lets -underBinder); intro x; first | subst x | skip

theorem Grow.prepare (h : Grow s₀ s) (n : Nat) (e : Nat) (f : Nat) (r : TileRec) (d : Doc) :
    Grow s₀ (State.prepare s n e f r d) := by
  delta State.prepare
  repeat' first
    | with_reducible assumption
    | with_reducible refine Grow.addF ?_ _ _
    | with_reducible apply Grow.count
    | with_reducible apply Grow.eventSweep
    | with_reducible refine Grow.eventSweep_eq ?_ (by assumption)
    | with_reducible apply Grow.header
    | with_reducible refine Grow.header_eq ?_ (by assumption)
    | with_reducible apply Grow.modLane
    | with_reducible apply Grow.modTh
    | with_reducible refine Grow.setF ?_ _ _
    | with_reducible apply Grow.tagCycle
    | (try lift_lets -underBinder); intro x; refine Grow.cut (x := x) ?_ ?_ <;> [subst x; (clear_value x; intro _)]
    | (try lift_lets -underBinder); intro x; first | subst x | skip
    | split
    | fail_if_no_progress dsimp only
    | fail_if_no_progress with_reducible refine Grow.upd ?_

theorem Grow.execLaneCycleStart (h : Grow s₀ s) (t : Nat) (e : Nat) :
    ∃ s₁, execLaneCycleStart t e s = .next s₁ ∧ Grow s₀ s₁ := by
  refine ⟨_, rfl, ?_⟩
  repeat' first
    | with_reducible assumption
    | with_reducible apply Grow.at
    | with_reducible apply Grow.modLane
    | with_reducible apply Grow.prepare
    | with_reducible apply Grow.underrun
    | with_reducible refine Grow.ite ?_ ?_
    | (try lift_lets -underBinder); intro x; refine Grow.cut (x := x) ?_ ?_ <;> [subst x; (clear_value x; intro _)]
    | (try lift_lets -underBinder); intro x; first | subst x | skip
    | split
    | fail_if_no_progress dsimp only
    | fail_if_no_progress with_reducible refine Grow.upd ?_

theorem Grow.announce (h : Grow s₀ s) (w : Nat) (d : Doc) :
    Grow s₀ (State.announce s w d) := by
  delta State.announce
  repeat' first
    | with_reducible assumption
    | with_reducible apply Grow.modWin
    | with_reducible refine Grow.ite ?_ ?_
    | (try lift_lets -underBinder); intro x; refine Grow.cut (x := x) ?_ ?_ <;> [subst x; (clear_value x; intro _)]
    | (try lift_lets -underBinder); intro x; first | subst x | skip
    | split
    | fail_if_no_progress with_reducible refine Grow.upd ?_

theorem Grow.execCyclePackComplete (h : Grow s₀ s) (t : Nat) (e : Nat) :
    ∃ s₁, execCyclePackComplete t e s = .next s₁ ∧ Grow s₀ s₁ := by
  refine ⟨_, rfl, ?_⟩
  repeat' first
    | with_reducible assumption
    | with_reducible apply Grow.announce
    | with_reducible apply Grow.at
    | with_reducible refine Grow.incF ?_ _ _
    | with_reducible apply Grow.modLane
    | with_reducible apply Grow.modTh
    | with_reducible apply Grow.tagRecord
    | with_reducible refine Grow.ite ?_ ?_
    | (try lift_lets -underBinder); intro x; refine Grow.cut (x := x) ?_ ?_ <;> [subst x; (clear_value x; intro _)]
    | (try lift_lets -underBinder); intro x; first | subst x | skip
    | split
    | fail_if_no_progress dsimp only
    | fail_if_no_progress with_reducible refine Grow.upd ?_

theorem Grow.execTilePacketSend (h : Grow s₀ s) (t : Nat) (n : Nat) :
    ∃ s₁, execTilePacketSend t n s = .next s₁ ∧ Grow s₀ s₁ := by
  refine ⟨_, rfl, ?_⟩
  repeat' first
    | with_reducible assumption
    | with_reducible apply Grow.at
    | with_reducible apply Grow.emit
    | with_reducible apply Grow.modLane
    | with_reducible apply Grow.modPort
    | with_reducible apply Grow.modTag
    | with_reducible refine Grow.ite ?_ ?_
    | (try lift_lets -underBinder); intro x; refine Grow.cut (x := x) ?_ ?_ <;> [subst x; (clear_value x; intro _)]
    | (try lift_lets -underBinder); intro x; first | subst x | skip
    | split
    | fail_if_no_progress dsimp only
    | fail_if_no_progress with_reducible refine Grow.upd ?_

theorem Grow.fireStrobe (h : Grow s₀ s) (n : Nat) (target : Nat) (p : Packet) :
    Grow s₀ (State.fireStrobe s n target p) := by
  delta State.fireStrobe
  repeat' first
    | with_reducible assumption
    | with_reducible apply Grow.addUse
    | with_reducible apply Grow.count
    | with_reducible apply Grow.emit
    | with_reducible apply Grow.modFire
    | with_reducible apply Grow.modPort
    | with_reducible apply Grow.modTag
    | with_reducible apply Grow.tagRecord
    | (try lift_lets -underBinder); intro x; refine Grow.cut (x := x) ?_ ?_ <;> [subst x; (clear_value x; intro _)]
    | (try lift_lets -underBinder); intro x; first | subst x | skip
    | split
    | fail_if_no_progress dsimp only
    | fail_if_no_progress with_reducible refine Grow.upd ?_

theorem Grow.execStrobeLaunch (h : Grow s₀ s) (t : Nat) (n : Nat) :
    ∃ s₁, execStrobeLaunch t n s = .next s₁ ∧ Grow s₀ s₁ := by
  refine ⟨_, rfl, ?_⟩
  repeat' first
    | with_reducible assumption
    | with_reducible apply Grow.at
    | with_reducible apply Grow.dropPacket
    | with_reducible apply Grow.fireStrobe
    | with_reducible apply Grow.modFire
    | with_reducible refine Grow.setF ?_ _ _
    | with_reducible apply Grow.tagRecord
    | with_reducible apply Grow.underrun
    | with_reducible refine Grow.ite ?_ ?_
    | (try lift_lets -underBinder); intro x; refine Grow.cut (x := x) ?_ ?_ <;> [subst x; (clear_value x; intro _)]
    | (try lift_lets -underBinder); intro x; first | subst x | skip
    | split
    | fail_if_no_progress dsimp only
    | fail_if_no_progress with_reducible refine Grow.upd ?_

theorem Grow.execGapSwapTimeout (h : Grow s₀ s) (t : Nat) (w : Nat) :
    ∃ s₁, execGapSwapTimeout t w s = .next s₁ ∧ Grow s₀ s₁ := by
  refine ⟨_, rfl, ?_⟩
  repeat' first
    | with_reducible assumption
    | with_reducible apply Grow.at
    | with_reducible apply Grow.swapWin
    | with_reducible refine Grow.ite ?_ ?_
    | (try lift_lets -underBinder); intro x; refine Grow.cut (x := x) ?_ ?_ <;> [subst x; (clear_value x; intro _)]
    | (try lift_lets -underBinder); intro x; first | subst x | skip
    | split
    | fail_if_no_progress dsimp only
    | fail_if_no_progress with_reducible refine Grow.upd ?_

theorem Grow.execPauseEnd (h : Grow s₀ s) (t : Nat) (w : Nat) :
    ∃ s₁, execPauseEnd t w s = .next s₁ ∧ Grow s₀ s₁ := by
  refine ⟨_, rfl, ?_⟩
  repeat' first
    | with_reducible assumption
    | with_reducible apply Grow.at
    | with_reducible apply Grow.endPause
    | with_reducible refine Grow.ite ?_ ?_
    | (try lift_lets -underBinder); intro x; refine Grow.cut (x := x) ?_ ?_ <;> [subst x; (clear_value x; intro _)]
    | (try lift_lets -underBinder); intro x; first | subst x | skip
    | split
    | fail_if_no_progress dsimp only
    | fail_if_no_progress with_reducible refine Grow.upd ?_

/-! ### Machine/Health.lean -/

theorem Grow.execHeaterMeasurement (h : Grow s₀ s) (t : Nat) (n : Nat) (r1 : Option Nat) (r2 : Option Nat) :
    ∃ s₁, execHeaterMeasurement t n r1 r2 s = .next s₁ ∧ Grow s₀ s₁ := by
  refine ⟨_, rfl, ?_⟩
  repeat' first
    | with_reducible assumption
    | with_reducible apply Grow.at
    | with_reducible apply Grow.judge
    | with_reducible apply Grow.modTh
    | with_reducible apply Grow.noteSwaps
    | with_reducible apply Grow.scanNext
    | with_reducible refine Grow.ite ?_ ?_
    | (try lift_lets -underBinder); intro x; refine Grow.cut (x := x) ?_ ?_ <;> [subst x; (clear_value x; intro _)]
    | (try lift_lets -underBinder); intro x; first | subst x | skip
    | fail_if_no_progress with_reducible refine Grow.upd ?_

theorem Grow.hlthForce (h : Grow s₀ s) (v : Nat) :
    Grow s₀ (State.hlthForce s v) := by
  delta State.hlthForce
  repeat' first
    | with_reducible assumption
    | with_reducible apply Grow.noteSwaps
    | with_reducible apply Grow.setBg
    | with_reducible refine Grow.ite ?_ ?_
    | (try lift_lets -underBinder); intro x; refine Grow.cut (x := x) ?_ ?_ <;> [subst x; (clear_value x; intro _)]
    | (try lift_lets -underBinder); intro x; first | subst x | skip

theorem Grow.execHlthForce (h : Grow s₀ s) (t : Nat) (v : Word) :
    ∃ s₁, execHlthForce t v s = .next s₁ ∧ Grow s₀ s₁ := by
  refine ⟨_, rfl, ?_⟩
  repeat' first
    | with_reducible assumption
    | with_reducible apply Grow.at
    | with_reducible apply Grow.hlthForce
    | with_reducible apply Grow.onWrite
    | (try lift_lets -underBinder); intro x; refine Grow.cut (x := x) ?_ ?_ <;> [subst x; (clear_value x; intro _)]
    | (try lift_lets -underBinder); intro x; first | subst x | skip

theorem Grow.hlthBypass (h : Grow s₀ s) (v : Nat) :
    Grow s₀ (State.hlthBypass s v) := by
  delta State.hlthBypass
  repeat' first
    | with_reducible assumption
    | with_reducible apply Grow.modTh
    | with_reducible apply Grow.noteSwaps
    | with_reducible apply Grow.raise
    | with_reducible refine Grow.ite ?_ ?_
    | (try lift_lets -underBinder); intro x; refine Grow.cut (x := x) ?_ ?_ <;> [subst x; (clear_value x; intro _)]
    | (try lift_lets -underBinder); intro x; first | subst x | skip
    | fail_if_no_progress with_reducible refine Grow.upd ?_

theorem Grow.execBypassRequest (h : Grow s₀ s) (t : Nat) (v : Word) :
    ∃ s₁, execBypassRequest t v s = .next s₁ ∧ Grow s₀ s₁ := by
  refine ⟨_, rfl, ?_⟩
  repeat' first
    | with_reducible assumption
    | with_reducible apply Grow.at
    | with_reducible apply Grow.hlthBypass
    | with_reducible apply Grow.onWrite
    | (try lift_lets -underBinder); intro x; refine Grow.cut (x := x) ?_ ?_ <;> [subst x; (clear_value x; intro _)]
    | (try lift_lets -underBinder); intro x; first | subst x | skip

theorem Grow.endRoll (h : Grow s₀ s) (d : Nat) :
    Grow s₀ (State.endRoll s d) := by
  delta State.endRoll
  repeat' first
    | with_reducible assumption
    | fail_if_no_progress with_reducible refine Grow.upd ?_

theorem Grow.showRolling (h : Grow s₀ s) :
    Grow s₀ (State.showRolling s) := by
  delta State.showRolling
  repeat' first
    | with_reducible assumption
    | with_reducible refine Grow.setF ?_ _ _
    | (try lift_lets -underBinder); intro x; refine Grow.cut (x := x) ?_ ?_ <;> [subst x; (clear_value x; intro _)]
    | (try lift_lets -underBinder); intro x; first | subst x | skip
    | split
    | fail_if_no_progress with_reducible refine Grow.upd ?_

theorem Grow.parityFail (h : Grow s₀ s) (e : Nat) :
    Grow s₀ (State.parityFail s e) := by
  delta State.parityFail
  repeat' first
    | with_reducible assumption
    | with_reducible apply Grow.endRoll
    | with_reducible apply Grow.failEngine
    | with_reducible apply Grow.modLane
    | with_reducible apply Grow.modTh
    | with_reducible apply Grow.noteSwaps
    | with_reducible refine Grow.setF ?_ _ _
    | with_reducible apply Grow.showRolling
    | with_reducible apply Grow.tagRecord
    | with_reducible refine Grow.ite ?_ ?_
    | (try lift_lets -underBinder); intro x; refine Grow.cut (x := x) ?_ ?_ <;> [subst x; (clear_value x; intro _)]
    | (try lift_lets -underBinder); intro x; first | subst x | skip
    | split
    | fail_if_no_progress dsimp only
    | fail_if_no_progress with_reducible refine Grow.upd ?_

theorem Grow.execLaneParityError (h : Grow s₀ s) (t : Nat) (e : Nat) :
    ∃ s₁, execLaneParityError t e s = .next s₁ ∧ Grow s₀ s₁ := by
  refine ⟨_, rfl, ?_⟩
  repeat' first
    | with_reducible assumption
    | with_reducible apply Grow.at
    | with_reducible apply Grow.parityFail
    | with_reducible refine Grow.ite ?_ ?_
    | (try lift_lets -underBinder); intro x; refine Grow.cut (x := x) ?_ ?_ <;> [subst x; (clear_value x; intro _)]
    | (try lift_lets -underBinder); intro x; first | subst x | skip

theorem Grow.takeOver (h : Grow s₀ s) (n : Nat) (e : Nat) :
    Grow s₀ (State.takeOver s n e) := by
  delta State.takeOver
  repeat' first
    | with_reducible assumption
    | with_reducible apply Grow.connect
    | with_reducible apply Grow.endRoll
    | with_reducible apply Grow.modLane
    | with_reducible apply Grow.modNoz
    | with_reducible apply Grow.modTh
    | with_reducible apply Grow.setBanks
    | with_reducible refine Grow.setF ?_ _ _
    | with_reducible apply Grow.showRolling
    | with_reducible refine Grow.ite ?_ ?_
    | with_reducible refine Grow.foldl ?_ ?_
    | (try lift_lets -underBinder); intro x; refine Grow.cut (x := x) ?_ ?_ <;> [subst x; (clear_value x; intro _)]
    | (try lift_lets -underBinder); intro x; first | subst x | skip
    | split
    | fail_if_no_progress dsimp only
    | fail_if_no_progress with_reducible refine Grow.upd ?_

theorem Grow.execLaneEnginePrepared (h : Grow s₀ s) (t : Nat) (n : Nat) :
    ∃ s₁, execLaneEnginePrepared t n s = .next s₁ ∧ Grow s₀ s₁ := by
  refine ⟨_, rfl, ?_⟩
  repeat' first
    | with_reducible assumption
    | with_reducible apply Grow.at
    | with_reducible apply Grow.modTh
    | with_reducible apply Grow.takeOver
    | with_reducible refine Grow.ite ?_ ?_
    | (try lift_lets -underBinder); intro x; refine Grow.cut (x := x) ?_ ?_ <;> [subst x; (clear_value x; intro _)]
    | (try lift_lets -underBinder); intro x; first | subst x | skip
    | split
    | fail_if_no_progress dsimp only
    | fail_if_no_progress with_reducible refine Grow.upd ?_

theorem Grow.execRollIntervalExpiry (h : Grow s₀ s) (t : Nat) (d : Nat) :
    ∃ s₁, execRollIntervalExpiry t d s = .next s₁ ∧ Grow s₀ s₁ := by
  refine ⟨_, rfl, ?_⟩
  repeat' first
    | with_reducible assumption
    | with_reducible apply Grow.at
    | with_reducible apply Grow.modTh
    | with_reducible refine Grow.ite ?_ ?_
    | (try lift_lets -underBinder); intro x; refine Grow.cut (x := x) ?_ ?_ <;> [subst x; (clear_value x; intro _)]
    | (try lift_lets -underBinder); intro x; first | subst x | skip
    | split
    | fail_if_no_progress dsimp only
    | fail_if_no_progress with_reducible refine Grow.upd ?_

theorem Grow.execRollSelfTestComplete (h : Grow s₀ s) (t : Nat) (d : Nat) (pass : Bool) :
    ∃ s₁, execRollSelfTestComplete t d pass s = .next s₁ ∧ Grow s₀ s₁ := by
  refine ⟨_, rfl, ?_⟩
  repeat' first
    | with_reducible assumption
    | with_reducible apply Grow.at
    | with_reducible apply Grow.endRoll
    | with_reducible apply Grow.failEngine
    | with_reducible apply Grow.modLane
    | with_reducible apply Grow.modTh
    | with_reducible apply Grow.noteSwaps
    | with_reducible refine Grow.setF ?_ _ _
    | with_reducible apply Grow.showRolling
    | with_reducible refine Grow.ite ?_ ?_
    | (try lift_lets -underBinder); intro x; refine Grow.cut (x := x) ?_ ?_ <;> [subst x; (clear_value x; intro _)]
    | (try lift_lets -underBinder); intro x; first | subst x | skip
    | split
    | fail_if_no_progress dsimp only
    | fail_if_no_progress with_reducible refine Grow.upd ?_

/-! ### Machine/Dma.lean -/

theorem Grow.orphan (h : Grow s₀ s) (p : Nat → Bool) : Grow s₀ (State.orphan s p) := ⟨h.1, h.2, h.3⟩

theorem Grow.stopStream (h : Grow s₀ s) (k : Nat) :
    Grow s₀ (State.stopStream s k) := by
  delta State.stopStream
  repeat' first
    | with_reducible assumption
    | with_reducible apply Grow.idleStream
    | with_reducible apply Grow.modStream
    | with_reducible refine Grow.setF ?_ _ _
    | with_reducible refine Grow.ite ?_ ?_
    | (try lift_lets -underBinder); intro x; refine Grow.cut (x := x) ?_ ?_ <;> [subst x; (clear_value x; intro _)]
    | (try lift_lets -underBinder); intro x; first | subst x | skip
    | split
    | fail_if_no_progress dsimp only
    | fail_if_no_progress with_reducible refine Grow.upd ?_

theorem Grow.hostReset (h : Grow s₀ s) (kind : Nat) :
    Grow s₀ (State.hostReset s kind) := by
  delta State.hostReset
  repeat' first
    | with_reducible assumption
    | with_reducible apply Grow.modStream
    | with_reducible apply Grow.orphan
    | with_reducible apply Grow.raise
    | with_reducible refine Grow.setF ?_ _ _
    | with_reducible refine Grow.setFields_nil ?_
    | with_reducible refine Grow.setFields_cons ?_
    | with_reducible refine Grow.setF ?_ _ _
    | with_reducible apply Grow.showHost
    | with_reducible apply Grow.showPool
    | with_reducible apply Grow.stopStream
    | with_reducible apply Grow.tagRecord
    | with_reducible refine Grow.foldl ?_ ?_
    | (try lift_lets -underBinder); intro x; refine Grow.cut (x := x) ?_ ?_ <;> [subst x; (clear_value x; intro _)]
    | (try lift_lets -underBinder); intro x; first | subst x | skip
    | fail_if_no_progress with_reducible refine Grow.upd ?_

theorem Grow.execHostFacingReset (h : Grow s₀ s) (t : Nat) (kind : Nat) :
    ∃ s₁, execHostFacingReset t kind s = .next s₁ ∧ Grow s₀ s₁ := by
  refine ⟨_, rfl, ?_⟩
  repeat' first
    | with_reducible assumption
    | with_reducible apply Grow.at
    | with_reducible apply Grow.hostReset
    | with_reducible refine Grow.ite ?_ ?_
    | (try lift_lets -underBinder); intro x; refine Grow.cut (x := x) ?_ ?_ <;> [subst x; (clear_value x; intro _)]
    | (try lift_lets -underBinder); intro x; first | subst x | skip

theorem Grow.enableStream (h : Grow s₀ s) (k : Nat) :
    Grow s₀ (State.enableStream s k) := by
  delta State.enableStream
  repeat' first
    | with_reducible assumption
    | with_reducible apply Grow.modStream
    | with_reducible refine Grow.setF ?_ _ _
    | with_reducible apply Grow.showPool
    | with_reducible refine Grow.ite ?_ ?_
    | (try lift_lets -underBinder); intro x; refine Grow.cut (x := x) ?_ ?_ <;> [subst x; (clear_value x; intro _)]
    | (try lift_lets -underBinder); intro x; first | subst x | skip
    | fail_if_no_progress with_reducible refine Grow.upd ?_

theorem Grow.resetStream (h : Grow s₀ s) (k : Nat) :
    Grow s₀ (State.resetStream s k) := by
  delta State.resetStream
  repeat' first
    | with_reducible assumption
    | with_reducible apply Grow.modStream
    | with_reducible apply Grow.orphan
    | with_reducible refine Grow.setFields_nil ?_
    | with_reducible refine Grow.setFields_cons ?_
    | with_reducible refine Grow.setF ?_ _ _
    | with_reducible refine Grow.ite ?_ ?_
    | (try lift_lets -underBinder); intro x; refine Grow.cut (x := x) ?_ ?_ <;> [subst x; (clear_value x; intro _)]
    | (try lift_lets -underBinder); intro x; first | subst x | skip
    | fail_if_no_progress with_reducible refine Grow.upd ?_

theorem Grow.writeDmaCtrl (h : Grow s₀ s) (k : Nat) (v : Nat) :
    Grow s₀ (State.writeDmaCtrl s k v) := by
  delta State.writeDmaCtrl
  repeat' first
    | with_reducible assumption
    | with_reducible apply Grow.enableStream
    | with_reducible apply Grow.resetStream
    | with_reducible refine Grow.setFields_nil ?_
    | with_reducible refine Grow.setFields_cons ?_
    | with_reducible refine Grow.setF ?_ _ _
    | with_reducible apply Grow.stopStream
    | with_reducible refine Grow.ite ?_ ?_
    | (try lift_lets -underBinder); intro x; refine Grow.cut (x := x) ?_ ?_ <;> [subst x; (clear_value x; intro _)]
    | (try lift_lets -underBinder); intro x; first | subst x | skip

theorem Grow.execStreamEnable (h : Grow s₀ s) (t : Nat) (k : Nat) (v : Word) :
    ∃ s₁, execStreamEnable t k v s = .next s₁ ∧ Grow s₀ s₁ := by
  refine ⟨_, rfl, ?_⟩
  repeat' first
    | with_reducible assumption
    | with_reducible apply Grow.at
    | with_reducible apply Grow.onWrite
    | with_reducible apply Grow.writeDmaCtrl
    | with_reducible refine Grow.ite ?_ ?_
    | (try lift_lets -underBinder); intro x; refine Grow.cut (x := x) ?_ ?_ <;> [subst x; (clear_value x; intro _)]
    | (try lift_lets -underBinder); intro x; first | subst x | skip

theorem Grow.execStreamDisable (h : Grow s₀ s) (t : Nat) (k : Nat) (v : Word) :
    ∃ s₁, execStreamDisable t k v s = .next s₁ ∧ Grow s₀ s₁ := by
  refine ⟨_, rfl, ?_⟩
  repeat' first
    | with_reducible assumption
    | with_reducible apply Grow.at
    | with_reducible apply Grow.onWrite
    | with_reducible apply Grow.writeDmaCtrl
    | with_reducible refine Grow.ite ?_ ?_
    | (try lift_lets -underBinder); intro x; refine Grow.cut (x := x) ?_ ?_ <;> [subst x; (clear_value x; intro _)]
    | (try lift_lets -underBinder); intro x; first | subst x | skip

theorem Grow.execStreamReset (h : Grow s₀ s) (t : Nat) (k : Nat) (v : Word) :
    ∃ s₁, execStreamReset t k v s = .next s₁ ∧ Grow s₀ s₁ := by
  refine ⟨_, rfl, ?_⟩
  repeat' first
    | with_reducible assumption
    | with_reducible apply Grow.at
    | with_reducible apply Grow.onWrite
    | with_reducible apply Grow.writeDmaCtrl
    | with_reducible refine Grow.ite ?_ ?_
    | (try lift_lets -underBinder); intro x; refine Grow.cut (x := x) ?_ ?_ <;> [subst x; (clear_value x; intro _)]
    | (try lift_lets -underBinder); intro x; first | subst x | skip

theorem Grow.sqDoorbell (h : Grow s₀ s) (k : Nat) (v : Nat) :
    Grow s₀ (State.sqDoorbell s k v) := by
  delta State.sqDoorbell
  repeat' first
    | with_reducible assumption
    | with_reducible apply Grow.modStream
    | with_reducible refine Grow.setF ?_ _ _
    | with_reducible refine Grow.ite ?_ ?_
    | (try lift_lets -underBinder); intro x; refine Grow.cut (x := x) ?_ ?_ <;> [subst x; (clear_value x; intro _)]
    | (try lift_lets -underBinder); intro x; first | subst x | skip
    | fail_if_no_progress with_reducible refine Grow.upd ?_

theorem Grow.execSqDoorbell (h : Grow s₀ s) (t : Nat) (k : Nat) (v : Word) :
    ∃ s₁, execSqDoorbell t k v s = .next s₁ ∧ Grow s₀ s₁ := by
  refine ⟨_, rfl, ?_⟩
  repeat' first
    | with_reducible assumption
    | with_reducible apply Grow.at
    | with_reducible apply Grow.onWrite
    | with_reducible apply Grow.sqDoorbell
    | with_reducible refine Grow.ite ?_ ?_
    | (try lift_lets -underBinder); intro x; refine Grow.cut (x := x) ?_ ?_ <;> [subst x; (clear_value x; intro _)]
    | (try lift_lets -underBinder); intro x; first | subst x | skip

theorem Grow.showWait (h : Grow s₀ s) (k : Nat) :
    Grow s₀ (State.showWait s k) := by
  delta State.showWait
  repeat' first
    | with_reducible assumption
    | with_reducible apply Grow.modStream
    | with_reducible refine Grow.setF ?_ _ _
    | with_reducible refine Grow.ite ?_ ?_
    | (try lift_lets -underBinder); intro x; refine Grow.cut (x := x) ?_ ?_ <;> [subst x; (clear_value x; intro _)]
    | (try lift_lets -underBinder); intro x; first | subst x | skip
    | split
    | fail_if_no_progress with_reducible refine Grow.upd ?_

theorem Grow.cqDoorbell (h : Grow s₀ s) (k : Nat) (v : Nat) :
    Grow s₀ (State.cqDoorbell s k v) := by
  delta State.cqDoorbell
  repeat' first
    | with_reducible assumption
    | with_reducible apply Grow.modStream
    | with_reducible apply Grow.showWait
    | (try lift_lets -underBinder); intro x; refine Grow.cut (x := x) ?_ ?_ <;> [subst x; (clear_value x; intro _)]
    | (try lift_lets -underBinder); intro x; first | subst x | skip
    | fail_if_no_progress with_reducible refine Grow.upd ?_

theorem Grow.execCqDoorbell (h : Grow s₀ s) (t : Nat) (k : Nat) (v : Word) :
    ∃ s₁, execCqDoorbell t k v s = .next s₁ ∧ Grow s₀ s₁ := by
  refine ⟨_, rfl, ?_⟩
  repeat' first
    | with_reducible assumption
    | with_reducible apply Grow.at
    | with_reducible apply Grow.cqDoorbell
    | with_reducible apply Grow.onWrite
    | with_reducible refine Grow.ite ?_ ?_
    | (try lift_lets -underBinder); intro x; refine Grow.cut (x := x) ?_ ?_ <;> [subst x; (clear_value x; intro _)]
    | (try lift_lets -underBinder); intro x; first | subst x | skip

theorem Grow.execDescriptorFetch (h : Grow s₀ s) (t : Nat) (k : Nat) :
    ∃ s₁, execDescriptorFetch t k s = .next s₁ ∧ Grow s₀ s₁ := by
  refine ⟨_, rfl, ?_⟩
  repeat' first
    | with_reducible assumption
    | with_reducible apply Grow.at
    | with_reducible apply Grow.count
    | with_reducible apply Grow.hostRead
    | with_reducible apply Grow.modStream
    | with_reducible apply Grow.showFill
    | with_reducible refine Grow.ite ?_ ?_
    | (try lift_lets -underBinder); intro x; refine Grow.cut (x := x) ?_ ?_ <;> [subst x; (clear_value x; intro _)]
    | (try lift_lets -underBinder); intro x; first | subst x | skip
    | fail_if_no_progress with_reducible refine Grow.upd ?_

theorem Grow.acceptDesc (h : Grow s₀ s) (k : Nat) (f : Fetched) :
    Grow s₀ (State.acceptDesc s k f) := by
  delta State.acceptDesc
  repeat' first
    | with_reducible assumption
    | with_reducible apply Grow.idleStream
    | with_reducible apply Grow.modStream
    | with_reducible apply Grow.refuse
    | with_reducible refine Grow.setF ?_ _ _
    | with_reducible apply Grow.showWait
    | with_reducible apply Grow.tagDesc
    | with_reducible apply Grow.tagMany
    | with_reducible apply Grow.tagRecord
    | with_reducible refine Grow.ite ?_ ?_
    | (try lift_lets -underBinder); intro x; refine Grow.cut (x := x) ?_ ?_ <;> [subst x; (clear_value x; intro _)]
    | (try lift_lets -underBinder); intro x; first | subst x | skip
    | split
    | fail_if_no_progress with_reducible refine Grow.upd ?_

theorem Grow.execDescriptorAccept (h : Grow s₀ s) (t : Nat) (k : Nat) :
    ∃ s₁, execDescriptorAccept t k s = .next s₁ ∧ Grow s₀ s₁ := by
  refine ⟨_, rfl, ?_⟩
  repeat' first
    | with_reducible assumption
    | with_reducible apply Grow.acceptDesc
    | with_reducible apply Grow.at
    | with_reducible apply Grow.showWait
    | with_reducible refine Grow.ite ?_ ?_
    | (try lift_lets -underBinder); intro x; refine Grow.cut (x := x) ?_ ?_ <;> [subst x; (clear_value x; intro _)]
    | (try lift_lets -underBinder); intro x; first | subst x | skip
    | split
    | fail_if_no_progress dsimp only
    | fail_if_no_progress with_reducible refine Grow.upd ?_

theorem Grow.onDesc (h : Grow s₀ s) (k : Nat) (op : Nat) (g : State → Desc → State) (h_g : ∀ s x0, Grow s₀ s → Grow s₀ (g s x0)) :
    Grow s₀ (State.onDesc s k op g) := by
  delta State.onDesc
  repeat' first
    | with_reducible assumption
    | with_reducible apply h_g
    | with_reducible refine Grow.ite ?_ ?_
    | (try lift_lets -underBinder); intro x; refine Grow.cut (x := x) ?_ ?_ <;> [subst x; (clear_value x; intro _)]
    | (try lift_lets -underBinder); intro x; first | subst x | skip
    | split
    | fail_if_no_progress dsimp only
    | fail_if_no_progress with_reducible refine Grow.upd ?_

theorem Grow.execNop (h : Grow s₀ s) (t : Nat) (k : Nat) :
    ∃ s₁, execNop t k s = .next s₁ ∧ Grow s₀ s₁ := by
  refine ⟨_, rfl, ?_⟩
  repeat' first
    | with_reducible assumption
    | with_reducible apply Grow.at
    | with_reducible apply Grow.modExec
    | with_reducible apply Grow.onDesc
    | (try lift_lets -underBinder); intro x; refine Grow.cut (x := x) ?_ ?_ <;> [subst x; (clear_value x; intro _)]
    | (try lift_lets -underBinder); intro x; first | subst x | skip
    | fail_if_no_progress with_reducible refine Grow.upd ?_

theorem Grow.execCopy (h : Grow s₀ s) (t : Nat) (k : Nat) :
    ∃ s₁, execCopy t k s = .next s₁ ∧ Grow s₀ s₁ := by
  refine ⟨_, rfl, ?_⟩
  repeat' first
    | with_reducible assumption
    | with_reducible apply Grow.at
    | with_reducible apply Grow.onDesc
    | with_reducible apply Grow.runTransfer
    | (try lift_lets -underBinder); intro x; refine Grow.cut (x := x) ?_ ?_ <;> [subst x; (clear_value x; intro _)]
    | (try lift_lets -underBinder); intro x; first | subst x | skip

theorem Grow.execCopy2d (h : Grow s₀ s) (t : Nat) (k : Nat) :
    ∃ s₁, execCopy2d t k s = .next s₁ ∧ Grow s₀ s₁ := by
  refine ⟨_, rfl, ?_⟩
  repeat' first
    | with_reducible assumption
    | with_reducible apply Grow.at
    | with_reducible apply Grow.onDesc
    | with_reducible apply Grow.runTransfer
    | (try lift_lets -underBinder); intro x; refine Grow.cut (x := x) ?_ ?_ <;> [subst x; (clear_value x; intro _)]
    | (try lift_lets -underBinder); intro x; first | subst x | skip

theorem Grow.runFill (h : Grow s₀ s) (k : Nat) (d : Desc) :
    Grow s₀ (State.runFill s k d) := by
  delta State.runFill
  repeat' first
    | with_reducible assumption
    | with_reducible apply Grow.modExec
    | with_reducible apply Grow.putMem
    | with_reducible refine Grow.putMem_eq ?_ (by assumption)
    | with_reducible apply Grow.tagDesc
    | with_reducible refine Grow.foldl ?_ ?_
    | (try lift_lets -underBinder); intro x; refine Grow.cut (x := x) ?_ ?_ <;> [subst x; (clear_value x; intro _)]
    | (try lift_lets -underBinder); intro x; first | subst x | skip
    | split
    | fail_if_no_progress dsimp only
    | fail_if_no_progress with_reducible refine Grow.upd ?_

theorem Grow.execFill (h : Grow s₀ s) (t : Nat) (k : Nat) :
    ∃ s₁, execFill t k s = .next s₁ ∧ Grow s₀ s₁ := by
  refine ⟨_, rfl, ?_⟩
  repeat' first
    | with_reducible assumption
    | with_reducible apply Grow.at
    | with_reducible apply Grow.onDesc
    | with_reducible apply Grow.runFill
    | (try lift_lets -underBinder); intro x; refine Grow.cut (x := x) ?_ ?_ <;> [subst x; (clear_value x; intro _)]
    | (try lift_lets -underBinder); intro x; first | subst x | skip

theorem Grow.execCompare (h : Grow s₀ s) (t : Nat) (k : Nat) :
    ∃ s₁, execCompare t k s = .next s₁ ∧ Grow s₀ s₁ := by
  refine ⟨_, rfl, ?_⟩
  repeat' first
    | with_reducible assumption
    | with_reducible apply Grow.at
    | with_reducible apply Grow.onDesc
    | with_reducible apply Grow.runTransfer
    | (try lift_lets -underBinder); intro x; refine Grow.cut (x := x) ?_ ?_ <;> [subst x; (clear_value x; intro _)]
    | (try lift_lets -underBinder); intro x; first | subst x | skip

theorem Grow.execCompose (h : Grow s₀ s) (t : Nat) (k : Nat) :
    ∃ s₁, execCompose t k s = .next s₁ ∧ Grow s₀ s₁ := by
  refine ⟨_, rfl, ?_⟩
  repeat' first
    | with_reducible assumption
    | with_reducible apply Grow.at
    | with_reducible apply Grow.onDesc
    | with_reducible apply Grow.runTransfer
    | (try lift_lets -underBinder); intro x; refine Grow.cut (x := x) ?_ ?_ <;> [subst x; (clear_value x; intro _)]
    | (try lift_lets -underBinder); intro x; first | subst x | skip

theorem Grow.execSlotAlloc (h : Grow s₀ s) (t : Nat) (k : Nat) :
    ∃ s₁, execSlotAlloc t k s = .next s₁ ∧ Grow s₀ s₁ := by
  refine ⟨_, rfl, ?_⟩
  repeat' first
    | with_reducible assumption
    | with_reducible apply Grow.at
    | with_reducible apply Grow.modExec
    | with_reducible apply Grow.onDesc
    | with_reducible apply Grow.slotAlloc
    | with_reducible refine Grow.slotAlloc_eq ?_ (by assumption)
    | (try lift_lets -underBinder); intro x; refine Grow.cut (x := x) ?_ ?_ <;> [subst x; (clear_value x; intro _)]
    | (try lift_lets -underBinder); intro x; first | subst x | skip
    | split
    | fail_if_no_progress with_reducible refine Grow.upd ?_

theorem Grow.execSlotFree (h : Grow s₀ s) (t : Nat) (k : Nat) :
    ∃ s₁, execSlotFree t k s = .next s₁ ∧ Grow s₀ s₁ := by
  refine ⟨_, rfl, ?_⟩
  repeat' first
    | with_reducible assumption
    | with_reducible apply Grow.at
    | with_reducible apply Grow.modExec
    | with_reducible apply Grow.onDesc
    | with_reducible apply Grow.slotFree
    | (try lift_lets -underBinder); intro x; refine Grow.cut (x := x) ?_ ?_ <;> [subst x; (clear_value x; intro _)]
    | (try lift_lets -underBinder); intro x; first | subst x | skip
    | fail_if_no_progress with_reducible refine Grow.upd ?_

theorem Grow.readData (h : Grow s₀ s) (r : OutRead) (bs : List Nat) :
    Grow s₀ (State.readData s r bs) := by
  delta State.readData
  repeat' first
    | with_reducible assumption
    | with_reducible apply Grow.deliver
    | with_reducible apply Grow.gotDescriptors
    | with_reducible apply Grow.modExec
    | with_reducible apply Grow.pumpMembers
    | with_reducible apply Grow.sendRsp
    | with_reducible apply Grow.showHost
    | (try lift_lets -underBinder); intro x; refine Grow.cut (x := x) ?_ ?_ <;> [subst x; (clear_value x; intro _)]
    | (try lift_lets -underBinder); intro x; first | subst x | skip
    | split
    | fail_if_no_progress dsimp only
    | fail_if_no_progress with_reducible refine Grow.upd ?_

theorem Grow.execHostReadCompletion (h : Grow s₀ s) (t : Nat) (tag : Nat) (status : Nat) (data : List Nat) :
    ∃ s₁, execHostReadCompletion t tag status data s = .next s₁ ∧ Grow s₀ s₁ := by
  refine ⟨_, rfl, ?_⟩
  repeat' first
    | with_reducible assumption
    | with_reducible refine Grow.addF ?_ _ _
    | with_reducible apply Grow.at
    | with_reducible apply Grow.readData
    | with_reducible apply Grow.readFail
    | with_reducible refine Grow.ite ?_ ?_
    | (try lift_lets -underBinder); intro x; refine Grow.cut (x := x) ?_ ?_ <;> [subst x; (clear_value x; intro _)]
    | (try lift_lets -underBinder); intro x; first | subst x | skip
    | split
    | fail_if_no_progress dsimp only
    | fail_if_no_progress with_reducible refine Grow.upd ?_

theorem Grow.execHostReadTimeout (h : Grow s₀ s) (t : Nat) (tag : Nat) :
    ∃ s₁, execHostReadTimeout t tag s = .next s₁ ∧ Grow s₀ s₁ := by
  refine ⟨_, rfl, ?_⟩
  repeat' first
    | with_reducible assumption
    | with_reducible apply Grow.at
    | with_reducible apply Grow.readFail
    | with_reducible apply Grow.showHost
    | with_reducible refine Grow.ite ?_ ?_
    | (try lift_lets -underBinder); intro x; refine Grow.cut (x := x) ?_ ?_ <;> [subst x; (clear_value x; intro _)]
    | (try lift_lets -underBinder); intro x; first | subst x | skip
    | split
    | fail_if_no_progress dsimp only
    | fail_if_no_progress with_reducible refine Grow.upd ?_

theorem Grow.execHostReadRetry (h : Grow s₀ s) (t : Nat) (tag : Nat) :
    ∃ s₁, execHostReadRetry t tag s = .next s₁ ∧ Grow s₀ s₁ := by
  refine ⟨_, rfl, ?_⟩
  repeat' first
    | with_reducible assumption
    | with_reducible apply Grow.at
    | with_reducible apply Grow.issueRead
    | (try lift_lets -underBinder); intro x; refine Grow.cut (x := x) ?_ ?_ <;> [subst x; (clear_value x; intro _)]
    | (try lift_lets -underBinder); intro x; first | subst x | skip
    | split
    | fail_if_no_progress dsimp only
    | fail_if_no_progress with_reducible refine Grow.upd ?_

theorem Grow.execUnexpectedCompletion (h : Grow s₀ s) (t : Nat) (tag : Nat) :
    ∃ s₁, execUnexpectedCompletion t tag s = .next s₁ ∧ Grow s₀ s₁ := by
  refine ⟨_, rfl, ?_⟩
  repeat' first
    | with_reducible assumption
    | with_reducible refine Grow.addF ?_ _ _
    | with_reducible apply Grow.at
    | with_reducible apply Grow.raise
    | with_reducible refine Grow.ite ?_ ?_
    | (try lift_lets -underBinder); intro x; refine Grow.cut (x := x) ?_ ?_ <;> [subst x; (clear_value x; intro _)]
    | (try lift_lets -underBinder); intro x; first | subst x | skip

theorem Grow.undefTail (h : Grow s₀ s) (d : Desc) (x : Exec) :
    Grow s₀ (State.undefTail s d x) := by
  delta State.undefTail
  repeat' first
    | with_reducible assumption
    | with_reducible apply Grow.putForm
    | with_reducible apply Grow.putStaging
    | with_reducible refine Grow.draw ?_ _
    | with_reducible refine Grow.ite ?_ ?_
    | with_reducible refine Grow.foldl ?_ ?_
    | (try lift_lets -underBinder); intro x; refine Grow.cut (x := x) ?_ ?_ <;> [subst x; (clear_value x; intro _)]
    | (try lift_lets -underBinder); intro x; first | subst x | skip
    | fail_if_no_progress with_reducible refine Grow.upd ?_

theorem Grow.recordDesc (h : Grow s₀ s) (k : Nat) (x : Exec) :
    Grow s₀ (State.recordDesc s k x) := by
  delta State.recordDesc
  repeat' first
    | with_reducible assumption
    | with_reducible refine Grow.addF ?_ _ _
    | with_reducible apply Grow.descRecord
    | with_reducible apply Grow.idleStream
    | with_reducible apply Grow.modStream
    | with_reducible apply Grow.raise
    | with_reducible apply Grow.showFill
    | with_reducible apply Grow.tagDesc
    | with_reducible apply Grow.tagRecord
    | with_reducible apply Grow.undefTail
    | with_reducible refine Grow.ite ?_ ?_
    | (try lift_lets -underBinder); intro x; refine Grow.cut (x := x) ?_ ?_ <;> [subst x; (clear_value x; intro _)]
    | (try lift_lets -underBinder); intro x; first | subst x | skip
    | fail_if_no_progress with_reducible refine Grow.upd ?_

theorem Grow.execDescriptorComplete (h : Grow s₀ s) (t : Nat) (k : Nat) :
    ∃ s₁, execDescriptorComplete t k s = .next s₁ ∧ Grow s₀ s₁ := by
  refine ⟨_, rfl, ?_⟩
  repeat' first
    | with_reducible assumption
    | with_reducible apply Grow.at
    | with_reducible apply Grow.hostRead
    | with_reducible apply Grow.modExec
    | with_reducible apply Grow.recordDesc
    | with_reducible refine Grow.ite ?_ ?_
    | (try lift_lets -underBinder); intro x; refine Grow.cut (x := x) ?_ ?_ <;> [subst x; (clear_value x; intro _)]
    | (try lift_lets -underBinder); intro x; first | subst x | skip
    | split
    | fail_if_no_progress dsimp only
    | fail_if_no_progress with_reducible refine Grow.upd ?_

theorem Grow.execBarrierAck (h : Grow s₀ s) (t : Nat) (k : Nat) :
    ∃ s₁, execBarrierAck t k s = .next s₁ ∧ Grow s₀ s₁ := by
  refine ⟨_, rfl, ?_⟩
  repeat' first
    | with_reducible assumption
    | with_reducible apply Grow.at
    | with_reducible apply Grow.recordDesc
    | with_reducible apply Grow.tagDesc
    | with_reducible refine Grow.ite ?_ ?_
    | (try lift_lets -underBinder); intro x; refine Grow.cut (x := x) ?_ ?_ <;> [subst x; (clear_value x; intro _)]
    | (try lift_lets -underBinder); intro x; first | subst x | skip
    | split
    | fail_if_no_progress dsimp only
    | fail_if_no_progress with_reducible refine Grow.upd ?_

theorem Grow.execPacingResume (h : Grow s₀ s) (t : Nat) (k : Nat) :
    ∃ s₁, execPacingResume t k s = .next s₁ ∧ Grow s₀ s₁ := by
  refine ⟨_, rfl, ?_⟩
  repeat' first
    | with_reducible assumption
    | with_reducible apply Grow.at
    | with_reducible apply Grow.runTransfer
    | with_reducible refine Grow.setF ?_ _ _
    | with_reducible refine Grow.ite ?_ ?_
    | (try lift_lets -underBinder); intro x; refine Grow.cut (x := x) ?_ ?_ <;> [subst x; (clear_value x; intro _)]
    | (try lift_lets -underBinder); intro x; first | subst x | skip

theorem Grow.execDmaCqStall (h : Grow s₀ s) (t : Nat) (k : Nat) :
    ∃ s₁, execDmaCqStall t k s = .next s₁ ∧ Grow s₀ s₁ := by
  refine ⟨_, rfl, ?_⟩
  repeat' first
    | with_reducible assumption
    | with_reducible apply Grow.at
    | with_reducible apply Grow.modStream
    | with_reducible apply Grow.raise
    | with_reducible refine Grow.ite ?_ ?_
    | (try lift_lets -underBinder); intro x; refine Grow.cut (x := x) ?_ ?_ <;> [subst x; (clear_value x; intro _)]
    | (try lift_lets -underBinder); intro x; first | subst x | skip
    | split
    | fail_if_no_progress dsimp only
    | fail_if_no_progress with_reducible refine Grow.upd ?_

theorem Grow.execBar4Access (h : Grow s₀ s) (t : Nat) (a : Nat) (n : Nat) (data : Option (List Nat)) :
    ∃ s₁, execBar4Access t a n data s = .next s₁ ∧ Grow s₀ s₁ := by
  refine ⟨_, rfl, ?_⟩
  repeat' first
    | with_reducible assumption
    | with_reducible apply Grow.at
    | with_reducible apply Grow.countForm
    | with_reducible apply Grow.emit
    | with_reducible apply Grow.putForm
    | with_reducible refine Grow.ite ?_ ?_
    | (try lift_lets -underBinder); intro x; refine Grow.cut (x := x) ?_ ?_ <;> [subst x; (clear_value x; intro _)]
    | (try lift_lets -underBinder); intro x; first | subst x | skip
    | split
    | fail_if_no_progress dsimp only
    | fail_if_no_progress with_reducible refine Grow.upd ?_

/-! ### Machine/Ring.lean -/

theorem Grow.writeRingCtrl (h : Grow s₀ s) (v : Nat) :
    Grow s₀ (State.writeRingCtrl s v) := by
  delta State.writeRingCtrl
  repeat' first
    | with_reducible assumption
    | with_reducible apply Grow.sendJoin
    | with_reducible refine Grow.setF ?_ _ _
    | with_reducible refine Grow.setFields_nil ?_
    | with_reducible refine Grow.setFields_cons ?_
    | with_reducible refine Grow.setF ?_ _ _
    | with_reducible refine Grow.ite ?_ ?_
    | (try lift_lets -underBinder); intro x; refine Grow.cut (x := x) ?_ ?_ <;> [subst x; (clear_value x; intro _)]
    | (try lift_lets -underBinder); intro x; first | subst x | skip
    | fail_if_no_progress with_reducible refine Grow.upd ?_

theorem Grow.execEnum (h : Grow s₀ s) (t : Nat) (v : Word) :
    ∃ s₁, execEnum t v s = .next s₁ ∧ Grow s₀ s₁ := by
  refine ⟨_, rfl, ?_⟩
  repeat' first
    | with_reducible assumption
    | with_reducible apply Grow.at
    | with_reducible apply Grow.onWrite
    | with_reducible apply Grow.writeRingCtrl
    | with_reducible refine Grow.ite ?_ ?_
    | (try lift_lets -underBinder); intro x; refine Grow.cut (x := x) ?_ ?_ <;> [subst x; (clear_value x; intro _)]
    | (try lift_lets -underBinder); intro x; first | subst x | skip

theorem Grow.joinToken (h : Grow s₀ s) (port : Nat) (p : RingPkt) :
    Grow s₀ (State.joinToken s port p) := by
  delta State.joinToken
  repeat' first
    | with_reducible assumption
    | with_reducible apply Grow.raise
    | with_reducible refine Grow.setF ?_ _ _
    | with_reducible refine Grow.setFields_nil ?_
    | with_reducible refine Grow.setFields_cons ?_
    | with_reducible refine Grow.setF ?_ _ _
    | with_reducible apply Grow.urgOut
    | with_reducible refine Grow.ite ?_ ?_
    | (try lift_lets -underBinder); intro x; refine Grow.cut (x := x) ?_ ?_ <;> [subst x; (clear_value x; intro _)]
    | (try lift_lets -underBinder); intro x; first | subst x | skip
    | fail_if_no_progress with_reducible refine Grow.upd ?_

theorem Grow.execJoin (h : Grow s₀ s) (t : Nat) (port : Nat) (p : RingPkt) :
    ∃ s₁, execJoin t port p s = .next s₁ ∧ Grow s₀ s₁ := by
  refine ⟨_, rfl, ?_⟩
  repeat' first
    | with_reducible assumption
    | with_reducible apply Grow.at
    | with_reducible apply Grow.joinToken
    | with_reducible refine Grow.ite ?_ ?_
    | (try lift_lets -underBinder); intro x; refine Grow.cut (x := x) ?_ ?_ <;> [subst x; (clear_value x; intro _)]
    | (try lift_lets -underBinder); intro x; first | subst x | skip

theorem Grow.execJoinTimeout (h : Grow s₀ s) (t : Nat) :
    ∃ s₁, execJoinTimeout t s = .next s₁ ∧ Grow s₀ s₁ := by
  refine ⟨_, rfl, ?_⟩
  repeat' first
    | with_reducible assumption
    | with_reducible apply Grow.at
    | with_reducible refine Grow.ite ?_ ?_
    | (try lift_lets -underBinder); intro x; refine Grow.cut (x := x) ?_ ?_ <;> [subst x; (clear_value x; intro _)]
    | (try lift_lets -underBinder); intro x; first | subst x | skip
    | split
    | fail_if_no_progress dsimp only
    | fail_if_no_progress with_reducible refine Grow.upd ?_

theorem Grow.execFsRd (h : Grow s₀ s) (t : Nat) (port : Nat) (p : RingPkt) :
    ∃ s₁, execFsRd t port p s = .next s₁ ∧ Grow s₀ s₁ := by
  refine ⟨_, rfl, ?_⟩
  repeat' first
    | with_reducible assumption
    | with_reducible apply Grow.at
    | with_reducible apply Grow.countForm
    | with_reducible apply Grow.reqIn
    | with_reducible apply Grow.sendRsp
    | with_reducible refine Grow.ite ?_ ?_
    | (try lift_lets -underBinder); intro x; refine Grow.cut (x := x) ?_ ?_ <;> [subst x; (clear_value x; intro _)]
    | (try lift_lets -underBinder); intro x; first | subst x | skip

theorem Grow.execFsWr (h : Grow s₀ s) (t : Nat) (port : Nat) (p : RingPkt) :
    ∃ s₁, execFsWr t port p s = .next s₁ ∧ Grow s₀ s₁ := by
  refine ⟨_, rfl, ?_⟩
  repeat' first
    | with_reducible assumption
    | with_reducible apply Grow.at
    | with_reducible apply Grow.countForm
    | with_reducible apply Grow.putForm
    | with_reducible apply Grow.reqIn
    | with_reducible apply Grow.sendRsp
    | with_reducible refine Grow.ite ?_ ?_
    | (try lift_lets -underBinder); intro x; refine Grow.cut (x := x) ?_ ?_ <;> [subst x; (clear_value x; intro _)]
    | (try lift_lets -underBinder); intro x; first | subst x | skip

theorem Grow.execHostRd (h : Grow s₀ s) (t : Nat) (port : Nat) (p : RingPkt) :
    ∃ s₁, execHostRd t port p s = .next s₁ ∧ Grow s₀ s₁ := by
  refine ⟨_, rfl, ?_⟩
  repeat' first
    | with_reducible assumption
    | with_reducible apply Grow.at
    | with_reducible apply Grow.pumpMembers
    | with_reducible apply Grow.reqIn
    | with_reducible apply Grow.sendRsp
    | with_reducible refine Grow.ite ?_ ?_
    | (try lift_lets -underBinder); intro x; refine Grow.cut (x := x) ?_ ?_ <;> [subst x; (clear_value x; intro _)]
    | (try lift_lets -underBinder); intro x; first | subst x | skip
    | fail_if_no_progress with_reducible refine Grow.upd ?_

theorem Grow.execHostWr (h : Grow s₀ s) (t : Nat) (port : Nat) (p : RingPkt) :
    ∃ s₁, execHostWr t port p s = .next s₁ ∧ Grow s₀ s₁ := by
  refine ⟨_, rfl, ?_⟩
  repeat' first
    | with_reducible assumption
    | with_reducible apply Grow.at
    | with_reducible apply Grow.emit
    | with_reducible apply Grow.hostWrite
    | with_reducible apply Grow.reqIn
    | with_reducible apply Grow.sendRsp
    | with_reducible refine Grow.ite ?_ ?_
    | (try lift_lets -underBinder); intro x; refine Grow.cut (x := x) ?_ ?_ <;> [subst x; (clear_value x; intro _)]
    | (try lift_lets -underBinder); intro x; first | subst x | skip

theorem Grow.execDocReport (h : Grow s₀ s) (t : Nat) (port : Nat) (p : RingPkt) :
    ∃ s₁, execDocReport t port p s = .next s₁ ∧ Grow s₀ s₁ := by
  refine ⟨_, rfl, ?_⟩
  repeat' first
    | with_reducible assumption
    | with_reducible apply Grow.addReport
    | with_reducible apply Grow.at
    | with_reducible apply Grow.reqIn
    | with_reducible apply Grow.sendRsp
    | with_reducible refine Grow.ite ?_ ?_
    | (try lift_lets -underBinder); intro x; refine Grow.cut (x := x) ?_ ?_ <;> [subst x; (clear_value x; intro _)]
    | (try lift_lets -underBinder); intro x; first | subst x | skip

theorem Grow.execData (h : Grow s₀ s) (t : Nat) (port : Nat) (p : RingPkt) :
    ∃ s₁, execData t port p s = .next s₁ ∧ Grow s₀ s₁ := by
  refine ⟨_, rfl, ?_⟩
  repeat' first
    | with_reducible assumption
    | with_reducible apply Grow.at
    | with_reducible apply Grow.deliver
    | with_reducible apply Grow.emit
    | with_reducible apply Grow.gotDescriptors
    | with_reducible apply Grow.hostRead
    | with_reducible apply Grow.modExec
    | with_reducible apply Grow.rspIn
    | with_reducible refine Grow.ite ?_ ?_
    | (try lift_lets -underBinder); intro x; refine Grow.cut (x := x) ?_ ?_ <;> [subst x; (clear_value x; intro _)]
    | (try lift_lets -underBinder); intro x; first | subst x | skip
    | split
    | fail_if_no_progress with_reducible refine Grow.upd ?_

theorem Grow.execAck (h : Grow s₀ s) (t : Nat) (port : Nat) (p : RingPkt) :
    ∃ s₁, execAck t port p s = .next s₁ ∧ Grow s₀ s₁ := by
  refine ⟨_, rfl, ?_⟩
  repeat' first
    | with_reducible assumption
    | with_reducible apply Grow.at
    | with_reducible apply Grow.modExec
    | with_reducible apply Grow.rspIn
    | with_reducible refine Grow.ite ?_ ?_
    | (try lift_lets -underBinder); intro x; refine Grow.cut (x := x) ?_ ?_ <;> [subst x; (clear_value x; intro _)]
    | (try lift_lets -underBinder); intro x; first | subst x | skip
    | split
    | fail_if_no_progress with_reducible refine Grow.upd ?_

theorem Grow.execRingReqTimeout (h : Grow s₀ s) (t : Nat) (rtag : Nat) :
    ∃ s₁, execRingReqTimeout t rtag s = .next s₁ ∧ Grow s₀ s₁ := by
  refine ⟨_, rfl, ?_⟩
  repeat' first
    | with_reducible assumption
    | with_reducible apply Grow.at
    | with_reducible apply Grow.reqFail
    | with_reducible apply Grow.sendReq
    | with_reducible refine Grow.ite ?_ ?_
    | (try lift_lets -underBinder); intro x; refine Grow.cut (x := x) ?_ ?_ <;> [subst x; (clear_value x; intro _)]
    | (try lift_lets -underBinder); intro x; first | subst x | skip
    | split
    | fail_if_no_progress dsimp only
    | fail_if_no_progress with_reducible refine Grow.upd ?_

theorem Grow.execRingJoinTmo (h : Grow s₀ s) (t : Nat) (w : Nat) :
    ∃ s₁, execRingJoinTmo t w s = .next s₁ ∧ Grow s₀ s₁ := by
  refine ⟨_, rfl, ?_⟩
  repeat' first
    | with_reducible assumption
    | with_reducible apply Grow.at
    | with_reducible apply Grow.raise
    | with_reducible apply Grow.writeJoin
    | (try lift_lets -underBinder); intro x; refine Grow.cut (x := x) ?_ ?_ <;> [subst x; (clear_value x; intro _)]
    | (try lift_lets -underBinder); intro x; first | subst x | skip
    | split
    | fail_if_no_progress dsimp only
    | fail_if_no_progress with_reducible refine Grow.upd ?_

theorem Grow.execWrap (h : Grow s₀ s) (t : Nat) (port : Nat) (p : RingPkt) :
    ∃ s₁, execWrap t port p s = .next s₁ ∧ Grow s₀ s₁ := by
  refine ⟨_, rfl, ?_⟩
  repeat' first
    | with_reducible assumption
    | with_reducible apply Grow.at
    | with_reducible apply Grow.packetIn
    | with_reducible apply Grow.setBreak
    | with_reducible refine Grow.ite ?_ ?_
    | (try lift_lets -underBinder); intro x; refine Grow.cut (x := x) ?_ ?_ <;> [subst x; (clear_value x; intro _)]
    | (try lift_lets -underBinder); intro x; first | subst x | skip

theorem Grow.execRingFrameRetry (h : Grow s₀ s) (t : Nat) (port : Nat) (k : Nat) :
    ∃ s₁, execRingFrameRetry t port k s = .next s₁ ∧ Grow s₀ s₁ := by
  refine ⟨_, rfl, ?_⟩
  repeat' first
    | with_reducible assumption
    | with_reducible refine Grow.addF ?_ _ _
    | with_reducible apply Grow.at
    | with_reducible apply Grow.count
    | with_reducible apply Grow.modRingPort
    | with_reducible refine Grow.ite ?_ ?_
    | (try lift_lets -underBinder); intro x; refine Grow.cut (x := x) ?_ ?_ <;> [subst x; (clear_value x; intro _)]
    | (try lift_lets -underBinder); intro x; first | subst x | skip
    | fail_if_no_progress with_reducible refine Grow.upd ?_

theorem Grow.execRingLinkFailure (h : Grow s₀ s) (t : Nat) (port : Nat) :
    ∃ s₁, execRingLinkFailure t port s = .next s₁ ∧ Grow s₀ s₁ := by
  refine ⟨_, rfl, ?_⟩
  repeat' first
    | with_reducible assumption
    | with_reducible apply Grow.at
    | with_reducible apply Grow.modRingPort
    | with_reducible apply Grow.raise
    | with_reducible apply Grow.sendWrap
    | with_reducible apply Grow.setBreak
    | with_reducible refine Grow.setF ?_ _ _
    | with_reducible refine Grow.setFields_nil ?_
    | with_reducible refine Grow.setFields_cons ?_
    | with_reducible refine Grow.setF ?_ _ _
    | with_reducible refine Grow.ite ?_ ?_
    | (try lift_lets -underBinder); intro x; refine Grow.cut (x := x) ?_ ?_ <;> [subst x; (clear_value x; intro _)]
    | (try lift_lets -underBinder); intro x; first | subst x | skip

theorem Grow.rejoin (h : Grow s₀ s) (west : Nat) (east : Nat) :
    Grow s₀ (State.rejoin s west east) := by
  delta State.rejoin
  repeat' first
    | with_reducible assumption
    | with_reducible refine Grow.setF ?_ _ _
    | with_reducible refine Grow.setFields_nil ?_
    | with_reducible refine Grow.setFields_cons ?_
    | with_reducible refine Grow.setF ?_ _ _
    | with_reducible refine Grow.ite ?_ ?_

theorem Grow.execRingLinkTrained (h : Grow s₀ s) (t : Nat) (port : Nat) (far : Option Nat) :
    ∃ s₁, execRingLinkTrained t port far s = .next s₁ ∧ Grow s₀ s₁ := by
  refine ⟨_, rfl, ?_⟩
  repeat' first
    | with_reducible assumption
    | with_reducible apply Grow.at
    | with_reducible apply Grow.modRingPort
    | with_reducible apply Grow.raise
    | with_reducible apply Grow.rejoin
    | with_reducible refine Grow.setF ?_ _ _
    | with_reducible refine Grow.setFields_nil ?_
    | with_reducible refine Grow.setFields_cons ?_
    | with_reducible refine Grow.setF ?_ _ _
    | with_reducible refine Grow.ite ?_ ?_
    | (try lift_lets -underBinder); intro x; refine Grow.cut (x := x) ?_ ?_ <;> [subst x; (clear_value x; intro _)]
    | (try lift_lets -underBinder); intro x; first | subst x | skip
    | split
    | fail_if_no_progress dsimp only
    | fail_if_no_progress with_reducible refine Grow.upd ?_

theorem Grow.execRingLinkRestore (h : Grow s₀ s) (t : Nat) (port : Nat) :
    ∃ s₁, execRingLinkRestore t port s = .next s₁ ∧ Grow s₀ s₁ := by
  refine ⟨_, rfl, ?_⟩
  repeat' first
    | with_reducible assumption
    | with_reducible apply Grow.at
    | with_reducible apply Grow.drain
    | with_reducible apply Grow.emit
    | with_reducible apply Grow.modRingPort
    | with_reducible refine Grow.setF ?_ _ _
    | with_reducible refine Grow.ite ?_ ?_
    | (try lift_lets -underBinder); intro x; refine Grow.cut (x := x) ?_ ?_ <;> [subst x; (clear_value x; intro _)]
    | (try lift_lets -underBinder); intro x; first | subst x | skip
    | split
    | fail_if_no_progress dsimp only
    | fail_if_no_progress with_reducible refine Grow.upd ?_

theorem Grow.execDrainMarkerReturn (h : Grow s₀ s) (t : Nat) (port : Nat) :
    ∃ s₁, execDrainMarkerReturn t port s = .next s₁ ∧ Grow s₀ s₁ := by
  refine ⟨_, rfl, ?_⟩
  repeat' first
    | with_reducible assumption
    | with_reducible apply Grow.at
    | with_reducible apply Grow.modRingPort
    | with_reducible apply Grow.sendWrap
    | with_reducible apply Grow.setBreak
    | with_reducible refine Grow.setFields_nil ?_
    | with_reducible refine Grow.setFields_cons ?_
    | with_reducible refine Grow.setF ?_ _ _
    | with_reducible refine Grow.ite ?_ ?_
    | (try lift_lets -underBinder); intro x; refine Grow.cut (x := x) ?_ ?_ <;> [subst x; (clear_value x; intro _)]
    | (try lift_lets -underBinder); intro x; first | subst x | skip
    | fail_if_no_progress with_reducible refine Grow.upd ?_

/-! ### Machine/System.lean -/

theorem Grow.setAlarm (h : Grow s₀ s) (op : Bool) :
    Grow s₀ (State.setAlarm s op) := by
  delta State.setAlarm
  repeat' first
    | with_reducible assumption
    | with_reducible apply Grow.emit
    | with_reducible refine Grow.ite ?_ ?_
    | fail_if_no_progress with_reducible refine Grow.upd ?_

theorem Grow.execFirmwareCheckComplete (h : Grow s₀ s) (t : Nat) (a : Bool) (b : Bool) :
    ∃ s₁, execFirmwareCheckComplete t a b s = .next s₁ ∧ Grow s₀ s₁ := by
  refine ⟨_, rfl, ?_⟩
  repeat' first
    | with_reducible assumption
    | with_reducible apply Grow.at
    | with_reducible apply Grow.enterMidnight
    | with_reducible apply Grow.raise
    | with_reducible refine Grow.ite ?_ ?_
    | (try lift_lets -underBinder); intro x; refine Grow.cut (x := x) ?_ ?_ <;> [subst x; (clear_value x; intro _)]
    | (try lift_lets -underBinder); intro x; first | subst x | skip
    | fail_if_no_progress with_reducible refine Grow.upd ?_

theorem Grow.execBootSequenceComplete (h : Grow s₀ s) (t : Nat) :
    ∃ s₁, execBootSequenceComplete t s = .next s₁ ∧ Grow s₀ s₁ := by
  refine ⟨_, rfl, ?_⟩
  repeat' first
    | with_reducible assumption
    | with_reducible apply Grow.at
    | with_reducible apply Grow.enterNight
    | with_reducible refine Grow.setFb ?_ _ _
    | with_reducible refine Grow.ite ?_ ?_
    | (try lift_lets -underBinder); intro x; refine Grow.cut (x := x) ?_ ?_ <;> [subst x; (clear_value x; intro _)]
    | (try lift_lets -underBinder); intro x; first | subst x | skip
    | split
    | fail_if_no_progress dsimp only
    | fail_if_no_progress with_reducible refine Grow.upd ?_

theorem Grow.execLogicReserveReached (h : Grow s₀ s) (t : Nat) :
    ∃ s₁, execLogicReserveReached t s = .next s₁ ∧ Grow s₀ s₁ := by
  refine ⟨_, rfl, ?_⟩
  repeat' first
    | with_reducible assumption
    | with_reducible apply Grow.at
    | with_reducible apply Grow.logicOff
    | with_reducible apply Grow.mainsGone
    | with_reducible apply Grow.setAlarm
    | with_reducible refine Grow.ite ?_ ?_
    | (try lift_lets -underBinder); intro x; refine Grow.cut (x := x) ?_ ?_ <;> [subst x; (clear_value x; intro _)]
    | (try lift_lets -underBinder); intro x; first | subst x | skip
    | fail_if_no_progress with_reducible refine Grow.upd ?_

theorem Grow.writeSysCtrl (h : Grow s₀ s) (v : Word) (x : DawnTests) :
    Grow s₀ (State.writeSysCtrl s v x) := by
  delta State.writeSysCtrl
  repeat' first
    | with_reducible assumption
    | with_reducible apply Grow.abandon
    | with_reducible apply Grow.enterDawn
    | with_reducible apply Grow.nightRequest
    | with_reducible apply Grow.runRequest
    | with_reducible refine Grow.setFields_nil ?_
    | with_reducible refine Grow.setFields_cons ?_
    | with_reducible refine Grow.setF ?_ _ _
    | with_reducible apply Grow.stopRequest
    | with_reducible refine Grow.ite ?_ ?_
    | (try lift_lets -underBinder); intro x; refine Grow.cut (x := x) ?_ ?_ <;> [subst x; (clear_value x; intro _)]
    | (try lift_lets -underBinder); intro x; first | subst x | skip
    | fail_if_no_progress with_reducible refine Grow.upd ?_

theorem Grow.execSysCtrlDawn (h : Grow s₀ s) (t : Nat) (v : Word) (x : DawnTests) :
    ∃ s₁, execSysCtrlDawn t v x s = .next s₁ ∧ Grow s₀ s₁ := by
  refine ⟨_, rfl, ?_⟩
  repeat' first
    | with_reducible assumption
    | with_reducible apply Grow.at
    | with_reducible apply Grow.onWrite
    | with_reducible apply Grow.writeSysCtrl
    | with_reducible refine Grow.ite ?_ ?_
    | (try lift_lets -underBinder); intro x; refine Grow.cut (x := x) ?_ ?_ <;> [subst x; (clear_value x; intro _)]
    | (try lift_lets -underBinder); intro x; first | subst x | skip

theorem Grow.execSysCtrlNight (h : Grow s₀ s) (t : Nat) (v : Word) :
    ∃ s₁, execSysCtrlNight t v s = .next s₁ ∧ Grow s₀ s₁ := by
  refine ⟨_, rfl, ?_⟩
  repeat' first
    | with_reducible assumption
    | with_reducible apply Grow.at
    | with_reducible apply Grow.onWrite
    | with_reducible apply Grow.writeSysCtrl
    | with_reducible refine Grow.ite ?_ ?_
    | (try lift_lets -underBinder); intro x; refine Grow.cut (x := x) ?_ ?_ <;> [subst x; (clear_value x; intro _)]
    | (try lift_lets -underBinder); intro x; first | subst x | skip

theorem Grow.execRunRequest (h : Grow s₀ s) (t : Nat) (v : Word) :
    ∃ s₁, execRunRequest t v s = .next s₁ ∧ Grow s₀ s₁ := by
  refine ⟨_, rfl, ?_⟩
  repeat' first
    | with_reducible assumption
    | with_reducible apply Grow.at
    | with_reducible apply Grow.onWrite
    | with_reducible apply Grow.writeSysCtrl
    | with_reducible refine Grow.ite ?_ ?_
    | (try lift_lets -underBinder); intro x; refine Grow.cut (x := x) ?_ ?_ <;> [subst x; (clear_value x; intro _)]
    | (try lift_lets -underBinder); intro x; first | subst x | skip

theorem Grow.execStopRequest (h : Grow s₀ s) (t : Nat) (v : Word) :
    ∃ s₁, execStopRequest t v s = .next s₁ ∧ Grow s₀ s₁ := by
  refine ⟨_, rfl, ?_⟩
  repeat' first
    | with_reducible assumption
    | with_reducible apply Grow.at
    | with_reducible apply Grow.onWrite
    | with_reducible apply Grow.writeSysCtrl
    | with_reducible refine Grow.ite ?_ ?_
    | (try lift_lets -underBinder); intro x; refine Grow.cut (x := x) ?_ ?_ <;> [subst x; (clear_value x; intro _)]
    | (try lift_lets -underBinder); intro x; first | subst x | skip

theorem Grow.execSysCtrlAbandon (h : Grow s₀ s) (t : Nat) (v : Word) :
    ∃ s₁, execSysCtrlAbandon t v s = .next s₁ ∧ Grow s₀ s₁ := by
  refine ⟨_, rfl, ?_⟩
  repeat' first
    | with_reducible assumption
    | with_reducible apply Grow.at
    | with_reducible apply Grow.onWrite
    | with_reducible apply Grow.writeSysCtrl
    | with_reducible refine Grow.ite ?_ ?_
    | (try lift_lets -underBinder); intro x; refine Grow.cut (x := x) ?_ ?_ <;> [subst x; (clear_value x; intro _)]
    | (try lift_lets -underBinder); intro x; first | subst x | skip

theorem Grow.execDawnDone (h : Grow s₀ s) (t : Nat) :
    ∃ s₁, execDawnDone t s = .next s₁ ∧ Grow s₀ s₁ := by
  refine ⟨_, rfl, ?_⟩
  repeat' first
    | with_reducible assumption
    | with_reducible apply Grow.applyImage
    | with_reducible apply Grow.at
    | with_reducible apply Grow.calDawn
    | with_reducible apply Grow.dawnCounts
    | with_reducible apply Grow.enterMorning
    | with_reducible apply Grow.fixRanks
    | with_reducible refine Grow.setF ?_ _ _
    | with_reducible refine Grow.ite ?_ ?_
    | (try lift_lets -underBinder); intro x; refine Grow.cut (x := x) ?_ ?_ <;> [subst x; (clear_value x; intro _)]
    | (try lift_lets -underBinder); intro x; first | subst x | skip

theorem Grow.execStandaloneTimerExpiry (h : Grow s₀ s) (t : Nat) (x : DawnTests) :
    ∃ s₁, execStandaloneTimerExpiry t x s = .next s₁ ∧ Grow s₀ s₁ := by
  refine ⟨_, rfl, ?_⟩
  repeat' first
    | with_reducible assumption
    | with_reducible apply Grow.at
    | with_reducible apply Grow.enterDawn
    | with_reducible refine Grow.ite ?_ ?_
    | (try lift_lets -underBinder); intro x; refine Grow.cut (x := x) ?_ ?_ <;> [subst x; (clear_value x; intro _)]
    | (try lift_lets -underBinder); intro x; first | subst x | skip
    | split
    | fail_if_no_progress dsimp only
    | fail_if_no_progress with_reducible refine Grow.upd ?_

theorem Grow.execRunPendingActed (h : Grow s₀ s) (t : Nat) :
    ∃ s₁, execRunPendingActed t s = .next s₁ ∧ Grow s₀ s₁ := by
  refine ⟨_, rfl, ?_⟩
  repeat' first
    | with_reducible assumption
    | with_reducible apply Grow.at
    | with_reducible apply Grow.runPending

theorem Grow.execDuskComplete (h : Grow s₀ s) (t : Nat) :
    ∃ s₁, execDuskComplete t s = .next s₁ ∧ Grow s₀ s₁ := by
  refine ⟨_, rfl, ?_⟩
  repeat' first
    | with_reducible assumption
    | with_reducible apply Grow.at
    | with_reducible apply Grow.enterMorning
    | with_reducible apply Grow.enterNight
    | with_reducible refine Grow.setF ?_ _ _
    | with_reducible apply Grow.showCues
    | with_reducible apply Grow.usageWrite
    | with_reducible refine Grow.ite ?_ ?_
    | with_reducible refine Grow.foldl ?_ ?_
    | (try lift_lets -underBinder); intro x; refine Grow.cut (x := x) ?_ ?_ <;> [subst x; (clear_value x; intro _)]
    | (try lift_lets -underBinder); intro x; first | subst x | skip

theorem Grow.execSpitTimerExpiry (h : Grow s₀ s) (t : Nat) :
    ∃ s₁, execSpitTimerExpiry t s = .next s₁ ∧ Grow s₀ s₁ := by
  refine ⟨_, rfl, ?_⟩
  repeat' first
    | with_reducible assumption
    | with_reducible apply Grow.at
    | with_reducible refine Grow.ite ?_ ?_
    | (try lift_lets -underBinder); intro x; refine Grow.cut (x := x) ?_ ?_ <;> [subst x; (clear_value x; intro _)]
    | (try lift_lets -underBinder); intro x; first | subst x | skip
    | split
    | fail_if_no_progress dsimp only
    | fail_if_no_progress with_reducible refine Grow.upd ?_

theorem Grow.spitTile (h : Grow s₀ s) (k : Nat) (n : Nat) :
    Grow s₀ (State.spitTile s k n) := by
  delta State.spitTile
  repeat' first
    | with_reducible assumption
    | with_reducible refine Grow.addF ?_ _ _
    | with_reducible apply Grow.addUse
    | with_reducible apply Grow.count
    | with_reducible apply Grow.emit
    | with_reducible apply Grow.header
    | with_reducible refine Grow.header_eq ?_ (by assumption)
    | with_reducible refine Grow.incF ?_ _ _
    | with_reducible apply Grow.modFire
    | with_reducible apply Grow.modPort
    | with_reducible refine Grow.ite ?_ ?_
    | (try lift_lets -underBinder); intro x; refine Grow.cut (x := x) ?_ ?_ <;> [subst x; (clear_value x; intro _)]
    | (try lift_lets -underBinder); intro x; first | subst x | skip
    | split
    | fail_if_no_progress dsimp only
    | fail_if_no_progress with_reducible refine Grow.upd ?_

theorem Grow.execSpitCycle (h : Grow s₀ s) (t : Nat) :
    ∃ s₁, execSpitCycle t s = .next s₁ ∧ Grow s₀ s₁ := by
  refine ⟨_, rfl, ?_⟩
  repeat' first
    | with_reducible assumption
    | with_reducible apply Grow.at
    | with_reducible apply Grow.spitTile
    | with_reducible refine Grow.ite ?_ ?_
    | with_reducible refine Grow.foldl ?_ ?_
    | (try lift_lets -underBinder); intro x; refine Grow.cut (x := x) ?_ ?_ <;> [subst x; (clear_value x; intro _)]
    | (try lift_lets -underBinder); intro x; first | subst x | skip
    | split
    | fail_if_no_progress dsimp only
    | fail_if_no_progress with_reducible refine Grow.upd ?_

theorem Grow.dropPattern (h : Grow s₀ s) :
    Grow s₀ (State.dropPattern s) := by
  delta State.dropPattern
  repeat' first
    | with_reducible assumption
    | with_reducible apply Grow.modFire
    | with_reducible apply Grow.modWin
    | with_reducible refine Grow.setF ?_ _ _
    | with_reducible refine Grow.setFields_nil ?_
    | with_reducible refine Grow.setFields_cons ?_
    | with_reducible refine Grow.setF ?_ _ _
    | with_reducible apply Grow.showPlan
    | with_reducible refine Grow.foldl ?_ ?_
    | (try lift_lets -underBinder); intro x; refine Grow.cut (x := x) ?_ ?_ <;> [subst x; (clear_value x; intro _)]
    | (try lift_lets -underBinder); intro x; first | subst x | skip
    | fail_if_no_progress with_reducible refine Grow.upd ?_

theorem Grow.execPatternLineTimeout (h : Grow s₀ s) (t : Nat) :
    ∃ s₁, execPatternLineTimeout t s = .next s₁ ∧ Grow s₀ s₁ := by
  refine ⟨_, rfl, ?_⟩
  repeat' first
    | with_reducible assumption
    | with_reducible apply Grow.at
    | with_reducible apply Grow.dropPattern
    | with_reducible apply Grow.enterDusk
    | with_reducible apply Grow.raise
    | with_reducible refine Grow.ite ?_ ?_
    | (try lift_lets -underBinder); intro x; refine Grow.cut (x := x) ?_ ?_ <;> [subst x; (clear_value x; intro _)]
    | (try lift_lets -underBinder); intro x; first | subst x | skip
    | split
    | fail_if_no_progress dsimp only
    | fail_if_no_progress with_reducible refine Grow.upd ?_

theorem Grow.writeEnable (h : Grow s₀ s) (v : Word) :
    Grow s₀ (State.writeEnable s v) := by
  delta State.writeEnable
  repeat' first
    | with_reducible assumption
    | with_reducible apply Grow.startCheck
    | with_reducible refine Grow.ite ?_ ?_
    | (try lift_lets -underBinder); intro x; refine Grow.cut (x := x) ?_ ?_ <;> [subst x; (clear_value x; intro _)]
    | (try lift_lets -underBinder); intro x; first | subst x | skip

theorem Grow.execArm (h : Grow s₀ s) (t : Nat) (v : Word) :
    ∃ s₁, execArm t v s = .next s₁ ∧ Grow s₀ s₁ := by
  refine ⟨_, rfl, ?_⟩
  repeat' first
    | with_reducible assumption
    | with_reducible apply Grow.at
    | with_reducible apply Grow.onWrite
    | with_reducible apply Grow.writeEnable
    | with_reducible refine Grow.ite ?_ ?_
    | (try lift_lets -underBinder); intro x; refine Grow.cut (x := x) ?_ ?_ <;> [subst x; (clear_value x; intro _)]
    | (try lift_lets -underBinder); intro x; first | subst x | skip

theorem Grow.execLive (h : Grow s₀ s) (t : Nat) (v : Word) :
    ∃ s₁, execLive t v s = .next s₁ ∧ Grow s₀ s₁ := by
  refine ⟨_, rfl, ?_⟩
  repeat' first
    | with_reducible assumption
    | with_reducible apply Grow.at
    | with_reducible apply Grow.onWrite
    | with_reducible apply Grow.writeEnable
    | with_reducible refine Grow.ite ?_ ?_
    | (try lift_lets -underBinder); intro x; refine Grow.cut (x := x) ?_ ?_ <;> [subst x; (clear_value x; intro _)]
    | (try lift_lets -underBinder); intro x; first | subst x | skip

theorem Grow.execEnableCheckComplete (h : Grow s₀ s) (t : Nat) :
    ∃ s₁, execEnableCheckComplete t s = .next s₁ ∧ Grow s₀ s₁ := by
  refine ⟨_, rfl, ?_⟩
  repeat' first
    | with_reducible assumption
    | with_reducible apply Grow.applyImage
    | with_reducible apply Grow.at
    | with_reducible apply Grow.enterMorning
    | with_reducible apply Grow.postCheck
    | with_reducible refine Grow.ite ?_ ?_
    | (try lift_lets -underBinder); intro x; refine Grow.cut (x := x) ?_ ?_ <;> [subst x; (clear_value x; intro _)]
    | (try lift_lets -underBinder); intro x; first | subst x | skip
    | split
    | fail_if_no_progress dsimp only
    | fail_if_no_progress with_reducible refine Grow.upd ?_

theorem Grow.execLiveCheckComplete (h : Grow s₀ s) (t : Nat) :
    ∃ s₁, execLiveCheckComplete t s = .next s₁ ∧ Grow s₀ s₁ := by
  refine ⟨_, rfl, ?_⟩
  repeat' first
    | with_reducible assumption
    | with_reducible apply Grow.at
    | with_reducible apply Grow.liveSwap
    | with_reducible apply Grow.noteSwaps
    | with_reducible apply Grow.postCheck
    | with_reducible refine Grow.setF ?_ _ _
    | with_reducible refine Grow.ite ?_ ?_
    | with_reducible refine Grow.foldl ?_ ?_
    | (try lift_lets -underBinder); intro x; refine Grow.cut (x := x) ?_ ?_ <;> [subst x; (clear_value x; intro _)]
    | (try lift_lets -underBinder); intro x; first | subst x | skip
    | split
    | fail_if_no_progress dsimp only
    | fail_if_no_progress with_reducible refine Grow.upd ?_

theorem Grow.writeNvCtrl (h : Grow s₀ s) (v : Word) :
    Grow s₀ (State.writeNvCtrl s v) := by
  delta State.writeNvCtrl
  repeat' first
    | with_reducible assumption
    | with_reducible refine Grow.setF ?_ _ _
    | with_reducible apply Grow.startCheck
    | with_reducible refine Grow.ite ?_ ?_
    | (try lift_lets -underBinder); intro x; refine Grow.cut (x := x) ?_ ?_ <;> [subst x; (clear_value x; intro _)]
    | (try lift_lets -underBinder); intro x; first | subst x | skip

theorem Grow.execStore (h : Grow s₀ s) (t : Nat) (v : Word) :
    ∃ s₁, execStore t v s = .next s₁ ∧ Grow s₀ s₁ := by
  refine ⟨_, rfl, ?_⟩
  repeat' first
    | with_reducible assumption
    | with_reducible apply Grow.at
    | with_reducible apply Grow.onWrite
    | with_reducible apply Grow.writeNvCtrl
    | with_reducible refine Grow.ite ?_ ?_
    | (try lift_lets -underBinder); intro x; refine Grow.cut (x := x) ?_ ?_ <;> [subst x; (clear_value x; intro _)]
    | (try lift_lets -underBinder); intro x; first | subst x | skip

theorem Grow.execStoreComplete (h : Grow s₀ s) (t : Nat) :
    ∃ s₁, execStoreComplete t s = .next s₁ ∧ Grow s₀ s₁ := by
  refine ⟨_, rfl, ?_⟩
  repeat' first
    | with_reducible assumption
    | with_reducible apply Grow.at
    | with_reducible apply Grow.postCheck
    | with_reducible refine Grow.ite ?_ ?_
    | (try lift_lets -underBinder); intro x; refine Grow.cut (x := x) ?_ ?_ <;> [subst x; (clear_value x; intro _)]
    | (try lift_lets -underBinder); intro x; first | subst x | skip
    | split
    | fail_if_no_progress dsimp only
    | fail_if_no_progress with_reducible refine Grow.upd ?_

theorem Grow.writeKey (h : Grow s₀ s) (k : Nat) (v : Word) :
    Grow s₀ (State.writeKey s k v) := by
  delta State.writeKey
  repeat' first
    | with_reducible assumption
    | with_reducible apply Grow.raise
    | with_reducible refine Grow.ite ?_ ?_
    | (try lift_lets -underBinder); intro x; refine Grow.cut (x := x) ?_ ?_ <;> [subst x; (clear_value x; intro _)]
    | (try lift_lets -underBinder); intro x; first | subst x | skip
    | fail_if_no_progress with_reducible refine Grow.upd ?_

theorem Grow.execCfgKeyStore (h : Grow s₀ s) (t : Nat) (v : Word) :
    ∃ s₁, execCfgKeyStore t v s = .next s₁ ∧ Grow s₀ s₁ := by
  refine ⟨_, rfl, ?_⟩
  repeat' first
    | with_reducible assumption
    | with_reducible apply Grow.at
    | with_reducible apply Grow.onWrite
    | with_reducible apply Grow.writeKey
    | (try lift_lets -underBinder); intro x; refine Grow.cut (x := x) ?_ ?_ <;> [subst x; (clear_value x; intro _)]
    | (try lift_lets -underBinder); intro x; first | subst x | skip

theorem Grow.writeLock (h : Grow s₀ s) (v : Word) :
    Grow s₀ (State.writeLock s v) := by
  delta State.writeLock
  repeat' first
    | with_reducible assumption
    | with_reducible apply Grow.raise
    | with_reducible refine Grow.ite ?_ ?_
    | fail_if_no_progress with_reducible refine Grow.upd ?_

theorem Grow.execLayoutLock (h : Grow s₀ s) (t : Nat) (v : Word) :
    ∃ s₁, execLayoutLock t v s = .next s₁ ∧ Grow s₀ s₁ := by
  refine ⟨_, rfl, ?_⟩
  repeat' first
    | with_reducible assumption
    | with_reducible apply Grow.at
    | with_reducible apply Grow.onWrite
    | with_reducible apply Grow.writeLock
    | (try lift_lets -underBinder); intro x; refine Grow.cut (x := x) ?_ ?_ <;> [subst x; (clear_value x; intro _)]
    | (try lift_lets -underBinder); intro x; first | subst x | skip

theorem Grow.execStagingWrite (h : Grow s₀ s) (t : Nat) (off : Nat) (data : List Nat) :
    ∃ s₁, execStagingWrite t off data s = .next s₁ ∧ Grow s₀ s₁ := by
  refine ⟨_, rfl, ?_⟩
  repeat' first
    | with_reducible assumption
    | with_reducible apply Grow.at
    | with_reducible apply Grow.onWrite
    | with_reducible apply Grow.putStaging
    | with_reducible refine Grow.ite ?_ ?_
    | (try lift_lets -underBinder); intro x; refine Grow.cut (x := x) ?_ ?_ <;> [subst x; (clear_value x; intro _)]
    | (try lift_lets -underBinder); intro x; first | subst x | skip

theorem Grow.execCueSafeIntervalEnd (h : Grow s₀ s) (t : Nat) (n : Nat) :
    ∃ s₁, execCueSafeIntervalEnd t n s = .next s₁ ∧ Grow s₀ s₁ := by
  refine ⟨_, rfl, ?_⟩
  repeat' first
    | with_reducible assumption
    | with_reducible apply Grow.at
    | with_reducible apply Grow.driveCue
    | with_reducible refine Grow.ite ?_ ?_
    | (try lift_lets -underBinder); intro x; refine Grow.cut (x := x) ?_ ?_ <;> [subst x; (clear_value x; intro _)]
    | (try lift_lets -underBinder); intro x; first | subst x | skip
    | split
    | fail_if_no_progress dsimp only
    | fail_if_no_progress with_reducible refine Grow.upd ?_

/-! ### Machine/Position.lean -/

theorem Grow.patternEnd (h : Grow s₀ s) :
    Grow s₀ (State.patternEnd s) := by
  delta State.patternEnd
  repeat' first
    | with_reducible assumption
    | with_reducible apply Grow.enterDusk
    | with_reducible refine Grow.ite ?_ ?_

theorem Grow.takeChange (h : Grow s₀ s) (n : Nat) (c : Change) :
    Grow s₀ (State.takeChange s n c) := by
  delta State.takeChange
  repeat' first
    | with_reducible assumption
    | with_reducible apply Grow.count
    | with_reducible apply Grow.countStep
    | with_reducible apply Grow.illegal
    | with_reducible apply Grow.modPin
    | with_reducible apply Grow.patternEnd
    | with_reducible refine Grow.ite ?_ ?_
    | (try lift_lets -underBinder); intro x; refine Grow.cut (x := x) ?_ ?_ <;> [subst x; (clear_value x; intro _)]
    | (try lift_lets -underBinder); intro x; first | subst x | skip
    | split
    | fail_if_no_progress with_reducible refine Grow.upd ?_

theorem Grow.execCountStep (h : Grow s₀ s) (t : Nat) (n : Nat) (a : Bool) (b : Bool) (ph : List Nat) :
    ∃ s₁, execCountStep t n a b ph s = .next s₁ ∧ Grow s₀ s₁ := by
  refine ⟨_, rfl, ?_⟩
  repeat' first
    | with_reducible assumption
    | with_reducible apply Grow.at
    | with_reducible apply Grow.countEdge
    | with_reducible apply Grow.modPin
    | with_reducible apply Grow.takeChange
    | with_reducible refine Grow.ite ?_ ?_
    | (try lift_lets -underBinder); intro x; refine Grow.cut (x := x) ?_ ?_ <;> [subst x; (clear_value x; intro _)]
    | (try lift_lets -underBinder); intro x; first | subst x | skip
    | fail_if_no_progress with_reducible refine Grow.upd ?_

theorem Grow.execIndexLatch (h : Grow s₀ s) (t : Nat) (n : Nat) (z : Bool) :
    ∃ s₁, execIndexLatch t n z s = .next s₁ ∧ Grow s₀ s₁ := by
  refine ⟨_, rfl, ?_⟩
  repeat' first
    | with_reducible assumption
    | with_reducible apply Grow.at
    | with_reducible apply Grow.latch
    | with_reducible apply Grow.modPin
    | with_reducible refine Grow.ite ?_ ?_
    | (try lift_lets -underBinder); intro x; refine Grow.cut (x := x) ?_ ?_ <;> [subst x; (clear_value x; intro _)]
    | (try lift_lets -underBinder); intro x; first | subst x | skip
    | fail_if_no_progress with_reducible refine Grow.upd ?_

theorem Grow.execInterpolatedCrossing (h : Grow s₀ s) (t : Nat) (n : Nat) :
    ∃ s₁, execInterpolatedCrossing t n s = .next s₁ ∧ Grow s₀ s₁ := by
  refine ⟨_, rfl, ?_⟩
  repeat' first
    | with_reducible assumption
    | with_reducible apply Grow.at
    | with_reducible apply Grow.interpolate
    | with_reducible apply Grow.patternEnd
    | (try lift_lets -underBinder); intro x; refine Grow.cut (x := x) ?_ ?_ <;> [subst x; (clear_value x; intro _)]
    | (try lift_lets -underBinder); intro x; first | subst x | skip

theorem Grow.execStandstill (h : Grow s₀ s) (t : Nat) (n : Nat) :
    ∃ s₁, execStandstill t n s = .next s₁ ∧ Grow s₀ s₁ := by
  refine ⟨_, rfl, ?_⟩
  repeat' first
    | with_reducible assumption
    | with_reducible apply Grow.at
    | with_reducible apply Grow.modPin
    | with_reducible refine Grow.setF ?_ _ _
    | with_reducible apply Grow.settle
    | with_reducible refine Grow.ite ?_ ?_
    | (try lift_lets -underBinder); intro x; refine Grow.cut (x := x) ?_ ?_ <;> [subst x; (clear_value x; intro _)]
    | (try lift_lets -underBinder); intro x; first | subst x | skip
    | split
    | fail_if_no_progress dsimp only
    | fail_if_no_progress with_reducible refine Grow.upd ?_

theorem Grow.execPosPreset (h : Grow s₀ s) (t : Nat) (n : Nat) (v : Word) :
    ∃ s₁, execPosPreset t n v s = .next s₁ ∧ Grow s₀ s₁ := by
  refine ⟨_, rfl, ?_⟩
  repeat' first
    | with_reducible assumption
    | with_reducible apply Grow.at
    | with_reducible apply Grow.onWrite
    | with_reducible apply Grow.preset
    | (try lift_lets -underBinder); intro x; refine Grow.cut (x := x) ?_ ?_ <;> [subst x; (clear_value x; intro _)]
    | (try lift_lets -underBinder); intro x; first | subst x | skip

theorem Grow.execPosCmpWrite (h : Grow s₀ s) (t : Nat) (n : Nat) (v : Word) :
    ∃ s₁, execPosCmpWrite t n v s = .next s₁ ∧ Grow s₀ s₁ := by
  refine ⟨_, rfl, ?_⟩
  repeat' first
    | with_reducible assumption
    | with_reducible apply Grow.at
    | with_reducible apply Grow.onWrite
    | with_reducible apply Grow.writeCmp
    | (try lift_lets -underBinder); intro x; refine Grow.cut (x := x) ?_ ?_ <;> [subst x; (clear_value x; intro _)]
    | (try lift_lets -underBinder); intro x; first | subst x | skip

theorem Grow.execDecoderCrossCheck (h : Grow s₀ s) (t : Nat) (n : Nat) (same : Bool) :
    ∃ s₁, execDecoderCrossCheck t n same s = .next s₁ ∧ Grow s₀ s₁ := by
  refine ⟨_, rfl, ?_⟩
  repeat' first
    | with_reducible assumption
    | with_reducible apply Grow.at
    | with_reducible apply Grow.raise
    | with_reducible refine Grow.ite ?_ ?_
    | (try lift_lets -underBinder); intro x; refine Grow.cut (x := x) ?_ ?_ <;> [subst x; (clear_value x; intro _)]
    | (try lift_lets -underBinder); intro x; first | subst x | skip

theorem Grow.execLineref (h : Grow s₀ s) (t : Nat) (port : Nat) (p : RingPkt) :
    ∃ s₁, execLineref t port p s = .next s₁ ∧ Grow s₀ s₁ := by
  refine ⟨_, rfl, ?_⟩
  repeat' first
    | with_reducible assumption
    | with_reducible apply Grow.at
    | with_reducible apply Grow.packetIn
    | with_reducible apply Grow.refIn
    | with_reducible refine Grow.ite ?_ ?_
    | (try lift_lets -underBinder); intro x; refine Grow.cut (x := x) ?_ ?_ <;> [subst x; (clear_value x; intro _)]
    | (try lift_lets -underBinder); intro x; first | subst x | skip

theorem Grow.execLinerefRelease (h : Grow s₀ s) (t : Nat) (ch : Nat) :
    ∃ s₁, execLinerefRelease t ch s = .next s₁ ∧ Grow s₀ s₁ := by
  refine ⟨_, rfl, ?_⟩
  repeat' first
    | with_reducible assumption
    | with_reducible apply Grow.at
    | with_reducible apply Grow.modRef
    | with_reducible apply Grow.patternEnd
    | with_reducible apply Grow.releaseRef
    | with_reducible refine Grow.ite ?_ ?_
    | with_reducible refine Grow.foldl ?_ ?_
    | (try lift_lets -underBinder); intro x; refine Grow.cut (x := x) ?_ ?_ <;> [subst x; (clear_value x; intro _)]
    | (try lift_lets -underBinder); intro x; first | subst x | skip
    | split
    | fail_if_no_progress dsimp only
    | fail_if_no_progress with_reducible refine Grow.upd ?_

theorem Grow.execLinerefHeartbeat (h : Grow s₀ s) (t : Nat) (n : Nat) :
    ∃ s₁, execLinerefHeartbeat t n s = .next s₁ ∧ Grow s₀ s₁ := by
  refine ⟨_, rfl, ?_⟩
  repeat' first
    | with_reducible assumption
    | with_reducible apply Grow.at
    | with_reducible apply Grow.modPin
    | with_reducible apply Grow.sendRef
    | with_reducible refine Grow.ite ?_ ?_
    | (try lift_lets -underBinder); intro x; refine Grow.cut (x := x) ?_ ?_ <;> [subst x; (clear_value x; intro _)]
    | (try lift_lets -underBinder); intro x; first | subst x | skip
    | fail_if_no_progress with_reducible refine Grow.upd ?_

theorem Grow.execLinerefLost (h : Grow s₀ s) (t : Nat) (ch : Nat) :
    ∃ s₁, execLinerefLost t ch s = .next s₁ ∧ Grow s₀ s₁ := by
  refine ⟨_, rfl, ?_⟩
  repeat' first
    | with_reducible assumption
    | with_reducible apply Grow.at
    | with_reducible apply Grow.raise
    | with_reducible refine Grow.setBit ?_ _ _ _
    | with_reducible refine Grow.ite ?_ ?_
    | (try lift_lets -underBinder); intro x; refine Grow.cut (x := x) ?_ ?_ <;> [subst x; (clear_value x; intro _)]
    | (try lift_lets -underBinder); intro x; first | subst x | skip
    | split
    | fail_if_no_progress dsimp only
    | fail_if_no_progress with_reducible refine Grow.upd ?_

theorem Grow.execLinkDelayMeasurement (h : Grow s₀ s) (t : Nat) (port : Nat) (delay : Nat) :
    ∃ s₁, execLinkDelayMeasurement t port delay s = .next s₁ ∧ Grow s₀ s₁ := by
  refine ⟨_, rfl, ?_⟩
  repeat' first
    | with_reducible assumption
    | with_reducible apply Grow.at
    | with_reducible refine Grow.setF ?_ _ _
    | with_reducible refine Grow.ite ?_ ?_
    | (try lift_lets -underBinder); intro x; refine Grow.cut (x := x) ?_ ?_ <;> [subst x; (clear_value x; intro _)]
    | (try lift_lets -underBinder); intro x; first | subst x | skip

/-! ### Machine/Calibration.lean -/

theorem Grow.calResult (h : Grow s₀ s) (k : Nat) (v : List Int) (pair : State → List Int → State) (h_pair : ∀ s x0, Grow s₀ s → Grow s₀ (pair s x0)) :
    Grow s₀ (State.calResult s k v pair) := by
  delta State.calResult
  repeat' first
    | with_reducible assumption
    | with_reducible apply h_pair
    | with_reducible apply Grow.modCal
    | (try lift_lets -underBinder); intro x; refine Grow.cut (x := x) ?_ ?_ <;> [subst x; (clear_value x; intro _)]
    | (try lift_lets -underBinder); intro x; first | subst x | skip
    | split
    | fail_if_no_progress with_reducible refine Grow.upd ?_

theorem Grow.execCalMeasurementComplete (h : Grow s₀ s) (t : Nat) (target : Nat) (inst : Nat) (vals : List Int) :
    ∃ s₁, execCalMeasurementComplete t target inst vals s = .next s₁ ∧ Grow s₀ s₁ := by
  refine ⟨_, rfl, ?_⟩
  repeat' first
    | with_reducible assumption
    | with_reducible apply Grow.at
    | with_reducible apply Grow.calDawnPair
    | with_reducible apply Grow.calPair
    | with_reducible apply Grow.calResult
    | with_reducible refine Grow.ite ?_ ?_
    | (try lift_lets -underBinder); intro x; refine Grow.cut (x := x) ?_ ?_ <;> [subst x; (clear_value x; intro _)]
    | (try lift_lets -underBinder); intro x; first | subst x | skip

theorem Grow.execCalInstanceDue (h : Grow s₀ s) (t : Nat) (k : Nat) :
    ∃ s₁, execCalInstanceDue t k s = .next s₁ ∧ Grow s₀ s₁ := by
  refine ⟨_, rfl, ?_⟩
  repeat' first
    | with_reducible assumption
    | with_reducible apply Grow.at
    | with_reducible apply Grow.calDue
    | with_reducible refine Grow.ite ?_ ?_
    | (try lift_lets -underBinder); intro x; refine Grow.cut (x := x) ?_ ?_ <;> [subst x; (clear_value x; intro _)]
    | (try lift_lets -underBinder); intro x; first | subst x | skip
    | split
    | fail_if_no_progress dsimp only
    | fail_if_no_progress with_reducible refine Grow.upd ?_

theorem Grow.execCalOverdue (h : Grow s₀ s) (t : Nat) (k : Nat) :
    ∃ s₁, execCalOverdue t k s = .next s₁ ∧ Grow s₀ s₁ := by
  refine ⟨_, rfl, ?_⟩
  repeat' first
    | with_reducible assumption
    | with_reducible apply Grow.at
    | with_reducible apply Grow.modCal
    | with_reducible apply Grow.raise
    | with_reducible refine Grow.ite ?_ ?_
    | (try lift_lets -underBinder); intro x; refine Grow.cut (x := x) ?_ ?_ <;> [subst x; (clear_value x; intro _)]
    | (try lift_lets -underBinder); intro x; first | subst x | skip
    | fail_if_no_progress with_reducible refine Grow.upd ?_

theorem Grow.execCalSlewIdleStep (h : Grow s₀ s) (t : Nat) (k : Nat) :
    ∃ s₁, execCalSlewIdleStep t k s = .next s₁ ∧ Grow s₀ s₁ := by
  refine ⟨_, rfl, ?_⟩
  repeat' first
    | with_reducible assumption
    | with_reducible apply Grow.at
    | with_reducible apply Grow.modCal
    | with_reducible apply Grow.slewTo
    | with_reducible refine Grow.ite ?_ ?_
    | (try lift_lets -underBinder); intro x; refine Grow.cut (x := x) ?_ ?_ <;> [subst x; (clear_value x; intro _)]
    | (try lift_lets -underBinder); intro x; first | subst x | skip
    | split
    | fail_if_no_progress dsimp only
    | fail_if_no_progress with_reducible refine Grow.upd ?_

theorem Grow.writeCalCtrl (h : Grow s₀ s) (v : Word) :
    Grow s₀ (State.writeCalCtrl s v) := by
  delta State.writeCalCtrl
  repeat' first
    | with_reducible assumption
    | with_reducible apply Grow.calAllDue
    | with_reducible refine Grow.setF ?_ _ _
    | with_reducible apply Grow.showSlewing
    | with_reducible refine Grow.ite ?_ ?_
    | (try lift_lets -underBinder); intro x; refine Grow.cut (x := x) ?_ ?_ <;> [subst x; (clear_value x; intro _)]
    | (try lift_lets -underBinder); intro x; first | subst x | skip

theorem Grow.execRunNow (h : Grow s₀ s) (t : Nat) (v : Word) :
    ∃ s₁, execRunNow t v s = .next s₁ ∧ Grow s₀ s₁ := by
  refine ⟨_, rfl, ?_⟩
  repeat' first
    | with_reducible assumption
    | with_reducible apply Grow.at
    | with_reducible apply Grow.onWrite
    | with_reducible apply Grow.writeCalCtrl
    | with_reducible refine Grow.ite ?_ ?_
    | (try lift_lets -underBinder); intro x; refine Grow.cut (x := x) ?_ ?_ <;> [subst x; (clear_value x; intro _)]
    | (try lift_lets -underBinder); intro x; first | subst x | skip

theorem Grow.writeCalImport (h : Grow s₀ s) (v : Word) :
    Grow s₀ (State.writeCalImport s v) := by
  delta State.writeCalImport
  repeat' first
    | with_reducible assumption
    | with_reducible refine Grow.setF ?_ _ _
    | with_reducible refine Grow.setFields_nil ?_
    | with_reducible refine Grow.setFields_cons ?_
    | with_reducible refine Grow.setF ?_ _ _
    | with_reducible refine Grow.ite ?_ ?_
    | with_reducible refine Grow.foldl ?_ ?_
    | (try lift_lets -underBinder); intro x; refine Grow.cut (x := x) ?_ ?_ <;> [subst x; (clear_value x; intro _)]
    | (try lift_lets -underBinder); intro x; first | subst x | skip
    | split
    | fail_if_no_progress dsimp only
    | fail_if_no_progress with_reducible refine Grow.upd ?_

theorem Grow.execCalImport (h : Grow s₀ s) (t : Nat) (v : Word) :
    ∃ s₁, execCalImport t v s = .next s₁ ∧ Grow s₀ s₁ := by
  refine ⟨_, rfl, ?_⟩
  repeat' first
    | with_reducible assumption
    | with_reducible apply Grow.at
    | with_reducible apply Grow.onWrite
    | with_reducible apply Grow.writeCalImport
    | with_reducible refine Grow.ite ?_ ?_
    | (try lift_lets -underBinder); intro x; refine Grow.cut (x := x) ?_ ?_ <;> [subst x; (clear_value x; intro _)]
    | (try lift_lets -underBinder); intro x; first | subst x | skip

/-! ### Machine/FaultOps.lean -/

theorem Grow.showQ (h : Grow s₀ s) :
    Grow s₀ (State.showQ s) := by
  delta State.showQ
  repeat' first
    | with_reducible assumption
    | with_reducible refine Grow.setFields_nil ?_
    | with_reducible refine Grow.setFields_cons ?_
    | with_reducible refine Grow.setF ?_ _ _

theorem Grow.checkFlood (h : Grow s₀ s) :
    Grow s₀ (State.checkFlood s) := by
  delta State.checkFlood
  repeat' first
    | with_reducible assumption
    | with_reducible refine Grow.setF ?_ _ _
    | with_reducible refine Grow.ite ?_ ?_
    | fail_if_no_progress with_reducible refine Grow.upd ?_

theorem Grow.enqueue (h : Grow s₀ s) (r : LogRec) :
    Grow s₀ (State.enqueue s r) := by
  delta State.enqueue
  repeat' first
    | with_reducible assumption
    | with_reducible apply Grow.checkFlood
    | with_reducible apply Grow.showQ
    | fail_if_no_progress with_reducible refine Grow.upd ?_

theorem Grow.fltMsix (h : Grow s₀ s) :
    Grow s₀ (State.fltMsix s) := by
  delta State.fltMsix
  repeat' first
    | with_reducible assumption
    | with_reducible apply Grow.msix

theorem Grow.irqNow (h : Grow s₀ s) (m : FaultMsg) :
    Grow s₀ (State.irqNow s m) := by
  delta State.irqNow
  repeat' first
    | with_reducible assumption
    | with_reducible apply Grow.fltMsix
    | with_reducible refine Grow.ite ?_ ?_

theorem Grow.fltDrop (h : Grow s₀ s) (m : FaultMsg) :
    Grow s₀ (State.fltDrop s m) := by
  delta State.fltDrop
  repeat' first
    | with_reducible assumption
    | with_reducible refine Grow.addF ?_ _ _
    | with_reducible apply Grow.irqNow
    | with_reducible refine Grow.ite ?_ ?_
    | (try lift_lets -underBinder); intro x; refine Grow.cut (x := x) ?_ ?_ <;> [subst x; (clear_value x; intro _)]
    | (try lift_lets -underBinder); intro x; first | subst x | skip
    | fail_if_no_progress with_reducible refine Grow.upd ?_

theorem Grow.coalesce (h : Grow s₀ s) (m : FaultMsg) (k : Nat × Nat × Nat) :
    Grow s₀ (State.coalesce s m k) := by
  delta State.coalesce
  repeat' first
    | with_reducible assumption
    | with_reducible apply Grow.count
    | with_reducible apply Grow.irqNow
    | with_reducible refine Grow.ite ?_ ?_
    | (try lift_lets -underBinder); intro x; refine Grow.cut (x := x) ?_ ?_ <;> [subst x; (clear_value x; intro _)]
    | (try lift_lets -underBinder); intro x; first | subst x | skip
    | fail_if_no_progress with_reducible refine Grow.upd ?_

theorem Grow.openEntry (h : Grow s₀ s) (k : Nat × Nat × Nat) :
    Grow s₀ (State.openEntry s k) := by
  delta State.openEntry
  repeat' first
    | with_reducible assumption
    | with_reducible apply Grow.showQ
    | with_reducible refine Grow.ite ?_ ?_
    | (try lift_lets -underBinder); intro x; refine Grow.cut (x := x) ?_ ?_ <;> [subst x; (clear_value x; intro _)]
    | (try lift_lets -underBinder); intro x; first | subst x | skip
    | fail_if_no_progress with_reducible refine Grow.upd ?_

theorem Grow.takeMsg (h : Grow s₀ s) (m : FaultMsg) :
    Grow s₀ (State.takeMsg s m) := by
  delta State.takeMsg
  repeat' first
    | with_reducible assumption
    | with_reducible apply Grow.coalesce
    | with_reducible apply Grow.enqueue
    | with_reducible apply Grow.fltDrop
    | with_reducible apply Grow.irqNow
    | with_reducible apply Grow.openEntry
    | with_reducible refine Grow.ite ?_ ?_
    | (try lift_lets -underBinder); intro x; refine Grow.cut (x := x) ?_ ?_ <;> [subst x; (clear_value x; intro _)]
    | (try lift_lets -underBinder); intro x; first | subst x | skip

theorem Grow.sendStop (h : Grow s₀ s) (m : FaultMsg) :
    Grow s₀ (State.sendStop s m) := by
  delta State.sendStop
  repeat' first
    | with_reducible assumption
    | with_reducible apply Grow.sendUrg
    | with_reducible refine Grow.ite ?_ ?_

theorem Grow.forwardMsg (h : Grow s₀ s) (m : FaultMsg) :
    Grow s₀ (State.forwardMsg s m) := by
  delta State.forwardMsg
  repeat' first
    | with_reducible assumption
    | with_reducible refine Grow.addF ?_ _ _
    | with_reducible apply Grow.sendUrg
    | with_reducible refine Grow.ite ?_ ?_
    | fail_if_no_progress with_reducible refine Grow.upd ?_

theorem Grow.classEffect (h : Grow s₀ s) (m : FaultMsg) :
    Grow s₀ (State.classEffect s m) := by
  delta State.classEffect
  repeat' first
    | with_reducible assumption
    | with_reducible apply Grow.enterMidnight
    | with_reducible apply Grow.sendStop
    | with_reducible apply Grow.setAlarm
    | with_reducible refine Grow.setF ?_ _ _
    | with_reducible refine Grow.setFields_nil ?_
    | with_reducible refine Grow.setFields_cons ?_
    | with_reducible refine Grow.setF ?_ _ _
    | with_reducible apply Grow.showCues
    | with_reducible apply Grow.stopFault
    | with_reducible refine Grow.ite ?_ ?_
    | (try lift_lets -underBinder); intro x; refine Grow.cut (x := x) ?_ ?_ <;> [subst x; (clear_value x; intro _)]
    | (try lift_lets -underBinder); intro x; first | subst x | skip
    | fail_if_no_progress with_reducible refine Grow.upd ?_

theorem Grow.acceptMsg (h : Grow s₀ s) (m : FaultMsg) :
    Grow s₀ (State.acceptMsg s m) := by
  delta State.acceptMsg
  repeat' first
    | with_reducible assumption
    | with_reducible apply Grow.classEffect
    | with_reducible apply Grow.count
    | with_reducible apply Grow.forwardMsg
    | with_reducible apply Grow.takeMsg
    | with_reducible refine Grow.ite ?_ ?_
    | (try lift_lets -underBinder); intro x; refine Grow.cut (x := x) ?_ ?_ <;> [subst x; (clear_value x; intro _)]
    | (try lift_lets -underBinder); intro x; first | subst x | skip
    | fail_if_no_progress with_reducible refine Grow.upd ?_

theorem Grow.showLog (h : Grow s₀ s) :
    Grow s₀ (State.showLog s) := by
  delta State.showLog
  repeat' first
    | with_reducible assumption
    | with_reducible refine Grow.setFb ?_ _ _

theorem Grow.hostLog (h : Grow s₀ s) (r : LogRec) :
    Grow s₀ (State.hostLog s r) := by
  delta State.hostLog
  repeat' first
    | with_reducible assumption
    | with_reducible apply Grow.hostWrite
    | with_reducible refine Grow.setF ?_ _ _
    | with_reducible refine Grow.setFields_nil ?_
    | with_reducible refine Grow.setFields_cons ?_
    | with_reducible refine Grow.setF ?_ _ _
    | with_reducible apply Grow.showLog
    | with_reducible refine Grow.ite ?_ ?_
    | (try lift_lets -underBinder); intro x; refine Grow.cut (x := x) ?_ ?_ <;> [subst x; (clear_value x; intro _)]
    | (try lift_lets -underBinder); intro x; first | subst x | skip
    | fail_if_no_progress with_reducible refine Grow.upd ?_

theorem Grow.queueNv (h : Grow s₀ s) (r : LogRec) :
    Grow s₀ (State.queueNv s r) := by
  delta State.queueNv
  repeat' first
    | with_reducible assumption
    | with_reducible refine Grow.addF ?_ _ _
    | with_reducible refine Grow.ite ?_ ?_
    | fail_if_no_progress with_reducible refine Grow.upd ?_

theorem Grow.writeFltPend (h : Grow s₀ s) (v : Word) :
    Grow s₀ (State.writeFltPend s v) := by
  delta State.writeFltPend
  repeat' first
    | with_reducible assumption
    | with_reducible apply Grow.setAlarm
    | with_reducible refine Grow.setF ?_ _ _
    | with_reducible apply Grow.showCues
    | with_reducible refine Grow.ite ?_ ?_
    | (try lift_lets -underBinder); intro x; refine Grow.cut (x := x) ?_ ?_ <;> [subst x; (clear_value x; intro _)]
    | (try lift_lets -underBinder); intro x; first | subst x | skip

theorem Grow.writeFltCtrl (h : Grow s₀ s) (v : Word) :
    Grow s₀ (State.writeFltCtrl s v) := by
  delta State.writeFltCtrl
  repeat' first
    | with_reducible assumption
    | with_reducible apply Grow.raise
    | with_reducible refine Grow.setF ?_ _ _
    | with_reducible refine Grow.setFields_nil ?_
    | with_reducible refine Grow.setFields_cons ?_
    | with_reducible refine Grow.setF ?_ _ _
    | with_reducible refine Grow.setReg ?_ _ _
    | with_reducible apply Grow.showLog
    | with_reducible refine Grow.ite ?_ ?_
    | (try lift_lets -underBinder); intro x; refine Grow.cut (x := x) ?_ ?_ <;> [subst x; (clear_value x; intro _)]
    | (try lift_lets -underBinder); intro x; first | subst x | skip
    | fail_if_no_progress with_reducible refine Grow.upd ?_

theorem Grow.writeLogHead (h : Grow s₀ s) (v : Word) :
    Grow s₀ (State.writeLogHead s v) := by
  delta State.writeLogHead
  repeat' first
    | with_reducible assumption
    | with_reducible refine Grow.setReg ?_ _ _
    | with_reducible apply Grow.showLog
    | (try lift_lets -underBinder); intro x; refine Grow.cut (x := x) ?_ ?_ <;> [subst x; (clear_value x; intro _)]
    | (try lift_lets -underBinder); intro x; first | subst x | skip
    | fail_if_no_progress with_reducible refine Grow.upd ?_

theorem Grow.inject (h : Grow s₀ s) (w : Nat) :
    Grow s₀ (State.inject s w) := by
  delta State.inject
  repeat' first
    | with_reducible assumption
    | with_reducible apply Grow.raise
    | with_reducible apply Grow.raiseAs
    | with_reducible refine Grow.ite ?_ ?_
    | (try lift_lets -underBinder); intro x; refine Grow.cut (x := x) ?_ ?_ <;> [subst x; (clear_value x; intro _)]
    | (try lift_lets -underBinder); intro x; first | subst x | skip
    | split
    | fail_if_no_progress dsimp only
    | fail_if_no_progress with_reducible refine Grow.upd ?_

/-! ### Machine/Faults.lean -/

theorem Grow.execNvLogWrite (h : Grow s₀ s) (t : Nat) :
    ∃ s₁, execNvLogWrite t s = .next s₁ ∧ Grow s₀ s₁ := by
  refine ⟨_, rfl, ?_⟩
  repeat' first
    | with_reducible assumption
    | with_reducible refine Grow.addF ?_ _ _
    | with_reducible apply Grow.at
    | with_reducible apply Grow.raise
    | with_reducible refine Grow.setF ?_ _ _
    | with_reducible refine Grow.ite ?_ ?_
    | with_reducible refine Grow.foldl ?_ ?_
    | (try lift_lets -underBinder); intro x; refine Grow.cut (x := x) ?_ ?_ <;> [subst x; (clear_value x; intro _)]
    | (try lift_lets -underBinder); intro x; first | subst x | skip
    | fail_if_no_progress with_reducible refine Grow.upd ?_

theorem Grow.execFloodClear (h : Grow s₀ s) (t : Nat) :
    ∃ s₁, execFloodClear t s = .next s₁ ∧ Grow s₀ s₁ := by
  refine ⟨_, rfl, ?_⟩
  repeat' first
    | with_reducible assumption
    | with_reducible apply Grow.at
    | with_reducible apply Grow.checkFlood
    | with_reducible apply Grow.count
    | with_reducible refine Grow.setF ?_ _ _
    | with_reducible apply Grow.showQ
    | with_reducible refine Grow.ite ?_ ?_
    | (try lift_lets -underBinder); intro x; refine Grow.cut (x := x) ?_ ?_ <;> [subst x; (clear_value x; intro _)]
    | (try lift_lets -underBinder); intro x; first | subst x | skip
    | fail_if_no_progress with_reducible refine Grow.upd ?_

theorem Grow.execFltPendAck (h : Grow s₀ s) (t : Nat) (v : Word) :
    ∃ s₁, execFltPendAck t v s = .next s₁ ∧ Grow s₀ s₁ := by
  refine ⟨_, rfl, ?_⟩
  repeat' first
    | with_reducible assumption
    | with_reducible apply Grow.at
    | with_reducible apply Grow.onWrite
    | with_reducible apply Grow.writeFltPend
    | (try lift_lets -underBinder); intro x; refine Grow.cut (x := x) ?_ ?_ <;> [subst x; (clear_value x; intro _)]
    | (try lift_lets -underBinder); intro x; first | subst x | skip

theorem Grow.execRelayReset (h : Grow s₀ s) (t : Nat) (v : Word) :
    ∃ s₁, execRelayReset t v s = .next s₁ ∧ Grow s₀ s₁ := by
  refine ⟨_, rfl, ?_⟩
  repeat' first
    | with_reducible assumption
    | with_reducible apply Grow.at
    | with_reducible apply Grow.onWrite
    | with_reducible apply Grow.writeFltPend
    | with_reducible refine Grow.ite ?_ ?_
    | (try lift_lets -underBinder); intro x; refine Grow.cut (x := x) ?_ ?_ <;> [subst x; (clear_value x; intro _)]
    | (try lift_lets -underBinder); intro x; first | subst x | skip

theorem Grow.execLogEn (h : Grow s₀ s) (t : Nat) (v : Word) :
    ∃ s₁, execLogEn t v s = .next s₁ ∧ Grow s₀ s₁ := by
  refine ⟨_, rfl, ?_⟩
  repeat' first
    | with_reducible assumption
    | with_reducible apply Grow.at
    | with_reducible apply Grow.onWrite
    | with_reducible apply Grow.writeFltCtrl
    | with_reducible refine Grow.ite ?_ ?_
    | (try lift_lets -underBinder); intro x; refine Grow.cut (x := x) ?_ ?_ <;> [subst x; (clear_value x; intro _)]
    | (try lift_lets -underBinder); intro x; first | subst x | skip

theorem Grow.execFltLogHeadWrite (h : Grow s₀ s) (t : Nat) (v : Word) :
    ∃ s₁, execFltLogHeadWrite t v s = .next s₁ ∧ Grow s₀ s₁ := by
  refine ⟨_, rfl, ?_⟩
  repeat' first
    | with_reducible assumption
    | with_reducible apply Grow.at
    | with_reducible apply Grow.onWrite
    | with_reducible apply Grow.writeLogHead
    | (try lift_lets -underBinder); intro x; refine Grow.cut (x := x) ?_ ?_ <;> [subst x; (clear_value x; intro _)]
    | (try lift_lets -underBinder); intro x; first | subst x | skip

theorem Grow.writeInject (h : Grow s₀ s) (lo : Nat) (v : Word) :
    Grow s₀ (State.writeInject s lo v) := by
  delta State.writeInject
  repeat' first
    | with_reducible assumption
    | with_reducible apply Grow.inject
    | with_reducible refine Grow.setFields_nil ?_
    | with_reducible refine Grow.setFields_cons ?_
    | with_reducible refine Grow.setF ?_ _ _

theorem Grow.execFltInject (h : Grow s₀ s) (t : Nat) (v : Word) :
    ∃ s₁, execFltInject t v s = .next s₁ ∧ Grow s₀ s₁ := by
  refine ⟨_, rfl, ?_⟩
  repeat' first
    | with_reducible assumption
    | with_reducible apply Grow.at
    | with_reducible apply Grow.onWrite
    | with_reducible apply Grow.writeInject
    | (try lift_lets -underBinder); intro x; refine Grow.cut (x := x) ?_ ?_ <;> [subst x; (clear_value x; intro _)]
    | (try lift_lets -underBinder); intro x; first | subst x | skip

theorem Grow.execFault (h : Grow s₀ s) (t : Nat) (port : Nat) (p : RingPkt) :
    ∃ s₁, execFault t port p s = .next s₁ ∧ Grow s₀ s₁ := by
  refine ⟨_, rfl, ?_⟩
  repeat' first
    | with_reducible assumption
    | with_reducible apply Grow.at
    | with_reducible apply Grow.packetIn
    | with_reducible apply Grow.takeMsg
    | with_reducible refine Grow.ite ?_ ?_
    | (try lift_lets -underBinder); intro x; refine Grow.cut (x := x) ?_ ?_ <;> [subst x; (clear_value x; intro _)]
    | (try lift_lets -underBinder); intro x; first | subst x | skip
    | fail_if_no_progress with_reducible refine Grow.upd ?_

theorem Grow.execStop (h : Grow s₀ s) (t : Nat) (port : Nat) (p : RingPkt) :
    ∃ s₁, execStop t port p s = .next s₁ ∧ Grow s₀ s₁ := by
  refine ⟨_, rfl, ?_⟩
  repeat' first
    | with_reducible assumption
    | with_reducible apply Grow.at
    | with_reducible apply Grow.packetIn
    | with_reducible apply Grow.raise
    | with_reducible refine Grow.ite ?_ ?_
    | (try lift_lets -underBinder); intro x; refine Grow.cut (x := x) ?_ ?_ <;> [subst x; (clear_value x; intro _)]
    | (try lift_lets -underBinder); intro x; first | subst x | skip

/-! ### Machine/HouseOps.lean -/

theorem Grow.aliasErr (h : Grow s₀ s) :
    Grow s₀ (State.aliasErr s) := by
  delta State.aliasErr
  repeat' first
    | with_reducible assumption
    | with_reducible refine Grow.addF ?_ _ _

theorem Grow.aliasWrite (h : Grow s₀ s) (view : Nat) (o : Nat) (bs : List Nat) :
    Grow s₀ (State.aliasWrite s view o bs) := by
  delta State.aliasWrite
  repeat' first
    | with_reducible assumption
    | with_reducible apply Grow.aliasErr
    | with_reducible apply Grow.countForm
    | with_reducible apply Grow.putForm
    | with_reducible refine Grow.ite ?_ ?_
    | (try lift_lets -underBinder); intro x; refine Grow.cut (x := x) ?_ ?_ <;> [subst x; (clear_value x; intro _)]
    | (try lift_lets -underBinder); intro x; first | subst x | skip

theorem Grow.aliasRead (h : Grow s₀ s) (view : Nat) (o : Nat) (n : Nat) :
    Grow s₀ (State.aliasRead s view o n).1 := by
  delta State.aliasRead
  repeat' first
    | with_reducible assumption
    | with_reducible apply Grow.aliasErr
    | with_reducible apply Grow.countForm
    | with_reducible refine Grow.ite ?_ ?_
    | with_reducible refine Grow.ite_fst ?_ ?_
    | split

theorem Grow.aliasRead_eq {c} {v} (h : Grow s₀ s) {view : Nat} {o : Nat} {n : Nat} (e : State.aliasRead s view o n = (c, v)) :
    Grow s₀ c := by
  have k := Grow.aliasRead h view o n
  rwa [e] at k

theorem Grow.pmcLoad (h : Grow s₀ s) (n : Nat) (lo : Nat) (hi : Nat) :
    Grow s₀ (State.pmcLoad s n lo hi) := by
  delta State.pmcLoad
  repeat' first
    | with_reducible assumption
    | with_reducible refine Grow.setFields_nil ?_
    | with_reducible refine Grow.setFields_cons ?_
    | with_reducible refine Grow.setF ?_ _ _

theorem Grow.dump (h : Grow s₀ s) (req : Bool) :
    Grow s₀ (State.dump s req) := by
  delta State.dump
  repeat' first
    | with_reducible assumption
    | with_reducible refine Grow.addF ?_ _ _
    | with_reducible apply Grow.hostWrite
    | with_reducible refine Grow.setF ?_ _ _
    | with_reducible refine Grow.setFields_nil ?_
    | with_reducible refine Grow.setFields_cons ?_
    | with_reducible refine Grow.setF ?_ _ _
    | with_reducible refine Grow.ite ?_ ?_
    | (try lift_lets -underBinder); intro x; refine Grow.cut (x := x) ?_ ?_ <;> [subst x; (clear_value x; intro _)]
    | (try lift_lets -underBinder); intro x; first | subst x | skip
    | fail_if_no_progress with_reducible refine Grow.upd ?_

theorem Grow.writePmcCtrl (h : Grow s₀ s) (v : Word) :
    Grow s₀ (State.writePmcCtrl s v) := by
  delta State.writePmcCtrl
  repeat' first
    | with_reducible assumption
    | with_reducible apply Grow.dump
    | with_reducible refine Grow.setFields_nil ?_
    | with_reducible refine Grow.setFields_cons ?_
    | with_reducible refine Grow.setF ?_ _ _
    | with_reducible refine Grow.setReg ?_ _ _
    | with_reducible refine Grow.ite ?_ ?_
    | (try lift_lets -underBinder); intro x; refine Grow.cut (x := x) ?_ ?_ <;> [subst x; (clear_value x; intro _)]
    | (try lift_lets -underBinder); intro x; first | subst x | skip
    | fail_if_no_progress with_reducible refine Grow.upd ?_

theorem Grow.writeDumpHead (h : Grow s₀ s) (v : Word) :
    Grow s₀ (State.writeDumpHead s v) := by
  delta State.writeDumpHead
  repeat' first
    | with_reducible assumption
    | with_reducible refine Grow.setF ?_ _ _
    | (try lift_lets -underBinder); intro x; refine Grow.cut (x := x) ?_ ?_ <;> [subst x; (clear_value x; intro _)]
    | (try lift_lets -underBinder); intro x; first | subst x | skip
    | fail_if_no_progress with_reducible refine Grow.upd ?_

theorem Grow.writeTagCtrl (h : Grow s₀ s) (v : Word) :
    Grow s₀ (State.writeTagCtrl s v) := by
  delta State.writeTagCtrl
  repeat' first
    | with_reducible assumption
    | with_reducible refine Grow.setFields_nil ?_
    | with_reducible refine Grow.setFields_cons ?_
    | with_reducible refine Grow.setF ?_ _ _
    | with_reducible refine Grow.ite ?_ ?_
    | (try lift_lets -underBinder); intro x; refine Grow.cut (x := x) ?_ ?_ <;> [subst x; (clear_value x; intro _)]
    | (try lift_lets -underBinder); intro x; first | subst x | skip
    | fail_if_no_progress with_reducible refine Grow.upd ?_

theorem Grow.writeTagStat (h : Grow s₀ s) (v : Word) :
    Grow s₀ (State.writeTagStat s v) := by
  delta State.writeTagStat
  repeat' first
    | with_reducible assumption
    | with_reducible refine Grow.setFields_nil ?_
    | with_reducible refine Grow.setFields_cons ?_
    | with_reducible refine Grow.setF ?_ _ _
    | with_reducible refine Grow.ite ?_ ?_
    | (try lift_lets -underBinder); intro x; refine Grow.cut (x := x) ?_ ?_ <;> [subst x; (clear_value x; intro _)]
    | (try lift_lets -underBinder); intro x; first | subst x | skip

theorem Grow.clockSet (h : Grow s₀ s) (m : Nat) (v : Word) :
    Grow s₀ (State.clockSet s m v) := by
  delta State.clockSet
  repeat' first
    | with_reducible assumption
    | with_reducible apply Grow.raise
    | with_reducible refine Grow.setF ?_ _ _
    | with_reducible refine Grow.ite ?_ ?_
    | (try lift_lets -underBinder); intro x; refine Grow.cut (x := x) ?_ ?_ <;> [subst x; (clear_value x; intro _)]
    | (try lift_lets -underBinder); intro x; first | subst x | skip
    | fail_if_no_progress with_reducible refine Grow.upd ?_

theorem Grow.clockDate (h : Grow s₀ s) (m : Nat) (v : Word) :
    Grow s₀ (State.clockDate s m v) := by
  delta State.clockDate
  repeat' first
    | with_reducible assumption
    | fail_if_no_progress with_reducible refine Grow.upd ?_

/-! ### Machine/Housekeeping.lean -/

theorem Grow.execAliasSetWrite (h : Grow s₀ s) (t : Nat) (off : Nat) (data : List Nat) :
    ∃ s₁, execAliasSetWrite t off data s = .next s₁ ∧ Grow s₀ s₁ := by
  refine ⟨_, rfl, ?_⟩
  repeat' first
    | with_reducible assumption
    | with_reducible apply Grow.aliasWrite
    | with_reducible apply Grow.at
    | with_reducible apply Grow.onWrite
    | with_reducible refine Grow.ite ?_ ?_
    | (try lift_lets -underBinder); intro x; refine Grow.cut (x := x) ?_ ?_ <;> [subst x; (clear_value x; intro _)]
    | (try lift_lets -underBinder); intro x; first | subst x | skip

theorem Grow.execAliasClearWrite (h : Grow s₀ s) (t : Nat) (off : Nat) (data : List Nat) :
    ∃ s₁, execAliasClearWrite t off data s = .next s₁ ∧ Grow s₀ s₁ := by
  refine ⟨_, rfl, ?_⟩
  repeat' first
    | with_reducible assumption
    | with_reducible apply Grow.aliasWrite
    | with_reducible apply Grow.at
    | with_reducible apply Grow.onWrite
    | with_reducible refine Grow.ite ?_ ?_
    | (try lift_lets -underBinder); intro x; refine Grow.cut (x := x) ?_ ?_ <;> [subst x; (clear_value x; intro _)]
    | (try lift_lets -underBinder); intro x; first | subst x | skip

theorem Grow.execMemEccCorrected (h : Grow s₀ s) (t : Nat) (mem : Nat) (a : Nat) :
    ∃ s₁, execMemEccCorrected t mem a s = .next s₁ ∧ Grow s₀ s₁ := by
  refine ⟨_, rfl, ?_⟩
  repeat' first
    | with_reducible assumption
    | with_reducible refine Grow.addF ?_ _ _
    | with_reducible apply Grow.at
    | with_reducible apply Grow.raise
    | with_reducible refine Grow.ite ?_ ?_
    | (try lift_lets -underBinder); intro x; refine Grow.cut (x := x) ?_ ?_ <;> [subst x; (clear_value x; intro _)]
    | (try lift_lets -underBinder); intro x; first | subst x | skip
    | split
    | fail_if_no_progress dsimp only
    | fail_if_no_progress with_reducible refine Grow.upd ?_

theorem Grow.eccReader (h : Grow s₀ s) (a : Nat) (r : EccReader) : Grow s₀ (State.eccReader s a r) := by
  cases r <;> delta State.eccReader <;> dsimp only
  repeat' first
    | with_reducible assumption
    | with_reducible apply Grow.chunkError
    | with_reducible apply Grow.emit
    | with_reducible refine Grow.ite ?_ ?_
    | (try lift_lets -underBinder); intro x; first | subst x | skip
    | split
    | fail_if_no_progress with_reducible refine Grow.upd ?_

theorem Grow.execMemEccUncorrectable (h : Grow s₀ s) (t : Nat) (mem : Nat) (a : Nat) (r : EccReader) :
    ∃ s₁, execMemEccUncorrectable t mem a r s = .next s₁ ∧ Grow s₀ s₁ := by
  refine ⟨_, rfl, ?_⟩
  repeat' first
    | with_reducible assumption
    | with_reducible refine Grow.addF ?_ _ _
    | with_reducible apply Grow.at
    | with_reducible apply Grow.eccReader
    | with_reducible apply Grow.raise
    | with_reducible refine Grow.ite ?_ ?_
    | (try lift_lets -underBinder); intro x; refine Grow.cut (x := x) ?_ ?_ <;> [subst x; (clear_value x; intro _)]
    | (try lift_lets -underBinder); intro x; first | subst x | skip

theorem Grow.execPmcLoad (h : Grow s₀ s) (t : Nat) (n : Nat) (v : Word) :
    ∃ s₁, execPmcLoad t n v s = .next s₁ ∧ Grow s₀ s₁ := by
  refine ⟨_, rfl, ?_⟩
  repeat' first
    | with_reducible assumption
    | with_reducible apply Grow.at
    | with_reducible apply Grow.onWrite
    | with_reducible apply Grow.pmcLoad
    | with_reducible refine Grow.ite ?_ ?_
    | (try lift_lets -underBinder); intro x; refine Grow.cut (x := x) ?_ ?_ <;> [subst x; (clear_value x; intro _)]
    | (try lift_lets -underBinder); intro x; first | subst x | skip

theorem Grow.execPmcDump (h : Grow s₀ s) (t : Nat) :
    ∃ s₁, execPmcDump t s = .next s₁ ∧ Grow s₀ s₁ := by
  refine ⟨_, rfl, ?_⟩
  repeat' first
    | with_reducible assumption
    | with_reducible apply Grow.at
    | with_reducible apply Grow.dump
    | with_reducible refine Grow.ite ?_ ?_
    | (try lift_lets -underBinder); intro x; refine Grow.cut (x := x) ?_ ?_ <;> [subst x; (clear_value x; intro _)]
    | (try lift_lets -underBinder); intro x; first | subst x | skip
    | fail_if_no_progress with_reducible refine Grow.upd ?_

theorem Grow.execDumpNow (h : Grow s₀ s) (t : Nat) (v : Word) :
    ∃ s₁, execDumpNow t v s = .next s₁ ∧ Grow s₀ s₁ := by
  refine ⟨_, rfl, ?_⟩
  repeat' first
    | with_reducible assumption
    | with_reducible apply Grow.at
    | with_reducible apply Grow.onWrite
    | with_reducible apply Grow.writePmcCtrl
    | with_reducible refine Grow.ite ?_ ?_
    | (try lift_lets -underBinder); intro x; refine Grow.cut (x := x) ?_ ?_ <;> [subst x; (clear_value x; intro _)]
    | (try lift_lets -underBinder); intro x; first | subst x | skip

theorem Grow.execDumpEn (h : Grow s₀ s) (t : Nat) (v : Word) :
    ∃ s₁, execDumpEn t v s = .next s₁ ∧ Grow s₀ s₁ := by
  refine ⟨_, rfl, ?_⟩
  repeat' first
    | with_reducible assumption
    | with_reducible apply Grow.at
    | with_reducible apply Grow.onWrite
    | with_reducible apply Grow.writePmcCtrl
    | with_reducible refine Grow.ite ?_ ?_
    | (try lift_lets -underBinder); intro x; refine Grow.cut (x := x) ?_ ?_ <;> [subst x; (clear_value x; intro _)]
    | (try lift_lets -underBinder); intro x; first | subst x | skip

theorem Grow.execTagLoad (h : Grow s₀ s) (t : Nat) (v : Word) :
    ∃ s₁, execTagLoad t v s = .next s₁ ∧ Grow s₀ s₁ := by
  refine ⟨_, rfl, ?_⟩
  repeat' first
    | with_reducible assumption
    | with_reducible apply Grow.at
    | with_reducible apply Grow.onWrite
    | with_reducible apply Grow.writeTagCtrl
    | with_reducible refine Grow.ite ?_ ?_
    | (try lift_lets -underBinder); intro x; refine Grow.cut (x := x) ?_ ?_ <;> [subst x; (clear_value x; intro _)]
    | (try lift_lets -underBinder); intro x; first | subst x | skip

theorem Grow.execTagRecordComplete (h : Grow s₀ s) (t : Nat) (abandoned : Bool) :
    ∃ s₁, execTagRecordComplete t abandoned s = .next s₁ ∧ Grow s₀ s₁ := by
  refine ⟨_, rfl, ?_⟩
  repeat' first
    | with_reducible assumption
    | with_reducible apply Grow.at
    | with_reducible apply Grow.tagRecord
    | (try lift_lets -underBinder); intro x; refine Grow.cut (x := x) ?_ ?_ <;> [subst x; (clear_value x; intro _)]
    | (try lift_lets -underBinder); intro x; first | subst x | skip

theorem Grow.execTagPop (h : Grow s₀ s) (t : Nat) (v : Word) :
    ∃ s₁, execTagPop t v s = .next s₁ ∧ Grow s₀ s₁ := by
  refine ⟨_, rfl, ?_⟩
  repeat' first
    | with_reducible assumption
    | with_reducible apply Grow.at
    | with_reducible apply Grow.onWrite
    | with_reducible apply Grow.writeTagStat
    | (try lift_lets -underBinder); intro x; refine Grow.cut (x := x) ?_ ?_ <;> [subst x; (clear_value x; intro _)]
    | (try lift_lets -underBinder); intro x; first | subst x | skip

theorem Grow.execCalendarSecond (h : Grow s₀ s) (t : Nat) :
    ∃ s₁, execCalendarSecond t s = .next s₁ ∧ Grow s₀ s₁ := by
  refine ⟨_, rfl, ?_⟩
  repeat' first
    | with_reducible assumption
    | with_reducible apply Grow.at
    | with_reducible apply Grow.tick
    | (try lift_lets -underBinder); intro x; refine Grow.cut (x := x) ?_ ?_ <;> [subst x; (clear_value x; intro _)]
    | (try lift_lets -underBinder); intro x; first | subst x | skip
    | fail_if_no_progress with_reducible refine Grow.upd ?_

theorem Grow.execClockSet (h : Grow s₀ s) (t : Nat) (m : Master) (v : Word) :
    ∃ s₁, execClockSet t m v s = .next s₁ ∧ Grow s₀ s₁ := by
  refine ⟨_, rfl, ?_⟩
  repeat' first
    | with_reducible assumption
    | with_reducible apply Grow.at
    | with_reducible apply Grow.clockSet
    | with_reducible apply Grow.onWrite
    | (try lift_lets -underBinder); intro x; refine Grow.cut (x := x) ?_ ?_ <;> [subst x; (clear_value x; intro _)]
    | (try lift_lets -underBinder); intro x; first | subst x | skip

/-! ### Machine/Power.lean -/

theorem Grow.showGone (h : Grow s₀ s) :
    Grow s₀ (State.showGone s) := by
  delta State.showGone
  repeat' first
    | with_reducible assumption
    | with_reducible apply Grow.mainsGone
    | with_reducible refine Grow.ite ?_ ?_
    | fail_if_no_progress with_reducible refine Grow.upd ?_

theorem Grow.showLink (h : Grow s₀ s) (v : Nat) :
    Grow s₀ (State.showLink s v) := by
  delta State.showLink
  repeat' first
    | with_reducible assumption
    | with_reducible refine Grow.setFb ?_ _ _
    | with_reducible refine Grow.setFields_nil ?_
    | with_reducible refine Grow.setFields_cons ?_
    | with_reducible refine Grow.setF ?_ _ _
    | with_reducible refine Grow.ite ?_ ?_
    | with_reducible refine Grow.foldl ?_ ?_
    | (try lift_lets -underBinder); intro x; refine Grow.cut (x := x) ?_ ?_ <;> [subst x; (clear_value x; intro _)]
    | (try lift_lets -underBinder); intro x; first | subst x | skip

theorem Grow.setDc (h : Grow s₀ s) (on : Bool) :
    Grow s₀ (State.setDc s on) := by
  delta State.setDc
  repeat' first
    | with_reducible assumption
    | with_reducible refine Grow.setFb ?_ _ _
    | fail_if_no_progress with_reducible refine Grow.upd ?_

theorem Grow.storeIdle (h : Grow s₀ s) :
    Grow s₀ (State.storeIdle s) := by
  delta State.storeIdle
  repeat' first
    | with_reducible assumption
    | fail_if_no_progress with_reducible refine Grow.upd ?_

theorem Grow.enterRide (h : Grow s₀ s) :
    Grow s₀ (State.enterRide s) := by
  delta State.enterRide
  repeat' first
    | with_reducible assumption
    | with_reducible apply Grow.setSrc
    | with_reducible refine Grow.ite ?_ ?_
    | fail_if_no_progress with_reducible refine Grow.upd ?_

theorem Grow.execMainsLost (h : Grow s₀ s) (t : Nat) (reason : Nat) :
    ∃ s₁, execMainsLost t reason s = .next s₁ ∧ Grow s₀ s₁ := by
  refine ⟨_, rfl, ?_⟩
  repeat' first
    | with_reducible assumption
    | with_reducible refine Grow.addF ?_ _ _
    | with_reducible apply Grow.at
    | with_reducible apply Grow.mainsGone
    | with_reducible apply Grow.mainsLostState
    | with_reducible apply Grow.raise
    | with_reducible apply Grow.setDc
    | with_reducible apply Grow.setSrc
    | with_reducible apply Grow.showGone
    | with_reducible apply Grow.storeIdle
    | with_reducible refine Grow.ite ?_ ?_
    | (try lift_lets -underBinder); intro x; refine Grow.cut (x := x) ?_ ?_ <;> [subst x; (clear_value x; intro _)]
    | (try lift_lets -underBinder); intro x; first | subst x | skip
    | fail_if_no_progress with_reducible refine Grow.upd ?_

theorem Grow.execMainsPresent (h : Grow s₀ s) (t : Nat) :
    ∃ s₁, execMainsPresent t s = .next s₁ ∧ Grow s₀ s₁ := by
  refine ⟨_, rfl, ?_⟩
  repeat' first
    | with_reducible assumption
    | with_reducible apply Grow.at
    | with_reducible apply Grow.enterRide
    | with_reducible refine Grow.setF ?_ _ _
    | with_reducible apply Grow.showGone
    | with_reducible refine Grow.ite ?_ ?_
    | (try lift_lets -underBinder); intro x; refine Grow.cut (x := x) ?_ ?_ <;> [subst x; (clear_value x; intro _)]
    | (try lift_lets -underBinder); intro x; first | subst x | skip
    | fail_if_no_progress with_reducible refine Grow.upd ?_

theorem Grow.execMainsQualified (h : Grow s₀ s) (t : Nat) :
    ∃ s₁, execMainsQualified t s = .next s₁ ∧ Grow s₀ s₁ := by
  refine ⟨_, rfl, ?_⟩
  repeat' first
    | with_reducible assumption
    | with_reducible apply Grow.at
    | with_reducible refine Grow.setF ?_ _ _
    | with_reducible apply Grow.setSrc
    | with_reducible apply Grow.storeIdle
    | with_reducible refine Grow.ite ?_ ?_
    | (try lift_lets -underBinder); intro x; refine Grow.cut (x := x) ?_ ?_ <;> [subst x; (clear_value x; intro _)]
    | (try lift_lets -underBinder); intro x; first | subst x | skip
    | split
    | fail_if_no_progress dsimp only
    | fail_if_no_progress with_reducible refine Grow.upd ?_

theorem Grow.execDcRampComplete (h : Grow s₀ s) (t : Nat) :
    ∃ s₁, execDcRampComplete t s = .next s₁ ∧ Grow s₀ s₁ := by
  refine ⟨_, rfl, ?_⟩
  repeat' first
    | with_reducible assumption
    | with_reducible apply Grow.at
    | with_reducible apply Grow.enterRide
    | with_reducible refine Grow.ite ?_ ?_
    | (try lift_lets -underBinder); intro x; refine Grow.cut (x := x) ?_ ?_ <;> [subst x; (clear_value x; intro _)]
    | (try lift_lets -underBinder); intro x; first | subst x | skip

theorem Grow.execHandbackComplete (h : Grow s₀ s) (t : Nat) :
    ∃ s₁, execHandbackComplete t s = .next s₁ ∧ Grow s₀ s₁ := by
  refine ⟨_, rfl, ?_⟩
  repeat' first
    | with_reducible assumption
    | with_reducible refine Grow.addF ?_ _ _
    | with_reducible apply Grow.at
    | with_reducible apply Grow.enterRide
    | with_reducible apply Grow.handBack
    | with_reducible apply Grow.patternEnd
    | with_reducible apply Grow.raise
    | with_reducible apply Grow.setDc
    | with_reducible apply Grow.setSrc
    | with_reducible apply Grow.storeIdle
    | with_reducible refine Grow.ite ?_ ?_
    | (try lift_lets -underBinder); intro x; refine Grow.cut (x := x) ?_ ?_ <;> [subst x; (clear_value x; intro _)]
    | (try lift_lets -underBinder); intro x; first | subst x | skip
    | fail_if_no_progress with_reducible refine Grow.upd ?_

theorem Grow.execLinkOvervoltage (h : Grow s₀ s) (t : Nat) (v : Nat) :
    ∃ s₁, execLinkOvervoltage t v s = .next s₁ ∧ Grow s₀ s₁ := by
  refine ⟨_, rfl, ?_⟩
  repeat' first
    | with_reducible assumption
    | with_reducible apply Grow.at
    | with_reducible apply Grow.raise
    | with_reducible apply Grow.showLink
    | with_reducible refine Grow.ite ?_ ?_
    | (try lift_lets -underBinder); intro x; refine Grow.cut (x := x) ?_ ?_ <;> [subst x; (clear_value x; intro _)]
    | (try lift_lets -underBinder); intro x; first | subst x | skip

theorem Grow.execLinkHigh (h : Grow s₀ s) (t : Nat) (v : Nat) :
    ∃ s₁, execLinkHigh t v s = .next s₁ ∧ Grow s₀ s₁ := by
  refine ⟨_, rfl, ?_⟩
  repeat' first
    | with_reducible assumption
    | with_reducible apply Grow.at
    | with_reducible apply Grow.raise
    | with_reducible apply Grow.showLink
    | with_reducible refine Grow.ite ?_ ?_
    | (try lift_lets -underBinder); intro x; refine Grow.cut (x := x) ?_ ?_ <;> [subst x; (clear_value x; intro _)]
    | (try lift_lets -underBinder); intro x; first | subst x | skip

theorem Grow.execLinkPfcStop (h : Grow s₀ s) (t : Nat) (v : Nat) :
    ∃ s₁, execLinkPfcStop t v s = .next s₁ ∧ Grow s₀ s₁ := by
  refine ⟨_, rfl, ?_⟩
  repeat' first
    | with_reducible assumption
    | with_reducible apply Grow.at
    | with_reducible apply Grow.showLink
    | with_reducible apply Grow.storeIdle
    | with_reducible refine Grow.ite ?_ ?_
    | (try lift_lets -underBinder); intro x; refine Grow.cut (x := x) ?_ ?_ <;> [subst x; (clear_value x; intro _)]
    | (try lift_lets -underBinder); intro x; first | subst x | skip
    | fail_if_no_progress with_reducible refine Grow.upd ?_

theorem Grow.execLinkStoreDischarge (h : Grow s₀ s) (t : Nat) (v : Nat) :
    ∃ s₁, execLinkStoreDischarge t v s = .next s₁ ∧ Grow s₀ s₁ := by
  refine ⟨_, rfl, ?_⟩
  repeat' first
    | with_reducible assumption
    | with_reducible apply Grow.at
    | with_reducible apply Grow.showLink
    | with_reducible apply Grow.storeIdle
    | with_reducible refine Grow.ite ?_ ?_
    | (try lift_lets -underBinder); intro x; refine Grow.cut (x := x) ?_ ?_ <;> [subst x; (clear_value x; intro _)]
    | (try lift_lets -underBinder); intro x; first | subst x | skip
    | fail_if_no_progress with_reducible refine Grow.upd ?_

theorem Grow.execLinkUndervoltage (h : Grow s₀ s) (t : Nat) (v : Nat) :
    ∃ s₁, execLinkUndervoltage t v s = .next s₁ ∧ Grow s₀ s₁ := by
  refine ⟨_, rfl, ?_⟩
  repeat' first
    | with_reducible assumption
    | with_reducible apply Grow.at
    | with_reducible apply Grow.axisOff
    | with_reducible apply Grow.railsOff
    | with_reducible apply Grow.raise
    | with_reducible apply Grow.showLink
    | with_reducible refine Grow.ite ?_ ?_
    | with_reducible refine Grow.foldl ?_ ?_
    | (try lift_lets -underBinder); intro x; refine Grow.cut (x := x) ?_ ?_ <;> [subst x; (clear_value x; intro _)]
    | (try lift_lets -underBinder); intro x; first | subst x | skip
    | fail_if_no_progress with_reducible refine Grow.upd ?_

theorem Grow.showMeas (h : Grow s₀ s) (m : BrokerMeas) :
    Grow s₀ (State.showMeas s m) := by
  delta State.showMeas
  repeat' first
    | with_reducible assumption
    | with_reducible refine Grow.setFb ?_ _ _
    | with_reducible refine Grow.setFields_nil ?_
    | with_reducible refine Grow.setFields_cons ?_
    | with_reducible refine Grow.setF ?_ _ _
    | with_reducible refine Grow.setFs ?_ _ _
    | with_reducible apply Grow.showLink
    | with_reducible apply Grow.startRails
    | with_reducible refine Grow.ite ?_ ?_
    | with_reducible refine Grow.foldl ?_ ?_
    | (try lift_lets -underBinder); intro x; refine Grow.cut (x := x) ?_ ?_ <;> [subst x; (clear_value x; intro _)]
    | (try lift_lets -underBinder); intro x; first | subst x | skip
    | fail_if_no_progress with_reducible refine Grow.upd ?_

theorem Grow.groupMembers (h : Grow s₀ s) :
    Grow s₀ (State.groupMembers s) := by
  delta State.groupMembers
  repeat' first
    | with_reducible assumption
    | with_reducible refine Grow.setF ?_ _ _
    | with_reducible refine Grow.ite ?_ ?_
    | (try lift_lets -underBinder); intro x; refine Grow.cut (x := x) ?_ ?_ <;> [subst x; (clear_value x; intro _)]
    | (try lift_lets -underBinder); intro x; first | subst x | skip
    | fail_if_no_progress with_reducible refine Grow.upd ?_

theorem Grow.setLimits (h : Grow s₀ s) :
    Grow s₀ (State.setLimits s) := by
  delta State.setLimits
  repeat' first
    | with_reducible assumption
    | with_reducible refine Grow.setFields_nil ?_
    | with_reducible refine Grow.setFields_cons ?_
    | with_reducible refine Grow.setF ?_ _ _
    | with_reducible refine Grow.ite ?_ ?_
    | (try lift_lets -underBinder); intro x; refine Grow.cut (x := x) ?_ ?_ <;> [subst x; (clear_value x; intro _)]
    | (try lift_lets -underBinder); intro x; first | subst x | skip
    | fail_if_no_progress with_reducible refine Grow.upd ?_

theorem Grow.setAllowance (h : Grow s₀ s) :
    Grow s₀ (State.setAllowance s) := by
  delta State.setAllowance
  repeat' first
    | with_reducible assumption
    | with_reducible refine Grow.setF ?_ _ _
    | with_reducible refine Grow.ite ?_ ?_
    | with_reducible refine Grow.foldl ?_ ?_
    | (try lift_lets -underBinder); intro x; refine Grow.cut (x := x) ?_ ?_ <;> [subst x; (clear_value x; intro _)]
    | (try lift_lets -underBinder); intro x; first | subst x | skip

theorem Grow.reserveChecks (h : Grow s₀ s) (was : Nat) :
    Grow s₀ (State.reserveChecks s was) := by
  delta State.reserveChecks
  repeat' first
    | with_reducible assumption
    | with_reducible apply Grow.enterDusk
    | with_reducible apply Grow.raise
    | with_reducible apply Grow.stopDocs
    | with_reducible refine Grow.ite ?_ ?_
    | (try lift_lets -underBinder); intro x; refine Grow.cut (x := x) ?_ ?_ <;> [subst x; (clear_value x; intro _)]
    | (try lift_lets -underBinder); intro x; first | subst x | skip
    | fail_if_no_progress with_reducible refine Grow.upd ?_

theorem Grow.execBrokerUpdate (h : Grow s₀ s) (t : Nat) (m : BrokerMeas) :
    ∃ s₁, execBrokerUpdate t m s = .next s₁ ∧ Grow s₀ s₁ := by
  refine ⟨_, rfl, ?_⟩
  repeat' first
    | with_reducible assumption
    | with_reducible apply Grow.admitDoc
    | with_reducible apply Grow.at
    | with_reducible apply Grow.groupMembers
    | with_reducible apply Grow.reserveChecks
    | with_reducible apply Grow.setAcct
    | with_reducible apply Grow.setAllowance
    | with_reducible apply Grow.setLimits
    | with_reducible apply Grow.showMeas
    | with_reducible apply Grow.storeIdle
    | with_reducible apply Grow.updHoldup
    | with_reducible refine Grow.ite ?_ ?_
    | with_reducible refine Grow.foldl ?_ ?_
    | (try lift_lets -underBinder); intro x; refine Grow.cut (x := x) ?_ ?_ <;> [subst x; (clear_value x; intro _)]
    | (try lift_lets -underBinder); intro x; first | subst x | skip

theorem Grow.execRailLimit (h : Grow s₀ s) (t : Nat) (q : Nat) :
    ∃ s₁, execRailLimit t q s = .next s₁ ∧ Grow s₀ s₁ := by
  refine ⟨_, rfl, ?_⟩
  repeat' first
    | with_reducible assumption
    | with_reducible apply Grow.at
    | with_reducible apply Grow.raise
    | with_reducible refine Grow.setF ?_ _ _
    | with_reducible refine Grow.ite ?_ ?_
    | (try lift_lets -underBinder); intro x; refine Grow.cut (x := x) ?_ ?_ <;> [subst x; (clear_value x; intro _)]
    | (try lift_lets -underBinder); intro x; first | subst x | skip

theorem Grow.execRailUndervoltage (h : Grow s₀ s) (t : Nat) (q : Nat) :
    ∃ s₁, execRailUndervoltage t q s = .next s₁ ∧ Grow s₀ s₁ := by
  refine ⟨_, rfl, ?_⟩
  repeat' first
    | with_reducible assumption
    | with_reducible apply Grow.at
    | with_reducible apply Grow.raise
    | with_reducible refine Grow.setF ?_ _ _
    | with_reducible refine Grow.ite ?_ ?_
    | (try lift_lets -underBinder); intro x; refine Grow.cut (x := x) ?_ ?_ <;> [subst x; (clear_value x; intro _)]
    | (try lift_lets -underBinder); intro x; first | subst x | skip

theorem Grow.execRailShort (h : Grow s₀ s) (t : Nat) (q : Nat) :
    ∃ s₁, execRailShort t q s = .next s₁ ∧ Grow s₀ s₁ := by
  refine ⟨_, rfl, ?_⟩
  repeat' first
    | with_reducible assumption
    | with_reducible apply Grow.at
    | with_reducible apply Grow.failTile
    | with_reducible apply Grow.modRail
    | with_reducible apply Grow.raise
    | with_reducible refine Grow.setFields_nil ?_
    | with_reducible refine Grow.setFields_cons ?_
    | with_reducible refine Grow.setF ?_ _ _
    | with_reducible refine Grow.ite ?_ ?_
    | with_reducible refine Grow.foldl ?_ ?_
    | (try lift_lets -underBinder); intro x; refine Grow.cut (x := x) ?_ ?_ <;> [subst x; (clear_value x; intro _)]
    | (try lift_lets -underBinder); intro x; first | subst x | skip

theorem Grow.execRailRampComplete (h : Grow s₀ s) (t : Nat) (q : Nat) :
    ∃ s₁, execRailRampComplete t q s = .next s₁ ∧ Grow s₀ s₁ := by
  refine ⟨_, rfl, ?_⟩
  repeat' first
    | with_reducible assumption
    | with_reducible apply Grow.at
    | with_reducible apply Grow.modRail
    | with_reducible refine Grow.setF ?_ _ _
    | with_reducible refine Grow.setFields_nil ?_
    | with_reducible refine Grow.setFields_cons ?_
    | with_reducible refine Grow.setF ?_ _ _
    | with_reducible refine Grow.ite ?_ ?_
    | (try lift_lets -underBinder); intro x; refine Grow.cut (x := x) ?_ ?_ <;> [subst x; (clear_value x; intro _)]
    | (try lift_lets -underBinder); intro x; first | subst x | skip
    | fail_if_no_progress with_reducible refine Grow.upd ?_

theorem Grow.execLogicOverdraw (h : Grow s₀ s) (t : Nat) (w : Nat) :
    ∃ s₁, execLogicOverdraw t w s = .next s₁ ∧ Grow s₀ s₁ := by
  refine ⟨_, rfl, ?_⟩
  repeat' first
    | with_reducible assumption
    | with_reducible apply Grow.at
    | with_reducible apply Grow.raise
    | with_reducible refine Grow.ite ?_ ?_
    | (try lift_lets -underBinder); intro x; refine Grow.cut (x := x) ?_ ?_ <;> [subst x; (clear_value x; intro _)]
    | (try lift_lets -underBinder); intro x; first | subst x | skip

theorem Grow.execStoreOvervoltage (h : Grow s₀ s) (t : Nat) (v : Nat) :
    ∃ s₁, execStoreOvervoltage t v s = .next s₁ ∧ Grow s₀ s₁ := by
  refine ⟨_, rfl, ?_⟩
  repeat' first
    | with_reducible assumption
    | with_reducible apply Grow.at
    | with_reducible apply Grow.raise
    | with_reducible refine Grow.setF ?_ _ _
    | with_reducible refine Grow.ite ?_ ?_
    | (try lift_lets -underBinder); intro x; refine Grow.cut (x := x) ?_ ?_ <;> [subst x; (clear_value x; intro _)]
    | (try lift_lets -underBinder); intro x; first | subst x | skip

theorem Grow.execDcInputQualified (h : Grow s₀ s) (t : Nat) :
    ∃ s₁, execDcInputQualified t s = .next s₁ ∧ Grow s₀ s₁ := by
  refine ⟨_, rfl, ?_⟩
  repeat' first
    | with_reducible assumption
    | with_reducible apply Grow.at
    | with_reducible apply Grow.setDc
    | with_reducible refine Grow.setFields_nil ?_
    | with_reducible refine Grow.setFields_cons ?_
    | with_reducible refine Grow.setF ?_ _ _
    | with_reducible apply Grow.showGone
    | with_reducible refine Grow.ite ?_ ?_
    | (try lift_lets -underBinder); intro x; refine Grow.cut (x := x) ?_ ?_ <;> [subst x; (clear_value x; intro _)]
    | (try lift_lets -underBinder); intro x; first | subst x | skip

theorem Grow.execDcInputRange (h : Grow s₀ s) (t : Nat) (v : Int) :
    ∃ s₁, execDcInputRange t v s = .next s₁ ∧ Grow s₀ s₁ := by
  refine ⟨_, rfl, ?_⟩
  repeat' first
    | with_reducible assumption
    | with_reducible apply Grow.at
    | with_reducible apply Grow.raise
    | with_reducible apply Grow.setDc
    | with_reducible refine Grow.setFields_nil ?_
    | with_reducible refine Grow.setFields_cons ?_
    | with_reducible refine Grow.setF ?_ _ _
    | with_reducible refine Grow.setFs ?_ _ _
    | with_reducible apply Grow.showGone
    | with_reducible refine Grow.ite ?_ ?_
    | (try lift_lets -underBinder); intro x; refine Grow.cut (x := x) ?_ ?_ <;> [subst x; (clear_value x; intro _)]
    | (try lift_lets -underBinder); intro x; first | subst x | skip

theorem Grow.execDcInputReversed (h : Grow s₀ s) (t : Nat) (v : Int) :
    ∃ s₁, execDcInputReversed t v s = .next s₁ ∧ Grow s₀ s₁ := by
  refine ⟨_, rfl, ?_⟩
  repeat' first
    | with_reducible assumption
    | with_reducible apply Grow.at
    | with_reducible apply Grow.raise
    | with_reducible apply Grow.setDc
    | with_reducible refine Grow.setFields_nil ?_
    | with_reducible refine Grow.setFields_cons ?_
    | with_reducible refine Grow.setF ?_ _ _
    | with_reducible refine Grow.setFs ?_ _ _
    | with_reducible apply Grow.showGone
    | with_reducible refine Grow.ite ?_ ?_
    | (try lift_lets -underBinder); intro x; refine Grow.cut (x := x) ?_ ?_ <;> [subst x; (clear_value x; intro _)]
    | (try lift_lets -underBinder); intro x; first | subst x | skip

theorem Grow.execBudgetSend (h : Grow s₀ s) (t : Nat) :
    ∃ s₁, execBudgetSend t s = .next s₁ ∧ Grow s₀ s₁ := by
  refine ⟨_, rfl, ?_⟩
  repeat' first
    | with_reducible assumption
    | with_reducible apply Grow.at
    | with_reducible apply Grow.sendUrg
    | with_reducible refine Grow.ite ?_ ?_
    | (try lift_lets -underBinder); intro x; refine Grow.cut (x := x) ?_ ?_ <;> [subst x; (clear_value x; intro _)]
    | (try lift_lets -underBinder); intro x; first | subst x | skip
    | fail_if_no_progress with_reducible refine Grow.upd ?_

theorem Grow.execBudget (h : Grow s₀ s) (t : Nat) (port : Nat) (p : RingPkt) :
    ∃ s₁, execBudget t port p s = .next s₁ ∧ Grow s₀ s₁ := by
  refine ⟨_, rfl, ?_⟩
  repeat' first
    | with_reducible assumption
    | with_reducible apply Grow.at
    | with_reducible apply Grow.packetIn
    | with_reducible apply Grow.raise
    | with_reducible refine Grow.ite ?_ ?_
    | (try lift_lets -underBinder); intro x; refine Grow.cut (x := x) ?_ ?_ <;> [subst x; (clear_value x; intro _)]
    | (try lift_lets -underBinder); intro x; first | subst x | skip
    | fail_if_no_progress with_reducible refine Grow.upd ?_

/-! ### Machine/Tile.lean -/

theorem Grow.takeVpp (h : Grow s₀ s) (n : Nat) (vpp : Nat) :
    Grow s₀ (State.takeVpp s n vpp) := by
  delta State.takeVpp
  repeat' first
    | with_reducible assumption
    | with_reducible apply Grow.modPort
    | with_reducible apply Grow.modTh
    | with_reducible refine Grow.setF ?_ _ _
    | with_reducible refine Grow.ite ?_ ?_
    | (try lift_lets -underBinder); intro x; refine Grow.cut (x := x) ?_ ?_ <;> [subst x; (clear_value x; intro _)]
    | (try lift_lets -underBinder); intro x; first | subst x | skip
    | fail_if_no_progress with_reducible refine Grow.upd ?_

theorem Grow.train (h : Grow s₀ s) (n : Nat) (echo : Bool) :
    Grow s₀ (State.train s n echo) := by
  delta State.train
  repeat' first
    | with_reducible assumption
    | with_reducible apply Grow.modPort
    | with_reducible refine Grow.setF ?_ _ _
    | with_reducible refine Grow.ite ?_ ?_
    | (try lift_lets -underBinder); intro x; refine Grow.cut (x := x) ?_ ?_ <;> [subst x; (clear_value x; intro _)]
    | (try lift_lets -underBinder); intro x; first | subst x | skip
    | fail_if_no_progress with_reducible refine Grow.upd ?_

theorem Grow.judgeStrobe (h : Grow s₀ s) (n : Nat) (tag : Nat) :
    Grow s₀ (State.judgeStrobe s n tag) := by
  delta State.judgeStrobe
  repeat' first
    | with_reducible assumption
    | with_reducible apply Grow.failTile
    | with_reducible apply Grow.modPort
    | with_reducible refine Grow.ite ?_ ?_
    | (try lift_lets -underBinder); intro x; refine Grow.cut (x := x) ?_ ?_ <;> [subst x; (clear_value x; intro _)]
    | (try lift_lets -underBinder); intro x; first | subst x | skip
    | split
    | fail_if_no_progress dsimp only
    | fail_if_no_progress with_reducible refine Grow.upd ?_

theorem Grow.execTelemetryReport (h : Grow s₀ s) (t : Nat) (n : Nat) (r : Telemetry) (crcOk : Bool) :
    ∃ s₁, execTelemetryReport t n r crcOk s = .next s₁ ∧ Grow s₀ s₁ := by
  refine ⟨_, rfl, ?_⟩
  repeat' first
    | with_reducible assumption
    | with_reducible refine Grow.addF ?_ _ _
    | with_reducible apply Grow.askSwap
    | with_reducible apply Grow.at
    | with_reducible apply Grow.failTile
    | with_reducible apply Grow.judgeStrobe
    | with_reducible apply Grow.modPort
    | with_reducible apply Grow.modTh
    | with_reducible apply Grow.openReport
    | with_reducible refine Grow.setF ?_ _ _
    | with_reducible apply Grow.takeVpp
    | with_reducible apply Grow.train
    | with_reducible apply Grow.tryLogicOff
    | with_reducible refine Grow.ite ?_ ?_
    | (try lift_lets -underBinder); intro x; refine Grow.cut (x := x) ?_ ?_ <;> [subst x; (clear_value x; intro _)]
    | (try lift_lets -underBinder); intro x; first | subst x | skip
    | split
    | fail_if_no_progress dsimp only
    | fail_if_no_progress with_reducible refine Grow.upd ?_

theorem Grow.execTileTrainTimeout (h : Grow s₀ s) (t : Nat) (n : Nat) :
    ∃ s₁, execTileTrainTimeout t n s = .next s₁ ∧ Grow s₀ s₁ := by
  refine ⟨_, rfl, ?_⟩
  repeat' first
    | with_reducible assumption
    | with_reducible apply Grow.absentTile
    | with_reducible apply Grow.at
    | with_reducible refine Grow.ite ?_ ?_
    | (try lift_lets -underBinder); intro x; refine Grow.cut (x := x) ?_ ?_ <;> [subst x; (clear_value x; intro _)]
    | (try lift_lets -underBinder); intro x; first | subst x | skip
    | split
    | fail_if_no_progress dsimp only
    | fail_if_no_progress with_reducible refine Grow.upd ?_

theorem Grow.execTileLogicOvercurrent (h : Grow s₀ s) (t : Nat) (n : Nat) :
    ∃ s₁, execTileLogicOvercurrent t n s = .next s₁ ∧ Grow s₀ s₁ := by
  refine ⟨_, rfl, ?_⟩
  repeat' first
    | with_reducible assumption
    | with_reducible apply Grow.at
    | with_reducible apply Grow.failTile
    | with_reducible apply Grow.logicOff
    | with_reducible refine Grow.ite ?_ ?_
    | (try lift_lets -underBinder); intro x; refine Grow.cut (x := x) ?_ ?_ <;> [subst x; (clear_value x; intro _)]
    | (try lift_lets -underBinder); intro x; first | subst x | skip

theorem Grow.execTileFuseClose (h : Grow s₀ s) (t : Nat) (q : Nat) :
    ∃ s₁, execTileFuseClose t q s = .next s₁ ∧ Grow s₀ s₁ := by
  refine ⟨_, rfl, ?_⟩
  repeat' first
    | with_reducible assumption
    | with_reducible apply Grow.at
    | with_reducible apply Grow.modPort
    | with_reducible apply Grow.modRail
    | with_reducible refine Grow.setF ?_ _ _
    | with_reducible refine Grow.ite ?_ ?_
    | (try lift_lets -underBinder); intro x; refine Grow.cut (x := x) ?_ ?_ <;> [subst x; (clear_value x; intro _)]
    | (try lift_lets -underBinder); intro x; first | subst x | skip
    | split
    | fail_if_no_progress dsimp only
    | fail_if_no_progress with_reducible refine Grow.upd ?_

theorem Grow.execTileVppCheck (h : Grow s₀ s) (t : Nat) (n : Nat) :
    ∃ s₁, execTileVppCheck t n s = .next s₁ ∧ Grow s₀ s₁ := by
  refine ⟨_, rfl, ?_⟩
  repeat' first
    | with_reducible assumption
    | with_reducible apply Grow.at
    | with_reducible apply Grow.failTile
    | with_reducible apply Grow.modPort
    | with_reducible refine Grow.ite ?_ ?_
    | (try lift_lets -underBinder); intro x; refine Grow.cut (x := x) ?_ ?_ <;> [subst x; (clear_value x; intro _)]
    | (try lift_lets -underBinder); intro x; first | subst x | skip
    | split
    | fail_if_no_progress dsimp only
    | fail_if_no_progress with_reducible refine Grow.upd ?_

theorem Grow.execTileVppDischarged (h : Grow s₀ s) (t : Nat) (n : Nat) :
    ∃ s₁, execTileVppDischarged t n s = .next s₁ ∧ Grow s₀ s₁ := by
  refine ⟨_, rfl, ?_⟩
  repeat' first
    | with_reducible assumption
    | with_reducible apply Grow.at
    | with_reducible apply Grow.tryLogicOff

theorem Grow.execEfuseTrip (h : Grow s₀ s) (t : Nat) (n : Nat) :
    ∃ s₁, execEfuseTrip t n s = .next s₁ ∧ Grow s₀ s₁ := by
  refine ⟨_, rfl, ?_⟩
  repeat' first
    | with_reducible assumption
    | with_reducible apply Grow.at
    | with_reducible apply Grow.failTile
    | with_reducible refine Grow.ite ?_ ?_
    | (try lift_lets -underBinder); intro x; refine Grow.cut (x := x) ?_ ?_ <;> [subst x; (clear_value x; intro _)]
    | (try lift_lets -underBinder); intro x; first | subst x | skip

theorem Grow.execTileLogicOvervoltage (h : Grow s₀ s) (t : Nat) (n : Nat) :
    ∃ s₁, execTileLogicOvervoltage t n s = .next s₁ ∧ Grow s₀ s₁ := by
  refine ⟨_, rfl, ?_⟩
  repeat' first
    | with_reducible assumption
    | with_reducible apply Grow.at
    | with_reducible apply Grow.failTile
    | with_reducible apply Grow.logicOff
    | with_reducible refine Grow.ite ?_ ?_
    | (try lift_lets -underBinder); intro x; refine Grow.cut (x := x) ?_ ?_ <;> [subst x; (clear_value x; intro _)]
    | (try lift_lets -underBinder); intro x; first | subst x | skip

theorem Grow.execTileLinkLost (h : Grow s₀ s) (t : Nat) (n : Nat) :
    ∃ s₁, execTileLinkLost t n s = .next s₁ ∧ Grow s₀ s₁ := by
  refine ⟨_, rfl, ?_⟩
  repeat' first
    | with_reducible assumption
    | with_reducible apply Grow.at
    | with_reducible apply Grow.failTile
    | with_reducible refine Grow.ite ?_ ?_
    | (try lift_lets -underBinder); intro x; refine Grow.cut (x := x) ?_ ?_ <;> [subst x; (clear_value x; intro _)]
    | (try lift_lets -underBinder); intro x; first | subst x | skip

theorem Grow.judgeBlocks (h : Grow s₀ s) (n : Nat) :
    Grow s₀ (State.judgeBlocks s n) := by
  delta State.judgeBlocks
  repeat' first
    | with_reducible assumption
    | with_reducible apply Grow.choosePath
    | with_reducible apply Grow.modPort
    | with_reducible refine Grow.setF ?_ _ _
    | with_reducible apply Grow.showUsage
    | with_reducible refine Grow.ite ?_ ?_
    | (try lift_lets -underBinder); intro x; refine Grow.cut (x := x) ?_ ?_ <;> [subst x; (clear_value x; intro _)]
    | (try lift_lets -underBinder); intro x; first | subst x | skip
    | split
    | fail_if_no_progress dsimp only
    | fail_if_no_progress with_reducible refine Grow.upd ?_

theorem Grow.hmBlockFail (h : Grow s₀ s) (n : Nat) (usage : Bool) :
    Grow s₀ (State.hmBlockFail s n usage) := by
  delta State.hmBlockFail
  repeat' first
    | with_reducible assumption
    | with_reducible apply Grow.choosePath
    | with_reducible apply Grow.modPort
    | with_reducible refine Grow.ite ?_ ?_
    | (try lift_lets -underBinder); intro x; refine Grow.cut (x := x) ?_ ?_ <;> [subst x; (clear_value x; intro _)]
    | (try lift_lets -underBinder); intro x; first | subst x | skip
    | fail_if_no_progress with_reducible refine Grow.upd ?_

theorem Grow.execHmRead (h : Grow s₀ s) (t : Nat) (n : Nat) (a : Nat) (resp : Option (List Nat)) :
    ∃ s₁, execHmRead t n a resp s = .next s₁ ∧ Grow s₀ s₁ := by
  refine ⟨_, rfl, ?_⟩
  repeat' first
    | with_reducible assumption
    | with_reducible apply Grow.at
    | with_reducible apply Grow.emit
    | with_reducible apply Grow.hmBlockFail
    | with_reducible refine Grow.hmError ?_ (by assumption)
    | with_reducible apply Grow.judgeBlocks
    | with_reducible apply Grow.modPort
    | with_reducible refine Grow.ite ?_ ?_
    | (try lift_lets -underBinder); intro x; refine Grow.cut (x := x) ?_ ?_ <;> [subst x; (clear_value x; intro _)]
    | (try lift_lets -underBinder); intro x; first | subst x | skip
    | split
    | fail_if_no_progress dsimp only
    | fail_if_no_progress with_reducible refine Grow.upd ?_

theorem Grow.execHmWrite (h : Grow s₀ s) (t : Nat) (n : Nat) (a : Nat) (data : List Nat) (resp : Option (List Nat)) :
    ∃ s₁, execHmWrite t n a data resp s = .next s₁ ∧ Grow s₀ s₁ := by
  refine ⟨_, rfl, ?_⟩
  repeat' first
    | with_reducible assumption
    | with_reducible apply Grow.at
    | with_reducible apply Grow.emit
    | with_reducible apply Grow.hmEnd
    | with_reducible refine Grow.hmError ?_ (by assumption)
    | with_reducible apply Grow.raiseLane
    | with_reducible refine Grow.setF ?_ _ _
    | with_reducible refine Grow.ite ?_ ?_
    | (try lift_lets -underBinder); intro x; refine Grow.cut (x := x) ?_ ?_ <;> [subst x; (clear_value x; intro _)]
    | (try lift_lets -underBinder); intro x; first | subst x | skip
    | split
    | fail_if_no_progress dsimp only
    | fail_if_no_progress with_reducible refine Grow.upd ?_

theorem Grow.addDone (h : Grow s₀ s) (n : Nat) (bs : List Nat) :
    Grow s₀ (State.addDone s n bs) := by
  delta State.addDone
  repeat' first
    | with_reducible assumption
    | with_reducible apply Grow.hmEnd
    | with_reducible apply Grow.modPort
    | with_reducible apply Grow.showUsage
    | (try lift_lets -underBinder); intro x; refine Grow.cut (x := x) ?_ ?_ <;> [subst x; (clear_value x; intro _)]
    | (try lift_lets -underBinder); intro x; first | subst x | skip
    | split
    | fail_if_no_progress dsimp only
    | fail_if_no_progress with_reducible refine Grow.upd ?_

theorem Grow.execAuthRead (h : Grow s₀ s) (t : Nat) (n : Nat) (nonce : List Nat) (resp : Option (List Nat)) :
    ∃ s₁, execAuthRead t n nonce resp s = .next s₁ ∧ Grow s₀ s₁ := by
  refine ⟨_, rfl, ?_⟩
  repeat' first
    | with_reducible assumption
    | with_reducible apply Grow.addDone
    | with_reducible apply Grow.at
    | with_reducible apply Grow.choosePath
    | with_reducible apply Grow.emit
    | with_reducible apply Grow.hmBlockFail
    | with_reducible apply Grow.hmEnd
    | with_reducible refine Grow.hmError ?_ (by assumption)
    | with_reducible apply Grow.modPort
    | with_reducible apply Grow.showUsage
    | with_reducible refine Grow.ite ?_ ?_
    | (try lift_lets -underBinder); intro x; refine Grow.cut (x := x) ?_ ?_ <;> [subst x; (clear_value x; intro _)]
    | (try lift_lets -underBinder); intro x; first | subst x | skip
    | split
    | fail_if_no_progress dsimp only
    | fail_if_no_progress with_reducible refine Grow.upd ?_

theorem Grow.execGetNonce (h : Grow s₀ s) (t : Nat) (n : Nat) (resp : Option (List Nat)) :
    ∃ s₁, execGetNonce t n resp s = .next s₁ ∧ Grow s₀ s₁ := by
  refine ⟨_, rfl, ?_⟩
  repeat' first
    | with_reducible assumption
    | with_reducible apply Grow.at
    | with_reducible apply Grow.emit
    | with_reducible apply Grow.hmEnd
    | with_reducible refine Grow.hmError ?_ (by assumption)
    | with_reducible apply Grow.modPort
    | with_reducible refine Grow.ite ?_ ?_
    | (try lift_lets -underBinder); intro x; refine Grow.cut (x := x) ?_ ?_ <;> [subst x; (clear_value x; intro _)]
    | (try lift_lets -underBinder); intro x; first | subst x | skip
    | split
    | fail_if_no_progress dsimp only
    | fail_if_no_progress with_reducible refine Grow.upd ?_

theorem Grow.execAuthAdd (h : Grow s₀ s) (t : Nat) (n : Nat) (resp : Option (List Nat)) :
    ∃ s₁, execAuthAdd t n resp s = .next s₁ ∧ Grow s₀ s₁ := by
  refine ⟨_, rfl, ?_⟩
  repeat' first
    | with_reducible assumption
    | with_reducible apply Grow.addDone
    | with_reducible apply Grow.at
    | with_reducible refine Grow.hmError ?_ (by assumption)
    | with_reducible apply Grow.modPort
    | with_reducible refine Grow.ite ?_ ?_
    | (try lift_lets -underBinder); intro x; refine Grow.cut (x := x) ?_ ?_ <;> [subst x; (clear_value x; intro _)]
    | (try lift_lets -underBinder); intro x; first | subst x | skip
    | split
    | fail_if_no_progress dsimp only
    | fail_if_no_progress with_reducible refine Grow.upd ?_

theorem Grow.execHmRetry (h : Grow s₀ s) (t : Nat) (n : Nat) :
    ∃ s₁, execHmRetry t n s = .next s₁ ∧ Grow s₀ s₁ := by
  refine ⟨_, rfl, ?_⟩
  repeat' first
    | with_reducible assumption
    | with_reducible apply Grow.at
    | with_reducible apply Grow.emit
    | with_reducible apply Grow.modPort
    | with_reducible refine Grow.ite ?_ ?_
    | (try lift_lets -underBinder); intro x; refine Grow.cut (x := x) ?_ ?_ <;> [subst x; (clear_value x; intro _)]
    | (try lift_lets -underBinder); intro x; first | subst x | skip
    | split
    | fail_if_no_progress dsimp only
    | fail_if_no_progress with_reducible refine Grow.upd ?_

theorem Grow.writeUkey (h : Grow s₀ s) (k : Nat) (v : Word) :
    Grow s₀ (State.writeUkey s k v) := by
  delta State.writeUkey
  repeat' first
    | with_reducible assumption
    | with_reducible apply Grow.raise
    | with_reducible refine Grow.ite ?_ ?_
    | (try lift_lets -underBinder); intro x; refine Grow.cut (x := x) ?_ ?_ <;> [subst x; (clear_value x; intro _)]
    | (try lift_lets -underBinder); intro x; first | subst x | skip
    | fail_if_no_progress with_reducible refine Grow.upd ?_

theorem Grow.execTileUkeyStore (h : Grow s₀ s) (t : Nat) (v : Word) :
    ∃ s₁, execTileUkeyStore t v s = .next s₁ ∧ Grow s₀ s₁ := by
  refine ⟨_, rfl, ?_⟩
  repeat' first
    | with_reducible assumption
    | with_reducible apply Grow.at
    | with_reducible apply Grow.onWrite
    | with_reducible apply Grow.writeUkey
    | (try lift_lets -underBinder); intro x; refine Grow.cut (x := x) ?_ ?_ <;> [subst x; (clear_value x; intro _)]
    | (try lift_lets -underBinder); intro x; first | subst x | skip

/-! ### Machine/Motor.lean -/

theorem Grow.execMotorRun (h : Grow s₀ s) (t : Nat) (a : Nat) (v : Word) :
    ∃ s₁, execMotorRun t a v s = .next s₁ ∧ Grow s₀ s₁ := by
  refine ⟨_, rfl, ?_⟩
  repeat' first
    | with_reducible assumption
    | with_reducible apply Grow.at
    | with_reducible apply Grow.onWrite
    | with_reducible apply Grow.writeMotCmd
    | with_reducible refine Grow.ite ?_ ?_
    | (try lift_lets -underBinder); intro x; refine Grow.cut (x := x) ?_ ?_ <;> [subst x; (clear_value x; intro _)]
    | (try lift_lets -underBinder); intro x; first | subst x | skip

theorem Grow.execMotorStop (h : Grow s₀ s) (t : Nat) (a : Nat) (v : Word) :
    ∃ s₁, execMotorStop t a v s = .next s₁ ∧ Grow s₀ s₁ := by
  refine ⟨_, rfl, ?_⟩
  repeat' first
    | with_reducible assumption
    | with_reducible apply Grow.at
    | with_reducible apply Grow.onWrite
    | with_reducible apply Grow.writeMotCmd
    | with_reducible refine Grow.ite ?_ ?_
    | (try lift_lets -underBinder); intro x; refine Grow.cut (x := x) ?_ ?_ <;> [subst x; (clear_value x; intro _)]
    | (try lift_lets -underBinder); intro x; first | subst x | skip

theorem Grow.takePin (h : Grow s₀ s) (a : Nat) (x : Int) :
    Grow s₀ (State.takePin s a x) := by
  delta State.takePin
  repeat' first
    | with_reducible assumption
    | with_reducible apply Grow.modAxis
    | with_reducible refine Grow.setFields_nil ?_
    | with_reducible refine Grow.setFields_cons ?_
    | with_reducible refine Grow.setF ?_ _ _
    | with_reducible apply Grow.startAxis
    | with_reducible apply Grow.stopAxis
    | with_reducible refine Grow.ite ?_ ?_
    | (try lift_lets -underBinder); intro x; refine Grow.cut (x := x) ?_ ?_ <;> [subst x; (clear_value x; intro _)]
    | (try lift_lets -underBinder); intro x; first | subst x | skip
    | split
    | fail_if_no_progress with_reducible refine Grow.upd ?_

theorem Grow.takeCommand (h : Grow s₀ s) (a : Nat) :
    Grow s₀ (State.takeCommand s a) := by
  delta State.takeCommand
  repeat' first
    | with_reducible assumption
    | with_reducible apply Grow.modAxis
    | with_reducible refine Grow.setF ?_ _ _
    | with_reducible refine Grow.ite ?_ ?_
    | (try lift_lets -underBinder); intro x; refine Grow.cut (x := x) ?_ ?_ <;> [subst x; (clear_value x; intro _)]
    | (try lift_lets -underBinder); intro x; first | subst x | skip
    | split
    | fail_if_no_progress with_reducible refine Grow.upd ?_

theorem Grow.watchSpeed (h : Grow s₀ s) (a : Nat) (rpm : Int) :
    Grow s₀ (State.watchSpeed s a rpm) := by
  delta State.watchSpeed
  repeat' first
    | with_reducible assumption
    | with_reducible apply Grow.axisOff
    | with_reducible apply Grow.modAxis
    | with_reducible refine Grow.setF ?_ _ _
    | with_reducible refine Grow.ite ?_ ?_
    | (try lift_lets -underBinder); intro x; refine Grow.cut (x := x) ?_ ?_ <;> [subst x; (clear_value x; intro _)]
    | (try lift_lets -underBinder); intro x; first | subst x | skip
    | fail_if_no_progress with_reducible refine Grow.upd ?_

theorem Grow.execSpeedLoopUpdate (h : Grow s₀ s) (t : Nat) (a : Nat) (rpm : Int) (pin : Int) :
    ∃ s₁, execSpeedLoopUpdate t a rpm pin s = .next s₁ ∧ Grow s₀ s₁ := by
  refine ⟨_, rfl, ?_⟩
  repeat' first
    | with_reducible assumption
    | with_reducible apply Grow.at
    | with_reducible refine Grow.setFs ?_ _ _
    | with_reducible apply Grow.takeCommand
    | with_reducible apply Grow.takePin
    | with_reducible apply Grow.watchSpeed
    | with_reducible refine Grow.ite ?_ ?_
    | (try lift_lets -underBinder); intro x; refine Grow.cut (x := x) ?_ ?_ <;> [subst x; (clear_value x; intro _)]
    | (try lift_lets -underBinder); intro x; first | subst x | skip

theorem Grow.fieldWeaken (h : Grow s₀ s) (a : Nat) (vMv : Nat) :
    Grow s₀ (State.fieldWeaken s a vMv) := by
  delta State.fieldWeaken
  repeat' first
    | with_reducible assumption
    | with_reducible apply Grow.modAxis
    | with_reducible refine Grow.setFb ?_ _ _
    | with_reducible refine Grow.ite ?_ ?_
    | (try lift_lets -underBinder); intro x; refine Grow.cut (x := x) ?_ ?_ <;> [subst x; (clear_value x; intro _)]
    | (try lift_lets -underBinder); intro x; first | subst x | skip
    | fail_if_no_progress with_reducible refine Grow.upd ?_

theorem Grow.takeSample (h : Grow s₀ s) (a : Nat) (m : CurrentSample) :
    Grow s₀ (State.takeSample s a m) := by
  delta State.takeSample
  repeat' first
    | with_reducible assumption
    | with_reducible refine Grow.addF ?_ _ _
    | with_reducible apply Grow.count
    | with_reducible apply Grow.drawn
    | with_reducible apply Grow.modAxis
    | with_reducible apply Grow.raiseMot
    | with_reducible refine Grow.setFs ?_ _ _
    | with_reducible refine Grow.ite ?_ ?_
    | (try lift_lets -underBinder); intro x; refine Grow.cut (x := x) ?_ ?_ <;> [subst x; (clear_value x; intro _)]
    | (try lift_lets -underBinder); intro x; first | subst x | skip
    | split
    | fail_if_no_progress dsimp only
    | fail_if_no_progress with_reducible refine Grow.upd ?_

theorem Grow.slewAxis (h : Grow s₀ s) (a : Nat) :
    Grow s₀ (State.slewAxis s a) := by
  delta State.slewAxis
  repeat' first
    | with_reducible assumption
    | with_reducible apply Grow.slewTo
    | with_reducible refine Grow.ite ?_ ?_

theorem Grow.execCurrentControlPeriod (h : Grow s₀ s) (t : Nat) (a : Nat) (smp : CurrentSample) :
    ∃ s₁, execCurrentControlPeriod t a smp s = .next s₁ ∧ Grow s₀ s₁ := by
  refine ⟨_, rfl, ?_⟩
  repeat' first
    | with_reducible assumption
    | with_reducible apply Grow.at
    | with_reducible apply Grow.fieldWeaken
    | with_reducible apply Grow.modAxis
    | with_reducible refine Grow.setFb ?_ _ _
    | with_reducible refine Grow.setFs ?_ _ _
    | with_reducible apply Grow.slewAxis
    | with_reducible apply Grow.takeSample
    | with_reducible refine Grow.ite ?_ ?_
    | (try lift_lets -underBinder); intro x; refine Grow.cut (x := x) ?_ ?_ <;> [subst x; (clear_value x; intro _)]
    | (try lift_lets -underBinder); intro x; first | subst x | skip
    | fail_if_no_progress with_reducible refine Grow.upd ?_

theorem Grow.execMotCmdLost (h : Grow s₀ s) (t : Nat) :
    ∃ s₁, execMotCmdLost t s = .next s₁ ∧ Grow s₀ s₁ := by
  refine ⟨_, rfl, ?_⟩
  repeat' first
    | with_reducible assumption
    | with_reducible apply Grow.at
    | with_reducible apply Grow.raiseMot
    | with_reducible refine Grow.setF ?_ _ _
    | with_reducible apply Grow.stopAxis
    | with_reducible refine Grow.ite ?_ ?_
    | with_reducible refine Grow.foldl ?_ ?_
    | (try lift_lets -underBinder); intro x; refine Grow.cut (x := x) ?_ ?_ <;> [subst x; (clear_value x; intro _)]
    | (try lift_lets -underBinder); intro x; first | subst x | skip

theorem Grow.execMotCmdRestored (h : Grow s₀ s) (t : Nat) :
    ∃ s₁, execMotCmdRestored t s = .next s₁ ∧ Grow s₀ s₁ := by
  refine ⟨_, rfl, ?_⟩
  repeat' first
    | with_reducible assumption
    | with_reducible apply Grow.at
    | with_reducible refine Grow.setF ?_ _ _
    | with_reducible apply Grow.startAxis
    | with_reducible refine Grow.ite ?_ ?_
    | with_reducible refine Grow.foldl ?_ ?_
    | (try lift_lets -underBinder); intro x; refine Grow.cut (x := x) ?_ ?_ <;> [subst x; (clear_value x; intro _)]
    | (try lift_lets -underBinder); intro x; first | subst x | skip

theorem Grow.execAtSpeed (h : Grow s₀ s) (t : Nat) (a : Nat) :
    ∃ s₁, execAtSpeed t a s = .next s₁ ∧ Grow s₀ s₁ := by
  refine ⟨_, rfl, ?_⟩
  repeat' first
    | with_reducible assumption
    | with_reducible apply Grow.at
    | with_reducible apply Grow.emitSrc
    | with_reducible apply Grow.modAxis
    | with_reducible refine Grow.setF ?_ _ _
    | with_reducible refine Grow.ite ?_ ?_
    | (try lift_lets -underBinder); intro x; refine Grow.cut (x := x) ?_ ?_ <;> [subst x; (clear_value x; intro _)]
    | (try lift_lets -underBinder); intro x; first | subst x | skip
    | split
    | fail_if_no_progress dsimp only
    | fail_if_no_progress with_reducible refine Grow.upd ?_

theorem Grow.execCatchCheckComplete (h : Grow s₀ s) (t : Nat) (a : Nat) (amp : Nat) (full : Bool) :
    ∃ s₁, execCatchCheckComplete t a amp full s = .next s₁ ∧ Grow s₀ s₁ := by
  refine ⟨_, rfl, ?_⟩
  repeat' first
    | with_reducible assumption
    | with_reducible apply Grow.at
    | with_reducible apply Grow.modAxis
    | with_reducible apply Grow.raiseMot
    | with_reducible refine Grow.setF ?_ _ _
    | with_reducible refine Grow.ite ?_ ?_
    | (try lift_lets -underBinder); intro x; refine Grow.cut (x := x) ?_ ?_ <;> [subst x; (clear_value x; intro _)]
    | (try lift_lets -underBinder); intro x; first | subst x | skip
    | fail_if_no_progress with_reducible refine Grow.upd ?_

theorem Grow.execCatchLock (h : Grow s₀ s) (t : Nat) (a : Nat) (rpm : Int) :
    ∃ s₁, execCatchLock t a rpm s = .next s₁ ∧ Grow s₀ s₁ := by
  refine ⟨_, rfl, ?_⟩
  repeat' first
    | with_reducible assumption
    | with_reducible apply Grow.accelerate
    | with_reducible apply Grow.at
    | with_reducible apply Grow.modAxis
    | with_reducible refine Grow.setFields_nil ?_
    | with_reducible refine Grow.setFields_cons ?_
    | with_reducible refine Grow.setF ?_ _ _
    | with_reducible refine Grow.setFs ?_ _ _
    | with_reducible refine Grow.ite ?_ ?_
    | (try lift_lets -underBinder); intro x; refine Grow.cut (x := x) ?_ ?_ <;> [subst x; (clear_value x; intro _)]
    | (try lift_lets -underBinder); intro x; first | subst x | skip
    | fail_if_no_progress with_reducible refine Grow.upd ?_

theorem Grow.execCatchOverRetry (h : Grow s₀ s) (t : Nat) (a : Nat) :
    ∃ s₁, execCatchOverRetry t a s = .next s₁ ∧ Grow s₀ s₁ := by
  refine ⟨_, rfl, ?_⟩
  repeat' first
    | with_reducible assumption
    | with_reducible apply Grow.at
    | with_reducible apply Grow.modAxis
    | with_reducible refine Grow.ite ?_ ?_
    | (try lift_lets -underBinder); intro x; refine Grow.cut (x := x) ?_ ?_ <;> [subst x; (clear_value x; intro _)]
    | (try lift_lets -underBinder); intro x; first | subst x | skip
    | fail_if_no_progress with_reducible refine Grow.upd ?_

theorem Grow.execOpenPhaseCheckComplete (h : Grow s₀ s) (t : Nat) (a : Nat) (open_ : Option Nat) :
    ∃ s₁, execOpenPhaseCheckComplete t a open_ s = .next s₁ ∧ Grow s₀ s₁ := by
  refine ⟨_, rfl, ?_⟩
  repeat' first
    | with_reducible assumption
    | with_reducible apply Grow.at
    | with_reducible refine Grow.axisTrip ?_ _ _ _ _
    | with_reducible apply Grow.modAxis
    | with_reducible refine Grow.ite ?_ ?_
    | (try lift_lets -underBinder); intro x; refine Grow.cut (x := x) ?_ ?_ <;> [subst x; (clear_value x; intro _)]
    | (try lift_lets -underBinder); intro x; first | subst x | skip
    | split
    | fail_if_no_progress dsimp only
    | fail_if_no_progress with_reducible refine Grow.upd ?_

theorem Grow.execModelIdentificationComplete (h : Grow s₀ s) (t : Nat) (a : Nat) (rs : Nat) (ld : Nat) (lq : Nat) :
    ∃ s₁, execModelIdentificationComplete t a rs ld lq s = .next s₁ ∧ Grow s₀ s₁ := by
  refine ⟨_, rfl, ?_⟩
  repeat' first
    | with_reducible assumption
    | with_reducible apply Grow.at
    | with_reducible apply Grow.modAxis
    | with_reducible refine Grow.setFields_nil ?_
    | with_reducible refine Grow.setFields_cons ?_
    | with_reducible refine Grow.setF ?_ _ _
    | with_reducible refine Grow.ite ?_ ?_
    | (try lift_lets -underBinder); intro x; refine Grow.cut (x := x) ?_ ?_ <;> [subst x; (clear_value x; intro _)]
    | (try lift_lets -underBinder); intro x; first | subst x | skip
    | fail_if_no_progress with_reducible refine Grow.upd ?_

theorem Grow.execInitialPositionFound (h : Grow s₀ s) (t : Nat) (a : Nat) (weak : Bool) :
    ∃ s₁, execInitialPositionFound t a weak s = .next s₁ ∧ Grow s₀ s₁ := by
  refine ⟨_, rfl, ?_⟩
  repeat' first
    | with_reducible assumption
    | with_reducible apply Grow.accelerate
    | with_reducible apply Grow.at
    | with_reducible apply Grow.raiseMot
    | with_reducible refine Grow.setFields_nil ?_
    | with_reducible refine Grow.setFields_cons ?_
    | with_reducible refine Grow.setF ?_ _ _
    | with_reducible refine Grow.ite ?_ ?_
    | (try lift_lets -underBinder); intro x; refine Grow.cut (x := x) ?_ ?_ <;> [subst x; (clear_value x; intro _)]
    | (try lift_lets -underBinder); intro x; first | subst x | skip

theorem Grow.execEstimatorHandover (h : Grow s₀ s) (t : Nat) (a : Nat) :
    ∃ s₁, execEstimatorHandover t a s = .next s₁ ∧ Grow s₀ s₁ := by
  refine ⟨_, rfl, ?_⟩
  repeat' first
    | with_reducible assumption
    | with_reducible apply Grow.at
    | with_reducible refine Grow.setF ?_ _ _
    | with_reducible refine Grow.ite ?_ ?_
    | (try lift_lets -underBinder); intro x; refine Grow.cut (x := x) ?_ ?_ <;> [subst x; (clear_value x; intro _)]
    | (try lift_lets -underBinder); intro x; first | subst x | skip
    | split
    | fail_if_no_progress dsimp only
    | fail_if_no_progress with_reducible refine Grow.upd ?_

theorem Grow.execOpenPhase (h : Grow s₀ s) (t : Nat) (a : Nat) (p1 : Rms) (p2 : Rms) :
    ∃ s₁, execOpenPhase t a p1 p2 s = .next s₁ ∧ Grow s₀ s₁ := by
  refine ⟨_, rfl, ?_⟩
  repeat' first
    | with_reducible assumption
    | with_reducible apply Grow.at
    | with_reducible refine Grow.axisTrip ?_ _ _ _ _
    | with_reducible refine Grow.ite ?_ ?_
    | (try lift_lets -underBinder); intro x; refine Grow.cut (x := x) ?_ ?_ <;> [subst x; (clear_value x; intro _)]
    | (try lift_lets -underBinder); intro x; first | subst x | skip
    | split
    | fail_if_no_progress dsimp only
    | fail_if_no_progress with_reducible refine Grow.upd ?_

theorem Grow.execStall (h : Grow s₀ s) (t : Nat) (a : Nat) :
    ∃ s₁, execStall t a s = .next s₁ ∧ Grow s₀ s₁ := by
  refine ⟨_, rfl, ?_⟩
  repeat' first
    | with_reducible assumption
    | with_reducible apply Grow.at
    | with_reducible refine Grow.axisTrip ?_ _ _ _ _
    | with_reducible refine Grow.ite ?_ ?_
    | (try lift_lets -underBinder); intro x; refine Grow.cut (x := x) ?_ ?_ <;> [subst x; (clear_value x; intro _)]
    | (try lift_lets -underBinder); intro x; first | subst x | skip
    | split
    | fail_if_no_progress dsimp only
    | fail_if_no_progress with_reducible refine Grow.upd ?_

theorem Grow.execOvercurrentTrip (h : Grow s₀ s) (t : Nat) (a : Nat) (phase : Nat) :
    ∃ s₁, execOvercurrentTrip t a phase s = .next s₁ ∧ Grow s₀ s₁ := by
  refine ⟨_, rfl, ?_⟩
  repeat' first
    | with_reducible assumption
    | with_reducible apply Grow.at
    | with_reducible refine Grow.axisTrip ?_ _ _ _ _
    | with_reducible refine Grow.ite ?_ ?_
    | (try lift_lets -underBinder); intro x; refine Grow.cut (x := x) ?_ ?_ <;> [subst x; (clear_value x; intro _)]
    | (try lift_lets -underBinder); intro x; first | subst x | skip

theorem Grow.execGateDriverFeedbackFault (h : Grow s₀ s) (t : Nat) (a : Nat) (sw : Nat) :
    ∃ s₁, execGateDriverFeedbackFault t a sw s = .next s₁ ∧ Grow s₀ s₁ := by
  refine ⟨_, rfl, ?_⟩
  repeat' first
    | with_reducible assumption
    | with_reducible apply Grow.at
    | with_reducible apply Grow.raiseMot
    | with_reducible refine Grow.setF ?_ _ _
    | with_reducible refine Grow.ite ?_ ?_
    | (try lift_lets -underBinder); intro x; refine Grow.cut (x := x) ?_ ?_ <;> [subst x; (clear_value x; intro _)]
    | (try lift_lets -underBinder); intro x; first | subst x | skip

/-! ### Machine/Thermal.lean -/

theorem Grow.reqDusk (h : Grow s₀ s) (n : Nat) :
    Grow s₀ (State.reqDusk s n) := by
  delta State.reqDusk
  repeat' first
    | with_reducible assumption
    | with_reducible apply Grow.finishTest
    | with_reducible refine Grow.setFields_nil ?_
    | with_reducible refine Grow.setFields_cons ?_
    | with_reducible refine Grow.setF ?_ _ _
    | with_reducible apply Grow.thermalDusk
    | with_reducible refine Grow.ite ?_ ?_
    | (try lift_lets -underBinder); intro x; refine Grow.cut (x := x) ?_ ?_ <;> [subst x; (clear_value x; intro _)]
    | (try lift_lets -underBinder); intro x; first | subst x | skip
    | split
    | fail_if_no_progress dsimp only
    | fail_if_no_progress with_reducible refine Grow.upd ?_

theorem Grow.rateAction (h : Grow s₀ s) (n : Nat) (act : Nat) :
    Grow s₀ (State.rateAction s n act) := by
  delta State.rateAction
  repeat' first
    | with_reducible assumption
    | with_reducible apply Grow.failTile
    | with_reducible apply Grow.modWin
    | with_reducible apply Grow.reqDusk
    | with_reducible refine Grow.ite ?_ ?_
    | with_reducible refine Grow.foldl ?_ ?_
    | (try lift_lets -underBinder); intro x; refine Grow.cut (x := x) ?_ ?_ <;> [subst x; (clear_value x; intro _)]
    | (try lift_lets -underBinder); intro x; first | subst x | skip
    | fail_if_no_progress with_reducible refine Grow.upd ?_

theorem Grow.tripAction (h : Grow s₀ s) (n : Nat) (x : Int) :
    Grow s₀ (State.tripAction s n x) := by
  delta State.tripAction
  repeat' first
    | with_reducible assumption
    | with_reducible apply Grow.failTile
    | with_reducible apply Grow.raise
    | with_reducible apply Grow.reqDusk
    | with_reducible apply Grow.stopDocs
    | with_reducible apply Grow.updHoldup
    | (try lift_lets -underBinder); intro x; refine Grow.cut (x := x) ?_ ?_ <;> [subst x; (clear_value x; intro _)]
    | (try lift_lets -underBinder); intro x; first | subst x | skip
    | split
    | fail_if_no_progress dsimp only
    | fail_if_no_progress with_reducible refine Grow.upd ?_

theorem Grow.checkRate (h : Grow s₀ s) (n : Nat) (x : Int) :
    Grow s₀ (State.checkRate s n x) := by
  delta State.checkRate
  repeat' first
    | with_reducible assumption
    | with_reducible apply Grow.modSensor
    | with_reducible apply Grow.raise
    | with_reducible apply Grow.rateAction
    | with_reducible refine Grow.setFs ?_ _ _
    | with_reducible refine Grow.ite ?_ ?_
    | (try lift_lets -underBinder); intro x; refine Grow.cut (x := x) ?_ ?_ <;> [subst x; (clear_value x; intro _)]
    | (try lift_lets -underBinder); intro x; first | subst x | skip
    | split
    | fail_if_no_progress dsimp only
    | fail_if_no_progress with_reducible refine Grow.upd ?_

theorem Grow.checkLevels (h : Grow s₀ s) (n : Nat) (x : Int) :
    Grow s₀ (State.checkLevels s n x) := by
  delta State.checkLevels
  repeat' first
    | with_reducible assumption
    | with_reducible apply Grow.modSensor
    | with_reducible apply Grow.raise
    | with_reducible apply Grow.reqDusk
    | with_reducible apply Grow.tripAction
    | with_reducible refine Grow.ite ?_ ?_
    | (try lift_lets -underBinder); intro x; refine Grow.cut (x := x) ?_ ?_ <;> [subst x; (clear_value x; intro _)]
    | (try lift_lets -underBinder); intro x; first | subst x | skip
    | fail_if_no_progress with_reducible refine Grow.upd ?_

theorem Grow.checkFast (h : Grow s₀ s) (n : Nat) (x : Int) :
    Grow s₀ (State.checkFast s n x) := by
  delta State.checkFast
  repeat' first
    | with_reducible assumption
    | with_reducible apply Grow.modSensor
    | with_reducible refine Grow.setF ?_ _ _
    | with_reducible refine Grow.ite ?_ ?_
    | (try lift_lets -underBinder); intro x; refine Grow.cut (x := x) ?_ ?_ <;> [subst x; (clear_value x; intro _)]
    | (try lift_lets -underBinder); intro x; first | subst x | skip
    | fail_if_no_progress with_reducible refine Grow.upd ?_

theorem Grow.interlocks (h : Grow s₀ s) (n : Nat) :
    Grow s₀ (State.interlocks s n) := by
  delta State.interlocks
  repeat' first
    | with_reducible assumption
    | with_reducible refine Grow.setF ?_ _ _
    | with_reducible refine Grow.setFb ?_ _ _
    | with_reducible refine Grow.ite ?_ ?_
    | (try lift_lets -underBinder); intro x; refine Grow.cut (x := x) ?_ ?_ <;> [subst x; (clear_value x; intro _)]
    | (try lift_lets -underBinder); intro x; first | subst x | skip
    | split
    | fail_if_no_progress dsimp only
    | fail_if_no_progress with_reducible refine Grow.upd ?_

theorem Grow.badReading (h : Grow s₀ s) (n : Nat) :
    Grow s₀ (State.badReading s n) := by
  delta State.badReading
  repeat' first
    | with_reducible assumption
    | with_reducible apply Grow.modSensor
    | with_reducible apply Grow.raise
    | with_reducible apply Grow.raiseLane
    | with_reducible refine Grow.setF ?_ _ _
    | with_reducible refine Grow.ite ?_ ?_
    | (try lift_lets -underBinder); intro x; refine Grow.cut (x := x) ?_ ?_ <;> [subst x; (clear_value x; intro _)]
    | (try lift_lets -underBinder); intro x; first | subst x | skip
    | fail_if_no_progress with_reducible refine Grow.upd ?_

theorem Grow.execThermalSample (h : Grow s₀ s) (t : Nat) (n : Nat) (x : Int) (ro : List Int) :
    ∃ s₁, execThermalSample t n x ro s = .next s₁ ∧ Grow s₀ s₁ := by
  refine ⟨_, rfl, ?_⟩
  repeat' first
    | with_reducible assumption
    | with_reducible apply Grow.at
    | with_reducible apply Grow.badReading
    | with_reducible apply Grow.checkFast
    | with_reducible apply Grow.checkLevels
    | with_reducible apply Grow.checkRate
    | with_reducible apply Grow.interlocks
    | with_reducible apply Grow.modSensor
    | with_reducible refine Grow.setF ?_ _ _
    | with_reducible refine Grow.setFs ?_ _ _
    | with_reducible apply Grow.takeBin
    | with_reducible refine Grow.ite ?_ ?_
    | with_reducible refine Grow.foldl ?_ ?_
    | (try lift_lets -underBinder); intro x; refine Grow.cut (x := x) ?_ ?_ <;> [subst x; (clear_value x; intro _)]
    | (try lift_lets -underBinder); intro x; first | subst x | skip
    | split
    | fail_if_no_progress dsimp only
    | fail_if_no_progress with_reducible refine Grow.upd ?_

theorem Grow.execOscillatorRecalibration (h : Grow s₀ s) (t : Nat) (d : Nat) (a : Int) (b : Int) :
    ∃ s₁, execOscillatorRecalibration t d a b s = .next s₁ ∧ Grow s₀ s₁ := by
  refine ⟨_, rfl, ?_⟩
  repeat' first
    | with_reducible assumption
    | with_reducible refine Grow.addF ?_ _ _
    | with_reducible apply Grow.at
    | with_reducible refine Grow.incF ?_ _ _
    | with_reducible apply Grow.raise
    | with_reducible refine Grow.ite ?_ ?_
    | (try lift_lets -underBinder); intro x; refine Grow.cut (x := x) ?_ ?_ <;> [subst x; (clear_value x; intro _)]
    | (try lift_lets -underBinder); intro x; first | subst x | skip
    | split
    | fail_if_no_progress dsimp only
    | fail_if_no_progress with_reducible refine Grow.upd ?_

theorem Grow.execThermalPauseStepEnd (h : Grow s₀ s) (t : Nat) (w : Nat) :
    ∃ s₁, execThermalPauseStepEnd t w s = .next s₁ ∧ Grow s₀ s₁ := by
  refine ⟨_, rfl, ?_⟩
  repeat' first
    | with_reducible assumption
    | with_reducible apply Grow.at
    | with_reducible apply Grow.modWin
    | with_reducible apply Grow.raise
    | with_reducible refine Grow.setFields_nil ?_
    | with_reducible refine Grow.setFields_cons ?_
    | with_reducible refine Grow.setF ?_ _ _
    | with_reducible apply Grow.showPausing
    | with_reducible apply Grow.thermalDusk
    | with_reducible apply Grow.thermalStep
    | with_reducible refine Grow.ite ?_ ?_
    | (try lift_lets -underBinder); intro x; refine Grow.cut (x := x) ?_ ?_ <;> [subst x; (clear_value x; intro _)]
    | (try lift_lets -underBinder); intro x; first | subst x | skip
    | split
    | fail_if_no_progress dsimp only
    | fail_if_no_progress with_reducible refine Grow.upd ?_

theorem Grow.execDuskFinishRecheck (h : Grow s₀ s) (t : Nat) :
    ∃ s₁, execDuskFinishRecheck t s = .next s₁ ∧ Grow s₀ s₁ := by
  refine ⟨_, rfl, ?_⟩
  repeat' first
    | with_reducible assumption
    | with_reducible apply Grow.at
    | with_reducible apply Grow.finishTest
    | with_reducible refine Grow.ite ?_ ?_
    | (try lift_lets -underBinder); intro x; refine Grow.cut (x := x) ?_ ?_ <;> [subst x; (clear_value x; intro _)]
    | (try lift_lets -underBinder); intro x; first | subst x | skip

theorem Grow.execStoreConverterResume (h : Grow s₀ s) (t : Nat) :
    ∃ s₁, execStoreConverterResume t s = .next s₁ ∧ Grow s₀ s₁ := by
  refine ⟨_, rfl, ?_⟩
  repeat' first
    | with_reducible assumption
    | with_reducible apply Grow.at
    | with_reducible apply Grow.updHoldup
    | with_reducible refine Grow.ite ?_ ?_
    | (try lift_lets -underBinder); intro x; refine Grow.cut (x := x) ?_ ?_ <;> [subst x; (clear_value x; intro _)]
    | (try lift_lets -underBinder); intro x; first | subst x | skip
    | split
    | fail_if_no_progress dsimp only
    | fail_if_no_progress with_reducible refine Grow.upd ?_

theorem Grow.execStoreChargingResume (h : Grow s₀ s) (t : Nat) :
    ∃ s₁, execStoreChargingResume t s = .next s₁ ∧ Grow s₀ s₁ := by
  refine ⟨_, rfl, ?_⟩
  repeat' first
    | with_reducible assumption
    | with_reducible apply Grow.at
    | with_reducible refine Grow.setF ?_ _ _
    | with_reducible refine Grow.ite ?_ ?_
    | (try lift_lets -underBinder); intro x; refine Grow.cut (x := x) ?_ ?_ <;> [subst x; (clear_value x; intro _)]
    | (try lift_lets -underBinder); intro x; first | subst x | skip
    | split
    | fail_if_no_progress dsimp only
    | fail_if_no_progress with_reducible refine Grow.upd ?_

/-! ### Machine/RegOps.lean -/

theorem Grow.readReg (h : Grow s₀ s) (m : Nat) (off : Nat) :
    Grow s₀ (State.readReg s m off).1 := by
  delta State.readReg
  repeat' first
    | with_reducible assumption
    | with_reducible refine Grow.setReg ?_ _ _
    | with_reducible refine Grow.ite ?_ ?_
    | with_reducible refine Grow.ite_fst ?_ ?_
    | (try lift_lets -underBinder); intro x; refine Grow.cut (x := x) ?_ ?_ <;> [subst x; (clear_value x; intro _)]
    | (try lift_lets -underBinder); intro x; first | subst x | skip
    | split
    | fail_if_no_progress dsimp only
    | fail_if_no_progress with_reducible refine Grow.upd ?_

theorem Grow.readReg_eq {c} {v} (h : Grow s₀ s) {m : Nat} {off : Nat} (e : State.readReg s m off = (c, v)) :
    Grow s₀ c := by
  have k := Grow.readReg h m off
  rwa [e] at k

theorem Grow.plainWrite (h : Grow s₀ s) (off : Nat) (v : Word) :
    Grow s₀ (State.plainWrite s off v) := by
  delta State.plainWrite
  repeat' first
    | with_reducible assumption
    | with_reducible refine Grow.setReg ?_ _ _
    | (try lift_lets -underBinder); intro x; refine Grow.cut (x := x) ?_ ?_ <;> [subst x; (clear_value x; intro _)]
    | (try lift_lets -underBinder); intro x; first | subst x | skip
    | split
    | fail_if_no_progress dsimp only
    | fail_if_no_progress with_reducible refine Grow.upd ?_

theorem Grow.writeLo (h : Grow s₀ s) (m : Nat) (off : Nat) (v : Word) :
    Grow s₀ (State.writeLo s m off v) := by
  delta State.writeLo
  repeat' first
    | with_reducible assumption
    | with_reducible refine Grow.ite ?_ ?_
    | (try lift_lets -underBinder); intro x; refine Grow.cut (x := x) ?_ ?_ <;> [subst x; (clear_value x; intro _)]
    | (try lift_lets -underBinder); intro x; first | subst x | skip
    | fail_if_no_progress with_reducible refine Grow.upd ?_

theorem Grow.writeHi (h : Grow s₀ s) (m : Nat) (off : Nat) (v : Word) :
    Grow s₀ (State.writeHi s m off v) := by
  delta State.writeHi
  repeat' first
    | with_reducible assumption
    | with_reducible apply Grow.plainWrite
    | with_reducible apply Grow.pmcLoad
    | with_reducible apply Grow.preset
    | with_reducible apply Grow.writeInject
    | with_reducible refine Grow.ite ?_ ?_
    | (try lift_lets -underBinder); intro x; refine Grow.cut (x := x) ?_ ?_ <;> [subst x; (clear_value x; intro _)]
    | (try lift_lets -underBinder); intro x; first | subst x | skip
    | split
    | fail_if_no_progress dsimp only
    | fail_if_no_progress with_reducible refine Grow.upd ?_

theorem Grow.opt_ite {p : Prop} [Decidable p] {x y : Option State} (hx : ∀ c ∈ x, Grow s₀ c) (hy : ∀ c ∈ y, Grow s₀ c) :
    ∀ c ∈ (if p then x else y), Grow s₀ c := by split <;> assumption
theorem Grow.opt_some {x : State} (h : Grow s₀ x) : ∀ c ∈ some x, Grow s₀ c := fun _ hc => by cases hc; exact h
theorem Grow.opt_none : ∀ c ∈ (none : Option State), Grow s₀ c := fun _ hc => by cases hc
theorem Grow.opt_map {α : Type} {o : Option α} {f : α → State} (h : ∀ x, Grow s₀ (f x)) : ∀ c ∈ o.map f, Grow s₀ c := fun c hc => by
  cases o with
  | none => cases hc
  | some x => cases hc; exact h x

theorem Grow.ownWrite_mem (h : Grow s₀ s) (m off : Nat) (v : Word) (x : DawnTests) : ∀ c ∈ State.ownWrite s m off v x, Grow s₀ c := by
  delta State.ownWrite
  repeat' first
    | with_reducible refine Grow.opt_ite ?_ ?_
    | with_reducible refine Grow.opt_some ?_
    | with_reducible exact Grow.opt_none
    | (with_reducible refine Grow.opt_map ?_; intro k)
    | split
    | with_reducible assumption
    | with_reducible apply Grow.clockDate
    | with_reducible apply Grow.clockSet
    | with_reducible apply Grow.cqDoorbell
    | with_reducible apply Grow.hlthBypass
    | with_reducible apply Grow.hlthForce
    | with_reducible apply Grow.plainWrite
    | with_reducible apply Grow.raiseMot
    | with_reducible apply Grow.showHost
    | with_reducible apply Grow.sqDoorbell
    | with_reducible apply Grow.writeCalCtrl
    | with_reducible apply Grow.writeCalImport
    | with_reducible apply Grow.writeCmp
    | with_reducible apply Grow.writeDmaCtrl
    | with_reducible apply Grow.writeDumpHead
    | with_reducible apply Grow.writeEnable
    | with_reducible apply Grow.writeFltCtrl
    | with_reducible apply Grow.writeFltPend
    | with_reducible apply Grow.writeKey
    | with_reducible apply Grow.writeLock
    | with_reducible apply Grow.writeLogHead
    | with_reducible apply Grow.writeMotCmd
    | with_reducible apply Grow.writeNvCtrl
    | with_reducible apply Grow.writePmcCtrl
    | with_reducible apply Grow.writeRingCtrl
    | with_reducible apply Grow.writeSysCtrl
    | with_reducible apply Grow.writeTagCtrl
    | with_reducible apply Grow.writeTagStat
    | with_reducible apply Grow.writeUkey
    | with_reducible refine Grow.ite ?_ ?_
    | (try lift_lets -underBinder); intro x; refine Grow.cut (x := x) ?_ ?_ <;> [subst x; (clear_value x; intro _)]
    | (try lift_lets -underBinder); intro x; first | subst x | skip
    | fail_if_no_progress dsimp only
    | fail_if_no_progress with_reducible refine Grow.upd ?_

theorem Grow.ownWrite {c} (h : Grow s₀ s) {m off : Nat} {v : Word} {x : DawnTests} (e : State.ownWrite s m off v x = some c) :
    Grow s₀ c := Grow.ownWrite_mem h m off v x c e

theorem Grow.writeReg (h : Grow s₀ s) (m : Nat) (off : Nat) (v : Word) (x : DawnTests) :
    Grow s₀ (State.writeReg s m off v x) := by
  delta State.writeReg
  repeat' first
    | with_reducible assumption
    | with_reducible refine Grow.ownWrite ?_ (by assumption)
    | with_reducible apply Grow.plainWrite
    | with_reducible apply Grow.writeHi
    | with_reducible apply Grow.writeLo
    | with_reducible refine Grow.ite ?_ ?_
    | split
    | fail_if_no_progress with_reducible refine Grow.upd ?_

theorem Grow.msixWrite (h : Grow s₀ s) (off : Nat) (v : Word) :
    Grow s₀ (State.msixWrite s off v) := by
  delta State.msixWrite
  repeat' first
    | with_reducible assumption
    | with_reducible apply Grow.msix
    | with_reducible refine Grow.ite ?_ ?_
    | (try lift_lets -underBinder); intro x; refine Grow.cut (x := x) ?_ ?_ <;> [subst x; (clear_value x; intro _)]
    | (try lift_lets -underBinder); intro x; first | subst x | skip
    | fail_if_no_progress with_reducible refine Grow.upd ?_

theorem Grow.readRegs (m k : Nat) : ∀ {s} (off : Nat), Grow s₀ s → Grow s₀ (State.readRegs s m off k).1 := by
  induction k with
  | zero => intro s off h; exact h
  | succ k ih => intro s off h; exact ih (off + 4) (h.readReg m off)

theorem Grow.readDone {y : State × List Nat} (h : Grow s₀ y.1) (g : List Nat → List Nat) :
    Grow s₀ (readDone g y).1 := h

theorem Grow.busRead (h : Grow s₀ s) (m : Nat) (off : Nat) (n : Nat) :
    Grow s₀ (State.busRead s m off n).1 := by
  delta State.busRead
  repeat' first
    | with_reducible assumption
    | with_reducible apply Grow.aliasRead
    | with_reducible refine Grow.aliasRead_eq ?_ (by assumption)
    | with_reducible apply Grow.drawn
    | with_reducible apply Grow.raise
    | with_reducible apply Grow.readRegs
    | with_reducible apply Grow.readDone
    | with_reducible refine Grow.readDone_eq ?_ (by assumption)
    | with_reducible refine Grow.ite ?_ ?_
    | with_reducible refine Grow.ite_fst ?_ ?_
    | (try lift_lets -underBinder); intro x; refine Grow.cut (x := x) ?_ ?_ <;> [subst x; (clear_value x; intro _)]
    | (try lift_lets -underBinder); intro x; first | subst x | skip
    | split

theorem Grow.busRead_eq {c} {v} (h : Grow s₀ s) {m : Nat} {off : Nat} {n : Nat} (e : State.busRead s m off n = (c, v)) :
    Grow s₀ c := by
  have k := Grow.busRead h m off n
  rwa [e] at k

theorem Grow.busWrite (h : Grow s₀ s) (m : Nat) (off : Nat) (bs : List Nat) (x : DawnTests) :
    Grow s₀ (State.busWrite s m off bs x) := by
  delta State.busWrite
  repeat' first
    | with_reducible assumption
    | with_reducible apply Grow.aliasWrite
    | with_reducible apply Grow.msixWrite
    | with_reducible apply Grow.putStaging
    | with_reducible apply Grow.raise
    | with_reducible apply Grow.writeReg
    | with_reducible refine Grow.ite ?_ ?_
    | (try lift_lets -underBinder); intro x; refine Grow.cut (x := x) ?_ ?_ <;> [subst x; (clear_value x; intro _)]
    | (try lift_lets -underBinder); intro x; first | subst x | skip

/-! ### Machine/Register.lean -/

theorem Grow.execRegisterWrite (h : Grow s₀ s) (t : Nat) (m : Master) (off : Nat) (data : List Nat) (x : DawnTests) :
    ∃ s₁, execRegisterWrite t m off data x s = .next s₁ ∧ Grow s₀ s₁ := by
  refine ⟨_, rfl, ?_⟩
  repeat' first
    | with_reducible assumption
    | with_reducible apply Grow.at
    | with_reducible apply Grow.busWrite

theorem Grow.answerRead (h : Grow s₀ s) (m : Nat) (off : Nat) (n : Nat) :
    Grow s₀ (State.answerRead s m off n) := by
  delta State.answerRead
  repeat' first
    | with_reducible assumption
    | with_reducible apply Grow.busRead
    | with_reducible refine Grow.busRead_eq ?_ (by assumption)
    | with_reducible apply Grow.emit
    | (try lift_lets -underBinder); intro x; refine Grow.cut (x := x) ?_ ?_ <;> [subst x; (clear_value x; intro _)]
    | (try lift_lets -underBinder); intro x; first | subst x | skip
    | split

theorem Grow.execLoReadSnapshot (h : Grow s₀ s) (t : Nat) (m : Master) (off : Nat) (n : Nat) :
    ∃ s₁, execLoReadSnapshot t m off n s = .next s₁ ∧ Grow s₀ s₁ := by
  refine ⟨_, rfl, ?_⟩
  repeat' first
    | with_reducible assumption
    | with_reducible apply Grow.answerRead
    | with_reducible apply Grow.at

theorem Grow.execRcRead (h : Grow s₀ s) (t : Nat) (m : Master) (off : Nat) (n : Nat) :
    ∃ s₁, execRcRead t m off n s = .next s₁ ∧ Grow s₀ s₁ := by
  refine ⟨_, rfl, ?_⟩
  repeat' first
    | with_reducible assumption
    | with_reducible apply Grow.answerRead
    | with_reducible apply Grow.at

theorem Grow.execClkDateRead (h : Grow s₀ s) (t : Nat) (m : Master) :
    ∃ s₁, execClkDateRead t m s = .next s₁ ∧ Grow s₀ s₁ := by
  refine ⟨_, rfl, ?_⟩
  repeat' first
    | with_reducible assumption
    | with_reducible apply Grow.answerRead
    | with_reducible apply Grow.at

theorem Grow.execHiWritePair (h : Grow s₀ s) (t : Nat) (m : Master) (off : Nat) (v : Word) :
    ∃ s₁, execHiWritePair t m off v s = .next s₁ ∧ Grow s₀ s₁ := by
  refine ⟨_, rfl, ?_⟩
  repeat' first
    | with_reducible assumption
    | with_reducible apply Grow.at
    | with_reducible apply Grow.onWrite
    | with_reducible apply Grow.writeReg
    | with_reducible refine Grow.ite ?_ ?_
    | (try lift_lets -underBinder); intro x; refine Grow.cut (x := x) ?_ ?_ <;> [subst x; (clear_value x; intro _)]
    | (try lift_lets -underBinder); intro x; first | subst x | skip

theorem Grow.execBar2Access (h : Grow s₀ s) (t : Nat) (a : Nat) (n : Nat) (data : Option (List Nat)) (x : DawnTests) :
    ∃ s₁, execBar2Access t a n data x s = .next s₁ ∧ Grow s₀ s₁ := by
  refine ⟨_, rfl, ?_⟩
  repeat' first
    | with_reducible assumption
    | with_reducible refine Grow.addF ?_ _ _
    | with_reducible apply Grow.answerRead
    | with_reducible apply Grow.at
    | with_reducible apply Grow.busWrite
    | with_reducible apply Grow.emit
    | with_reducible apply Grow.sendReq
    | with_reducible refine Grow.ite ?_ ?_
    | (try lift_lets -underBinder); intro x; refine Grow.cut (x := x) ?_ ?_ <;> [subst x; (clear_value x; intro _)]
    | (try lift_lets -underBinder); intro x; first | subst x | skip
    | split
    | fail_if_no_progress dsimp only
    | fail_if_no_progress with_reducible refine Grow.upd ?_

theorem Grow.execRegRd (h : Grow s₀ s) (t : Nat) (port : Nat) (p : RingPkt) :
    ∃ s₁, execRegRd t port p s = .next s₁ ∧ Grow s₀ s₁ := by
  refine ⟨_, rfl, ?_⟩
  repeat' first
    | with_reducible assumption
    | with_reducible apply Grow.at
    | with_reducible apply Grow.busRead
    | with_reducible refine Grow.busRead_eq ?_ (by assumption)
    | with_reducible apply Grow.packetIn
    | with_reducible apply Grow.sendRsp
    | with_reducible refine Grow.ite ?_ ?_
    | (try lift_lets -underBinder); intro x; refine Grow.cut (x := x) ?_ ?_ <;> [subst x; (clear_value x; intro _)]
    | (try lift_lets -underBinder); intro x; first | subst x | skip
    | split

theorem Grow.execRegWr (h : Grow s₀ s) (t : Nat) (port : Nat) (p : RingPkt) (x : DawnTests) :
    ∃ s₁, execRegWr t port p x s = .next s₁ ∧ Grow s₀ s₁ := by
  refine ⟨_, rfl, ?_⟩
  repeat' first
    | with_reducible assumption
    | with_reducible apply Grow.at
    | with_reducible apply Grow.busWrite
    | with_reducible apply Grow.reqIn
    | with_reducible apply Grow.sendRsp
    | with_reducible refine Grow.ite ?_ ?_
    | (try lift_lets -underBinder); intro x; refine Grow.cut (x := x) ?_ ?_ <;> [subst x; (clear_value x; intro _)]
    | (try lift_lets -underBinder); intro x; first | subst x | skip

/-! ### Machine/Service.lean -/

theorem Grow.tap (h : Grow s₀ s) (ir : Nat) (g : State → State) (h_g : ∀ s, Grow s₀ s → Grow s₀ (g s)) :
    Grow s₀ (State.tap s ir g) := by
  delta State.tap
  repeat' first
    | with_reducible assumption
    | with_reducible apply h_g
    | with_reducible refine Grow.ite ?_ ?_
    | fail_if_no_progress with_reducible refine Grow.upd ?_

theorem Grow.execExtest (h : Grow s₀ s) (t : Nat) :
    ∃ s₁, execExtest t s = .next s₁ ∧ Grow s₀ s₁ := by
  refine ⟨_, rfl, ?_⟩
  repeat' first
    | with_reducible assumption
    | with_reducible apply Grow.at
    | with_reducible apply Grow.tap
    | (try lift_lets -underBinder); intro x; refine Grow.cut (x := x) ?_ ?_ <;> [subst x; (clear_value x; intro _)]
    | (try lift_lets -underBinder); intro x; first | subst x | skip

theorem Grow.execSamplePreload (h : Grow s₀ s) (t : Nat) :
    ∃ s₁, execSamplePreload t s = .next s₁ ∧ Grow s₀ s₁ := by
  refine ⟨_, rfl, ?_⟩
  repeat' first
    | with_reducible assumption
    | with_reducible apply Grow.at
    | with_reducible apply Grow.tap
    | (try lift_lets -underBinder); intro x; refine Grow.cut (x := x) ?_ ?_ <;> [subst x; (clear_value x; intro _)]
    | (try lift_lets -underBinder); intro x; first | subst x | skip

theorem Grow.execBypass (h : Grow s₀ s) (t : Nat) :
    ∃ s₁, execBypass t s = .next s₁ ∧ Grow s₀ s₁ := by
  refine ⟨_, rfl, ?_⟩
  repeat' first
    | with_reducible assumption
    | with_reducible apply Grow.at
    | with_reducible apply Grow.tap
    | (try lift_lets -underBinder); intro x; refine Grow.cut (x := x) ?_ ?_ <;> [subst x; (clear_value x; intro _)]
    | (try lift_lets -underBinder); intro x; first | subst x | skip

theorem Grow.fwState (h : Grow s₀ s) (c : Nat) :
    Grow s₀ (State.fwState s c) := by
  delta State.fwState
  repeat' first
    | with_reducible assumption
    | fail_if_no_progress with_reducible refine Grow.upd ?_

theorem Grow.serviceAct (h : Grow s₀ s) (g : State → State) (h_g : ∀ s, Grow s₀ s → Grow s₀ (g s)) :
    Grow s₀ (State.serviceAct s g) := by
  delta State.serviceAct
  repeat' first
    | with_reducible assumption
    | with_reducible apply h_g
    | with_reducible apply Grow.fwState
    | with_reducible refine Grow.ite ?_ ?_

theorem Grow.execFwStatus (h : Grow s₀ s) (t : Nat) :
    ∃ s₁, execFwStatus t s = .next s₁ ∧ Grow s₀ s₁ := by
  refine ⟨_, rfl, ?_⟩
  repeat' first
    | with_reducible assumption
    | with_reducible apply Grow.at
    | with_reducible apply Grow.emit
    | with_reducible apply Grow.tap
    | with_reducible refine Grow.ite ?_ ?_
    | (try lift_lets -underBinder); intro x; refine Grow.cut (x := x) ?_ ?_ <;> [subst x; (clear_value x; intro _)]
    | (try lift_lets -underBinder); intro x; first | subst x | skip

theorem Grow.execFwLoad (h : Grow s₀ s) (t : Nat) (w : Nat) :
    ∃ s₁, execFwLoad t w s = .next s₁ ∧ Grow s₀ s₁ := by
  refine ⟨_, rfl, ?_⟩
  repeat' first
    | with_reducible assumption
    | with_reducible apply Grow.at
    | with_reducible apply Grow.fwState
    | with_reducible apply Grow.serviceAct
    | with_reducible apply Grow.tap
    | with_reducible refine Grow.ite ?_ ?_
    | (try lift_lets -underBinder); intro x; refine Grow.cut (x := x) ?_ ?_ <;> [subst x; (clear_value x; intro _)]
    | (try lift_lets -underBinder); intro x; first | subst x | skip
    | fail_if_no_progress with_reducible refine Grow.upd ?_

theorem Grow.execFwCommit (h : Grow s₀ s) (t : Nat) (v : Nat) :
    ∃ s₁, execFwCommit t v s = .next s₁ ∧ Grow s₀ s₁ := by
  refine ⟨_, rfl, ?_⟩
  repeat' first
    | with_reducible assumption
    | with_reducible apply Grow.at
    | with_reducible apply Grow.fwState
    | with_reducible apply Grow.serviceAct
    | with_reducible apply Grow.tap
    | (try lift_lets -underBinder); intro x; refine Grow.cut (x := x) ?_ ?_ <;> [subst x; (clear_value x; intro _)]
    | (try lift_lets -underBinder); intro x; first | subst x | skip
    | fail_if_no_progress with_reducible refine Grow.upd ?_

theorem Grow.execFwCommitComplete (h : Grow s₀ s) (t : Nat) (good : Bool) :
    ∃ s₁, execFwCommitComplete t good s = .next s₁ ∧ Grow s₀ s₁ := by
  refine ⟨_, rfl, ?_⟩
  repeat' first
    | with_reducible assumption
    | with_reducible apply Grow.at
    | with_reducible apply Grow.fwState
    | with_reducible refine Grow.ite ?_ ?_
    | (try lift_lets -underBinder); intro x; refine Grow.cut (x := x) ?_ ?_ <;> [subst x; (clear_value x; intro _)]
    | (try lift_lets -underBinder); intro x; first | subst x | skip
    | fail_if_no_progress with_reducible refine Grow.upd ?_

theorem Grow.execLockClear (h : Grow s₀ s) (t : Nat) (v : Nat) :
    ∃ s₁, execLockClear t v s = .next s₁ ∧ Grow s₀ s₁ := by
  refine ⟨_, rfl, ?_⟩
  repeat' first
    | with_reducible assumption
    | with_reducible apply Grow.at
    | with_reducible apply Grow.fwState
    | with_reducible apply Grow.serviceAct
    | with_reducible apply Grow.tap
    | with_reducible refine Grow.ite ?_ ?_
    | (try lift_lets -underBinder); intro x; refine Grow.cut (x := x) ?_ ?_ <;> [subst x; (clear_value x; intro _)]
    | (try lift_lets -underBinder); intro x; first | subst x | skip
    | fail_if_no_progress with_reducible refine Grow.upd ?_

theorem Grow.execArpRequest (h : Grow s₀ s) (t : Nat) (a : Nat) :
    ∃ s₁, execArpRequest t a s = .next s₁ ∧ Grow s₀ s₁ := by
  refine ⟨_, rfl, ?_⟩
  repeat' first
    | with_reducible assumption
    | with_reducible apply Grow.at
    | with_reducible apply Grow.emit
    | with_reducible refine Grow.ite ?_ ?_
    | (try lift_lets -underBinder); intro x; refine Grow.cut (x := x) ?_ ?_ <;> [subst x; (clear_value x; intro _)]
    | (try lift_lets -underBinder); intro x; first | subst x | skip

theorem Grow.execIcmpEcho (h : Grow s₀ s) (t : Nat) (src : Nat) (data : List Nat) :
    ∃ s₁, execIcmpEcho t src data s = .next s₁ ∧ Grow s₀ s₁ := by
  refine ⟨_, rfl, ?_⟩
  repeat' first
    | with_reducible assumption
    | with_reducible apply Grow.at
    | with_reducible apply Grow.emit
    | with_reducible refine Grow.ite ?_ ?_
    | (try lift_lets -underBinder); intro x; refine Grow.cut (x := x) ?_ ?_ <;> [subst x; (clear_value x; intro _)]
    | (try lift_lets -underBinder); intro x; first | subst x | skip

theorem Grow.execRegisterReadService (h : Grow s₀ s) (t : Nat) (src : Nat) (port : Nat) (data : List Nat) :
    ∃ s₁, execRegisterReadService t src port data s = .next s₁ ∧ Grow s₀ s₁ := by
  refine ⟨_, rfl, ?_⟩
  repeat' first
    | with_reducible assumption
    | with_reducible apply Grow.at
    | with_reducible apply Grow.drawn
    | with_reducible apply Grow.emit
    | with_reducible refine Grow.ite ?_ ?_
    | (try lift_lets -underBinder); intro x; refine Grow.cut (x := x) ?_ ?_ <;> [subst x; (clear_value x; intro _)]
    | (try lift_lets -underBinder); intro x; first | subst x | skip

theorem Grow.modFluid (h : Grow s₀ s) (k : Nat) (g : Fluid → Fluid) :
    Grow s₀ (State.modFluid s k g) := by
  delta State.modFluid
  repeat' first
    | with_reducible assumption
    | with_reducible refine Grow.ite ?_ ?_
    | fail_if_no_progress with_reducible refine Grow.upd ?_

theorem Grow.fluidNext (h : Grow s₀ s) (k : Nat) :
    Grow s₀ (State.fluidNext s k) := by
  delta State.fluidNext
  repeat' first
    | with_reducible assumption
    | with_reducible apply Grow.emit
    | with_reducible apply Grow.modFluid
    | (try lift_lets -underBinder); intro x; refine Grow.cut (x := x) ?_ ?_ <;> [subst x; (clear_value x; intro _)]
    | (try lift_lets -underBinder); intro x; first | subst x | skip
    | split
    | fail_if_no_progress with_reducible refine Grow.upd ?_

theorem Grow.execFluidBridgeDatagram (h : Grow s₀ s) (t : Nat) (bus : Nat) (src : Nat) (port : Nat) (data : List Nat) (busy : Bool) :
    ∃ s₁, execFluidBridgeDatagram t bus src port data busy s = .next s₁ ∧ Grow s₀ s₁ := by
  refine ⟨_, rfl, ?_⟩
  repeat' first
    | with_reducible assumption
    | with_reducible apply Grow.at
    | with_reducible apply Grow.fluidNext
    | with_reducible apply Grow.modFluid
    | with_reducible refine Grow.ite ?_ ?_
    | (try lift_lets -underBinder); intro x; refine Grow.cut (x := x) ?_ ?_ <;> [subst x; (clear_value x; intro _)]
    | (try lift_lets -underBinder); intro x; first | subst x | skip
    | fail_if_no_progress with_reducible refine Grow.upd ?_

theorem Grow.execFluidBusIdle (h : Grow s₀ s) (t : Nat) (bus : Nat) (data : List Nat) :
    ∃ s₁, execFluidBusIdle t bus data s = .next s₁ ∧ Grow s₀ s₁ := by
  refine ⟨_, rfl, ?_⟩
  repeat' first
    | with_reducible assumption
    | with_reducible apply Grow.at
    | with_reducible apply Grow.emit
    | with_reducible apply Grow.fluidNext
    | with_reducible apply Grow.modFluid
    | with_reducible refine Grow.ite ?_ ?_
    | with_reducible refine Grow.foldl ?_ ?_
    | (try lift_lets -underBinder); intro x; refine Grow.cut (x := x) ?_ ?_ <;> [subst x; (clear_value x; intro _)]
    | (try lift_lets -underBinder); intro x; first | subst x | skip
    | split
    | fail_if_no_progress dsimp only
    | fail_if_no_progress with_reducible refine Grow.upd ?_

theorem Grow.execEncoderSupplyShort (h : Grow s₀ s) (t : Nat) (n : Nat) :
    ∃ s₁, execEncoderSupplyShort t n s = .next s₁ ∧ Grow s₀ s₁ := by
  refine ⟨_, rfl, ?_⟩
  repeat' first
    | with_reducible assumption
    | with_reducible apply Grow.at
    | with_reducible apply Grow.raise
    | with_reducible refine Grow.ite ?_ ?_
    | (try lift_lets -underBinder); intro x; refine Grow.cut (x := x) ?_ ?_ <;> [subst x; (clear_value x; intro _)]
    | (try lift_lets -underBinder); intro x; first | subst x | skip

theorem Grow.execCueVinLow (h : Grow s₀ s) (t : Nat) (c : Nat) :
    ∃ s₁, execCueVinLow t c s = .next s₁ ∧ Grow s₀ s₁ := by
  refine ⟨_, rfl, ?_⟩
  repeat' first
    | with_reducible assumption
    | with_reducible apply Grow.at
    | with_reducible apply Grow.showCues
    | with_reducible refine Grow.ite ?_ ?_
    | (try lift_lets -underBinder); intro x; refine Grow.cut (x := x) ?_ ?_ <;> [subst x; (clear_value x; intro _)]
    | (try lift_lets -underBinder); intro x; first | subst x | skip
    | fail_if_no_progress with_reducible refine Grow.upd ?_

theorem Grow.execCueVinRestored (h : Grow s₀ s) (t : Nat) (c : Nat) :
    ∃ s₁, execCueVinRestored t c s = .next s₁ ∧ Grow s₀ s₁ := by
  refine ⟨_, rfl, ?_⟩
  repeat' first
    | with_reducible assumption
    | with_reducible apply Grow.at
    | with_reducible apply Grow.showCues
    | (try lift_lets -underBinder); intro x; refine Grow.cut (x := x) ?_ ?_ <;> [subst x; (clear_value x; intro _)]
    | (try lift_lets -underBinder); intro x; first | subst x | skip
    | fail_if_no_progress with_reducible refine Grow.upd ?_

theorem Grow.execCuePulseEnd (h : Grow s₀ s) (t : Nat) (n : Nat) :
    ∃ s₁, execCuePulseEnd t n s = .next s₁ ∧ Grow s₀ s₁ := by
  refine ⟨_, rfl, ?_⟩
  repeat' first
    | with_reducible assumption
    | with_reducible apply Grow.at
    | with_reducible apply Grow.cuePulse
    | with_reducible apply Grow.driveCue
    | with_reducible refine Grow.ite ?_ ?_
    | (try lift_lets -underBinder); intro x; refine Grow.cut (x := x) ?_ ?_ <;> [subst x; (clear_value x; intro _)]
    | (try lift_lets -underBinder); intro x; first | subst x | skip
    | split
    | fail_if_no_progress dsimp only
    | fail_if_no_progress with_reducible refine Grow.upd ?_

theorem Grow.execCueOutputOverload (h : Grow s₀ s) (t : Nat) (n : Nat) :
    ∃ s₁, execCueOutputOverload t n s = .next s₁ ∧ Grow s₀ s₁ := by
  refine ⟨_, rfl, ?_⟩
  repeat' first
    | with_reducible assumption
    | with_reducible apply Grow.at
    | with_reducible apply Grow.driveCue
    | with_reducible refine Grow.ite ?_ ?_
    | (try lift_lets -underBinder); intro x; refine Grow.cut (x := x) ?_ ?_ <;> [subst x; (clear_value x; intro _)]
    | (try lift_lets -underBinder); intro x; first | subst x | skip
    | fail_if_no_progress with_reducible refine Grow.upd ?_

theorem Grow.execCueOverloadRetry (h : Grow s₀ s) (t : Nat) (n : Nat) :
    ∃ s₁, execCueOverloadRetry t n s = .next s₁ ∧ Grow s₀ s₁ := by
  refine ⟨_, rfl, ?_⟩
  repeat' first
    | with_reducible assumption
    | with_reducible apply Grow.at
    | with_reducible apply Grow.driveCue
    | with_reducible refine Grow.ite ?_ ?_
    | (try lift_lets -underBinder); intro x; refine Grow.cut (x := x) ?_ ?_ <;> [subst x; (clear_value x; intro _)]
    | (try lift_lets -underBinder); intro x; first | subst x | skip
    | split
    | fail_if_no_progress dsimp only
    | fail_if_no_progress with_reducible refine Grow.upd ?_

theorem Grow.startPulse (h : Grow s₀ s) (len : Nat) :
    Grow s₀ (State.startPulse s len) := by
  delta State.startPulse
  repeat' first
    | with_reducible assumption
    | with_reducible apply Grow.enterNoon
    | with_reducible apply Grow.noPattern
    | with_reducible apply Grow.raise
    | with_reducible refine Grow.ite ?_ ?_
    | (try lift_lets -underBinder); intro x; refine Grow.cut (x := x) ?_ ?_ <;> [subst x; (clear_value x; intro _)]
    | (try lift_lets -underBinder); intro x; first | subst x | skip
    | fail_if_no_progress with_reducible refine Grow.upd ?_

theorem Grow.cueFunction (h : Grow s₀ s) (n : Nat) :
    Grow s₀ (State.cueFunction s n) := by
  delta State.cueFunction
  repeat' first
    | with_reducible assumption
    | with_reducible apply Grow.closeWin
    | with_reducible refine Grow.incF ?_ _ _
    | with_reducible apply Grow.openWin
    | with_reducible apply Grow.runRequest
    | with_reducible apply Grow.stopRequest
    | (try lift_lets -underBinder); intro x; refine Grow.cut (x := x) ?_ ?_ <;> [subst x; (clear_value x; intro _)]
    | (try lift_lets -underBinder); intro x; first | subst x | skip
    | split
    | fail_if_no_progress dsimp only
    | fail_if_no_progress with_reducible refine Grow.upd ?_

theorem Grow.execCueInputEdge (h : Grow s₀ s) (t : Nat) (n : Nat) (level : Bool) :
    ∃ s₁, execCueInputEdge t n level s = .next s₁ ∧ Grow s₀ s₁ := by
  refine ⟨_, rfl, ?_⟩
  repeat' first
    | with_reducible assumption
    | with_reducible apply Grow.at
    | with_reducible apply Grow.cueFunction
    | with_reducible apply Grow.emitSrc
    | with_reducible apply Grow.raise
    | with_reducible apply Grow.startPulse
    | with_reducible refine Grow.ite ?_ ?_
    | (try lift_lets -underBinder); intro x; refine Grow.cut (x := x) ?_ ?_ <;> [subst x; (clear_value x; intro _)]
    | (try lift_lets -underBinder); intro x; first | subst x | skip
    | split
    | fail_if_no_progress dsimp only
    | fail_if_no_progress with_reducible refine Grow.upd ?_

theorem Grow.execPllLossOfLock (h : Grow s₀ s) (t : Nat) (die : Nat) :
    ∃ s₁, execPllLossOfLock t die s = .next s₁ ∧ Grow s₀ s₁ := by
  refine ⟨_, rfl, ?_⟩
  repeat' first
    | with_reducible assumption
    | with_reducible apply Grow.at
    | with_reducible apply Grow.raiseAs
    | with_reducible refine Grow.ite ?_ ?_
    | (try lift_lets -underBinder); intro x; refine Grow.cut (x := x) ?_ ?_ <;> [subst x; (clear_value x; intro _)]
    | (try lift_lets -underBinder); intro x; first | subst x | skip
    | fail_if_no_progress with_reducible refine Grow.upd ?_

theorem Grow.execPllRelock (h : Grow s₀ s) (t : Nat) (die : Nat) :
    ∃ s₁, execPllRelock t die s = .next s₁ ∧ Grow s₀ s₁ := by
  refine ⟨_, rfl, ?_⟩
  repeat' first
    | with_reducible assumption
    | with_reducible apply Grow.at
    | with_reducible refine Grow.ite ?_ ?_
    | (try lift_lets -underBinder); intro x; refine Grow.cut (x := x) ?_ ?_ <;> [subst x; (clear_value x; intro _)]
    | (try lift_lets -underBinder); intro x; first | subst x | skip
    | fail_if_no_progress with_reducible refine Grow.upd ?_

theorem Grow.execLockstepDisagreement (h : Grow s₀ s) (t : Nat) (pair : Nat) (pc : Nat) :
    ∃ s₁, execLockstepDisagreement t pair pc s = .next s₁ ∧ Grow s₀ s₁ := by
  refine ⟨_, rfl, ?_⟩
  repeat' first
    | with_reducible assumption
    | with_reducible apply Grow.at
    | with_reducible apply Grow.raiseAs
    | with_reducible refine Grow.ite ?_ ?_
    | (try lift_lets -underBinder); intro x; refine Grow.cut (x := x) ?_ ?_ <;> [subst x; (clear_value x; intro _)]
    | (try lift_lets -underBinder); intro x; first | subst x | skip

theorem Grow.execPerstRelease (h : Grow s₀ s) (t : Nat) (c : HostCfg) :
    ∃ s₁, execPerstRelease t c s = .next s₁ ∧ Grow s₀ s₁ := by
  refine ⟨_, rfl, ?_⟩
  repeat' first
    | with_reducible assumption
    | with_reducible apply Grow.at
    | with_reducible apply Grow.showHost
    | with_reducible refine Grow.ite ?_ ?_
    | (try lift_lets -underBinder); intro x; refine Grow.cut (x := x) ?_ ?_ <;> [subst x; (clear_value x; intro _)]
    | (try lift_lets -underBinder); intro x; first | subst x | skip
    | fail_if_no_progress with_reducible refine Grow.upd ?_

end Sys2Proof.Machine
end

