-- ==== Sys2Proof/Laws/SteadyCommands.lean ====
section
/-!
SUPPORT. The operations and commands that leave the SYS_STATE register as it is (R42, R43). Each proof walks through the
operation's own structure and cites the lemmas of what it calls.
-/
set_option linter.unusedTactic false
set_option linter.unreachableTactic false
set_option linter.unusedVariables false
namespace Sys2Proof.Machine
set_option Elab.async false
variable {s₀ s : State}

/-! ### Machine/Composition.lean -/

theorem Steady.renderStart (h : Steady s₀ s) (w : Nat) :
    Steady s₀ (State.renderStart s w) := by
  delta State.renderStart
  repeat' first
    | with_reducible assumption
    | with_reducible apply Steady.modWin
    | with_reducible apply Steady.raise
    | with_reducible refine Steady.setF ?_ _ _
    | with_reducible apply Steady.showComp
    | with_reducible refine Steady.ite ?_ ?_
    | with_reducible refine Steady.foldl ?_ ?_
    | (try lift_lets -underBinder); intro x; refine Steady.cut (x := x) ?_ ?_ <;> [subst x; (clear_value x; intro _)]
    | (try lift_lets -underBinder); intro x; first | subst x | skip
    | split
    | fail_if_no_progress dsimp only
    | fail_if_no_progress with_reducible refine Steady.upd ?_

theorem Steady.execDocumentRenderStart (h : Steady s₀ s) (t : Nat) (w : Nat) :
    ∃ s₁, execDocumentRenderStart t w s = .next s₁ ∧ Steady s₀ s₁ := by
  refine ⟨_, rfl, ?_⟩
  repeat' first
    | with_reducible assumption
    | with_reducible apply Steady.at
    | with_reducible apply Steady.renderStart

theorem Steady.renderNotes (h : Steady s₀ s) (d : RDoc) :
    Steady s₀ (State.renderNotes s d) := by
  delta State.renderNotes
  repeat' first
    | with_reducible assumption
    | with_reducible apply Steady.raise
    | with_reducible refine Steady.ite ?_ ?_
    | with_reducible refine Steady.foldl ?_ ?_
    | (try lift_lets -underBinder); intro x; refine Steady.cut (x := x) ?_ ?_ <;> [subst x; (clear_value x; intro _)]
    | (try lift_lets -underBinder); intro x; first | subst x | skip
    | split
    | fail_if_no_progress dsimp only
    | fail_if_no_progress with_reducible refine Steady.upd ?_

theorem Steady.rendered (h : Steady s₀ s) (d : RDoc) :
    Steady s₀ (State.rendered s d) := by
  delta State.rendered
  repeat' first
    | with_reducible assumption
    | with_reducible apply Steady.count
    | with_reducible apply Steady.modDoc
    | with_reducible apply Steady.releaseKept
    | with_reducible apply Steady.renderNotes
    | with_reducible apply Steady.serialAdvance
    | with_reducible apply Steady.showComp
    | with_reducible refine Steady.ite ?_ ?_
    | with_reducible refine Steady.foldl ?_ ?_
    | (try lift_lets -underBinder); intro x; refine Steady.cut (x := x) ?_ ?_ <;> [subst x; (clear_value x; intro _)]
    | (try lift_lets -underBinder); intro x; first | subst x | skip
    | fail_if_no_progress with_reducible refine Steady.upd ?_

theorem Steady.execDocumentRendered (h : Steady s₀ s) (t : Nat) (w : Nat) :
    ∃ s₁, execDocumentRendered t w s = .next s₁ ∧ Steady s₀ s₁ := by
  refine ⟨_, rfl, ?_⟩
  repeat' first
    | with_reducible assumption
    | with_reducible apply Steady.at
    | with_reducible apply Steady.rendered
    | with_reducible refine Steady.ite ?_ ?_
    | (try lift_lets -underBinder); intro x; refine Steady.cut (x := x) ?_ ?_ <;> [subst x; (clear_value x; intro _)]
    | (try lift_lets -underBinder); intro x; first | subst x | skip
    | split
    | fail_if_no_progress dsimp only
    | fail_if_no_progress with_reducible refine Steady.upd ?_

theorem Steady.takeLine (h : Steady s₀ s) (n : Nat) (e : Nat) (d : RDoc) (j : Nat) :
    Steady s₀ (State.takeLine s n e d j) := by
  delta State.takeLine
  repeat' first
    | with_reducible assumption
    | with_reducible apply Steady.modDoc
    | with_reducible apply Steady.showComp
    | with_reducible apply Steady.tagMany
    | with_reducible apply Steady.writeLine
    | with_reducible refine Steady.ite ?_ ?_
    | (try lift_lets -underBinder); intro x; refine Steady.cut (x := x) ?_ ?_ <;> [subst x; (clear_value x; intro _)]
    | (try lift_lets -underBinder); intro x; first | subst x | skip
    | split
    | fail_if_no_progress dsimp only
    | fail_if_no_progress with_reducible refine Steady.upd ?_

theorem Steady.prefillTile (h : Steady s₀ s) (n : Nat) (e : Nat) (d : RDoc) :
    Steady s₀ (State.prefillTile s n e d) := by
  delta State.prefillTile
  repeat' first
    | with_reducible assumption
    | with_reducible apply Steady.modDoc
    | with_reducible apply Steady.modLane
    | with_reducible apply Steady.takeLine
    | with_reducible apply Steady.tryDeliver
    | with_reducible refine Steady.foldl ?_ ?_
    | (try lift_lets -underBinder); intro x; refine Steady.cut (x := x) ?_ ?_ <;> [subst x; (clear_value x; intro _)]
    | (try lift_lets -underBinder); intro x; first | subst x | skip
    | fail_if_no_progress with_reducible refine Steady.upd ?_

theorem Steady.execPrefillComplete (h : Steady s₀ s) (t : Nat) (n : Nat) :
    ∃ s₁, execPrefillComplete t n s = .next s₁ ∧ Steady s₀ s₁ := by
  refine ⟨_, rfl, ?_⟩
  repeat' first
    | with_reducible assumption
    | with_reducible apply Steady.at
    | with_reducible apply Steady.prefillTile
    | with_reducible refine Steady.ite ?_ ?_
    | (try lift_lets -underBinder); intro x; refine Steady.cut (x := x) ?_ ?_ <;> [subst x; (clear_value x; intro _)]
    | (try lift_lets -underBinder); intro x; first | subst x | skip
    | split
    | fail_if_no_progress dsimp only
    | fail_if_no_progress with_reducible refine Steady.upd ?_

theorem Steady.execLineBufferWrite (h : Steady s₀ s) (t : Nat) (n : Nat) (j : Nat) :
    ∃ s₁, execLineBufferWrite t n j s = .next s₁ ∧ Steady s₀ s₁ := by
  refine ⟨_, rfl, ?_⟩
  repeat' first
    | with_reducible assumption
    | with_reducible apply Steady.at
    | with_reducible apply Steady.takeLine
    | with_reducible refine Steady.ite ?_ ?_
    | (try lift_lets -underBinder); intro x; refine Steady.cut (x := x) ?_ ?_ <;> [subst x; (clear_value x; intro _)]
    | (try lift_lets -underBinder); intro x; first | subst x | skip
    | split
    | fail_if_no_progress dsimp only
    | fail_if_no_progress with_reducible refine Steady.upd ?_

/-! ### Machine/Lane.lean -/

theorem Steady.underrun (h : Steady s₀ s) (n : Nat) (e : Nat) (f : Nat) :
    Steady s₀ (State.underrun s n e f) := by
  delta State.underrun
  repeat' first
    | with_reducible assumption
    | with_reducible refine Steady.addF ?_ _ _
    | with_reducible apply Steady.count
    | with_reducible apply Steady.modLane
    | with_reducible apply Steady.raiseLane
    | with_reducible refine Steady.setF ?_ _ _
    | with_reducible refine Steady.ite ?_ ?_
    | (try lift_lets -underBinder); intro x; refine Steady.cut (x := x) ?_ ?_ <;> [subst x; (clear_value x; intro _)]
    | (try lift_lets -underBinder); intro x; first | subst x | skip
    | fail_if_no_progress with_reducible refine Steady.upd ?_

theorem Steady.header (h : Steady s₀ s) (n : Nat) (f : Nat) (d : Doc) :
    Steady s₀ (State.header s n f d).1 := by
  delta State.header
  repeat' first
    | with_reducible assumption
    | with_reducible apply Steady.modTh
    | with_reducible apply Steady.raiseLane
    | with_reducible apply Steady.senseVpp
    | with_reducible refine Steady.senseVpp_eq ?_ (by assumption)
    | with_reducible refine Steady.setF ?_ _ _
    | with_reducible refine Steady.setFields_nil ?_
    | with_reducible refine Steady.setFields_cons ?_
    | with_reducible refine Steady.setF ?_ _ _
    | with_reducible refine Steady.ite ?_ ?_
    | with_reducible refine Steady.ite_fst ?_ ?_
    | (try lift_lets -underBinder); intro x; refine Steady.cut (x := x) ?_ ?_ <;> [subst x; (clear_value x; intro _)]
    | (try lift_lets -underBinder); intro x; first | subst x | skip
    | split
    | fail_if_no_progress dsimp only
    | fail_if_no_progress with_reducible refine Steady.upd ?_

theorem Steady.header_eq {c} {v} (h : Steady s₀ s) {n : Nat} {f : Nat} {d : Doc} (e : State.header s n f d = (c, v)) :
    Steady s₀ c := by
  have k := Steady.header h n f d
  rwa [e] at k

theorem Steady.tagCycle (h : Steady s₀ s) (e : Nat) (f : Nat) (d : Doc) :
    Steady s₀ (State.tagCycle s e f d) := by
  delta State.tagCycle
  repeat' first
    | with_reducible assumption
    | with_reducible apply Steady.modTag
    | with_reducible apply Steady.tagMany
    | with_reducible refine Steady.ite ?_ ?_
    | with_reducible refine Steady.foldl ?_ ?_
    | (try lift_lets -underBinder); intro x; refine Steady.cut (x := x) ?_ ?_ <;> [subst x; (clear_value x; intro _)]
    | (try lift_lets -underBinder); intro x; first | subst x | skip

theorem Steady.prepare (h : Steady s₀ s) (n : Nat) (e : Nat) (f : Nat) (r : TileRec) (d : Doc) :
    Steady s₀ (State.prepare s n e f r d) := by
  delta State.prepare
  repeat' first
    | with_reducible assumption
    | with_reducible refine Steady.addF ?_ _ _
    | with_reducible apply Steady.count
    | with_reducible apply Steady.eventSweep
    | with_reducible refine Steady.eventSweep_eq ?_ (by assumption)
    | with_reducible apply Steady.header
    | with_reducible refine Steady.header_eq ?_ (by assumption)
    | with_reducible apply Steady.modLane
    | with_reducible apply Steady.modTh
    | with_reducible refine Steady.setF ?_ _ _
    | with_reducible apply Steady.tagCycle
    | (try lift_lets -underBinder); intro x; refine Steady.cut (x := x) ?_ ?_ <;> [subst x; (clear_value x; intro _)]
    | (try lift_lets -underBinder); intro x; first | subst x | skip
    | split
    | fail_if_no_progress dsimp only
    | fail_if_no_progress with_reducible refine Steady.upd ?_

theorem Steady.execLaneCycleStart (h : Steady s₀ s) (t : Nat) (e : Nat) :
    ∃ s₁, execLaneCycleStart t e s = .next s₁ ∧ Steady s₀ s₁ := by
  refine ⟨_, rfl, ?_⟩
  repeat' first
    | with_reducible assumption
    | with_reducible apply Steady.at
    | with_reducible apply Steady.modLane
    | with_reducible apply Steady.prepare
    | with_reducible apply Steady.underrun
    | with_reducible refine Steady.ite ?_ ?_
    | (try lift_lets -underBinder); intro x; refine Steady.cut (x := x) ?_ ?_ <;> [subst x; (clear_value x; intro _)]
    | (try lift_lets -underBinder); intro x; first | subst x | skip
    | split
    | fail_if_no_progress dsimp only
    | fail_if_no_progress with_reducible refine Steady.upd ?_

theorem Steady.announce (h : Steady s₀ s) (w : Nat) (d : Doc) :
    Steady s₀ (State.announce s w d) := by
  delta State.announce
  repeat' first
    | with_reducible assumption
    | with_reducible apply Steady.modWin
    | with_reducible refine Steady.ite ?_ ?_
    | (try lift_lets -underBinder); intro x; refine Steady.cut (x := x) ?_ ?_ <;> [subst x; (clear_value x; intro _)]
    | (try lift_lets -underBinder); intro x; first | subst x | skip
    | split
    | fail_if_no_progress with_reducible refine Steady.upd ?_

theorem Steady.execCyclePackComplete (h : Steady s₀ s) (t : Nat) (e : Nat) :
    ∃ s₁, execCyclePackComplete t e s = .next s₁ ∧ Steady s₀ s₁ := by
  refine ⟨_, rfl, ?_⟩
  repeat' first
    | with_reducible assumption
    | with_reducible apply Steady.announce
    | with_reducible apply Steady.at
    | with_reducible refine Steady.incF ?_ _ _
    | with_reducible apply Steady.modLane
    | with_reducible apply Steady.modTh
    | with_reducible apply Steady.tagRecord
    | with_reducible refine Steady.ite ?_ ?_
    | (try lift_lets -underBinder); intro x; refine Steady.cut (x := x) ?_ ?_ <;> [subst x; (clear_value x; intro _)]
    | (try lift_lets -underBinder); intro x; first | subst x | skip
    | split
    | fail_if_no_progress dsimp only
    | fail_if_no_progress with_reducible refine Steady.upd ?_

theorem Steady.execTilePacketSend (h : Steady s₀ s) (t : Nat) (n : Nat) :
    ∃ s₁, execTilePacketSend t n s = .next s₁ ∧ Steady s₀ s₁ := by
  refine ⟨_, rfl, ?_⟩
  repeat' first
    | with_reducible assumption
    | with_reducible apply Steady.at
    | with_reducible apply Steady.emit
    | with_reducible apply Steady.modLane
    | with_reducible apply Steady.modPort
    | with_reducible apply Steady.modTag
    | with_reducible refine Steady.ite ?_ ?_
    | (try lift_lets -underBinder); intro x; refine Steady.cut (x := x) ?_ ?_ <;> [subst x; (clear_value x; intro _)]
    | (try lift_lets -underBinder); intro x; first | subst x | skip
    | split
    | fail_if_no_progress dsimp only
    | fail_if_no_progress with_reducible refine Steady.upd ?_

theorem Steady.fireStrobe (h : Steady s₀ s) (n : Nat) (target : Nat) (p : Packet) :
    Steady s₀ (State.fireStrobe s n target p) := by
  delta State.fireStrobe
  repeat' first
    | with_reducible assumption
    | with_reducible apply Steady.addUse
    | with_reducible apply Steady.count
    | with_reducible apply Steady.emit
    | with_reducible apply Steady.modFire
    | with_reducible apply Steady.modPort
    | with_reducible apply Steady.modTag
    | with_reducible apply Steady.tagRecord
    | (try lift_lets -underBinder); intro x; refine Steady.cut (x := x) ?_ ?_ <;> [subst x; (clear_value x; intro _)]
    | (try lift_lets -underBinder); intro x; first | subst x | skip
    | split
    | fail_if_no_progress dsimp only
    | fail_if_no_progress with_reducible refine Steady.upd ?_

theorem Steady.execStrobeLaunch (h : Steady s₀ s) (t : Nat) (n : Nat) :
    ∃ s₁, execStrobeLaunch t n s = .next s₁ ∧ Steady s₀ s₁ := by
  refine ⟨_, rfl, ?_⟩
  repeat' first
    | with_reducible assumption
    | with_reducible apply Steady.at
    | with_reducible apply Steady.dropPacket
    | with_reducible apply Steady.fireStrobe
    | with_reducible apply Steady.modFire
    | with_reducible refine Steady.setF ?_ _ _
    | with_reducible apply Steady.tagRecord
    | with_reducible apply Steady.underrun
    | with_reducible refine Steady.ite ?_ ?_
    | (try lift_lets -underBinder); intro x; refine Steady.cut (x := x) ?_ ?_ <;> [subst x; (clear_value x; intro _)]
    | (try lift_lets -underBinder); intro x; first | subst x | skip
    | split
    | fail_if_no_progress dsimp only
    | fail_if_no_progress with_reducible refine Steady.upd ?_

theorem Steady.execGapSwapTimeout (h : Steady s₀ s) (t : Nat) (w : Nat) :
    ∃ s₁, execGapSwapTimeout t w s = .next s₁ ∧ Steady s₀ s₁ := by
  refine ⟨_, rfl, ?_⟩
  repeat' first
    | with_reducible assumption
    | with_reducible apply Steady.at
    | with_reducible apply Steady.swapWin
    | with_reducible refine Steady.ite ?_ ?_
    | (try lift_lets -underBinder); intro x; refine Steady.cut (x := x) ?_ ?_ <;> [subst x; (clear_value x; intro _)]
    | (try lift_lets -underBinder); intro x; first | subst x | skip
    | split
    | fail_if_no_progress dsimp only
    | fail_if_no_progress with_reducible refine Steady.upd ?_

theorem Steady.execPauseEnd (h : Steady s₀ s) (t : Nat) (w : Nat) :
    ∃ s₁, execPauseEnd t w s = .next s₁ ∧ Steady s₀ s₁ := by
  refine ⟨_, rfl, ?_⟩
  repeat' first
    | with_reducible assumption
    | with_reducible apply Steady.at
    | with_reducible apply Steady.endPause
    | with_reducible refine Steady.ite ?_ ?_
    | (try lift_lets -underBinder); intro x; refine Steady.cut (x := x) ?_ ?_ <;> [subst x; (clear_value x; intro _)]
    | (try lift_lets -underBinder); intro x; first | subst x | skip
    | split
    | fail_if_no_progress dsimp only
    | fail_if_no_progress with_reducible refine Steady.upd ?_

/-! ### Machine/Health.lean -/

theorem Steady.execHeaterMeasurement (h : Steady s₀ s) (t : Nat) (n : Nat) (r1 : Option Nat) (r2 : Option Nat) :
    ∃ s₁, execHeaterMeasurement t n r1 r2 s = .next s₁ ∧ Steady s₀ s₁ := by
  refine ⟨_, rfl, ?_⟩
  repeat' first
    | with_reducible assumption
    | with_reducible apply Steady.at
    | with_reducible apply Steady.judge
    | with_reducible apply Steady.modTh
    | with_reducible apply Steady.noteSwaps
    | with_reducible apply Steady.scanNext
    | with_reducible refine Steady.ite ?_ ?_
    | (try lift_lets -underBinder); intro x; refine Steady.cut (x := x) ?_ ?_ <;> [subst x; (clear_value x; intro _)]
    | (try lift_lets -underBinder); intro x; first | subst x | skip
    | fail_if_no_progress with_reducible refine Steady.upd ?_

theorem Steady.hlthForce (h : Steady s₀ s) (v : Nat) :
    Steady s₀ (State.hlthForce s v) := by
  delta State.hlthForce
  repeat' first
    | with_reducible assumption
    | with_reducible apply Steady.noteSwaps
    | with_reducible apply Steady.setBg
    | with_reducible refine Steady.ite ?_ ?_
    | (try lift_lets -underBinder); intro x; refine Steady.cut (x := x) ?_ ?_ <;> [subst x; (clear_value x; intro _)]
    | (try lift_lets -underBinder); intro x; first | subst x | skip

theorem Steady.execHlthForce (h : Steady s₀ s) (t : Nat) (v : Word) :
    ∃ s₁, execHlthForce t v s = .next s₁ ∧ Steady s₀ s₁ := by
  refine ⟨_, rfl, ?_⟩
  repeat' first
    | with_reducible assumption
    | with_reducible apply Steady.at
    | with_reducible apply Steady.hlthForce
    | with_reducible apply Steady.onWrite
    | (try lift_lets -underBinder); intro x; refine Steady.cut (x := x) ?_ ?_ <;> [subst x; (clear_value x; intro _)]
    | (try lift_lets -underBinder); intro x; first | subst x | skip

theorem Steady.hlthBypass (h : Steady s₀ s) (v : Nat) :
    Steady s₀ (State.hlthBypass s v) := by
  delta State.hlthBypass
  repeat' first
    | with_reducible assumption
    | with_reducible apply Steady.modTh
    | with_reducible apply Steady.noteSwaps
    | with_reducible apply Steady.raise
    | with_reducible refine Steady.ite ?_ ?_
    | (try lift_lets -underBinder); intro x; refine Steady.cut (x := x) ?_ ?_ <;> [subst x; (clear_value x; intro _)]
    | (try lift_lets -underBinder); intro x; first | subst x | skip
    | fail_if_no_progress with_reducible refine Steady.upd ?_

theorem Steady.execBypassRequest (h : Steady s₀ s) (t : Nat) (v : Word) :
    ∃ s₁, execBypassRequest t v s = .next s₁ ∧ Steady s₀ s₁ := by
  refine ⟨_, rfl, ?_⟩
  repeat' first
    | with_reducible assumption
    | with_reducible apply Steady.at
    | with_reducible apply Steady.hlthBypass
    | with_reducible apply Steady.onWrite
    | (try lift_lets -underBinder); intro x; refine Steady.cut (x := x) ?_ ?_ <;> [subst x; (clear_value x; intro _)]
    | (try lift_lets -underBinder); intro x; first | subst x | skip

theorem Steady.endRoll (h : Steady s₀ s) (d : Nat) :
    Steady s₀ (State.endRoll s d) := by
  delta State.endRoll
  repeat' first
    | with_reducible assumption
    | fail_if_no_progress with_reducible refine Steady.upd ?_

theorem Steady.showRolling (h : Steady s₀ s) :
    Steady s₀ (State.showRolling s) := by
  delta State.showRolling
  repeat' first
    | with_reducible assumption
    | with_reducible refine Steady.setF ?_ _ _
    | (try lift_lets -underBinder); intro x; refine Steady.cut (x := x) ?_ ?_ <;> [subst x; (clear_value x; intro _)]
    | (try lift_lets -underBinder); intro x; first | subst x | skip
    | split
    | fail_if_no_progress with_reducible refine Steady.upd ?_

theorem Steady.parityFail (h : Steady s₀ s) (e : Nat) :
    Steady s₀ (State.parityFail s e) := by
  delta State.parityFail
  repeat' first
    | with_reducible assumption
    | with_reducible apply Steady.endRoll
    | with_reducible apply Steady.failEngine
    | with_reducible apply Steady.modLane
    | with_reducible apply Steady.modTh
    | with_reducible apply Steady.noteSwaps
    | with_reducible refine Steady.setF ?_ _ _
    | with_reducible apply Steady.showRolling
    | with_reducible apply Steady.tagRecord
    | with_reducible refine Steady.ite ?_ ?_
    | (try lift_lets -underBinder); intro x; refine Steady.cut (x := x) ?_ ?_ <;> [subst x; (clear_value x; intro _)]
    | (try lift_lets -underBinder); intro x; first | subst x | skip
    | split
    | fail_if_no_progress dsimp only
    | fail_if_no_progress with_reducible refine Steady.upd ?_

theorem Steady.execLaneParityError (h : Steady s₀ s) (t : Nat) (e : Nat) :
    ∃ s₁, execLaneParityError t e s = .next s₁ ∧ Steady s₀ s₁ := by
  refine ⟨_, rfl, ?_⟩
  repeat' first
    | with_reducible assumption
    | with_reducible apply Steady.at
    | with_reducible apply Steady.parityFail
    | with_reducible refine Steady.ite ?_ ?_
    | (try lift_lets -underBinder); intro x; refine Steady.cut (x := x) ?_ ?_ <;> [subst x; (clear_value x; intro _)]
    | (try lift_lets -underBinder); intro x; first | subst x | skip

theorem Steady.takeOver (h : Steady s₀ s) (n : Nat) (e : Nat) :
    Steady s₀ (State.takeOver s n e) := by
  delta State.takeOver
  repeat' first
    | with_reducible assumption
    | with_reducible apply Steady.connect
    | with_reducible apply Steady.endRoll
    | with_reducible apply Steady.modLane
    | with_reducible apply Steady.modNoz
    | with_reducible apply Steady.modTh
    | with_reducible apply Steady.setBanks
    | with_reducible refine Steady.setF ?_ _ _
    | with_reducible apply Steady.showRolling
    | with_reducible refine Steady.ite ?_ ?_
    | with_reducible refine Steady.foldl ?_ ?_
    | (try lift_lets -underBinder); intro x; refine Steady.cut (x := x) ?_ ?_ <;> [subst x; (clear_value x; intro _)]
    | (try lift_lets -underBinder); intro x; first | subst x | skip
    | split
    | fail_if_no_progress dsimp only
    | fail_if_no_progress with_reducible refine Steady.upd ?_

theorem Steady.execLaneEnginePrepared (h : Steady s₀ s) (t : Nat) (n : Nat) :
    ∃ s₁, execLaneEnginePrepared t n s = .next s₁ ∧ Steady s₀ s₁ := by
  refine ⟨_, rfl, ?_⟩
  repeat' first
    | with_reducible assumption
    | with_reducible apply Steady.at
    | with_reducible apply Steady.modTh
    | with_reducible apply Steady.takeOver
    | with_reducible refine Steady.ite ?_ ?_
    | (try lift_lets -underBinder); intro x; refine Steady.cut (x := x) ?_ ?_ <;> [subst x; (clear_value x; intro _)]
    | (try lift_lets -underBinder); intro x; first | subst x | skip
    | split
    | fail_if_no_progress dsimp only
    | fail_if_no_progress with_reducible refine Steady.upd ?_

theorem Steady.execRollIntervalExpiry (h : Steady s₀ s) (t : Nat) (d : Nat) :
    ∃ s₁, execRollIntervalExpiry t d s = .next s₁ ∧ Steady s₀ s₁ := by
  refine ⟨_, rfl, ?_⟩
  repeat' first
    | with_reducible assumption
    | with_reducible apply Steady.at
    | with_reducible apply Steady.modTh
    | with_reducible refine Steady.ite ?_ ?_
    | (try lift_lets -underBinder); intro x; refine Steady.cut (x := x) ?_ ?_ <;> [subst x; (clear_value x; intro _)]
    | (try lift_lets -underBinder); intro x; first | subst x | skip
    | split
    | fail_if_no_progress dsimp only
    | fail_if_no_progress with_reducible refine Steady.upd ?_

theorem Steady.execRollSelfTestComplete (h : Steady s₀ s) (t : Nat) (d : Nat) (pass : Bool) :
    ∃ s₁, execRollSelfTestComplete t d pass s = .next s₁ ∧ Steady s₀ s₁ := by
  refine ⟨_, rfl, ?_⟩
  repeat' first
    | with_reducible assumption
    | with_reducible apply Steady.at
    | with_reducible apply Steady.endRoll
    | with_reducible apply Steady.failEngine
    | with_reducible apply Steady.modLane
    | with_reducible apply Steady.modTh
    | with_reducible apply Steady.noteSwaps
    | with_reducible refine Steady.setF ?_ _ _
    | with_reducible apply Steady.showRolling
    | with_reducible refine Steady.ite ?_ ?_
    | (try lift_lets -underBinder); intro x; refine Steady.cut (x := x) ?_ ?_ <;> [subst x; (clear_value x; intro _)]
    | (try lift_lets -underBinder); intro x; first | subst x | skip
    | split
    | fail_if_no_progress dsimp only
    | fail_if_no_progress with_reducible refine Steady.upd ?_

/-! ### Machine/Dma.lean -/

theorem Steady.orphan (h : Steady s₀ s) (p : Nat → Bool) : Steady s₀ (State.orphan s p) := h

theorem Steady.stopStream (h : Steady s₀ s) (k : Nat) :
    Steady s₀ (State.stopStream s k) := by
  delta State.stopStream
  repeat' first
    | with_reducible assumption
    | with_reducible apply Steady.idleStream
    | with_reducible apply Steady.modStream
    | with_reducible refine Steady.setF ?_ _ _
    | with_reducible refine Steady.ite ?_ ?_
    | (try lift_lets -underBinder); intro x; refine Steady.cut (x := x) ?_ ?_ <;> [subst x; (clear_value x; intro _)]
    | (try lift_lets -underBinder); intro x; first | subst x | skip
    | split
    | fail_if_no_progress dsimp only
    | fail_if_no_progress with_reducible refine Steady.upd ?_

theorem Steady.hostReset (h : Steady s₀ s) (kind : Nat) :
    Steady s₀ (State.hostReset s kind) := by
  delta State.hostReset
  repeat' first
    | with_reducible assumption
    | with_reducible apply Steady.modStream
    | with_reducible apply Steady.orphan
    | with_reducible apply Steady.raise
    | with_reducible refine Steady.setF ?_ _ _
    | with_reducible refine Steady.setFields_nil ?_
    | with_reducible refine Steady.setFields_cons ?_
    | with_reducible refine Steady.setF ?_ _ _
    | with_reducible apply Steady.showHost
    | with_reducible apply Steady.showPool
    | with_reducible apply Steady.stopStream
    | with_reducible apply Steady.tagRecord
    | with_reducible refine Steady.foldl ?_ ?_
    | (try lift_lets -underBinder); intro x; refine Steady.cut (x := x) ?_ ?_ <;> [subst x; (clear_value x; intro _)]
    | (try lift_lets -underBinder); intro x; first | subst x | skip
    | fail_if_no_progress with_reducible refine Steady.upd ?_

theorem Steady.execHostFacingReset (h : Steady s₀ s) (t : Nat) (kind : Nat) :
    ∃ s₁, execHostFacingReset t kind s = .next s₁ ∧ Steady s₀ s₁ := by
  refine ⟨_, rfl, ?_⟩
  repeat' first
    | with_reducible assumption
    | with_reducible apply Steady.at
    | with_reducible apply Steady.hostReset
    | with_reducible refine Steady.ite ?_ ?_
    | (try lift_lets -underBinder); intro x; refine Steady.cut (x := x) ?_ ?_ <;> [subst x; (clear_value x; intro _)]
    | (try lift_lets -underBinder); intro x; first | subst x | skip

theorem Steady.enableStream (h : Steady s₀ s) (k : Nat) :
    Steady s₀ (State.enableStream s k) := by
  delta State.enableStream
  repeat' first
    | with_reducible assumption
    | with_reducible apply Steady.modStream
    | with_reducible refine Steady.setF ?_ _ _
    | with_reducible apply Steady.showPool
    | with_reducible refine Steady.ite ?_ ?_
    | (try lift_lets -underBinder); intro x; refine Steady.cut (x := x) ?_ ?_ <;> [subst x; (clear_value x; intro _)]
    | (try lift_lets -underBinder); intro x; first | subst x | skip
    | fail_if_no_progress with_reducible refine Steady.upd ?_

theorem Steady.resetStream (h : Steady s₀ s) (k : Nat) :
    Steady s₀ (State.resetStream s k) := by
  delta State.resetStream
  repeat' first
    | with_reducible assumption
    | with_reducible apply Steady.modStream
    | with_reducible apply Steady.orphan
    | with_reducible refine Steady.setFields_nil ?_
    | with_reducible refine Steady.setFields_cons ?_
    | with_reducible refine Steady.setF ?_ _ _
    | with_reducible refine Steady.ite ?_ ?_
    | (try lift_lets -underBinder); intro x; refine Steady.cut (x := x) ?_ ?_ <;> [subst x; (clear_value x; intro _)]
    | (try lift_lets -underBinder); intro x; first | subst x | skip
    | fail_if_no_progress with_reducible refine Steady.upd ?_

theorem Steady.writeDmaCtrl (h : Steady s₀ s) (k : Nat) (v : Nat) :
    Steady s₀ (State.writeDmaCtrl s k v) := by
  delta State.writeDmaCtrl
  repeat' first
    | with_reducible assumption
    | with_reducible apply Steady.enableStream
    | with_reducible apply Steady.resetStream
    | with_reducible refine Steady.setFields_nil ?_
    | with_reducible refine Steady.setFields_cons ?_
    | with_reducible refine Steady.setF ?_ _ _
    | with_reducible apply Steady.stopStream
    | with_reducible refine Steady.ite ?_ ?_
    | (try lift_lets -underBinder); intro x; refine Steady.cut (x := x) ?_ ?_ <;> [subst x; (clear_value x; intro _)]
    | (try lift_lets -underBinder); intro x; first | subst x | skip

theorem Steady.execStreamEnable (h : Steady s₀ s) (t : Nat) (k : Nat) (v : Word) :
    ∃ s₁, execStreamEnable t k v s = .next s₁ ∧ Steady s₀ s₁ := by
  refine ⟨_, rfl, ?_⟩
  repeat' first
    | with_reducible assumption
    | with_reducible apply Steady.at
    | with_reducible apply Steady.onWrite
    | with_reducible apply Steady.writeDmaCtrl
    | with_reducible refine Steady.ite ?_ ?_
    | (try lift_lets -underBinder); intro x; refine Steady.cut (x := x) ?_ ?_ <;> [subst x; (clear_value x; intro _)]
    | (try lift_lets -underBinder); intro x; first | subst x | skip

theorem Steady.execStreamDisable (h : Steady s₀ s) (t : Nat) (k : Nat) (v : Word) :
    ∃ s₁, execStreamDisable t k v s = .next s₁ ∧ Steady s₀ s₁ := by
  refine ⟨_, rfl, ?_⟩
  repeat' first
    | with_reducible assumption
    | with_reducible apply Steady.at
    | with_reducible apply Steady.onWrite
    | with_reducible apply Steady.writeDmaCtrl
    | with_reducible refine Steady.ite ?_ ?_
    | (try lift_lets -underBinder); intro x; refine Steady.cut (x := x) ?_ ?_ <;> [subst x; (clear_value x; intro _)]
    | (try lift_lets -underBinder); intro x; first | subst x | skip

theorem Steady.execStreamReset (h : Steady s₀ s) (t : Nat) (k : Nat) (v : Word) :
    ∃ s₁, execStreamReset t k v s = .next s₁ ∧ Steady s₀ s₁ := by
  refine ⟨_, rfl, ?_⟩
  repeat' first
    | with_reducible assumption
    | with_reducible apply Steady.at
    | with_reducible apply Steady.onWrite
    | with_reducible apply Steady.writeDmaCtrl
    | with_reducible refine Steady.ite ?_ ?_
    | (try lift_lets -underBinder); intro x; refine Steady.cut (x := x) ?_ ?_ <;> [subst x; (clear_value x; intro _)]
    | (try lift_lets -underBinder); intro x; first | subst x | skip

theorem Steady.sqDoorbell (h : Steady s₀ s) (k : Nat) (v : Nat) :
    Steady s₀ (State.sqDoorbell s k v) := by
  delta State.sqDoorbell
  repeat' first
    | with_reducible assumption
    | with_reducible apply Steady.modStream
    | with_reducible refine Steady.setF ?_ _ _
    | with_reducible refine Steady.ite ?_ ?_
    | (try lift_lets -underBinder); intro x; refine Steady.cut (x := x) ?_ ?_ <;> [subst x; (clear_value x; intro _)]
    | (try lift_lets -underBinder); intro x; first | subst x | skip
    | fail_if_no_progress with_reducible refine Steady.upd ?_

theorem Steady.execSqDoorbell (h : Steady s₀ s) (t : Nat) (k : Nat) (v : Word) :
    ∃ s₁, execSqDoorbell t k v s = .next s₁ ∧ Steady s₀ s₁ := by
  refine ⟨_, rfl, ?_⟩
  repeat' first
    | with_reducible assumption
    | with_reducible apply Steady.at
    | with_reducible apply Steady.onWrite
    | with_reducible apply Steady.sqDoorbell
    | with_reducible refine Steady.ite ?_ ?_
    | (try lift_lets -underBinder); intro x; refine Steady.cut (x := x) ?_ ?_ <;> [subst x; (clear_value x; intro _)]
    | (try lift_lets -underBinder); intro x; first | subst x | skip

theorem Steady.showWait (h : Steady s₀ s) (k : Nat) :
    Steady s₀ (State.showWait s k) := by
  delta State.showWait
  repeat' first
    | with_reducible assumption
    | with_reducible apply Steady.modStream
    | with_reducible refine Steady.setF ?_ _ _
    | with_reducible refine Steady.ite ?_ ?_
    | (try lift_lets -underBinder); intro x; refine Steady.cut (x := x) ?_ ?_ <;> [subst x; (clear_value x; intro _)]
    | (try lift_lets -underBinder); intro x; first | subst x | skip
    | split
    | fail_if_no_progress with_reducible refine Steady.upd ?_

theorem Steady.cqDoorbell (h : Steady s₀ s) (k : Nat) (v : Nat) :
    Steady s₀ (State.cqDoorbell s k v) := by
  delta State.cqDoorbell
  repeat' first
    | with_reducible assumption
    | with_reducible apply Steady.modStream
    | with_reducible apply Steady.showWait
    | (try lift_lets -underBinder); intro x; refine Steady.cut (x := x) ?_ ?_ <;> [subst x; (clear_value x; intro _)]
    | (try lift_lets -underBinder); intro x; first | subst x | skip
    | fail_if_no_progress with_reducible refine Steady.upd ?_

theorem Steady.execCqDoorbell (h : Steady s₀ s) (t : Nat) (k : Nat) (v : Word) :
    ∃ s₁, execCqDoorbell t k v s = .next s₁ ∧ Steady s₀ s₁ := by
  refine ⟨_, rfl, ?_⟩
  repeat' first
    | with_reducible assumption
    | with_reducible apply Steady.at
    | with_reducible apply Steady.cqDoorbell
    | with_reducible apply Steady.onWrite
    | with_reducible refine Steady.ite ?_ ?_
    | (try lift_lets -underBinder); intro x; refine Steady.cut (x := x) ?_ ?_ <;> [subst x; (clear_value x; intro _)]
    | (try lift_lets -underBinder); intro x; first | subst x | skip

theorem Steady.execDescriptorFetch (h : Steady s₀ s) (t : Nat) (k : Nat) :
    ∃ s₁, execDescriptorFetch t k s = .next s₁ ∧ Steady s₀ s₁ := by
  refine ⟨_, rfl, ?_⟩
  repeat' first
    | with_reducible assumption
    | with_reducible apply Steady.at
    | with_reducible apply Steady.count
    | with_reducible apply Steady.hostRead
    | with_reducible apply Steady.modStream
    | with_reducible apply Steady.showFill
    | with_reducible refine Steady.ite ?_ ?_
    | (try lift_lets -underBinder); intro x; refine Steady.cut (x := x) ?_ ?_ <;> [subst x; (clear_value x; intro _)]
    | (try lift_lets -underBinder); intro x; first | subst x | skip
    | fail_if_no_progress with_reducible refine Steady.upd ?_

theorem Steady.acceptDesc (h : Steady s₀ s) (k : Nat) (f : Fetched) :
    Steady s₀ (State.acceptDesc s k f) := by
  delta State.acceptDesc
  repeat' first
    | with_reducible assumption
    | with_reducible apply Steady.idleStream
    | with_reducible apply Steady.modStream
    | with_reducible apply Steady.refuse
    | with_reducible refine Steady.setF ?_ _ _
    | with_reducible apply Steady.showWait
    | with_reducible apply Steady.tagDesc
    | with_reducible apply Steady.tagMany
    | with_reducible apply Steady.tagRecord
    | with_reducible refine Steady.ite ?_ ?_
    | (try lift_lets -underBinder); intro x; refine Steady.cut (x := x) ?_ ?_ <;> [subst x; (clear_value x; intro _)]
    | (try lift_lets -underBinder); intro x; first | subst x | skip
    | split
    | fail_if_no_progress with_reducible refine Steady.upd ?_

theorem Steady.execDescriptorAccept (h : Steady s₀ s) (t : Nat) (k : Nat) :
    ∃ s₁, execDescriptorAccept t k s = .next s₁ ∧ Steady s₀ s₁ := by
  refine ⟨_, rfl, ?_⟩
  repeat' first
    | with_reducible assumption
    | with_reducible apply Steady.acceptDesc
    | with_reducible apply Steady.at
    | with_reducible apply Steady.showWait
    | with_reducible refine Steady.ite ?_ ?_
    | (try lift_lets -underBinder); intro x; refine Steady.cut (x := x) ?_ ?_ <;> [subst x; (clear_value x; intro _)]
    | (try lift_lets -underBinder); intro x; first | subst x | skip
    | split
    | fail_if_no_progress dsimp only
    | fail_if_no_progress with_reducible refine Steady.upd ?_

theorem Steady.onDesc (h : Steady s₀ s) (k : Nat) (op : Nat) (g : State → Desc → State) (h_g : ∀ s x0, Steady s₀ s → Steady s₀ (g s x0)) :
    Steady s₀ (State.onDesc s k op g) := by
  delta State.onDesc
  repeat' first
    | with_reducible assumption
    | with_reducible apply h_g
    | with_reducible refine Steady.ite ?_ ?_
    | (try lift_lets -underBinder); intro x; refine Steady.cut (x := x) ?_ ?_ <;> [subst x; (clear_value x; intro _)]
    | (try lift_lets -underBinder); intro x; first | subst x | skip
    | split
    | fail_if_no_progress dsimp only
    | fail_if_no_progress with_reducible refine Steady.upd ?_

theorem Steady.execNop (h : Steady s₀ s) (t : Nat) (k : Nat) :
    ∃ s₁, execNop t k s = .next s₁ ∧ Steady s₀ s₁ := by
  refine ⟨_, rfl, ?_⟩
  repeat' first
    | with_reducible assumption
    | with_reducible apply Steady.at
    | with_reducible apply Steady.modExec
    | with_reducible apply Steady.onDesc
    | (try lift_lets -underBinder); intro x; refine Steady.cut (x := x) ?_ ?_ <;> [subst x; (clear_value x; intro _)]
    | (try lift_lets -underBinder); intro x; first | subst x | skip
    | fail_if_no_progress with_reducible refine Steady.upd ?_

theorem Steady.execCopy (h : Steady s₀ s) (t : Nat) (k : Nat) :
    ∃ s₁, execCopy t k s = .next s₁ ∧ Steady s₀ s₁ := by
  refine ⟨_, rfl, ?_⟩
  repeat' first
    | with_reducible assumption
    | with_reducible apply Steady.at
    | with_reducible apply Steady.onDesc
    | with_reducible apply Steady.runTransfer
    | (try lift_lets -underBinder); intro x; refine Steady.cut (x := x) ?_ ?_ <;> [subst x; (clear_value x; intro _)]
    | (try lift_lets -underBinder); intro x; first | subst x | skip

theorem Steady.execCopy2d (h : Steady s₀ s) (t : Nat) (k : Nat) :
    ∃ s₁, execCopy2d t k s = .next s₁ ∧ Steady s₀ s₁ := by
  refine ⟨_, rfl, ?_⟩
  repeat' first
    | with_reducible assumption
    | with_reducible apply Steady.at
    | with_reducible apply Steady.onDesc
    | with_reducible apply Steady.runTransfer
    | (try lift_lets -underBinder); intro x; refine Steady.cut (x := x) ?_ ?_ <;> [subst x; (clear_value x; intro _)]
    | (try lift_lets -underBinder); intro x; first | subst x | skip

theorem Steady.runFill (h : Steady s₀ s) (k : Nat) (d : Desc) :
    Steady s₀ (State.runFill s k d) := by
  delta State.runFill
  repeat' first
    | with_reducible assumption
    | with_reducible apply Steady.modExec
    | with_reducible apply Steady.putMem
    | with_reducible refine Steady.putMem_eq ?_ (by assumption)
    | with_reducible apply Steady.tagDesc
    | with_reducible refine Steady.foldl ?_ ?_
    | (try lift_lets -underBinder); intro x; refine Steady.cut (x := x) ?_ ?_ <;> [subst x; (clear_value x; intro _)]
    | (try lift_lets -underBinder); intro x; first | subst x | skip
    | split
    | fail_if_no_progress dsimp only
    | fail_if_no_progress with_reducible refine Steady.upd ?_

theorem Steady.execFill (h : Steady s₀ s) (t : Nat) (k : Nat) :
    ∃ s₁, execFill t k s = .next s₁ ∧ Steady s₀ s₁ := by
  refine ⟨_, rfl, ?_⟩
  repeat' first
    | with_reducible assumption
    | with_reducible apply Steady.at
    | with_reducible apply Steady.onDesc
    | with_reducible apply Steady.runFill
    | (try lift_lets -underBinder); intro x; refine Steady.cut (x := x) ?_ ?_ <;> [subst x; (clear_value x; intro _)]
    | (try lift_lets -underBinder); intro x; first | subst x | skip

theorem Steady.execCompare (h : Steady s₀ s) (t : Nat) (k : Nat) :
    ∃ s₁, execCompare t k s = .next s₁ ∧ Steady s₀ s₁ := by
  refine ⟨_, rfl, ?_⟩
  repeat' first
    | with_reducible assumption
    | with_reducible apply Steady.at
    | with_reducible apply Steady.onDesc
    | with_reducible apply Steady.runTransfer
    | (try lift_lets -underBinder); intro x; refine Steady.cut (x := x) ?_ ?_ <;> [subst x; (clear_value x; intro _)]
    | (try lift_lets -underBinder); intro x; first | subst x | skip

theorem Steady.execCompose (h : Steady s₀ s) (t : Nat) (k : Nat) :
    ∃ s₁, execCompose t k s = .next s₁ ∧ Steady s₀ s₁ := by
  refine ⟨_, rfl, ?_⟩
  repeat' first
    | with_reducible assumption
    | with_reducible apply Steady.at
    | with_reducible apply Steady.onDesc
    | with_reducible apply Steady.runTransfer
    | (try lift_lets -underBinder); intro x; refine Steady.cut (x := x) ?_ ?_ <;> [subst x; (clear_value x; intro _)]
    | (try lift_lets -underBinder); intro x; first | subst x | skip

theorem Steady.execSlotAlloc (h : Steady s₀ s) (t : Nat) (k : Nat) :
    ∃ s₁, execSlotAlloc t k s = .next s₁ ∧ Steady s₀ s₁ := by
  refine ⟨_, rfl, ?_⟩
  repeat' first
    | with_reducible assumption
    | with_reducible apply Steady.at
    | with_reducible apply Steady.modExec
    | with_reducible apply Steady.onDesc
    | with_reducible apply Steady.slotAlloc
    | with_reducible refine Steady.slotAlloc_eq ?_ (by assumption)
    | (try lift_lets -underBinder); intro x; refine Steady.cut (x := x) ?_ ?_ <;> [subst x; (clear_value x; intro _)]
    | (try lift_lets -underBinder); intro x; first | subst x | skip
    | split
    | fail_if_no_progress with_reducible refine Steady.upd ?_

theorem Steady.execSlotFree (h : Steady s₀ s) (t : Nat) (k : Nat) :
    ∃ s₁, execSlotFree t k s = .next s₁ ∧ Steady s₀ s₁ := by
  refine ⟨_, rfl, ?_⟩
  repeat' first
    | with_reducible assumption
    | with_reducible apply Steady.at
    | with_reducible apply Steady.modExec
    | with_reducible apply Steady.onDesc
    | with_reducible apply Steady.slotFree
    | (try lift_lets -underBinder); intro x; refine Steady.cut (x := x) ?_ ?_ <;> [subst x; (clear_value x; intro _)]
    | (try lift_lets -underBinder); intro x; first | subst x | skip
    | fail_if_no_progress with_reducible refine Steady.upd ?_

theorem Steady.readData (h : Steady s₀ s) (r : OutRead) (bs : List Nat) :
    Steady s₀ (State.readData s r bs) := by
  delta State.readData
  repeat' first
    | with_reducible assumption
    | with_reducible apply Steady.deliver
    | with_reducible apply Steady.gotDescriptors
    | with_reducible apply Steady.modExec
    | with_reducible apply Steady.pumpMembers
    | with_reducible apply Steady.sendRsp
    | with_reducible apply Steady.showHost
    | (try lift_lets -underBinder); intro x; refine Steady.cut (x := x) ?_ ?_ <;> [subst x; (clear_value x; intro _)]
    | (try lift_lets -underBinder); intro x; first | subst x | skip
    | split
    | fail_if_no_progress dsimp only
    | fail_if_no_progress with_reducible refine Steady.upd ?_

theorem Steady.execHostReadCompletion (h : Steady s₀ s) (t : Nat) (tag : Nat) (status : Nat) (data : List Nat) :
    ∃ s₁, execHostReadCompletion t tag status data s = .next s₁ ∧ Steady s₀ s₁ := by
  refine ⟨_, rfl, ?_⟩
  repeat' first
    | with_reducible assumption
    | with_reducible refine Steady.addF ?_ _ _
    | with_reducible apply Steady.at
    | with_reducible apply Steady.readData
    | with_reducible apply Steady.readFail
    | with_reducible refine Steady.ite ?_ ?_
    | (try lift_lets -underBinder); intro x; refine Steady.cut (x := x) ?_ ?_ <;> [subst x; (clear_value x; intro _)]
    | (try lift_lets -underBinder); intro x; first | subst x | skip
    | split
    | fail_if_no_progress dsimp only
    | fail_if_no_progress with_reducible refine Steady.upd ?_

theorem Steady.execHostReadTimeout (h : Steady s₀ s) (t : Nat) (tag : Nat) :
    ∃ s₁, execHostReadTimeout t tag s = .next s₁ ∧ Steady s₀ s₁ := by
  refine ⟨_, rfl, ?_⟩
  repeat' first
    | with_reducible assumption
    | with_reducible apply Steady.at
    | with_reducible apply Steady.readFail
    | with_reducible apply Steady.showHost
    | with_reducible refine Steady.ite ?_ ?_
    | (try lift_lets -underBinder); intro x; refine Steady.cut (x := x) ?_ ?_ <;> [subst x; (clear_value x; intro _)]
    | (try lift_lets -underBinder); intro x; first | subst x | skip
    | split
    | fail_if_no_progress dsimp only
    | fail_if_no_progress with_reducible refine Steady.upd ?_

theorem Steady.execHostReadRetry (h : Steady s₀ s) (t : Nat) (tag : Nat) :
    ∃ s₁, execHostReadRetry t tag s = .next s₁ ∧ Steady s₀ s₁ := by
  refine ⟨_, rfl, ?_⟩
  repeat' first
    | with_reducible assumption
    | with_reducible apply Steady.at
    | with_reducible apply Steady.issueRead
    | (try lift_lets -underBinder); intro x; refine Steady.cut (x := x) ?_ ?_ <;> [subst x; (clear_value x; intro _)]
    | (try lift_lets -underBinder); intro x; first | subst x | skip
    | split
    | fail_if_no_progress dsimp only
    | fail_if_no_progress with_reducible refine Steady.upd ?_

theorem Steady.execUnexpectedCompletion (h : Steady s₀ s) (t : Nat) (tag : Nat) :
    ∃ s₁, execUnexpectedCompletion t tag s = .next s₁ ∧ Steady s₀ s₁ := by
  refine ⟨_, rfl, ?_⟩
  repeat' first
    | with_reducible assumption
    | with_reducible refine Steady.addF ?_ _ _
    | with_reducible apply Steady.at
    | with_reducible apply Steady.raise
    | with_reducible refine Steady.ite ?_ ?_
    | (try lift_lets -underBinder); intro x; refine Steady.cut (x := x) ?_ ?_ <;> [subst x; (clear_value x; intro _)]
    | (try lift_lets -underBinder); intro x; first | subst x | skip

theorem Steady.undefTail (h : Steady s₀ s) (d : Desc) (x : Exec) :
    Steady s₀ (State.undefTail s d x) := by
  delta State.undefTail
  repeat' first
    | with_reducible assumption
    | with_reducible apply Steady.putForm
    | with_reducible apply Steady.putStaging
    | with_reducible refine Steady.draw ?_ _
    | with_reducible refine Steady.ite ?_ ?_
    | with_reducible refine Steady.foldl ?_ ?_
    | (try lift_lets -underBinder); intro x; refine Steady.cut (x := x) ?_ ?_ <;> [subst x; (clear_value x; intro _)]
    | (try lift_lets -underBinder); intro x; first | subst x | skip
    | fail_if_no_progress with_reducible refine Steady.upd ?_

theorem Steady.recordDesc (h : Steady s₀ s) (k : Nat) (x : Exec) :
    Steady s₀ (State.recordDesc s k x) := by
  delta State.recordDesc
  repeat' first
    | with_reducible assumption
    | with_reducible refine Steady.addF ?_ _ _
    | with_reducible apply Steady.descRecord
    | with_reducible apply Steady.idleStream
    | with_reducible apply Steady.modStream
    | with_reducible apply Steady.raise
    | with_reducible apply Steady.showFill
    | with_reducible apply Steady.tagDesc
    | with_reducible apply Steady.tagRecord
    | with_reducible apply Steady.undefTail
    | with_reducible refine Steady.ite ?_ ?_
    | (try lift_lets -underBinder); intro x; refine Steady.cut (x := x) ?_ ?_ <;> [subst x; (clear_value x; intro _)]
    | (try lift_lets -underBinder); intro x; first | subst x | skip
    | fail_if_no_progress with_reducible refine Steady.upd ?_

theorem Steady.execDescriptorComplete (h : Steady s₀ s) (t : Nat) (k : Nat) :
    ∃ s₁, execDescriptorComplete t k s = .next s₁ ∧ Steady s₀ s₁ := by
  refine ⟨_, rfl, ?_⟩
  repeat' first
    | with_reducible assumption
    | with_reducible apply Steady.at
    | with_reducible apply Steady.hostRead
    | with_reducible apply Steady.modExec
    | with_reducible apply Steady.recordDesc
    | with_reducible refine Steady.ite ?_ ?_
    | (try lift_lets -underBinder); intro x; refine Steady.cut (x := x) ?_ ?_ <;> [subst x; (clear_value x; intro _)]
    | (try lift_lets -underBinder); intro x; first | subst x | skip
    | split
    | fail_if_no_progress dsimp only
    | fail_if_no_progress with_reducible refine Steady.upd ?_

theorem Steady.execBarrierAck (h : Steady s₀ s) (t : Nat) (k : Nat) :
    ∃ s₁, execBarrierAck t k s = .next s₁ ∧ Steady s₀ s₁ := by
  refine ⟨_, rfl, ?_⟩
  repeat' first
    | with_reducible assumption
    | with_reducible apply Steady.at
    | with_reducible apply Steady.recordDesc
    | with_reducible apply Steady.tagDesc
    | with_reducible refine Steady.ite ?_ ?_
    | (try lift_lets -underBinder); intro x; refine Steady.cut (x := x) ?_ ?_ <;> [subst x; (clear_value x; intro _)]
    | (try lift_lets -underBinder); intro x; first | subst x | skip
    | split
    | fail_if_no_progress dsimp only
    | fail_if_no_progress with_reducible refine Steady.upd ?_

theorem Steady.execPacingResume (h : Steady s₀ s) (t : Nat) (k : Nat) :
    ∃ s₁, execPacingResume t k s = .next s₁ ∧ Steady s₀ s₁ := by
  refine ⟨_, rfl, ?_⟩
  repeat' first
    | with_reducible assumption
    | with_reducible apply Steady.at
    | with_reducible apply Steady.runTransfer
    | with_reducible refine Steady.setF ?_ _ _
    | with_reducible refine Steady.ite ?_ ?_
    | (try lift_lets -underBinder); intro x; refine Steady.cut (x := x) ?_ ?_ <;> [subst x; (clear_value x; intro _)]
    | (try lift_lets -underBinder); intro x; first | subst x | skip

theorem Steady.execDmaCqStall (h : Steady s₀ s) (t : Nat) (k : Nat) :
    ∃ s₁, execDmaCqStall t k s = .next s₁ ∧ Steady s₀ s₁ := by
  refine ⟨_, rfl, ?_⟩
  repeat' first
    | with_reducible assumption
    | with_reducible apply Steady.at
    | with_reducible apply Steady.modStream
    | with_reducible apply Steady.raise
    | with_reducible refine Steady.ite ?_ ?_
    | (try lift_lets -underBinder); intro x; refine Steady.cut (x := x) ?_ ?_ <;> [subst x; (clear_value x; intro _)]
    | (try lift_lets -underBinder); intro x; first | subst x | skip
    | split
    | fail_if_no_progress dsimp only
    | fail_if_no_progress with_reducible refine Steady.upd ?_

theorem Steady.execBar4Access (h : Steady s₀ s) (t : Nat) (a : Nat) (n : Nat) (data : Option (List Nat)) :
    ∃ s₁, execBar4Access t a n data s = .next s₁ ∧ Steady s₀ s₁ := by
  refine ⟨_, rfl, ?_⟩
  repeat' first
    | with_reducible assumption
    | with_reducible apply Steady.at
    | with_reducible apply Steady.countForm
    | with_reducible apply Steady.emit
    | with_reducible apply Steady.putForm
    | with_reducible refine Steady.ite ?_ ?_
    | (try lift_lets -underBinder); intro x; refine Steady.cut (x := x) ?_ ?_ <;> [subst x; (clear_value x; intro _)]
    | (try lift_lets -underBinder); intro x; first | subst x | skip
    | split
    | fail_if_no_progress dsimp only
    | fail_if_no_progress with_reducible refine Steady.upd ?_

/-! ### Machine/Ring.lean -/

theorem Steady.writeRingCtrl (h : Steady s₀ s) (v : Nat) :
    Steady s₀ (State.writeRingCtrl s v) := by
  delta State.writeRingCtrl
  repeat' first
    | with_reducible assumption
    | with_reducible apply Steady.sendJoin
    | with_reducible refine Steady.setF ?_ _ _
    | with_reducible refine Steady.setFields_nil ?_
    | with_reducible refine Steady.setFields_cons ?_
    | with_reducible refine Steady.setF ?_ _ _
    | with_reducible refine Steady.ite ?_ ?_
    | (try lift_lets -underBinder); intro x; refine Steady.cut (x := x) ?_ ?_ <;> [subst x; (clear_value x; intro _)]
    | (try lift_lets -underBinder); intro x; first | subst x | skip
    | fail_if_no_progress with_reducible refine Steady.upd ?_

theorem Steady.execEnum (h : Steady s₀ s) (t : Nat) (v : Word) :
    ∃ s₁, execEnum t v s = .next s₁ ∧ Steady s₀ s₁ := by
  refine ⟨_, rfl, ?_⟩
  repeat' first
    | with_reducible assumption
    | with_reducible apply Steady.at
    | with_reducible apply Steady.onWrite
    | with_reducible apply Steady.writeRingCtrl
    | with_reducible refine Steady.ite ?_ ?_
    | (try lift_lets -underBinder); intro x; refine Steady.cut (x := x) ?_ ?_ <;> [subst x; (clear_value x; intro _)]
    | (try lift_lets -underBinder); intro x; first | subst x | skip

theorem Steady.joinToken (h : Steady s₀ s) (port : Nat) (p : RingPkt) :
    Steady s₀ (State.joinToken s port p) := by
  delta State.joinToken
  repeat' first
    | with_reducible assumption
    | with_reducible apply Steady.raise
    | with_reducible refine Steady.setF ?_ _ _
    | with_reducible refine Steady.setFields_nil ?_
    | with_reducible refine Steady.setFields_cons ?_
    | with_reducible refine Steady.setF ?_ _ _
    | with_reducible apply Steady.urgOut
    | with_reducible refine Steady.ite ?_ ?_
    | (try lift_lets -underBinder); intro x; refine Steady.cut (x := x) ?_ ?_ <;> [subst x; (clear_value x; intro _)]
    | (try lift_lets -underBinder); intro x; first | subst x | skip
    | fail_if_no_progress with_reducible refine Steady.upd ?_

theorem Steady.execJoin (h : Steady s₀ s) (t : Nat) (port : Nat) (p : RingPkt) :
    ∃ s₁, execJoin t port p s = .next s₁ ∧ Steady s₀ s₁ := by
  refine ⟨_, rfl, ?_⟩
  repeat' first
    | with_reducible assumption
    | with_reducible apply Steady.at
    | with_reducible apply Steady.joinToken
    | with_reducible refine Steady.ite ?_ ?_
    | (try lift_lets -underBinder); intro x; refine Steady.cut (x := x) ?_ ?_ <;> [subst x; (clear_value x; intro _)]
    | (try lift_lets -underBinder); intro x; first | subst x | skip

theorem Steady.execJoinTimeout (h : Steady s₀ s) (t : Nat) :
    ∃ s₁, execJoinTimeout t s = .next s₁ ∧ Steady s₀ s₁ := by
  refine ⟨_, rfl, ?_⟩
  repeat' first
    | with_reducible assumption
    | with_reducible apply Steady.at
    | with_reducible refine Steady.ite ?_ ?_
    | (try lift_lets -underBinder); intro x; refine Steady.cut (x := x) ?_ ?_ <;> [subst x; (clear_value x; intro _)]
    | (try lift_lets -underBinder); intro x; first | subst x | skip
    | split
    | fail_if_no_progress dsimp only
    | fail_if_no_progress with_reducible refine Steady.upd ?_

theorem Steady.execFsRd (h : Steady s₀ s) (t : Nat) (port : Nat) (p : RingPkt) :
    ∃ s₁, execFsRd t port p s = .next s₁ ∧ Steady s₀ s₁ := by
  refine ⟨_, rfl, ?_⟩
  repeat' first
    | with_reducible assumption
    | with_reducible apply Steady.at
    | with_reducible apply Steady.countForm
    | with_reducible apply Steady.reqIn
    | with_reducible apply Steady.sendRsp
    | with_reducible refine Steady.ite ?_ ?_
    | (try lift_lets -underBinder); intro x; refine Steady.cut (x := x) ?_ ?_ <;> [subst x; (clear_value x; intro _)]
    | (try lift_lets -underBinder); intro x; first | subst x | skip

theorem Steady.execFsWr (h : Steady s₀ s) (t : Nat) (port : Nat) (p : RingPkt) :
    ∃ s₁, execFsWr t port p s = .next s₁ ∧ Steady s₀ s₁ := by
  refine ⟨_, rfl, ?_⟩
  repeat' first
    | with_reducible assumption
    | with_reducible apply Steady.at
    | with_reducible apply Steady.countForm
    | with_reducible apply Steady.putForm
    | with_reducible apply Steady.reqIn
    | with_reducible apply Steady.sendRsp
    | with_reducible refine Steady.ite ?_ ?_
    | (try lift_lets -underBinder); intro x; refine Steady.cut (x := x) ?_ ?_ <;> [subst x; (clear_value x; intro _)]
    | (try lift_lets -underBinder); intro x; first | subst x | skip

theorem Steady.execHostRd (h : Steady s₀ s) (t : Nat) (port : Nat) (p : RingPkt) :
    ∃ s₁, execHostRd t port p s = .next s₁ ∧ Steady s₀ s₁ := by
  refine ⟨_, rfl, ?_⟩
  repeat' first
    | with_reducible assumption
    | with_reducible apply Steady.at
    | with_reducible apply Steady.pumpMembers
    | with_reducible apply Steady.reqIn
    | with_reducible apply Steady.sendRsp
    | with_reducible refine Steady.ite ?_ ?_
    | (try lift_lets -underBinder); intro x; refine Steady.cut (x := x) ?_ ?_ <;> [subst x; (clear_value x; intro _)]
    | (try lift_lets -underBinder); intro x; first | subst x | skip
    | fail_if_no_progress with_reducible refine Steady.upd ?_

theorem Steady.execHostWr (h : Steady s₀ s) (t : Nat) (port : Nat) (p : RingPkt) :
    ∃ s₁, execHostWr t port p s = .next s₁ ∧ Steady s₀ s₁ := by
  refine ⟨_, rfl, ?_⟩
  repeat' first
    | with_reducible assumption
    | with_reducible apply Steady.at
    | with_reducible apply Steady.emit
    | with_reducible apply Steady.hostWrite
    | with_reducible apply Steady.reqIn
    | with_reducible apply Steady.sendRsp
    | with_reducible refine Steady.ite ?_ ?_
    | (try lift_lets -underBinder); intro x; refine Steady.cut (x := x) ?_ ?_ <;> [subst x; (clear_value x; intro _)]
    | (try lift_lets -underBinder); intro x; first | subst x | skip

theorem Steady.execDocReport (h : Steady s₀ s) (t : Nat) (port : Nat) (p : RingPkt) :
    ∃ s₁, execDocReport t port p s = .next s₁ ∧ Steady s₀ s₁ := by
  refine ⟨_, rfl, ?_⟩
  repeat' first
    | with_reducible assumption
    | with_reducible apply Steady.addReport
    | with_reducible apply Steady.at
    | with_reducible apply Steady.reqIn
    | with_reducible apply Steady.sendRsp
    | with_reducible refine Steady.ite ?_ ?_
    | (try lift_lets -underBinder); intro x; refine Steady.cut (x := x) ?_ ?_ <;> [subst x; (clear_value x; intro _)]
    | (try lift_lets -underBinder); intro x; first | subst x | skip

theorem Steady.execData (h : Steady s₀ s) (t : Nat) (port : Nat) (p : RingPkt) :
    ∃ s₁, execData t port p s = .next s₁ ∧ Steady s₀ s₁ := by
  refine ⟨_, rfl, ?_⟩
  repeat' first
    | with_reducible assumption
    | with_reducible apply Steady.at
    | with_reducible apply Steady.deliver
    | with_reducible apply Steady.emit
    | with_reducible apply Steady.gotDescriptors
    | with_reducible apply Steady.hostRead
    | with_reducible apply Steady.modExec
    | with_reducible apply Steady.rspIn
    | with_reducible refine Steady.ite ?_ ?_
    | (try lift_lets -underBinder); intro x; refine Steady.cut (x := x) ?_ ?_ <;> [subst x; (clear_value x; intro _)]
    | (try lift_lets -underBinder); intro x; first | subst x | skip
    | split
    | fail_if_no_progress with_reducible refine Steady.upd ?_

theorem Steady.execAck (h : Steady s₀ s) (t : Nat) (port : Nat) (p : RingPkt) :
    ∃ s₁, execAck t port p s = .next s₁ ∧ Steady s₀ s₁ := by
  refine ⟨_, rfl, ?_⟩
  repeat' first
    | with_reducible assumption
    | with_reducible apply Steady.at
    | with_reducible apply Steady.modExec
    | with_reducible apply Steady.rspIn
    | with_reducible refine Steady.ite ?_ ?_
    | (try lift_lets -underBinder); intro x; refine Steady.cut (x := x) ?_ ?_ <;> [subst x; (clear_value x; intro _)]
    | (try lift_lets -underBinder); intro x; first | subst x | skip
    | split
    | fail_if_no_progress with_reducible refine Steady.upd ?_

theorem Steady.execRingReqTimeout (h : Steady s₀ s) (t : Nat) (rtag : Nat) :
    ∃ s₁, execRingReqTimeout t rtag s = .next s₁ ∧ Steady s₀ s₁ := by
  refine ⟨_, rfl, ?_⟩
  repeat' first
    | with_reducible assumption
    | with_reducible apply Steady.at
    | with_reducible apply Steady.reqFail
    | with_reducible apply Steady.sendReq
    | with_reducible refine Steady.ite ?_ ?_
    | (try lift_lets -underBinder); intro x; refine Steady.cut (x := x) ?_ ?_ <;> [subst x; (clear_value x; intro _)]
    | (try lift_lets -underBinder); intro x; first | subst x | skip
    | split
    | fail_if_no_progress dsimp only
    | fail_if_no_progress with_reducible refine Steady.upd ?_

theorem Steady.execRingJoinTmo (h : Steady s₀ s) (t : Nat) (w : Nat) :
    ∃ s₁, execRingJoinTmo t w s = .next s₁ ∧ Steady s₀ s₁ := by
  refine ⟨_, rfl, ?_⟩
  repeat' first
    | with_reducible assumption
    | with_reducible apply Steady.at
    | with_reducible apply Steady.raise
    | with_reducible apply Steady.writeJoin
    | (try lift_lets -underBinder); intro x; refine Steady.cut (x := x) ?_ ?_ <;> [subst x; (clear_value x; intro _)]
    | (try lift_lets -underBinder); intro x; first | subst x | skip
    | split
    | fail_if_no_progress dsimp only
    | fail_if_no_progress with_reducible refine Steady.upd ?_

theorem Steady.execWrap (h : Steady s₀ s) (t : Nat) (port : Nat) (p : RingPkt) :
    ∃ s₁, execWrap t port p s = .next s₁ ∧ Steady s₀ s₁ := by
  refine ⟨_, rfl, ?_⟩
  repeat' first
    | with_reducible assumption
    | with_reducible apply Steady.at
    | with_reducible apply Steady.packetIn
    | with_reducible apply Steady.setBreak
    | with_reducible refine Steady.ite ?_ ?_
    | (try lift_lets -underBinder); intro x; refine Steady.cut (x := x) ?_ ?_ <;> [subst x; (clear_value x; intro _)]
    | (try lift_lets -underBinder); intro x; first | subst x | skip

theorem Steady.execRingFrameRetry (h : Steady s₀ s) (t : Nat) (port : Nat) (k : Nat) :
    ∃ s₁, execRingFrameRetry t port k s = .next s₁ ∧ Steady s₀ s₁ := by
  refine ⟨_, rfl, ?_⟩
  repeat' first
    | with_reducible assumption
    | with_reducible refine Steady.addF ?_ _ _
    | with_reducible apply Steady.at
    | with_reducible apply Steady.count
    | with_reducible apply Steady.modRingPort
    | with_reducible refine Steady.ite ?_ ?_
    | (try lift_lets -underBinder); intro x; refine Steady.cut (x := x) ?_ ?_ <;> [subst x; (clear_value x; intro _)]
    | (try lift_lets -underBinder); intro x; first | subst x | skip
    | fail_if_no_progress with_reducible refine Steady.upd ?_

theorem Steady.execRingLinkFailure (h : Steady s₀ s) (t : Nat) (port : Nat) :
    ∃ s₁, execRingLinkFailure t port s = .next s₁ ∧ Steady s₀ s₁ := by
  refine ⟨_, rfl, ?_⟩
  repeat' first
    | with_reducible assumption
    | with_reducible apply Steady.at
    | with_reducible apply Steady.modRingPort
    | with_reducible apply Steady.raise
    | with_reducible apply Steady.sendWrap
    | with_reducible apply Steady.setBreak
    | with_reducible refine Steady.setF ?_ _ _
    | with_reducible refine Steady.setFields_nil ?_
    | with_reducible refine Steady.setFields_cons ?_
    | with_reducible refine Steady.setF ?_ _ _
    | with_reducible refine Steady.ite ?_ ?_
    | (try lift_lets -underBinder); intro x; refine Steady.cut (x := x) ?_ ?_ <;> [subst x; (clear_value x; intro _)]
    | (try lift_lets -underBinder); intro x; first | subst x | skip

theorem Steady.rejoin (h : Steady s₀ s) (west : Nat) (east : Nat) :
    Steady s₀ (State.rejoin s west east) := by
  delta State.rejoin
  repeat' first
    | with_reducible assumption
    | with_reducible refine Steady.setF ?_ _ _
    | with_reducible refine Steady.setFields_nil ?_
    | with_reducible refine Steady.setFields_cons ?_
    | with_reducible refine Steady.setF ?_ _ _
    | with_reducible refine Steady.ite ?_ ?_

theorem Steady.execRingLinkTrained (h : Steady s₀ s) (t : Nat) (port : Nat) (far : Option Nat) :
    ∃ s₁, execRingLinkTrained t port far s = .next s₁ ∧ Steady s₀ s₁ := by
  refine ⟨_, rfl, ?_⟩
  repeat' first
    | with_reducible assumption
    | with_reducible apply Steady.at
    | with_reducible apply Steady.modRingPort
    | with_reducible apply Steady.raise
    | with_reducible apply Steady.rejoin
    | with_reducible refine Steady.setF ?_ _ _
    | with_reducible refine Steady.setFields_nil ?_
    | with_reducible refine Steady.setFields_cons ?_
    | with_reducible refine Steady.setF ?_ _ _
    | with_reducible refine Steady.ite ?_ ?_
    | (try lift_lets -underBinder); intro x; refine Steady.cut (x := x) ?_ ?_ <;> [subst x; (clear_value x; intro _)]
    | (try lift_lets -underBinder); intro x; first | subst x | skip
    | split
    | fail_if_no_progress dsimp only
    | fail_if_no_progress with_reducible refine Steady.upd ?_

theorem Steady.execRingLinkRestore (h : Steady s₀ s) (t : Nat) (port : Nat) :
    ∃ s₁, execRingLinkRestore t port s = .next s₁ ∧ Steady s₀ s₁ := by
  refine ⟨_, rfl, ?_⟩
  repeat' first
    | with_reducible assumption
    | with_reducible apply Steady.at
    | with_reducible apply Steady.drain
    | with_reducible apply Steady.emit
    | with_reducible apply Steady.modRingPort
    | with_reducible refine Steady.setF ?_ _ _
    | with_reducible refine Steady.ite ?_ ?_
    | (try lift_lets -underBinder); intro x; refine Steady.cut (x := x) ?_ ?_ <;> [subst x; (clear_value x; intro _)]
    | (try lift_lets -underBinder); intro x; first | subst x | skip
    | split
    | fail_if_no_progress dsimp only
    | fail_if_no_progress with_reducible refine Steady.upd ?_

theorem Steady.execDrainMarkerReturn (h : Steady s₀ s) (t : Nat) (port : Nat) :
    ∃ s₁, execDrainMarkerReturn t port s = .next s₁ ∧ Steady s₀ s₁ := by
  refine ⟨_, rfl, ?_⟩
  repeat' first
    | with_reducible assumption
    | with_reducible apply Steady.at
    | with_reducible apply Steady.modRingPort
    | with_reducible apply Steady.sendWrap
    | with_reducible apply Steady.setBreak
    | with_reducible refine Steady.setFields_nil ?_
    | with_reducible refine Steady.setFields_cons ?_
    | with_reducible refine Steady.setF ?_ _ _
    | with_reducible refine Steady.ite ?_ ?_
    | (try lift_lets -underBinder); intro x; refine Steady.cut (x := x) ?_ ?_ <;> [subst x; (clear_value x; intro _)]
    | (try lift_lets -underBinder); intro x; first | subst x | skip
    | fail_if_no_progress with_reducible refine Steady.upd ?_

/-! ### Machine/System.lean -/

theorem Steady.setAlarm (h : Steady s₀ s) (op : Bool) :
    Steady s₀ (State.setAlarm s op) := by
  delta State.setAlarm
  repeat' first
    | with_reducible assumption
    | with_reducible apply Steady.emit
    | with_reducible refine Steady.ite ?_ ?_
    | fail_if_no_progress with_reducible refine Steady.upd ?_

theorem Steady.execLogicReserveReached (h : Steady s₀ s) (t : Nat) :
    ∃ s₁, execLogicReserveReached t s = .next s₁ ∧ Steady s₀ s₁ := by
  refine ⟨_, rfl, ?_⟩
  repeat' first
    | with_reducible assumption
    | with_reducible apply Steady.at
    | with_reducible apply Steady.logicOff
    | with_reducible apply Steady.mainsGone
    | with_reducible apply Steady.setAlarm
    | with_reducible refine Steady.ite ?_ ?_
    | (try lift_lets -underBinder); intro x; refine Steady.cut (x := x) ?_ ?_ <;> [subst x; (clear_value x; intro _)]
    | (try lift_lets -underBinder); intro x; first | subst x | skip
    | fail_if_no_progress with_reducible refine Steady.upd ?_

theorem Steady.execSpitTimerExpiry (h : Steady s₀ s) (t : Nat) :
    ∃ s₁, execSpitTimerExpiry t s = .next s₁ ∧ Steady s₀ s₁ := by
  refine ⟨_, rfl, ?_⟩
  repeat' first
    | with_reducible assumption
    | with_reducible apply Steady.at
    | with_reducible refine Steady.ite ?_ ?_
    | (try lift_lets -underBinder); intro x; refine Steady.cut (x := x) ?_ ?_ <;> [subst x; (clear_value x; intro _)]
    | (try lift_lets -underBinder); intro x; first | subst x | skip
    | split
    | fail_if_no_progress dsimp only
    | fail_if_no_progress with_reducible refine Steady.upd ?_

theorem Steady.spitTile (h : Steady s₀ s) (k : Nat) (n : Nat) :
    Steady s₀ (State.spitTile s k n) := by
  delta State.spitTile
  repeat' first
    | with_reducible assumption
    | with_reducible refine Steady.addF ?_ _ _
    | with_reducible apply Steady.addUse
    | with_reducible apply Steady.count
    | with_reducible apply Steady.emit
    | with_reducible apply Steady.header
    | with_reducible refine Steady.header_eq ?_ (by assumption)
    | with_reducible refine Steady.incF ?_ _ _
    | with_reducible apply Steady.modFire
    | with_reducible apply Steady.modPort
    | with_reducible refine Steady.ite ?_ ?_
    | (try lift_lets -underBinder); intro x; refine Steady.cut (x := x) ?_ ?_ <;> [subst x; (clear_value x; intro _)]
    | (try lift_lets -underBinder); intro x; first | subst x | skip
    | split
    | fail_if_no_progress dsimp only
    | fail_if_no_progress with_reducible refine Steady.upd ?_

theorem Steady.execSpitCycle (h : Steady s₀ s) (t : Nat) :
    ∃ s₁, execSpitCycle t s = .next s₁ ∧ Steady s₀ s₁ := by
  refine ⟨_, rfl, ?_⟩
  repeat' first
    | with_reducible assumption
    | with_reducible apply Steady.at
    | with_reducible apply Steady.spitTile
    | with_reducible refine Steady.ite ?_ ?_
    | with_reducible refine Steady.foldl ?_ ?_
    | (try lift_lets -underBinder); intro x; refine Steady.cut (x := x) ?_ ?_ <;> [subst x; (clear_value x; intro _)]
    | (try lift_lets -underBinder); intro x; first | subst x | skip
    | split
    | fail_if_no_progress dsimp only
    | fail_if_no_progress with_reducible refine Steady.upd ?_

theorem Steady.dropPattern (h : Steady s₀ s) :
    Steady s₀ (State.dropPattern s) := by
  delta State.dropPattern
  repeat' first
    | with_reducible assumption
    | with_reducible apply Steady.modFire
    | with_reducible apply Steady.modWin
    | with_reducible refine Steady.setF ?_ _ _
    | with_reducible refine Steady.setFields_nil ?_
    | with_reducible refine Steady.setFields_cons ?_
    | with_reducible refine Steady.setF ?_ _ _
    | with_reducible apply Steady.showPlan
    | with_reducible refine Steady.foldl ?_ ?_
    | (try lift_lets -underBinder); intro x; refine Steady.cut (x := x) ?_ ?_ <;> [subst x; (clear_value x; intro _)]
    | (try lift_lets -underBinder); intro x; first | subst x | skip
    | fail_if_no_progress with_reducible refine Steady.upd ?_

theorem Steady.writeEnable (h : Steady s₀ s) (v : Word) :
    Steady s₀ (State.writeEnable s v) := by
  delta State.writeEnable
  repeat' first
    | with_reducible assumption
    | with_reducible apply Steady.startCheck
    | with_reducible refine Steady.ite ?_ ?_
    | (try lift_lets -underBinder); intro x; refine Steady.cut (x := x) ?_ ?_ <;> [subst x; (clear_value x; intro _)]
    | (try lift_lets -underBinder); intro x; first | subst x | skip

theorem Steady.execArm (h : Steady s₀ s) (t : Nat) (v : Word) :
    ∃ s₁, execArm t v s = .next s₁ ∧ Steady s₀ s₁ := by
  refine ⟨_, rfl, ?_⟩
  repeat' first
    | with_reducible assumption
    | with_reducible apply Steady.at
    | with_reducible apply Steady.onWrite
    | with_reducible apply Steady.writeEnable
    | with_reducible refine Steady.ite ?_ ?_
    | (try lift_lets -underBinder); intro x; refine Steady.cut (x := x) ?_ ?_ <;> [subst x; (clear_value x; intro _)]
    | (try lift_lets -underBinder); intro x; first | subst x | skip

theorem Steady.execLive (h : Steady s₀ s) (t : Nat) (v : Word) :
    ∃ s₁, execLive t v s = .next s₁ ∧ Steady s₀ s₁ := by
  refine ⟨_, rfl, ?_⟩
  repeat' first
    | with_reducible assumption
    | with_reducible apply Steady.at
    | with_reducible apply Steady.onWrite
    | with_reducible apply Steady.writeEnable
    | with_reducible refine Steady.ite ?_ ?_
    | (try lift_lets -underBinder); intro x; refine Steady.cut (x := x) ?_ ?_ <;> [subst x; (clear_value x; intro _)]
    | (try lift_lets -underBinder); intro x; first | subst x | skip

theorem Steady.execLiveCheckComplete (h : Steady s₀ s) (t : Nat) :
    ∃ s₁, execLiveCheckComplete t s = .next s₁ ∧ Steady s₀ s₁ := by
  refine ⟨_, rfl, ?_⟩
  repeat' first
    | with_reducible assumption
    | with_reducible apply Steady.at
    | with_reducible apply Steady.liveSwap
    | with_reducible apply Steady.noteSwaps
    | with_reducible apply Steady.postCheck
    | with_reducible refine Steady.setF ?_ _ _
    | with_reducible refine Steady.ite ?_ ?_
    | with_reducible refine Steady.foldl ?_ ?_
    | (try lift_lets -underBinder); intro x; refine Steady.cut (x := x) ?_ ?_ <;> [subst x; (clear_value x; intro _)]
    | (try lift_lets -underBinder); intro x; first | subst x | skip
    | split
    | fail_if_no_progress dsimp only
    | fail_if_no_progress with_reducible refine Steady.upd ?_

theorem Steady.writeNvCtrl (h : Steady s₀ s) (v : Word) :
    Steady s₀ (State.writeNvCtrl s v) := by
  delta State.writeNvCtrl
  repeat' first
    | with_reducible assumption
    | with_reducible refine Steady.setF ?_ _ _
    | with_reducible apply Steady.startCheck
    | with_reducible refine Steady.ite ?_ ?_
    | (try lift_lets -underBinder); intro x; refine Steady.cut (x := x) ?_ ?_ <;> [subst x; (clear_value x; intro _)]
    | (try lift_lets -underBinder); intro x; first | subst x | skip

theorem Steady.execStore (h : Steady s₀ s) (t : Nat) (v : Word) :
    ∃ s₁, execStore t v s = .next s₁ ∧ Steady s₀ s₁ := by
  refine ⟨_, rfl, ?_⟩
  repeat' first
    | with_reducible assumption
    | with_reducible apply Steady.at
    | with_reducible apply Steady.onWrite
    | with_reducible apply Steady.writeNvCtrl
    | with_reducible refine Steady.ite ?_ ?_
    | (try lift_lets -underBinder); intro x; refine Steady.cut (x := x) ?_ ?_ <;> [subst x; (clear_value x; intro _)]
    | (try lift_lets -underBinder); intro x; first | subst x | skip

theorem Steady.execStoreComplete (h : Steady s₀ s) (t : Nat) :
    ∃ s₁, execStoreComplete t s = .next s₁ ∧ Steady s₀ s₁ := by
  refine ⟨_, rfl, ?_⟩
  repeat' first
    | with_reducible assumption
    | with_reducible apply Steady.at
    | with_reducible apply Steady.postCheck
    | with_reducible refine Steady.ite ?_ ?_
    | (try lift_lets -underBinder); intro x; refine Steady.cut (x := x) ?_ ?_ <;> [subst x; (clear_value x; intro _)]
    | (try lift_lets -underBinder); intro x; first | subst x | skip
    | split
    | fail_if_no_progress dsimp only
    | fail_if_no_progress with_reducible refine Steady.upd ?_

theorem Steady.writeKey (h : Steady s₀ s) (k : Nat) (v : Word) :
    Steady s₀ (State.writeKey s k v) := by
  delta State.writeKey
  repeat' first
    | with_reducible assumption
    | with_reducible apply Steady.raise
    | with_reducible refine Steady.ite ?_ ?_
    | (try lift_lets -underBinder); intro x; refine Steady.cut (x := x) ?_ ?_ <;> [subst x; (clear_value x; intro _)]
    | (try lift_lets -underBinder); intro x; first | subst x | skip
    | fail_if_no_progress with_reducible refine Steady.upd ?_

theorem Steady.execCfgKeyStore (h : Steady s₀ s) (t : Nat) (v : Word) :
    ∃ s₁, execCfgKeyStore t v s = .next s₁ ∧ Steady s₀ s₁ := by
  refine ⟨_, rfl, ?_⟩
  repeat' first
    | with_reducible assumption
    | with_reducible apply Steady.at
    | with_reducible apply Steady.onWrite
    | with_reducible apply Steady.writeKey
    | (try lift_lets -underBinder); intro x; refine Steady.cut (x := x) ?_ ?_ <;> [subst x; (clear_value x; intro _)]
    | (try lift_lets -underBinder); intro x; first | subst x | skip

theorem Steady.writeLock (h : Steady s₀ s) (v : Word) :
    Steady s₀ (State.writeLock s v) := by
  delta State.writeLock
  repeat' first
    | with_reducible assumption
    | with_reducible apply Steady.raise
    | with_reducible refine Steady.ite ?_ ?_
    | fail_if_no_progress with_reducible refine Steady.upd ?_

theorem Steady.execLayoutLock (h : Steady s₀ s) (t : Nat) (v : Word) :
    ∃ s₁, execLayoutLock t v s = .next s₁ ∧ Steady s₀ s₁ := by
  refine ⟨_, rfl, ?_⟩
  repeat' first
    | with_reducible assumption
    | with_reducible apply Steady.at
    | with_reducible apply Steady.onWrite
    | with_reducible apply Steady.writeLock
    | (try lift_lets -underBinder); intro x; refine Steady.cut (x := x) ?_ ?_ <;> [subst x; (clear_value x; intro _)]
    | (try lift_lets -underBinder); intro x; first | subst x | skip

theorem Steady.execStagingWrite (h : Steady s₀ s) (t : Nat) (off : Nat) (data : List Nat) :
    ∃ s₁, execStagingWrite t off data s = .next s₁ ∧ Steady s₀ s₁ := by
  refine ⟨_, rfl, ?_⟩
  repeat' first
    | with_reducible assumption
    | with_reducible apply Steady.at
    | with_reducible apply Steady.onWrite
    | with_reducible apply Steady.putStaging
    | with_reducible refine Steady.ite ?_ ?_
    | (try lift_lets -underBinder); intro x; refine Steady.cut (x := x) ?_ ?_ <;> [subst x; (clear_value x; intro _)]
    | (try lift_lets -underBinder); intro x; first | subst x | skip

theorem Steady.execCueSafeIntervalEnd (h : Steady s₀ s) (t : Nat) (n : Nat) :
    ∃ s₁, execCueSafeIntervalEnd t n s = .next s₁ ∧ Steady s₀ s₁ := by
  refine ⟨_, rfl, ?_⟩
  repeat' first
    | with_reducible assumption
    | with_reducible apply Steady.at
    | with_reducible apply Steady.driveCue
    | with_reducible refine Steady.ite ?_ ?_
    | (try lift_lets -underBinder); intro x; refine Steady.cut (x := x) ?_ ?_ <;> [subst x; (clear_value x; intro _)]
    | (try lift_lets -underBinder); intro x; first | subst x | skip
    | split
    | fail_if_no_progress dsimp only
    | fail_if_no_progress with_reducible refine Steady.upd ?_

/-! ### Machine/Position.lean -/

theorem Steady.execIndexLatch (h : Steady s₀ s) (t : Nat) (n : Nat) (z : Bool) :
    ∃ s₁, execIndexLatch t n z s = .next s₁ ∧ Steady s₀ s₁ := by
  refine ⟨_, rfl, ?_⟩
  repeat' first
    | with_reducible assumption
    | with_reducible apply Steady.at
    | with_reducible apply Steady.latch
    | with_reducible apply Steady.modPin
    | with_reducible refine Steady.ite ?_ ?_
    | (try lift_lets -underBinder); intro x; refine Steady.cut (x := x) ?_ ?_ <;> [subst x; (clear_value x; intro _)]
    | (try lift_lets -underBinder); intro x; first | subst x | skip
    | fail_if_no_progress with_reducible refine Steady.upd ?_

theorem Steady.execStandstill (h : Steady s₀ s) (t : Nat) (n : Nat) :
    ∃ s₁, execStandstill t n s = .next s₁ ∧ Steady s₀ s₁ := by
  refine ⟨_, rfl, ?_⟩
  repeat' first
    | with_reducible assumption
    | with_reducible apply Steady.at
    | with_reducible apply Steady.modPin
    | with_reducible refine Steady.setF ?_ _ _
    | with_reducible apply Steady.settle
    | with_reducible refine Steady.ite ?_ ?_
    | (try lift_lets -underBinder); intro x; refine Steady.cut (x := x) ?_ ?_ <;> [subst x; (clear_value x; intro _)]
    | (try lift_lets -underBinder); intro x; first | subst x | skip
    | split
    | fail_if_no_progress dsimp only
    | fail_if_no_progress with_reducible refine Steady.upd ?_

theorem Steady.execPosPreset (h : Steady s₀ s) (t : Nat) (n : Nat) (v : Word) :
    ∃ s₁, execPosPreset t n v s = .next s₁ ∧ Steady s₀ s₁ := by
  refine ⟨_, rfl, ?_⟩
  repeat' first
    | with_reducible assumption
    | with_reducible apply Steady.at
    | with_reducible apply Steady.onWrite
    | with_reducible apply Steady.preset
    | (try lift_lets -underBinder); intro x; refine Steady.cut (x := x) ?_ ?_ <;> [subst x; (clear_value x; intro _)]
    | (try lift_lets -underBinder); intro x; first | subst x | skip

theorem Steady.execPosCmpWrite (h : Steady s₀ s) (t : Nat) (n : Nat) (v : Word) :
    ∃ s₁, execPosCmpWrite t n v s = .next s₁ ∧ Steady s₀ s₁ := by
  refine ⟨_, rfl, ?_⟩
  repeat' first
    | with_reducible assumption
    | with_reducible apply Steady.at
    | with_reducible apply Steady.onWrite
    | with_reducible apply Steady.writeCmp
    | (try lift_lets -underBinder); intro x; refine Steady.cut (x := x) ?_ ?_ <;> [subst x; (clear_value x; intro _)]
    | (try lift_lets -underBinder); intro x; first | subst x | skip

theorem Steady.execDecoderCrossCheck (h : Steady s₀ s) (t : Nat) (n : Nat) (same : Bool) :
    ∃ s₁, execDecoderCrossCheck t n same s = .next s₁ ∧ Steady s₀ s₁ := by
  refine ⟨_, rfl, ?_⟩
  repeat' first
    | with_reducible assumption
    | with_reducible apply Steady.at
    | with_reducible apply Steady.raise
    | with_reducible refine Steady.ite ?_ ?_
    | (try lift_lets -underBinder); intro x; refine Steady.cut (x := x) ?_ ?_ <;> [subst x; (clear_value x; intro _)]
    | (try lift_lets -underBinder); intro x; first | subst x | skip

theorem Steady.execLineref (h : Steady s₀ s) (t : Nat) (port : Nat) (p : RingPkt) :
    ∃ s₁, execLineref t port p s = .next s₁ ∧ Steady s₀ s₁ := by
  refine ⟨_, rfl, ?_⟩
  repeat' first
    | with_reducible assumption
    | with_reducible apply Steady.at
    | with_reducible apply Steady.packetIn
    | with_reducible apply Steady.refIn
    | with_reducible refine Steady.ite ?_ ?_
    | (try lift_lets -underBinder); intro x; refine Steady.cut (x := x) ?_ ?_ <;> [subst x; (clear_value x; intro _)]
    | (try lift_lets -underBinder); intro x; first | subst x | skip

theorem Steady.execLinerefHeartbeat (h : Steady s₀ s) (t : Nat) (n : Nat) :
    ∃ s₁, execLinerefHeartbeat t n s = .next s₁ ∧ Steady s₀ s₁ := by
  refine ⟨_, rfl, ?_⟩
  repeat' first
    | with_reducible assumption
    | with_reducible apply Steady.at
    | with_reducible apply Steady.modPin
    | with_reducible apply Steady.sendRef
    | with_reducible refine Steady.ite ?_ ?_
    | (try lift_lets -underBinder); intro x; refine Steady.cut (x := x) ?_ ?_ <;> [subst x; (clear_value x; intro _)]
    | (try lift_lets -underBinder); intro x; first | subst x | skip
    | fail_if_no_progress with_reducible refine Steady.upd ?_

theorem Steady.execLinerefLost (h : Steady s₀ s) (t : Nat) (ch : Nat) :
    ∃ s₁, execLinerefLost t ch s = .next s₁ ∧ Steady s₀ s₁ := by
  refine ⟨_, rfl, ?_⟩
  repeat' first
    | with_reducible assumption
    | with_reducible apply Steady.at
    | with_reducible apply Steady.raise
    | with_reducible refine Steady.setBit ?_ _ _ _
    | with_reducible refine Steady.ite ?_ ?_
    | (try lift_lets -underBinder); intro x; refine Steady.cut (x := x) ?_ ?_ <;> [subst x; (clear_value x; intro _)]
    | (try lift_lets -underBinder); intro x; first | subst x | skip
    | split
    | fail_if_no_progress dsimp only
    | fail_if_no_progress with_reducible refine Steady.upd ?_

theorem Steady.execLinkDelayMeasurement (h : Steady s₀ s) (t : Nat) (port : Nat) (delay : Nat) :
    ∃ s₁, execLinkDelayMeasurement t port delay s = .next s₁ ∧ Steady s₀ s₁ := by
  refine ⟨_, rfl, ?_⟩
  repeat' first
    | with_reducible assumption
    | with_reducible apply Steady.at
    | with_reducible refine Steady.setF ?_ _ _
    | with_reducible refine Steady.ite ?_ ?_
    | (try lift_lets -underBinder); intro x; refine Steady.cut (x := x) ?_ ?_ <;> [subst x; (clear_value x; intro _)]
    | (try lift_lets -underBinder); intro x; first | subst x | skip

/-! ### Machine/Calibration.lean -/

theorem Steady.calResult (h : Steady s₀ s) (k : Nat) (v : List Int) (pair : State → List Int → State) (h_pair : ∀ s x0, Steady s₀ s → Steady s₀ (pair s x0)) :
    Steady s₀ (State.calResult s k v pair) := by
  delta State.calResult
  repeat' first
    | with_reducible assumption
    | with_reducible apply h_pair
    | with_reducible apply Steady.modCal
    | (try lift_lets -underBinder); intro x; refine Steady.cut (x := x) ?_ ?_ <;> [subst x; (clear_value x; intro _)]
    | (try lift_lets -underBinder); intro x; first | subst x | skip
    | split
    | fail_if_no_progress with_reducible refine Steady.upd ?_

theorem Steady.execCalMeasurementComplete (h : Steady s₀ s) (t : Nat) (target : Nat) (inst : Nat) (vals : List Int) :
    ∃ s₁, execCalMeasurementComplete t target inst vals s = .next s₁ ∧ Steady s₀ s₁ := by
  refine ⟨_, rfl, ?_⟩
  repeat' first
    | with_reducible assumption
    | with_reducible apply Steady.at
    | with_reducible apply Steady.calDawnPair
    | with_reducible apply Steady.calPair
    | with_reducible apply Steady.calResult
    | with_reducible refine Steady.ite ?_ ?_
    | (try lift_lets -underBinder); intro x; refine Steady.cut (x := x) ?_ ?_ <;> [subst x; (clear_value x; intro _)]
    | (try lift_lets -underBinder); intro x; first | subst x | skip

theorem Steady.execCalInstanceDue (h : Steady s₀ s) (t : Nat) (k : Nat) :
    ∃ s₁, execCalInstanceDue t k s = .next s₁ ∧ Steady s₀ s₁ := by
  refine ⟨_, rfl, ?_⟩
  repeat' first
    | with_reducible assumption
    | with_reducible apply Steady.at
    | with_reducible apply Steady.calDue
    | with_reducible refine Steady.ite ?_ ?_
    | (try lift_lets -underBinder); intro x; refine Steady.cut (x := x) ?_ ?_ <;> [subst x; (clear_value x; intro _)]
    | (try lift_lets -underBinder); intro x; first | subst x | skip
    | split
    | fail_if_no_progress dsimp only
    | fail_if_no_progress with_reducible refine Steady.upd ?_

theorem Steady.execCalOverdue (h : Steady s₀ s) (t : Nat) (k : Nat) :
    ∃ s₁, execCalOverdue t k s = .next s₁ ∧ Steady s₀ s₁ := by
  refine ⟨_, rfl, ?_⟩
  repeat' first
    | with_reducible assumption
    | with_reducible apply Steady.at
    | with_reducible apply Steady.modCal
    | with_reducible apply Steady.raise
    | with_reducible refine Steady.ite ?_ ?_
    | (try lift_lets -underBinder); intro x; refine Steady.cut (x := x) ?_ ?_ <;> [subst x; (clear_value x; intro _)]
    | (try lift_lets -underBinder); intro x; first | subst x | skip
    | fail_if_no_progress with_reducible refine Steady.upd ?_

theorem Steady.execCalSlewIdleStep (h : Steady s₀ s) (t : Nat) (k : Nat) :
    ∃ s₁, execCalSlewIdleStep t k s = .next s₁ ∧ Steady s₀ s₁ := by
  refine ⟨_, rfl, ?_⟩
  repeat' first
    | with_reducible assumption
    | with_reducible apply Steady.at
    | with_reducible apply Steady.modCal
    | with_reducible apply Steady.slewTo
    | with_reducible refine Steady.ite ?_ ?_
    | (try lift_lets -underBinder); intro x; refine Steady.cut (x := x) ?_ ?_ <;> [subst x; (clear_value x; intro _)]
    | (try lift_lets -underBinder); intro x; first | subst x | skip
    | split
    | fail_if_no_progress dsimp only
    | fail_if_no_progress with_reducible refine Steady.upd ?_

theorem Steady.writeCalCtrl (h : Steady s₀ s) (v : Word) :
    Steady s₀ (State.writeCalCtrl s v) := by
  delta State.writeCalCtrl
  repeat' first
    | with_reducible assumption
    | with_reducible apply Steady.calAllDue
    | with_reducible refine Steady.setF ?_ _ _
    | with_reducible apply Steady.showSlewing
    | with_reducible refine Steady.ite ?_ ?_
    | (try lift_lets -underBinder); intro x; refine Steady.cut (x := x) ?_ ?_ <;> [subst x; (clear_value x; intro _)]
    | (try lift_lets -underBinder); intro x; first | subst x | skip

theorem Steady.execRunNow (h : Steady s₀ s) (t : Nat) (v : Word) :
    ∃ s₁, execRunNow t v s = .next s₁ ∧ Steady s₀ s₁ := by
  refine ⟨_, rfl, ?_⟩
  repeat' first
    | with_reducible assumption
    | with_reducible apply Steady.at
    | with_reducible apply Steady.onWrite
    | with_reducible apply Steady.writeCalCtrl
    | with_reducible refine Steady.ite ?_ ?_
    | (try lift_lets -underBinder); intro x; refine Steady.cut (x := x) ?_ ?_ <;> [subst x; (clear_value x; intro _)]
    | (try lift_lets -underBinder); intro x; first | subst x | skip

theorem Steady.writeCalImport (h : Steady s₀ s) (v : Word) :
    Steady s₀ (State.writeCalImport s v) := by
  delta State.writeCalImport
  repeat' first
    | with_reducible assumption
    | with_reducible refine Steady.setF ?_ _ _
    | with_reducible refine Steady.setFields_nil ?_
    | with_reducible refine Steady.setFields_cons ?_
    | with_reducible refine Steady.setF ?_ _ _
    | with_reducible refine Steady.ite ?_ ?_
    | with_reducible refine Steady.foldl ?_ ?_
    | (try lift_lets -underBinder); intro x; refine Steady.cut (x := x) ?_ ?_ <;> [subst x; (clear_value x; intro _)]
    | (try lift_lets -underBinder); intro x; first | subst x | skip
    | split
    | fail_if_no_progress dsimp only
    | fail_if_no_progress with_reducible refine Steady.upd ?_

theorem Steady.execCalImport (h : Steady s₀ s) (t : Nat) (v : Word) :
    ∃ s₁, execCalImport t v s = .next s₁ ∧ Steady s₀ s₁ := by
  refine ⟨_, rfl, ?_⟩
  repeat' first
    | with_reducible assumption
    | with_reducible apply Steady.at
    | with_reducible apply Steady.onWrite
    | with_reducible apply Steady.writeCalImport
    | with_reducible refine Steady.ite ?_ ?_
    | (try lift_lets -underBinder); intro x; refine Steady.cut (x := x) ?_ ?_ <;> [subst x; (clear_value x; intro _)]
    | (try lift_lets -underBinder); intro x; first | subst x | skip

/-! ### Machine/FaultOps.lean -/

theorem Steady.showQ (h : Steady s₀ s) :
    Steady s₀ (State.showQ s) := by
  delta State.showQ
  repeat' first
    | with_reducible assumption
    | with_reducible refine Steady.setFields_nil ?_
    | with_reducible refine Steady.setFields_cons ?_
    | with_reducible refine Steady.setF ?_ _ _

theorem Steady.checkFlood (h : Steady s₀ s) :
    Steady s₀ (State.checkFlood s) := by
  delta State.checkFlood
  repeat' first
    | with_reducible assumption
    | with_reducible refine Steady.setF ?_ _ _
    | with_reducible refine Steady.ite ?_ ?_
    | fail_if_no_progress with_reducible refine Steady.upd ?_

theorem Steady.enqueue (h : Steady s₀ s) (r : LogRec) :
    Steady s₀ (State.enqueue s r) := by
  delta State.enqueue
  repeat' first
    | with_reducible assumption
    | with_reducible apply Steady.checkFlood
    | with_reducible apply Steady.showQ
    | fail_if_no_progress with_reducible refine Steady.upd ?_

theorem Steady.fltMsix (h : Steady s₀ s) :
    Steady s₀ (State.fltMsix s) := by
  delta State.fltMsix
  repeat' first
    | with_reducible assumption
    | with_reducible apply Steady.msix

theorem Steady.irqNow (h : Steady s₀ s) (m : FaultMsg) :
    Steady s₀ (State.irqNow s m) := by
  delta State.irqNow
  repeat' first
    | with_reducible assumption
    | with_reducible apply Steady.fltMsix
    | with_reducible refine Steady.ite ?_ ?_

theorem Steady.fltDrop (h : Steady s₀ s) (m : FaultMsg) :
    Steady s₀ (State.fltDrop s m) := by
  delta State.fltDrop
  repeat' first
    | with_reducible assumption
    | with_reducible refine Steady.addF ?_ _ _
    | with_reducible apply Steady.irqNow
    | with_reducible refine Steady.ite ?_ ?_
    | (try lift_lets -underBinder); intro x; refine Steady.cut (x := x) ?_ ?_ <;> [subst x; (clear_value x; intro _)]
    | (try lift_lets -underBinder); intro x; first | subst x | skip
    | fail_if_no_progress with_reducible refine Steady.upd ?_

theorem Steady.coalesce (h : Steady s₀ s) (m : FaultMsg) (k : Nat × Nat × Nat) :
    Steady s₀ (State.coalesce s m k) := by
  delta State.coalesce
  repeat' first
    | with_reducible assumption
    | with_reducible apply Steady.count
    | with_reducible apply Steady.irqNow
    | with_reducible refine Steady.ite ?_ ?_
    | (try lift_lets -underBinder); intro x; refine Steady.cut (x := x) ?_ ?_ <;> [subst x; (clear_value x; intro _)]
    | (try lift_lets -underBinder); intro x; first | subst x | skip
    | fail_if_no_progress with_reducible refine Steady.upd ?_

theorem Steady.openEntry (h : Steady s₀ s) (k : Nat × Nat × Nat) :
    Steady s₀ (State.openEntry s k) := by
  delta State.openEntry
  repeat' first
    | with_reducible assumption
    | with_reducible apply Steady.showQ
    | with_reducible refine Steady.ite ?_ ?_
    | (try lift_lets -underBinder); intro x; refine Steady.cut (x := x) ?_ ?_ <;> [subst x; (clear_value x; intro _)]
    | (try lift_lets -underBinder); intro x; first | subst x | skip
    | fail_if_no_progress with_reducible refine Steady.upd ?_

theorem Steady.takeMsg (h : Steady s₀ s) (m : FaultMsg) :
    Steady s₀ (State.takeMsg s m) := by
  delta State.takeMsg
  repeat' first
    | with_reducible assumption
    | with_reducible apply Steady.coalesce
    | with_reducible apply Steady.enqueue
    | with_reducible apply Steady.fltDrop
    | with_reducible apply Steady.irqNow
    | with_reducible apply Steady.openEntry
    | with_reducible refine Steady.ite ?_ ?_
    | (try lift_lets -underBinder); intro x; refine Steady.cut (x := x) ?_ ?_ <;> [subst x; (clear_value x; intro _)]
    | (try lift_lets -underBinder); intro x; first | subst x | skip

theorem Steady.sendStop (h : Steady s₀ s) (m : FaultMsg) :
    Steady s₀ (State.sendStop s m) := by
  delta State.sendStop
  repeat' first
    | with_reducible assumption
    | with_reducible apply Steady.sendUrg
    | with_reducible refine Steady.ite ?_ ?_

theorem Steady.forwardMsg (h : Steady s₀ s) (m : FaultMsg) :
    Steady s₀ (State.forwardMsg s m) := by
  delta State.forwardMsg
  repeat' first
    | with_reducible assumption
    | with_reducible refine Steady.addF ?_ _ _
    | with_reducible apply Steady.sendUrg
    | with_reducible refine Steady.ite ?_ ?_
    | fail_if_no_progress with_reducible refine Steady.upd ?_

theorem Steady.showLog (h : Steady s₀ s) :
    Steady s₀ (State.showLog s) := by
  delta State.showLog
  repeat' first
    | with_reducible assumption
    | with_reducible refine Steady.setFb ?_ _ _

theorem Steady.hostLog (h : Steady s₀ s) (r : LogRec) :
    Steady s₀ (State.hostLog s r) := by
  delta State.hostLog
  repeat' first
    | with_reducible assumption
    | with_reducible apply Steady.hostWrite
    | with_reducible refine Steady.setF ?_ _ _
    | with_reducible refine Steady.setFields_nil ?_
    | with_reducible refine Steady.setFields_cons ?_
    | with_reducible refine Steady.setF ?_ _ _
    | with_reducible apply Steady.showLog
    | with_reducible refine Steady.ite ?_ ?_
    | (try lift_lets -underBinder); intro x; refine Steady.cut (x := x) ?_ ?_ <;> [subst x; (clear_value x; intro _)]
    | (try lift_lets -underBinder); intro x; first | subst x | skip
    | fail_if_no_progress with_reducible refine Steady.upd ?_

theorem Steady.queueNv (h : Steady s₀ s) (r : LogRec) :
    Steady s₀ (State.queueNv s r) := by
  delta State.queueNv
  repeat' first
    | with_reducible assumption
    | with_reducible refine Steady.addF ?_ _ _
    | with_reducible refine Steady.ite ?_ ?_
    | fail_if_no_progress with_reducible refine Steady.upd ?_

theorem Steady.writeFltPend (h : Steady s₀ s) (v : Word) :
    Steady s₀ (State.writeFltPend s v) := by
  delta State.writeFltPend
  repeat' first
    | with_reducible assumption
    | with_reducible apply Steady.setAlarm
    | with_reducible refine Steady.setF ?_ _ _
    | with_reducible apply Steady.showCues
    | with_reducible refine Steady.ite ?_ ?_
    | (try lift_lets -underBinder); intro x; refine Steady.cut (x := x) ?_ ?_ <;> [subst x; (clear_value x; intro _)]
    | (try lift_lets -underBinder); intro x; first | subst x | skip

theorem Steady.writeFltCtrl (h : Steady s₀ s) (v : Word) :
    Steady s₀ (State.writeFltCtrl s v) := by
  delta State.writeFltCtrl
  repeat' first
    | with_reducible assumption
    | with_reducible apply Steady.raise
    | with_reducible refine Steady.setF ?_ _ _
    | with_reducible refine Steady.setFields_nil ?_
    | with_reducible refine Steady.setFields_cons ?_
    | with_reducible refine Steady.setF ?_ _ _
    | with_reducible refine Steady.setReg ?_ _ _
    | with_reducible apply Steady.showLog
    | with_reducible refine Steady.ite ?_ ?_
    | (try lift_lets -underBinder); intro x; refine Steady.cut (x := x) ?_ ?_ <;> [subst x; (clear_value x; intro _)]
    | (try lift_lets -underBinder); intro x; first | subst x | skip
    | fail_if_no_progress with_reducible refine Steady.upd ?_

theorem Steady.writeLogHead (h : Steady s₀ s) (v : Word) :
    Steady s₀ (State.writeLogHead s v) := by
  delta State.writeLogHead
  repeat' first
    | with_reducible assumption
    | with_reducible refine Steady.setReg ?_ _ _
    | with_reducible apply Steady.showLog
    | (try lift_lets -underBinder); intro x; refine Steady.cut (x := x) ?_ ?_ <;> [subst x; (clear_value x; intro _)]
    | (try lift_lets -underBinder); intro x; first | subst x | skip
    | fail_if_no_progress with_reducible refine Steady.upd ?_

theorem Steady.inject (h : Steady s₀ s) (w : Nat) :
    Steady s₀ (State.inject s w) := by
  delta State.inject
  repeat' first
    | with_reducible assumption
    | with_reducible apply Steady.raise
    | with_reducible apply Steady.raiseAs
    | with_reducible refine Steady.ite ?_ ?_
    | (try lift_lets -underBinder); intro x; refine Steady.cut (x := x) ?_ ?_ <;> [subst x; (clear_value x; intro _)]
    | (try lift_lets -underBinder); intro x; first | subst x | skip
    | split
    | fail_if_no_progress dsimp only
    | fail_if_no_progress with_reducible refine Steady.upd ?_

/-! ### Machine/Faults.lean -/

theorem Steady.execNvLogWrite (h : Steady s₀ s) (t : Nat) :
    ∃ s₁, execNvLogWrite t s = .next s₁ ∧ Steady s₀ s₁ := by
  refine ⟨_, rfl, ?_⟩
  repeat' first
    | with_reducible assumption
    | with_reducible refine Steady.addF ?_ _ _
    | with_reducible apply Steady.at
    | with_reducible apply Steady.raise
    | with_reducible refine Steady.setF ?_ _ _
    | with_reducible refine Steady.ite ?_ ?_
    | with_reducible refine Steady.foldl ?_ ?_
    | (try lift_lets -underBinder); intro x; refine Steady.cut (x := x) ?_ ?_ <;> [subst x; (clear_value x; intro _)]
    | (try lift_lets -underBinder); intro x; first | subst x | skip
    | fail_if_no_progress with_reducible refine Steady.upd ?_

theorem Steady.execFloodClear (h : Steady s₀ s) (t : Nat) :
    ∃ s₁, execFloodClear t s = .next s₁ ∧ Steady s₀ s₁ := by
  refine ⟨_, rfl, ?_⟩
  repeat' first
    | with_reducible assumption
    | with_reducible apply Steady.at
    | with_reducible apply Steady.checkFlood
    | with_reducible apply Steady.count
    | with_reducible refine Steady.setF ?_ _ _
    | with_reducible apply Steady.showQ
    | with_reducible refine Steady.ite ?_ ?_
    | (try lift_lets -underBinder); intro x; refine Steady.cut (x := x) ?_ ?_ <;> [subst x; (clear_value x; intro _)]
    | (try lift_lets -underBinder); intro x; first | subst x | skip
    | fail_if_no_progress with_reducible refine Steady.upd ?_

theorem Steady.execFltPendAck (h : Steady s₀ s) (t : Nat) (v : Word) :
    ∃ s₁, execFltPendAck t v s = .next s₁ ∧ Steady s₀ s₁ := by
  refine ⟨_, rfl, ?_⟩
  repeat' first
    | with_reducible assumption
    | with_reducible apply Steady.at
    | with_reducible apply Steady.onWrite
    | with_reducible apply Steady.writeFltPend
    | (try lift_lets -underBinder); intro x; refine Steady.cut (x := x) ?_ ?_ <;> [subst x; (clear_value x; intro _)]
    | (try lift_lets -underBinder); intro x; first | subst x | skip

theorem Steady.execRelayReset (h : Steady s₀ s) (t : Nat) (v : Word) :
    ∃ s₁, execRelayReset t v s = .next s₁ ∧ Steady s₀ s₁ := by
  refine ⟨_, rfl, ?_⟩
  repeat' first
    | with_reducible assumption
    | with_reducible apply Steady.at
    | with_reducible apply Steady.onWrite
    | with_reducible apply Steady.writeFltPend
    | with_reducible refine Steady.ite ?_ ?_
    | (try lift_lets -underBinder); intro x; refine Steady.cut (x := x) ?_ ?_ <;> [subst x; (clear_value x; intro _)]
    | (try lift_lets -underBinder); intro x; first | subst x | skip

theorem Steady.execLogEn (h : Steady s₀ s) (t : Nat) (v : Word) :
    ∃ s₁, execLogEn t v s = .next s₁ ∧ Steady s₀ s₁ := by
  refine ⟨_, rfl, ?_⟩
  repeat' first
    | with_reducible assumption
    | with_reducible apply Steady.at
    | with_reducible apply Steady.onWrite
    | with_reducible apply Steady.writeFltCtrl
    | with_reducible refine Steady.ite ?_ ?_
    | (try lift_lets -underBinder); intro x; refine Steady.cut (x := x) ?_ ?_ <;> [subst x; (clear_value x; intro _)]
    | (try lift_lets -underBinder); intro x; first | subst x | skip

theorem Steady.execFltLogHeadWrite (h : Steady s₀ s) (t : Nat) (v : Word) :
    ∃ s₁, execFltLogHeadWrite t v s = .next s₁ ∧ Steady s₀ s₁ := by
  refine ⟨_, rfl, ?_⟩
  repeat' first
    | with_reducible assumption
    | with_reducible apply Steady.at
    | with_reducible apply Steady.onWrite
    | with_reducible apply Steady.writeLogHead
    | (try lift_lets -underBinder); intro x; refine Steady.cut (x := x) ?_ ?_ <;> [subst x; (clear_value x; intro _)]
    | (try lift_lets -underBinder); intro x; first | subst x | skip

theorem Steady.writeInject (h : Steady s₀ s) (lo : Nat) (v : Word) :
    Steady s₀ (State.writeInject s lo v) := by
  delta State.writeInject
  repeat' first
    | with_reducible assumption
    | with_reducible apply Steady.inject
    | with_reducible refine Steady.setFields_nil ?_
    | with_reducible refine Steady.setFields_cons ?_
    | with_reducible refine Steady.setF ?_ _ _

theorem Steady.execFltInject (h : Steady s₀ s) (t : Nat) (v : Word) :
    ∃ s₁, execFltInject t v s = .next s₁ ∧ Steady s₀ s₁ := by
  refine ⟨_, rfl, ?_⟩
  repeat' first
    | with_reducible assumption
    | with_reducible apply Steady.at
    | with_reducible apply Steady.onWrite
    | with_reducible apply Steady.writeInject
    | (try lift_lets -underBinder); intro x; refine Steady.cut (x := x) ?_ ?_ <;> [subst x; (clear_value x; intro _)]
    | (try lift_lets -underBinder); intro x; first | subst x | skip

theorem Steady.execFault (h : Steady s₀ s) (t : Nat) (port : Nat) (p : RingPkt) :
    ∃ s₁, execFault t port p s = .next s₁ ∧ Steady s₀ s₁ := by
  refine ⟨_, rfl, ?_⟩
  repeat' first
    | with_reducible assumption
    | with_reducible apply Steady.at
    | with_reducible apply Steady.packetIn
    | with_reducible apply Steady.takeMsg
    | with_reducible refine Steady.ite ?_ ?_
    | (try lift_lets -underBinder); intro x; refine Steady.cut (x := x) ?_ ?_ <;> [subst x; (clear_value x; intro _)]
    | (try lift_lets -underBinder); intro x; first | subst x | skip
    | fail_if_no_progress with_reducible refine Steady.upd ?_

theorem Steady.execStop (h : Steady s₀ s) (t : Nat) (port : Nat) (p : RingPkt) :
    ∃ s₁, execStop t port p s = .next s₁ ∧ Steady s₀ s₁ := by
  refine ⟨_, rfl, ?_⟩
  repeat' first
    | with_reducible assumption
    | with_reducible apply Steady.at
    | with_reducible apply Steady.packetIn
    | with_reducible apply Steady.raise
    | with_reducible refine Steady.ite ?_ ?_
    | (try lift_lets -underBinder); intro x; refine Steady.cut (x := x) ?_ ?_ <;> [subst x; (clear_value x; intro _)]
    | (try lift_lets -underBinder); intro x; first | subst x | skip

/-! ### Machine/HouseOps.lean -/

theorem Steady.aliasErr (h : Steady s₀ s) :
    Steady s₀ (State.aliasErr s) := by
  delta State.aliasErr
  repeat' first
    | with_reducible assumption
    | with_reducible refine Steady.addF ?_ _ _

theorem Steady.aliasWrite (h : Steady s₀ s) (view : Nat) (o : Nat) (bs : List Nat) :
    Steady s₀ (State.aliasWrite s view o bs) := by
  delta State.aliasWrite
  repeat' first
    | with_reducible assumption
    | with_reducible apply Steady.aliasErr
    | with_reducible apply Steady.countForm
    | with_reducible apply Steady.putForm
    | with_reducible refine Steady.ite ?_ ?_
    | (try lift_lets -underBinder); intro x; refine Steady.cut (x := x) ?_ ?_ <;> [subst x; (clear_value x; intro _)]
    | (try lift_lets -underBinder); intro x; first | subst x | skip

theorem Steady.aliasRead (h : Steady s₀ s) (view : Nat) (o : Nat) (n : Nat) :
    Steady s₀ (State.aliasRead s view o n).1 := by
  delta State.aliasRead
  repeat' first
    | with_reducible assumption
    | with_reducible apply Steady.aliasErr
    | with_reducible apply Steady.countForm
    | with_reducible refine Steady.ite ?_ ?_
    | with_reducible refine Steady.ite_fst ?_ ?_
    | split

theorem Steady.aliasRead_eq {c} {v} (h : Steady s₀ s) {view : Nat} {o : Nat} {n : Nat} (e : State.aliasRead s view o n = (c, v)) :
    Steady s₀ c := by
  have k := Steady.aliasRead h view o n
  rwa [e] at k

theorem Steady.pmcLoad (h : Steady s₀ s) (n : Nat) (lo : Nat) (hi : Nat) :
    Steady s₀ (State.pmcLoad s n lo hi) := by
  delta State.pmcLoad
  repeat' first
    | with_reducible assumption
    | with_reducible refine Steady.setFields_nil ?_
    | with_reducible refine Steady.setFields_cons ?_
    | with_reducible refine Steady.setF ?_ _ _

theorem Steady.dump (h : Steady s₀ s) (req : Bool) :
    Steady s₀ (State.dump s req) := by
  delta State.dump
  repeat' first
    | with_reducible assumption
    | with_reducible refine Steady.addF ?_ _ _
    | with_reducible apply Steady.hostWrite
    | with_reducible refine Steady.setF ?_ _ _
    | with_reducible refine Steady.setFields_nil ?_
    | with_reducible refine Steady.setFields_cons ?_
    | with_reducible refine Steady.setF ?_ _ _
    | with_reducible refine Steady.ite ?_ ?_
    | (try lift_lets -underBinder); intro x; refine Steady.cut (x := x) ?_ ?_ <;> [subst x; (clear_value x; intro _)]
    | (try lift_lets -underBinder); intro x; first | subst x | skip
    | fail_if_no_progress with_reducible refine Steady.upd ?_

theorem Steady.writePmcCtrl (h : Steady s₀ s) (v : Word) :
    Steady s₀ (State.writePmcCtrl s v) := by
  delta State.writePmcCtrl
  repeat' first
    | with_reducible assumption
    | with_reducible apply Steady.dump
    | with_reducible refine Steady.setFields_nil ?_
    | with_reducible refine Steady.setFields_cons ?_
    | with_reducible refine Steady.setF ?_ _ _
    | with_reducible refine Steady.setReg ?_ _ _
    | with_reducible refine Steady.ite ?_ ?_
    | (try lift_lets -underBinder); intro x; refine Steady.cut (x := x) ?_ ?_ <;> [subst x; (clear_value x; intro _)]
    | (try lift_lets -underBinder); intro x; first | subst x | skip
    | fail_if_no_progress with_reducible refine Steady.upd ?_

theorem Steady.writeDumpHead (h : Steady s₀ s) (v : Word) :
    Steady s₀ (State.writeDumpHead s v) := by
  delta State.writeDumpHead
  repeat' first
    | with_reducible assumption
    | with_reducible refine Steady.setF ?_ _ _
    | (try lift_lets -underBinder); intro x; refine Steady.cut (x := x) ?_ ?_ <;> [subst x; (clear_value x; intro _)]
    | (try lift_lets -underBinder); intro x; first | subst x | skip
    | fail_if_no_progress with_reducible refine Steady.upd ?_

theorem Steady.writeTagCtrl (h : Steady s₀ s) (v : Word) :
    Steady s₀ (State.writeTagCtrl s v) := by
  delta State.writeTagCtrl
  repeat' first
    | with_reducible assumption
    | with_reducible refine Steady.setFields_nil ?_
    | with_reducible refine Steady.setFields_cons ?_
    | with_reducible refine Steady.setF ?_ _ _
    | with_reducible refine Steady.ite ?_ ?_
    | (try lift_lets -underBinder); intro x; refine Steady.cut (x := x) ?_ ?_ <;> [subst x; (clear_value x; intro _)]
    | (try lift_lets -underBinder); intro x; first | subst x | skip
    | fail_if_no_progress with_reducible refine Steady.upd ?_

theorem Steady.writeTagStat (h : Steady s₀ s) (v : Word) :
    Steady s₀ (State.writeTagStat s v) := by
  delta State.writeTagStat
  repeat' first
    | with_reducible assumption
    | with_reducible refine Steady.setFields_nil ?_
    | with_reducible refine Steady.setFields_cons ?_
    | with_reducible refine Steady.setF ?_ _ _
    | with_reducible refine Steady.ite ?_ ?_
    | (try lift_lets -underBinder); intro x; refine Steady.cut (x := x) ?_ ?_ <;> [subst x; (clear_value x; intro _)]
    | (try lift_lets -underBinder); intro x; first | subst x | skip

theorem Steady.clockSet (h : Steady s₀ s) (m : Nat) (v : Word) :
    Steady s₀ (State.clockSet s m v) := by
  delta State.clockSet
  repeat' first
    | with_reducible assumption
    | with_reducible apply Steady.raise
    | with_reducible refine Steady.setF ?_ _ _
    | with_reducible refine Steady.ite ?_ ?_
    | (try lift_lets -underBinder); intro x; refine Steady.cut (x := x) ?_ ?_ <;> [subst x; (clear_value x; intro _)]
    | (try lift_lets -underBinder); intro x; first | subst x | skip
    | fail_if_no_progress with_reducible refine Steady.upd ?_

theorem Steady.clockDate (h : Steady s₀ s) (m : Nat) (v : Word) :
    Steady s₀ (State.clockDate s m v) := by
  delta State.clockDate
  repeat' first
    | with_reducible assumption
    | fail_if_no_progress with_reducible refine Steady.upd ?_

/-! ### Machine/Housekeeping.lean -/

theorem Steady.execAliasSetWrite (h : Steady s₀ s) (t : Nat) (off : Nat) (data : List Nat) :
    ∃ s₁, execAliasSetWrite t off data s = .next s₁ ∧ Steady s₀ s₁ := by
  refine ⟨_, rfl, ?_⟩
  repeat' first
    | with_reducible assumption
    | with_reducible apply Steady.aliasWrite
    | with_reducible apply Steady.at
    | with_reducible apply Steady.onWrite
    | with_reducible refine Steady.ite ?_ ?_
    | (try lift_lets -underBinder); intro x; refine Steady.cut (x := x) ?_ ?_ <;> [subst x; (clear_value x; intro _)]
    | (try lift_lets -underBinder); intro x; first | subst x | skip

theorem Steady.execAliasClearWrite (h : Steady s₀ s) (t : Nat) (off : Nat) (data : List Nat) :
    ∃ s₁, execAliasClearWrite t off data s = .next s₁ ∧ Steady s₀ s₁ := by
  refine ⟨_, rfl, ?_⟩
  repeat' first
    | with_reducible assumption
    | with_reducible apply Steady.aliasWrite
    | with_reducible apply Steady.at
    | with_reducible apply Steady.onWrite
    | with_reducible refine Steady.ite ?_ ?_
    | (try lift_lets -underBinder); intro x; refine Steady.cut (x := x) ?_ ?_ <;> [subst x; (clear_value x; intro _)]
    | (try lift_lets -underBinder); intro x; first | subst x | skip

theorem Steady.execMemEccCorrected (h : Steady s₀ s) (t : Nat) (mem : Nat) (a : Nat) :
    ∃ s₁, execMemEccCorrected t mem a s = .next s₁ ∧ Steady s₀ s₁ := by
  refine ⟨_, rfl, ?_⟩
  repeat' first
    | with_reducible assumption
    | with_reducible refine Steady.addF ?_ _ _
    | with_reducible apply Steady.at
    | with_reducible apply Steady.raise
    | with_reducible refine Steady.ite ?_ ?_
    | (try lift_lets -underBinder); intro x; refine Steady.cut (x := x) ?_ ?_ <;> [subst x; (clear_value x; intro _)]
    | (try lift_lets -underBinder); intro x; first | subst x | skip
    | split
    | fail_if_no_progress dsimp only
    | fail_if_no_progress with_reducible refine Steady.upd ?_

theorem Steady.eccReader (h : Steady s₀ s) (a : Nat) (r : EccReader) : Steady s₀ (State.eccReader s a r) := by
  cases r <;> delta State.eccReader <;> dsimp only
  repeat' first
    | with_reducible assumption
    | with_reducible apply Steady.chunkError
    | with_reducible apply Steady.emit
    | with_reducible refine Steady.ite ?_ ?_
    | (try lift_lets -underBinder); intro x; first | subst x | skip
    | split
    | fail_if_no_progress with_reducible refine Steady.upd ?_

theorem Steady.execMemEccUncorrectable (h : Steady s₀ s) (t : Nat) (mem : Nat) (a : Nat) (r : EccReader) :
    ∃ s₁, execMemEccUncorrectable t mem a r s = .next s₁ ∧ Steady s₀ s₁ := by
  refine ⟨_, rfl, ?_⟩
  repeat' first
    | with_reducible assumption
    | with_reducible refine Steady.addF ?_ _ _
    | with_reducible apply Steady.at
    | with_reducible apply Steady.eccReader
    | with_reducible apply Steady.raise
    | with_reducible refine Steady.ite ?_ ?_
    | (try lift_lets -underBinder); intro x; refine Steady.cut (x := x) ?_ ?_ <;> [subst x; (clear_value x; intro _)]
    | (try lift_lets -underBinder); intro x; first | subst x | skip

theorem Steady.execPmcLoad (h : Steady s₀ s) (t : Nat) (n : Nat) (v : Word) :
    ∃ s₁, execPmcLoad t n v s = .next s₁ ∧ Steady s₀ s₁ := by
  refine ⟨_, rfl, ?_⟩
  repeat' first
    | with_reducible assumption
    | with_reducible apply Steady.at
    | with_reducible apply Steady.onWrite
    | with_reducible apply Steady.pmcLoad
    | with_reducible refine Steady.ite ?_ ?_
    | (try lift_lets -underBinder); intro x; refine Steady.cut (x := x) ?_ ?_ <;> [subst x; (clear_value x; intro _)]
    | (try lift_lets -underBinder); intro x; first | subst x | skip

theorem Steady.execPmcDump (h : Steady s₀ s) (t : Nat) :
    ∃ s₁, execPmcDump t s = .next s₁ ∧ Steady s₀ s₁ := by
  refine ⟨_, rfl, ?_⟩
  repeat' first
    | with_reducible assumption
    | with_reducible apply Steady.at
    | with_reducible apply Steady.dump
    | with_reducible refine Steady.ite ?_ ?_
    | (try lift_lets -underBinder); intro x; refine Steady.cut (x := x) ?_ ?_ <;> [subst x; (clear_value x; intro _)]
    | (try lift_lets -underBinder); intro x; first | subst x | skip
    | fail_if_no_progress with_reducible refine Steady.upd ?_

theorem Steady.execDumpNow (h : Steady s₀ s) (t : Nat) (v : Word) :
    ∃ s₁, execDumpNow t v s = .next s₁ ∧ Steady s₀ s₁ := by
  refine ⟨_, rfl, ?_⟩
  repeat' first
    | with_reducible assumption
    | with_reducible apply Steady.at
    | with_reducible apply Steady.onWrite
    | with_reducible apply Steady.writePmcCtrl
    | with_reducible refine Steady.ite ?_ ?_
    | (try lift_lets -underBinder); intro x; refine Steady.cut (x := x) ?_ ?_ <;> [subst x; (clear_value x; intro _)]
    | (try lift_lets -underBinder); intro x; first | subst x | skip

theorem Steady.execDumpEn (h : Steady s₀ s) (t : Nat) (v : Word) :
    ∃ s₁, execDumpEn t v s = .next s₁ ∧ Steady s₀ s₁ := by
  refine ⟨_, rfl, ?_⟩
  repeat' first
    | with_reducible assumption
    | with_reducible apply Steady.at
    | with_reducible apply Steady.onWrite
    | with_reducible apply Steady.writePmcCtrl
    | with_reducible refine Steady.ite ?_ ?_
    | (try lift_lets -underBinder); intro x; refine Steady.cut (x := x) ?_ ?_ <;> [subst x; (clear_value x; intro _)]
    | (try lift_lets -underBinder); intro x; first | subst x | skip

theorem Steady.execTagLoad (h : Steady s₀ s) (t : Nat) (v : Word) :
    ∃ s₁, execTagLoad t v s = .next s₁ ∧ Steady s₀ s₁ := by
  refine ⟨_, rfl, ?_⟩
  repeat' first
    | with_reducible assumption
    | with_reducible apply Steady.at
    | with_reducible apply Steady.onWrite
    | with_reducible apply Steady.writeTagCtrl
    | with_reducible refine Steady.ite ?_ ?_
    | (try lift_lets -underBinder); intro x; refine Steady.cut (x := x) ?_ ?_ <;> [subst x; (clear_value x; intro _)]
    | (try lift_lets -underBinder); intro x; first | subst x | skip

theorem Steady.execTagRecordComplete (h : Steady s₀ s) (t : Nat) (abandoned : Bool) :
    ∃ s₁, execTagRecordComplete t abandoned s = .next s₁ ∧ Steady s₀ s₁ := by
  refine ⟨_, rfl, ?_⟩
  repeat' first
    | with_reducible assumption
    | with_reducible apply Steady.at
    | with_reducible apply Steady.tagRecord
    | (try lift_lets -underBinder); intro x; refine Steady.cut (x := x) ?_ ?_ <;> [subst x; (clear_value x; intro _)]
    | (try lift_lets -underBinder); intro x; first | subst x | skip

theorem Steady.execTagPop (h : Steady s₀ s) (t : Nat) (v : Word) :
    ∃ s₁, execTagPop t v s = .next s₁ ∧ Steady s₀ s₁ := by
  refine ⟨_, rfl, ?_⟩
  repeat' first
    | with_reducible assumption
    | with_reducible apply Steady.at
    | with_reducible apply Steady.onWrite
    | with_reducible apply Steady.writeTagStat
    | (try lift_lets -underBinder); intro x; refine Steady.cut (x := x) ?_ ?_ <;> [subst x; (clear_value x; intro _)]
    | (try lift_lets -underBinder); intro x; first | subst x | skip

theorem Steady.execCalendarSecond (h : Steady s₀ s) (t : Nat) :
    ∃ s₁, execCalendarSecond t s = .next s₁ ∧ Steady s₀ s₁ := by
  refine ⟨_, rfl, ?_⟩
  repeat' first
    | with_reducible assumption
    | with_reducible apply Steady.at
    | with_reducible apply Steady.tick
    | (try lift_lets -underBinder); intro x; refine Steady.cut (x := x) ?_ ?_ <;> [subst x; (clear_value x; intro _)]
    | (try lift_lets -underBinder); intro x; first | subst x | skip
    | fail_if_no_progress with_reducible refine Steady.upd ?_

theorem Steady.execClockSet (h : Steady s₀ s) (t : Nat) (m : Master) (v : Word) :
    ∃ s₁, execClockSet t m v s = .next s₁ ∧ Steady s₀ s₁ := by
  refine ⟨_, rfl, ?_⟩
  repeat' first
    | with_reducible assumption
    | with_reducible apply Steady.at
    | with_reducible apply Steady.clockSet
    | with_reducible apply Steady.onWrite
    | (try lift_lets -underBinder); intro x; refine Steady.cut (x := x) ?_ ?_ <;> [subst x; (clear_value x; intro _)]
    | (try lift_lets -underBinder); intro x; first | subst x | skip

/-! ### Machine/Power.lean -/

theorem Steady.showGone (h : Steady s₀ s) :
    Steady s₀ (State.showGone s) := by
  delta State.showGone
  repeat' first
    | with_reducible assumption
    | with_reducible apply Steady.mainsGone
    | with_reducible refine Steady.ite ?_ ?_
    | fail_if_no_progress with_reducible refine Steady.upd ?_

theorem Steady.showLink (h : Steady s₀ s) (v : Nat) :
    Steady s₀ (State.showLink s v) := by
  delta State.showLink
  repeat' first
    | with_reducible assumption
    | with_reducible refine Steady.setFb ?_ _ _
    | with_reducible refine Steady.setFields_nil ?_
    | with_reducible refine Steady.setFields_cons ?_
    | with_reducible refine Steady.setF ?_ _ _
    | with_reducible refine Steady.ite ?_ ?_
    | with_reducible refine Steady.foldl ?_ ?_
    | (try lift_lets -underBinder); intro x; refine Steady.cut (x := x) ?_ ?_ <;> [subst x; (clear_value x; intro _)]
    | (try lift_lets -underBinder); intro x; first | subst x | skip

theorem Steady.setDc (h : Steady s₀ s) (on : Bool) :
    Steady s₀ (State.setDc s on) := by
  delta State.setDc
  repeat' first
    | with_reducible assumption
    | with_reducible refine Steady.setFb ?_ _ _
    | fail_if_no_progress with_reducible refine Steady.upd ?_

theorem Steady.storeIdle (h : Steady s₀ s) :
    Steady s₀ (State.storeIdle s) := by
  delta State.storeIdle
  repeat' first
    | with_reducible assumption
    | fail_if_no_progress with_reducible refine Steady.upd ?_

theorem Steady.enterRide (h : Steady s₀ s) :
    Steady s₀ (State.enterRide s) := by
  delta State.enterRide
  repeat' first
    | with_reducible assumption
    | with_reducible apply Steady.setSrc
    | with_reducible refine Steady.ite ?_ ?_
    | fail_if_no_progress with_reducible refine Steady.upd ?_

theorem Steady.execMainsPresent (h : Steady s₀ s) (t : Nat) :
    ∃ s₁, execMainsPresent t s = .next s₁ ∧ Steady s₀ s₁ := by
  refine ⟨_, rfl, ?_⟩
  repeat' first
    | with_reducible assumption
    | with_reducible apply Steady.at
    | with_reducible apply Steady.enterRide
    | with_reducible refine Steady.setF ?_ _ _
    | with_reducible apply Steady.showGone
    | with_reducible refine Steady.ite ?_ ?_
    | (try lift_lets -underBinder); intro x; refine Steady.cut (x := x) ?_ ?_ <;> [subst x; (clear_value x; intro _)]
    | (try lift_lets -underBinder); intro x; first | subst x | skip
    | fail_if_no_progress with_reducible refine Steady.upd ?_

theorem Steady.execMainsQualified (h : Steady s₀ s) (t : Nat) :
    ∃ s₁, execMainsQualified t s = .next s₁ ∧ Steady s₀ s₁ := by
  refine ⟨_, rfl, ?_⟩
  repeat' first
    | with_reducible assumption
    | with_reducible apply Steady.at
    | with_reducible refine Steady.setF ?_ _ _
    | with_reducible apply Steady.setSrc
    | with_reducible apply Steady.storeIdle
    | with_reducible refine Steady.ite ?_ ?_
    | (try lift_lets -underBinder); intro x; refine Steady.cut (x := x) ?_ ?_ <;> [subst x; (clear_value x; intro _)]
    | (try lift_lets -underBinder); intro x; first | subst x | skip
    | split
    | fail_if_no_progress dsimp only
    | fail_if_no_progress with_reducible refine Steady.upd ?_

theorem Steady.execDcRampComplete (h : Steady s₀ s) (t : Nat) :
    ∃ s₁, execDcRampComplete t s = .next s₁ ∧ Steady s₀ s₁ := by
  refine ⟨_, rfl, ?_⟩
  repeat' first
    | with_reducible assumption
    | with_reducible apply Steady.at
    | with_reducible apply Steady.enterRide
    | with_reducible refine Steady.ite ?_ ?_
    | (try lift_lets -underBinder); intro x; refine Steady.cut (x := x) ?_ ?_ <;> [subst x; (clear_value x; intro _)]
    | (try lift_lets -underBinder); intro x; first | subst x | skip

theorem Steady.execLinkOvervoltage (h : Steady s₀ s) (t : Nat) (v : Nat) :
    ∃ s₁, execLinkOvervoltage t v s = .next s₁ ∧ Steady s₀ s₁ := by
  refine ⟨_, rfl, ?_⟩
  repeat' first
    | with_reducible assumption
    | with_reducible apply Steady.at
    | with_reducible apply Steady.raise
    | with_reducible apply Steady.showLink
    | with_reducible refine Steady.ite ?_ ?_
    | (try lift_lets -underBinder); intro x; refine Steady.cut (x := x) ?_ ?_ <;> [subst x; (clear_value x; intro _)]
    | (try lift_lets -underBinder); intro x; first | subst x | skip

theorem Steady.execLinkHigh (h : Steady s₀ s) (t : Nat) (v : Nat) :
    ∃ s₁, execLinkHigh t v s = .next s₁ ∧ Steady s₀ s₁ := by
  refine ⟨_, rfl, ?_⟩
  repeat' first
    | with_reducible assumption
    | with_reducible apply Steady.at
    | with_reducible apply Steady.raise
    | with_reducible apply Steady.showLink
    | with_reducible refine Steady.ite ?_ ?_
    | (try lift_lets -underBinder); intro x; refine Steady.cut (x := x) ?_ ?_ <;> [subst x; (clear_value x; intro _)]
    | (try lift_lets -underBinder); intro x; first | subst x | skip

theorem Steady.execLinkPfcStop (h : Steady s₀ s) (t : Nat) (v : Nat) :
    ∃ s₁, execLinkPfcStop t v s = .next s₁ ∧ Steady s₀ s₁ := by
  refine ⟨_, rfl, ?_⟩
  repeat' first
    | with_reducible assumption
    | with_reducible apply Steady.at
    | with_reducible apply Steady.showLink
    | with_reducible apply Steady.storeIdle
    | with_reducible refine Steady.ite ?_ ?_
    | (try lift_lets -underBinder); intro x; refine Steady.cut (x := x) ?_ ?_ <;> [subst x; (clear_value x; intro _)]
    | (try lift_lets -underBinder); intro x; first | subst x | skip
    | fail_if_no_progress with_reducible refine Steady.upd ?_

theorem Steady.execLinkStoreDischarge (h : Steady s₀ s) (t : Nat) (v : Nat) :
    ∃ s₁, execLinkStoreDischarge t v s = .next s₁ ∧ Steady s₀ s₁ := by
  refine ⟨_, rfl, ?_⟩
  repeat' first
    | with_reducible assumption
    | with_reducible apply Steady.at
    | with_reducible apply Steady.showLink
    | with_reducible apply Steady.storeIdle
    | with_reducible refine Steady.ite ?_ ?_
    | (try lift_lets -underBinder); intro x; refine Steady.cut (x := x) ?_ ?_ <;> [subst x; (clear_value x; intro _)]
    | (try lift_lets -underBinder); intro x; first | subst x | skip
    | fail_if_no_progress with_reducible refine Steady.upd ?_

theorem Steady.execLinkUndervoltage (h : Steady s₀ s) (t : Nat) (v : Nat) :
    ∃ s₁, execLinkUndervoltage t v s = .next s₁ ∧ Steady s₀ s₁ := by
  refine ⟨_, rfl, ?_⟩
  repeat' first
    | with_reducible assumption
    | with_reducible apply Steady.at
    | with_reducible apply Steady.axisOff
    | with_reducible apply Steady.railsOff
    | with_reducible apply Steady.raise
    | with_reducible apply Steady.showLink
    | with_reducible refine Steady.ite ?_ ?_
    | with_reducible refine Steady.foldl ?_ ?_
    | (try lift_lets -underBinder); intro x; refine Steady.cut (x := x) ?_ ?_ <;> [subst x; (clear_value x; intro _)]
    | (try lift_lets -underBinder); intro x; first | subst x | skip
    | fail_if_no_progress with_reducible refine Steady.upd ?_

theorem Steady.showMeas (h : Steady s₀ s) (m : BrokerMeas) :
    Steady s₀ (State.showMeas s m) := by
  delta State.showMeas
  repeat' first
    | with_reducible assumption
    | with_reducible refine Steady.setFb ?_ _ _
    | with_reducible refine Steady.setFields_nil ?_
    | with_reducible refine Steady.setFields_cons ?_
    | with_reducible refine Steady.setF ?_ _ _
    | with_reducible refine Steady.setFs ?_ _ _
    | with_reducible apply Steady.showLink
    | with_reducible apply Steady.startRails
    | with_reducible refine Steady.ite ?_ ?_
    | with_reducible refine Steady.foldl ?_ ?_
    | (try lift_lets -underBinder); intro x; refine Steady.cut (x := x) ?_ ?_ <;> [subst x; (clear_value x; intro _)]
    | (try lift_lets -underBinder); intro x; first | subst x | skip
    | fail_if_no_progress with_reducible refine Steady.upd ?_

theorem Steady.groupMembers (h : Steady s₀ s) :
    Steady s₀ (State.groupMembers s) := by
  delta State.groupMembers
  repeat' first
    | with_reducible assumption
    | with_reducible refine Steady.setF ?_ _ _
    | with_reducible refine Steady.ite ?_ ?_
    | (try lift_lets -underBinder); intro x; refine Steady.cut (x := x) ?_ ?_ <;> [subst x; (clear_value x; intro _)]
    | (try lift_lets -underBinder); intro x; first | subst x | skip
    | fail_if_no_progress with_reducible refine Steady.upd ?_

theorem Steady.setLimits (h : Steady s₀ s) :
    Steady s₀ (State.setLimits s) := by
  delta State.setLimits
  repeat' first
    | with_reducible assumption
    | with_reducible refine Steady.setFields_nil ?_
    | with_reducible refine Steady.setFields_cons ?_
    | with_reducible refine Steady.setF ?_ _ _
    | with_reducible refine Steady.ite ?_ ?_
    | (try lift_lets -underBinder); intro x; refine Steady.cut (x := x) ?_ ?_ <;> [subst x; (clear_value x; intro _)]
    | (try lift_lets -underBinder); intro x; first | subst x | skip
    | fail_if_no_progress with_reducible refine Steady.upd ?_

theorem Steady.setAllowance (h : Steady s₀ s) :
    Steady s₀ (State.setAllowance s) := by
  delta State.setAllowance
  repeat' first
    | with_reducible assumption
    | with_reducible refine Steady.setF ?_ _ _
    | with_reducible refine Steady.ite ?_ ?_
    | with_reducible refine Steady.foldl ?_ ?_
    | (try lift_lets -underBinder); intro x; refine Steady.cut (x := x) ?_ ?_ <;> [subst x; (clear_value x; intro _)]
    | (try lift_lets -underBinder); intro x; first | subst x | skip

theorem Steady.execRailLimit (h : Steady s₀ s) (t : Nat) (q : Nat) :
    ∃ s₁, execRailLimit t q s = .next s₁ ∧ Steady s₀ s₁ := by
  refine ⟨_, rfl, ?_⟩
  repeat' first
    | with_reducible assumption
    | with_reducible apply Steady.at
    | with_reducible apply Steady.raise
    | with_reducible refine Steady.setF ?_ _ _
    | with_reducible refine Steady.ite ?_ ?_
    | (try lift_lets -underBinder); intro x; refine Steady.cut (x := x) ?_ ?_ <;> [subst x; (clear_value x; intro _)]
    | (try lift_lets -underBinder); intro x; first | subst x | skip

theorem Steady.execRailUndervoltage (h : Steady s₀ s) (t : Nat) (q : Nat) :
    ∃ s₁, execRailUndervoltage t q s = .next s₁ ∧ Steady s₀ s₁ := by
  refine ⟨_, rfl, ?_⟩
  repeat' first
    | with_reducible assumption
    | with_reducible apply Steady.at
    | with_reducible apply Steady.raise
    | with_reducible refine Steady.setF ?_ _ _
    | with_reducible refine Steady.ite ?_ ?_
    | (try lift_lets -underBinder); intro x; refine Steady.cut (x := x) ?_ ?_ <;> [subst x; (clear_value x; intro _)]
    | (try lift_lets -underBinder); intro x; first | subst x | skip

theorem Steady.execRailShort (h : Steady s₀ s) (t : Nat) (q : Nat) :
    ∃ s₁, execRailShort t q s = .next s₁ ∧ Steady s₀ s₁ := by
  refine ⟨_, rfl, ?_⟩
  repeat' first
    | with_reducible assumption
    | with_reducible apply Steady.at
    | with_reducible apply Steady.failTile
    | with_reducible apply Steady.modRail
    | with_reducible apply Steady.raise
    | with_reducible refine Steady.setFields_nil ?_
    | with_reducible refine Steady.setFields_cons ?_
    | with_reducible refine Steady.setF ?_ _ _
    | with_reducible refine Steady.ite ?_ ?_
    | with_reducible refine Steady.foldl ?_ ?_
    | (try lift_lets -underBinder); intro x; refine Steady.cut (x := x) ?_ ?_ <;> [subst x; (clear_value x; intro _)]
    | (try lift_lets -underBinder); intro x; first | subst x | skip

theorem Steady.execRailRampComplete (h : Steady s₀ s) (t : Nat) (q : Nat) :
    ∃ s₁, execRailRampComplete t q s = .next s₁ ∧ Steady s₀ s₁ := by
  refine ⟨_, rfl, ?_⟩
  repeat' first
    | with_reducible assumption
    | with_reducible apply Steady.at
    | with_reducible apply Steady.modRail
    | with_reducible refine Steady.setF ?_ _ _
    | with_reducible refine Steady.setFields_nil ?_
    | with_reducible refine Steady.setFields_cons ?_
    | with_reducible refine Steady.setF ?_ _ _
    | with_reducible refine Steady.ite ?_ ?_
    | (try lift_lets -underBinder); intro x; refine Steady.cut (x := x) ?_ ?_ <;> [subst x; (clear_value x; intro _)]
    | (try lift_lets -underBinder); intro x; first | subst x | skip
    | fail_if_no_progress with_reducible refine Steady.upd ?_

theorem Steady.execLogicOverdraw (h : Steady s₀ s) (t : Nat) (w : Nat) :
    ∃ s₁, execLogicOverdraw t w s = .next s₁ ∧ Steady s₀ s₁ := by
  refine ⟨_, rfl, ?_⟩
  repeat' first
    | with_reducible assumption
    | with_reducible apply Steady.at
    | with_reducible apply Steady.raise
    | with_reducible refine Steady.ite ?_ ?_
    | (try lift_lets -underBinder); intro x; refine Steady.cut (x := x) ?_ ?_ <;> [subst x; (clear_value x; intro _)]
    | (try lift_lets -underBinder); intro x; first | subst x | skip

theorem Steady.execStoreOvervoltage (h : Steady s₀ s) (t : Nat) (v : Nat) :
    ∃ s₁, execStoreOvervoltage t v s = .next s₁ ∧ Steady s₀ s₁ := by
  refine ⟨_, rfl, ?_⟩
  repeat' first
    | with_reducible assumption
    | with_reducible apply Steady.at
    | with_reducible apply Steady.raise
    | with_reducible refine Steady.setF ?_ _ _
    | with_reducible refine Steady.ite ?_ ?_
    | (try lift_lets -underBinder); intro x; refine Steady.cut (x := x) ?_ ?_ <;> [subst x; (clear_value x; intro _)]
    | (try lift_lets -underBinder); intro x; first | subst x | skip

theorem Steady.execDcInputQualified (h : Steady s₀ s) (t : Nat) :
    ∃ s₁, execDcInputQualified t s = .next s₁ ∧ Steady s₀ s₁ := by
  refine ⟨_, rfl, ?_⟩
  repeat' first
    | with_reducible assumption
    | with_reducible apply Steady.at
    | with_reducible apply Steady.setDc
    | with_reducible refine Steady.setFields_nil ?_
    | with_reducible refine Steady.setFields_cons ?_
    | with_reducible refine Steady.setF ?_ _ _
    | with_reducible apply Steady.showGone
    | with_reducible refine Steady.ite ?_ ?_
    | (try lift_lets -underBinder); intro x; refine Steady.cut (x := x) ?_ ?_ <;> [subst x; (clear_value x; intro _)]
    | (try lift_lets -underBinder); intro x; first | subst x | skip

theorem Steady.execDcInputRange (h : Steady s₀ s) (t : Nat) (v : Int) :
    ∃ s₁, execDcInputRange t v s = .next s₁ ∧ Steady s₀ s₁ := by
  refine ⟨_, rfl, ?_⟩
  repeat' first
    | with_reducible assumption
    | with_reducible apply Steady.at
    | with_reducible apply Steady.raise
    | with_reducible apply Steady.setDc
    | with_reducible refine Steady.setFields_nil ?_
    | with_reducible refine Steady.setFields_cons ?_
    | with_reducible refine Steady.setF ?_ _ _
    | with_reducible refine Steady.setFs ?_ _ _
    | with_reducible apply Steady.showGone
    | with_reducible refine Steady.ite ?_ ?_
    | (try lift_lets -underBinder); intro x; refine Steady.cut (x := x) ?_ ?_ <;> [subst x; (clear_value x; intro _)]
    | (try lift_lets -underBinder); intro x; first | subst x | skip

theorem Steady.execDcInputReversed (h : Steady s₀ s) (t : Nat) (v : Int) :
    ∃ s₁, execDcInputReversed t v s = .next s₁ ∧ Steady s₀ s₁ := by
  refine ⟨_, rfl, ?_⟩
  repeat' first
    | with_reducible assumption
    | with_reducible apply Steady.at
    | with_reducible apply Steady.raise
    | with_reducible apply Steady.setDc
    | with_reducible refine Steady.setFields_nil ?_
    | with_reducible refine Steady.setFields_cons ?_
    | with_reducible refine Steady.setF ?_ _ _
    | with_reducible refine Steady.setFs ?_ _ _
    | with_reducible apply Steady.showGone
    | with_reducible refine Steady.ite ?_ ?_
    | (try lift_lets -underBinder); intro x; refine Steady.cut (x := x) ?_ ?_ <;> [subst x; (clear_value x; intro _)]
    | (try lift_lets -underBinder); intro x; first | subst x | skip

theorem Steady.execBudgetSend (h : Steady s₀ s) (t : Nat) :
    ∃ s₁, execBudgetSend t s = .next s₁ ∧ Steady s₀ s₁ := by
  refine ⟨_, rfl, ?_⟩
  repeat' first
    | with_reducible assumption
    | with_reducible apply Steady.at
    | with_reducible apply Steady.sendUrg
    | with_reducible refine Steady.ite ?_ ?_
    | (try lift_lets -underBinder); intro x; refine Steady.cut (x := x) ?_ ?_ <;> [subst x; (clear_value x; intro _)]
    | (try lift_lets -underBinder); intro x; first | subst x | skip
    | fail_if_no_progress with_reducible refine Steady.upd ?_

theorem Steady.execBudget (h : Steady s₀ s) (t : Nat) (port : Nat) (p : RingPkt) :
    ∃ s₁, execBudget t port p s = .next s₁ ∧ Steady s₀ s₁ := by
  refine ⟨_, rfl, ?_⟩
  repeat' first
    | with_reducible assumption
    | with_reducible apply Steady.at
    | with_reducible apply Steady.packetIn
    | with_reducible apply Steady.raise
    | with_reducible refine Steady.ite ?_ ?_
    | (try lift_lets -underBinder); intro x; refine Steady.cut (x := x) ?_ ?_ <;> [subst x; (clear_value x; intro _)]
    | (try lift_lets -underBinder); intro x; first | subst x | skip
    | fail_if_no_progress with_reducible refine Steady.upd ?_

/-! ### Machine/Tile.lean -/

theorem Steady.takeVpp (h : Steady s₀ s) (n : Nat) (vpp : Nat) :
    Steady s₀ (State.takeVpp s n vpp) := by
  delta State.takeVpp
  repeat' first
    | with_reducible assumption
    | with_reducible apply Steady.modPort
    | with_reducible apply Steady.modTh
    | with_reducible refine Steady.setF ?_ _ _
    | with_reducible refine Steady.ite ?_ ?_
    | (try lift_lets -underBinder); intro x; refine Steady.cut (x := x) ?_ ?_ <;> [subst x; (clear_value x; intro _)]
    | (try lift_lets -underBinder); intro x; first | subst x | skip
    | fail_if_no_progress with_reducible refine Steady.upd ?_

theorem Steady.train (h : Steady s₀ s) (n : Nat) (echo : Bool) :
    Steady s₀ (State.train s n echo) := by
  delta State.train
  repeat' first
    | with_reducible assumption
    | with_reducible apply Steady.modPort
    | with_reducible refine Steady.setF ?_ _ _
    | with_reducible refine Steady.ite ?_ ?_
    | (try lift_lets -underBinder); intro x; refine Steady.cut (x := x) ?_ ?_ <;> [subst x; (clear_value x; intro _)]
    | (try lift_lets -underBinder); intro x; first | subst x | skip
    | fail_if_no_progress with_reducible refine Steady.upd ?_

theorem Steady.judgeStrobe (h : Steady s₀ s) (n : Nat) (tag : Nat) :
    Steady s₀ (State.judgeStrobe s n tag) := by
  delta State.judgeStrobe
  repeat' first
    | with_reducible assumption
    | with_reducible apply Steady.failTile
    | with_reducible apply Steady.modPort
    | with_reducible refine Steady.ite ?_ ?_
    | (try lift_lets -underBinder); intro x; refine Steady.cut (x := x) ?_ ?_ <;> [subst x; (clear_value x; intro _)]
    | (try lift_lets -underBinder); intro x; first | subst x | skip
    | split
    | fail_if_no_progress dsimp only
    | fail_if_no_progress with_reducible refine Steady.upd ?_

theorem Steady.execTelemetryReport (h : Steady s₀ s) (t : Nat) (n : Nat) (r : Telemetry) (crcOk : Bool) :
    ∃ s₁, execTelemetryReport t n r crcOk s = .next s₁ ∧ Steady s₀ s₁ := by
  refine ⟨_, rfl, ?_⟩
  repeat' first
    | with_reducible assumption
    | with_reducible refine Steady.addF ?_ _ _
    | with_reducible apply Steady.askSwap
    | with_reducible apply Steady.at
    | with_reducible apply Steady.failTile
    | with_reducible apply Steady.judgeStrobe
    | with_reducible apply Steady.modPort
    | with_reducible apply Steady.modTh
    | with_reducible apply Steady.openReport
    | with_reducible refine Steady.setF ?_ _ _
    | with_reducible apply Steady.takeVpp
    | with_reducible apply Steady.train
    | with_reducible apply Steady.tryLogicOff
    | with_reducible refine Steady.ite ?_ ?_
    | (try lift_lets -underBinder); intro x; refine Steady.cut (x := x) ?_ ?_ <;> [subst x; (clear_value x; intro _)]
    | (try lift_lets -underBinder); intro x; first | subst x | skip
    | split
    | fail_if_no_progress dsimp only
    | fail_if_no_progress with_reducible refine Steady.upd ?_

theorem Steady.execTileTrainTimeout (h : Steady s₀ s) (t : Nat) (n : Nat) :
    ∃ s₁, execTileTrainTimeout t n s = .next s₁ ∧ Steady s₀ s₁ := by
  refine ⟨_, rfl, ?_⟩
  repeat' first
    | with_reducible assumption
    | with_reducible apply Steady.absentTile
    | with_reducible apply Steady.at
    | with_reducible refine Steady.ite ?_ ?_
    | (try lift_lets -underBinder); intro x; refine Steady.cut (x := x) ?_ ?_ <;> [subst x; (clear_value x; intro _)]
    | (try lift_lets -underBinder); intro x; first | subst x | skip
    | split
    | fail_if_no_progress dsimp only
    | fail_if_no_progress with_reducible refine Steady.upd ?_

theorem Steady.execTileLogicOvercurrent (h : Steady s₀ s) (t : Nat) (n : Nat) :
    ∃ s₁, execTileLogicOvercurrent t n s = .next s₁ ∧ Steady s₀ s₁ := by
  refine ⟨_, rfl, ?_⟩
  repeat' first
    | with_reducible assumption
    | with_reducible apply Steady.at
    | with_reducible apply Steady.failTile
    | with_reducible apply Steady.logicOff
    | with_reducible refine Steady.ite ?_ ?_
    | (try lift_lets -underBinder); intro x; refine Steady.cut (x := x) ?_ ?_ <;> [subst x; (clear_value x; intro _)]
    | (try lift_lets -underBinder); intro x; first | subst x | skip

theorem Steady.execTileFuseClose (h : Steady s₀ s) (t : Nat) (q : Nat) :
    ∃ s₁, execTileFuseClose t q s = .next s₁ ∧ Steady s₀ s₁ := by
  refine ⟨_, rfl, ?_⟩
  repeat' first
    | with_reducible assumption
    | with_reducible apply Steady.at
    | with_reducible apply Steady.modPort
    | with_reducible apply Steady.modRail
    | with_reducible refine Steady.setF ?_ _ _
    | with_reducible refine Steady.ite ?_ ?_
    | (try lift_lets -underBinder); intro x; refine Steady.cut (x := x) ?_ ?_ <;> [subst x; (clear_value x; intro _)]
    | (try lift_lets -underBinder); intro x; first | subst x | skip
    | split
    | fail_if_no_progress dsimp only
    | fail_if_no_progress with_reducible refine Steady.upd ?_

theorem Steady.execTileVppCheck (h : Steady s₀ s) (t : Nat) (n : Nat) :
    ∃ s₁, execTileVppCheck t n s = .next s₁ ∧ Steady s₀ s₁ := by
  refine ⟨_, rfl, ?_⟩
  repeat' first
    | with_reducible assumption
    | with_reducible apply Steady.at
    | with_reducible apply Steady.failTile
    | with_reducible apply Steady.modPort
    | with_reducible refine Steady.ite ?_ ?_
    | (try lift_lets -underBinder); intro x; refine Steady.cut (x := x) ?_ ?_ <;> [subst x; (clear_value x; intro _)]
    | (try lift_lets -underBinder); intro x; first | subst x | skip
    | split
    | fail_if_no_progress dsimp only
    | fail_if_no_progress with_reducible refine Steady.upd ?_

theorem Steady.execTileVppDischarged (h : Steady s₀ s) (t : Nat) (n : Nat) :
    ∃ s₁, execTileVppDischarged t n s = .next s₁ ∧ Steady s₀ s₁ := by
  refine ⟨_, rfl, ?_⟩
  repeat' first
    | with_reducible assumption
    | with_reducible apply Steady.at
    | with_reducible apply Steady.tryLogicOff

theorem Steady.execEfuseTrip (h : Steady s₀ s) (t : Nat) (n : Nat) :
    ∃ s₁, execEfuseTrip t n s = .next s₁ ∧ Steady s₀ s₁ := by
  refine ⟨_, rfl, ?_⟩
  repeat' first
    | with_reducible assumption
    | with_reducible apply Steady.at
    | with_reducible apply Steady.failTile
    | with_reducible refine Steady.ite ?_ ?_
    | (try lift_lets -underBinder); intro x; refine Steady.cut (x := x) ?_ ?_ <;> [subst x; (clear_value x; intro _)]
    | (try lift_lets -underBinder); intro x; first | subst x | skip

theorem Steady.execTileLogicOvervoltage (h : Steady s₀ s) (t : Nat) (n : Nat) :
    ∃ s₁, execTileLogicOvervoltage t n s = .next s₁ ∧ Steady s₀ s₁ := by
  refine ⟨_, rfl, ?_⟩
  repeat' first
    | with_reducible assumption
    | with_reducible apply Steady.at
    | with_reducible apply Steady.failTile
    | with_reducible apply Steady.logicOff
    | with_reducible refine Steady.ite ?_ ?_
    | (try lift_lets -underBinder); intro x; refine Steady.cut (x := x) ?_ ?_ <;> [subst x; (clear_value x; intro _)]
    | (try lift_lets -underBinder); intro x; first | subst x | skip

theorem Steady.execTileLinkLost (h : Steady s₀ s) (t : Nat) (n : Nat) :
    ∃ s₁, execTileLinkLost t n s = .next s₁ ∧ Steady s₀ s₁ := by
  refine ⟨_, rfl, ?_⟩
  repeat' first
    | with_reducible assumption
    | with_reducible apply Steady.at
    | with_reducible apply Steady.failTile
    | with_reducible refine Steady.ite ?_ ?_
    | (try lift_lets -underBinder); intro x; refine Steady.cut (x := x) ?_ ?_ <;> [subst x; (clear_value x; intro _)]
    | (try lift_lets -underBinder); intro x; first | subst x | skip

theorem Steady.judgeBlocks (h : Steady s₀ s) (n : Nat) :
    Steady s₀ (State.judgeBlocks s n) := by
  delta State.judgeBlocks
  repeat' first
    | with_reducible assumption
    | with_reducible apply Steady.choosePath
    | with_reducible apply Steady.modPort
    | with_reducible refine Steady.setF ?_ _ _
    | with_reducible apply Steady.showUsage
    | with_reducible refine Steady.ite ?_ ?_
    | (try lift_lets -underBinder); intro x; refine Steady.cut (x := x) ?_ ?_ <;> [subst x; (clear_value x; intro _)]
    | (try lift_lets -underBinder); intro x; first | subst x | skip
    | split
    | fail_if_no_progress dsimp only
    | fail_if_no_progress with_reducible refine Steady.upd ?_

theorem Steady.hmBlockFail (h : Steady s₀ s) (n : Nat) (usage : Bool) :
    Steady s₀ (State.hmBlockFail s n usage) := by
  delta State.hmBlockFail
  repeat' first
    | with_reducible assumption
    | with_reducible apply Steady.choosePath
    | with_reducible apply Steady.modPort
    | with_reducible refine Steady.ite ?_ ?_
    | (try lift_lets -underBinder); intro x; refine Steady.cut (x := x) ?_ ?_ <;> [subst x; (clear_value x; intro _)]
    | (try lift_lets -underBinder); intro x; first | subst x | skip
    | fail_if_no_progress with_reducible refine Steady.upd ?_

theorem Steady.execHmRead (h : Steady s₀ s) (t : Nat) (n : Nat) (a : Nat) (resp : Option (List Nat)) :
    ∃ s₁, execHmRead t n a resp s = .next s₁ ∧ Steady s₀ s₁ := by
  refine ⟨_, rfl, ?_⟩
  repeat' first
    | with_reducible assumption
    | with_reducible apply Steady.at
    | with_reducible apply Steady.emit
    | with_reducible apply Steady.hmBlockFail
    | with_reducible refine Steady.hmError ?_ (by assumption)
    | with_reducible apply Steady.judgeBlocks
    | with_reducible apply Steady.modPort
    | with_reducible refine Steady.ite ?_ ?_
    | (try lift_lets -underBinder); intro x; refine Steady.cut (x := x) ?_ ?_ <;> [subst x; (clear_value x; intro _)]
    | (try lift_lets -underBinder); intro x; first | subst x | skip
    | split
    | fail_if_no_progress dsimp only
    | fail_if_no_progress with_reducible refine Steady.upd ?_

theorem Steady.execHmWrite (h : Steady s₀ s) (t : Nat) (n : Nat) (a : Nat) (data : List Nat) (resp : Option (List Nat)) :
    ∃ s₁, execHmWrite t n a data resp s = .next s₁ ∧ Steady s₀ s₁ := by
  refine ⟨_, rfl, ?_⟩
  repeat' first
    | with_reducible assumption
    | with_reducible apply Steady.at
    | with_reducible apply Steady.emit
    | with_reducible apply Steady.hmEnd
    | with_reducible refine Steady.hmError ?_ (by assumption)
    | with_reducible apply Steady.raiseLane
    | with_reducible refine Steady.setF ?_ _ _
    | with_reducible refine Steady.ite ?_ ?_
    | (try lift_lets -underBinder); intro x; refine Steady.cut (x := x) ?_ ?_ <;> [subst x; (clear_value x; intro _)]
    | (try lift_lets -underBinder); intro x; first | subst x | skip
    | split
    | fail_if_no_progress dsimp only
    | fail_if_no_progress with_reducible refine Steady.upd ?_

theorem Steady.addDone (h : Steady s₀ s) (n : Nat) (bs : List Nat) :
    Steady s₀ (State.addDone s n bs) := by
  delta State.addDone
  repeat' first
    | with_reducible assumption
    | with_reducible apply Steady.hmEnd
    | with_reducible apply Steady.modPort
    | with_reducible apply Steady.showUsage
    | (try lift_lets -underBinder); intro x; refine Steady.cut (x := x) ?_ ?_ <;> [subst x; (clear_value x; intro _)]
    | (try lift_lets -underBinder); intro x; first | subst x | skip
    | split
    | fail_if_no_progress dsimp only
    | fail_if_no_progress with_reducible refine Steady.upd ?_

theorem Steady.execAuthRead (h : Steady s₀ s) (t : Nat) (n : Nat) (nonce : List Nat) (resp : Option (List Nat)) :
    ∃ s₁, execAuthRead t n nonce resp s = .next s₁ ∧ Steady s₀ s₁ := by
  refine ⟨_, rfl, ?_⟩
  repeat' first
    | with_reducible assumption
    | with_reducible apply Steady.addDone
    | with_reducible apply Steady.at
    | with_reducible apply Steady.choosePath
    | with_reducible apply Steady.emit
    | with_reducible apply Steady.hmBlockFail
    | with_reducible apply Steady.hmEnd
    | with_reducible refine Steady.hmError ?_ (by assumption)
    | with_reducible apply Steady.modPort
    | with_reducible apply Steady.showUsage
    | with_reducible refine Steady.ite ?_ ?_
    | (try lift_lets -underBinder); intro x; refine Steady.cut (x := x) ?_ ?_ <;> [subst x; (clear_value x; intro _)]
    | (try lift_lets -underBinder); intro x; first | subst x | skip
    | split
    | fail_if_no_progress dsimp only
    | fail_if_no_progress with_reducible refine Steady.upd ?_

theorem Steady.execGetNonce (h : Steady s₀ s) (t : Nat) (n : Nat) (resp : Option (List Nat)) :
    ∃ s₁, execGetNonce t n resp s = .next s₁ ∧ Steady s₀ s₁ := by
  refine ⟨_, rfl, ?_⟩
  repeat' first
    | with_reducible assumption
    | with_reducible apply Steady.at
    | with_reducible apply Steady.emit
    | with_reducible apply Steady.hmEnd
    | with_reducible refine Steady.hmError ?_ (by assumption)
    | with_reducible apply Steady.modPort
    | with_reducible refine Steady.ite ?_ ?_
    | (try lift_lets -underBinder); intro x; refine Steady.cut (x := x) ?_ ?_ <;> [subst x; (clear_value x; intro _)]
    | (try lift_lets -underBinder); intro x; first | subst x | skip
    | split
    | fail_if_no_progress dsimp only
    | fail_if_no_progress with_reducible refine Steady.upd ?_

theorem Steady.execAuthAdd (h : Steady s₀ s) (t : Nat) (n : Nat) (resp : Option (List Nat)) :
    ∃ s₁, execAuthAdd t n resp s = .next s₁ ∧ Steady s₀ s₁ := by
  refine ⟨_, rfl, ?_⟩
  repeat' first
    | with_reducible assumption
    | with_reducible apply Steady.addDone
    | with_reducible apply Steady.at
    | with_reducible refine Steady.hmError ?_ (by assumption)
    | with_reducible apply Steady.modPort
    | with_reducible refine Steady.ite ?_ ?_
    | (try lift_lets -underBinder); intro x; refine Steady.cut (x := x) ?_ ?_ <;> [subst x; (clear_value x; intro _)]
    | (try lift_lets -underBinder); intro x; first | subst x | skip
    | split
    | fail_if_no_progress dsimp only
    | fail_if_no_progress with_reducible refine Steady.upd ?_

theorem Steady.execHmRetry (h : Steady s₀ s) (t : Nat) (n : Nat) :
    ∃ s₁, execHmRetry t n s = .next s₁ ∧ Steady s₀ s₁ := by
  refine ⟨_, rfl, ?_⟩
  repeat' first
    | with_reducible assumption
    | with_reducible apply Steady.at
    | with_reducible apply Steady.emit
    | with_reducible apply Steady.modPort
    | with_reducible refine Steady.ite ?_ ?_
    | (try lift_lets -underBinder); intro x; refine Steady.cut (x := x) ?_ ?_ <;> [subst x; (clear_value x; intro _)]
    | (try lift_lets -underBinder); intro x; first | subst x | skip
    | split
    | fail_if_no_progress dsimp only
    | fail_if_no_progress with_reducible refine Steady.upd ?_

theorem Steady.writeUkey (h : Steady s₀ s) (k : Nat) (v : Word) :
    Steady s₀ (State.writeUkey s k v) := by
  delta State.writeUkey
  repeat' first
    | with_reducible assumption
    | with_reducible apply Steady.raise
    | with_reducible refine Steady.ite ?_ ?_
    | (try lift_lets -underBinder); intro x; refine Steady.cut (x := x) ?_ ?_ <;> [subst x; (clear_value x; intro _)]
    | (try lift_lets -underBinder); intro x; first | subst x | skip
    | fail_if_no_progress with_reducible refine Steady.upd ?_

theorem Steady.execTileUkeyStore (h : Steady s₀ s) (t : Nat) (v : Word) :
    ∃ s₁, execTileUkeyStore t v s = .next s₁ ∧ Steady s₀ s₁ := by
  refine ⟨_, rfl, ?_⟩
  repeat' first
    | with_reducible assumption
    | with_reducible apply Steady.at
    | with_reducible apply Steady.onWrite
    | with_reducible apply Steady.writeUkey
    | (try lift_lets -underBinder); intro x; refine Steady.cut (x := x) ?_ ?_ <;> [subst x; (clear_value x; intro _)]
    | (try lift_lets -underBinder); intro x; first | subst x | skip

/-! ### Machine/Motor.lean -/

theorem Steady.execMotorRun (h : Steady s₀ s) (t : Nat) (a : Nat) (v : Word) :
    ∃ s₁, execMotorRun t a v s = .next s₁ ∧ Steady s₀ s₁ := by
  refine ⟨_, rfl, ?_⟩
  repeat' first
    | with_reducible assumption
    | with_reducible apply Steady.at
    | with_reducible apply Steady.onWrite
    | with_reducible apply Steady.writeMotCmd
    | with_reducible refine Steady.ite ?_ ?_
    | (try lift_lets -underBinder); intro x; refine Steady.cut (x := x) ?_ ?_ <;> [subst x; (clear_value x; intro _)]
    | (try lift_lets -underBinder); intro x; first | subst x | skip

theorem Steady.execMotorStop (h : Steady s₀ s) (t : Nat) (a : Nat) (v : Word) :
    ∃ s₁, execMotorStop t a v s = .next s₁ ∧ Steady s₀ s₁ := by
  refine ⟨_, rfl, ?_⟩
  repeat' first
    | with_reducible assumption
    | with_reducible apply Steady.at
    | with_reducible apply Steady.onWrite
    | with_reducible apply Steady.writeMotCmd
    | with_reducible refine Steady.ite ?_ ?_
    | (try lift_lets -underBinder); intro x; refine Steady.cut (x := x) ?_ ?_ <;> [subst x; (clear_value x; intro _)]
    | (try lift_lets -underBinder); intro x; first | subst x | skip

theorem Steady.takePin (h : Steady s₀ s) (a : Nat) (x : Int) :
    Steady s₀ (State.takePin s a x) := by
  delta State.takePin
  repeat' first
    | with_reducible assumption
    | with_reducible apply Steady.modAxis
    | with_reducible refine Steady.setFields_nil ?_
    | with_reducible refine Steady.setFields_cons ?_
    | with_reducible refine Steady.setF ?_ _ _
    | with_reducible apply Steady.startAxis
    | with_reducible apply Steady.stopAxis
    | with_reducible refine Steady.ite ?_ ?_
    | (try lift_lets -underBinder); intro x; refine Steady.cut (x := x) ?_ ?_ <;> [subst x; (clear_value x; intro _)]
    | (try lift_lets -underBinder); intro x; first | subst x | skip
    | split
    | fail_if_no_progress with_reducible refine Steady.upd ?_

theorem Steady.takeCommand (h : Steady s₀ s) (a : Nat) :
    Steady s₀ (State.takeCommand s a) := by
  delta State.takeCommand
  repeat' first
    | with_reducible assumption
    | with_reducible apply Steady.modAxis
    | with_reducible refine Steady.setF ?_ _ _
    | with_reducible refine Steady.ite ?_ ?_
    | (try lift_lets -underBinder); intro x; refine Steady.cut (x := x) ?_ ?_ <;> [subst x; (clear_value x; intro _)]
    | (try lift_lets -underBinder); intro x; first | subst x | skip
    | split
    | fail_if_no_progress with_reducible refine Steady.upd ?_

theorem Steady.watchSpeed (h : Steady s₀ s) (a : Nat) (rpm : Int) :
    Steady s₀ (State.watchSpeed s a rpm) := by
  delta State.watchSpeed
  repeat' first
    | with_reducible assumption
    | with_reducible apply Steady.axisOff
    | with_reducible apply Steady.modAxis
    | with_reducible refine Steady.setF ?_ _ _
    | with_reducible refine Steady.ite ?_ ?_
    | (try lift_lets -underBinder); intro x; refine Steady.cut (x := x) ?_ ?_ <;> [subst x; (clear_value x; intro _)]
    | (try lift_lets -underBinder); intro x; first | subst x | skip
    | fail_if_no_progress with_reducible refine Steady.upd ?_

theorem Steady.execSpeedLoopUpdate (h : Steady s₀ s) (t : Nat) (a : Nat) (rpm : Int) (pin : Int) :
    ∃ s₁, execSpeedLoopUpdate t a rpm pin s = .next s₁ ∧ Steady s₀ s₁ := by
  refine ⟨_, rfl, ?_⟩
  repeat' first
    | with_reducible assumption
    | with_reducible apply Steady.at
    | with_reducible refine Steady.setFs ?_ _ _
    | with_reducible apply Steady.takeCommand
    | with_reducible apply Steady.takePin
    | with_reducible apply Steady.watchSpeed
    | with_reducible refine Steady.ite ?_ ?_
    | (try lift_lets -underBinder); intro x; refine Steady.cut (x := x) ?_ ?_ <;> [subst x; (clear_value x; intro _)]
    | (try lift_lets -underBinder); intro x; first | subst x | skip

theorem Steady.fieldWeaken (h : Steady s₀ s) (a : Nat) (vMv : Nat) :
    Steady s₀ (State.fieldWeaken s a vMv) := by
  delta State.fieldWeaken
  repeat' first
    | with_reducible assumption
    | with_reducible apply Steady.modAxis
    | with_reducible refine Steady.setFb ?_ _ _
    | with_reducible refine Steady.ite ?_ ?_
    | (try lift_lets -underBinder); intro x; refine Steady.cut (x := x) ?_ ?_ <;> [subst x; (clear_value x; intro _)]
    | (try lift_lets -underBinder); intro x; first | subst x | skip
    | fail_if_no_progress with_reducible refine Steady.upd ?_

theorem Steady.takeSample (h : Steady s₀ s) (a : Nat) (m : CurrentSample) :
    Steady s₀ (State.takeSample s a m) := by
  delta State.takeSample
  repeat' first
    | with_reducible assumption
    | with_reducible refine Steady.addF ?_ _ _
    | with_reducible apply Steady.count
    | with_reducible apply Steady.drawn
    | with_reducible apply Steady.modAxis
    | with_reducible apply Steady.raiseMot
    | with_reducible refine Steady.setFs ?_ _ _
    | with_reducible refine Steady.ite ?_ ?_
    | (try lift_lets -underBinder); intro x; refine Steady.cut (x := x) ?_ ?_ <;> [subst x; (clear_value x; intro _)]
    | (try lift_lets -underBinder); intro x; first | subst x | skip
    | split
    | fail_if_no_progress dsimp only
    | fail_if_no_progress with_reducible refine Steady.upd ?_

theorem Steady.slewAxis (h : Steady s₀ s) (a : Nat) :
    Steady s₀ (State.slewAxis s a) := by
  delta State.slewAxis
  repeat' first
    | with_reducible assumption
    | with_reducible apply Steady.slewTo
    | with_reducible refine Steady.ite ?_ ?_

theorem Steady.execCurrentControlPeriod (h : Steady s₀ s) (t : Nat) (a : Nat) (smp : CurrentSample) :
    ∃ s₁, execCurrentControlPeriod t a smp s = .next s₁ ∧ Steady s₀ s₁ := by
  refine ⟨_, rfl, ?_⟩
  repeat' first
    | with_reducible assumption
    | with_reducible apply Steady.at
    | with_reducible apply Steady.fieldWeaken
    | with_reducible apply Steady.modAxis
    | with_reducible refine Steady.setFb ?_ _ _
    | with_reducible refine Steady.setFs ?_ _ _
    | with_reducible apply Steady.slewAxis
    | with_reducible apply Steady.takeSample
    | with_reducible refine Steady.ite ?_ ?_
    | (try lift_lets -underBinder); intro x; refine Steady.cut (x := x) ?_ ?_ <;> [subst x; (clear_value x; intro _)]
    | (try lift_lets -underBinder); intro x; first | subst x | skip
    | fail_if_no_progress with_reducible refine Steady.upd ?_

theorem Steady.execMotCmdLost (h : Steady s₀ s) (t : Nat) :
    ∃ s₁, execMotCmdLost t s = .next s₁ ∧ Steady s₀ s₁ := by
  refine ⟨_, rfl, ?_⟩
  repeat' first
    | with_reducible assumption
    | with_reducible apply Steady.at
    | with_reducible apply Steady.raiseMot
    | with_reducible refine Steady.setF ?_ _ _
    | with_reducible apply Steady.stopAxis
    | with_reducible refine Steady.ite ?_ ?_
    | with_reducible refine Steady.foldl ?_ ?_
    | (try lift_lets -underBinder); intro x; refine Steady.cut (x := x) ?_ ?_ <;> [subst x; (clear_value x; intro _)]
    | (try lift_lets -underBinder); intro x; first | subst x | skip

theorem Steady.execMotCmdRestored (h : Steady s₀ s) (t : Nat) :
    ∃ s₁, execMotCmdRestored t s = .next s₁ ∧ Steady s₀ s₁ := by
  refine ⟨_, rfl, ?_⟩
  repeat' first
    | with_reducible assumption
    | with_reducible apply Steady.at
    | with_reducible refine Steady.setF ?_ _ _
    | with_reducible apply Steady.startAxis
    | with_reducible refine Steady.ite ?_ ?_
    | with_reducible refine Steady.foldl ?_ ?_
    | (try lift_lets -underBinder); intro x; refine Steady.cut (x := x) ?_ ?_ <;> [subst x; (clear_value x; intro _)]
    | (try lift_lets -underBinder); intro x; first | subst x | skip

theorem Steady.execAtSpeed (h : Steady s₀ s) (t : Nat) (a : Nat) :
    ∃ s₁, execAtSpeed t a s = .next s₁ ∧ Steady s₀ s₁ := by
  refine ⟨_, rfl, ?_⟩
  repeat' first
    | with_reducible assumption
    | with_reducible apply Steady.at
    | with_reducible apply Steady.emitSrc
    | with_reducible apply Steady.modAxis
    | with_reducible refine Steady.setF ?_ _ _
    | with_reducible refine Steady.ite ?_ ?_
    | (try lift_lets -underBinder); intro x; refine Steady.cut (x := x) ?_ ?_ <;> [subst x; (clear_value x; intro _)]
    | (try lift_lets -underBinder); intro x; first | subst x | skip
    | split
    | fail_if_no_progress dsimp only
    | fail_if_no_progress with_reducible refine Steady.upd ?_

theorem Steady.execCatchCheckComplete (h : Steady s₀ s) (t : Nat) (a : Nat) (amp : Nat) (full : Bool) :
    ∃ s₁, execCatchCheckComplete t a amp full s = .next s₁ ∧ Steady s₀ s₁ := by
  refine ⟨_, rfl, ?_⟩
  repeat' first
    | with_reducible assumption
    | with_reducible apply Steady.at
    | with_reducible apply Steady.modAxis
    | with_reducible apply Steady.raiseMot
    | with_reducible refine Steady.setF ?_ _ _
    | with_reducible refine Steady.ite ?_ ?_
    | (try lift_lets -underBinder); intro x; refine Steady.cut (x := x) ?_ ?_ <;> [subst x; (clear_value x; intro _)]
    | (try lift_lets -underBinder); intro x; first | subst x | skip
    | fail_if_no_progress with_reducible refine Steady.upd ?_

theorem Steady.execCatchLock (h : Steady s₀ s) (t : Nat) (a : Nat) (rpm : Int) :
    ∃ s₁, execCatchLock t a rpm s = .next s₁ ∧ Steady s₀ s₁ := by
  refine ⟨_, rfl, ?_⟩
  repeat' first
    | with_reducible assumption
    | with_reducible apply Steady.accelerate
    | with_reducible apply Steady.at
    | with_reducible apply Steady.modAxis
    | with_reducible refine Steady.setFields_nil ?_
    | with_reducible refine Steady.setFields_cons ?_
    | with_reducible refine Steady.setF ?_ _ _
    | with_reducible refine Steady.setFs ?_ _ _
    | with_reducible refine Steady.ite ?_ ?_
    | (try lift_lets -underBinder); intro x; refine Steady.cut (x := x) ?_ ?_ <;> [subst x; (clear_value x; intro _)]
    | (try lift_lets -underBinder); intro x; first | subst x | skip
    | fail_if_no_progress with_reducible refine Steady.upd ?_

theorem Steady.execCatchOverRetry (h : Steady s₀ s) (t : Nat) (a : Nat) :
    ∃ s₁, execCatchOverRetry t a s = .next s₁ ∧ Steady s₀ s₁ := by
  refine ⟨_, rfl, ?_⟩
  repeat' first
    | with_reducible assumption
    | with_reducible apply Steady.at
    | with_reducible apply Steady.modAxis
    | with_reducible refine Steady.ite ?_ ?_
    | (try lift_lets -underBinder); intro x; refine Steady.cut (x := x) ?_ ?_ <;> [subst x; (clear_value x; intro _)]
    | (try lift_lets -underBinder); intro x; first | subst x | skip
    | fail_if_no_progress with_reducible refine Steady.upd ?_

theorem Steady.execOpenPhaseCheckComplete (h : Steady s₀ s) (t : Nat) (a : Nat) (open_ : Option Nat) :
    ∃ s₁, execOpenPhaseCheckComplete t a open_ s = .next s₁ ∧ Steady s₀ s₁ := by
  refine ⟨_, rfl, ?_⟩
  repeat' first
    | with_reducible assumption
    | with_reducible apply Steady.at
    | with_reducible refine Steady.axisTrip ?_ _ _ _ _
    | with_reducible apply Steady.modAxis
    | with_reducible refine Steady.ite ?_ ?_
    | (try lift_lets -underBinder); intro x; refine Steady.cut (x := x) ?_ ?_ <;> [subst x; (clear_value x; intro _)]
    | (try lift_lets -underBinder); intro x; first | subst x | skip
    | split
    | fail_if_no_progress dsimp only
    | fail_if_no_progress with_reducible refine Steady.upd ?_

theorem Steady.execModelIdentificationComplete (h : Steady s₀ s) (t : Nat) (a : Nat) (rs : Nat) (ld : Nat) (lq : Nat) :
    ∃ s₁, execModelIdentificationComplete t a rs ld lq s = .next s₁ ∧ Steady s₀ s₁ := by
  refine ⟨_, rfl, ?_⟩
  repeat' first
    | with_reducible assumption
    | with_reducible apply Steady.at
    | with_reducible apply Steady.modAxis
    | with_reducible refine Steady.setFields_nil ?_
    | with_reducible refine Steady.setFields_cons ?_
    | with_reducible refine Steady.setF ?_ _ _
    | with_reducible refine Steady.ite ?_ ?_
    | (try lift_lets -underBinder); intro x; refine Steady.cut (x := x) ?_ ?_ <;> [subst x; (clear_value x; intro _)]
    | (try lift_lets -underBinder); intro x; first | subst x | skip
    | fail_if_no_progress with_reducible refine Steady.upd ?_

theorem Steady.execInitialPositionFound (h : Steady s₀ s) (t : Nat) (a : Nat) (weak : Bool) :
    ∃ s₁, execInitialPositionFound t a weak s = .next s₁ ∧ Steady s₀ s₁ := by
  refine ⟨_, rfl, ?_⟩
  repeat' first
    | with_reducible assumption
    | with_reducible apply Steady.accelerate
    | with_reducible apply Steady.at
    | with_reducible apply Steady.raiseMot
    | with_reducible refine Steady.setFields_nil ?_
    | with_reducible refine Steady.setFields_cons ?_
    | with_reducible refine Steady.setF ?_ _ _
    | with_reducible refine Steady.ite ?_ ?_
    | (try lift_lets -underBinder); intro x; refine Steady.cut (x := x) ?_ ?_ <;> [subst x; (clear_value x; intro _)]
    | (try lift_lets -underBinder); intro x; first | subst x | skip

theorem Steady.execEstimatorHandover (h : Steady s₀ s) (t : Nat) (a : Nat) :
    ∃ s₁, execEstimatorHandover t a s = .next s₁ ∧ Steady s₀ s₁ := by
  refine ⟨_, rfl, ?_⟩
  repeat' first
    | with_reducible assumption
    | with_reducible apply Steady.at
    | with_reducible refine Steady.setF ?_ _ _
    | with_reducible refine Steady.ite ?_ ?_
    | (try lift_lets -underBinder); intro x; refine Steady.cut (x := x) ?_ ?_ <;> [subst x; (clear_value x; intro _)]
    | (try lift_lets -underBinder); intro x; first | subst x | skip
    | split
    | fail_if_no_progress dsimp only
    | fail_if_no_progress with_reducible refine Steady.upd ?_

theorem Steady.execOpenPhase (h : Steady s₀ s) (t : Nat) (a : Nat) (p1 : Rms) (p2 : Rms) :
    ∃ s₁, execOpenPhase t a p1 p2 s = .next s₁ ∧ Steady s₀ s₁ := by
  refine ⟨_, rfl, ?_⟩
  repeat' first
    | with_reducible assumption
    | with_reducible apply Steady.at
    | with_reducible refine Steady.axisTrip ?_ _ _ _ _
    | with_reducible refine Steady.ite ?_ ?_
    | (try lift_lets -underBinder); intro x; refine Steady.cut (x := x) ?_ ?_ <;> [subst x; (clear_value x; intro _)]
    | (try lift_lets -underBinder); intro x; first | subst x | skip
    | split
    | fail_if_no_progress dsimp only
    | fail_if_no_progress with_reducible refine Steady.upd ?_

theorem Steady.execStall (h : Steady s₀ s) (t : Nat) (a : Nat) :
    ∃ s₁, execStall t a s = .next s₁ ∧ Steady s₀ s₁ := by
  refine ⟨_, rfl, ?_⟩
  repeat' first
    | with_reducible assumption
    | with_reducible apply Steady.at
    | with_reducible refine Steady.axisTrip ?_ _ _ _ _
    | with_reducible refine Steady.ite ?_ ?_
    | (try lift_lets -underBinder); intro x; refine Steady.cut (x := x) ?_ ?_ <;> [subst x; (clear_value x; intro _)]
    | (try lift_lets -underBinder); intro x; first | subst x | skip
    | split
    | fail_if_no_progress dsimp only
    | fail_if_no_progress with_reducible refine Steady.upd ?_

theorem Steady.execOvercurrentTrip (h : Steady s₀ s) (t : Nat) (a : Nat) (phase : Nat) :
    ∃ s₁, execOvercurrentTrip t a phase s = .next s₁ ∧ Steady s₀ s₁ := by
  refine ⟨_, rfl, ?_⟩
  repeat' first
    | with_reducible assumption
    | with_reducible apply Steady.at
    | with_reducible refine Steady.axisTrip ?_ _ _ _ _
    | with_reducible refine Steady.ite ?_ ?_
    | (try lift_lets -underBinder); intro x; refine Steady.cut (x := x) ?_ ?_ <;> [subst x; (clear_value x; intro _)]
    | (try lift_lets -underBinder); intro x; first | subst x | skip

theorem Steady.execGateDriverFeedbackFault (h : Steady s₀ s) (t : Nat) (a : Nat) (sw : Nat) :
    ∃ s₁, execGateDriverFeedbackFault t a sw s = .next s₁ ∧ Steady s₀ s₁ := by
  refine ⟨_, rfl, ?_⟩
  repeat' first
    | with_reducible assumption
    | with_reducible apply Steady.at
    | with_reducible apply Steady.raiseMot
    | with_reducible refine Steady.setF ?_ _ _
    | with_reducible refine Steady.ite ?_ ?_
    | (try lift_lets -underBinder); intro x; refine Steady.cut (x := x) ?_ ?_ <;> [subst x; (clear_value x; intro _)]
    | (try lift_lets -underBinder); intro x; first | subst x | skip

/-! ### Machine/Thermal.lean -/

theorem Steady.checkFast (h : Steady s₀ s) (n : Nat) (x : Int) :
    Steady s₀ (State.checkFast s n x) := by
  delta State.checkFast
  repeat' first
    | with_reducible assumption
    | with_reducible apply Steady.modSensor
    | with_reducible refine Steady.setF ?_ _ _
    | with_reducible refine Steady.ite ?_ ?_
    | (try lift_lets -underBinder); intro x; refine Steady.cut (x := x) ?_ ?_ <;> [subst x; (clear_value x; intro _)]
    | (try lift_lets -underBinder); intro x; first | subst x | skip
    | fail_if_no_progress with_reducible refine Steady.upd ?_

theorem Steady.interlocks (h : Steady s₀ s) (n : Nat) :
    Steady s₀ (State.interlocks s n) := by
  delta State.interlocks
  repeat' first
    | with_reducible assumption
    | with_reducible refine Steady.setF ?_ _ _
    | with_reducible refine Steady.setFb ?_ _ _
    | with_reducible refine Steady.ite ?_ ?_
    | (try lift_lets -underBinder); intro x; refine Steady.cut (x := x) ?_ ?_ <;> [subst x; (clear_value x; intro _)]
    | (try lift_lets -underBinder); intro x; first | subst x | skip
    | split
    | fail_if_no_progress dsimp only
    | fail_if_no_progress with_reducible refine Steady.upd ?_

theorem Steady.badReading (h : Steady s₀ s) (n : Nat) :
    Steady s₀ (State.badReading s n) := by
  delta State.badReading
  repeat' first
    | with_reducible assumption
    | with_reducible apply Steady.modSensor
    | with_reducible apply Steady.raise
    | with_reducible apply Steady.raiseLane
    | with_reducible refine Steady.setF ?_ _ _
    | with_reducible refine Steady.ite ?_ ?_
    | (try lift_lets -underBinder); intro x; refine Steady.cut (x := x) ?_ ?_ <;> [subst x; (clear_value x; intro _)]
    | (try lift_lets -underBinder); intro x; first | subst x | skip
    | fail_if_no_progress with_reducible refine Steady.upd ?_

theorem Steady.execOscillatorRecalibration (h : Steady s₀ s) (t : Nat) (d : Nat) (a : Int) (b : Int) :
    ∃ s₁, execOscillatorRecalibration t d a b s = .next s₁ ∧ Steady s₀ s₁ := by
  refine ⟨_, rfl, ?_⟩
  repeat' first
    | with_reducible assumption
    | with_reducible refine Steady.addF ?_ _ _
    | with_reducible apply Steady.at
    | with_reducible refine Steady.incF ?_ _ _
    | with_reducible apply Steady.raise
    | with_reducible refine Steady.ite ?_ ?_
    | (try lift_lets -underBinder); intro x; refine Steady.cut (x := x) ?_ ?_ <;> [subst x; (clear_value x; intro _)]
    | (try lift_lets -underBinder); intro x; first | subst x | skip
    | split
    | fail_if_no_progress dsimp only
    | fail_if_no_progress with_reducible refine Steady.upd ?_

theorem Steady.execDuskFinishRecheck (h : Steady s₀ s) (t : Nat) :
    ∃ s₁, execDuskFinishRecheck t s = .next s₁ ∧ Steady s₀ s₁ := by
  refine ⟨_, rfl, ?_⟩
  repeat' first
    | with_reducible assumption
    | with_reducible apply Steady.at
    | with_reducible apply Steady.finishTest
    | with_reducible refine Steady.ite ?_ ?_
    | (try lift_lets -underBinder); intro x; refine Steady.cut (x := x) ?_ ?_ <;> [subst x; (clear_value x; intro _)]
    | (try lift_lets -underBinder); intro x; first | subst x | skip

theorem Steady.execStoreChargingResume (h : Steady s₀ s) (t : Nat) :
    ∃ s₁, execStoreChargingResume t s = .next s₁ ∧ Steady s₀ s₁ := by
  refine ⟨_, rfl, ?_⟩
  repeat' first
    | with_reducible assumption
    | with_reducible apply Steady.at
    | with_reducible refine Steady.setF ?_ _ _
    | with_reducible refine Steady.ite ?_ ?_
    | (try lift_lets -underBinder); intro x; refine Steady.cut (x := x) ?_ ?_ <;> [subst x; (clear_value x; intro _)]
    | (try lift_lets -underBinder); intro x; first | subst x | skip
    | split
    | fail_if_no_progress dsimp only
    | fail_if_no_progress with_reducible refine Steady.upd ?_

/-! ### Machine/RegOps.lean -/

theorem Steady.writeLo (h : Steady s₀ s) (m : Nat) (off : Nat) (v : Word) :
    Steady s₀ (State.writeLo s m off v) := by
  delta State.writeLo
  repeat' first
    | with_reducible assumption
    | with_reducible refine Steady.ite ?_ ?_
    | (try lift_lets -underBinder); intro x; refine Steady.cut (x := x) ?_ ?_ <;> [subst x; (clear_value x; intro _)]
    | (try lift_lets -underBinder); intro x; first | subst x | skip
    | fail_if_no_progress with_reducible refine Steady.upd ?_

theorem Steady.msixWrite (h : Steady s₀ s) (off : Nat) (v : Word) :
    Steady s₀ (State.msixWrite s off v) := by
  delta State.msixWrite
  repeat' first
    | with_reducible assumption
    | with_reducible apply Steady.msix
    | with_reducible refine Steady.ite ?_ ?_
    | (try lift_lets -underBinder); intro x; refine Steady.cut (x := x) ?_ ?_ <;> [subst x; (clear_value x; intro _)]
    | (try lift_lets -underBinder); intro x; first | subst x | skip
    | fail_if_no_progress with_reducible refine Steady.upd ?_

theorem Steady.readDone {y : State × List Nat} (h : Steady s₀ y.1) (g : List Nat → List Nat) :
    Steady s₀ (readDone g y).1 := h

/-! ### Machine/Service.lean -/

theorem Steady.tap (h : Steady s₀ s) (ir : Nat) (g : State → State) (h_g : ∀ s, Steady s₀ s → Steady s₀ (g s)) :
    Steady s₀ (State.tap s ir g) := by
  delta State.tap
  repeat' first
    | with_reducible assumption
    | with_reducible apply h_g
    | with_reducible refine Steady.ite ?_ ?_
    | fail_if_no_progress with_reducible refine Steady.upd ?_

theorem Steady.execExtest (h : Steady s₀ s) (t : Nat) :
    ∃ s₁, execExtest t s = .next s₁ ∧ Steady s₀ s₁ := by
  refine ⟨_, rfl, ?_⟩
  repeat' first
    | with_reducible assumption
    | with_reducible apply Steady.at
    | with_reducible apply Steady.tap
    | (try lift_lets -underBinder); intro x; refine Steady.cut (x := x) ?_ ?_ <;> [subst x; (clear_value x; intro _)]
    | (try lift_lets -underBinder); intro x; first | subst x | skip

theorem Steady.execSamplePreload (h : Steady s₀ s) (t : Nat) :
    ∃ s₁, execSamplePreload t s = .next s₁ ∧ Steady s₀ s₁ := by
  refine ⟨_, rfl, ?_⟩
  repeat' first
    | with_reducible assumption
    | with_reducible apply Steady.at
    | with_reducible apply Steady.tap
    | (try lift_lets -underBinder); intro x; refine Steady.cut (x := x) ?_ ?_ <;> [subst x; (clear_value x; intro _)]
    | (try lift_lets -underBinder); intro x; first | subst x | skip

theorem Steady.execBypass (h : Steady s₀ s) (t : Nat) :
    ∃ s₁, execBypass t s = .next s₁ ∧ Steady s₀ s₁ := by
  refine ⟨_, rfl, ?_⟩
  repeat' first
    | with_reducible assumption
    | with_reducible apply Steady.at
    | with_reducible apply Steady.tap
    | (try lift_lets -underBinder); intro x; refine Steady.cut (x := x) ?_ ?_ <;> [subst x; (clear_value x; intro _)]
    | (try lift_lets -underBinder); intro x; first | subst x | skip

theorem Steady.fwState (h : Steady s₀ s) (c : Nat) :
    Steady s₀ (State.fwState s c) := by
  delta State.fwState
  repeat' first
    | with_reducible assumption
    | fail_if_no_progress with_reducible refine Steady.upd ?_

theorem Steady.serviceAct (h : Steady s₀ s) (g : State → State) (h_g : ∀ s, Steady s₀ s → Steady s₀ (g s)) :
    Steady s₀ (State.serviceAct s g) := by
  delta State.serviceAct
  repeat' first
    | with_reducible assumption
    | with_reducible apply h_g
    | with_reducible apply Steady.fwState
    | with_reducible refine Steady.ite ?_ ?_

theorem Steady.execFwStatus (h : Steady s₀ s) (t : Nat) :
    ∃ s₁, execFwStatus t s = .next s₁ ∧ Steady s₀ s₁ := by
  refine ⟨_, rfl, ?_⟩
  repeat' first
    | with_reducible assumption
    | with_reducible apply Steady.at
    | with_reducible apply Steady.emit
    | with_reducible apply Steady.tap
    | with_reducible refine Steady.ite ?_ ?_
    | (try lift_lets -underBinder); intro x; refine Steady.cut (x := x) ?_ ?_ <;> [subst x; (clear_value x; intro _)]
    | (try lift_lets -underBinder); intro x; first | subst x | skip

theorem Steady.execFwLoad (h : Steady s₀ s) (t : Nat) (w : Nat) :
    ∃ s₁, execFwLoad t w s = .next s₁ ∧ Steady s₀ s₁ := by
  refine ⟨_, rfl, ?_⟩
  repeat' first
    | with_reducible assumption
    | with_reducible apply Steady.at
    | with_reducible apply Steady.fwState
    | with_reducible apply Steady.serviceAct
    | with_reducible apply Steady.tap
    | with_reducible refine Steady.ite ?_ ?_
    | (try lift_lets -underBinder); intro x; refine Steady.cut (x := x) ?_ ?_ <;> [subst x; (clear_value x; intro _)]
    | (try lift_lets -underBinder); intro x; first | subst x | skip
    | fail_if_no_progress with_reducible refine Steady.upd ?_

theorem Steady.execFwCommit (h : Steady s₀ s) (t : Nat) (v : Nat) :
    ∃ s₁, execFwCommit t v s = .next s₁ ∧ Steady s₀ s₁ := by
  refine ⟨_, rfl, ?_⟩
  repeat' first
    | with_reducible assumption
    | with_reducible apply Steady.at
    | with_reducible apply Steady.fwState
    | with_reducible apply Steady.serviceAct
    | with_reducible apply Steady.tap
    | (try lift_lets -underBinder); intro x; refine Steady.cut (x := x) ?_ ?_ <;> [subst x; (clear_value x; intro _)]
    | (try lift_lets -underBinder); intro x; first | subst x | skip
    | fail_if_no_progress with_reducible refine Steady.upd ?_

theorem Steady.execFwCommitComplete (h : Steady s₀ s) (t : Nat) (good : Bool) :
    ∃ s₁, execFwCommitComplete t good s = .next s₁ ∧ Steady s₀ s₁ := by
  refine ⟨_, rfl, ?_⟩
  repeat' first
    | with_reducible assumption
    | with_reducible apply Steady.at
    | with_reducible apply Steady.fwState
    | with_reducible refine Steady.ite ?_ ?_
    | (try lift_lets -underBinder); intro x; refine Steady.cut (x := x) ?_ ?_ <;> [subst x; (clear_value x; intro _)]
    | (try lift_lets -underBinder); intro x; first | subst x | skip
    | fail_if_no_progress with_reducible refine Steady.upd ?_

theorem Steady.execLockClear (h : Steady s₀ s) (t : Nat) (v : Nat) :
    ∃ s₁, execLockClear t v s = .next s₁ ∧ Steady s₀ s₁ := by
  refine ⟨_, rfl, ?_⟩
  repeat' first
    | with_reducible assumption
    | with_reducible apply Steady.at
    | with_reducible apply Steady.fwState
    | with_reducible apply Steady.serviceAct
    | with_reducible apply Steady.tap
    | with_reducible refine Steady.ite ?_ ?_
    | (try lift_lets -underBinder); intro x; refine Steady.cut (x := x) ?_ ?_ <;> [subst x; (clear_value x; intro _)]
    | (try lift_lets -underBinder); intro x; first | subst x | skip
    | fail_if_no_progress with_reducible refine Steady.upd ?_

theorem Steady.execArpRequest (h : Steady s₀ s) (t : Nat) (a : Nat) :
    ∃ s₁, execArpRequest t a s = .next s₁ ∧ Steady s₀ s₁ := by
  refine ⟨_, rfl, ?_⟩
  repeat' first
    | with_reducible assumption
    | with_reducible apply Steady.at
    | with_reducible apply Steady.emit
    | with_reducible refine Steady.ite ?_ ?_
    | (try lift_lets -underBinder); intro x; refine Steady.cut (x := x) ?_ ?_ <;> [subst x; (clear_value x; intro _)]
    | (try lift_lets -underBinder); intro x; first | subst x | skip

theorem Steady.execIcmpEcho (h : Steady s₀ s) (t : Nat) (src : Nat) (data : List Nat) :
    ∃ s₁, execIcmpEcho t src data s = .next s₁ ∧ Steady s₀ s₁ := by
  refine ⟨_, rfl, ?_⟩
  repeat' first
    | with_reducible assumption
    | with_reducible apply Steady.at
    | with_reducible apply Steady.emit
    | with_reducible refine Steady.ite ?_ ?_
    | (try lift_lets -underBinder); intro x; refine Steady.cut (x := x) ?_ ?_ <;> [subst x; (clear_value x; intro _)]
    | (try lift_lets -underBinder); intro x; first | subst x | skip

theorem Steady.execRegisterReadService (h : Steady s₀ s) (t : Nat) (src : Nat) (port : Nat) (data : List Nat) :
    ∃ s₁, execRegisterReadService t src port data s = .next s₁ ∧ Steady s₀ s₁ := by
  refine ⟨_, rfl, ?_⟩
  repeat' first
    | with_reducible assumption
    | with_reducible apply Steady.at
    | with_reducible apply Steady.drawn
    | with_reducible apply Steady.emit
    | with_reducible refine Steady.ite ?_ ?_
    | (try lift_lets -underBinder); intro x; refine Steady.cut (x := x) ?_ ?_ <;> [subst x; (clear_value x; intro _)]
    | (try lift_lets -underBinder); intro x; first | subst x | skip

theorem Steady.modFluid (h : Steady s₀ s) (k : Nat) (g : Fluid → Fluid) :
    Steady s₀ (State.modFluid s k g) := by
  delta State.modFluid
  repeat' first
    | with_reducible assumption
    | with_reducible refine Steady.ite ?_ ?_
    | fail_if_no_progress with_reducible refine Steady.upd ?_

theorem Steady.fluidNext (h : Steady s₀ s) (k : Nat) :
    Steady s₀ (State.fluidNext s k) := by
  delta State.fluidNext
  repeat' first
    | with_reducible assumption
    | with_reducible apply Steady.emit
    | with_reducible apply Steady.modFluid
    | (try lift_lets -underBinder); intro x; refine Steady.cut (x := x) ?_ ?_ <;> [subst x; (clear_value x; intro _)]
    | (try lift_lets -underBinder); intro x; first | subst x | skip
    | split
    | fail_if_no_progress with_reducible refine Steady.upd ?_

theorem Steady.execFluidBridgeDatagram (h : Steady s₀ s) (t : Nat) (bus : Nat) (src : Nat) (port : Nat) (data : List Nat) (busy : Bool) :
    ∃ s₁, execFluidBridgeDatagram t bus src port data busy s = .next s₁ ∧ Steady s₀ s₁ := by
  refine ⟨_, rfl, ?_⟩
  repeat' first
    | with_reducible assumption
    | with_reducible apply Steady.at
    | with_reducible apply Steady.fluidNext
    | with_reducible apply Steady.modFluid
    | with_reducible refine Steady.ite ?_ ?_
    | (try lift_lets -underBinder); intro x; refine Steady.cut (x := x) ?_ ?_ <;> [subst x; (clear_value x; intro _)]
    | (try lift_lets -underBinder); intro x; first | subst x | skip
    | fail_if_no_progress with_reducible refine Steady.upd ?_

theorem Steady.execFluidBusIdle (h : Steady s₀ s) (t : Nat) (bus : Nat) (data : List Nat) :
    ∃ s₁, execFluidBusIdle t bus data s = .next s₁ ∧ Steady s₀ s₁ := by
  refine ⟨_, rfl, ?_⟩
  repeat' first
    | with_reducible assumption
    | with_reducible apply Steady.at
    | with_reducible apply Steady.emit
    | with_reducible apply Steady.fluidNext
    | with_reducible apply Steady.modFluid
    | with_reducible refine Steady.ite ?_ ?_
    | with_reducible refine Steady.foldl ?_ ?_
    | (try lift_lets -underBinder); intro x; refine Steady.cut (x := x) ?_ ?_ <;> [subst x; (clear_value x; intro _)]
    | (try lift_lets -underBinder); intro x; first | subst x | skip
    | split
    | fail_if_no_progress dsimp only
    | fail_if_no_progress with_reducible refine Steady.upd ?_

theorem Steady.execEncoderSupplyShort (h : Steady s₀ s) (t : Nat) (n : Nat) :
    ∃ s₁, execEncoderSupplyShort t n s = .next s₁ ∧ Steady s₀ s₁ := by
  refine ⟨_, rfl, ?_⟩
  repeat' first
    | with_reducible assumption
    | with_reducible apply Steady.at
    | with_reducible apply Steady.raise
    | with_reducible refine Steady.ite ?_ ?_
    | (try lift_lets -underBinder); intro x; refine Steady.cut (x := x) ?_ ?_ <;> [subst x; (clear_value x; intro _)]
    | (try lift_lets -underBinder); intro x; first | subst x | skip

theorem Steady.execCueVinLow (h : Steady s₀ s) (t : Nat) (c : Nat) :
    ∃ s₁, execCueVinLow t c s = .next s₁ ∧ Steady s₀ s₁ := by
  refine ⟨_, rfl, ?_⟩
  repeat' first
    | with_reducible assumption
    | with_reducible apply Steady.at
    | with_reducible apply Steady.showCues
    | with_reducible refine Steady.ite ?_ ?_
    | (try lift_lets -underBinder); intro x; refine Steady.cut (x := x) ?_ ?_ <;> [subst x; (clear_value x; intro _)]
    | (try lift_lets -underBinder); intro x; first | subst x | skip
    | fail_if_no_progress with_reducible refine Steady.upd ?_

theorem Steady.execCueVinRestored (h : Steady s₀ s) (t : Nat) (c : Nat) :
    ∃ s₁, execCueVinRestored t c s = .next s₁ ∧ Steady s₀ s₁ := by
  refine ⟨_, rfl, ?_⟩
  repeat' first
    | with_reducible assumption
    | with_reducible apply Steady.at
    | with_reducible apply Steady.showCues
    | (try lift_lets -underBinder); intro x; refine Steady.cut (x := x) ?_ ?_ <;> [subst x; (clear_value x; intro _)]
    | (try lift_lets -underBinder); intro x; first | subst x | skip
    | fail_if_no_progress with_reducible refine Steady.upd ?_

theorem Steady.execCuePulseEnd (h : Steady s₀ s) (t : Nat) (n : Nat) :
    ∃ s₁, execCuePulseEnd t n s = .next s₁ ∧ Steady s₀ s₁ := by
  refine ⟨_, rfl, ?_⟩
  repeat' first
    | with_reducible assumption
    | with_reducible apply Steady.at
    | with_reducible apply Steady.cuePulse
    | with_reducible apply Steady.driveCue
    | with_reducible refine Steady.ite ?_ ?_
    | (try lift_lets -underBinder); intro x; refine Steady.cut (x := x) ?_ ?_ <;> [subst x; (clear_value x; intro _)]
    | (try lift_lets -underBinder); intro x; first | subst x | skip
    | split
    | fail_if_no_progress dsimp only
    | fail_if_no_progress with_reducible refine Steady.upd ?_

theorem Steady.execCueOutputOverload (h : Steady s₀ s) (t : Nat) (n : Nat) :
    ∃ s₁, execCueOutputOverload t n s = .next s₁ ∧ Steady s₀ s₁ := by
  refine ⟨_, rfl, ?_⟩
  repeat' first
    | with_reducible assumption
    | with_reducible apply Steady.at
    | with_reducible apply Steady.driveCue
    | with_reducible refine Steady.ite ?_ ?_
    | (try lift_lets -underBinder); intro x; refine Steady.cut (x := x) ?_ ?_ <;> [subst x; (clear_value x; intro _)]
    | (try lift_lets -underBinder); intro x; first | subst x | skip
    | fail_if_no_progress with_reducible refine Steady.upd ?_

theorem Steady.execCueOverloadRetry (h : Steady s₀ s) (t : Nat) (n : Nat) :
    ∃ s₁, execCueOverloadRetry t n s = .next s₁ ∧ Steady s₀ s₁ := by
  refine ⟨_, rfl, ?_⟩
  repeat' first
    | with_reducible assumption
    | with_reducible apply Steady.at
    | with_reducible apply Steady.driveCue
    | with_reducible refine Steady.ite ?_ ?_
    | (try lift_lets -underBinder); intro x; refine Steady.cut (x := x) ?_ ?_ <;> [subst x; (clear_value x; intro _)]
    | (try lift_lets -underBinder); intro x; first | subst x | skip
    | split
    | fail_if_no_progress dsimp only
    | fail_if_no_progress with_reducible refine Steady.upd ?_

theorem Steady.execPllLossOfLock (h : Steady s₀ s) (t : Nat) (die : Nat) :
    ∃ s₁, execPllLossOfLock t die s = .next s₁ ∧ Steady s₀ s₁ := by
  refine ⟨_, rfl, ?_⟩
  repeat' first
    | with_reducible assumption
    | with_reducible apply Steady.at
    | with_reducible apply Steady.raiseAs
    | with_reducible refine Steady.ite ?_ ?_
    | (try lift_lets -underBinder); intro x; refine Steady.cut (x := x) ?_ ?_ <;> [subst x; (clear_value x; intro _)]
    | (try lift_lets -underBinder); intro x; first | subst x | skip
    | fail_if_no_progress with_reducible refine Steady.upd ?_

theorem Steady.execPllRelock (h : Steady s₀ s) (t : Nat) (die : Nat) :
    ∃ s₁, execPllRelock t die s = .next s₁ ∧ Steady s₀ s₁ := by
  refine ⟨_, rfl, ?_⟩
  repeat' first
    | with_reducible assumption
    | with_reducible apply Steady.at
    | with_reducible refine Steady.ite ?_ ?_
    | (try lift_lets -underBinder); intro x; refine Steady.cut (x := x) ?_ ?_ <;> [subst x; (clear_value x; intro _)]
    | (try lift_lets -underBinder); intro x; first | subst x | skip
    | fail_if_no_progress with_reducible refine Steady.upd ?_

theorem Steady.execLockstepDisagreement (h : Steady s₀ s) (t : Nat) (pair : Nat) (pc : Nat) :
    ∃ s₁, execLockstepDisagreement t pair pc s = .next s₁ ∧ Steady s₀ s₁ := by
  refine ⟨_, rfl, ?_⟩
  repeat' first
    | with_reducible assumption
    | with_reducible apply Steady.at
    | with_reducible apply Steady.raiseAs
    | with_reducible refine Steady.ite ?_ ?_
    | (try lift_lets -underBinder); intro x; refine Steady.cut (x := x) ?_ ?_ <;> [subst x; (clear_value x; intro _)]
    | (try lift_lets -underBinder); intro x; first | subst x | skip

theorem Steady.execPerstRelease (h : Steady s₀ s) (t : Nat) (c : HostCfg) :
    ∃ s₁, execPerstRelease t c s = .next s₁ ∧ Steady s₀ s₁ := by
  refine ⟨_, rfl, ?_⟩
  repeat' first
    | with_reducible assumption
    | with_reducible apply Steady.at
    | with_reducible apply Steady.showHost
    | with_reducible refine Steady.ite ?_ ?_
    | (try lift_lets -underBinder); intro x; refine Steady.cut (x := x) ?_ ?_ <;> [subst x; (clear_value x; intro _)]
    | (try lift_lets -underBinder); intro x; first | subst x | skip
    | fail_if_no_progress with_reducible refine Steady.upd ?_

end Sys2Proof.Machine
end

