-- ==== Sys2Proof/Laws/Keeps.lean ====
section
/-!
SUPPORT. Small facts about folds and conditionals, and about the operations that several claims rest on.
-/
namespace Sys2Proof.Machine
set_option Elab.async false

theorem State.fb_setF_same (s : State) (fd : Field) (v : Nat) (h : fd.lo + fd.w ≤ 32 := by decide) :
    (s.setF fd v).fb fd = (v % 2 ^ fd.w != 0) := by simp only [State.fb, State.f_setF_same s fd v h]

theorem foldl_keeps {α β : Type} {f : State → α → State} (g : State → β) (l : List α) (s : State)
    (h : ∀ z, ∀ x ∈ l, g (f z x) = g z) : g (l.foldl f s) = g s := by
  induction l generalizing s with
  | nil => rfl
  | cons x r ih => rw [List.foldl_cons, ih _ (fun z y hy => h z y (List.mem_cons_of_mem _ hy)), h _ _ (List.mem_cons_self ..)]

theorem ite_keeps {β : Type} {p : Prop} [Decidable p] (g : State → β) {x y : State} {v : β} (hx : g x = v) (hy : g y = v) :
    g (if p then x else y) = v := by split <;> assumption

theorem usage_fb (z : State) (n : Nat) (hn : n ∈ List.range 96) :
    (z.usageWrite n).fb PWR_SRC_MAINS_PRESENT = z.fb PWR_SRC_MAINS_PRESENT := by
  have hn' := List.mem_range.1 hn
  unfold State.usageWrite
  refine ite_keeps (fun z => z.fb PWR_SRC_MAINS_PRESENT) rfl (ite_keeps (fun z => z.fb PWR_SRC_MAINS_PRESENT) ?_ ?_)
  · simp only [State.raiseLane_fb]
    exact State.fb_setF_other _ _ _ _ (.inl (by simp [PWR_SRC_MAINS_PRESENT, TILE_n_STATUS_HM_DEFER]; omega))
  · simp

theorem cue_fb (z : State) (n : Nat) : (z.driveCue n).fb PWR_SRC_MAINS_PRESENT = z.fb PWR_SRC_MAINS_PRESENT := by
  unfold State.driveCue
  refine ite_keeps (fun z => z.fb PWR_SRC_MAINS_PRESENT) ?_ ?_
  · exact ite_keeps (fun z => z.fb PWR_SRC_MAINS_PRESENT) (by simp only [State.raise_fb]; rfl) rfl
  · simp only [State.emit_fb]
    exact ite_keeps (fun z => z.fb PWR_SRC_MAINS_PRESENT) (by simp only [State.raise_fb]; rfl) rfl

theorem runPending_mode (z : State) (h : z.st = MORNING) : z.runPending.st = MORNING ∨ z.runPending.st = NOON := by
  unfold State.runPending
  split
  · exact .inr (State.enterNoon_state z 4 (by decide)).1
  · exact .inl h

theorem enterMorning_mode (s : State) (c : Nat) (hc : c < 256) : (s.enterMorning c).st = MORNING ∨ (s.enterMorning c).st = NOON := by
  unfold State.enterMorning
  apply runPending_mode
  have k : Steady (s.goTo MORNING c) ((if s.st == DAWN then (s.goTo MORNING c).startRails else s.goTo MORNING c).calAllDue.spitMorning) :=
    (Steady.ite (Steady.refl.startRails) Steady.refl).calAllDue.spitMorning
  exact k.st.trans (s.goTo_state _ _ (by decide))

/-- The first effects of a write of SYS_CTRL: the timer of stand-alone operation stops, and two bits are kept (R49, R60). -/
def ctrlBits (s : State) (v : Word) : State := { s with sys := { s.sys with saDeadline := none } }.setFields
    [(SYS_CTRL_SA_INHIBIT, SYS_CTRL_SA_INHIBIT.get v), (SYS_CTRL_RUN, SYS_CTRL_RUN.get v)]

theorem ctrlBits_sameMode (s : State) (v : Word) : SameMode s (ctrlBits s v) :=
  ((SameMode.of_steady (Steady.upd Steady.refl)).setF _ _ (by decide)).setF _ _ (by decide)

theorem ctrlBits_fb (s : State) (v : Word) (fd : Field) (h : fd.off ≠ rSYS_CTRL) : (ctrlBits s v).fb fd = s.fb fd := by
  simp only [ctrlBits, State.setFields]
  rw [State.fb_setF_other _ _ _ _ (.inl h), State.fb_setF_other _ _ _ _ (.inl h)]
  rfl

theorem writeSysCtrl_eq (s : State) (v : Word) (x : DawnTests) : s.writeSysCtrl v x =
    (let z := ctrlBits s v
     let z := if SYS_CTRL_ABANDON.get v == 1 then z.abandon else z
     let z := if SYS_CTRL_NIGHT.get v == 1 then z.nightRequest else z
     let z := if s.fb SYS_CTRL_RUN && !(SYS_CTRL_RUN.get v == 1) then z.stopRequest else z
     let z := if SYS_CTRL_RUN.get v == 1 then z.runRequest else z
     if (SYS_CTRL_DAWN.get v == 1) && z.st = NIGHT && z.fb PWR_SRC_MAINS_QUAL then z.enterDawn 1 x else z) := rfl

theorem mem_openDocs {s : State} {w : Nat} {d : Doc} (h : (s.win w).doc = some d) : ∃ d, (w, d) ∈ s.openDocs := by
  have key : ∀ m : List (Nat × Win), (tget {} m w).doc = some d → ∃ x, (w, x) ∈ m ∧ x.doc = some d := by
    intro m
    induction m with
    | nil => intro h; simp [tget] at h
    | cons e r ih =>
      intro h
      obtain ⟨j, v⟩ := e
      simp only [tget, Sparse.get] at h
      split at h
      · simp at h
      · split at h
        · next e => subst e; exact ⟨v, by simp, h⟩
        · obtain ⟨x, h1, h2⟩ := ih h
          exact ⟨x, List.mem_cons_of_mem _ h1, h2⟩
  obtain ⟨x, h1, h2⟩ := key s.wins h
  exact ⟨d, List.mem_filterMap.2 ⟨(w, x), h1, by simp [h2]⟩⟩

theorem askStop_fold (l : List (Nat × Doc)) : ∀ (s : State) (w : Nat) (d : Doc), (s.win w).doc = some d → d.stopped = false →
    (d.stopReq = true ∨ ∃ x, (w, x) ∈ l) →
    ∃ d', ((l.foldl (fun s e => s.askStop e.1) s).win w).doc = some d' ∧ d'.stopReq = true := by
  induction l with
  | nil => intro s w d h1 _ h; rcases h with h | ⟨x, h⟩; exact ⟨d, h1, h⟩; cases h
  | cons e r ih =>
    intro s w d h1 h2 h
    by_cases hw : w = e.1
    · refine ih (s.askStop e.1) w { d with stopReq := true } ?_ h2 (.inl rfl)
      rw [State.askStop, State.modWin_win, if_pos hw, ← hw, h1]
      simp [h2]
    · refine ih (s.askStop e.1) w d ?_ h2 ?_
      · simp [State.askStop, hw, h1]
      · rcases h with h | ⟨x, h⟩
        · exact .inl h
        · rcases List.mem_cons.1 h with h | h
          · exact absurd (by rw [← h]) hw
          · exact .inr ⟨x, h⟩


/-! ### Conditions that reading the clock leaves as they are -/

@[simp] theorem State.temp_at (s : State) (t n : Nat) (h : n < 105) : (s.at t).temp? n = s.temp? n := by
  have h1 : isPmc (THM_n_TEMP_VALID n).off = false :=
    decide_eq_false (by simp only [THM_n_TEMP_VALID]; omega)
  have h2 : isPmc (THM_n_TEMP_TEMP n).off = false :=
    decide_eq_false (by simp only [THM_n_TEMP_TEMP]; omega)
  simp only [State.temp?, State.fb_at _ _ _ h1, State.fs_at _ _ _ h2]

@[simp] theorem State.nvOk_at (s : State) (t : Nat) : (s.at t).nvOk = s.nvOk := by
  simp only [State.nvOk, State.temp_at s t 96 (by decide)]

theorem State.hmOk_at (s : State) (t n : Nat) (h : n < 96) : (s.at t).hmOk n = s.hmOk n := by
  simp only [State.hmOk, State.temp_at s t n (by omega)]

@[simp] theorem State.spadOn_at (s : State) (t b : Nat) : (s.at t).spadOn b = s.spadOn b := by
  simp only [State.spadOn, State.f_at _ _ MEM_SPAD_LO_STATE rfl, State.f_at _ _ MEM_SPAD_HI_STATE rfl]

/-! ### Tables that hold only what is listed -/

@[simp] theorem lookup_erase {α : Type} (m : List (Nat × α)) (k : Nat) : lookup? (erase m k) k = none := by
  simp only [lookup?, erase, Option.map_eq_none_iff, List.find?_eq_none]
  intro x hx
  have := (List.mem_filter.1 hx).2
  simpa using this

theorem lookup_erase_other {α : Type} (m : List (Nat × α)) (k j : Nat) (h : j ≠ k) : lookup? (erase m k) j = lookup? m j := by
  simp only [lookup?, erase, List.find?_filter]
  congr 2
  funext a
  by_cases e : a.1 = j
  · subst e; simp [h]
  · simp [e]

theorem lookup_insertKey {α : Type} (k : Nat) (v : α) (m : List (Nat × α)) : lookup? (insertKey k v m) k = some v := by
  induction m with
  | nil => simp [insertKey, lookup?]
  | cons e r ih =>
    obtain ⟨j, w⟩ := e
    simp only [insertKey]
    split
    · simp [lookup?]
    · split
      · simp [lookup?]
      · next h => simpa [lookup?, Ne.symm h] using ih

theorem lookup_insertKey_other {α : Type} (k j : Nat) (v : α) (m : List (Nat × α)) (h : j ≠ k) :
    lookup? (insertKey k v m) j = lookup? m j := by
  induction m with
  | nil => simp [insertKey, lookup?, h.symm]
  | cons e r ih =>
    obtain ⟨i, w⟩ := e
    simp only [insertKey]
    split
    · simp [lookup?, h.symm]
    · split
      · next h1 => subst h1; simp [lookup?, h.symm]
      · by_cases e : i = j
        · simp [lookup?, e]
        · simpa [lookup?, e] using ih

/-! ### Cue lines and images -/

theorem State.driveCue_hold (s : State) (n : Nat) : (s.driveCue n).svc.cueHold = s.svc.cueHold := by
  unfold State.driveCue
  refine ite_keeps (fun z => z.svc.cueHold) ?_ ?_
  · refine ite_keeps (fun z => z.svc.cueHold) ?_ rfl
    simp
  · simp only [State.emit_svc]
    refine ite_keeps (fun z => z.svc.cueHold) ?_ rfl
    simp

/-- An image put in force (R93). -/
def State.imageArmed (s : State) (im : Image) : State :=
  let old := (s.cfg.armed).getD {}
  let s := (s.liveDiscard).discardDocs true
  let s := if im.builtin || (im.regions == old.regions && im.laneBanks == old.laneBanks && im.spadBanks == old.spadBanks) then s else s.freeSlots
  ({ s with cfg := { s.cfg with armed := some im } }).setFields [(CFG_IMAGE_ID_IMAGE_ID, im.id), (SYS_STATE_STANDALONE, b2n im.builtin)]

/-- What follows on that (R93, R99, R142 to R144). -/
def State.imageSpread (s : State) (im : Image) : State :=
  let s := s.noSpit
  let s := (List.range 104).foldl (fun s e => s.setBanks e (s.imageBanks e)) s
  let s := ((List.range 32).foldl (fun s b => s.setSpad b (im.spadBanks.getD b 0)) s).showPool
  let s := s.applyPos.applyTiles
  let s := if s.st = MORNING then s.startRails else s
  let s := (s.setF PWR_STORE_DUSK_J (duskReserve (some im))).updHoldup
  let s := if s.pwr.acctSet then s else ({ s with pwr := { s.pwr with acctSet := true } }).setAcct s.acctCap
  let s := [0, 1, 2, 3].foldl (fun s a =>
    let s := s.modAxis a fun x => { x with identified := false }
    if (s.axisRec a).role = 0 && (s.axis a).st != .off then s.axisOff a else s) s
  (({ s with flt := { s.flt with reactions := im.reactions } }).calApply im.cal).applyCues.showComp

theorem State.applyImage_eq (s : State) (im : Image) : s.applyImage im = (s.imageArmed im).imageSpread im := by
  delta State.applyImage State.imageArmed State.imageSpread
  with_reducible rfl

theorem Frame.imageSpread {μ : Touch} {s₀ s : State} (h : Frame μ s₀ s) (im : Image)
    (h_sys : μ.sys = true) (h_pos : μ.pos = true) (h_fire : μ.fire = true) (h_wins : μ.wins = true) (h_noz : μ.noz = true) (h_tileH : μ.tileH = true) (h_health : μ.health = true) (h_ports : μ.ports = true) (h_pwr : μ.pwr = true) (h_mot : μ.mot = true) (h_flt : μ.flt = true) (h_cal : μ.cal = true) (h_svc : μ.svc = true) :
    Frame μ s₀ (s.imageSpread im) := by
  delta State.imageSpread
  repeat' first
    | with_reducible assumption
    | with_reducible apply Frame.applyCues
    | with_reducible apply Frame.applyPos
    | with_reducible apply Frame.applyTiles
    | with_reducible apply Frame.axisOff
    | with_reducible apply Frame.calApply
    | with_reducible apply Frame.modAxis
    | with_reducible apply Frame.noSpit
    | with_reducible apply Frame.setAcct
    | with_reducible apply Frame.setBanks
    | with_reducible apply Frame.setF
    | with_reducible apply Frame.setSpad
    | with_reducible apply Frame.showComp
    | with_reducible apply Frame.showPool
    | with_reducible apply Frame.startRails
    | with_reducible apply Frame.updHoldup
    | with_reducible refine Frame.ite ?_ ?_
    | with_reducible refine Frame.foldl ?_ ?_
    | (try lift_lets -underBinder); intro x; refine Frame.cut (x := x) ?_ ?_ <;> [subst x; (clear_value x; intro _)]
    | (try lift_lets -underBinder); intro x; first | subst x | skip
    | fail_if_no_progress with_reducible refine Frame.upd ?_

theorem State.imageSpread_cfg (s : State) (im : Image) : (s.imageSpread im).cfg = s.cfg :=
  (Frame.imageSpread (μ := { sys := true, pos := true, fire := true, wins := true, noz := true, tileH := true, health := true, ports := true, pwr := true, mot := true, flt := true, cal := true, svc := true })
    Frame.refl im rfl rfl rfl rfl rfl rfl rfl rfl rfl rfl rfl rfl rfl).cfg.resolve_left (by decide)


theorem SameMode.next {s₀ s s' : State} (h : SameMode s₀ s) (k : Steady s s') : SameMode s₀ s' := h.trans (.of_steady k)

theorem SameMode.foldl {α : Type} {s₀ s : State} {f : State → α → State} {l : List α} (h : SameMode s₀ s)
    (hf : ∀ s x, SameMode s₀ s → SameMode s₀ (f s x)) : SameMode s₀ (l.foldl f s) := by
  induction l generalizing s with
  | nil => exact h
  | cons x r ih => exact ih (hf _ _ h)

theorem SameMode.cut {s₀ x : State} {P : Prop} (hx : SameMode s₀ x) (h : SameMode s₀ x → P) : P := h hx

theorem SameMode.applyCues {s₀ s : State} (h : SameMode s₀ s) : SameMode s₀ (s.applyCues) := h.next (Steady.refl.applyCues)
theorem SameMode.applyPos {s₀ s : State} (h : SameMode s₀ s) : SameMode s₀ (s.applyPos) := h.next (Steady.refl.applyPos)
theorem SameMode.applyTiles {s₀ s : State} (h : SameMode s₀ s) : SameMode s₀ (s.applyTiles) := h.next (Steady.refl.applyTiles)
theorem SameMode.axisOff {s₀ s : State} (h : SameMode s₀ s) (a : Nat) : SameMode s₀ (s.axisOff a) := h.next (Steady.refl.axisOff a)
theorem SameMode.calApply {s₀ s : State} (h : SameMode s₀ s) (p : CalPolicy) : SameMode s₀ (s.calApply p) := h.next (Steady.refl.calApply p)
theorem SameMode.noSpit {s₀ s : State} (h : SameMode s₀ s) : SameMode s₀ (s.noSpit) := h.next (Steady.refl.noSpit)
theorem SameMode.setAcct {s₀ s : State} (h : SameMode s₀ s) (u : Int) : SameMode s₀ (s.setAcct u) := h.next (Steady.refl.setAcct u)
theorem SameMode.setBanks {s₀ s : State} (h : SameMode s₀ s) (e v : Nat) : SameMode s₀ (s.setBanks e v) := h.next (Steady.refl.setBanks e v)
theorem SameMode.setSpad {s₀ s : State} (h : SameMode s₀ s) (b v : Nat) : SameMode s₀ (s.setSpad b v) := h.next (Steady.refl.setSpad b v)
theorem SameMode.showComp {s₀ s : State} (h : SameMode s₀ s) : SameMode s₀ (s.showComp) := h.next (Steady.refl.showComp)
theorem SameMode.showPool {s₀ s : State} (h : SameMode s₀ s) : SameMode s₀ (s.showPool) := h.next (Steady.refl.showPool)
theorem SameMode.startRails {s₀ s : State} (h : SameMode s₀ s) : SameMode s₀ (s.startRails) := h.next (Steady.refl.startRails)
theorem SameMode.modAxis {s₀ s : State} (h : SameMode s₀ s) (a : Nat) (g : Axis → Axis) : SameMode s₀ (s.modAxis a g) := h.next (Steady.refl.modAxis a g)

theorem SameMode.imageSpread {s₀ s : State} (h : SameMode s₀ s) (im : Image) : SameMode s₀ (s.imageSpread im) := by
  delta State.imageSpread
  repeat' first
    | with_reducible assumption
    | with_reducible apply SameMode.applyCues
    | with_reducible apply SameMode.applyPos
    | with_reducible apply SameMode.applyTiles
    | with_reducible apply SameMode.axisOff
    | with_reducible apply SameMode.calApply
    | with_reducible apply SameMode.noSpit
    | with_reducible apply SameMode.setAcct
    | with_reducible apply SameMode.setBanks
    | with_reducible apply SameMode.setSpad
    | with_reducible apply SameMode.showComp
    | with_reducible apply SameMode.showPool
    | with_reducible apply SameMode.startRails
    | with_reducible apply SameMode.modAxis
    | with_reducible apply SameMode.updHoldup
    | with_reducible refine SameMode.setF ?_ _ _ (by decide)
    | with_reducible refine SameMode.ite ?_ ?_
    | with_reducible refine SameMode.foldl ?_ ?_
    | (try lift_lets -underBinder); intro x; refine SameMode.cut (x := x) ?_ ?_ <;> [subst x; (clear_value x; intro _)]
    | (try lift_lets -underBinder); intro x; first | subst x | skip
    | fail_if_no_progress with_reducible refine SameMode.next ?_ (Steady.upd Steady.refl)

/-- An image put in force changes neither the state nor how it was entered. -/
theorem SameMode.applyImage (s : State) (im : Image) : SameMode s (s.applyImage im) := by
  rw [State.applyImage_eq]
  refine SameMode.imageSpread ?_ im
  delta State.imageArmed
  have h : Steady s (s.liveDiscard.discardDocs true) := (Steady.refl.liveDiscard).discardDocs true
  refine SameMode.trans (SameMode.of_steady h) ?_
  generalize s.liveDiscard.discardDocs true = z
  simp only [State.setFields]
  refine SameMode.setF (SameMode.setF ?_ _ _ (by decide)) _ _ (by decide)
  refine SameMode.of_steady (Steady.upd ?_)
  exact Steady.ite Steady.refl Steady.refl.freeSlots

theorem State.applyImage_armed (s : State) (im : Image) : (s.applyImage im).cfg.armed = some im := by
  rw [State.applyImage_eq, State.imageSpread_cfg]
  simp [State.imageArmed, State.setFields]

/-! ### Operations that leave one register as it is -/

/-- The register at `o` reads as before. -/
def Keep (o : Nat) (s₀ s : State) : Prop := s.reg o = s₀.reg o

section
variable {o : Nat} {s₀ s : State}

theorem Keep.refl : Keep o s s := rfl
theorem Keep.trans {s₁ s₂ : State} (h : Keep o s₀ s₁) (k : Keep o s₁ s₂) : Keep o s₀ s₂ := Eq.trans k h
theorem Keep.f (h : Keep o s₀ s) (fd : Field) (e : fd.off = o := by rfl) : s.f fd = s₀.f fd := by
  simp only [State.f, e]; exact congrArg fd.get h
theorem Keep.fb (h : Keep o s₀ s) (fd : Field) (e : fd.off = o := by rfl) : s.fb fd = s₀.fb fd := by
  simp only [State.fb, h.f fd e]
theorem Keep.setReg (h : Keep o s₀ s) (p : Nat) (w : Word) (e : o ≠ p) : Keep o s₀ (s.setReg p w) :=
  (State.reg_setReg_other s p o w e).trans h
theorem Keep.setF (h : Keep o s₀ s) (fd : Field) (v : Nat) (e : o ≠ fd.off) : Keep o s₀ (s.setF fd v) := h.setReg _ _ e
theorem Keep.setFs (h : Keep o s₀ s) (fd : Field) (v : Int) (e : o ≠ fd.off) : Keep o s₀ (s.setFs fd v) := h.setReg _ _ e
theorem Keep.setFb (h : Keep o s₀ s) (fd : Field) (b : Bool) (e : o ≠ fd.off) : Keep o s₀ (s.setFb fd b) := h.setReg _ _ e
theorem Keep.addF (h : Keep o s₀ s) (fd : Field) (k : Nat) (e : o ≠ fd.off) : Keep o s₀ (s.addF fd k) := h.setReg _ _ e
theorem Keep.incF (h : Keep o s₀ s) (fd : Field) (k : Nat) (e : o ≠ fd.off) : Keep o s₀ (s.incF fd k) := h.setReg _ _ e
theorem Keep.setBit (h : Keep o s₀ s) (fd : Field) (k : Nat) (b : Bool) (e : o ≠ fd.off) : Keep o s₀ (s.setBit fd k b) := h.setReg _ _ e
theorem Keep.setFields_nil (h : Keep o s₀ s) : Keep o s₀ (s.setFields []) := h
theorem Keep.setFields_cons {fd : Field} {v : Nat} {l : List (Field × Nat)} (h : Keep o s₀ ((s.setF fd v).setFields l)) :
    Keep o s₀ (s.setFields ((fd, v) :: l)) := h
theorem Keep.ite {p : Prop} [Decidable p] {x y : State} (hx : Keep o s₀ x) (hy : Keep o s₀ y) : Keep o s₀ (if p then x else y) := by
  split <;> assumption
theorem Keep.cut {x : State} {P : Prop} (hx : Keep o s₀ x) (h : Keep o s₀ x → P) : P := h hx
theorem Keep.foldl {α : Type} {f : State → α → State} {l : List α} (h : Keep o s₀ s)
    (hf : ∀ s, ∀ x ∈ l, Keep o s₀ s → Keep o s₀ (f s x)) : Keep o s₀ (l.foldl f s) := by
  induction l generalizing s with
  | nil => exact h
  | cons x r ih => exact ih (hf _ _ (List.mem_cons_self ..) h) (fun s y hy => hf s y (List.mem_cons_of_mem _ hy))
theorem Keep.upd {snaps lows now ident nv sys cfg pos fire wins noz tileH lanes health comp host dma ring ports pwr mot thm flt cal mem pmc clk svc out draws pending} (h : Keep o s₀ s) : Keep o s₀ (State.mk s.regs snaps lows now ident nv sys cfg pos fire wins noz tileH lanes health comp host dma ring ports pwr mot thm flt cal mem pmc clk svc out draws pending) := h
theorem Keep.at (h : Keep o s₀ s) (t : Nat) (e : isPmc o = false) : Keep o s₀ (s.at t) := (State.reg_at s t o e).trans h
theorem Keep.count (h : Keep o s₀ s) (ev u k : Nat) (e : isPmc o = false) : Keep o s₀ (s.count ev u k) := (State.reg_count s ev u k o e).trans h
theorem Keep.regs {c : State} (h : Keep o s₀ s) (e : c.regs = s.regs) : Keep o s₀ c := by
  unfold Keep State.reg; rw [e]; exact h
theorem Keep.raise (h : Keep o s₀ s) (k : Kind) (a : Nat) : Keep o s₀ (s.raise k a) := h.regs (State.raise_regs s k a)
theorem Keep.raiseLane (h : Keep o s₀ s) (d : Nat) (k : Kind) (a : Nat) : Keep o s₀ (s.raiseLane d k a) := h.regs (State.raiseLane_regs s d k a)
theorem Keep.raiseAs (h : Keep o s₀ s) (d i : Nat) (k : Kind) (a : Nat) (j : Bool) : Keep o s₀ (s.raiseAs d i k a j) :=
  h.regs (State.raiseAs_regs s d i k a j)
theorem Keep.emit (h : Keep o s₀ s) (x : Output) : Keep o s₀ (s.emit x) := h
end

end Sys2Proof.Machine
end

