-- ==== Sys2Proof/Laws/Reports.lean ====
section
/-!
SUPPORT. What has been raised, emitted or put out stays there: a message, an event or an output on the way to a state is one
between its ends.
-/
namespace Sys2Proof.Machine
set_option Elab.async false
variable {a b c d : State}

theorem Grow.of_at {s s' : State} {t : Nat} (h : Grow (s.at t) s') : Grow s s' := (Grow.refl.at t).trans h

/-- A message raised between two states is reported from the first to the second. -/
theorem State.Reported.of_raised {die inst : Nat} {k : Kind} {x : Nat} (h : Grow a b) (r : b.Raised c die inst k x) (h' : Grow c d) :
    a.Reported d k x := by
  obtain ⟨l, hl⟩ := h.wire
  obtain ⟨l', hl'⟩ := h'.wire
  obtain ⟨m, e1, -, -, e2, e3, e4⟩ := r
  refine ⟨l ++ [m] ++ l', ?_, m, by simp, e2, e3, e4⟩
  rw [← hl', e1, ← hl]; simp

theorem State.Reported.of_raise (k : Kind) (x : Nat) (h : Grow a b) (h' : Grow (b.raise k x) c) : a.Reported c k x :=
  .of_raised h (.raise rfl k x) h'

theorem State.Reported.of_raiseLane (n : Nat) (k : Kind) (x : Nat) (h : Grow a b) (h' : Grow (b.raiseLane n k x) c) :
    a.Reported c k x := .of_raised h (.raiseLane rfl n k x) h'

/-- An output put out between two states is one from the first to the second. -/
theorem State.Put.of_emit (o : Output) (p : Output → Prop) (hp : p o) (h : Grow a b) (h' : Grow (b.emit o) c) : a.Put c p := by
  obtain ⟨l, hl⟩ := h.out
  obtain ⟨l', hl'⟩ := h'.out
  have e : (b.emit o).out = o :: b.out := rfl
  refine ⟨l' ++ [o] ++ l, ?_, o, by simp, hp⟩
  rw [← hl', e, ← hl]; simp

/-- An event emitted between two states is one from the first to the second. -/
theorem State.Emitted.of_emitSrc (n : Nat) (h : Grow a b) (h' : Grow (b.emitSrc n) c) : a.Emitted c n := by
  obtain ⟨l, hl⟩ := h.fabric
  obtain ⟨l', hl'⟩ := h'.fabric
  have e : (b.emitSrc n).pos.fabric = b.pos.fabric ++ [{ due := b.now + 8, src := n }] := rfl
  refine ⟨l ++ [{ due := b.now + 8, src := n }] ++ l', ?_, { due := b.now + 8, src := n }, by simp, rfl⟩
  rw [← hl', e, ← hl]; simp

theorem State.Reported.left {k : Kind} {x : Nat} (h : Grow a b) (h' : b.Reported c k x) : a.Reported c k x := by
  obtain ⟨l, hl⟩ := h.wire
  obtain ⟨l', e, m, hm, r⟩ := h'
  exact ⟨l ++ l', by rw [e, ← hl]; simp, m, by simp [hm], r⟩

theorem State.Reported.right {k : Kind} {x : Nat} (h : a.Reported b k x) (h' : Grow b c) : a.Reported c k x := by
  obtain ⟨l, hl⟩ := h'.wire
  obtain ⟨l', e, m, hm, r⟩ := h
  exact ⟨l' ++ l, by rw [← hl, e]; simp, m, by simp [hm], r⟩

theorem State.Put.left {p : Output → Prop} (h : Grow a b) (h' : b.Put c p) : a.Put c p := by
  obtain ⟨l, hl⟩ := h.out
  obtain ⟨l', e, o, ho, r⟩ := h'
  exact ⟨l' ++ l, by rw [e, ← hl]; simp, o, by simp [ho], r⟩

theorem State.Put.right {p : Output → Prop} (h : a.Put b p) (h' : Grow b c) : a.Put c p := by
  obtain ⟨l, hl⟩ := h'.out
  obtain ⟨l', e, o, ho, r⟩ := h
  exact ⟨l ++ l', by rw [← hl, e]; simp, o, by simp [ho], r⟩

end Sys2Proof.Machine
end

