-- ==== Sys2Proof/WellFormed.lean ====
section
/-!
DEFINITION. Which commands are well formed: every unit number names a unit the engine has (R4, R11), offsets and lengths lie
within their windows (R474, R478), and bytes are bytes.
-/
namespace Sys2Proof

/-- Every entry of a byte string is below 256. -/
def bytes (l : List Nat) : Bool := l.all fun b => decide (b < 256)

/-- The same for one that may be absent. -/
def optBytes (l : Option (List Nat)) : Bool := l.all bytes

/-- A packet whose header fields fit their widths, with 0 to 256 bytes of payload in whole words (R297). -/
def RingPkt.wellFormed (p : RingPkt) : Bool :=
  decide (p.vc < 3) && decide (p.src < 2 ^ 16) && decide (p.dst < 2 ^ 16) && decide (p.seq < 2 ^ 16) && decide (p.rtag < 2 ^ 16) &&
  decide (p.addr < 2 ^ 64) && decide (p.payload.length ≤ 256) && p.payload.length % 4 == 0 && bytes p.payload

/-- The well-formedness of a command's operands. -/
def wellFormed (i : Instr) : Bool :=
  match i with
  | .registerWrite _ _ off data _ => decide (off + data.length ≤ 2 ^ 24) && bytes data
  | .loReadSnapshot _ _ off n => decide (off + n ≤ 2 ^ 24)
  | .hiWritePair _ _ off _ => decide (off < 2 ^ 24) && off % 4 == 0
  | .rcRead _ _ off n => decide (off + n ≤ 2 ^ 24)
  | .mainsApplied _ straps _ _ => decide (straps < 2 ^ 12)
  | .firmwareCheckComplete _ _ _ => true
  | .bootSequenceComplete _ => true
  | .sysCtrlDawn _ _ _ => true
  | .sysCtrlNight _ _ => true
  | .runRequest _ _ => true
  | .stopRequest _ _ => true
  | .sysCtrlAbandon _ _ => true
  | .dawnDone _ => true
  | .standaloneTimerExpiry _ _ => true
  | .runPendingActed _ => true
  | .duskComplete _ => true
  | .logicReserveReached _ => true
  | .powerCycle _ => true
  | .spitTimerExpiry _ => true
  | .spitCycle _ => true
  | .cueInputEdge _ n _ => decide (n < 16)
  | .patternLineTimeout _ => true
  | .arm _ _ => true
  | .enableCheckComplete _ => true
  | .live _ _ => true
  | .liveCheckComplete _ => true
  | .store _ _ => true
  | .storeComplete _ => true
  | .cfgKeyStore _ _ => true
  | .layoutLock _ _ => true
  | .stagingWrite _ off data => decide (off + data.length ≤ 2 ^ 22) && bytes data
  | .cueSafeIntervalEnd _ n => decide (n < 16)
  | .countStep _ n _ _ _ => decide (n < 16)
  | .indexLatch _ n _ => decide (n < 16)
  | .interpolatedCrossing _ n => decide (n < 16)
  | .standstill _ n => decide (n < 16)
  | .posPreset _ n _ => decide (n < 16)
  | .posCmpWrite _ n _ => decide (n < 16)
  | .decoderCrossCheck _ n _ => decide (n < 16)
  | .eventFabricDelivery _ => true
  | .lineref _ port p => decide (port < 4) && p.wellFormed
  | .linerefRelease _ ch => decide (ch < 16)
  | .linerefHeartbeat _ n => decide (n < 16)
  | .linerefLost _ ch => decide (ch < 16)
  | .linkDelayMeasurement _ port _ => decide (port < 4)
  | .strobeLaunch _ n => decide (n < 96)
  | .gapSwapTimeout _ w => decide (w < 16)
  | .pauseEnd _ w => decide (w < 16)
  | .laneCycleStart _ e => decide (e < 104)
  | .cyclePackComplete _ e => decide (e < 104)
  | .heaterMeasurement _ n _ _ => decide (n < 96)
  | .hlthForce _ _ => true
  | .bypassRequest _ _ => true
  | .laneParityError _ e => decide (e < 104)
  | .laneEnginePrepared _ n => decide (n < 96)
  | .rollIntervalExpiry _ d => decide (d < 4)
  | .rollSelfTestComplete _ d _ => decide (d < 4)
  | .documentRenderStart _ w => decide (w < 16)
  | .documentRendered _ w => decide (w < 16)
  | .prefillComplete _ n => decide (n < 96)
  | .lineBufferWrite _ n _ => decide (n < 96)
  | .hostFacingReset _ kind => decide (1 ≤ kind ∧ kind ≤ 4)
  | .streamEnable _ k _ => decide (k < 4096)
  | .streamDisable _ k _ => decide (k < 4096)
  | .streamReset _ k _ => decide (k < 4096)
  | .sqDoorbell _ k _ => decide (k < 4096)
  | .cqDoorbell _ k _ => decide (k < 4096)
  | .descriptorFetch _ k => decide (k < 4096)
  | .descriptorAccept _ k => decide (k < 4096)
  | .nop _ k => decide (k < 4096)
  | .copy _ k => decide (k < 4096)
  | .copy2d _ k => decide (k < 4096)
  | .fill _ k => decide (k < 4096)
  | .compare _ k => decide (k < 4096)
  | .compose _ k => decide (k < 4096)
  | .slotAlloc _ k => decide (k < 4096)
  | .slotFree _ k => decide (k < 4096)
  | .hostReadCompletion _ _ status data => decide (status < 8) && bytes data
  | .hostReadTimeout _ _ => true
  | .hostReadRetry _ _ => true
  | .unexpectedCompletion _ _ => true
  | .descriptorComplete _ k => decide (k < 4096)
  | .barrierAck _ k => decide (k < 4096)
  | .pacingResume _ k => decide (k < 4096)
  | .dmaCqStall _ k => decide (k < 4096)
  | .bar2Access _ a n data _ => decide (a + n ≤ 2 ^ 30) && optBytes data
  | .bar4Access _ a n data => decide (a + n ≤ 2 ^ 32) && optBytes data
  | .enum _ _ => true
  | .join _ port p => decide (port < 4) && p.wellFormed
  | .joinTimeout _ => true
  | .regRd _ port p => decide (port < 4) && p.wellFormed
  | .regWr _ port p _ => decide (port < 4) && p.wellFormed
  | .fsRd _ port p => decide (port < 4) && p.wellFormed
  | .fsWr _ port p => decide (port < 4) && p.wellFormed
  | .hostRd _ port p => decide (port < 4) && p.wellFormed
  | .hostWr _ port p => decide (port < 4) && p.wellFormed
  | .docReport _ port p => decide (port < 4) && p.wellFormed
  | .data _ port p => decide (port < 4) && p.wellFormed
  | .ack _ port p => decide (port < 4) && p.wellFormed
  | .fault _ port p => decide (port < 4) && p.wellFormed
  | .stop _ port p => decide (port < 4) && p.wellFormed
  | .wrap _ port p => decide (port < 4) && p.wellFormed
  | .budget _ port p => decide (port < 4) && p.wellFormed
  | .ringFrameRetry _ port _ => decide (port < 4)
  | .ringLinkFailure _ port => decide (port < 4)
  | .ringLinkTrained _ port _ => decide (port < 4)
  | .ringLinkRestore _ port => decide (port < 4)
  | .drainMarkerReturn _ port => decide (port < 4)
  | .ringReqTimeout _ rtag => decide (rtag < 2 ^ 16)
  | .ringJoinTmo _ w => decide (w < 16)
  | .tilePacketSend _ n => decide (n < 96)
  | .telemetryReport _ n _ _ => decide (n < 96)
  | .tileTrainTimeout _ n => decide (n < 96)
  | .tileLogicOvercurrent _ n => decide (n < 96)
  | .tileFuseClose _ q => decide (q < 24)
  | .tileVppCheck _ n => decide (n < 96)
  | .tileVppDischarged _ n => decide (n < 96)
  | .efuseTrip _ n => decide (n < 96)
  | .tileLogicOvervoltage _ n => decide (n < 96)
  | .tileLinkLost _ n => decide (n < 96)
  | .hmRead _ n _ resp => decide (n < 96) && optBytes resp
  | .hmWrite _ n _ data resp => decide (n < 96) && bytes data && optBytes resp
  | .authRead _ n nonce resp => decide (n < 96) && nonce.length == 8 && bytes nonce && optBytes resp
  | .getNonce _ n resp => decide (n < 96) && optBytes resp
  | .authAdd _ n resp => decide (n < 96) && optBytes resp
  | .hmRetry _ n => decide (n < 96)
  | .tileUkeyStore _ _ => true
  | .mainsLost _ _ => true
  | .mainsPresent _ => true
  | .mainsQualified _ => true
  | .linkOvervoltage _ _ => true
  | .linkHigh _ _ => true
  | .linkPfcStop _ _ => true
  | .linkStoreDischarge _ _ => true
  | .linkUndervoltage _ _ => true
  | .brokerUpdate _ _ => true
  | .railLimit _ q => decide (q < 24)
  | .railUndervoltage _ q => decide (q < 24)
  | .railShort _ q => decide (q < 24)
  | .railRampComplete _ q => decide (q < 24)
  | .logicOverdraw _ _ => true
  | .storeOvervoltage _ _ => true
  | .dcInputQualified _ => true
  | .dcInputRange _ _ => true
  | .dcInputReversed _ _ => true
  | .budgetSend _ => true
  | .dcRampComplete _ => true
  | .handbackComplete _ => true
  | .motorRun _ a _ => decide (a < 4)
  | .motorStop _ a _ => decide (a < 4)
  | .speedLoopUpdate _ a _ _ => decide (a < 4)
  | .currentControlPeriod _ a _ => decide (a < 4)
  | .motCmdLost _ => true
  | .motCmdRestored _ => true
  | .atSpeed _ a => decide (a < 4)
  | .catchCheckComplete _ a _ _ => decide (a < 4)
  | .openPhaseCheckComplete _ a _ => decide (a < 4)
  | .modelIdentificationComplete _ a _ _ _ => decide (a < 4)
  | .initialPositionFound _ a _ => decide (a < 4)
  | .catchLock _ a _ => decide (a < 4)
  | .catchOverRetry _ a => decide (a < 4)
  | .estimatorHandover _ a => decide (a < 4)
  | .openPhase _ a _ _ => decide (a < 4)
  | .stall _ a => decide (a < 4)
  | .overcurrentTrip _ a _ => decide (a < 4)
  | .thermalSample _ n _ _ => decide (n < 103)
  | .oscillatorRecalibration _ d _ _ => decide (d < 4)
  | .thermalPauseStepEnd _ w => decide (w < 16)
  | .duskFinishRecheck _ => true
  | .storeConverterResume _ => true
  | .storeChargingResume _ => true
  | .faultMessageAccepted _ die => decide (die < 5)
  | .floodClear _ => true
  | .logRecordWrite _ => true
  | .nvLogWrite _ => true
  | .fltPendAck _ _ => true
  | .relayReset _ _ => true
  | .logEn _ _ => true
  | .fltLogHeadWrite _ _ => true
  | .fltInject _ _ => true
  | .runNow _ _ => true
  | .calImport _ _ => true
  | .calInstanceDue _ _ => true
  | .calMeasurementComplete _ target _ _ => decide (target < 5)
  | .calSlewIdleStep _ _ => true
  | .calOverdue _ _ => true
  | .aliasSetWrite _ off data => decide (off + data.length ≤ 2 ^ 18) && bytes data
  | .aliasClearWrite _ off data => decide (off + data.length ≤ 2 ^ 18) && bytes data
  | .memEccCorrected _ mem _ => decide (mem < 3)
  | .memEccUncorrectable _ mem _ _ => decide (mem < 3)
  | .pmcLoad _ n _ => decide (n < 256)
  | .pmcDump _ => true
  | .dumpNow _ _ => true
  | .dumpEn _ _ => true
  | .tagLoad _ _ => true
  | .tagRecordComplete _ _ => true
  | .tagPop _ _ => true
  | .calendarSecond _ => true
  | .clockSet _ _ _ => true
  | .clkDateRead _ _ => true
  | .extest _ => true
  | .samplePreload _ => true
  | .bypass _ => true
  | .fwStatus _ => true
  | .fwLoad _ w => decide (w < 2 ^ 64)
  | .fwCommit _ v => decide (v < 2 ^ 8)
  | .fwCommitComplete _ _ => true
  | .lockClear _ v => decide (v < 2 ^ 32)
  | .arpRequest _ a => decide (a < 2 ^ 32)
  | .icmpEcho _ _ data => bytes data
  | .registerReadService _ _ port data => decide (port < 2 ^ 16) && bytes data
  | .fluidBridgeDatagram _ bus _ port data _ => decide (bus < 2) && decide (port < 2 ^ 16) && bytes data
  | .fluidBusIdle _ bus data => decide (bus < 2) && bytes data
  | .encoderSupplyShort _ n => decide (n < 16)
  | .cueVinLow _ c => decide (c < 2)
  | .cuePulseEnd _ n => decide (n < 16)
  | .cueOutputOverload _ n => decide (n < 16)
  | .cueOverloadRetry _ n => decide (n < 16)
  | .pllLossOfLock _ die => decide (die < 5)
  | .pllRelock _ die => decide (die < 5)
  | .lockstepDisagreement _ pair _ => decide (pair < 2)
  | .gateDriverFeedbackFault _ a _ => decide (a < 4)
  | .perstRelease _ _ => true
  | .cueVinRestored _ c => decide (c < 2)

end Sys2Proof
end

