-- ==== Sys2Proof/Tests/Slice0.lean ====
section
/-!
SUPPORT. The model's own tests: ill-formed commands that WellFormed refuses, single steps on small states, and for each
statement with hypotheses a state and operands that meet them.
-/
set_option maxRecDepth 100000
namespace Sys2Proof.Tests
open Sys2Proof.Machine

/-- A powered engine that has left its boot sequence, in an operating state. -/
def upIn (st : Nat) : State :=
  ({ State.reset with sys := { State.reset.sys with phase := .up, bootDone := true } }).setF SYS_STATE_STATE st

theorem test_reset_queue : State.reset.pending = [] := by decide

end Sys2Proof.Tests
end

section
/-!
SUPPORT. A counting field held at its limit (R10), the fields of the register store (R5), and the front of the queue.
-/
namespace Sys2Proof.Machine

/-- A saturated count is the count or the limit, whichever is less. -/
theorem sat_eq_min (w v : Nat) : sat w v = min (2 ^ w - 1) v := by
  unfold sat
  split <;> omega

theorem sat_lt (w v : Nat) : sat w v < 2 ^ w := by
  have hpos : 0 < 2 ^ w := Nat.two_pow_pos w
  rw [sat_eq_min]
  omega

/-- A counting field increased reads as its sum, held at its limit (R10). -/
theorem State.f_addF (s : State) (fd : Field) (n : Nat) (h : fd.lo + fd.w ≤ 32) :
    (s.addF fd n).f fd = min (2 ^ fd.w - 1) (s.f fd + n) := by
  rw [State.addF, State.f_setF_same s fd _ h, Nat.mod_eq_of_lt (sat_lt ..), sat_eq_min]

theorem step_cons (c : Instr) (rest : List Instr) (s : State) :
    step { s with pending := c :: rest } = exec c { s with pending := rest } := rfl

/-- Settles O1: a step on a queue that is not empty is its front command's execution, by definition. -/
theorem stepRunsFrontCommand : Obligations.StepRunsFrontCommand := step_cons

/-- Settles O9, from the laws of the sparse store and of the bits of a field. -/
theorem registerFields : Obligations.RegisterFields :=
  ⟨@State.f_setF_same, State.f_setF_other, State.reg_setReg, State.f_addF⟩

end Sys2Proof.Machine
end

section
/-!
SUPPORT. The calendar of R468 to R470, and the reads of R9 and R475 that touch one register: what a second, a set and a read
answer, one equation per case.
-/
namespace Sys2Proof.Machine

/-! ### The day after a date (R468) -/

theorem nextDay_of_lt {y m d : Nat} (h : d < monthLen y m) : nextDay (some (y, m, d)) = some (y, m, d + 1) := by
  simp [nextDay, h]

theorem nextDay_of_month_end {y m d : Nat} (h : monthLen y m ≤ d) (hm : m < 12) :
    nextDay (some (y, m, d)) = some (y, m + 1, 1) := by
  simp [nextDay, Nat.not_lt.2 h, hm]

@[simp] theorem monthLen_december (y : Nat) : monthLen y 12 = 31 := rfl

theorem nextDay_of_year_end {y : Nat} (h : y < 399) : nextDay (some (y, 12, 31)) = some (y + 1, 1, 1) := by
  simp [nextDay, h]

theorem nextDay_of_last : nextDay (some (399, 12, 31)) = none := rfl

/-! ### A second of the calendar (R468) -/

/-- The calendar stands at the last second of a day and runs. -/
structure Clk.DayEnd (c : Clk) : Prop where
  runs : c.ended = false
  second : c.second = 59
  minute : c.minute = 59
  hour : c.hour = 23

theorem Clk.tick_of_ended {c : Clk} (h : c.ended = true) : c.tick = c := by
  simp [Clk.tick, h]

theorem Clk.tick_second {c : Clk} (h : c.ended = false) (hs : c.second < 59) :
    c.tick = { c with second := c.second + 1 } := by
  simp [Clk.tick, h, hs]

theorem Clk.tick_minute {c : Clk} (h : c.ended = false) (hs : c.second = 59) (hm : c.minute < 59) :
    c.tick = { c with second := 0, minute := c.minute + 1 } := by
  simp [Clk.tick, h, hs, hm]

theorem Clk.tick_hour {c : Clk} (h : c.ended = false) (hs : c.second = 59) (hm : c.minute = 59) (hh : c.hour < 23) :
    c.tick = { c with second := 0, minute := 0, hour := c.hour + 1 } := by
  simp [Clk.tick, h, hs, hm, hh]

theorem Clk.DayEnd.tick_day {c : Clk} (h : c.DayEnd) {y m d : Nat}
    (hd : nextDay (some (c.year, c.month, c.day)) = some (y, m, d)) :
    c.tick = { c with second := 0, minute := 0, hour := 0, year := y, month := m, day := d } := by
  simp [Clk.tick, h.runs, h.second, h.minute, h.hour, hd]

theorem Clk.DayEnd.tick_last {c : Clk} (h : c.DayEnd) (hd : nextDay (some (c.year, c.month, c.day)) = none) :
    c.tick = { c with ended := true } := by
  simp [Clk.tick, h.runs, h.second, h.minute, h.hour, hd]

/-- From the last second of a day: into the next day, month or year, or the end of 2399 (R468). -/
theorem Clk.DayEnd.tick_cases {c : Clk} (h : c.DayEnd) :
    (c.day < monthLen c.year c.month → c.tick = { c with second := 0, minute := 0, hour := 0, day := c.day + 1 }) ∧
    (c.day = monthLen c.year c.month → c.month < 12 →
      c.tick = { c with second := 0, minute := 0, hour := 0, day := 1, month := c.month + 1 }) ∧
    (c.day = 31 → c.month = 12 → c.year < 399 →
      c.tick = { c with second := 0, minute := 0, hour := 0, day := 1, month := 1, year := c.year + 1 }) ∧
    (c.day = 31 → c.month = 12 → c.year = 399 → c.tick = { c with ended := true }) := by
  refine ⟨fun hd => ?_, fun hd hm => ?_, fun hd hm hy => ?_, fun hd hm hy => ?_⟩
  · exact h.tick_day (nextDay_of_lt hd)
  · exact h.tick_day (nextDay_of_month_end hd.ge hm)
  · exact h.tick_day (by rw [hd, hm]; exact nextDay_of_year_end hy)
  · exact h.tick_last (by rw [hd, hm, hy]; exact nextDay_of_last)

theorem exec_calendarSecond (t : Nat) (s : State) :
    exec (.calendarSecond t) s = .next { s.at t with clk := s.clk.tick } := by
  rw [← State.at_clk s t]
  rfl

/-! ### Setting the calendar (R469) -/

/-- The three fields of a CLK_DATE word (R473). -/
theorem clkDate_fields {y mo d : Nat} (hy : y < 512) (hm : mo < 16) (hd : d < 32) :
    CLK_DATE_YEAR.get (BitVec.ofNat 32 (y * 65536 + mo * 256 + d)) = y ∧
    CLK_DATE_MONTH.get (BitVec.ofNat 32 (y * 65536 + mo * 256 + d)) = mo ∧
    CLK_DATE_DAY.get (BitVec.ofNat 32 (y * 65536 + mo * 256 + d)) = d := by
  simp only [Field.get, BitVec.toNat_ofNat, CLK_DATE_YEAR, CLK_DATE_MONTH, CLK_DATE_DAY]
  omega

/-- A set with a date that its master has written: possible, it is taken whole; impossible, it is refused (R469). -/
theorem State.clockSet_of_date {s : State} {m y mo d : Nat} (v : Word)
    (h : lookup? s.clk.dates m = some (y * 65536 + mo * 256 + d)) (hy : y < 512) (hm : mo < 16) (hd : d < 32) :
    s.clockSet m v =
      if validSet y mo d (bits v.toNat 20 16) (bits v.toNat 13 8) (bits v.toNat 5 0) then
        { s with clk := { year := y, month := mo, day := d, hour := bits v.toNat 20 16, minute := bits v.toNat 13 8,
                          second := bits v.toNat 5 0, ended := false, valid := true, dates := [] } }
      else (s.setF CLK_STATUS_BAD_DATE 1).raise kCLK_BAD_DATE rCLK_TIME := by
  obtain ⟨ey, em, ed⟩ := clkDate_fields hy hm hd
  simp only [State.clockSet, h, Option.getD_some, ey, em, ed]
  rfl

theorem exec_clockSet {s : State} (t : Nat) (m : Master) (v : Word) (h : s.writable rCLK_TIME = true) :
    exec (.clockSet t m v) s = .next ((s.at t).clockSet (masterCode m) v) :=
  congrArg Host.Outcome.next (State.onWrite_at s t rCLK_TIME _ h)

/-! ### Reads of one register (R9, R475) -/

theorem length_toLe (n v : Nat) : (toLe n v).length = n := by
  induction n generalizing v with
  | zero => rfl
  | succ n ih => simp [toLe, ih]

/-- Only the value modulo the bytes' range shows in its little-endian bytes. -/
theorem toLe_mod (n v : Nat) : toLe n (v % 256 ^ n) = toLe n v := by
  induction n generalizing v with
  | zero => rfl
  | succ n ih =>
    have hlow : v % 256 ^ (n + 1) % 256 = v % 256 := Nat.mod_mod_of_dvd v (Dvd.intro_left (256 ^ n) rfl)
    have hhigh : v % 256 ^ (n + 1) / 256 = v / 256 % 256 ^ n := by rw [Nat.pow_succ', Nat.mod_mul_right_div_self]
    rw [toLe, toLe, hlow, hhigh, ih]

/-- The four bytes of a word made from a number are those of the number. -/
theorem toLe_word (v : Nat) : toLe 4 (BitVec.ofNat 32 v).toNat = toLe 4 v := by
  rw [BitVec.toNat_ofNat]
  exact toLe_mod 4 v

/-- A read of four bytes at an offset reaches the register there: the engine answers, and the offset is that of a word outside
the memories and structures that BAR0 shows besides its registers (R48, R56, R474, R475). -/
structure State.ReadsRegister (s : State) (off : Nat) : Prop where
  powered : s.powered = true
  booted : s.sys.bootDone = true
  answers : s.st ≠ MIDNIGHT ∨ sysOrFlt off = true
  aligned : off % 4 = 0
  notStaging : isStaging off = false
  notWindow : inWindow off = false
  notAlias : isAlias off = false
  notMsix : isMsix off = false

theorem State.ReadsRegister.at {s : State} {off : Nat} (h : s.ReadsRegister off) (t : Nat) : (s.at t).ReadsRegister off :=
  { h with
    powered := by rw [State.at_powered, h.powered]
    booted := by rw [State.at_sys, h.booted]
    answers := by rw [State.st_at]; exact h.answers }

theorem State.busRead_register {s : State} {off : Nat} (h : s.ReadsRegister off) (m : Nat) :
    s.busRead m off 4 = ((s.readReg m off).1, 0, toLe 4 (s.readReg m off).2) := by
  have hopen : (decide (s.st = MIDNIGHT) && !sysOrFlt off) = false := by
    rcases h.answers with hst | hoff
    · simp [hst]
    · simp [hoff]
  have hword : off / 4 * 4 = off := by have := h.aligned; omega
  simp only [State.busRead, h.powered, h.booted, hopen, h.notStaging, h.notWindow, h.notAlias, h.notMsix, h.aligned, hword,
    State.readRegs, readDone]
  simp [List.take_of_length_le, length_toLe]

theorem State.answerRead_register {s : State} {off : Nat} (h : s.ReadsRegister off) (m : Nat) :
    s.answerRead m off 4 = (s.readReg m off).1.emit (.barData 0 (toLe 4 (s.readReg m off).2)) := by
  rw [State.answerRead, State.busRead_register h]

/-- A register outside the pairs of R6 answers its word, and its RC fields clear (R9). -/
theorem State.readReg_single {s : State} {off : Nat} {r : RegRow} (m : Nat) (hr : regRow? off = some r)
    (hlo : isLo off = false) (hhi : isHi off = false) :
    s.readReg m off =
      (if r.rc = 0 then s else s.setReg off (s.reg off &&& ~~~ (BitVec.ofNat 32 r.rc)), (s.regWord off).toNat) := by
  simp [State.readReg, hr, hlo, hhi]

/-- A register of a pair's low side without RC fields answers its word and captures the other side (R6). -/
theorem State.readReg_lo {s : State} {off : Nat} {r : RegRow} (m : Nat) (hr : regRow? off = some r) (hrc : r.rc = 0)
    (hlo : isLo off = true) (hhi : isHi off = false) :
    s.readReg m off =
      ({ s with snaps := tupd (0 : Word) (pairKey m (off + 4)) (fun _ => s.regWord (off + 4)) s.snaps }, (s.regWord off).toNat) := by
  simp [State.readReg, hr, hrc, hlo, hhi]

/-- Clearing no bits leaves the word, so the clearing of RC fields reads the same with and without any. -/
theorem State.reg_clearRc (s : State) (off rc o : Nat) :
    (if rc = 0 then s else s.setReg off (s.reg off &&& ~~~ (BitVec.ofNat 32 rc))).reg o =
      if o = off then s.reg off &&& ~~~ (BitVec.ofNat 32 rc) else s.reg o := by
  by_cases hrc : rc = 0
  · subst hrc
    have hkeep : s.reg off &&& ~~~ (BitVec.ofNat 32 0) = s.reg off := by
      rw [BitVec.not_zero, BitVec.and_allOnes]
    rw [if_pos rfl, hkeep]
    split
    · next ho => rw [ho]
    · rfl
  · rw [if_neg hrc, State.reg_setReg]

/-! ### A read of CLK_DATE (R470, R473) -/

/-- A read of CLK_DATE answers the date and captures the time of the same second (R470). -/
theorem State.readReg_clkDate (s : State) (m : Nat) :
    s.readReg m rCLK_DATE =
      ({ s with snaps := tupd (0 : Word) (pairKey m rCLK_TIME) (fun _ => BitVec.ofNat 32 s.clk.timeWord) s.snaps },
        (BitVec.ofNat 32 s.clk.dateWord).toNat) :=
  State.readReg_lo (r := ⟨rCLK_DATE, 1, 4, 0x101, 0x1FF0F1F, 0, 0, 0, 0⟩) m rfl rfl rfl rfl

/-! ### The commands -/

theorem exec_clkDateRead (s : State) (t : Nat) (m : Master) :
    exec (.clkDateRead t m) s = .next ((s.at t).answerRead (masterCode m) rCLK_DATE 4) := rfl

theorem exec_rcRead (s : State) (t off n : Nat) (m : Master) :
    exec (.rcRead t m off n) s = .next ((s.at t).answerRead (masterCode m) off n) := rfl

/-! ### The claims about the calendar and the reads, one by one -/

/-- A possible set is taken whole (R469). -/
theorem clockSet_taken {s : State} {y mo d : Nat} (t : Nat) (m : Master) (v : Word) (hw : s.writable rCLK_TIME = true)
    (h : lookup? s.clk.dates (masterCode m) = some (y * 65536 + mo * 256 + d)) (hy : y < 512) (hm : mo < 16) (hd : d < 32)
    (hv : validSet y mo d (bits v.toNat 20 16) (bits v.toNat 13 8) (bits v.toNat 5 0) = true) :
    ∃ s', exec (.clockSet t m v) s = .next s' ∧
      s'.clk = { year := y, month := mo, day := d, hour := bits v.toNat 20 16, minute := bits v.toNat 13 8,
                 second := bits v.toNat 5 0, ended := false, valid := true, dates := [] } := by
  refine ⟨_, exec_clockSet t m v hw, ?_⟩
  rw [State.clockSet_of_date v (by rw [State.at_clk, h]) hy hm hd, if_pos hv]

/-- An impossible set leaves the calendar, sets BAD_DATE and raises CLK_BAD_DATE (R469). -/
theorem clockSet_refused {s : State} {y mo d : Nat} (t : Nat) (m : Master) (v : Word) (hw : s.writable rCLK_TIME = true)
    (h : lookup? s.clk.dates (masterCode m) = some (y * 65536 + mo * 256 + d)) (hy : y < 512) (hm : mo < 16) (hd : d < 32)
    (hv : validSet y mo d (bits v.toNat 20 16) (bits v.toNat 13 8) (bits v.toNat 5 0) = false) :
    ∃ s', exec (.clockSet t m v) s = .next s' ∧ s'.clk = s.clk ∧ s'.fb CLK_STATUS_BAD_DATE = true ∧
      (s.at t).Raised s' 0 0 kCLK_BAD_DATE rCLK_TIME := by
  refine ⟨_, exec_clockSet t m v hw, ?_⟩
  rw [State.clockSet_of_date v (by rw [State.at_clk, h]) hy hm hd, if_neg (by simp [hv])]
  refine ⟨?_, ?_, State.Raised.raise rfl _ _⟩
  · rw [State.raise_clk, State.setF_clk, State.at_clk]
  · rw [State.raise_fb, State.fb_setF_same _ CLK_STATUS_BAD_DATE]
    rfl

theorem clkDateRead_captures {s : State} (t : Nat) (m : Master) (hp : s.powered = true) (hb : s.sys.bootDone = true)
    (hs : s.st ≠ MIDNIGHT) :
    ∃ s', exec (.clkDateRead t m) s = .next s' ∧ s'.out = .barData 0 (toLe 4 s.clk.dateWord) :: s.out ∧
      tget (0 : Word) s'.snaps (pairKey (masterCode m) rCLK_TIME) = BitVec.ofNat 32 s.clk.timeWord ∧ s'.clk = s.clk := by
  have hread : s.ReadsRegister rCLK_DATE := ⟨hp, hb, .inl hs, rfl, rfl, rfl, rfl, rfl⟩
  refine ⟨_, exec_clkDateRead s t m, ?_⟩
  rw [State.answerRead_register (hread.at t), State.readReg_clkDate, toLe_word]
  simp

theorem rcRead_clears {s : State} {off : Nat} {r : RegRow} (t : Nat) (m : Master) (h : s.ReadsRegister off)
    (hr : regRow? off = some r) (hlo : isLo off = false) (hhi : isHi off = false) :
    ∃ s', exec (.rcRead t m off 4) s = .next s' ∧ s'.out = .barData 0 (toLe 4 ((s.at t).regWord off).toNat) :: s.out ∧
      s'.reg off = (s.at t).reg off &&& ~~~ (BitVec.ofNat 32 r.rc) ∧ (∀ o, o ≠ off → s'.reg o = (s.at t).reg o) ∧
      s'.snaps = s.snaps := by
  refine ⟨_, exec_rcRead s t off 4 m, ?_⟩
  rw [State.answerRead_register (h.at t), State.readReg_single _ hr hlo hhi]
  refine ⟨?_, ?_, fun o ho => ?_, ?_⟩
  · split <;> simp
  · rw [State.emit_reg, State.reg_clearRc, if_pos rfl]
  · rw [State.emit_reg, State.reg_clearRc, if_neg ho]
  · split <;> simp

/-- Settles O36: the calendar case by case from its tick, the set by its two answers, and each read as the read of one
register. -/
theorem calendarAndClearingReads : Obligations.CalendarAndClearingReads := by
  refine ⟨fun s t => ?_, ?_, fun s t m hp hb hs => clkDateRead_captures t m hp hb hs, ?_⟩
  · exact ⟨_, exec_calendarSecond t s, Clk.tick_of_ended, Clk.tick_second, Clk.tick_minute, Clk.tick_hour,
      fun hr hs hm hh => Clk.DayEnd.tick_cases ⟨hr, hs, hm, hh⟩⟩
  · rintro s t y mo d _ _ _ m v hw rfl rfl rfl h hy hm hd
    exact ⟨clockSet_taken t m v hw h hy hm hd, clockSet_refused t m v hw h hy hm hd⟩
  · intro s t off m r hp hb hs hr ha hlo hhi hst hwin hal hmsix
    exact rcRead_clears t m ⟨hp, hb, hs, ha, hst, hwin, hal, hmsix⟩ hr hlo hhi

end Sys2Proof.Machine
end

section
/-!
SUPPORT. Timing PLLs, lockstep pairs and the release of PERST# (R23, R259, R263, R414): what a raised message does to its
die, and what HOST_LINK and HOST_RD show of the link.
-/
namespace Sys2Proof.Machine

/-! ### The die of a raised message (R415 to R417) -/

/-- A raised message does not touch the record of the timing PLLs. -/
@[simp] theorem State.raiseAs_dieUnlocked (s : State) (d i : Nat) (k : Kind) (a : Nat) (j : Bool) :
    (s.raiseAs d i k a j).health.dieUnlocked = s.health.dieUnlocked := by
  simp only [State.raiseAs]; split <;> rfl

@[simp] theorem State.raiseAs_dieAwait (s : State) (d i : Nat) (k : Kind) (a : Nat) (j : Bool) :
    (s.raiseAs d i k a j).health.dieAwait = s.health.dieAwait := by
  simp only [State.raiseAs]; split <;> rfl

/-- No reaction record takes a kind of fixed class below HALT (R417). -/
theorem reaction_fixed_class (tbl : List Reaction) {k : Kind} (h : k.fixed = true) : (reaction tbl k).1 = 3 := by
  unfold reaction
  split
  · rfl
  · split <;> rfl

/-- A HALT gates off its die (R416). -/
theorem State.raiseAs_gates {s : State} (d i : Nat) {k : Kind} (a : Nat) (j : Bool)
    (h : (reaction s.flt.reactions k).1 = 3) : d ∈ (s.raiseAs d i k a j).health.dieGated := by
  simp only [State.raiseAs, h, decide_true, Bool.true_and]
  split
  · exact List.mem_cons_self
  · next hd => simpa using hd

/-! ### A die's timing PLL (R23) -/

/-- The die's timing PLL is out of lock, and no relock of it waits for a line boundary. -/
def State.markUnlocked (s : State) (die : Nat) : State :=
  { s with health := { s.health with dieUnlocked := die :: s.health.dieUnlocked.filter (· != die),
                                      dieAwait := s.health.dieAwait.filter (· != die) } }

/-- The die's timing PLL has relocked and waits for the next line boundary. -/
def State.markAwaiting (s : State) (die : Nat) : State :=
  { s with health := { s.health with dieAwait := die :: s.health.dieAwait } }

theorem State.mem_markUnlocked {s : State} {die d : Nat} :
    d ∈ (s.markUnlocked die).health.dieUnlocked ↔ d = die ∨ d ∈ s.health.dieUnlocked := by
  by_cases h : d = die <;> simp [State.markUnlocked, h]

theorem State.not_awaits_markUnlocked (s : State) (die : Nat) : die ∉ (s.markUnlocked die).health.dieAwait := by
  simp [State.markUnlocked]

theorem exec_pllLossOfLock {s : State} {die : Nat} (t : Nat) (hp : s.powered = true) (hd : die < 5)
    (hu : die ∉ s.health.dieUnlocked) :
    exec (.pllLossOfLock t die) s = .next (((s.at t).markUnlocked die).raiseAs die 0 kSYS_PLL_UNLOCK die false) := by
  show execPllLossOfLock t die s = _
  simp [execPllLossOfLock, hp, hu, Nat.not_le.2 hd, State.markUnlocked]

theorem exec_pllRelock {s : State} {die : Nat} (t : Nat) (hu : die ∈ s.health.dieUnlocked) (ha : die ∉ s.health.dieAwait) :
    exec (.pllRelock t die) s = .next ((s.at t).markAwaiting die) := by
  show execPllRelock t die s = _
  simp [execPllRelock, hu, ha, State.markAwaiting]

theorem exec_lockstepDisagreement {s : State} {pair : Nat} (t pc : Nat) (hp : s.powered = true) (h : pair < 2) :
    exec (.lockstepDisagreement t pair pc) s = .next ((s.at t).raiseAs 0 pair kSYS_LOCKSTEP pc false) := by
  show execLockstepDisagreement t pair pc s = _
  simp [execLockstepDisagreement, hp, h]

/-! ### The link as its registers show it (R259, R263) -/

/-- The link is up with what the host configures. -/
def State.linkTrained (s : State) (c : HostCfg) : State :=
  { s with host := { s.host with linkUp := true, speed := c.speed, width := c.width, tags := c.tags, phantom := c.phantom,
                                 noSnoop := c.noSnoop, mrrs := c.mrrs, ctoUs := c.ctoUs } }

theorem exec_perstRelease {s : State} (t : Nat) (c : HostCfg) (hp : s.powered = true) :
    exec (.perstRelease t c) s = .next ((s.at t).linkTrained c).showHost := by
  have hup : (s.at t).sys.phase = .up := by simpa [State.powered] using hp
  show execPerstRelease t c s = _
  simp only [execPerstRelease, hup]
  rfl

@[simp] theorem State.showHost_host (s : State) : s.showHost.host = s.host := rfl

/-- HOST_LINK shows the link (R259). -/
theorem State.showHost_link (s : State) :
    s.showHost.f HOST_LINK_SPEED = s.host.speed % 2 ^ HOST_LINK_SPEED.w ∧
    s.showHost.f HOST_LINK_WIDTH = s.host.width % 2 ^ HOST_LINK_WIDTH.w ∧
    s.showHost.f HOST_LINK_TAGS = s.host.tags % 2 ^ HOST_LINK_TAGS.w ∧
    s.showHost.fb HOST_LINK_PHANTOM = s.host.phantom ∧ s.showHost.fb HOST_LINK_NOSNOOP = s.host.noSnoop := by
  have flag (b : Bool) : (b2n b % 2 != 0) = b := by cases b <;> rfl
  simp only [State.showHost, State.setFields, State.fb]
  refine ⟨?_, ?_, ?_, ?_, ?_⟩
  all_goals simp (disch := decide) only [State.f_setF_other, State.f_setF_same]
  · exact flag _
  · exact flag _

/-- Only HOST_RD and HOST_LINK are written. -/
theorem State.showHost_f_other (s : State) (fd : Field) (hr : fd.off ≠ HOST_RD_LIMIT.off) (hl : fd.off ≠ HOST_LINK_SPEED.off) :
    s.showHost.f fd = s.f fd := by
  simp only [State.showHost, State.setFields]
  rw [State.f_setF_other _ HOST_LINK_SPEED _ _ (.inl hl), State.f_setF_other _ HOST_LINK_WIDTH _ _ (.inl hl),
    State.f_setF_other _ HOST_LINK_TAGS _ _ (.inl hl), State.f_setF_other _ HOST_LINK_PHANTOM _ _ (.inl hl),
    State.f_setF_other _ HOST_LINK_NOSNOOP _ _ (.inl hl), State.f_setF_other _ HOST_RD_OUT _ _ (.inl hr),
    State.f_setF_other _ HOST_RD_LIMIT _ _ (.inl hr)]

/-- Showing the limit does not move it. -/
theorem State.showHost_readLimit (s : State) : s.showHost.readLimit = s.readLimit := by
  rw [State.readLimit, State.readLimit, State.showHost_f_other s DMA_CTRL_RD_MAX (by decide) (by decide)]
  rfl

/-- HOST_RD shows the outstanding read limit (R263). -/
theorem State.showHost_rdLimit (s : State) : s.showHost.f HOST_RD_LIMIT = s.showHost.readLimit % 2 ^ HOST_RD_LIMIT.w := by
  rw [State.showHost_readLimit]
  simp (disch := decide) only [State.showHost, State.setFields, State.f_setF_other, State.f_setF_same]

/-! ### The claims, one by one -/

theorem pllLossOfLock_marks {s : State} {die : Nat} (t : Nat) (hp : s.powered = true) (hd : die < 5)
    (hu : die ∉ s.health.dieUnlocked) :
    ∃ s', exec (.pllLossOfLock t die) s = .next s' ∧ die ∈ s'.health.dieUnlocked ∧ die ∉ s'.health.dieAwait ∧
      (∀ d, d ≠ die → (d ∈ s'.health.dieUnlocked ↔ d ∈ s.health.dieUnlocked)) ∧
      (s.at t).Raised s' die 0 kSYS_PLL_UNLOCK die := by
  refine ⟨_, exec_pllLossOfLock t hp hd hu, ?_, ?_, fun d hne => ?_, .raiseAs rfl ..⟩
  · rw [State.raiseAs_dieUnlocked]
    exact State.mem_markUnlocked.2 (.inl rfl)
  · rw [State.raiseAs_dieAwait]
    exact (s.at t).not_awaits_markUnlocked die
  · rw [State.raiseAs_dieUnlocked, State.mem_markUnlocked, State.at_health]
    simp [hne]

theorem pllRelock_awaits {s : State} {die : Nat} (t : Nat) (hu : die ∈ s.health.dieUnlocked) (ha : die ∉ s.health.dieAwait) :
    ∃ s', exec (.pllRelock t die) s = .next s' ∧ die ∈ s'.health.dieAwait ∧
      s'.health.dieUnlocked = s.health.dieUnlocked ∧ s'.flt = s.flt :=
  ⟨_, exec_pllRelock t hu ha, List.mem_cons_self, by simp [State.markAwaiting], State.at_flt s t⟩

theorem lockstepDisagreement_halts {s : State} {pair : Nat} (t pc : Nat) (hp : s.powered = true) (h : pair < 2) :
    ∃ s', exec (.lockstepDisagreement t pair pc) s = .next s' ∧ (s.at t).Raised s' 0 pair kSYS_LOCKSTEP pc ∧
      0 ∈ s'.health.dieGated :=
  ⟨_, exec_lockstepDisagreement t pc hp h, .raiseAs rfl .., State.raiseAs_gates _ _ _ _ (reaction_fixed_class _ rfl)⟩

/-- Settles O39: each command as one operation, the messages by the laws of raising, the link by what its registers show. -/
theorem clocksAndPairs : Obligations.ClocksAndPairs := by
  refine ⟨fun s t die hp hd hu => pllLossOfLock_marks t hp hd hu, fun s t die hu ha => pllRelock_awaits t hu ha,
    fun s t pair pc hp h => lockstepDisagreement_halts t pc hp h, fun s t c hp => ?_⟩
  obtain ⟨hspeed, hwidth, htags, hphantom, hnosnoop⟩ := ((s.at t).linkTrained c).showHost_link
  exact ⟨_, exec_perstRelease t c hp, rfl, rfl, rfl, hspeed, hwidth, htags, hphantom, hnosnoop, State.showHost_rdLimit _⟩

end Sys2Proof.Machine
end

section
/-!
SUPPORT. Head memory (R37, R331 to R338, R407): what the judging of the blocks and the end of a transaction leave of a tile
port, and each command as one operation under the conditions that let it act.
-/
namespace Sys2Proof.Machine

/-! ### What the passing of time leaves -/

theorem isPmc_tileStatus {n : Nat} (h : n < 96) : isPmc (0x191000 + n * 0x20) = false := decide_eq_false (by omega)

theorem State.tileUp_at (s : State) (t : Nat) {n : Nat} (h : n < 96) : (s.at t).tileUp n = s.tileUp n := by
  simp only [State.tileUp, State.fb_at s t (TILE_n_STATUS_TRAINED n) (isPmc_tileStatus h),
    State.fb_at s t (TILE_n_STATUS_LOGIC_ON n) (isPmc_tileStatus h), State.fb_at s t (TILE_n_STATUS_FAILED n) (isPmc_tileStatus h)]

@[simp] theorem State.usageKey?_at (s : State) (t n : Nat) : (s.at t).usageKey? n = s.usageKey? n := by
  simp only [State.usageKey?, State.at_nv, State.at_port]

@[simp] theorem State.tagged?_at (s : State) (t n : Nat) (msg bs : List Nat) :
    (s.at t).tagged? n msg bs = s.tagged? n msg bs := by
  simp only [State.tagged?, State.usageKey?_at]

@[simp] theorem State.tagged?_emit (s : State) (o : Output) (n : Nat) (msg bs : List Nat) :
    (s.emit o).tagged? n msg bs = s.tagged? n msg bs := rfl

/-- Only the key and the serial number of the usage block enter a tag (R335). -/
theorem State.tagged?_modPort (s : State) (n : Nat) (g : TileP → TileP) (hg : (g (s.port n)).userial = (s.port n).userial)
    (msg bs : List Nat) : (s.modPort n g).tagged? n msg bs = s.tagged? n msg bs := by
  simp [State.tagged?, State.usageKey?, hg]

/-- A tile with its logic supply on, and no transaction waiting out a backoff, answers (R331). -/
theorem State.hmReady_at {s : State} (t : Nat) {n : Nat} (h : n < 96) (hon : s.fb (TILE_n_STATUS_LOGIC_ON n) = true)
    (hw : ∀ x, (s.port n).hm = some x → x.retryAt = none) : (s.at t).hmReady n = true := by
  rw [State.hmReady, State.fb_at s t (TILE_n_STATUS_LOGIC_ON n) (isPmc_tileStatus h), hon, State.at_port]
  cases hm : (s.port n).hm with
  | none => rfl
  | some x => simp [hw x hm]

/-! ### What showing a count and ending a transaction leave of the port -/

@[simp] theorem State.showUsage_port (s : State) (n j : Nat) : (s.showUsage n).port j = s.port j := rfl

/-- The 3.3 V switch may open; the transaction that stood is then over, and the usage block stays as judged (R328). -/
theorem State.tryLogicOff_usage (s : State) (n : Nat) :
    ((s.tryLogicOff n).port n).useSeq = (s.port n).useSeq ∧ ((s.tryLogicOff n).port n).useCount = (s.port n).useCount ∧
    ((s.tryLogicOff n).port n).pendUse = (s.port n).pendUse ∧
    ((s.port n).hm = none → ((s.tryLogicOff n).port n).hm = none) := by
  unfold State.tryLogicOff
  split
  · exact ⟨rfl, rfl, rfl, id⟩
  · split
    · split
      · simp
      · split
        · split
          · exact ⟨rfl, rfl, rfl, id⟩
          · simp [State.logicOff]
        · simp [State.logicOff]
    · exact ⟨rfl, rfl, rfl, id⟩

theorem State.hmEnd_usage (s : State) (n : Nat) :
    ((s.hmEnd n).port n).useSeq = (s.port n).useSeq ∧ ((s.hmEnd n).port n).useCount = (s.port n).useCount ∧
    ((s.hmEnd n).port n).pendUse = (s.port n).pendUse ∧ ((s.hmEnd n).port n).hm = none := by
  obtain ⟨hseq, hcount, hpend, hhm⟩ := (s.modPort n fun p => { p with hm := none }).tryLogicOff_usage n
  simp only [State.modPort_port, if_true] at hseq hcount hpend hhm
  exact ⟨hseq, hcount, hpend, hhm trivial⟩

/-- The first check error of a transaction sets its first backoff, 10 µs (R37). -/
theorem State.hmError_first {s : State} {n : Nat} (op : Nat) (h : (s.port n).hm = none) :
    s.hmError n op = some (s.modPort n fun p =>
      { p with hm := some { op := op, tries := 1, retryAt := some (s.now + us 10), started := s.now } }) := by
  simp [State.hmError, h]

/-! ### What the choice of calibration path leaves of the port (R338) -/

theorem State.loadTrims_ports (s : State) (n : Nat) (u : Bool) : (s.loadTrims n u).ports = s.ports :=
  (Frame.loadTrims (μ := { noz := true }) Frame.refl n u rfl).ports.resolve_left (by decide)

theorem State.afterFail_ports (s : State) (n : Nat) : (s.afterFail n).ports = s.ports :=
  (Frame.afterFail (μ := { wins := true, tileH := true, health := true, flt := true }) Frame.refl n rfl rfl rfl rfl).ports.resolve_left
    (by decide)

theorem State.loadTrims_port (s : State) (n : Nat) (u : Bool) (j : Nat) : (s.loadTrims n u).port j = s.port j := by
  simp only [State.port, State.loadTrims_ports]

theorem State.afterFail_port (s : State) (n j : Nat) : (s.afterFail n).port j = s.port j := by
  simp only [State.port, State.afterFail_ports]

/-- A failing tile's port notes only that its fuse is open (R330). -/
theorem State.failTile_port (s : State) (n cause : Nat) :
    (s.failTile n cause).port n = { s.port n with fuseAt := none } := by
  unfold State.failTile
  split
  · simp [State.fuseOpen]
  · simp only [State.afterFail_port]
    split <;> simp [State.fuseOpen]

/-- The choice of path sets the row delays and, where it fails the tile, notes the open fuse: the rest of the port stays. -/
theorem State.choosePath_port (s : State) (n : Nat) :
    ∃ dly fuse, (s.choosePath n).port n = { s.port n with rowDly := dly, fuseAt := fuse } := by
  unfold State.choosePath
  split
  case h_1 =>
    refine ⟨(List.range 12).map fun r => sx 8 (idByte (s.port n) (0x10 + r)), (s.port n).fuseAt, ?_⟩
    refine ite_keeps (·.port n) (ite_keeps (·.port n) ?_ ?_) ?_ <;> simp [State.loadTrims_port, State.setFields]
  case h_2 =>
    exact ⟨List.replicate 12 0, (s.port n).fuseAt, by simp [State.loadTrims_port, State.setFields]⟩
  case h_3 => exact ⟨(s.port n).rowDly, none, by simp [State.failTile_port]⟩
  case h_4 => exact ⟨(s.port n).rowDly, (s.port n).fuseAt, rfl⟩

/-- The identity block of a tile as far as it has been read (R332). -/
def State.idBlock (s : State) (n : Nat) : List Host.Cell × Nat := ((s.port n).idBuf, (s.port n).idRead)

theorem State.idBlock_modPort (s : State) (n : Nat) (g : TileP → TileP)
    (hg : (g (s.port n)).idBuf = (s.port n).idBuf ∧ (g (s.port n)).idRead = (s.port n).idRead) :
    (s.modPort n g).idBlock n = s.idBlock n := by
  simp [State.idBlock, hg]

theorem State.idBlock_setF (s : State) (fd : Field) (v n : Nat) : (s.setF fd v).idBlock n = s.idBlock n := rfl

theorem State.idBlock_showUsage (s : State) (n j : Nat) : (s.showUsage n).idBlock j = s.idBlock j := rfl

theorem State.choosePath_idBlock (s : State) (n : Nat) : (s.choosePath n).idBlock n = s.idBlock n := by
  obtain ⟨dly, fuse, h⟩ := s.choosePath_port n
  simp [State.idBlock, h]

/-- Judging the blocks leaves the identity block as read: each stage sets other fields of the port (R332, R334). -/
theorem State.judgeBlocks_idBlock (s : State) (n : Nat) : (s.judgeBlocks n).idBlock n = s.idBlock n := by
  unfold State.judgeBlocks
  lift_lets -underBinder
  intro p ident ser serial both
  have hident : ident.idBlock n = s.idBlock n := ite_keeps (·.idBlock n) (State.idBlock_modPort _ _ _ ⟨rfl, rfl⟩) rfl
  clear_value ident ser
  have hserial : serial.idBlock n = s.idBlock n := by
    rw [← hident]
    unfold serial
    rw [State.idBlock_setF, State.idBlock_modPort _ _ _ ⟨rfl, rfl⟩]
  clear_value serial
  have hboth : both.idBlock n = s.idBlock n := by
    refine ite_keeps (·.idBlock n) ?_ hident
    split
    · lift_lets -underBinder
      intro counted
      have hcounted : counted.idBlock n = s.idBlock n := by
        unfold counted
        rw [State.idBlock_showUsage, State.idBlock_modPort _ _ _ ⟨rfl, rfl⟩, hserial]
      exact ite_keeps (·.idBlock n) (by rw [State.idBlock_modPort _ _ _ ⟨rfl, rfl⟩, hcounted]) hcounted
    · rw [State.idBlock_modPort _ _ _ ⟨rfl, rfl⟩, hserial]
  clear_value both
  exact ite_keeps (·.idBlock n) (by rw [State.choosePath_idBlock, hboth]) hboth

/-! ### A read of the blocks (R331, R332) -/

/-- The bytes of a request for `len` bytes of head memory from address `a` (R331). -/
def hmReadRequest (a len : Nat) : List Nat := [0x10] ++ toLe 2 a ++ [len % 256]

/-- Bytes read from address `a` join the identity block of a tile, and its transaction is over (R332). -/
def State.takeIdBytes (s : State) (n a : Nat) (bs : List Nat) (len : Nat) : State :=
  (s.modPort n fun p => { p with hm := none }).modPort n fun p =>
    { p with idBuf := Mem.putBytes (fun _ => 0) a bs p.idBuf, idRead := a + len }

theorem State.takeIdBytes_idBlock (s : State) (n a : Nat) (bs : List Nat) (len : Nat) :
    (s.takeIdBytes n a bs len).idBlock n = (Mem.putBytes (fun _ => 0) a bs (s.port n).idBuf, a + len) := by
  simp [State.takeIdBytes, State.idBlock]

theorem exec_hmRead_identity {s : State} {t n a : Nat} {r bs : List Nat} (hdawn : (s.at t).hmDawn n 0x10 = true)
    (hdata : hmData? (some r) (r.length - 4) = some bs) (ha : a < 0x2000) (hnext : a = (s.port n).idRead)
    (hlen : a + (r.length - 4) ≤ 0x1840) :
    exec (.hmRead t n a (some r)) s = .next
      ((((s.at t).emit (.hmRequest n (hmReadRequest a (r.length - 4)))).takeIdBytes n a bs (r.length - 4)).judgeBlocks n) := by
  show execHmRead t n a (some r) s = _
  simp only [execHmRead, hdawn, hdata]
  simp [ha, hlen, ← hnext]
  rfl

theorem exec_hmRead_silent {s : State} {t n : Nat} (a : Nat) (hdawn : (s.at t).hmDawn n 0x10 = true) (h : (s.port n).hm = none) :
    ∃ o, exec (.hmRead t n a none) s = .next (((s.at t).emit o).modPort n fun p =>
      { p with hm := some { op := 0x10, tries := 1, retryAt := some (max s.now t + us 10), started := max s.now t } }) := by
  have hnone (o : Output) : (((s.at t).emit o).port n).hm = none := by simpa using h
  show ∃ o, execHmRead t n a none s = _
  simp only [execHmRead, hdawn, hmData?, State.hmError_first 0x10 (hnone _)]
  exact ⟨_, by simp; rfl⟩

theorem hmRead_extends {s : State} {t n a : Nat} {r bs : List Nat} (hdawn : (s.at t).hmDawn n 0x10 = true)
    (hdata : hmData? (some r) (r.length - 4) = some bs) (ha : a < 0x2000) (hnext : a = (s.port n).idRead)
    (hlen : a + (r.length - 4) ≤ 0x1840) :
    ∃ s', exec (.hmRead t n a (some r)) s = .next s' ∧ (s'.port n).idRead = a + (r.length - 4) ∧
      (s'.port n).idBuf = Mem.putBytes (fun _ => 0) a bs (s.port n).idBuf ∧
      s.Put s' (fun o => o = .hmRequest n ([0x10] ++ toLe 2 a ++ [(r.length - 4) % 256])) := by
  refine ⟨_, exec_hmRead_identity hdawn hdata ha hnext hlen, ?_⟩
  have hblock := (((s.at t).emit (.hmRequest n (hmReadRequest a (r.length - 4)))).takeIdBytes n a bs (r.length - 4)).judgeBlocks_idBlock n
  rw [State.takeIdBytes_idBlock, State.emit_port, State.at_port] at hblock
  exact ⟨congrArg Prod.snd hblock, congrArg Prod.fst hblock,
    .of_emit _ _ rfl (Grow.refl.at t) (((Grow.refl.modPort n _).modPort n _).judgeBlocks n)⟩

theorem hmRead_waits {s : State} {t n : Nat} (a : Nat) (hdawn : (s.at t).hmDawn n 0x10 = true) (h : (s.port n).hm = none) :
    ∃ s' x, exec (.hmRead t n a none) s = .next s' ∧ (s'.port n).hm = some x ∧ x.op = 0x10 ∧ x.tries = 1 ∧
      x.retryAt = some (max s.now t + us 10) := by
  obtain ⟨o, he⟩ := exec_hmRead_silent a hdawn h
  exact ⟨_, _, he, by rw [State.modPort_port, if_pos rfl], rfl, rfl, rfl⟩

/-! ### A write (R331, R407) -/

theorem State.hmReady_of_tileUp {s : State} {n : Nat} (t : Nat) (hn : n < 96) (hup : s.tileUp n = true)
    (h : (s.port n).hm = none) : (s.at t).hmReady n = true := by
  refine State.hmReady_at t hn ?_ (by simp [h])
  simp only [State.tileUp, Bool.and_eq_true] at hup
  obtain ⟨⟨_, hon⟩, _⟩ := hup
  exact hon

theorem exec_hmWrite {s : State} {n : Nat} {data : List Nat} (t a : Nat) (resp : Option (List Nat)) (hn : n < 96)
    (hd : data.length ≤ 64) (hup : s.tileUp n = true) (h : (s.port n).hm = none) :
    (s.hmOk n = true → ∃ s', exec (.hmWrite t n a data resp) s = .next s' ∧
      Grow ((s.at t).emit (.hmRequest n ([0x11] ++ toLe 2 a ++ data))) s') ∧
    (s.hmOk n = false → exec (.hmWrite t n a data resp) s =
      .next (((s.at t).setF (TILE_n_STATUS_HM_DEFER n) 1).raiseLane (tileDie n) kTILE_HM_DEFER n)) := by
  have hready := State.hmReady_of_tileUp t hn hup h
  have hnone (o : Output) : (((s.at t).emit o).port n).hm = none := by simpa using h
  have hopen : (decide (96 ≤ n) || decide (64 < data.length) || !(s.at t).tileUp n || !(s.at t).hmReady n) = false := by
    simp [hn, hd, hready, State.tileUp_at s t hn, hup]
  constructor
  · intro hok
    refine ⟨_, rfl, ?_⟩
    simp only [hopen, State.at_port, h, State.hmOk_at s t n hn, hok, State.hmError_first 0x11 (hnone _)]
    show Grow _ (match hmData? resp 1 with | some _ => _ | none => _)
    split
    · exact Grow.refl.hmEnd n
    · exact Grow.refl.modPort n _
  · intro hok
    show execHmWrite t n a data resp s = _
    simp [execHmWrite, hopen, h, State.hmOk_at s t n hn, hok]

theorem hmWrite_deferred {s : State} {n : Nat} {data : List Nat} (t a : Nat) (resp : Option (List Nat)) (hn : n < 96)
    (hd : data.length ≤ 64) (hup : s.tileUp n = true) (h : (s.port n).hm = none) (hok : s.hmOk n = false) :
    ∃ s', exec (.hmWrite t n a data resp) s = .next s' ∧ s'.fb (TILE_n_STATUS_HM_DEFER n) = true ∧
      s'.out = s.out ∧ (s.at t).Raised s' (tileDie n + 1) 0 kTILE_HM_DEFER n := by
  refine ⟨_, (exec_hmWrite t a resp hn hd hup h).2 hok, ?_, ?_, .raiseLane rfl _ _ _⟩
  · rw [State.raiseLane_fb, State.fb_setF_same _ (TILE_n_STATUS_HM_DEFER n) 1 (Nat.le_of_ble_eq_true rfl)]
    rfl
  · rw [State.raiseLane_out, State.setF_out, State.at_out]

/-! ### The tag at Dawn (R335, R338) -/

/-- The usage block of a tile is good with the SEQ and COUNT of a record whose tag was right, and its transaction is over
(R335). -/
def State.takeRecord (s : State) (n : Nat) (rcd : List Nat) : State :=
  ((s.modPort n fun p => { p with hm := none }).modPort n fun p =>
    { p with useOk := some true, useSeq := recSeq rcd, useCount := recCount rcd }).showUsage n

theorem State.takeRecord_usage (s : State) (n : Nat) (rcd : List Nat) : ((s.takeRecord n rcd).port n).useOk = some true ∧
    ((s.takeRecord n rcd).port n).useSeq = recSeq rcd ∧ ((s.takeRecord n rcd).port n).useCount = recCount rcd := by
  simp [State.takeRecord]

theorem Grow.takeRecord {s₀ s : State} (h : Grow s₀ s) (n : Nat) (rcd : List Nat) : Grow s₀ (s.takeRecord n rcd) :=
  ((h.modPort n _).modPort n _).showUsage n

theorem exec_authRead_tagged {s z : State} {t n : Nat} {nonce r bs rcd : List Nat} (hdawn : (s.at t).hmDawn n 0x20 = true)
    (h : (s.port n).hm = none) (hread : (s.port n).useRead = 48) (huse : (s.port n).useOk = none) (hlen : nonce.length = 8)
    (hdata : hmData? (some r) 40 = some bs) (htag : s.tagged? n (nonce ++ [0x20]) bs = some rcd)
    (hz : z = ((s.at t).emit (.hmRequest n ([0x20] ++ nonce))).takeRecord n rcd) :
    exec (.authRead t n nonce (some r)) s = .next (if (z.port n).idOk.isSome then z.choosePath n else z) := by
  have hnonce : (nonce ++ List.replicate 8 0).take 8 = nonce := by rw [← hlen, List.take_left]
  have htag' : (((s.at t).emit (.hmRequest n ([0x20] ++ nonce))).modPort n fun p => { p with hm := none }).tagged? n
      (nonce ++ [0x20]) bs = some rcd := by
    rw [State.tagged?_modPort _ _ _ rfl, State.tagged?_emit, State.tagged?_at, htag]
  rw [hz]
  show execAuthRead t n nonce (some r) s = _
  simp only [execAuthRead, hnonce, State.at_port, h, hdawn, hread, huse, hdata, htag']
  rfl

/-- A choice of path that may follow leaves the usage block as judged (R338). -/
theorem State.choosePath_usage (s : State) (n : Nat) : ((s.choosePath n).port n).useOk = (s.port n).useOk ∧
    ((s.choosePath n).port n).useSeq = (s.port n).useSeq ∧ ((s.choosePath n).port n).useCount = (s.port n).useCount := by
  obtain ⟨dly, fuse, h⟩ := s.choosePath_port n
  simp [h]

theorem authRead_judges {s : State} {t n : Nat} {nonce r bs rcd : List Nat} (hdawn : (s.at t).hmDawn n 0x20 = true)
    (h : (s.port n).hm = none) (hread : (s.port n).useRead = 48) (huse : (s.port n).useOk = none) (hlen : nonce.length = 8)
    (hdata : hmData? (some r) 40 = some bs) (htag : s.tagged? n (nonce ++ [0x20]) bs = some rcd) :
    ∃ s', exec (.authRead t n nonce (some r)) s = .next s' ∧ (s'.port n).useOk = some true ∧ (s'.port n).useSeq = recSeq rcd ∧
      (s'.port n).useCount = recCount rcd ∧ s.Put s' (fun o => o = .hmRequest n ([0x20] ++ nonce)) := by
  obtain ⟨z, hz⟩ : ∃ z, z = ((s.at t).emit (.hmRequest n ([0x20] ++ nonce))).takeRecord n rcd := ⟨_, rfl⟩
  have hgrow : Grow ((s.at t).emit (.hmRequest n ([0x20] ++ nonce))) z := hz ▸ Grow.refl.takeRecord n rcd
  obtain ⟨hok, hseq, hcount⟩ := hz ▸ State.takeRecord_usage ((s.at t).emit (.hmRequest n ([0x20] ++ nonce))) n rcd
  obtain ⟨kok, kseq, kcount⟩ := z.choosePath_usage n
  exact ⟨_, exec_authRead_tagged hdawn h hread huse hlen hdata htag hz,
    ite_keeps (fun z => (z.port n).useOk) (kok.trans hok) hok,
    ite_keeps (fun z => (z.port n).useSeq) (kseq.trans hseq) hseq,
    ite_keeps (fun z => (z.port n).useCount) (kcount.trans hcount) hcount,
    .of_emit _ _ rfl (Grow.refl.at t) (.ite (hgrow.choosePath n) hgrow)⟩

/-! ### Recording the pending count (R335 to R337) -/

/-- The transaction of an add that a tile's answer may carry on: under way, its outcome not in doubt, no backoff. -/
structure HmTxn.Adds (x : HmTxn) : Prop where
  op : x.op = 0x22
  sure : x.verify = false
  ready : x.retryAt = none

theorem State.hmReady_of_adds {s : State} {n : Nat} {x : HmTxn} (t : Nat) (hn : n < 96) (h : (s.port n).hm = some x)
    (hx : x.Adds) (hon : s.fb (TILE_n_STATUS_LOGIC_ON n) = true) : (s.at t).hmReady n = true := by
  refine State.hmReady_at t hn hon fun y hy => ?_
  rw [h] at hy
  cases hy
  exact hx.ready

/-- The bytes of AUTH_ADD for a count under a tile's key and its nonce `m` (R335). -/
def authAddRequest (kt m : List Nat) (delta : Nat) : List Nat :=
  [0x22] ++ toLe 8 delta ++ usageTag kt (m ++ [0x22] ++ toLe 8 delta)

theorem exec_getNonce {s : State} {n : Nat} {r m kt : List Nat} {x : HmTxn} (t : Nat) (hn : n < 96)
    (h : (s.port n).hm = some x) (hx : x.Adds) (hm : x.m = []) (hon : s.fb (TILE_n_STATUS_LOGIC_ON n) = true)
    (hkey : s.usageKey? n = some kt) (hdata : hmData? (some r) 8 = some m) :
    exec (.getNonce t n (some r)) s =
      .next (((s.at t).modPort n fun p => { p with hm := some { x with m := m, tries := 0 } }).emit
        (.hmRequest n (authAddRequest kt m x.delta))) := by
  show execGetNonce t n (some r) s = _
  simp [execGetNonce, h, hkey, hx.op, hx.sure, hm, State.hmReady_of_adds t hn h hx hon, hdata, authAddRequest]

theorem exec_authAdd {s : State} {n : Nat} {r bs rcd : List Nat} {x : HmTxn} (t : Nat) (hn : n < 96)
    (h : (s.port n).hm = some x) (hx : x.Adds) (hm : x.m ≠ []) (hon : s.fb (TILE_n_STATUS_LOGIC_ON n) = true)
    (hdata : hmData? (some r) 40 = some bs) (htag : s.tagged? n (x.m ++ [0x22]) bs = some rcd) :
    exec (.authAdd t n (some r)) s = .next ((s.at t).addDone n rcd) := by
  show execAuthAdd t n (some r) s = _
  simp [execAuthAdd, h, hx.op, hx.sure, hm, State.hmReady_of_adds t hn h hx hon, hdata, htag]

/-- The record takes the tile's new count, and what it holds is pending no more (R337). -/
theorem State.addDone_usage {s : State} {n : Nat} {x : HmTxn} (rcd : List Nat) (h : (s.port n).hm = some x) :
    ((s.addDone n rcd).port n).useSeq = recSeq rcd ∧ ((s.addDone n rcd).port n).useCount = recCount rcd ∧
    ((s.addDone n rcd).port n).pendUse = (s.port n).pendUse - x.delta ∧ ((s.addDone n rcd).port n).hm = none := by
  obtain ⟨hseq, hcount, hpend, hhm⟩ := ((s.modPort n fun p =>
    { p with useSeq := recSeq rcd, useCount := recCount rcd, pendUse := p.pendUse - x.delta }).showUsage n).hmEnd_usage n
  simp only [State.showUsage_port, State.modPort_port, if_true] at hseq hcount hpend
  simp only [State.addDone, h]
  exact ⟨hseq, hcount, hpend, hhm⟩

/-! ### A retry (R37) -/

theorem hmRetry_issues {s : State} {t n d : Nat} {x : HmTxn} (h : (s.port n).hm = some x) (hr : x.retryAt = some d)
    (hd : d ≤ max s.now t) :
    ∃ s', exec (.hmRetry t n) s = .next s' ∧ (s'.port n).hm = some { x with retryAt := none } := by
  have hset : (((s.at t).modPort n fun p => { p with hm := some { x with retryAt := none } }).port n).hm =
      some { x with retryAt := none } := by simp
  refine ⟨_, rfl, ?_⟩
  simp only [State.at_port, h, hr, State.at_now, if_pos hd]
  refine ite_keeps (fun z => (z.port n).hm) ?_ hset
  split
  · exact ite_keeps (fun z => (z.port n).hm) hset hset
  · exact hset

/-! ### The usage master key (R335, R407) -/

theorem exec_tileUkeyStore {s : State} (t : Nat) (v : Word) (h : s.writable (rTILE_UKEY_n 7) = true) :
    exec (.tileUkeyStore t v) s = .next ((s.at t).writeUkey 7 v) :=
  congrArg Host.Outcome.next (State.onWrite_at s t (rTILE_UKEY_n 7) _ h)

theorem State.writeUkey_stored {s : State} (v : Word) (h : s.nvOk = true) :
    (s.writeUkey 7 v).cfg.ukeyBuf = insertKey 7 v.toNat s.cfg.ukeyBuf ∧
    (s.writeUkey 7 v).nv.ukey =
      some ((List.range 8).flatMap fun i => toLe 4 ((lookup? (s.writeUkey 7 v).cfg.ukeyBuf i).getD 0)) := by
  simp [State.writeUkey, h]

theorem State.writeUkey_refused {s : State} (k : Nat) (v : Word) (h : s.nvOk = false) :
    s.writeUkey k v = s.raise kTILE_NOTE (rTILE_UKEY_n k) := by
  simp [State.writeUkey, h]

theorem tileUkeyStore_cases {s : State} (t : Nat) (v : Word) (h : s.writable (rTILE_UKEY_n 7) = true) :
    (s.nvOk = true → ∃ s', exec (.tileUkeyStore t v) s = .next s' ∧ s'.cfg.ukeyBuf = insertKey 7 v.toNat s.cfg.ukeyBuf ∧
      s'.nv.ukey = some ((List.range 8).flatMap fun i => toLe 4 ((lookup? s'.cfg.ukeyBuf i).getD 0))) ∧
    (s.nvOk = false → ∃ s', exec (.tileUkeyStore t v) s = .next s' ∧ s'.nv = s.nv ∧
      (s.at t).Raised s' 0 0 kTILE_NOTE (rTILE_UKEY_n 7)) := by
  constructor
  · intro hok
    obtain ⟨hbuf, hkey⟩ := State.writeUkey_stored (s := s.at t) v (by rw [State.nvOk_at, hok])
    exact ⟨_, exec_tileUkeyStore t v h, by rw [hbuf, State.at_cfg], hkey⟩
  · intro hok
    refine ⟨_, exec_tileUkeyStore t v h, ?_⟩
    rw [State.writeUkey_refused 7 v (by rw [State.nvOk_at, hok])]
    exact ⟨by rw [State.raise_nv, State.at_nv], .raise rfl ..⟩

/-- Settles O27: each command as one operation on the tile's port, and what judging, choosing a path and ending a
transaction leave of it. -/
theorem headMemory : Obligations.HeadMemory := by
  refine ⟨?_, ?_, ?_, ?_, ?_, ?_, ?_⟩
  · intro s t n a r bs hdawn
    exact ⟨fun hdata ha hnext hlen => hmRead_extends hdawn hdata ha hnext hlen, fun h => hmRead_waits a hdawn h⟩
  · intro s t n a data resp hn hd hup h
    refine ⟨fun hok => ?_, fun hok => hmWrite_deferred t a resp hn hd hup h hok⟩
    obtain ⟨s', he, hgrow⟩ := (exec_hmWrite t a resp hn hd hup h).1 hok
    exact ⟨s', he, .of_emit _ _ rfl (Grow.refl.at t) hgrow⟩
  · intro s t n nonce r bs rcd hdawn h hread huse hlen hdata htag
    exact authRead_judges hdawn h hread huse hlen hdata htag
  · intro s t n r m kt x hn h hop hsure hm hready hon hkey hdata
    refine ⟨_, exec_getNonce t hn h ⟨hop, hsure, hready⟩ hm hon hkey hdata, ?_, ?_⟩
    · simp
    · simp [authAddRequest]
  · intro s t n r bs rcd x hn h hop hsure hm hready hon hdata htag
    refine ⟨_, exec_authAdd t hn h ⟨hop, hsure, hready⟩ hm hon hdata htag, ?_⟩
    simpa using State.addDone_usage (s := s.at t) rcd (by rw [State.at_port, h])
  · intro s t n d x h hr hd
    exact hmRetry_issues h hr hd
  · intro s t v h
    exact tileUkeyStore_cases t v h

end Sys2Proof.Machine
end

section
/-!
SUPPORT. The lane pipeline and the strobe path (R19, R149, R153, R160 to R162, R248, R253, R317, R320, R321, R330): what the
operations of a cycle, a packet and a strobe leave of the lane, the port and the outputs, and what a swap leaves of its
window.
-/
namespace Sys2Proof.Machine

/-! ### Tags in flight (R466) -/

@[simp] theorem State.modTag_out (s : State) (p : TagRec → Bool) (g : TagRec → TagRec) : (s.modTag p g).out = s.out := rfl
@[simp] theorem State.modTag_lane (s : State) (p : TagRec → Bool) (g : TagRec → TagRec) (e : Nat) :
    (s.modTag p g).lane e = s.lane e := rfl
@[simp] theorem State.modTag_port (s : State) (p : TagRec → Bool) (g : TagRec → TagRec) (n : Nat) :
    (s.modTag p g).port n = s.port n := rfl
@[simp] theorem State.modTag_fireT (s : State) (p : TagRec → Bool) (g : TagRec → TagRec) (n : Nat) :
    (s.modTag p g).fireT n = s.fireT n := rfl

/-- The record of a tag is no output. -/
@[simp] theorem State.tagRecord_out (s : State) (p : TagRec → Bool) (b : Bool) : (s.tagRecord p b).out = s.out := by
  unfold State.tagRecord
  split
  · exact ite_keeps (·.out) (by simp [State.setFields]) rfl
  · rfl

section
variable (s : State) (p : TagRec → Bool) (b : Bool)

theorem Frame.tagRecord_pmc : Frame { pmc := true } s (s.tagRecord p b) := Frame.refl.tagRecord p b rfl

@[simp] theorem State.tagRecord_lane (e : Nat) : (s.tagRecord p b).lane e = s.lane e := by
  simp only [State.lane, (Frame.tagRecord_pmc s p b).lanes.resolve_left (by decide)]
@[simp] theorem State.tagRecord_port (n : Nat) : (s.tagRecord p b).port n = s.port n := by
  simp only [State.port, (Frame.tagRecord_pmc s p b).ports.resolve_left (by decide)]
@[simp] theorem State.tagRecord_fireT (n : Nat) : (s.tagRecord p b).fireT n = s.fireT n := by
  simp only [State.fireT, (Frame.tagRecord_pmc s p b).fire.resolve_left (by decide)]
end

/-! ### The preparation of a cycle (R248) -/

/-- The header belongs to its fire line and its document (R174). -/
theorem State.header_packet (s : State) (n f : Nat) (d : Doc) : (s.header n f d).2.f = f ∧ (s.header n f d).2.doc = d.id := by
  unfold State.header
  split
  split <;> exact ⟨rfl, rfl⟩

theorem State.prepare_lane (s : State) (n e f : Nat) (r : TileRec) (d : Doc) :
    ∃ p, ((s.prepare n e f r d).lane e).inFlight = some p ∧ p.f = f ∧ p.doc = d.id ∧
      ((s.prepare n e f r d).lane e).nextF = some ((f + 1) % 2 ^ 32) := by
  obtain ⟨hf, hd⟩ := s.header_packet n f d
  unfold State.prepare
  dsimp only
  rw [State.modLane_lane, if_pos rfl]
  exact ⟨_, rfl, hf, hd, rfl⟩

/-- An engine may start the cycle of fire line `f`: it and its tile are in operation, its pipeline and output register are
empty, and the cycle is not taken yet, within reach, and has its lines (R147, R248). -/
structure State.MayStart (s : State) (e n f : Nat) (d : Doc) : Prop where
  intact : s.fb (LANE_e_STATUS_FAILED e) = false
  served : (s.th n).waitSpare = false
  alive : (s.th n).dead = false
  idle : (s.lane e).inFlight = none
  sent : (s.lane e).outReg = none
  ahead : aheadOf 32 (s.f (FIRE_n_HWM_H n)) f = false
  reach : s.mayPrepare n f d = true
  lines : (cycleLines d f).all (lineReady (s.lane e)) = true
  buffer : d.fixed = true ∨ (s.lane e).bufDoc = some d.id

theorem exec_laneCycleStart {s : State} {t e n f id : Nat} {r : TileRec} {d : Doc} (htile : (s.at t).tileOf? e = some n)
    (hrec : (s.at t).tileRec? n = some r) (hopen : ((s.at t).fireT n).doc = some id) (hnext : ((s.at t).lane e).nextF = some f)
    (hdoc : ((s.at t).win r.docwin).doc = some d) (h : (s.at t).MayStart e n f d) :
    exec (.laneCycleStart t e) s = .next ((s.at t).prepare n e f r d) := by
  have hbuffer : (d.fixed || ((s.at t).lane e).bufDoc == some d.id) = true := by
    rcases h.buffer with hb | hb
    · rw [hb, Bool.true_or]
    · rw [hb, beq_self_eq_true, Bool.or_true]
  show execLaneCycleStart t e s = _
  simp only [execLaneCycleStart, htile, hrec, hopen, hnext, hdoc, h.intact, h.served, h.alive, h.idle, h.sent, h.ahead, h.reach,
    h.lines, hbuffer]
  rfl

/-! ### The packet (R253, R317, R320) -/

theorem State.announce_lanes (s : State) (w : Nat) (d : Doc) : (s.announce w d).lanes = s.lanes :=
  (Frame.announce (μ := { wins := true }) Frame.refl w d rfl).lanes.resolve_left (by decide)

theorem cyclePackComplete_packs {s : State} {t e n : Nat} {p : Packet} (htile : (s.at t).tileOf? e = some n)
    (hfly : (s.lane e).inFlight = some p) (hreg : (s.lane e).outReg = none) :
    ∃ s', exec (.cyclePackComplete t e) s = .next s' ∧
      s'.lane e = { s.lane e with inFlight := none, outReg := some p, packed := some p.f } := by
  refine ⟨_, rfl, ?_⟩
  simp -zeta only [htile, State.at_lane, hfly, hreg, Option.isSome_none]
  rw [if_neg (by decide)]
  lift_lets -underBinder
  intro packed counted tagged l
  have hpacked : packed.lane e = { l with inFlight := none, outReg := some p, packed := some p.f } := by
    simp [packed, l]
  have htagged : tagged.lane e = packed.lane e := ite_keeps (·.lane e) (State.tagRecord_lane ..) rfl
  rw [← hpacked, ← htagged]
  split
  · split
    · simp only [State.lane, State.announce_lanes]
    · rfl
  · rfl

theorem exec_tilePacketSend {s : State} {t n e : Nat} {p : Packet} (heng : (s.th n).engine = some e)
    (hreg : (s.lane e).outReg = some p) (hup : (s.at t).tileUp n = true)
    (hroom : (s.port n).ready = [] ∨
      ((s.port n).ready.length = 1 ∧ ∃ x, (s.fireT n).lastStrobe = some x ∧ x + 800 ≤ max s.now t)) :
    ∃ g, exec (.tilePacketSend t n) s = .next
      (((((s.at t).modLane e fun l => { l with outReg := none }).modPort n fun q =>
        { q with ready := q.ready ++ [p], eops := q.eops ++ [(p.f % 65536, max s.now t + 28512)] }).modTag (cycleTag e p.f) g).emit
        (.frame n (max s.now t + 28512) p)) := by
  refine ⟨fun r => r.stamp 8 (s.at t).sysTime, ?_⟩
  show execTilePacketSend t n s = _
  rcases hroom with hempty | ⟨hone, x, hlast, hgap⟩
  · simp [execTilePacketSend, heng, hreg, hup, hempty]
    rfl
  · simp [execTilePacketSend, heng, hreg, hup, hone, hlast, hgap]
    rfl

/-! ### The strobe (R19, R149, R321, R330) -/

/-- The cycle that is due leaves its place: the front of the tile's launch queue, or the held one (R149, R153). -/
def State.takeDue (s : State) (n : Nat) (held : Bool) : State :=
  if held then (s.setF (FIRE_n_STATUS_HELD n) 0).modFire n fun x => { x with held := none }
  else s.modFire n fun x => { x with launch := x.launch.drop 1 }

@[simp] theorem State.takeDue_port (s : State) (n : Nat) (held : Bool) (j : Nat) : (s.takeDue n held).port j = s.port j := by
  cases held <;> rfl

@[simp] theorem State.takeDue_out (s : State) (n : Nat) (held : Bool) : (s.takeDue n held).out = s.out := by
  cases held <;> rfl

/-- Neither the launch queue nor HELD enters into whether the tile may be strobed (R330). -/
theorem State.takeDue_strobeAllowed (s : State) (n : Nat) (held : Bool) :
    (s.takeDue n held).strobeAllowed n = s.strobeAllowed n := by
  cases held
  · rfl
  · have htile (fd : Field) (h : fd.off = 0x191000 + n * 0x20) : (s.setF (FIRE_n_STATUS_HELD n) 0).fb fd = s.fb fd :=
      State.fb_setF_other _ _ _ _ (.inl (by rw [h]; simp only [FIRE_n_STATUS_HELD]; omega))
    have hbypass : (s.setF (FIRE_n_STATUS_HELD n) 0).bypassed n = s.bypassed n :=
      State.fb_setF_other _ _ _ _ (.inl (by simp only [FIRE_n_STATUS_HELD, HLTH_n_STATUS_BYPASSED]; omega))
    show (s.setF (FIRE_n_STATUS_HELD n) 0).strobeAllowed n = _
    simp only [State.strobeAllowed, State.tileUp, htile (TILE_n_STATUS_TRAINED n) rfl, htile (TILE_n_STATUS_LOGIC_ON n) rfl,
      htile (TILE_n_STATUS_FAILED n) rfl, htile (TILE_n_STATUS_VPP_ON n) rfl, hbypass]
    rfl

theorem exec_strobeLaunch_ready {s : State} {t n : Nat} {c : Cycle} {held : Bool} {p : Packet}
    (hdue : (s.at t).dueCycle? n = some (c, held)) (hp : readyPacket? (s.port n) c = some p) :
    exec (.strobeLaunch t n) s = .next (if (s.at t).strobeAllowed n then ((s.at t).takeDue n held).fireStrobe n c.target p
      else ((s.at t).takeDue n held).dropPacket n c.f) := by
  have hp' : readyPacket? (((s.at t).takeDue n held).port n) c = some p := by rw [State.takeDue_port, State.at_port, hp]
  rw [← State.takeDue_strobeAllowed (s.at t) n held]
  show execStrobeLaunch t n s = _
  simp only [execStrobeLaunch, hdue]
  rw [show (if held = true then _ else _) = (s.at t).takeDue n held from rfl]
  simp only [hp']

theorem exec_strobeLaunch_missing {s : State} {t n : Nat} {c : Cycle} {held : Bool}
    (hdue : (s.at t).dueCycle? n = some (c, held)) (hp : readyPacket? (s.port n) c = none) :
    ∃ s', exec (.strobeLaunch t n) s = .next s' ∧
      Frame { lanes := true, health := true, ports := true, pmc := true, flt := true } ((s.at t).takeDue n held) s' := by
  have hp' : readyPacket? (((s.at t).takeDue n held).port n) c = none := by rw [State.takeDue_port, State.at_port, hp]
  refine ⟨_, rfl, ?_⟩
  simp -zeta only [hdue]
  lift_lets -underBinder
  intro z
  rw [show z = (s.at t).takeDue n held from rfl, hp']
  have hdrop := Frame.refl.dropPacket (μ := { lanes := true, health := true, ports := true, pmc := true, flt := true })
    (s₀ := (s.at t).takeDue n held) n c.f rfl rfl rfl
  dsimp only
  split
  · next e _ =>
    have htag := hdrop.tagRecord (cycleTag e c.f) true rfl
    exact .ite htag (htag.underrun n e c.f rfl rfl rfl)
  · exact hdrop

/-- From `a` to `c` nothing but outputs that are no strobes has left the engine. -/
def Strobeless (a c : State) : Prop := ∃ new, c.out = new ++ a.out ∧ ∀ o ∈ new, o.isStrobe = false

theorem Strobeless.of_frame {μ : Touch} {a c : State} (h : Frame μ a c) (hs : μ.strobe = false) : Strobeless a c := by
  obtain ⟨new, hout, hnew⟩ := h.out
  exact ⟨new, hout, hnew.resolve_left (by simp [hs])⟩

/-- What leaves after the cycle due has left its place is what leaves the engine in the command. -/
theorem Strobeless.of_takeDue {s c : State} {t n : Nat} {held : Bool} (h : Strobeless ((s.at t).takeDue n held) c) :
    Strobeless s c := by
  obtain ⟨new, hout, hnew⟩ := h
  exact ⟨new, by rw [hout, State.takeDue_out, State.at_out], hnew⟩

/-- A tile that may not be strobed gets no strobe, whether its packet is there or not (R23, R215, R330, R416). -/
theorem strobeLaunch_silent {s s' : State} {t n : Nat} (he : exec (.strobeLaunch t n) s = .next s')
    (h : (s.at t).strobeAllowed n = false) : Strobeless s s' := by
  cases hdue : (s.at t).dueCycle? n with
  | none =>
    have hidle : exec (.strobeLaunch t n) s = .next (s.at t) := by
      show execStrobeLaunch t n s = _
      simp only [execStrobeLaunch, hdue]
    cases he.symm.trans hidle
    exact ⟨[], State.at_out s t, by simp⟩
  | some due =>
    obtain ⟨c, held⟩ := due
    cases hp : readyPacket? (s.port n) c with
    | some p =>
      have hready := exec_strobeLaunch_ready hdue hp
      rw [h, if_neg (by decide)] at hready
      cases he.symm.trans hready
      exact .of_takeDue (.of_frame (Frame.refl.dropPacket (μ := { lanes := true, ports := true, pmc := true }) n c.f rfl rfl rfl) rfl)
    | none =>
      obtain ⟨c', hmiss, hframe⟩ := exec_strobeLaunch_missing hdue hp
      cases he.symm.trans hmiss
      exact .of_takeDue (.of_frame hframe rfl)

@[simp] theorem State.addUse_out (s : State) (n k : Nat) : (s.addUse n k).out = s.out := rfl
@[simp] theorem State.addUse_fireT (s : State) (n k j : Nat) : (s.addUse n k).fireT j = s.fireT j := rfl
@[simp] theorem State.addUse_lastTag (s : State) (n k j : Nat) : ((s.addUse n k).port j).lastTag = (s.port j).lastTag := by
  rw [State.addUse, State.showUsage_port, State.modPort_port]
  split
  · next hj => rw [hj]
  · rfl

/-- A strobe leaves with its packet and its tag (R149, R322). -/
theorem State.fireStrobe_effects (s : State) (n target : Nat) (p : Packet) :
    (s.fireStrobe n target p).out = .strobe n target p :: s.out ∧
    (s.fireStrobe n target p).fireT n = { s.fireT n with lastStrobe := some target } ∧
    ((s.fireStrobe n target p).port n).lastTag = some (p.f % 65536) := by
  unfold State.fireStrobe
  dsimp only
  split <;> simp

/-! ### Windows (R160 to R162) -/

/-- Every part of the state but the windows. -/
def butWins : Touch :=
  { snaps := true, lows := true, ident := true, nv := true, sys := true, cfg := true, pos := true, fire := true, noz := true,
    tileH := true, lanes := true, health := true, comp := true, host := true, dma := true, ring := true, ports := true,
    pwr := true, mot := true, thm := true, flt := true, cal := true, pmc := true, clk := true, svc := true, form := true,
    staging := true, strobe := true }

theorem Frame.win {a c : State} (h : Frame butWins a c) (w : Nat) : c.win w = a.win w := by
  simp only [State.win, h.wins.resolve_left (by decide)]

/-- The swap a window waits for, and the document open in it (R161). -/
def State.swapOf (s : State) (w : Nat) : Option Nat × Option Doc := ((s.win w).swapAt, (s.win w).doc)

theorem Frame.swapOf {a c : State} (h : Frame butWins a c) (w : Nat) : c.swapOf w = a.swapOf w := by
  simp only [State.swapOf, h.win]

/-- After its swap a window waits for none, and its document stays: the swaps of maps, tables, trims, engines and bypasses
leave the windows (R161). -/
theorem State.swapWin_swapOf (s : State) (w : Nat) : (s.swapWin w).swapOf w = (none, (s.win w).doc) := by
  unfold State.swapWin
  lift_lets -underBinder
  intro ts asked changed swapped counted calibrated live trimmed served
  have hasked : asked.swapOf w = (none, (s.win w).doc) := by simp [asked, State.swapOf]
  have hswapped : Frame butWins asked swapped := Frame.refl.foldl fun _ n h => h.healthSwap n rfl rfl rfl rfl
  have hcounted : counted.swapOf w = swapped.swapOf w := ite_keeps (·.swapOf w) (by simp [State.swapOf]) rfl
  have hcalibrated : Frame butWins counted calibrated := Frame.refl.foldl fun _ n h => h.calSwap n rfl
  have hlive : Frame butWins counted live := hcalibrated.liveSwap w 0 rfl rfl rfl rfl rfl rfl
  have htrimmed : Frame butWins counted trimmed := hlive.foldl fun _ n h => h.modPort n _ rfl
  have hserved : Frame butWins counted served := (htrimmed.serveSpares ts rfl rfl rfl).serveRolls ts rfl
  have hbypassed := hserved.foldl (l := ts) (f := fun s n => if (s.th n).bypassReq then s.bypassTile n else s)
    fun _ n h => .ite (h.bypassTile n rfl rfl rfl rfl) h
  rw [hbypassed.swapOf, hcounted, hswapped.swapOf, hasked]

theorem State.endPause_win {s : State} {w x y : Nat} (hto : (s.win w).pauseTo = some x) (hfrom : (s.win w).pauseFrom = some y) :
    ((s.endPause w).win w).pauseTo = none ∧ ((s.endPause w).win w).pauseFrom = none ∧
    (s.endPause w).fb (FIRE_WIN_w_STATUS_PAUSED w) = false := by
  simp only [State.endPause, hto, hfrom]
  refine ⟨by simp, by simp, ?_⟩
  rw [State.fb_setF_same _ (FIRE_WIN_w_STATUS_PAUSED w) 0 (Nat.le_of_ble_eq_true rfl)]
  rfl

/-! ### The claims, one by one -/

theorem tilePacketSend_sends {s : State} {t n e : Nat} {p : Packet} (heng : (s.th n).engine = some e)
    (hreg : (s.lane e).outReg = some p) (hup : (s.at t).tileUp n = true)
    (hroom : (s.port n).ready = [] ∨
      ((s.port n).ready.length = 1 ∧ ∃ x, (s.fireT n).lastStrobe = some x ∧ x + 800 ≤ max s.now t)) :
    ∃ s', exec (.tilePacketSend t n) s = .next s' ∧ (s'.lane e).outReg = none ∧ (s'.port n).ready = (s.port n).ready ++ [p] ∧
      s'.out = .frame n (max s.now t + 28512) p :: s.out := by
  obtain ⟨g, he⟩ := exec_tilePacketSend heng hreg hup hroom
  exact ⟨_, he, by simp, by simp, by simp⟩

theorem strobeLaunch_strobes {s : State} {t n : Nat} {c : Cycle} {rest : List Cycle} {p : Packet}
    (hq : (s.fireT n).launch = c :: rest) (hdue : c.target ≤ max s.now t) (hp : readyPacket? (s.port n) c = some p)
    (h : (s.at t).strobeAllowed n = true) :
    ∃ s', exec (.strobeLaunch t n) s = .next s' ∧ s'.out = .strobe n c.target p :: s.out ∧ (s'.fireT n).launch = rest ∧
      (s'.fireT n).lastStrobe = some c.target ∧ (s'.port n).lastTag = some (p.f % 65536) := by
  have hfront : (s.at t).dueCycle? n = some (c, false) := by simp [State.dueCycle?, hq, hdue]
  obtain ⟨hout, hfire, htag⟩ := ((s.at t).takeDue n false).fireStrobe_effects n c.target p
  refine ⟨_, exec_strobeLaunch_ready hfront hp, ?_⟩
  rw [if_pos h, hout, hfire, State.takeDue_out, State.at_out]
  exact ⟨rfl, by simp [State.takeDue, hq], rfl, htag⟩

theorem gapSwapTimeout_swaps {s : State} {t w x : Nat} (hask : (s.win w).swapAt = some x) (hx : x + ms 1 ≤ max s.now t)
    (hdoc : (s.win w).doc = none) :
    ∃ s', exec (.gapSwapTimeout t w) s = .next s' ∧ (s'.win w).swapAt = none ∧ (s'.win w).doc = none := by
  have he : exec (.gapSwapTimeout t w) s = .next ((s.at t).swapWin w) := by
    show execGapSwapTimeout t w s = _
    simp [execGapSwapTimeout, hask, hx, hdoc]
  have hswap := (s.at t).swapWin_swapOf w
  rw [State.at_win, hdoc] at hswap
  exact ⟨_, he, congrArg Prod.fst hswap, congrArg Prod.snd hswap⟩

theorem pauseEnd_ends {s : State} {t w x y : Nat} (hto : (s.win w).pauseTo = some x) (hfrom : (s.win w).pauseFrom = some y)
    (hx : x ≤ max s.now t) :
    ∃ s', exec (.pauseEnd t w) s = .next s' ∧ (s'.win w).pauseTo = none ∧ (s'.win w).pauseFrom = none ∧
      s'.fb (FIRE_WIN_w_STATUS_PAUSED w) = false := by
  have he : exec (.pauseEnd t w) s = .next ((s.at t).endPause w) := by
    show execPauseEnd t w s = _
    simp [execPauseEnd, hto, hx]
  exact ⟨_, he, State.endPause_win (x := x) (y := y) (by simpa using hto) (by simpa using hfrom)⟩

/-- Settles O18: a cycle, a packet and a strobe each by the operation that its command comes to, the silence of a tile that may
not be strobed by what a dropped packet may change, and a window's swap and pause by what they leave of the window. -/
theorem lanesAndStrobes : Obligations.LanesAndStrobes := by
  refine ⟨?_, ?_, ?_, ?_, ?_, ?_, ?_⟩
  · intro s t e n f r id d htile hrec hopen hnext hdoc hintact hserved halive hidle hsent hahead hreach hlines hbuffer
    obtain ⟨p, hlane⟩ := (s.at t).prepare_lane n e f r d
    exact ⟨_, p, exec_laneCycleStart htile hrec hopen hnext hdoc
      ⟨hintact, hserved, halive, hidle, hsent, hahead, hreach, hlines, hbuffer⟩, hlane⟩
  · intro s t e n p htile hfly hreg
    obtain ⟨s', he, hlane⟩ := cyclePackComplete_packs htile hfly hreg
    exact ⟨s', he, by rw [hlane], by rw [hlane], by rw [hlane]⟩
  · intro s t n e p heng hreg hup hroom
    exact tilePacketSend_sends heng hreg hup hroom
  · intro s t n c rest p _ hq hdue hp h
    exact strobeLaunch_strobes hq hdue hp h
  · intro s s' t n he _ h
    exact strobeLaunch_silent he h
  · intro s t w x hask hx hdoc
    exact gapSwapTimeout_swaps hask hx hdoc
  · intro s t w x y hto hfrom hx
    exact pauseEnd_ends hto hfrom hx

end Sys2Proof.Machine
end

section
/-!
SUPPORT. What a command may change, for every command at once: the frame of a command (Instr.touched, R64, R149) and which
commands leave SYS_STATE as it is (R42, R43), one line per command from the laws of its meaning.
-/
namespace Sys2Proof.Machine

/-- The parts of the state in a list, with strobes or without. -/
def Touch.parts (l : List StatePart) (strobe : Bool) : Touch where
  snaps := l.contains .snaps
  lows := l.contains .lows
  ident := l.contains .ident
  nv := l.contains .nv
  sys := l.contains .sys
  cfg := l.contains .cfg
  pos := l.contains .pos
  fire := l.contains .fire
  wins := l.contains .wins
  noz := l.contains .noz
  tileH := l.contains .tileH
  lanes := l.contains .lanes
  health := l.contains .health
  comp := l.contains .comp
  host := l.contains .host
  dma := l.contains .dma
  ring := l.contains .ring
  ports := l.contains .ports
  pwr := l.contains .pwr
  mot := l.contains .mot
  thm := l.contains .thm
  flt := l.contains .flt
  cal := l.contains .cal
  pmc := l.contains .pmc
  clk := l.contains .clk
  svc := l.contains .svc
  form := l.contains .form
  staging := l.contains .staging
  strobe := strobe

/-- What a command may change and put out, as the tables of Safety.lean say. -/
def touchOf (c : Instr) : Touch := .parts c.touched c.mayStrobe

/-- Every command answers a next state, within its frame. -/
theorem exec_frame (c : Instr) (s : State) : ∃ s', exec c s = .next s' ∧ Frame (touchOf c) s s' := by
  cases c with
  | registerWrite => apply Frame.execRegisterWrite .refl <;> rfl
  | loReadSnapshot => apply Frame.execLoReadSnapshot .refl <;> rfl
  | hiWritePair => apply Frame.execHiWritePair .refl <;> rfl
  | rcRead => apply Frame.execRcRead .refl <;> rfl
  | mainsApplied => apply Frame.execMainsApplied .refl <;> rfl
  | firmwareCheckComplete => apply Frame.execFirmwareCheckComplete .refl <;> rfl
  | bootSequenceComplete => apply Frame.execBootSequenceComplete .refl <;> rfl
  | sysCtrlDawn => apply Frame.execSysCtrlDawn .refl <;> rfl
  | sysCtrlNight => apply Frame.execSysCtrlNight .refl <;> rfl
  | runRequest => apply Frame.execRunRequest .refl <;> rfl
  | stopRequest => apply Frame.execStopRequest .refl <;> rfl
  | sysCtrlAbandon => apply Frame.execSysCtrlAbandon .refl <;> rfl
  | dawnDone => apply Frame.execDawnDone .refl <;> rfl
  | standaloneTimerExpiry => apply Frame.execStandaloneTimerExpiry .refl <;> rfl
  | runPendingActed => apply Frame.execRunPendingActed .refl <;> rfl
  | duskComplete => apply Frame.execDuskComplete .refl <;> rfl
  | logicReserveReached => apply Frame.execLogicReserveReached .refl <;> rfl
  | powerCycle => apply Frame.execPowerCycle .refl <;> rfl
  | spitTimerExpiry => exact Frame.execSpitTimerExpiry .refl (h_sys := rfl) ..
  | spitCycle => apply Frame.execSpitCycle .refl <;> rfl
  | cueInputEdge => apply Frame.execCueInputEdge .refl <;> rfl
  | patternLineTimeout => apply Frame.execPatternLineTimeout .refl <;> rfl
  | arm => exact Frame.execArm .refl (h_cfg := rfl) ..
  | enableCheckComplete => apply Frame.execEnableCheckComplete .refl <;> rfl
  | live => exact Frame.execLive .refl (h_cfg := rfl) ..
  | liveCheckComplete => apply Frame.execLiveCheckComplete .refl <;> rfl
  | store => exact Frame.execStore .refl (h_cfg := rfl) ..
  | storeComplete => apply Frame.execStoreComplete .refl <;> rfl
  | cfgKeyStore => apply Frame.execCfgKeyStore .refl <;> rfl
  | layoutLock => apply Frame.execLayoutLock .refl <;> rfl
  | stagingWrite => apply Frame.execStagingWrite .refl <;> rfl
  | cueSafeIntervalEnd => apply Frame.execCueSafeIntervalEnd .refl <;> rfl
  | countStep => apply Frame.execCountStep .refl <;> rfl
  | indexLatch => apply Frame.execIndexLatch .refl <;> rfl
  | interpolatedCrossing => apply Frame.execInterpolatedCrossing .refl <;> rfl
  | standstill => apply Frame.execStandstill .refl <;> rfl
  | posPreset => apply Frame.execPosPreset .refl <;> rfl
  | posCmpWrite => exact Frame.execPosCmpWrite .refl ..
  | decoderCrossCheck => apply Frame.execDecoderCrossCheck .refl <;> rfl
  | eventFabricDelivery => apply Frame.execEventFabricDelivery .refl <;> rfl
  | lineref => apply Frame.execLineref .refl <;> rfl
  | linerefRelease => apply Frame.execLinerefRelease .refl <;> rfl
  | linerefHeartbeat => apply Frame.execLinerefHeartbeat .refl <;> rfl
  | linerefLost => apply Frame.execLinerefLost .refl <;> rfl
  | linkDelayMeasurement => exact Frame.execLinkDelayMeasurement .refl ..
  | strobeLaunch => apply Frame.execStrobeLaunch .refl <;> rfl
  | gapSwapTimeout => apply Frame.execGapSwapTimeout .refl <;> rfl
  | pauseEnd => exact Frame.execPauseEnd .refl (h_wins := rfl) ..
  | laneCycleStart => apply Frame.execLaneCycleStart .refl <;> rfl
  | cyclePackComplete => apply Frame.execCyclePackComplete .refl <;> rfl
  | heaterMeasurement => apply Frame.execHeaterMeasurement .refl <;> rfl
  | hlthForce => apply Frame.execHlthForce .refl <;> rfl
  | bypassRequest => apply Frame.execBypassRequest .refl <;> rfl
  | laneParityError => apply Frame.execLaneParityError .refl <;> rfl
  | laneEnginePrepared => apply Frame.execLaneEnginePrepared .refl <;> rfl
  | rollIntervalExpiry => apply Frame.execRollIntervalExpiry .refl <;> rfl
  | rollSelfTestComplete => apply Frame.execRollSelfTestComplete .refl <;> rfl
  | documentRenderStart => apply Frame.execDocumentRenderStart .refl <;> rfl
  | documentRendered => apply Frame.execDocumentRendered .refl <;> rfl
  | prefillComplete => apply Frame.execPrefillComplete .refl <;> rfl
  | lineBufferWrite => apply Frame.execLineBufferWrite .refl <;> rfl
  | hostFacingReset => apply Frame.execHostFacingReset .refl <;> rfl
  | streamEnable => apply Frame.execStreamEnable .refl <;> rfl
  | streamDisable => apply Frame.execStreamDisable .refl <;> rfl
  | streamReset => apply Frame.execStreamReset .refl <;> rfl
  | sqDoorbell => exact Frame.execSqDoorbell .refl (h_dma := rfl) ..
  | cqDoorbell => exact Frame.execCqDoorbell .refl (h_dma := rfl) ..
  | descriptorFetch => apply Frame.execDescriptorFetch .refl <;> rfl
  | descriptorAccept => apply Frame.execDescriptorAccept .refl <;> rfl
  | nop => exact Frame.execNop .refl (h_dma := rfl) ..
  | copy => apply Frame.execCopy .refl <;> rfl
  | copy2d => apply Frame.execCopy2d .refl <;> rfl
  | fill => apply Frame.execFill .refl <;> rfl
  | compare => apply Frame.execCompare .refl <;> rfl
  | compose => apply Frame.execCompose .refl <;> rfl
  | slotAlloc => exact Frame.execSlotAlloc .refl (h_dma := rfl) ..
  | slotFree => exact Frame.execSlotFree .refl (h_dma := rfl) ..
  | hostReadCompletion => apply Frame.execHostReadCompletion .refl <;> rfl
  | hostReadTimeout => apply Frame.execHostReadTimeout .refl <;> rfl
  | hostReadRetry => apply Frame.execHostReadRetry .refl <;> rfl
  | unexpectedCompletion => apply Frame.execUnexpectedCompletion .refl <;> rfl
  | descriptorComplete => apply Frame.execDescriptorComplete .refl <;> rfl
  | barrierAck => apply Frame.execBarrierAck .refl <;> rfl
  | pacingResume => apply Frame.execPacingResume .refl <;> rfl
  | dmaCqStall => apply Frame.execDmaCqStall .refl <;> rfl
  | bar2Access => apply Frame.execBar2Access .refl <;> rfl
  | bar4Access => exact Frame.execBar4Access .refl (h_form := rfl) ..
  | enum => exact Frame.execEnum .refl (h_ring := rfl) ..
  | join => apply Frame.execJoin .refl <;> rfl
  | joinTimeout => exact Frame.execJoinTimeout .refl (h_ring := rfl) ..
  | regRd => apply Frame.execRegRd .refl <;> rfl
  | regWr => apply Frame.execRegWr .refl <;> rfl
  | fsRd => exact Frame.execFsRd .refl (h_ring := rfl) ..
  | fsWr => apply Frame.execFsWr .refl <;> rfl
  | hostRd => apply Frame.execHostRd .refl <;> rfl
  | hostWr => exact Frame.execHostWr .refl (h_ring := rfl) ..
  | docReport => apply Frame.execDocReport .refl <;> rfl
  | data => apply Frame.execData .refl <;> rfl
  | ack => apply Frame.execAck .refl <;> rfl
  | fault => apply Frame.execFault .refl <;> rfl
  | stop => apply Frame.execStop .refl <;> rfl
  | wrap => apply Frame.execWrap .refl <;> rfl
  | budget => apply Frame.execBudget .refl <;> rfl
  | ringFrameRetry => exact Frame.execRingFrameRetry .refl (h_ring := rfl) ..
  | ringLinkFailure => apply Frame.execRingLinkFailure .refl <;> rfl
  | ringLinkTrained => apply Frame.execRingLinkTrained .refl <;> rfl
  | ringLinkRestore => apply Frame.execRingLinkRestore .refl <;> rfl
  | drainMarkerReturn => apply Frame.execDrainMarkerReturn .refl <;> rfl
  | ringReqTimeout => apply Frame.execRingReqTimeout .refl <;> rfl
  | ringJoinTmo => apply Frame.execRingJoinTmo .refl <;> rfl
  | tilePacketSend => apply Frame.execTilePacketSend .refl <;> rfl
  | telemetryReport => apply Frame.execTelemetryReport .refl <;> rfl
  | tileTrainTimeout => apply Frame.execTileTrainTimeout .refl <;> rfl
  | tileLogicOvercurrent => apply Frame.execTileLogicOvercurrent .refl <;> rfl
  | tileFuseClose => apply Frame.execTileFuseClose .refl <;> rfl
  | tileVppCheck => apply Frame.execTileVppCheck .refl <;> rfl
  | tileVppDischarged => exact Frame.execTileVppDischarged .refl (h_ports := rfl) ..
  | efuseTrip => apply Frame.execEfuseTrip .refl <;> rfl
  | tileLogicOvervoltage => apply Frame.execTileLogicOvervoltage .refl <;> rfl
  | tileLinkLost => apply Frame.execTileLinkLost .refl <;> rfl
  | hmRead => apply Frame.execHmRead .refl <;> rfl
  | hmWrite => apply Frame.execHmWrite .refl <;> rfl
  | authRead => apply Frame.execAuthRead .refl <;> rfl
  | getNonce => exact Frame.execGetNonce .refl (h_ports := rfl) ..
  | authAdd => exact Frame.execAuthAdd .refl (h_ports := rfl) ..
  | hmRetry => exact Frame.execHmRetry .refl (h_ports := rfl) ..
  | tileUkeyStore => apply Frame.execTileUkeyStore .refl <;> rfl
  | mainsLost => apply Frame.execMainsLost .refl <;> rfl
  | mainsPresent => apply Frame.execMainsPresent .refl <;> rfl
  | mainsQualified => exact Frame.execMainsQualified .refl (h_pwr := rfl) ..
  | linkOvervoltage => apply Frame.execLinkOvervoltage .refl <;> rfl
  | linkHigh => apply Frame.execLinkHigh .refl <;> rfl
  | linkPfcStop => exact Frame.execLinkPfcStop .refl (h_pwr := rfl) ..
  | linkStoreDischarge => exact Frame.execLinkStoreDischarge .refl (h_pwr := rfl) ..
  | linkUndervoltage => apply Frame.execLinkUndervoltage .refl <;> rfl
  | brokerUpdate => apply Frame.execBrokerUpdate .refl <;> rfl
  | railLimit => apply Frame.execRailLimit .refl <;> rfl
  | railUndervoltage => apply Frame.execRailUndervoltage .refl <;> rfl
  | railShort => apply Frame.execRailShort .refl <;> rfl
  | railRampComplete => exact Frame.execRailRampComplete .refl (h_pwr := rfl) ..
  | logicOverdraw => apply Frame.execLogicOverdraw .refl <;> rfl
  | storeOvervoltage => apply Frame.execStoreOvervoltage .refl <;> rfl
  | dcInputQualified => apply Frame.execDcInputQualified .refl <;> rfl
  | dcInputRange => apply Frame.execDcInputRange .refl <;> rfl
  | dcInputReversed => apply Frame.execDcInputReversed .refl <;> rfl
  | budgetSend => apply Frame.execBudgetSend .refl <;> rfl
  | dcRampComplete => exact Frame.execDcRampComplete .refl (h_pwr := rfl) ..
  | handbackComplete => apply Frame.execHandbackComplete .refl <;> rfl
  | motorRun => apply Frame.execMotorRun .refl <;> rfl
  | motorStop => apply Frame.execMotorStop .refl <;> rfl
  | speedLoopUpdate => exact Frame.execSpeedLoopUpdate .refl (h_mot := rfl) ..
  | currentControlPeriod => apply Frame.execCurrentControlPeriod .refl <;> rfl
  | motCmdLost => apply Frame.execMotCmdLost .refl <;> rfl
  | motCmdRestored => exact Frame.execMotCmdRestored .refl (h_mot := rfl) ..
  | atSpeed => apply Frame.execAtSpeed .refl <;> rfl
  | catchCheckComplete => apply Frame.execCatchCheckComplete .refl <;> rfl
  | openPhaseCheckComplete => apply Frame.execOpenPhaseCheckComplete .refl <;> rfl
  | modelIdentificationComplete => exact Frame.execModelIdentificationComplete .refl (h_mot := rfl) ..
  | initialPositionFound => apply Frame.execInitialPositionFound .refl <;> rfl
  | catchLock => exact Frame.execCatchLock .refl (h_mot := rfl) ..
  | catchOverRetry => exact Frame.execCatchOverRetry .refl (h_mot := rfl) ..
  | estimatorHandover => exact Frame.execEstimatorHandover .refl ..
  | openPhase => apply Frame.execOpenPhase .refl <;> rfl
  | stall => apply Frame.execStall .refl <;> rfl
  | overcurrentTrip => apply Frame.execOvercurrentTrip .refl <;> rfl
  | thermalSample => apply Frame.execThermalSample .refl <;> rfl
  | oscillatorRecalibration => apply Frame.execOscillatorRecalibration .refl <;> rfl
  | thermalPauseStepEnd => apply Frame.execThermalPauseStepEnd .refl <;> rfl
  | duskFinishRecheck => exact Frame.execDuskFinishRecheck .refl (h_wins := rfl) ..
  | storeConverterResume => exact Frame.execStoreConverterResume .refl (h_pwr := rfl) ..
  | storeChargingResume => exact Frame.execStoreChargingResume .refl ..
  | faultMessageAccepted => apply Frame.execFaultMessageAccepted .refl <;> rfl
  | floodClear => exact Frame.execFloodClear .refl (h_flt := rfl) ..
  | logRecordWrite => apply Frame.execLogRecordWrite .refl <;> rfl
  | nvLogWrite => apply Frame.execNvLogWrite .refl <;> rfl
  | fltPendAck => apply Frame.execFltPendAck .refl <;> rfl
  | relayReset => apply Frame.execRelayReset .refl <;> rfl
  | logEn => apply Frame.execLogEn .refl <;> rfl
  | fltLogHeadWrite => exact Frame.execFltLogHeadWrite .refl (h_flt := rfl) ..
  | fltInject => apply Frame.execFltInject .refl <;> rfl
  | runNow => exact Frame.execRunNow .refl (h_cal := rfl) ..
  | calImport => exact Frame.execCalImport .refl (h_nv := rfl) ..
  | calInstanceDue => exact Frame.execCalInstanceDue .refl (h_cal := rfl) ..
  | calMeasurementComplete => apply Frame.execCalMeasurementComplete .refl <;> rfl
  | calSlewIdleStep => exact Frame.execCalSlewIdleStep .refl (h_cal := rfl) ..
  | calOverdue => apply Frame.execCalOverdue .refl <;> rfl
  | aliasSetWrite => exact Frame.execAliasSetWrite .refl (h_form := rfl) ..
  | aliasClearWrite => exact Frame.execAliasClearWrite .refl (h_form := rfl) ..
  | memEccCorrected => apply Frame.execMemEccCorrected .refl <;> rfl
  | memEccUncorrectable => apply Frame.execMemEccUncorrectable .refl <;> rfl
  | pmcLoad => exact Frame.execPmcLoad .refl ..
  | pmcDump => apply Frame.execPmcDump .refl <;> rfl
  | dumpNow => apply Frame.execDumpNow .refl <;> rfl
  | dumpEn => apply Frame.execDumpEn .refl <;> rfl
  | tagLoad => exact Frame.execTagLoad .refl (h_pmc := rfl) ..
  | tagRecordComplete => exact Frame.execTagRecordComplete .refl (h_pmc := rfl) ..
  | tagPop => exact Frame.execTagPop .refl ..
  | calendarSecond => exact Frame.execCalendarSecond .refl (h_clk := rfl) ..
  | clockSet => apply Frame.execClockSet .refl <;> rfl
  | clkDateRead => apply Frame.execClkDateRead .refl <;> rfl
  | extest => exact Frame.execExtest .refl (h_svc := rfl) ..
  | samplePreload => exact Frame.execSamplePreload .refl (h_svc := rfl) ..
  | bypass => exact Frame.execBypass .refl (h_svc := rfl) ..
  | fwStatus => exact Frame.execFwStatus .refl (h_svc := rfl) ..
  | fwLoad => exact Frame.execFwLoad .refl (h_svc := rfl) ..
  | fwCommit => exact Frame.execFwCommit .refl (h_svc := rfl) ..
  | fwCommitComplete => apply Frame.execFwCommitComplete .refl <;> rfl
  | lockClear => apply Frame.execLockClear .refl <;> rfl
  | arpRequest => exact Frame.execArpRequest .refl ..
  | icmpEcho => exact Frame.execIcmpEcho .refl ..
  | registerReadService => exact Frame.execRegisterReadService .refl ..
  | fluidBridgeDatagram => exact Frame.execFluidBridgeDatagram .refl (h_svc := rfl) ..
  | fluidBusIdle => exact Frame.execFluidBusIdle .refl (h_svc := rfl) ..
  | encoderSupplyShort => apply Frame.execEncoderSupplyShort .refl <;> rfl
  | cueVinLow => apply Frame.execCueVinLow .refl <;> rfl
  | cuePulseEnd => apply Frame.execCuePulseEnd .refl <;> rfl
  | cueOutputOverload => apply Frame.execCueOutputOverload .refl <;> rfl
  | cueOverloadRetry => apply Frame.execCueOverloadRetry .refl <;> rfl
  | pllLossOfLock => apply Frame.execPllLossOfLock .refl <;> rfl
  | pllRelock => exact Frame.execPllRelock .refl (h_health := rfl) ..
  | lockstepDisagreement => apply Frame.execLockstepDisagreement .refl <;> rfl
  | gateDriverFeedbackFault => apply Frame.execGateDriverFeedbackFault .refl <;> rfl
  | perstRelease => exact Frame.execPerstRelease .refl (h_host := rfl) ..
  | cueVinRestored => apply Frame.execCueVinRestored .refl <;> rfl

/-- A command outside `Instr.mayChangeMode` leaves SYS_STATE as it is. -/
theorem exec_steady (c : Instr) (s : State) (h : c.mayChangeMode = false) : ∃ s', exec c s = .next s' ∧ Steady s s' := by
  cases c with
  | logicReserveReached => exact Steady.execLogicReserveReached .refl ..
  | spitTimerExpiry => exact Steady.execSpitTimerExpiry .refl ..
  | spitCycle => exact Steady.execSpitCycle .refl ..
  | arm => exact Steady.execArm .refl ..
  | live => exact Steady.execLive .refl ..
  | liveCheckComplete => exact Steady.execLiveCheckComplete .refl ..
  | store => exact Steady.execStore .refl ..
  | storeComplete => exact Steady.execStoreComplete .refl ..
  | cfgKeyStore => exact Steady.execCfgKeyStore .refl ..
  | layoutLock => exact Steady.execLayoutLock .refl ..
  | stagingWrite => exact Steady.execStagingWrite .refl ..
  | cueSafeIntervalEnd => exact Steady.execCueSafeIntervalEnd .refl ..
  | indexLatch => exact Steady.execIndexLatch .refl ..
  | standstill => exact Steady.execStandstill .refl ..
  | posPreset => exact Steady.execPosPreset .refl ..
  | posCmpWrite => exact Steady.execPosCmpWrite .refl ..
  | decoderCrossCheck => exact Steady.execDecoderCrossCheck .refl ..
  | lineref => exact Steady.execLineref .refl ..
  | linerefHeartbeat => exact Steady.execLinerefHeartbeat .refl ..
  | linerefLost => exact Steady.execLinerefLost .refl ..
  | linkDelayMeasurement => exact Steady.execLinkDelayMeasurement .refl ..
  | strobeLaunch => exact Steady.execStrobeLaunch .refl ..
  | gapSwapTimeout => exact Steady.execGapSwapTimeout .refl ..
  | pauseEnd => exact Steady.execPauseEnd .refl ..
  | laneCycleStart => exact Steady.execLaneCycleStart .refl ..
  | cyclePackComplete => exact Steady.execCyclePackComplete .refl ..
  | heaterMeasurement => exact Steady.execHeaterMeasurement .refl ..
  | hlthForce => exact Steady.execHlthForce .refl ..
  | bypassRequest => exact Steady.execBypassRequest .refl ..
  | laneParityError => exact Steady.execLaneParityError .refl ..
  | laneEnginePrepared => exact Steady.execLaneEnginePrepared .refl ..
  | rollIntervalExpiry => exact Steady.execRollIntervalExpiry .refl ..
  | rollSelfTestComplete => exact Steady.execRollSelfTestComplete .refl ..
  | documentRenderStart => exact Steady.execDocumentRenderStart .refl ..
  | documentRendered => exact Steady.execDocumentRendered .refl ..
  | prefillComplete => exact Steady.execPrefillComplete .refl ..
  | lineBufferWrite => exact Steady.execLineBufferWrite .refl ..
  | hostFacingReset => exact Steady.execHostFacingReset .refl ..
  | streamEnable => exact Steady.execStreamEnable .refl ..
  | streamDisable => exact Steady.execStreamDisable .refl ..
  | streamReset => exact Steady.execStreamReset .refl ..
  | sqDoorbell => exact Steady.execSqDoorbell .refl ..
  | cqDoorbell => exact Steady.execCqDoorbell .refl ..
  | descriptorFetch => exact Steady.execDescriptorFetch .refl ..
  | descriptorAccept => exact Steady.execDescriptorAccept .refl ..
  | nop => exact Steady.execNop .refl ..
  | copy => exact Steady.execCopy .refl ..
  | copy2d => exact Steady.execCopy2d .refl ..
  | fill => exact Steady.execFill .refl ..
  | compare => exact Steady.execCompare .refl ..
  | compose => exact Steady.execCompose .refl ..
  | slotAlloc => exact Steady.execSlotAlloc .refl ..
  | slotFree => exact Steady.execSlotFree .refl ..
  | hostReadCompletion => exact Steady.execHostReadCompletion .refl ..
  | hostReadTimeout => exact Steady.execHostReadTimeout .refl ..
  | hostReadRetry => exact Steady.execHostReadRetry .refl ..
  | unexpectedCompletion => exact Steady.execUnexpectedCompletion .refl ..
  | descriptorComplete => exact Steady.execDescriptorComplete .refl ..
  | barrierAck => exact Steady.execBarrierAck .refl ..
  | pacingResume => exact Steady.execPacingResume .refl ..
  | dmaCqStall => exact Steady.execDmaCqStall .refl ..
  | bar4Access => exact Steady.execBar4Access .refl ..
  | enum => exact Steady.execEnum .refl ..
  | join => exact Steady.execJoin .refl ..
  | joinTimeout => exact Steady.execJoinTimeout .refl ..
  | fsRd => exact Steady.execFsRd .refl ..
  | fsWr => exact Steady.execFsWr .refl ..
  | hostRd => exact Steady.execHostRd .refl ..
  | hostWr => exact Steady.execHostWr .refl ..
  | docReport => exact Steady.execDocReport .refl ..
  | data => exact Steady.execData .refl ..
  | ack => exact Steady.execAck .refl ..
  | fault => exact Steady.execFault .refl ..
  | stop => exact Steady.execStop .refl ..
  | wrap => exact Steady.execWrap .refl ..
  | budget => exact Steady.execBudget .refl ..
  | ringFrameRetry => exact Steady.execRingFrameRetry .refl ..
  | ringLinkFailure => exact Steady.execRingLinkFailure .refl ..
  | ringLinkTrained => exact Steady.execRingLinkTrained .refl ..
  | ringLinkRestore => exact Steady.execRingLinkRestore .refl ..
  | drainMarkerReturn => exact Steady.execDrainMarkerReturn .refl ..
  | ringReqTimeout => exact Steady.execRingReqTimeout .refl ..
  | ringJoinTmo => exact Steady.execRingJoinTmo .refl ..
  | tilePacketSend => exact Steady.execTilePacketSend .refl ..
  | telemetryReport => exact Steady.execTelemetryReport .refl ..
  | tileTrainTimeout => exact Steady.execTileTrainTimeout .refl ..
  | tileLogicOvercurrent => exact Steady.execTileLogicOvercurrent .refl ..
  | tileFuseClose => exact Steady.execTileFuseClose .refl ..
  | tileVppCheck => exact Steady.execTileVppCheck .refl ..
  | tileVppDischarged => exact Steady.execTileVppDischarged .refl ..
  | efuseTrip => exact Steady.execEfuseTrip .refl ..
  | tileLogicOvervoltage => exact Steady.execTileLogicOvervoltage .refl ..
  | tileLinkLost => exact Steady.execTileLinkLost .refl ..
  | hmRead => exact Steady.execHmRead .refl ..
  | hmWrite => exact Steady.execHmWrite .refl ..
  | authRead => exact Steady.execAuthRead .refl ..
  | getNonce => exact Steady.execGetNonce .refl ..
  | authAdd => exact Steady.execAuthAdd .refl ..
  | hmRetry => exact Steady.execHmRetry .refl ..
  | tileUkeyStore => exact Steady.execTileUkeyStore .refl ..
  | mainsPresent => exact Steady.execMainsPresent .refl ..
  | mainsQualified => exact Steady.execMainsQualified .refl ..
  | linkOvervoltage => exact Steady.execLinkOvervoltage .refl ..
  | linkHigh => exact Steady.execLinkHigh .refl ..
  | linkPfcStop => exact Steady.execLinkPfcStop .refl ..
  | linkStoreDischarge => exact Steady.execLinkStoreDischarge .refl ..
  | linkUndervoltage => exact Steady.execLinkUndervoltage .refl ..
  | railLimit => exact Steady.execRailLimit .refl ..
  | railUndervoltage => exact Steady.execRailUndervoltage .refl ..
  | railShort => exact Steady.execRailShort .refl ..
  | railRampComplete => exact Steady.execRailRampComplete .refl ..
  | logicOverdraw => exact Steady.execLogicOverdraw .refl ..
  | storeOvervoltage => exact Steady.execStoreOvervoltage .refl ..
  | dcInputQualified => exact Steady.execDcInputQualified .refl ..
  | dcInputRange => exact Steady.execDcInputRange .refl ..
  | dcInputReversed => exact Steady.execDcInputReversed .refl ..
  | budgetSend => exact Steady.execBudgetSend .refl ..
  | dcRampComplete => exact Steady.execDcRampComplete .refl ..
  | motorRun => exact Steady.execMotorRun .refl ..
  | motorStop => exact Steady.execMotorStop .refl ..
  | speedLoopUpdate => exact Steady.execSpeedLoopUpdate .refl ..
  | currentControlPeriod => exact Steady.execCurrentControlPeriod .refl ..
  | motCmdLost => exact Steady.execMotCmdLost .refl ..
  | motCmdRestored => exact Steady.execMotCmdRestored .refl ..
  | atSpeed => exact Steady.execAtSpeed .refl ..
  | catchCheckComplete => exact Steady.execCatchCheckComplete .refl ..
  | openPhaseCheckComplete => exact Steady.execOpenPhaseCheckComplete .refl ..
  | modelIdentificationComplete => exact Steady.execModelIdentificationComplete .refl ..
  | initialPositionFound => exact Steady.execInitialPositionFound .refl ..
  | catchLock => exact Steady.execCatchLock .refl ..
  | catchOverRetry => exact Steady.execCatchOverRetry .refl ..
  | estimatorHandover => exact Steady.execEstimatorHandover .refl ..
  | openPhase => exact Steady.execOpenPhase .refl ..
  | stall => exact Steady.execStall .refl ..
  | overcurrentTrip => exact Steady.execOvercurrentTrip .refl ..
  | oscillatorRecalibration => exact Steady.execOscillatorRecalibration .refl ..
  | duskFinishRecheck => exact Steady.execDuskFinishRecheck .refl ..
  | storeChargingResume => exact Steady.execStoreChargingResume .refl ..
  | floodClear => exact Steady.execFloodClear .refl ..
  | nvLogWrite => exact Steady.execNvLogWrite .refl ..
  | fltPendAck => exact Steady.execFltPendAck .refl ..
  | relayReset => exact Steady.execRelayReset .refl ..
  | logEn => exact Steady.execLogEn .refl ..
  | fltLogHeadWrite => exact Steady.execFltLogHeadWrite .refl ..
  | fltInject => exact Steady.execFltInject .refl ..
  | runNow => exact Steady.execRunNow .refl ..
  | calImport => exact Steady.execCalImport .refl ..
  | calInstanceDue => exact Steady.execCalInstanceDue .refl ..
  | calMeasurementComplete => exact Steady.execCalMeasurementComplete .refl ..
  | calSlewIdleStep => exact Steady.execCalSlewIdleStep .refl ..
  | calOverdue => exact Steady.execCalOverdue .refl ..
  | aliasSetWrite => exact Steady.execAliasSetWrite .refl ..
  | aliasClearWrite => exact Steady.execAliasClearWrite .refl ..
  | memEccCorrected => exact Steady.execMemEccCorrected .refl ..
  | memEccUncorrectable => exact Steady.execMemEccUncorrectable .refl ..
  | pmcLoad => exact Steady.execPmcLoad .refl ..
  | pmcDump => exact Steady.execPmcDump .refl ..
  | dumpNow => exact Steady.execDumpNow .refl ..
  | dumpEn => exact Steady.execDumpEn .refl ..
  | tagLoad => exact Steady.execTagLoad .refl ..
  | tagRecordComplete => exact Steady.execTagRecordComplete .refl ..
  | tagPop => exact Steady.execTagPop .refl ..
  | calendarSecond => exact Steady.execCalendarSecond .refl ..
  | clockSet => exact Steady.execClockSet .refl ..
  | extest => exact Steady.execExtest .refl ..
  | samplePreload => exact Steady.execSamplePreload .refl ..
  | bypass => exact Steady.execBypass .refl ..
  | fwStatus => exact Steady.execFwStatus .refl ..
  | fwLoad => exact Steady.execFwLoad .refl ..
  | fwCommit => exact Steady.execFwCommit .refl ..
  | fwCommitComplete => exact Steady.execFwCommitComplete .refl ..
  | lockClear => exact Steady.execLockClear .refl ..
  | arpRequest => exact Steady.execArpRequest .refl ..
  | icmpEcho => exact Steady.execIcmpEcho .refl ..
  | registerReadService => exact Steady.execRegisterReadService .refl ..
  | fluidBridgeDatagram => exact Steady.execFluidBridgeDatagram .refl ..
  | fluidBusIdle => exact Steady.execFluidBusIdle .refl ..
  | encoderSupplyShort => exact Steady.execEncoderSupplyShort .refl ..
  | cueVinLow => exact Steady.execCueVinLow .refl ..
  | cuePulseEnd => exact Steady.execCuePulseEnd .refl ..
  | cueOutputOverload => exact Steady.execCueOutputOverload .refl ..
  | cueOverloadRetry => exact Steady.execCueOverloadRetry .refl ..
  | pllLossOfLock => exact Steady.execPllLossOfLock .refl ..
  | pllRelock => exact Steady.execPllRelock .refl ..
  | lockstepDisagreement => exact Steady.execLockstepDisagreement .refl ..
  | gateDriverFeedbackFault => exact Steady.execGateDriverFeedbackFault .refl ..
  | perstRelease => exact Steady.execPerstRelease .refl ..
  | cueVinRestored => exact Steady.execCueVinRestored .refl ..
  | _ => exact absurd h (by simp [Instr.mayChangeMode])

/-- Settles O7: a command answers one next state, and the laws of the commands say that it leaves SYS_STATE as it is. -/
theorem stateRegisterUnchanged : Obligations.StateRegisterUnchanged := by
  intro c s s' he hc
  obtain ⟨z, hz, hsteady⟩ := exec_steady c s hc
  cases he.symm.trans hz
  exact ⟨hsteady, hsteady.st⟩

/-- Settles O8: what a command puts out lies in its frame, which has a strobe only where Instr.mayStrobe says so. -/
theorem onlyTwoCommandsStrobe : Obligations.OnlyTwoCommandsStrobe := by
  intro c s s' he hc
  obtain ⟨z, hz, hframe⟩ := exec_frame c s
  cases he.symm.trans hz
  exact Strobeless.of_frame hframe hc

end Sys2Proof.Machine
end

section
/-!
SUPPORT. Reset, power-up, the boot sequence and the end of power (R42, R47, R48, R55 to R57, R349, R420, R471): what each command
answers when it acts.
-/
namespace Sys2Proof.Machine

theorem State.reset_wf : State.reset.wf = true := by
  rw [State.wf_iff]
  exact ⟨rfl, rfl, rfl, rfl, rfl, rfl, rfl, rfl, rfl⟩

/-- Settles O3, by evaluating the reset state part by part. -/
theorem resetState : Obligations.ResetState :=
  ⟨State.reset_wf, rfl, rfl, rfl, rfl, rfl, rfl, rfl, rfl, rfl, rfl, rfl⟩

/-! ### The alarm contact (R420) -/

theorem State.setAlarm_alarmOpen (s : State) (op : Bool) : (s.setAlarm op).svc.alarmOpen = op := by
  unfold State.setAlarm
  split
  · next h => exact eq_of_beq h
  · rfl

theorem Frame.of_setAlarm (s : State) (op : Bool) : Frame { svc := true } s (s.setAlarm op) :=
  Frame.refl.setAlarm op rfl

@[simp] theorem State.setAlarm_sys (s : State) (op : Bool) : (s.setAlarm op).sys = s.sys :=
  (Frame.of_setAlarm s op).sys.resolve_left (by decide)

@[simp] theorem State.setAlarm_nv (s : State) (op : Bool) : (s.setAlarm op).nv = s.nv :=
  (Frame.of_setAlarm s op).nv.resolve_left (by decide)

@[simp] theorem State.setAlarm_ident (s : State) (op : Bool) : (s.setAlarm op).ident = s.ident :=
  (Frame.of_setAlarm s op).ident.resolve_left (by decide)

@[simp] theorem State.setAlarm_mem (s : State) (op : Bool) : (s.setAlarm op).mem = s.mem := by
  unfold State.setAlarm; split <;> rfl

/-! ### Power-up (R47, R55, R61, R471) -/

theorem mainsApplied_boots {s : State} (t straps : Nat) (dc ok : Bool) (h : s.sys.phase = .unpowered ∨ s.sys.phase = .logicOff) :
    ∃ s', exec (.mainsApplied t straps dc ok) s = .next s' ∧ s'.sys.phase = .booting ∧ s'.sys.powerOn = max s.now t ∧
      s'.ident.straps = straps % 4096 / 8 * 8 ∧ s'.nv = s.nv ∧ s'.mem = State.reset.mem := by
  have hoff : ((s.at t).sys.phase == .unpowered || (s.at t).sys.phase == .logicOff) = true := by simpa using h
  refine ⟨_, rfl, ?_⟩
  simp only [hoff, if_true]
  cases dc <;> simp [State.setFields, State.logicReset] <;> rfl

/-! ### The firmware check (R55, R57) -/

theorem firmwareCheck_runs {s : State} (t : Nat) {a b : Bool} (hp : s.sys.phase = .booting) (hf : s.sys.fwChecked = false)
    (h : (if bit s.ident.straps 3 then b else a) = true) :
    ∃ s', exec (.firmwareCheckComplete t a b) s = .next s' ∧ s'.sys.fwChecked = true ∧
      s'.ident.fwSlotB = bit s.ident.straps 3 := by
  refine ⟨_, rfl, ?_⟩
  simp [hp, hf, h]

/-- The module as a check that no slot passes leaves it, before it enters Midnight (R57). -/
def State.bootFailed (s : State) : State :=
  ({ s with sys := { s.sys with fwChecked := true, phase := .up } }).raise kSYS_BOOT_FAIL 0

theorem exec_firmwareCheck_failed {s : State} (t : Nat) (hp : s.sys.phase = .booting) (hf : s.sys.fwChecked = false) :
    exec (.firmwareCheckComplete t false false) s = .next ((s.at t).bootFailed.enterMidnight 0x10) := by
  have hdue : ((s.at t).sys.phase == .booting && !(s.at t).sys.fwChecked) = true := by simp [hp, hf]
  show execFirmwareCheckComplete t false false s = _
  simp only [execFirmwareCheckComplete, hdue, if_true, ite_self, Bool.false_eq_true, if_false]
  rfl

theorem firmwareCheck_fails {s : State} (t : Nat) (hp : s.sys.phase = .booting) (hf : s.sys.fwChecked = false) :
    ∃ s', exec (.firmwareCheckComplete t false false) s = .next s' ∧ s'.st = MIDNIGHT ∧ s'.f SYS_STATE_CAUSE = 0x10 := by
  obtain ⟨hst, -, hcause⟩ := (s.at t).bootFailed.enterMidnight_state 0x10 (by decide)
  exact ⟨_, exec_firmwareCheck_failed t hp hf, hst, hcause⟩

/-! ### The boot sequence (R43, R55, R56) -/

/-- Mains has been present for 200 ms since power-up (R343). -/
def State.bootQualified (s : State) : Bool :=
  match s.pwr.mainsAt with
  | some x => decide (x + ms 200 ≤ s.now)
  | none => false

/-- The module as its boot sequence leaves it, before it enters Night (R55, R56). -/
def State.booted (s : State) : State :=
  ({ s with sys := { s.sys with phase := .up },
            pwr := { s.pwr with pfcOn := s.bootQualified, storeMode := if s.fb PWR_STORE_CHG_INHIBIT then 0 else 1 } }).setFb
    PWR_SRC_MAINS_QUAL s.bootQualified

theorem exec_bootSequenceComplete {s : State} (t : Nat) (hp : s.sys.phase = .booting) (hf : s.sys.fwChecked = true) :
    exec (.bootSequenceComplete t) s = .next ((s.at t).booted.enterNight 0) := by
  have hdue : ((s.at t).sys.phase == .booting && (s.at t).sys.fwChecked) = true := by simp [hp, hf]
  show execBootSequenceComplete t s = _
  simp only [execBootSequenceComplete, hdue, if_true]
  rfl

theorem bootSequence_entersNight {s : State} (t : Nat) (hp : s.sys.phase = .booting) (hf : s.sys.fwChecked = true) :
    ∃ s', exec (.bootSequenceComplete t) s = .next s' ∧ s'.st = NIGHT ∧ s'.f SYS_STATE_CAUSE = 0 := by
  obtain ⟨hst, -, hcause⟩ := (s.at t).booted.enterNight_state 0 (by decide)
  exact ⟨_, exec_bootSequenceComplete t hp hf, hst, hcause⟩

/-! ### The end of power (R47, R48, R349, R420) -/

theorem logicReserve_turnsOff {s : State} (t : Nat) (hp : s.sys.phase = .up) (hst : s.st = NIGHT)
    (hgone : s.sys.mainsGone.isSome = true) (hstore : s.f PWR_STORE_E_J ≤ 150) :
    ∃ s', exec (.logicReserveReached t) s = .next s' ∧ s'.sys.phase = .logicOff ∧ s'.svc.alarmOpen = true ∧ s'.nv = s.nv := by
  have hlow : (s.at t).f PWR_STORE_E_J ≤ 150 := by rwa [State.f_at s t PWR_STORE_E_J]
  refine ⟨_, rfl, ?_⟩
  simp [hp, hst, hgone, hlow, State.setAlarm_alarmOpen]

theorem powerCycle_resets {s : State} {t x : Nat} (hgone : s.sys.mainsGone = some x) (hp : s.sys.phase = .up)
    (hst : s.st = MIDNIGHT) (hx : x + sec 2 ≤ max s.now t) :
    ∃ s', exec (.powerCycle t) s = .next s' ∧ s'.sys.phase = .unpowered ∧ s'.nv = s.nv ∧ s'.regs = [] := by
  refine ⟨_, rfl, ?_⟩
  simp [hgone, hp, hst, hx, State.logicReset]

/-- Settles O12: each command as the operation it comes to, Midnight and Night by the laws of entering them. -/
theorem powerUpAndDown : Obligations.PowerUpAndDown := by
  refine ⟨?_, ?_, ?_, ?_, ?_⟩
  · intro s t straps dc ok h
    exact mainsApplied_boots t straps dc ok h
  · intro s t a b hp hf
    refine ⟨fun h => firmwareCheck_runs t hp hf h, ?_⟩
    rintro rfl rfl
    exact firmwareCheck_fails t hp hf
  · intro s t hp hf
    exact bootSequence_entersNight t hp hf
  · intro s t hp hst hgone hstore
    exact logicReserve_turnsOff t hp hst hgone hstore
  · intro s t x hgone hp hst hx
    exact powerCycle_resets hgone hp hst hx

end Sys2Proof.Machine
end

section
/-!
SUPPORT. The triggers of SYS_CTRL (R43, R49 to R51, R68, R506): what each stage of a write comes to in the states where it acts,
and that it changes neither the state nor how it was entered elsewhere.
-/
namespace Sys2Proof.Machine
variable {s : State}

/-! ### The commands as writes of SYS_CTRL (R49) -/

theorem exec_sysCtrlDawn (t : Nat) {v : Word} (x : DawnTests) (hw : s.writable rSYS_CTRL = true) (hv : SYS_CTRL_DAWN.get v = 1) :
    exec (.sysCtrlDawn t v x) s = .next ((s.at t).writeSysCtrl v x) := by
  show execSysCtrlDawn t v x s = _
  rw [execSysCtrlDawn, State.onWrite_at s t _ _ hw, if_pos hv]

theorem exec_sysCtrlNight (t : Nat) {v : Word} (hw : s.writable rSYS_CTRL = true) (hv : SYS_CTRL_NIGHT.get v = 1) :
    exec (.sysCtrlNight t v) s = .next ((s.at t).writeSysCtrl v {}) := by
  show execSysCtrlNight t v s = _
  rw [execSysCtrlNight, State.onWrite_at s t _ _ hw, if_pos hv]

theorem exec_runRequest (t : Nat) {v : Word} (hw : s.writable rSYS_CTRL = true) (hv : SYS_CTRL_RUN.get v = 1) :
    exec (.runRequest t v) s = .next ((s.at t).writeSysCtrl v {}) := by
  show execRunRequest t v s = _
  rw [execRunRequest, State.onWrite_at s t _ _ hw, if_pos hv]

theorem exec_stopRequest (t : Nat) {v : Word} (hw : s.writable rSYS_CTRL = true) (hv : SYS_CTRL_RUN.get v = 0)
    (hrun : s.fb SYS_CTRL_RUN = true) : exec (.stopRequest t v) s = .next ((s.at t).writeSysCtrl v {}) := by
  show execStopRequest t v s = _
  rw [execStopRequest, State.onWrite_at s t _ _ hw, if_pos (by simp [hv, State.fb_at s t SYS_CTRL_RUN, hrun])]

theorem exec_sysCtrlAbandon (t : Nat) {v : Word} (hw : s.writable rSYS_CTRL = true) (hv : SYS_CTRL_ABANDON.get v = 1) :
    exec (.sysCtrlAbandon t v) s = .next ((s.at t).writeSysCtrl v {}) := by
  show execSysCtrlAbandon t v s = _
  rw [execSysCtrlAbandon, State.onWrite_at s t _ _ hw, if_pos hv]

/-! ### The requests, where they act and where they do not -/

theorem State.abandon_idle (h : s.st ≠ DUSK) : s.abandon = s := if_neg h

theorem State.stopRequest_idle (h1 : s.st ≠ NOON) (h2 : s.st ≠ EVENING) :
    s.stopRequest = s.setF SYS_STATE_RUN_PENDING 0 := by
  have hst : (s.setF SYS_STATE_RUN_PENDING 0).st = s.st := (SameMode.refl.setF _ _ (by decide)).st
  rw [State.stopRequest, if_neg (by simp [hst, h1, h2])]

theorem State.stopRequest_noon (h : s.st = NOON) :
    s.stopRequest = (s.setF SYS_STATE_RUN_PENDING 0).enterDusk 5 false := by
  have hst : (s.setF SYS_STATE_RUN_PENDING 0).st = NOON := ((SameMode.refl.setF _ _ (by decide)).st).trans h
  have hfunc : (s.setF SYS_STATE_RUN_PENDING 0).func = NOON := by rw [State.func, hst, if_neg (by decide)]
  rw [State.stopRequest, if_pos (by simp [hst, hfunc])]

theorem State.runRequest_night (h : s.st = NIGHT) :
    s.runRequest = if s.fb FLT_PEND_STOP then (s.setF SYS_STATE_RUN_PENDING 0).raise kSYS_NOTE rSYS_CTRL else s := by
  simp [State.runRequest, h, NIGHT, MORNING, DAWN, DUSK, EVENING]

/-- A run request in Morning with the store ready and no STOP pending (R50). -/
theorem State.runRequest_ready (hpend : s.fb FLT_PEND_STOP = false) (hst : s.st = MORNING)
    (hready : s.fb SYS_STATE_HOLDUP_READY = true) : s.runRequest = s.enterNoon 4 := by
  simp [State.runRequest, hpend, hst, hready]

/-- What a write's RUN bit brings: a stop request when it falls, a run request when it is 1 (R506). -/
def State.runBit (s : State) (was on : Bool) : State :=
  let z := if was && !on then s.stopRequest else s
  if on then z.runRequest else z

/-- Outside Morning, Noon and Evening the RUN bit causes no transition (R50). -/
theorem SameMode.runBit_idle (h1 : s.st ≠ MORNING) (h2 : s.st ≠ NOON) (h3 : s.st ≠ EVENING) (was on : Bool) :
    SameMode s (s.runBit was on) := by
  have hstop : SameMode s (if was && !on then s.stopRequest else s) := .ite (.stopRequest_idle s h2 h3) .refl
  unfold State.runBit
  refine .ite (hstop.trans (.runRequest_idle _ ?_ ?_)) hstop
  · rwa [hstop.st]
  · rw [hstop.st]
    exact fun h => h3 h.1

/-- In Night the RUN bit leaves the source machine's register as it is. -/
theorem Keep.runBit_night (h : s.st = NIGHT) (was on : Bool) : Keep rPWR_SRC s (s.runBit was on) := by
  have hpend {z : State} (k : Keep rPWR_SRC s z) : Keep rPWR_SRC s (z.setF SYS_STATE_RUN_PENDING 0) := k.setF _ _ (by decide)
  have hstop : Keep rPWR_SRC s (if was && !on then s.stopRequest else s) := by
    rw [State.stopRequest_idle (by rw [h]; decide) (by rw [h]; decide)]
    exact .ite (hpend .refl) .refl
  have hst : (if was && !on then s.stopRequest else s).st = NIGHT := by
    have k : SameMode s (if was && !on then s.stopRequest else s) :=
      .ite (.stopRequest_idle s (by rw [h]; decide) (by rw [h]; decide)) .refl
    rw [k.st, h]
  unfold State.runBit
  refine .ite ?_ hstop
  rw [State.runRequest_night hst]
  exact .ite ((hpend hstop).raise _ _) hstop

/-- NIGHT = 1 in Dawn (R43). -/
theorem State.nightRequest_dawn (h : s.st = DAWN) : s.nightRequest = (s.setF SYS_STATE_STANDALONE 0).enterNight 1 := by
  have hst : (s.setF SYS_STATE_STANDALONE 0).st = DAWN := ((SameMode.refl.setF _ _ (by decide)).st).trans h
  simp [State.nightRequest, hst]

/-- NIGHT = 1 in Morning, Noon and Evening (R43). -/
theorem State.nightRequest_day (h : s.st = MORNING ∨ s.st = NOON ∨ s.st = EVENING) :
    s.nightRequest = (s.setF SYS_STATE_STANDALONE 0).enterDusk 5 true := by
  have hst : (s.setF SYS_STATE_STANDALONE 0).st = s.st := (SameMode.refl.setF _ _ (by decide)).st
  have hdawn : s.st ≠ DAWN := by rcases h with h | h | h <;> rw [h] <;> decide
  simp only [State.nightRequest, hst]
  rw [if_neg hdawn, if_pos (by simpa [or_assoc] using h)]

/-! ### A write of SYS_CTRL (R49) -/

/-- A write without NIGHT, outside Dusk: RUN acts, then DAWN. -/
theorem writeSysCtrl_day {v : Word} (x : DawnTests) (hn : SYS_CTRL_NIGHT.get v = 0) (hst : s.st ≠ DUSK) :
    s.writeSysCtrl v x =
      (let z := (ctrlBits s v).runBit (s.fb SYS_CTRL_RUN) (SYS_CTRL_RUN.get v == 1)
       if (SYS_CTRL_DAWN.get v == 1) && z.st = NIGHT && z.fb PWR_SRC_MAINS_QUAL then z.enterDawn 1 x else z) := by
  have hidle : (ctrlBits s v).abandon = ctrlBits s v := State.abandon_idle (by rwa [(ctrlBits_sameMode s v).st])
  simp only [writeSysCtrl_eq, hidle, ite_self, hn]
  rfl

/-- A write with NIGHT and without DAWN, outside Dusk: NIGHT acts, then RUN. -/
theorem writeSysCtrl_night {v : Word} (x : DawnTests) (hn : SYS_CTRL_NIGHT.get v = 1) (hd : SYS_CTRL_DAWN.get v = 0)
    (hst : s.st ≠ DUSK) :
    s.writeSysCtrl v x = (ctrlBits s v).nightRequest.runBit (s.fb SYS_CTRL_RUN) (SYS_CTRL_RUN.get v == 1) := by
  have hidle : (ctrlBits s v).abandon = ctrlBits s v := State.abandon_idle (by rwa [(ctrlBits_sameMode s v).st])
  simp only [writeSysCtrl_eq, hidle, ite_self, hn, hd]
  rfl

/-- A write whose DAWN finds the engine outside Night ends with what RUN brought. -/
theorem writeSysCtrl_awake {v : Word} (x : DawnTests) (hn : SYS_CTRL_NIGHT.get v = 0) (hst : s.st ≠ DUSK) {z : State}
    (hz : (ctrlBits s v).runBit (s.fb SYS_CTRL_RUN) (SYS_CTRL_RUN.get v == 1) = z) (hawake : z.st ≠ NIGHT) :
    s.writeSysCtrl v x = z := by
  rw [writeSysCtrl_day x hn hst, hz]
  exact if_neg (by simp [hawake])

/-! ### The claims, one by one -/

theorem sysCtrlDawn_begins (t : Nat) {v : Word} (x : DawnTests) (hw : s.writable rSYS_CTRL = true) (hd : SYS_CTRL_DAWN.get v = 1)
    (hn : SYS_CTRL_NIGHT.get v = 0) (hst : s.st = NIGHT) (hq : s.fb PWR_SRC_MAINS_QUAL = true) :
    ∃ s', exec (.sysCtrlDawn t v x) s = .next s' ∧ s'.st = DAWN ∧ s'.f SYS_STATE_PREV = NIGHT ∧ s'.f SYS_STATE_CAUSE = 1 := by
  have hst' : (s.at t).st = NIGHT := by rw [State.st_at, hst]
  have hbits : (ctrlBits (s.at t) v).st = NIGHT := (ctrlBits_sameMode _ v).st.trans hst'
  have hmode := SameMode.runBit_idle (by rw [hbits]; decide) (by rw [hbits]; decide) (by rw [hbits]; decide)
    ((s.at t).fb SYS_CTRL_RUN) (SYS_CTRL_RUN.get v == 1)
  have hqual := (Keep.runBit_night hbits ((s.at t).fb SYS_CTRL_RUN) (SYS_CTRL_RUN.get v == 1)).fb PWR_SRC_MAINS_QUAL
  rw [ctrlBits_fb _ v _ (by decide), State.fb_at s t PWR_SRC_MAINS_QUAL, hq] at hqual
  have hnight := hmode.st.trans hbits
  refine ⟨_, exec_sysCtrlDawn t x hw hd, ?_⟩
  rw [writeSysCtrl_day x hn (by rw [hst']; decide)]
  simp only [hd, hnight, hqual, beq_self_eq_true, decide_true, Bool.and_self, if_true]
  obtain ⟨h1, h2, h3⟩ := State.enterDawn_state _ 1 x (by decide)
  exact ⟨h1, h2.trans hnight, h3⟩

theorem sysCtrlNight_endsDawn (t : Nat) {v : Word} (hw : s.writable rSYS_CTRL = true) (hn : SYS_CTRL_NIGHT.get v = 1)
    (hd : SYS_CTRL_DAWN.get v = 0) (hst : s.st = DAWN) :
    ∃ s', exec (.sysCtrlNight t v) s = .next s' ∧ s'.st = NIGHT ∧ s'.f SYS_STATE_PREV = DAWN := by
  have hst' : (s.at t).st = DAWN := by rw [State.st_at, hst]
  have hbits : (ctrlBits (s.at t) v).st = DAWN := (ctrlBits_sameMode _ v).st.trans hst'
  have halone : ((ctrlBits (s.at t) v).setF SYS_STATE_STANDALONE 0).st = DAWN :=
    (SameMode.refl.setF _ _ (by decide)).st.trans hbits
  obtain ⟨h1, h2, -⟩ := State.enterNight_state ((ctrlBits (s.at t) v).setF SYS_STATE_STANDALONE 0) 1 (by decide)
  refine ⟨_, exec_sysCtrlNight t hw hn, ?_⟩
  rw [writeSysCtrl_night {} hn hd (by rw [hst']; decide), State.nightRequest_dawn hbits]
  have hmode := SameMode.runBit_idle (by rw [h1]; decide) (by rw [h1]; decide) (by rw [h1]; decide)
    ((s.at t).fb SYS_CTRL_RUN) (SYS_CTRL_RUN.get v == 1)
  exact ⟨hmode.st.trans h1, hmode.prev.trans (h2.trans halone)⟩

theorem sysCtrlNight_endsDay (t : Nat) {v : Word} (hw : s.writable rSYS_CTRL = true) (hn : SYS_CTRL_NIGHT.get v = 1)
    (hd : SYS_CTRL_DAWN.get v = 0) (hst : s.st = MORNING ∨ s.st = NOON ∨ s.st = EVENING) :
    ∃ s', exec (.sysCtrlNight t v) s = .next s' ∧ s'.st = DUSK ∧ s'.f SYS_STATE_PREV = s.st ∧ s'.f SYS_STATE_CAUSE = 5 := by
  have hbits : (ctrlBits (s.at t) v).st = s.st := (ctrlBits_sameMode _ v).st.trans (State.st_at s t)
  have halone : ((ctrlBits (s.at t) v).setF SYS_STATE_STANDALONE 0).st = s.st :=
    (SameMode.refl.setF _ _ (by decide)).st.trans hbits
  have hdusk : (s.at t).st ≠ DUSK := by
    rw [State.st_at]; rcases hst with h | h | h <;> rw [h] <;> decide
  obtain ⟨h1, h2, h3⟩ := State.enterDusk_state ((ctrlBits (s.at t) v).setF SYS_STATE_STANDALONE 0) 5 true (by decide)
  refine ⟨_, exec_sysCtrlNight t hw hn, ?_⟩
  rw [writeSysCtrl_night {} hn hd hdusk, State.nightRequest_day (by rwa [hbits])]
  have hmode := SameMode.runBit_idle (by rw [h1]; decide) (by rw [h1]; decide) (by rw [h1]; decide)
    ((s.at t).fb SYS_CTRL_RUN) (SYS_CTRL_RUN.get v == 1)
  exact ⟨hmode.st.trans h1, hmode.prev.trans (h2.trans halone), hmode.cause.trans h3⟩

theorem runRequest_entersNoon (t : Nat) {v : Word} (hw : s.writable rSYS_CTRL = true) (hr : SYS_CTRL_RUN.get v = 1)
    (hn : SYS_CTRL_NIGHT.get v = 0) (hst : s.st = MORNING) (hready : s.fb SYS_STATE_HOLDUP_READY = true)
    (hpend : s.fb FLT_PEND_STOP = false) :
    ∃ s', exec (.runRequest t v) s = .next s' ∧ s'.st = NOON ∧ s'.f SYS_STATE_PREV = MORNING ∧ s'.f SYS_STATE_CAUSE = 4 := by
  have hst' : (s.at t).st = MORNING := by rw [State.st_at, hst]
  have hbits : (ctrlBits (s.at t) v).st = MORNING := (ctrlBits_sameMode _ v).st.trans hst'
  have hready' : (ctrlBits (s.at t) v).fb SYS_STATE_HOLDUP_READY = true := by
    rw [ctrlBits_fb _ v _ (by decide), State.fb_at s t SYS_STATE_HOLDUP_READY, hready]
  have hpend' : (ctrlBits (s.at t) v).fb FLT_PEND_STOP = false := by
    rw [ctrlBits_fb _ v _ (by decide), State.fb_at s t FLT_PEND_STOP, hpend]
  have hrun : (ctrlBits (s.at t) v).runBit ((s.at t).fb SYS_CTRL_RUN) (SYS_CTRL_RUN.get v == 1) =
      (ctrlBits (s.at t) v).enterNoon 4 := by
    simp [State.runBit, hr, State.runRequest_ready hpend' hbits hready']
  obtain ⟨h1, h2, h3⟩ := State.enterNoon_state (ctrlBits (s.at t) v) 4 (by decide)
  refine ⟨_, exec_runRequest t hw hr, ?_⟩
  rw [writeSysCtrl_awake {} hn (by rw [hst']; decide) hrun (by rw [h1]; decide)]
  exact ⟨h1, h2.trans hbits, h3⟩

theorem stopRequest_entersDusk (t : Nat) {v : Word} (hw : s.writable rSYS_CTRL = true) (hr : SYS_CTRL_RUN.get v = 0)
    (hwas : s.fb SYS_CTRL_RUN = true) (hn : SYS_CTRL_NIGHT.get v = 0) (hst : s.st = NOON) :
    ∃ s', exec (.stopRequest t v) s = .next s' ∧ s'.st = DUSK ∧ s'.f SYS_STATE_PREV = NOON ∧ s'.f SYS_STATE_CAUSE = 5 := by
  have hst' : (s.at t).st = NOON := by rw [State.st_at, hst]
  have hbits : (ctrlBits (s.at t) v).st = NOON := (ctrlBits_sameMode _ v).st.trans hst'
  have hstop : (ctrlBits (s.at t) v).runBit ((s.at t).fb SYS_CTRL_RUN) (SYS_CTRL_RUN.get v == 1) =
      ((ctrlBits (s.at t) v).setF SYS_STATE_RUN_PENDING 0).enterDusk 5 false := by
    simp [State.runBit, hr, State.fb_at s t SYS_CTRL_RUN, hwas, State.stopRequest_noon hbits]
  obtain ⟨h1, h2, h3⟩ := State.enterDusk_state ((ctrlBits (s.at t) v).setF SYS_STATE_RUN_PENDING 0) 5 false (by decide)
  refine ⟨_, exec_stopRequest t hw hr hwas, ?_⟩
  rw [writeSysCtrl_awake {} hn (by rw [hst']; decide) hstop (by rw [h1]; decide)]
  exact ⟨h1, h2.trans ((SameMode.refl.setF _ _ (by decide)).st.trans hbits), h3⟩

/-- ABANDON in Dusk, with nothing else in the write that acts (R51). -/
theorem writeSysCtrl_abandon {v : Word} (x : DawnTests) (ha : SYS_CTRL_ABANDON.get v = 1) (hn : SYS_CTRL_NIGHT.get v = 0)
    (hr : SYS_CTRL_RUN.get v = 0) (hwas : s.fb SYS_CTRL_RUN = false) (hst : s.st = DUSK) :
    s.writeSysCtrl v x = (ctrlBits s v).stopDocs := by
  have hbits : (ctrlBits s v).st = DUSK := (ctrlBits_sameMode s v).st.trans hst
  have hdocs : (ctrlBits s v).stopDocs.st ≠ NIGHT := by
    rw [(Steady.refl.stopDocs).st, hbits]; decide
  simp [writeSysCtrl_eq, ha, hn, hr, hwas, State.abandon, hbits, hdocs]

theorem sysCtrlAbandon_stops (t : Nat) {v : Word} {w : Nat} {d : Doc} (hw : s.writable rSYS_CTRL = true)
    (ha : SYS_CTRL_ABANDON.get v = 1) (hn : SYS_CTRL_NIGHT.get v = 0) (hr : SYS_CTRL_RUN.get v = 0)
    (hwas : s.fb SYS_CTRL_RUN = false) (hst : s.st = DUSK) (hdoc : (s.win w).doc = some d) (hopen : d.stopped = false) :
    ∃ s' d', exec (.sysCtrlAbandon t v) s = .next s' ∧ s'.st = DUSK ∧ (s'.win w).doc = some d' ∧ d'.stopReq = true := by
  have hst' : (s.at t).st = DUSK := by rw [State.st_at, hst]
  have hbits : (ctrlBits (s.at t) v).st = DUSK := (ctrlBits_sameMode _ v).st.trans hst'
  have hdoc' : ((ctrlBits (s.at t) v).win w).doc = some d := by
    show ((s.at t).win w).doc = some d
    rw [State.at_win, hdoc]
  obtain ⟨d', hd', hreq⟩ := askStop_fold _ _ w d hdoc' hopen (.inr (mem_openDocs hdoc'))
  refine ⟨_, d', exec_sysCtrlAbandon t hw ha, ?_, ?_, hreq⟩
  · rw [writeSysCtrl_abandon {} ha hn hr (by rwa [State.fb_at s t SYS_CTRL_RUN]) hst', (Steady.refl.stopDocs).st, hbits]
  · rw [writeSysCtrl_abandon {} ha hn hr (by rwa [State.fb_at s t SYS_CTRL_RUN]) hst']
    exact hd'

/-- Settles O13: each trigger by the stage of the write that acts, the others by the laws that they cause no transition. -/
theorem sysCtrlTriggers : Obligations.SysCtrlTriggers := by
  refine ⟨?_, ?_, ?_, ?_, ?_⟩
  · intro s t v x hw hd hn hst hq
    exact sysCtrlDawn_begins t x hw hd hn hst hq
  · intro s t v hw hn hd
    exact ⟨sysCtrlNight_endsDawn t hw hn hd, sysCtrlNight_endsDay t hw hn hd⟩
  · intro s t v hw hr hn hst hready hpend
    exact runRequest_entersNoon t hw hr hn hst hready hpend
  · intro s t v hw hr hwas hn hst
    exact stopRequest_entersDusk t hw hr hwas hn hst
  · intro s t v w d hw ha hn hr hwas hst hdoc hopen
    exact sysCtrlAbandon_stops t hw ha hn hr hwas hst hdoc hopen

end Sys2Proof.Machine
end

section
/-!
SUPPORT. Mains and the source machine (R43, R45, R341, R343, R359): what each operation on the power block changes of PWR_SRC and of
the broker's own state, and each command as one operation under the conditions that let it act.
-/
namespace Sys2Proof.Machine
variable {s : State}

/-! ### The registers that the cue lines and a change of state leave -/

theorem State.driveCue_regs (s : State) (n : Nat) : (s.driveCue n).regs = s.regs := by
  unfold State.driveCue
  refine ite_keeps State.regs ?_ ?_
  · exact ite_keeps State.regs (State.raise_regs ..) rfl
  · rw [State.emit_regs]
    exact ite_keeps State.regs (State.raise_regs ..) rfl

theorem State.showCues_regs (s : State) : s.showCues.regs = s.regs :=
  foldl_keeps State.regs _ _ fun z n _ => z.driveCue_regs n

theorem Keep.showCues {o : Nat} {s₀ : State} (h : Keep o s₀ s) : Keep o s₀ s.showCues := h.regs s.showCues_regs

/-- Entering a state writes SYS_STATE and no other register (R43). -/
theorem Keep.goTo {o : Nat} {s₀ : State} (h : Keep o s₀ s) (st c : Nat) (e : o ≠ rSYS_STATE) : Keep o s₀ (s.goTo st c) :=
  .showCues ((((h.setF _ _ e).setF _ _ e).setF _ _ e).setF _ _ e)

theorem State.goTo_pwr (s : State) (st c : Nat) : (s.goTo st c).pwr = s.pwr :=
  (Frame.refl.goTo (μ := { health := true, flt := true, svc := true }) st c rfl rfl rfl).pwr.resolve_left (by decide)

theorem State.showCues_pwr (s : State) : s.showCues.pwr = s.pwr :=
  (Frame.refl.showCues (μ := { health := true, flt := true, svc := true }) rfl rfl rfl).pwr.resolve_left (by decide)

/-! ### The operations on PWR_SRC -/

@[simp] theorem State.pwrOn_at (s : State) (t : Nat) : (s.at t).pwrOn = s.pwrOn := by simp [State.pwrOn]

@[simp] theorem State.setSrc_state (s : State) {st : Nat} (h : st < 8) : (s.setSrc st).f PWR_SRC_STATE = st :=
  (State.f_setF_same s PWR_SRC_STATE st).trans (Nat.mod_eq_of_lt h)

@[simp] theorem State.setSrc_fb (s : State) (st : Nat) (fd : Field) (h : 3 ≤ fd.lo) : (s.setSrc st).fb fd = s.fb fd :=
  State.fb_setF_other s PWR_SRC_STATE fd st (.inr (.inr h))

@[simp] theorem State.setSrc_pwr (s : State) (st : Nat) : (s.setSrc st).pwr = s.pwr := rfl
@[simp] theorem State.setSrc_now (s : State) (st : Nat) : (s.setSrc st).now = s.now := rfl

/-- The DC converter's flag is no part of the other fields of PWR_SRC. -/
theorem State.setDc_f (s : State) (on : Bool) (fd : Field) (h : fd.lo + fd.w ≤ 29 ∨ 30 ≤ fd.lo) : (s.setDc on).f fd = s.f fd :=
  State.f_setF_other _ PWR_SRC_DC_SUPPLYING fd _ (.inr h)

theorem State.setDc_fb (s : State) (on : Bool) (fd : Field) (h : fd.lo + fd.w ≤ 29 ∨ 30 ≤ fd.lo) : (s.setDc on).fb fd = s.fb fd := by
  simp only [State.fb, State.setDc_f s on fd h]

@[simp] theorem State.setDc_dcOn (s : State) (on : Bool) : (s.setDc on).pwr.dcOn = on := rfl
@[simp] theorem State.setDc_pfcOn (s : State) (on : Bool) : (s.setDc on).pwr.pfcOn = s.pwr.pfcOn := rfl
@[simp] theorem State.setDc_outAt (s : State) (on : Bool) : (s.setDc on).pwr.outAt = s.pwr.outAt := rfl
@[simp] theorem State.setDc_backLost (s : State) (on : Bool) : (s.setDc on).pwr.backLost = s.pwr.backLost := rfl

@[simp] theorem State.storeIdle_f (s : State) (fd : Field) : s.storeIdle.f fd = s.f fd := rfl
@[simp] theorem State.storeIdle_fb (s : State) (fd : Field) : s.storeIdle.fb fd = s.fb fd := rfl
@[simp] theorem State.storeIdle_st (s : State) : s.storeIdle.st = s.st := rfl
@[simp] theorem State.storeIdle_pfcOn (s : State) : s.storeIdle.pwr.pfcOn = s.pwr.pfcOn := rfl
@[simp] theorem State.storeIdle_dcOn (s : State) : s.storeIdle.pwr.dcOn = s.pwr.dcOn := rfl
@[simp] theorem State.storeIdle_outAt (s : State) : s.storeIdle.pwr.outAt = s.pwr.outAt := rfl
@[simp] theorem State.storeIdle_backLost (s : State) : s.storeIdle.pwr.backLost = s.pwr.backLost := rfl

@[simp] theorem State.showGone_f (s : State) (fd : Field) : s.showGone.f fd = s.f fd := rfl
@[simp] theorem State.showGone_fb (s : State) (fd : Field) : s.showGone.fb fd = s.fb fd := rfl
@[simp] theorem State.showGone_pwr (s : State) : s.showGone.pwr = s.pwr := rfl
@[simp] theorem State.showGone_now (s : State) : s.showGone.now = s.now := rfl

theorem State.showGone_mainsGone (s : State) (h : s.fb PWR_SRC_MAINS_PRESENT = true) : s.showGone.sys.mainsGone = none := by
  simp [State.showGone, h]

theorem State.mainsGone_src (s : State) : s.mainsGone.fb PWR_SRC_MAINS_PRESENT = false ∧ s.mainsGone.fb PWR_SRC_MAINS_QUAL = false ∧
    s.mainsGone.f PWR_SRC_STATE = s.f PWR_SRC_STATE := by
  simp only [State.mainsGone, State.setFields, State.fb]
  simp (disch := decide) only [State.f_setF_other, State.f_setF_same]
  exact ⟨rfl, rfl, rfl⟩

/-! ### Mains lost (R43, R343, R359) -/

/-- Mains has gone, and PWR_MAINS_LOST is raised (R343). -/
def State.lostMains (s : State) (reason : Nat) : State := (s.mainsGone.showGone).raise kPWR_MAINS_LOST reason

theorem State.lostMains_src (s : State) (reason : Nat) :
    (s.lostMains reason).fb PWR_SRC_MAINS_PRESENT = false ∧ (s.lostMains reason).fb PWR_SRC_MAINS_QUAL = false := by
  obtain ⟨hpresent, hqual, -⟩ := s.mainsGone_src
  simp only [State.lostMains, State.raise_fb, State.showGone_fb]
  exact ⟨hpresent, hqual⟩

theorem Steady.lostMains {s₀ : State} (h : Steady s₀ s) (reason : Nat) : Steady s₀ (s.lostMains reason) :=
  h.mainsGone.showGone.raise _ _

theorem Keep.lostMains (s : State) (reason : Nat) {o : Nat} (e : o ≠ rPWR_SRC) : Keep o s (s.lostMains reason) :=
  Keep.raise (Keep.regs (c := s.mainsGone.showGone) (((Keep.refl (s := s)).setF PWR_SRC_MAINS_PRESENT 0 e).setF PWR_SRC_MAINS_QUAL 0 e) rfl) _ _

theorem State.lostMains_now (s : State) (reason : Nat) : (s.lostMains reason).now = s.now := by
  simp only [State.lostMains, State.raise_now]; rfl

/-- The PFC stage stops, and the time in OUT begins (R359). -/
def State.pfcStops (s : State) : State := { s with pwr := { s.pwr with pfcOn := false, outAt := s.now } }

@[simp] theorem State.pfcStops_fb (s : State) (fd : Field) : s.pfcStops.fb fd = s.fb fd := rfl

/-- OUT: the PFC stage stops, the ride is counted, and a DC input that is qualified supplies (R359). -/
def State.enterOut (s : State) : State :=
  (((s.pfcStops.setSrc 1).addF PWR_EVT_RIDES 1).setDc ((s.pfcStops.setSrc 1).fb PWR_DC_QUAL)).storeIdle

theorem exec_mainsLost_out {t reason : Nat} (hon : s.pwrOn = true) (hp : s.fb PWR_SRC_MAINS_PRESENT = true)
    (hsrc : s.f PWR_SRC_STATE = 0) :
    exec (.mainsLost t reason) s = .next (((s.at t).lostMains reason).enterOut.mainsLostState) := by
  have hact : ((s.at t).pwrOn && (s.at t).fb PWR_SRC_MAINS_PRESENT) = true := by
    rw [State.pwrOn_at, State.fb_at s t PWR_SRC_MAINS_PRESENT, hon, hp]; rfl
  have hst : (s.at t).f PWR_SRC_STATE = 0 := by rw [State.f_at s t PWR_SRC_STATE, hsrc]
  show execMainsLost t reason s = _
  simp only [execMainsLost, hact, hst, if_true]
  rfl

theorem exec_mainsLost_qual {t reason : Nat} (hon : s.pwrOn = true) (hp : s.fb PWR_SRC_MAINS_PRESENT = true)
    (hsrc : s.f PWR_SRC_STATE = 3) :
    exec (.mainsLost t reason) s = .next (((s.at t).lostMains reason).setSrc 2) := by
  have hact : ((s.at t).pwrOn && (s.at t).fb PWR_SRC_MAINS_PRESENT) = true := by
    rw [State.pwrOn_at, State.fb_at s t PWR_SRC_MAINS_PRESENT, hon, hp]; rfl
  have hst : (s.at t).f PWR_SRC_STATE = 3 := by rw [State.f_at s t PWR_SRC_STATE, hsrc]
  show execMainsLost t reason s = _
  simp only [execMainsLost, hact, hst, if_true]
  rfl

/-- Mains lost in Morning or Noon: Evening, with the functions that continue in FUNC (R43, R45). -/
theorem State.mainsLostState_day (h : s.st = MORNING ∨ s.st = NOON) :
    s.mainsLostState = ((s.goTo EVENING 8).setF SYS_STATE_FUNC s.st).showCues := if_pos (by simpa using h)

theorem State.mainsLostState_mode (h : s.st = MORNING ∨ s.st = NOON) :
    s.mainsLostState.st = EVENING ∧ s.mainsLostState.f SYS_STATE_FUNC = s.st := by
  rw [State.mainsLostState_day h]
  have hkeep : SameMode (s.goTo EVENING 8) ((s.goTo EVENING 8).setF SYS_STATE_FUNC s.st).showCues :=
    .next (.setF .refl _ _ (by decide)) (.showCues .refl)
  refine ⟨hkeep.st.trans (s.goTo_state _ _ (by decide)), ?_⟩
  rw [(Steady.refl.showCues).f SYS_STATE_FUNC, State.f_setF_same _ SYS_STATE_FUNC]
  rcases h with h | h <;> rw [h] <;> rfl

theorem Keep.mainsLostState (h : s.st = MORNING ∨ s.st = NOON) : Keep rPWR_SRC s s.mainsLostState := by
  rw [State.mainsLostState_day h]
  exact ((Keep.refl.goTo _ _ (by decide)).setF _ _ (by decide)).showCues

theorem State.mainsLostState_pwr (h : s.st = MORNING ∨ s.st = NOON) : s.mainsLostState.pwr = s.pwr := by
  rw [State.mainsLostState_day h, State.showCues_pwr, State.setF_pwr, State.goTo_pwr]

/-- What OUT shows and keeps (R359). -/
theorem State.enterOut_src (s : State) : s.enterOut.f PWR_SRC_STATE = 1 ∧
    s.enterOut.fb PWR_SRC_MAINS_PRESENT = s.fb PWR_SRC_MAINS_PRESENT ∧ s.enterOut.fb PWR_SRC_MAINS_QUAL = s.fb PWR_SRC_MAINS_QUAL := by
  have hrides : Keep rPWR_SRC (s.pfcStops.setSrc 1) ((s.pfcStops.setSrc 1).addF PWR_EVT_RIDES 1) :=
    Keep.refl.addF _ _ (by decide)
  rw [State.enterOut, State.storeIdle_f, State.storeIdle_fb, State.storeIdle_fb, State.setDc_f _ _ _ (by decide),
    State.setDc_fb _ _ _ (by decide), State.setDc_fb _ _ _ (by decide), hrides.f PWR_SRC_STATE, hrides.fb PWR_SRC_MAINS_PRESENT,
    hrides.fb PWR_SRC_MAINS_QUAL, State.setSrc_state _ (by decide), State.setSrc_fb _ _ _ (by decide),
    State.setSrc_fb _ _ _ (by decide), State.pfcStops_fb, State.pfcStops_fb]
  exact ⟨rfl, rfl, rfl⟩

theorem State.enterOut_pwr (s : State) :
    s.enterOut.pwr.pfcOn = false ∧ s.enterOut.pwr.outAt = s.now ∧ s.enterOut.pwr.dcOn = s.fb PWR_DC_QUAL :=
  ⟨rfl, rfl, State.fb_setF_other _ PWR_SRC_STATE PWR_DC_QUAL _ (.inl (by decide))⟩

theorem Steady.enterOut {s₀ : State} (h : Steady s₀ s) : Steady s₀ s.enterOut :=
  (((Steady.setSrc (s := s.pfcStops) h.upd 1).addF _ _).setDc _).storeIdle

theorem Grow.enterOut {s₀ : State} (h : Grow s₀ s) : Grow s₀ s.enterOut :=
  (((Grow.setSrc (s := s.pfcStops) h.upd 1).addF _ _).setDc _).storeIdle

/-- Mains lost while it carries the link, in Morning or Noon (R43, R343, R359). -/
theorem mainsLost_toOut {t reason : Nat} (hon : s.pwrOn = true) (hp : s.fb PWR_SRC_MAINS_PRESENT = true)
    (hsrc : s.f PWR_SRC_STATE = 0) (hst : s.st = MORNING ∨ s.st = NOON) :
    ∃ s', exec (.mainsLost t reason) s = .next s' ∧ s'.fb PWR_SRC_MAINS_PRESENT = false ∧ s'.fb PWR_SRC_MAINS_QUAL = false ∧
      s'.f PWR_SRC_STATE = 1 ∧ s'.st = EVENING ∧ s'.f SYS_STATE_FUNC = s.st ∧ s'.pwr.pfcOn = false ∧ s'.pwr.outAt = max s.now t ∧
      s'.pwr.dcOn = s.fb PWR_DC_QUAL ∧ s.Reported s' kPWR_MAINS_LOST reason := by
  have hsame : ((s.at t).lostMains reason).enterOut.st = s.st := ((Steady.refl.at t).lostMains reason).enterOut.st
  have hday : ((s.at t).lostMains reason).enterOut.st = MORNING ∨ ((s.at t).lostMains reason).enterOut.st = NOON := by rwa [hsame]
  obtain ⟨hpresent, hqual⟩ := (s.at t).lostMains_src reason
  obtain ⟨ostate, opresent, oqual⟩ := ((s.at t).lostMains reason).enterOut_src
  obtain ⟨opfc, oat, odc⟩ := ((s.at t).lostMains reason).enterOut_pwr
  obtain ⟨mst, mfunc⟩ := State.mainsLostState_mode hday
  have hkeep := Keep.mainsLostState hday
  refine ⟨_, exec_mainsLost_out hon hp hsrc, ?_, ?_, ?_, mst, mfunc.trans hsame, ?_, ?_, ?_, ?_⟩
  · rw [hkeep.fb PWR_SRC_MAINS_PRESENT, opresent, hpresent]
  · rw [hkeep.fb PWR_SRC_MAINS_QUAL, oqual, hqual]
  · rw [hkeep.f PWR_SRC_STATE, ostate]
  · rw [State.mainsLostState_pwr hday, opfc]
  · rw [State.mainsLostState_pwr hday, oat, State.lostMains_now, State.at_now]
  · rw [State.mainsLostState_pwr hday, odc, (Keep.lostMains (s.at t) reason (o := rPWR_DC) (by decide)).fb PWR_DC_QUAL, State.fb_at s t PWR_DC_QUAL]
  · exact .of_raise _ _ (((Grow.refl.at t).mainsGone).showGone) Grow.refl.enterOut.mainsLostState

/-- Mains lost in QUAL: back to RIDE (R359). -/
theorem mainsLost_toRide {t reason : Nat} (hon : s.pwrOn = true) (hp : s.fb PWR_SRC_MAINS_PRESENT = true)
    (hsrc : s.f PWR_SRC_STATE = 3) :
    ∃ s', exec (.mainsLost t reason) s = .next s' ∧ s'.fb PWR_SRC_MAINS_PRESENT = false ∧
      s'.f PWR_SRC_STATE = 2 ∧ s'.st = s.st := by
  refine ⟨_, exec_mainsLost_qual hon hp hsrc, ?_, State.setSrc_state _ (by decide), (((Steady.refl.at t).lostMains reason).setSrc 2).st⟩
  rw [State.setSrc_fb _ _ _ (by decide)]
  exact ((s.at t).lostMains_src reason).1

/-! ### Mains present and qualified (R343, R359) -/

/-- Mains has come within its limits (R343). -/
def State.mainsSeen (s : State) : State :=
  (({ s with pwr := { s.pwr with mainsAt := some s.now } }).setF PWR_SRC_MAINS_PRESENT 1).showGone

theorem State.mainsSeen_present (s : State) : s.mainsSeen.fb PWR_SRC_MAINS_PRESENT = true := by
  rw [State.mainsSeen, State.showGone_fb, State.fb_setF_same _ PWR_SRC_MAINS_PRESENT]; rfl

theorem State.mainsSeen_state (s : State) : s.mainsSeen.f PWR_SRC_STATE = s.f PWR_SRC_STATE :=
  State.f_setF_other _ PWR_SRC_MAINS_PRESENT PWR_SRC_STATE 1 (by decide)

theorem State.mainsSeen_mainsGone (s : State) : s.mainsSeen.sys.mainsGone = none :=
  State.showGone_mainsGone _ s.mainsSeen_present

/-- RIDE, or QUAL at once with mains there (R359). -/
theorem State.enterRide_state (s : State) : s.enterRide.f PWR_SRC_STATE = if s.fb PWR_SRC_MAINS_PRESENT then 3 else 2 := by
  unfold State.enterRide
  split <;> exact State.setSrc_state _ (by decide)

theorem State.enterRide_present (h : s.fb PWR_SRC_MAINS_PRESENT = true) :
    s.enterRide = ({ s with pwr := { s.pwr with qualFrom := s.now } }).setSrc 3 := if_pos h

theorem State.enterRide_absent (h : s.fb PWR_SRC_MAINS_PRESENT = false) : s.enterRide = s.setSrc 2 :=
  if_neg (by simp [h])

theorem exec_mainsPresent {t : Nat} (hon : s.pwrOn = true) (hp : s.fb PWR_SRC_MAINS_PRESENT = false) :
    exec (.mainsPresent t) s = .next (if s.f PWR_SRC_STATE = 2 then (s.at t).mainsSeen.enterRide else (s.at t).mainsSeen) := by
  have hact : ((s.at t).pwrOn && !(s.at t).fb PWR_SRC_MAINS_PRESENT) = true := by
    rw [State.pwrOn_at, State.fb_at s t PWR_SRC_MAINS_PRESENT, hon, hp]; rfl
  have hst : (s.at t).mainsSeen.f PWR_SRC_STATE = s.f PWR_SRC_STATE := by
    rw [State.mainsSeen_state, State.f_at s t PWR_SRC_STATE]
  show execMainsPresent t s = _
  rw [← hst]
  simp only [execMainsPresent, hact, if_true]
  rfl

theorem mainsPresent_qualifies {t : Nat} (hon : s.pwrOn = true) (hp : s.fb PWR_SRC_MAINS_PRESENT = false) :
    ∃ s', exec (.mainsPresent t) s = .next s' ∧ s'.fb PWR_SRC_MAINS_PRESENT = true ∧ s'.pwr.mainsAt = some (max s.now t) ∧
      s'.f PWR_SRC_STATE = (if s.f PWR_SRC_STATE = 2 then 3 else s.f PWR_SRC_STATE) ∧ s'.sys.mainsGone = none := by
  have hseen := (s.at t).mainsSeen_present
  have hat : (s.at t).mainsSeen.pwr.mainsAt = some (max s.now t) := congrArg some (State.at_now s t)
  refine ⟨_, exec_mainsPresent hon hp, ?_⟩
  split
  · rw [State.enterRide_present hseen, State.setSrc_fb _ _ _ (by decide), State.setSrc_state _ (by decide)]
    exact ⟨hseen, hat, rfl, (s.at t).mainsSeen_mainsGone⟩
  · exact ⟨hseen, hat, by rw [State.mainsSeen_state, State.f_at s t PWR_SRC_STATE], (s.at t).mainsSeen_mainsGone⟩

/-- Mains has qualified, and the PFC stage is on (R343). -/
def State.mainsTaken (s : State) : State := ({ s with pwr := { s.pwr with pfcOn := true } }).setF PWR_SRC_MAINS_QUAL 1

theorem State.mainsTaken_src (s : State) :
    s.mainsTaken.fb PWR_SRC_MAINS_QUAL = true ∧ s.mainsTaken.f PWR_SRC_STATE = s.f PWR_SRC_STATE := by
  refine ⟨?_, State.f_setF_other _ PWR_SRC_MAINS_QUAL PWR_SRC_STATE 1 (by decide)⟩
  rw [State.mainsTaken, State.fb_setF_same _ PWR_SRC_MAINS_QUAL]; rfl

/-- BACK is entered, and its ramps begin (R359). -/
def State.enterBack (s : State) : State := ({ s with pwr := { s.pwr with outAt := s.now, backLost := false } }).setSrc 4

theorem exec_mainsQualified_source {t x : Nat} (hon : s.pwrOn = true) (hx : s.pwr.mainsAt = some x)
    (hq : s.fb PWR_SRC_MAINS_QUAL = false) (hsrc : s.f PWR_SRC_STATE = 0) (hdue : x + ms 200 ≤ max s.now t) :
    exec (.mainsQualified t) s = .next (s.at t).mainsTaken.storeIdle := by
  have hon' : (s.at t).pwrOn = true := by rwa [State.pwrOn_at]
  have hx' : (s.at t).pwr.mainsAt = some x := by rwa [State.at_pwr]
  have hq' : (s.at t).fb PWR_SRC_MAINS_QUAL = false := by rwa [State.fb_at s t PWR_SRC_MAINS_QUAL]
  have hsrc' : (s.at t).f PWR_SRC_STATE = 0 := by rwa [State.f_at s t PWR_SRC_STATE]
  have hdue' : x + ms 200 ≤ (s.at t).now := by rwa [State.at_now]
  show execMainsQualified t s = _
  simp only [execMainsQualified, State.mainsTaken, hx', hsrc', hon', hq', if_neg (show ¬(0 : Nat) = 3 by decide), hdue']
  rfl

theorem exec_mainsQualified_back {t x : Nat} (hon : s.pwrOn = true) (hx : s.pwr.mainsAt = some x)
    (hq : s.fb PWR_SRC_MAINS_QUAL = false) (hsrc : s.f PWR_SRC_STATE = 3) (hdue : max x s.pwr.qualFrom + ms 200 ≤ max s.now t) :
    exec (.mainsQualified t) s = .next (s.at t).mainsTaken.enterBack.storeIdle := by
  have hon' : (s.at t).pwrOn = true := by rwa [State.pwrOn_at]
  have hx' : (s.at t).pwr.mainsAt = some x := by rwa [State.at_pwr]
  have hq' : (s.at t).fb PWR_SRC_MAINS_QUAL = false := by rwa [State.fb_at s t PWR_SRC_MAINS_QUAL]
  have hsrc' : (s.at t).f PWR_SRC_STATE = 3 := by rwa [State.f_at s t PWR_SRC_STATE]
  have hdue' : max x (s.at t).pwr.qualFrom + ms 200 ≤ (s.at t).now := by rwa [State.at_now, State.at_pwr]
  show execMainsQualified t s = _
  simp only [execMainsQualified, State.mainsTaken, State.enterBack, hx', hsrc', hon', hq', if_true, hdue']
  rfl

theorem mainsQualified_takes {t x : Nat} (hon : s.pwrOn = true) (hx : s.pwr.mainsAt = some x)
    (hq : s.fb PWR_SRC_MAINS_QUAL = false) (hsrc : s.f PWR_SRC_STATE = 0) (hdue : x + ms 200 ≤ max s.now t) :
    ∃ s', exec (.mainsQualified t) s = .next s' ∧ s'.fb PWR_SRC_MAINS_QUAL = true ∧ s'.pwr.pfcOn = true ∧ s'.f PWR_SRC_STATE = 0 := by
  obtain ⟨hqual, hstate⟩ := (s.at t).mainsTaken_src
  refine ⟨_, exec_mainsQualified_source hon hx hq hsrc hdue, hqual, rfl, ?_⟩
  rw [State.storeIdle_f, hstate, State.f_at s t PWR_SRC_STATE, hsrc]

theorem mainsQualified_handsBack {t x : Nat} (hon : s.pwrOn = true) (hx : s.pwr.mainsAt = some x)
    (hq : s.fb PWR_SRC_MAINS_QUAL = false) (hsrc : s.f PWR_SRC_STATE = 3) (hdue : max x s.pwr.qualFrom + ms 200 ≤ max s.now t) :
    ∃ s', exec (.mainsQualified t) s = .next s' ∧ s'.fb PWR_SRC_MAINS_QUAL = true ∧ s'.pwr.pfcOn = true ∧ s'.f PWR_SRC_STATE = 4 ∧
      s'.pwr.outAt = max s.now t := by
  refine ⟨_, exec_mainsQualified_back hon hx hq hsrc hdue, ?_, rfl, State.setSrc_state _ (by decide), State.at_now s t⟩
  rw [State.storeIdle_fb, State.enterBack, State.setSrc_fb _ _ _ (by decide)]
  exact ((s.at t).mainsTaken_src).1

/-! ### The end of OUT and of the hand-back (R43, R359) -/

theorem dcRampComplete_rides {t : Nat} (hon : s.pwrOn = true) (hsrc : s.f PWR_SRC_STATE = 1) (hdue : s.pwr.outAt + ms 20 ≤ max s.now t) :
    ∃ s', exec (.dcRampComplete t) s = .next s' ∧ s'.f PWR_SRC_STATE = (if s.fb PWR_SRC_MAINS_PRESENT then 3 else 2) := by
  have he : exec (.dcRampComplete t) s = .next (s.at t).enterRide := by
    show execDcRampComplete t s = _
    simp [execDcRampComplete, hon, State.f_at s t PWR_SRC_STATE, hsrc, hdue]
  refine ⟨_, he, ?_⟩
  rw [State.enterRide_state, State.fb_at s t PWR_SRC_MAINS_PRESENT]

/-- The link is on mains again (R359). -/
def State.backOnMains (s : State) : State := ((s.setSrc 0).setDc false).storeIdle

/-- The hand-back has failed: mains was lost in it (R359). -/
def State.backAborted (s : State) : State :=
  (({ s with pwr := { s.pwr with pfcOn := false, backLost := false } }).setDc (s.fb PWR_DC_QUAL)).addF PWR_EVT_ABORTS 1

/-- The ramps of BACK are complete (R359). -/
structure State.BackDue (s : State) : Prop where
  on : s.pwrOn = true
  back : s.f PWR_SRC_STATE = 4
  due : s.pwr.outAt + ms 20 ≤ s.now

theorem State.BackDue.at {t : Nat} (hon : s.pwrOn = true) (hsrc : s.f PWR_SRC_STATE = 4) (hdue : s.pwr.outAt + ms 20 ≤ max s.now t) :
    (s.at t).BackDue where
  on := by rwa [State.pwrOn_at]
  back := by rwa [State.f_at s t PWR_SRC_STATE]
  due := by rwa [State.at_pwr, State.at_now]

theorem exec_handbackComplete_mains {t : Nat} (h : (s.at t).BackDue) (hl : (s.at t).pwr.backLost = false) :
    exec (.handbackComplete t) s = .next (s.at t).backOnMains.handBack.patternEnd := by
  show execHandbackComplete t s = _
  simp only [execHandbackComplete, h.on, h.back, h.due, hl]
  rfl

theorem exec_handbackComplete_aborted {t : Nat} (h : (s.at t).BackDue) (hl : (s.at t).pwr.backLost = true) :
    exec (.handbackComplete t) s = .next (((s.at t).backAborted.raise kPWR_HANDBACK_ABORT
      ((s.at t).backAborted.f PWR_EVT_ABORTS)).storeIdle.enterRide) := by
  show execHandbackComplete t s = _
  simp only [execHandbackComplete, h.on, h.back, h.due, hl]
  rfl

theorem State.backOnMains_src (s : State) : s.backOnMains.f PWR_SRC_STATE = 0 ∧ s.backOnMains.pwr.dcOn = false :=
  ⟨(State.setDc_f _ _ PWR_SRC_STATE (by decide)).trans (State.setSrc_state s (by decide)), rfl⟩

theorem Steady.backOnMains {s₀ : State} (h : Steady s₀ s) : Steady s₀ s.backOnMains := ((h.setSrc 0).setDc false).storeIdle

/-- The beginning of Noon's functions withdraws a pending RUN and changes the windows, and no other register (R45, R166). -/
theorem State.noonBegins_regs (s : State) : s.noonBegins.regs = (s.setF SYS_STATE_RUN_PENDING 0).regs :=
  foldl_keeps State.regs _ _ fun _ _ _ => rfl

theorem Keep.enterNoon {o : Nat} {s₀ : State} (h : Keep o s₀ s) (c : Nat) (e : o ≠ rSYS_STATE) : Keep o s₀ (s.enterNoon c) :=
  .regs ((h.goTo NOON c e).setF SYS_STATE_RUN_PENDING 0 e) (s.goTo NOON c).noonBegins_regs

/-- Entering a state leaves the flags of SYS_STATE as they are (R42). -/
theorem State.goTo_flag (s : State) (st c : Nat) (fd : Field) (h : 24 ≤ fd.lo) : (s.goTo st c).fb fd = s.fb fd := by
  have above {gd : Field} (hg : gd.lo + gd.w ≤ 24) : fd.off ≠ gd.off ∨ fd.lo + fd.w ≤ gd.lo ∨ gd.lo + gd.w ≤ fd.lo :=
    .inr (.inr (hg.trans h))
  rw [State.goTo, (Keep.refl.showCues).fb fd]
  simp only [State.setFields]
  rw [State.fb_setF_other _ SYS_STATE_FUNC _ _ (above (by decide)), State.fb_setF_other _ SYS_STATE_CAUSE _ _ (above (by decide)),
    State.fb_setF_other _ SYS_STATE_STATE _ _ (above (by decide)), State.fb_setF_other _ SYS_STATE_PREV _ _ (above (by decide))]

theorem State.enterNoon_standalone (s : State) (c : Nat) :
    (s.enterNoon c).fb SYS_STATE_STANDALONE = s.fb SYS_STATE_STANDALONE := by
  rw [State.enterNoon, (Keep.refl.regs (s.goTo NOON c).noonBegins_regs).fb SYS_STATE_STANDALONE,
    State.fb_setF_other _ _ _ _ (by decide), State.goTo_flag _ _ _ _ (by decide)]

theorem State.enterNoon_pwr (s : State) (c : Nat) : (s.enterNoon c).pwr = s.pwr :=
  (Frame.refl.enterNoon (μ := { wins := true, health := true, flt := true, svc := true }) c rfl rfl rfl rfl).pwr.resolve_left
    (by decide)

/-- The hand-back in Evening with Noon's functions (R43, R45). -/
theorem State.handBack_noon (hst : s.st = EVENING) (hfunc : s.f SYS_STATE_FUNC = NOON) : s.handBack = s.enterNoon 9 := by
  rw [State.handBack, if_pos hst, if_pos hfunc]

/-- Outside stand-alone operation there is no check pattern to end (R67). -/
theorem State.patternEnd_hosted (h : s.fb SYS_STATE_STANDALONE = false) : s.patternEnd = s :=
  if_neg (by simp [h])

theorem handbackComplete_toMains {t : Nat} (h : (s.at t).BackDue) (hl : s.pwr.backLost = false)
    (hsa : s.fb SYS_STATE_STANDALONE = false) (hst : s.st = EVENING) (hfunc : s.f SYS_STATE_FUNC = NOON) :
    ∃ s', exec (.handbackComplete t) s = .next s' ∧ s'.f PWR_SRC_STATE = 0 ∧ s'.pwr.dcOn = false ∧ s'.st = NOON ∧
      s'.f SYS_STATE_CAUSE = 9 := by
  have hsteady : Steady s (s.at t).backOnMains := (Steady.refl.at t).backOnMains
  have hnoon := State.handBack_noon (hsteady.st.trans hst) ((hsteady.f SYS_STATE_FUNC).trans hfunc)
  have hhosted : ((s.at t).backOnMains.enterNoon 9).fb SYS_STATE_STANDALONE = false := by
    rw [State.enterNoon_standalone]
    simp only [State.fb, hsteady.f SYS_STATE_STANDALONE]
    exact hsa
  obtain ⟨hsrc, hdc⟩ := (s.at t).backOnMains_src
  obtain ⟨nst, -, ncause⟩ := (s.at t).backOnMains.enterNoon_state 9 (by decide)
  refine ⟨_, exec_handbackComplete_mains h (by rwa [State.at_pwr]), ?_⟩
  rw [hnoon, State.patternEnd_hosted hhosted, (Keep.refl.enterNoon 9 (by decide) : Keep rPWR_SRC _ _).f PWR_SRC_STATE,
    State.enterNoon_pwr]
  exact ⟨hsrc, hdc, nst, ncause⟩

/-- The abort is counted (R366). -/
theorem State.backAborted_aborts (s : State) : s.backAborted.f PWR_EVT_ABORTS = min 65535 (s.f PWR_EVT_ABORTS + 1) := by
  rw [State.backAborted, State.f_addF _ PWR_EVT_ABORTS 1 (by decide)]
  exact congrArg (fun n => min 65535 (n + 1)) (State.f_setF_other _ PWR_SRC_DC_SUPPLYING PWR_EVT_ABORTS _ (.inl (by decide)))

theorem State.backAborted_present (s : State) : s.backAborted.fb PWR_SRC_MAINS_PRESENT = s.fb PWR_SRC_MAINS_PRESENT :=
  ((Keep.refl.addF PWR_EVT_ABORTS 1 (by decide) : Keep rPWR_SRC _ _).fb PWR_SRC_MAINS_PRESENT).trans
    (State.setDc_fb _ _ PWR_SRC_MAINS_PRESENT (by decide))

theorem Steady.backAborted {s₀ : State} (h : Steady s₀ s) : Steady s₀ s.backAborted :=
  (Steady.setDc (s := { s with pwr := { s.pwr with pfcOn := false, backLost := false } }) h.upd _).addF _ _

theorem Grow.backAborted {s₀ : State} (h : Grow s₀ s) : Grow s₀ s.backAborted :=
  (Grow.setDc (s := { s with pwr := { s.pwr with pfcOn := false, backLost := false } }) h.upd _).addF _ _

theorem handbackComplete_aborts {t : Nat} (h : (s.at t).BackDue) (hl : s.pwr.backLost = true)
    (hp : s.fb PWR_SRC_MAINS_PRESENT = false) :
    ∃ s', exec (.handbackComplete t) s = .next s' ∧ s'.f PWR_SRC_STATE = 2 ∧ s'.pwr.pfcOn = false ∧ s'.pwr.backLost = false ∧
      s'.st = s.st ∧ s.Reported s' kPWR_HANDBACK_ABORT (min 65535 (s.f PWR_EVT_ABORTS + 1)) := by
  have hcount : (s.at t).backAborted.f PWR_EVT_ABORTS = min 65535 (s.f PWR_EVT_ABORTS + 1) := by
    rw [State.backAborted_aborts, State.f_at s t PWR_EVT_ABORTS]
  have he := exec_handbackComplete_aborted h (by rwa [State.at_pwr])
  rw [hcount] at he
  have habsent : ((s.at t).backAborted.raise kPWR_HANDBACK_ABORT (min 65535 (s.f PWR_EVT_ABORTS + 1))).storeIdle.fb
      PWR_SRC_MAINS_PRESENT = false := by
    rw [State.storeIdle_fb, State.raise_fb, State.backAborted_present, State.fb_at s t PWR_SRC_MAINS_PRESENT, hp]
  rw [State.enterRide_absent habsent] at he
  refine ⟨_, he, State.setSrc_state _ (by decide), ?_, ?_, ?_, ?_⟩
  · rw [State.setSrc_pwr, State.storeIdle_pfcOn, State.raise_pwr]; rfl
  · rw [State.setSrc_pwr, State.storeIdle_backLost, State.raise_pwr]; rfl
  · exact (((((Steady.refl.at t).backAborted).raise _ _).storeIdle).setSrc 2).st
  · exact .of_raise _ _ (Grow.refl.at t).backAborted (Grow.refl.storeIdle.setSrc 2)

end Sys2Proof.Machine
end

section
/-!
SUPPORT. The link and the broker (R341, R344, R351 to R356, R360 to R362, R366): what shows a measurement, which operations leave
the registers of the power block, and each command as one operation.
-/
namespace Sys2Proof.Machine
variable {s : State}

/-! ### The link's voltage (R366) -/

theorem sat_mod (w v : Nat) : sat w v % 2 ^ w = min (2 ^ w - 1) v := by
  rw [Nat.mod_eq_of_lt (sat_lt w v), sat_eq_min]

/-- A register of the power block below those of the rails: what the broker measures, limits and plans with (R366). -/
def PowerReg (o : Nat) : Prop := rPWR_SRC ≤ o ∧ o < rPWR_q_RAIL 0

theorem PowerReg.ne_above {o p : Nat} (ho : PowerReg o) (h : rPWR_q_RAIL 0 ≤ p) : o ≠ p := Nat.ne_of_lt (Nat.lt_of_lt_of_le ho.2 h)

theorem PowerReg.ne_below {o p : Nat} (ho : PowerReg o) (h : p < rPWR_SRC) : o ≠ p := Nat.ne_of_gt (Nat.lt_of_lt_of_le h ho.1)

theorem PowerReg.notPmc {o : Nat} (ho : PowerReg o) : isPmc o = false :=
  decide_eq_false fun h => Nat.lt_irrefl _ (Nat.lt_of_lt_of_le ho.2 (Nat.le_trans (by decide) h.1))

/-- The registers of the axes, the rails and the windows lie outside the power block's. -/
theorem PowerReg.ne_axis {o : Nat} (ho : PowerReg o) (a : Nat) : o ≠ 0x1B010C + a * 0x40 :=
  ho.ne_above (by simp only [rPWR_q_RAIL]; omega)

theorem PowerReg.ne_share {o : Nat} (ho : PowerReg o) (a : Nat) : o ≠ (MOT_a_SHARE_SHARE_W a).off :=
  ho.ne_above (by simp only [rPWR_q_RAIL, MOT_a_SHARE_SHARE_W]; omega)

theorem PowerReg.ne_rail {o : Nat} (ho : PowerReg o) (q : Nat) : o ≠ 0x1A0100 + q * 0x10 :=
  ho.ne_above (by simp only [rPWR_q_RAIL]; omega)

theorem PowerReg.ne_railP {o : Nat} (ho : PowerReg o) (q : Nat) : o ≠ 0x1A0104 + q * 0x10 :=
  ho.ne_above (by simp only [rPWR_q_RAIL]; omega)

theorem PowerReg.ne_win {o w : Nat} (ho : PowerReg o) (hw : w < 16) : o ≠ 0x12010C + w * 0x20 :=
  ho.ne_below (by simp only [rPWR_SRC]; omega)

/-! ### Operations that leave the registers of the power block -/

section
variable {o : Nat} {s₀ : State}

theorem Keep.modAxis (h : Keep o s₀ s) (a : Nat) (g : Axis → Axis) : Keep o s₀ (s.modAxis a g) := h
theorem Keep.modRail (h : Keep o s₀ s) (q : Nat) (g : Rail → Rail) : Keep o s₀ (s.modRail q g) := h
theorem Keep.modWin (h : Keep o s₀ s) (w : Nat) (g : Win → Win) : Keep o s₀ (s.modWin w g) := h
theorem Keep.modCal (h : Keep o s₀ s) (k : Nat) (g : CalInst → CalInst) : Keep o s₀ (s.modCal k g) := h

theorem Keep.noPattern (h : Keep o s₀ s) : Keep o s₀ s.noPattern := h

theorem Keep.dropDefers (h : Keep o s₀ s) : Keep o s₀ s.dropDefers := h.foldl fun _ _ _ k => .ite (k.modWin _ _) k

theorem Keep.calDrop (h : Keep o s₀ s) : Keep o s₀ s.calDrop := h.foldl fun _ _ _ k => .ite (k.modCal _ _) k

theorem Keep.stopDocs (h : Keep o s₀ s) : Keep o s₀ s.stopDocs := h.foldl fun _ _ _ k => k.modWin _ _

theorem Keep.noteSwaps (h : Keep o s₀ s) : Keep o s₀ s.noteSwaps := h.foldl fun _ _ _ k => .ite (k.modWin _ _) k

theorem Keep.axisOff (h : Keep o s₀ s) (a : Nat) (e : o ≠ 0x1B010C + a * 0x40) : Keep o s₀ (s.axisOff a) := by
  refine .modAxis ?_ _ _
  iterate 6 refine .setFields_cons ?_
  exact .setFields_nil ((((((h.setF _ 0 e).setF _ 0 e).setF _ 0 e).setF _ 0 e).setF _ 0 e).setF _ 0 e)

variable (ho : PowerReg o)
include ho

/-- Showing the link's voltage writes PWR_LINK alone of the power block's registers. -/
theorem Keep.showLink (h : Keep o s₀ s) (v : Nat) (e : o ≠ rPWR_LINK) : Keep o s₀ (s.showLink v) :=
  ((h.setF PWR_LINK_VOLT _ e).setF PWR_LINK_PEAK _ e).foldl fun _ a _ k => .ite k (k.setFb (MOT_a_STATUS_LINKLIM a) _ (ho.ne_axis a))

theorem Keep.stopAxis (h : Keep o s₀ s) (a : Nat) : Keep o s₀ (s.stopAxis a) := by
  simp only [State.stopAxis]
  split
  · exact .modAxis ((h.modAxis _ _).setF (MOT_a_STATUS_AT_SPEED a) 0 (ho.ne_axis a)) _ _
  · exact h.modAxis _ _
  · exact .axisOff (h.modAxis _ _) a (ho.ne_axis a)

theorem Keep.startAxis (h : Keep o s₀ s) (a : Nat) : Keep o s₀ (s.startAxis a) := by
  unfold State.startAxis
  refine .ite h ?_
  split
  · exact .modAxis (h.setF (MOT_a_STATUS_CATCHING a) 1 (ho.ne_axis a)) _ _
  · exact h.modAxis _ _
  · exact h.modAxis _ _

theorem Keep.motorsDusk (h : Keep o s₀ s) : Keep o s₀ s.motorsDusk := by
  refine h.foldl fun s a _ k => ?_
  split
  · exact .stopAxis ho k a
  · exact .stopAxis ho k a
  · exact .modAxis (.ite k (.startAxis ho k a)) _ _
  · exact k

theorem Keep.rampRail (h : Keep o s₀ s) (q mv : Nat) : Keep o s₀ (s.rampRail q mv) := by
  unfold State.rampRail
  exact .ite h (.modRail (.ite h (h.setF (PWR_q_RAIL_ON q) 1 (ho.ne_rail q))) _ _)

theorem Keep.startRails (h : Keep o s₀ s) : Keep o s₀ s.startRails := by
  refine h.foldl fun s q _ k => ?_
  split
  · exact .ite (k.modRail _ _) (.rampRail ho k q _)
  · exact .ite (.rampRail ho k q 0) k

theorem Keep.showPred (h : Keep o s₀ s) (tp : Option (Int × Nat)) : Keep o s₀ (s.showPred tp) := by
  have e : o ≠ THM_PRED_TP_MS.off := ho.ne_above (by decide)
  unfold State.showPred
  split <;> exact h.setF _ _ e

theorem Keep.finishTest (h : Keep o s₀ s) : Keep o s₀ s.finishTest := by
  simp only [State.finishTest]
  exact (Keep.showPred ho h _).foldl fun _ _ _ k => .ite k (k.modWin _ _)

/-- Entering Dusk writes none of the power block's registers. -/
theorem Keep.enterDusk (h : Keep o s₀ s) (c : Nat) (n : Bool) : Keep o s₀ (s.enterDusk c n) := by
  have hgo : Keep o s₀ (s.goTo DUSK c) := h.goTo _ _ (ho.ne_below (by decide))
  simp only [State.enterDusk]
  refine .noteSwaps (.ite (.stopDocs ?_) (.ite (.finishTest ho ?_) ?_)) <;>
    exact .motorsDusk ho (Keep.noPattern (.upd hgo)).dropDefers.calDrop

/-! ### A document's admission (R162, R355, R356) -/

theorem Keep.brokerPause (h : Keep o s₀ s) {w : Nat} (hw : w < 16) (us : Nat) (e : o ≠ rPWR_PAUSE) : Keep o s₀ (s.brokerPause w us) := by
  have hpause : Keep o s₀ (s.pauseUntil w (s.now + us * 4000)) := by
    unfold State.pauseUntil
    exact .ite h ((h.modWin _ _).setF (FIRE_WIN_w_STATUS_PAUSED w) 1 (ho.ne_win hw))
  exact (hpause.addF _ _ e).setF _ _ e

theorem Keep.admitDoc (h : Keep o s₀ s) {w : Nat} (hw : w < 16) (e : o ≠ rPWR_PAUSE) : Keep o s₀ (s.admitDoc w) := by
  have hold (b : Bool) : Keep o s₀ (s.holdDoc w b) := h.modWin _ _
  unfold State.admitDoc
  split
  · exact h
  · refine .ite h ?_
    simp only []
    refine .ite (.ite (hold _) (.modWin (.brokerPause ho h hw _ e) _ _)) ?_
    split
    · exact (hold _).raise _ _
    · refine .ite ((hold _).raise _ _) ?_
      unfold State.pauseFor
      exact .ite (hold _) (.brokerPause ho (hold _) hw _ e)

end

/-! ### The link's thresholds (R341, R363) -/

theorem State.showLink_volt (s : State) (v : Nat) : (s.showLink v).f PWR_LINK_VOLT = min 65535 v := by
  have hflags : Keep rPWR_LINK ((s.setF PWR_LINK_VOLT (sat 16 v)).setF PWR_LINK_PEAK (max (s.f PWR_LINK_PEAK) (sat 16 v))) (s.showLink v) :=
    Keep.refl.foldl fun _ a _ k => .ite k (k.setFb (MOT_a_STATUS_LINKLIM a) _ (PowerReg.ne_axis ⟨by decide, by decide⟩ a))
  rw [hflags.f PWR_LINK_VOLT, State.f_setF_other _ _ _ _ (by decide), State.f_setF_same _ PWR_LINK_VOLT]
  exact sat_mod 16 v

theorem Frame.of_showLink (s : State) (v : Nat) : Frame {} s (s.showLink v) := Frame.refl.showLink v

@[simp] theorem State.showLink_pwr (s : State) (v : Nat) : (s.showLink v).pwr = s.pwr :=
  (Frame.of_showLink s v).pwr.resolve_left (by decide)

@[simp] theorem State.showLink_flt (s : State) (v : Nat) : (s.showLink v).flt = s.flt :=
  (Frame.of_showLink s v).flt.resolve_left (by decide)

/-- The registers of the power block other than PWR_LINK, with the link's voltage shown at the command's instant. -/
theorem Keep.linkShown (s : State) (t v : Nat) {o : Nat} (ho : PowerReg o) (e : o ≠ rPWR_LINK) : Keep o s ((s.at t).showLink v) :=
  .showLink ho (Keep.refl.at t ho.notPmc) v e

/-- Whether the store takes energy: its converter can, charging is permitted, and it is not full (R341, R348). -/
def State.storeTakes (s : State) : Bool :=
  s.storeCan && !s.fb PWR_STORE_CHG_INHIBIT && decide (s.f PWR_STORE_E_J < 2400)

theorem State.storeCan_linkShown (s : State) (t v : Nat) : ((s.at t).showLink v).storeCan = s.storeCan := by
  simp only [State.storeCan, State.showLink_pwr, State.at_pwr]

theorem State.storeTakes_linkShown (s : State) (t v : Nat) : ((s.at t).showLink v).storeTakes = s.storeTakes := by
  have hstore : Keep rPWR_STORE s ((s.at t).showLink v) := .linkShown s t v ⟨by decide, by decide⟩ (by decide)
  rw [State.storeTakes, State.storeCan_linkShown, hstore.fb PWR_STORE_CHG_INHIBIT, hstore.f PWR_STORE_E_J]
  rfl

/-- The PFC stage draws nothing, and the store absorbs what it may (R341). -/
def State.linkFull (s : State) : State :=
  { s with pwr := { s.pwr with pfcOn := false, storeMode := if s.storeTakes then 2 else 0 } }

/-- The PFC stage runs again where mains carries the link (R341). -/
def State.linkFed (s : State) : State :=
  ({ s with pwr := { s.pwr with
      pfcOn := s.fb PWR_SRC_MAINS_QUAL && (s.f PWR_SRC_STATE = 0 || s.f PWR_SRC_STATE = 4) } }).storeIdle

@[simp] theorem State.linkFed_f (s : State) (fd : Field) : s.linkFed.f fd = s.f fd := rfl

theorem State.linkFed_pfcOn (s : State) : s.linkFed.pwr.pfcOn =
    (s.fb PWR_SRC_MAINS_QUAL && (s.f PWR_SRC_STATE = 0 || s.f PWR_SRC_STATE = 4)) := rfl

/-- The store discharges into the link while its converter can (R341, R364). -/
def State.linkLow (s : State) : State := { s with pwr := { s.pwr with storeMode := if s.storeCan then 3 else 0 } }

@[simp] theorem State.linkFull_f (s : State) (fd : Field) : s.linkFull.f fd = s.f fd := rfl
@[simp] theorem State.linkFull_pfcOn (s : State) : s.linkFull.pwr.pfcOn = false := rfl
theorem State.linkFull_storeMode (s : State) : s.linkFull.pwr.storeMode = if s.storeTakes then 2 else 0 := rfl

@[simp] theorem State.linkLow_f (s : State) (fd : Field) : s.linkLow.f fd = s.f fd := rfl
theorem State.linkLow_storeMode (s : State) : s.linkLow.pwr.storeMode = if s.storeCan then 3 else 0 := rfl

theorem exec_linkOvervoltage {t v : Nat} (hon : s.pwrOn = true) :
    exec (.linkOvervoltage t v) s = .next (((s.at t).showLink v).raise kPWR_LINK_OV v) := by
  show execLinkOvervoltage t v s = _
  rw [execLinkOvervoltage, State.pwrOn_at, if_pos hon]

theorem exec_linkHigh {t v : Nat} (hon : s.pwrOn = true) :
    exec (.linkHigh t v) s = .next (((s.at t).showLink v).raise kPWR_LINK_HIGH v) := by
  show execLinkHigh t v s = _
  rw [execLinkHigh, State.pwrOn_at, if_pos hon]

theorem exec_linkPfcStop {t v : Nat} (hon : s.pwrOn = true) :
    exec (.linkPfcStop t v) s = .next (if 4100 ≤ v then ((s.at t).showLink v).linkFull else ((s.at t).showLink v).linkFed) := by
  show execLinkPfcStop t v s = _
  rw [execLinkPfcStop, State.pwrOn_at, if_pos hon]
  rfl

theorem exec_linkStoreDischarge {t v : Nat} (hon : s.pwrOn = true) (hv : v ≤ 3900) :
    exec (.linkStoreDischarge t v) s = .next ((s.at t).showLink v).linkLow := by
  show execLinkStoreDischarge t v s = _
  rw [execLinkStoreDischarge, State.pwrOn_at, if_pos hon, if_pos hv]
  rfl

theorem linkOvervoltage_raises {t v : Nat} (hon : s.pwrOn = true) :
    ∃ s', exec (.linkOvervoltage t v) s = .next s' ∧ s'.f PWR_LINK_VOLT = min 65535 v ∧ (s.at t).Raised s' 0 0 kPWR_LINK_OV v := by
  refine ⟨_, exec_linkOvervoltage hon, ?_, .raise (by rw [State.showLink_flt]) _ _⟩
  rw [State.raise_f, State.showLink_volt]

theorem linkHigh_raises {t v : Nat} (hon : s.pwrOn = true) :
    ∃ s', exec (.linkHigh t v) s = .next s' ∧ s'.f PWR_LINK_VOLT = min 65535 v ∧ (s.at t).Raised s' 0 0 kPWR_LINK_HIGH v := by
  refine ⟨_, exec_linkHigh hon, ?_, .raise (by rw [State.showLink_flt]) _ _⟩
  rw [State.raise_f, State.showLink_volt]

theorem linkPfcStop_stops {t v : Nat} (hon : s.pwrOn = true) (hv : 4100 ≤ v) :
    ∃ s', exec (.linkPfcStop t v) s = .next s' ∧ s'.f PWR_LINK_VOLT = min 65535 v ∧ s'.pwr.pfcOn = false ∧
      s'.pwr.storeMode = (if s.storeTakes then 2 else 0) := by
  refine ⟨_, exec_linkPfcStop hon, ?_⟩
  rw [if_pos hv, State.linkFull_f, State.linkFull_pfcOn, State.linkFull_storeMode, State.storeTakes_linkShown]
  exact ⟨State.showLink_volt (s.at t) v, rfl, rfl⟩

theorem linkPfcStop_resumes {t v : Nat} (hon : s.pwrOn = true) (hv : v < 4100) :
    ∃ s', exec (.linkPfcStop t v) s = .next s' ∧ s'.f PWR_LINK_VOLT = min 65535 v ∧
      s'.pwr.pfcOn = (s.fb PWR_SRC_MAINS_QUAL && (s.f PWR_SRC_STATE = 0 || s.f PWR_SRC_STATE = 4)) := by
  have hsrc : Keep rPWR_SRC s ((s.at t).showLink v) := .linkShown s t v ⟨by decide, by decide⟩ (by decide)
  refine ⟨_, exec_linkPfcStop hon, ?_⟩
  rw [if_neg (Nat.not_le.2 hv), State.linkFed_f, State.linkFed_pfcOn, hsrc.fb PWR_SRC_MAINS_QUAL, hsrc.f PWR_SRC_STATE]
  exact ⟨State.showLink_volt (s.at t) v, rfl⟩

theorem linkStoreDischarge_discharges {t v : Nat} (hon : s.pwrOn = true) (hv : v ≤ 3900) :
    ∃ s', exec (.linkStoreDischarge t v) s = .next s' ∧ s'.f PWR_LINK_VOLT = min 65535 v ∧
      s'.pwr.storeMode = (if s.storeCan then 3 else 0) := by
  refine ⟨_, exec_linkStoreDischarge hon hv, ?_⟩
  rw [State.linkLow_f, State.linkLow_storeMode, State.storeCan_linkShown]
  exact ⟨State.showLink_volt (s.at t) v, rfl⟩

/-! ### The link's undervoltage (R341) -/

/-- What one step of a fold brings about and no step undoes holds at its end. -/
theorem foldl_reaches {α β : Type} {f : β → α → β} {p : β → Prop} {l : List α} {x : α} (b : β) (hx : x ∈ l)
    (hset : ∀ z, p (f z x)) (hkeep : ∀ z y, p z → p (f z y)) : p (l.foldl f b) := by
  have hrest : ∀ (r : List α) (z : β), p z → p (r.foldl f z) := by
    intro r
    induction r with
    | nil => exact fun _ h => h
    | cons y r ih => exact fun z h => ih _ (hkeep z y h)
  obtain ⟨l₁, l₂, rfl⟩ := List.append_of_mem hx
  rw [List.foldl_append, List.foldl_cons]
  exact hrest l₂ _ (hset _)

/-- One rail stops at once (R345). -/
def State.railOff (s : State) (q : Nat) : State :=
  (s.setFields [(PWR_q_RAIL_ON q, 0), (PWR_q_RAIL_VPP_MV q, 0)]).modRail q fun _ => {}

theorem State.railsOff_eq (s : State) : s.railsOff = (List.range 24).foldl State.railOff s := rfl

theorem State.railOff_fb (s : State) (q : Nat) (fd : Field) :
    (s.railOff q).fb fd = ((s.setF (PWR_q_RAIL_ON q) 0).setF (PWR_q_RAIL_VPP_MV q) 0).fb fd := by
  rw [State.railOff, State.modRail_fb]
  simp only [State.setFields]

theorem State.railOff_on (s : State) (q : Nat) : (s.railOff q).fb (PWR_q_RAIL_ON q) = false := by
  rw [State.railOff_fb, State.fb_setF_other _ (PWR_q_RAIL_VPP_MV q) (PWR_q_RAIL_ON q) _ (.inr (.inr (show 0 + 16 ≤ 31 by decide))),
    State.fb_setF_same _ (PWR_q_RAIL_ON q) _ (show 31 + 1 ≤ 32 by decide)]
  rfl

theorem State.railOff_on_other (s : State) {q r : Nat} (h : r ≠ q) : (s.railOff q).fb (PWR_q_RAIL_ON r) = s.fb (PWR_q_RAIL_ON r) := by
  have e : (PWR_q_RAIL_ON r).off ≠ (PWR_q_RAIL_ON q).off := by simp only [PWR_q_RAIL_ON]; omega
  have e' : (PWR_q_RAIL_ON r).off ≠ (PWR_q_RAIL_VPP_MV q).off := by simp only [PWR_q_RAIL_ON, PWR_q_RAIL_VPP_MV]; omega
  rw [State.railOff_fb, State.fb_setF_other _ _ _ _ (.inl e'), State.fb_setF_other _ _ _ _ (.inl e)]

theorem State.railsOff_on (s : State) {q : Nat} (hq : q < 24) : s.railsOff.fb (PWR_q_RAIL_ON q) = false := by
  rw [State.railsOff_eq]
  refine foldl_reaches (p := fun z : State => z.fb (PWR_q_RAIL_ON q) = false) s (List.mem_range.2 hq) (fun z => z.railOff_on q)
    fun z r hz => ?_
  by_cases h : q = r
  · rw [h]
    exact z.railOff_on r
  · rw [State.railOff_on_other z h, hz]

theorem State.axisOff_st (s : State) (a b : Nat) :
    ((s.axisOff a).axis b).st = if b = a then .off else (s.axis b).st := by
  rw [State.axisOff, State.modAxis_axis]
  split <;> rfl

/-- The inverters of all four axes turn off. -/
def State.allAxesOff (s : State) : State := [0, 1, 2, 3].foldl State.axisOff s

theorem State.allAxesOff_st (s : State) {a : Nat} (ha : a < 4) : (s.allAxesOff.axis a).st = .off := by
  have hmem : a ∈ [0, 1, 2, 3] := by simp; omega
  refine foldl_reaches (p := fun z : State => (z.axis a).st = .off) s hmem (fun z => ?_) fun z y hz => ?_
  · rw [State.axisOff_st, if_pos rfl]
  · rw [State.axisOff_st, hz, ite_self]

theorem Keep.allAxesOff {o : Nat} {s₀ : State} (h : Keep o s₀ s) (e : ∀ a, o ≠ 0x1B010C + a * 0x40) : Keep o s₀ s.allAxesOff :=
  h.foldl fun _ a _ k => k.axisOff a (e a)

theorem State.allAxesOff_rail (s : State) (q : Nat) : s.allAxesOff.fb (PWR_q_RAIL_ON q) = s.fb (PWR_q_RAIL_ON q) :=
  (Keep.refl.allAxesOff fun a => by simp only [PWR_q_RAIL_ON]; omega : Keep (PWR_q_RAIL_ON q).off _ _).fb _

theorem Grow.allAxesOff {s₀ : State} (h : Grow s₀ s) : Grow s₀ s.allAxesOff := h.foldl fun _ a k => k.axisOff a

/-- The VPP converters stay stopped until the link is back (R341; log entry 75). -/
def State.convStops (s : State) : State := { s with pwr := { s.pwr with convStop := true } }

@[simp] theorem State.convStops_fb (s : State) (fd : Field) : s.convStops.fb fd = s.fb fd := rfl
@[simp] theorem State.convStops_axis (s : State) (a : Nat) : s.convStops.axis a = s.axis a := rfl
@[simp] theorem State.convStops_convStop (s : State) : s.convStops.pwr.convStop = true := rfl

theorem Grow.convStops {s₀ : State} (h : Grow s₀ s) : Grow s₀ s.convStops := .upd h

theorem exec_linkUndervoltage {t v : Nat} (hon : s.pwrOn = true) :
    exec (.linkUndervoltage t v) s = .next (((((s.at t).showLink v).railsOff.allAxesOff).convStops).raise kPWR_LINK_UV v) := by
  show execLinkUndervoltage t v s = _
  rw [execLinkUndervoltage, State.pwrOn_at, if_pos hon]
  rfl

theorem linkUndervoltage_stops {t v : Nat} (hon : s.pwrOn = true) :
    ∃ s', exec (.linkUndervoltage t v) s = .next s' ∧ s'.pwr.convStop = true ∧ (∀ q < 24, s'.fb (PWR_q_RAIL_ON q) = false) ∧
      (∀ a < 4, (s'.axis a).st = .off) ∧ s.Reported s' kPWR_LINK_UV v := by
  refine ⟨_, exec_linkUndervoltage hon, ?_, fun q hq => ?_, fun a ha => ?_, ?_⟩
  · rw [State.raise_pwr, State.convStops_convStop]
  · rw [State.raise_fb, State.convStops_fb, State.allAxesOff_rail, State.railsOff_on _ hq]
  · rw [State.raise_axis, State.convStops_axis, State.allAxesOff_st _ ha]
  · exact .of_raise _ _ (Grow.allAxesOff ((Grow.refl.at t).showLink v).railsOff).convStops .refl

end Sys2Proof.Machine
end

section
/-!
SUPPORT. The broker's step (R344, R351 to R356, R360 to R362, R366): what it measures stays shown whatever it does next, and the
power available is the rated one outside Evening and power groups.
-/
namespace Sys2Proof.Machine
variable {s : State}

/-! ### The measurements shown (R366) -/

/-- The measurements of the module as a whole, without those of the rails. -/
def State.showTotals (s : State) (m : BrokerMeas) : State :=
  let z := (s.showLink m.link).setFields [(PWR_MAINS_FREQ, sat 16 m.freq), (PWR_MAINS_VRMS, sat 16 m.vrms),
    (PWR_DRAW_HEAD_W, sat 16 m.headW), (PWR_DRAW_LOGIC_W, sat 16 m.logicW), (PWR_DRAW_IN_INPUT_W, sat 16 m.inputW),
    (PWR_STORE_E_J, sat 12 m.storeJ), (PWR_STORE_V_VOLT, sat 16 m.storeV)]
  ((z.setFs PWR_DRAW_IN_MOTOR_W m.motorW).setFs PWR_DC_VOLT m.dcV).setFb PWR_DC_REVERSED (decide (m.dcV < 0))

/-- One rail's measurements. -/
def State.showRail (s : State) (r : RailMeas) : State :=
  if r.quad < 24 then
    s.setFields [(PWR_q_RAIL_VPP_MV r.quad, if s.fb (PWR_q_RAIL_ON r.quad) then sat 16 r.mv else 0), (PWR_q_RAIL_LIMIT r.quad, b2n r.limited),
      (PWR_q_RAIL_P_AVG_W r.quad, sat 16 r.avgW), (PWR_q_RAIL_P_PEAK_W r.quad, max (s.f (PWR_q_RAIL_P_PEAK_W r.quad)) (sat 16 r.stepW))]
  else s

/-- The VPP converters start again once the link is back (R341; log entry 75). -/
def State.restartRails (s : State) (link : Nat) : State :=
  if s.pwr.convStop && 3400 ≤ link then
    let z := { s with pwr := { s.pwr with convStop := false } }
    if z.motorsAllowed then z.startRails else z
  else s

theorem State.showMeas_eq (s : State) (m : BrokerMeas) :
    s.showMeas m = (m.rails.foldl State.showRail (s.showTotals m)).restartRails m.link := rfl

/-- What the measurements show. -/
theorem State.showTotals_f (s : State) (m : BrokerMeas) :
    (s.showTotals m).f PWR_LINK_VOLT = min 65535 m.link ∧ (s.showTotals m).f PWR_MAINS_VRMS = min 65535 m.vrms ∧
    (s.showTotals m).f PWR_STORE_E_J = min 4095 m.storeJ ∧ (s.showTotals m).f PWR_DRAW_HEAD_W = min 65535 m.headW := by
  simp only [State.showTotals, State.setFields, State.setFs, State.setFb]
  simp (disch := decide) only [State.f_setF_other, State.f_setF_same, State.showLink_volt]
  exact ⟨trivial, sat_mod 16 _, sat_mod 12 _, sat_mod 16 _⟩

section
variable {o : Nat} {s₀ : State} (ho : PowerReg o)
include ho

/-- Outside the registers of the measurements. -/
theorem Keep.showTotals (h : Keep o s₀ s) (m : BrokerMeas)
    (e : o ∉ [rPWR_LINK, rPWR_MAINS, rPWR_DRAW, rPWR_DRAW_IN, rPWR_STORE, rPWR_STORE_V, rPWR_DC]) : Keep o s₀ (s.showTotals m) := by
  simp only [List.mem_cons, List.not_mem_nil, or_false, not_or] at e
  obtain ⟨elink, emains, edraw, ein, estore, ev, edc⟩ := e
  have hlink := Keep.showLink ho h m.link elink
  exact (((((((((hlink.setF PWR_MAINS_FREQ _ emains).setF PWR_MAINS_VRMS _ emains).setF PWR_DRAW_HEAD_W _ edraw).setF
    PWR_DRAW_LOGIC_W _ edraw).setF PWR_DRAW_IN_INPUT_W _ ein).setF PWR_STORE_E_J _ estore).setF PWR_STORE_V_VOLT _ ev).setFs
    PWR_DRAW_IN_MOTOR_W _ ein).setFs PWR_DC_VOLT _ edc).setFb PWR_DC_REVERSED _ edc

theorem Keep.showRail (h : Keep o s₀ s) (r : RailMeas) : Keep o s₀ (s.showRail r) := by
  unfold State.showRail
  refine .ite (.setFields_cons (.setFields_cons (.setFields_cons (.setFields_cons (.setFields_nil ?_))))) h
  exact (((h.setF _ _ (ho.ne_rail r.quad)).setF _ _ (ho.ne_rail r.quad)).setF _ _ (ho.ne_railP r.quad)).setF _ _ (ho.ne_railP r.quad)

theorem Keep.restartRails (h : Keep o s₀ s) (link : Nat) : Keep o s₀ (s.restartRails link) := by
  simp only [State.restartRails]
  exact .ite (.ite (.startRails ho (.upd h)) (.upd h)) h

/-- The rails' measurements and their restart leave the other registers of the power block. -/
theorem Keep.showMeas_totals (s : State) (m : BrokerMeas) : Keep o (s.showTotals m) (s.showMeas m) := by
  rw [State.showMeas_eq]
  exact .restartRails ho (Keep.refl.foldl fun _ r _ k => .showRail ho k r) _

end

/-! ### The limits and the allowance (R351, R352, R358) -/

theorem State.groupMembers_f (s : State) (fd : Field) (h : fd.off ≠ rPWR_GROUP ∨ 24 ≤ fd.lo) : s.groupMembers.f fd = s.f fd :=
  State.f_setF_other _ PWR_GROUP_MEMBERS fd _ (h.imp_right .inr)

theorem State.setLimits_f (s : State) (fd : Field) (h1 : fd.off ≠ rPWR_LIMITS) (h2 : fd.off ≠ rPWR_MOTOR) :
    s.setLimits.f fd = s.f fd := by
  simp only [State.setLimits, State.setFields]
  rw [State.f_setF_other _ PWR_MOTOR_P_M_W _ _ (.inl h2), State.f_setF_other _ PWR_LIMITS_P_H_W _ _ (.inl h1),
    State.f_setF_other _ PWR_LIMITS_P_AVAIL_W _ _ (.inl h1)]
  rfl

/-- PWR_LIMITS shows the power available (R351). -/
theorem State.setLimits_avail (s : State) : s.setLimits.f PWR_LIMITS_P_AVAIL_W = min 65535 s.availW := by
  simp only [State.setLimits, State.setFields]
  rw [State.f_setF_other _ PWR_MOTOR_P_M_W _ _ (by decide), State.f_setF_other _ PWR_LIMITS_P_H_W _ _ (by decide),
    State.f_setF_same _ PWR_LIMITS_P_AVAIL_W]
  exact sat_mod 16 _

/-- The power available outside Evening and power groups is the rated one (R344, R351). -/
theorem State.availW_rated (hst : s.st ≠ EVENING) (hg : s.f PWR_GROUP_GROUP = 0) : s.availW = ratedW (s.f PWR_MAINS_VRMS) := by
  simp [State.availW, hst, hg]

theorem Keep.setAllowance {o : Nat} {s₀ : State} (ho : PowerReg o) (h : Keep o s₀ s) (e : o ≠ rPWR_MOTOR) : Keep o s₀ s.setAllowance :=
  (h.setF PWR_MOTOR_ALLOW_W _ e).foldl fun _ a _ k => k.setF (MOT_a_SHARE_SHARE_W a) _ (ho.ne_share a)

/-! ### The broker's step -/

/-- The head's account gathers the step's allowance (R354). -/
def State.gatherAcct (s : State) : State :=
  if s.pwr.acctSet then s.setAcct (min s.acctCap (s.pwr.acctUj + s.f PWR_LIMITS_P_H_W * 1000)) else s

/-- The store charges or rests, and its readiness is shown (R58, R348). -/
def State.settleStore (s : State) : State := (if s.pwr.storeMode ≤ 1 then s.storeIdle else s).updHoldup

/-- The broker's check of the windows whose next document it holds (R355). -/
def State.admitHeld (s : State) : State :=
  (List.range 16).foldl (fun s w => if (s.win w).holdOver then s.admitDoc w else s) s

/-- The broker's step up to the reserve checks. -/
def State.brokerBudget (s : State) (m : BrokerMeas) : State :=
  (s.showMeas m).groupMembers.setLimits.setAllowance.gatherAcct

/-- The reserve checks, and the documents that more power, or Evening, may let in (R355, R356, R360 to R362). -/
def State.brokerChecks (s : State) (was old : Nat) : State :=
  let z := s.settleStore.reserveChecks was
  if old < z.pwr.pAvail || z.st = EVENING then z.admitHeld else z

theorem exec_brokerUpdate {t : Nat} (m : BrokerMeas) (hon : s.pwrOn = true) :
    exec (.brokerUpdate t m) s =
      .next (((s.at t).brokerBudget m).brokerChecks ((s.at t).f PWR_STORE_E_J) (s.at t).pwr.pAvail) := by
  show execBrokerUpdate t m s = _
  rw [execBrokerUpdate, State.pwrOn_at, if_pos hon]
  rfl

theorem Keep.gatherAcct {o : Nat} {s₀ : State} (h : Keep o s₀ s) (e : o ≠ rPWR_ACCT) : Keep o s₀ s.gatherAcct :=
  .ite (Keep.setFs (s := { s with pwr := _ }) h PWR_ACCT_ACCT_MJ _ e) h

/-- What the store does and shows leaves every field but the two flags of its readiness. -/
theorem State.settleStore_f (s : State) (fd : Field) (h1 : fd.off ≠ rSYS_STATE) (h2 : fd.off ≠ rPWR_STORE ∨ fd.lo + fd.w ≤ 31) :
    s.settleStore.f fd = s.f fd := by
  rw [State.settleStore, State.updHoldup]
  simp only [State.setFb]
  rw [State.f_setF_other _ PWR_STORE_READY _ _ (h2.imp_right .inl), State.f_setF_other _ SYS_STATE_HOLDUP_READY _ _ (.inl h1)]
  split <;> rfl

section
variable {o : Nat} {s₀ : State} (ho : PowerReg o)
include ho

theorem Keep.reserveChecks (h : Keep o s₀ s) (was : Nat) : Keep o s₀ (s.reserveChecks was) := by
  simp only [State.reserveChecks]
  refine .ite (.ite (.enterDusk ho (.upd h) _ _) (.upd h)) (.ite (.stopDocs (.upd h)) (.ite ?_ (.upd h)))
  exact Keep.raise (.upd h) _ _

theorem Keep.admitHeld (h : Keep o s₀ s) (e : o ≠ rPWR_PAUSE) : Keep o s₀ s.admitHeld :=
  h.foldl fun _ _ hw k => .ite (.admitDoc ho k (List.mem_range.1 hw) e) k

/-- The checks leave what the step has measured and planned. -/
theorem State.brokerChecks_f (s : State) (was old : Nat) {fd : Field} (hfd : fd.off = o) (e : o ≠ rPWR_PAUSE)
    (h : o ≠ rPWR_STORE ∨ fd.lo + fd.w ≤ 31) : (s.brokerChecks was old).f fd = s.f fd := by
  have hchecks : Keep o s.settleStore (s.settleStore.reserveChecks was) := .reserveChecks ho .refl was
  have hkeep : Keep o s.settleStore (s.brokerChecks was old) := .ite (.admitHeld ho hchecks e) hchecks
  rw [hkeep.f fd hfd, State.settleStore_f s fd (hfd ▸ ho.ne_below (by decide)) (hfd ▸ h)]

/-- After the measurements the budget writes PWR_GROUP, PWR_LIMITS, PWR_MOTOR and PWR_ACCT. -/
theorem State.brokerBudget_f (s : State) (m : BrokerMeas) {fd : Field} (hfd : fd.off = o)
    (e : o ∉ [rPWR_GROUP, rPWR_LIMITS, rPWR_MOTOR, rPWR_ACCT]) : (s.brokerBudget m).f fd = (s.showTotals m).f fd := by
  simp only [List.mem_cons, List.not_mem_nil, or_false, not_or] at e
  obtain ⟨egroup, elimits, emotor, eacct⟩ := e
  have hkeep : Keep o (s.showMeas m).groupMembers.setLimits (s.brokerBudget m) := (Keep.setAllowance ho .refl emotor).gatherAcct eacct
  subst hfd
  rw [hkeep.f fd, State.setLimits_f _ fd elimits emotor, State.groupMembers_f _ fd (.inl egroup), (Keep.showMeas_totals ho s m).f fd]

end

/-- The power available that a step shows outside Evening and power groups (R344, R351). -/
theorem State.brokerBudget_avail (m : BrokerMeas) (hst : s.st ≠ EVENING) (hg : s.f PWR_GROUP_GROUP = 0) :
    (s.brokerBudget m).f PWR_LIMITS_P_AVAIL_W = min 65535 (ratedW (min 65535 m.vrms)) := by
  have hkeep : Keep rPWR_LIMITS (s.showMeas m).groupMembers.setLimits (s.brokerBudget m) :=
    (Keep.setAllowance ⟨by decide, by decide⟩ .refl (by decide)).gatherAcct (by decide)
  have hgroup : Keep rPWR_GROUP s (s.showMeas m) :=
    (Keep.showTotals ⟨by decide, by decide⟩ .refl m (by decide)).trans (.showMeas_totals ⟨by decide, by decide⟩ s m)
  have hst' : (s.showMeas m).groupMembers.st ≠ EVENING := by
    rwa [((Steady.refl.showMeas m).groupMembers).st]
  have hg' : (s.showMeas m).groupMembers.f PWR_GROUP_GROUP = 0 := by
    rw [State.groupMembers_f _ _ (.inr (by decide)), hgroup.f PWR_GROUP_GROUP, hg]
  have hvolt : (s.showMeas m).groupMembers.f PWR_MAINS_VRMS = min 65535 m.vrms := by
    rw [State.groupMembers_f _ _ (.inl (by decide)),
      (Keep.showMeas_totals (o := rPWR_MAINS) ⟨by decide, by decide⟩ s m).f PWR_MAINS_VRMS]
    exact (s.showTotals_f m).2.1
  rw [hkeep.f PWR_LIMITS_P_AVAIL_W, State.setLimits_avail, State.availW_rated hst' hg', hvolt]

theorem brokerUpdate_shows {t : Nat} (m : BrokerMeas) (hon : s.pwrOn = true) :
    ∃ s', exec (.brokerUpdate t m) s = .next s' ∧ s'.f PWR_LINK_VOLT = min 65535 m.link ∧ s'.f PWR_MAINS_VRMS = min 65535 m.vrms ∧
      s'.f PWR_STORE_E_J = min 4095 m.storeJ ∧ s'.f PWR_DRAW_HEAD_W = min 65535 m.headW ∧
      (s.st ≠ EVENING → s.f PWR_GROUP_GROUP = 0 → s'.f PWR_LIMITS_P_AVAIL_W = min 65535 (ratedW (min 65535 m.vrms))) := by
  obtain ⟨hlink, hvrms, hstore, hhead⟩ := (s.at t).showTotals_f m
  refine ⟨_, exec_brokerUpdate m hon, ?_, ?_, ?_, ?_, fun hst hg => ?_⟩
  · rw [State.brokerChecks_f (o := rPWR_LINK) ⟨by decide, by decide⟩ _ _ _ rfl (by decide) (by decide),
      State.brokerBudget_f (o := rPWR_LINK) ⟨by decide, by decide⟩ _ m rfl (by decide), hlink]
  · rw [State.brokerChecks_f (o := rPWR_MAINS) ⟨by decide, by decide⟩ _ _ _ rfl (by decide) (by decide),
      State.brokerBudget_f (o := rPWR_MAINS) ⟨by decide, by decide⟩ _ m rfl (by decide), hvrms]
  · rw [State.brokerChecks_f (o := rPWR_STORE) ⟨by decide, by decide⟩ _ _ _ rfl (by decide) (by decide),
      State.brokerBudget_f (o := rPWR_STORE) ⟨by decide, by decide⟩ _ m rfl (by decide), hstore]
  · rw [State.brokerChecks_f (o := rPWR_DRAW) ⟨by decide, by decide⟩ _ _ _ rfl (by decide) (by decide),
      State.brokerBudget_f (o := rPWR_DRAW) ⟨by decide, by decide⟩ _ m rfl (by decide), hhead]
  · rw [State.brokerChecks_f (o := rPWR_LIMITS) ⟨by decide, by decide⟩ _ _ _ rfl (by decide) (by decide)]
    exact State.brokerBudget_avail m (by rwa [State.st_at]) (by rwa [State.f_at s t PWR_GROUP_GROUP])

/-- Settles O28: the source machine by what each of its operations leaves in PWR_SRC, the link by what its voltage and its
threshold change, and the broker's step by the registers that its checks leave. -/
theorem mainsAndSource : Obligations.MainsAndSource := by
  refine ⟨?_, ?_, ?_, ?_, ?_, ?_, ?_⟩
  · intro s t reason hon hp
    exact ⟨mainsLost_toOut hon hp, mainsLost_toRide hon hp⟩
  · intro s t hon hp
    exact mainsPresent_qualifies hon hp
  · intro s t x hon hx hq
    exact ⟨mainsQualified_takes hon hx hq, mainsQualified_handsBack hon hx hq⟩
  · intro s t hon hsrc hdue
    exact dcRampComplete_rides hon hsrc hdue
  · intro s t hon hsrc hdue
    have hback := State.BackDue.at hon hsrc hdue
    exact ⟨handbackComplete_toMains hback, handbackComplete_aborts hback⟩
  · intro s t v hon
    exact ⟨linkOvervoltage_raises hon, linkHigh_raises hon, linkPfcStop_stops hon, linkPfcStop_resumes hon,
      linkStoreDischarge_discharges hon, linkUndervoltage_stops hon⟩
  · intro s t m hon
    exact brokerUpdate_shows m hon

end Sys2Proof.Machine
end

section
/-!
SUPPORT. The bridges of the fluid-sensor buses (R493, R494; that a command says whether a bus is busy is log entry 148): what a bridge
holds after each operation on it, and each command as one operation under the conditions that let it act.
-/
namespace Sys2Proof.Machine
variable {s : State}

/-! ### A bridge and its datagrams -/

@[simp] theorem State.fluid_at (s : State) (t k : Nat) : (s.at t).fluid k = s.fluid k := by
  simp only [State.fluid, State.at_svc]

@[simp] theorem State.emit_fluid (s : State) (o : Output) (k : Nat) : (s.emit o).fluid k = s.fluid k := rfl

@[simp] theorem State.modFluid_fluid (s : State) (k : Nat) (g : Fluid → Fluid) : (s.modFluid k g).fluid k = g (s.fluid k) := by
  by_cases hk : k = 0 <;> simp [State.modFluid, State.fluid, hk]

@[simp] theorem State.modFluid_out (s : State) (k : Nat) (g : Fluid → Fluid) : (s.modFluid k g).out = s.out := rfl

/-- A waiting datagram goes out on a bus that sends nothing. -/
theorem State.fluidNext_sends {k : Nat} {d : List Nat} {r : List (List Nat)} (hsend : (s.fluid k).sending = none)
    (htx : (s.fluid k).tx = d :: r) :
    s.fluidNext k = (s.modFluid k fun x => { x with tx := r, sending := some d }).emit (.fluid k d) := by
  simp only [State.fluidNext, hsend, htx]

/-- With no datagram waiting nothing goes out. -/
theorem State.fluidNext_nothing {k : Nat} (htx : (s.fluid k).tx = []) : s.fluidNext k = s := by
  cases hsend : (s.fluid k).sending with
  | none => simp only [State.fluidNext, hsend, htx]
  | some d => simp only [State.fluidNext, hsend]

/-! ### A datagram reaches a bridge -/

/-- A datagram from an address and port makes that the bridge's peer. -/
def State.fluidPeer (s : State) (bus src port : Nat) : State := s.modFluid bus fun x => { x with peer := some (src, port) }

@[simp] theorem State.fluidPeer_fluid (s : State) (bus src port : Nat) :
    (s.fluidPeer bus src port).fluid bus = { s.fluid bus with peer := some (src, port) } := State.modFluid_fluid ..

@[simp] theorem State.fluidPeer_out (s : State) (bus src port : Nat) : (s.fluidPeer bus src port).out = s.out := rfl

section
variable {bus : Nat} {data : List Nat} (hon : s.powered = true) (hbus : bus < 2) (hlo : 1 ≤ data.length) (hhi : data.length ≤ 256)
include hon hbus hlo hhi

/-- A datagram of 1 to 256 bytes to one of the two bridges is taken, whatever the bridge does with it (R494). -/
theorem exec_fluidBridgeDatagram (t src port : Nat) (busy : Bool) :
    exec (.fluidBridgeDatagram t bus src port data busy) s = .next
      (if ((s.fluid bus).sending.isNone && (s.fluid bus).tx.isEmpty && !busy) = true then
        (((s.at t).fluidPeer bus src port).modFluid bus fun x => { x with tx := [data] }).fluidNext bus
      else if (s.fluid bus).tx.length < 4 then
        ((s.at t).fluidPeer bus src port).modFluid bus fun x => { x with tx := x.tx ++ [data] }
      else (s.at t).fluidPeer bus src port) := by
  have hdata : data ≠ [] := List.ne_nil_of_length_pos hlo
  have htake : (!(s.at t).powered || decide (2 ≤ bus) || data.isEmpty || decide (256 < data.length)) = false := by
    simp [hon, hbus, hdata, hhi]
  refine (congrArg Host.Outcome.next (if_neg (by rw [htake]; decide))).trans ?_
  simp only [State.modFluid_fluid, State.fluid_at]
  rfl

theorem fluidBridgeDatagram_sends (t src port : Nat) {busy : Bool} (hsend : (s.fluid bus).sending = none)
    (htx : (s.fluid bus).tx = []) (hbusy : busy = false) :
    ∃ s', exec (.fluidBridgeDatagram t bus src port data busy) s = .next s' ∧ s'.out = .fluid bus data :: s.out ∧
      s'.fluid bus = { peer := some (src, port), tx := [], sending := some data } := by
  refine ⟨_, exec_fluidBridgeDatagram hon hbus hlo hhi t src port busy, ?_⟩
  rw [if_pos (by simp [hsend, htx, hbusy]), State.fluidNext_sends (d := data) (r := []) (by simp [hsend]) (by simp)]
  simp

theorem fluidBridgeDatagram_waits (t src port : Nat) {busy : Bool}
    (h : (s.fluid bus).sending ≠ none ∨ (s.fluid bus).tx ≠ [] ∨ busy = true) :
    ∃ s', exec (.fluidBridgeDatagram t bus src port data busy) s = .next s' ∧ s'.out = s.out ∧
      (s'.fluid bus).peer = some (src, port) ∧ (s'.fluid bus).sending = (s.fluid bus).sending ∧
      (s'.fluid bus).tx = (if (s.fluid bus).tx.length < 4 then (s.fluid bus).tx ++ [data] else (s.fluid bus).tx) := by
  have hheld : ((s.fluid bus).sending.isNone && (s.fluid bus).tx.isEmpty && !busy) = false := by
    rcases h with hsend | htx | hbusy
    · simp [hsend]
    · simp [htx]
    · simp [hbusy]
  refine ⟨_, exec_fluidBridgeDatagram hon hbus hlo hhi t src port busy, ?_⟩
  rw [if_neg (by rw [hheld]; decide)]
  by_cases hroom : (s.fluid bus).tx.length < 4
  · simp [hroom]
  · simp [hroom]

end

/-! ### A bus falls idle -/

/-- What a bus has said goes to its bridge's peer, unless the engine was sending or has no peer (R494). -/
def State.busHeard (s : State) (bus : Nat) (data : List Nat) : State :=
  match (s.fluid bus).sending, (s.fluid bus).peer with
  | none, some (a, p) => (pieces 256 (data.length / 256 + 1) 0 data).foldl (fun z e => z.emit (.udp a p (19273 + bus) e.2)) s
  | _, _ => s

/-- The bus no longer sends. -/
def State.busQuiet (s : State) (bus : Nat) : State := s.modFluid bus fun x => { x with sending := none }

@[simp] theorem State.busQuiet_fluid (s : State) (bus : Nat) : (s.busQuiet bus).fluid bus = { s.fluid bus with sending := none } :=
  State.modFluid_fluid ..

@[simp] theorem State.busQuiet_out (s : State) (bus : Nat) : (s.busQuiet bus).out = s.out := rfl

/-- A byte string of at most one piece's length is its only piece. -/
theorem pieces_single {k o n : Nat} {bs : List Nat} (h : bs ≠ []) (hk : bs.length ≤ k) : pieces k (n + 1) o bs = [(o, bs)] := by
  cases n with
  | zero => simp [pieces, h, List.take_of_length_le hk]
  | succ n => simp [pieces, h, List.take_of_length_le hk, List.drop_of_length_le hk]

theorem State.busHeard_answers {bus a p : Nat} {data : List Nat} (hsend : (s.fluid bus).sending = none)
    (hpeer : (s.fluid bus).peer = some (a, p)) (hlo : 1 ≤ data.length) (hhi : data.length ≤ 256) :
    s.busHeard bus data = s.emit (.udp a p (19273 + bus) data) := by
  simp only [State.busHeard, hsend, hpeer, pieces_single (List.ne_nil_of_length_pos hlo) hhi, List.foldl_cons, List.foldl_nil]

theorem State.busHeard_discards {bus : Nat} (data : List Nat) (hsend : (s.fluid bus).sending ≠ none) : s.busHeard bus data = s := by
  obtain ⟨d, hd⟩ := Option.ne_none_iff_exists'.1 hsend
  simp only [State.busHeard, hd]

theorem Grow.busHeard {s₀ : State} (h : Grow s₀ s) (bus : Nat) (data : List Nat) : Grow s₀ (s.busHeard bus data) := by
  unfold State.busHeard
  split
  · exact h.foldl fun _ _ k => k.emit _
  · exact h

theorem State.busHeard_fluid (s : State) (bus : Nat) (data : List Nat) : (s.busHeard bus data).fluid bus = s.fluid bus := by
  unfold State.busHeard
  split
  · exact foldl_keeps (fun z => z.fluid bus) _ _ fun _ _ _ => rfl
  · rfl

theorem exec_fluidBusIdle {t bus : Nat} (data : List Nat) (hon : s.powered = true) (hbus : bus < 2) :
    exec (.fluidBusIdle t bus data) s = .next ((((s.at t).busHeard bus data).busQuiet bus).fluidNext bus) := by
  have hact : (!(s.at t).powered || decide (2 ≤ bus)) = false := by simp [hon, hbus]
  exact congrArg Host.Outcome.next (if_neg (by rw [hact]; decide))

theorem fluidBusIdle_answers {t bus a p : Nat} {data : List Nat} (hon : s.powered = true) (hbus : bus < 2)
    (hsend : (s.fluid bus).sending = none) (hpeer : (s.fluid bus).peer = some (a, p)) (hlo : 1 ≤ data.length)
    (hhi : data.length ≤ 256) :
    ∃ s', exec (.fluidBusIdle t bus data) s = .next s' ∧ s.Put s' (fun o => o = .udp a p (19273 + bus) data) := by
  refine ⟨_, exec_fluidBusIdle data hon hbus, ?_⟩
  rw [State.busHeard_answers (by rw [State.fluid_at, hsend]) (by rw [State.fluid_at, hpeer]) hlo hhi]
  exact .of_emit _ _ rfl (Grow.refl.at t) ((Grow.refl.modFluid bus _).fluidNext bus)

theorem fluidBusIdle_quiets {t bus : Nat} {data : List Nat} (hon : s.powered = true) (hbus : bus < 2)
    (hsend : (s.fluid bus).sending ≠ none) (htx : (s.fluid bus).tx = []) :
    ∃ s', exec (.fluidBusIdle t bus data) s = .next s' ∧ s'.out = s.out ∧ (s'.fluid bus).sending = none := by
  refine ⟨_, exec_fluidBusIdle data hon hbus, ?_⟩
  rw [State.busHeard_discards data (by rwa [State.fluid_at]), State.fluidNext_nothing (by simp [htx])]
  simp

theorem fluidBusIdle_sendsNext {t bus : Nat} {data d : List Nat} {r : List (List Nat)} (hon : s.powered = true) (hbus : bus < 2)
    (htx : (s.fluid bus).tx = d :: r) :
    ∃ s', exec (.fluidBusIdle t bus data) s = .next s' ∧ (s'.fluid bus).sending = some d ∧ (s'.fluid bus).tx = r ∧
      s.Put s' (fun o => o = .fluid bus d) := by
  have hquiet : (((s.at t).busHeard bus data).busQuiet bus).fluid bus = { s.fluid bus with sending := none } := by
    rw [State.busQuiet_fluid, State.busHeard_fluid, State.fluid_at]
  refine ⟨_, exec_fluidBusIdle data hon hbus, ?_⟩
  rw [State.fluidNext_sends (d := d) (r := r) (by rw [hquiet]) (by rw [hquiet, htx])]
  refine ⟨by simp, by simp, ?_⟩
  exact .of_emit _ _ rfl ((((Grow.refl.at t).busHeard bus data).modFluid bus _).modFluid bus _) .refl

end Sys2Proof.Machine
end

section
/-!
SUPPORT. The cue lines (R87, R100, R413, R484 to R486, R508; that they drive again at CUE_VIN_RESTORED is log entry 142): the
level a line may drive, what driving one line and all lines leaves, and each command on a line or on a connector's supply.
-/
namespace Sys2Proof.Machine
variable {s : State}

/-! ### The level of a line -/

/-- The level a line would drive on a good supply: none after an overload (R485). -/
def State.cueWish (s : State) (n : Nat) : Option Bool := if (lookup? s.svc.cueOver n).isSome then none else s.cueWants n

/-- The connector's low supply keeps a line from driving high (R486). -/
def State.vinBlocks (s : State) (n : Nat) : Bool := s.cueWish n == some true && s.svc.vinLow.contains (n / 8)

/-- The level a line may drive (R485, R486). -/
def State.cueLevel (s : State) (n : Nat) : Option Bool := if s.vinBlocks n then none else s.cueWish n

theorem State.cueWish_over {n : Nat} (h : (lookup? s.svc.cueOver n).isSome = true) : s.cueWish n = none := if_pos h

theorem State.cueWish_clear {n : Nat} (h : lookup? s.svc.cueOver n = none) : s.cueWish n = s.cueWants n := by
  simp [State.cueWish, h]

theorem State.vinBlocks_good {n : Nat} (h : n / 8 ∉ s.svc.vinLow) : s.vinBlocks n = false := by
  simp [State.vinBlocks, h]

theorem State.vinBlocks_low {n : Nat} (h : n / 8 ∈ s.svc.vinLow) : s.vinBlocks n = (s.cueWish n == some true) := by
  simp [State.vinBlocks, h]

theorem State.cueLevel_over {n : Nat} (h : (lookup? s.svc.cueOver n).isSome = true) : s.cueLevel n = none := by
  simp [State.cueLevel, State.cueWish_over h]

/-- A line that no overload and no low supply holds back drives what it wants. -/
theorem State.cueLevel_free {n : Nat} (hover : lookup? s.svc.cueOver n = none) (hvin : n / 8 ∉ s.svc.vinLow) :
    s.cueLevel n = s.cueWants n := by
  simp [State.cueLevel, State.vinBlocks_good hvin, State.cueWish_clear hover]

theorem State.cueLevel_low {n : Nat} (h : n / 8 ∈ s.svc.vinLow) : s.cueLevel n ≠ some true := by
  rw [State.cueLevel, State.vinBlocks_low h]
  by_cases hw : s.cueWish n = some true
  · simp [hw]
  · simp [hw]

/-! ### What a line wants -/

/-- A line's wish rests on the image in force, the register words, and the holds and pulses that run. -/
theorem State.cueWants_congr {z : State} (hcfg : z.cfg = s.cfg) (hst : z.st = s.st) (hpend : z.pendClass = s.pendClass)
    (hhold : z.svc.cueHold = s.svc.cueHold) (hpulse : z.svc.cuePulse = s.svc.cuePulse) (n : Nat) : z.cueWants n = s.cueWants n := by
  have hrec : z.cueRec n = s.cueRec n := by simp only [State.cueRec, hcfg]
  unfold State.cueWants State.cueHeld State.cueActive
  rw [hrec, hst, hpend, hhold, hpulse]

theorem State.pendClass_at (s : State) (t : Nat) : (s.at t).pendClass = s.pendClass := by
  funext c
  simp only [State.pendClass, State.fb_at s t FLT_PEND_HALT, State.fb_at s t FLT_PEND_STOP, State.fb_at s t FLT_PEND_DEGRADE,
    State.fb_at s t FLT_PEND_NOTE]

@[simp] theorem State.cueWants_at (s : State) (t n : Nat) : (s.at t).cueWants n = s.cueWants n :=
  State.cueWants_congr (by simp) (by simp) (s.pendClass_at t) (by simp) (by simp) n

/-- An event output that no switch holds is at its inactive level once its pulse has ended (R508). -/
theorem State.cueWants_pulseEnded {n : Nat} (hfunc : (s.cueRec n).func = 5) (hheld : s.cueHeld n = false)
    (hpulse : lookup? s.svc.cuePulse n = none) : s.cueWants n = some (s.cueRec n).activeLow := by
  simp [State.cueWants, State.cueActive, hheld, hfunc, hpulse]

/-! ### One line is driven -/

/-- A line that a low supply blocks is noted once (R486). -/
def State.noteVin (s : State) (n : Nat) : State :=
  if s.vinBlocks n && !s.svc.vinNoted.contains n then
    ({ s with svc := { s.svc with vinNoted := n :: s.svc.vinNoted } }).raise kSYS_NOTE (0x80000120 + n)
  else s

/-- A line's output takes a level. -/
def State.setCue (s : State) (n : Nat) (lvl : Option Bool) : State :=
  ({ s with svc := { s.svc with cueOut := match lvl with
      | some b => insertKey n b s.svc.cueOut
      | none => erase s.svc.cueOut n } }).emit (.cue n lvl)

/-- Driving a line notes it if it is blocked, and sets its output if that is not already at its level. -/
theorem State.driveCue_eq (s : State) (n : Nat) :
    s.driveCue n = if (s.cueLevel n == lookup? (s.noteVin n).svc.cueOut n) = true then s.noteVin n
      else (s.noteVin n).setCue n (s.cueLevel n) := rfl

theorem State.noteVin_svc (s : State) (n : Nat) :
    (s.noteVin n).svc = { s.svc with vinNoted := if s.vinBlocks n && !s.svc.vinNoted.contains n then n :: s.svc.vinNoted
                                                 else s.svc.vinNoted } := by
  unfold State.noteVin
  split
  · rw [State.raise_svc]
  · rfl

theorem State.noteVin_unblocked {n : Nat} (h : s.vinBlocks n = false) : s.noteVin n = s := by
  simp [State.noteVin, h]

theorem State.setCue_same (s : State) (n : Nat) (lvl : Option Bool) : lookup? (s.setCue n lvl).svc.cueOut n = lvl := by
  cases lvl with
  | none => exact lookup_erase ..
  | some b => exact lookup_insertKey ..

theorem State.setCue_other (s : State) {n j : Nat} (lvl : Option Bool) (h : j ≠ n) :
    lookup? (s.setCue n lvl).svc.cueOut j = lookup? s.svc.cueOut j := by
  cases lvl with
  | none => exact lookup_erase_other _ _ _ h
  | some b => exact lookup_insertKey_other _ _ _ _ h

/-- Driving a line changes, of the service block, the outputs and the lines noted. -/
theorem State.driveCue_svc (s : State) (n : Nat) :
    (s.driveCue n).svc = { (s.noteVin n).svc with cueOut := (s.driveCue n).svc.cueOut } := by
  rw [State.driveCue_eq]
  split
  · rfl
  · rfl

theorem State.driveCue_cfg (s : State) (n : Nat) : (s.driveCue n).cfg = s.cfg :=
  (Frame.refl.driveCue (μ := { health := true, flt := true, svc := true }) n rfl rfl rfl).cfg.resolve_left (by decide)

theorem State.driveCue_wants (s : State) (n j : Nat) : (s.driveCue n).cueWants j = s.cueWants j := by
  have hreg : (s.driveCue n).f = s.f := by
    funext fd
    simp only [State.f, State.reg, State.driveCue_regs]
  have hpend : (s.driveCue n).pendClass = s.pendClass := by
    funext c
    simp only [State.pendClass, State.fb, hreg]
  have hhold : (s.driveCue n).svc.cueHold = s.svc.cueHold := s.driveCue_hold n
  have hpulse : (s.driveCue n).svc.cuePulse = s.svc.cuePulse := by rw [State.driveCue_svc, State.noteVin_svc]
  exact State.cueWants_congr (s.driveCue_cfg n) (congrFun hreg _) hpend hhold hpulse j

theorem State.driveCue_vinLow (s : State) (n : Nat) : (s.driveCue n).svc.vinLow = s.svc.vinLow := by
  rw [State.driveCue_svc, State.noteVin_svc]

theorem State.driveCue_over (s : State) (n : Nat) : (s.driveCue n).svc.cueOver = s.svc.cueOver := by
  rw [State.driveCue_svc, State.noteVin_svc]

theorem State.driveCue_blocks (s : State) (n j : Nat) : (s.driveCue n).vinBlocks j = s.vinBlocks j := by
  simp only [State.vinBlocks, State.cueWish, State.driveCue_wants, State.driveCue_vinLow, State.driveCue_over]

theorem State.driveCue_level (s : State) (n j : Nat) : (s.driveCue n).cueLevel j = s.cueLevel j := by
  simp only [State.cueLevel, State.driveCue_blocks, State.cueWish, State.driveCue_wants, State.driveCue_over]

/-- A line that has been driven is at its level. -/
theorem State.driveCue_same (s : State) (n : Nat) : lookup? (s.driveCue n).svc.cueOut n = s.cueLevel n := by
  rw [State.driveCue_eq]
  split
  · next h => exact (eq_of_beq h).symm
  · exact State.setCue_same ..

theorem State.driveCue_other (s : State) {n j : Nat} (h : j ≠ n) :
    lookup? (s.driveCue n).svc.cueOut j = lookup? s.svc.cueOut j := by
  rw [State.driveCue_eq]
  split
  · rw [State.noteVin_svc]
  · rw [State.setCue_other _ _ h, State.noteVin_svc]

theorem State.mem_noted_driveCue (s : State) (n j : Nat) :
    j ∈ (s.driveCue n).svc.vinNoted ↔ j ∈ s.svc.vinNoted ∨ j = n ∧ s.vinBlocks n = true := by
  rw [State.driveCue_svc, State.noteVin_svc]
  by_cases hb : s.vinBlocks n = true
  · by_cases hn : n ∈ s.svc.vinNoted
    · have hsame : j = n → j ∈ s.svc.vinNoted := fun e => e ▸ hn
      simpa [hb, hn] using hsame
    · simp [hb, hn, or_comm]
  · simp [hb]

/-- A blocked line that has not been noted is noted when it is driven (R486). -/
theorem State.driveCue_reports {n : Nat} (hb : s.vinBlocks n = true) (hn : n ∉ s.svc.vinNoted) :
    s.Reported (s.driveCue n) kSYS_NOTE (0x80000120 + n) := by
  have hnote : s.noteVin n = ({ s with svc := { s.svc with vinNoted := n :: s.svc.vinNoted } }).raise kSYS_NOTE (0x80000120 + n) :=
    if_pos (by simp [hb, hn])
  have hgrow : Grow (s.noteVin n) (s.driveCue n) := by
    rw [State.driveCue_eq]
    exact .ite .refl (.emit (.upd .refl) _)
  exact .of_raise _ _ (.upd .refl) (hnote ▸ hgrow)

/-! ### All lines are driven -/

theorem State.showCues_vinLow (s : State) : s.showCues.svc.vinLow = s.svc.vinLow := by
  rw [State.showCues]
  exact foldl_keeps (fun z => z.svc.vinLow) _ _ fun z n _ => z.driveCue_vinLow n

/-- Every line ends at the level that it may drive. -/
theorem State.showCues_out (s : State) {n : Nat} (hn : n < 16) : lookup? s.showCues.svc.cueOut n = s.cueLevel n := by
  have hreach : lookup? s.showCues.svc.cueOut n = s.showCues.cueLevel n := by
    rw [State.showCues]
    refine foldl_reaches (p := fun z : State => lookup? z.svc.cueOut n = z.cueLevel n) s (List.mem_range.2 hn) (fun z => ?_)
      fun z j hz => ?_
    · rw [State.driveCue_same, State.driveCue_level]
    · rw [State.driveCue_level]
      by_cases h : n = j
      · rw [h, State.driveCue_same]
      · rw [State.driveCue_other z h, hz]
  rw [hreach, State.showCues]
  exact foldl_keeps (fun z => z.cueLevel n) _ _ fun z j _ => z.driveCue_level j n

theorem State.mem_noted_foldl (l : List Nat) (s : State) (j : Nat) :
    j ∈ (l.foldl State.driveCue s).svc.vinNoted ↔ j ∈ s.svc.vinNoted ∨ j ∈ l ∧ s.vinBlocks j = true := by
  induction l generalizing s with
  | nil => simp
  | cons n r ih =>
    rw [List.foldl_cons, ih, State.mem_noted_driveCue, State.driveCue_blocks, List.mem_cons, or_assoc, or_and_right]
    by_cases h : j = n
    · simp [h]
    · simp [h]

/-- Driving all lines notes a blocked line that has not been noted (R486). -/
theorem State.showCues_reports {n : Nat} (hn : n < 16) (hb : s.vinBlocks n = true) (hnoted : n ∉ s.svc.vinNoted) :
    s.Reported s.showCues kSYS_NOTE (0x80000120 + n) := by
  obtain ⟨l₁, l₂, hsplit, hfirst⟩ := List.eq_append_cons_of_mem (List.mem_range.2 hn)
  have hb' : (l₁.foldl State.driveCue s).vinBlocks n = true :=
    (foldl_keeps (fun z => z.vinBlocks n) _ _ fun z j _ => z.driveCue_blocks j n).trans hb
  have hnoted' : n ∉ (l₁.foldl State.driveCue s).svc.vinNoted := by
    rw [State.mem_noted_foldl]
    simp [hnoted, hfirst]
  have hgrow (l : List Nat) (z : State) : Grow z (l.foldl State.driveCue z) := Grow.refl.foldl fun _ j k => k.driveCue j
  rw [State.showCues, hsplit, List.foldl_append, List.foldl_cons]
  exact ((State.driveCue_reports hb' hnoted').left (hgrow l₁ s)).right (hgrow l₂ _)

/-! ### The supplies -/

theorem encoderSupplyShort_noted {t n : Nat} (hon : s.powered = true) (hn : n < 16) :
    ∃ s', exec (.encoderSupplyShort t n) s = .next s' ∧ (s.at t).Raised s' 0 0 kSYS_NOTE (0x80000000 + n) := by
  refine ⟨(s.at t).raise kSYS_NOTE (0x80000000 + n), congrArg Host.Outcome.next (if_pos ?_), .raise rfl _ _⟩
  simp [hon, hn]

/-- A connector's supply is low. -/
def State.vinFalls (s : State) (c : Nat) : State :=
  { s with svc := { s.svc with vinLow := if s.svc.vinLow.contains c then s.svc.vinLow else c :: s.svc.vinLow } }

/-- A connector's supply is back, and the notes of its lines are armed. -/
def State.vinReturns (s : State) (c : Nat) : State :=
  { s with svc := { s.svc with vinLow := s.svc.vinLow.filter (· != c), vinNoted := s.svc.vinNoted.filter fun n => n / 8 != c } }

theorem State.mem_vinFalls (s : State) (c : Nat) : c ∈ (s.vinFalls c).svc.vinLow := by
  by_cases h : c ∈ s.svc.vinLow
  · simp [State.vinFalls, h]
  · simp [State.vinFalls, h]

theorem State.vinFalls_wish (s : State) (c n : Nat) : (s.vinFalls c).cueWish n = s.cueWish n := rfl

theorem State.not_mem_vinReturns (s : State) (c : Nat) : c ∉ (s.vinReturns c).svc.vinLow := by
  simp [State.vinReturns]

theorem State.vinReturns_armed (s : State) {c n : Nat} (h : n / 8 = c) : n ∉ (s.vinReturns c).svc.vinNoted := by
  simp [State.vinReturns, h]

theorem State.vinReturns_wants (s : State) (c n : Nat) : (s.vinReturns c).cueWants n = s.cueWants n := rfl

theorem exec_cueVinLow (t : Nat) {c : Nat} (hc : c < 2) :
    exec (.cueVinLow t c) s = .next ((s.at t).vinFalls c).showCues := congrArg Host.Outcome.next (if_pos hc)

theorem exec_cueVinRestored (s : State) (t c : Nat) :
    exec (.cueVinRestored t c) s = .next ((s.at t).vinReturns c).showCues := rfl

theorem cueVinLow_blocks (t : Nat) {c : Nat} (hc : c < 2) :
    ∃ s', exec (.cueVinLow t c) s = .next s' ∧ c ∈ s'.svc.vinLow ∧
      (∀ n, n < 16 → n / 8 = c → lookup? s'.svc.cueOut n ≠ some true) ∧
      (∀ n, n < 16 → n / 8 = c → s.cueWants n = some true → lookup? s.svc.cueOver n = none → s.svc.vinNoted = [] →
        s.Reported s' kSYS_NOTE (0x80000120 + n)) := by
  have hlow : c ∈ ((s.at t).vinFalls c).svc.vinLow := State.mem_vinFalls ..
  refine ⟨_, exec_cueVinLow t hc, ?_, fun n hn hnc => ?_, fun n hn hnc hwants hover hnoted => ?_⟩
  · rwa [State.showCues_vinLow]
  · rw [State.showCues_out _ hn]
    exact State.cueLevel_low (hnc ▸ hlow)
  · have hwish : ((s.at t).vinFalls c).cueWish n = some true := by
      rw [State.vinFalls_wish, State.cueWish_clear (by rwa [State.at_svc]), State.cueWants_at, hwants]
    have hblocks : ((s.at t).vinFalls c).vinBlocks n = true := by
      rw [State.vinBlocks_low (hnc ▸ hlow), hwish]
      rfl
    have harmed : n ∉ ((s.at t).vinFalls c).svc.vinNoted := by
      simp [State.vinFalls, hnoted]
    exact (State.showCues_reports hn hblocks harmed).left (.upd (Grow.refl.at t))

theorem cueVinRestored_drives (s : State) (t c : Nat) :
    ∃ s', exec (.cueVinRestored t c) s = .next s' ∧ c ∉ s'.svc.vinLow ∧ (∀ n, n / 8 = c → n ∉ s'.svc.vinNoted) ∧
      (∀ n, n < 16 → n / 8 = c → lookup? s.svc.cueOver n = none → lookup? s'.svc.cueOut n = s.cueWants n) := by
  have hgood : c ∉ ((s.at t).vinReturns c).svc.vinLow := (s.at t).not_mem_vinReturns c
  refine ⟨_, exec_cueVinRestored s t c, ?_, fun n hnc => ?_, fun n hn hnc hover => ?_⟩
  · rwa [State.showCues_vinLow]
  · rw [State.showCues, State.mem_noted_foldl, State.vinBlocks_good (hnc ▸ hgood)]
    simp [State.vinReturns_armed _ hnc]
  · have hover' : lookup? ((s.at t).vinReturns c).svc.cueOver n = none := by rwa [← State.at_svc s t] at hover
    rw [State.showCues_out _ hn, State.cueLevel_free hover' (hnc ▸ hgood), State.vinReturns_wants, State.cueWants_at]

/-! ### Pulses and overloads -/

/-- A line's pulse has ended. -/
def State.pulseEnds (s : State) (n : Nat) : State := { s with svc := { s.svc with cuePulse := erase s.svc.cuePulse n } }

/-- A line is off after an overload, until an instant. -/
def State.overloads (s : State) (n e : Nat) : State := { s with svc := { s.svc with cueOver := insertKey n e s.svc.cueOver } }

/-- A line's time off after an overload has ended. -/
def State.overloadEnds (s : State) (n : Nat) : State := { s with svc := { s.svc with cueOver := erase s.svc.cueOver n } }

theorem exec_cuePulseEnd {t n e : Nat} (h : lookup? s.svc.cuePulse n = some e) (hdue : e ≤ max s.now t) :
    exec (.cuePulseEnd t n) s = .next (((s.at t).pulseEnds n).driveCue n) := by
  have hrun : lookup? (s.at t).svc.cuePulse n = some e := by rwa [State.at_svc]
  have hdue' : e ≤ (s.at t).now := by rwa [State.at_now]
  refine (show _ = execCuePulseEnd t n s from rfl).trans ?_
  simp only [execCuePulseEnd, hrun, if_pos hdue']
  rfl

theorem exec_cueOutputOverload {t n : Nat} {b : Bool} (h : lookup? s.svc.cueOut n = some b) :
    exec (.cueOutputOverload t n) s = .next (((s.at t).overloads n (max s.now t + ms 10)).driveCue n) := by
  rw [← State.at_now s t]
  exact congrArg Host.Outcome.next (if_pos (by simp [h]))

theorem exec_cueOverloadRetry {t n e : Nat} (h : lookup? s.svc.cueOver n = some e) (hdue : e ≤ max s.now t) :
    exec (.cueOverloadRetry t n) s = .next (((s.at t).overloadEnds n).driveCue n) := by
  have hrun : lookup? (s.at t).svc.cueOver n = some e := by rwa [State.at_svc]
  have hdue' : e ≤ (s.at t).now := by rwa [State.at_now]
  refine (show _ = execCueOverloadRetry t n s from rfl).trans ?_
  simp only [execCueOverloadRetry, hrun, if_pos hdue']
  rfl

theorem cuePulseEnd_rests {t n e : Nat} (h : lookup? s.svc.cuePulse n = some e) (hdue : e ≤ max s.now t)
    (hfunc : (s.cueRec n).func = 5) (hheld : s.cueHeld n = false) (hover : lookup? s.svc.cueOver n = none)
    (hvin : n / 8 ∉ s.svc.vinLow) :
    ∃ s', exec (.cuePulseEnd t n) s = .next s' ∧ lookup? s'.svc.cuePulse n = none ∧
      lookup? s'.svc.cueOut n = some (s.cueRec n).activeLow := by
  have hrec : ((s.at t).pulseEnds n).cueRec n = s.cueRec n := by simp only [State.cueRec, State.pulseEnds, State.at_cfg]
  have hheld' : ((s.at t).pulseEnds n).cueHeld n = false := by simpa [State.cueHeld, State.pulseEnds] using hheld
  have hended : lookup? ((s.at t).pulseEnds n).svc.cuePulse n = none := lookup_erase ..
  refine ⟨_, exec_cuePulseEnd h hdue, ?_, ?_⟩
  · rw [State.driveCue_svc, State.noteVin_svc, hended]
  · rw [State.driveCue_same, State.cueLevel_free (by simpa [State.pulseEnds] using hover) (by simpa [State.pulseEnds] using hvin),
      State.cueWants_pulseEnded (by rw [hrec, hfunc]) hheld' hended, hrec]

theorem cueOutputOverload_turnsOff {t n : Nat} {b : Bool} (h : lookup? s.svc.cueOut n = some b) :
    ∃ s', exec (.cueOutputOverload t n) s = .next s' ∧ lookup? s'.svc.cueOver n = some (max s.now t + ms 10) ∧
      lookup? s'.svc.cueOut n = none ∧ s'.out = .cue n none :: s.out := by
  have hover : lookup? ((s.at t).overloads n (max s.now t + ms 10)).svc.cueOver n = some (max s.now t + ms 10) := lookup_insertKey ..
  have hlevel : ((s.at t).overloads n (max s.now t + ms 10)).cueLevel n = none := State.cueLevel_over (by rw [hover]; rfl)
  have hblocks : ((s.at t).overloads n (max s.now t + ms 10)).vinBlocks n = false := by
    rw [State.vinBlocks, State.cueWish_over (by rw [hover]; rfl)]
    rfl
  have hdriven : lookup? ((s.at t).overloads n (max s.now t + ms 10)).svc.cueOut n = some b := by
    simpa [State.overloads] using h
  refine ⟨_, exec_cueOutputOverload h, ?_, ?_, ?_⟩
  · rw [State.driveCue_over, hover]
  · rw [State.driveCue_same, hlevel]
  · rw [State.driveCue_eq, State.noteVin_unblocked hblocks, hdriven, hlevel, if_neg (by simp)]
    simp [State.setCue, State.overloads]

theorem cueOverloadRetry_drives {t n e : Nat} {b : Bool} (h : lookup? s.svc.cueOver n = some e) (hdue : e ≤ max s.now t)
    (hwants : s.cueWants n = some b) (hvin : n / 8 ∉ s.svc.vinLow) :
    ∃ s', exec (.cueOverloadRetry t n) s = .next s' ∧ lookup? s'.svc.cueOver n = none ∧ lookup? s'.svc.cueOut n = some b := by
  have hover : lookup? ((s.at t).overloadEnds n).svc.cueOver n = none := lookup_erase ..
  have hsame : ((s.at t).overloadEnds n).cueWants n = (s.at t).cueWants n := rfl
  refine ⟨_, exec_cueOverloadRetry h hdue, ?_, ?_⟩
  · rw [State.driveCue_over, hover]
  · rw [State.driveCue_same, State.cueLevel_free hover (by simpa [State.overloadEnds] using hvin), hsame, State.cueWants_at, hwants]

/-- Settles O38: the bridges by what a datagram or an idle bus leaves in them, the supplies by the level that each line may then
drive, and a pulse's or an overload's end by driving its one line. -/
theorem fluidBusesAndCueLines : Obligations.FluidBusesAndCueLines := by
  refine ⟨?_, ?_, ?_, ?_, ?_, ?_⟩
  · intro s t bus src port data busy hon hbus hlo hhi
    exact ⟨fluidBridgeDatagram_sends hon hbus hlo hhi t src port, fluidBridgeDatagram_waits hon hbus hlo hhi t src port⟩
  · intro s t bus a p data hon hbus
    exact ⟨fluidBusIdle_answers hon hbus, fluidBusIdle_quiets hon hbus, fun _ _ => fluidBusIdle_sendsNext hon hbus⟩
  · intro s t n hon hn
    exact encoderSupplyShort_noted hon hn
  · intro s t c hc
    exact ⟨cueVinLow_blocks t hc, cueVinRestored_drives s t c⟩
  · intro s t n e hpulse hdue hfunc hheld hover hvin
    exact cuePulseEnd_rests hpulse hdue hfunc hheld hover hvin
  · intro s t n b
    exact ⟨cueOutputOverload_turnsOff, fun _ => cueOverloadRetry_drives⟩

end Sys2Proof.Machine
end

section
/-!
SUPPORT. A JOIN token at a port number that the engine does not have (R294, R300, R461): the numbering of the port registers runs
on into those of the performance counters, which the passing of time changes.
-/
namespace Sys2Proof.Machine

/-- A JOIN token counts only at a port that is up at the token's own instant. -/
theorem exec_join_portDown {s : State} {t port : Nat} (p : RingPkt) (h : (s.at t).portUp port = false) :
    exec (.join t port p) s = .next (s.at t) := by
  show execJoin t port p s = _
  simp [execJoin, h]

/-- A powered engine whose counter 31 has wrapped, and whose counter 30 stands at 0 and counts the nanoseconds of SYS_TIME (event
0x01 of R461). The status of port p lies at 0x180100 + p × 0x10 (R315), that of a port 28920 where PMC_OVF_0 lies (R473): with bit
31 alone it reads as UP. -/
def counterRunning : State :=
  { sys := { phase := .up }, regs := [(rPMC_OVF_k 0, 0x80000000), (rPMC_n_SEL 30, 0x01000000)] }

theorem counterRunning_portUp : counterRunning.portUp 28920 = true := by decide

/-- After 2^48 ns counter 30 wraps too. Its bit of PMC_OVF_0 reads as FAILED, and the port as down. -/
theorem counterRunning_portDown : (counterRunning.at (2 ^ 50)).portUp 28920 = false := by decide

/-- Refutes O25: its clause on the JOIN token lets `port` be any number. At port 28920 of `counterRunning` the port is up before the
command and down at its instant, so the token is not taken and the engine, which has no position, gets none. Commands that are
well formed name only the ports 0 to 3. -/
theorem not_joiningAndLinks : ¬ Obligations.JoiningAndLinks := by
  unfold Obligations.JoiningAndLinks
  rintro ⟨-, hjoin, -⟩
  obtain ⟨htakes, -⟩ := hjoin counterRunning (2 ^ 50) 28920 { type := 0x30, vc := 2, src := 0 } rfl counterRunning_portUp rfl
  obtain ⟨s', hnext, hpos, -⟩ := htakes (by decide) (by decide) (by decide) (by decide)
  rw [exec_join_portDown _ counterRunning_portDown] at hnext
  cases hnext
  rw [State.fb_at counterRunning _ RING_STATUS_POS_VALID] at hpos
  exact absurd hpos (by decide)

end Sys2Proof.Machine
end

section
/-!
SUPPORT. A BUDGET packet at a port number that the engine does not have (R298, R315, R357, R461): the numbering of the port registers
runs on into those of the performance counters, as it does for a JOIN token.
-/
namespace Sys2Proof.Machine

/-- A BUDGET packet counts only at a port that is up at the packet's own instant. -/
theorem exec_budget_portDown {s : State} {t port : Nat} (p : RingPkt) (h : (s.at t).portUp port = false) :
    exec (.budget t port p) s = .next (s.at t) := by
  show execBudget t port p s = _
  simp [execBudget, State.packetIn, h]

/-- `counterRunning` as a member of power group 1 (R357). -/
def groupCounterRunning : State := counterRunning.setF PWR_GROUP_GROUP 1

theorem groupCounterRunning_portUp : groupCounterRunning.portUp 28920 = true := by decide

theorem groupCounterRunning_portDown : (groupCounterRunning.at (2 ^ 50)).portUp 28920 = false := by decide

/-- A BUDGET packet of group 1 from engine 1. -/
def groupBudget : RingPkt := { type := 0x31, vc := 2, src := 1, bcast := true, payload := [1] }

/-- Refutes O29: its clause on the BUDGET packet lets `port` be any number. At port 28920 of `groupCounterRunning` the port is up
before the command and down at its instant, so the packet is not taken and its source is not counted as a member. Commands that are
well formed name only the ports 0 to 3. -/
theorem not_railsAndStore : ¬ Obligations.RailsAndStore := by
  unfold Obligations.RailsAndStore
  rintro ⟨-, -, -, -, -, hbudget⟩
  obtain ⟨s', hnext, hmember, -⟩ := hbudget groupCounterRunning (2 ^ 50) 28920 groupBudget (by decide) groupCounterRunning_portUp rfl rfl
    (by decide) (by decide) (by decide) (by decide)
  rw [exec_budget_portDown _ groupCounterRunning_portDown] at hnext
  cases hnext
  rw [State.at_pwr] at hmember
  exact absurd hmember (by decide)

end Sys2Proof.Machine
end

section
/-!
SUPPORT. The tile ports (R202, R323, R324, R326 to R330; what opens when the 3.3 V switch does is log entry 43, the order of the
fuses 127, the end of the wait 128): what a failure and the opening of a switch leave of a tile's registers and port, and each
command as one operation under the conditions that let it act.
-/
namespace Sys2Proof.Machine
variable {s : State} {n : Nat}

/-! ### What the passing of time leaves -/

/-- The registers up to the hub counters stay as they are while time passes (R461). -/
theorem Keep.at_below (s : State) (t : Nat) {o : Nat} (h : o < 0x1F1080) : Keep o s (s.at t) :=
  Keep.at .refl t (decide_eq_false fun hpmc => Nat.not_le.2 h hpmc.1)

theorem Keep.at_tileStatus (s : State) (t : Nat) (hn : n < 96) : Keep (rTILE_n_STATUS n) s (s.at t) :=
  Keep.at_below s t (by simp only [rTILE_n_STATUS]; omega)

theorem Keep.at_tileTelem (s : State) (t : Nat) (hn : n < 96) : Keep (rTILE_n_TELEM n) s (s.at t) :=
  Keep.at_below s t (by simp only [rTILE_n_TELEM]; omega)

theorem Keep.at_tileLinkErr (s : State) (t : Nat) (hn : n < 96) : Keep (rTILE_n_LINKERR n) s (s.at t) :=
  Keep.at_below s t (by simp only [rTILE_n_LINKERR]; omega)

theorem State.bypassed_at (s : State) (t : Nat) (hn : n < 96) : (s.at t).bypassed n = s.bypassed n :=
  (Keep.at_below s t (o := 0x141000 + n * 0x20) (by omega)).fb (HLTH_n_STATUS_BYPASSED n)

@[simp] theorem State.enabled_at (s : State) (t n : Nat) : (s.at t).enabled n = s.enabled n := by
  simp only [State.enabled, State.at_tileRec?]

/-! ### A tile fails (R330) -/

theorem State.askSwap_regs (s : State) (n : Nat) : (s.askSwap n).regs = s.regs := by
  unfold State.askSwap
  split
  · exact ite_keeps State.regs rfl rfl
  · rfl

theorem State.afterFail_regs (s : State) (n : Nat) : (s.afterFail n).regs = s.regs := by
  refine ite_keeps State.regs (ite_keeps State.regs ?_ ?_) rfl
  · rw [State.askSwap_regs]
    rfl
  · exact ite_keeps State.regs (State.raise_regs ..) rfl

/-- The STATUS of a tile shows its failure with a cause, and its fuse open. -/
structure State.ShowsFailed (s : State) (n cause : Nat) : Prop where
  failed : s.fb (TILE_n_STATUS_FAILED n) = true
  cause : s.f (TILE_n_STATUS_CAUSE n) = cause
  fuse : s.fb (TILE_n_STATUS_VPP_ON n) = false

/-- The fuse opens, and STATUS shows the failure. -/
def State.markFailed (s : State) (n cause : Nat) : State :=
  ((s.setF (TILE_n_STATUS_FAILED n) 1).setF (TILE_n_STATUS_CAUSE n) cause).fuseOpen n

theorem State.markFailed_shows (s : State) (n : Nat) {cause : Nat} (hc : cause < 16) : (s.markFailed n cause).ShowsFailed n cause := by
  have hfields : (s.markFailed n cause).f (TILE_n_STATUS_FAILED n) = 1 ∧ (s.markFailed n cause).f (TILE_n_STATUS_CAUSE n) = cause ∧
      (s.markFailed n cause).f (TILE_n_STATUS_VPP_ON n) = 0 := by
    rw [State.markFailed, State.fuseOpen, State.modPort_f, State.modPort_f, State.modPort_f]
    simp (disch := simp [TILE_n_STATUS_FAILED, TILE_n_STATUS_CAUSE, TILE_n_STATUS_VPP_ON]) only [State.f_setF_other, State.f_setF_same]
    exact ⟨rfl, Nat.mod_eq_of_lt hc, rfl⟩
  obtain ⟨hfailed, hcause, hfuse⟩ := hfields
  exact ⟨by rw [State.fb, hfailed]; rfl, hcause, by rw [State.fb, hfuse]; rfl⟩

/-- A tile that has not failed, failing for a cause other than 1 and 3. -/
theorem State.failTile_eq {cause : Nat} (h : s.fb (TILE_n_STATUS_FAILED n) = false) (h1 : cause ≠ 1) (h3 : cause ≠ 3) :
    s.failTile n cause = ((s.markFailed n cause).raiseLane (tileDie n) kTILE_FAIL (n + cause * 256)).afterFail n := by
  simp [State.failTile, h, h1, h3, State.markFailed]

/-- What the registers show survives what does not write them. -/
theorem State.ShowsFailed.regs {s' : State} {cause : Nat} (h : s.ShowsFailed n cause) (e : s'.regs = s.regs) :
    s'.ShowsFailed n cause := by
  have hkeep : Keep (rTILE_n_STATUS n) s s' := Keep.refl.regs e
  exact ⟨(hkeep.fb _).trans h.failed, (hkeep.f _).trans h.cause, (hkeep.fb _).trans h.fuse⟩

/-- The failure of a tile (R330): STATUS shows it, and TILE_FAIL is raised with the cause. -/
theorem State.failTile_fails {a : State} {cause : Nat} (hg : Grow a s) (h : s.fb (TILE_n_STATUS_FAILED n) = false) (h1 : cause ≠ 1)
    (h3 : cause ≠ 3) (hc : cause < 16) :
    (s.failTile n cause).ShowsFailed n cause ∧ a.Reported (s.failTile n cause) kTILE_FAIL (n + cause * 256) := by
  rw [State.failTile_eq h h1 h3]
  refine ⟨?_, .of_raiseLane _ _ _ (((hg.setF _ _).setF _ _).fuseOpen n) (Grow.refl.afterFail n)⟩
  exact (s.markFailed_shows n hc).regs (by rw [State.afterFail_regs, State.raiseLane_regs])

/-! ### The 3.3 V switch opens (R326, R328) -/

theorem State.logicOff_status (s : State) (n : Nat) :
    (s.logicOff n).fb (TILE_n_STATUS_LOGIC_ON n) = false ∧ (s.logicOff n).fb (TILE_n_STATUS_TRAINED n) = false := by
  rw [State.logicOff, State.modPort_fb, State.modPort_fb, State.fb, State.fb]
  simp (disch := simp [TILE_n_STATUS_LOGIC_ON, TILE_n_STATUS_TRAINED]) only [State.f_setF_other, State.f_setF_same]
  exact ⟨rfl, rfl⟩

/-- Only LOGIC_ON and TRAINED are cleared. -/
theorem State.logicOff_f (s : State) (n : Nat) (fd : Field) (h : fd.lo + fd.w ≤ 29 ∨ 31 ≤ fd.lo) : (s.logicOff n).f fd = s.f fd := by
  rw [State.logicOff, State.modPort_f, State.f_setF_other _ (TILE_n_STATUS_TRAINED n) fd 0 (.inr (by simp only [TILE_n_STATUS_TRAINED]; omega)),
    State.f_setF_other _ (TILE_n_STATUS_LOGIC_ON n) fd 0 (.inr (by simp only [TILE_n_STATUS_LOGIC_ON]; omega))]

theorem State.ShowsFailed.logicOff {cause : Nat} (h : s.ShowsFailed n cause) : (s.logicOff n).ShowsFailed n cause where
  failed := by
    rw [State.fb, State.logicOff_f _ _ (TILE_n_STATUS_FAILED n) (.inl (Nat.le_of_ble_eq_true rfl))]
    exact h.failed
  cause := by
    rw [State.logicOff_f _ _ (TILE_n_STATUS_CAUSE n) (.inl (Nat.le_of_ble_eq_true rfl))]
    exact h.cause
  fuse := by
    rw [State.fb, State.logicOff_f _ _ (TILE_n_STATUS_VPP_ON n) (.inr (Nat.le_of_ble_eq_true rfl))]
    exact h.fuse

/-- With VPP gone and nothing to wait for, the switch opens. -/
theorem State.tryLogicOff_opens {x : Nat} (hoff : (s.port n).powerOff = some x) (hv : s.f (TILE_n_TELEM_VPP_MV n) < 5000)
    (hk : (s.port n).keepLogic = false) (hm : (s.port n).hm = none) : s.tryLogicOff n = s.logicOff n := by
  simp [State.tryLogicOff, hoff, hv, hk, hm]

theorem State.tryLogicOff_idle (hoff : (s.port n).powerOff = none) : s.tryLogicOff n = s := by
  simp only [State.tryLogicOff, hoff]

/-! ### Registers that these operations leave -/

section
variable {o : Nat} {s₀ : State}

theorem Keep.modPort (h : Keep o s₀ s) (k : Nat) (g : TileP → TileP) : Keep o s₀ (s.modPort k g) := h
theorem Keep.modTh (h : Keep o s₀ s) (k : Nat) (g : TileH → TileH) : Keep o s₀ (s.modTh k g) := h
theorem Keep.modNoz (h : Keep o s₀ s) (k i : Nat) (g : Noz → Noz) : Keep o s₀ (s.modNoz k i g) := h

theorem Keep.fuseOpen (h : Keep o s₀ s) (e : o ≠ rTILE_n_STATUS n) : Keep o s₀ (s.fuseOpen n) :=
  (h.setF (TILE_n_STATUS_VPP_ON n) 0 e).modPort _ _

theorem Keep.failTile (h : Keep o s₀ s) (cause : Nat) (e : o ≠ rTILE_n_STATUS n) : Keep o s₀ (s.failTile n cause) := by
  have hmark : Keep o s₀ (s.markFailed n cause) := .fuseOpen ((h.setF (TILE_n_STATUS_FAILED n) 1 e).setF (TILE_n_STATUS_CAUSE n) cause e) e
  exact .ite (h.fuseOpen e) (.regs (.ite hmark (hmark.raiseLane _ _ _)) (State.afterFail_regs ..))

theorem Keep.logicOff (h : Keep o s₀ s) (e : o ≠ rTILE_n_STATUS n) : Keep o s₀ (s.logicOff n) :=
  ((h.setF (TILE_n_STATUS_LOGIC_ON n) 0 e).setF (TILE_n_STATUS_TRAINED n) 0 e).modPort _ _

theorem Keep.tryLogicOff (h : Keep o s₀ s) (e : o ≠ rTILE_n_STATUS n) : Keep o s₀ (s.tryLogicOff n) := by
  unfold State.tryLogicOff
  split
  · exact h
  · refine .ite (.ite h ?_) h
    split
    · exact .ite h (h.logicOff e)
    · exact h.logicOff e

theorem Keep.judgeStrobe (h : Keep o s₀ s) (tag : Nat) (e : o ≠ rTILE_n_STATUS n) : Keep o s₀ (s.judgeStrobe n tag) := by
  simp only [State.judgeStrobe]
  split
  · exact .ite h (.ite ((h.modPort n _).failTile 6 e) (h.modPort n _))
  · exact h

/-- A heater reported open writes the tile's health registers (R202, R204). -/
theorem Keep.openReport (h : Keep o s₀ s) (i : Nat) (e : o ≠ (HLTH_n_STATUS_SWAP_PENDING n).off)
    (e' : o ≠ (HLTH_n_DISAGREE_COUNT n).off) : Keep o s₀ (s.openReport n i) := by
  have hbg (v : Nat) : Keep o s₀ (s.setBg n i v) := .ite h ((h.modNoz n i _).setF _ 1 e)
  exact .ite (.ite (.ite (h.addF _ 1 e') h) (.ite ((hbg _).raiseLane _ _ _) (.ite ((hbg _).raiseLane _ _ _) (hbg _)))) h

end

/-! ### A report (R202, R323, R324, R326) -/

theorem exec_telemetryReport_bad (t : Nat) (r : Telemetry) (hn : n < 96) (hon : s.fb (TILE_n_STATUS_LOGIC_ON n) = true) :
    exec (.telemetryReport t n r false) s = .next
      ((((s.at t).addF (TILE_n_LINKERR_UP_CRC n) 1).modPort n fun p => { p with trainOk := 0 }).modTh n fun h => { h with validRun := 0 }) := by
  have hon' := ((Keep.at_tileStatus s t hn).fb (TILE_n_STATUS_LOGIC_ON n)).trans hon
  show execTelemetryReport t n r false s = _
  simp [execTelemetryReport, hn, hon']

theorem telemetryReport_counts (t : Nat) (r : Telemetry) (hn : n < 96) (hon : s.fb (TILE_n_STATUS_LOGIC_ON n) = true) :
    ∃ s', exec (.telemetryReport t n r false) s = .next s' ∧
      s'.f (TILE_n_LINKERR_UP_CRC n) = min 65535 (s.f (TILE_n_LINKERR_UP_CRC n) + 1) ∧
      (s'.port n).trainOk = 0 ∧ s'.f (TILE_n_TELEM_VPP_MV n) = s.f (TILE_n_TELEM_VPP_MV n) := by
  refine ⟨_, exec_telemetryReport_bad t r hn hon, ?_, by simp, ?_⟩
  · rw [State.modTh_f, State.modPort_f, State.f_addF _ (TILE_n_LINKERR_UP_CRC n) 1 (Nat.le_of_ble_eq_true rfl),
      (Keep.at_tileLinkErr s t hn).f (TILE_n_LINKERR_UP_CRC n)]
    rfl
  · have hkeep : Keep (rTILE_n_TELEM n) s ((s.at t).addF (TILE_n_LINKERR_UP_CRC n) 1) :=
      (Keep.at_tileTelem s t hn).addF _ 1 (by simp only [rTILE_n_TELEM, TILE_n_LINKERR_UP_CRC]; omega)
    rw [State.modTh_f, State.modPort_f, hkeep.f (TILE_n_TELEM_VPP_MV n)]

/-- A good report shows its current and its VPP, and is the tile's last. -/
def State.takeReport (s : State) (n : Nat) (r : Telemetry) : State :=
  ((s.modPort n fun p => { p with lastReport := some s.now }).setF (TILE_n_TELEM_IPP_MA n) r.ipp).takeVpp n r.vpp

theorem State.takeVpp_port (s : State) (n v : Nat) : ∃ l, (s.takeVpp n v).port n = { s.port n with vpp := l } := by
  unfold State.takeVpp
  split
  · exact ⟨(s.port n).vpp, by simp⟩
  · exact ⟨_, by simp; rfl⟩

theorem State.takeReport_port (s : State) (n : Nat) (r : Telemetry) :
    ∃ l, (s.takeReport n r).port n = { s.port n with lastReport := some s.now, vpp := l } := by
  obtain ⟨l, hl⟩ := ((s.modPort n fun p => { p with lastReport := some s.now }).setF (TILE_n_TELEM_IPP_MA n) r.ipp).takeVpp_port n r.vpp
  exact ⟨l, by rw [State.takeReport, hl, State.setF_port, State.modPort_port, if_pos rfl]⟩

theorem State.takeVpp_f (s : State) (n v : Nat) :
    (s.takeVpp n v).f (TILE_n_TELEM_IPP_MA n) = s.f (TILE_n_TELEM_IPP_MA n) ∧
    (s.takeVpp n v).f (TILE_n_TELEM_VPP_MV n) = if v = 0xFFFF then s.f (TILE_n_TELEM_VPP_MV n) else v % 65536 := by
  unfold State.takeVpp
  split
  · exact ⟨State.modTh_f .., State.modTh_f ..⟩
  · rw [State.modPort_f, State.modTh_f, State.modPort_f, State.modTh_f, State.f_setF_same _ (TILE_n_TELEM_VPP_MV n) v (Nat.le_of_ble_eq_true rfl)]
    exact ⟨State.f_setF_other _ _ _ _ (.inr (.inr (Nat.le_of_ble_eq_true rfl))), rfl⟩

theorem State.takeReport_f (s : State) (n : Nat) (r : Telemetry) :
    (s.takeReport n r).f (TILE_n_TELEM_IPP_MA n) = r.ipp % 65536 ∧
    (s.takeReport n r).f (TILE_n_TELEM_VPP_MV n) = if r.vpp = 0xFFFF then s.f (TILE_n_TELEM_VPP_MV n) else r.vpp % 65536 := by
  obtain ⟨hipp, hvpp⟩ := ((s.modPort n fun p => { p with lastReport := some s.now }).setF (TILE_n_TELEM_IPP_MA n) r.ipp).takeVpp_f n r.vpp
  rw [State.f_setF_same _ (TILE_n_TELEM_IPP_MA n) _ (Nat.le_of_ble_eq_true rfl)] at hipp
  rw [State.f_setF_other _ (TILE_n_TELEM_IPP_MA n) (TILE_n_TELEM_VPP_MV n) _ (.inr (.inl (Nat.le_of_ble_eq_true rfl))), State.modPort_f] at hvpp
  exact ⟨hipp, hvpp⟩

theorem State.takeReport_now (s : State) (n : Nat) (r : Telemetry) : (s.takeReport n r).now = s.now := by
  unfold State.takeReport State.takeVpp
  exact ite_keeps State.now rfl rfl

theorem Keep.takeReport {o : Nat} {s₀ : State} (h : Keep o s₀ s) (r : Telemetry) (e : o ≠ rTILE_n_TELEM n) :
    Keep o s₀ (s.takeReport n r) := by
  have hipp := (h.modPort n fun p => { p with lastReport := some s.now }).setF (TILE_n_TELEM_IPP_MA n) r.ipp e
  exact .ite (hipp.modTh _ _) (((hipp.setF (TILE_n_TELEM_VPP_MV n) _ e).modTh _ _).modPort _ _)

/-- A report's CRC_ERR is counted, and ends or extends the run of them. -/
def State.countCrcErr (s : State) (n : Nat) (err : Bool) : State :=
  if err then (s.addF (TILE_n_LINKERR_DN_CRC n) 1).modPort n fun p => { p with crcRun := p.crcRun + 1 }
  else s.modPort n fun p => { p with crcRun := 0 }

/-- Eight reports in a row with CRC_ERR are a link failure (R330). -/
def State.limitCrcRun (s : State) (n : Nat) : State := if 8 ≤ (s.port n).crcRun then s.failTile n 5 else s

/-- The heater that a report names is open, and its class may be swapped in (R202). -/
def State.heaterReport (s : State) (n : Nat) (r : Telemetry) : State :=
  if r.openValid then (s.openReport n r.openNozzle).askSwap n else s

/-- What a trained tile's report brings beside its measurements: the error it counts, the tag it judges, the heater it names, and
the switch it lets open (R202, R328, R330). -/
def State.reportChecks (s : State) (n : Nat) (r : Telemetry) : State :=
  ((((s.countCrcErr n r.crcErr).limitCrcRun n).judgeStrobe n (r.lastTag % 65536)).heaterReport n r).tryLogicOff n

/-- A tile that is not trained counts the report towards its training once its 3.3 V ramp has ended (R326). -/
def State.trainReport (s : State) (n : Nat) (echo : Bool) : State :=
  match (s.port n).rampEnd with
  | some e => if e ≤ s.now then s.train n echo else s
  | none => s

theorem exec_telemetryReport_good (t : Nat) (r : Telemetry) (hn : n < 96) (hon : s.fb (TILE_n_STATUS_LOGIC_ON n) = true) :
    exec (.telemetryReport t n r true) s = .next (if s.fb (TILE_n_STATUS_TRAINED n) then ((s.at t).takeReport n r).reportChecks n r
      else ((s.at t).takeReport n r).trainReport n r.echo) := by
  have hon' := ((Keep.at_tileStatus s t hn).fb (TILE_n_STATUS_LOGIC_ON n)).trans hon
  have htr : ((s.at t).takeReport n r).fb (TILE_n_STATUS_TRAINED n) = s.fb (TILE_n_STATUS_TRAINED n) :=
    ((Keep.at_tileStatus s t hn).takeReport r (by simp only [rTILE_n_STATUS, rTILE_n_TELEM]; omega)).fb _
  have hact : (decide (96 ≤ n) || !(s.at t).fb (TILE_n_STATUS_LOGIC_ON n)) = false := by simp [hn, hon']
  refine congrArg Host.Outcome.next ?_
  rw [if_neg (by rw [hact]; decide), if_neg (by decide), ← htr]
  cases h : ((s.at t).takeReport n r).fb (TILE_n_STATUS_TRAINED n)
  · exact if_pos (c := (!((s.at t).takeReport n r).fb (TILE_n_STATUS_TRAINED n)) = true) (by rw [h]; rfl)
  · exact if_neg (c := (!((s.at t).takeReport n r).fb (TILE_n_STATUS_TRAINED n)) = true) (by rw [h]; decide)

/-- The checks leave the measurements shown. -/
theorem Keep.reportChecks_telem {s₀ : State} (h : Keep (rTILE_n_TELEM n) s₀ s) (r : Telemetry) :
    Keep (rTILE_n_TELEM n) s₀ (s.reportChecks n r) := by
  have estatus : rTILE_n_TELEM n ≠ rTILE_n_STATUS n := by simp only [rTILE_n_TELEM, rTILE_n_STATUS]; omega
  have eerr : rTILE_n_TELEM n ≠ (TILE_n_LINKERR_DN_CRC n).off := by simp only [rTILE_n_TELEM, TILE_n_LINKERR_DN_CRC]; omega
  have eswap : rTILE_n_TELEM n ≠ (HLTH_n_STATUS_SWAP_PENDING n).off := by simp only [rTILE_n_TELEM, HLTH_n_STATUS_SWAP_PENDING]; omega
  have edisagree : rTILE_n_TELEM n ≠ (HLTH_n_DISAGREE_COUNT n).off := by simp only [rTILE_n_TELEM, HLTH_n_DISAGREE_COUNT]; omega
  have hcrc : Keep (rTILE_n_TELEM n) s₀ (s.countCrcErr n r.crcErr) := .ite ((h.addF _ 1 eerr).modPort _ _) (h.modPort _ _)
  have hrun : Keep (rTILE_n_TELEM n) s₀ ((s.countCrcErr n r.crcErr).limitCrcRun n) := .ite (hcrc.failTile 5 estatus) hcrc
  have htag := hrun.judgeStrobe (r.lastTag % 65536) estatus
  exact .tryLogicOff (.ite (.regs (htag.openReport r.openNozzle eswap edisagree) (State.askSwap_regs ..)) htag) estatus

/-- When the tile's last report came, and since when the switch waits to open (R328, R330). -/
def State.reportClock (s : State) (n : Nat) : Option Nat × Option Nat := ((s.port n).lastReport, (s.port n).powerOff)

theorem State.reportClock_modPort (s : State) (n : Nat) (g : TileP → TileP)
    (hg : (g (s.port n)).lastReport = (s.port n).lastReport ∧ (g (s.port n)).powerOff = (s.port n).powerOff) :
    (s.modPort n g).reportClock n = s.reportClock n := by
  simp [State.reportClock, hg]

theorem State.reportClock_failTile (s : State) (n cause : Nat) : (s.failTile n cause).reportClock n = s.reportClock n := by
  simp [State.reportClock, State.failTile_port]

theorem State.reportClock_judgeStrobe (s : State) (n tag : Nat) : (s.judgeStrobe n tag).reportClock n = s.reportClock n := by
  simp only [State.judgeStrobe]
  split
  · refine ite_keeps (·.reportClock n) rfl (ite_keeps (·.reportClock n) ?_ (State.reportClock_modPort _ _ _ ⟨rfl, rfl⟩))
    rw [State.reportClock_failTile, State.reportClock_modPort _ _ _ ⟨rfl, rfl⟩]
  · rfl

theorem State.reportClock_countCrcErr (s : State) (n : Nat) (err : Bool) : (s.countCrcErr n err).reportClock n = s.reportClock n :=
  ite_keeps (·.reportClock n) (State.reportClock_modPort _ _ _ ⟨rfl, rfl⟩) (State.reportClock_modPort _ _ _ ⟨rfl, rfl⟩)

theorem State.reportClock_limitCrcRun (s : State) (n : Nat) : (s.limitCrcRun n).reportClock n = s.reportClock n :=
  ite_keeps (·.reportClock n) (State.reportClock_failTile ..) rfl

theorem State.heaterReport_ports (s : State) (n : Nat) (r : Telemetry) : (s.heaterReport n r).ports = s.ports :=
  (Frame.ite ((Frame.refl.openReport n r.openNozzle rfl rfl rfl).askSwap n rfl)
    (Frame.refl (m := { wins := true, noz := true, health := true, flt := true }))).ports.resolve_left (by decide)

theorem State.reportClock_heaterReport (s : State) (n : Nat) (r : Telemetry) : (s.heaterReport n r).reportClock n = s.reportClock n := by
  simp only [State.reportClock, State.port, State.heaterReport_ports]

/-- While no switch waits to open, the checks leave the instant of the last report. -/
theorem State.reportChecks_lastReport (r : Telemetry) (h : (s.port n).powerOff = none) :
    ((s.reportChecks n r).port n).lastReport = (s.port n).lastReport := by
  have hclock : ((((s.countCrcErr n r.crcErr).limitCrcRun n).judgeStrobe n (r.lastTag % 65536)).heaterReport n r).reportClock n =
      s.reportClock n := by
    rw [State.reportClock_heaterReport, State.reportClock_judgeStrobe, State.reportClock_limitCrcRun, State.reportClock_countCrcErr]
  rw [State.reportChecks, State.tryLogicOff_idle ((congrArg Prod.snd hclock).trans h)]
  exact congrArg Prod.fst hclock

theorem telemetryReport_shows (t : Nat) (r : Telemetry) (hn : n < 96) (hon : s.fb (TILE_n_STATUS_LOGIC_ON n) = true)
    (htr : s.fb (TILE_n_STATUS_TRAINED n) = true) :
    ∃ s', exec (.telemetryReport t n r true) s = .next s' ∧ s'.f (TILE_n_TELEM_IPP_MA n) = r.ipp % 65536 ∧
      s'.f (TILE_n_TELEM_VPP_MV n) = (if r.vpp = 0xFFFF then s.f (TILE_n_TELEM_VPP_MV n) else r.vpp % 65536) ∧
      ((s.port n).powerOff = none → (s'.port n).lastReport = some (max s.now t)) := by
  have hkeep : Keep (rTILE_n_TELEM n) ((s.at t).takeReport n r) (((s.at t).takeReport n r).reportChecks n r) := Keep.refl.reportChecks_telem r
  obtain ⟨hipp, hvpp⟩ := (s.at t).takeReport_f n r
  obtain ⟨l, hport⟩ := (s.at t).takeReport_port n r
  rw [(Keep.at_tileTelem s t hn).f (TILE_n_TELEM_VPP_MV n)] at hvpp
  refine ⟨_, exec_telemetryReport_good t r hn hon, ?_⟩
  rw [if_pos htr]
  refine ⟨(hkeep.f _).trans hipp, (hkeep.f _).trans hvpp, fun hoff => ?_⟩
  rw [State.reportChecks_lastReport r (by rw [hport, State.at_port, hoff]), hport, State.at_now]

/-- The third good report in a row with the echo trains the tile (R326). -/
theorem State.train_trained {echo : Bool} (hok : (s.port n).trainOk = 2) (hecho : (s.port n).echoed = true) :
    (s.train n echo).fb (TILE_n_STATUS_TRAINED n) = true := by
  have hthird : 3 ≤ ((s.modPort n fun p => { p with
      echoed := p.echoed || echo, trainOk := if p.echoed || echo then p.trainOk + 1 else 0 }).port n).trainOk := by
    simp [hok, hecho]
  rw [State.train, if_pos hthird, State.fb_setF_same _ (TILE_n_STATUS_TRAINED n) 1 (Nat.le_of_ble_eq_true rfl)]
  rfl

theorem telemetryReport_trains {e : Nat} (t : Nat) (r : Telemetry) (hn : n < 96) (hon : s.fb (TILE_n_STATUS_LOGIC_ON n) = true)
    (htr : s.fb (TILE_n_STATUS_TRAINED n) = false) (hramp : (s.port n).rampEnd = some e) (he : e ≤ max s.now t)
    (hok : (s.port n).trainOk = 2) (hecho : (s.port n).echoed = true) :
    ∃ s', exec (.telemetryReport t n r true) s = .next s' ∧ s'.fb (TILE_n_STATUS_TRAINED n) = true := by
  obtain ⟨l, hport⟩ := (s.at t).takeReport_port n r
  refine ⟨_, exec_telemetryReport_good t r hn hon, ?_⟩
  rw [State.at_port] at hport
  rw [if_neg (by rw [htr]; decide), State.trainReport, hport]
  simp only [hramp, State.takeReport_now, State.at_now, if_pos he]
  exact State.train_trained (by rw [hport, hok]) (by rw [hport, hecho])

/-! ### Training not in time (R326) -/

theorem tileTrainTimeout_absent {e : Nat} (t : Nat) (hn : n < 96) (hramp : (s.port n).rampEnd = some e) (he : e + ms 10 ≤ max s.now t)
    (hon : s.fb (TILE_n_STATUS_LOGIC_ON n) = true) (htr : s.fb (TILE_n_STATUS_TRAINED n) = false) :
    ∃ s', exec (.tileTrainTimeout t n) s = .next s' ∧ s'.fb (TILE_n_STATUS_LOGIC_ON n) = false ∧ s'.fb (TILE_n_STATUS_VPP_ON n) = false ∧
      (s.at t).Raised s' (tileDie n + 1) 0 kTILE_ABSENT n := by
  have hon' := ((Keep.at_tileStatus s t hn).fb (TILE_n_STATUS_LOGIC_ON n)).trans hon
  have htr' := ((Keep.at_tileStatus s t hn).fb (TILE_n_STATUS_TRAINED n)).trans htr
  have hexec : exec (.tileTrainTimeout t n) s = .next ((s.at t).absentTile n) := by
    show execTileTrainTimeout t n s = _
    simp [execTileTrainTimeout, hramp, he, hon', htr']
  refine ⟨_, hexec, ?_, ?_, .raiseLane rfl _ _ _⟩
  · rw [State.absentTile, State.raiseLane_fb]
    exact (State.logicOff_status _ n).1
  · rw [State.absentTile, State.raiseLane_fb, State.fb, State.logicOff_f _ _ (TILE_n_STATUS_VPP_ON n) (.inr (Nat.le_of_ble_eq_true rfl)),
      State.fuseOpen, State.modPort_f, State.f_setF_same _ (TILE_n_STATUS_VPP_ON n) 0 (Nat.le_of_ble_eq_true rfl)]
    rfl

/-! ### Failures (R329, R330) -/

section
variable (t : Nat) (hn : n < 96) (hf : s.fb (TILE_n_STATUS_FAILED n) = false)
include hn hf

/-- At any instant a tile that has not failed may fail, for a cause other than 1 and 3. -/
theorem State.failTile_at {cause : Nat} (h1 : cause ≠ 1) (h3 : cause ≠ 3) (hc : cause < 16) :
    ((s.at t).failTile n cause).ShowsFailed n cause ∧ s.Reported ((s.at t).failTile n cause) kTILE_FAIL (n + cause * 256) :=
  State.failTile_fails (Grow.refl.at t) (((Keep.at_tileStatus s t hn).fb _).trans hf) h1 h3 hc

/-- The logic supply's failure opens both switches (R330). -/
theorem State.logicFailure_at : (((s.at t).failTile n 2).logicOff n).ShowsFailed n 2 ∧
    (((s.at t).failTile n 2).logicOff n).fb (TILE_n_STATUS_LOGIC_ON n) = false ∧
    s.Reported (((s.at t).failTile n 2).logicOff n) kTILE_FAIL (n + 2 * 256) := by
  obtain ⟨hshows, hrep⟩ := State.failTile_at (cause := 2) t hn hf (by decide) (by decide) (by decide)
  exact ⟨hshows.logicOff, (State.logicOff_status _ n).1, hrep.right (Grow.refl.logicOff n)⟩

theorem tileLogicOvercurrent_fails (hon : s.fb (TILE_n_STATUS_LOGIC_ON n) = true) :
    ∃ s', exec (.tileLogicOvercurrent t n) s = .next s' ∧ s'.fb (TILE_n_STATUS_FAILED n) = true ∧ s'.f (TILE_n_STATUS_CAUSE n) = 2 ∧
      s'.fb (TILE_n_STATUS_VPP_ON n) = false ∧ s'.fb (TILE_n_STATUS_LOGIC_ON n) = false ∧ s.Reported s' kTILE_FAIL (n + 2 * 256) := by
  have hon' := ((Keep.at_tileStatus s t hn).fb (TILE_n_STATUS_LOGIC_ON n)).trans hon
  obtain ⟨⟨hfailed, hcause, hfuse⟩, hoff, hrep⟩ := State.logicFailure_at t hn hf
  exact ⟨_, congrArg Host.Outcome.next (if_pos (by simp [hn, hon'])), hfailed, hcause, hfuse, hoff, hrep⟩

/-- The same as on too high a current. -/
theorem tileLogicOvervoltage_fails (hon : s.fb (TILE_n_STATUS_LOGIC_ON n) = true) :
    ∃ s', exec (.tileLogicOvervoltage t n) s = .next s' ∧ s'.fb (TILE_n_STATUS_FAILED n) = true ∧ s'.f (TILE_n_STATUS_CAUSE n) = 2 ∧
      s'.fb (TILE_n_STATUS_VPP_ON n) = false ∧ s'.fb (TILE_n_STATUS_LOGIC_ON n) = false ∧ s.Reported s' kTILE_FAIL (n + 2 * 256) :=
  tileLogicOvercurrent_fails t hn hf hon

theorem efuseTrip_fails (hv : s.fb (TILE_n_STATUS_VPP_ON n) = true) :
    ∃ s', exec (.efuseTrip t n) s = .next s' ∧ s'.fb (TILE_n_STATUS_FAILED n) = true ∧ s'.f (TILE_n_STATUS_CAUSE n) = 4 ∧
      s'.fb (TILE_n_STATUS_VPP_ON n) = false ∧ s.Reported s' kTILE_FAIL (n + 4 * 256) := by
  have hv' := ((Keep.at_tileStatus s t hn).fb (TILE_n_STATUS_VPP_ON n)).trans hv
  obtain ⟨⟨hfailed, hcause, hfuse⟩, hrep⟩ := State.failTile_at (cause := 4) t hn hf (by decide) (by decide) (by decide)
  exact ⟨_, congrArg Host.Outcome.next (if_pos (by simp [hn, hv'])), hfailed, hcause, hfuse, hrep⟩

theorem tileLinkLost_fails (htr : s.fb (TILE_n_STATUS_TRAINED n) = true) (hlast : (s.port n).lastReport.getD 0 + us 100 ≤ max s.now t) :
    ∃ s', exec (.tileLinkLost t n) s = .next s' ∧ s'.fb (TILE_n_STATUS_FAILED n) = true ∧ s'.f (TILE_n_STATUS_CAUSE n) = 5 ∧
      s'.fb (TILE_n_STATUS_VPP_ON n) = false ∧ s.Reported s' kTILE_FAIL (n + 5 * 256) := by
  have htr' := ((Keep.at_tileStatus s t hn).fb (TILE_n_STATUS_TRAINED n)).trans htr
  have hf' := ((Keep.at_tileStatus s t hn).fb (TILE_n_STATUS_FAILED n)).trans hf
  obtain ⟨⟨hfailed, hcause, hfuse⟩, hrep⟩ := State.failTile_at (cause := 5) t hn hf (by decide) (by decide) (by decide)
  exact ⟨_, congrArg Host.Outcome.next (if_pos (by simp [hn, htr', hf', hlast])), hfailed, hcause, hfuse, hrep⟩

end

/-! ### Fuses and VPP (R327, R328) -/

/-- The choice of a quad's next fuse does not change with time. -/
theorem State.nextFuse?_at (s : State) (t k : Nat) {q : Nat} (hq : q < 24) : (s.at t).nextFuse? q k = s.nextFuse? q k := by
  refine List.find?_congr fun i hi => ?_
  have hn : 4 * q + i < 96 := by
    have hslot : i < 4 := List.mem_range.1 (show i ∈ List.range 4 from hi)
    omega
  rw [State.enabled_at, State.tileUp_at s t hn, State.bypassed_at s t hn, (Keep.at_tileStatus s t hn).fb (TILE_n_STATUS_VPP_ON (4 * q + i))]

/-- The fuse of the tile at slot `i` of a quad closes, and the next slot's is due 500 µs later (R327). -/
def State.closeFuse (s : State) (q i : Nat) : State :=
  ((s.setF (TILE_n_STATUS_VPP_ON (4 * q + i)) 1).modPort (4 * q + i) fun p => { p with fuseAt := some s.now, powerOff := none }).modRail q
    fun r => { r with nextSlot := if i < 3 then some (i + 1) else none, fuseDue := s.now + us 500 }

theorem exec_tileFuseClose {q k i : Nat} (t : Nat) (hq : q < 24) (hk : (s.rail q).nextSlot = some k) (hdue : (s.rail q).fuseDue ≤ max s.now t)
    (hon : s.fb (PWR_q_RAIL_ON q) = true) (hramp : (s.rail q).ramping = false) (hi : s.nextFuse? q k = some i) :
    exec (.tileFuseClose t q) s = .next ((s.at t).closeFuse q i) := by
  have hon' := ((Keep.at_below s t (o := rPWR_q_RAIL q) (by simp only [rPWR_q_RAIL]; omega)).fb (PWR_q_RAIL_ON q)).trans hon
  show execTileFuseClose t q s = _
  simp only [execTileFuseClose, State.at_rail, hk, State.nextFuse?_at s t k hq, hi]
  exact congrArg Host.Outcome.next (if_neg (by simp [hq, hon', hramp]; omega))

theorem tileFuseClose_closes {q k i : Nat} (t : Nat) (hq : q < 24) (hk : (s.rail q).nextSlot = some k)
    (hdue : (s.rail q).fuseDue ≤ max s.now t) (hon : s.fb (PWR_q_RAIL_ON q) = true) (hramp : (s.rail q).ramping = false)
    (hi : s.nextFuse? q k = some i) :
    ∃ s', exec (.tileFuseClose t q) s = .next s' ∧ s'.fb (TILE_n_STATUS_VPP_ON (4 * q + i)) = true ∧
      (s'.port (4 * q + i)).fuseAt = some (max s.now t) ∧ (s'.rail q).fuseDue = max s.now t + us 500 ∧
      (s'.rail q).nextSlot = (if i < 3 then some (i + 1) else none) := by
  refine ⟨_, exec_tileFuseClose t hq hk hdue hon hramp hi, ?_, ?_, ?_, ?_⟩
  · rw [State.closeFuse, State.modRail_fb, State.modPort_fb,
      State.fb_setF_same _ (TILE_n_STATUS_VPP_ON (4 * q + i)) 1 (Nat.le_of_ble_eq_true rfl)]
    rfl
  · simp [State.closeFuse]
  · simp [State.closeFuse]
  · simp [State.closeFuse]

/-- The amount by which two voltages differ. -/
theorem ite_sub_eq_max_sub_min (v x : Nat) : (if v ≤ x then x - v else v - x) = max v x - min v x := by
  split <;> omega

/-- The wait after a fuse's closing is over. -/
def State.fuseChecked (s : State) (n : Nat) : State := s.modPort n fun p => { p with fuseAt := none }

theorem exec_tileVppCheck {x : Nat} (t : Nat) (hn : n < 96) (hx : (s.port n).fuseAt = some x) (hdue : x + ms 5 ≤ max s.now t)
    (hv : s.fb (TILE_n_STATUS_VPP_ON n) = true) :
    exec (.tileVppCheck t n) s = .next
      (if 20 * (max (s.f (TILE_n_TELEM_VPP_MV n)) (s.rail (n / 4)).target - min (s.f (TILE_n_TELEM_VPP_MV n)) (s.rail (n / 4)).target) ≤
          (s.rail (n / 4)).target then (s.at t).fuseChecked n
        else ((s.at t).fuseChecked n).failTile n 4) := by
  have hv' := ((Keep.at_tileStatus s t hn).fb (TILE_n_STATUS_VPP_ON n)).trans hv
  have hmv := (Keep.at_tileTelem s t hn).f (TILE_n_TELEM_VPP_MV n)
  show execTileVppCheck t n s = _
  simp only [execTileVppCheck, State.at_port, hx, State.at_now, hdue, hv', decide_true, Bool.and_self, if_true, State.modPort_rail,
    State.modPort_f, State.at_rail, hmv, ite_sub_eq_max_sub_min]
  rfl

theorem tileVppCheck_passes {x : Nat} (t : Nat) (hn : n < 96) (hx : (s.port n).fuseAt = some x) (hdue : x + ms 5 ≤ max s.now t)
    (hv : s.fb (TILE_n_STATUS_VPP_ON n) = true) (hf : s.fb (TILE_n_STATUS_FAILED n) = false)
    (hnear : 20 * (max (s.f (TILE_n_TELEM_VPP_MV n)) (s.rail (n / 4)).target - min (s.f (TILE_n_TELEM_VPP_MV n)) (s.rail (n / 4)).target) ≤
      (s.rail (n / 4)).target) :
    ∃ s', exec (.tileVppCheck t n) s = .next s' ∧ s'.fb (TILE_n_STATUS_VPP_ON n) = true ∧ s'.fb (TILE_n_STATUS_FAILED n) = false ∧
      (s'.port n).fuseAt = none := by
  refine ⟨_, exec_tileVppCheck t hn hx hdue hv, ?_⟩
  rw [if_pos hnear]
  have hkeep : Keep (rTILE_n_STATUS n) s ((s.at t).fuseChecked n) := (Keep.at_tileStatus s t hn).modPort _ _
  exact ⟨(hkeep.fb _).trans hv, (hkeep.fb _).trans hf, by simp [State.fuseChecked]⟩

theorem tileVppCheck_fails {x : Nat} (t : Nat) (hn : n < 96) (hx : (s.port n).fuseAt = some x) (hdue : x + ms 5 ≤ max s.now t)
    (hv : s.fb (TILE_n_STATUS_VPP_ON n) = true) (hf : s.fb (TILE_n_STATUS_FAILED n) = false)
    (hfar : (s.rail (n / 4)).target <
      20 * (max (s.f (TILE_n_TELEM_VPP_MV n)) (s.rail (n / 4)).target - min (s.f (TILE_n_TELEM_VPP_MV n)) (s.rail (n / 4)).target)) :
    ∃ s', exec (.tileVppCheck t n) s = .next s' ∧ s'.fb (TILE_n_STATUS_VPP_ON n) = false ∧ s'.fb (TILE_n_STATUS_FAILED n) = true ∧
      s'.f (TILE_n_STATUS_CAUSE n) = 4 ∧ s.Reported s' kTILE_FAIL (n + 4 * 256) := by
  refine ⟨_, exec_tileVppCheck t hn hx hdue hv, ?_⟩
  rw [if_neg (Nat.not_le.2 hfar)]
  have hkeep : Keep (rTILE_n_STATUS n) s ((s.at t).fuseChecked n) := (Keep.at_tileStatus s t hn).modPort _ _
  obtain ⟨⟨hfailed, hcause, hfuse⟩, hrep⟩ := State.failTile_fails (cause := 4) (((Grow.refl (s := s)).at t).modPort n _)
    ((hkeep.fb (TILE_n_STATUS_FAILED n)).trans hf) (by decide) (by decide) (by decide)
  exact ⟨hfuse, hfailed, hcause, hrep⟩

theorem tileVppDischarged_opens {x : Nat} (t : Nat) (hn : n < 96) (hoff : (s.port n).powerOff = some x)
    (hv : s.f (TILE_n_TELEM_VPP_MV n) < 5000) (hk : (s.port n).keepLogic = false) (hm : (s.port n).hm = none) :
    ∃ s', exec (.tileVppDischarged t n) s = .next s' ∧ s'.fb (TILE_n_STATUS_LOGIC_ON n) = false ∧
      s'.fb (TILE_n_STATUS_TRAINED n) = false ∧ (s'.port n).powerOff = none := by
  have hopens : (s.at t).tryLogicOff n = (s.at t).logicOff n :=
    State.tryLogicOff_opens (x := x) (by rwa [State.at_port]) (by rwa [(Keep.at_tileTelem s t hn).f (TILE_n_TELEM_VPP_MV n)])
      (by rwa [State.at_port]) (by rwa [State.at_port])
  obtain ⟨hlogic, htrained⟩ := (s.at t).logicOff_status n
  exact ⟨_, congrArg Host.Outcome.next hopens, hlogic, htrained, by rw [State.logicOff, State.modPort_port, if_pos rfl]⟩

/-- Settles O26: a report by what it leaves of TELEM and of the port, the failures by the one failure of a tile, and the switches
by what their opening and closing write. -/
theorem tilePorts : Obligations.TilePorts := by
  refine ⟨?_, ?_, ?_, ?_, ?_, ?_, ?_, ?_⟩
  · intro s t n r hn hon
    exact ⟨telemetryReport_counts t r hn hon, telemetryReport_shows t r hn hon, fun _ htr => telemetryReport_trains t r hn hon htr⟩
  · intro s t n e hn hramp he hon htr
    exact tileTrainTimeout_absent t hn hramp he hon htr
  · intro s t n hn hon hf
    exact ⟨tileLogicOvercurrent_fails t hn hf hon, tileLogicOvervoltage_fails t hn hf hon⟩
  · intro s t q k i hq hk hdue hon hramp hi
    exact tileFuseClose_closes t hq hk hdue hon hramp hi
  · intro s t n x hn hx hdue hv hf
    exact ⟨tileVppCheck_passes t hn hx hdue hv hf, tileVppCheck_fails t hn hx hdue hv hf⟩
  · intro s t n x hn hoff hv hk hm
    exact tileVppDischarged_opens t hn hoff hv hk hm
  · intro s t n hn hv hf
    exact efuseTrip_fails t hn hf hv
  · intro s t n hn htr hf hlast
    exact tileLinkLost_fails t hn hf htr hlast

end Sys2Proof.Machine
end

section
/-!
SUPPORT. The operations on a motor axis (R369 to R371, R374, R376, R388 to R390; the units and the clearing of a fault are log entry
131): what decides whether an axis may drive, and what a start, a stop, a trip and the last step of the start sequence leave of the
axis and of its registers.
-/
namespace Sys2Proof.Machine
variable {s : State} {a : Nat}

/-! ### What decides whether an axis may drive -/

/-- The layout image, the straps and the operating state are those of `s`: an axis's record, the states that let it drive and the
hold of Dusk depend on nothing else (R63, R88, R369, R370). -/
structure SameDrive (s z : State) : Prop where
  cfg : z.cfg = s.cfg
  ident : z.ident = s.ident
  steady : Steady s z

theorem SameDrive.axisRec {z : State} (h : SameDrive s z) (a : Nat) : z.axisRec a = s.axisRec a := by
  simp only [State.axisRec, h.cfg, h.ident]

theorem SameDrive.duskHolds {z : State} (h : SameDrive s z) (a : Nat) : z.duskHolds a = s.duskHolds a := by
  simp only [State.duskHolds, h.axisRec, h.steady.st]

theorem SameDrive.motorsAllowed {z : State} (h : SameDrive s z) : z.motorsAllowed = s.motorsAllowed := by
  simp only [State.motorsAllowed, h.steady.st]

theorem SameDrive.refl : SameDrive s s := ⟨rfl, rfl, .refl⟩

theorem SameDrive.trans {y z : State} (h : SameDrive s y) (k : SameDrive y z) : SameDrive s z :=
  ⟨k.cfg.trans h.cfg, k.ident.trans h.ident, h.steady.trans k.steady⟩

theorem SameDrive.at (s : State) (t : Nat) : SameDrive s (s.at t) := ⟨State.at_cfg .., State.at_ident .., Steady.refl.at t⟩

theorem SameDrive.startAxis (s : State) (a : Nat) : SameDrive s (s.startAxis a) where
  cfg := (Frame.startAxis (μ := { mot := true }) .refl a rfl).cfg.resolve_left (by decide)
  ident := (Frame.startAxis (μ := { mot := true }) .refl a rfl).ident.resolve_left (by decide)
  steady := Steady.refl.startAxis a

theorem SameDrive.stopAxis (s : State) (a : Nat) : SameDrive s (s.stopAxis a) where
  cfg := (Frame.stopAxis (μ := { mot := true }) .refl a rfl).cfg.resolve_left (by decide)
  ident := (Frame.stopAxis (μ := { mot := true }) .refl a rfl).ident.resolve_left (by decide)
  steady := Steady.refl.stopAxis a

theorem SameDrive.raiseMot (s : State) (a : Nat) (k : Kind) (x : Nat) : SameDrive s (s.raiseMot a k x) :=
  ⟨State.raiseAs_cfg .., State.raiseAs_ident .., Steady.refl.raiseMot a k x⟩

@[simp] theorem State.axisIs_at (s : State) (t a : Nat) : (s.at t).axisIs a = s.axisIs a := by
  simp only [State.axisIs, (SameDrive.at s t).axisRec, State.at_powered]

/-- A declared axis is one of the four, and has a role (R88). -/
theorem State.axisIs_imp (h : s.axisIs a = true) : a < 4 ∧ (s.axisRec a).role ≠ 0 := by
  simp only [State.axisIs, Bool.and_eq_true, decide_eq_true_eq, bne_iff_ne] at h
  obtain ⟨⟨-, ha⟩, hrole⟩ := h
  exact ⟨ha, hrole⟩

/-- The registers of the four axes stay as they are while time passes (R396). -/
theorem Keep.at_axis (s : State) (t : Nat) (ha : a < 4) {o : Nat} (ho : o ≤ 0x1B013C + a * 0x40) : Keep o s (s.at t) :=
  .at_below s t (by omega)

theorem State.f_at_axis (s : State) (t : Nat) (ha : a < 4) (fd : Field)
    (ho : fd.off ≤ 0x1B013C + a * 0x40 := by exact Nat.add_le_add_right (by decide) _) : (s.at t).f fd = s.f fd :=
  (Keep.at_axis s t ha ho).f fd

theorem State.fb_at_axis (s : State) (t : Nat) (ha : a < 4) (fd : Field)
    (ho : fd.off ≤ 0x1B013C + a * 0x40 := by exact Nat.add_le_add_right (by decide) _) : (s.at t).fb fd = s.fb fd :=
  (Keep.at_axis s t ha ho).fb fd

/-- Several fields set are set one after the other: equations to rewrite with, since the kernel does not get through the registers of
an axis by unfolding. -/
theorem State.setFields_nil (s : State) : s.setFields [] = s := by rw [State.setFields]

theorem State.setFields_cons (s : State) (fd : Field) (v : Nat) (l : List (Field × Nat)) :
    s.setFields ((fd, v) :: l) = (s.setF fd v).setFields l := by rw [State.setFields]

/-! ### Gates off and trips (R376, R388 to R390) -/

theorem State.axisOff_axis_other (s : State) {b : Nat} (h : b ≠ a) : (s.axisOff a).axis b = s.axis b := by
  simp [State.axisOff, State.setFields_cons, State.setFields_nil, h]

theorem State.axisOff_run (s : State) (a : Nat) : ((s.axisOff a).axis a).run = (s.axis a).run := by
  simp [State.axisOff, State.setFields_cons, State.setFields_nil]

theorem State.axisOff_gates (s : State) (a : Nat) : (s.axisOff a).fb (MOT_a_STATUS_RUNNING a) = false := by
  rw [State.axisOff, State.modAxis_fb]
  simp (disch := simp [MOT_a_STATUS_RUNNING, MOT_a_STATUS_AT_SPEED, MOT_a_STATUS_CATCHING, MOT_a_STATUS_EST, MOT_a_STATUS_FW,
    MOT_a_STATUS_PLIM]) only [State.setFields_cons, State.setFields_nil, State.fb_setF_other, State.fb_setF_same]
  rfl

@[simp] theorem State.axisOff_flt (s : State) (a : Nat) : (s.axisOff a).flt = s.flt := rfl

@[simp] theorem State.raiseMot_axis (s : State) (a : Nat) (k : Kind) (x b : Nat) : (s.raiseMot a k x).axis b = s.axis b := by
  simp only [State.raiseMot, State.axis, State.raiseAs_mot]

theorem Keep.raiseMot {o : Nat} {s₀ : State} (h : Keep o s₀ s) (a : Nat) (k : Kind) (x : Nat) : Keep o s₀ (s.raiseMot a k x) :=
  h.raiseAs ..

/-- An axis that a fault has turned off: its gates are off until RUN is written 1 again, and its flag and message say why. -/
structure State.Tripped (s s' : State) (a : Nat) (flag : Field) (k : Kind) (addr : Nat) : Prop where
  st : (s'.axis a).st = .off
  fault : (s'.axis a).fault = true
  gates : s'.fb (MOT_a_STATUS_RUNNING a) = false
  flag : s'.fb flag = true
  raised : s.Raised s' 0 a k addr

/-- Every fault flag of MOT_a_STATUS lies below its status bits. -/
theorem State.axisTrip_trips (s : State) (a : Nat) {flag : Field} (k : Kind) (addr : Nat) (hlo : flag.lo < 6) (hw : flag.w = 1) :
    s.Tripped (s.axisTrip a flag k addr) a flag k addr := by
  let z := ((s.axisOff a).modAxis a fun x => { x with fault := true, run := false }).setF flag 1
  have hregs : Keep (rMOT_a_STATUS a) z (s.axisTrip a flag k addr) := Keep.refl.raiseMot a k addr
  have hflag : Keep flag.off z (s.axisTrip a flag k addr) := Keep.refl.raiseMot a k addr
  refine ⟨?_, ?_, ?_, ?_, .raiseAs rfl ..⟩
  · rw [State.axisTrip, State.raiseMot_axis, State.setF_axis, State.modAxis_axis, if_pos rfl]
    exact (State.axisOff_st s a a).trans (if_pos rfl)
  · rw [State.axisTrip, State.raiseMot_axis, State.setF_axis, State.modAxis_axis, if_pos rfl]
  · rw [hregs.fb _, State.fb_setF_other _ _ _ _ (.inr (.inr (by simp only [MOT_a_STATUS_RUNNING]; omega))), State.modAxis_fb,
      State.axisOff_gates]
  · rw [hflag.fb _, State.fb_setF_same _ _ _ (by omega), hw]
    rfl

/-! ### A stop (R371) -/

theorem motCmd_ne_status (a : Nat) : rMOT_a_CMD a ≠ rMOT_a_STATUS a := by simp [rMOT_a_CMD, rMOT_a_STATUS]

theorem State.stopAxis_running (hst : (s.axis a).st = .running) :
    ((s.stopAxis a).axis a).st = .stopping ∧ ((s.stopAxis a).axis a).target = 0 := by
  simp [State.stopAxis, hst]

theorem State.stopAxis_starting (hst : (s.axis a).st ≠ .running) (hst' : (s.axis a).st ≠ .stopping) :
    ((s.stopAxis a).axis a).st = .off ∧ (s.stopAxis a).fb (MOT_a_STATUS_RUNNING a) = false := by
  have hoff : s.stopAxis a = (s.modAxis a fun x => { x with run := false, syncKept := false }).axisOff a := by
    simp only [State.stopAxis, State.modAxis_axis, if_pos]
  rw [hoff, State.axisOff_st, if_pos rfl]
  exact ⟨rfl, State.axisOff_gates _ a⟩

theorem State.stopAxis_run (s : State) (a : Nat) : ((s.stopAxis a).axis a).run = false := by
  simp only [State.stopAxis]
  split
  · simp
  · simp
  · simp [State.axisOff_run]

theorem State.stopAxis_axis_other (s : State) {b : Nat} (h : b ≠ a) : (s.stopAxis a).axis b = s.axis b := by
  simp only [State.stopAxis]
  split
  · simp [h]
  · simp [h]
  · rw [State.axisOff_axis_other _ h, State.modAxis_axis, if_neg h]

/-- A stop writes MOT_a_STATUS alone. -/
theorem Keep.stopAxis_of_ne {o : Nat} {s₀ : State} (h : Keep o s₀ s) (a : Nat) (e : o ≠ rMOT_a_STATUS a) :
    Keep o s₀ (s.stopAxis a) := by
  simp only [State.stopAxis]
  split
  · exact .modAxis ((h.modAxis _ _).setF (MOT_a_STATUS_AT_SPEED a) 0 e) _ _
  · exact h.modAxis _ _
  · exact .axisOff (h.modAxis _ _) a e

/-! ### A start (R369, R376, R393, R395) -/

/-- The engine lets an axis start: it has a role, the operating state lets it drive, and no sense-offset fault stands. -/
structure State.AxisMayStart (s : State) (a : Nat) : Prop where
  role : (s.axisRec a).role ≠ 0
  allowed : s.motorsAllowed = true
  offset : (s.axis a).offsetBad = false

theorem State.startAxis_off (hgo : s.AxisMayStart a) (hst : (s.axis a).st = .off) :
    ((s.startAxis a).axis a).st = .catchCheck ∧ ((s.startAxis a).axis a).run = true ∧ ((s.startAxis a).axis a).fault = false ∧
    ((s.startAxis a).axis a).stepEnd = s.now + ms 100 ∧ (s.startAxis a).fb (MOT_a_STATUS_CATCHING a) = true := by
  obtain ⟨hrole, hallowed, hoffset⟩ := hgo
  have hcatching : (s.setF (MOT_a_STATUS_CATCHING a) 1).fb (MOT_a_STATUS_CATCHING a) = true :=
    State.fb_setF_same _ (MOT_a_STATUS_CATCHING a) 1 (Nat.le_of_ble_eq_true rfl)
  simp [State.startAxis, hrole, hallowed, hoffset, hst, hcatching]

/-- A start asks the axis to run, whichever step it stands at. -/
theorem State.startAxis_run (hgo : s.AxisMayStart a) : ((s.startAxis a).axis a).run = true := by
  obtain ⟨hrole, hallowed, hoffset⟩ := hgo
  rw [State.startAxis, if_neg (by simp [hrole, hallowed, hoffset])]
  split <;> simp

theorem State.startAxis_axis_other (s : State) {b : Nat} (h : b ≠ a) : (s.startAxis a).axis b = s.axis b := by
  unfold State.startAxis
  split
  · rfl
  · split <;> simp [h]

theorem State.startAxis_offsetBad (s : State) (a : Nat) : ((s.startAxis a).axis a).offsetBad = (s.axis a).offsetBad := by
  unfold State.startAxis
  split
  · rfl
  · split <;> simp

theorem State.startAxis_fault (hf : (s.axis a).fault = false) : ((s.startAxis a).axis a).fault = false := by
  unfold State.startAxis
  split
  · exact hf
  · split <;> simp [hf]

/-- A start writes MOT_a_STATUS alone. -/
theorem Keep.startAxis_of_ne {o : Nat} {s₀ : State} (h : Keep o s₀ s) (a : Nat) (e : o ≠ rMOT_a_STATUS a) :
    Keep o s₀ (s.startAxis a) := by
  unfold State.startAxis
  refine .ite h ?_
  split
  · exact .modAxis (h.setF (MOT_a_STATUS_CATCHING a) 1 e) _ _
  · exact h.modAxis _ _
  · exact h.modAxis _ _

/-! ### The last step of the start sequence (R374, R376) -/

theorem State.accelerate_st (s : State) (a : Nat) :
    ((s.accelerate a).axis a).st = if s.fb (MOT_a_CMD_SYNC a) && !(s.axis a).syncKept then .syncHold else .running := by
  unfold State.accelerate
  split <;> simp

@[simp] theorem State.accelerate_f (s : State) (a : Nat) (fd : Field) : (s.accelerate a).f fd = s.f fd :=
  ite_keeps (fun z => z.f fd) rfl rfl

@[simp] theorem State.accelerate_fb (s : State) (a : Nat) (fd : Field) : (s.accelerate a).fb fd = s.fb fd :=
  ite_keeps (fun z => z.fb fd) rfl rfl

@[simp] theorem State.accelerate_flt (s : State) (a : Nat) : (s.accelerate a).flt = s.flt :=
  ite_keeps State.flt rfl rfl

end Sys2Proof.Machine
end

section
/-!
SUPPORT. The commands of the start sequence and the trips (R367, R371, R376, R384 to R388, R390, R395; the threshold of the catch
check is log entry 130, a gate fault that leaves its axis as it is 132): each command as one operation under the conditions that let
it act.
-/
namespace Sys2Proof.Machine
variable {s : State} {a : Nat}

/-! ### Writes of MOT_a_CMD (R370, R371) -/

/-- The host's command of an axis is stored. -/
def State.storeCmd (s : State) (a : Nat) (v : Word) : State := s.setReg (rMOT_a_CMD a) (v &&& 0xF0000000)

theorem State.storeCmd_steady (s : State) (a : Nat) (v : Word) : Steady s (s.storeCmd a v) := Steady.refl.setReg _ _

/-- A write of MOT_a_CMD that neither Dusk ignores nor the pin overrides. -/
theorem State.writeMotCmd_host {v : Word} (hd : s.duskHolds a = false) (hc : (s.axisRec a).cmdsrc ≠ 1) :
    s.writeMotCmd a v = if bit v.toNat 31 then ((s.storeCmd a v).modAxis a fun x => { x with fault := false }).startAxis a
      else (s.storeCmd a v).stopAxis a := by
  have hdusk : (s.st = DUSK && ((s.axisRec a).role = 1 || (s.axisRec a).role = 2 || (s.axisRec a).role = 4)) = false := hd
  simp only [State.writeMotCmd, hdusk, hc, State.storeCmd, if_false, Bool.false_eq_true]

section
variable (t : Nat) {v : Word} (hw : s.writable (rMOT_a_CMD a) = true) (ha : a < 4) (hd : s.duskHolds a = false)
  (hc : (s.axisRec a).cmdsrc ≠ 1)
include hw ha hd hc

theorem exec_motorRun (hv : bit v.toNat 31 = true) :
    exec (.motorRun t a v) s = .next ((((s.at t).storeCmd a v).modAxis a fun x => { x with fault := false }).startAxis a) := by
  have hrec := (SameDrive.at s t).axisRec a
  refine congrArg Host.Outcome.next ((State.onWrite_at s t _ _ hw).trans ?_)
  rw [if_pos (by simp [ha, hv]), State.writeMotCmd_host (((SameDrive.at s t).duskHolds a).trans hd) (by rwa [hrec]), if_pos hv]

theorem exec_motorStop (hv : bit v.toNat 31 = false) :
    exec (.motorStop t a v) s = .next (((s.at t).storeCmd a v).stopAxis a) := by
  have hrec := (SameDrive.at s t).axisRec a
  refine congrArg Host.Outcome.next ((State.onWrite_at s t _ _ hw).trans ?_)
  rw [if_pos (by simp [ha, hv]), State.writeMotCmd_host (((SameDrive.at s t).duskHolds a).trans hd) (by rwa [hrec]),
    if_neg (by rw [hv]; decide)]

theorem motorRun_starts (hv : bit v.toNat 31 = true) (hgo : s.AxisMayStart a) (hst : (s.axis a).st = .off) :
    ∃ s', exec (.motorRun t a v) s = .next s' ∧ (s'.axis a).st = .catchCheck ∧ (s'.axis a).run = true ∧ (s'.axis a).fault = false ∧
      (s'.axis a).stepEnd = max s.now t + ms 100 ∧ s'.fb (MOT_a_STATUS_CATCHING a) = true ∧
      s'.reg (rMOT_a_CMD a) = v &&& 0xF0000000 := by
  obtain ⟨hrole, hallowed, hoffset⟩ := hgo
  let z := ((s.at t).storeCmd a v).modAxis a fun x => { x with fault := false }
  have hz : SameDrive s z := ⟨State.at_cfg .., State.at_ident .., (Steady.refl.at t).trans (State.storeCmd_steady ..)⟩
  have haxis : z.axis a = { s.axis a with fault := false } := by simp [z, State.storeCmd]
  obtain ⟨hcheck, hrun, hfault, hend, hcatching⟩ := State.startAxis_off (s := z)
    ⟨by rwa [hz.axisRec], by rwa [hz.motorsAllowed], by rwa [haxis]⟩ (by rwa [haxis])
  have hcmd : Keep (rMOT_a_CMD a) z (z.startAxis a) := Keep.refl.startAxis_of_ne a (motCmd_ne_status a)
  have hnow : z.now = max s.now t := State.at_now ..
  exact ⟨_, exec_motorRun t hw ha hd hc hv, hcheck, hrun, hfault, hnow ▸ hend, hcatching, Eq.trans hcmd (State.reg_setReg_same ..)⟩

theorem motorStop_decelerates (hv : bit v.toNat 31 = false) (hst : (s.axis a).st = .running) :
    ∃ s', exec (.motorStop t a v) s = .next s' ∧ (s'.axis a).st = .stopping ∧ (s'.axis a).run = false ∧ (s'.axis a).target = 0 ∧
      s'.reg (rMOT_a_CMD a) = v &&& 0xF0000000 := by
  let z := (s.at t).storeCmd a v
  have haxis : z.axis a = s.axis a := by simp [z, State.storeCmd]
  obtain ⟨hstop, htarget⟩ := State.stopAxis_running (s := z) (by rwa [haxis])
  have hcmd : Keep (rMOT_a_CMD a) z (z.stopAxis a) := Keep.refl.stopAxis_of_ne a (motCmd_ne_status a)
  exact ⟨_, exec_motorStop t hw ha hd hc hv, hstop, z.stopAxis_run a, htarget, Eq.trans hcmd (State.reg_setReg_same ..)⟩

theorem motorStop_ends (hv : bit v.toNat 31 = false) (hst : (s.axis a).st ≠ .running) (hst' : (s.axis a).st ≠ .stopping) :
    ∃ s', exec (.motorStop t a v) s = .next s' ∧ (s'.axis a).st = .off ∧ (s'.axis a).run = false ∧
      s'.fb (MOT_a_STATUS_RUNNING a) = false := by
  let z := (s.at t).storeCmd a v
  have haxis : z.axis a = s.axis a := by simp [z, State.storeCmd]
  obtain ⟨hoff, hgates⟩ := State.stopAxis_starting (s := z) (by rwa [haxis]) (by rwa [haxis])
  exact ⟨_, exec_motorStop t hw ha hd hc hv, hoff, z.stopAxis_run a, hgates⟩

end

/-! ### The catch (R376, R386, R387) -/

/-- No turning motor is found: the open-phase check is next. -/
def State.catchNothing (s : State) (a : Nat) : State := (s.setF (MOT_a_STATUS_CATCHING a) 0).modAxis a fun x => { x with st := .openCheck }

/-- The motor turns too fast to be caught: the axis tries again after 100 ms. -/
def State.catchGivenUp (s : State) (a amp : Nat) : State :=
  ((s.setF (MOT_a_STATUS_CATCH_OVER a) 1).modAxis a fun x => { x with st := .catchOver, stepEnd := s.now + ms 100 }).raiseMot a
    kMOT_CATCH_OVER (a + amp / 10 % 4096 * 16)

theorem exec_catchCheckComplete (t amp : Nat) (full : Bool) (h : s.axisIs a = true) (hst : (s.axis a).st = .catchCheck) :
    exec (.catchCheckComplete t a amp full) s = .next
      (if full && s.f (MOT_a_MODEL_K_KE a) * (s.axisRec a).ratedRpm < 50 * 1000 * amp then
        if s.f PWR_LINK_VOLT < amp then (s.at t).catchGivenUp a amp else (s.at t).modAxis a fun x => { x with st := .catching }
      else (s.at t).catchNothing a) := by
  obtain ⟨ha, -⟩ := State.axisIs_imp h
  rw [← State.f_at_axis s t ha (MOT_a_MODEL_K_KE a), ← State.f_at s t PWR_LINK_VOLT, ← (SameDrive.at s t).axisRec a]
  exact congrArg Host.Outcome.next (if_pos (by simp [h, hst]))

theorem catchCheckComplete_nothing (t amp : Nat) (h : s.axisIs a = true) (hst : (s.axis a).st = .catchCheck) :
    ∃ s', exec (.catchCheckComplete t a amp false) s = .next s' ∧ (s'.axis a).st = .openCheck ∧
      s'.fb (MOT_a_STATUS_CATCHING a) = false := by
  refine ⟨_, exec_catchCheckComplete t amp false h hst, ?_⟩
  rw [if_neg (by simp), State.catchNothing, State.modAxis_axis, if_pos rfl, State.modAxis_fb]
  exact ⟨rfl, State.fb_setF_same _ (MOT_a_STATUS_CATCHING a) 0 (Nat.le_of_ble_eq_true rfl)⟩

theorem catchCheckComplete_catches (t : Nat) {amp : Nat} (h : s.axisIs a = true) (hst : (s.axis a).st = .catchCheck)
    (hturns : s.f (MOT_a_MODEL_K_KE a) * (s.axisRec a).ratedRpm < 50 * 1000 * amp) (hlink : amp ≤ s.f PWR_LINK_VOLT) :
    ∃ s', exec (.catchCheckComplete t a amp true) s = .next s' ∧ (s'.axis a).st = .catching := by
  refine ⟨_, exec_catchCheckComplete t amp true h hst, ?_⟩
  rw [if_pos (by simpa using hturns), if_neg (Nat.not_lt.2 hlink), State.modAxis_axis, if_pos rfl]

theorem catchCheckComplete_givesUp (t : Nat) {amp : Nat} (h : s.axisIs a = true) (hst : (s.axis a).st = .catchCheck)
    (hturns : s.f (MOT_a_MODEL_K_KE a) * (s.axisRec a).ratedRpm < 50 * 1000 * amp) (hlink : s.f PWR_LINK_VOLT < amp) :
    ∃ s', exec (.catchCheckComplete t a amp true) s = .next s' ∧ (s'.axis a).st = .catchOver ∧ (s'.axis a).stepEnd = max s.now t + ms 100 ∧
      s'.fb (MOT_a_STATUS_CATCH_OVER a) = true ∧ (s.at t).Raised s' 0 a kMOT_CATCH_OVER (a + amp / 10 % 4096 * 16) := by
  have hflag : Keep (rMOT_a_STATUS a) ((s.at t).setF (MOT_a_STATUS_CATCH_OVER a) 1) ((s.at t).catchGivenUp a amp) :=
    (Keep.refl.modAxis _ _).raiseMot a _ _
  refine ⟨_, exec_catchCheckComplete t amp true h hst, ?_⟩
  rw [if_pos (by simpa using hturns), if_pos hlink]
  refine ⟨?_, ?_, ?_, .raiseAs rfl ..⟩
  · simp [State.catchGivenUp]
  · simp [State.catchGivenUp]
  · rw [hflag.fb _, State.fb_setF_same _ (MOT_a_STATUS_CATCH_OVER a) 1 (Nat.le_of_ble_eq_true rfl)]
    rfl

/-- The gates are enabled on the motor's own speed, with i_q = 0. -/
def State.lockCatch (s : State) (a : Nat) (rpm : Int) : State :=
  ((s.setFields [(MOT_a_STATUS_CATCHING a, 0), (MOT_a_STATUS_RUNNING a, 1), (MOT_a_STATUS_EST a, 2), (MOT_a_IDQ_IQ_MA a, 0)]).setFs
    (MOT_a_SPEED_RPM a) rpm).modAxis a fun x => { x with idRef := Config.catchId rpm, idFrac := 0 }

theorem State.lockCatch_syncKept (s : State) (a : Nat) (rpm : Int) : ((s.lockCatch a rpm).axis a).syncKept = (s.axis a).syncKept := by
  simp [State.lockCatch, State.setFields_cons, State.setFields_nil]

theorem wrap_mod (w : Nat) (i : Int) : wrap w i % 2 ^ w = wrap w i := by
  have hpos : (0 : Int) < ((2 ^ w : Nat) : Int) := by exact_mod_cast Nat.two_pow_pos w
  have hlt : i % ((2 ^ w : Nat) : Int) < ((2 ^ w : Nat) : Int) := Int.emod_lt_of_pos i hpos
  have hnonneg : 0 ≤ i % ((2 ^ w : Nat) : Int) := Int.emod_nonneg i (Int.ne_of_gt hpos)
  rw [wrap]
  exact Nat.mod_eq_of_lt (by omega)

/-- A field set to a two's complement value reads as that value, wrapped to its width. -/
theorem State.f_setFs_same (s : State) (fd : Field) (v : Int) (h : fd.lo + fd.w ≤ 32) : (s.setFs fd v).f fd = wrap fd.w v := by
  rw [State.setFs, State.f_setF_same _ _ _ h, wrap_mod]

theorem State.lockCatch_shows (s : State) (a : Nat) (rpm : Int) :
    (s.lockCatch a rpm).f (MOT_a_STATUS_RUNNING a) = 1 ∧ (s.lockCatch a rpm).f (MOT_a_STATUS_EST a) = 2 ∧
    (s.lockCatch a rpm).f (MOT_a_SPEED_RPM a) = wrap 32 rpm ∧ (s.lockCatch a rpm).f (MOT_a_IDQ_IQ_MA a) = 0 := by
  rw [State.lockCatch, State.modAxis_f, State.modAxis_f, State.modAxis_f, State.modAxis_f,
    State.f_setFs_same _ (MOT_a_SPEED_RPM a) rpm (Nat.le_of_ble_eq_true rfl)]
  simp (disch := simp [MOT_a_STATUS_CATCHING, MOT_a_STATUS_RUNNING, MOT_a_STATUS_EST, MOT_a_IDQ_IQ_MA, MOT_a_SPEED_RPM]) only
    [State.setFields_cons, State.setFields_nil, State.setFs, State.f_setF_other, State.f_setF_same]
  exact ⟨rfl, rfl, rfl, rfl⟩

theorem State.lockCatch_sync (s : State) (a : Nat) (rpm : Int) : (s.lockCatch a rpm).fb (MOT_a_CMD_SYNC a) = s.fb (MOT_a_CMD_SYNC a) := by
  rw [State.lockCatch, State.modAxis_fb, State.setFs]
  simp (disch := simp [MOT_a_STATUS_CATCHING, MOT_a_STATUS_RUNNING, MOT_a_STATUS_EST, MOT_a_IDQ_IQ_MA, MOT_a_SPEED_RPM, MOT_a_CMD_SYNC]) only
    [State.setFields_cons, State.setFields_nil, State.fb_setF_other]

theorem exec_catchLock (t : Nat) (rpm : Int) (h : s.axisIs a = true) (hst : (s.axis a).st = .catching) :
    exec (.catchLock t a rpm) s = .next (((s.at t).lockCatch a rpm).accelerate a) :=
  congrArg Host.Outcome.next (if_pos (by simp [h, hst]))

theorem catchLock_runs (t : Nat) (rpm : Int) (h : s.axisIs a = true) (hst : (s.axis a).st = .catching) :
    ∃ s', exec (.catchLock t a rpm) s = .next s' ∧ s'.fb (MOT_a_STATUS_RUNNING a) = true ∧ s'.f (MOT_a_STATUS_EST a) = 2 ∧
      s'.f (MOT_a_SPEED_RPM a) = wrap 32 rpm ∧ s'.f (MOT_a_IDQ_IQ_MA a) = 0 ∧
      (s'.axis a).st = (if s.fb (MOT_a_CMD_SYNC a) && !(s.axis a).syncKept then .syncHold else .running) := by
  obtain ⟨ha, -⟩ := State.axisIs_imp h
  obtain ⟨hrunning, hest, hspeed, hiq⟩ := (s.at t).lockCatch_shows a rpm
  refine ⟨_, exec_catchLock t rpm h hst, ?_, ?_, ?_, ?_, ?_⟩
  · rw [State.accelerate_fb, State.fb, hrunning]
    rfl
  · rw [State.accelerate_f, hest]
  · rw [State.accelerate_f, hspeed]
  · rw [State.accelerate_f, hiq]
  · rw [State.accelerate_st, State.lockCatch_sync, State.lockCatch_syncKept, State.at_axis, State.fb_at_axis s t ha (MOT_a_CMD_SYNC a)]

theorem catchOverRetry_checks (t : Nat) (h : s.axisIs a = true) (hst : (s.axis a).st = .catchOver) (hrun : (s.axis a).run = true)
    (hend : (s.axis a).stepEnd ≤ max s.now t) :
    ∃ s', exec (.catchOverRetry t a) s = .next s' ∧ (s'.axis a).st = .catchCheck ∧ (s'.axis a).stepEnd = max s.now t + ms 100 := by
  refine ⟨_, congrArg Host.Outcome.next (if_pos (by simpa [h, hst, hrun] using hend)), ?_, ?_⟩ <;> simp

/-! ### The open-phase check and the identification (R376) -/

theorem openPhaseCheckComplete_passes (t : Nat) (h : s.axisIs a = true) (hst : (s.axis a).st = .openCheck) :
    ∃ s', exec (.openPhaseCheckComplete t a none) s = .next s' ∧
      (s'.axis a).st = (if s.fb (MOT_a_MODEL_R_AUTO a) && !(s.axis a).identified then .ident else .initPos) := by
  obtain ⟨ha, -⟩ := State.axisIs_imp h
  refine ⟨_, congrArg Host.Outcome.next (if_pos (by simp [h, hst])), ?_⟩
  rw [← State.fb_at_axis s t ha (MOT_a_MODEL_R_AUTO a), ← State.at_axis s t a]
  cases (s.at t).fb (MOT_a_MODEL_R_AUTO a) && !((s.at t).axis a).identified <;> simp

theorem openPhaseCheckComplete_trips (t p : Nat) (h : s.axisIs a = true) (hst : (s.axis a).st = .openCheck) :
    ∃ s', exec (.openPhaseCheckComplete t a (some p)) s = .next s' ∧
      (s.at t).Tripped s' a (MOT_a_STATUS_OPEN_PHASE a) kMOT_OPEN_PHASE (a + p % 4 * 4) :=
  ⟨_, congrArg Host.Outcome.next (if_pos (by simp [h, hst])), (s.at t).axisTrip_trips a _ _ (Nat.le_of_ble_eq_true rfl) rfl⟩

/-- The identified model is shown. -/
def State.showModel (s : State) (a rs ld lq : Nat) : State :=
  s.setFields [(MOT_a_MODEL_R_RS_MOHM a, sat 16 rs), (MOT_a_MODEL_L_LD_UH a, sat 16 ld), (MOT_a_MODEL_L_LQ_UH a, sat 16 lq)]

theorem State.showModel_f (s : State) (a rs ld lq : Nat) :
    (s.showModel a rs ld lq).f (MOT_a_MODEL_R_RS_MOHM a) = min 65535 rs ∧ (s.showModel a rs ld lq).f (MOT_a_MODEL_L_LD_UH a) = min 65535 ld ∧
    (s.showModel a rs ld lq).f (MOT_a_MODEL_L_LQ_UH a) = min 65535 lq := by
  rw [State.showModel]
  simp (disch := simp [MOT_a_MODEL_R_RS_MOHM, MOT_a_MODEL_L_LD_UH, MOT_a_MODEL_L_LQ_UH]) only
    [State.setFields_cons, State.setFields_nil, State.f_setF_other, State.f_setF_same]
  exact ⟨sat_mod 16 rs, sat_mod 16 ld, sat_mod 16 lq⟩

/-- The identified model is taken, and the initial position is next. -/
def State.takeModel (s : State) (a rs ld lq : Nat) : State :=
  (s.showModel a rs ld lq).modAxis a fun x => { x with identified := true, st := .initPos, stepEnd := s.now + ms 52 }

theorem exec_modelIdentificationComplete (t rs ld lq : Nat) (h : s.axisIs a = true) (hst : (s.axis a).st = .ident) :
    exec (.modelIdentificationComplete t a rs ld lq) s = .next ((s.at t).takeModel a rs ld lq) :=
  congrArg Host.Outcome.next (if_pos (by simp [h, hst]))

theorem modelIdentificationComplete_shows (t rs ld lq : Nat) (h : s.axisIs a = true) (hst : (s.axis a).st = .ident) :
    ∃ s', exec (.modelIdentificationComplete t a rs ld lq) s = .next s' ∧ s'.f (MOT_a_MODEL_R_RS_MOHM a) = min 65535 rs ∧
      s'.f (MOT_a_MODEL_L_LD_UH a) = min 65535 ld ∧ s'.f (MOT_a_MODEL_L_LQ_UH a) = min 65535 lq ∧ (s'.axis a).identified = true ∧
      (s'.axis a).st = .initPos := by
  obtain ⟨hrs, hld, hlq⟩ := (s.at t).showModel_f a rs ld lq
  refine ⟨_, exec_modelIdentificationComplete t rs ld lq h hst, ?_⟩
  rw [State.takeModel, State.modAxis_f, State.modAxis_f, State.modAxis_f, State.modAxis_axis, if_pos rfl]
  exact ⟨hrs, hld, hlq, rfl, rfl⟩

/-! ### The initial position and the estimators (R384, R385) -/

/-- The gates are enabled on the injection's estimate, or in open loop where its response is too weak. -/
def State.beginInjection (s : State) (a : Nat) (weak : Bool) : State :=
  s.setFields [(MOT_a_STATUS_RUNNING a, 1), (MOT_a_STATUS_EST a, if weak then 3 else 1)]

/-- A weak response is raised. -/
def State.noteWeak (s : State) (a : Nat) (weak : Bool) : State := if weak then s.raiseMot a kMOT_HFI_WEAK a else s

theorem Keep.noteWeak {o : Nat} {s₀ : State} (h : Keep o s₀ s) (a : Nat) (weak : Bool) : Keep o s₀ (s.noteWeak a weak) :=
  .ite (h.raiseMot _ _ _) h

theorem State.noteWeak_axis (s : State) (a : Nat) (weak : Bool) (b : Nat) : (s.noteWeak a weak).axis b = s.axis b :=
  ite_keeps (fun z => z.axis b) (State.raiseMot_axis ..) rfl

theorem State.beginInjection_shows (s : State) (a : Nat) (weak : Bool) :
    (s.beginInjection a weak).f (MOT_a_STATUS_RUNNING a) = 1 ∧
    (s.beginInjection a weak).f (MOT_a_STATUS_EST a) = if weak then 3 else 1 := by
  rw [State.beginInjection]
  simp (disch := simp [MOT_a_STATUS_RUNNING, MOT_a_STATUS_EST]) only
    [State.setFields_cons, State.setFields_nil, State.f_setF_other, State.f_setF_same]
  cases weak <;> exact ⟨rfl, rfl⟩

theorem State.beginInjection_axis (s : State) (a : Nat) (weak : Bool) : (s.beginInjection a weak).axis a = s.axis a := by
  simp [State.beginInjection, State.setFields_cons, State.setFields_nil]

theorem State.beginInjection_flt (s : State) (a : Nat) (weak : Bool) : (s.beginInjection a weak).flt = s.flt := by
  simp [State.beginInjection, State.setFields_cons, State.setFields_nil]

theorem Keep.beginInjection {o : Nat} {s₀ : State} (h : Keep o s₀ s) (weak : Bool) (e : o ≠ rMOT_a_STATUS a) :
    Keep o s₀ (s.beginInjection a weak) :=
  .setFields_cons (.setFields_cons (.setFields_nil ((h.setF (MOT_a_STATUS_RUNNING a) 1 e).setF (MOT_a_STATUS_EST a) _ e)))

theorem exec_initialPositionFound (t : Nat) (weak : Bool) (h : s.axisIs a = true) (hst : (s.axis a).st = .initPos) :
    exec (.initialPositionFound t a weak) s = .next ((((s.at t).beginInjection a weak).noteWeak a weak).accelerate a) :=
  congrArg Host.Outcome.next (if_pos (by simp [h, hst]))

theorem initialPositionFound_runs (t : Nat) (weak : Bool) (h : s.axisIs a = true) (hst : (s.axis a).st = .initPos) :
    ∃ s', exec (.initialPositionFound t a weak) s = .next s' ∧ s'.fb (MOT_a_STATUS_RUNNING a) = true ∧
      s'.f (MOT_a_STATUS_EST a) = (if weak then 3 else 1) ∧ (weak = true → (s.at t).Raised s' 0 a kMOT_HFI_WEAK a) ∧
      (s'.axis a).st = (if s.fb (MOT_a_CMD_SYNC a) && !(s.axis a).syncKept then .syncHold else .running) := by
  obtain ⟨ha, -⟩ := State.axisIs_imp h
  let z := (s.at t).beginInjection a weak
  obtain ⟨hrunning, hest⟩ := (s.at t).beginInjection_shows a weak
  have hstatus : Keep (rMOT_a_STATUS a) z (z.noteWeak a weak) := Keep.refl.noteWeak a weak
  have hcmd : Keep (rMOT_a_CMD a) s (z.noteWeak a weak) :=
    .noteWeak ((Keep.at_axis s t ha (Nat.add_le_add_right (by decide) _)).beginInjection weak
      (motCmd_ne_status a)) a weak
  refine ⟨_, exec_initialPositionFound t weak h hst, ?_, ?_, ?_, ?_⟩
  · rw [State.accelerate_fb, hstatus.fb _, State.fb, hrunning]
    rfl
  · rw [State.accelerate_f, hstatus.f _, hest]
  · rintro rfl
    rw [State.noteWeak, if_pos rfl]
    exact (State.Raised.raiseAs (c := z) (by rw [State.beginInjection_flt (s.at t)]) 0 a kMOT_HFI_WEAK a false).after (by rw [State.accelerate_flt]; rfl)
  · rw [State.accelerate_st, hcmd.fb _, State.noteWeak_axis, State.beginInjection_axis, State.at_axis]

theorem estimatorHandover_hands {x : Nat} (t : Nat) (h : s.axisIs a = true) (hx : (s.axis a).agreeAt = some x)
    (hdue : x + ms 10 ≤ max s.now t) (hest : s.f (MOT_a_STATUS_EST a) = 1 ∨ s.f (MOT_a_STATUS_EST a) = 3)
    (hfast : 5 * (s.axisRec a).ratedRpm ≤ (s.fs (MOT_a_SPEED_RPM a)).natAbs * 100) :
    ∃ s', exec (.estimatorHandover t a) s = .next s' ∧ s'.f (MOT_a_STATUS_EST a) = 2 := by
  obtain ⟨ha, -⟩ := State.axisIs_imp h
  have hexec : exec (.estimatorHandover t a) s = .next ((s.at t).setF (MOT_a_STATUS_EST a) 2) := by
    show execEstimatorHandover t a s = _
    have hspeed := State.f_at_axis s t ha (MOT_a_SPEED_RPM a)
    have hest' := State.f_at_axis s t ha (MOT_a_STATUS_EST a)
    rw [State.fs, ← hspeed] at hfast
    simp only [execEstimatorHandover, State.at_axis, hx]
    refine congrArg Host.Outcome.next (if_pos ?_)
    simpa [h, hest', hdue, hest, State.fs, (SameDrive.at s t).axisRec a] using hfast
  exact ⟨_, hexec, State.f_setF_same _ (MOT_a_STATUS_EST a) 2 (Nat.le_of_ble_eq_true rfl)⟩

/-! ### Faults (R367, R388, R390, R395) -/

theorem State.ilim_at (s : State) (t : Nat) (ha : a < 4) : (s.at t).ilim a = s.ilim a := by
  rw [State.ilim, State.ilim, State.f_at_axis s t ha (MOT_a_ILIM_ILIM_MA a)]

theorem openPhase_trips {x : Nat} {p1 p2 : Rms} (t : Nat) (h : s.axisIs a = true) (h1 : openPhase? (s.ilim a) p1 = some x)
    (h2 : openPhase? (s.ilim a) p2 = some x) (hon : s.fb (MOT_a_STATUS_RUNNING a) = true) :
    ∃ s', exec (.openPhase t a p1 p2) s = .next s' ∧
      (s.at t).Tripped s' a (MOT_a_STATUS_OPEN_PHASE a) kMOT_OPEN_PHASE (a + x * 4) := by
  obtain ⟨ha, -⟩ := State.axisIs_imp h
  have hon' := (State.fb_at_axis s t ha (MOT_a_STATUS_RUNNING a)).trans hon
  refine ⟨_, ?_, (s.at t).axisTrip_trips a _ _ (Nat.le_of_ble_eq_true rfl) rfl⟩
  show execOpenPhase t a p1 p2 s = _
  simp [execOpenPhase, State.ilim_at s t ha, h1, h2, h, hon']

theorem stall_trips {x : Nat} (t : Nat) (h : s.axisIs a = true) (hx : (s.axis a).stallAt = some x) (hdue : x + ms 500 ≤ max s.now t) :
    ∃ s', exec (.stall t a) s = .next s' ∧ (s.at t).Tripped s' a (MOT_a_STATUS_STALL a) kMOT_STALL a := by
  refine ⟨_, ?_, (s.at t).axisTrip_trips a _ _ (Nat.le_of_ble_eq_true rfl) rfl⟩
  show execStall t a s = _
  simp only [execStall, State.at_axis, hx]
  exact congrArg Host.Outcome.next (if_pos (by simpa [h] using hdue))

theorem overcurrentTrip_trips (t x : Nat) (h : s.axisIs a = true) (hst : (s.axis a).st ≠ .off) :
    ∃ s', exec (.overcurrentTrip t a x) s = .next s' ∧
      (s.at t).Tripped s' a (MOT_a_STATUS_OVERCURRENT a) kMOT_OVERCURRENT (a + x % 4 * 4) :=
  ⟨_, congrArg Host.Outcome.next (if_pos (by simp [h, hst])), (s.at t).axisTrip_trips a _ _ (Nat.le_of_ble_eq_true rfl) rfl⟩

theorem gateDriverFeedbackFault_raises (t x : Nat) (h : s.axisIs a = true) (hst : (s.axis a).st ≠ .off) :
    ∃ s', exec (.gateDriverFeedbackFault t a x) s = .next s' ∧ s'.fb (MOT_a_STATUS_GATE a) = true ∧ (s'.axis a).st = (s.axis a).st ∧
      (s.at t).Raised s' 0 a kMOT_GATE (a + x % 8 * 4) := by
  have hflag : Keep (rMOT_a_STATUS a) ((s.at t).setF (MOT_a_STATUS_GATE a) 1)
      (((s.at t).setF (MOT_a_STATUS_GATE a) 1).raiseMot a kMOT_GATE (a + x % 8 * 4)) := Keep.refl.raiseMot _ _ _
  refine ⟨_, congrArg Host.Outcome.next (if_pos (by simp [h, hst])), ?_, ?_, .raiseAs rfl ..⟩
  · rw [hflag.fb _, State.fb_setF_same _ (MOT_a_STATUS_GATE a) 1 (Nat.le_of_ble_eq_true rfl)]
    rfl
  · simp

end Sys2Proof.Machine
end

section
/-!
SUPPORT. The running motor axis (R371 to R373, R375, R377, R381, R390): the speed loop, the current controller's period, the loss
of the command pin and its return (log entry 131), and the speed at its command.
-/
namespace Sys2Proof.Machine
variable {s : State} {a : Nat}

/-! ### The speed loop (R371, R375, R390) -/

/-- The host's command of an axis that neither Dusk holds nor a stop slows down. -/
theorem State.axisCommand_host (hd : s.duskHolds a = false) (hst : (s.axis a).st = .running) (hc : (s.axisRec a).cmdsrc ≠ 1) :
    (s.axisCommand a).1 = clamp (-((s.axisRec a).ratedRpm : Int)) (s.axisRec a).ratedRpm (s.fs (MOT_a_SPEED_CMD_RPM a)) ∧
    (s.axisCommand a).2.1 = s.fb (MOT_a_CMD_TORQUE a) := by
  simp [State.axisCommand, hd, hst, hc]

/-- A changed command begins a new wait for the speed. -/
def State.renewWait (s : State) (a : Nat) (new : Bool) : State :=
  if new then (s.setF (MOT_a_STATUS_AT_SPEED a) 0).modAxis a fun x => { x with emitted := false, speedAt := none } else s

theorem State.takeCommand_eq (s : State) (a : Nat) : s.takeCommand a =
    (s.renewWait a ((s.axis a).target != (s.axisCommand a).1 || (s.axis a).torque != (s.axisCommand a).2.1 ||
      (s.axis a).iqCmd != (s.axisCommand a).2.2)).modAxis a fun x =>
        { x with target := (s.axisCommand a).1, torque := (s.axisCommand a).2.1, iqCmd := (s.axisCommand a).2.2 } := rfl

theorem State.renewWait_st (s : State) (a : Nat) (new : Bool) : ((s.renewWait a new).axis a).st = (s.axis a).st :=
  ite_keeps (fun z => (z.axis a).st) (by simp) rfl

theorem State.takeCommand_axis (s : State) (a : Nat) :
    ((s.takeCommand a).axis a).target = (s.axisCommand a).1 ∧ ((s.takeCommand a).axis a).torque = (s.axisCommand a).2.1 ∧
    ((s.takeCommand a).axis a).st = (s.axis a).st := by
  rw [State.takeCommand_eq, State.modAxis_axis, if_pos rfl]
  exact ⟨rfl, rfl, State.renewWait_st ..⟩

/-- Taking the command writes MOT_a_STATUS alone. -/
theorem Keep.takeCommand {o : Nat} {s₀ : State} (h : Keep o s₀ s) (a : Nat) (e : o ≠ rMOT_a_STATUS a) : Keep o s₀ (s.takeCommand a) := by
  rw [State.takeCommand_eq]
  exact .modAxis (.ite (.modAxis (h.setF (MOT_a_STATUS_AT_SPEED a) 0 e) _ _) h) _ _

theorem SameDrive.takeCommand (s : State) (a : Nat) : SameDrive s (s.takeCommand a) where
  cfg := (Frame.takeCommand (μ := { mot := true }) .refl a rfl).cfg.resolve_left (by decide)
  ident := (Frame.takeCommand (μ := { mot := true }) .refl a rfl).ident.resolve_left (by decide)
  steady := Steady.refl.takeCommand a

/-- The measured speed says since when it is near the command, and since when the axis is slow at the current limit. -/
def State.clockSpeed (s : State) (a : Nat) (near slow : Bool) : State :=
  let z := s.modAxis a fun x => { x with speedAt := if near then some (x.speedAt.getD s.now) else none,
                                         stallAt := if slow then some (x.stallAt.getD s.now) else none }
  if near then z else z.setF (MOT_a_STATUS_AT_SPEED a) 0

/-- Below 4 % of the rated speed the observer hands back to injection (R385). -/
def State.leaveObserver (s : State) (a rated : Nat) (rpm : Int) : State :=
  if s.f (MOT_a_STATUS_EST a) = 2 && rpm.natAbs * 100 < 4 * rated then
    (s.setF (MOT_a_STATUS_EST a) 1).modAxis a fun x => { x with agreeAt := none } else s

/-- The speed is within 1 % of the command of a running axis. -/
def State.nearCommand (s : State) (a : Nat) (rpm : Int) : Bool :=
  decide ((rpm - (s.axis a).target).natAbs * 100 ≤ (s.axisRec a).ratedRpm) && (s.axis a).st == .running && !(s.axis a).torque

/-- The speed of a running axis is below 10 % of its command with the current vector at its limit. -/
def State.slowAtLimit (s : State) (a : Nat) (rpm : Int) : Bool :=
  decide (rpm.natAbs * 10 < (s.axis a).target.natAbs) &&
    decide (s.ilim a ^ 2 ≤ (s.fs (MOT_a_IDQ_ID_MA a)).natAbs ^ 2 + (s.fs (MOT_a_IDQ_IQ_MA a)).natAbs ^ 2) &&
    (s.axis a).st == .running && !(s.axis a).torque

theorem State.watchSpeed_eq (s : State) (a : Nat) (rpm : Int) : s.watchSpeed a rpm =
    (let z := (s.clockSpeed a (s.nearCommand a rpm) (s.slowAtLimit a rpm)).leaveObserver a (s.axisRec a).ratedRpm rpm
     if (s.axis a).st = .stopping && rpm = 0 then z.axisOff a
     else if z.duskHolds a && (s.axisRec a).role = 4 then
       z.modAxis a fun x => { x with heldAt := if rpm = 0 && x.target = 0 then some (x.heldAt.getD z.now) else none }
     else z) := rfl

theorem SameDrive.clockSpeed (s : State) (a : Nat) (near slow : Bool) : SameDrive s (s.clockSpeed a near slow) where
  cfg := ite_keeps State.cfg rfl rfl
  ident := ite_keeps State.ident rfl rfl
  steady := Steady.refl.modAxis a _ |>.ite (Steady.setF (Steady.refl.modAxis a _) _ _)

theorem SameDrive.leaveObserver (s : State) (a rated : Nat) (rpm : Int) : SameDrive s (s.leaveObserver a rated rpm) where
  cfg := ite_keeps State.cfg rfl rfl
  ident := ite_keeps State.ident rfl rfl
  steady := .ite (.modAxis (Steady.setF .refl _ _) a _) .refl

/-- A running axis that Dusk does not hold neither turns its gates off nor watches for its stand at CAP_POS. -/
theorem State.watchSpeed_running (rpm : Int) (hd : s.duskHolds a = false) (hst : (s.axis a).st = .running) :
    s.watchSpeed a rpm =
      (s.clockSpeed a (s.nearCommand a rpm) (s.slowAtLimit a rpm)).leaveObserver a (s.axisRec a).ratedRpm rpm := by
  have hdrive := (SameDrive.clockSpeed s a (s.nearCommand a rpm) (s.slowAtLimit a rpm)).trans
    (.leaveObserver _ a (s.axisRec a).ratedRpm rpm)
  rw [State.watchSpeed_eq]
  simp [hst, hdrive.duskHolds, hd]

/-- What an axis does and is to do: its step, and the speed and the mode in force. -/
def Axis.course (x : Axis) : AxisSt × Int × Bool := (x.st, x.target, x.torque)

theorem State.clockSpeed_course (s : State) (a : Nat) (near slow : Bool) :
    ((s.clockSpeed a near slow).axis a).course = (s.axis a).course := by
  unfold State.clockSpeed
  cases near <;> simp [Axis.course]

theorem State.leaveObserver_course (s : State) (a rated : Nat) (rpm : Int) :
    ((s.leaveObserver a rated rpm).axis a).course = (s.axis a).course := by
  unfold State.leaveObserver
  split <;> simp [Axis.course]

/-- What the measured speed says stands in MOT_a_STATUS alone. -/
theorem Keep.clockSpeed {o : Nat} {s₀ : State} (h : Keep o s₀ s) (a : Nat) (near slow : Bool) (e : o ≠ rMOT_a_STATUS a) :
    Keep o s₀ (s.clockSpeed a near slow) :=
  .ite (h.modAxis _ _) ((h.modAxis _ _).setF (MOT_a_STATUS_AT_SPEED a) 0 e)

theorem Keep.leaveObserver {o : Nat} {s₀ : State} (h : Keep o s₀ s) (a rated : Nat) (rpm : Int) (e : o ≠ rMOT_a_STATUS a) :
    Keep o s₀ (s.leaveObserver a rated rpm) :=
  .ite ((h.setF (MOT_a_STATUS_EST a) 1 e).modAxis _ _) h

/-- A running axis that the host commands takes up its command and goes on running. -/
theorem State.takeCommand_watchSpeed (rpm : Int) (hd : s.duskHolds a = false) (hst : (s.axis a).st = .running)
    (hc : (s.axisRec a).cmdsrc ≠ 1) :
    (((s.takeCommand a).watchSpeed a rpm).axis a).course =
      (.running, clamp (-((s.axisRec a).ratedRpm : Int)) (s.axisRec a).ratedRpm (s.fs (MOT_a_SPEED_CMD_RPM a)), s.fb (MOT_a_CMD_TORQUE a)) := by
  obtain ⟨htarget, htorque⟩ := State.axisCommand_host hd hst hc
  have htaken : ((s.takeCommand a).axis a).course = (.running, (s.axisCommand a).1, (s.axisCommand a).2.1) := by
    obtain ⟨hnew, hmode, hstep⟩ := s.takeCommand_axis a
    rw [Axis.course, hnew, hmode, hstep, hst]
  rw [State.watchSpeed_running rpm (((SameDrive.takeCommand s a).duskHolds a).trans hd) (congrArg Prod.fst htaken),
    State.leaveObserver_course, State.clockSpeed_course, htaken, htarget, htorque]

/-- The speed that it showed stays shown. -/
theorem Keep.watchSpeed_running {o : Nat} {s₀ : State} (h : Keep o s₀ s) (rpm : Int) (hd : s.duskHolds a = false)
    (hst : (s.axis a).st = .running) (e : o ≠ rMOT_a_STATUS a) : Keep o s₀ (s.watchSpeed a rpm) := by
  rw [State.watchSpeed_running rpm hd hst]
  exact (h.clockSpeed a _ _ e).leaveObserver a _ rpm e

/-- The measured speed is shown. -/
def State.showSpeed (s : State) (a : Nat) (rpm : Int) : State := s.setFs (MOT_a_SPEED_RPM a) rpm

theorem SameDrive.showSpeed (s : State) (a : Nat) (rpm : Int) : SameDrive s (s.showSpeed a rpm) := ⟨rfl, rfl, Steady.refl.setFs _ _⟩

theorem exec_speedLoopUpdate (t : Nat) (rpm pin : Int) (h : s.axisIs a = true) (hc : (s.axisRec a).cmdsrc ≠ 1) :
    exec (.speedLoopUpdate t a rpm pin) s = .next ((((s.at t).showSpeed a rpm).takeCommand a).watchSpeed a rpm) := by
  have hc' : (((s.at t).showSpeed a rpm).axisRec a).cmdsrc ≠ 1 := by
    rwa [((SameDrive.at s t).trans (.showSpeed _ a rpm)).axisRec]
  refine congrArg Host.Outcome.next ((if_pos (by simp [h])).trans ?_)
  exact congrArg (fun z : State => (z.takeCommand a).watchSpeed a rpm) (if_neg hc')

theorem speedLoopUpdate_follows (t : Nat) (rpm pin : Int) (h : s.axisIs a = true) (hd : s.duskHolds a = false)
    (hc : (s.axisRec a).cmdsrc ≠ 1) (hst : (s.axis a).st = .running) :
    ∃ s', exec (.speedLoopUpdate t a rpm pin) s = .next s' ∧ s'.f (MOT_a_SPEED_RPM a) = wrap 32 rpm ∧
      (s'.axis a).target = clamp (-((s.axisRec a).ratedRpm : Int)) (s.axisRec a).ratedRpm (s.fs (MOT_a_SPEED_CMD_RPM a)) ∧
      (s'.axis a).torque = s.fb (MOT_a_CMD_TORQUE a) ∧ (s'.axis a).st = .running := by
  obtain ⟨ha, -⟩ := State.axisIs_imp h
  let z := (s.at t).showSpeed a rpm
  have hz : SameDrive s z := (SameDrive.at s t).trans (.showSpeed _ a rpm)
  have hzst : (z.axis a).st = .running := ((State.setFs_axis ..).trans (State.at_axis s t a)) ▸ hst
  have hzd := (hz.duskHolds a).trans hd
  have hkeep {o : Nat} (ho : o ≤ 0x1B013C + a * 0x40) (e : o ≠ rMOT_a_SPEED a) : Keep o s z := (Keep.at_axis s t ha ho).setFs _ rpm e
  have hcmd : Keep (rMOT_a_CMD a) s z := hkeep (Nat.add_le_add_right (by decide) _) (by simp [rMOT_a_CMD, rMOT_a_SPEED])
  have hspeedCmd : Keep (rMOT_a_SPEED_CMD a) s z := hkeep (Nat.add_le_add_right (by decide) _) (by simp [rMOT_a_SPEED_CMD, rMOT_a_SPEED])
  have hcourse := State.takeCommand_watchSpeed rpm hzd hzst (by rwa [hz.axisRec])
  rw [hz.axisRec, State.fs, hspeedCmd.f _, hcmd.fb _] at hcourse
  have hspeed : Keep (rMOT_a_SPEED a) z ((z.takeCommand a).watchSpeed a rpm) := by
    have hne : rMOT_a_SPEED a ≠ rMOT_a_STATUS a := by simp [rMOT_a_SPEED, rMOT_a_STATUS]
    obtain ⟨-, -, hstep⟩ := z.takeCommand_axis a
    exact (Keep.refl.takeCommand a hne).watchSpeed_running rpm (((SameDrive.takeCommand z a).duskHolds a).trans hzd) (hstep.trans hzst) hne
  exact ⟨_, exec_speedLoopUpdate t rpm pin h hc,
    (hspeed.f _).trans (State.f_setFs_same _ (MOT_a_SPEED_RPM a) rpm (Nat.le_of_ble_eq_true rfl)),
    congrArg (fun x => x.2.1) hcourse, congrArg (fun x => x.2.2) hcourse, congrArg Prod.fst hcourse⟩

/-! ### The current controller's period (R377, R380, R381) -/

/-- The correction registers lie above those of the motors, so a slew leaves the motors' registers (R452). -/
theorem Keep.showCal {o : Nat} {s₀ : State} (h : Keep o s₀ s) (k : Nat) (ho : o < 0x1E0000) : Keep o s₀ (s.showCal k) := by
  have hne {r : Nat} (x : Nat) (hr : 0x1E0000 ≤ r) : o ≠ r + x := Nat.ne_of_lt (Nat.lt_of_lt_of_le ho (Nat.le_trans hr (Nat.le_add_right ..)))
  simp only [State.showCal]
  split
  · exact (h.setFs _ _ (hne _ (by decide))).setFs _ _ (hne _ (by decide))
  · exact ((h.setFs _ _ (hne _ (by decide))).setFs _ _ (hne _ (by decide))).setFs _ _ (hne _ (by decide))
  · exact (((h.setFs _ _ (hne _ (by decide))).setFs _ _ (hne _ (by decide))).setFs _ _ (hne _ (by decide))).setFs _ _ (hne _ (by decide))
  · exact ((h.setFs _ _ (hne _ (by decide))).setFs _ _ (hne _ (by decide))).setFs _ _ (hne _ (by decide))
  · exact (h.setFs _ _ (hne _ (by decide))).setFs _ _ (hne _ (by decide))

theorem Keep.slewTo {o : Nat} {s₀ : State} (h : Keep o s₀ s) (k done : Nat) (ho : o < 0x1E0000) : Keep o s₀ (s.slewTo k done) := by
  have hset (v : List Int) : Keep o s₀ (s.setCal k v) := .showCal (h.modCal _ _) k ho
  exact .ite (((hset _).modCal _ _).setF CAL_STATUS_SLEWING _ (Nat.ne_of_lt (Nat.lt_trans ho (by decide)))) ((hset _).modCal _ _)

theorem Keep.slewAxis {o : Nat} {s₀ : State} (h : Keep o s₀ s) (a : Nat) (ho : o < 0x1E0000) : Keep o s₀ (s.slewAxis a) :=
  .ite (h.slewTo _ _ ho) h

theorem Frame.of_slewAxis (s : State) (a : Nat) : Frame { cal := true } s (s.slewAxis a) := Frame.refl.slewAxis a rfl

theorem State.axisIs_slewAxis (s : State) (a : Nat) : (s.slewAxis a).axisIs a = s.axisIs a := by
  have hf := Frame.of_slewAxis s a
  have hdrive : SameDrive s (s.slewAxis a) :=
    ⟨hf.cfg.resolve_left (by decide), hf.ident.resolve_left (by decide), Keep.refl.slewAxis a (by decide)⟩
  rw [State.axisIs, State.axisIs, hdrive.axisRec, State.powered, State.powered, hf.sys.resolve_left (by decide)]

/-- A sample in its window shows the currents measured, and ends the predictions. -/
def State.showSample (s : State) (a : Nat) (m : CurrentSample) : State :=
  ((s.modAxis a fun x => { x with predicted := 0 }).setFs (MOT_a_IDQ_ID_MA a) m.idMa).setFs (MOT_a_IDQ_IQ_MA a) m.iqMa

theorem State.takeSample_window {m : CurrentSample} (hm : m.window = true) : s.takeSample a m = s.showSample a m := if_pos hm

/-- The end of a period: how long the estimates have agreed, the draw and the power limit's flag. -/
def State.endPeriod (s : State) (a : Nat) (m : CurrentSample) : State :=
  let z := s.modAxis a fun x => { x with agreeAt := if m.agree then some (x.agreeAt.getD s.now) else none }
  (z.setFs (MOT_a_SHARE_DRAW_W a) m.drawW).setFb (MOT_a_STATUS_PLIM a)
    (decide ((z.fs (MOT_a_SPEED_RPM a)).natAbs < (z.axis a).target.natAbs) &&
      decide (((min (z.f (MOT_a_SHARE_SHARE_W a)) (z.axisRec a).pwrW : Nat) : Int) ≤ m.drawW))

theorem exec_currentControlPeriod (t : Nat) {m : CurrentSample} (h : s.axisIs a = true) (hon : s.fb (MOT_a_STATUS_RUNNING a) = true)
    (hm : m.window = true) :
    exec (.currentControlPeriod t a m) s = .next (((((s.at t).slewAxis a).showSample a m).fieldWeaken a m.vMv).endPeriod a m) := by
  obtain ⟨ha, -⟩ := State.axisIs_imp h
  have hon' : ((s.at t).slewAxis a).fb (MOT_a_STATUS_RUNNING a) = true :=
    (((Keep.at_axis s t ha (o := rMOT_a_STATUS a) (Nat.add_le_add_right (by decide) _)).slewAxis a
      (by simp only [rMOT_a_STATUS]; omega)).fb _).trans hon
  rw [← State.takeSample_window hm]
  exact congrArg Host.Outcome.next (if_pos (by simp [State.axisIs_slewAxis, h, hon']))

theorem State.showSample_f (s : State) (a : Nat) (m : CurrentSample) :
    (s.showSample a m).f (MOT_a_IDQ_ID_MA a) = wrap 16 m.idMa ∧ (s.showSample a m).f (MOT_a_IDQ_IQ_MA a) = wrap 16 m.iqMa := by
  refine ⟨?_, State.f_setFs_same _ (MOT_a_IDQ_IQ_MA a) _ (Nat.le_of_ble_eq_true rfl)⟩
  exact (State.f_setF_other _ (MOT_a_IDQ_IQ_MA a) (MOT_a_IDQ_ID_MA a) _ (.inr (.inr (Nat.le_of_ble_eq_true rfl)))).trans
    (State.f_setFs_same _ (MOT_a_IDQ_ID_MA a) _ (Nat.le_of_ble_eq_true rfl))

theorem State.showSample_predicted (s : State) (a : Nat) (m : CurrentSample) : ((s.showSample a m).axis a).predicted = 0 := by
  simp [State.showSample]

/-- Field weakening moves the i_d reference and shows it in MOT_a_STATUS. -/
theorem Keep.fieldWeaken {o : Nat} {s₀ : State} (h : Keep o s₀ s) (a vMv : Nat) (e : o ≠ rMOT_a_STATUS a) :
    Keep o s₀ (s.fieldWeaken a vMv) :=
  (h.modAxis _ _).setFb (MOT_a_STATUS_FW a) _ e

theorem State.fieldWeaken_predicted (s : State) (a vMv : Nat) : ((s.fieldWeaken a vMv).axis a).predicted = (s.axis a).predicted := by
  simp [State.fieldWeaken]

theorem Keep.endPeriod {o : Nat} {s₀ : State} (h : Keep o s₀ s) (a : Nat) (m : CurrentSample) (e : o ≠ rMOT_a_STATUS a)
    (e' : o ≠ rMOT_a_SHARE a) : Keep o s₀ (s.endPeriod a m) :=
  ((h.modAxis _ _).setFs (MOT_a_SHARE_DRAW_W a) _ e').setFb (MOT_a_STATUS_PLIM a) _ e

theorem State.endPeriod_draw (s : State) (a : Nat) (m : CurrentSample) :
    (s.endPeriod a m).f (MOT_a_SHARE_DRAW_W a) = wrap 16 m.drawW := by
  rw [State.endPeriod, State.setFb, State.f_setF_other _ _ _ _ (.inl (by simp [MOT_a_SHARE_DRAW_W, MOT_a_STATUS_PLIM])),
    State.f_setFs_same _ (MOT_a_SHARE_DRAW_W a) _ (Nat.le_of_ble_eq_true rfl)]
  rfl

theorem State.endPeriod_predicted (s : State) (a : Nat) (m : CurrentSample) :
    ((s.endPeriod a m).axis a).predicted = (s.axis a).predicted := by
  simp [State.endPeriod]

theorem currentControlPeriod_shows (t : Nat) {m : CurrentSample} (h : s.axisIs a = true) (hon : s.fb (MOT_a_STATUS_RUNNING a) = true)
    (hm : m.window = true) :
    ∃ s', exec (.currentControlPeriod t a m) s = .next s' ∧ s'.f (MOT_a_IDQ_ID_MA a) = wrap 16 m.idMa ∧
      s'.f (MOT_a_IDQ_IQ_MA a) = wrap 16 m.iqMa ∧ s'.f (MOT_a_SHARE_DRAW_W a) = wrap 16 m.drawW ∧ (s'.axis a).predicted = 0 := by
  let z := ((s.at t).slewAxis a).showSample a m
  have hidq : Keep (rMOT_a_IDQ a) z ((z.fieldWeaken a m.vMv).endPeriod a m) :=
    (Keep.refl.fieldWeaken a m.vMv (by simp [rMOT_a_IDQ, rMOT_a_STATUS])).endPeriod a m (by simp [rMOT_a_IDQ, rMOT_a_STATUS])
      (by simp [rMOT_a_IDQ, rMOT_a_SHARE])
  obtain ⟨hid, hiq⟩ := ((s.at t).slewAxis a).showSample_f a m
  refine ⟨_, exec_currentControlPeriod t h hon hm, (hidq.f _).trans hid, (hidq.f _).trans hiq, State.endPeriod_draw .., ?_⟩
  rw [State.endPeriod_predicted, State.fieldWeaken_predicted, State.showSample_predicted]

/-! ### The speed at its command (R375) -/

@[simp] theorem State.emitSrc_axis (s : State) (src b : Nat) : (s.emitSrc src).axis b = s.axis b := rfl

/-- MOT_a_STATUS shows the speed at its command, and the source is emitted. -/
def State.announceSpeed (s : State) (a : Nat) : State :=
  ((s.setF (MOT_a_STATUS_AT_SPEED a) 1).modAxis a fun x => { x with emitted := true }).emitSrc (0x70 + a)

theorem exec_atSpeed {x : Nat} (t : Nat) (h : s.axisIs a = true) (hx : (s.axis a).speedAt = some x) (hdue : x + ms 10 ≤ max s.now t)
    (hst : (s.axis a).st = .running) (htq : (s.axis a).torque = false) (hnew : (s.axis a).emitted = false) :
    exec (.atSpeed t a) s = .next ((s.at t).announceSpeed a) := by
  show execAtSpeed t a s = _
  simp only [execAtSpeed, State.at_axis, hx]
  exact congrArg Host.Outcome.next (if_pos (by simpa [h, hst, htq, hnew] using hdue))

theorem atSpeed_announces {x : Nat} (t : Nat) (h : s.axisIs a = true) (hx : (s.axis a).speedAt = some x) (hdue : x + ms 10 ≤ max s.now t)
    (hst : (s.axis a).st = .running) (htq : (s.axis a).torque = false) (hnew : (s.axis a).emitted = false) :
    ∃ s', exec (.atSpeed t a) s = .next s' ∧ s'.fb (MOT_a_STATUS_AT_SPEED a) = true ∧ (s'.axis a).emitted = true ∧
      s.Emitted s' (0x70 + a) := by
  have hflag : Keep (rMOT_a_STATUS a) ((s.at t).setF (MOT_a_STATUS_AT_SPEED a) 1) ((s.at t).announceSpeed a) := rfl
  refine ⟨_, exec_atSpeed t h hx hdue hst htq hnew, ?_, ?_, ?_⟩
  · rw [hflag.fb _, State.fb_setF_same _ (MOT_a_STATUS_AT_SPEED a) 1 (Nat.le_of_ble_eq_true rfl)]
    rfl
  · rw [State.announceSpeed, State.emitSrc_axis, State.modAxis_axis, if_pos rfl]
  · exact .of_emitSrc _ (((Grow.refl.at t).setF _ _).modAxis _ _) .refl

/-! ### The command pin (R372, R373) -/

/-- What one step of a fold brings about holds at its end, when every step keeps it, and what it rests on. -/
theorem foldl_reaches_within {α β : Type} {f : β → α → β} {inv p : β → Prop} {l : List α} {x : α} {b : β} (hx : x ∈ l) (hb : inv b)
    (hinv : ∀ z y, inv z → inv (f z y)) (hset : ∀ z, inv z → p (f z x)) (hkeep : ∀ z y, p z → p (f z y)) : p (l.foldl f b) := by
  obtain ⟨l₁, l₂, rfl⟩ := List.append_of_mem hx
  rw [List.foldl_append, List.foldl_cons]
  have hbefore : inv (l₁.foldl f b) := List.foldlRecOn l₁ f hb fun z hz y _ => hinv z y hz
  exact List.foldlRecOn l₂ f (hset _ hbefore) fun z hz y _ => hkeep z y hz

/-- The axes that follow the command pin. -/
def State.pinAxes (s : State) : List Nat := [0, 1, 2, 3].filter fun a => s.axisIs a && (s.axisRec a).cmdsrc == 1

theorem State.mem_pinAxes (h : s.axisIs a = true) (hc : (s.axisRec a).cmdsrc = 1) : a ∈ s.pinAxes := by
  obtain ⟨ha, -⟩ := State.axisIs_imp h
  have hmem : a ∈ [0, 1, 2, 3] := by simp; omega
  exact List.mem_filter.2 ⟨hmem, by simp [h, hc]⟩

theorem State.pinAxes_at (s : State) (t : Nat) : (s.at t).pinAxes = s.pinAxes := by
  simp only [State.pinAxes, State.axisIs_at, (SameDrive.at s t).axisRec]

/-- An axis that follows the lost pin decelerates, and says so. -/
def State.losePin (s : State) (a : Nat) : State := (s.stopAxis a).raiseMot a kMOT_CMD_LOST (a + 4 * (s.axisRec a).cmdmode)

/-- An axis that follows the pin starts again, unless a fault or Dusk holds it. -/
def State.regainPin (s : State) (a : Nat) : State := if (s.axis a).fault || s.duskHolds a then s else s.startAxis a

theorem cmdPin_ne_status (a : Nat) : rMOT_CMDPIN ≠ rMOT_a_STATUS a := by
  simp only [rMOT_CMDPIN, rMOT_a_STATUS]
  omega

theorem State.losePin_run (s : State) (a b : Nat) (h : (s.axis a).run = false ∨ b = a) : ((s.losePin b).axis a).run = false := by
  rw [State.losePin, State.raiseMot_axis]
  by_cases hb : a = b
  · rw [hb, State.stopAxis_run]
  · rw [State.stopAxis_axis_other _ hb]
    exact h.resolve_right (Ne.symm hb)

theorem exec_motCmdLost (t : Nat) (h : s.axisIs a = true) (hc : (s.axisRec a).cmdsrc = 1) (hlost : s.fb MOT_CMDPIN_LOST = false) :
    exec (.motCmdLost t) s = .next (s.pinAxes.foldl State.losePin ((s.at t).setF MOT_CMDPIN_LOST 1)) := by
  have hne : s.pinAxes.isEmpty = false := List.isEmpty_eq_false_iff.2 (List.ne_nil_of_mem (State.mem_pinAxes h hc))
  rw [← State.pinAxes_at s t] at hne ⊢
  refine congrArg Host.Outcome.next (if_neg ?_)
  show ¬((s.at t).pinAxes.isEmpty || (s.at t).fb MOT_CMDPIN_LOST) = true
  rw [hne, State.fb_at s t MOT_CMDPIN_LOST, hlost]
  decide

theorem motCmdLost_stops (t : Nat) (h : s.axisIs a = true) (hc : (s.axisRec a).cmdsrc = 1) (hlost : s.fb MOT_CMDPIN_LOST = false) :
    ∃ s', exec (.motCmdLost t) s = .next s' ∧ s'.fb MOT_CMDPIN_LOST = true ∧ (s'.axis a).run = false ∧
      s.Reported s' kMOT_CMD_LOST (a + 4 * (s.axisRec a).cmdmode) := by
  let z := (s.at t).setF MOT_CMDPIN_LOST 1
  have hmem := State.mem_pinAxes h hc
  have hpin : Keep rMOT_CMDPIN z (s.pinAxes.foldl State.losePin z) :=
    Keep.refl.foldl fun _ b _ k => (k.stopAxis_of_ne b (cmdPin_ne_status b)).raiseMot _ _ _
  have hz : SameDrive s z := (SameDrive.at s t).trans ⟨rfl, rfl, Steady.refl.setF _ _⟩
  refine ⟨_, exec_motCmdLost t h hc hlost, ?_, ?_, ?_⟩
  · rw [hpin.fb _, State.fb_setF_same _ MOT_CMDPIN_LOST]
    rfl
  · exact foldl_reaches (p := fun y : State => (y.axis a).run = false) z hmem (fun y => y.losePin_run a a (.inr rfl))
      fun y b hy => y.losePin_run a b (.inl hy)
  · refine foldl_reaches_within (inv := fun y => Grow s y ∧ SameDrive s y) (p := fun y => s.Reported y _ _) hmem
      ⟨(Grow.refl.at t).setF _ _, hz⟩ ?_ ?_ ?_
    · exact fun y b ⟨hg, hd⟩ => ⟨(hg.stopAxis b).raiseMot _ _ _, (hd.trans (.stopAxis y b)).trans (.raiseMot _ _ _ _)⟩
    · intro y ⟨hg, hd⟩
      rw [State.losePin, hd.axisRec]
      exact .of_raised (hg.stopAxis a) (.raiseAs rfl 0 a kMOT_CMD_LOST _ false) .refl
    · exact fun y b hy => hy.right ((Grow.refl.stopAxis b).raiseMot _ _ _)

/-- What lets a pin axis restart: the engine lets it start, and neither a fault nor Dusk holds it. -/
structure State.PinReady (s : State) (a : Nat) : Prop extends s.AxisMayStart a where
  fault : (s.axis a).fault = false
  dusk : s.duskHolds a = false

theorem State.PinReady.regainPin (h : s.PinReady a) (b : Nat) : (s.regainPin b).PinReady a := by
  have hd := SameDrive.startAxis s b
  unfold State.regainPin
  split
  · exact h
  · by_cases hb : a = b
    · subst hb
      exact { role := by rw [hd.axisRec]; exact h.role, allowed := hd.motorsAllowed.trans h.allowed,
              offset := (s.startAxis_offsetBad a).trans h.offset, fault := State.startAxis_fault h.fault,
              dusk := (hd.duskHolds a).trans h.dusk }
    · have haxis := s.startAxis_axis_other hb
      exact { role := by rw [hd.axisRec]; exact h.role, allowed := hd.motorsAllowed.trans h.allowed,
              offset := by rw [haxis, h.offset], fault := by rw [haxis, h.fault], dusk := (hd.duskHolds a).trans h.dusk }

theorem State.PinReady.regainPin_run (h : s.PinReady a) : ((s.regainPin a).axis a).run = true := by
  rw [State.regainPin, if_neg (by rw [h.fault, h.dusk]; decide)]
  exact State.startAxis_run h.toAxisMayStart

/-- A start never takes back a command to run. -/
theorem State.startAxis_keepsRun (b : Nat) (h : (s.axis a).run = true) : ((s.startAxis b).axis a).run = true := by
  by_cases hb : a = b
  · subst hb
    unfold State.startAxis
    split
    · exact h
    · split <;> simp
  · rw [s.startAxis_axis_other hb, h]

theorem exec_motCmdRestored (t : Nat) (hlost : s.fb MOT_CMDPIN_LOST = true) (hon : s.mot.pinOn = true) :
    exec (.motCmdRestored t) s = .next (s.pinAxes.foldl State.regainPin ((s.at t).setF MOT_CMDPIN_LOST 0)) := by
  rw [← State.pinAxes_at s t]
  exact congrArg Host.Outcome.next (if_pos (by rw [State.fb_at s t MOT_CMDPIN_LOST, hlost, State.at_mot, hon]; rfl))

theorem motCmdRestored_restarts (t : Nat) (h : s.axisIs a = true) (hc : (s.axisRec a).cmdsrc = 1) (hlost : s.fb MOT_CMDPIN_LOST = true)
    (hon : s.mot.pinOn = true) (hready : s.PinReady a) :
    ∃ s', exec (.motCmdRestored t) s = .next s' ∧ s'.fb MOT_CMDPIN_LOST = false ∧ (s'.axis a).run = true := by
  let z := (s.at t).setF MOT_CMDPIN_LOST 0
  have hz : SameDrive s z := (SameDrive.at s t).trans ⟨rfl, rfl, Steady.refl.setF _ _⟩
  have haxis : z.axis a = s.axis a := State.at_axis ..
  have hready' : z.PinReady a :=
    { role := by rw [hz.axisRec]; exact hready.role, allowed := hz.motorsAllowed.trans hready.allowed,
      offset := by rw [haxis, hready.offset], fault := by rw [haxis, hready.fault], dusk := (hz.duskHolds a).trans hready.dusk }
  have hpin : Keep rMOT_CMDPIN z (s.pinAxes.foldl State.regainPin z) :=
    Keep.refl.foldl fun _ b _ k => .ite k (k.startAxis_of_ne b (cmdPin_ne_status b))
  refine ⟨_, exec_motCmdRestored t hlost hon, ?_, ?_⟩
  · rw [hpin.fb _, State.fb_setF_same _ MOT_CMDPIN_LOST]
    rfl
  · exact foldl_reaches_within (inv := fun y => y.PinReady a) (p := fun y : State => (y.axis a).run = true) (State.mem_pinAxes h hc) hready'
      (fun y b hy => hy.regainPin b) (fun y hy => hy.regainPin_run)
      fun y b hy => ite_keeps (fun w => (w.axis a).run) hy (State.startAxis_keepsRun b hy)

/-- Settles O30: the start sequence and the stops by what a start and a stop leave of the axis, the trips by the one trip of an axis,
and the running axis by what each step shows and keeps. -/
theorem motorAxes : Obligations.MotorAxes := by
  refine ⟨?_, ?_, ?_, ?_, ?_, ?_, ?_, ?_, ?_, ?_, ?_, ?_, ?_, ?_, ?_⟩
  · intro s t a v hw ha hd hc
    exact ⟨fun hv hrole hallowed hoffset hst => motorRun_starts t hw ha hd hc hv ⟨hrole, hallowed, hoffset⟩ hst,
      fun hv hst => motorStop_decelerates t hw ha hd hc hv hst, fun hv hst hst' => motorStop_ends t hw ha hd hc hv hst hst'⟩
  · intro s t a rpm pin h hd hc hst
    exact speedLoopUpdate_follows t rpm pin h hd hc hst
  · intro s t a m h hon hm
    exact currentControlPeriod_shows t h hon hm
  · intro s t a h hc
    exact ⟨fun hlost => motCmdLost_stops t h hc hlost, fun hlost hon hfault hd hallowed hoffset =>
      motCmdRestored_restarts t h hc hlost hon ⟨⟨(State.axisIs_imp h).2, hallowed, hoffset⟩, hfault, hd⟩⟩
  · intro s t a x h hx hdue hst htq hnew
    exact atSpeed_announces t h hx hdue hst htq hnew
  · intro s t a amp h hst
    exact ⟨catchCheckComplete_nothing t amp h hst, fun hturns hlink => catchCheckComplete_catches t h hst hturns hlink,
      fun hturns hlink => catchCheckComplete_givesUp t h hst hturns hlink⟩
  · intro s t a rpm h hst
    exact catchLock_runs t rpm h hst
  · intro s t a h hst hrun hend
    exact catchOverRetry_checks t h hst hrun hend
  · intro s t a p h hst
    obtain ⟨s', hexec, htrip⟩ := openPhaseCheckComplete_trips t p h hst
    exact ⟨openPhaseCheckComplete_passes t h hst, s', hexec, htrip.st, htrip.fault, htrip.flag, htrip.raised⟩
  · intro s t a rs ld lq h hst
    exact modelIdentificationComplete_shows t rs ld lq h hst
  · intro s t a weak h hst
    exact initialPositionFound_runs t weak h hst
  · intro s t a x h hx hdue hest hfast
    exact estimatorHandover_hands t h hx hdue hest hfast
  · intro s t a x p1 p2 h h1 h2 hon
    obtain ⟨s', hexec, htrip⟩ := openPhase_trips t h h1 h2 hon
    exact ⟨s', hexec, htrip.st, htrip.fault, htrip.gates, htrip.flag, htrip.raised⟩
  · intro s t a x h hx hdue
    obtain ⟨s', hexec, htrip⟩ := stall_trips t h hx hdue
    exact ⟨s', hexec, htrip.st, htrip.fault, htrip.gates, htrip.flag, htrip.raised⟩
  · intro s t a x h hst
    obtain ⟨s', hexec, htrip⟩ := overcurrentTrip_trips t x h hst
    exact ⟨⟨s', hexec, htrip.st, htrip.fault, htrip.gates, htrip.flag, htrip.raised⟩, gateDriverFeedbackFault_raises t x h hst⟩

end Sys2Proof.Machine
end

section
/-!
SUPPORT. Boundary scan, the service instructions and the service Ethernet (R407, R489 to R492): when a service instruction acts,
the load buffer after a word, and the bytes that the register-read service answers.
-/
namespace Sys2Proof.Machine

/-! ### Bytes of a number and of a byte memory -/

theorem byteAt_toLe {n i : Nat} (v : Nat) (h : i < n) : byteAt (toLe n v) i = v / 256 ^ i % 256 := by
  induction n generalizing v i with
  | zero => omega
  | succ n ih =>
    cases i with
    | zero => simp [byteAt, toLe]
    | succ i =>
      have hrest : byteAt (toLe (n + 1) v) (i + 1) = byteAt (toLe n (v / 256)) i := by simp [byteAt, toLe]
      rw [hrest, ih _ (by omega), Nat.div_div_eq_div_mul, Nat.pow_succ']

/-- Little-endian byte `i` of a number as a byte of memory. -/
theorem ofNat_byteAt_toLe {n i : Nat} (v : Nat) (h : i < n) : BitVec.ofNat 8 (byteAt (toLe n v) i) = BitVec.ofNat 8 (v / 2 ^ (8 * i)) := by
  apply BitVec.eq_of_toNat_eq
  rw [byteAt_toLe v h, Nat.pow_mul, BitVec.toNat_ofNat, BitVec.toNat_ofNat]
  exact Nat.mod_mod _ 256

/-- A read of one byte after a write of several. -/
theorem Mem.get_putBytes (d : Nat → Byte) (bs : List Nat) (a : Nat) (m : List Host.Cell) (x : Nat) :
    Sparse.get d (Mem.putBytes d a bs m) x =
      if a ≤ x ∧ x < a + bs.length then BitVec.ofNat 8 (byteAt bs (x - a)) else Sparse.get d m x := by
  split
  · next h =>
    induction bs generalizing a m with
    | nil => simp at h; omega
    | cons b r ih =>
      rw [List.length_cons] at h
      rw [Mem.putBytes]
      by_cases hx : x = a
      · rw [hx, Mem.get_putBytes_other d r _ _ _ (.inl (by omega)), Sparse.get_put_same]
        simp [byteAt]
      · obtain ⟨k, rfl⟩ : ∃ k, x = a + 1 + k := ⟨x - (a + 1), by omega⟩
        rw [ih _ _ (by omega), Nat.add_sub_cancel_left, Nat.add_assoc, Nat.add_sub_cancel_left, Nat.add_comm 1 k]
        rfl
  · next h => exact Mem.get_putBytes_other d bs a m x (by omega)

theorem Mem.length_getBytes (d : Nat → Byte) (m : List Host.Cell) (a n : Nat) : (Mem.getBytes d m a n).length = n := by
  induction n generalizing a with
  | zero => rfl
  | succ n ih => rw [Mem.getBytes, List.length_cons, ih]

theorem State.length_localBytes (s : State) (mem a n : Nat) : (s.localBytes mem a n).length = n := by
  unfold State.localBytes
  split
  · split
    · exact Mem.length_getBytes ..
    · exact List.length_replicate
  · exact Mem.length_getBytes ..

/-! ### An instruction is selected (R489) -/

/-- An instruction stands in the TAP. -/
def State.tapSelect (s : State) (ir : Nat) : State := { s with svc := { s.svc with tapIr := ir } }

@[simp] theorem State.tapSelect_svc (s : State) (ir : Nat) : (s.tapSelect ir).svc = { s.svc with tapIr := ir } := rfl
@[simp] theorem State.tapSelect_regs (s : State) (ir : Nat) : (s.tapSelect ir).regs = s.regs := rfl
@[simp] theorem State.tapSelect_out (s : State) (ir : Nat) : (s.tapSelect ir).out = s.out := rfl
@[simp] theorem State.tapSelect_nv (s : State) (ir : Nat) : (s.tapSelect ir).nv = s.nv := rfl
@[simp] theorem State.tapSelect_serviceOk (s : State) (ir : Nat) : (s.tapSelect ir).serviceOk = s.serviceOk := rfl

@[simp] theorem State.fwState_svc (s : State) (c : Nat) : (s.fwState c).svc = { s.svc with fwStatus := c } := rfl
@[simp] theorem State.fwState_nv (s : State) (c : Nat) : (s.fwState c).nv = s.nv := rfl

@[simp] theorem State.serviceOk_at (s : State) (t : Nat) : (s.at t).serviceOk = s.serviceOk := by
  simp only [State.serviceOk, State.at_sys, State.st_at, State.nvOk_at]

@[simp] theorem State.ipAddr_at (s : State) (t : Nat) : (s.at t).ipAddr = s.ipAddr := by
  simp only [State.ipAddr, State.fb_at s t RING_STATUS_POS_VALID, State.eid_at]

theorem State.tap_of_powered {s : State} (t ir : Nat) (g : State → State) (hon : s.powered = true) :
    (s.at t).tap ir g = g ((s.at t).tapSelect ir) := by
  have hup : s.sys.phase = .up := by simpa [State.powered] using hon
  exact if_pos (by rw [State.at_sys, hup]; rfl)

section
variable {s : State} (t : Nat) (hon : s.powered = true)
include hon

theorem exec_extest : exec (.extest t) s = .next ((s.at t).tapSelect 0x00) :=
  congrArg Host.Outcome.next (State.tap_of_powered t _ _ hon)

theorem exec_samplePreload : exec (.samplePreload t) s = .next ((s.at t).tapSelect 0x02) :=
  congrArg Host.Outcome.next (State.tap_of_powered t _ _ hon)

theorem exec_bypass : exec (.bypass t) s = .next ((s.at t).tapSelect 0xFF) :=
  congrArg Host.Outcome.next (State.tap_of_powered t _ _ hon)

theorem fwStatus_shifts {c : Nat} (hc : (if s.serviceOk then s.svc.fwStatus else 4) = c) :
    ∃ s', exec (.fwStatus t) s = .next s' ∧ s'.out = .tap (c * 2 ^ 24 + s.svc.fwWords) :: s.out := by
  refine ⟨_, congrArg Host.Outcome.next (State.tap_of_powered t _ _ hon), ?_⟩
  simp [hc]

end

/-! ### A service instruction acts or is refused (R407, R489) -/

theorem State.serviceOk_of_state {s : State} (hon : s.powered = true) (hst : s.st = NIGHT ∨ s.st = MIDNIGHT) (hnv : s.nvOk = true) :
    s.serviceOk = true := by
  have hup : (s.sys.phase == .up) = true := hon
  rcases hst with hst | hst <;> simp [State.serviceOk, hup, hst, hnv]

theorem State.serviceOk_eq_false {s : State} (h : (s.st ≠ NIGHT ∧ s.st ≠ MIDNIGHT) ∨ s.nvOk = false) : s.serviceOk = false := by
  rcases h with ⟨hnight, hmidnight⟩ | hnv
  · simp [State.serviceOk, hnight, hmidnight]
  · simp [State.serviceOk, hnv]

section
variable {s : State} (t ir : Nat) (g : State → State) (hon : s.powered = true) (hidle : s.svc.fwStatus ≠ 1)
include hon hidle

theorem State.tap_serviceAct :
    (s.at t).tap ir (fun s => s.serviceAct g) =
      if s.serviceOk then g ((s.at t).tapSelect ir) else ((s.at t).tapSelect ir).fwState 4 := by
  rw [State.tap_of_powered t ir _ hon, State.serviceAct, if_neg (by simpa using hidle)]
  simp

theorem State.tap_acts (hok : s.serviceOk = true) :
    (s.at t).tap ir (fun s => s.serviceAct g) = g ((s.at t).tapSelect ir) := by
  rw [State.tap_serviceAct t ir g hon hidle, if_pos hok]

theorem State.tap_refused (hok : s.serviceOk = false) :
    (s.at t).tap ir (fun s => s.serviceAct g) = ((s.at t).tapSelect ir).fwState 4 := by
  rw [State.tap_serviceAct t ir g hon hidle, if_neg (by simp [hok])]

end

/-- What a refusal leaves: status 4, the load buffer and NV flash as they were. -/
theorem State.fwState_refused (s : State) (t ir : Nat) :
    (((s.at t).tapSelect ir).fwState 4).svc.fwStatus = 4 ∧ (((s.at t).tapSelect ir).fwState 4).svc.fwBuf = s.svc.fwBuf ∧
    (((s.at t).tapSelect ir).fwState 4).nv = s.nv := by
  simp

section
variable {s : State} (t w : Nat) (hon : s.powered = true) (hidle : s.svc.fwStatus ≠ 1)
include hon hidle

theorem fwLoad_fills {off : Nat} (hok : s.serviceOk = true) (hoff : w / 2 ^ 32 % 2 ^ 32 = off) (halign : off % 4 = 0) (hlt : off < 2 ^ 26) :
    ∃ s', exec (.fwLoad t w) s = .next s' ∧ s'.svc.fwStatus = 2 ∧ s'.svc.fwWords = min (2 ^ 24 - 1) (s.svc.fwWords + 1) ∧
      ∀ b, Sparse.get (fun _ => 0) s'.svc.fwBuf b =
        if off ≤ b ∧ b < off + 4 then BitVec.ofNat 8 (w / 2 ^ (8 * (b - off))) else Sparse.get (fun _ => 0) s.svc.fwBuf b := by
  subst hoff
  refine ⟨_, congrArg Host.Outcome.next ((State.tap_acts t _ _ hon hidle hok).trans (if_pos ?_)), rfl, ?_, fun b => ?_⟩
  · simp only [halign, hlt, decide_true, Bool.and_true]
  · simp only [State.fwState_svc, State.tapSelect_svc, State.at_svc, sat_eq_min]
  · simp only [State.fwState_svc, State.tapSelect_svc, State.at_svc, Mem.get_putBytes, length_toLe]
    split
    · next hb => rw [ofNat_byteAt_toLe w (by omega)]
    · rfl

theorem fwCommit_begins (hok : s.serviceOk = true) :
    ∃ s', exec (.fwCommit t w) s = .next s' ∧ s'.svc.fwStatus = 1 ∧ s'.svc.fwSlot = w % 2 ∧ s'.svc.fwBuf = s.svc.fwBuf :=
  ⟨_, congrArg Host.Outcome.next (State.tap_acts t _ _ hon hidle hok), rfl, rfl, by simp⟩

theorem lockClear_erases (hok : s.serviceOk = true) (hw : w % 2 ^ 32 = 0x4C4B434C) :
    ∃ s', exec (.lockClear t w) s = .next s' ∧ s'.nv = { s.nv with key := none, layoutLock := false } ∧ s'.svc.fwStatus = 2 := by
  refine ⟨_, congrArg Host.Outcome.next ((State.tap_acts t _ _ hon hidle hok).trans (if_pos hw)), ?_, rfl⟩
  simp

theorem lockClear_keeps (hok : s.serviceOk = true) (hw : w % 2 ^ 32 ≠ 0x4C4B434C) :
    ∃ s', exec (.lockClear t w) s = .next s' ∧ s'.nv = s.nv ∧ s'.svc.fwStatus = s.svc.fwStatus := by
  refine ⟨_, congrArg Host.Outcome.next ((State.tap_acts t _ _ hon hidle hok).trans (if_neg hw)), ?_, ?_⟩ <;> simp

end

/-- A FW_COMMIT ends: the buffer stands in the slot named and is clear (R490). -/
theorem fwCommitComplete_writes {s : State} (t : Nat) (good : Bool) (hbusy : s.svc.fwStatus = 1) :
    ∃ s', exec (.fwCommitComplete t good) s = .next s' ∧ s'.svc.fwStatus = (if good then 2 else 3) ∧ s'.svc.fwBuf = [] ∧ s'.svc.fwWords = 0 ∧
      (if s.svc.fwSlot = 0 then s'.nv.fwA = { words := s.svc.fwWords, bytes := s.svc.fwBuf } ∧ s'.nv.fwB = s.nv.fwB
        else s'.nv.fwB = { words := s.svc.fwWords, bytes := s.svc.fwBuf } ∧ s'.nv.fwA = s.nv.fwA) := by
  refine ⟨_, congrArg Host.Outcome.next (if_pos (by simpa using hbusy)), rfl, rfl, rfl, ?_⟩
  by_cases hslot : s.svc.fwSlot = 0 <;> simp [hslot]

/-! ### The service Ethernet (R491, R492) -/

section
variable {s : State} (t src port : Nat) {data : List Nat}

theorem exec_arpRequest_other {a : Nat} (h : a ≠ s.ipAddr) : exec (.arpRequest t a) s = .next (s.at t) :=
  congrArg Host.Outcome.next (if_neg (by simp [h]))

theorem exec_icmpEcho_long (h : 1472 < data.length) : exec (.icmpEcho t src data) s = .next (s.at t) :=
  congrArg Host.Outcome.next (if_neg (by simp [h]))

theorem State.length_peek (s : State) (off : Nat) : (s.peek off).length = 4 := by
  unfold State.peek
  split
  · rfl
  split
  · exact length_toLe ..
  split
  · exact State.length_localBytes ..
  split
  · simp
  split
  · split
    · exact Mem.length_getBytes ..
    · rfl
  split
  · simp
  split
  · exact length_toLe ..
  · rfl

/-- Outside the memories and structures that BAR0 shows besides its registers, the service sees the register's word. -/
theorem State.peek_register {off : Nat} (hboot : s.sys.bootDone = true) (hst : s.st ≠ MIDNIGHT) (hreg : (regRow? off).isSome = true)
    (hstaging : isStaging off = false) (hwindow : inWindow off = false) (halias : isAlias off = false) (hmsix : isMsix off = false) :
    s.peek off = toLe 4 (s.regWord off).toNat := by
  simp [State.peek, hboot, hst, hreg, hstaging, hwindow, halias, hmsix]

/-- The data that answers a request for `n` words from an offset. -/
def State.peeked (s : State) (off n : Nat) : List Nat := (List.range n).flatMap fun i => s.peek (off + 4 * i)

theorem State.length_peeked (s : State) (off n : Nat) : (s.peeked off n).length = 4 * n := by
  simp [State.peeked, List.length_flatMap, State.length_peek, Nat.mul_comm]

theorem State.peeked_one (s : State) (off : Nat) : s.peeked off 1 = s.peek off := by
  simp [State.peeked]

/-- A request of the register-read service that is answered with data: 1 to 256 words, aligned, inside BAR0 (R492). -/
structure ReadRequest (off n : Nat) : Prop where
  aligned : off % 4 = 0
  nonempty : 1 ≤ n
  most : n ≤ 256
  inside : off + 4 * n ≤ 2 ^ 24

variable (hon : s.powered = true) (hlen : data.length = 8)
include hon hlen

theorem exec_registerReadService_data (h : ReadRequest (leAt data 0 4) (leAt data 4 2)) :
    exec (.registerReadService t src port data) s =
      .next ((s.at t).drawn.emit (.udp src port 19272 (data ++ (s.at t).peeked (leAt data 0 4) (leAt data 4 2)))) := by
  obtain ⟨haligned, hnonempty, hmost, hinside⟩ := h
  refine congrArg Host.Outcome.next ((if_neg ?_).trans (if_pos ?_))
  · simp [hon, hlen]
  · simp only [haligned, hnonempty, hmost, hinside, decide_true, Bool.and_true]

theorem exec_registerReadService_none (h : ¬ ReadRequest (leAt data 0 4) (leAt data 4 2)) :
    exec (.registerReadService t src port data) s =
      .next ((s.at t).emit (.udp src port 19272 (toLe 4 (leAt data 0 4) ++ [0, 0] ++ data.drop 6))) := by
  refine congrArg Host.Outcome.next ((if_neg ?_).trans (if_neg fun hreq => h ?_))
  · simp [hon, hlen]
  · simp only [Bool.and_eq_true, decide_eq_true_eq] at hreq
    obtain ⟨⟨⟨haligned, hnonempty⟩, hmost⟩, hinside⟩ := hreq
    exact ⟨haligned, hnonempty, hmost, hinside⟩

end

section
variable {s : State} (t src port : Nat) (data : List Nat) (hon : s.powered = true)
include hon

theorem arpRequest_answers : ∃ s', exec (.arpRequest t s.ipAddr) s = .next s' ∧ s'.out = .arp s.ipAddr :: s.out := by
  refine ⟨_, congrArg Host.Outcome.next (if_pos (by simp [hon])), ?_⟩
  simp

theorem icmpEcho_answers (h : data.length ≤ 1472) :
    ∃ s', exec (.icmpEcho t src data) s = .next s' ∧ s'.out = .icmp src data :: s.out := by
  refine ⟨_, congrArg Host.Outcome.next (if_pos (by simp [hon, h])), ?_⟩
  simp

/-- The service answers the request's data and leaves the registers and snapshots as they are (R492). -/
theorem registerReadService_answers (hlen : data.length = 8) (h : ReadRequest (leAt data 0 4) (leAt data 4 2)) :
    ∃ s' d, exec (.registerReadService t src port data) s = .next s' ∧ s'.out = .udp src port 19272 (data ++ d) :: s.out ∧
      d.length = 4 * leAt data 4 2 ∧ s'.regs = (s.at t).regs ∧ s'.snaps = s.snaps ∧
      (leAt data 4 2 = 1 → s.sys.bootDone = true → s.st ≠ MIDNIGHT → (regRow? (leAt data 0 4)).isSome = true →
        isStaging (leAt data 0 4) = false → inWindow (leAt data 0 4) = false → isAlias (leAt data 0 4) = false →
        isMsix (leAt data 0 4) = false → d = toLe 4 ((s.at t).regWord (leAt data 0 4)).toNat) := by
  refine ⟨_, (s.at t).peeked (leAt data 0 4) (leAt data 4 2), exec_registerReadService_data t src port hon hlen h, ?_,
    State.length_peeked .., ?_, ?_, ?_⟩
  · simp
  · simp
  · simp
  · intro hone hboot hst hreg hstaging hwindow halias hmsix
    rw [hone, State.peeked_one]
    exact State.peek_register (by rwa [State.at_sys]) (by rwa [State.st_at]) hreg hstaging hwindow halias hmsix

theorem registerReadService_refuses (hlen : data.length = 8)
    (h : leAt data 0 4 % 4 ≠ 0 ∨ leAt data 4 2 = 0 ∨ 256 < leAt data 4 2 ∨ 2 ^ 24 < leAt data 0 4 + 4 * leAt data 4 2) :
    ∃ s', exec (.registerReadService t src port data) s = .next s' ∧
      s'.out = .udp src port 19272 (toLe 4 (leAt data 0 4) ++ [0, 0] ++ data.drop 6) :: s.out := by
  refine ⟨_, exec_registerReadService_none t src port hon hlen ?_, ?_⟩
  · rintro ⟨haligned, hnonempty, hmost, hinside⟩
    omega
  · simp

end

/-- Settles O37: an instruction by its selection, a service instruction by whether it acts or is refused, the service Ethernet by
what answers each request. -/
theorem serviceAccess : Obligations.ServiceAccess := by
  refine ⟨fun s t hon => ⟨?_, ?_, ?_, ?_, ?_⟩, fun s t w hon hidle => ⟨?_, ?_, ?_, ?_, ?_⟩,
    fun s t good hbusy => fwCommitComplete_writes t good hbusy, fun s t src port data hon => ⟨?_, ?_, ?_, ?_, ?_, ?_⟩⟩
  · exact ⟨_, exec_extest t hon, by simp, by simp, by simp⟩
  · exact ⟨_, exec_samplePreload t hon, by simp, by simp, by simp⟩
  · exact ⟨_, exec_bypass t hon, by simp, by simp, by simp⟩
  · exact fun hst hnv => fwStatus_shifts t hon (if_pos (State.serviceOk_of_state hon hst hnv))
  · exact fun h => fwStatus_shifts t hon (if_neg (by simp [State.serviceOk_eq_false h]))
  · exact fun hst hnv halign hlt => fwLoad_fills t w hon hidle (State.serviceOk_of_state hon hst hnv) rfl halign hlt
  · exact fun hst hnv => fwCommit_begins t w hon hidle (State.serviceOk_of_state hon hst hnv)
  · exact fun hst hnv hw => lockClear_erases t w hon hidle (State.serviceOk_of_state hon hst hnv) hw
  · exact fun hst hnv hw => lockClear_keeps t w hon hidle (State.serviceOk_of_state hon hst hnv) hw
  · intro h
    have hrefused (ir : Nat) (g : State → State) := State.tap_refused t ir g hon hidle (State.serviceOk_eq_false h)
    obtain ⟨hloadStatus, hloadBuf, -⟩ := State.fwState_refused s t 0x41
    obtain ⟨hcommitStatus, -, hcommitNv⟩ := State.fwState_refused s t 0x42
    obtain ⟨hlockStatus, -, hlockNv⟩ := State.fwState_refused s t 0x43
    exact ⟨⟨_, congrArg Host.Outcome.next (hrefused 0x41 _), hloadStatus, hloadBuf⟩,
      ⟨_, congrArg Host.Outcome.next (hrefused 0x42 _), hcommitStatus, hcommitNv⟩,
      ⟨_, congrArg Host.Outcome.next (hrefused 0x43 _), hlockStatus, hlockNv⟩⟩
  · exact arpRequest_answers t hon
  · exact fun a h => ⟨_, exec_arpRequest_other t h, rfl⟩
  · exact fun h => icmpEcho_answers t src data hon h
  · exact fun h => ⟨_, exec_icmpEcho_long t src h, State.at_out s t⟩
  · exact fun hlen haligned hnonempty hmost hinside =>
      registerReadService_answers t src port data hon hlen ⟨haligned, hnonempty, hmost, hinside⟩
  · exact fun hlen h => registerReadService_refuses t src port data hon hlen h

end Sys2Proof.Machine
end

section
/-!
SUPPORT. What entering Dusk or Midnight leaves of the fault collector (R42, R53, R418): its queue, its entries and the alarm contact, and
the registers FLT_PEND, FLT_LAST and RING_STATUS.
-/
namespace Sys2Proof.Machine
variable {s : State}

/-! ### The collector's queue and entries, and the alarm contact -/

/-- The collector without what waits at the dies, and the alarm contact: what no other block changes (R416, R420). -/
def State.hub (s : State) : Flt × Bool := ({ s.flt with wire := [], seqs := [] }, s.svc.alarmOpen)

theorem State.hub_queue {a c : State} (h : c.hub = a.hub) : c.flt.queue = a.flt.queue := congrArg (·.1.queue) h
theorem State.hub_entries {a c : State} (h : c.hub = a.hub) : c.flt.entries = a.flt.entries := congrArg (·.1.entries) h
theorem State.hub_alarm {a c : State} (h : c.hub = a.hub) : c.svc.alarmOpen = a.svc.alarmOpen := congrArg (·.2) h

theorem State.hub_congr {a c : State} (hflt : c.flt = a.flt) (hsvc : c.svc = a.svc) : c.hub = a.hub := by
  simp only [State.hub, hflt, hsvc]

theorem Frame.hub {μ : Touch} {a c : State} (h : Frame μ a c) (hflt : μ.flt = false := by rfl) (hsvc : μ.svc = false := by rfl) :
    c.hub = a.hub := by
  exact State.hub_congr (h.flt.resolve_left (by simp [hflt])) (h.svc.resolve_left (by simp [hsvc]))

theorem State.raise_hub (s : State) (k : Kind) (a : Nat) : (s.raise k a).hub = s.hub := by
  have hflt : ({ (s.raise k a).flt with wire := [], seqs := [] } : Flt) = { s.flt with wire := [], seqs := [] } := by
    simp only [State.raise, State.raiseAs]
    split <;> rfl
  simp only [State.hub, hflt, State.raise_svc]

theorem State.driveCue_hub (s : State) (n : Nat) : (s.driveCue n).hub = s.hub := by
  have hnote : (s.noteVin n).hub = s.hub := ite_keeps State.hub (State.raise_hub ..) rfl
  rw [State.driveCue_eq]
  exact ite_keeps State.hub hnote hnote

theorem State.showCues_hub (s : State) : s.showCues.hub = s.hub := foldl_keeps State.hub _ _ fun z n _ => z.driveCue_hub n

theorem State.goTo_hub (s : State) (st c : Nat) : (s.goTo st c).hub = s.hub := State.showCues_hub _

theorem State.liveDiscard_hub (s : State) : s.liveDiscard.hub = s.hub := ite_keeps State.hub (State.raise_hub ..) rfl

/-! ### The registers that entering a state leaves -/

/-- The registers in which a fault's class acts, and that of the engine's own ID. -/
def FaultReg (o : Nat) : Prop := o = rRING_STATUS ∨ o = rFLT_PEND ∨ o = rFLT_LAST_LO ∨ o = rFLT_LAST_HI

theorem FaultReg.cases {o : Nat} (ho : FaultReg o) : o = 0x180004 ∨ o = 0x1D0004 ∨ o = 0x1D0008 ∨ o = 0x1D000C := ho

theorem FaultReg.ne_tile {o n : Nat} (ho : FaultReg o) (hn : n ∈ List.range 96) : o ≠ rTILE_n_STATUS n := by
  have hlt := List.mem_range.1 hn
  have := ho.cases
  simp only [rTILE_n_STATUS]
  omega

theorem FaultReg.ne_rail {o q : Nat} (ho : FaultReg o) (hq : q ∈ List.range 24) : o ≠ 0x1A0100 + q * 0x10 := by
  have hlt := List.mem_range.1 hq
  have := ho.cases
  omega

theorem FaultReg.ne_axis {o a : Nat} (ho : FaultReg o) (ha : a ∈ [0, 1, 2, 3]) : o ≠ rMOT_a_STATUS a := by
  have hlt : a < 4 := by simp at ha; omega
  have := ho.cases
  simp only [rMOT_a_STATUS]
  omega

theorem FaultReg.ne_state {o : Nat} (ho : FaultReg o) : o ≠ rSYS_STATE := by
  have := ho.cases
  simp only [rSYS_STATE]
  omega

/-- FIRE_n_STATUS lies at a multiple of 32 whatever the tile's number is. -/
theorem FaultReg.ne_fire {o : Nat} (ho : FaultReg o) (n : Nat) : o ≠ rFIRE_n_STATUS n := by
  have := ho.cases
  simp only [rFIRE_n_STATUS]
  omega

theorem FaultReg.ne_win {o w : Nat} (ho : FaultReg o) (hw : w ∈ List.range 16) : o ≠ 0x12010C + w * 0x20 := by
  have hlt := List.mem_range.1 hw
  have := ho.cases
  omega

theorem FaultReg.ne_cmp {o p w : Nat} (ho : FaultReg o) (hw : w ∈ List.range 16) (hp : p < 0x10) : o ≠ 0x150100 + p + w * 0x10 := by
  have hlt := List.mem_range.1 hw
  have := ho.cases
  omega

/-! ### Dusk (R53) -/

/-- The parts of the state that Dusk changes once its code stands in SYS_STATE. -/
def duskParts : Touch := { sys := true, wins := true, mot := true, cal := true }

theorem State.enterDusk_hub (s : State) (n : Bool) : (s.enterDusk 6 n).hub = s.hub := by
  unfold State.enterDusk
  lift_lets -underBinder
  intro gone sys marked still stopped
  have hmarked : Frame duskParts gone marked := (Frame.upd (sys_eq := .inl rfl) .refl).noPattern rfl
  have hstill : Frame duskParts gone still := ((hmarked.dropDefers rfl).calDrop rfl).motorsDusk rfl
  have hstopped : Frame duskParts gone stopped := hstill.stopDocs rfl
  exact (hstopped.noteSwaps rfl).hub.trans (State.goTo_hub ..)

theorem Keep.motorsDusk_of_ne {o : Nat} {s₀ : State} (h : Keep o s₀ s) (e : ∀ a ∈ [0, 1, 2, 3], o ≠ rMOT_a_STATUS a) :
    Keep o s₀ s.motorsDusk := by
  refine h.foldl fun s a ha k => ?_
  split
  · exact k.stopAxis_of_ne a (e a ha)
  · exact k.stopAxis_of_ne a (e a ha)
  · exact .modAxis (.ite k (k.startAxis_of_ne a (e a ha))) _ _
  · exact k

theorem Keep.enterDusk_stop {o : Nat} (ho : FaultReg o) (s : State) (n : Bool) : Keep o s (s.enterDusk 6 n) := by
  unfold State.enterDusk
  lift_lets -underBinder
  intro gone sys marked still stopped
  have hgone : Keep o s gone := Keep.refl.goTo _ _ ho.ne_state
  have hmarked : Keep o s marked := .noPattern (.upd hgone)
  have hstill : Keep o s still := hmarked.dropDefers.calDrop.motorsDusk_of_ne fun _ ha => ho.ne_axis ha
  have hstopped : Keep o s stopped := hstill.stopDocs
  exact hstopped.noteSwaps

/-! ### Midnight (R42, R48) -/

/-- The parts of the state besides the collector's that Midnight changes once the queued documents are dropped. -/
def midnightParts : Touch := { sys := true, fire := true, wins := true, health := true, comp := true, ports := true, pwr := true, mot := true }

theorem State.discardDocs_hub (s : State) : (s.discardDocs false).hub = s.hub := by
  simp only [State.discardDocs, Bool.false_eq_true, if_false, Bool.false_and]
  have hdocs : Frame { wins := true, comp := true, dma := true } s { s with comp := { s.comp with docs := s.comp.docs.filter (·.opened) } } :=
    .upd (comp_eq := .inl rfl) .refl
  exact ((hdocs.foldl fun _ w k => .ite k ((k.modWin w _ rfl).showQueue w)).releaseKept rfl).showComp.hub

theorem State.enterMidnight_hub (s : State) (c : Nat) : (s.enterMidnight c).hub = s.hub := by
  unfold State.enterMidnight
  lift_lets -underBinder
  intro gone dropped dark stopped closed health pwr gated sys quiet
  have hdropped : dropped.hub = s.hub := calc
    dropped.hub = (gone.liveDiscard.discardDocs false).hub := (Frame.calDrop (μ := { wins := true, cal := true }) (Frame.refl.dropDefers rfl) rfl).hub
    _ = gone.hub := (State.discardDocs_hub _).trans (State.liveDiscard_hub _)
    _ = s.hub := State.goTo_hub ..
  have hdark : Frame midnightParts dropped dark := Frame.refl.foldl fun _ n k => (k.fuseOpen n rfl).logicOff n rfl
  have hclosed : Frame midnightParts dropped closed := by
    refine ((hdark.railsOff rfl).motorsOff rfl).foldl fun z w k => ?_
    split
    · exact ((Frame.foldl (.upd (comp_eq := .inl rfl) k) fun _ n k => (k.modFire n _ rfl).setF _ 0).modWin w _ rfl).setFields _
    · exact k
  have hgated : Frame midnightParts dropped gated := .upd (health_eq := .inl rfl) (pwr_eq := .inl rfl) hclosed
  have hquiet : Frame midnightParts dropped quiet := (Frame.upd (sys_eq := .inl rfl) hgated).quietSys rfl
  exact (hquiet.updHoldup.setF SYS_STATE_RUN_PENDING 0).hub.trans hdropped

section
variable {o : Nat} {s₀ : State}

theorem Keep.releaseKept (h : Keep o s₀ s) : Keep o s₀ s.releaseKept := h
theorem Keep.quietSys (h : Keep o s₀ s) : Keep o s₀ s.quietSys := h
theorem Keep.modFire (h : Keep o s₀ s) (n : Nat) (g : FireT → FireT) : Keep o s₀ (s.modFire n g) := h

theorem Keep.railsOff (h : Keep o s₀ s) (e : ∀ q ∈ List.range 24, o ≠ 0x1A0100 + q * 0x10) : Keep o s₀ s.railsOff :=
  h.foldl fun _ q hq k => ((k.setF (PWR_q_RAIL_ON q) 0 (e q hq)).setF (PWR_q_RAIL_VPP_MV q) 0 (e q hq)).modRail _ _

theorem Keep.motorsOff (h : Keep o s₀ s) (e : ∀ a ∈ [0, 1, 2, 3], o ≠ rMOT_a_STATUS a) : Keep o s₀ s.motorsOff :=
  h.foldl fun _ a ha k => (k.axisOff a (e a ha)).modAxis _ _

variable (ho : FaultReg o)
include ho

theorem Keep.liveDiscard (h : Keep o s₀ s) : Keep o s₀ s.liveDiscard :=
  .ite ((Keep.setF (.upd h) CFG_STATUS_LIVE_PENDING 0 (by have := ho.cases; simp only [CFG_STATUS_LIVE_PENDING]; omega)).raise _ _) h

theorem Keep.showQueue (h : Keep o s₀ s) {w : Nat} (hw : w ∈ List.range 16) : Keep o s₀ (s.showQueue w) := by
  have hq := ho.ne_cmp (p := 0) hw (by decide)
  exact (((h.setF (CMP_WIN_w_Q_QUEUED w) _ hq).setF (CMP_WIN_w_Q_READY w) _ hq).setF (CMP_WIN_w_TAG_DOC_TAG w) _
    (ho.ne_cmp (p := 4) hw (by decide))).setF (CMP_WIN_w_REP_REMAIN w) _ (ho.ne_cmp (p := 8) hw (by decide))

theorem Keep.showComp (h : Keep o s₀ s) : Keep o s₀ s.showComp := by
  have e : o ≠ rCMP_STATUS := by have := ho.cases; simp only [rCMP_STATUS]; omega
  exact (h.setF CMP_STATUS_WA_FREE _ e).setF CMP_STATUS_RENDERING _ e

theorem Keep.discardDocs_unreported (h : Keep o s₀ s) : Keep o s₀ (s.discardDocs false) := by
  simp only [State.discardDocs, Bool.false_eq_true, if_false, Bool.false_and]
  exact .showComp ho (.releaseKept (.foldl (.upd h) fun _ w hw k => .ite k (.showQueue ho (k.modWin w _) hw)))

theorem Keep.enterMidnight (s : State) (c : Nat) : Keep o s (s.enterMidnight c) := by
  unfold State.enterMidnight
  lift_lets -underBinder
  intro gone dropped dark stopped closed health pwr gated sys quiet
  have hgone : Keep o s gone := Keep.refl.goTo _ _ ho.ne_state
  have hdropped : Keep o s dropped := (Keep.discardDocs_unreported ho (.liveDiscard ho hgone)).dropDefers.calDrop
  have hdark : Keep o s dark := hdropped.foldl fun _ n hn k => (k.fuseOpen (ho.ne_tile hn)).logicOff (ho.ne_tile hn)
  have hstopped : Keep o s stopped := (hdark.railsOff fun _ hq => ho.ne_rail hq).motorsOff fun _ ha => ho.ne_axis ha
  have hclosed : Keep o s closed := by
    refine hstopped.foldl fun z w hw k => ?_
    split
    · refine .setFields_cons (.setFields_cons (.setFields_nil (.setF (.setF (.modWin (.foldl (.upd k) ?_) w _) _ 0 ?_) _ 0 ?_)))
      · exact fun _ n _ k => .setF (k.modFire n _) (FIRE_n_STATUS_ACTIVE n) 0 (ho.ne_fire n)
      · exact ho.ne_win hw
      · exact ho.ne_win hw
    · exact k
  have hquiet : Keep o s quiet := .quietSys (.upd (.upd hclosed))
  have hready : o ≠ PWR_STORE_READY.off := by have := ho.cases; simp only [PWR_STORE_READY]; omega
  exact ((hquiet.setFb SYS_STATE_HOLDUP_READY _ ho.ne_state).setFb PWR_STORE_READY _ hready).setF SYS_STATE_RUN_PENDING 0 ho.ne_state

end

end Sys2Proof.Machine
end

section
/-!
SUPPORT. The class effect of a message (R418 to R420, R426): what FLT_PEND, FLT_LAST, the alarm contact and SYS_STATE show once it is
taken, and that the collector's queue and entries stay.
-/
namespace Sys2Proof.Machine
variable {s : State}

/-! ### Sending on the ring and signalling a vector write no register but the performance counters (R260, R299, R306) -/

section
variable {o : Nat} {s₀ : State} (e : isPmc o = false)
include e

theorem Keep.ringOut (h : Keep o s₀ s) (port : Nat) (p : RingPkt) : Keep o s₀ (s.ringOut port p) :=
  .ite ((h.emit _).count _ _ _ e) (.ite ((h.emit _).count _ _ _ e) h)

theorem Keep.urgOut (h : Keep o s₀ s) (port : Nat) (p : RingPkt) : Keep o s₀ (s.urgOut port p) :=
  .ite ((h.emit _).count _ _ _ e) h

theorem Keep.sendUrg (h : Keep o s₀ s) (p : RingPkt) : Keep o s₀ (s.sendUrg p) := by
  unfold State.sendUrg
  exact .urgOut e (.urgOut e (.urgOut e (.urgOut e (.upd h) _ _) _ _) _ _) _ _

theorem Keep.sendReq (h : Keep o s₀ s) (p : RingPkt) (r : RingReq) : Keep o s₀ (s.sendReq p r) := by
  unfold State.sendReq
  exact .ringOut e (.upd (.upd h)) _ _

theorem Keep.hostWrite (h : Keep o s₀ s) (addr : Nat) (bs : List Nat) : Keep o s₀ (s.hostWrite addr bs) :=
  .ite (h.foldl fun _ _ _ k => .sendReq e k _ _) (h.emit _)

theorem Keep.msix (h : Keep o s₀ s) (v : Nat) : Keep o s₀ (s.msix v) :=
  .ite (.upd h) (.ite (.hostWrite e h _ _) (h.emit _))

theorem Keep.irqNow (h : Keep o s₀ s) (m : FaultMsg) : Keep o s₀ (s.irqNow m) := .ite (.msix e h _) h

theorem Keep.sendStop (h : Keep o s₀ s) (m : FaultMsg) : Keep o s₀ (s.sendStop m) := .ite (.sendUrg e h _) h

theorem Keep.forwardMsg (h : Keep o s₀ s) (m : FaultMsg) (hring : o ≠ rFLT_DROP_RING) : Keep o s₀ (s.forwardMsg m) :=
  .ite (.ite (.addF (.upd h) FLT_DROP_RING_COUNT 1 hring) (.sendUrg e h _)) h

end

/-! ### What a class marks (R418, R420) -/

/-- The bit of FLT_PEND that shows a class. -/
def classPend (cls : Nat) : Field :=
  if cls = 0 then FLT_PEND_NOTE else if cls = 1 then FLT_PEND_DEGRADE else if cls = 2 then FLT_PEND_STOP else FLT_PEND_HALT

/-- The four bits lie below RELAY, LOG_FULL and FLOOD. -/
theorem classPend_bit (cls : Nat) : (classPend cls).off = rFLT_PEND ∧ (classPend cls).w = 1 ∧ (classPend cls).lo < 4 := by
  have hbits : ∀ fd ∈ [FLT_PEND_NOTE, FLT_PEND_DEGRADE, FLT_PEND_STOP, FLT_PEND_HALT], fd.off = rFLT_PEND ∧ fd.w = 1 ∧ fd.lo < 4 := by decide
  refine hbits _ ?_
  unfold classPend
  split_ifs <;> simp

/-- The alarm contact opens for a message with the relay flag and for a HALT. -/
def State.markAlarm (s : State) (m : FaultMsg) : State := if m.relay || m.cls = 3 then (s.setF FLT_PEND_RELAY 1).setAlarm true else s

/-- A STOP or HALT stands in FLT_LAST. -/
def State.markLast (s : State) (m : FaultMsg) : State :=
  if 2 ≤ m.cls then s.setFields [(FLT_LAST_LO_MSG, m.word), (FLT_LAST_HI_MSG, m.word / 2 ^ 32)] else s

/-- What the class of a message marks in the collector's registers. -/
def State.markClass (s : State) (m : FaultMsg) : State := ((s.setF (classPend m.cls) 1).markAlarm m).markLast m

/-- What the class of a message does to the operating state. -/
def State.actClass (s : State) (m : FaultMsg) : State :=
  if m.cls = 2 then s.stopFault.sendStop m
  else if m.cls = 3 then
    let s := { s with nv := { s.nv with haltSaved := false } }
    if s.st = MIDNIGHT then s else s.enterMidnight (if m.group = 0 && m.kind = 4 then 0x10 else 0x0B)
  else s

theorem State.classEffect_eq (s : State) (m : FaultMsg) : s.classEffect m = ((s.markClass m).actClass m).showCues := rfl

theorem State.setAlarm_regs (s : State) (op : Bool) : (s.setAlarm op).regs = s.regs := ite_keeps State.regs rfl rfl

theorem State.setAlarm_f (s : State) (op : Bool) (fd : Field) : (s.setAlarm op).f fd = s.f fd := by
  simp only [State.f, State.reg, State.setAlarm_regs]

theorem State.markAlarm_f (s : State) (m : FaultMsg) {fd : Field} (h : fd.off ≠ rFLT_PEND ∨ fd.lo + fd.w ≤ 29 ∨ 30 ≤ fd.lo) :
    (s.markAlarm m).f fd = s.f fd :=
  ite_keeps (·.f fd) ((State.setAlarm_f ..).trans (State.f_setF_other _ FLT_PEND_RELAY _ _ h)) rfl

theorem State.markLast_f (s : State) (m : FaultMsg) {fd : Field} (h : fd.off ≠ rFLT_LAST_LO) (h' : fd.off ≠ rFLT_LAST_HI) :
    (s.markLast m).f fd = s.f fd :=
  ite_keeps (·.f fd) ((State.f_setF_other _ FLT_LAST_HI_MSG _ _ (.inl h')).trans (State.f_setF_other _ FLT_LAST_LO_MSG _ _ (.inl h))) rfl

theorem State.markClass_f (s : State) (m : FaultMsg) {fd : Field} (h : fd.off ≠ rFLT_PEND ∨ 30 ≤ fd.lo) (hlo : fd.off ≠ rFLT_LAST_LO)
    (hhi : fd.off ≠ rFLT_LAST_HI) : (s.markClass m).f fd = s.f fd := by
  obtain ⟨hoff, hw, hlt⟩ := classPend_bit m.cls
  rw [State.markClass, State.markLast_f _ _ hlo hhi, State.markAlarm_f _ _ (h.imp_right .inr)]
  refine State.f_setF_other _ _ _ _ (h.imp (fun hne => hoff ▸ hne) fun hge => .inr ?_)
  omega

theorem State.markClass_flt (s : State) (m : FaultMsg) : (s.markClass m).flt = s.flt := by
  have halarm (z : State) : (z.setAlarm true).flt = z.flt := ite_keeps State.flt rfl rfl
  exact ite_keeps State.flt (ite_keeps State.flt (halarm _) rfl) (ite_keeps State.flt (halarm _) rfl)

theorem State.markClass_pend (s : State) (m : FaultMsg) : (s.markClass m).fb (classPend m.cls) = true := by
  obtain ⟨hoff, hw, hlt⟩ := classPend_bit m.cls
  have hne : (classPend m.cls).off ≠ rFLT_LAST_LO ∧ (classPend m.cls).off ≠ rFLT_LAST_HI := by rw [hoff]; decide
  have hset := State.f_setF_same s (classPend m.cls) 1 (by omega)
  rw [State.fb, State.markClass, State.markLast_f _ _ hne.1 hne.2, State.markAlarm_f _ _ (.inr (.inl (by omega))), hset, hw]
  rfl

theorem State.markClass_alarm (s : State) {m : FaultMsg} (h : m.relay = true ∨ m.cls = 3) :
    (s.markClass m).fb FLT_PEND_RELAY = true ∧ (s.markClass m).svc.alarmOpen = true := by
  have hon : (m.relay || decide (m.cls = 3)) = true := by simpa using h
  constructor
  · rw [State.fb, State.markClass, State.markLast_f _ _ (by decide) (by decide), State.markAlarm, if_pos hon, State.setAlarm_f,
      State.f_setF_same _ FLT_PEND_RELAY]
    rfl
  · rw [State.markClass, State.markAlarm, if_pos hon]
    exact ite_keeps (·.svc.alarmOpen) (State.setAlarm_alarmOpen _ _) (State.setAlarm_alarmOpen _ _)

theorem State.markClass_last (s : State) {m : FaultMsg} (h : 2 ≤ m.cls) :
    (s.markClass m).f FLT_LAST_LO_MSG = m.word % 2 ^ 32 ∧ (s.markClass m).f FLT_LAST_HI_MSG = m.word / 2 ^ 32 % 2 ^ 32 := by
  rw [State.markClass, State.markLast, if_pos h]
  exact ⟨(State.f_setF_other _ FLT_LAST_HI_MSG _ _ (.inl (by decide))).trans (State.f_setF_same _ FLT_LAST_LO_MSG _),
    State.f_setF_same _ FLT_LAST_HI_MSG _⟩

theorem State.markClass_st (s : State) (m : FaultMsg) : (s.markClass m).st = s.st :=
  s.markClass_f m (fd := SYS_STATE_STATE) (.inl (by decide)) (by decide) (by decide)

/-! ### What a class does (R418) -/

theorem State.actClass_hub (s : State) (m : FaultMsg) : (s.actClass m).hub = s.hub := by
  refine ite_keeps State.hub ?_ (ite_keeps State.hub (ite_keeps State.hub rfl (State.enterMidnight_hub _ _)) rfl)
  exact (Frame.sendStop (μ := { ring := true }) .refl m rfl).hub.trans (ite_keeps State.hub (State.enterDusk_hub ..) rfl)

theorem FaultReg.notPmc {o : Nat} (ho : FaultReg o) : isPmc o = false := by
  have := ho.cases
  simp only [isPmc, decide_eq_false_iff_not]
  omega

theorem Keep.actClass {o : Nat} (ho : FaultReg o) (s : State) (m : FaultMsg) : Keep o s (s.actClass m) := by
  have hstop : Keep o s s.stopFault := .ite (.enterDusk_stop ho s false) .refl
  exact .ite (.sendStop ho.notPmc hstop m) (.ite (.ite .refl (.enterMidnight ho { s with nv := { s.nv with haltSaved := false } } _)) .refl)

theorem State.actClass_mild {m : FaultMsg} (h : m.cls < 2) : s.actClass m = s := by
  rw [State.actClass, if_neg (by omega), if_neg (by omega)]

theorem State.actClass_stop {m : FaultMsg} (h : m.cls = 2) (hst : s.st = NOON) : (s.actClass m).st = DUSK := by
  have hdusk : s.stopFault.st = DUSK := by
    rw [State.stopFault, if_pos (by simp [hst])]
    exact (State.enterDusk_state s 6 false (by decide)).1
  rw [State.actClass, if_pos h, (Steady.refl.sendStop m).st, hdusk]

theorem State.actClass_halt {m : FaultMsg} (h : m.cls = 3) : (s.actClass m).st = MIDNIGHT := by
  rw [State.actClass, if_neg (by omega), if_pos h]
  dsimp only
  split
  · assumption
  · exact (State.enterMidnight_state _ _ (by split <;> decide)).1

/-! ### The whole class effect -/

/-- The state in which the class of a message has taken effect and the message is counted (R418, R461). -/
def State.acted (s : State) (m : FaultMsg) : State := (s.classEffect m).count 0x13 0 1

theorem State.acted_hub (s : State) (m : FaultMsg) : (s.acted m).hub = (s.markClass m).hub := calc
  (s.acted m).hub = (s.classEffect m).hub := State.hub_congr (State.count_flt ..) (State.count_svc ..)
  _ = ((s.markClass m).actClass m).hub := State.showCues_hub _
  _ = (s.markClass m).hub := State.actClass_hub _ _

theorem State.acted_queue (s : State) (m : FaultMsg) : (s.acted m).flt.queue = s.flt.queue :=
  (State.hub_queue (s.acted_hub m)).trans (congrArg Flt.queue (s.markClass_flt m))

theorem State.acted_entries (s : State) (m : FaultMsg) : (s.acted m).flt.entries = s.flt.entries :=
  (State.hub_entries (s.acted_hub m)).trans (congrArg Flt.entries (s.markClass_flt m))

theorem State.acted_hubRoom (s : State) (m : FaultMsg) (cls : Nat) : (s.acted m).hubRoom cls = s.hubRoom cls := by
  rw [State.hubRoom, State.acted_queue, State.hubRoom]

theorem Keep.acted {o : Nat} (ho : FaultReg o) (s : State) (m : FaultMsg) : Keep o (s.markClass m) (s.acted m) :=
  (Keep.actClass ho (s.markClass m) m).showCues.count _ _ _ ho.notPmc

theorem State.acted_eid (s : State) (m : FaultMsg) : (s.acted m).eid = s.eid :=
  ((Keep.acted (.inl rfl) s m).f RING_STATUS_EID).trans (s.markClass_f m (.inl (by decide)) (by decide) (by decide))

/-- A NOTE or DEGRADE marks its bit of FLT_PEND and the relay's, and leaves the other fields. -/
theorem State.acted_f {m : FaultMsg} (h : m.cls < 2) {fd : Field} (hpmc : isPmc fd.off = false) (hpend : fd.off ≠ rFLT_PEND ∨ 30 ≤ fd.lo)
    (hlo : fd.off ≠ rFLT_LAST_LO) (hhi : fd.off ≠ rFLT_LAST_HI) : (s.acted m).f fd = s.f fd := by
  have hkeep : Keep fd.off (s.markClass m) (s.acted m) := by
    rw [State.acted, State.classEffect_eq, State.actClass_mild h]
    exact Keep.refl.showCues.count _ _ _ hpmc
  exact (hkeep.f fd).trans (s.markClass_f m hpend hlo hhi)

/-- From `s` to `c` the class of a message has taken effect (R418 to R420). -/
structure ClassActed (s : State) (m : FaultMsg) (c : State) : Prop where
  pend : c.fb (classPend m.cls) = true
  alarm : m.relay = true ∨ m.cls = 3 → c.fb FLT_PEND_RELAY = true ∧ c.svc.alarmOpen = true
  last : 2 ≤ m.cls → c.f FLT_LAST_LO_MSG = m.word % 2 ^ 32 ∧ c.f FLT_LAST_HI_MSG = m.word / 2 ^ 32 % 2 ^ 32
  dusk : m.cls = 2 → s.st = NOON → c.st = DUSK
  midnight : m.cls = 3 → c.st = MIDNIGHT

theorem State.acted_classActed (s : State) (m : FaultMsg) : ClassActed s m (s.acted m) := by
  have hpend : Keep rFLT_PEND (s.markClass m) (s.acted m) := .acted (.inr (.inl rfl)) s m
  have hst : (s.acted m).st = ((s.markClass m).actClass m).st := (Steady.refl.showCues.count _ _ _).st
  constructor
  · exact (hpend.fb _ (classPend_bit m.cls).1).trans (s.markClass_pend m)
  · intro h
    obtain ⟨hrelay, halarm⟩ := s.markClass_alarm h
    exact ⟨(hpend.fb FLT_PEND_RELAY).trans hrelay, (State.hub_alarm (s.acted_hub m)).trans halarm⟩
  · intro h
    obtain ⟨hlo, hhi⟩ := s.markClass_last h
    exact ⟨((Keep.acted (.inr (.inr (.inl rfl))) s m).f FLT_LAST_LO_MSG).trans hlo,
      ((Keep.acted (.inr (.inr (.inr rfl))) s m).f FLT_LAST_HI_MSG).trans hhi⟩
  · intro h hnoon
    rw [hst]
    exact State.actClass_stop h ((s.markClass_st m).trans hnoon)
  · intro h
    rw [hst]
    exact State.actClass_halt h

end Sys2Proof.Machine
end

section
/-!
SUPPORT. The hub collector takes a message (R411, R416, R421, R427, R428): what each way of taking it leaves in the queue, the entries and
the drop counts, and the end of a flood.
-/
namespace Sys2Proof.Machine
variable {s : State}

/-! ### The operations on the hub queue -/

/-- A field that taking and forwarding a message leave: none of FLT_QUEUE, FLT_DROP, FLT_DROP_RING and FLOOD, and no performance
counter. -/
structure Unfiled (fd : Field) : Prop where
  notPmc : isPmc fd.off = false
  queue : fd.off ≠ rFLT_QUEUE
  drop : fd.off ≠ rFLT_DROP
  ring : fd.off ≠ rFLT_DROP_RING
  flood : fd.off ≠ rFLT_PEND ∨ fd.lo + fd.w ≤ 31

theorem Keep.showQ {o : Nat} {s₀ : State} (h : Keep o s₀ s) (e : o ≠ rFLT_QUEUE) : Keep o s₀ s.showQ :=
  (h.setF FLT_QUEUE_FILL _ e).setF FLT_QUEUE_ENTRIES _ e

theorem State.checkFlood_f (s : State) {fd : Field} (h : fd.off ≠ rFLT_PEND ∨ fd.lo + fd.w ≤ 31) : s.checkFlood.f fd = s.f fd :=
  ite_keeps (·.f fd) (State.f_setF_other _ FLT_PEND_FLOOD _ _ (h.imp_right .inl)) rfl

theorem State.checkFlood_queue (s : State) : s.checkFlood.flt.queue = s.flt.queue := ite_keeps (·.flt.queue) rfl rfl
theorem State.checkFlood_svc (s : State) : s.checkFlood.svc = s.svc := ite_keeps State.svc rfl rfl

theorem State.enqueue_queue (s : State) (r : LogRec) : (s.enqueue r).flt.queue = s.flt.queue ++ [r] := State.checkFlood_queue _

theorem State.enqueue_f (s : State) (r : LogRec) {fd : Field} (h : Unfiled fd) : (s.enqueue r).f fd = s.f fd :=
  (State.checkFlood_f _ h.flood).trans ((Keep.showQ (.upd .refl) h.queue).f fd)

theorem State.enqueue_fill (s : State) (r : LogRec) : (s.enqueue r).f FLT_QUEUE_FILL = (s.flt.queue.length + 1) % 2 ^ 11 := by
  have hshow (z : State) : z.showQ.f FLT_QUEUE_FILL = z.flt.queue.length % 2 ^ 11 :=
    (State.f_setF_other _ FLT_QUEUE_ENTRIES _ _ (.inr (.inr (by decide)))).trans (State.f_setF_same _ FLT_QUEUE_FILL _)
  rw [State.enqueue, State.checkFlood_f _ (.inl (by decide)), hshow, List.length_append, List.length_singleton]

theorem State.irqNow_flt (s : State) (m : FaultMsg) : (s.irqNow m).flt = s.flt :=
  (Frame.irqNow (μ := { host := true, ring := true }) .refl m rfl rfl).flt.resolve_left (by decide)

/-- A dropped message is signalled, or its vector awaits the drop record (R420). -/
def State.holdDrop (s : State) (m : FaultMsg) : State :=
  let s := s.irqNow m
  if m.irq && s.fb FLT_CTRL_LOG_EN then { s with flt := { s.flt with irqHeld := (m.cls + 2) :: s.flt.irqHeld } } else s

theorem State.fltDrop_eq (s : State) (m : FaultMsg) : s.fltDrop m =
    if m.cls = 0 then ({ s.holdDrop m with flt := { (s.holdDrop m).flt with fNote := (s.holdDrop m).flt.fNote + 1 } }).addF FLT_DROP_NOTE 1
    else ({ s.holdDrop m with flt := { (s.holdDrop m).flt with fDegr := (s.holdDrop m).flt.fDegr + 1 } }).addF FLT_DROP_DEGRADE 1 := rfl

theorem Keep.holdDrop {o : Nat} {s₀ : State} (h : Keep o s₀ s) (m : FaultMsg) (e : isPmc o = false) : Keep o s₀ (s.holdDrop m) :=
  .ite (.upd (.irqNow e h m)) (.irqNow e h m)

theorem State.holdDrop_queue (s : State) (m : FaultMsg) : (s.holdDrop m).flt.queue = s.flt.queue := by
  have hirq : (s.irqNow m).flt.queue = s.flt.queue := by rw [State.irqNow_flt]
  exact ite_keeps (·.flt.queue) hirq hirq

theorem State.fltDrop_queue (s : State) (m : FaultMsg) : (s.fltDrop m).flt.queue = s.flt.queue := by
  rw [State.fltDrop_eq]
  exact ite_keeps (·.flt.queue) (s.holdDrop_queue m) (s.holdDrop_queue m)

theorem State.fltDrop_note (s : State) {m : FaultMsg} (h : m.cls = 0) :
    (s.fltDrop m).f FLT_DROP_NOTE = min (2 ^ FLT_DROP_NOTE.w - 1) (s.f FLT_DROP_NOTE + 1) := by
  have hkeep : (s.holdDrop m).f FLT_DROP_NOTE = s.f FLT_DROP_NOTE := (Keep.refl.holdDrop m rfl).f FLT_DROP_NOTE
  rw [State.fltDrop_eq, if_pos h, State.f_addF _ _ _ (by decide), ← hkeep]
  rfl

theorem State.fltDrop_degrade (s : State) {m : FaultMsg} (h : m.cls = 1) :
    (s.fltDrop m).f FLT_DROP_DEGRADE = min (2 ^ FLT_DROP_DEGRADE.w - 1) (s.f FLT_DROP_DEGRADE + 1) := by
  have hkeep : (s.holdDrop m).f FLT_DROP_DEGRADE = s.f FLT_DROP_DEGRADE := (Keep.refl.holdDrop m rfl).f FLT_DROP_DEGRADE
  rw [State.fltDrop_eq, if_neg (by omega), State.f_addF _ _ _ (by decide), ← hkeep]
  rfl

theorem State.fltDrop_f (s : State) (m : FaultMsg) {fd : Field} (h : Unfiled fd) : (s.fltDrop m).f fd = s.f fd := by
  have hheld : Keep fd.off s (s.holdDrop m) := Keep.refl.holdDrop m h.notPmc
  rw [State.fltDrop_eq]
  exact Keep.f (.ite (.addF (.upd hheld) FLT_DROP_NOTE 1 h.drop) (.addF (.upd hheld) FLT_DROP_DEGRADE 1 h.drop)) fd

theorem State.coalesce_queue (s : State) (m : FaultMsg) (k : Nat × Nat × Nat) : (s.coalesce m k).flt.queue = s.flt.queue := by
  rw [State.coalesce, State.irqNow_flt]

/-- A repeat adds 1 to its entry and dates it (R427). -/
theorem State.coalesce_entries {e : Coal} (m : FaultMsg) {k : Nat × Nat × Nat} (he : s.flt.entries = [e]) (hk : (e.src, e.kind, e.eid) = k)
    (hpos : 0 < e.count) :
    ∃ e', (s.coalesce m k).flt.entries = [e'] ∧ e'.count = e.count + 1 ∧ e'.last = m.time ∧ e'.first = e.first ∧ e'.msg = e.msg := by
  subst hk
  have hne : e.count ≠ 0 := by omega
  refine ⟨{ e with count := e.count + 1, last := m.time, irq := e.irq || (m.irq && s.fb FLT_CTRL_LOG_EN) }, ?_, rfl, rfl, rfl, rfl⟩
  rw [State.coalesce, State.irqNow_flt]
  simp [he, hne]

theorem Keep.openEntry {o : Nat} {s₀ : State} (h : Keep o s₀ s) (k : Nat × Nat × Nat) (e : o ≠ rFLT_QUEUE) : Keep o s₀ (s.openEntry k) :=
  .ite (.showQ (.upd h) e) (.upd h)

/-! ### Taking a message -/

theorem State.takeMsg_f (s : State) (m : FaultMsg) {fd : Field} (h : Unfiled fd) : (s.takeMsg m).f fd = s.f fd := by
  have hqueued : ((s.enqueue (s.msgRec m)).irqNow m).f fd = s.f fd :=
    ((Keep.irqNow h.notPmc .refl m).f fd).trans (s.enqueue_f _ h)
  have hrepeat : (s.coalesce m (s.coalKey m)).f fd = s.f fd := (Keep.irqNow h.notPmc (.upd .refl) m).f fd
  have hopened : (((s.enqueue (s.msgRec m)).irqNow m).openEntry (s.coalKey m)).f fd = s.f fd :=
    ((Keep.refl.openEntry _ h.queue).f fd).trans hqueued
  have hdropped := s.fltDrop_f m h
  exact ite_keeps (·.f fd) hdropped (ite_keeps (·.f fd) hqueued (ite_keeps (·.f fd) hrepeat (ite_keeps (·.f fd) hdropped
    (ite_keeps (·.f fd) (ite_keeps (·.f fd) hopened hqueued) hdropped))))

theorem State.takeMsg_queued {m : FaultMsg} (hd : m.dropped = false) (hroom : s.hubRoom m.cls = true)
    (hcalm : s.fb FLT_PEND_FLOOD = false ∨ 2 ≤ m.cls) : s.takeMsg m = (s.enqueue (s.msgRec m)).irqNow m := by
  rcases hcalm with hcalm | hcls
  · simp [State.takeMsg, hd, hroom, hcalm]
  · simp [State.takeMsg, hd, hcls]

theorem State.takeMsg_dropped {m : FaultMsg} (hd : m.dropped = false) (hcls : m.cls < 2) (hroom : s.hubRoom m.cls = false)
    (hcalm : s.fb FLT_PEND_FLOOD = false) : s.takeMsg m = s.fltDrop m := by
  simp [State.takeMsg, hd, Nat.not_le.2 hcls, hroom, hcalm]

theorem State.takeMsg_repeat {m : FaultMsg} (hd : m.dropped = false) (hcls : m.cls < 2) (hflood : s.fb FLT_PEND_FLOOD = true)
    (hentry : (s.entryFor? (s.coalKey m)).isSome = true) : s.takeMsg m = s.coalesce m (s.coalKey m) := by
  simp [State.takeMsg, hd, Nat.not_le.2 hcls, hflood, hentry]

/-- The record of a queued message stands at the queue's end. -/
theorem State.takeMsg_record {m : FaultMsg} (hd : m.dropped = false) (hroom : s.hubRoom m.cls = true)
    (hcalm : s.fb FLT_PEND_FLOOD = false ∨ 2 ≤ m.cls) : (s.takeMsg m).flt.queue = s.flt.queue ++ [s.msgRec m] ∧
    (s.takeMsg m).f FLT_QUEUE_FILL = (s.flt.queue.length + 1) % 2 ^ 11 := by
  rw [State.takeMsg_queued hd hroom hcalm, State.irqNow_flt, State.enqueue_queue]
  exact ⟨rfl, ((Keep.irqNow rfl .refl m).f FLT_QUEUE_FILL).trans (s.enqueue_fill _)⟩

/-! ### Forwarding, and the effects that stay -/

theorem State.forwardMsg_f (s : State) (m : FaultMsg) (fd : Field) (hpmc : isPmc fd.off = false := by rfl)
    (hring : fd.off ≠ rFLT_DROP_RING := by decide) : (s.forwardMsg m).f fd = s.f fd :=
  (Keep.forwardMsg hpmc .refl m hring).f fd

theorem State.sendUrg_flt (s : State) (p : RingPkt) : (s.sendUrg p).flt = s.flt :=
  (Frame.sendUrg (μ := { ring := true }) .refl p rfl).flt.resolve_left (by decide)

theorem State.forwardMsg_queue (s : State) (m : FaultMsg) : (s.forwardMsg m).flt.queue = s.flt.queue :=
  ite_keeps (·.flt.queue) (ite_keeps (·.flt.queue) rfl (congrArg Flt.queue (State.sendUrg_flt ..))) rfl

theorem State.forwardMsg_entries (s : State) (m : FaultMsg) : (s.forwardMsg m).flt.entries = s.flt.entries :=
  ite_keeps (·.flt.entries) (ite_keeps (·.flt.entries) rfl (congrArg Flt.entries (State.sendUrg_flt ..))) rfl

/-- Taking and forwarding a message leave what its class has done. -/
theorem ClassActed.forwarded {c : State} {m : FaultMsg} (h : ClassActed s m c) : ClassActed s m ((c.takeMsg m).forwardMsg m) := by
  have hf (fd : Field) (hfd : Unfiled fd) : ((c.takeMsg m).forwardMsg m).f fd = c.f fd :=
    (State.forwardMsg_f _ m fd hfd.notPmc hfd.ring).trans (c.takeMsg_f m hfd)
  have hfb (fd : Field) (hfd : Unfiled fd) : ((c.takeMsg m).forwardMsg m).fb fd = c.fb fd := by simp only [State.fb, hf fd hfd]
  have hsvc : ((c.takeMsg m).forwardMsg m).svc = c.svc :=
    (Frame.forwardMsg (μ := { host := true, ring := true, flt := true }) (.takeMsg .refl m rfl rfl rfl) m rfl rfl).svc.resolve_left (by decide)
  have hst : ((c.takeMsg m).forwardMsg m).st = c.st := ((Steady.refl.takeMsg m).forwardMsg m).st
  have hpend : Unfiled (classPend m.cls) := by
    obtain ⟨hoff, hw, hlt⟩ := classPend_bit m.cls
    constructor
    case flood => exact .inr (by omega)
    all_goals rw [hoff]; decide
  have hfixed : ∀ fd ∈ [FLT_PEND_RELAY, FLT_LAST_LO_MSG, FLT_LAST_HI_MSG], Unfiled fd := by
    intro fd hfd
    fin_cases hfd <;> exact ⟨rfl, by decide, by decide, by decide, by decide⟩
  constructor
  · rw [hfb _ hpend]
    exact h.pend
  · rw [hfb _ (hfixed _ (by simp)), hsvc]
    exact h.alarm
  · rw [hf _ (hfixed FLT_LAST_LO_MSG (by simp)), hf _ (hfixed FLT_LAST_HI_MSG (by simp))]
    exact h.last
  · rw [hst]
    exact h.dusk
  · rw [hst]
    exact h.midnight

/-! ### The hub accepts a message of its own engine (R416, R427) -/

/-- A message whose class has acted waits with its die. -/
def State.waits (s : State) (m : FaultMsg) : State := { s with flt := { s.flt with wire := s.flt.wire ++ [{ m with acted := true }] } }

/-- A message whose class has acted is taken and forwarded, or waits for room. -/
def State.place (s : State) (m : FaultMsg) : State :=
  if m.cls < 2 || s.hubRoom m.cls then (s.takeMsg m).forwardMsg m else s.waits m

section
variable {m : FaultMsg} (hremote : m.remote = false) (hacted : m.acted = false)
include hremote hacted

theorem State.acceptMsg_eq (s : State) : s.acceptMsg m = (s.acted m).place m := by
  have heq : s.acceptMsg m = if m.remote then s.takeMsg m else (if m.acted then s else s.acted m).place m := rfl
  rw [heq, if_neg (by simp [hremote]), if_neg (by simp [hacted])]

theorem State.acceptMsg_fits (hfit : m.cls < 2 ∨ s.hubRoom m.cls = true) : s.acceptMsg m = ((s.acted m).takeMsg m).forwardMsg m :=
  (s.acceptMsg_eq hremote hacted).trans (if_pos (by simpa [State.acted_hubRoom] using hfit))

theorem State.acceptMsg_waits (hcls : 2 ≤ m.cls) (hfull : s.hubRoom m.cls = false) : s.acceptMsg m = (s.acted m).waits m :=
  (s.acceptMsg_eq hremote hacted).trans (if_neg (by rw [State.acted_hubRoom, hfull, Bool.or_false, decide_eq_true_iff]; omega))

theorem State.acceptMsg_classActed (s : State) : ClassActed s m (s.acceptMsg m) := by
  have hacts := s.acted_classActed m
  rw [s.acceptMsg_eq hremote hacted, State.place]
  split
  · exact hacts.forwarded
  · exact ⟨hacts.pend, hacts.alarm, hacts.last, hacts.dusk, hacts.midnight⟩

end

/-! ### FAULT_MESSAGE_ACCEPTED -/

theorem mem_of_oldestMsg {l : List FaultMsg} {m : FaultMsg} (h : oldestMsg l = some m) : m ∈ l := by
  induction l with
  | nil => simp [oldestMsg] at h
  | cons x r ih =>
    rw [oldestMsg] at h
    cases hr : oldestMsg r with
    | none =>
      rw [hr] at h
      exact List.mem_cons.2 (.inl (Option.some.inj h).symm)
    | some y =>
      simp only [hr] at h
      split at h
      · exact List.mem_cons_of_mem _ (ih (hr.trans h))
      · exact List.mem_cons.2 (.inl (Option.some.inj h).symm)

/-- The messages of a die that the collector can take now. -/
def State.offered (s : State) (die : Nat) : List FaultMsg := s.flt.wire.filter fun m => m.die == die && !m.remote && s.canTake m

theorem State.local_of_offered {die : Nat} {m : FaultMsg} (h : oldestMsg (s.offered die) = some m) : m.remote = false := by
  have hmem := List.mem_filter.1 (mem_of_oldestMsg h)
  simp only [Bool.and_eq_true, Bool.not_eq_true'] at hmem
  exact hmem.2.1.2

theorem State.canTake_at (s : State) (t : Nat) (m : FaultMsg) : (s.at t).canTake m = s.canTake m := by
  simp only [State.canTake, State.hubRoom, State.entryFor?, State.coalKey, State.at_flt, State.eid_at, s.fb_at t FLT_PEND_FLOOD]

theorem State.offered_at (s : State) (t die : Nat) : (s.at t).offered die = s.offered die := by
  simp only [State.offered, State.at_flt, State.canTake_at]

/-- A message leaves its die. -/
def State.pulls (s : State) (m : FaultMsg) : State := { s with flt := { s.flt with wire := s.flt.wire.erase m } }

theorem State.pulls_hubRoom (s : State) (t : Nat) (m : FaultMsg) (cls : Nat) : ((s.at t).pulls m).hubRoom cls = s.hubRoom cls := by
  simp only [State.hubRoom, State.pulls, State.at_flt]

/-- Of the messages offered the oldest leaves its die and is accepted. -/
def State.takeOffered (s : State) (die : Nat) : State :=
  match oldestMsg (s.offered die) with
  | some m => (s.pulls m).acceptMsg m
  | none => s

theorem exec_faultMessageAccepted (t : Nat) {die : Nat} {m : FaultMsg} (h : oldestMsg (s.offered die) = some m) :
    exec (.faultMessageAccepted t die) s = .next (((s.at t).pulls m).acceptMsg m) := by
  have htake : exec (.faultMessageAccepted t die) s = .next ((s.at t).takeOffered die) := rfl
  rw [htake, State.takeOffered, State.offered_at, h]

/-- The state in which the class of the message accepted has acted. -/
def State.actedAt (s : State) (t : Nat) (m : FaultMsg) : State := ((s.at t).pulls m).acted m

theorem State.actedAt_queue (s : State) (t : Nat) (m : FaultMsg) : (s.actedAt t m).flt.queue = s.flt.queue :=
  (State.acted_queue _ m).trans (by rw [State.pulls, State.at_flt])

theorem State.actedAt_entries (s : State) (t : Nat) (m : FaultMsg) : (s.actedAt t m).flt.entries = s.flt.entries :=
  (State.acted_entries _ m).trans (by rw [State.pulls, State.at_flt])

theorem State.actedAt_hubRoom (s : State) (t : Nat) (m : FaultMsg) (cls : Nat) : (s.actedAt t m).hubRoom cls = s.hubRoom cls := by
  simp only [State.hubRoom, State.actedAt_queue]

theorem State.actedAt_eid (s : State) (t : Nat) (m : FaultMsg) : (s.actedAt t m).eid = s.eid :=
  (State.acted_eid _ m).trans (s.eid_at t)

theorem State.actedAt_drop (s : State) (t : Nat) {m : FaultMsg} (h : m.cls < 2) {fd : Field} (hfd : fd.off = rFLT_DROP) :
    (s.actedAt t m).f fd = s.f fd :=
  (State.acted_f h (by rw [hfd]; rfl) (.inl (by rw [hfd]; decide)) (by rw [hfd]; decide) (by rw [hfd]; decide)).trans (s.f_at t fd (by rw [hfd]; rfl))

theorem State.actedAt_flood (s : State) (t : Nat) {m : FaultMsg} (h : m.cls < 2) :
    (s.actedAt t m).fb FLT_PEND_FLOOD = s.fb FLT_PEND_FLOOD := by
  have hacted : (s.actedAt t m).f FLT_PEND_FLOOD = (s.at t).f FLT_PEND_FLOOD := State.acted_f h rfl (by decide) (by decide) (by decide)
  rw [State.fb, hacted, s.f_at t FLT_PEND_FLOOD, State.fb]

section
variable (t : Nat) {die : Nat} {m : FaultMsg} (h : oldestMsg (s.offered die) = some m) (hacted : m.acted = false)
include h hacted

theorem faultMessageAccepted_acts : ∃ s', exec (.faultMessageAccepted t die) s = .next s' ∧ ClassActed s m s' := by
  obtain ⟨hpend, halarm, hlast, hdusk, hmidnight⟩ := ((s.at t).pulls m).acceptMsg_classActed (State.local_of_offered h) hacted
  exact ⟨_, exec_faultMessageAccepted t h, hpend, halarm, hlast, fun hc hnoon => hdusk hc ((s.st_at t).trans hnoon), hmidnight⟩

theorem exec_faultMessageAccepted_fits (hfit : m.cls < 2 ∨ s.hubRoom m.cls = true) :
    exec (.faultMessageAccepted t die) s = .next (((s.actedAt t m).takeMsg m).forwardMsg m) := by
  rw [exec_faultMessageAccepted t h,
    State.acceptMsg_fits (State.local_of_offered h) hacted (by rwa [State.pulls_hubRoom]), State.actedAt]

theorem faultMessageAccepted_waits (hcls : 2 ≤ m.cls) (hfull : s.hubRoom m.cls = false) :
    ∃ s', exec (.faultMessageAccepted t die) s = .next s' ∧ s'.flt.queue = s.flt.queue ∧ { m with acted := true } ∈ s'.flt.wire := by
  refine ⟨_, exec_faultMessageAccepted t h, ?_⟩
  rw [State.acceptMsg_waits (State.local_of_offered h) hacted hcls (by rwa [State.pulls_hubRoom])]
  exact ⟨s.actedAt_queue t m, List.mem_append_right _ (List.mem_singleton_self _)⟩

variable (hdropped : m.dropped = false)
include hdropped

theorem faultMessageAccepted_queues (hroom : s.hubRoom m.cls = true) (hcalm : s.fb FLT_PEND_FLOOD = false ∨ 2 ≤ m.cls) :
    ∃ s' r, exec (.faultMessageAccepted t die) s = .next s' ∧ s'.flt.queue = s.flt.queue ++ [r] ∧ r.msg = m.word ∧ r.time = m.time ∧
      r.count = 1 ∧ r.type = 0 ∧ r.eid = s.eid ∧ r.remote = false ∧ s'.f FLT_QUEUE_FILL = (s.flt.queue.length + 1) % 2 ^ 11 := by
  have hlocal := State.local_of_offered h
  have hcalm' : (s.actedAt t m).fb FLT_PEND_FLOOD = false ∨ 2 ≤ m.cls := by
    rcases Nat.lt_or_ge m.cls 2 with hlt | hge
    · rwa [s.actedAt_flood t hlt]
    · exact .inr hge
  obtain ⟨hqueue, hfill⟩ := State.takeMsg_record hdropped ((s.actedAt_hubRoom t m _).trans hroom) hcalm'
  rw [s.actedAt_queue] at hqueue hfill
  refine ⟨_, (s.actedAt t m).msgRec m, exec_faultMessageAccepted_fits t h hacted (.inr hroom), (State.forwardMsg_queue ..).trans hqueue,
    rfl, rfl, rfl, rfl, ?_, hlocal, (State.forwardMsg_f _ m FLT_QUEUE_FILL).trans hfill⟩
  simp [State.msgRec, hlocal, State.actedAt_eid]

/-- Without room, outside a flood, a NOTE or DEGRADE is dropped. -/
theorem exec_faultMessageAccepted_drops (hcls : m.cls < 2) (hfull : s.hubRoom m.cls = false) (hcalm : s.fb FLT_PEND_FLOOD = false) :
    exec (.faultMessageAccepted t die) s = .next (((s.actedAt t m).fltDrop m).forwardMsg m) := by
  rw [exec_faultMessageAccepted_fits t h hacted (.inl hcls), State.takeMsg_dropped hdropped hcls ((s.actedAt_hubRoom t m _).trans hfull)
    ((s.actedAt_flood t hcls).trans hcalm)]

theorem faultMessageAccepted_dropsDegrade (hcls : m.cls = 1) (hfull : s.hubRoom m.cls = false) (hcalm : s.fb FLT_PEND_FLOOD = false) :
    ∃ s', exec (.faultMessageAccepted t die) s = .next s' ∧ s'.flt.queue = s.flt.queue ∧
      s'.f FLT_DROP_DEGRADE = min (2 ^ FLT_DROP_DEGRADE.w - 1) (s.f FLT_DROP_DEGRADE + 1) := by
  have hlt : m.cls < 2 := by omega
  refine ⟨_, exec_faultMessageAccepted_drops t h hacted hdropped hlt hfull hcalm, ?_, ?_⟩
  · rw [State.forwardMsg_queue, State.fltDrop_queue, State.actedAt_queue]
  · rw [State.forwardMsg_f _ m FLT_DROP_DEGRADE, State.fltDrop_degrade _ hcls, s.actedAt_drop t hlt rfl]

theorem faultMessageAccepted_dropsNote (hcls : m.cls = 0) (hfull : s.hubRoom m.cls = false) (hcalm : s.fb FLT_PEND_FLOOD = false) :
    ∃ s', exec (.faultMessageAccepted t die) s = .next s' ∧ s'.flt.queue = s.flt.queue ∧
      s'.f FLT_DROP_NOTE = min (2 ^ FLT_DROP_NOTE.w - 1) (s.f FLT_DROP_NOTE + 1) := by
  have hlt : m.cls < 2 := by omega
  refine ⟨_, exec_faultMessageAccepted_drops t h hacted hdropped hlt hfull hcalm, ?_, ?_⟩
  · rw [State.forwardMsg_queue, State.fltDrop_queue, State.actedAt_queue]
  · rw [State.forwardMsg_f _ m FLT_DROP_NOTE, State.fltDrop_note _ hcls, s.actedAt_drop t hlt rfl]

theorem faultMessageAccepted_coalesces (hcls : m.cls < 2) (hflood : s.fb FLT_PEND_FLOOD = true) {e : Coal} (he : s.flt.entries = [e])
    (hk : (e.src, e.kind, e.eid) = s.coalKey m) (hpos : 0 < e.count) :
    ∃ s' e', exec (.faultMessageAccepted t die) s = .next s' ∧ s'.flt.queue = s.flt.queue ∧ s'.flt.entries = [e'] ∧
      e'.count = e.count + 1 ∧ e'.last = m.time ∧ e'.first = e.first ∧ e'.msg = e.msg := by
  have hkey : (s.actedAt t m).coalKey m = s.coalKey m := by simp only [State.coalKey, State.actedAt_eid]
  have hentries : (s.actedAt t m).flt.entries = [e] := (s.actedAt_entries t m).trans he
  have hopen : ((s.actedAt t m).entryFor? ((s.actedAt t m).coalKey m)).isSome = true := by
    rw [State.entryFor?, hentries, hkey, ← hk]
    simp
  obtain ⟨e', hentry, hrest⟩ := State.coalesce_entries m hentries (hk.trans hkey.symm) hpos
  refine ⟨_, e', exec_faultMessageAccepted_fits t h hacted (.inl hcls), ?_, ?_, hrest⟩
  · rw [State.forwardMsg_queue, State.takeMsg_repeat hdropped hcls ((s.actedAt_flood t hcls).trans hflood) hopen, State.coalesce_queue,
      State.actedAt_queue]
  · rw [State.forwardMsg_entries, State.takeMsg_repeat hdropped hcls ((s.actedAt_flood t hcls).trans hflood) hopen, hentry]

end

/-! ### FLOOD_CLEAR (R427, R428) -/

/-- The count record of an entry. -/
def Coal.countRec (e : Coal) : LogRec :=
  { msg := e.msg, time := e.first, lastDt := e.last - e.first, count := e.count, eid := e.eid, injected := e.injected, remote := e.remote,
    type := 1, irq := e.irq }

/-- The drop record of a type, for a count that is not 0. -/
def State.dropRec (s : State) (type n : Nat) : List LogRec :=
  if n = 0 then [] else
    [{ msg := 0, time := s.sysTime, count := n, eid := s.eid, type := type, irq := s.flt.irqHeld.contains type }]

/-- The records that end a flood. -/
def State.floodRecs (s : State) : List LogRec :=
  (s.flt.entries.filter (·.count != 0)).map Coal.countRec ++ s.dropRec 2 s.flt.fNote ++ s.dropRec 3 s.flt.fDegr ++ s.dropRec 4 s.flt.fRing

/-- The flood's records are queued, and its entries and counts are closed. -/
def State.closeFlood (s : State) : State :=
  { s with flt := { s.flt with queue := s.flt.queue ++ s.floodRecs, entries := [], seen := [], fNote := 0, fDegr := 0, fRing := 0, irqHeld := [] } }

theorem exec_floodClear {t : Nat} (hflood : s.fb FLT_PEND_FLOOD = true) (hfill : s.flt.queue.length ≤ s.floodLo)
    (hquiet : s.flt.repeatAt.getD s.flt.floodAt + us (max 1 (s.f FLT_COAL_QUIET_US)) ≤ max s.now t) :
    exec (.floodClear t) s = .next (((s.at t).closeFlood.setF FLT_PEND_FLOOD 0).showQ.checkFlood) := by
  have hlo : (s.at t).floodLo = s.floodLo := by
    simp only [State.floodLo, State.floodHi, s.f_at t FLT_FLOOD_HI, s.f_at t FLT_FLOOD_LO]
  refine congrArg Host.Outcome.next (if_pos ?_)
  rw [hlo, s.fb_at t FLT_PEND_FLOOD, s.f_at t FLT_COAL_QUIET_US, State.at_flt, State.at_now]
  simp only [hflood, hfill, hquiet, decide_true, Bool.and_true]

theorem State.length_dropRec (s : State) (type n : Nat) : (s.dropRec type n).length = if n = 0 then 0 else 1 := by
  unfold State.dropRec
  split <;> rfl

theorem State.exists_dropRec (s : State) (type : Nat) {n : Nat} (h : n ≠ 0) : ∃ r ∈ s.dropRec type n, r.type = type ∧ r.count = n := by
  simp [State.dropRec, h]

theorem State.length_floodRecs (s : State) : s.floodRecs.length = (s.flt.entries.filter (·.count != 0)).length +
    (if s.flt.fNote = 0 then 0 else 1) + (if s.flt.fDegr = 0 then 0 else 1) + (if s.flt.fRing = 0 then 0 else 1) := by
  simp only [State.floodRecs, List.length_append, List.length_map, State.length_dropRec]

theorem State.countRec_mem_floodRecs {e : Coal} (he : e ∈ s.flt.entries) (hcount : e.count ≠ 0) : e.countRec ∈ s.floodRecs := by
  have hmem : e.countRec ∈ (s.flt.entries.filter (·.count != 0)).map Coal.countRec :=
    List.mem_map_of_mem (List.mem_filter.2 ⟨he, by simpa using hcount⟩)
  simp only [State.floodRecs, List.mem_append]
  exact .inl (.inl (.inl hmem))

theorem State.checkFlood_flt (s : State) :
    s.checkFlood.flt = { s.flt with floodAt := s.checkFlood.flt.floodAt, repeatAt := s.checkFlood.flt.repeatAt } := by
  unfold State.checkFlood
  split
  · rfl
  · rfl

/-- A new flood begins at once where the fill still stands at HI (R427). -/
theorem State.checkFlood_flood (h : s.fb FLT_PEND_FLOOD = false) :
    s.checkFlood.fb FLT_PEND_FLOOD = decide (s.floodHi ≤ s.checkFlood.flt.queue.length) := by
  rw [State.checkFlood_queue]
  by_cases hfull : s.floodHi ≤ s.flt.queue.length
  · rw [State.checkFlood, if_pos (by simp [h, hfull]), State.fb_setF_same _ FLT_PEND_FLOOD, decide_eq_true hfull]
    rfl
  · rw [State.checkFlood, if_neg (by simp [hfull]), h, decide_eq_false hfull]

/-- The collector after a flood, before it looks at its fill. -/
def State.floodOver (s : State) : State := (s.closeFlood.setF FLT_PEND_FLOOD 0).showQ

theorem State.floodOver_flood (s : State) : s.floodOver.fb FLT_PEND_FLOOD = false :=
  ((Keep.showQ (o := rFLT_PEND) .refl (by decide)).fb FLT_PEND_FLOOD).trans (State.fb_setF_same _ FLT_PEND_FLOOD 0)

theorem State.floodOver_floodHi (s : State) : s.floodOver.floodHi = s.floodHi := by
  have hkeep : Keep rFLT_FLOOD s s.floodOver := .showQ (.setF (.upd .refl) FLT_PEND_FLOOD 0 (by decide)) (by decide)
  rw [State.floodHi, hkeep.f FLT_FLOOD_HI, State.floodHi]

/-- The records that end a flood answer for all that it counted (R428). -/
structure EndsFlood (x : Flt) (l : List LogRec) : Prop where
  length : l.length = (x.entries.filter (·.count != 0)).length + (if x.fNote = 0 then 0 else 1) + (if x.fDegr = 0 then 0 else 1) +
    (if x.fRing = 0 then 0 else 1)
  counts : ∀ e ∈ x.entries, e.count ≠ 0 → ∃ r ∈ l, r.type = 1 ∧ r.msg = e.msg ∧ r.count = e.count ∧ r.time = e.first ∧ r.lastDt = e.last - e.first
  notes : x.fNote ≠ 0 → ∃ r ∈ l, r.type = 2 ∧ r.count = x.fNote
  degrades : x.fDegr ≠ 0 → ∃ r ∈ l, r.type = 3 ∧ r.count = x.fDegr
  ring : x.fRing ≠ 0 → ∃ r ∈ l, r.type = 4 ∧ r.count = x.fRing

theorem State.floodRecs_end (s : State) : EndsFlood s.flt s.floodRecs where
  length := s.length_floodRecs
  counts e he hcount := ⟨e.countRec, State.countRec_mem_floodRecs he hcount, rfl, rfl, rfl, rfl, rfl⟩
  notes h := by
    obtain ⟨r, hr, htype⟩ := s.exists_dropRec 2 h
    exact ⟨r, by simp [State.floodRecs, hr], htype⟩
  degrades h := by
    obtain ⟨r, hr, htype⟩ := s.exists_dropRec 3 h
    exact ⟨r, by simp [State.floodRecs, hr], htype⟩
  ring h := by
    obtain ⟨r, hr, htype⟩ := s.exists_dropRec 4 h
    exact ⟨r, by simp [State.floodRecs, hr], htype⟩

theorem floodClear_ends {t : Nat} (hflood : s.fb FLT_PEND_FLOOD = true) (hfill : s.flt.queue.length ≤ s.floodLo)
    (hquiet : s.flt.repeatAt.getD s.flt.floodAt + us (max 1 (s.f FLT_COAL_QUIET_US)) ≤ max s.now t) :
    ∃ s' l, exec (.floodClear t) s = .next s' ∧ s'.flt.queue = s.flt.queue ++ l ∧ s'.flt.entries = [] ∧ s'.flt.seen = [] ∧
      s'.flt.fNote = 0 ∧ s'.flt.fDegr = 0 ∧ s'.flt.fRing = 0 ∧ EndsFlood s.flt l ∧
      s'.fb FLT_PEND_FLOOD = decide (s.floodHi ≤ s'.flt.queue.length) := by
  have hrecs : EndsFlood s.flt (s.at t).floodRecs := s.at_flt t ▸ (s.at t).floodRecs_end
  have hhi : (s.at t).floodOver.floodHi = s.floodHi := by
    rw [State.floodOver_floodHi, State.floodHi, s.f_at t FLT_FLOOD_HI, State.floodHi]
  have hqueue : (s.at t).floodOver.flt.queue = s.flt.queue ++ (s.at t).floodRecs :=
    congrArg (fun x : Flt => x.queue ++ (s.at t).floodRecs) (s.at_flt t)
  refine ⟨(s.at t).floodOver.checkFlood, (s.at t).floodRecs, exec_floodClear hflood hfill hquiet, (State.checkFlood_queue _).trans hqueue,
    ?_, ?_, ?_, ?_, ?_, hrecs, hhi ▸ State.checkFlood_flood (State.floodOver_flood _)⟩
  all_goals
    rw [State.checkFlood_flt]
    rfl

/-- Settles O32: a message accepted by what its class marks and does, which taking and forwarding it leave, and by the way in which the
queue takes it; the end of a flood by the records that it queues. -/
theorem faultCollection : Obligations.FaultCollection := by
  unfold Obligations.FaultCollection
  refine ⟨fun s t die m h hacted hdropped _ => ⟨?_, ?_, ?_, ?_, ?_, ?_⟩, fun s t hflood hfill hquiet => ?_⟩
  · obtain ⟨s', hexec, hpend, halarm, hlast, hdusk, hmidnight⟩ := faultMessageAccepted_acts t h hacted
    exact ⟨s', hexec, hpend, halarm, hlast, hdusk, hmidnight⟩
  · exact faultMessageAccepted_queues t h hacted hdropped
  · exact faultMessageAccepted_waits t h hacted
  · exact faultMessageAccepted_dropsDegrade t h hacted hdropped
  · exact faultMessageAccepted_dropsNote t h hacted hdropped
  · exact fun hmild hflood e he hk hpos => faultMessageAccepted_coalesces t h hacted hdropped hmild hflood he hk hpos
  · obtain ⟨s', l, hexec, hqueue, hentries, hseen, hnote, hdegr, hring, ⟨hlength, hcounts, hnotes, hdegrades, hrings⟩, hagain⟩ :=
      floodClear_ends hflood hfill hquiet
    exact ⟨s', l, hexec, hqueue, hentries, hseen, hnote, hdegr, hring, hlength, hcounts, hnotes, hdegrades, hrings, hagain⟩

end Sys2Proof.Machine
end

section
/-!
SUPPORT. Chapter 16: calibration units and their registers. What a unit reads as after each shared operation on it, and
which registers the operations leave (R442, R443, R446, R452).
-/
namespace Sys2Proof.Machine
variable {s : State}

/-! ### A unit changed, and shown -/

@[simp] theorem State.calI_modCal (s : State) (k : Nat) (g : CalInst → CalInst) (j : Nat) :
    (s.modCal k g).calI j = if j = k then g (s.calI k) else s.calI j := tget_tupd ..

/-- An entry that differs from what an unlisted key reads as is listed. -/
theorem mem_of_tget_ne {α : Type} {d : α} {m : List (Nat × α)} {k : Nat} (h : tget d m k ≠ d) : (k, tget d m k) ∈ m := by
  induction m with
  | nil => exact absurd rfl h
  | cons e r ih =>
    obtain ⟨j, v⟩ := e
    have hget : tget d ((j, v) :: r) k = if k < j then d else if k = j then v else tget d r k := rfl
    rw [hget] at h ⊢
    split_ifs at h ⊢ with hlt heq
    · exact absurd rfl h
    · rw [heq]
      exact List.mem_cons_self ..
    · exact List.mem_cons_of_mem _ (ih h)

/-- The correction registers lie from 0x1E1000 upward (R452), and showing a unit writes only them. -/
theorem State.showCal_writes (s : State) (k : Nat) :
    ∃ l : List (Field × Int), (∀ p ∈ l, 0x1E1000 ≤ p.1.off) ∧ s.showCal k = l.foldl (fun s p => s.setFs p.1 p.2) s := by
  simp only [State.showCal]
  split
  · exact ⟨[(CAL_PORT_n_A_OUT_CELLS _, _), (CAL_PORT_n_A_TR_CORR _, _)],
      by simp [CAL_PORT_n_A_OUT_CELLS, CAL_PORT_n_A_TR_CORR], rfl⟩
  · exact ⟨[(CAL_MOT_a_A_OFS_U _, _), (CAL_MOT_a_A_OFS_V _, _), (CAL_MOT_a_B_GAIN_V _, _)],
      by simp [CAL_MOT_a_A_OFS_U, CAL_MOT_a_A_OFS_V, CAL_MOT_a_B_GAIN_V]; omega, rfl⟩
  · exact ⟨[(CAL_ENC_n_A_SHARE0 _, _), (CAL_ENC_n_A_SHARE1 _, _), (CAL_ENC_n_B_SHARE2 _, _), (CAL_ENC_n_B_SHARE3 _, _)],
      by simp [CAL_ENC_n_A_SHARE0, CAL_ENC_n_A_SHARE1, CAL_ENC_n_B_SHARE2, CAL_ENC_n_B_SHARE3]; omega, rfl⟩
  · exact ⟨[(CAL_PHASE_d_P1 _, _), (CAL_PHASE_d_P2 _, _), (CAL_PHASE_d_P3 _, _)],
      by simp [CAL_PHASE_d_P1, CAL_PHASE_d_P2, CAL_PHASE_d_P3]; omega, rfl⟩
  · exact ⟨[(CAL_PORT_n_A_SENSE_SEG _, _), (CAL_PORT_n_B_SENSE_OFS _, _)],
      by simp [CAL_PORT_n_A_SENSE_SEG, CAL_PORT_n_B_SENSE_OFS]; omega, rfl⟩

theorem State.showCal_eq (s : State) (k : Nat) : s.showCal k = { s with regs := (s.showCal k).regs } := by
  obtain ⟨l, -, hl⟩ := s.showCal_writes k
  rw [hl]
  clear hl
  induction l generalizing s with
  | nil => rfl
  | cons p r ih =>
    rw [List.foldl_cons, ih]
    rfl

@[simp] theorem State.showCal_cal (s : State) (k : Nat) : (s.showCal k).cal = s.cal := by rw [s.showCal_eq]

@[simp] theorem State.calI_showCal (s : State) (k j : Nat) : (s.showCal k).calI j = s.calI j := by
  rw [State.calI, State.showCal_cal, State.calI]

@[simp] theorem State.calI_showSlewing (s : State) (j : Nat) : s.showSlewing.calI j = s.calI j := rfl
@[simp] theorem State.calI_showNvPend (s : State) (j : Nat) : s.showNvPend.calI j = s.calI j := rfl
@[simp] theorem State.calI_showFactory (s : State) (j : Nat) : s.showFactory.calI j = s.calI j := rfl

@[simp] theorem State.calI_setCal (s : State) (k : Nat) (v : List Int) : (s.setCal k v).calI k = { s.calI k with force := v } := by
  simp [State.setCal]

@[simp] theorem State.calI_raise (s : State) (x : Kind) (a k : Nat) : (s.raise x a).calI k = s.calI k := by
  simp only [State.calI, State.raise_cal]

@[simp] theorem State.calForce_raise (s : State) (x : Kind) (a k : Nat) : (s.raise x a).calForce k = s.calForce k := by
  simp only [State.calForce, State.calI_raise]

@[simp] theorem State.calI_at (s : State) (t k : Nat) : (s.at t).calI k = s.calI k := by
  simp only [State.calI, State.at_cal]

@[simp] theorem State.calForce_at (s : State) (t k : Nat) : (s.at t).calForce k = s.calForce k := by
  simp only [State.calForce, State.calI_at]

theorem State.calForce_congr {s' : State} {k : Nat} (h : (s'.calI k).force = (s.calI k).force) : s'.calForce k = s.calForce k := by
  simp only [State.calForce, h]

/-! ### A record written, or kept waiting (R445, R446) -/

/-- The sequence number that the next write of a record gives, and whether it goes to copy A: the copy that is not current. -/
def State.nextCopy (s : State) (k : Nat) : Nat × Bool :=
  match s.calCopy? k with
  | some (c, isA) => ((c.seq + 1) % 2 ^ 32, !isA)
  | none => (1, true)

/-- One copy of a record replaced. -/
def State.putCopy (s : State) (k : Nat) (isA : Bool) (c : CalCopy) : State :=
  { s with nv := { s.nv with
      calA := if isA then insertKey k c s.nv.calA else s.nv.calA
      calB := if isA then s.nv.calB else insertKey k c s.nv.calB } }

theorem State.calRecord_waits {k : Nat} {v : List Int} (h : s.nvOk = false) :
    s.calRecord k v = (s.modCal k fun x => { x with nvWait := some v }).showNvPend := by
  simp [State.calRecord, h]

theorem State.calRecord_writes {k : Nat} {v : List Int} (h : s.nvOk = true) :
    s.calRecord k v =
      ((s.putCopy k (s.nextCopy k).2 { seq := (s.nextCopy k).1, vals := v }).modCal k fun x => { x with nvWait := none }).showNvPend := by
  rcases hc : s.calCopy? k with _ | ⟨c, isA⟩
  · simp [State.calRecord, h, State.nextCopy, State.putCopy, hc]
  · cases isA <;> simp [State.calRecord, h, State.nextCopy, State.putCopy, hc]

@[simp] theorem State.calI_putCopy (s : State) (k : Nat) (isA : Bool) (c : CalCopy) (j : Nat) : (s.putCopy k isA c).calI j = s.calI j := rfl

/-- Recording changes of the unit only what waits for the interlock. -/
theorem State.calI_calRecord (s : State) (k : Nat) (v : List Int) :
    (s.calRecord k v).calI k = { s.calI k with nvWait := if s.nvOk then none else some v } := by
  cases hnv : s.nvOk
  · simp [State.calRecord_waits hnv]
  · simp [State.calRecord_writes hnv]

/-- CAL_STATUS.NV_PENDING shows a unit whose record waits (R446). -/
theorem State.showNvPend_of_waits {k : Nat} (h : (s.calI k).nvWait.isSome = true) : s.showNvPend.fb CAL_STATUS_NV_PENDING = true := by
  have hlisted : (k, s.calI k) ∈ s.cal.insts := mem_of_tget_ne fun hd => by
    rw [State.calI, hd] at h
    exact absurd h (by decide)
  have hany : (s.cal.insts.any fun e => e.2.nvWait.isSome) = true := List.any_eq_true.2 ⟨_, hlisted, h⟩
  rw [State.showNvPend, hany]
  exact State.fb_setF_same _ CAL_STATUS_NV_PENDING 1

/-! ### The copies of a record (R445) -/

theorem validCopy_fresh {seq : Nat} (v : List Int) (h : seq < 2 ^ 32 - 1) :
    validCopy (some { seq := seq, vals := v }) = some { seq := seq, vals := v } := by
  have hne : seq ≠ 0xFFFFFFFF := Nat.ne_of_lt h
  simp [validCopy, Option.filter, hne]

/-- The successor of a sequence number is ahead of it (R110), and it is not ahead of its successor. -/
theorem seqAhead_succ (n : Nat) : seqAhead (n + 1) n = true ∧ seqAhead n (n + 1) = false := by
  constructor
  · have hdist : (n + 1 + 2 ^ 32 - n) % 2 ^ 32 = 1 := by omega
    simp only [seqAhead, hdist]
    simp
  · have hdist : (n + 2 ^ 32 - (n + 1)) % 2 ^ 32 = 2 ^ 32 - 1 := by omega
    simp only [seqAhead, hdist]
    simp

/-- The current copy, by the valid copies (R445). -/
def currentCopy : Option CalCopy → Option CalCopy → Option (CalCopy × Bool)
  | some a, some b => if seqAhead b.seq a.seq then some (b, false) else some (a, true)
  | some a, none => some (a, true)
  | none, some b => some (b, false)
  | none, none => none

theorem State.calCopy?_eq (s : State) (k : Nat) :
    s.calCopy? k = currentCopy (validCopy (lookup? s.nv.calA k)) (validCopy (lookup? s.nv.calB k)) := by
  cases ha : validCopy (lookup? s.nv.calA k) <;> cases hb : validCopy (lookup? s.nv.calB k) <;>
    simp only [State.calCopy?, ha, hb, currentCopy]

theorem currentCopy_none {a b : Option CalCopy} (h : currentCopy a b = none) : b = none := by
  rcases a with _ | a <;> rcases b with _ | b <;> simp only [currentCopy] at h
  · rfl
  · cases h
  · rfl
  · split at h <;> cases h

/-- The current copy is one of the valid ones. -/
theorem currentCopy_some {a b : Option CalCopy} {c : CalCopy} {isA : Bool} (h : currentCopy a b = some (c, isA)) :
    (if isA then a else b) = some c := by
  rcases a with _ | a <;> rcases b with _ | b <;> simp only [currentCopy] at h
  · cases h
  · cases h; rfl
  · cases h; rfl
  · split at h <;> cases h <;> rfl

/-- A copy that follows the current one becomes current. -/
theorem currentCopy_next {c n : CalCopy} (hseq : n.seq = c.seq + 1) :
    currentCopy (some c) (some n) = some (n, false) ∧ currentCopy (some n) (some c) = some (n, true) := by
  obtain ⟨hahead, hbehind⟩ := seqAhead_succ c.seq
  simp only [currentCopy, hseq, hahead, hbehind]
  exact ⟨rfl, rfl⟩

/-- The first write of a record goes to copy A. -/
theorem State.calCopy?_calRecord_first {k : Nat} {v : List Int} (hnv : s.nvOk = true) (h : s.calCopy? k = none) :
    (s.calRecord k v).calCopy? k = some ({ seq := 1, vals := v }, true) := by
  have hb : validCopy (lookup? s.nv.calB k) = none := currentCopy_none (s.calCopy?_eq k ▸ h)
  have hnext : s.nextCopy k = (1, true) := by simp only [State.nextCopy, h]
  rw [State.calRecord_writes hnv, hnext, State.calCopy?_eq]
  change currentCopy (validCopy (lookup? (insertKey k _ s.nv.calA) k)) (validCopy (lookup? s.nv.calB k)) = _
  rw [lookup_insertKey, validCopy_fresh v (by decide), hb, currentCopy]

/-- Each later write goes to the copy that is not current, which becomes current. -/
theorem State.calCopy?_calRecord_next {k : Nat} {v : List Int} {c : CalCopy} {isA : Bool} (hnv : s.nvOk = true)
    (h : s.calCopy? k = some (c, isA)) (hseq : c.seq + 1 < 2 ^ 32 - 1) :
    (s.calRecord k v).calCopy? k = some ({ seq := c.seq + 1, vals := v }, !isA) := by
  have hcurrent := currentCopy_some (s.calCopy?_eq k ▸ h)
  have hmod : (c.seq + 1) % 2 ^ 32 = c.seq + 1 := Nat.mod_eq_of_lt (by omega)
  have hnext : s.nextCopy k = (c.seq + 1, !isA) := by simp only [State.nextCopy, h, hmod]
  obtain ⟨hthenB, hthenA⟩ := currentCopy_next (c := c) (n := { seq := c.seq + 1, vals := v }) rfl
  rw [State.calRecord_writes hnv, hnext, State.calCopy?_eq]
  cases isA with
  | true =>
    change currentCopy (validCopy (lookup? s.nv.calA k)) (validCopy (lookup? (insertKey k _ s.nv.calB) k)) = _
    have ha : validCopy (lookup? s.nv.calA k) = some c := hcurrent
    rw [lookup_insertKey, validCopy_fresh v hseq, ha]
    exact hthenB
  | false =>
    change currentCopy (validCopy (lookup? (insertKey k _ s.nv.calA) k)) (validCopy (lookup? s.nv.calB k)) = _
    have hb : validCopy (lookup? s.nv.calB k) = some c := hcurrent
    rw [lookup_insertKey, validCopy_fresh v hseq, hb]
    exact hthenA

/-! ### Registers that showing the units leaves (R452) -/

/-- A register below the correction registers, other than CAL_STATUS. -/
structure CalQuiet (o : Nat) : Prop where
  low : o < 0x1E1000
  ne : o ≠ rCAL_STATUS

section
variable {o : Nat} {s₀ : State}

theorem Keep.showCal_low (h : Keep o s₀ s) (k : Nat) (ho : o < 0x1E1000) : Keep o s₀ (s.showCal k) := by
  obtain ⟨l, hlow, hl⟩ := s.showCal_writes k
  rw [hl]
  exact h.foldl fun _ p hp hs => hs.setFs _ _ (Nat.ne_of_lt (Nat.lt_of_lt_of_le ho (hlow p hp)))

theorem Keep.setCal (h : Keep o s₀ s) (k : Nat) (v : List Int) (ho : o < 0x1E1000) : Keep o s₀ (s.setCal k v) :=
  .showCal_low (h.modCal _ _) k ho

variable (ho : CalQuiet o)
include ho

theorem Keep.showSlewing (h : Keep o s₀ s) : Keep o s₀ s.showSlewing := h.setF _ _ ho.ne
theorem Keep.showNvPend (h : Keep o s₀ s) : Keep o s₀ s.showNvPend := h.setFb _ _ ho.ne
theorem Keep.showFactory (h : Keep o s₀ s) : Keep o s₀ s.showFactory := h.setF _ _ ho.ne

theorem Keep.slewNew (h : Keep o s₀ s) (k : Nat) (v : List Int) : Keep o s₀ (s.slewNew k v) :=
  .ite (h.modCal _ _) (.ite (.showSlewing ho (.setCal (h.modCal _ _) k v ho.low)) (.showSlewing ho (h.modCal _ _)))

theorem Keep.calRecord (h : Keep o s₀ s) (k : Nat) (v : List Int) : Keep o s₀ (s.calRecord k v) := by
  cases hnv : s.nvOk
  · rw [State.calRecord_waits hnv]
    exact .showNvPend ho (h.modCal _ _)
  · rw [State.calRecord_writes hnv]
    exact .showNvPend ho (Keep.modCal (s := s.putCopy ..) h _ _)

end

/-- The interlock reads the hub die's temperature alone (R407). -/
theorem Keep.nvOk {s₀ : State} (h : Keep 0x1C1300 s₀ s) : s.nvOk = s₀.nvOk := by
  simp only [State.nvOk, State.temp?, State.fs, h.fb (THM_n_TEMP_VALID 96), h.f (THM_n_TEMP_TEMP 96)]

/-! ### Which units take part (R432, R440) -/

/-- A target and a unit number give a record number, which names them again (R444). -/
theorem calTarget_key {t n : Nat} (h : n < 256) : calTarget (t * 256 + n) = t := by
  simp only [calTarget]
  omega

theorem calInst_key {t n : Nat} (h : n < 256) : calInst (t * 256 + n) = n := by
  simp only [calInst]
  omega

theorem calCount_le (t : Nat) : calCount t ≤ 96 := by
  simp only [calCount]
  split <;> decide

theorem mem_calKeys {k : Nat} (h : calExists k = true) : k ∈ calKeys := by
  obtain ⟨htarget, hinst⟩ : calTarget k < 5 ∧ calInst k < calCount (calTarget k) := by simpa [calExists] using h
  refine List.mem_flatMap.2 ⟨calTarget k, List.mem_range.2 htarget, List.mem_map.2 ⟨calInst k, List.mem_range.2 hinst, ?_⟩⟩
  simp only [calTarget, calInst]
  omega

/-- Taking part is read off the armed image, the policy and DACS_ON. -/
theorem State.calEnabled_congr {s' : State} {k : Nat} (hdacs : Keep (rCAL_PORT_n_A (calInst k)) s s') (hcfg : s'.cfg = s.cfg)
    (hpolicy : s'.cal.policy = s.cal.policy) : s'.calEnabled k = s.calEnabled k := by
  simp only [State.calEnabled, State.enabled, State.tileRec?, State.onDacs, hcfg, hpolicy, hdacs.f (CAL_PORT_n_A_DACS_ON _)]

@[simp] theorem State.calEnabled_at (s : State) (t k : Nat) : (s.at t).calEnabled k = s.calEnabled k := by
  have hinst : calInst k < 256 := Nat.mod_lt _ (by decide)
  refine State.calEnabled_congr (.at_below s t ?_) (s.at_cfg t) (congrArg Cal.policy (s.at_cal t))
  simp only [rCAL_PORT_n_A]
  omega

end Sys2Proof.Machine
end

section
/-!
SUPPORT. Chapter 16: when a unit becomes due and overdue (R440, R441), and a slew that goes on without line events (R442).
-/
namespace Sys2Proof.Machine
variable {s : State}

/-! ### Becoming due (R440) -/

/-- A unit made due: one that was due already is due again after the measurement under way. -/
def CalInst.madeDue (x : CalInst) (now : Nat) : CalInst :=
  if x.due then { x with again := x.again || x.first.isSome }
  else { x with due := true, dueAt := now, overdue := 0, again := x.first.isSome }

theorem CalInst.madeDue_of_due {x : CalInst} (h : x.due = true) (now : Nat) :
    x.madeDue now = { x with again := x.again || x.first.isSome } := if_pos h

theorem CalInst.madeDue_of_not {x : CalInst} (h : x.due = false) (now : Nat) :
    x.madeDue now = { x with due := true, dueAt := now, overdue := 0, again := x.first.isSome } := by simp [CalInst.madeDue, h]

theorem CalInst.madeDue_due (x : CalInst) (now : Nat) : (x.madeDue now).due = true := by
  cases h : x.due
  · rw [CalInst.madeDue_of_not h]
  · rw [CalInst.madeDue_of_due h]
    exact h

theorem CalInst.madeDue_madeDue (x : CalInst) (now : Nat) : (x.madeDue now).madeDue now = x.madeDue now := by
  rw [CalInst.madeDue_of_due (x.madeDue_due now)]
  cases h : x.due
  · simp [CalInst.madeDue_of_not h]
  · simp [CalInst.madeDue_of_due h]

theorem State.calI_calDue (s : State) (k j : Nat) :
    (s.calDue k).calI j = if j = k then (s.calI k).madeDue s.now else s.calI j := s.calI_modCal ..

theorem State.calI_foldl_calDue (l : List Nat) (s : State) (k : Nat) :
    (l.foldl State.calDue s).calI k = if k ∈ l then (s.calI k).madeDue s.now else s.calI k := by
  induction l generalizing s with
  | nil => rfl
  | cons j r ih =>
    have hnow : (s.calDue j).now = s.now := rfl
    rw [List.foldl_cons, ih, State.calI_calDue, hnow]
    by_cases hj : k = j
    · subst hj
      simp [CalInst.madeDue_madeDue]
    · simp [hj]

theorem State.calI_calAllDue {k : Nat} (hexists : calExists k = true) (henabled : s.calEnabled k = true) :
    s.calAllDue.calI k = (s.calI k).madeDue s.now := by
  rw [State.calAllDue, State.calI_foldl_calDue, if_pos (List.mem_filter.2 ⟨mem_calKeys hexists, henabled⟩)]

theorem State.calAllDue_keep {o : Nat} (s : State) : Keep o s s.calAllDue :=
  Keep.refl.foldl fun _ _ _ hs => hs.modCal _ _

theorem State.calI_writeCalCtrl {v : Word} {k : Nat} (hrun : CAL_CTRL_RUN_NOW.get v = 1) (hexists : calExists k = true)
    (henabled : s.calEnabled k = true) : (s.writeCalCtrl v).calI k = (s.calI k).madeDue s.now := by
  have hdacs : Keep (rCAL_PORT_n_A (calInst k)) s (s.setF CAL_CTRL_HOLD (CAL_CTRL_HOLD.get v)) :=
    Keep.refl.setF _ _ (by simp only [rCAL_PORT_n_A, CAL_CTRL_HOLD]; omega)
  have henabled' := (State.calEnabled_congr hdacs rfl rfl).trans henabled
  rw [State.writeCalCtrl, if_pos hrun, State.calI_showSlewing, State.calI_calAllDue hexists henabled']
  rfl

theorem State.writeCalCtrl_hold {v : Word} (hrun : CAL_CTRL_RUN_NOW.get v = 1) :
    (s.writeCalCtrl v).f CAL_CTRL_HOLD = v.toNat % 32 := by
  have hkeep : Keep rCAL_CTRL (s.setF CAL_CTRL_HOLD (CAL_CTRL_HOLD.get v)) (s.writeCalCtrl v) := by
    rw [State.writeCalCtrl, if_pos hrun]
    exact .showSlewing ⟨by decide, by decide⟩ (State.calAllDue_keep _)
  rw [hkeep.f CAL_CTRL_HOLD, State.f_setF_same s CAL_CTRL_HOLD]
  simp [Field.get, CAL_CTRL_HOLD]

theorem exec_runNow {t : Nat} {v : Word} (hwrite : s.writable rCAL_CTRL = true) (hrun : CAL_CTRL_RUN_NOW.get v = 1) :
    exec (.runNow t v) s = .next ((s.at t).writeCalCtrl v) := by
  have hwritten := State.onWrite_at s t rCAL_CTRL (fun s => if CAL_CTRL_RUN_NOW.get v = 1 then s.writeCalCtrl v else s) hwrite
  rw [if_pos hrun] at hwritten
  exact congrArg Host.Outcome.next hwritten

/-- Bit 31 of a word is the field of one bit there. -/
theorem get_bit31 {fd : Field} {v : Word} (hlo : fd.lo = 31) (hw : fd.w = 1) (h : bit v.toNat 31 = true) : fd.get v = 1 := by
  rw [Field.get, hlo, hw]
  exact beq_iff_eq.1 h

theorem runNow_makesDue {t k : Nat} {v : Word} (hwrite : s.writable rCAL_CTRL = true) (hbit : bit v.toNat 31 = true)
    (hexists : calExists k = true) (henabled : s.calEnabled k = true) :
    ∃ s', exec (.runNow t v) s = .next s' ∧ (s'.calI k).due = true ∧ s'.f CAL_CTRL_HOLD = v.toNat % 32 ∧
      ((s.calI k).due = false → (s'.calI k).dueAt = max s.now t) ∧
      ((s.calI k).due = true → (s'.calI k).again = ((s.calI k).again || (s.calI k).first.isSome)) := by
  have hrun : CAL_CTRL_RUN_NOW.get v = 1 := get_bit31 rfl rfl hbit
  have hinst := State.calI_writeCalCtrl hrun hexists ((s.calEnabled_at t k).trans henabled)
  rw [State.calI_at, State.at_now] at hinst
  refine ⟨_, exec_runNow hwrite hrun, ?_, State.writeCalCtrl_hold hrun, fun hdue => ?_, fun hdue => ?_⟩
  · rw [hinst, CalInst.madeDue_due]
  · rw [hinst, CalInst.madeDue_of_not hdue]
  · rw [hinst, CalInst.madeDue_of_due hdue]

/-! ### The interval passes (R440, R441) -/

theorem exec_calInstanceDue {t k x : Nat} (hlast : (s.calI k).lastAt = some x) (hexists : calExists k = true)
    (henabled : s.calEnabled k = true) (hdue : (s.calI k).due = false) :
    exec (.calInstanceDue t k) s =
      .next (if x + sec s.cal.policy.intervalS ≤ max s.now t then (s.at t).calDue k else s.at t) := by
  change execCalInstanceDue t k s = _
  simp [execCalInstanceDue, hlast, hexists, henabled, hdue]

theorem calInstanceDue_due {t k x : Nat} (hlast : (s.calI k).lastAt = some x) (hexists : calExists k = true)
    (henabled : s.calEnabled k = true) (hdue : (s.calI k).due = false) (hpassed : x + sec s.cal.policy.intervalS ≤ max s.now t) :
    ∃ s', exec (.calInstanceDue t k) s = .next s' ∧ (s'.calI k).due = true ∧ (s'.calI k).dueAt = max s.now t := by
  have hinst : ((s.at t).calDue k).calI k = (s.calI k).madeDue (max s.now t) := by simp [State.calI_calDue]
  have hexec := exec_calInstanceDue (t := t) hlast hexists henabled hdue
  rw [if_pos hpassed] at hexec
  refine ⟨_, hexec, ?_, ?_⟩
  · rw [hinst, CalInst.madeDue_due]
  · rw [hinst, CalInst.madeDue_of_not hdue]

theorem calInstanceDue_waits {t k x : Nat} (hlast : (s.calI k).lastAt = some x) (hexists : calExists k = true)
    (henabled : s.calEnabled k = true) (hdue : (s.calI k).due = false) (hbefore : max s.now t < x + sec s.cal.policy.intervalS) :
    ∃ s', exec (.calInstanceDue t k) s = .next s' ∧ s'.cal = s.cal := by
  have hexec := exec_calInstanceDue (t := t) hlast hexists henabled hdue
  rw [if_neg (Nat.not_le.2 hbefore)] at hexec
  exact ⟨_, hexec, s.at_cal t⟩

theorem exec_calOverdue {t k : Nat} (hexists : calExists k = true) (henabled : s.calEnabled k = true) (hdue : (s.calI k).due = true)
    (hpassed : (s.calI k).dueAt + sec (((s.calI k).overdue + 1) * s.cal.policy.intervalS) ≤ max s.now t) :
    exec (.calOverdue t k) s =
      .next (((s.at t).modCal k fun x => { x with overdue := x.overdue + 1 }).raise kCAL_OVERDUE (calTarget k)) := by
  change execCalOverdue t k s = _
  simp [execCalOverdue, hexists, henabled, hdue, hpassed]

theorem calOverdue_reports {t k : Nat} (hexists : calExists k = true) (henabled : s.calEnabled k = true) (hdue : (s.calI k).due = true)
    (hpassed : (s.calI k).dueAt + sec (((s.calI k).overdue + 1) * s.cal.policy.intervalS) ≤ max s.now t) :
    ∃ s', exec (.calOverdue t k) s = .next s' ∧ (s'.calI k).overdue = (s.calI k).overdue + 1 ∧ s'.calForce k = s.calForce k ∧
      (s.at t).Raised s' 0 0 kCAL_OVERDUE (calTarget k) := by
  refine ⟨_, exec_calOverdue hexists henabled hdue hpassed, by simp, ?_, .raise rfl _ _⟩
  rw [State.calForce_raise]
  exact State.calForce_congr (by simp)

/-! ### A slew without line events (R442) -/

theorem State.calI_slewTo (s : State) (k d : Nat) :
    (s.slewTo k d).calI k =
      { s.calI k with
        force := slewAt (calTarget k) (s.calI k).start (s.calI k).target d (s.calI k).total
        total := if (s.calI k).total ≤ d then 0 else (s.calI k).total
        done := if (s.calI k).total ≤ d then 0 else d } := by
  simp only [State.slewTo]
  split <;> simp

/-- The next point of a slew's course at which its value changes, or its end; a share's course is counted line by line. -/
def State.nextSlew (s : State) (k : Nat) : Nat :=
  let x := s.calI k
  (((List.range (x.total - x.done)).map (· + x.done + 1)).find? fun d =>
    calTarget k == 2 || slewAt (calTarget k) x.start x.target d x.total != s.calForce k).getD x.total

/-- The first number after `a` and up to `b` that meets a condition, or `b`. -/
theorem find_after {p : Nat → Bool} {a b d : Nat} (h : a < b) (hd : (((List.range (b - a)).map (· + a + 1)).find? p).getD b = d) :
    a < d ∧ d ≤ b ∧ ∀ j, a < j → j < d → p j = false := by
  have hrange : (List.range (b - a)).map (· + a + 1) = List.range' (a + 1) (b - a) := by
    rw [List.range'_eq_map_range]
    exact List.map_congr_left fun x _ => by omega
  rw [hrange] at hd
  cases hfind : (List.range' (a + 1) (b - a)).find? p with
  | none =>
    have hnone := List.find?_range'_eq_none.1 hfind
    rw [hfind, Option.getD_none] at hd
    subst hd
    exact ⟨h, le_rfl, fun j haj hjd => by simpa using hnone j haj (by omega)⟩
  | some e =>
    obtain ⟨-, hmem, hbefore⟩ := List.find?_range'_eq_some.1 hfind
    obtain ⟨hlow, hhigh⟩ := List.mem_range'_1.1 hmem
    rw [hfind, Option.getD_some] at hd
    subst hd
    exact ⟨hlow, by omega, fun j haj hje => by simpa using hbefore j haj hje⟩

/-- The next point lies further on the course, and the value stands still on the way there. -/
theorem State.nextSlew_after {k : Nat} (h : (s.calI k).done < (s.calI k).total) :
    (s.calI k).done < s.nextSlew k ∧ s.nextSlew k ≤ (s.calI k).total ∧ ∀ j, (s.calI k).done < j → j < s.nextSlew k →
      slewAt (calTarget k) (s.calI k).start (s.calI k).target j (s.calI k).total = s.calForce k := by
  obtain ⟨hafter, hupto, hstill⟩ := find_after h (Eq.refl (s.nextSlew k))
  exact ⟨hafter, hupto, fun j hj hjd => by simpa using (Bool.or_eq_false_iff.1 (hstill j hj hjd)).2⟩

theorem slewAt_end (tgt : Nat) (start target : List Int) (total : Nat) : slewAt tgt start target total total = target := if_pos le_rfl

@[simp] theorem State.calSlews_at (s : State) (t k : Nat) : (s.at t).calSlews k = s.calSlews k := by
  simp only [State.calSlews, State.calI_at, State.f_at s t CAL_CTRL_HOLD]

@[simp] theorem State.refInput?_at (s : State) (t w : Nat) : (s.at t).refInput? w = s.refInput? w := by
  simp [State.refInput?, State.winTiles, State.inputOf?]

@[simp] theorem State.calInput?_at (s : State) (t k : Nat) : (s.at t).calInput? k = s.calInput? k := by
  simp only [State.calInput?, State.at_tileRec?, State.refInput?_at, State.f_at s t FIRE_CTRL_MASTER_WIN]

theorem exec_calSlewIdleStep {t k : Nat} (hslews : s.calSlews k = true) (htarget : calTarget k ≠ 1) (hnight : s.st ≠ NIGHT)
    (hmidnight : s.st ≠ MIDNIGHT) (hidle : ∀ n, s.calInput? k = some n → (s.pin n).lastLineAt + ms 10 ≤ max s.now t)
    (hrest : (s.calI k).slewAt + ms 1 ≤ max s.now t) :
    exec (.calSlewIdleStep t k) s =
      .next (((s.at t).modCal k fun x => { x with slewAt := (s.at t).now }).slewTo k ((s.at t).nextSlew k)) := by
  refine congrArg Host.Outcome.next (if_pos ?_)
  rcases hinput : s.calInput? k with _ | n
  · simp [hinput, hslews, htarget, hnight, hmidnight, hrest]
  · simp [hinput, hslews, htarget, hnight, hmidnight, hrest, hidle n hinput]

theorem calSlewIdleStep_steps {t k : Nat} (hslews : s.calSlews k = true) (htarget : calTarget k ≠ 1) (hnight : s.st ≠ NIGHT)
    (hmidnight : s.st ≠ MIDNIGHT) (hcourse : (s.calI k).done < (s.calI k).total)
    (hidle : ∀ n, s.calInput? k = some n → (s.pin n).lastLineAt + ms 10 ≤ max s.now t)
    (hrest : (s.calI k).slewAt + ms 1 ≤ max s.now t) :
    ∃ s' d, exec (.calSlewIdleStep t k) s = .next s' ∧ (s.calI k).done < d ∧ d ≤ (s.calI k).total ∧
      (s'.calI k).force = slewAt (calTarget k) (s.calI k).start (s.calI k).target d (s.calI k).total ∧
      (s'.calI k).slewAt = max s.now t ∧
      (d < (s.calI k).total → (s'.calI k).done = d ∧ (s'.calI k).total = (s.calI k).total) ∧
      (d = (s.calI k).total → (s'.calI k).total = 0 ∧ (s'.calI k).force = (s.calI k).target) ∧
      (∀ j, (s.calI k).done < j → j < d →
        slewAt (calTarget k) (s.calI k).start (s.calI k).target j (s.calI k).total = s.calForce k) := by
  obtain ⟨hafter, hupto, hstill⟩ := State.nextSlew_after (s := s.at t) (k := k) (by rwa [State.calI_at])
  rw [State.calI_at] at hafter hupto hstill
  rw [State.calForce_at] at hstill
  refine ⟨_, _, exec_calSlewIdleStep hslews htarget hnight hmidnight hidle hrest, hafter, hupto, ?_, ?_, fun hshort => ?_,
    fun hend => ?_, hstill⟩
  · simp [State.calI_slewTo]
  · simp [State.calI_slewTo]
  · simp [State.calI_slewTo, Nat.not_le.2 hshort]
  · simp [State.calI_slewTo, hend, slewAt_end]

end Sys2Proof.Machine
end

section
/-!
SUPPORT. Chapter 16: the two results of a measurement. What an agreed pair leaves in the unit, in the registers and in the
records, and what a pair that disagrees leaves (R433, R438, R439, R442, R443, R445 to R447).
-/
namespace Sys2Proof.Machine
variable {s : State}

/-! ### The parts of an agreed result -/

/-- CAL_EXHAUSTED is raised when a correction was held at its limit (R433). -/
def State.limited (s : State) (k : Nat) (lim : Bool) : State :=
  if lim then s.raise kCAL_EXHAUSTED (calTarget k + calInst k * 256) else s

theorem State.calValue_eq {k : Nat} {a b w : List Int} {lim : Bool}
    (h : calClamp (calTarget k) (calMean (calTarget k) (s.calForce k) a b) = (w, lim)) : s.calValue k a b = (s.limited k lim, w) := by
  simp only [State.calValue, State.limited, h]

theorem State.calI_limited (s : State) (k : Nat) (lim : Bool) (j : Nat) : (s.limited k lim).calI j = s.calI j :=
  ite_keeps (·.calI j) (s.calI_raise ..) rfl

theorem State.limited_now (s : State) (k : Nat) (lim : Bool) : (s.limited k lim).now = s.now := ite_keeps (·.now) (s.raise_now ..) rfl
theorem State.limited_clk (s : State) (k : Nat) (lim : Bool) : (s.limited k lim).clk = s.clk := ite_keeps (·.clk) (s.raise_clk ..) rfl
theorem State.limited_nv (s : State) (k : Nat) (lim : Bool) : (s.limited k lim).nv = s.nv := ite_keeps (·.nv) (s.raise_nv ..) rfl

theorem State.limited_keep {o : Nat} (s : State) (k : Nat) (lim : Bool) : Keep o s (s.limited k lim) := .ite (Keep.refl.raise ..) .refl

theorem State.calI_calAgreed (s : State) (k : Nat) :
    (s.calAgreed k).calI k =
      { s.calI k with
        first := none, bins := [0, 0, 0, 0], lastAt := some s.now, due := (s.calI k).again, dueAt := s.now, again := false,
        overdue := 0 } := s.calI_modCal k _ k ▸ if_pos rfl

/-! ### The count and the date of an agreed result (R447) -/

/-- CAL_LAST_DATE and CAL_LAST_TIME show a calendar. -/
structure Dated (c : Clk) (s : State) : Prop where
  year : s.f CAL_LAST_DATE_YEAR = c.year % 512
  month : s.f CAL_LAST_DATE_MONTH = c.month % 16
  day : s.f CAL_LAST_DATE_DAY = c.day % 32
  hour : s.f CAL_LAST_TIME_HOUR = c.hour % 32
  minute : s.f CAL_LAST_TIME_MINUTE = c.minute % 64
  second : s.f CAL_LAST_TIME_SECOND = c.second % 64

theorem Dated.keep {c : Clk} {s' : State} (h : Dated c s) (hdate : Keep rCAL_LAST_DATE s s') (htime : Keep rCAL_LAST_TIME s s') :
    Dated c s' where
  year := (hdate.f CAL_LAST_DATE_YEAR).trans h.year
  month := (hdate.f CAL_LAST_DATE_MONTH).trans h.month
  day := (hdate.f CAL_LAST_DATE_DAY).trans h.day
  hour := (htime.f CAL_LAST_TIME_HOUR).trans h.hour
  minute := (htime.f CAL_LAST_TIME_MINUTE).trans h.minute
  second := (htime.f CAL_LAST_TIME_SECOND).trans h.second

/-- The calendar noted as that of the last agreed result. -/
def State.noteDate (s : State) : State :=
  s.setFields [(CAL_LAST_DATE_YEAR, s.clk.year), (CAL_LAST_DATE_MONTH, s.clk.month), (CAL_LAST_DATE_DAY, s.clk.day),
    (CAL_LAST_TIME_HOUR, s.clk.hour), (CAL_LAST_TIME_MINUTE, s.clk.minute), (CAL_LAST_TIME_SECOND, s.clk.second)]

theorem State.noteDate_dated (s : State) : Dated s.clk s.noteDate := by
  constructor <;>
  · simp (disch := decide) only [State.noteDate, State.setFields, State.f_setF_other, State.f_setF_same]
    rfl

theorem Keep.noteDate {o : Nat} {s₀ : State} (h : Keep o s₀ s) (hdate : o ≠ rCAL_LAST_DATE) (htime : o ≠ rCAL_LAST_TIME) :
    Keep o s₀ s.noteDate :=
  (((((h.setF _ _ hdate).setF _ _ hdate).setF _ _ hdate).setF _ _ htime).setF _ _ htime).setF _ _ htime

/-- An agreed result counted, for the engine and for its target. -/
def State.countAgreed (s : State) (tgt : Nat) : State := (s.incF CAL_COUNT_COUNT 1).incF (CAL_t_STAT_RESULTS tgt) 1

theorem State.countAgreed_count (s : State) (tgt : Nat) : (s.countAgreed tgt).f CAL_COUNT_COUNT = (s.f CAL_COUNT_COUNT + 1) % 2 ^ 32 := by
  have hstat : rCAL_COUNT ≠ (CAL_t_STAT_RESULTS tgt).off := by
    simp only [rCAL_COUNT, CAL_t_STAT_RESULTS]
    omega
  have hkeep : Keep rCAL_COUNT (s.incF CAL_COUNT_COUNT 1) (s.countAgreed tgt) := Keep.refl.incF _ _ hstat
  exact (hkeep.f CAL_COUNT_COUNT).trans (State.f_setF_same s CAL_COUNT_COUNT _)

/-- The registers of an agreed result are those of the count and the date. -/
theorem State.calAgreed_regs (s : State) (k : Nat) : (s.calAgreed k).regs = (s.countAgreed (calTarget k)).noteDate.regs := rfl

theorem Keep.calAgreed {o : Nat} (s : State) (k : Nat) : Keep o (s.countAgreed (calTarget k)).noteDate (s.calAgreed k) :=
  Keep.refl.regs (s.calAgreed_regs k)

theorem State.calAgreed_count (s : State) (k : Nat) : (s.calAgreed k).f CAL_COUNT_COUNT = (s.f CAL_COUNT_COUNT + 1) % 2 ^ 32 := by
  have hkeep : Keep rCAL_COUNT (s.countAgreed (calTarget k)) (s.calAgreed k) :=
    .trans (Keep.refl.noteDate (by decide) (by decide)) (.calAgreed s k)
  rw [hkeep.f CAL_COUNT_COUNT, State.countAgreed_count]

theorem State.calAgreed_dated (s : State) (k : Nat) : Dated s.clk (s.calAgreed k) :=
  (s.countAgreed (calTarget k)).noteDate_dated.keep (.calAgreed s k) (.calAgreed s k)

/-- Registers of other blocks stay as they are through an agreed result. -/
theorem Keep.calAgreed_below {o : Nat} (s : State) (k : Nat) (ho : o < 0x1E0000) : Keep o s (s.calAgreed k) := by
  have hne {r : Nat} (hr : 0x1E0000 ≤ r) : o ≠ r := Nat.ne_of_lt (Nat.lt_of_lt_of_le ho hr)
  have hcount : Keep o s (s.countAgreed (calTarget k)) :=
    (Keep.refl.incF CAL_COUNT_COUNT 1 (hne (by decide))).incF _ _ (hne (by simp only [CAL_t_STAT_RESULTS]; omega))
  exact .trans (hcount.noteDate (hne (by decide)) (hne (by decide))) (.calAgreed s k)

/-! ### The new value brought in (R442) -/

/-- What an agreed result has set in its unit stays while its value is brought in. -/
structure SameSchedule (x y : CalInst) : Prop where
  first : y.first = x.first
  lastAt : y.lastAt = x.lastAt
  due : y.due = x.due

theorem State.slewNew_schedule (s : State) (k : Nat) (v : List Int) : SameSchedule (s.calI k) ((s.slewNew k v).calI k) := by
  simp only [State.slewNew]
  split_ifs <;> constructor <;> simp

theorem State.slewNew_value (s : State) (k : Nat) (v : List Int) :
    if calTarget k = 4 then ((s.slewNew k v).calI k).pendT = some v else ((s.slewNew k v).calI k).target = v := by
  simp only [State.slewNew]
  split_ifs <;> simp

theorem State.slewNew_nv (s : State) (k : Nat) (v : List Int) : (s.slewNew k v).nv = s.nv :=
  (Frame.refl.slewNew (μ := { cal := true }) k v rfl).nv.resolve_left (by decide)

/-! ### An agreed pair taken, and recorded -/

/-- An agreed result taken outside Dawn: counted, dated, and on its way to be the value in force. -/
def State.takeAgreed (s : State) (k : Nat) (w : List Int) : State :=
  ((s.calAgreed k).modCal k fun x => { x with factory := false }).slewNew k w

theorem State.calPair_agreed {k : Nat} {a b w : List Int} {lim : Bool} (hagree : calAgree (calTarget k) s.cal.policy.tol a b = true)
    (hclamp : calClamp (calTarget k) (calMean (calTarget k) (s.calForce k) a b) = (w, lim)) :
    s.calPair k a b = (((s.limited k lim).takeAgreed k w).calRecord k w).showFactory := by
  simp only [State.calPair, if_pos hagree, State.calValue_eq hclamp, State.takeAgreed]

theorem State.calPair_disagreed {k : Nat} {a b : List Int} (h : calAgree (calTarget k) s.cal.policy.tol a b = false) :
    s.calPair k a b = s.calDisagree k := by
  simp [State.calPair, h]

/-- What a state that has taken an agreed result owes to the state before. -/
structure Agreed (s s' : State) (k : Nat) : Prop where
  first : (s'.calI k).first = none
  lastAt : (s'.calI k).lastAt = some s.now
  due : (s'.calI k).due = (s.calI k).again
  count : s'.f CAL_COUNT_COUNT = (s.f CAL_COUNT_COUNT + 1) % 2 ^ 32
  dated : Dated s.clk s'

theorem calQuiet_count : CalQuiet rCAL_COUNT := ⟨by decide, by decide⟩
theorem calQuiet_date : CalQuiet rCAL_LAST_DATE := ⟨by decide, by decide⟩
theorem calQuiet_time : CalQuiet rCAL_LAST_TIME := ⟨by decide, by decide⟩

theorem State.takeAgreed_keep {o : Nat} (s : State) (k : Nat) (w : List Int) (ho : CalQuiet o) : Keep o (s.calAgreed k) (s.takeAgreed k w) :=
  .slewNew ho (Keep.refl.modCal _ _) k w

theorem State.takeAgreed_agreed (s : State) (k : Nat) (w : List Int) : Agreed s (s.takeAgreed k w) k := by
  have hinst := s.calI_calAgreed k
  obtain ⟨hfirst, hlast, hdue⟩ := ((s.calAgreed k).modCal k fun x => { x with factory := false }).slewNew_schedule k w
  rw [State.calI_modCal, if_pos rfl, hinst] at hfirst hlast hdue
  exact ⟨hfirst, hlast, hdue, ((s.takeAgreed_keep k w calQuiet_count).f CAL_COUNT_COUNT).trans (s.calAgreed_count k),
    (s.calAgreed_dated k).keep (s.takeAgreed_keep k w calQuiet_date) (s.takeAgreed_keep k w calQuiet_time)⟩

theorem State.takeAgreed_nv (s : State) (k : Nat) (w : List Int) : (s.takeAgreed k w).nv = s.nv := State.slewNew_nv ..

theorem State.takeAgreed_nvOk (s : State) (k : Nat) (w : List Int) : (s.takeAgreed k w).nvOk = s.nvOk :=
  (Keep.trans (.calAgreed_below s k (by decide)) (s.takeAgreed_keep k w ⟨by decide, by decide⟩)).nvOk

/-- An agreed result, held at its limit or not, is one of the state before. -/
theorem Agreed.of_limited {k : Nat} {lim : Bool} {c : State} (h : Agreed (s.limited k lim) c k) : Agreed s c k where
  first := h.first
  lastAt := s.limited_now k lim ▸ h.lastAt
  due := s.calI_limited k lim k ▸ h.due
  count := (s.limited_keep k lim).f CAL_COUNT_COUNT ▸ h.count
  dated := s.limited_clk k lim ▸ h.dated

/-- A new value recorded, with CAL_STATUS.FACTORY shown anew (R443, R445). -/
def State.keepValue (s : State) (k : Nat) (w : List Int) : State := (s.calRecord k w).showFactory

theorem State.calI_keepValue (s : State) (k : Nat) (w : List Int) :
    (s.keepValue k w).calI k = { s.calI k with nvWait := if s.nvOk then none else some w } := s.calI_calRecord k w

theorem State.keepValue_keep {o : Nat} (s : State) (k : Nat) (w : List Int) (ho : CalQuiet o) : Keep o s (s.keepValue k w) :=
  .showFactory ho (.calRecord ho .refl k w)

theorem Agreed.keepValue {k : Nat} {c : State} (h : Agreed s c k) (w : List Int) : Agreed s (c.keepValue k w) k where
  first := by rw [State.calI_keepValue]; exact h.first
  lastAt := by rw [State.calI_keepValue]; exact h.lastAt
  due := by rw [State.calI_keepValue]; exact h.due
  count := ((c.keepValue_keep k w calQuiet_count).f CAL_COUNT_COUNT).trans h.count
  dated := h.dated.keep (c.keepValue_keep k w calQuiet_date) (c.keepValue_keep k w calQuiet_time)

/-- Without the interlock's leave the value waits, and NV flash stays as it is (R446). -/
theorem State.keepValue_waits {k : Nat} {w : List Int} (h : s.nvOk = false) :
    ((s.keepValue k w).calI k).nvWait = some w ∧ (s.keepValue k w).fb CAL_STATUS_NV_PENDING = true ∧ (s.keepValue k w).nv = s.nv := by
  refine ⟨by simp [State.calI_keepValue, h], ?_, ?_⟩
  · rw [State.keepValue, State.showFactory, State.fb_setF_other _ CAL_STATUS_FACTORY _ _ (by decide), State.calRecord_waits h]
    exact State.showNvPend_of_waits (k := k) (by simp)
  · rw [State.keepValue, State.calRecord_waits h]
    rfl

theorem State.calCopy?_congr {s' : State} (h : s'.nv = s.nv) (k : Nat) : s'.calCopy? k = s.calCopy? k := by
  rw [State.calCopy?_eq, State.calCopy?_eq, h]

/-- An agreed pair leaves the unit's value with its record, written to the other copy or waiting (R445, R446). -/
structure Recorded (s s' : State) (k : Nat) (w : List Int) : Prop where
  waits : s.nvOk = false → (s'.calI k).nvWait = some w ∧ s'.fb CAL_STATUS_NV_PENDING = true ∧ s'.nv = s.nv
  first : s.nvOk = true → s.calCopy? k = none → s'.calCopy? k = some ({ seq := 1, vals := w }, true)
  next : s.nvOk = true → ∀ c isA, s.calCopy? k = some (c, isA) → c.seq + 1 < 2 ^ 32 - 1 →
    s'.calCopy? k = some ({ seq := c.seq + 1, vals := w }, !isA)

theorem State.keepValue_recorded (s : State) (k : Nat) (w : List Int) : Recorded s (s.keepValue k w) k w where
  waits := State.keepValue_waits
  first hnv h := State.calCopy?_calRecord_first hnv h
  next hnv _ _ h hseq := State.calCopy?_calRecord_next hnv h hseq

/-- What comes before, leaving NV flash and the interlock as they are, does not matter. -/
theorem Recorded.before {s' c : State} {k : Nat} {w : List Int} (h : Recorded s' c k w) (hnv : s'.nv = s.nv) (hok : s'.nvOk = s.nvOk) :
    Recorded s c k w where
  waits hwait := hnv ▸ h.waits (hok.trans hwait)
  first hwrite hcopy := h.first (hok.trans hwrite) ((State.calCopy?_congr hnv k).trans hcopy)
  next hwrite c isA hcopy := h.next (hok.trans hwrite) c isA ((State.calCopy?_congr hnv k).trans hcopy)

/-! ### A pair outside Dawn (R439) -/

theorem State.keepValue_value (s : State) (k : Nat) (w : List Int) :
    if calTarget k = 4 then (((s.takeAgreed k w).keepValue k w).calI k).pendT = some w
    else (((s.takeAgreed k w).keepValue k w).calI k).target = w := by
  rw [State.calI_keepValue]
  exact State.slewNew_value ..

/-- The second result of a pair, as one that agrees with the first. -/
structure PairTaken (s s' : State) (k : Nat) (w : List Int) (lim : Bool) : Prop where
  agreed : Agreed s s' k
  value : if calTarget k = 4 then (s'.calI k).pendT = some w else (s'.calI k).target = w
  exhausted : lim = true → s.Reported s' kCAL_EXHAUSTED (calTarget k + calInst k * 256)
  recorded : Recorded s s' k w

theorem State.calPair_taken {k : Nat} {a b w : List Int} {lim : Bool} (hagree : calAgree (calTarget k) s.cal.policy.tol a b = true)
    (hclamp : calClamp (calTarget k) (calMean (calTarget k) (s.calForce k) a b) = (w, lim)) :
    PairTaken s (s.calPair k a b) k w lim := by
  have hpair : s.calPair k a b = ((s.limited k lim).takeAgreed k w).keepValue k w := State.calPair_agreed hagree hclamp
  rw [hpair]
  refine ⟨(((s.limited k lim).takeAgreed_agreed k w).keepValue w).of_limited, State.keepValue_value .., fun hlim => ?_, ?_⟩
  · subst hlim
    exact .of_raise kCAL_EXHAUSTED _ .refl (((((Grow.refl.calAgreed k).modCal k _).slewNew k w).calRecord k w).showFactory)
  · exact (State.keepValue_recorded _ k w).before ((State.takeAgreed_nv ..).trans (s.limited_nv k lim))
      ((State.takeAgreed_nvOk ..).trans (s.limited_keep k lim).nvOk)

theorem State.calDisagree_discards (s : State) (k : Nat) :
    ((s.calDisagree k).calI k).first = none ∧ (s.calDisagree k).calForce k = s.calForce k ∧
    (s.calDisagree k).f (CAL_t_STAT_DISAGREE (calTarget k)) = min 65535 (s.f (CAL_t_STAT_DISAGREE (calTarget k)) + 1) ∧
    s.Raised (s.calDisagree k) 0 0 kCAL_DISAGREE (calTarget k) := by
  have hinst : (s.calDisagree k).calI k = { s.calI k with first := none, bins := [0, 0, 0, 0] } :=
    (State.calI_raise ..).trans (s.calI_modCal k _ k ▸ if_pos rfl)
  refine ⟨by rw [hinst], State.calForce_congr (by rw [hinst]), ?_, .raise rfl _ _⟩
  rw [State.calDisagree, State.raise_f, State.f_addF _ (CAL_t_STAT_DISAGREE (calTarget k)) 1 (by simp [CAL_t_STAT_DISAGREE])]
  rfl

/-! ### A pair of target 4 in Dawn (R443) -/

/-- An agreed result of Dawn, set at once. -/
def State.takeDawn (s : State) (k : Nat) (w : List Int) : State :=
  ((s.calAgreed k).modCal k fun x => { x with fromDawn := true, factory := false }).setCal k w

theorem State.calDawnPair_agreed {k : Nat} {a b w : List Int} {lim : Bool} (htarget : calTarget k = 4)
    (hagree : calAgree 4 s.cal.policy.tol a b = true) (hclamp : calClamp 4 (calMean 4 (s.calForce k) a b) = (w, lim)) :
    s.calDawnPair k a b = ((s.limited k lim).takeDawn k w).keepValue k w := by
  have hvalue : s.calValue k a b = (s.limited k lim, w) := State.calValue_eq (by rw [htarget]; exact hclamp)
  simp only [State.calDawnPair, if_pos htarget, if_pos hagree, hvalue, State.takeDawn, State.keepValue]

theorem State.calI_takeDawn (s : State) (k : Nat) (w : List Int) :
    (s.takeDawn k w).calI k = { (s.calAgreed k).calI k with fromDawn := true, factory := false, force := w } := by
  simp [State.takeDawn]

theorem State.takeDawn_keep {o : Nat} (s : State) (k : Nat) (w : List Int) (ho : CalQuiet o) : Keep o (s.calAgreed k) (s.takeDawn k w) :=
  .setCal (Keep.refl.modCal _ _) k w ho.low

theorem State.takeDawn_agreed (s : State) (k : Nat) (w : List Int) : Agreed s (s.takeDawn k w) k where
  first := by rw [State.calI_takeDawn, State.calI_calAgreed]
  lastAt := by rw [State.calI_takeDawn, State.calI_calAgreed]
  due := by rw [State.calI_takeDawn, State.calI_calAgreed]
  count := ((s.takeDawn_keep k w calQuiet_count).f CAL_COUNT_COUNT).trans (s.calAgreed_count k)
  dated := (s.calAgreed_dated k).keep (s.takeDawn_keep k w calQuiet_date) (s.takeDawn_keep k w calQuiet_time)

theorem State.calDawnPair_taken {k : Nat} {a b w : List Int} {lim : Bool} (htarget : calTarget k = 4)
    (hagree : calAgree 4 s.cal.policy.tol a b = true) (hclamp : calClamp 4 (calMean 4 (s.calForce k) a b) = (w, lim)) :
    Agreed s (s.calDawnPair k a b) k ∧ ((s.calDawnPair k a b).calI k).force = w ∧ ((s.calDawnPair k a b).calI k).fromDawn = true := by
  rw [State.calDawnPair_agreed htarget hagree hclamp]
  refine ⟨(((s.limited k lim).takeDawn_agreed k w).keepValue w).of_limited, ?_, ?_⟩
  all_goals rw [State.calI_keepValue, State.calI_takeDawn]

/-! ### CAL_MEASUREMENT_COMPLETE -/

@[simp] theorem State.calOpen_at (s : State) (t k : Nat) : (s.at t).calOpen k = s.calOpen k := by
  have hinst : calInst k < 256 := Nat.mod_lt _ (by decide)
  have hspeed : Keep (rMOT_a_STATUS (calInst k)) s (s.at t) := .at_below s t (by simp only [rMOT_a_STATUS]; omega)
  simp only [State.calOpen, State.calEnabled_at, State.calI_at, State.f_at s t CAL_CTRL_HOLD, State.st_at, State.anyGap, State.at_wins,
    hspeed.fb (MOT_a_STATUS_AT_SPEED (calInst k)), State.at_tileRec?, State.at_win]

theorem State.calOpen_notDawn {k : Nat} (h : s.calOpen k = true) : s.st ≠ DAWN := by
  intro hst
  simp [State.calOpen, hst, DAWN, MORNING, NOON, EVENING] at h

/-- The result that a measurement gives: target 3's is what its bins hold (R437). -/
def State.calGiven (s : State) (target inst : Nat) (vals : List Int) : List Int :=
  if target = 3 then (s.calI (target * 256 + inst)).bins.map fun (b : Nat) => (b : Int) else vals

section
variable {t target inst : Nat} {vals : List Int} (htarget : target < 5) (hinst : inst < calCount target)
  (hopen : s.calOpen (target * 256 + inst) = true)
include htarget hinst hopen

theorem exec_calMeasurementComplete :
    exec (.calMeasurementComplete t target inst vals) s =
      .next ((s.at t).calResult (target * 256 + inst) (s.calGiven target inst vals) fun z a =>
        z.calPair (target * 256 + inst) a (s.calGiven target inst vals)) := by
  have hexists : ¬(target ≥ 5 ∨ inst ≥ calCount target) := by omega
  change execCalMeasurementComplete t target inst vals s = _
  simp [execCalMeasurementComplete, hexists, State.calOpen_notDawn hopen, hopen, State.calGiven]

theorem exec_calMeasurementComplete_second {a : List Int} (hfirst : (s.calI (target * 256 + inst)).first = some a) :
    exec (.calMeasurementComplete t target inst vals) s =
      .next ((s.at t).calPair (target * 256 + inst) a (s.calGiven target inst vals)) := by
  rw [exec_calMeasurementComplete htarget hinst hopen, State.calResult, State.calI_at, hfirst]

theorem calMeasurementComplete_first (hfirst : (s.calI (target * 256 + inst)).first = none) :
    ∃ s', exec (.calMeasurementComplete t target inst vals) s = .next s' ∧
      (s'.calI (target * 256 + inst)).first = some (s.calGiven target inst vals) ∧
      s'.calForce (target * 256 + inst) = s.calForce (target * 256 + inst) ∧ s'.f CAL_COUNT_COUNT = s.f CAL_COUNT_COUNT := by
  refine ⟨_, exec_calMeasurementComplete htarget hinst hopen, ?_⟩
  rw [State.calResult, State.calI_at, hfirst]
  exact ⟨by simp, State.calForce_congr (by simp), s.f_at t CAL_COUNT_COUNT⟩

theorem calMeasurementComplete_disagrees {a : List Int} (hfirst : (s.calI (target * 256 + inst)).first = some a)
    (hagree : calAgree target s.cal.policy.tol a (s.calGiven target inst vals) = false) :
    ∃ s', exec (.calMeasurementComplete t target inst vals) s = .next s' ∧ (s'.calI (target * 256 + inst)).first = none ∧
      s'.calForce (target * 256 + inst) = s.calForce (target * 256 + inst) ∧
      s'.f (CAL_t_STAT_DISAGREE target) = min 65535 (s.f (CAL_t_STAT_DISAGREE target) + 1) ∧
      (s.at t).Raised s' 0 0 kCAL_DISAGREE target := by
  have hkey : calTarget (target * 256 + inst) = target := calTarget_key (by have := calCount_le target; omega)
  have hstat : (s.at t).f (CAL_t_STAT_DISAGREE target) = s.f (CAL_t_STAT_DISAGREE target) :=
    (Keep.at_below s t (o := rCAL_t_STAT target) (by simp only [rCAL_t_STAT]; omega)).f _
  obtain ⟨hnone, hforce, hcount, hraised⟩ := (s.at t).calDisagree_discards (target * 256 + inst)
  rw [hkey] at hcount hraised
  rw [State.calForce_at] at hforce
  rw [hstat] at hcount
  refine ⟨_, exec_calMeasurementComplete_second htarget hinst hopen hfirst, ?_⟩
  rw [State.calPair_disagreed (by rwa [hkey, State.at_cal])]
  exact ⟨hnone, hforce, hcount, hraised⟩

theorem calMeasurementComplete_agrees {a w : List Int} {lim : Bool} (hfirst : (s.calI (target * 256 + inst)).first = some a)
    (hagree : calAgree target s.cal.policy.tol a (s.calGiven target inst vals) = true)
    (hclamp : calClamp target (calMean target (s.calForce (target * 256 + inst)) a (s.calGiven target inst vals)) = (w, lim)) :
    ∃ s', exec (.calMeasurementComplete t target inst vals) s = .next s' ∧ PairTaken (s.at t) s' (target * 256 + inst) w lim := by
  have hkey : calTarget (target * 256 + inst) = target := calTarget_key (by have := calCount_le target; omega)
  refine ⟨_, exec_calMeasurementComplete_second htarget hinst hopen hfirst, State.calPair_taken ?_ ?_⟩
  · rwa [hkey, State.at_cal]
  · rwa [hkey, State.calForce_at]

end

theorem calMeasurementComplete_dawn {t inst : Nat} {vals a w : List Int} {lim : Bool} (hinst : inst < 96) (hst : s.st = DAWN)
    (hdone : s.fb SYS_STATE_DAWN_DONE = false) (hup : s.tileUp inst = true) (hfirst : (s.calI (1024 + inst)).first = some a)
    (hagree : calAgree 4 s.cal.policy.tol a vals = true)
    (hclamp : calClamp 4 (calMean 4 (s.calForce (1024 + inst)) a vals) = (w, lim)) :
    ∃ s', exec (.calMeasurementComplete t 4 inst vals) s = .next s' ∧ (s'.calI (1024 + inst)).force = w ∧
      (s'.calI (1024 + inst)).fromDawn = true ∧ (s'.calI (1024 + inst)).first = none ∧
      s'.f CAL_COUNT_COUNT = (s.f CAL_COUNT_COUNT + 1) % 2 ^ 32 := by
  have hexec : exec (.calMeasurementComplete t 4 inst vals) s = .next ((s.at t).calDawnPair (1024 + inst) a vals) := by
    have hcount : ¬(calCount 4 ≤ inst) := Nat.not_le.2 hinst
    change execCalMeasurementComplete t 4 inst vals s = _
    simp [execCalMeasurementComplete, hcount, hst, State.fb_at s t SYS_STATE_DAWN_DONE, hdone, State.tileUp_at s t hinst, hup,
      State.calResult, hfirst]
  have hkey : calTarget (1024 + inst) = 4 := calTarget_key (t := 4) (by omega)
  obtain ⟨hagreed, hforce, hdawn⟩ := State.calDawnPair_taken (s := s.at t) (b := vals) (w := w) (lim := lim) hkey
    (by rwa [State.at_cal]) (by rwa [State.calForce_at])
  exact ⟨_, hexec, hforce, hdawn, hagreed.first, s.f_at t CAL_COUNT_COUNT ▸ hagreed.count⟩

end Sys2Proof.Machine
end

section
/-!
SUPPORT. Chapter 16: the import of KH-4806 records (R448, R449).
-/
namespace Sys2Proof.Machine
variable {s : State}

/-! ### Lists without repetition -/

theorem length_eraseDups_le (l : List Nat) : l.eraseDups.length ≤ l.length := by
  induction h : l.length using Nat.strong_induction_on generalizing l with
  | _ n ih =>
    cases l with
    | nil => simp
    | cons a r =>
      have hfilter := List.length_filter_le (fun b => !b == a) r
      have hrest := ih _ (by rw [← h, List.length_cons]; omega) (r.filter fun b => !b == a) rfl
      rw [List.eraseDups_cons, List.length_cons]
      rw [List.length_cons] at h
      omega

/-- A list that loses nothing when its repetitions go has none. -/
theorem nodup_of_length_eraseDups (l : List Nat) (h : l.eraseDups.length = l.length) : l.Nodup := by
  induction l with
  | nil => exact List.nodup_nil
  | cons a r ih =>
    rw [List.eraseDups_cons, List.length_cons, List.length_cons] at h
    have hdups := length_eraseDups_le (r.filter fun b => !b == a)
    have hfilter := List.length_filter_le (fun b => !b == a) r
    have hall : r.filter (fun b => !b == a) = r := List.filter_eq_self.2 (List.length_filter_eq_length_iff.1 (by omega))
    rw [hall] at h
    refine List.nodup_cons.2 ⟨fun hmem => ?_, ih (by omega)⟩
    simpa using List.filter_eq_self.1 hall a hmem

/-! ### A record stored in its slot -/

/-- The entries of a record set in a table, under the keys of a slot. -/
def storeEntries (base : Nat) (es : List (Nat × CompatEntry)) (m : List (Nat × CompatEntry)) : List (Nat × CompatEntry) :=
  es.foldl (fun l e => insertKey (base + e.1) e.2 l) m

theorem lookup_storeEntries_other {base j : Nat} {es : List (Nat × CompatEntry)} (h : ∀ e ∈ es, j ≠ base + e.1)
    (m : List (Nat × CompatEntry)) : lookup? (storeEntries base es m) j = lookup? m j := by
  induction es generalizing m with
  | nil => rfl
  | cons e r ih =>
    exact (ih (fun x hx => h x (List.mem_cons_of_mem _ hx)) _).trans (lookup_insertKey_other _ _ _ _ (h e (List.mem_cons_self ..)))

theorem lookup_storeEntries {base : Nat} {es : List (Nat × CompatEntry)} (h : (es.map (·.1)).Nodup)
    (m : List (Nat × CompatEntry)) : ∀ e ∈ es, lookup? (storeEntries base es m) (base + e.1) = some e.2 := by
  induction es generalizing m with
  | nil => exact fun e he => absurd he (List.not_mem_nil)
  | cons e r ih =>
    obtain ⟨hnew, hrest⟩ := List.nodup_cons.1 (show (e.1 :: r.map (·.1)).Nodup from h)
    intro x hx
    rcases List.mem_cons.1 hx with rfl | hx
    · have hlater : ∀ y ∈ r, base + x.1 ≠ base + y.1 := fun y hy hkey =>
        hnew (List.mem_map.2 ⟨y, hy, (Nat.add_left_cancel hkey).symm⟩)
      exact (lookup_storeEntries_other hlater _).trans (lookup_insertKey ..)
    · exact ih hrest _ x hx

/-- Entries of the other slot stay when a slot is emptied. -/
theorem lookup_filter_slot {slot j : Nat} (h : j / 256 ≠ slot) (m : List (Nat × CompatEntry)) :
    lookup? (m.filter fun e => e.1 / 256 != slot) j = lookup? m j := by
  simp only [lookup?, List.find?_filter]
  congr 2
  funext e
  by_cases hkey : e.1 = j
  · simp [hkey, h]
  · simp [hkey]

/-! ### A record that may be imported (R449) -/

/-- A record that may be imported names each tile once, and no tile above 95. -/
theorem State.importRecord?_tiles {off base slot : Nat} {es : List (Nat × CompatEntry)} (h : s.importRecord? off base slot = some es) :
    (es.map (·.1)).Nodup ∧ ∀ e ∈ es, e.1 ≤ 95 := by
  obtain ⟨hchecks, hes⟩ := Option.ite_none_right_eq_some.1 h
  obtain rfl := Option.some.inj hes
  simp only [Bool.and_eq_true] at hchecks
  obtain ⟨⟨⟨-, htiles⟩, honce⟩, -⟩ := hchecks
  refine ⟨?_, fun e he => ?_⟩
  · simpa [Function.comp_def] using nodup_of_length_eraseDups _ (beq_iff_eq.1 honce)
  · obtain ⟨b, hb, rfl⟩ := List.mem_map.1 he
    simpa using List.all_eq_true.1 htiles _ (List.mem_map_of_mem hb)

/-- The fields of a write of CAL_IMPORT taken. -/
def State.importSet (s : State) (v : Word) : State :=
  s.setFields [(CAL_IMPORT_BASE, CAL_IMPORT_BASE.get v), (CAL_IMPORT_SLOT, CAL_IMPORT_SLOT.get v), (CAL_IMPORT_OFFSET, CAL_IMPORT_OFFSET.get v)]

theorem State.importSet_fields (s : State) (v : Word) :
    (s.importSet v).f CAL_IMPORT_BASE = bits v.toNat 30 24 ∧ (s.importSet v).f CAL_IMPORT_SLOT = bits v.toNat 23 23 ∧
    (s.importSet v).f CAL_IMPORT_OFFSET = v.toNat % 2 ^ 16 := by
  refine ⟨?_, ?_, ?_⟩
  all_goals
    simp (disch := decide) only [State.importSet, State.setFields, State.f_setF_other, State.f_setF_same]
    simp [Field.get, CAL_IMPORT_BASE, CAL_IMPORT_SLOT, CAL_IMPORT_OFFSET, bits]

theorem State.importSet_keep {o : Nat} (s : State) (v : Word) (ho : o ≠ rCAL_IMPORT) : Keep o s (s.importSet v) :=
  ((Keep.refl.setF _ _ ho).setF _ _ ho).setF _ _ ho

/-- The record that a write of CAL_IMPORT names, if it may be imported. -/
def State.importOf (s : State) (v : Word) : Option (List (Nat × CompatEntry)) :=
  s.importRecord? (v.toNat % 2 ^ 16 * 64) (bits v.toNat 30 24) (bits v.toNat 23 23)

/-- Imports are taken in Night, Dawn and Morning, while the interlock allows writes to NV flash (R407, R449). -/
def State.importOpen (s : State) : Bool := (s.st = NIGHT || s.st = DAWN || s.st = MORNING) && s.nvOk

/-- A slot emptied, and a record's entries stored in it. -/
def State.storeRecord (s : State) (slot : Nat) (es : List (Nat × CompatEntry)) : State :=
  { s with nv := { s.nv with compat := storeEntries (slot * 256) es (s.nv.compat.filter fun e => e.1 / 256 != slot) } }

theorem State.storeRecord_keep {o : Nat} (s : State) (slot : Nat) (es : List (Nat × CompatEntry)) : Keep o s (s.storeRecord slot es) := .refl

theorem State.storeRecord_compat (s : State) (slot : Nat) (es : List (Nat × CompatEntry)) :
    (s.storeRecord slot es).nv.compat = storeEntries (slot * 256) es (s.nv.compat.filter fun e => e.1 / 256 != slot) := rfl

theorem State.importSet_open (s : State) (v : Word) : (s.importSet v).importOpen = s.importOpen := by
  have hst : (s.importSet v).st = s.st := (s.importSet_keep v (o := rSYS_STATE) (by decide)).f SYS_STATE_STATE
  have hnv : (s.importSet v).nvOk = s.nvOk := (s.importSet_keep v (by decide)).nvOk
  simp only [State.importOpen, hst, hnv]

/-- The record is read where the fields just written say. -/
theorem State.importSet_record (s : State) (v : Word) :
    (s.importSet v).importRecord? ((s.importSet v).f CAL_IMPORT_OFFSET * 64) ((s.importSet v).f CAL_IMPORT_BASE)
      ((s.importSet v).f CAL_IMPORT_SLOT) = s.importOf v := by
  obtain ⟨hbase, hslot, hoffset⟩ := s.importSet_fields v
  rw [hbase, hslot, hoffset]
  rfl

section
variable {v : Word} (hgo : CAL_IMPORT_GO.get v = 1)
include hgo

theorem State.writeCalImport_found {es : List (Nat × CompatEntry)} (h : s.importOf v = some es) :
    s.writeCalImport v =
      if s.importOpen then (s.importSet v).storeRecord (bits v.toNat 23 23) es else (s.importSet v).setF CAL_STATUS_IMPORT_ERR 1 := by
  have hgo' : CAL_IMPORT_GO.get v ≠ 0 := by omega
  have hfound := (s.importSet_record v).trans h
  obtain ⟨-, hslot, -⟩ := s.importSet_fields v
  rw [← hslot, ← s.importSet_open v]
  simp only [State.importSet] at hfound ⊢
  simp only [State.writeCalImport, if_neg hgo', hfound]
  rfl

theorem State.writeCalImport_notFound (h : s.importOf v = none) :
    s.writeCalImport v = (s.importSet v).setF CAL_STATUS_IMPORT_ERR 1 := by
  have hgo' : CAL_IMPORT_GO.get v ≠ 0 := by omega
  have hfound := (s.importSet_record v).trans h
  simp only [State.importSet] at hfound ⊢
  simp only [State.writeCalImport, if_neg hgo', hfound]

/-- An import is refused without a record that may be imported, and where none is taken. -/
theorem State.writeCalImport_refuses (h : s.importOf v = none ∨ s.importOpen = false) :
    s.writeCalImport v = (s.importSet v).setF CAL_STATUS_IMPORT_ERR 1 := by
  cases hrecord : s.importOf v with
  | none => exact State.writeCalImport_notFound hgo hrecord
  | some es =>
    have hclosed : ¬s.importOpen = true := by simpa [hrecord] using h
    rw [State.writeCalImport_found hgo hrecord, if_neg hclosed]

end

/-! ### CAL_IMPORT -/

theorem exec_calImport {t : Nat} {v : Word} (hwrite : s.writable rCAL_IMPORT = true) (hgo : CAL_IMPORT_GO.get v = 1) :
    exec (.calImport t v) s = .next ((s.at t).writeCalImport v) := by
  have hwritten := State.onWrite_at s t rCAL_IMPORT (fun s => if CAL_IMPORT_GO.get v = 1 then s.writeCalImport v else s) hwrite
  rw [if_pos hgo] at hwritten
  exact congrArg Host.Outcome.next hwritten

theorem State.importOf_at (s : State) (t : Nat) (v : Word) : (s.at t).importOf v = s.importOf v := by
  rw [State.at_eq]
  rfl

theorem State.importOpen_at (s : State) (t : Nat) : (s.at t).importOpen = s.importOpen := by
  simp only [State.importOpen, State.st_at, State.nvOk_at]

theorem State.importSet_nv (s : State) (v : Word) : (s.importSet v).nv = s.nv := rfl

theorem calImport_stores {t : Nat} {v : Word} {es : List (Nat × CompatEntry)} (hwrite : s.writable rCAL_IMPORT = true)
    (hbit : bit v.toNat 31 = true) (hrecord : s.importOf v = some es) (hopen : s.importOpen = true) :
    ∃ s', exec (.calImport t v) s = .next s' ∧ s'.f CAL_STATUS_IMPORT_ERR = s.f CAL_STATUS_IMPORT_ERR ∧
      (∀ e ∈ es, lookup? s'.nv.compat (bits v.toNat 23 23 * 256 + e.1) = some e.2) ∧
      (∀ j, j / 256 ≠ bits v.toNat 23 23 → lookup? s'.nv.compat j = lookup? s.nv.compat j) := by
  have hgo : CAL_IMPORT_GO.get v = 1 := get_bit31 rfl rfl hbit
  obtain ⟨honce, htiles⟩ := State.importRecord?_tiles hrecord
  have hset : Keep rCAL_STATUS s ((s.at t).importSet v) := .trans (Keep.refl.at t rfl) ((s.at t).importSet_keep v (by decide))
  refine ⟨_, exec_calImport hwrite hgo, ?_⟩
  rw [State.writeCalImport_found hgo ((s.importOf_at t v).trans hrecord), if_pos ((s.importOpen_at t).trans hopen),
    State.storeRecord_compat, State.importSet_nv, State.at_nv]
  refine ⟨(hset.trans (State.storeRecord_keep ..)).f CAL_STATUS_IMPORT_ERR, lookup_storeEntries honce _, fun j hj => ?_⟩
  have hother : ∀ e ∈ es, j ≠ bits v.toNat 23 23 * 256 + e.1 := fun e he hkey => hj (by have := htiles e he; omega)
  exact (lookup_storeEntries_other hother _).trans (lookup_filter_slot hj _)

theorem calImport_refuses {t : Nat} {v : Word} (hwrite : s.writable rCAL_IMPORT = true) (hbit : bit v.toNat 31 = true)
    (h : s.importOf v = none ∨ s.importOpen = false) :
    ∃ s', exec (.calImport t v) s = .next s' ∧ s'.fb CAL_STATUS_IMPORT_ERR = true ∧ s'.nv = s.nv := by
  have hgo : CAL_IMPORT_GO.get v = 1 := get_bit31 rfl rfl hbit
  refine ⟨_, exec_calImport hwrite hgo, ?_⟩
  rw [State.writeCalImport_refuses hgo (by rwa [State.importOf_at, State.importOpen_at])]
  exact ⟨State.fb_setF_same _ CAL_STATUS_IMPORT_ERR 1, s.at_nv t⟩

/-! ### The claims about calibration together -/

theorem State.calGiven_eq (s : State) (target inst : Nat) (vals : List Int) :
    s.calGiven target inst vals = if target = 3 then (s.calI (768 + inst)).bins.map (fun (b : Nat) => (b : Int)) else vals := by
  rw [State.calGiven]
  split_ifs with htarget
  · rw [htarget]
  · rfl

theorem State.importOpen_iff : s.importOpen = true ↔ (s.st = NIGHT ∨ s.st = DAWN ∨ s.st = MORNING) ∧ s.nvOk = true := by
  simp [State.importOpen, or_assoc]

/-- Settles O34: the due and overdue units by what making due sets, a measured pair by what taking and recording its value
leave, a slew without line events by the next point of its course, and an import by the record found and the conditions that
open NV flash. -/
theorem calibrationMeasured : Obligations.CalibrationMeasured := by
  unfold Obligations.CalibrationMeasured
  refine ⟨fun s t k v => runNow_makesDue, fun s t k x hlast hexists henabled hdue => ⟨?_, ?_⟩, fun s t k => calOverdue_reports,
    fun s t target inst vals a v htarget hinst hopen hv => ?_, fun s t inst vals a w lim => calMeasurementComplete_dawn,
    fun s t k => calSlewIdleStep_steps, fun s t v hwrite hbit => ⟨fun es hrecord hst hnv => ?_, fun h => ?_⟩⟩
  · exact calInstanceDue_due hlast hexists henabled hdue
  · exact calInstanceDue_waits hlast hexists henabled hdue
  · rw [← s.calGiven_eq] at hv
    subst hv
    refine ⟨calMeasurementComplete_first htarget hinst hopen, calMeasurementComplete_disagrees htarget hinst hopen,
      fun hfirst hagree w lim hclamp => ?_⟩
    obtain ⟨s', hexec, htaken⟩ := calMeasurementComplete_agrees (t := t) htarget hinst hopen hfirst hagree hclamp
    have hlt : inst < 256 := by have := calCount_le target; omega
    obtain ⟨⟨hnone, hlast, hdue, hcount, ⟨hyear, hmonth, hday, hhour, hminute, hsecond⟩⟩, hvalue, hexhausted, hrecorded⟩ := htaken
    rw [calTarget_key hlt] at hvalue hexhausted
    rw [calInst_key hlt] at hexhausted
    rw [State.at_now] at hlast
    rw [State.calI_at] at hdue
    rw [s.f_at t CAL_COUNT_COUNT] at hcount
    rw [State.at_clk] at hyear hmonth hday hhour hminute hsecond
    obtain ⟨hwaits, hstored, hnext⟩ := hrecorded.before (s.at_nv t) (s.nvOk_at t)
    exact ⟨s', hexec, hnone, hlast, hdue, hvalue, hcount, hyear, hmonth, hday, hhour, hminute, hsecond,
      fun hlim => .left (Grow.refl.at t) (hexhausted hlim), hwaits, hstored, hnext⟩
  · exact calImport_stores hwrite hbit hrecord (State.importOpen_iff.2 ⟨hst, hnv⟩)
  · have hrefused : s.importOf v = none ∨ s.importOpen = false := by
      rcases h with hnone | hclosed
      · exact .inl hnone
      · refine .inr (Bool.eq_false_iff.2 fun hopen => ?_)
        obtain ⟨hst, hnv⟩ := State.importOpen_iff.1 hopen
        rcases hclosed with hheld | ⟨hnight, hdawn, hmorning⟩
        · exact absurd hnv (by rw [hheld]; decide)
        · simp [hnight, hdawn, hmorning] at hst
    exact calImport_refuses hwrite hbit hrefused

end Sys2Proof.Machine
end

section
/-!
SUPPORT. Chapter 17: the set and clear views (R459), memory errors (R460), performance counters and dumps (R462 to R464), and random
tagging (R465, R466): what each write, error, dump and record leaves.
-/
namespace Sys2Proof.Machine
set_option Elab.async false
variable {s : State}

/-! ### The set and clear views (R459) -/

/-- What a byte of a view's write leaves of a byte of the form store: the new one, both together, or the old one without it. -/
def aliasByte (view : Nat) (old : Byte) (b : Nat) : Byte :=
  if view = 0 then BitVec.ofNat 8 b else if view = 1 then old ||| BitVec.ofNat 8 b else old &&& ~~~ BitVec.ofNat 8 b

/-- `aliasByte` as the write computes it, in numbers. -/
theorem ofNat_aliasByte (view : Nat) (old : Byte) (b : Nat) :
    BitVec.ofNat 8 (if view = 0 then b % 256 else if view = 1 then old.toNat ||| b % 256 else old.toNat &&& (255 - b % 256)) =
      aliasByte view old b := by
  have hbyte : b % 256 = (BitVec.ofNat 8 b).toNat := (BitVec.toNat_ofNat b 8).symm
  have hrest : 255 - (BitVec.ofNat 8 b).toNat = (~~~ BitVec.ofNat 8 b).toNat := (BitVec.toNat_not (x := BitVec.ofNat 8 b)).symm
  rw [hbyte, hrest, aliasByte]
  split_ifs
  · exact BitVec.ofNat_toNat ..
  · rw [← BitVec.toNat_or, BitVec.ofNat_toNat, BitVec.setWidth_eq]
  · rw [← BitVec.toNat_and, BitVec.ofNat_toNat, BitVec.setWidth_eq]

theorem Mem.byteAt_getBytes (d : Nat → Byte) (m : List Host.Cell) {a n i : Nat} (h : i < n) :
    byteAt (Mem.getBytes d m a n) i = (Sparse.get d m (a + i)).toNat := by
  induction n generalizing a i with
  | zero => omega
  | succ n ih =>
    cases i with
    | zero => rfl
    | succ i =>
      have hrest : byteAt (Mem.getBytes d m a (n + 1)) (i + 1) = byteAt (Mem.getBytes d m (a + 1) n) i := rfl
      rw [hrest, ih (by omega), Nat.add_right_comm, Nat.add_assoc]

theorem byteAt_zip_map (f : Nat × Nat → Nat) (xs bs : List Nat) {i : Nat} (hx : i < xs.length) (hb : i < bs.length) :
    byteAt ((xs.zip bs).map f) i = f (byteAt xs i, byteAt bs i) := by
  simp [byteAt, hx, hb]

theorem State.countForm_mem (s : State) (a n : Nat) : (s.countForm a n).mem = s.mem :=
  ite_keeps (·.mem) rfl (foldl_keeps (·.mem) _ _ fun _ _ _ => State.count_mem ..)

/-- One write of a view changes the bytes of its word as the view says, and no other byte (R459). -/
theorem State.get_aliasWrite {view o : Nat} {bs : List Nat} (hview : view ≤ 2) (hsize : wordSized o bs.length = true) (x : Nat) :
    Sparse.get Config.formPowerOn (s.aliasWrite view o bs).mem.form x =
      if s.aliasAddr o ≤ x ∧ x < s.aliasAddr o + bs.length then
        aliasByte view (Sparse.get Config.formPowerOn s.mem.form x) (byteAt bs (x - s.aliasAddr o))
      else Sparse.get Config.formPowerOn s.mem.form x := by
  have hlen : (s.formBytes (s.aliasAddr o) bs.length).length = bs.length := Mem.length_getBytes ..
  rw [State.aliasWrite, if_neg (by omega), if_neg (by simp [hsize]), State.countForm_mem, State.putForm, Mem.get_putBytes,
    List.length_map, List.length_zip, hlen, min_self]
  split
  · next hx =>
    have hi : x - s.aliasAddr o < bs.length := by omega
    rw [byteAt_zip_map _ _ _ (hlen.symm ▸ hi) hi, State.formBytes, Mem.byteAt_getBytes _ _ hi, Nat.add_sub_of_le hx.1]
    exact ofNat_aliasByte view _ _
  · rfl

theorem State.aliasAddr_at (s : State) (t : Nat) {off : Nat} (h : off < 2 ^ 18) :
    (s.at t).aliasAddr off = s.f MEM_ATOM_BASE_BASE * 2 ^ 18 + off := by
  rw [State.aliasAddr, State.f_at s t MEM_ATOM_BASE_BASE, Nat.mod_eq_of_lt h]

theorem wordSized_four {off : Nat} (h : off % 4 = 0) : wordSized off 4 = true := by simp [wordSized, h]

section
variable {t off : Nat} {data : List Nat} (hoff : off < 2 ^ 18)
include hoff

theorem exec_aliasSetWrite (hwrite : s.writable (0xB40000 + off) = true) :
    exec (.aliasSetWrite t off data) s = .next ((s.at t).aliasWrite 1 off data) :=
  congrArg Host.Outcome.next ((State.onWrite_at s t _ _ hwrite).trans (if_pos hoff))

theorem exec_aliasClearWrite (hwrite : s.writable (0xB80000 + off) = true) :
    exec (.aliasClearWrite t off data) s = .next ((s.at t).aliasWrite 2 off data) :=
  congrArg Host.Outcome.next ((State.onWrite_at s t _ _ hwrite).trans (if_pos hoff))

/-- A view's write of an aligned word, byte by byte. -/
theorem State.get_aliasWrite_word {view : Nat} (hview : view ≤ 2) (hlen : data.length = 4) (halign : off % 4 = 0) (x : Nat) :
    Sparse.get Config.formPowerOn ((s.at t).aliasWrite view off data).mem.form x =
      if s.f MEM_ATOM_BASE_BASE * 2 ^ 18 + off ≤ x ∧ x < s.f MEM_ATOM_BASE_BASE * 2 ^ 18 + off + 4 then
        aliasByte view (Sparse.get Config.formPowerOn s.mem.form x) (byteAt data (x - (s.f MEM_ATOM_BASE_BASE * 2 ^ 18 + off)))
      else Sparse.get Config.formPowerOn s.mem.form x := by
  rw [State.get_aliasWrite hview (hlen.symm ▸ wordSized_four halign), s.aliasAddr_at t hoff, hlen, State.at_mem]

end

/-- Another size or alignment is counted, and changes nothing (R459). -/
theorem State.aliasWrite_refused {t view off : Nat} {data : List Nat} (hview : view ≤ 2) (hsize : wordSized off data.length = false) :
    ((s.at t).aliasWrite view off data).mem = s.mem ∧
      ((s.at t).aliasWrite view off data).f MEM_STATUS_ALIAS_ERR = min 65535 (s.f MEM_STATUS_ALIAS_ERR + 1) := by
  have hcounted : (s.at t).aliasWrite view off data = (s.at t).aliasErr := by
    rw [State.aliasWrite, if_neg (by omega), if_pos (by simp [hsize])]
  rw [hcounted, State.aliasErr]
  exact ⟨s.at_mem t, by rw [State.f_addF _ _ _ (by decide), s.f_at t MEM_STATUS_ALIAS_ERR]; rfl⟩

/-! ### Memory errors (R460) -/

/-- A corrected error is reported unless it lies in the scratchpad or one was reported within the second before (R460). -/
def State.eccDue (s : State) (mem : Nat) : Bool :=
  mem != 1 && match s.mem.eccAt with
    | some x => decide (x + sec 1 ≤ s.now)
    | none => true

theorem State.eccDue_at (s : State) (t mem : Nat) :
    (s.at t).eccDue mem = true ↔ mem ≠ 1 ∧ ∀ x, s.mem.eccAt = some x → x + sec 1 ≤ max s.now t := by
  rw [State.eccDue, State.at_mem, State.at_now]
  cases s.mem.eccAt with
  | none => simp
  | some x => simp

/-- A corrected error is counted. -/
def State.eccCounted (s : State) : State := s.addF MEM_ECC_CORR 1

/-- The instant of the report of a corrected error is noted. -/
def State.eccNoted (s : State) : State := { s with mem := { s.mem with eccAt := some s.now } }

theorem exec_memEccCorrected {t mem a : Nat} (hon : s.powered = true) :
    exec (.memEccCorrected t mem a) s = .next
      (if (s.at t).eccDue mem then (s.at t).eccCounted.eccNoted.raise kMEM_ECC_CORR (a / 64) else (s.at t).eccCounted) := by
  have hon' : ¬(!(s.at t).powered) = true := by simp [hon]
  exact congrArg Host.Outcome.next (if_neg hon')

theorem memEccCorrected_counts {t mem a : Nat} (hon : s.powered = true) :
    ∃ s', exec (.memEccCorrected t mem a) s = .next s' ∧ s'.f MEM_ECC_CORR = min 65535 (s.f MEM_ECC_CORR + 1) ∧
      (mem ≠ 1 → (∀ x, s.mem.eccAt = some x → x + sec 1 ≤ max s.now t) → (s.at t).Raised s' 0 0 kMEM_ECC_CORR (a / 64)) ∧
      (mem = 1 ∨ (∃ x, s.mem.eccAt = some x ∧ max s.now t < x + sec 1) → s'.flt = s.flt) := by
  have hcount : (s.at t).eccCounted.f MEM_ECC_CORR = min 65535 (s.f MEM_ECC_CORR + 1) := by
    rw [State.eccCounted, State.f_addF _ _ _ (by decide), s.f_at t MEM_ECC_CORR]
    rfl
  have hdue := s.eccDue_at t mem
  refine ⟨_, exec_memEccCorrected hon, ?_, fun hmem hlast => ?_, fun hnot => ?_⟩
  · split
    · rw [State.raise_f]
      exact hcount
    · exact hcount
  · rw [if_pos (hdue.2 ⟨hmem, hlast⟩)]
    exact .raise rfl ..
  · have hsilent : ¬(s.at t).eccDue mem = true := by
      rw [hdue]
      rintro ⟨hmem, hlast⟩
      rcases hnot with rfl | ⟨x, hx, hlt⟩
      · exact hmem rfl
      · exact absurd (hlast x hx) (by omega)
    rw [if_neg hsilent]
    exact s.at_flt t

/-- An uncorrectable error is counted, and reported when it lies in the form store (R460). -/
def State.eccMet (s : State) (mem a : Nat) : State :=
  if mem = 0 then (s.addF MEM_ECC_UNCORR 1).raise kMEM_ECC_UNCORR (a / 64) else s.addF MEM_ECC_UNCORR 1

theorem exec_memEccUncorrectable {t mem a : Nat} {r : EccReader} (hon : s.powered = true) :
    exec (.memEccUncorrectable t mem a r) s = .next (((s.at t).eccMet mem a).eccReader a r) := by
  have hon' : ¬(!(s.at t).powered) = true := by simp [hon]
  exact congrArg Host.Outcome.next (if_neg hon')

theorem State.eccMet_f (s : State) (mem a : Nat) (fd : Field) : (s.eccMet mem a).f fd = (s.addF MEM_ECC_UNCORR 1).f fd :=
  ite_keeps (·.f fd) (State.raise_f ..) rfl

theorem State.eccMet_out (s : State) (mem a : Nat) : (s.eccMet mem a).out = s.out := ite_keeps (·.out) (State.raise_out ..) rfl

theorem State.eccMet_nv (s : State) (mem a : Nat) : (s.eccMet mem a).nv = s.nv := ite_keeps (·.nv) (State.raise_nv ..) rfl

/-- A BAR read that met an uncorrectable error ends in Completer Abort (R460). -/
theorem memEccUncorrectable_bar {t mem a : Nat} (hon : s.powered = true) :
    ∃ s', exec (.memEccUncorrectable t mem a .bar) s = .next s' ∧ s'.f MEM_ECC_UNCORR = min 65535 (s.f MEM_ECC_UNCORR + 1) ∧
      s'.out = .barData 2 [] :: s.out ∧ (mem = 0 → (s.at t).Raised s' 0 0 kMEM_ECC_UNCORR (a / 64)) ∧ (mem ≠ 0 → s'.flt = s.flt) := by
  refine ⟨_, exec_memEccUncorrectable hon, ?_, ?_, fun hmem => ?_, fun hmem => ?_⟩
  · refine (State.eccMet_f ..).trans ?_
    rw [State.f_addF _ _ _ (by decide), s.f_at t MEM_ECC_UNCORR]
    rfl
  · exact congrArg _ ((State.eccMet_out ..).trans (s.at_out t))
  · rw [State.eccMet, if_pos hmem]
    exact State.Raised.after (.raise (c := (s.at t).addF MEM_ECC_UNCORR 1) rfl kMEM_ECC_UNCORR (a / 64)) rfl
  · rw [State.eccMet, if_neg hmem]
    exact s.at_flt t

/-- A table of calibration copies with the copy of one unit failing its check (R444). -/
def failCopy (k : Nat) (l : List (Nat × CalCopy)) : List (Nat × CalCopy) :=
  match lookup? l k with
  | some c => insertKey k { c with ok := false } l
  | none => l

theorem validCopy_failCopy (k : Nat) (l : List (Nat × CalCopy)) : validCopy (lookup? (failCopy k l) k) = none := by
  unfold failCopy
  cases h : lookup? l k with
  | none => exact congrArg validCopy h
  | some c => simp [lookup_insertKey, validCopy]

/-- A calibration copy that met an uncorrectable error fails its check, and the other stays (R444). -/
theorem memEccUncorrectable_copyA {t mem a : Nat} (k : Nat) (hon : s.powered = true) :
    ∃ s', exec (.memEccUncorrectable t mem a (.calCopy false k)) s = .next s' ∧ validCopy (lookup? s'.nv.calA k) = none ∧
      s'.nv.calB = s.nv.calB :=
  ⟨_, exec_memEccUncorrectable hon, validCopy_failCopy .., congrArg (·.calB) ((State.eccMet_nv ..).trans (s.at_nv t))⟩

theorem memEccUncorrectable_copyB {t mem a : Nat} (k : Nat) (hon : s.powered = true) :
    ∃ s', exec (.memEccUncorrectable t mem a (.calCopy true k)) s = .next s' ∧ validCopy (lookup? s'.nv.calB k) = none ∧
      s'.nv.calA = s.nv.calA :=
  ⟨_, exec_memEccUncorrectable hon, validCopy_failCopy .., congrArg (·.calA) ((State.eccMet_nv ..).trans (s.at_nv t))⟩

/-! ### A counter loaded (R462) -/

theorem exec_pmcLoad {t n : Nat} {v : Word} (hn : n < 256) (hwrite : s.writable (rPMC_n_HI n) = true) :
    exec (.pmcLoad t n v) s = .next ((s.at t).pmcLoad n ((s.at t).lowOf 0 (rPMC_n_LO n)) (v.toNat % 65536)) :=
  congrArg Host.Outcome.next ((State.onWrite_at s t _ _ hwrite).trans (if_pos hn))

/-- Both halves stand in the counter, each kept to its register's width. -/
theorem State.pmcLoad_f (s : State) (n lo hi : Nat) :
    (s.pmcLoad n lo hi).f (PMC_n_LO_VALUE n) = lo % 2 ^ 32 ∧ (s.pmcLoad n lo hi).f (PMC_n_HI_VALUE n) = hi % 2 ^ 16 := by
  have hhalves : (PMC_n_LO_VALUE n).off ≠ (PMC_n_HI_VALUE n).off := by simp only [PMC_n_LO_VALUE, PMC_n_HI_VALUE]; omega
  simp only [State.pmcLoad, State.setFields]
  exact ⟨(State.f_setF_other _ _ _ _ (.inl hhalves)).trans (State.f_setF_same _ _ _ (le_refl 32)),
    State.f_setF_same _ _ _ (show 0 + 16 ≤ 32 by decide)⟩

theorem pmcLoad_loads {t n : Nat} {v : Word} (hn : n < 256) (hwrite : s.writable (rPMC_n_HI n) = true) :
    ∃ s', exec (.pmcLoad t n v) s = .next s' ∧ s'.f (PMC_n_LO_VALUE n) = s.lowOf 0 (rPMC_n_LO n) ∧
      s'.f (PMC_n_HI_VALUE n) = v.toNat % 2 ^ 16 := by
  obtain ⟨hlo, hhi⟩ := (s.at t).pmcLoad_f n ((s.at t).lowOf 0 (rPMC_n_LO n)) (v.toNat % 65536)
  refine ⟨_, exec_pmcLoad hn hwrite, hlo.trans ?_, hhi.trans (Nat.mod_mod _ _)⟩
  rw [State.lowOf, State.lowOf, State.at_lows]
  exact Nat.mod_eq_of_lt (BitVec.isLt _)

/-! ### A dump (R463, R464) -/

/-- A skipped dump is counted. -/
def State.dumpSkipped (s : State) : State :=
  ({ s with pmc := { s.pmc with skips := s.pmc.skips + 1 } }).addF PMC_DUMP_STAT_SKIPPED 1

/-- The slot of the next dump record, and its address in host memory (R464). -/
def State.dumpSlot (s : State) : Nat := s.f PMC_DUMP_STAT_TAIL % s.dumpSize
def State.dumpBase (s : State) : Nat :=
  s.f PMC_DUMP_BASE_LO_BASE * 4096 + 2 ^ 32 * (s.reg rPMC_DUMP_BASE_HI).toNat + s.dumpSlot * 4096

/-- The record's counters and then its header go to host memory. -/
def State.dumpWritten (s : State) (req : Bool) : State :=
  (s.hostWrite (s.dumpBase + 0x40) s.dumpCounters).hostWrite s.dumpBase (s.dumpHeader req)

/-- TAIL moves past a slot, and PHASE toggles as TAIL returns to 0. -/
def State.dumpAdvance (s : State) (slot : Nat) : State :=
  if slot + 1 = s.dumpSize then s.setFields [(PMC_DUMP_STAT_TAIL, 0), (PMC_DUMP_STAT_PHASE, 1 - s.f PMC_DUMP_STAT_PHASE)]
  else s.setF PMC_DUMP_STAT_TAIL (slot + 1)

theorem State.dump_full (req : Bool) (hfull : s.dumpSize ≤ s.pmc.dumpUsed) :
    s.dump req = { s.dumpSkipped with pmc := { s.dumpSkipped.pmc with seq := (s.pmc.seq + 1) % 2 ^ 32 } } := if_pos hfull

theorem State.dumpWritten_pmc (s : State) (req : Bool) : (s.dumpWritten req).pmc = s.pmc :=
  (((Frame.refl (m := { ring := true })).hostWrite _ _ rfl).hostWrite _ _ rfl).pmc.resolve_left (by decide)

theorem State.dumpAdvance_pmc (s : State) (slot : Nat) : (s.dumpAdvance slot).pmc = s.pmc := ite_keeps (·.pmc) rfl rfl

theorem State.dumpAdvance_out (s : State) (slot : Nat) : (s.dumpAdvance slot).out = s.out := ite_keeps (·.out) rfl rfl

theorem State.dump_room (req : Bool) (hroom : s.pmc.dumpUsed < s.dumpSize) :
    s.dump req = { (s.dumpWritten req).dumpAdvance s.dumpSlot with
      pmc := { s.pmc with skips := 0, dumpUsed := s.pmc.dumpUsed + 1, seq := (s.pmc.seq + 1) % 2 ^ 32 } } := by
  have hpmc := (State.dumpAdvance_pmc (s.dumpWritten req) s.dumpSlot).trans (s.dumpWritten_pmc req)
  rw [← hpmc]
  exact if_neg (Nat.not_le.2 hroom)

theorem Keep.dumpWritten {o : Nat} (s : State) (req : Bool) (e : isPmc o = false) : Keep o s (s.dumpWritten req) :=
  .hostWrite e (.hostWrite e .refl _ _) _ _

theorem Keep.dumpAdvance {o : Nat} (s : State) (slot : Nat) (e : o ≠ rPMC_DUMP_STAT) : Keep o s (s.dumpAdvance slot) :=
  .ite (.setFields_cons (.setFields_cons (.setFields_nil ((Keep.refl.setF _ _ e).setF _ _ e)))) (Keep.refl.setF _ _ e)

/-- A dump writes no register but PMC_DUMP_STAT and the performance counters. -/
theorem Keep.dump {o : Nat} (s : State) (req : Bool) (hpmc : isPmc o = false) (e : o ≠ rPMC_DUMP_STAT) : Keep o s (s.dump req) := by
  rcases Nat.lt_or_ge s.pmc.dumpUsed s.dumpSize with hroom | hfull
  · rw [State.dump_room req hroom]
    exact .upd ((Keep.dumpWritten s req hpmc).trans (.dumpAdvance _ _ e))
  · rw [State.dump_full req hfull]
    exact .upd (.addF (.upd .refl) PMC_DUMP_STAT_SKIPPED 1 e)

theorem State.dump_seq (s : State) (req : Bool) : (s.dump req).pmc.seq = (s.pmc.seq + 1) % 2 ^ 32 := by
  rcases Nat.lt_or_ge s.pmc.dumpUsed s.dumpSize with hroom | hfull
  · rw [State.dump_room req hroom]
  · rw [State.dump_full req hfull]

theorem State.dump_dumpDue (s : State) (req : Bool) : (s.dump req).pmc.dumpDue = s.pmc.dumpDue := by
  rcases Nat.lt_or_ge s.pmc.dumpUsed s.dumpSize with hroom | hfull
  · rw [State.dump_room req hroom]
  · rw [State.dump_full req hfull]
    rfl

theorem State.dump_skipped {req : Bool} (hfull : s.dumpSize ≤ s.pmc.dumpUsed) :
    (s.dump req).f PMC_DUMP_STAT_SKIPPED = min 65535 (s.f PMC_DUMP_STAT_SKIPPED + 1) := by
  rw [State.dump_full req hfull]
  exact State.f_addF _ PMC_DUMP_STAT_SKIPPED 1 (by decide)

theorem State.dump_silent {req : Bool} (hfull : s.dumpSize ≤ s.pmc.dumpUsed) : (s.dump req).out = s.out := by
  rw [State.dump_full req hfull]
  rfl

/-- TAIL goes round the ring. -/
theorem State.dumpAdvance_tail {slot : Nat} (hslot : slot < s.dumpSize) (hlog : s.f PMC_CTRL_LOG2 ≤ 15) :
    (s.dumpAdvance slot).f PMC_DUMP_STAT_TAIL = (slot + 1) % s.dumpSize := by
  have hsize : s.dumpSize ≤ 2 ^ 15 := Nat.pow_le_pow_right (by decide) hlog
  unfold State.dumpAdvance
  split
  · next hlast =>
    rw [hlast, Nat.mod_self]
    simp (disch := decide) only [State.setFields, State.f_setF_other, State.f_setF_same]
    rfl
  · next hmore =>
    rw [State.f_setF_same _ PMC_DUMP_STAT_TAIL, Nat.mod_eq_of_lt (by simp only [PMC_DUMP_STAT_TAIL]; omega), Nat.mod_eq_of_lt (by omega)]

theorem State.dump_tail {req : Bool} (hroom : s.pmc.dumpUsed < s.dumpSize) (hlog : s.f PMC_CTRL_LOG2 ≤ 15) :
    (s.dump req).f PMC_DUMP_STAT_TAIL = (s.dumpSlot + 1) % s.dumpSize := by
  have hkeep : (s.dumpWritten req).f PMC_CTRL_LOG2 = s.f PMC_CTRL_LOG2 := (Keep.dumpWritten s req rfl).f PMC_CTRL_LOG2
  have hsize : (s.dumpWritten req).dumpSize = s.dumpSize := congrArg (2 ^ ·) hkeep
  rw [State.dump_room req hroom]
  refine (State.dumpAdvance_tail ?_ (hkeep.trans_le hlog)).trans (by rw [hsize])
  rw [hsize]
  exact Nat.mod_lt _ (Nat.two_pow_pos _)

/-- The record of an engine that reaches host memory itself: the header is written last. -/
theorem State.dump_out {req : Bool} (hroom : s.pmc.dumpUsed < s.dumpSize) (hhost : s.viaRing = false) :
    (s.dump req).out = .hostWrite s.dumpBase (s.dumpHeader req) :: .hostWrite (s.dumpBase + 0x40) s.dumpCounters :: s.out := by
  have hwritten (addr : Nat) (bs : List Nat) : s.hostWrite addr bs = s.emit (.hostWrite addr bs) := if_neg (by simp [hhost])
  have hhost' : ¬(s.hostWrite (s.dumpBase + 0x40) s.dumpCounters).viaRing = true := by
    rw [hwritten]
    exact (Bool.eq_false_iff.1 hhost)
  rw [State.dump_room req hroom]
  refine (State.dumpAdvance_out ..).trans ?_
  rw [State.dumpWritten, State.hostWrite, if_neg hhost', hwritten]
  rfl

/-! ### A periodic dump (R463) -/

/-- The next periodic dump is due a period later. -/
def State.dumpNext (s : State) : State := { s with pmc := { s.pmc with dumpDue := s.pmc.dumpDue + s.dumpPeriod } }

@[simp] theorem State.dumpNext_f (s : State) (fd : Field) : s.dumpNext.f fd = s.f fd := rfl
@[simp] theorem State.dumpNext_out (s : State) : s.dumpNext.out = s.out := rfl

theorem State.dumpSize_at (s : State) (t : Nat) : (s.at t).dumpSize = s.dumpSize := by
  rw [State.dumpSize, State.dumpSize, s.f_at t PMC_CTRL_LOG2]

theorem State.dumpPeriod_at (s : State) (t : Nat) : (s.at t).dumpPeriod = s.dumpPeriod := by
  rw [State.dumpPeriod, State.dumpPeriod, s.f_at t PMC_CTRL_PERIOD, s.fb_at t PMC_CTRL_UNIT_LINES]

theorem State.dumpSlot_at (s : State) (t : Nat) : (s.at t).dumpSlot = s.dumpSlot := by
  rw [State.dumpSlot, State.dumpSlot, s.f_at t PMC_DUMP_STAT_TAIL, State.dumpSize_at]

theorem State.dumpBase_at (s : State) (t : Nat) : (s.at t).dumpBase = s.dumpBase := by
  rw [State.dumpBase, State.dumpBase, s.f_at t PMC_DUMP_BASE_LO_BASE, s.reg_at t rPMC_DUMP_BASE_HI, State.dumpSlot_at]

theorem State.viaRing_at (s : State) (t : Nat) : (s.at t).viaRing = s.viaRing := by
  rw [State.viaRing, State.viaRing, s.fb_at t RING_STATUS_POS_VALID, State.eid_at]

theorem State.dumpNext_at_pmc (s : State) (t : Nat) :
    (s.at t).dumpNext.pmc = { s.pmc with dumpDue := s.pmc.dumpDue + s.dumpPeriod } := by
  rw [State.dumpNext, State.dumpPeriod_at, State.at_pmc]

theorem State.dumpNext_at_size (s : State) (t : Nat) : (s.at t).dumpNext.dumpSize = s.dumpSize := s.dumpSize_at t

section
variable {t : Nat} (hen : s.fb PMC_CTRL_DUMP_EN = true) (hdue : s.pmc.dumpDue ≤ (s.at t).dumpClock)
  (hunit : s.fb PMC_CTRL_UNIT_LINES = false ∨ s.cfg.armed.isSome = true)
include hen hdue hunit

theorem exec_pmcDump : exec (.pmcDump t) s = .next ((s.at t).dumpNext.dump false) := by
  refine congrArg Host.Outcome.next (if_pos ?_)
  rw [s.fb_at t PMC_CTRL_DUMP_EN, s.fb_at t PMC_CTRL_UNIT_LINES, State.at_pmc, State.at_cfg, hen, decide_eq_true hdue]
  rcases hunit with hunit | harmed
  · rw [hunit]
    rfl
  · rw [harmed, Bool.or_true]
    rfl

/-- A dump that finds its ring full is skipped. -/
theorem pmcDump_skips (hfull : s.dumpSize ≤ s.pmc.dumpUsed) :
    ∃ s', exec (.pmcDump t) s = .next s' ∧ s'.pmc.dumpDue = s.pmc.dumpDue + s.dumpPeriod ∧ s'.pmc.seq = (s.pmc.seq + 1) % 2 ^ 32 ∧
      s'.f PMC_DUMP_STAT_SKIPPED = min 65535 (s.f PMC_DUMP_STAT_SKIPPED + 1) ∧ s'.out = s.out := by
  have hfull' : (s.at t).dumpNext.dumpSize ≤ (s.at t).dumpNext.pmc.dumpUsed := by
    rwa [State.dumpNext_at_size, State.dumpNext_at_pmc]
  refine ⟨_, exec_pmcDump hen hdue hunit, ?_, ?_, ?_, ?_⟩
  · rw [State.dump_dumpDue, State.dumpNext_at_pmc]
  · rw [State.dump_seq, State.dumpNext_at_pmc]
  · rw [State.dump_skipped hfull', State.dumpNext_f, s.f_at t PMC_DUMP_STAT_SKIPPED]
  · rw [State.dump_silent hfull', State.dumpNext_out, State.at_out]

/-- A dump that finds room fills slot TAIL. -/
theorem pmcDump_writes (hlog : s.f PMC_CTRL_LOG2 ≤ 15) (hroom : s.pmc.dumpUsed < s.dumpSize) :
    ∃ s', exec (.pmcDump t) s = .next s' ∧ s'.pmc.dumpDue = s.pmc.dumpDue + s.dumpPeriod ∧ s'.pmc.seq = (s.pmc.seq + 1) % 2 ^ 32 ∧
      s'.pmc.dumpUsed = s.pmc.dumpUsed + 1 ∧ s'.f PMC_DUMP_STAT_TAIL = (s.dumpSlot + 1) % s.dumpSize ∧
      (s.viaRing = false →
        s'.out = .hostWrite s.dumpBase ((s.at t).dumpHeader false) :: .hostWrite (s.dumpBase + 0x40) (s.at t).dumpCounters :: s.out) := by
  have hroom' : (s.at t).dumpNext.pmc.dumpUsed < (s.at t).dumpNext.dumpSize := by
    rwa [State.dumpNext_at_size, State.dumpNext_at_pmc]
  refine ⟨_, exec_pmcDump hen hdue hunit, ?_, ?_, ?_, ?_, fun hhost => ?_⟩
  · rw [State.dump_dumpDue, State.dumpNext_at_pmc]
  · rw [State.dump_seq, State.dumpNext_at_pmc]
  · rw [State.dump_room _ hroom', State.dumpNext_at_pmc]
  · refine (State.dump_tail hroom' ((s.f_at t PMC_CTRL_LOG2).trans_le hlog)).trans ?_
    exact congrArg₂ (fun slot size => (slot + 1) % size) (s.dumpSlot_at t) (s.dumpSize_at t)
  · refine (State.dump_out hroom' ((s.viaRing_at t).trans hhost)).trans ?_
    have hbase : (s.at t).dumpNext.dumpBase = s.dumpBase := s.dumpBase_at t
    rw [hbase, State.dumpNext_out, State.at_out]
    rfl

end

/-! ### A write of PMC_CTRL (R461, R463) -/

/-- A flag of a register word is a bit of its number. -/
theorem Field.get_flag (fd : Field) (v : Word) (hw : fd.w = 1) : fd.get v = b2n (bit v.toNat fd.lo) := by
  rw [Field.get, hw, bit, b2n]
  rcases Nat.mod_two_eq_zero_or_one (v.toNat / 2 ^ fd.lo) with h | h <;> simp [h]

/-- The dumps that a word of PMC_CTRL enables: DUMP_EN needs a legal LOG2 (R463). -/
def dumpsEnabled (v : Word) : Bool :=
  PMC_CTRL_DUMP_EN.get v = 1 && decide (4 ≤ PMC_CTRL_LOG2.get v ∧ PMC_CTRL_LOG2.get v ≤ 15)

theorem dumpsEnabled_iff (v : Word) :
    dumpsEnabled v = true ↔ bit v.toNat 31 = true ∧ 4 ≤ bits v.toNat 20 16 ∧ bits v.toNat 20 16 ≤ 15 := by
  have hlog : PMC_CTRL_LOG2.get v = bits v.toNat 20 16 := rfl
  rw [dumpsEnabled, PMC_CTRL_DUMP_EN.get_flag v rfl, hlog]
  cases h : bit v.toNat 31 <;> simp [PMC_CTRL_DUMP_EN, h, b2n]

/-- The register as a write leaves it. -/
def State.ctrlWritten (s : State) (v : Word) : State :=
  (s.setReg rPMC_CTRL (v &&& 0x3F1FFFFF)).setFields [(PMC_CTRL_DUMP_NOW, 0), (PMC_CTRL_DUMP_EN, b2n (dumpsEnabled v))]

/-- Periodic dumps begin a period from now. -/
def State.dumpPlanned (s : State) : State := { s with pmc := { s.pmc with dumpDue := s.dumpClock + s.dumpPeriod } }

theorem State.dumpPlanned_due (s : State) : s.dumpPlanned.pmc.dumpDue = s.dumpPlanned.dumpClock + s.dumpPlanned.dumpPeriod := rfl

/-- The write leaves periodic dumps as they run. -/
def State.dumpsSame (s : State) (v : Word) : Bool :=
  s.fb PMC_CTRL_DUMP_EN && s.f PMC_CTRL_UNIT_LINES == PMC_CTRL_UNIT_LINES.get v && s.f PMC_CTRL_WIN == PMC_CTRL_WIN.get v &&
    s.f PMC_CTRL_PERIOD == PMC_CTRL_PERIOD.get v

/-- The register written, and periodic dumps that it changes planned. -/
def State.ctrlTaken (s : State) (v : Word) : State :=
  if dumpsEnabled v && !s.dumpsSame v then (s.ctrlWritten v).dumpPlanned else s.ctrlWritten v

theorem State.writePmcCtrl_eq (s : State) (v : Word) :
    s.writePmcCtrl v = if dumpsEnabled v && PMC_CTRL_DUMP_NOW.get v = 1 then (s.ctrlTaken v).dump true else s.ctrlTaken v := rfl

theorem State.ctrlWritten_fb (s : State) (v : Word) :
    (s.ctrlWritten v).fb PMC_CTRL_DUMP_NOW = false ∧ (s.ctrlWritten v).fb PMC_CTRL_DUMP_EN = dumpsEnabled v := by
  simp only [State.ctrlWritten, State.setFields, State.fb]
  simp (disch := decide) only [State.f_setF_other, State.f_setF_same]
  cases dumpsEnabled v <;> exact ⟨rfl, rfl⟩

theorem State.ctrlTaken_keep (s : State) (v : Word) (o : Nat) : Keep o (s.ctrlWritten v) (s.ctrlTaken v) :=
  .ite (.upd .refl) .refl

theorem State.ctrlTaken_seq (s : State) (v : Word) : (s.ctrlTaken v).pmc.seq = s.pmc.seq := ite_keeps (·.pmc.seq) rfl rfl

/-- Whatever a write makes of its dumps, the register shows the dumps it enables, and DUMP_NOW reads 0. -/
theorem State.writePmcCtrl_fb (s : State) (v : Word) :
    (s.writePmcCtrl v).fb PMC_CTRL_DUMP_NOW = false ∧ (s.writePmcCtrl v).fb PMC_CTRL_DUMP_EN = dumpsEnabled v := by
  have hkeep : Keep rPMC_CTRL (s.ctrlWritten v) (s.writePmcCtrl v) := by
    rw [State.writePmcCtrl_eq]
    exact .ite ((s.ctrlTaken_keep v _).trans (.dump _ _ rfl (by decide))) (s.ctrlTaken_keep v _)
  exact ⟨(hkeep.fb PMC_CTRL_DUMP_NOW).trans (s.ctrlWritten_fb v).1, (hkeep.fb PMC_CTRL_DUMP_EN).trans (s.ctrlWritten_fb v).2⟩

section
variable {t : Nat} {v : Word} (hwrite : s.writable rPMC_CTRL = true)
include hwrite

theorem exec_dumpNow (hnow : bit v.toNat 30 = true) : exec (.dumpNow t v) s = .next ((s.at t).writePmcCtrl v) := by
  have hget : PMC_CTRL_DUMP_NOW.get v = 1 := (Field.get_flag _ v rfl).trans (congrArg b2n hnow)
  exact congrArg Host.Outcome.next ((State.onWrite_at s t rPMC_CTRL _ hwrite).trans (if_pos hget))

theorem exec_dumpEn (hen : bit v.toNat 31 = true) : exec (.dumpEn t v) s = .next ((s.at t).writePmcCtrl v) :=
  congrArg Host.Outcome.next ((State.onWrite_at s t rPMC_CTRL _ hwrite).trans (if_pos (get_bit31 rfl rfl hen)))

/-- DUMP_NOW with dumps enabled adds one dump. -/
theorem dumpNow_dumps (hnow : bit v.toNat 30 = true) (henabled : dumpsEnabled v = true) :
    ∃ s', exec (.dumpNow t v) s = .next s' ∧ s'.pmc.seq = (s.pmc.seq + 1) % 2 ^ 32 ∧ s'.fb PMC_CTRL_DUMP_NOW = false ∧
      s'.fb PMC_CTRL_DUMP_EN = true := by
  have hget : PMC_CTRL_DUMP_NOW.get v = 1 := (Field.get_flag _ v rfl).trans (congrArg b2n hnow)
  obtain ⟨hshown, hen⟩ := (s.at t).writePmcCtrl_fb v
  refine ⟨_, exec_dumpNow hwrite hnow, ?_, hshown, hen.trans henabled⟩
  rw [State.writePmcCtrl_eq, if_pos (by simp [henabled, hget]), State.dump_seq, State.ctrlTaken_seq, State.at_pmc]

/-- DUMP_NOW without DUMP_EN does nothing (log entry 50). -/
theorem dumpNow_idle (hnow : bit v.toNat 30 = true) (hoff : bit v.toNat 31 = false) :
    ∃ s', exec (.dumpNow t v) s = .next s' ∧ s'.pmc = s.pmc ∧ s'.out = s.out := by
  have hdisabled : dumpsEnabled v = false := Bool.eq_false_iff.2 fun h => absurd ((dumpsEnabled_iff v).1 h).1 (by simp [hoff])
  refine ⟨_, exec_dumpNow hwrite hnow, ?_⟩
  rw [State.writePmcCtrl_eq, if_neg (by simp [hdisabled]), State.ctrlTaken, if_neg (by simp [hdisabled])]
  exact ⟨s.at_pmc t, s.at_out t⟩

/-- Dumps newly enabled begin a period later. -/
theorem dumpEn_enables (hen : bit v.toNat 31 = true) (hnow : bit v.toNat 30 = false) (henabled : dumpsEnabled v = true) :
    ∃ s', exec (.dumpEn t v) s = .next s' ∧ s'.fb PMC_CTRL_DUMP_EN = true ∧
      (s.fb PMC_CTRL_DUMP_EN = false → s'.pmc.dumpDue = s'.dumpClock + s'.dumpPeriod) := by
  have hget : PMC_CTRL_DUMP_NOW.get v ≠ 1 := by
    rw [Field.get_flag _ v rfl]
    simp [PMC_CTRL_DUMP_NOW, hnow, b2n]
  refine ⟨_, exec_dumpEn hwrite hen, ((s.at t).writePmcCtrl_fb v).2.trans henabled, fun hwas => ?_⟩
  have hnew : (s.at t).dumpsSame v = false := by
    rw [State.dumpsSame, s.fb_at t PMC_CTRL_DUMP_EN, hwas]
    rfl
  rw [State.writePmcCtrl_eq, if_neg (by simp [hget]), State.ctrlTaken, if_pos (by simp [henabled, hnew])]
  exact State.dumpPlanned_due _

/-- An illegal LOG2 keeps dumps disabled. -/
theorem dumpEn_refused (hen : bit v.toNat 31 = true) (hlog : bits v.toNat 20 16 < 4 ∨ 15 < bits v.toNat 20 16) :
    ∃ s', exec (.dumpEn t v) s = .next s' ∧ s'.fb PMC_CTRL_DUMP_EN = false := by
  refine ⟨_, exec_dumpEn hwrite hen, ((s.at t).writePmcCtrl_fb v).2.trans (Bool.eq_false_iff.2 fun h => ?_)⟩
  obtain ⟨-, hlow, hhigh⟩ := (dumpsEnabled_iff v).1 h
  omega

end

/-! ### The tag generator is loaded (R465) -/

theorem exec_tagLoad {t : Nat} {v : Word} (hwrite : s.writable rPMC_TAG_CTRL = true) (hdomain : bits v.toNat 31 30 ≠ 0) :
    exec (.tagLoad t v) s = .next ((s.at t).writeTagCtrl v) :=
  congrArg Host.Outcome.next ((State.onWrite_at s t _ _ hwrite).trans (if_pos (bne_iff_ne.2 hdomain)))

/-- The fields of a write of PMC_TAG_CTRL taken. -/
def State.tagSet (s : State) (v : Word) : State :=
  s.setFields [(PMC_TAG_CTRL_DOMAIN, PMC_TAG_CTRL_DOMAIN.get v), (PMC_TAG_CTRL_RATE, PMC_TAG_CTRL_RATE.get v),
    (PMC_TAG_CTRL_UNIT, PMC_TAG_CTRL_UNIT.get v)]

theorem State.tagSet_fields (s : State) (v : Word) :
    (s.tagSet v).f PMC_TAG_CTRL_DOMAIN = bits v.toNat 31 30 ∧ (s.tagSet v).f PMC_TAG_CTRL_RATE = bits v.toNat 28 24 ∧
      (s.tagSet v).f PMC_TAG_CTRL_UNIT = v.toNat % 2 ^ 12 := by
  simp only [State.tagSet, State.setFields]
  simp (disch := decide) only [State.f_setF_other, State.f_setF_same]
  simp [Field.get, PMC_TAG_CTRL_DOMAIN, PMC_TAG_CTRL_RATE, PMC_TAG_CTRL_UNIT, bits]

/-- The LFSR loaded with the seed; 0 counts as 1. -/
def State.lfsrLoaded (s : State) : State :=
  { s with pmc := { s.pmc with lfsr := if s.f PMC_TAG_SEED_SEED = 0 then 1 else s.f PMC_TAG_SEED_SEED } }

theorem State.lfsrLoaded_lfsr (s : State) :
    s.lfsrLoaded.pmc.lfsr = if s.f PMC_TAG_SEED_SEED = 0 then 1 else s.f PMC_TAG_SEED_SEED := rfl

theorem State.lfsrLoaded_f (s : State) (fd : Field) : s.lfsrLoaded.f fd = s.f fd := (Keep.upd .refl : Keep fd.off s s.lfsrLoaded).f fd

theorem State.writeTagCtrl_eq (s : State) (v : Word) :
    s.writeTagCtrl v = if PMC_TAG_CTRL_DOMAIN.get v = 0 then s.tagSet v else (s.tagSet v).lfsrLoaded := rfl

theorem tagLoad_loads {t : Nat} {v : Word} (hwrite : s.writable rPMC_TAG_CTRL = true) (hdomain : bits v.toNat 31 30 ≠ 0) :
    ∃ s', exec (.tagLoad t v) s = .next s' ∧ s'.pmc.lfsr = (if s.f PMC_TAG_SEED_SEED = 0 then 1 else s.f PMC_TAG_SEED_SEED) ∧
      s'.f PMC_TAG_CTRL_DOMAIN = bits v.toNat 31 30 ∧ s'.f PMC_TAG_CTRL_RATE = bits v.toNat 28 24 ∧
      s'.f PMC_TAG_CTRL_UNIT = v.toNat % 2 ^ 12 := by
  have hkeep : Keep rPMC_TAG_SEED s ((s.at t).tagSet v) :=
    .setFields_cons (.setFields_cons (.setFields_cons (.setFields_nil
      ((((Keep.refl.at t rfl).setF _ _ (by decide)).setF _ _ (by decide)).setF _ _ (by decide)))))
  have hget : PMC_TAG_CTRL_DOMAIN.get v ≠ 0 := hdomain
  refine ⟨_, exec_tagLoad hwrite hdomain, ?_⟩
  rw [State.writeTagCtrl_eq, if_neg hget, State.lfsrLoaded_lfsr, hkeep.f PMC_TAG_SEED_SEED]
  refine ⟨rfl, ?_⟩
  simp only [State.lfsrLoaded_f]
  exact (s.at t).tagSet_fields v

/-! ### The tag window (R466) -/

/-- The record of a tag whose object ends at a time. -/
def TagRec.ended (r : TagRec) (time : Nat) (abandoned : Bool) : TagRec :=
  { r with abandoned := abandoned, done := !abandoned,
           stamps := (List.range 13).map fun i =>
             let x := r.stamps.getD i 0
             if time < x then 0 else x }

/-- No tag is in flight any more, and a record stands behind the others in the window. -/
def State.tagEntered (s : State) (q : TagRec) : State :=
  { s with pmc := { s.pmc with
      flying := none
      win := insertKey ((s.f PMC_TAG_STAT_HEAD + s.f PMC_TAG_STAT_COUNT) % 64) q s.pmc.win } }

/-- PMC_TAG_STAT counts one record more. -/
def State.tagCounted (s : State) : State :=
  s.setFields [(PMC_TAG_STAT_COUNT, s.f PMC_TAG_STAT_COUNT + 1), (PMC_TAG_STAT_FULL, b2n (s.f PMC_TAG_STAT_COUNT + 1 == 64))]

theorem State.tagRecord_enters {r : TagRec} (h : s.pmc.flying = some r) (abandoned : Bool) :
    s.tagRecord (fun _ => true) abandoned = (s.tagEntered (r.ended s.sysTime abandoned)).tagCounted := by
  rw [State.tagRecord, h]
  rfl

theorem State.tagCounted_fields (h : s.f PMC_TAG_STAT_COUNT < 64) :
    s.tagCounted.f PMC_TAG_STAT_COUNT = s.f PMC_TAG_STAT_COUNT + 1 ∧ s.tagCounted.f PMC_TAG_STAT_HEAD = s.f PMC_TAG_STAT_HEAD ∧
      s.tagCounted.fb PMC_TAG_STAT_FULL = decide (s.f PMC_TAG_STAT_COUNT = 63) := by
  simp only [State.tagCounted, State.setFields, State.fb]
  simp (disch := decide) only [State.f_setF_other, State.f_setF_same]
  refine ⟨Nat.mod_eq_of_lt (by simp only [PMC_TAG_STAT_COUNT] at h ⊢; omega), trivial, ?_⟩
  by_cases hlast : s.f PMC_TAG_STAT_COUNT = 63 <;> simp [hlast, b2n, PMC_TAG_STAT_FULL]

theorem tagRecordComplete_enters {t : Nat} {abandoned : Bool} {r : TagRec} (hflying : s.pmc.flying = some r)
    (hroom : s.f PMC_TAG_STAT_COUNT < 64) :
    ∃ s' q, exec (.tagRecordComplete t abandoned) s = .next s' ∧ s'.pmc.flying = none ∧
      s'.f PMC_TAG_STAT_COUNT = s.f PMC_TAG_STAT_COUNT + 1 ∧ s'.f PMC_TAG_STAT_HEAD = s.f PMC_TAG_STAT_HEAD ∧
      s'.fb PMC_TAG_STAT_FULL = decide (s.f PMC_TAG_STAT_COUNT = 63) ∧
      lookup? s'.pmc.win ((s.f PMC_TAG_STAT_HEAD + s.f PMC_TAG_STAT_COUNT) % 64) = some q ∧ q.abandoned = abandoned ∧
      q.done = !abandoned ∧ q.typ = r.typ ∧ q.unit_ = r.unit_ ∧ q.idA = r.idA ∧ q.idB = r.idB := by
  have hcount : (s.at t).f PMC_TAG_STAT_COUNT = s.f PMC_TAG_STAT_COUNT := s.f_at t PMC_TAG_STAT_COUNT
  have hhead : (s.at t).f PMC_TAG_STAT_HEAD = s.f PMC_TAG_STAT_HEAD := s.f_at t PMC_TAG_STAT_HEAD
  have hexec : exec (.tagRecordComplete t abandoned) s =
      .next ((s.at t).tagEntered (r.ended (s.at t).sysTime abandoned)).tagCounted :=
    congrArg Host.Outcome.next (State.tagRecord_enters ((congrArg (·.flying) (s.at_pmc t)).trans hflying) abandoned)
  obtain ⟨hcounted, hkept, hfull⟩ :=
    State.tagCounted_fields (s := (s.at t).tagEntered (r.ended (s.at t).sysTime abandoned)) (hcount.trans_lt hroom)
  refine ⟨_, r.ended (s.at t).sysTime abandoned, hexec, rfl, hcounted.trans (congrArg (· + 1) hcount), hkept.trans hhead,
    hfull.trans (congrArg (fun n => decide (n = 63)) hcount), ?_, rfl, rfl, rfl, rfl, rfl, rfl⟩
  rw [← hcount, ← hhead]
  exact lookup_insertKey ..

/-- Entries released from the window, oldest first; none is left over when it is full. -/
def State.tagReleased (s : State) (k : Nat) : State :=
  s.setFields [(PMC_TAG_STAT_HEAD, (s.f PMC_TAG_STAT_HEAD + k) % 64), (PMC_TAG_STAT_COUNT, s.f PMC_TAG_STAT_COUNT - k), (PMC_TAG_STAT_FULL, 0)]

theorem State.writeTagStat_eq {v : Word} {k : Nat} (hk : k = min (bits v.toNat 22 16) (s.f PMC_TAG_STAT_COUNT)) :
    s.writeTagStat v = if k = 0 then s else s.tagReleased k := by
  subst hk
  rfl

theorem Field.get_lt (fd : Field) (x : Word) : fd.get x < 2 ^ fd.w := Nat.mod_lt _ (Nat.two_pow_pos _)

theorem State.tagReleased_fields (s : State) (k : Nat) :
    (s.tagReleased k).f PMC_TAG_STAT_COUNT = s.f PMC_TAG_STAT_COUNT - k ∧
      (s.tagReleased k).f PMC_TAG_STAT_HEAD = (s.f PMC_TAG_STAT_HEAD + k) % 64 ∧ (s.tagReleased k).fb PMC_TAG_STAT_FULL = false := by
  have hcount : s.f PMC_TAG_STAT_COUNT < 2 ^ 7 := Field.get_lt ..
  simp only [State.tagReleased, State.setFields, State.fb]
  simp (disch := decide) only [State.f_setF_other, State.f_setF_same]
  exact ⟨Nat.mod_eq_of_lt (Nat.lt_of_le_of_lt (Nat.sub_le ..) hcount), Nat.mod_mod _ 64, rfl⟩

theorem exec_tagPop {t : Nat} {v : Word} (hwrite : s.writable rPMC_TAG_STAT = true) :
    exec (.tagPop t v) s = .next ((s.at t).writeTagStat v) :=
  congrArg Host.Outcome.next (State.onWrite_at s t _ (fun s => s.writeTagStat v) hwrite)

theorem tagPop_releases {t k : Nat} {v : Word} (hwrite : s.writable rPMC_TAG_STAT = true)
    (hk : k = min (bits v.toNat 22 16) (s.f PMC_TAG_STAT_COUNT)) :
    ∃ s', exec (.tagPop t v) s = .next s' ∧ s'.f PMC_TAG_STAT_COUNT = s.f PMC_TAG_STAT_COUNT - k ∧
      s'.f PMC_TAG_STAT_HEAD = (s.f PMC_TAG_STAT_HEAD + k) % 64 ∧ (0 < k → s'.fb PMC_TAG_STAT_FULL = false) := by
  have hcount : (s.at t).f PMC_TAG_STAT_COUNT = s.f PMC_TAG_STAT_COUNT := s.f_at t PMC_TAG_STAT_COUNT
  have hhead : (s.at t).f PMC_TAG_STAT_HEAD = s.f PMC_TAG_STAT_HEAD := s.f_at t PMC_TAG_STAT_HEAD
  refine ⟨_, exec_tagPop hwrite, ?_⟩
  rw [State.writeTagStat_eq (hcount.symm ▸ hk), ← hcount, ← hhead]
  split
  · next hnone =>
    subst hnone
    exact ⟨rfl, (Nat.mod_eq_of_lt (Field.get_lt ..)).symm, fun h => absurd h (lt_irrefl 0)⟩
  · obtain ⟨hleft, hmoved, hfull⟩ := (s.at t).tagReleased_fields k
    exact ⟨hleft, hmoved, fun _ => hfull⟩

/-! ### The claims of chapter 17 together -/

/-- Settles O35: a write of a view byte by byte of its word, a memory error by what is counted, raised and given to its reader, a
counter by its two halves, a dump by the room in its ring, and the tag window by PMC_TAG_STAT. -/
theorem memoriesAndCounters : Obligations.MemoriesAndCounters := by
  unfold Obligations.MemoriesAndCounters
  refine ⟨fun s t off a data hoff ha =>
      ⟨fun hwrite hlen halign => ?_, fun hwrite hlen halign => ?_, fun hwrite hsize => ?_, fun hwrite hsize => ?_⟩,
    fun s t mem a hon => ⟨memEccCorrected_counts hon, memEccUncorrectable_bar hon, fun k => memEccUncorrectable_copyA k hon,
      fun k => memEccUncorrectable_copyB k hon⟩,
    fun s t n v => pmcLoad_loads,
    fun s t hen hdue hlog hunit => ⟨pmcDump_skips hen hdue hunit, fun hroom => ?_⟩,
    fun s t v hwrite => ⟨fun hnow hen hlow hhigh => dumpNow_dumps hwrite hnow ((dumpsEnabled_iff v).2 ⟨hen, hlow, hhigh⟩),
      dumpNow_idle hwrite, fun hen hnow => ⟨fun hlow hhigh => dumpEn_enables hwrite hen hnow ((dumpsEnabled_iff v).2 ⟨hen, hlow, hhigh⟩),
        dumpEn_refused hwrite hen⟩⟩,
    fun s t v => tagLoad_loads, fun s t abandoned r => tagRecordComplete_enters, fun s t k v => tagPop_releases⟩
  · subst ha
    exact ⟨_, exec_aliasSetWrite hoff hwrite, State.get_aliasWrite_word hoff (by decide) hlen halign⟩
  · subst ha
    exact ⟨_, exec_aliasClearWrite hoff hwrite, State.get_aliasWrite_word hoff (by decide) hlen halign⟩
  · exact ⟨_, exec_aliasSetWrite hoff hwrite, State.aliasWrite_refused (by decide) hsize⟩
  · exact ⟨_, exec_aliasClearWrite hoff hwrite, State.aliasWrite_refused (by decide) hsize⟩
  · obtain ⟨s', hexec, hdue', hseq, hused, htail, hout⟩ := pmcDump_writes hen hdue hunit hlog hroom
    refine ⟨s', hexec, hdue', hseq, hused, htail, fun hhost base hbase => ?_⟩
    subst hbase
    exact hout hhost

end Sys2Proof.Machine
end

section
/-!
SUPPORT. What holds of every command and every step, read off the command's frame (Instr.touched) and the shape of a step: the
canonical form, the parts that stay, the answer itself (log entries 2 and 8), and the idle step (log entry 1).
-/
namespace Sys2Proof.Machine

/-! ### The two forms of a step -/

theorem step_of_pending_nil {s : State} (h : s.pending = []) : step s = .next s := by
  rw [step, h]

theorem step_of_pending_cons {s : State} {c : Instr} {rest : List Instr} (h : s.pending = c :: rest) :
    step s = exec c { s with pending := rest } := by
  rw [← step_cons c rest s, ← h]

/-- Settles O2, by the form of a step on an empty queue. -/
theorem idleStep : Obligations.IdleStep := fun _ => step_of_pending_nil

/-! ### A command's answer lies in its frame -/

/-- Whatever a command answers as the next state lies in the command's frame. -/
theorem Frame.of_exec {c : Instr} {s s' : State} (h : exec c s = .next s') : Frame (touchOf c) s s' := by
  obtain ⟨z, hz, hframe⟩ := exec_frame c s
  cases h.symm.trans hz
  exact hframe

/-- Settles O5: the frame of a command keeps the queue, the order of time and of the free values, and the outputs. -/
theorem everyCommandAnswers : Obligations.EveryCommandAnswers := by
  intro c s
  obtain ⟨s', hexec, hframe⟩ := exec_frame c s
  obtain ⟨new, hout, _⟩ := hframe.out
  exact ⟨s', hexec, hframe.pending, hframe.now, hframe.draws, new, hout⟩

/-! ### The canonical form -/

theorem exec_keeps_wf {c : Instr} {s s' : State} (h : exec c s = .next s') (hwf : s.wf = true) : s'.wf = true :=
  (Frame.of_exec h).wf hwf

/-- Settles O4: an idle step leaves the state, and any other is a command on the queue's rest, whose frame keeps the
canonical form; the queue itself is no part of that form. -/
theorem stepKeepsCanonicalForm : Obligations.StepKeepsCanonicalForm := by
  intro s s' hwf hstep
  cases hqueue : s.pending with
  | nil =>
    rw [step_of_pending_nil hqueue] at hstep
    cases hstep
    exact hwf
  | cons c rest =>
    rw [step_of_pending_cons hqueue] at hstep
    have hrest : ({ s with pending := rest } : State).wf = true := hwf
    exact exec_keeps_wf hstep hrest

/-! ### The parts that stay -/

variable {l : List StatePart} {strobe : Bool} {a c : State}

/-- In a frame made of a list of parts, a part is listed or the same in both states. -/
theorem Frame.contains_or_same (h : Frame (.parts l strobe) a c) : ∀ p : StatePart, l.contains p = true ∨ p.same a c
  | .snaps => h.snaps
  | .lows => h.lows
  | .ident => h.ident
  | .nv => h.nv
  | .sys => h.sys
  | .cfg => h.cfg
  | .pos => h.pos
  | .fire => h.fire
  | .wins => h.wins
  | .noz => h.noz
  | .tileH => h.tileH
  | .lanes => h.lanes
  | .health => h.health
  | .comp => h.comp
  | .host => h.host
  | .dma => h.dma
  | .ring => h.ring
  | .ports => h.ports
  | .pwr => h.pwr
  | .mot => h.mot
  | .thm => h.thm
  | .flt => h.flt
  | .cal => h.cal
  | .pmc => h.pmc
  | .clk => h.clk
  | .svc => h.svc
  | .form => h.form
  | .staging => h.staging

theorem Frame.same_of_notMem (h : Frame (.parts l strobe) a c) {p : StatePart} (hp : p ∉ l) : p.same a c :=
  (h.contains_or_same p).resolve_left fun hlisted => hp (List.contains_iff_mem.1 hlisted)

/-- Settles O6: a command's frame is made of the parts that Instr.touched lists, so any other part is the same. -/
theorem otherPartsUnchanged : Obligations.OtherPartsUnchanged :=
  fun _ _ _ _ hexec hp => (Frame.of_exec hexec).same_of_notMem hp

end Sys2Proof.Machine
end
